-- ==== Sys2Proof/Word.lean ====
section
/-! DEFINITION. Word.lean: the byte, the words the manual treats as bits, and their plainest arithmetic. -/

namespace Sys2Proof

/-- One byte of a message, an image or a memory. -/
abbrev Byte := BitVec 8

/-- A 32-bit word (hashes, check words). -/
abbrev Word32 := BitVec 32

/-- A byte string. -/
abbrev Bytes := List Byte

end Sys2Proof
end

