-- ==== Sys2Proof/Syntax.lean ====
section
/-! DEFINITION. Syntax.lean: the commands of the block, one constructor per row of spec/opcode_table.json, and the records that their operands are. -/

namespace Sys2Proof

/-! What a ledger image plans in the sections whose byte layout the manual leaves to the compiler (0001h-0007h, 0009h, 000Bh; R35): the
operand of LEDGER_CHECK gives it as these records (log entry 10). -/

/-- An endpoint that the image plans: domain, format code, alignment (0 none, 1 line, 2 frame-1, 3 frame-2), depth, lanes (first link first), transport
(numbered as 6201h.02), initial source, audio channels, buffer address, read schedule, and the first quarter-slot of an internal endpoint (R190). -/
structure PlanEndpoint where
  ep : Nat
  dom : Nat
  fmt : Nat
  align : Nat := 0
  depth : Nat := 0
  lanes : List Nat := []
  transport : Nat := 0
  source : Option Nat := none
  audioBase : Nat := 0
  audioCount : Nat := 0
  buffer : Nat := 0
  schedule : Nat := 0
  slot : Nat := 0
deriving DecidableEq, Repr

/-- A route permission of section 0009h: a frame-sync buffer or a converter that joins sources of a domain and format to a destination. -/
structure PlanPermission where
  dst : Nat
  converter : Bool
  dom : Nat
  fmt : Nat
  depth : Nat := 1
deriving DecidableEq, Repr

/-- Use of a resource in one cycle of a domain, as one table entry of sections 0001h-0006h gives it (R38, R39): of a stack that of one of its pseudo-channels (R35), of a
mint or XS engine that of one of the channels which it serves. -/
structure PlanUse where
  res : Nat
  dom : Nat
  cycle : Nat
  use : Nat
  unit : Nat := 0
deriving DecidableEq, Repr

/-- A share of an engine in a domain's engine assignment list, in sixteenths (R29): 0-7 for P0-P7, resource codes of R38 for mints, XS engines and compositors, 0200h + i for scaler i. -/
structure PlanShare where
  dom : Nat
  engine : Nat
  share : Nat
deriving DecidableEq, Repr

/-- A capacity that the device's own rules give a resource for which the manual states no formula (log entry 10). -/
structure PlanCap where
  res : Nat
  dom : Nat
  full : Nat
  last : Nat
deriving DecidableEq, Repr

/-- Audio channels of the crosspoint: first channel, count, rate (1 48k, 2 96k), whether the source carries non-PCM data, source or destination. -/
structure PlanAudio where
  first : Nat
  count : Nat
  rate : Nat
  nonpcm : Bool := false
  dest : Bool := false
deriving DecidableEq, Repr

/-- An output flow row (R167, R175): row, domain, kind (numbered as 3700h.02), endpoint or stream, lanes, sender type, packet layout, whether it is paced, TRO
in ns, packets per frame, class and queue, the release instants in ns from the frame tick where R176 gives no formula (of an encoded stream those of its
FEC packets, from the slot's start), the cadence cycles of samples in an audio packet, and the places of the row FEC packets among an encoded stream's FEC packets (R292). -/
structure PlanOutRow where
  row : Nat
  dom : Nat
  kind : Nat
  ep : Nat
  laneP : Nat
  laneS : Nat := 65535
  sender : Nat := 3
  layout : Nat := 0
  paced : Bool := true
  tro : Nat := 0
  packets : Nat := 0
  cls : Nat := 7
  queue : Nat := 0
  instants : List Nat := []
  cycles : Nat := 1
  fecRows : List Nat := []
deriving DecidableEq, Repr

/-- A queue of a class of a port with its byte limit and its source row (R178). -/
structure PlanQueue where
  lane : Nat
  cls : Nat
  queue : Nat
  limit : Nat
  source : Nat := 65535
deriving DecidableEq, Repr

/-- A shaped class of a port: rate in kbit/s and burst ceiling in bytes (R180). -/
structure PlanClass where
  lane : Nat
  cls : Nat
  rate : Nat
  ceiling : Nat
deriving DecidableEq, Repr

/-- A mint channel (R245-R249, R252, R274, R277, R283, R285, R292): channel, domain, format, codec (1 VVC, 2 HEVC), chroma (0 4:2:0, 1 4:2:2), tier (0 Main, 1 High), delay
mode (0 tight, 1 standard, 2 look-ahead), first mint, rate control (0 cbr, 1 capped-vbr), refresh (0 gdr, 1 idr, 2 none) with its period, FEC mode (0 none, 1 column,
2 column-row) with L and D, datagrams per slot, ancillary packets, audio streams with their channels, the clocks that its engine slices hold in a picture period, and the colorimetry and transfer characteristics of what it reads (0 BT.709, 1 BT.2020, 2 BT.2100 with PQ, 3 with HLG;
R248, log entry 162). -/
structure PlanMint where
  ch : Nat
  dom : Nat
  fmt : Nat
  codec : Nat := 1
  chroma : Nat := 1
  tier : Nat := 0
  mode : Nat := 1
  first : Nat
  rc : Nat := 0
  refresh : Nat := 2
  period : Nat := 0
  fec : Nat := 0
  fecL : Nat := 0
  fecD : Nat := 0
  datagrams : Nat
  anc : Nat := 0
  streams : Nat := 0
  chPer : Nat := 2
  slices : Nat
  colour : Nat := 0
deriving DecidableEq, Repr

/-- An XS channel (R265-R269): index, direction (1 encode, 2 decode), domain, format, profile, level and sublevel by name, bits per pixel in hundredths, alignment (numbered as
5011h.0C) and its depth. -/
structure PlanXs where
  ch : Nat
  dir : Nat
  dom : Nat
  fmt : Nat
  profile : Nat := 1
  level : Bytes := []
  sublevel : Bytes := []
  bpp : Nat := 0
  align : Nat := 0
  depth : Nat := 0
deriving DecidableEq, Repr

/-- A layer of a compositor (R298, R315): kind (1 fabric, 2 surface), scalers assigned and the first of them. -/
structure PlanLayer where
  kind : Nat
  scalers : Nat := 0
  scaler : Nat := 255
deriving DecidableEq, Repr

/-- A compositor (R297-R301, R313, R314, R326): number, domain, output format, layers, whether the top layer is sealed, whether it leads a gang with the next one, the destination
whose converter it is, SURF_BAND_BUDGET, whether its group has a plate, the colorimetry of its output, and the tally channels of its sealed layer. -/
structure PlanComp where
  c : Nat
  dom : Nat
  fmt : Nat
  layers : List PlanLayer
  sealed : Bool := false
  gang : Bool := false
  converter : Option Nat := none
  budget : Nat := 0
  plate : Bool := false
  colour : Nat := 0
  tally : List Nat := []
deriving DecidableEq, Repr

/-- A tile of a head: number, refresh divisor and phase (R346). -/
structure PlanTile where
  t : Nat
  refresh : Nat := 1
  phase : Nat := 0
deriving DecidableEq, Repr

/-- A multiviewer head (R342, R343): number, domain, format, outputs, tiles, and bank scalers assigned to it. -/
structure PlanHead where
  v : Nat
  dom : Nat
  fmt : Nat
  outs : List Nat
  tiles : List PlanTile
  scalers : List Nat := []
deriving DecidableEq, Repr

/-- A certificate entry (R38). -/
structure CertEntry where
  res : Nat
  dom : Nat
  capFull : Nat
  capShort : Nat
  maxFull : Nat
  maxShort : Nat
  worst : Nat
  margin : Nat
deriving DecidableEq, Repr

/-- A certificate as numbers: entries, frame-fit entries, overall worst margin (R38). -/
structure Certificate where
  entries : List CertEntry
  fit : List (Nat × Nat × Nat)
  worst : Nat
deriving DecidableEq, Repr

/-- The bridge work of a transition table (R51): the predecessor image, the rate code and the HBM share of each domain under it, its engine shares, the uses of the bridge frame with those
of the outgoing plan, the latest completions, and the table's own certificate. -/
structure PlanBridge where
  image : Nat
  rates : List (Nat × Nat)
  shares : List PlanShare := []
  caps : List PlanCap := []
  uses : List PlanUse := []
  completion : List (Nat × Nat) := []
  certificate : Certificate
deriving DecidableEq, Repr

/-- Everything that an image plans outside the sections whose bytes the manual lays out. -/
structure Plan where
  endpoints : List PlanEndpoint := []
  permissions : List PlanPermission := []
  uses : List PlanUse := []
  shares : List PlanShare := []
  caps : List PlanCap := []
  completion : List (Nat × Nat) := []
  power : List Nat := []
  predecessors : List Nat := []
  bridges : List PlanBridge := []
  laneModes : List (Nat × Nat) := []
  audio : List PlanAudio := []
  outRows : List PlanOutRow := []
  queues : List PlanQueue := []
  classes : List PlanClass := []
  mints : List PlanMint := []
  xs : List PlanXs := []
  comps : List PlanComp := []
  pools : List (Nat × Nat) := []
  heads : List PlanHead := []
deriving DecidableEq, Repr

/-- A planned item that cannot complete in its planned place (R58): kind 1-11, the unit or row it belongs to, and the subsystem of an internal source
for kind 1. -/
structure Miss where
  kind : Nat
  unit : Nat
  line : Nat := 0
  subsys : Nat := 0
deriving DecidableEq, Repr

/-! Messages of PTP (R96-R98). -/

/-- An Announce message: domain, leader identity, the data that the best master clock algorithm compares (as one number, lower is better: IEEE 1588), and
currentUtcOffset. -/
structure AnnounceMsg where
  domain : Nat
  leader : Nat
  rank : Nat
  utcOffset : Int
  utcValid : Bool
deriving DecidableEq, Repr

/-- A Sync message as received on a lane: PTP domain, leader, sequence, two-step flag, origin time in ns. -/
structure SyncMsg where
  domain : Nat
  leader : Nat
  seq : Nat
  twoStep : Bool
  origin : Int
deriving DecidableEq, Repr

/-- An ancillary data packet: line, DID, SDID, user data words, whether its checksum is right, whether it stands in horizontal ancillary space (R163, R207, R339); frames by
which a repeated time code packet has advanced (R439). -/
structure AncPkt where
  line : Nat
  did : Nat
  sdid : Nat
  words : Nat
  sumOk : Bool := true
  horiz : Bool := false
  tc : Nat := 0
deriving DecidableEq, Repr

/-- An SDI line as received on a lane, after NRZI decoding and descrambling: for each of its data streams the place of its EAV in words modulo the line length (none when there is
none), whether the CRC of one of its streams does not match, its line number, the ST 352 identifier that stands on it with the format code it names, the skew between the links of its input in ns, and the audio samples
that it carries (one entry per 48 kHz sample, each the values of the channels). -/
structure SdiLine where
  eavs : List (Option Nat)
  crcBad : Bool := false
  line : Nat
  pid : Option (Nat × Nat) := none
  skew : Nat := 0
  samples : List (List Int) := []
  anc : List AncPkt := []
deriving DecidableEq, Repr


/-! Frames received on an Ethernet lane (R140). -/

/-- A piece of active picture in a packet: row of the picture (of the field) counted from 0, second field, first pixel, bytes. -/
structure PktSeg where
  row : Nat
  second : Bool := false
  pixel : Nat
  bytes : Nat
deriving DecidableEq, Repr

/-- An RTP packet of a media flow: payload type, SSRC, sequence number (the extended one where the kind has it), timestamp, marker, payload bytes, the picture
data it holds, whether the format fields of its header are those of the planned format and its codestream keeps its syntax, the lines of
its precincts (its segments are then the rows it completes), the profile, level and sublevel that a codestream states, its audio samples (one entry per
sample instant, each the values of the channels), and of ST 2110-31 whether the AES3 channel status marks each channel non-audio (R214; empty: nothing learned). -/
structure RtpPacket where
  pt : Nat
  ssrc : Nat
  seq : Nat
  ts : Nat
  marker : Bool := false
  bytes : Nat := 0
  segs : List PktSeg := []
  fmtOk : Bool := true
  syntaxOk : Bool := true
  precinct : Nat := 2
  xs : Option (Nat × Bytes × Bytes) := none
  samples : List (List Int) := []
  anc : List AncPkt := []
  nonpcm : List Bool := []
deriving DecidableEq, Repr

/-- What a shaped frame carries, as far as counters tell: payload bytes, and of a packet of an output row whether it is the last of its frame (R170, R179). -/
structure TxPayload where
  bytes : Nat
  marker : Bool := false
deriving DecidableEq, Repr

/-- What a received Ethernet frame carries, as far as R140-R142 tell frames apart. Addresses are 16 bytes, IPv4 as ::ffff:a.b.c.d. -/
inductive EthPayload where
  /-- An ARP request or a neighbour solicitation for an address. -/
  | resolve (target : Bytes)
  /-- An ICMP or ICMPv6 echo request to an address. -/
  | echo (dst : Bytes)
  /-- An IGMP (`v4`) or MLD query: general (no group), group-specific, or for some sources of a group (R160). -/
  | query (v4 : Bool) (group : Option Bytes) (sources : List Bytes)
  /-- Any other ARP, ICMP, ICMPv6, IGMP or MLD. -/
  | control
  /-- IP whose version, header length or header checksum is wrong, or a fragment. -/
  | badIp
  /-- A PTP message in UDP to port 319 or 320: addresses, port, PTP domain, messageType, sequenceId. -/
  | ptp (dst src : Bytes) (udp domain msgType seq : Nat)
  /-- UDP that carries RTP. -/
  | rtp (dst src : Bytes) (udp : Nat) (p : RtpPacket)
  /-- Anything else. -/
  | other
deriving DecidableEq, Repr

/-- A received Ethernet frame: check sequence right, length in bytes, VLAN tag, destination MAC. -/
structure EthFrame where
  fcsOk : Bool := true
  len : Nat := 64
  tag : Option Nat := none
  mac : Bytes
  payload : EthPayload
deriving DecidableEq, Repr

/-! Coded pictures (R256-R261, R277-R279). -/

/-- What the content of a CTU costs: clocks at each tier, bits of the candidate chosen and of the smallest candidate, bits and clocks of its floor coding, clocks that a
miss at it costs; whether its prediction touches a poisoned word (R369). -/
structure Ctu where
  clocks : List Nat := []
  bits : Nat := 0
  least : Nat := 0
  floorBits : Nat := 0
  floorClocks : Nat := 0
  missClocks : Nat := 0
  poisoned : Bool := false
deriving DecidableEq, Repr

/-- What the content of a picture costs: the CTUs of each rectangle, the bytes of the non-VCL NAL units, the complexity of the picture and of the next two. -/
structure AuContent where
  rects : List (List Ctu) := []
  nonVcl : Nat := 0
  complexity : Nat × Nat × Nat := (1, 1, 1)
deriving DecidableEq, Repr

/-! What the pictures of a frame hold, as far as the commands of a frame tick need it. -/

/-- What was measured over a frame that ends: the active samples, Cb, Y, Cr, Y, of the pictures of monitored rows that changed (R348: a row that is not listed shows the picture
measured before); CRCs of the region of a sealed layer in the composed output, for the compositors whose output differs from what is expected (R327);
whether the firmware has hung, so that the lease is not renewed at the tick (R436); items of the frame that had not started when its tick came early (R26). -/
structure FrameContent where
  pictures : List (Nat × List Nat) := []
  seals : List (Nat × Nat) := []
  hung : Bool := false
  missed : List Miss := []
deriving DecidableEq, Repr

/-! Memory (R355-R369). -/

/-- A word of memory that a reader meets with a fault: its address, the bits of its stored data and check bits that have flipped since it was last met, whether the access itself
goes to a wrong place, and whose it is within its owner class: the line of its frame, 0 for the ancillary area (class 1), the surface in the group, or 2048 + 8 i + l for the store of
layer l of the group's i-th compositor, or 2080 + i for its plate (class 3), the channel
(class 6), the sequence number of the record (class 8). -/
structure WordTouch where
  addr : Nat
  data : Nat := 0
  check : Nat := 0
  misplaced : Bool := false
  item : Nat := 0
deriving DecidableEq, Repr

/-! The protection pair (R429-R435). -/

/-- A write that the active module passes to the standby (R435): sequence number, TD0 FCNT and cadence cycle of acceptance, port, object, row and value bytes, the domain and
FCNT of the frame to which it applies, in the receiver's count, and the roles and the partition with which it was accepted, which a task created by it keeps (R232). -/
structure MirrorEntry where
  seq : Nat
  fcnt : Nat
  cycle : Nat
  port : Nat
  obj : Nat
  row : Nat
  value : Bytes
  frame : Option (Nat × Nat) := none
  roles : Nat := 31
  part : Option Nat := none
deriving DecidableEq, Repr

/-- What a received frame of channel 1 or 2 brings, whose bytes the manual does not lay out: entries of the journal or writes sent ahead of it, the contents of a ledger bank, the
pixels of a surface, the end of a resynchronisation. -/
inductive IvardItem where
  | write (e : MirrorEntry)
  | bank (b : Nat) (raw : Bytes)
  | surface (row : Nat) (pixels : Bytes)
  | synced
deriving DecidableEq, Repr

/-- What arrives on the Ivard link (R429): a frame with bytes 1-7 of its START, its data bytes, bytes 1-7 of its END and what it brings; or a block outside any frame, or of another
type. -/
inductive IvardRx where
  | frame (start data fin : Bytes) (items : List IvardItem)
  | stray
deriving DecidableEq, Repr

/-- What a start-up stage finds out (R360, R395, R452, R454, R478, R487): whether the RSVD lands are free; whether the flash could be used, or the firmware started; key slots whose two copies fail; domains that failed their test; the results of the SRAM
test and of the HBM repairs, decoder and sample tests (numbered as 1402h[i].02) with the failing memory; HBM rows sampled, a word of every row repaired, and the durations of items
3-7 of 1402h in ms. -/
structure StageReport where
  rsvdFree : Bool := true
  ok : Bool := true
  keys : List Nat := []
  domains : List Nat := []
  sram : Nat := 1
  hbm : List Nat := [1, 1, 1]
  unit : Nat := 0
  sampled : Nat := 589824
  repaired : List Nat := []
  ms : List Nat := []
deriving DecidableEq, Repr

/-- The commands of the block: one constructor per row of the command table. The first operand `t` is the instant of the command in ns on
the monotonic count of OSC_IN since the always-on domain came up. -/
inductive Instr where
  /-- HELLO (R388). A HELLO message arrives on a control port and the device answers with a CHALLENGE carrying a fresh nonce bound to the sender. -/
  | hello (t : Nat) (port : Nat) (addr : Nat) (udp : Nat) (d : Bytes)
  /-- LOGIN (R389). A LOGIN message is verified against its challenge and key slot, and the device opens a session or refuses it. -/
  | login (t : Nat) (port : Nat) (addr : Nat) (udp : Nat) (d : Bytes)
  /-- LOGOUT (R392). A LOGOUT request closes the port's open session. -/
  | logout (t : Nat) (port : Nat) (addr : Nat) (udp : Nat) (d : Bytes)
  /-- REQUEST (R382). A REQUEST message is authenticated, checked for sequence and executed operation by operation within one control cycle, and a RESPONSE is returned. -/
  | request (t : Nat) (port : Nat) (addr : Nat) (udp : Nat) (d : Bytes)
  /-- DESCRIBE (R386). A DESCRIBE operation returns the descriptor of an object: type, access, level, flags, limits, name and enumeration names. -/
  | describe (t : Nat) (port : Nat) (obj : Nat) (row : Nat)
  /-- OBJECT_WRITE (R387). A WRITE operation to an object without a row of its own is checked in the order of R387 and, when it passes, stores the value. -/
  | objectWrite (t : Nat) (port : Nat) (obj : Nat) (row : Nat) (value : Bytes)
  /-- PATH_LATENCY_QUERY (R23). A read of 1005h.03 or 1005h.04 evaluates the session's path latency query against the bank active at the read. -/
  | pathLatencyQuery (t : Nat) (port : Nat) (obj : Nat)
  /-- CHALLENGE_EXPIRY (R388). A pending challenge expires 10 s after it was issued. -/
  | challengeExpiry (t : Nat) (port : Nat)
  /-- SESSION_IDLE_TIMEOUT (R392). A session with no authenticated request for SESSION_IDLE_S ends. -/
  | sessionIdleTimeout (t : Nat) (port : Nat)
  /-- LOCKOUT_EXPIRY (R392). A port that was locked out returns to 'closed' after 60 s. -/
  | lockoutExpiry (t : Nat) (port : Nat)
  /-- ADDRESS_CHANGE_EFFECT (R378). A written control port address, prefix, gateway or UDP port takes effect 1 s after its response, ending the port's session. -/
  | addressChangeEffect (t : Nat) (port : Nat)
  /-- SESSION_END_CMD (R392). A SERVICE session on SVC ends a port's session, which first receives a session-ending EVENT. -/
  | sessionEndCmd (t : Nat) (port : Nat) (target : Nat)
  /-- KEY_WRAPPED (R397). A wrapped key written to a key slot is unwrapped and checked, then stored, ending every session of that slot. -/
  | keyWrapped (t : Nat) (port : Nat) (slot : Nat) (wrapped : Bytes)
  /-- KEY_ERASE (R397). A key slot is erased unless no valid slot holding EXPERT would remain. -/
  | keyErase (t : Nat) (port : Nat) (slot : Nat)
  /-- KEY_ROLES_WRITE (R397). A write of a slot's roles or ports is checked against the writer's roles and the last-EXPERT rule and ends the slot's sessions. -/
  | keyRolesWrite (t : Nat) (port : Nat) (slot : Nat) (ports : Bool) (v : Nat)
  /-- PARTITION_APPLY (R401). PARTITION_CMD 'apply' checks the staged partition map and puts it and DEVICE_OWNER in force at the end of the control cycle. -/
  | partitionApply (t : Nat) (port : Nat)
  /-- PARTITION_DISCARD (R401). PARTITION_CMD 'discard' copies the map in force back into the staged map. -/
  | partitionDiscard (t : Nat) (port : Nat)
  /-- CONFIG_SAVE (R405). CONFIG_CMD 'save' snapshots the running configuration and starts writing it to the target slot with the next generation. -/
  | configSave (t : Nat) (port : Nat)
  /-- CONFIG_SAVE_COMPLETE (R405). The save's write and verify finish, setting CONFIG_SLOT or recording 0905h. -/
  | configSaveComplete (t : Nat) (ok : Bool)
  /-- CONFIG_REVERT (R406). CONFIG_CMD 'revert' chooses a slot under R404 and applies its records to the running configuration. -/
  | configRevert (t : Nat) (port : Nat)
  /-- CONFIG_FACTORY (R406). CONFIG_CMD 'factory' sets the running configuration to factory defaults without writing flash. -/
  | configFactory (t : Nat) (port : Nat)
  /-- CONFIG_IMPORT (R406). CONFIG_CMD 'import' checks a transferred slot image and writes it as the save target. -/
  | configImport (t : Nat) (port : Nat)
  /-- CONFIG_IMPORT_COMPLETE (R406). The write of an imported slot image to flash finishes. -/
  | configImportComplete (t : Nat) (ok : Bool)
  /-- CFG_XFER_OPEN (R406). CFG_XFER_CMD 'open' starts a configuration image transfer. -/
  | cfgXferOpen (t : Nat) (port : Nat)
  /-- CFG_XFER_DISCARD (R406). CFG_XFER_CMD 'discard' drops a configuration image transfer. -/
  | cfgXferDiscard (t : Nat) (port : Nat)
  /-- CFG_XFER_DATA (R406). A block of configuration image bytes is written at CFG_XFER_OFFSET, which advances. -/
  | cfgXferData (t : Nat) (port : Nat) (data : Bytes)
  /-- LOAD_OPEN (R43). LOAD_CMD 'open' puts the load target bank in 'loading' and sets XFER_OFFSET to 0. -/
  | loadOpen (t : Nat) (port : Nat)
  /-- LOAD_CLOSE (R42). LOAD_CMD 'close' ends the transfer of the loading bank and starts its check. -/
  | loadClose (t : Nat) (port : Nat)
  /-- LOAD_FROM_FLASH (R43). LOAD_CMD 'from flash' starts reading the FLASH_IMAGE slot into the load target bank. -/
  | loadFromFlash (t : Nat) (port : Nat)
  /-- LOAD_DISCARD (R43). LOAD_CMD 'discard' empties the loading bank, ending a flash read, or the load target. -/
  | loadDiscard (t : Nat) (port : Nat)
  /-- XFER_DATA (R62). A block of ledger image bytes is written at XFER_OFFSET, which advances, unless it would pass the largest image and signature. -/
  | xferData (t : Nat) (port : Nat) (data : Bytes)
  /-- FLASH_READ_COMPLETE (R42). A ledger load from flash finishes reading and the bank moves to 'checking'. -/
  | flashReadComplete (t : Nat) (image : Bytes)
  /-- LEDGER_CHECK (R39). The checking of a bank's image in the order of R39 finishes and the bank becomes 'ready' or 'rejected' with CHECK_RESULT. -/
  | ledgerCheck (t : Nat) (plan : Plan)
  /-- SWAP_ARM (R46). SWAP_CMD 'arm' computes the swap kind, anchor and changeover order, powers incoming domains and arms the bank or refuses. -/
  | swapArm (t : Nat) (port : Nat)
  /-- SWAP_DISARM (R49). SWAP_CMD 'disarm' returns the armed bank to 'ready' and switches off domains the arm switched on, before the first changeover tick. -/
  | swapDisarm (t : Nat) (port : Nat)
  /-- DOMAIN_CHANGEOVER (R47). A timing domain changes over to the incoming bank on its changeover tick, updating bank states and applying compatible or dark swap behaviour. -/
  | domainChangeover (t : Nat) (td : Nat)
  /-- FRAME_TICK (R83). A timing domain's tick generator produces a frame tick, advancing FCNT and restarting its ledger cycle sequence. -/
  | frameTick (t : Nat) (td : Nat) (content : FrameContent)
  /-- LEDGER_CYCLE_START (R19). A ledger cycle of a timing domain starts and its planned moves, bursts and slices are served. -/
  | ledgerCycleStart (t : Nat) (td : Nat) (misses : List Miss) (touched : List WordTouch)
  /-- AUDIO_CADENCE_CYCLE (R85). A 125 µs audio crosspoint cadence cycle begins, which is also the control cycle boundary. -/
  | audioCadenceCycle (t : Nat) (misses : List Miss) (touched : List WordTouch)
  /-- TIME_GRID_INSTANT (R233). A time-grid instant of the time clock begins a time-grid teller round. -/
  | timeGridInstant (t : Nat)
  /-- LINE_PERIOD_START (R192). A destination's scheduled read of a line period begins. -/
  | linePeriodStart (t : Nat) (row : Nat) (line : Nat) (touched : List WordTouch)
  /-- REF_UPDATE (R76). The once-per-second reference update recomputes offsets, checks limits, arbitrates, ends waits, re-evaluates ensemble mode and runs selection. -/
  | refUpdate (t : Nat) (offsets : List (Nat × Int))
  /-- REF_LOSS_OF_SIGNAL (R72). A candidate loses its signal, which acts at once and reruns selection for domains using it within 1 ms. -/
  | refLossOfSignal (t : Nat) (cand : Nat)
  /-- REF_SIGNAL_PRESENT (R70). Signal appears on an absent candidate, which moves to 'measuring'. -/
  | refSignalPresent (t : Nat) (cand : Nat) (rate : Nat)
  /-- CAND_ENABLE (R70). A write of CAND_ENABLE enables a candidate or disables it, leaving a selected one as on loss. -/
  | candEnable (t : Nat) (port : Nat) (cand : Nat) (on : Bool)
  /-- WTR_CLEAR (R70). A write of WTR_CLEAR ends the wait to restore of a candidate within limits. -/
  | wtrClear (t : Nat) (port : Nat) (cand : Nat)
  /-- PHASE_COMPARISON (R79). The DPLL compares its output phase with the selected reference's frame phase. -/
  | phaseComparison (t : Nat) (td : Nat) (phase : Int) (freq : Int)
  /-- DPLL_LOCK (R77). After 2 s within ±100 ns and 10 ppb the acquiring DPLL becomes 'locked' and steps to TRACK_BW. -/
  | dpllLock (t : Nat) (td : Nat)
  /-- REALIGN_SLEW (R88). REALIGN_CMD 'slew' starts moving the domain's tick towards zero offset at REALIGN_SLEW. -/
  | realignSlew (t : Nat) (port : Nat) (td : Nat)
  /-- REALIGN_JUMP (R89). REALIGN_CMD 'jump' schedules the next frame to be lengthened so the following tick lands on an alignment point. -/
  | realignJump (t : Nat) (port : Nat) (td : Nat)
  /-- REALIGN_STOP (R90). REALIGN_CMD 'stop' ends a slew at the current phase. -/
  | realignStop (t : Nat) (port : Nat) (td : Nat)
  /-- OSC_IN_LOSS (R65). OSC_IN is lost, raising OSC_IN_LOSS, or is absent at start-up keeping the device safe. -/
  | oscInLoss (t : Nat)
  /-- OSC_IN_RESTORED (R458). OSC_IN present for 1 s lets stage 0 resume after a safe state with reason 'osc-in'. -/
  | oscInRestored (t : Nat)
  /-- PTP_ANNOUNCE (R97). An Announce message is received and fed to the best master clock algorithm on its port. -/
  | ptpAnnounce (t : Nat) (p : Nat) (msg : AnnounceMsg)
  /-- PTP_SYNC (R98). A Sync message is received and stamped. -/
  | ptpSync (t : Nat) (lane : Nat) (msg : SyncMsg)
  /-- PTP_FOLLOW_UP (R96). A Follow_Up message of a two-step leader is received. -/
  | ptpFollowUp (t : Nat) (p : Nat) (seq : Nat) (leader : Nat) (origin : Int)
  /-- PTP_DELAY_RESP (R98). A Delay_Resp completes an exchange, giving the offset that drives the clock state and servo. -/
  | ptpDelayResp (t : Nat) (p : Nat) (seq : Nat) (leader : Nat) (rx : Int)
  /-- DELAY_REQ_SEND (R96). At each delay request interval the port sends a Delay_Req. -/
  | delayReqSend (t : Nat) (p : Nat)
  /-- ANNOUNCE_TIMEOUT (R98). No Announce from the current leader for ANNOUNCE_TIMEOUT intervals moves the clock to 'free-run' or another leader. -/
  | announceTimeout (t : Nat) (p : Nat)
  /-- INCREMENT (R94). A host write of INCREMENT sets the clock's per-advance increment from the next advance. -/
  | increment (t : Nat) (port : Nat) (v : Int)
  /-- TIME_ADJUST_NS (R95). A host step adds a signed number of nanoseconds to the time clock. -/
  | timeAdjustNs (t : Nat) (port : Nat) (v : Int)
  /-- TIME_SECONDS (R95). A read of TIME_SECONDS latches TIME_NS and TIME_FRAC from the same advance. -/
  | timeSeconds (t : Nat) (port : Nat)
  /-- PTQ_POP (R106). A read of PTQ_POP removes and returns the oldest entry of queue 2 or 3. -/
  | ptqPop (t : Nat) (port : Nat) (queue : Nat)
  /-- MATCH_RESULT (R106). A read of MATCH_RESULT removes and returns the oldest entry matching lane and sequence. -/
  | matchResult (t : Nat) (port : Nat)
  /-- LANE_MODE (R116). A write of LANE_MODE is checked against armed and active banks and PTP ports and is pending until the next cadence boundary. -/
  | laneMode (t : Nat) (port : Nat) (lane : Nat) (mode : Int)
  /-- DIRECTION (R117). A write of DIRECTION is pending until the next cadence boundary. -/
  | direction (t : Nat) (port : Nat) (lane : Nat) (dir : Int)
  /-- TEST_MODE (R133). A write of TEST_MODE starts or ends a test pattern or loopback, unless a bank plans the lane. -/
  | testMode (t : Nat) (port : Nat) (lane : Nat) (v : Int)
  /-- TX_FFE_SOURCE (R119). A write of TX_FFE_SOURCE selects preset, manual or trained taps, refusing manual taps that break the limits. -/
  | txFfeSource (t : Nat) (port : Nat) (lane : Nat) (v : Int)
  /-- LANE_SIGNAL_DETECT (R131). Signal is detected at a lane receiver. -/
  | laneSignalDetect (t : Nat) (lane : Nat)
  /-- LANE_SIGNAL_LOSS (R131). No transition for 1 µs or amplitude below threshold returns the lane to 'acquiring'. -/
  | laneSignalLoss (t : Nat) (lane : Nat)
  /-- CDR_LOCK (R124). The receiver's CDR locks in frequency and phase and adaptation proceeds. -/
  | cdrLock (t : Nat) (lane : Nat) (ppb : Int) (div : Bool)
  /-- SDI_RATE_DWELL (R125). The 2 ms dwell of 'sdi-auto' ends without lock and the hunt moves to the next SDI rate. -/
  | sdiRateDwell (t : Nat) (lane : Nat)
  /-- LINK_TRAINING_TIMEOUT (R113). A partner that does not train makes the lane fall back to its preset and count the event. -/
  | linkTrainingTimeout (t : Nat) (lane : Nat)
  /-- ADAPTATION_COMPLETE (R122). Acquisition adaptation ends, moving the lane to 'aligning' or waiting 10 ms to retry. -/
  | adaptationComplete (t : Nat) (lane : Nat) (qs : List Nat) (q : Nat) (dfe : Bytes) (taps : Option (List Int))
  /-- ADAPTATION_RETRY (R122). The 10 ms wait after a failed adaptation ends and adaptation begins again. -/
  | adaptationRetry (t : Nat) (lane : Nat)
  /-- EYE_Q_WINDOW (R121). A 10 ms monitoring window completes and EYE_Q is updated. -/
  | eyeQWindow (t : Nat) (lane : Nat) (v : Nat) (h : Nat)
  /-- CTLE_TRIAL (R123). Every 100 ms the monitoring path trials neighbouring CTLE codes and moves the data path one code when better. -/
  | ctleTrial (t : Nat) (lane : Nat) (here : Nat) (up : Nat) (down : Nat)
  /-- ADAPT_RESET (R123). EYE_Q below ADAPT_RESET_Q for 1 s returns the lane to 'acquiring' and raises LANE_ADAPT_RESET. -/
  | adaptReset (t : Nat) (lane : Nat)
  /-- LANE_BLOCK_RX (R126). A 66-bit block with its sync header is received and counted towards block lock. -/
  | laneBlockRx (t : Nat) (lane : Nat) (hdr : Nat)
  /-- FEC_CODEWORD_RX (R127). An RS codeword is decoded, corrected or marked uncorrectable, and counted. -/
  | fecCodewordRx (t : Nat) (lane : Nat) (corrected : Bool) (bad : Bool) (sync : Bool)
  /-- HI_BER_ENTER (R128). The high-BER rule holds, the lane enters 'hi-ber' and delivers Local Fault. -/
  | hiBerEnter (t : Nat) (lane : Nat)
  /-- HI_BER_CLEAR (R128). The high-BER rule clears and the lane returns to 'up'. -/
  | hiBerClear (t : Nat) (lane : Nat)
  /-- SDI_LINE_RX (R130). An SDI line is received, descrambled, checked for TRS and CRC, and handed to the SDI engine. -/
  | sdiLineRx (t : Nat) (lane : Nat) (line : SdiLine)
  /-- LOCK_TIMEOUT (R131). No lock within LOCK_TIMEOUT_MS returns the lane to 'acquiring' with adaptation from code 8. -/
  | lockTimeout (t : Nat) (lane : Nat)
  /-- PRBS_LOCK_GAINED (R134). 1,024 error-free bits lock the PRBS checker. -/
  | prbsLockGained (t : Nat) (lane : Nat)
  /-- PRBS_LOCK_LOST (R134). 64 errors within 1,024 bits lose checker lock and it resynchronises. -/
  | prbsLockLost (t : Nat) (lane : Nat) (bits : Nat) (errors : Nat)
  /-- LANE_FAULT_RX (R113). Local or Remote Fault received on an Ethernet lane stops its frames and blocks its egress port. -/
  | laneFaultRx (t : Nat) (lane : Nat) (on : Bool)
  /-- LANE_TX_FAULT (R137). Transmitter output-stage current outside its limits makes it 'idle' and raises LANE_TX_FAULT. -/
  | laneTxFault (t : Nat) (lane : Nat) (on : Bool)
  /-- ETH_FRAME_RX (R140). A frame received on an Ethernet lane is classified in order and dropped, passed to firmware, the clock or a flow. -/
  | ethFrameRx (t : Nat) (lane : Nat) (f : EthFrame)
  /-- FLOW_ENABLE (R144). A write of FLOW_ENABLE checks and enables a flow row as 'unclaimed' or disables it sending leaves. -/
  | flowEnable (t : Nat) (port : Nat) (row : Nat) (on : Bool)
  /-- JOIN_REPEAT (R160). The multicast join report of an activated row is repeated 1 s after the first. -/
  | joinRepeat (t : Nat) (row : Nat)
  /-- FLOW_LOSS_TIMEOUT (R148). No matched packet for LOSS_TIMEOUT_MS makes the row 'lost'. -/
  | flowLossTimeout (t : Nat) (row : Nat)
  /-- LEG_TIMEOUT (R156). No packet on a leg for LEG_TIMEOUT_MS makes the leg 'lost' and raises MT_LEG_LOSS. -/
  | legTimeout (t : Nat) (row : Nat) (second : Bool)
  /-- MERGE_DEADLINE (R155). A sequence position's merge deadline passes, counting a merged gap when no copy was written. -/
  | mergeDeadline (t : Nat) (row : Nat)
  /-- LOSS_HOLD_END (R161). After LOSS_HOLD_FRAMES of repeats of a lost or off-time source, readers take black. -/
  | lossHoldEnd (t : Nat) (slot : Nat)
  /-- PACED_RELEASE (R175). A paced packet's release instant comes and the packet is sent, or discarded on a blocked port. -/
  | pacedRelease (t : Nat) (row : Nat) (k : Nat) (ready : Bool) (stamp : Nat) (touched : List WordTouch)
  /-- TX_SELECT (R174). When the wire falls idle, at a gate change or release, the port chooses the next frame under priority, DRR, credit and guard band. -/
  | txSelect (t : Nat) (lane : Nat)
  /-- EGRESS_ENQUEUE (R179). A shaped frame arrives at its queue or is dropped when the queue limit would be exceeded. -/
  | egressEnqueue (t : Nat) (lane : Nat) (cls : Nat) (queue : Nat) (len : Nat) (payload : TxPayload) (seq : Nat) (stamp : Nat)
  /-- GATE_ENABLED (R182). A write of GATE_ENABLED FALSE opens all gates and discards running and pending lists at the next boundary. -/
  | gateEnabled (t : Nat) (port : Nat) (lane : Nat) (on : Bool)
  /-- GATE_APPLY (R183). CONFIG_CHANGE 'apply' checks the admin list and computes its change time, shifting a passed base. -/
  | gateApply (t : Nat) (port : Nat) (lane : Nat)
  /-- GATE_CANCEL (R183). CONFIG_CHANGE 'cancel' discards the pending gate list. -/
  | gateCancel (t : Nat) (port : Nat) (lane : Nat)
  /-- GATE_CHANGE_TIME (R183). The change time arrives and the pending list replaces the running one. -/
  | gateChangeTime (t : Nat) (lane : Nat)
  /-- GATE_ENTRY_CHANGE (R182). A gate control list entry's interval ends and the next entry's gate states take effect. -/
  | gateEntryChange (t : Nat) (lane : Nat)
  /-- ROUTE_TAKE (R199). ROUTE_CMD 'take' checks a one-entry salvo and stamps the route with its take instant. -/
  | routeTake (t : Nat) (port : Nat)
  /-- AUD_TAKE (R211). AUD_CMD 'take' checks an audio block route and schedules it at the next cadence boundary. -/
  | audTake (t : Nat) (port : Nat)
  /-- SALVO_LENGTH (R216). A write of SALVO_LENGTH loads or empties a salvo. -/
  | salvoLength (t : Nat) (port : Nat) (salvo : Nat) (v : Int)
  /-- SALVO_ENTRY (R216). A write of a salvo entry or anchor returns the salvo to 'loaded'. -/
  | salvoEntry (t : Nat) (port : Nat) (obj : Nat) (row : Nat) (v : Int)
  /-- SALVO_TAKE (R218). SALVO_CMD 'take' checks every entry and makes the salvo 'pending' or 'refused', creating an anchor task when anchored. -/
  | salvoTake (t : Nat) (port : Nat) (salvo : Nat)
  /-- SALVO_CLEAR (R216). SALVO_CMD 'clear' empties a salvo that is not pending. -/
  | salvoClear (t : Nat) (port : Nat) (salvo : Nat)
  /-- TASK_CREATE (R230). TASK_CMD 'create' checks a new teller task and takes a row, returning its handle, or refuses. -/
  | taskCreate (t : Nat) (port : Nat)
  /-- TASK_CANCEL (R240). TASK_CMD 'cancel' sets CANCEL_REQUESTED on a waiting or ready task, applied at the next round. -/
  | taskCancel (t : Nat) (port : Nat)
  /-- TASK_DISPATCH (R235). A free worker takes the head ready task of its class and performs its action. -/
  | taskDispatch (t : Nat) (cls : Nat)
  /-- TASK_COMPLETE (R235). A worker completes its task, reporting OUTCOME, and the task ends 'done' or 'failed'. -/
  | taskComplete (t : Nat) (row : Nat)
  /-- ACCESS_UNIT_HANDOVER (R262). A mint channel hands over exactly one access unit per frame at its fixed delay. -/
  | accessUnitHandover (t : Nat) (ch : Nat) (au : AuContent) (touched : List WordTouch)
  /-- INPUT_OVERRIDE (R263). A write of INPUT_OVERRIDE makes the channel code black, freeze or its input from the next frame read. -/
  | inputOverride (t : Nat) (port ch : Nat) (v : Int)
  /-- RAP_REQUEST (R284). A write of RAP_REQUEST 'idr' makes the channel code an IDR picture at the next frame. -/
  | rapRequest (t : Nat) (port ch : Nat)
  /-- RC_PARAMETER_WRITE (R279). A write of BASE_QP, MIN_QP, MAX_QP or RC_TARGET_FILL is checked and takes effect at the next frame. -/
  | rcParameterWrite (t : Nat) (port obj ch : Nat) (v : Int)
  /-- COMMIT (R317). A write of COMMIT copies staged layer values into one commit checked against the resulting configuration. -/
  | commit (t : Nat) (port c mask : Nat)
  /-- COMMIT_DISCARD (R320). COMMIT_DISCARD drops every pending non-flattening commit of the compositor. -/
  | commitDiscard (t : Nat) (port c : Nat)
  /-- GROUP_COMMIT (R322). GROUP_COMMIT commits the staged values of several compositors with one commit instant, all or none. -/
  | groupCommit (t : Nat) (port mask : Nat)
  /-- PLATE_BUILD_START (R314). At the first tick after the plate builder is free it starts building a flattening commit's plate. -/
  | plateBuildStart (t : Nat) (group : Nat)
  /-- PLATE_BUILD_COMPLETE (R314). A plate build finishes and its flattening commit applies at the next latch instant. -/
  | plateBuildComplete (t : Nat) (group : Nat)
  /-- SURF_CREATE (R307). SURF_CMD 'create' allocates a surface handle in 'loading' or refuses. -/
  | surfCreate (t : Nat) (port surf : Nat)
  /-- SURF_OPEN (R307). SURF_CMD 'open' reopens a ready or rejected surface for loading. -/
  | surfOpen (t : Nat) (port surf : Nat)
  /-- SURF_CLOSE (R308). SURF_CMD 'close' starts the CRC check and TCS coding of the uploaded pixels. -/
  | surfClose (t : Nat) (port surf : Nat)
  /-- SURF_CHECK_DONE (R307). A surface check finishes and the surface becomes 'ready' or 'rejected'. -/
  | surfCheckDone (t : Nat) (surf : Nat) (units : List Nat)
  /-- SURF_RETIRE (R310). SURF_CMD 'retire' frees a surface, puts it in escrow or refuses while referenced next frame. -/
  | surfRetire (t : Nat) (port surf : Nat)
  /-- SURF_FORCE_RETIRE (R311). SURF_CMD 'force retire' frees a surface and blanks every layer naming it. -/
  | surfForceRetire (t : Nat) (port surf : Nat)
  /-- SURF_XFER_DATA (R308). A block of surface pixels is written at SURF_XFER_OFFSET, refused beyond the byte count or while in use. -/
  | surfXferData (t : Nat) (port surf : Nat) (data : Bytes)
  /-- SEAL_EXCUSED_LIMIT (R328). Consecutive 'excused' results reaching SEAL_LIMIT raise COMP_SEAL_MISMATCH. -/
  | sealExcusedLimit (t : Nat) (c : Nat)
  /-- SEAL_NOT_READY_LIMIT (R328). The sealed layer not ready for SEAL_LIMIT consecutive frames raises COMP_SEAL_NOT_READY. -/
  | sealNotReadyLimit (t : Nat) (c : Nat)
  /-- HEAD_COMMIT (R344). HEAD_COMMIT checks staged tile values whole and commits them for the head's next latch instant. -/
  | headCommit (t : Nat) (port head : Nat)
  /-- MON_FREEZE_LIMIT (R350). A freeze run reaching FREEZE_LIMIT_MS raises MON_FREEZE. -/
  | monFreezeLimit (t : Nat) (row : Nat)
  /-- MON_BLACK_LIMIT (R350). A black run reaching BLACK_LIMIT_MS raises MON_BLACK. -/
  | monBlackLimit (t : Nat) (row : Nat)
  /-- WRITEBACK (R358). A pending write-back or poison write is performed in unplanned grains. -/
  | writeback (t : Nat) (unit : Nat)
  /-- AUDITOR_WORD (R362). The auditor reads and corrects the next word in an unplanned grain, ending laps as it wraps. -/
  | auditorWord (t : Nat) (sram : Bool) (word : WordTouch) (critical : List (Nat × List (Option Nat)))
  /-- ROW_COPY_START (R364). A queued row retirement begins copying the row to its spare once the stack's previous copy ends. -/
  | rowCopyStart (t : Nat) (memory : Nat)
  /-- ROW_COPY_COMPLETE (R364). A retired row's copy completes and the spare row serves alone. -/
  | rowCopyComplete (t : Nat) (memory : Nat) (touched : List WordTouch)
  /-- INJECT_CMD (R361). INJECT_CMD 'inject' writes a word with chosen data and check-bit errors in unplanned grains. -/
  | injectCmd (t : Nat) (port : Nat)
  /-- AUDITOR_MODE (R363). A write of AUDITOR_MODE stops or restarts both walkers. -/
  | auditorMode (t : Nat) (port : Nat) (mode : Int)
  /-- GRANULE_RELOAD (R370). A poisoned ledger granule reload from flash completes and is checked against its CRC. -/
  | granuleReload (t : Nat) (bank granule : Nat) (data : Bytes)
  /-- TALLY_CLAIM (R371). A write of TALLY_CLAIM claims a free tally channel for the session or releases it. -/
  | tallyClaim (t : Nat) (port ch : Nat) (on : Bool)
  /-- FEED_DATA (R372). A write of FEED_DATA feeds bytes into the tally channel in units of FEED_WIDTH. -/
  | feedData (t : Nat) (port ch : Nat) (data : Bytes)
  /-- TALLY_RESET (R374). TALLY_CMD 'reset' loads the initial value and sets 'idle'. -/
  | tallyReset (t : Nat) (port ch : Nat)
  /-- TALLY_CLOSE (R374). TALLY_CMD 'close' folds, finalises the CRC into RESULT, reloads and advances FOLD_VALUE. -/
  | tallyClose (t : Nat) (port ch : Nat)
  /-- TALLY_RUN (R372). TALLY_CMD 'run' starts feeding a frame-store range owned by the session's partition. -/
  | tallyRun (t : Nat) (port ch : Nat)
  /-- TALLY_RUN_COMPLETE (R372). A tally 'run' finishes feeding its range. -/
  | tallyRunComplete (t : Nat) (ch : Nat) (stored : List (Nat × Byte))
  /-- ROOT_PROGRAM (R412). ROOT_CMD 'program' verifies a signed hash and programs a blank root slot active. -/
  | rootProgram (t : Nat) (port slot : Nat)
  /-- ROOT_REVOKE (R412). ROOT_CMD 'revoke' revokes an active root slot unless it is the last or verified the running firmware. -/
  | rootRevoke (t : Nat) (port slot : Nat)
  /-- FW_SLOT_OPEN (R416). FW_SLOT_CMD 'open' empties the non-running firmware slot for loading. -/
  | fwSlotOpen (t : Nat) (port slot : Nat)
  /-- FW_SLOT_CLOSE (R416). FW_SLOT_CMD 'close' starts the checks of R414 on the loaded firmware image. -/
  | fwSlotClose (t : Nat) (port slot : Nat)
  /-- FW_CHECK_DONE (R414). A firmware image check finishes and the slot reads 'valid' or 'invalid' with its result. -/
  | fwCheckDone (t : Nat) (slot : Nat)
  /-- FW_SLOT_ACTIVATE (R416). FW_SLOT_CMD 'activate' rewrites both boot records to prefer a valid slot at the next restart. -/
  | fwSlotActivate (t : Nat) (port slot : Nat)
  /-- FW_XFER_DATA (R416). A block of firmware bytes is written at FW_XFER_OFFSET. -/
  | fwXferData (t : Nat) (port slot : Nat) (data : Bytes)
  /-- ROLLBACK_COMMIT (R417). ROLLBACK_CMD 'commit' raises the anti-rollback counter to the running image's version and rechecks the other slot. -/
  | rollbackCommit (t : Nat) (port : Nat)
  /-- POLICY_SET (R418). A write of POLICY_SET sets one-way signature policy bits when the verification key is valid. -/
  | policySet (t : Nat) (port bits : Nat)
  /-- VKEY_INSTALL (R420). VKEY_CMD 'install' installs a ledger or configuration verification key, signed when policy requires. -/
  | vkeyInstall (t : Nat) (port purpose : Nat)
  /-- ATT_SIGN (R423). ATT_CMD 'sign' builds an attestation report and starts signing it with the next identity index. -/
  | attSign (t : Nat) (port : Nat)
  /-- ATT_SIGN_COMPLETE (R423). The attestation signature completes and ATT_STATE reads 'ready'. -/
  | attSignComplete (t : Nat) (port : Nat)
  /-- JOURNAL_WRITE_COMPLETE (R421). An identity journal record's write and verify completes, reserving a new block of 64 indices. -/
  | journalWriteComplete (t : Nat) (ok : Bool)
  /-- IVARD_FRAME_RX (R430). An Ivard frame is received, checked, acknowledged and delivered to its channel. -/
  | ivardFrameRx (t : Nat) (rx : IvardRx)
  /-- IVARD_TICK_RX (R431). A TICK block arrives and places the peer's tick for TWIN and the tick offsets. -/
  | ivardTickRx (t : Nat) (td fcnt peerTx : Nat)
  /-- IVARD_RESEND_TIMEOUT (R430). No ACK progress for 50 µs makes the sender resend every unacknowledged frame. -/
  | ivardResendTimeout (t : Nat) (channel : Nat)
  /-- LINK_RTT_MEASURE (R431). Once per second the link round trip is measured from heartbeat ECHO fields. -/
  | linkRttMeasure (t : Nat) (rtt : Nat)
  /-- HEARTBEAT_RX (R433). A valid heartbeat arrives on a path, keeping it up or raising PAIR_ID_CONFLICT. -/
  | heartbeatRx (t : Nat) (path : Nat) (d : Bytes) (crcOk : Bool)
  /-- HB_PATH_SILENT (R433). No valid heartbeat for HB_TIMEOUT_CYCLES makes a path silent and raises PAIR_PATH_LOSS. -/
  | hbPathSilent (t : Nat) (path : Nat)
  /-- PAIR_ENABLE (R434). A write of PAIR_ENABLE starts pairing at the next TD0 tick or returns the module to 'unpaired'. -/
  | pairEnable (t : Nat) (port : Nat) (on : Bool)
  /-- PEER_CUSTODY_IN (R434). A change of PEER_CUSTODY_IN is seen by the pair state machine. -/
  | peerCustodyIn (t : Nat) (high : Bool)
  /-- LISTEN_WAIT_END (R437). The listening wait ends and the module claims custody when the claim rule is met. -/
  | listenWaitEnd (t : Nat)
  /-- LEASE_LAPSE (R436). The lease lapses without renewal and the supervisor fences the module by dropping CUSTODY_OUT. -/
  | leaseLapse (t : Nat)
  /-- CUSTODY_TAKEOVER (R437). A module in 'gap' takes custody once lease and guard frames have passed with both paths silent. -/
  | custodyTakeover (t : Nat)
  /-- CUSTODY_RELEASE (R438). CUSTODY_CMD 'release' hands custody to a current standby at a chosen handover tick. -/
  | custodyRelease (t : Nat) (port : Nat)
  /-- CUSTODY_FORCE_RELEASE (R438). CUSTODY_CMD 'force release' hands over custody whatever the peer's state. -/
  | custodyForceRelease (t : Nat) (port : Nat)
  /-- HANDOVER_TICK (R438). At the handover tick the releasing module drops custody and the standby raises it with EPOCH + 1. -/
  | handoverTick (t : Nat)
  /-- AON_POWER_UP (R489). VIN rising through 33.0 V brings up the always-on domain. -/
  | aonPowerUp (t : Nat) (mv : Nat)
  /-- VIN_START (R443). VIN held above 42.0 V for 10 ms begins the start-up sequence. -/
  | vinStart (t : Nat) (mv : Nat)
  /-- VIN_WARNING (R445). VIN falling through 41.0 V asserts PWR_WARN_OUT and enters ride-through. -/
  | vinWarning (t : Nat) (mv : Nat)
  /-- VIN_CLEAR (R446). VIN above 42.0 V for 10 ms ends ride-through, runs postponed flash writes and logs PWR_DIP. -/
  | vinClear (t : Nat) (mv low : Nat)
  /-- VIN_RESET (R447). VIN falling through 37.5 V stops the device in order into the safe state. -/
  | vinReset (t : Nat) (mv : Nat)
  /-- VIN_OVERVOLTAGE (R447). VIN rising through 64.0 V stops the device in order with reason 'vin-high'. -/
  | vinOvervoltage (t : Nat) (mv : Nat)
  /-- VIN_HIGH (R443). VIN above 60.0 V raises PWR_VIN_HIGH, cleared below 59.5 V. -/
  | vinHigh (t : Nat) (mv : Nat)
  /-- AON_LOCKOUT (R443). VIN falling through 30.0 V stops AON and the module is unpowered. -/
  | aonLockout (t : Nat)
  /-- ORDERLY_STOP_COMPLETE (R457). The orderly stop's domains are off and DEVICE_STATE becomes 'safe'. -/
  | orderlyStopComplete (t : Nat)
  /-- DOMAIN_RAMP_DONE (R448). A switched power domain finishes ramping on. -/
  | domainRampDone (t : Nat) (pd : Nat)
  /-- DOMAIN_FAULT (R449). A domain converter reports a fault and the domain is switched off, set 'fault' or 'locked off'. -/
  | domainFault (t : Nat) (pd : Nat)
  /-- PD_RETRY (R449). PD_CMD 'retry' ramps a faulted domain again. -/
  | pdRetry (t : Nat) (port pd : Nat)
  /-- SAFE_ENTER (R458). SAFE_CMD 'enter' puts the device in the safe state with reason 'command'. -/
  | safeEnter (t : Nat) (port : Nat)
  /-- SAFE_LEAVE (R458). SAFE_CMD 'leave' runs stages 5–7 to leave a 'command' or 'ledger' safe state. -/
  | safeLeave (t : Nat) (port : Nat)
  /-- SAFE_RESTART (R458). SAFE_CMD 'restart' restarts the device from stage 0. -/
  | safeRestart (t : Nat) (port : Nat)
  /-- STARTUP_STAGE_COMPLETE (R452). A start-up stage completes and the next begins, or its failure ends the sequence. -/
  | startupStageComplete (t : Nat) (report : StageReport)
  /-- START_REF_WAIT_EXPIRY (R452). START_REF_WAIT_S passes in stage 6 and start-up proceeds. -/
  | startRefWaitExpiry (t : Nat)
  /-- START_LANE_WAIT_EXPIRY (R452). START_LANE_WAIT_MS passes in stage 7 and the first swap is armed. -/
  | startLaneWaitExpiry (t : Nat)
  /-- NRST_IN (R456). NRST_IN held low for 1 µs resets the module, which restarts from stage 0 on release. -/
  | nrstIn (t : Nat) (low : Bool)
  /-- WATCHDOG_TIMEOUT (R456). 500 ms without a firmware report resets the core pairs and enters the safe state. -/
  | watchdogTimeout (t : Nat)
  /-- RECOVERY_RESTART (R455). 1 s after an 'activate' in recovery the boot ROM restarts the device. -/
  | recoveryRestart (t : Nat)
  /-- CASE_TEMP_SAMPLE (R459). The case temperature is sampled every 10 ms, raising or clearing thermal alarms or stopping at 95 °C. -/
  | caseTempSample (t : Nat) (dc : Int)
  /-- ALARM_CLEAR_TIMER (R463). An alarm cleared after a quiet interval, such as 10 s without its cause, clears when that interval ends. -/
  | alarmClearTimer (t : Nat)
  /-- ALARM_ACK (R464). A write of LATCHED clears it on an inactive point or is refused while active. -/
  | alarmAck (t : Nat) (port pt : Nat)
  /-- ACK_ALL (R464). ACK_ALL clears LATCHED on every inactive point. -/
  | ackAll (t : Nat) (port : Nat)
  /-- COALESCE_WINDOW (R465). A point's coalescing window ends and one alarm EVENT carrying merged changes is sent to the session. -/
  | coalesceWindow (t : Nat) (port alarm : Nat)
  /-- RING_DATA (R469). A read of RING_DATA returns up to 16 records from RING_READ_SEQ and advances it. -/
  | ringData (t : Nat) (port : Nat)
  /-- VAULT_REARM (R470). VAULT_CMD 'rearm' returns a frozen vault to 'recording'. -/
  | vaultRearm (t : Nat) (port : Nat)
  /-- TRACE_SAMPLE (R471). A trace channel's interval ends and it takes a sample of its source object. -/
  | traceSample (t : Nat) (ch : Nat)
  /-- STREAM_ENABLE (R472). A write of STREAM_ENABLE starts the port's telemetry stream at RING_NEXT_SEQ or ends it. -/
  | streamEnable (t : Nat) (port row : Nat) (on : Bool)
  /-- TX_ENABLE (R167). A write of an output flow row's TX_ENABLE starts or stops its sending on LANE_P and LANE_S and locks or unlocks its addressing and PID objects. -/
  | txEnable (t : Nat) (port : Nat) (row : Nat) (on : Bool)
  /-- PTP_LANE (R97). A write of 2303h[p].01 PTP_LANE assigns a PTP port to an Ethernet lane, or refuses it, starting the port's best master clock operation and holding the lane group on. -/
  | ptpLane (t : Nat) (port : Nat) (p : Nat) (lane : Nat)
  /-- SDI_AUTO_TRS_TIMEOUT (R125). In 'sdi-auto', TRS lock not following within 2 ms of the end of adaptation resumes the rate hunt at the next rate. -/
  | sdiAutoTrsTimeout (t : Nat) (lane : Nat)
  /-- CP_LINK_CHANGE (R408). A control port's link goes down or comes up, changing 1120h[p].08 CP_LINK. -/
  | cpLinkChange (t : Nat) (port : Nat) (up : Bool)
  /-- TAP_INSTRUCTION (R488). A boundary-scan instruction loaded through the test access port drives pins only while NRST_IN is low and otherwise behaves as SAMPLE; TRST_N low resets the TAP. -/
  | tapInstruction (t : Nat) (code : Nat) (drives : Bool) (trst : Bool)
deriving DecidableEq, Repr

end Sys2Proof
end

