-- ==== Sys2Proof/Decode.lean ====
section
/-! DEFINITION. Decode.lean: what the table's bits spell. The table gives no command any bits: commands are messages, events and ticks, not words. -/

namespace Sys2Proof

/-- The command that a word spells by the table's bits: none, since the table gives bits to no command. -/
def decodeTableWord (_nbits _w : Nat) : Option Instr := none

end Sys2Proof
end

