-- ==== Sys2Proof/Machine/Bytes.lean ====
section
/-! DEFINITION. Machine/Bytes.lean: byte order, fields of messages and images, sign extension, and the CRC arithmetic of the manual (R36, R373, R467). -/

namespace Sys2Proof.Machine
open Sys2Proof

/-- `n` bytes of `v`, least significant first (all multi-byte fields of the manual are little-endian). -/
def leBytes : Nat → Nat → Bytes
  | 0, _ => []
  | n + 1, v => BitVec.ofNat 8 v :: leBytes n (v / 256)

/-- The number that bytes hold, least significant first. -/
def leNat : Bytes → Nat
  | [] => 0
  | b :: l => b.toNat + 256 * leNat l

/-- `n` bytes of `v`, most significant first. -/
def beBytes (n v : Nat) : Bytes := (leBytes n v).reverse

/-- The number that bytes hold, most significant first. -/
def beNat (b : Bytes) : Nat := leNat b.reverse

/-- The field of `n` bytes at `off`. -/
def slice (off n : Nat) (b : Bytes) : Bytes := (b.drop off).take n

/-- The little-endian number in the field of `n` bytes at `off`. -/
def fieldNat (off n : Nat) (b : Bytes) : Nat := leNat (slice off n b)

/-- Two's complement reading of an `n`-bit number. -/
def toSigned (n v : Nat) : Int := if v % 2 ^ n < 2 ^ (n - 1) then (v % 2 ^ n : Nat) else ((v % 2 ^ n : Nat) : Int) - 2 ^ n

/-- The `n`-bit two's complement code of an integer. -/
def ofSigned (n : Nat) (v : Int) : Nat := (v % (2 ^ n : Int)).toNat

/-- `n` zero bytes. -/
def zeros (n : Nat) : Bytes := List.replicate n 0#8

/-- The ASCII bytes of a name. -/
def ascii (s : String) : Bytes := s.toList.map (fun c => BitVec.ofNat 8 c.toNat)

/-- Pad with zero bytes to a multiple of 4 (R381). -/
def pad4 (b : Bytes) : Bytes := b ++ zeros ((4 - b.length % 4) % 4)

/-- Bytes written over `old` at `off`, the gap filled with zero bytes. -/
def overwrite (off : Nat) (new old : Bytes) : Bytes :=
  let base := old ++ zeros (off - old.length)
  base.take off ++ new ++ base.drop (off + new.length)

/-- XOR of two byte strings. -/
def xorBytes (a b : Bytes) : Bytes := List.zipWith (· ^^^ ·) a b

/-- The bits of a byte, least significant first. -/
def bitsLsb (b : Byte) : List Bool := (List.range 8).map (fun i => b.getLsbD i)

/-- Reverse the low `n` bits of a number. -/
def reflectBits (n v : Nat) : Nat := (List.range n).foldl (fun r i => if v.testBit i then r + 2 ^ (n - 1 - i) else r) 0

/-- One bit into an unreflected CRC register of width `w`. -/
def crcBit (w poly reg : Nat) (bit : Bool) : Nat :=
  let top := reg.testBit (w - 1)
  let sh := (reg * 2) % 2 ^ w
  if top != bit then sh ^^^ poly else sh

/-- Bits of a feed unit of `n` bits in the order a CRC takes them. -/
def feedBits (reflect : Bool) (n v : Nat) : List Bool :=
  if reflect then (List.range n).map (fun i => v.testBit i) else ((List.range n).map (fun i => v.testBit i)).reverse

/-- A feed unit of `n` bits into a CRC register (normal form). -/
def crcFeed (w poly : Nat) (reflect : Bool) (n reg v : Nat) : Nat := (feedBits reflect n v).foldl (crcBit w poly) reg

/-- One byte into the reflected CRC-32C register. -/
def crc32cByte (reg : Nat) (b : Byte) : Nat :=
  (List.range 8).foldl (fun r _ => if r % 2 = 1 then (r / 2) ^^^ 0x82F63B78 else r / 2) (reg ^^^ b.toNat)

/-- The CRC-32C register after bytes, from `reg`, without the final inversion. -/
def crc32cRun (reg : Nat) (b : Bytes) : Nat := b.foldl crc32cByte reg

/-- CRC-32C with initial value FFFF_FFFFh and final inversion (R36, R373). -/
def crc32c (b : Bytes) : Nat := crc32cRun 0xFFFFFFFF b ^^^ 0xFFFFFFFF

/-- The check word of R36 and R403: CRC-32C of bytes 0 to length - 5, continued over the 8-byte value of the length. -/
def checkWord (image : Bytes) (len : Nat) : Nat := crc32c (image.take (len - 4) ++ leBytes 8 len)

end Sys2Proof.Machine
end

