-- ==== Sys2Proof/Machine/Rates.lean ====
section
/-! DEFINITION. Machine/Rates.lean: frame rates, their families and their ledger layout (R24, R63). Times are exact in thirds of a nanosecond. -/

namespace Sys2Proof.Machine

/-- Frame period of a rate code in thirds of a ns (R24); 0 for a code that names no rate. -/
def period3 : Nat → Nat
  | 0x01 => 125125000
  | 0x02 => 125000000
  | 0x03 => 120000000
  | 0x04 => 100100000
  | 0x05 => 100000000
  | 0x06 => 62562500
  | 0x07 => 62500000
  | 0x08 => 60000000
  | 0x09 => 50050000
  | 0x0A => 50000000
  | 0x0B => 30000000
  | 0x0C => 25025000
  | 0x0D => 25000000
  | 0x0E => 120000000
  | 0x0F => 100100000
  | _ => 0

/-- Frame period truncated to whole ns. -/
def periodNs (rate : Nat) : Nat := period3 rate / 3

/-- Whether a code names a rate. -/
def isRate (rate : Nat) : Bool := decide (1 ≤ rate ∧ rate ≤ 15)

/-- Full cycles of a frame (R24). -/
def fullCycles : Nat → Nat
  | 0x01 => 333
  | 0x02 => 333
  | 0x03 => 320
  | 0x04 => 266
  | 0x05 => 266
  | 0x06 => 166
  | 0x07 => 166
  | 0x08 => 160
  | 0x09 => 133
  | 0x0A => 133
  | 0x0B => 80
  | 0x0C => 66
  | 0x0D => 66
  | 0x0E => 320
  | 0x0F => 266
  | _ => 0

/-- Short cycle of a frame in ns, 0 when the rate has none (R24). -/
def shortCycle : Nat → Nat
  | 0x01 => 83333
  | 0x02 => 41666
  | 0x04 => 116666
  | 0x05 => 83333
  | 0x06 => 104166
  | 0x07 => 83333
  | 0x09 => 58333
  | 0x0A => 41666
  | 0x0C => 91666
  | 0x0D => 83333
  | 0x0F => 116666
  | _ => 0

/-- Ledger cycles of a frame: the full ones and the short one. -/
def frameCycles (rate : Nat) : Nat := fullCycles rate + (if shortCycle rate = 0 then 0 else 1)

/-- Length of cycle `c` of a frame in ns. -/
def cycleNs (rate c : Nat) : Nat := if c < fullCycles rate then 125000 else shortCycle rate

/-- The guard before a frame tick (R25). -/
def guardNs : Nat := 1000

/-- Usable length of the last cycle: less the guard (R25, R30). -/
def lastUsable (rate : Nat) : Nat := (if shortCycle rate = 0 then 125000 else shortCycle rate) - guardNs

/-- Family of a rate, numbered as 2100h[d].02: 0 F25, 1 F30, 2 F1001, 3 none (R63). -/
def family (rate : Nat) : Nat :=
  if [0x03, 0x08, 0x0B, 0x0E].contains rate then 0
  else if [0x02, 0x05, 0x07, 0x0A, 0x0D].contains rate then 1
  else if [0x01, 0x04, 0x06, 0x09, 0x0C, 0x0F].contains rate then 2 else 3

/-- Whether a rate is interlaced (R24). -/
def interlaced (rate : Nat) : Bool := rate == 0x0E || rate == 0x0F

/-- Frames after which the sample tick falls on the frame tick again (R85). -/
def audioSequence (rate : Nat) : Nat := if [0x04, 0x09, 0x0C, 0x0F].contains rate then 5 else 1

/-- Whether a domain's frame rate is 1, 2 or 4 times a candidate's (R64). -/
def rateMultiple (domRate candRate : Nat) : Bool :=
  let d := period3 domRate
  let c := period3 candRate
  d != 0 && (c == d || c == 2 * d || c == 4 * d)

/-- Frames of a rate since an epoch, from a time that is truncated to whole ns. -/
def epochFrames (rate ns : Nat) : Nat := if period3 rate = 0 then 0 else (3 * ns + 2) / period3 rate

end Sys2Proof.Machine
end

