-- ==== Sys2Proof/Machine/Formats.lean ====
section
/-! DEFINITION. Machine/Formats.lean: the standard formats (R334-R336) and the slots that endpoints cost (R13, R15). -/

namespace Sys2Proof.Machine

/-- The rasters of R334, by the family base of a format code. -/
inductive Raster where
  | hd
  | uhd
  | uhd8k
deriving DecidableEq, Repr

/-- Rate code of a format code. -/
def fmtRate (fc : Nat) : Nat := fc % 32

/-- Raster of a format code; none for a code outside R334. -/
def fmtRaster (fc : Nat) : Option Raster :=
  if 0x01 ≤ fc ∧ fc ≤ 0x0F then some .hd
  else if 0x21 ≤ fc ∧ fc ≤ 0x2D then some .uhd
  else if 0x41 ≤ fc ∧ fc ≤ 0x4D then some .uhd8k else none

/-- Whether a code names a format. -/
def isFormat (fc : Nat) : Bool := (fmtRaster fc).isSome

/-- How many times the lines of 1080: 1, 2 or 4. -/
def fmtScale (fc : Nat) : Nat :=
  match fmtRaster fc with
  | some .hd => 1
  | some .uhd => 2
  | some .uhd8k => 4
  | none => 0

/-- Whether a format is interlaced. -/
def fmtInterlaced (fc : Nat) : Bool := fc == 0x0E || fc == 0x0F

/-- Active width and height. -/
def fmtWidth (fc : Nat) : Nat := 1920 * fmtScale fc
def fmtHeight (fc : Nat) : Nat := 1080 * fmtScale fc

/-- Total lines. -/
def fmtLines (fc : Nat) : Nat := 1125 * fmtScale fc

/-- First active line (of field 1). -/
def fmtFirstActive (fc : Nat) : Nat :=
  if fmtInterlaced fc then 21 else match fmtRaster fc with
    | some .hd => 42
    | some .uhd => 83
    | some .uhd8k => 165
    | none => 0

/-- Switching line. -/
def fmtSwitchLine (fc : Nat) : Nat := 7 * fmtScale fc

/-- Whether a line is active (R334). -/
def fmtActive (fc line : Nat) : Bool :=
  if fmtInterlaced fc then decide (21 ≤ line ∧ line ≤ 560) || decide (584 ≤ line ∧ line ≤ 1123)
  else decide (fmtFirstActive fc ≤ line ∧ line < fmtFirstActive fc + fmtHeight fc)

/-- Index of an active line in the picture, counted from 0; the lines of an interlaced frame are counted field by field. -/
def fmtPictureLine (fc line : Nat) : Nat :=
  if fmtInterlaced fc then (if line ≤ 560 then line - 21 else line - 584) else line - fmtFirstActive fc

/-- Total luma samples per line (R335). -/
def fmtSamples (fc : Nat) : Nat :=
  let r := fmtRate fc
  fmtScale fc * (if [1, 2, 6, 7].contains r then 2750 else if [3, 8, 0x0B, 0x0E].contains r then 2640 else 2200)

/-- Slot cost in quarter-slots (R336). -/
def fmtCost (fc : Nat) : Nat :=
  let r := fmtRate fc
  match fmtRaster fc with
  | some .hd => if 0x0B ≤ r ∧ r ≤ 0x0D then 4 else 1
  | some .uhd => if r ≤ 0x0A then 4 else 8
  | some .uhd8k => if r ≤ 5 then 8 else if r ≤ 0x0A then 16 else 28
  | none => 0

/-- SDI mapping of a format (R336): lane mode (numbered as 30LLh.01) and links; none where the format has no SDI mapping. For FC26-FC2A this is the
single-link one. -/
def fmtSdi (fc : Nat) : Option (Nat × Nat) :=
  let r := fmtRate fc
  match fmtRaster fc with
  | some .hd => if r ≤ 5 ∨ 0x0E ≤ r then some (1, 1) else if r ≤ 0x0A then some (2, 1) else some (4, 1)
  | some .uhd => if r ≤ 5 then some (3, 1) else if r ≤ 0x0A then some (4, 1) else none
  | some .uhd8k => if r ≤ 0x0A then some (4, 4) else none
  | none => none

/-- Line period of a format, in thirds of a ns times the total lines: a line period is `period3 / (3 * lines)` ns. -/
def lineStartNs (fc line : Nat) : Nat := if fmtLines fc = 0 then 0 else (line - 1) * period3 (fmtRate fc) / (3 * fmtLines fc)

/-- `n` line periods in ns, rounded down. -/
def linesNs (fc n : Nat) : Nat := if fmtLines fc = 0 then 0 else n * period3 (fmtRate fc) / (3 * fmtLines fc)

/-- Slots of an endpoint in quarter-slots (R13, R15). -/
def epCost (ep fc : Nat) : Nat :=
  match ep / 4096 with
  | 0 => fmtCost fc
  | 1 => fmtCost fc
  | 2 => fmtCost fc
  | 8 => fmtCost fc
  | 9 => fmtCost fc
  | 10 => fmtCost fc
  | 11 => fmtCost fc
  | 12 => 1
  | _ => 0

end Sys2Proof.Machine
end

