-- ==== Sys2Proof/Machine/Sha256.lean ====
section
/-! DEFINITION. Machine/Sha256.lean: SHA-256 and HMAC-SHA-256, the hash of sessions, keys, images and signatures (R388-R390, R397, R412-R423, R5).
The compression is written as two shift registers of four words that each take one new word a round, over a window of the last sixteen words of the message schedule. -/

namespace Sys2Proof.Machine
open Sys2Proof

/-- The words of a number, `n` of them, most significant first. -/
def wordsOf (n v : Nat) : List Word32 := ((List.range n).map (fun i => BitVec.ofNat 32 (v >>> (32 * i)))).reverse

/-- The round constants: the first 32 bits of the fractions of the cube roots of the first 64 primes, eight to a number. -/
def shaConstants : List Nat :=
  [
    0x428a2f9871374491b5c0fbcfe9b5dba53956c25b59f111f1923f82a4ab1c5ed5,
    0xd807aa9812835b01243185be550c7dc372be5d7480deb1fe9bdc06a7c19bf174,
    0xe49b69c1efbe47860fc19dc6240ca1cc2de92c6f4a7484aa5cb0a9dc76f988da,
    0x983e5152a831c66db00327c8bf597fc7c6e00bf3d5a7914706ca635114292967,
    0x27b70a852e1b21384d2c6dfc53380d13650a7354766a0abb81c2c92e92722c85,
    0xa2bfe8a1a81a664bc24b8b70c76c51a3d192e819d6990624f40e3585106aa070,
    0x19a4c1161e376c082748774c34b0bcb5391c0cb34ed8aa4a5b9cca4f682e6ff3,
    0x748f82ee78a5636f84c878148cc7020890befffaa4506cebbef9a3f7c67178f2]

/-- The initial hash value: the same of the square roots of the first eight primes. -/
def shaStart : Nat := 0x6a09e667bb67ae853c6ef372a54ff53a510e527f9b05688c1f83d9ab5be0cd19

/-- A shift register of four words, newest first. -/
structure Quad where
  n : Word32
  n1 : Word32
  n2 : Word32
  n3 : Word32
deriving DecidableEq, Repr

/-- A word enters a register and the oldest leaves it. -/
def Quad.push (q : Quad) (v : Word32) : Quad := ⟨v, q.n, q.n1, q.n2⟩

/-- Addition of two registers word by word. -/
def Quad.plus (p q : Quad) : Quad := ⟨p.n + q.n, p.n1 + q.n1, p.n2 + q.n2, p.n3 + q.n3⟩

/-- The big-endian bytes of a register. -/
def Quad.bytes (q : Quad) : Bytes := ([q.n, q.n1, q.n2, q.n3].map (fun w => beBytes 4 w.toNat)).flatten

/-- Words to a register; missing ones are 0. -/
def Quad.ofList : List Word32 → Quad
  | [p, q, r, t] => ⟨p, q, r, t⟩
  | _ => ⟨0, 0, 0, 0⟩

/-- Three rotations of a word, combined. -/
def spin (v : Word32) (i j k : Nat) : Word32 := v.rotateRight i ^^^ (v.rotateRight j ^^^ v.rotateRight k)

/-- Two rotations and a shift of a word, combined. -/
def smear (v : Word32) (i j k : Nat) : Word32 := v.rotateRight i ^^^ (v.rotateRight j ^^^ v >>> k)

/-- Where a bit of the first word is 1 the second's, elsewhere the third's. -/
def pick (sel one zero : Word32) : Word32 := zero ^^^ (sel &&& (one ^^^ zero))

/-- The bit that at least two of three words hold. -/
def most (q : Quad) : Word32 := (q.n &&& q.n1) ||| (q.n2 &&& (q.n ||| q.n1))

/-- The rounds that a list of constants gives. The window holds the sixteen schedule words from the round's own on; the word that follows it enters as the round's own leaves. -/
def shaRounds : List Word32 → List Word32 → Quad × Quad → Quad × Quad
  | k :: ks, own :: rest, (left, right) =>
    let mixed := right.n3 + spin right.n 6 11 25 + pick right.n right.n1 right.n2 + k + own
    let fresh := own + smear (rest.getD 0 0) 7 18 3 + rest.getD 8 0 + smear (rest.getD 13 0) 17 19 10
    shaRounds ks (rest ++ [fresh]) (left.push (mixed + spin left.n 2 13 22 + most left), right.push (left.n3 + mixed))
  | _, _, r => r

/-- The constants of all 64 rounds. -/
def shaKeys : List Word32 := (shaConstants.map (wordsOf 8)).flatten

/-- One block of 64 bytes into the hash value. -/
def shaFold (r : Quad × Quad) (block : Bytes) : Quad × Quad :=
  let out := shaRounds shaKeys (wordsOf 16 (beNat block)) r
  (r.1.plus out.1, r.2.plus out.2)

/-- All blocks of a padded message, `n` of them. -/
def shaRun : Nat → Bytes → Quad × Quad → Quad × Quad
  | 0, _, r => r
  | n + 1, b, r => shaRun n (b.drop 64) (shaFold r (b.take 64))

/-- SHA-256 of a byte string, 32 bytes: the message, a 1 bit, zeros, and its length in bits in 8 bytes fill whole blocks. -/
def sha256 (m : Bytes) : Bytes :=
  let blocks := (m.length + 72) / 64
  let padded := m ++ 0x80#8 :: zeros (64 * blocks - m.length - 9) ++ beBytes 8 (8 * m.length)
  let h := wordsOf 8 shaStart
  let r := shaRun blocks padded (Quad.ofList (h.take 4), Quad.ofList (h.drop 4))
  r.1.bytes ++ r.2.bytes

/-- HMAC-SHA-256: the key, hashed when it is longer than a block, enters the inner and the outer hash filled with zeros to a block. -/
def hmacSha256 (key m : Bytes) : Bytes :=
  let short := if 64 < key.length then sha256 key else key
  let masked := fun (mask : Byte) => (short ++ zeros (64 - short.length)).map (mask ^^^ ·)
  sha256 (masked 0x5C#8 ++ sha256 (masked 0x36#8 ++ m))

end Sys2Proof.Machine
end

