-- ==== Sys2Proof/Machine/Lms.lean ====
section
/-! DEFINITION. Machine/Lms.lean: verification of HSS signatures under RFC 8554 with the one parameter set of R411: two levels, each LMS_SHA256_M32_H10
over LMOTS_SHA256_N32_W8. -/

namespace Sys2Proof.Machine
open Sys2Proof

/-- Chain `steps` links of a one-time signature from link `j` of chain `i`. -/
def otsChain (id : Bytes) (q i : Nat) : Nat → Nat → Bytes → Bytes
  | 0, _, x => x
  | n + 1, j, x => otsChain id q i n (j + 1) (sha256 (id ++ beBytes 4 q ++ beBytes 2 i ++ beBytes 1 j ++ x))

/-- The digits of a message hash: its 32 bytes and the two bytes of their checksum. -/
def otsDigits (h : Bytes) : List Nat :=
  let sum := (h.map (fun b => 255 - b.toNat)).foldl (· + ·) 0
  h.map (·.toNat) ++ [sum / 256 % 256, sum % 256]

/-- The candidate for the one-time public key that a signature of 1,124 bytes gives (RFC 8554, algorithm 4b). -/
def otsCandidate (id : Bytes) (q : Nat) (sig msg : Bytes) : Bytes :=
  let c := slice 4 32 sig
  let h := sha256 (id ++ beBytes 4 q ++ [0x81#8, 0x81#8] ++ c ++ msg)
  let z := ((List.range 34).zip (otsDigits h)).map (fun (i, a) => otsChain id q i (255 - a) a (slice (36 + 32 * i) 32 sig))
  sha256 (id ++ beBytes 4 q ++ [0x80#8, 0x80#8] ++ z.flatten)

/-- Climb the tree along a path from a node. -/
def lmsClimb (id : Bytes) : List Bytes → Nat → Bytes → Bytes
  | [], _, x => x
  | p :: ps, node, x =>
    let pair := if node % 2 = 1 then p ++ x else x ++ p
    lmsClimb id ps (node / 2) (sha256 (id ++ beBytes 4 (node / 2) ++ [0x83#8, 0x83#8] ++ pair))

/-- Bytes of an LMS signature of the set. -/
def lmsSigLen : Nat := 1452

/-- Bytes of an LMS public key. -/
def lmsPubLen : Nat := 56

/-- Verify an LMS signature (RFC 8554, algorithm 6a) with type codes 0000_0006h and 0000_0004h. -/
def lmsVerify (pub sig msg : Bytes) : Bool :=
  let id := slice 8 16 pub
  let q := beNat (slice 0 4 sig)
  let ots := slice 4 1124 sig
  let path := (List.range 10).map (fun i => slice (1132 + 32 * i) 32 sig)
  decide (pub.length = lmsPubLen) && decide (sig.length = lmsSigLen) && decide (beNat (slice 0 4 pub) = 6) && decide (beNat (slice 4 4 pub) = 4) &&
  decide (beNat (slice 0 4 ots) = 4) && decide (beNat (slice 1128 4 sig) = 6) && decide (q < 1024) &&
  lmsClimb id path (1024 + q) (sha256 (id ++ beBytes 4 (1024 + q) ++ [0x82#8, 0x82#8] ++ otsCandidate id q ots msg)) == slice 24 32 pub

/-- Bytes of an HSS signature and of an HSS public key (R411). -/
def hssSigLen : Nat := 2964
def hssPubLen : Nat := 60

/-- Verify an HSS signature: two levels, any other level count, type or length is invalid (R411). -/
def hssVerify (pub sig msg : Bytes) : Bool :=
  let mid := slice (4 + lmsSigLen) lmsPubLen sig
  decide (pub.length = hssPubLen) && decide (sig.length = hssSigLen) && decide (beNat (slice 0 4 pub) = 2) && decide (beNat (slice 0 4 sig) = 1) &&
  lmsVerify (pub.drop 4) (slice 4 lmsSigLen sig) mid && lmsVerify mid (slice (4 + lmsSigLen + lmsPubLen) lmsSigLen sig) msg

end Sys2Proof.Machine
end

