-- ==== Sys2Proof/Machine/Objects.lean ====
section
/-! DEFINITION. Machine/Objects.lean: a name for every object of the dictionary (`o<index>_<NAME>`, its code is index x 256 + sub-index, the
coding of R227 and R471) and for every value of an enumeration (`<NAME>.<value>`, numbered as R385 says). -/

namespace Sys2Proof.Machine

/-! 1000h -/
abbrev o1000_PART_CODE : Nat := 0x100001
abbrev o1000_STEPPING : Nat := 0x100002
abbrev o1000_FW_RELEASE : Nat := 0x100003
abbrev o1000_SERIAL_NUMBER : Nat := 0x100004
abbrev o1000_FW_RELEASE_NUM : Nat := 0x100005
/-! 1001h -/
abbrev o1001_LANE_COUNT : Nat := 0x100101
abbrev o1001_FABRIC_SLOTS : Nat := 0x100102
abbrev o1001_QUARTER_SLOTS : Nat := 0x100103
abbrev o1001_AUDIO_CHANNELS : Nat := 0x100104
abbrev o1001_MINT_COUNT : Nat := 0x100105
abbrev o1001_XS_COUNT : Nat := 0x100106
abbrev o1001_COMPOSITOR_COUNT : Nat := 0x100107
abbrev o1001_SCALER_COUNT : Nat := 0x100108
abbrev o1001_HEAD_COUNT : Nat := 0x100109
/-! 1002h -/
abbrev o1002_HBM_STACKS : Nat := 0x100201
abbrev o1002_HBM_CAPACITY_MIB : Nat := 0x100202
abbrev o1002_SRAM_CAPACITY_MIB : Nat := 0x100203
abbrev o1002_HBM_ASSIGN_CEILING : Nat := 0x100204
abbrev o1002_TIMING_DOMAINS : Nat := 0x100205
abbrev o1002_LEDGER_CYCLE_NS : Nat := 0x100206
/-! 1003h -/
abbrev o1003_SUBSYS_STATE : Nat := 0x100301
abbrev o1003_ACTIVE_ALARMS : Nat := 0x100302
abbrev o1003_OVERDRAFTS : Nat := 0x100303
abbrev SUBSYS_STATE.off : Int := 0
abbrev SUBSYS_STATE.starting : Int := 1
abbrev SUBSYS_STATE.running : Int := 2
abbrev SUBSYS_STATE.degraded : Int := 3
abbrev SUBSYS_STATE.fault : Int := 4
/-! 1005h -/
abbrev o1005_QUERY_SOURCE : Nat := 0x100501
abbrev o1005_QUERY_DEST : Nat := 0x100502
abbrev o1005_PATH_LATENCY_NS : Nat := 0x100503
abbrev o1005_PATH_STATUS : Nat := 0x100504
abbrev PATH_STATUS.valid : Int := 0
abbrev PATH_STATUS.no_path : Int := 1
abbrev PATH_STATUS.not_planned : Int := 2
/-! 1100h -/
abbrev o1100_KEY_STATE : Nat := 0x110001
abbrev o1100_KEY_ROLES : Nat := 0x110002
abbrev o1100_KEY_PORTS : Nat := 0x110003
abbrev o1100_KEY_WRAPPED : Nat := 0x110004
abbrev o1100_KEY_ERASE : Nat := 0x110005
abbrev o1100_KEY_WRITES : Nat := 0x110006
abbrev o1100_KEY_LOGINS : Nat := 0x110007
abbrev o1100_KEY_FACTORY : Nat := 0x110008
abbrev KEY_STATE.empty : Int := 0
abbrev KEY_STATE.valid : Int := 1
abbrev KEY_STATE.invalid : Int := 2
abbrev KEY_ERASE.erase : Int := 0
/-! 1101h -/
abbrev o1101_SESSION_STATE : Nat := 0x110101
abbrev o1101_SESSION_ID : Nat := 0x110102
abbrev o1101_SESSION_KEY_SLOT : Nat := 0x110103
abbrev o1101_SESSION_ROLES : Nat := 0x110104
abbrev o1101_SESSION_PEER_ADDR : Nat := 0x110105
abbrev o1101_SESSION_PEER_PORT : Nat := 0x110106
abbrev o1101_SESSION_IDLE_S : Nat := 0x110107
abbrev o1101_LOGIN_FAILURES : Nat := 0x110108
abbrev o1101_AUTH_DISCARDS : Nat := 0x110109
abbrev o1101_REPLAY_DISCARDS : Nat := 0x11010A
abbrev o1101_RETRANSMITS : Nat := 0x11010B
abbrev o1101_EVENTS_SENT : Nat := 0x11010C
abbrev o1101_SESSION_END_CMD : Nat := 0x11010D
abbrev o1101_LAST_END_REASON : Nat := 0x11010E
abbrev SESSION_STATE.closed : Int := 0
abbrev SESSION_STATE.challenged : Int := 1
abbrev SESSION_STATE.open : Int := 2
abbrev SESSION_STATE.locked_out : Int := 3
abbrev SESSION_END_CMD.end : Int := 0
abbrev LAST_END_REASON.none : Int := 0
abbrev LAST_END_REASON.logout : Int := 1
abbrev LAST_END_REASON.idle : Int := 2
abbrev LAST_END_REASON.forced : Int := 3
abbrev LAST_END_REASON.key_change : Int := 4
abbrev LAST_END_REASON.address_change : Int := 5
abbrev LAST_END_REASON.restart : Int := 6
/-! 1102h -/
abbrev o1102_MY_PORT : Nat := 0x110201
abbrev o1102_MY_PARTITION : Nat := 0x110202
abbrev o1102_MY_ROLES : Nat := 0x110203
abbrev MY_PORT.CP0 : Int := 0
abbrev MY_PORT.CP1 : Int := 1
abbrev MY_PORT.CP2 : Int := 2
abbrev MY_PORT.CP3 : Int := 3
abbrev MY_PORT.SVC : Int := 4
/-! 1120h -/
abbrev o1120_CP_MAC : Nat := 0x112001
abbrev o1120_CP_IPV4_ADDR : Nat := 0x112002
abbrev o1120_CP_IPV4_PREFIX : Nat := 0x112003
abbrev o1120_CP_IPV4_GATEWAY : Nat := 0x112004
abbrev o1120_CP_IPV6_ADDR : Nat := 0x112005
abbrev o1120_CP_IPV6_PREFIX : Nat := 0x112006
abbrev o1120_CP_UDP_PORT : Nat := 0x112007
abbrev o1120_CP_LINK : Nat := 0x112008
abbrev CP_LINK.down : Int := 0
abbrev CP_LINK.up : Int := 1
/-! 1130h -/
abbrev o1130_BOOT_SLOT : Nat := 0x113001
abbrev o1130_BOOT_FALLBACK : Nat := 0x113002
abbrev o1130_SECURITY_VERSION : Nat := 0x113003
abbrev o1130_ROLLBACK_COUNTER : Nat := 0x113004
abbrev o1130_ROLLBACK_CMD : Nat := 0x113005
abbrev o1130_POLICY : Nat := 0x113006
abbrev o1130_POLICY_SET : Nat := 0x113007
abbrev o1130_SEC_RESULT : Nat := 0x113008
abbrev BOOT_SLOT.FW0 : Int := 0
abbrev BOOT_SLOT.FW1 : Int := 1
abbrev ROLLBACK_CMD.commit : Int := 0
/-! 1131h -/
abbrev o1131_ROOT_STATE : Nat := 0x113101
abbrev o1131_ROOT_HASH : Nat := 0x113102
abbrev o1131_ROOT_CMD : Nat := 0x113103
abbrev ROOT_STATE.blank : Int := 0
abbrev ROOT_STATE.active : Int := 1
abbrev ROOT_STATE.revoked : Int := 2
abbrev ROOT_CMD.program : Int := 0
abbrev ROOT_CMD.revoke : Int := 1
/-! 1132h -/
abbrev o1132_FW_SLOT_STATE : Nat := 0x113201
abbrev o1132_FW_SLOT_RELEASE : Nat := 0x113202
abbrev o1132_FW_SLOT_SECVER : Nat := 0x113203
abbrev o1132_FW_SLOT_RESULT : Nat := 0x113204
abbrev o1132_FW_SLOT_CMD : Nat := 0x113205
abbrev o1132_FW_XFER_OFFSET : Nat := 0x113206
abbrev o1132_FW_XFER_DATA : Nat := 0x113207
abbrev FW_SLOT_STATE.empty : Int := 0
abbrev FW_SLOT_STATE.loading : Int := 1
abbrev FW_SLOT_STATE.checking : Int := 2
abbrev FW_SLOT_STATE.valid : Int := 3
abbrev FW_SLOT_STATE.invalid : Int := 4
abbrev FW_SLOT_CMD.open : Int := 0
abbrev FW_SLOT_CMD.close : Int := 1
abbrev FW_SLOT_CMD.activate : Int := 2
/-! 1133h -/
abbrev o1133_SEC_XFER_OFFSET : Nat := 0x113301
abbrev o1133_SEC_XFER_DATA : Nat := 0x113302
/-! 1134h -/
abbrev o1134_VKEY_STATE : Nat := 0x113401
abbrev o1134_VKEY_HASH : Nat := 0x113402
abbrev o1134_VKEY_CMD : Nat := 0x113403
abbrev VKEY_STATE.empty : Int := 0
abbrev VKEY_STATE.valid : Int := 1
abbrev VKEY_CMD.install : Int := 0
/-! 1135h -/
abbrev o1135_IDENTITY_PUBKEY : Nat := 0x113501
abbrev o1135_IDENTITY_STATE : Nat := 0x113502
abbrev o1135_IDENTITY_NEXT : Nat := 0x113503
abbrev o1135_IDENTITY_REMAINING : Nat := 0x113504
abbrev o1135_JOURNAL_BLOCK_END : Nat := 0x113505
abbrev IDENTITY_STATE.ready : Int := 0
abbrev IDENTITY_STATE.low : Int := 1
abbrev IDENTITY_STATE.journal_fault : Int := 2
abbrev IDENTITY_STATE.exhausted : Int := 3
/-! 1136h -/
abbrev o1136_ATT_NONCE : Nat := 0x113601
abbrev o1136_ATT_CMD : Nat := 0x113602
abbrev o1136_ATT_STATE : Nat := 0x113603
abbrev o1136_ATT_RESULT : Nat := 0x113604
abbrev o1136_ATT_READ_OFFSET : Nat := 0x113605
abbrev o1136_ATT_DATA : Nat := 0x113606
abbrev o1136_ATT_LENGTH : Nat := 0x113607
abbrev ATT_CMD.sign : Int := 0
abbrev ATT_STATE.idle : Int := 0
abbrev ATT_STATE.signing : Int := 1
abbrev ATT_STATE.ready : Int := 2
abbrev ATT_STATE.refused : Int := 3
/-! 1200h -/
abbrev o1200_CONFIG_SLOT : Nat := 0x120001
abbrev o1200_FACTORY_FLAG : Nat := 0x120002
abbrev o1200_CONFIG_CMD : Nat := 0x120003
abbrev o1200_CONFIG_STATE : Nat := 0x120004
abbrev o1200_CONFIG_RESULT : Nat := 0x120005
abbrev o1200_RUNNING_DIRTY : Nat := 0x120006
abbrev o1200_SAVES : Nat := 0x120007
abbrev o1200_RECORDS_SKIPPED : Nat := 0x120008
abbrev CONFIG_SLOT.none : Int := 0
abbrev CONFIG_SLOT.A : Int := 1
abbrev CONFIG_SLOT.B : Int := 2
abbrev CONFIG_CMD.save : Int := 0
abbrev CONFIG_CMD.revert : Int := 1
abbrev CONFIG_CMD.factory : Int := 2
abbrev CONFIG_CMD.import : Int := 3
abbrev CONFIG_STATE.idle : Int := 0
abbrev CONFIG_STATE.saving : Int := 1
abbrev CONFIG_STATE.postponed : Int := 2
abbrev CONFIG_STATE.loading : Int := 3
/-! 1201h -/
abbrev o1201_SLOT_STATE : Nat := 0x120101
abbrev o1201_SLOT_GENERATION : Nat := 0x120102
abbrev o1201_SLOT_LENGTH : Nat := 0x120103
abbrev o1201_SLOT_CHECK : Nat := 0x120104
abbrev o1201_SLOT_SIGNED : Nat := 0x120105
abbrev o1201_SLOT_SAVED_TIME : Nat := 0x120106
abbrev SLOT_STATE.empty : Int := 0
abbrev SLOT_STATE.valid : Int := 1
abbrev SLOT_STATE.invalid : Int := 2
/-! 1202h -/
abbrev o1202_CFG_XFER_CMD : Nat := 0x120201
abbrev o1202_CFG_XFER_OFFSET : Nat := 0x120202
abbrev o1202_CFG_XFER_DATA : Nat := 0x120203
abbrev CFG_XFER_CMD.open : Int := 0
abbrev CFG_XFER_CMD.discard : Int := 1
/-! 1210h -/
abbrev o1210_DEVICE_OWNER : Nat := 0x121001
abbrev o1210_PARTITION_CMD : Nat := 0x121002
abbrev o1210_PARTITION_RESULT : Nat := 0x121003
abbrev o1210_PARTITION_ERROR_ROW : Nat := 0x121004
abbrev PARTITION_CMD.apply : Int := 0
abbrev PARTITION_CMD.discard : Int := 1
/-! 1211h -/
abbrev o1211_PART_CLASS : Nat := 0x121101
abbrev o1211_PART_FIRST : Nat := 0x121102
abbrev o1211_PART_LAST : Nat := 0x121103
abbrev o1211_PART_OWNER : Nat := 0x121104
abbrev PART_CLASS.none : Int := 0
abbrev PART_CLASS.output : Int := 1
abbrev PART_CLASS.audio : Int := 2
abbrev PART_CLASS.mint : Int := 3
abbrev PART_CLASS.xs : Int := 4
abbrev PART_CLASS.group : Int := 5
abbrev PART_CLASS.head : Int := 6
abbrev PART_CLASS.salvo : Int := 7
abbrev PART_CLASS.ingress : Int := 8
abbrev PART_CLASS.egress : Int := 9
abbrev PART_CLASS.lane : Int := 10
/-! 1212h -/
abbrev o1212_PART_IN_FORCE_CLASS : Nat := 0x121201
abbrev o1212_PART_IN_FORCE_FIRST : Nat := 0x121202
abbrev o1212_PART_IN_FORCE_LAST : Nat := 0x121203
abbrev o1212_PART_IN_FORCE_OWNER : Nat := 0x121204
abbrev PART_IN_FORCE_CLASS.none : Int := 0
abbrev PART_IN_FORCE_CLASS.output : Int := 1
abbrev PART_IN_FORCE_CLASS.audio : Int := 2
abbrev PART_IN_FORCE_CLASS.mint : Int := 3
abbrev PART_IN_FORCE_CLASS.xs : Int := 4
abbrev PART_IN_FORCE_CLASS.group : Int := 5
abbrev PART_IN_FORCE_CLASS.head : Int := 6
abbrev PART_IN_FORCE_CLASS.salvo : Int := 7
abbrev PART_IN_FORCE_CLASS.ingress : Int := 8
abbrev PART_IN_FORCE_CLASS.egress : Int := 9
abbrev PART_IN_FORCE_CLASS.lane : Int := 10
/-! 1400h -/
abbrev o1400_VIN_MV : Nat := 0x140001
abbrev o1400_VIN_MIN_MV : Nat := 0x140002
abbrev o1400_VIN_MAX_MV : Nat := 0x140003
abbrev o1400_INPUT_POWER_DW : Nat := 0x140004
abbrev o1400_SUPPLY_STATE : Nat := 0x140005
abbrev o1400_DIPS : Nat := 0x140006
abbrev o1400_LAST_DIP_MIN_MV : Nat := 0x140007
abbrev o1400_LAST_DIP_MS : Nat := 0x140008
abbrev o1400_POSTPONED_WRITES : Nat := 0x140009
abbrev o1400_CASE_TEMP_DC : Nat := 0x14000A
abbrev o1400_CASE_TEMP_MAX_DC : Nat := 0x14000B
abbrev o1400_TEMP_WARN_C : Nat := 0x14000C
abbrev SUPPLY_STATE.normal : Int := 0
abbrev SUPPLY_STATE.ride_through : Int := 1
abbrev SUPPLY_STATE.stopping : Int := 2
/-! 1401h -/
abbrev o1401_DEVICE_STATE : Nat := 0x140101
abbrev o1401_START_STAGE : Nat := 0x140102
abbrev o1401_SAFE_REASON : Nat := 0x140103
abbrev o1401_SAFE_CMD : Nat := 0x140104
abbrev o1401_TALK_MS : Nat := 0x140105
abbrev o1401_START_MS : Nat := 0x140106
abbrev o1401_RESET_CAUSE : Nat := 0x140107
abbrev o1401_AUTO_RESTART : Nat := 0x140108
abbrev o1401_RESTARTS : Nat := 0x140109
abbrev o1401_ALERT_LEVEL : Nat := 0x14010A
abbrev o1401_START_REF_WAIT_S : Nat := 0x14010B
abbrev o1401_START_LANE_WAIT_MS : Nat := 0x14010C
abbrev DEVICE_STATE.starting : Int := 0
abbrev DEVICE_STATE.running : Int := 1
abbrev DEVICE_STATE.safe : Int := 2
abbrev DEVICE_STATE.stopping : Int := 3
abbrev DEVICE_STATE.recovery : Int := 4
abbrev START_STAGE.aon : Int := 0
abbrev START_STAGE.boot : Int := 1
abbrev START_STAGE.firmware : Int := 2
abbrev START_STAGE.self_test : Int := 3
abbrev START_STAGE.configuration : Int := 4
abbrev START_STAGE.ledger : Int := 5
abbrev START_STAGE.reference : Int := 6
abbrev START_STAGE.media : Int := 7
abbrev SAFE_REASON.none : Int := 0
abbrev SAFE_REASON.vin_stop : Int := 1
abbrev SAFE_REASON.vin_high : Int := 2
abbrev SAFE_REASON.osc_in : Int := 3
abbrev SAFE_REASON.self_test : Int := 4
abbrev SAFE_REASON.ledger : Int := 5
abbrev SAFE_REASON.domain : Int := 6
abbrev SAFE_REASON.watchdog : Int := 7
abbrev SAFE_REASON.thermal : Int := 8
abbrev SAFE_REASON.command : Int := 9
abbrev SAFE_CMD.enter : Int := 0
abbrev SAFE_CMD.leave : Int := 1
abbrev SAFE_CMD.restart : Int := 2
abbrev RESET_CAUSE.power_on : Int := 0
abbrev RESET_CAUSE.nrst : Int := 1
abbrev RESET_CAUSE.vin_stop : Int := 2
abbrev RESET_CAUSE.vin_high : Int := 3
abbrev RESET_CAUSE.watchdog : Int := 4
abbrev RESET_CAUSE.command : Int := 5
abbrev RESET_CAUSE.thermal : Int := 6
abbrev ALERT_LEVEL.A : Int := 0
abbrev ALERT_LEVEL.B : Int := 1
/-! 1402h -/
abbrev o1402_TEST_ITEM : Nat := 0x140201
abbrev o1402_TEST_RESULT : Nat := 0x140202
abbrev o1402_TEST_MS : Nat := 0x140203
abbrev o1402_TEST_DETAIL : Nat := 0x140204
abbrev TEST_ITEM.vin : Int := 0
abbrev TEST_ITEM.osc_in : Int := 1
abbrev TEST_ITEM.boot : Int := 2
abbrev TEST_ITEM.domains : Int := 3
abbrev TEST_ITEM.sram : Int := 4
abbrev TEST_ITEM.hbm_repair : Int := 5
abbrev TEST_ITEM.hbm_decoder : Int := 6
abbrev TEST_ITEM.hbm_sample : Int := 7
abbrev TEST_ITEM.key_store : Int := 8
abbrev TEST_ITEM.configuration : Int := 9
abbrev TEST_ITEM.ledger : Int := 10
abbrev TEST_RESULT.not_run : Int := 0
abbrev TEST_RESULT.pass : Int := 1
abbrev TEST_RESULT.repaired : Int := 2
abbrev TEST_RESULT.fail : Int := 3
/-! 1410h -/
abbrev o1410_PD_STATE : Nat := 0x141001
abbrev o1410_PD_HOLDS : Nat := 0x141002
abbrev o1410_PD_POWER_DW : Nat := 0x141003
abbrev o1410_PD_FAULTS : Nat := 0x141004
abbrev o1410_PD_CMD : Nat := 0x141005
abbrev PD_STATE.off : Int := 0
abbrev PD_STATE.ramping : Int := 1
abbrev PD_STATE.on : Int := 2
abbrev PD_STATE.hold : Int := 3
abbrev PD_STATE.fault : Int := 4
abbrev PD_STATE.locked_off : Int := 5
abbrev PD_CMD.retry : Int := 0
/-! 1500h -/
abbrev o1500_ALARMS_ACTIVE : Nat := 0x150001
abbrev o1500_HIGHEST_SEVERITY : Nat := 0x150002
abbrev o1500_ACK_ALL : Nat := 0x150003
abbrev o1500_COALESCE_MS : Nat := 0x150004
abbrev HIGHEST_SEVERITY.none : Int := 0
abbrev HIGHEST_SEVERITY.A : Int := 1
abbrev HIGHEST_SEVERITY.B : Int := 2
abbrev HIGHEST_SEVERITY.C : Int := 3
abbrev ACK_ALL.ack : Int := 0
/-! 1501h -/
abbrev o1501_ALARM_NAME : Nat := 0x150101
abbrev o1501_ALARM_SUBSYS : Nat := 0x150102
abbrev o1501_ALARM_SEVERITY : Nat := 0x150103
abbrev o1501_ALARM_ACTIVE : Nat := 0x150104
abbrev o1501_LATCHED : Nat := 0x150105
abbrev o1501_RAISES : Nat := 0x150106
abbrev o1501_ACTIVE_INSTANCES : Nat := 0x150107
abbrev o1501_LAST_INSTANCE : Nat := 0x150108
abbrev o1501_FIRST_RAISE : Nat := 0x150109
abbrev o1501_LAST_CHANGE : Nat := 0x15010A
abbrev ALARM_SEVERITY.none : Int := 0
abbrev ALARM_SEVERITY.A : Int := 1
abbrev ALARM_SEVERITY.B : Int := 2
abbrev ALARM_SEVERITY.C : Int := 3
/-! 1502h -/
abbrev o1502_RING_OLDEST_SEQ : Nat := 0x150201
abbrev o1502_RING_NEXT_SEQ : Nat := 0x150202
abbrev o1502_RING_READ_SEQ : Nat := 0x150203
abbrev o1502_RING_DATA : Nat := 0x150204
abbrev o1502_RING_OVERWRITTEN : Nat := 0x150205
abbrev o1502_RING_DISCARDED : Nat := 0x150206
/-! 1503h -/
abbrev o1503_VAULT_STATE : Nat := 0x150301
abbrev o1503_VAULT_TRIGGER_SEQ : Nat := 0x150302
abbrev o1503_VAULT_POST_RECORDS : Nat := 0x150303
abbrev o1503_VAULT_READ_OFFSET : Nat := 0x150304
abbrev o1503_VAULT_DATA : Nat := 0x150305
abbrev o1503_VAULT_CMD : Nat := 0x150306
abbrev VAULT_STATE.recording : Int := 0
abbrev VAULT_STATE.post_trigger : Int := 1
abbrev VAULT_STATE.frozen : Int := 2
abbrev VAULT_CMD.rearm : Int := 0
/-! 1504h -/
abbrev o1504_TRACE_SOURCE : Nat := 0x150401
abbrev o1504_TRACE_ROW : Nat := 0x150402
abbrev o1504_TRACE_INTERVAL : Nat := 0x150403
abbrev o1504_TRACE_ENABLE : Nat := 0x150404
abbrev o1504_TRACE_SAMPLES : Nat := 0x150405
abbrev o1504_TRACE_EFFECTIVE : Nat := 0x150406
abbrev o1504_TRACE_DROPS : Nat := 0x150407
/-! 1505h -/
abbrev o1505_STREAM_ENABLE : Nat := 0x150501
abbrev o1505_STREAM_BUDGET_MBPS : Nat := 0x150502
abbrev o1505_STREAM_CONTENT : Nat := 0x150503
abbrev o1505_STREAM_BYTES : Nat := 0x150504
abbrev o1505_STREAM_RING_SKIPPED : Nat := 0x150506
abbrev o1505_STREAM_TRACE_DROPS : Nat := 0x150507
abbrev o1505_EVENTS_COALESCED : Nat := 0x150508
/-! 1506h -/
abbrev o1506_EVENT_SEVERITY : Nat := 0x150601
abbrev EVENT_SEVERITY.A : Int := 0
abbrev EVENT_SEVERITY.B : Int := 1
abbrev EVENT_SEVERITY.C : Int := 2
abbrev EVENT_SEVERITY.none : Int := 3
/-! 1509h -/
abbrev o1509_LOOKUP_NAME : Nat := 0x150901
abbrev o1509_LOOKUP_POINT : Nat := 0x150902
/-! 1600h -/
abbrev o1600_PAIR_ENABLE : Nat := 0x160001
abbrev o1600_PAIR_ID : Nat := 0x160002
abbrev o1600_IVARD_LANE : Nat := 0x160003
abbrev o1600_LEASE_FRAMES : Nat := 0x160004
abbrev o1600_GUARD_FRAMES : Nat := 0x160005
abbrev o1600_HB_TIMEOUT_CYCLES : Nat := 0x160006
abbrev o1600_AUTO_RELEASE_MASK : Nat := 0x160007
abbrev o1600_CUSTODY_CMD : Nat := 0x160008
abbrev o1600_CUSTODY_RESULT : Nat := 0x160009
abbrev CUSTODY_CMD.release : Int := 0
abbrev CUSTODY_CMD.force_release : Int := 1
/-! 1601h -/
abbrev o1601_PAIR_STATE : Nat := 0x160101
abbrev o1601_EPOCH : Nat := 0x160102
abbrev o1601_LEASE_END : Nat := 0x160103
abbrev o1601_PEER_STATE : Nat := 0x160104
abbrev o1601_PEER_LEASE_END : Nat := 0x160105
abbrev o1601_IVARD_PATH : Nat := 0x160106
abbrev o1601_HB_PATH : Nat := 0x160107
abbrev o1601_PEER_CUSTODY : Nat := 0x160108
abbrev o1601_CUSTODY_HELD : Nat := 0x160109
abbrev o1601_MIRROR_STATE : Nat := 0x16010A
abbrev o1601_MIRROR_SEQ_SENT : Nat := 0x16010B
abbrev o1601_MIRROR_SEQ_APPLIED : Nat := 0x16010C
abbrev o1601_MIRROR_LATE : Nat := 0x16010D
abbrev o1601_TAKEOVERS : Nat := 0x16010E
abbrev o1601_LAST_GAP_FRAMES : Nat := 0x16010F
abbrev o1601_LAST_TAKEOVER_FCNT : Nat := 0x160110
abbrev o1601_LINK_RTT_NS : Nat := 0x160111
abbrev PAIR_STATE.unpaired : Int := 0
abbrev PAIR_STATE.listening : Int := 1
abbrev PAIR_STATE.standby : Int := 2
abbrev PAIR_STATE.gap : Int := 3
abbrev PAIR_STATE.active : Int := 4
abbrev PAIR_STATE.releasing : Int := 5
abbrev PEER_STATE.unpaired : Int := 0
abbrev PEER_STATE.listening : Int := 1
abbrev PEER_STATE.standby : Int := 2
abbrev PEER_STATE.gap : Int := 3
abbrev PEER_STATE.active : Int := 4
abbrev PEER_STATE.releasing : Int := 5
abbrev IVARD_PATH.none : Int := 0
abbrev IVARD_PATH.up : Int := 1
abbrev IVARD_PATH.silent : Int := 2
abbrev HB_PATH.up : Int := 0
abbrev HB_PATH.silent : Int := 1
abbrev MIRROR_STATE.current : Int := 0
abbrev MIRROR_STATE.lagging : Int := 1
abbrev MIRROR_STATE.syncing : Int := 2
abbrev MIRROR_STATE.stale : Int := 3
abbrev MIRROR_STATE.off : Int := 4
/-! 1602h -/
abbrev o1602_FCNT_OFFSET : Nat := 0x160201
abbrev o1602_PEER_TICK_OFFSET_NS : Nat := 0x160202
/-! 1603h -/
abbrev o1603_HB_RECEIVED : Nat := 0x160301
abbrev o1603_HB_ERRORS : Nat := 0x160302
abbrev o1603_PATH_LOSSES : Nat := 0x160303
/-! 2000h -/
abbrev o2000_ACTIVE_BANK : Nat := 0x200001
abbrev o2000_ACTIVE_IMAGE_ID : Nat := 0x200002
abbrev o2000_SWAP_COUNT : Nat := 0x200003
abbrev o2000_LAST_SWAP_KIND : Nat := 0x200004
abbrev o2000_LAST_CHANGEOVER_FCNT_TD0 : Nat := 0x200005
abbrev o2000_LAST_CHANGEOVER_FCNT_TD1 : Nat := 0x200006
abbrev o2000_LAST_CHANGEOVER_FCNT_TD2 : Nat := 0x200007
abbrev o2000_LAST_CHANGEOVER_FCNT_TD3 : Nat := 0x200008
abbrev o2000_SWAP_STATE : Nat := 0x200009
abbrev o2000_SWAP_ERROR : Nat := 0x20000A
abbrev ACTIVE_BANK.none : Int := 0
abbrev ACTIVE_BANK.A : Int := 1
abbrev ACTIVE_BANK.B : Int := 2
abbrev LAST_SWAP_KIND.none : Int := 0
abbrev LAST_SWAP_KIND.first : Int := 1
abbrev LAST_SWAP_KIND.compatible : Int := 2
abbrev LAST_SWAP_KIND.dark : Int := 3
abbrev SWAP_STATE.idle : Int := 0
abbrev SWAP_STATE.armed : Int := 1
abbrev SWAP_STATE.changing : Int := 2
abbrev SWAP_STATE.retiring : Int := 3
/-! 2001h -/
abbrev o2001_BANK_STATE : Nat := 0x200101
abbrev o2001_IMAGE_ID : Nat := 0x200102
abbrev o2001_IMAGE_LENGTH : Nat := 0x200103
abbrev o2001_CHECK_RESULT : Nat := 0x200104
abbrev o2001_WORST_MARGIN : Nat := 0x200105
abbrev o2001_SIGNED : Nat := 0x200106
abbrev o2001_PREDECESSOR_MATCH : Nat := 0x200107
abbrev o2001_DOMAINS_USED : Nat := 0x200108
abbrev BANK_STATE.empty : Int := 0
abbrev BANK_STATE.loading : Int := 1
abbrev BANK_STATE.checking : Int := 2
abbrev BANK_STATE.rejected : Int := 3
abbrev BANK_STATE.ready : Int := 4
abbrev BANK_STATE.armed : Int := 5
abbrev BANK_STATE.active : Int := 6
abbrev BANK_STATE.retiring : Int := 7
/-! 2002h -/
abbrev o2002_LOAD_CMD : Nat := 0x200201
abbrev o2002_FLASH_IMAGE : Nat := 0x200202
abbrev o2002_XFER_OFFSET : Nat := 0x200203
abbrev o2002_XFER_DATA : Nat := 0x200204
abbrev o2002_REQUIRE_SIGNATURE : Nat := 0x200205
abbrev o2002_LOAD_TARGET : Nat := 0x200206
abbrev LOAD_CMD.open : Int := 0
abbrev LOAD_CMD.close : Int := 1
abbrev LOAD_CMD.from_flash : Int := 2
abbrev LOAD_CMD.discard : Int := 3
abbrev LOAD_TARGET.none : Int := 0
abbrev LOAD_TARGET.A : Int := 1
abbrev LOAD_TARGET.B : Int := 2
/-! 2003h -/
abbrev o2003_SWAP_CMD : Nat := 0x200301
abbrev o2003_ANCHOR_TD : Nat := 0x200302
abbrev o2003_ANCHOR_FCNT : Nat := 0x200303
abbrev o2003_ALLOW_DARK : Nat := 0x200304
abbrev SWAP_CMD.arm : Int := 0
abbrev SWAP_CMD.disarm : Int := 1
/-! 2005h -/
abbrev o2005_FRAME_CYCLES : Nat := 0x200501
abbrev o2005_SHORT_CYCLE_NS : Nat := 0x200502
abbrev o2005_OVERDRAFTS : Nat := 0x200503
abbrev o2005_OVERDRAFT_FRAMES : Nat := 0x200504
abbrev o2005_OVERDRAFT_LIMIT : Nat := 0x200505
/-! 2006h -/
abbrev o2006_OVERDRAFT_KIND_COUNT : Nat := 0x200601
/-! 2008h -/
abbrev o2008_OWNER_QUERY_ADDR : Nat := 0x200801
abbrev o2008_OWNER_CLASS : Nat := 0x200802
abbrev o2008_OWNER_ID : Nat := 0x200803
abbrev o2008_OWNER_DOMAIN : Nat := 0x200804
abbrev o2008_OWNER_RANGE_BASE : Nat := 0x200805
abbrev o2008_OWNER_RANGE_LEN : Nat := 0x200806
/-! 2100h -/
abbrev o2100_TD_RATE : Nat := 0x210001
abbrev o2100_TD_FAMILY : Nat := 0x210002
abbrev o2100_FCNT : Nat := 0x210003
abbrev o2100_DPLL_STATE : Nat := 0x210004
abbrev o2100_SELECTED_REF : Nat := 0x210005
abbrev o2100_TRACK_BW : Nat := 0x210006
abbrev o2100_ACQ_BW : Nat := 0x210007
abbrev o2100_REVERTIVE : Nat := 0x210008
abbrev o2100_HOLD_WINDOW_S : Nat := 0x210009
abbrev o2100_HOLD_GUARD_S : Nat := 0x21000A
abbrev o2100_FREQ_SLEW_LIMIT : Nat := 0x21000B
abbrev o2100_CONTROL_VALUE : Nat := 0x21000C
abbrev o2100_HOLDOVER_VALUE : Nat := 0x21000D
abbrev o2100_HOLDOVER_QUALITY : Nat := 0x21000E
abbrev o2100_HOLDOVER_SECONDS : Nat := 0x21000F
abbrev o2100_PHASE_SOURCE : Nat := 0x210010
abbrev o2100_TICK_PHASE_OFFSET_NS : Nat := 0x210011
abbrev o2100_REALIGN_CMD : Nat := 0x210012
abbrev o2100_REALIGN_SLEW : Nat := 0x210013
abbrev o2100_REALIGN_STATE : Nat := 0x210014
abbrev o2100_EPOCH_FCNT_OFFSET : Nat := 0x210015
abbrev o2100_PHASE_STEP_THRESHOLD_NS : Nat := 0x210016
abbrev o2100_REF_SWITCHES : Nat := 0x210017
abbrev o2100_LAST_REALIGN_FCNT : Nat := 0x210018
abbrev o2100_REALIGN_RESULT : Nat := 0x210019
abbrev TD_FAMILY.F25 : Int := 0
abbrev TD_FAMILY.F30 : Int := 1
abbrev TD_FAMILY.F1001 : Int := 2
abbrev TD_FAMILY.none : Int := 3
abbrev DPLL_STATE.free_run : Int := 0
abbrev DPLL_STATE.acquiring : Int := 1
abbrev DPLL_STATE.locked : Int := 2
abbrev DPLL_STATE.holdover : Int := 3
abbrev HOLDOVER_QUALITY.none : Int := 0
abbrev HOLDOVER_QUALITY.full : Int := 1
abbrev HOLDOVER_QUALITY.partial : Int := 2
abbrev HOLDOVER_QUALITY.instant : Int := 3
abbrev PHASE_SOURCE.reference : Int := 0
abbrev PHASE_SOURCE.none : Int := 1
abbrev REALIGN_CMD.slew : Int := 0
abbrev REALIGN_CMD.jump : Int := 1
abbrev REALIGN_CMD.stop : Int := 2
abbrev REALIGN_STATE.idle : Int := 0
abbrev REALIGN_STATE.slewing : Int := 1
abbrev REALIGN_STATE.jump_pending : Int := 2
/-! 2101h -/
abbrev o2101_RANK : Nat := 0x210101
abbrev o2101_ELIGIBLE : Nat := 0x210102
abbrev o2101_COMPATIBLE : Nat := 0x210103
/-! 2102h -/
abbrev o2102_FP_MODE : Nat := 0x210201
abbrev o2102_FP_OFFSET_NS : Nat := 0x210202
abbrev o2102_FP_WIDTH_NS : Nat := 0x210203
abbrev o2102_FP_POLARITY : Nat := 0x210204
abbrev FP_MODE.off : Int := 0
abbrev FP_MODE.frame : Int := 1
abbrev FP_MODE.even_frame : Int := 2
abbrev FP_MODE.field : Int := 3
abbrev FP_POLARITY.high : Int := 0
abbrev FP_POLARITY.low : Int := 1
/-! 2200h -/
abbrev o2200_CAND_NAME : Nat := 0x220001
abbrev o2200_CAND_ENABLE : Nat := 0x220002
abbrev o2200_CAND_RATE : Nat := 0x220003
abbrev o2200_REF_LINES : Nat := 0x220004
abbrev o2200_SOURCE_LANE : Nat := 0x220005
abbrev o2200_PPS_USED : Nat := 0x220006
abbrev o2200_CAND_STATE : Nat := 0x220007
abbrev o2200_OFFSET_OSC : Nat := 0x220008
abbrev o2200_OFFSET_ENSEMBLE : Nat := 0x220009
abbrev o2200_BASIS : Nat := 0x22000A
abbrev o2200_WTR_REMAINING_S : Nat := 0x22000B
abbrev o2200_DISQUAL_REASON : Nat := 0x22000C
abbrev o2200_DISQUAL_COUNT : Nat := 0x22000D
abbrev CAND_STATE.disabled : Int := 0
abbrev CAND_STATE.absent : Int := 1
abbrev CAND_STATE.measuring : Int := 2
abbrev CAND_STATE.qualified : Int := 3
abbrev CAND_STATE.restoring : Int := 4
abbrev BASIS.ensemble : Int := 0
abbrev BASIS.oscillator : Int := 1
abbrev BASIS.none : Int := 2
abbrev DISQUAL_REASON.none : Int := 0
abbrev DISQUAL_REASON.loss : Int := 1
abbrev DISQUAL_REASON.hard_limit : Int := 2
abbrev DISQUAL_REASON.oscillator_limit : Int := 3
abbrev DISQUAL_REASON.arbitration : Int := 4
abbrev DISQUAL_REASON.disabled : Int := 5
/-! 2201h -/
abbrev o2201_SOFT_LIMIT_PPB : Nat := 0x220101
abbrev o2201_HARD_LIMIT_PPB : Nat := 0x220102
abbrev o2201_WTR_S : Nat := 0x220103
abbrev o2201_MEAS_WINDOW_S : Nat := 0x220104
abbrev o2201_OSC_ALLOWANCE_PPB : Nat := 0x220105
abbrev o2201_QUALIFIED_COUNT : Nat := 0x220106
abbrev o2201_ENSEMBLE_ACTIVE : Nat := 0x220107
abbrev o2201_WTR_CLEAR : Nat := 0x220108
/-! 2300h -/
abbrev o2300_TIME_SECONDS : Nat := 0x230001
abbrev o2300_TIME_NS : Nat := 0x230002
abbrev o2300_TIME_FRAC : Nat := 0x230003
abbrev o2300_UTC_OFFSET : Nat := 0x230004
abbrev o2300_UTC_OFFSET_VALID : Nat := 0x230005
/-! 2301h -/
abbrev o2301_CLOCK_STATE : Nat := 0x230101
abbrev o2301_SERVO_OWNER : Nat := 0x230102
abbrev o2301_INCREMENT : Nat := 0x230103
abbrev o2301_TIME_ADJUST_NS : Nat := 0x230104
abbrev o2301_STEP_THRESHOLD_NS : Nat := 0x230105
abbrev o2301_SERVO_BW : Nat := 0x230106
abbrev o2301_OFFSET_NS : Nat := 0x230107
abbrev o2301_MEAN_PATH_DELAY_NS : Nat := 0x230108
abbrev o2301_STEP_COUNT : Nat := 0x230109
abbrev o2301_LEADER_ID : Nat := 0x23010A
abbrev o2301_LEADER_PORT : Nat := 0x23010B
abbrev o2301_LEADER_CHANGES : Nat := 0x23010C
abbrev CLOCK_STATE.listening : Int := 0
abbrev CLOCK_STATE.acquiring : Int := 1
abbrev CLOCK_STATE.following : Int := 2
abbrev CLOCK_STATE.free_run : Int := 3
abbrev SERVO_OWNER.firmware : Int := 0
abbrev SERVO_OWNER.host : Int := 1
/-! 2302h -/
abbrev o2302_PTP_DOMAIN : Nat := 0x230201
abbrev o2302_LOG_ANNOUNCE_INTERVAL : Nat := 0x230202
abbrev o2302_LOG_SYNC_INTERVAL : Nat := 0x230203
abbrev o2302_LOG_DELAY_REQ_INTERVAL : Nat := 0x230204
abbrev o2302_ANNOUNCE_TIMEOUT : Nat := 0x230205
abbrev o2302_IP_VERSION : Nat := 0x230206
abbrev o2302_DELAY_MODE : Nat := 0x230207
abbrev o2302_MONITOR_DOMAINS : Nat := 0x230208
abbrev IP_VERSION.IPv4 : Int := 0
abbrev IP_VERSION.IPv6 : Int := 1
abbrev DELAY_MODE.multicast : Int := 0
abbrev DELAY_MODE.hybrid : Int := 1
/-! 2303h -/
abbrev o2303_PTP_LANE : Nat := 0x230301
abbrev o2303_PORT_STATE : Nat := 0x230302
abbrev o2303_ASYMMETRY_NS : Nat := 0x230303
abbrev o2303_SYNC_RECEIVED : Nat := 0x230304
abbrev o2303_ANNOUNCE_TIMEOUTS : Nat := 0x230305
abbrev PORT_STATE.disabled : Int := 0
abbrev PORT_STATE.listening : Int := 1
abbrev PORT_STATE.slave : Int := 2
abbrev PORT_STATE.faulty : Int := 3
/-! 2310h -/
abbrev o2310_PTQ_POP : Nat := 0x231001
abbrev o2310_PTQ_FILL : Nat := 0x231002
abbrev o2310_PTQ_OVERFLOW : Nat := 0x231003
abbrev o2310_PTQ_DISCARDS : Nat := 0x231004
/-! 2311h -/
abbrev o2311_MATCH_QUEUE : Nat := 0x231101
abbrev o2311_MATCH_LANE : Nat := 0x231102
abbrev o2311_MATCH_SEQ : Nat := 0x231103
abbrev o2311_MATCH_RESULT : Nat := 0x231104
/-! 3000h -/
abbrev o3000_LANE_MODE : Nat := 0x300001
abbrev o3000_DIRECTION : Nat := 0x300002
abbrev o3000_FEC_MODE : Nat := 0x300003
abbrev o3000_LINK_TRAINING : Nat := 0x300004
abbrev o3000_TX_SWING_MV : Nat := 0x300005
abbrev o3000_TX_TAP_CM2 : Nat := 0x300006
abbrev o3000_TX_TAP_CM1 : Nat := 0x300007
abbrev o3000_TX_TAP_C0 : Nat := 0x300008
abbrev o3000_TX_TAP_CP1 : Nat := 0x300009
abbrev o3000_TX_TAP_CP2 : Nat := 0x30000A
abbrev o3000_TX_FFE_SOURCE : Nat := 0x30000B
abbrev o3000_RX_ADAPT : Nat := 0x30000C
abbrev o3000_CTLE_CODE : Nat := 0x30000D
abbrev o3000_CDR_BW : Nat := 0x30000E
abbrev o3000_RX_INVERT : Nat := 0x30000F
abbrev o3000_TX_INVERT : Nat := 0x300010
abbrev o3000_TEST_MODE : Nat := 0x300011
abbrev o3000_PRBS_PATTERN : Nat := 0x300012
abbrev o3000_PRBS_DIR : Nat := 0x300013
abbrev o3000_EYE_WARN_Q : Nat := 0x300014
abbrev o3000_ADAPT_RESET_Q : Nat := 0x300015
abbrev o3000_LOCK_TIMEOUT_MS : Nat := 0x300016
abbrev LANE_MODE.off : Int := 0
abbrev LANE_MODE.sdi_1_5 : Int := 1
abbrev LANE_MODE.sdi_3 : Int := 2
abbrev LANE_MODE.sdi_6 : Int := 3
abbrev LANE_MODE.sdi_12 : Int := 4
abbrev LANE_MODE.sdi_auto : Int := 5
abbrev LANE_MODE.m10gbase_r : Int := 6
abbrev LANE_MODE.m25gbase_r : Int := 7
abbrev LANE_MODE.m50gbase_r : Int := 8
abbrev LANE_MODE.m100gbase_kr1 : Int := 9
abbrev LANE_MODE.m100gbase_cr1 : Int := 10
abbrev LANE_MODE.ivard : Int := 11
abbrev DIRECTION.both : Int := 0
abbrev DIRECTION.rx : Int := 1
abbrev DIRECTION.tx : Int := 2
abbrev FEC_MODE.none : Int := 0
abbrev FEC_MODE.rs_528 : Int := 1
abbrev FEC_MODE.rs_544 : Int := 2
abbrev TX_FFE_SOURCE.preset : Int := 0
abbrev TX_FFE_SOURCE.manual : Int := 1
abbrev TX_FFE_SOURCE.trained : Int := 2
abbrev RX_ADAPT.continuous : Int := 0
abbrev RX_ADAPT.frozen : Int := 1
abbrev RX_ADAPT.manual : Int := 2
abbrev TEST_MODE.none : Int := 0
abbrev TEST_MODE.prbs : Int := 1
abbrev TEST_MODE.loop_serial : Int := 2
abbrev TEST_MODE.loop_far : Int := 3
abbrev TEST_MODE.loop_parallel : Int := 4
abbrev PRBS_PATTERN.PRBS7 : Int := 0
abbrev PRBS_PATTERN.PRBS9 : Int := 1
abbrev PRBS_PATTERN.PRBS15 : Int := 2
abbrev PRBS_PATTERN.PRBS23 : Int := 3
abbrev PRBS_PATTERN.PRBS31 : Int := 4
abbrev PRBS_PATTERN.PRBS13Q : Int := 5
abbrev PRBS_PATTERN.PRBS31Q : Int := 6
abbrev PRBS_DIR.tx : Int := 0
abbrev PRBS_DIR.rx : Int := 1
abbrev PRBS_DIR.both : Int := 2
/-! 3100h -/
abbrev o3100_LANE_STATE : Nat := 0x310001
abbrev o3100_RATE_FOUND : Nat := 0x310002
abbrev o3100_FREQ_OFFSET_PPB : Nat := 0x310003
abbrev o3100_EYE_Q : Nat := 0x310004
abbrev o3100_CTLE_ACTIVE : Nat := 0x310005
abbrev o3100_DFE_TAPS : Nat := 0x310006
abbrev o3100_TX_TAPS_ACTIVE : Nat := 0x310007
abbrev o3100_LOCKS : Nat := 0x310008
abbrev o3100_LOCK_LOSSES : Nat := 0x310009
abbrev o3100_INVALID_HEADERS : Nat := 0x31000A
abbrev o3100_HI_BER : Nat := 0x31000B
abbrev o3100_FEC_CORRECTED : Nat := 0x31000C
abbrev o3100_FEC_UNCORRECTED : Nat := 0x31000D
abbrev o3100_SDI_CRC_LINES : Nat := 0x31000E
abbrev o3100_TRS_RELOCKS : Nat := 0x31000F
abbrev o3100_PRBS_LOCKED : Nat := 0x310010
abbrev o3100_PRBS_BITS : Nat := 0x310011
abbrev o3100_PRBS_ERRORS : Nat := 0x310012
abbrev o3100_RX_LATENCY_NS : Nat := 0x310013
abbrev o3100_TX_LATENCY_NS : Nat := 0x310014
abbrev o3100_ADAPT_RESETS : Nat := 0x310015
abbrev o3100_TX_STATE : Nat := 0x310016
abbrev o3100_TX_CLOCK_DOMAIN : Nat := 0x310017
abbrev LANE_STATE.unpowered : Int := 0
abbrev LANE_STATE.test : Int := 1
abbrev LANE_STATE.off : Int := 2
abbrev LANE_STATE.acquiring : Int := 3
abbrev LANE_STATE.aligning : Int := 4
abbrev LANE_STATE.up : Int := 5
abbrev LANE_STATE.hi_ber : Int := 6
abbrev RATE_FOUND.none : Int := 0
abbrev RATE_FOUND.sdi_1_485 : Int := 1
abbrev RATE_FOUND.sdi_1_485_1_001 : Int := 2
abbrev RATE_FOUND.sdi_2_97 : Int := 3
abbrev RATE_FOUND.sdi_2_97_1_001 : Int := 4
abbrev RATE_FOUND.sdi_5_94 : Int := 5
abbrev RATE_FOUND.sdi_5_94_1_001 : Int := 6
abbrev RATE_FOUND.sdi_11_88 : Int := 7
abbrev RATE_FOUND.sdi_11_88_1_001 : Int := 8
abbrev RATE_FOUND.m10gbase_r : Int := 9
abbrev RATE_FOUND.m25gbase_r : Int := 10
abbrev RATE_FOUND.m50gbase_r : Int := 11
abbrev RATE_FOUND.m100gbase_kr1 : Int := 12
abbrev RATE_FOUND.m100gbase_cr1 : Int := 13
abbrev RATE_FOUND.ivard : Int := 14
abbrev TX_STATE.off : Int := 0
abbrev TX_STATE.idle : Int := 1
abbrev TX_STATE.running : Int := 2
/-! 3400h -/
abbrev o3400_ENGINE_STATE : Nat := 0x340001
abbrev o3400_ENGINE_FLOWS_ACTIVE : Nat := 0x340002
abbrev ENGINE_STATE.off : Int := 0
abbrev ENGINE_STATE.running : Int := 1
abbrev ENGINE_STATE.fault : Int := 2
/-! 3401h -/
abbrev o3401_FLOWS_ACTIVE : Nat := 0x340101
abbrev o3401_FLOWS_UNCLAIMED : Nat := 0x340102
abbrev o3401_FLOW_LIMIT : Nat := 0x340103
abbrev o3401_TIMESTAMP_BASIS : Nat := 0x340104
abbrev o3401_FIRMWARE_RATE_LIMIT : Nat := 0x340105
abbrev TIMESTAMP_BASIS.synchronised : Int := 0
abbrev TIMESTAMP_BASIS.free_run : Int := 1
abbrev TIMESTAMP_BASIS.unsynchronised : Int := 2
/-! 3500h -/
abbrev o3500_MAC_ADDR : Nat := 0x350001
abbrev o3500_IPV4_ADDR : Nat := 0x350002
abbrev o3500_IPV4_PREFIX : Nat := 0x350003
abbrev o3500_IPV4_GATEWAY : Nat := 0x350004
abbrev o3500_IPV6_ADDR : Nat := 0x350005
abbrev o3500_IPV6_PREFIX : Nat := 0x350006
abbrev o3500_VLAN_ID : Nat := 0x350007
abbrev o3500_MTU : Nat := 0x350008
/-! 3510h -/
abbrev o3510_RX_FRAMES : Nat := 0x351001
abbrev o3510_RX_ADDR_DROPS : Nat := 0x351002
abbrev o3510_RX_VLAN_DROPS : Nat := 0x351003
abbrev o3510_RX_IP_ERRORS : Nat := 0x351004
abbrev o3510_RX_TO_FIRMWARE : Nat := 0x351005
abbrev o3510_RX_FIRMWARE_DROPS : Nat := 0x351006
abbrev o3510_UNCLAIMED_PACKETS : Nat := 0x351007
abbrev o3510_JOINS_SENT : Nat := 0x351008
abbrev o3510_LEAVES_SENT : Nat := 0x351009
/-! 3540h -/
abbrev o3540_SDI_IN_ENDPOINT : Nat := 0x354001
abbrev o3540_SDI_IN_LINKS : Nat := 0x354002
abbrev o3540_LINK_LANES : Nat := 0x354003
abbrev o3540_AUDIO_BASE_CH : Nat := 0x354004
abbrev o3540_AUDIO_CHANNELS : Nat := 0x354005
abbrev o3540_PAYLOAD_ID_CHECK : Nat := 0x354006
abbrev o3540_LOSS_HOLD_FRAMES : Nat := 0x354007
abbrev o3540_SDI_IN_STATE : Nat := 0x354008
abbrev o3540_PAYLOAD_ID : Nat := 0x354009
abbrev o3540_LINK_SKEW_NS : Nat := 0x35400A
abbrev o3540_SDI_FRAMES : Nat := 0x35400B
abbrev o3540_SDI_LINES_CONCEALED : Nat := 0x35400C
abbrev PAYLOAD_ID_CHECK.enforce : Int := 0
abbrev PAYLOAD_ID_CHECK.ignore : Int := 1
abbrev SDI_IN_STATE.not_planned : Int := 0
abbrev SDI_IN_STATE.lost : Int := 1
abbrev SDI_IN_STATE.locking : Int := 2
abbrev SDI_IN_STATE.present : Int := 3
abbrev SDI_IN_STATE.format_mismatch : Int := 4
/-! 3580h -/
abbrev o3580_SDI_OUT_ENDPOINT : Nat := 0x358001
abbrev o3580_SDI_OUT_LINKS : Nat := 0x358002
abbrev o3580_OUT_AUDIO_BASE_CH : Nat := 0x358003
abbrev o3580_OUT_AUDIO_CHANNELS : Nat := 0x358004
abbrev o3580_INSERT_PAYLOAD_ID : Nat := 0x358005
/-! 3600h -/
abbrev o3600_FLOW_ENABLE : Nat := 0x360001
abbrev o3600_FLOW_KIND : Nat := 0x360002
abbrev o3600_ENDPOINT : Nat := 0x360003
abbrev o3600_FLOW_AUDIO_BASE_CH : Nat := 0x360004
abbrev o3600_FLOW_AUDIO_CHANNELS : Nat := 0x360005
abbrev o3600_LANE_P : Nat := 0x360006
abbrev o3600_LANE_S : Nat := 0x360007
abbrev o3600_DEST_ADDR_P : Nat := 0x360008
abbrev o3600_SRC_ADDR_P : Nat := 0x360009
abbrev o3600_UDP_PORT_P : Nat := 0x36000A
abbrev o3600_DEST_ADDR_S : Nat := 0x36000B
abbrev o3600_SRC_ADDR_S : Nat := 0x36000C
abbrev o3600_UDP_PORT_S : Nat := 0x36000D
abbrev o3600_PAYLOAD_TYPE : Nat := 0x36000E
abbrev o3600_SKEW_WINDOW_US : Nat := 0x36000F
abbrev o3600_LOSS_TIMEOUT_MS : Nat := 0x360010
abbrev o3600_LEG_TIMEOUT_MS : Nat := 0x360011
abbrev o3600_FLOW_LOSS_HOLD_FRAMES : Nat := 0x360012
abbrev o3600_AUDIO_PLACEMENT : Nat := 0x360013
abbrev o3600_PLAYOUT_CYCLES : Nat := 0x360014
abbrev o3600_FLOW_STATE : Nat := 0x360015
abbrev o3600_LEG_STATE_P : Nat := 0x360016
abbrev o3600_LEG_STATE_S : Nat := 0x360017
abbrev FLOW_KIND.st2110_20 : Int := 0
abbrev FLOW_KIND.st2110_22 : Int := 1
abbrev FLOW_KIND.st2110_30 : Int := 2
abbrev FLOW_KIND.st2110_31 : Int := 3
abbrev FLOW_KIND.st2110_40 : Int := 4
abbrev FLOW_KIND.st2022_6 : Int := 5
abbrev AUDIO_PLACEMENT.timestamp : Int := 0
abbrev AUDIO_PLACEMENT.arrival : Int := 1
abbrev FLOW_STATE.disabled : Int := 0
abbrev FLOW_STATE.unclaimed : Int := 1
abbrev FLOW_STATE.joining : Int := 2
abbrev FLOW_STATE.locking : Int := 3
abbrev FLOW_STATE.present : Int := 4
abbrev FLOW_STATE.lost : Int := 5
abbrev FLOW_STATE.format_mismatch : Int := 6
abbrev FLOW_STATE.not_planned : Int := 7
abbrev LEG_STATE_P.none : Int := 0
abbrev LEG_STATE_P.silent : Int := 1
abbrev LEG_STATE_P.receiving : Int := 2
abbrev LEG_STATE_P.lost : Int := 3
abbrev LEG_STATE_S.none : Int := 0
abbrev LEG_STATE_S.silent : Int := 1
abbrev LEG_STATE_S.receiving : Int := 2
abbrev LEG_STATE_S.lost : Int := 3
/-! 3620h -/
abbrev o3620_PACKETS_P : Nat := 0x362001
abbrev o3620_PACKETS_S : Nat := 0x362002
abbrev o3620_BYTES_WRITTEN : Nat := 0x362003
abbrev o3620_DUPLICATES : Nat := 0x362004
abbrev o3620_LATE_DISCARDS : Nat := 0x362005
abbrev o3620_LEG_GAPS_P : Nat := 0x362006
abbrev o3620_LEG_GAPS_S : Nat := 0x362007
abbrev o3620_MERGED_GAPS : Nat := 0x362008
abbrev o3620_LINES_CONCEALED : Nat := 0x362009
abbrev o3620_FRAMES : Nat := 0x36200A
abbrev o3620_PT_DISCARDS : Nat := 0x36200B
abbrev o3620_FORMAT_ERRORS : Nat := 0x36200C
abbrev o3620_SKEW_NS : Nat := 0x36200D
abbrev o3620_TS_OFFSET_NS_P : Nat := 0x36200E
abbrev o3620_TS_OFFSET_NS_S : Nat := 0x36200F
abbrev o3620_LAST_SSRC : Nat := 0x362010
abbrev o3620_SSRC_CHANGES : Nat := 0x362011
abbrev o3620_AUDIO_LATE_BLOCKS : Nat := 0x362012
abbrev o3620_AUDIO_SLIPS : Nat := 0x362013
abbrev o3620_ROW_UNCLAIMED_PACKETS : Nat := 0x362014
/-! 3700h -/
abbrev o3700_TX_ENABLE : Nat := 0x370001
abbrev o3700_TX_KIND : Nat := 0x370002
abbrev o3700_TX_ENDPOINT : Nat := 0x370003
abbrev o3700_TX_LANE_P : Nat := 0x370004
abbrev o3700_TX_LANE_S : Nat := 0x370005
abbrev o3700_SENDER_TYPE : Nat := 0x370006
abbrev o3700_PACKET_LAYOUT : Nat := 0x370007
abbrev o3700_TX_DEST_ADDR_P : Nat := 0x370008
abbrev o3700_TX_DEST_PORT_P : Nat := 0x370009
abbrev o3700_TX_SRC_PORT_P : Nat := 0x37000A
abbrev o3700_TX_DEST_ADDR_S : Nat := 0x37000B
abbrev o3700_TX_DEST_PORT_S : Nat := 0x37000C
abbrev o3700_TX_SRC_PORT_S : Nat := 0x37000D
abbrev o3700_TX_PAYLOAD_TYPE : Nat := 0x37000E
abbrev o3700_SSRC : Nat := 0x37000F
abbrev o3700_DSCP : Nat := 0x370010
abbrev o3700_TTL : Nat := 0x370011
abbrev o3700_RTP_TS_ADJUST : Nat := 0x370012
abbrev o3700_TX_STATE : Nat := 0x370013
abbrev TX_KIND.st2110_20 : Int := 0
abbrev TX_KIND.st2110_22 : Int := 1
abbrev TX_KIND.st2110_30 : Int := 2
abbrev TX_KIND.st2110_31 : Int := 3
abbrev TX_KIND.st2110_40 : Int := 4
abbrev TX_KIND.st2022_6 : Int := 5
abbrev TX_KIND.ts : Int := 6
abbrev TX_KIND.none : Int := 7
abbrev SENDER_TYPE.N : Int := 0
abbrev SENDER_TYPE.NL : Int := 1
abbrev SENDER_TYPE.W : Int := 2
abbrev SENDER_TYPE.none : Int := 3
abbrev TX_STATE_3700.not_planned : Int := 0
abbrev TX_STATE_3700.off : Int := 1
abbrev TX_STATE_3700.sending : Int := 2
/-! 3720h -/
abbrev o3720_TX_PACKETS : Nat := 0x372001
abbrev o3720_TX_BYTES : Nat := 0x372002
abbrev o3720_TX_FRAMES : Nat := 0x372003
/-! 3800h -/
abbrev o3800_EG_PORT_STATE : Nat := 0x380001
abbrev o3800_MAC_RATE_MBPS : Nat := 0x380002
abbrev o3800_PACED_ROWS : Nat := 0x380003
abbrev o3800_TX_DISCARDS : Nat := 0x380004
abbrev EG_PORT_STATE.off : Int := 0
abbrev EG_PORT_STATE.running : Int := 1
abbrev EG_PORT_STATE.blocked : Int := 2
/-! 3801h -/
abbrev o3801_CLASS_MODE : Nat := 0x380101
abbrev o3801_CLASS_RATE_KBPS : Nat := 0x380102
abbrev o3801_BURST_CEILING : Nat := 0x380103
abbrev o3801_CREDIT : Nat := 0x380104
abbrev o3801_HELD_FRAMES : Nat := 0x380105
abbrev o3801_TOO_LONG_DISCARDS : Nat := 0x380106
abbrev o3801_CLASS_FRAMES : Nat := 0x380107
abbrev o3801_CLASS_BYTES : Nat := 0x380108
abbrev CLASS_MODE.unused : Int := 0
abbrev CLASS_MODE.paced : Int := 1
abbrev CLASS_MODE.shaped : Int := 2
abbrev CLASS_MODE.firmware : Int := 3
/-! 3802h -/
abbrev o3802_QUANTUM : Nat := 0x380201
abbrev o3802_DEFICIT : Nat := 0x380202
abbrev o3802_QUEUE_LIMIT : Nat := 0x380203
abbrev o3802_QUEUE_FILL : Nat := 0x380204
abbrev o3802_QUEUE_DROPS : Nat := 0x380205
abbrev o3802_QUEUE_SOURCE : Nat := 0x380206
/-! 3810h -/
abbrev o3810_GATE_ENABLED : Nat := 0x381001
abbrev o3810_ADMIN_BASE_S : Nat := 0x381002
abbrev o3810_ADMIN_BASE_NS : Nat := 0x381003
abbrev o3810_ADMIN_CYCLE_NS : Nat := 0x381004
abbrev o3810_ADMIN_LENGTH : Nat := 0x381005
abbrev o3810_CONFIG_CHANGE : Nat := 0x381006
abbrev o3810_CONFIG_PENDING : Nat := 0x381007
abbrev o3810_CONFIG_CHANGE_S : Nat := 0x381008
abbrev o3810_CONFIG_CHANGE_NS : Nat := 0x381009
abbrev o3810_START_SHIFTED : Nat := 0x38100A
abbrev o3810_SHIFT_COUNT : Nat := 0x38100B
abbrev o3810_GATE_RESTARTS : Nat := 0x38100C
abbrev o3810_OPER_CYCLE_NS : Nat := 0x38100D
abbrev o3810_OPER_LENGTH : Nat := 0x38100E
abbrev o3810_CURRENT_ENTRY : Nat := 0x38100F
abbrev CONFIG_CHANGE.apply : Int := 0
abbrev CONFIG_CHANGE.cancel : Int := 1
/-! 3811h -/
abbrev o3811_ADMIN_GATE_STATES : Nat := 0x381101
abbrev o3811_ADMIN_INTERVAL_NS : Nat := 0x381102
/-! 3812h -/
abbrev o3812_OPER_GATE_STATES : Nat := 0x381201
abbrev o3812_OPER_INTERVAL_NS : Nat := 0x381202
/-! 3820h -/
abbrev o3820_PACED : Nat := 0x382001
abbrev o3820_TRO_NS : Nat := 0x382002
abbrev o3820_TDRAIN_PS : Nat := 0x382003
abbrev o3820_PACKETS_PER_FRAME : Nat := 0x382004
abbrev o3820_EG_CLASS : Nat := 0x382005
abbrev o3820_EG_QUEUE : Nat := 0x382006
abbrev o3820_NULL_PACKETS : Nat := 0x382007
/-! 4000h -/
abbrev o4000_ROUTE_DEST : Nat := 0x400001
abbrev o4000_ROUTE_SRC : Nat := 0x400002
abbrev o4000_ROUTE_CMD : Nat := 0x400003
abbrev o4000_ROUTE_RESULT : Nat := 0x400004
abbrev ROUTE_CMD.take : Int := 0
/-! 4001h -/
abbrev o4001_SRC_QSLOTS_USED : Nat := 0x400101
abbrev o4001_DEST_QSLOTS_USED : Nat := 0x400102
/-! 4002h -/
abbrev o4002_DEST_ENDPOINT : Nat := 0x400201
abbrev o4002_DEST_DOMAIN : Nat := 0x400202
abbrev o4002_DEST_FORMAT : Nat := 0x400203
abbrev o4002_SWITCH_LINE : Nat := 0x400204
abbrev o4002_CURRENT_SOURCE : Nat := 0x400205
abbrev o4002_PENDING_SOURCE : Nat := 0x400206
abbrev o4002_APPLIED_FCNT : Nat := 0x400207
abbrev o4002_ROUTE_PATH : Nat := 0x400208
abbrev o4002_SYNC_DELAY_NS : Nat := 0x400209
abbrev o4002_SYNC_REPEATS : Nat := 0x40020A
abbrev o4002_SYNC_DROPS : Nat := 0x40020B
abbrev o4002_AFV_BASE_CH : Nat := 0x40020C
abbrev o4002_AFV_COUNT : Nat := 0x40020D
abbrev o4002_AFV_CROSSFADE : Nat := 0x40020E
abbrev o4002_ANC_MODE : Nat := 0x40020F
abbrev o4002_ANC_REPEAT : Nat := 0x400210
abbrev o4002_ROUTE_TAKES : Nat := 0x400211
abbrev o4002_SUPERSEDED : Nat := 0x400212
abbrev ROUTE_PATH.direct : Int := 0
abbrev ROUTE_PATH.frame_sync : Int := 1
abbrev ROUTE_PATH.converter : Int := 2
abbrev ANC_MODE.follow : Int := 0
abbrev ANC_MODE.none : Int := 1
abbrev ANC_REPEAT.omit_captions : Int := 0
abbrev ANC_REPEAT.repeat_all : Int := 1
abbrev ANC_REPEAT.omit_all : Int := 2
/-! 4003h -/
abbrev o4003_ALIGN_MODE : Nat := 0x400301
abbrev o4003_ALIGN_DEPTH : Nat := 0x400302
abbrev o4003_ALIGN_STATE : Nat := 0x400303
abbrev o4003_ARRIVAL_OFFSET_NS : Nat := 0x400304
abbrev o4003_ALIGN_DELAY_NS : Nat := 0x400305
abbrev o4003_OFFTIME_FRAMES : Nat := 0x400306
abbrev o4003_ALIGN_REPEATS : Nat := 0x400307
abbrev o4003_ALIGN_DROPS : Nat := 0x400308
abbrev o4003_SRC_AUDIO_BASE : Nat := 0x400309
abbrev o4003_SRC_AUDIO_COUNT : Nat := 0x40030A
abbrev ALIGN_MODE.none : Int := 0
abbrev ALIGN_MODE.line : Int := 1
abbrev ALIGN_MODE.frame_1 : Int := 2
abbrev ALIGN_MODE.frame_2 : Int := 3
abbrev ALIGN_STATE.not_planned : Int := 0
abbrev ALIGN_STATE.no_input : Int := 1
abbrev ALIGN_STATE.in_window : Int := 2
abbrev ALIGN_STATE.off_time : Int := 3
abbrev ALIGN_STATE.synchronised : Int := 4
/-! 4010h -/
abbrev o4010_SALVO_LENGTH : Nat := 0x401001
abbrev o4010_SALVO_STATE : Nat := 0x401002
abbrev o4010_SALVO_CMD : Nat := 0x401003
abbrev o4010_SALVO_ANCHOR_TD : Nat := 0x401004
abbrev o4010_SALVO_ANCHOR_FCNT : Nat := 0x401005
abbrev o4010_SALVO_ERROR : Nat := 0x401006
abbrev o4010_SALVO_ERROR_ENTRY : Nat := 0x401007
abbrev o4010_SALVO_LATE : Nat := 0x401008
abbrev SALVO_STATE.empty : Int := 0
abbrev SALVO_STATE.loaded : Int := 1
abbrev SALVO_STATE.pending : Int := 2
abbrev SALVO_STATE.applied : Int := 3
abbrev SALVO_STATE.refused : Int := 4
abbrev SALVO_CMD.take : Int := 0
abbrev SALVO_CMD.clear : Int := 1
/-! 4011h -/
abbrev o4011_SALVO_ENTRY : Nat := 0x401101
/-! 4100h -/
abbrev o4100_AUD_DEST_CH : Nat := 0x410001
abbrev o4100_AUD_SRC_CH : Nat := 0x410002
abbrev o4100_AUD_COUNT : Nat := 0x410003
abbrev o4100_AUD_FADE : Nat := 0x410004
abbrev o4100_AUD_CMD : Nat := 0x410005
abbrev o4100_AUD_RESULT : Nat := 0x410006
abbrev AUD_CMD.take : Int := 0
/-! 4101h -/
abbrev o4101_AUD_SOURCE : Nat := 0x410101
abbrev o4101_AUD_PENDING : Nat := 0x410102
abbrev o4101_AUD_FADE_STATE : Nat := 0x410103
abbrev o4101_AUD_DEST_RATE : Nat := 0x410104
abbrev o4101_AUD_TAKES : Nat := 0x410105
abbrev AUD_FADE_STATE.steady : Int := 0
abbrev AUD_FADE_STATE.fading : Int := 1
abbrev AUD_FADE_STATE.waiting : Int := 2
abbrev AUD_DEST_RATE.none : Int := 0
abbrev AUD_DEST_RATE.m48k : Int := 1
abbrev AUD_DEST_RATE.m96k : Int := 2
/-! 4102h -/
abbrev o4102_SRC_RATE : Nat := 0x410201
abbrev o4102_SRC_NONPCM : Nat := 0x410202
abbrev o4102_SRC_LOCKED : Nat := 0x410203
abbrev o4102_SRC_SLIPS : Nat := 0x410204
abbrev SRC_RATE.none : Int := 0
abbrev SRC_RATE.m48k : Int := 1
abbrev SRC_RATE.m96k : Int := 2
/-! 4200h -/
abbrev o4200_TASKS_IN_USE : Nat := 0x420001
abbrev o4200_TASKS_WAITING : Nat := 0x420002
abbrev o4200_TASKS_READY : Nat := 0x420003
abbrev o4200_TASKS_DISPATCHED : Nat := 0x420004
abbrev o4200_BUSY_REFUSALS : Nat := 0x420005
abbrev o4200_LATE_DISPATCHES : Nat := 0x420006
abbrev o4200_EXPIRED : Nat := 0x420007
abbrev o4200_CANCELLED_BEFORE_DISPATCH : Nat := 0x420008
abbrev o4200_DISPATCHES : Nat := 0x420009
abbrev o4200_SESSION_TASK_LIMIT : Nat := 0x42000A
/-! 4201h -/
abbrev o4201_TASK_KIND : Nat := 0x420101
abbrev o4201_KEY_TYPE : Nat := 0x420102
abbrev o4201_KEY_TD : Nat := 0x420103
abbrev o4201_KEY_FCNT : Nat := 0x420104
abbrev o4201_KEY_CYCLE : Nat := 0x420105
abbrev o4201_KEY_TIME_S : Nat := 0x420106
abbrev o4201_KEY_TIME_NS : Nat := 0x420107
abbrev o4201_PRIORITY : Nat := 0x420108
abbrev o4201_LATE_POLICY : Nat := 0x420109
abbrev o4201_TARGET : Nat := 0x42010A
abbrev o4201_VALUE : Nat := 0x42010B
abbrev o4201_TASK_CMD : Nat := 0x42010C
abbrev o4201_CMD_HANDLE : Nat := 0x42010D
abbrev o4201_CMD_RESULT : Nat := 0x42010E
abbrev TASK_KIND.route : Int := 0
abbrev TASK_KIND.salvo : Int := 1
abbrev TASK_KIND.write : Int := 2
abbrev TASK_KIND.notify : Int := 3
abbrev KEY_TYPE.frame : Int := 0
abbrev KEY_TYPE.time : Int := 1
abbrev LATE_POLICY.dispatch : Int := 0
abbrev LATE_POLICY.discard : Int := 1
abbrev TASK_CMD.create : Int := 0
abbrev TASK_CMD.cancel : Int := 1
/-! 4202h -/
abbrev o4202_TASK_STATE : Nat := 0x420201
abbrev o4202_TASK_HANDLE : Nat := 0x420202
abbrev o4202_TASK_KIND_READ : Nat := 0x420203
abbrev o4202_TASK_KEY_TYPE : Nat := 0x420204
abbrev o4202_TASK_KEY_TD : Nat := 0x420205
abbrev o4202_TASK_KEY_FCNT : Nat := 0x420206
abbrev o4202_TASK_KEY_CYCLE : Nat := 0x420207
abbrev o4202_TASK_KEY_TIME_S : Nat := 0x420208
abbrev o4202_TASK_KEY_TIME_NS : Nat := 0x420209
abbrev o4202_TASK_PRIORITY : Nat := 0x42020A
abbrev o4202_OWNER_PORT : Nat := 0x42020B
abbrev o4202_CANCEL_REQUESTED : Nat := 0x42020C
abbrev o4202_DISPATCH_S : Nat := 0x42020D
abbrev o4202_DISPATCH_NS : Nat := 0x42020E
abbrev o4202_LATE : Nat := 0x42020F
abbrev o4202_LATE_FRAMES : Nat := 0x420210
abbrev o4202_LATENESS_NS : Nat := 0x420211
abbrev o4202_OUTCOME : Nat := 0x420212
abbrev o4202_END_REASON : Nat := 0x420213
abbrev TASK_STATE.free : Int := 0
abbrev TASK_STATE.waiting : Int := 1
abbrev TASK_STATE.ready : Int := 2
abbrev TASK_STATE.dispatched : Int := 3
abbrev TASK_STATE.done : Int := 4
abbrev TASK_STATE.failed : Int := 5
abbrev TASK_STATE.cancelled : Int := 6
abbrev TASK_STATE.expired : Int := 7
abbrev TASK_KIND_READ.route : Int := 0
abbrev TASK_KIND_READ.salvo : Int := 1
abbrev TASK_KIND_READ.salvo_anchor : Int := 2
abbrev TASK_KIND_READ.write : Int := 3
abbrev TASK_KIND_READ.notify : Int := 4
abbrev TASK_KEY_TYPE.frame : Int := 0
abbrev TASK_KEY_TYPE.time : Int := 1
abbrev OWNER_PORT.CP0 : Int := 0
abbrev OWNER_PORT.CP1 : Int := 1
abbrev OWNER_PORT.CP2 : Int := 2
abbrev OWNER_PORT.CP3 : Int := 3
abbrev OWNER_PORT.SVC : Int := 4
abbrev OWNER_PORT.none : Int := 5
abbrev END_REASON.none : Int := 0
abbrev END_REASON.completed : Int := 1
abbrev END_REASON.refused_by_worker : Int := 2
abbrev END_REASON.cancelled_before_dispatch : Int := 3
abbrev END_REASON.expired : Int := 4
/-! 4203h -/
abbrev o4203_WORKER_CLASS : Nat := 0x420301
abbrev o4203_WORKERS : Nat := 0x420302
abbrev o4203_WORKERS_BLOCKED : Nat := 0x420303
abbrev o4203_READY_DEPTH : Nat := 0x420304
abbrev o4203_CLASS_DISPATCHES : Nat := 0x420305
abbrev WORKER_CLASS.fabric : Int := 0
abbrev WORKER_CLASS.encoder : Int := 1
abbrev WORKER_CLASS.compositor : Int := 2
abbrev WORKER_CLASS.dictionary : Int := 3
abbrev WORKER_CLASS.notify : Int := 4
/-! 5000h -/
abbrev o5000_ENC_STATE : Nat := 0x500001
abbrev o5000_ENC_CODEC : Nat := 0x500002
abbrev o5000_ENC_PROFILE : Nat := 0x500003
abbrev o5000_ENC_LEVEL : Nat := 0x500004
abbrev o5000_ENC_TIER : Nat := 0x500005
abbrev o5000_ENC_DOMAIN : Nat := 0x500006
abbrev o5000_ENC_FORMAT : Nat := 0x500007
abbrev o5000_ENC_CHROMA : Nat := 0x500008
abbrev o5000_DELAY_MODE : Nat := 0x500009
abbrev o5000_DELAY_NS : Nat := 0x50000A
abbrev o5000_MINT_MASK : Nat := 0x50000B
abbrev o5000_MINT_SHARE : Nat := 0x50000C
abbrev o5000_SUBPIC_COLUMNS : Nat := 0x50000D
abbrev o5000_SUBPIC_BANDS : Nat := 0x50000E
abbrev o5000_CTU_SIZE : Nat := 0x50000F
abbrev o5000_LADDER_TIERS : Nat := 0x500010
abbrev o5000_CTU_BUDGET : Nat := 0x500011
abbrev o5000_ROW_SLACK : Nat := 0x500012
abbrev ENC_STATE.not_planned : Int := 0
abbrev ENC_STATE.starting : Int := 1
abbrev ENC_STATE.running : Int := 2
abbrev ENC_CODEC.none : Int := 0
abbrev ENC_CODEC.vvc : Int := 1
abbrev ENC_CODEC.hevc : Int := 2
abbrev ENC_PROFILE.none : Int := 0
abbrev ENC_PROFILE.main10 : Int := 1
abbrev ENC_PROFILE.main10_444 : Int := 2
abbrev ENC_PROFILE.main422_10 : Int := 3
abbrev ENC_TIER.main : Int := 0
abbrev ENC_TIER.high : Int := 1
abbrev ENC_CHROMA.m4_2_0 : Int := 0
abbrev ENC_CHROMA.m4_2_2 : Int := 1
abbrev DELAY_MODE_5000.tight : Int := 0
abbrev DELAY_MODE_5000.standard : Int := 1
abbrev DELAY_MODE_5000.look_ahead : Int := 2
abbrev MINT_SHARE.none : Int := 0
abbrev MINT_SHARE.half : Int := 1
abbrev MINT_SHARE.whole : Int := 2
/-! 5001h -/
abbrev o5001_INPUT_OVERRIDE : Nat := 0x500101
abbrev o5001_OVERRIDE_FCNT : Nat := 0x500102
abbrev INPUT_OVERRIDE.none : Int := 0
abbrev INPUT_OVERRIDE.black : Int := 1
abbrev INPUT_OVERRIDE.freeze : Int := 2
/-! 5002h -/
abbrev o5002_MINT_STATE : Nat := 0x500201
abbrev o5002_MINT_CHANNEL_A : Nat := 0x500202
abbrev o5002_MINT_CHANNEL_B : Nat := 0x500203
abbrev o5002_LAST_FRAME_CLOCKS : Nat := 0x500204
abbrev o5002_FRAME_BUDGET : Nat := 0x500205
abbrev o5002_MINT_OVERDRAFTS : Nat := 0x500206
abbrev MINT_STATE.off : Int := 0
abbrev MINT_STATE.idle : Int := 1
abbrev MINT_STATE.coding : Int := 2
abbrev MINT_STATE.fault : Int := 3
/-! 5003h -/
abbrev o5003_TIER0_CTUS : Nat := 0x500301
abbrev o5003_TIER1_CTUS : Nat := 0x500302
abbrev o5003_TIER2_CTUS : Nat := 0x500303
abbrev o5003_TIER3_CTUS : Nat := 0x500304
abbrev o5003_TIER4_CTUS : Nat := 0x500305
abbrev o5003_TIER5_CTUS : Nat := 0x500306
abbrev o5003_TIER6_CTUS : Nat := 0x500307
abbrev o5003_TIER7_CTUS : Nat := 0x500308
abbrev o5003_FLOOR_GUARD_CTUS : Nat := 0x500309
abbrev o5003_MAX_TIER : Nat := 0x50030A
abbrev o5003_PICTURES_CODED : Nat := 0x50030B
abbrev o5003_PICTURES_COARSENED : Nat := 0x50030C
abbrev o5003_FLOOR_GUARD_PICTURES : Nat := 0x50030D
abbrev o5003_OVERRIDE_PICTURES : Nat := 0x50030E
/-! 5004h -/
abbrev o5004_LAD_SEARCH_H : Nat := 0x500401
abbrev o5004_LAD_SEARCH_V : Nat := 0x500402
abbrev o5004_LAD_INTRA_SET : Nat := 0x500403
abbrev o5004_LAD_MAX_DEPTH : Nat := 0x500404
abbrev o5004_LAD_QP_OFFSET : Nat := 0x500405
abbrev o5004_LAD_TOOLS : Nat := 0x500406
abbrev o5004_LAD_CEILING : Nat := 0x500407
/-! 5010h -/
abbrev o5010_XS_ENGINE_STATE : Nat := 0x501001
abbrev o5010_XS_ENGINE_CHANNELS : Nat := 0x501002
abbrev XS_ENGINE_STATE.off : Int := 0
abbrev XS_ENGINE_STATE.idle : Int := 1
abbrev XS_ENGINE_STATE.running : Int := 2
/-! 5011h -/
abbrev o5011_XS_STATE : Nat := 0x501101
abbrev o5011_XS_DIRECTION : Nat := 0x501102
abbrev o5011_XS_PROFILE : Nat := 0x501103
abbrev o5011_XS_LEVEL : Nat := 0x501104
abbrev o5011_XS_SUBLEVEL : Nat := 0x501105
abbrev o5011_XS_FORMAT : Nat := 0x501106
abbrev o5011_XS_DOMAIN : Nat := 0x501107
abbrev o5011_XS_ENGINE_MASK : Nat := 0x501108
abbrev o5011_XS_BPP : Nat := 0x501109
abbrev o5011_FRAME_BYTES : Nat := 0x50110A
abbrev o5011_XS_DELAY_NS : Nat := 0x50110B
abbrev o5011_XS_ALIGN_MODE : Nat := 0x50110C
abbrev o5011_XS_ALIGN_DEPTH : Nat := 0x50110D
abbrev o5011_XS_ARRIVAL_OFFSET_NS : Nat := 0x50110E
abbrev XS_STATE.not_planned : Int := 0
abbrev XS_STATE.starting : Int := 1
abbrev XS_STATE.running : Int := 2
abbrev XS_DIRECTION.none : Int := 0
abbrev XS_DIRECTION.encode : Int := 1
abbrev XS_DIRECTION.decode : Int := 2
abbrev XS_PROFILE.none : Int := 0
abbrev XS_PROFILE.main_422_10 : Int := 1
abbrev XS_PROFILE.high_444_12 : Int := 2
abbrev XS_ALIGN_MODE.none : Int := 0
abbrev XS_ALIGN_MODE.line : Int := 1
abbrev XS_ALIGN_MODE.frame_1 : Int := 2
abbrev XS_ALIGN_MODE.frame_2 : Int := 3
/-! 5012h -/
abbrev o5012_XS_FRAMES : Nat := 0x501201
abbrev o5012_XS_SLICES_COARSENED : Nat := 0x501202
abbrev o5012_XS_OFFTIME_FRAMES : Nat := 0x501203
abbrev o5012_XS_REPEATS : Nat := 0x501204
abbrev o5012_XS_DROPS : Nat := 0x501205
abbrev o5012_XS_PRECINCTS_CONCEALED : Nat := 0x501206
abbrev o5012_XS_CODESTREAM_ERRORS : Nat := 0x501207
/-! 5100h -/
abbrev o5100_RC_MODE : Nat := 0x510001
abbrev o5100_TS_RATE_BPS : Nat := 0x510002
abbrev o5100_DATAGRAMS_PER_SLOT : Nat := 0x510003
abbrev o5100_VIDEO_PACKETS : Nat := 0x510004
abbrev o5100_AUDIO_PACKETS : Nat := 0x510005
abbrev o5100_ANC_PACKETS : Nat := 0x510006
abbrev o5100_AU_MAX_BYTES : Nat := 0x510007
abbrev o5100_HRD_BIT_RATE : Nat := 0x510008
abbrev o5100_CPB_SIZE_BITS : Nat := 0x510009
abbrev o5100_CPB_DELAY_90K : Nat := 0x51000A
abbrev o5100_REFRESH : Nat := 0x51000B
abbrev o5100_REFRESH_PERIOD : Nat := 0x51000C
abbrev o5100_FEC_MODE : Nat := 0x51000D
abbrev o5100_FEC_L : Nat := 0x51000E
abbrev o5100_FEC_D : Nat := 0x51000F
abbrev o5100_BASE_QP : Nat := 0x510010
abbrev o5100_MIN_QP : Nat := 0x510011
abbrev o5100_MAX_QP : Nat := 0x510012
abbrev o5100_RC_TARGET_FILL : Nat := 0x510013
abbrev o5100_RAP_REQUEST : Nat := 0x510014
abbrev o5100_RAP_FCNT : Nat := 0x510015
abbrev o5100_AUDIO_STREAMS : Nat := 0x510016
abbrev o5100_AUDIO_CH_PER_STREAM : Nat := 0x510017
abbrev o5100_AUDIO_BASE_CH : Nat := 0x510018
abbrev o5100_PROGRAM_NUMBER : Nat := 0x510019
abbrev o5100_TS_ID : Nat := 0x51001A
abbrev o5100_PMT_PID : Nat := 0x51001B
abbrev o5100_VIDEO_PID : Nat := 0x51001C
abbrev o5100_AUDIO_PID_BASE : Nat := 0x51001D
abbrev o5100_ANC_PID : Nat := 0x51001E
abbrev RC_MODE.cbr : Int := 0
abbrev RC_MODE.capped_vbr : Int := 1
abbrev REFRESH.gdr : Int := 0
abbrev REFRESH.idr : Int := 1
abbrev REFRESH.none : Int := 2
abbrev FEC_MODE_5100.none : Int := 0
abbrev FEC_MODE_5100.column : Int := 1
abbrev FEC_MODE_5100.column_row : Int := 2
abbrev RAP_REQUEST.idr : Int := 0
/-! 5101h -/
abbrev o5101_LAST_AU_BYTES : Nat := 0x510101
abbrev o5101_PEAK_AU_BYTES : Nat := 0x510102
abbrev o5101_LAST_QP_X100 : Nat := 0x510103
abbrev o5101_BIT_GUARD_CTUS : Nat := 0x510104
abbrev o5101_BIT_GUARD_PICTURES : Nat := 0x510105
abbrev o5101_RAP_COUNT : Nat := 0x510106
abbrev o5101_TS_PACKETS_SENT : Nat := 0x510107
abbrev o5101_NULL_STUFFED : Nat := 0x510108
abbrev o5101_DATAGRAMS_OMITTED : Nat := 0x510109
abbrev o5101_NULL_REPLACED : Nat := 0x51010A
abbrev o5101_ANC_DROPPED : Nat := 0x51010B
abbrev o5101_PMT_VERSION : Nat := 0x51010C
/-! 6000h -/
abbrev o6000_COMP_STATE : Nat := 0x600001
abbrev o6000_COMP_DOMAIN : Nat := 0x600002
abbrev o6000_COMP_FORMAT : Nat := 0x600003
abbrev o6000_LAYER_COUNT : Nat := 0x600004
abbrev o6000_SEALED_LAYER : Nat := 0x600005
abbrev o6000_STAGED_MASK : Nat := 0x600006
abbrev o6000_BACKGROUND : Nat := 0x600007
abbrev o6000_SURF_BAND_BUDGET : Nat := 0x600008
abbrev o6000_PLATE_AVAILABLE : Nat := 0x600009
abbrev o6000_PLATE_STATE : Nat := 0x60000A
abbrev o6000_PLATE_BASE_TOP : Nat := 0x60000B
abbrev o6000_COMMIT : Nat := 0x60000C
abbrev o6000_COMMIT_DISCARD : Nat := 0x60000D
abbrev o6000_COMMIT_STATE : Nat := 0x60000E
abbrev o6000_COMMIT_RESULT : Nat := 0x60000F
abbrev o6000_COMMIT_ERROR_LAYER : Nat := 0x600010
abbrev o6000_COMMIT_SEQ : Nat := 0x600011
abbrev o6000_APPLIED_SEQ : Nat := 0x600012
abbrev o6000_APPLIED_FCNT : Nat := 0x600013
abbrev o6000_COMMITS_SUPERSEDED : Nat := 0x600014
abbrev o6000_COMP_DELAY_NS : Nat := 0x600015
abbrev COMP_STATE.not_planned : Int := 0
abbrev COMP_STATE.running : Int := 1
abbrev COMP_STATE.gang_lead : Int := 2
abbrev COMP_STATE.gang_second : Int := 3
abbrev COMP_STATE.converter : Int := 4
abbrev PLATE_STATE.none : Int := 0
abbrev PLATE_STATE.building : Int := 1
abbrev PLATE_STATE.in_force : Int := 2
abbrev COMMIT_DISCARD.discard : Int := 0
abbrev COMMIT_STATE.idle : Int := 0
abbrev COMMIT_STATE.pending : Int := 1
abbrev COMMIT_STATE.flattening : Int := 2
/-! 6001h -/
abbrev o6001_GROUP_COMMIT : Nat := 0x600101
abbrev o6001_GROUP_RESULT : Nat := 0x600102
abbrev o6001_GROUP_ERROR_COMP : Nat := 0x600103
/-! 6002h -/
abbrev o6002_LAYER_KIND : Nat := 0x600201
abbrev o6002_ENABLE : Nat := 0x600202
abbrev o6002_SURFACE : Nat := 0x600203
abbrev o6002_SRC_X : Nat := 0x600204
abbrev o6002_SRC_Y : Nat := 0x600205
abbrev o6002_SRC_W : Nat := 0x600206
abbrev o6002_SRC_H : Nat := 0x600207
abbrev o6002_DST_X : Nat := 0x600208
abbrev o6002_DST_Y : Nat := 0x600209
abbrev o6002_DST_W : Nat := 0x60020A
abbrev o6002_DST_H : Nat := 0x60020B
abbrev o6002_GLOBAL_ALPHA : Nat := 0x60020C
abbrev o6002_KEY_MODE : Nat := 0x60020D
abbrev o6002_KEY_LAYER : Nat := 0x60020E
abbrev o6002_KEY_CLIP : Nat := 0x60020F
abbrev o6002_KEY_GAIN : Nat := 0x600210
abbrev o6002_UPDATE_MODE : Nat := 0x600211
abbrev o6002_STATIC : Nat := 0x600212
abbrev LAYER_KIND.unused : Int := 0
abbrev LAYER_KIND.fabric : Int := 1
abbrev LAYER_KIND.surface : Int := 2
abbrev KEY_MODE.none : Int := 0
abbrev KEY_MODE.surface : Int := 1
abbrev KEY_MODE.luma : Int := 2
abbrev KEY_MODE.linear : Int := 3
abbrev UPDATE_MODE.static : Int := 0
abbrev UPDATE_MODE.every_frame : Int := 1
/-! 6003h -/
abbrev o6003_IN_FORCE_SURFACE : Nat := 0x600301
abbrev o6003_IN_FORCE_ENABLE : Nat := 0x600302
abbrev o6003_SCALERS : Nat := 0x600303
abbrev o6003_SCALER_FIRST : Nat := 0x600304
abbrev o6003_NOT_READY_FRAMES : Nat := 0x600305
abbrev o6003_CONSECUTIVE_NOT_READY : Nat := 0x600306
abbrev o6003_FORCED_BLANK : Nat := 0x600307
abbrev o6003_CONCEALED_FRAMES : Nat := 0x600308
abbrev o6003_LAYER_OVERDRAFTS : Nat := 0x600309
/-! 6004h -/
abbrev o6004_SEAL_RESULT : Nat := 0x600401
abbrev o6004_SEAL_FCNT : Nat := 0x600402
abbrev o6004_SEAL_EXPECTED : Nat := 0x600403
abbrev o6004_SEAL_MEASURED : Nat := 0x600404
abbrev o6004_SEAL_MATCHES : Nat := 0x600405
abbrev o6004_SEAL_MISMATCHES : Nat := 0x600406
abbrev o6004_SEAL_EXCUSED : Nat := 0x600407
abbrev o6004_SEAL_LIMIT : Nat := 0x600408
abbrev SEAL_RESULT.idle : Int := 0
abbrev SEAL_RESULT.match : Int := 1
abbrev SEAL_RESULT.excused : Int := 2
abbrev SEAL_RESULT.mismatch : Int := 3
/-! 6005h -/
abbrev o6005_SCALER_USE : Nat := 0x600501
abbrev o6005_SCALER_USER : Nat := 0x600502
abbrev o6005_SCALER_PAIRED : Nat := 0x600503
abbrev SCALER_USE.none : Int := 0
abbrev SCALER_USE.layer : Int := 1
abbrev SCALER_USE.head : Int := 2
abbrev SCALER_USE.converter : Int := 3
/-! 6100h -/
abbrev o6100_SURF_STATE : Nat := 0x610001
abbrev o6100_SURF_FORMAT : Nat := 0x610002
abbrev o6100_SURF_WIDTH : Nat := 0x610003
abbrev o6100_SURF_HEIGHT : Nat := 0x610004
abbrev o6100_SURF_TCS : Nat := 0x610005
abbrev o6100_SURF_PREMULTIPLIED : Nat := 0x610006
abbrev o6100_SURF_SEALED : Nat := 0x610007
abbrev o6100_SURF_XFER_OFFSET : Nat := 0x610008
abbrev o6100_SURF_XFER_DATA : Nat := 0x610009
abbrev o6100_SURF_CRC32C : Nat := 0x61000A
abbrev o6100_SURF_CMD : Nat := 0x61000B
abbrev o6100_SURF_RESULT : Nat := 0x61000C
abbrev o6100_STORED_BYTES : Nat := 0x61000D
abbrev o6100_REFERENCES : Nat := 0x61000E
abbrev o6100_DAMAGED : Nat := 0x61000F
abbrev SURF_STATE.free : Int := 0
abbrev SURF_STATE.loading : Int := 1
abbrev SURF_STATE.checking : Int := 2
abbrev SURF_STATE.rejected : Int := 3
abbrev SURF_STATE.ready : Int := 4
abbrev SURF_STATE.in_use : Int := 5
abbrev SURF_STATE.escrow : Int := 6
abbrev SURF_FORMAT.rgb565 : Int := 0
abbrev SURF_FORMAT.rgb888 : Int := 1
abbrev SURF_FORMAT.argb8888 : Int := 2
abbrev SURF_FORMAT.argb2101010 : Int := 3
abbrev SURF_FORMAT.ycbcr422_10 : Int := 4
abbrev SURF_CMD.create : Int := 0
abbrev SURF_CMD.open : Int := 1
abbrev SURF_CMD.close : Int := 2
abbrev SURF_CMD.retire : Int := 3
abbrev SURF_CMD.force_retire : Int := 4
/-! 6101h -/
abbrev o6101_POOL_BYTES : Nat := 0x610101
abbrev o6101_POOL_FREE : Nat := 0x610102
abbrev o6101_SURFACES_ALLOCATED : Nat := 0x610103
/-! 6200h -/
abbrev o6200_FMT_NAME : Nat := 0x620001
abbrev o6200_FMT_WIDTH : Nat := 0x620002
abbrev o6200_FMT_HEIGHT : Nat := 0x620003
abbrev o6200_FMT_TOTAL_LINES : Nat := 0x620004
abbrev o6200_FMT_TOTAL_SAMPLES : Nat := 0x620005
abbrev o6200_FMT_RATE : Nat := 0x620006
abbrev o6200_FMT_FIRST_ACTIVE : Nat := 0x620007
abbrev o6200_FMT_SWITCH_LINE : Nat := 0x620008
abbrev o6200_FMT_QSLOTS : Nat := 0x620009
abbrev o6200_FMT_TILE_DECIMATION : Nat := 0x62000A
/-! 6201h -/
abbrev o6201_OUT_FORMAT : Nat := 0x620101
abbrev o6201_OUT_TRANSPORT : Nat := 0x620102
abbrev o6201_OUT_FRAMES : Nat := 0x620103
abbrev o6201_ANC_DROPS : Nat := 0x620104
abbrev OUT_TRANSPORT.none : Int := 0
abbrev OUT_TRANSPORT.sdi : Int := 1
abbrev OUT_TRANSPORT.st2110 : Int := 2
abbrev OUT_TRANSPORT.st2022_6 : Int := 3
abbrev OUT_TRANSPORT.head : Int := 4
/-! 6202h -/
abbrev o6202_TPG_PATTERN : Nat := 0x620201
abbrev o6202_TPG_MOTION : Nat := 0x620202
abbrev TPG_PATTERN.bars_100 : Int := 0
abbrev TPG_PATTERN.bars_75 : Int := 1
abbrev TPG_PATTERN.ramp : Int := 2
abbrev TPG_PATTERN.pluge : Int := 3
abbrev TPG_PATTERN.checker : Int := 4
/-! 6203h -/
abbrev o6203_GEN_COLOUR : Nat := 0x620301
/-! 6210h -/
abbrev o6210_MON_ENABLE : Nat := 0x621001
abbrev o6210_MON_STATE : Nat := 0x621002
abbrev o6210_MON_SIGNATURE : Nat := 0x621003
abbrev o6210_MON_FCNT : Nat := 0x621004
abbrev o6210_BRIGHT_SAMPLES : Nat := 0x621005
abbrev o6210_FREEZE_RUN_FRAMES : Nat := 0x621006
abbrev o6210_BLACK_RUN_FRAMES : Nat := 0x621007
abbrev o6210_FREEZE_EVENTS : Nat := 0x621008
abbrev o6210_BLACK_EVENTS : Nat := 0x621009
abbrev MON_STATE.idle : Int := 0
abbrev MON_STATE.normal : Int := 1
abbrev MON_STATE.frozen : Int := 2
abbrev MON_STATE.black : Int := 3
/-! 6211h -/
abbrev o6211_MASK_BITS : Nat := 0x621101
abbrev o6211_BLACK_LEVEL : Nat := 0x621102
abbrev o6211_BLACK_TOLERANCE_PPM : Nat := 0x621103
abbrev o6211_FREEZE_LIMIT_MS : Nat := 0x621104
abbrev o6211_BLACK_LIMIT_MS : Nat := 0x621105
/-! 6220h -/
abbrev o6220_HEAD_STATE : Nat := 0x622001
abbrev o6220_HEAD_DOMAIN : Nat := 0x622002
abbrev o6220_HEAD_FORMAT : Nat := 0x622003
abbrev o6220_HEAD_OUTPUT_A : Nat := 0x622004
abbrev o6220_HEAD_OUTPUT_B : Nat := 0x622005
abbrev o6220_HEAD_TILES : Nat := 0x622006
abbrev o6220_HEAD_BACKGROUND : Nat := 0x622007
abbrev o6220_HEAD_COMMIT : Nat := 0x622008
abbrev o6220_HEAD_RESULT : Nat := 0x622009
abbrev o6220_HEAD_ERROR_TILE : Nat := 0x62200A
abbrev o6220_HEAD_APPLIED_FCNT : Nat := 0x62200B
abbrev HEAD_STATE.not_planned : Int := 0
abbrev HEAD_STATE.running : Int := 1
abbrev HEAD_COMMIT.commit : Int := 0
/-! 6221h -/
abbrev o6221_TILE_ENABLE : Nat := 0x622101
abbrev o6221_TILE_X : Nat := 0x622102
abbrev o6221_TILE_Y : Nat := 0x622103
abbrev o6221_TILE_W : Nat := 0x622104
abbrev o6221_TILE_H : Nat := 0x622105
abbrev o6221_TILE_BORDER : Nat := 0x622106
abbrev o6221_TILE_BORDER_PX : Nat := 0x622107
abbrev o6221_TILE_LABEL : Nat := 0x622108
abbrev o6221_METER_BASE_CH : Nat := 0x622109
abbrev o6221_METER_COUNT : Nat := 0x62210A
abbrev o6221_TILE_REFRESH : Nat := 0x62210B
abbrev o6221_TILE_REFRESH_PLANNED : Nat := 0x62210C
abbrev o6221_TILE_PHASE : Nat := 0x62210D
abbrev TILE_BORDER.none : Int := 0
abbrev TILE_BORDER.red : Int := 1
abbrev TILE_BORDER.green : Int := 2
abbrev TILE_BORDER.amber : Int := 3
abbrev TILE_BORDER.white : Int := 4
/-! 7000h -/
abbrev o7000_HBM_CORRECTED : Nat := 0x700001
abbrev o7000_HBM_UNCORRECTABLE : Nat := 0x700002
abbrev o7000_HBM_ADDRESS_ERRORS : Nat := 0x700003
abbrev o7000_SRAM_CORRECTED : Nat := 0x700004
abbrev o7000_SRAM_UNCORRECTABLE : Nat := 0x700005
abbrev o7000_SRAM_ADDRESS_ERRORS : Nat := 0x700006
abbrev o7000_POISON_WRITTEN : Nat := 0x700007
abbrev o7000_POISON_READS : Nat := 0x700008
abbrev o7000_WRITEBACKS_CANCELLED : Nat := 0x700009
abbrev o7000_WRITEBACKS_DROPPED : Nat := 0x70000A
abbrev o7000_POISON_LINES_CONCEALED : Nat := 0x70000B
/-! 7001h -/
abbrev o7001_AUDITOR_MODE : Nat := 0x700101
abbrev o7001_AUDITOR_RATE_MBPS : Nat := 0x700102
abbrev o7001_AUDITOR_STATE : Nat := 0x700103
abbrev o7001_HBM_LAP_MS : Nat := 0x700104
abbrev o7001_HBM_LAPS : Nat := 0x700105
abbrev o7001_HBM_POSITION : Nat := 0x700106
abbrev o7001_SRAM_LAP_MS : Nat := 0x700107
abbrev o7001_SRAM_LAPS : Nat := 0x700108
abbrev AUDITOR_MODE.normal : Int := 0
abbrev AUDITOR_MODE.off : Int := 1
abbrev AUDITOR_STATE.running : Int := 0
abbrev AUDITOR_STATE.slowed : Int := 1
abbrev AUDITOR_STATE.off : Int := 2
/-! 7002h -/
abbrev o7002_WATCH_WINDOW_H : Nat := 0x700201
abbrev o7002_WATCH_USED : Nat := 0x700202
abbrev o7002_WATCH_EVICTIONS : Nat := 0x700203
abbrev o7002_WATCH_UNTRACKED : Nat := 0x700204
abbrev o7002_RETIREMENTS : Nat := 0x700205
abbrev o7002_WEAK_WORDS : Nat := 0x700206
abbrev o7002_REPAIRS_PENDING : Nat := 0x700207
abbrev o7002_WEAK_UNLISTED : Nat := 0x700208
/-! 7003h -/
abbrev o7003_SPARE_ROWS_LEFT : Nat := 0x700301
abbrev o7003_ROWS_RETIRED : Nat := 0x700302
abbrev o7003_UNIT_CORRECTED : Nat := 0x700303
abbrev o7003_UNIT_UNCORRECTABLE : Nat := 0x700304
/-! 7004h -/
abbrev o7004_WATCH_ADDR : Nat := 0x700401
abbrev o7004_WATCH_COUNT : Nat := 0x700402
abbrev o7004_WATCH_FIRST_S : Nat := 0x700403
/-! 7005h -/
abbrev o7005_WEAK_ADDR : Nat := 0x700501
/-! 7006h -/
abbrev o7006_TMR_CORRECTIONS : Nat := 0x700601
abbrev o7006_TMR_WORDS_LOST : Nat := 0x700602
/-! 7007h -/
abbrev o7007_SRAM_TEST : Nat := 0x700701
abbrev o7007_HBM_TEST : Nat := 0x700702
abbrev o7007_HBM_ROWS_SAMPLED : Nat := 0x700703
abbrev o7007_ROWS_REPAIRED_AT_TEST : Nat := 0x700704
abbrev o7007_SELFTEST_MS : Nat := 0x700705
abbrev SRAM_TEST.pass : Int := 0
abbrev SRAM_TEST.repaired : Int := 1
abbrev SRAM_TEST.fail : Int := 2
abbrev SRAM_TEST.none : Int := 3
abbrev HBM_TEST.pass : Int := 0
abbrev HBM_TEST.repaired : Int := 1
abbrev HBM_TEST.fail : Int := 2
abbrev HBM_TEST.none : Int := 3
/-! 7008h -/
abbrev o7008_INJECT_ADDR : Nat := 0x700801
abbrev o7008_INJECT_DATA_MASK : Nat := 0x700802
abbrev o7008_INJECT_CHECK_MASK : Nat := 0x700803
abbrev o7008_INJECT_CMD : Nat := 0x700804
abbrev o7008_INJECT_RESULT : Nat := 0x700805
abbrev INJECT_CMD.inject : Int := 0
/-! 7009h -/
abbrev o7009_ERR_ADDR : Nat := 0x700901
abbrev o7009_ERR_KIND : Nat := 0x700902
abbrev o7009_ERR_FOUND_BY : Nat := 0x700903
abbrev o7009_ERR_OWNER_CLASS : Nat := 0x700904
abbrev o7009_ERR_OWNER_ID : Nat := 0x700905
abbrev o7009_ERR_DOMAIN : Nat := 0x700906
abbrev o7009_ERR_FORMAT : Nat := 0x700907
abbrev o7009_ERR_LINE : Nat := 0x700908
abbrev o7009_ERR_FCNT : Nat := 0x700909
abbrev ERR_KIND.uncorrectable : Int := 0
abbrev ERR_KIND.address : Int := 1
abbrev ERR_KIND.poison : Int := 2
abbrev ERR_KIND.none : Int := 3
abbrev ERR_FOUND_BY.auditor : Int := 0
abbrev ERR_FOUND_BY.reader : Int := 1
abbrev ERR_FOUND_BY.none : Int := 2
/-! 7100h -/
abbrev o7100_TALLY_USE : Nat := 0x710001
abbrev o7100_TALLY_CLAIM : Nat := 0x710002
abbrev o7100_POLY_SELECT : Nat := 0x710003
abbrev o7100_PROG_POLY : Nat := 0x710004
abbrev o7100_PROG_INIT : Nat := 0x710005
abbrev o7100_PROG_XOROUT : Nat := 0x710006
abbrev o7100_PROG_REFLECT : Nat := 0x710007
abbrev o7100_FEED_WIDTH : Nat := 0x710008
abbrev o7100_FEED_DATA : Nat := 0x710009
abbrev o7100_RUNNING : Nat := 0x71000A
abbrev o7100_RESULT : Nat := 0x71000B
abbrev o7100_FOLD_MODE : Nat := 0x71000C
abbrev o7100_FOLD_VALUE : Nat := 0x71000D
abbrev o7100_FOLD_STEP : Nat := 0x71000E
abbrev o7100_TALLY_CMD : Nat := 0x71000F
abbrev o7100_SRC_ADDR : Nat := 0x710010
abbrev o7100_SRC_LENGTH : Nat := 0x710011
abbrev o7100_TALLY_STATE : Nat := 0x710012
abbrev o7100_BYTES_FED : Nat := 0x710013
abbrev TALLY_USE.device : Int := 0
abbrev TALLY_USE.sealed : Int := 1
abbrev TALLY_USE.free : Int := 2
abbrev TALLY_USE.claimed : Int := 3
abbrev POLY_SELECT.crc32 : Int := 0
abbrev POLY_SELECT.crc32c : Int := 1
abbrev POLY_SELECT.crc16_ccitt : Int := 2
abbrev POLY_SELECT.st292 : Int := 3
abbrev POLY_SELECT.program : Int := 4
abbrev FEED_WIDTH.byte : Int := 0
abbrev FEED_WIDTH.halfword : Int := 1
abbrev FEED_WIDTH.word : Int := 2
abbrev FOLD_MODE.none : Int := 0
abbrev FOLD_MODE.address : Int := 1
abbrev FOLD_MODE.sequence : Int := 2
abbrev TALLY_CMD.reset : Int := 0
abbrev TALLY_CMD.close : Int := 1
abbrev TALLY_CMD.run : Int := 2
abbrev TALLY_STATE.idle : Int := 0
abbrev TALLY_STATE.feeding : Int := 1
abbrev TALLY_STATE.running : Int := 2
abbrev TALLY_STATE.closed : Int := 3

end Sys2Proof.Machine
end

