-- ==== Sys2Proof/Machine/Alarms.lean ====
section
/-! DEFINITION. Machine/Alarms.lean: the alarm points that the chapters name, with the severity and the subsystem (R10) that each chapter gives (R462, R463). -/

namespace Sys2Proof.Machine

/-- Every alarm name of the manual (R462); each has exactly one point. -/
inductive Alarm where
  | LEDGER_OVERDRAFT_RATE
  | OSC_IN_LOSS
  | OSC_IN_SUSPECT
  | REF_LOSS
  | REF_SOFT_LIMIT
  | REF_DISQUALIFIED
  | REF_RANK_DISAGREE
  | REF_ENSEMBLE_THIN
  | TD_HOLDOVER
  | TD_FREE_RUN
  | REF_PHASE_STEP
  | PTP_NO_LEADER
  | PTP_LEADER_CHANGE
  | PTP_TIME_STEP
  | PTQ_OVERFLOW
  | LANE_LOS
  | LANE_LOCK_LOSS
  | LANE_HI_BER
  | LANE_EYE_LOW
  | LANE_FEC_UNCORR
  | LANE_SDI_CRC
  | LANE_ADAPT_RESET
  | LANE_TX_FAULT
  | MT_FLOW_LIMIT
  | MT_INPUT_LOSS
  | MT_FORMAT_MISMATCH
  | MT_LEG_LOSS
  | MT_SKEW_EXCEEDED
  | MT_MERGED_GAP
  | MT_SDI_LINK_SKEW
  | MT_AUDIO_SLIP
  | MT_SSRC_CHANGE
  | EG_TX_DISCARD
  | EG_QUEUE_DROP
  | EG_TOO_LONG
  | EG_GATE_SHIFTED
  | FAB_INPUT_OFF_TIME
  | FAB_SYNC_SLIP
  | FAB_SALVO_LATE
  | AUD_SRC_SLIP
  | TLR_TABLE_FULL
  | TLR_LATE
  | ENC_EFFORT_FLOOR
  | ENC_OVERRIDE
  | ENC_MINT_FAULT
  | XS_OFF_TIME
  | XS_SYNC_SLIP
  | XS_CODESTREAM_ERROR
  | ENC_BIT_GUARD
  | ENC_ANC_OVERFLOW
  | ENC_PACKET_REPLACED
  | COMP_LAYER_NOT_READY
  | COMP_SEAL_NOT_READY
  | COMP_SEAL_MISMATCH
  | COMP_FORCED_BLANK
  | COMP_PLATE_IN_FORCE
  | SURF_DAMAGED
  | MON_FREEZE
  | MON_BLACK
  | RST_ANC_DROP
  | MEM_ADDRESS_ERROR
  | MEM_TMR_LOST
  | MEM_LEDGER_POISON
  | MEM_POISON
  | MEM_WEAK_WORD
  | MEM_WATCH_FULL
  | MEM_WORD_RETIRED
  | MEM_WRITEBACK_DROP
  | MEM_AUDITOR_BEHIND
  | MEM_AUDITOR_OFF
  | CFG_FACTORY_DEFAULTS
  | CFG_SAVE_FAILED
  | CTL_KEY_INVALID
  | CFG_RECORDS_SKIPPED
  | CTL_LOGIN_LOCKOUT
  | CTL_FACTORY_KEY
  | SEC_BOOT_FAILED
  | SEC_BOOT_FALLBACK
  | SEC_JOURNAL_FAULT
  | SEC_IDENTITY_EXHAUSTED
  | SEC_IDENTITY_LOW
  | PAIR_DUAL_ACTIVE
  | PAIR_ID_CONFLICT
  | PAIR_PATH_LOSS
  | PAIR_ISOLATED
  | PAIR_MIRROR_STALE
  | PAIR_TAKEOVER
  | PAIR_TICK_SKEW
  | PWR_VIN_STOP
  | PWR_DOMAIN_FAULT
  | PWR_TEMP_STOP
  | SYS_SAFE_STATE
  | PWR_TEMP_HIGH
  | PWR_VIN_HIGH
  | PWR_RIDE_THROUGH
  | SYS_START_SLOW
deriving DecidableEq, Repr

/-- Name, severity code of R466 (1 A, 2 B, 3 C) and subsystem of R10 of every point. -/
def Alarm.info : Alarm → String × Nat × Nat
  | .LEDGER_OVERDRAFT_RATE => ("LEDGER_OVERDRAFT_RATE", 2, 5)
  | .OSC_IN_LOSS => ("OSC_IN_LOSS", 1, 9)
  | .OSC_IN_SUSPECT => ("OSC_IN_SUSPECT", 2, 9)
  | .REF_LOSS => ("REF_LOSS", 3, 9)
  | .REF_SOFT_LIMIT => ("REF_SOFT_LIMIT", 3, 9)
  | .REF_DISQUALIFIED => ("REF_DISQUALIFIED", 2, 9)
  | .REF_RANK_DISAGREE => ("REF_RANK_DISAGREE", 2, 9)
  | .REF_ENSEMBLE_THIN => ("REF_ENSEMBLE_THIN", 3, 9)
  | .TD_HOLDOVER => ("TD_HOLDOVER", 2, 9)
  | .TD_FREE_RUN => ("TD_FREE_RUN", 3, 9)
  | .REF_PHASE_STEP => ("REF_PHASE_STEP", 3, 9)
  | .PTP_NO_LEADER => ("PTP_NO_LEADER", 3, 9)
  | .PTP_LEADER_CHANGE => ("PTP_LEADER_CHANGE", 3, 9)
  | .PTP_TIME_STEP => ("PTP_TIME_STEP", 3, 9)
  | .PTQ_OVERFLOW => ("PTQ_OVERFLOW", 3, 9)
  | .LANE_LOS => ("LANE_LOS", 3, 1)
  | .LANE_LOCK_LOSS => ("LANE_LOCK_LOSS", 3, 1)
  | .LANE_HI_BER => ("LANE_HI_BER", 2, 1)
  | .LANE_EYE_LOW => ("LANE_EYE_LOW", 3, 1)
  | .LANE_FEC_UNCORR => ("LANE_FEC_UNCORR", 3, 1)
  | .LANE_SDI_CRC => ("LANE_SDI_CRC", 3, 1)
  | .LANE_ADAPT_RESET => ("LANE_ADAPT_RESET", 3, 1)
  | .LANE_TX_FAULT => ("LANE_TX_FAULT", 2, 1)
  | .MT_FLOW_LIMIT => ("MT_FLOW_LIMIT", 2, 2)
  | .MT_INPUT_LOSS => ("MT_INPUT_LOSS", 2, 2)
  | .MT_FORMAT_MISMATCH => ("MT_FORMAT_MISMATCH", 2, 2)
  | .MT_LEG_LOSS => ("MT_LEG_LOSS", 3, 2)
  | .MT_SKEW_EXCEEDED => ("MT_SKEW_EXCEEDED", 3, 2)
  | .MT_MERGED_GAP => ("MT_MERGED_GAP", 3, 2)
  | .MT_SDI_LINK_SKEW => ("MT_SDI_LINK_SKEW", 2, 2)
  | .MT_AUDIO_SLIP => ("MT_AUDIO_SLIP", 3, 2)
  | .MT_SSRC_CHANGE => ("MT_SSRC_CHANGE", 3, 2)
  | .EG_TX_DISCARD => ("EG_TX_DISCARD", 3, 3)
  | .EG_QUEUE_DROP => ("EG_QUEUE_DROP", 3, 3)
  | .EG_TOO_LONG => ("EG_TOO_LONG", 3, 3)
  | .EG_GATE_SHIFTED => ("EG_GATE_SHIFTED", 3, 3)
  | .FAB_INPUT_OFF_TIME => ("FAB_INPUT_OFF_TIME", 2, 4)
  | .FAB_SYNC_SLIP => ("FAB_SYNC_SLIP", 3, 4)
  | .FAB_SALVO_LATE => ("FAB_SALVO_LATE", 3, 4)
  | .AUD_SRC_SLIP => ("AUD_SRC_SLIP", 3, 4)
  | .TLR_TABLE_FULL => ("TLR_TABLE_FULL", 3, 10)
  | .TLR_LATE => ("TLR_LATE", 3, 10)
  | .ENC_EFFORT_FLOOR => ("ENC_EFFORT_FLOOR", 3, 6)
  | .ENC_OVERRIDE => ("ENC_OVERRIDE", 3, 6)
  | .ENC_MINT_FAULT => ("ENC_MINT_FAULT", 1, 6)
  | .XS_OFF_TIME => ("XS_OFF_TIME", 2, 6)
  | .XS_SYNC_SLIP => ("XS_SYNC_SLIP", 3, 6)
  | .XS_CODESTREAM_ERROR => ("XS_CODESTREAM_ERROR", 3, 6)
  | .ENC_BIT_GUARD => ("ENC_BIT_GUARD", 3, 6)
  | .ENC_ANC_OVERFLOW => ("ENC_ANC_OVERFLOW", 3, 6)
  | .ENC_PACKET_REPLACED => ("ENC_PACKET_REPLACED", 2, 6)
  | .COMP_LAYER_NOT_READY => ("COMP_LAYER_NOT_READY", 3, 7)
  | .COMP_SEAL_NOT_READY => ("COMP_SEAL_NOT_READY", 1, 7)
  | .COMP_SEAL_MISMATCH => ("COMP_SEAL_MISMATCH", 1, 7)
  | .COMP_FORCED_BLANK => ("COMP_FORCED_BLANK", 3, 7)
  | .COMP_PLATE_IN_FORCE => ("COMP_PLATE_IN_FORCE", 3, 7)
  | .SURF_DAMAGED => ("SURF_DAMAGED", 2, 7)
  | .MON_FREEZE => ("MON_FREEZE", 2, 8)
  | .MON_BLACK => ("MON_BLACK", 2, 8)
  | .RST_ANC_DROP => ("RST_ANC_DROP", 3, 8)
  | .MEM_ADDRESS_ERROR => ("MEM_ADDRESS_ERROR", 1, 5)
  | .MEM_TMR_LOST => ("MEM_TMR_LOST", 1, 5)
  | .MEM_LEDGER_POISON => ("MEM_LEDGER_POISON", 1, 5)
  | .MEM_POISON => ("MEM_POISON", 2, 5)
  | .MEM_WEAK_WORD => ("MEM_WEAK_WORD", 2, 5)
  | .MEM_WATCH_FULL => ("MEM_WATCH_FULL", 2, 5)
  | .MEM_WORD_RETIRED => ("MEM_WORD_RETIRED", 3, 5)
  | .MEM_WRITEBACK_DROP => ("MEM_WRITEBACK_DROP", 3, 5)
  | .MEM_AUDITOR_BEHIND => ("MEM_AUDITOR_BEHIND", 3, 5)
  | .MEM_AUDITOR_OFF => ("MEM_AUDITOR_OFF", 3, 5)
  | .CFG_FACTORY_DEFAULTS => ("CFG_FACTORY_DEFAULTS", 2, 10)
  | .CFG_SAVE_FAILED => ("CFG_SAVE_FAILED", 2, 10)
  | .CTL_KEY_INVALID => ("CTL_KEY_INVALID", 2, 10)
  | .CFG_RECORDS_SKIPPED => ("CFG_RECORDS_SKIPPED", 3, 10)
  | .CTL_LOGIN_LOCKOUT => ("CTL_LOGIN_LOCKOUT", 3, 10)
  | .CTL_FACTORY_KEY => ("CTL_FACTORY_KEY", 3, 10)
  | .SEC_BOOT_FAILED => ("SEC_BOOT_FAILED", 1, 11)
  | .SEC_BOOT_FALLBACK => ("SEC_BOOT_FALLBACK", 2, 11)
  | .SEC_JOURNAL_FAULT => ("SEC_JOURNAL_FAULT", 2, 11)
  | .SEC_IDENTITY_EXHAUSTED => ("SEC_IDENTITY_EXHAUSTED", 2, 11)
  | .SEC_IDENTITY_LOW => ("SEC_IDENTITY_LOW", 3, 11)
  | .PAIR_DUAL_ACTIVE => ("PAIR_DUAL_ACTIVE", 1, 12)
  | .PAIR_ID_CONFLICT => ("PAIR_ID_CONFLICT", 1, 12)
  | .PAIR_PATH_LOSS => ("PAIR_PATH_LOSS", 2, 12)
  | .PAIR_ISOLATED => ("PAIR_ISOLATED", 2, 12)
  | .PAIR_MIRROR_STALE => ("PAIR_MIRROR_STALE", 2, 12)
  | .PAIR_TAKEOVER => ("PAIR_TAKEOVER", 3, 12)
  | .PAIR_TICK_SKEW => ("PAIR_TICK_SKEW", 3, 12)
  | .PWR_VIN_STOP => ("PWR_VIN_STOP", 1, 12)
  | .PWR_DOMAIN_FAULT => ("PWR_DOMAIN_FAULT", 1, 12)
  | .PWR_TEMP_STOP => ("PWR_TEMP_STOP", 1, 12)
  | .SYS_SAFE_STATE => ("SYS_SAFE_STATE", 1, 12)
  | .PWR_TEMP_HIGH => ("PWR_TEMP_HIGH", 2, 12)
  | .PWR_VIN_HIGH => ("PWR_VIN_HIGH", 2, 12)
  | .PWR_RIDE_THROUGH => ("PWR_RIDE_THROUGH", 3, 12)
  | .SYS_START_SLOW => ("SYS_START_SLOW", 3, 12)

/-- Every point, in the order of the chapters. -/
def Alarm.all : List Alarm :=
  [.LEDGER_OVERDRAFT_RATE, .OSC_IN_LOSS, .OSC_IN_SUSPECT, .REF_LOSS, .REF_SOFT_LIMIT, .REF_DISQUALIFIED, .REF_RANK_DISAGREE,
   .REF_ENSEMBLE_THIN, .TD_HOLDOVER, .TD_FREE_RUN, .REF_PHASE_STEP, .PTP_NO_LEADER, .PTP_LEADER_CHANGE, .PTP_TIME_STEP, .PTQ_OVERFLOW,
   .LANE_LOS, .LANE_LOCK_LOSS, .LANE_HI_BER, .LANE_EYE_LOW, .LANE_FEC_UNCORR, .LANE_SDI_CRC, .LANE_ADAPT_RESET, .LANE_TX_FAULT,
   .MT_FLOW_LIMIT, .MT_INPUT_LOSS, .MT_FORMAT_MISMATCH, .MT_LEG_LOSS, .MT_SKEW_EXCEEDED, .MT_MERGED_GAP, .MT_SDI_LINK_SKEW, .MT_AUDIO_SLIP,
   .MT_SSRC_CHANGE, .EG_TX_DISCARD, .EG_QUEUE_DROP, .EG_TOO_LONG, .EG_GATE_SHIFTED, .FAB_INPUT_OFF_TIME, .FAB_SYNC_SLIP, .FAB_SALVO_LATE,
   .AUD_SRC_SLIP, .TLR_TABLE_FULL, .TLR_LATE, .ENC_EFFORT_FLOOR, .ENC_OVERRIDE, .ENC_MINT_FAULT, .XS_OFF_TIME, .XS_SYNC_SLIP,
   .XS_CODESTREAM_ERROR] ++
  [.ENC_BIT_GUARD, .ENC_ANC_OVERFLOW, .ENC_PACKET_REPLACED, .COMP_LAYER_NOT_READY, .COMP_SEAL_NOT_READY, .COMP_SEAL_MISMATCH,
   .COMP_FORCED_BLANK, .COMP_PLATE_IN_FORCE, .SURF_DAMAGED, .MON_FREEZE, .MON_BLACK, .RST_ANC_DROP, .MEM_ADDRESS_ERROR, .MEM_TMR_LOST,
   .MEM_LEDGER_POISON, .MEM_POISON, .MEM_WEAK_WORD, .MEM_WATCH_FULL, .MEM_WORD_RETIRED, .MEM_WRITEBACK_DROP, .MEM_AUDITOR_BEHIND,
   .MEM_AUDITOR_OFF, .CFG_FACTORY_DEFAULTS, .CFG_SAVE_FAILED, .CTL_KEY_INVALID, .CFG_RECORDS_SKIPPED, .CTL_LOGIN_LOCKOUT, .CTL_FACTORY_KEY,
   .SEC_BOOT_FAILED, .SEC_BOOT_FALLBACK, .SEC_JOURNAL_FAULT, .SEC_IDENTITY_EXHAUSTED, .SEC_IDENTITY_LOW, .PAIR_DUAL_ACTIVE,
   .PAIR_ID_CONFLICT, .PAIR_PATH_LOSS, .PAIR_ISOLATED, .PAIR_MIRROR_STALE, .PAIR_TAKEOVER, .PAIR_TICK_SKEW, .PWR_VIN_STOP,
   .PWR_DOMAIN_FAULT, .PWR_TEMP_STOP, .SYS_SAFE_STATE, .PWR_TEMP_HIGH, .PWR_VIN_HIGH, .PWR_RIDE_THROUGH, .SYS_START_SLOW]

/-- The name of a point. -/
def Alarm.name (a : Alarm) : String := a.info.1

/-- The severity its chapter gives. -/
def Alarm.severity (a : Alarm) : Nat := a.info.2.1

/-- The subsystem charged. -/
def Alarm.subsys (a : Alarm) : Nat := a.info.2.2

/-- The order of the points in a table: their place in `Alarm.all`. -/
def Alarm.rank (a : Alarm) : Nat := a.ctorIdx

/-- The rising order of alarm keys. -/
def Alarm.lt (a b : Alarm) : Bool := decide (a.rank < b.rank)

end Sys2Proof.Machine
end

