-- ==== Sys2Proof/Machine/Store.lean ====
section
/-! DEFINITION. Machine/Store.lean: sparse data as lists of key and value pairs in one canonical form (keys rising, no
key twice), with the three operations every table of the state uses: look up, put, remove. -/

namespace Sys2Proof.Machine

/-- A sparse table: key and value pairs, keys rising. -/
abbrev Store (κ α : Type) := List (κ × α)

/-- The value held under `k`, if any. -/
def storeGet {κ α : Type} [DecidableEq κ] (k : κ) : Store κ α → Option α
  | [] => none
  | (k', v) :: l => if k' = k then some v else storeGet k l

/-- The table without `k`. -/
def storeDel {κ α : Type} [DecidableEq κ] (k : κ) (l : Store κ α) : Store κ α :=
  l.filter (fun c => decide (c.1 ≠ k))

/-- Insert a key that is absent, before the first larger key. -/
def storeIns {κ α : Type} (lt : κ → κ → Bool) (k : κ) (v : α) : Store κ α → Store κ α
  | [] => [(k, v)]
  | (k', v') :: l => if lt k k' then (k, v) :: (k', v') :: l else (k', v') :: storeIns lt k v l

/-- The table with `v` under `k`. -/
def storePut {κ α : Type} [DecidableEq κ] (lt : κ → κ → Bool) (k : κ) (v : α) (l : Store κ α) : Store κ α :=
  storeIns lt k v (storeDel k l)

/-- The rising order of number keys. -/
def natLt (a b : Nat) : Bool := decide (a < b)

/-- The rising order of object keys (object code, then row). -/
def pairLt (a b : Nat × Nat) : Bool := decide (a.1 < b.1) || (a.1 == b.1 && decide (a.2 < b.2))

end Sys2Proof.Machine
end

