-- ==== Sys2Proof/Machine/State.lean ====
section
/-! DEFINITION. Machine/State.lean: everything the manual gives the module, as plain data. The objects of the dictionary stand in one sparse
register file (`regs` for numbers, `octs` for byte strings), each entry absent while it has its default; what is not an object
stands in the records below. -/

namespace Sys2Proof.Machine

open Sys2Proof

/-- Faults: the block has none. Every command has a next state: what the manual refuses is answered with a status, and what it ignores changes nothing. -/
inductive Fault where
deriving DecidableEq, Repr

/-- A refusal: the model has no meaning for the command. -/
inductive Refusal where
  /-- Raised by an arm of `exec` whose command has no meaning yet. Safe: nothing is claimed of the command. -/
  | notModelled (mnemonic : String)
deriving DecidableEq, Repr

/-- A value carried by a read or a write: a number (every integer type, BOOL and TIME96 as its 96-bit number) or bytes (STR, OCTETS). -/
inductive Val where
  | int (v : Int)
  | bytes (b : Bytes)
deriving DecidableEq, Repr

/-- What the last operation answered: the status of R387 and, for a read, the value. -/
structure OpResult where
  status : Nat := 0
  value : Option Val := none
deriving DecidableEq, Repr

/-- How a line is shown (R58, R152, R161, R195, R196): as the frame planned for it, from a frame shown before, as the same line of the previous frame because it was
not complete or is marked stale. -/
inductive How where
  | fresh
  | repeated
  | concealed
  | stale
deriving DecidableEq, Repr

/-- What a destination reads for a line: black, its own frame of an FCNT again (R439), or a line of a frame of a source. -/
inductive Shown where
  | black
  | held (fcnt : Nat)
  | line (src serial : Nat) (how : How)
deriving DecidableEq, Repr

/-- A layer's configuration: the values of 6002h in order (R330). -/
structure LayerCfg where
  enable : Bool := false
  surface : Nat := 65535
  srcX : Nat := 0
  srcY : Nat := 0
  srcW : Nat := 0
  srcH : Nat := 0
  dstX : Int := 0
  dstY : Int := 0
  dstW : Nat := 0
  dstH : Nat := 0
  alpha : Nat := 1023
  keyMode : Int := 0
  keyLayer : Nat := 0
  keyClip : Nat := 64
  keyGain : Nat := 75
  everyFrame : Bool := false
  static : Bool := false
deriving DecidableEq, Repr

/-- A tile's configuration: the values of 6221h (R352). -/
structure TileCfg where
  enable : Bool := false
  x : Nat := 0
  y : Nat := 0
  w : Nat := 960
  h : Nat := 540
  border : Int := 0
  borderPx : Nat := 2
  label : Bytes := []
  meterBase : Nat := 0
  meters : Nat := 0
  refresh : Nat := 1
deriving DecidableEq, Repr

/-- A layer as a composed frame shows it (R299, R302, R303): its number, its configuration, the frame of its layer store (none for a surface), whether it serves as a key alone, the
lines of its source taken from its previous frame, and the output lines of its scaler taken from the previous frame (R58). -/
structure LayerShown where
  layer : Nat
  cfg : LayerCfg
  frame : Option Nat
  keyOnly : Bool
  overdrawn : List Nat := []
  scaled : List Nat := []
deriving DecidableEq, Repr

/-- A tile as a head's frame shows it (R342, R345, R346): its number, its configuration, the refresh frame whose picture is stored, the label drawn, and for each meter the peak (of
2^23) and the ns for which it has decayed by 20 dB a second, and the output lines of its bank scaler taken from the previous frame (R58). -/
structure TileShown where
  tile : Nat
  cfg : TileCfg
  frame : Option Nat
  label : Bytes
  meters : List (Nat × Nat)
  scaled : List Nat := []
deriving DecidableEq, Repr

/-- What the headers of an output row's packet hold: addresses of the lane and of the destination, ports, payload type, SSRC, DSCP, TTL or hop limit (R167). -/
structure TxHead where
  src : Bytes
  dst : Bytes
  sport : Nat
  dport : Nat
  pt : Nat
  ssrc : Nat
  dscp : Nat
  ttl : Nat
deriving DecidableEq, Repr

/-- The coding tools that R250 and R251 name. -/
inductive Tool where
  | partitions
  | allIntra
  | mrl
  | mip
  | cclm
  | merge
  | mmvd
  | amvr
  | amvp
  | tmvp
  | sbTmvp
  | affine
  | gpm
  | ciip
  | bdof
  | dmvr
  | mts
  | lfnst
  | sbt
  | jccr
  | dependentQuant
  | amp
  | deblocking
  | sao
  | alf
  | ccAlf
  | lmcs
  | gdr
  | isp
  | resampling
  | palette
  | intraBlockCopy
  | colourTransform
  | bdpcm
  | transformSkip
  | scalingLists
  | wavefront
  | moreTiles
  | longTermRefs
  | moreLayers
  | pcm
  | crossComponent
  | rdpcm
  | extendedPrecision
deriving DecidableEq, Repr

/-- The syntax of an access unit: codec, profile, level, tier and chroma as 5000h numbers them (R249); the VUI's colorimetry and transfer characteristics (0 BT.709, 1 BT.2020, 2 BT.2100
with PQ, 3 with HLG), and whether it is coded as field pictures, the top field first (R248); CTU size, columns and CTU rows of the bands, whether subpictures are treated as pictures
and whether the in-loop filters cross the boundaries (R247); the tools it may use (R250, R251); reference pictures at most (R252); D_90, RATE_V and the CPB size of its HRD
parameters, and whether it holds a buffering period SEI (R280); the recovery count of a GDR picture, and the CTU columns of every rectangle, from and to, that are intra-coded (R283);
bytes of captions in an SEI, and whether it holds a time code SEI (R287). -/
structure AuSyntax where
  codec : Nat
  profile : Int
  level : Nat
  tier : Nat
  chroma : Nat
  colour : Nat
  fields : Bool
  ctu : Nat
  columns : Nat
  bands : List Nat
  treatedAsPic : Bool
  loopAcross : Bool
  tools : List Tool
  refs : Nat
  cpbDelay : Nat
  hrdRate : Nat
  cpbSize : Nat
  buffering : Bool
  recovery : Option Nat
  intra : Nat × Nat
  captions : Nat
  timecode : Bool
deriving DecidableEq, Repr

/-- The clock of a slot (R286, R289): the PCR that packet 0 carries, in counts of 27 MHz; DTS, PTS and the PTS of the slot's audio, in counts of 90 kHz; the random_access_indicator. -/
structure SlotClock where
  pcr : Nat
  dts : Nat
  pts : Nat
  audioPts : Nat
  rai : Bool
deriving DecidableEq, Repr

/-- The tables of a stream (R288): transport_stream_id, program_number, PID of the PMT and its version, and the elementary streams by stream_type, PID and the registration that their
descriptor gives. -/
structure ProgramMap where
  tsId : Nat := 0
  program : Nat := 0
  pmtPid : Nat := 0
  version : Nat := 0
  streams : List (Nat × Nat × Bytes) := []
deriving DecidableEq, Repr

/-- What the module sends or drives, in the order in which it does so. -/
inductive Out where
  /-- A multicast membership report of a group on a lane: INCLUDE of sources, or EXCLUDE of none when the list holds all zeros (R160). -/
  | join (lane : Nat) (group : Bytes) (sources : List Bytes)
  /-- A leave of a group and source on a lane (R160). -/
  | leave (lane : Nat) (group source : Bytes)
  /-- An answer to ARP, neighbour solicitation or echo on a lane (R141). -/
  | netAnswer (lane : Nat) (target : Bytes)
  /-- A frame of a class and queue leaves on a lane with its length (R174). -/
  | frame (lane cls queue len : Nat)
  /-- A paced packet of an output row leaves on a lane: sequence number, RTP timestamp, whether a null packet stands in, what its headers hold (R158, R167, R175, R177). -/
  | paced (lane row seq ts : Nat) (null : Bool) (head : TxHead)
  /-- A packet of a shaped output row leaves on a lane, in the frame named beside it: sequence number, RTP timestamp, what its headers hold (R158, R167). -/
  | media (lane row seq ts : Nat) (head : TxHead)
  /-- A transmit stamp is written back to its descriptor (R103). -/
  | txStamp (lane seq stamp : Nat)
  /-- A destination reads a line (R192, R200), with the ancillary data carried on it (R207). -/
  | line (row line : Nat) (what : Shown) (anc : List AncPkt)
  /-- What an SDI output inserts into a frame beside its lines: its first lane, the frame's FCNT, the ST 352 format when one is inserted, the first embedded audio channel and their number (R166). -/
  | sdi (lane fcnt : Nat) (payload : Option Nat) (audioBase audioCount : Nat)
  /-- A line of an SDI output leaves on the lane of a link: its line number there, F and V of its EAV, and what luma and chroma samples that carry nothing else hold (R338). -/
  | sdiLine (lane line : Nat) (f v : Bool) (fill : Nat × Nat)
  /-- A compositor composed a frame: its FCNT, the background, the enabled layers from the bottom up (R299, R302). -/
  | composed (c fcnt bg : Nat) (layers : List LayerShown)
  /-- A head composed a frame: its FCNT, the background, the enabled tiles in the order in which they are drawn (R342, R345). -/
  | tiled (v fcnt bg : Nat) (tiles : List TileShown)
  /-- A FEC packet of an output row leaves on a lane: its place among the slot's, whether it is a column FEC packet, what its headers hold (R292). -/
  | fec (lane row place : Nat) (column : Bool) (head : TxHead)
  /-- The rest of a slice of an XS channel, from a line, is coded at the next coarser quantisation that meets its budget (R58 kind 5). -/
  | coarser (ch fcnt line : Nat)
  /-- A mint channel hands over an access unit: FCNT of its frame, bytes, whether it is an IDR picture, the override in force (R262, R263), its syntax (R247-R251). -/
  | au (ch fcnt bytes : Nat) (idr : Bool) (override : Int) (stx : AuSyntax)
  /-- Packet 0 of a slot of a mint channel's stream leaves, with the clock values that the slot carries (R289) and the continuity counters of its first packets: of the video PID, of
  audio streams 0-3, of the ancillary PID, of PAT and of PMT (R288). -/
  | slotStart (ch : Nat) (clock : SlotClock) (counters : List Nat)
  /-- PAT and PMT leave at the end of a slot of a mint channel's stream (R274, R288). -/
  | tables (ch : Nat) (program : ProgramMap)
  /-- A Delay_Req on a lane: sequence number, whether it goes over IPv6, the leader to whom it goes by unicast in hybrid mode (R96). -/
  | delayReq (lane seq : Nat) (ipv6 : Bool) (leader : Option Nat)
  /-- A pulse of a frame-pulse output: its pin, the FCNT of the tick, where it begins in ns from the tick, its width in ns, its level (R86). -/
  | framePulse (pin fcnt : Nat) (offset width : Int) (high : Bool)
  /-- The first packet of each PID of a mint channel's stream carries discontinuity_indicator (R438). -/
  | discontinuity (ch : Nat)
  /-- A heartbeat on a path: 0 the Ivard link, 1 the heartbeat pair (R432). -/
  | heartbeat (path : Nat) (d : Bytes)
  /-- A frame on a channel of the Ivard link: SEQ, ACK and the writes it carries (R430, R435). -/
  | ivard (channel seq ack : Nat) (writes : List MirrorEntry)
  /-- The resynchronisation of R435 starts on channel 2: the full configuration, both ledger banks and the surfaces of every pool. -/
  | resync
  /-- A TICK block with a domain's FCNT (R431). -/
  | tick (d fcnt : Nat)
  /-- An SDP datagram of a control port (R379), to an address and UDP port. -/
  | sdp (port : Nat) (addr : Nat) (udp : Nat) (payload : Bytes)
deriving DecidableEq, Repr

/-! Control ports, sessions and keys (chapter 15). -/

/-- A pending challenge of a port (R388). -/
structure Challenge where
  nonce : Bytes
  addr : Nat
  udp : Nat
  issued : Nat
deriving DecidableEq, Repr

/-- An open session (R388-R394). -/
structure Session where
  id : Nat
  slot : Nat
  roles : Nat
  addr : Nat
  udp : Nat
  key : Bytes
  lastSeq : Nat := 0
  kept : Option Bytes := none
  eventSeq : Nat := 1
  lastAuth : Nat
deriving DecidableEq, Repr

/-- The result of an operation of a REQUEST (R381, R382): a status with the value read, or a read of an object's row that waits for the end of the control cycle. -/
inductive OpOutcome where
  | done (status : Nat) (value : Bytes)
  | later (obj row : Nat)
deriving DecidableEq, Repr

/-- A RESPONSE that waits for the end of the control cycle (R382): where it goes, the session with its roles and key (identifier 0: none), and the results. -/
structure PendingResponse where
  port : Nat
  sessionId : Nat
  roles : Nat
  key : Bytes
  addr : Nat
  udp : Nat
  seq : Nat
  results : List OpOutcome
deriving DecidableEq, Repr

/-- The addresses of a port that are in force (R378). -/
structure NetAddr where
  v4 : Bytes
  prefix4 : Nat
  gateway : Bytes
  v6 : Bytes
  prefix6 : Nat
  udp : Nat
deriving DecidableEq, Repr

/-- What one control port holds beside its objects (R378-R394). -/
structure Port where
  challenges : List Challenge := []
  session : Option Session := none
  lastId : Nat := 0
  failures : Nat := 0
  lockedUntil : Option Nat := none
  second : Nat := 0
  inSecond : Nat := 0
  addrEffectAt : Option Nat := none
  addrInForce : Option NetAddr := none
deriving DecidableEq, Repr

/-- One of the two copies of a key slot in the key store, with its CRC-32C (R395). -/
structure KeyCopy where
  key : Bytes := []
  crc : Nat := 0
deriving DecidableEq, Repr

/-- A key slot (R395): its two copies. -/
structure KeySlot where
  a : KeyCopy := {}
  b : KeyCopy := {}
deriving DecidableEq, Repr

/-- One record of a configuration image (R403): object code, row, value bytes. -/
structure CfgRecord where
  obj : Nat
  row : Nat
  value : Bytes
deriving DecidableEq, Repr

/-- A save in progress (R405). -/
structure Save where
  target : Nat
  generation : Nat
  records : List CfgRecord
  imported : Option Bytes := none
  dirtyAfter : Bool := false
  time : Nat := 0
deriving DecidableEq, Repr

/-- The control complex beside its objects. -/
structure Ctl where
  ports : Store Nat Port := []
  keys : Store Nat KeySlot := []
  /-- Verification keys (R419). -/
  vkeys : Store Nat KeySlot := []
  deviceOwner : Nat := 0
  applyMap : Option (List (Int × Int × Int × Int) × Nat) := none
  endAfter : List (Nat × Int) := []
  cfgBuffer : Bytes := []
  cfgOpen : Bool := false
  cfgSlots : Store Nat Bytes := []
  save : Option Save := none
  snapshotDue : Bool := false
  /-- Route records of the configuration chosen (R402): whether it is an audio channel, the row, the source. -/
  routeRecs : List (Bool × Nat × Nat) := []
  responses : List PendingResponse := []
deriving DecidableEq, Repr

/-! Alarms, logs and traces (chapter 19). -/

/-- An alarm point (R463): active instances with their severities, and the rest of its state. -/
structure AlarmPt where
  active : List (Nat × Nat) := []
  subsys : Nat := 0
  severity : Nat := 0
  latched : Bool := false
  raises : Nat := 0
  lastInstance : Nat := 0xFFFFFFFF
  firstRaise : Nat := 0
  lastChange : Nat := 0
deriving DecidableEq, Repr

/-- A record of the ring and the vault (R467), before its CRC. -/
structure LogRec where
  seq : Nat
  time : Nat
  kind : Nat
  point : Nat
  severity : Nat
  subsys : Nat
  inst : Nat
  data : Bytes
deriving DecidableEq, Repr

/-- A coalescing window of a session for a point (R465): when it ends and the changes it holds. -/
structure CoalWindow where
  ends : Nat
  changes : Nat
deriving DecidableEq, Repr

/-- A port's telemetry stream (R472): position in the ring and credit in bits. -/
structure TelStream where
  position : Nat := 0
  credit : Nat := 0
  on : Bool := false
  inflight : Nat := 0
deriving DecidableEq, Repr

/-- An alarm that clears after a quiet interval (R463): the instance and the instant of its last cause. -/
structure QuietTimer where
  alarm : Alarm
  inst : Nat
  since : Nat
deriving DecidableEq, Repr

/-- Alarm table, staging queue, ring, vault, traces. -/
structure Alm where
  points : Store Alarm AlarmPt := []
  quiet : List QuietTimer := []
  nextSeq : Nat := 0
  staging : List LogRec := []
  lost : Option (Nat × Nat) := none
  ring : List LogRec := []
  vault : List LogRec := []
  vaultLeft : Nat := 0
  windows : Store (Nat × Nat) CoalWindow := []
  streams : Store Nat TelStream := []
  traceCount : Store Nat Nat := []
  samples : List (Nat × Nat × Int) := []
deriving DecidableEq, Repr

/-! Memory integrity and tally units (chapter 14). -/

/-- What is wrong with a stored word (R355, R356, R367): flipped bits of its data and of its check bits; or it is poison. -/
structure WordErr where
  data : Nat := 0
  check : Nat := 0
  poison : Bool := false
deriving DecidableEq, Repr

/-- A pending write-back or poison write (R358, R367). -/
structure WriteBack where
  addr : Nat
  poison : Bool
deriving DecidableEq, Repr

/-- A row on its way to its spare (R364): a word of it, whether its copy has started. -/
structure RowCopy where
  addr : Nat
  started : Bool := false
deriving DecidableEq, Repr

/-- An uncorrectable word of a frame buffer (R369): address, endpoint, line (0 the ancillary area), frame, whether the concealed line has been counted. -/
structure BadLine where
  addr : Nat
  ep : Nat
  line : Nat
  serial : Nat
  counted : Bool := false
deriving DecidableEq, Repr

/-- A granule of a ledger bank with a poisoned word (R370): whether a reload from flash is under way. -/
structure BadGranule where
  bank : Nat
  granule : Nat
  reloading : Bool
deriving DecidableEq, Repr

/-- A 'run' of a tally channel (R372): range, bytes per feed. -/
structure TallyRun where
  addr : Nat
  len : Nat
  width : Nat
deriving DecidableEq, Repr

/-- Memory integrity beside its objects: words in error by address; pending write-backs by controller or macro group; rows being retired by memory (0-5 stacks, 6 SRAM); spare rows
used by bank and by memory; uncorrectable words of frame buffers; granules; where the SRAM walker stands and when the laps began; the tally claims (channel and the port
whose session holds it, R371) and runs. -/
structure Itg where
  claims : Store Nat Nat := []
  words : Store Nat WordErr := []
  backs : Store Nat (List WriteBack) := []
  rows : Store Nat (List RowCopy) := []
  bankUsed : Store Nat Nat := []
  memUsed : Store Nat Nat := []
  lines : List BadLine := []
  granules : List BadGranule := []
  sramPos : Nat := 0
  hbmFrom : Nat := 0
  sramFrom : Nat := 0
  runs : Store Nat TallyRun := []
deriving DecidableEq, Repr

/-! Ledger banks and swaps (chapter 2). -/

/-- A range of the ownership map (R56). -/
structure OwnerRange where
  base : Nat
  granules : Nat
  cls : Nat
  dom : Nat
  id : Nat
deriving DecidableEq, Repr

/-- A domain descriptor (R34). -/
structure DomDesc where
  rate : Nat := 0
  inUse : Nat := 0
  full : Nat := 0
  short : Nat := 0
  share : Nat := 0
  engineMap : Nat := 0
deriving DecidableEq, Repr

/-- One tier of a coarsening ladder (R257). -/
structure LadderTier where
  searchH : Nat
  searchV : Nat
  intraSet : Nat
  maxDepth : Nat
  qpOffset : Int
  tools : Nat
  ceiling : Nat
deriving DecidableEq, Repr

/-- The ladder of a mint channel (section 000Ah). -/
structure Ladder where
  channel : Nat
  ctuCount : Nat
  frameBudget : Nat
  ctuBudget : Nat
  rowSlack : Nat
  tiers : List LadderTier
deriving DecidableEq, Repr

/-- What a ledger bank holds (R42): the bytes received, whether they come from flash, and, once checked, what the image says. -/
structure Bank where
  raw : Bytes := []
  fromFlash : Option Nat := none
  descs : List DomDesc := []
  owners : List OwnerRange := []
  ladders : List Ladder := []
  plan : Plan := {}
  /-- Verification key with which the check in progress started (R420). -/
  vkey : Option Bytes := none
deriving DecidableEq, Repr

/-- A swap from its arm to its end (R45-R50): kind, the two banks, the anchor, for each domain those that must change over first, the domains that have
changed over with the instant, and the instant of the anchor tick once it has come. -/
structure Swap where
  kind : Int
  incoming : Nat
  outgoing : Option Nat
  anchorTd : Nat
  anchorFcnt : Nat
  domains : List Nat
  waits : List (Nat × List Nat)
  done : List (Nat × Nat)
  anchored : Option Nat := none
deriving DecidableEq, Repr

/-- The ledger beside its objects: banks, which bank serves each domain, which was last active and last ready, the swap, and the overdrafts of the
frame in progress of each domain (the subsystem charged by each). -/
structure Led where
  banks : Store Nat Bank := []
  serving : Store Nat Nat := []
  lastActive : Option Nat := none
  lastReady : Option Nat := none
  swap : Option Swap := none
  charged : Store Nat (List Nat) := []
deriving DecidableEq, Repr

/-! Reference, timing domains and time (chapters 3 and 4). -/

/-- A reference candidate beside its objects (R66-R71): the 1 s offsets since its signal appeared (newest first, at most 64), whether signal is present,
whether it has been disqualified since start-up, and since when a wait to restore runs (none without signal). -/
structure Cand where
  present : Bool := false
  samples : List Int := []
  ever : Bool := false
  waitFrom : Option Nat := none
deriving DecidableEq, Repr

/-- What a comparison has moved (R72): its instant, and the control value, the phase, the build-out, the last phase and the state of the slew before it. -/
structure Compared where
  at_ : Nat
  control : Int
  phaseFine : Int
  buildOut : Int
  lastPhase : Option Int
  slewing : Bool
  goodSince : Option Nat
deriving DecidableEq, Repr

/-- A timing domain beside its objects: tick generator, ledger cycle, DPLL and realignment. -/
structure Td where
  /-- Instant of the last frame tick, and the time clock's reading at it. -/
  tickAt : Nat := 0
  tickClk : Nat := 0
  /-- Instant of the tick before it. -/
  prevTick : Nat := 0
  /-- The system clock of R289 at the last frame tick, in thousandths of a count of 27 MHz. -/
  sys : Nat := 0
  /-- Rate code that the tick generator runs at: the last one used, 50 p when there was none (R77). -/
  rate : Nat := 8
  /-- Ledger cycle in progress. -/
  cycle : Nat := 0
  /-- Ranks and REVERTIVE as the last update took them (R76). -/
  ranks : List Nat := [1, 2, 4, 5, 3, 0, 0, 0]
  revertive : Bool := true
  /-- 1 s means of the control value with the locked flag, newest first, at most 10,600 (R80). -/
  means : List (Bool × Int) := []
  /-- The second in progress: when it began, since when the control value stands, the control value times ns up to then, whether the loop has been 'locked' since it began. -/
  secFrom : Nat := 0
  ctlFrom : Nat := 0
  ctlArea : Int := 0
  whole : Bool := false
  /-- The next tick is the first after the tick generator began to run, or after it was placed automatically (R83, R85). -/
  placed : Bool := true
  /-- Since when phase and frequency have been within the limits of R77. -/
  goodSince : Option Nat := none
  /-- Fixed build-out offset of R79, in ns. -/
  buildOut : Int := 0
  /-- The frequency is slewing to a new reference or to the holdover value (R79, R80). -/
  slewing : Bool := false
  /-- Phase of the last comparison in ns, none after the comparisons have been discarded (R72). -/
  lastPhase : Option Int := none
  /-- Instant of the last comparison. -/
  comparedAt : Nat := 0
  /-- The comparisons of the longest detection interval of R63, newest first. -/
  compared : List Compared := []
  /-- Code of the bandwidth in effect (R78). -/
  bw : Nat := 8
  /-- The peer's domain of this number is not 'locked', so that TWIN has no signal for this domain (R63). -/
  twinLost : Bool := false
  /-- Offset of the ticks against the reference's alignment points in units of 1/30,000,000 ns (R87, R88). -/
  phaseFine : Int := 0
  /-- FCNT of the jump frame of a pending jump (R89). -/
  jumpFrame : Option Nat := none
  /-- The tick that ends the jump frame is late by this many ns. -/
  jumpExtend : Nat := 0
  /-- A jump frame is in progress: destinations show black, audio is silent. -/
  inJump : Bool := false
  /-- The tick just produced is a changeover tick (R47). -/
  changeDue : Bool := false
  /-- The frame in progress began in ride-through, so that tiles refresh with divisor 4 (R445, R446). -/
  dip : Bool := false
  /-- Values in force on the pins of the pair: mode, offset, width, polarity of FP(2d) and FP(2d + 1) (R86). -/
  fp : List (Int × Int × Int × Int) := []
deriving DecidableEq, Repr

/-- An entry of a timestamp queue (R105). -/
structure PtqEntry where
  seconds : Nat
  nanos : Nat
  lane : Nat
  seq : Nat
  msgType : Nat
  sent : Bool
  stepGen : Nat
  fraction : Nat
deriving DecidableEq, Repr

/-- A foreign leader heard on a PTP port (R97): identity, comparison rank, receipt instants of its last Announce messages, UTC offset, whether it has qualified. -/
structure Foreign where
  leader : Nat
  rank : Nat
  heard : List Nat
  utcOffset : Int
  utcValid : Bool
  qualified : Bool := false
deriving DecidableEq, Repr

/-- A Sync of a port: leader, sequence, receive stamp in ns, STEP_GEN at stamping, origin time once known (R98, R105). -/
structure SyncState where
  leader : Nat
  seq : Nat
  stamp : Int
  gen : Nat
  origin : Option Int
deriving DecidableEq, Repr

/-- A Delay_Req of a port: sequence, transmit stamp in ns, STEP_GEN at stamping. -/
structure ReqState where
  seq : Nat
  stamp : Int
  gen : Nat
deriving DecidableEq, Repr

/-- A PTP port beside its objects (R97, R98): foreign leaders, the Sync and the Delay_Req in progress, the next sequence number, the mean path delay of
the last exchange. -/
structure PtpPort where
  leaders : List Foreign := []
  sync : Option SyncState := none
  req : Option ReqState := none
  nextSeq : Nat := 0
  delay : Option Int := none
deriving DecidableEq, Repr

/-- Network time beside its objects: the ports, the queues, the consecutive exchanges of R98, whether the clock ever followed a leader (R158), the current
leader as port and identity. -/
structure Ptp where
  ports : Store Nat PtpPort := []
  queues : Store Nat (List PtqEntry) := []
  good : Nat := 0
  bad : Nat := 0
  everFollowed : Bool := false
  leader : Option (Nat × Nat) := none
  /-- SERVO_OWNER as the last exchange took it (R99). -/
  owner : Int := 0
  /-- A stamp that has found its queue full in the clock's present advance, with that advance: a removal in it would take effect first (R107). -/
  spill : Store Nat (Nat × PtqEntry) := []
  /-- The second in progress: when it began, and the clock's value then, moved with every step since. -/
  secFrom : Nat := 0
  clkFrom : Int := 0
deriving DecidableEq, Repr

/-! Power, supervision and start-up (chapter 18). -/

/-- A flash write that waits for the end of ride-through (R445). -/
inductive FlashWrite where
  | save
  | importCfg
  | fwClose (slot : Nat)
  | fwActivate (slot : Nat)
  | retirement (addr : Nat)
  | weakWord (addr : Nat)
deriving DecidableEq, Repr

/-- The supervisor beside its objects: fault instants of the last 60 s per domain, the dip in progress, postponed flash writes, the start-up sequence,
pins. -/
structure Pwr where
  aon : Bool := true
  faults : Store Nat (List Nat) := []
  testHold : List Nat := []
  ptpHold : Bool := false
  dipFrom : Option Nat := none
  dipMin : Nat := 0
  postponed : List FlashWrite := []
  /-- The start-up sequence runs; before it the module waits for the start level (R490). -/
  starting : Bool := false
  /-- Instant at which stage 0 started. -/
  stage0At : Nat := 0
  /-- Instant at which the stage in progress started. -/
  stageAt : Nat := 0
  /-- Stages 5-7 after SAFE_CMD 'leave' (R458). -/
  leaving : Bool := false
  /-- The first swap of stage 7 has been armed. -/
  armedFirst : Bool := false
  /-- NRST_IN is low. -/
  nrstLow : Bool := false
  /-- OSC_IN is present. -/
  oscIn : Bool := true
  /-- A RSVD land was found driven or grounded since VIN was last cycled (R478). -/
  rsvd : Bool := false
  /-- PWR_WARN_OUT is asserted. -/
  warnOut : Bool := false
  /-- Auditor and traces run at their lower rates: from the start of a ride-through to the first frame after it (R445, R446). -/
  slowed : Bool := false
  /-- SAFE_OUT is high. -/
  safeOut : Bool := true
  /-- Restart due at this instant after an 'activate' in recovery (R455). -/
  recoveryAt : Option Nat := none
  /-- Reason of the stop in progress, and the cause of the restart that follows. -/
  stopReason : Int := 0
  caseTemp : Int := 0
deriving DecidableEq, Repr

/-! Lanes (chapter 5). -/

/-- The search of a data stream for its timing reference signal (R129): locked place of the EAV, candidate place with its run, consecutive lines without the expected EAV. -/
structure Trs where
  place : Option Nat := none
  cand : Option (Nat × Nat) := none
  missing : Nat := 0
deriving DecidableEq, Repr

/-- A lane beside its objects (R116, R122-R134). -/
structure Lane where
  /-- Mode and direction in effect. -/
  mode : Int := 0
  dir : Int := 0
  /-- A LANE_MODE or DIRECTION write waits for the next cadence boundary. -/
  pendMode : Bool := false
  pendDir : Bool := false
  signal : Bool := false
  cdr : Bool := false
  /-- Place in the order of R125 that 'sdi-auto' tries. -/
  hunt : Nat := 0
  /-- Consecutive valid headers while hunting. -/
  good : Nat := 0
  /-- The last 64 headers while locked, newest first: whether each was invalid. -/
  window : List Bool := []
  /-- Where the block boundary stands, in bits slipped from where the search began, modulo 66. -/
  boundary : Nat := 0
  /-- Block lock, codeword lock; the last codeword was uncorrectable, so that its blocks are errored (R127). -/
  lock : Bool := false
  codeword : Bool := false
  errored : Bool := false
  /-- The search of each data stream (R129). -/
  trs : List Trs := []
  /-- Instant at which the lane entered 'aligning'. -/
  alignedAt : Nat := 0
  retryAt : Option Nat := none
  /-- Since when EYE_Q has been below ADAPT_RESET_Q, and below EYE_WARN_Q. -/
  lowSince : Option Nat := none
  warnSince : Option Nat := none
  /-- Local or Remote Fault is received. -/
  faultRx : Bool := false
  txFault : Bool := false
  /-- Taps captured at the last write of TX_FFE_SOURCE 'manual', and taps agreed by the last training. -/
  taps : Option (List Int) := none
  trained : Option (List Int) := none
  /-- Divisor of the line rate that gives the corner of the CDR's loop, 0 before it has locked (R124). -/
  corner : Nat := 0
  /-- Instant up to which the DFE taps are given (R123), and from which the PRBS checker has counted (R134). -/
  dfeAt : Nat := 0
  prbsFrom : Nat := 0
deriving DecidableEq, Repr

/-! Media transport (chapter 6) and source buffers (chapter 8). -/

/-- A frame in a source buffer: its serial number, the FCNT to which it is tagged ('line' mode), the instant at which its first active line started to be
written, the lines written in full, the ancillary data taken from it, the lines that the lane marked with a CRC mismatch (R130). -/
structure BufFrame where
  serial : Nat
  tag : Nat
  start : Nat
  full : List Nat := []
  anc : List AncPkt := []
  marked : List Nat := []
deriving DecidableEq, Repr

/-- The buffer of a source endpoint (R151, R152, R161, R194-R196, R205): frames newest first, whether the feed is lost or mismatched, the FCNTs from which readers take
black or pictures (latest first; black before the first), the run of off-time frames, lines marked stale by overdraft, lines of a frame counted as concealed, and for a
frame-synchronised buffer the frames read, newest first, with the FCNTs of the reading frames; the serial and the line that a reader has begun to read. -/
structure Buf where
  frames : List BufFrame := []
  nextSerial : Nat := 0
  down : Bool := true
  shades : List (Nat × Bool) := []
  offRun : Nat := 0
  stale : List (Nat × Nat) := []
  concealed : List (Nat × Nat) := []
  chosen : List (Nat × Nat) := []
  begun : Option (Nat × Nat) := none
  /-- Lines of a precinct of the codestream that a decoder output is decoded from (R270). -/
  precinct : Nat := 2
  /-- Ancillary packets that came before their frame, with its RTP timestamp (R151). -/
  ancWait : List (Nat × List AncPkt) := []
deriving DecidableEq, Repr

/-- An SDI input beside its objects: consecutive frames that failed R164, the frame in progress is written, and the audio FIFO of R210: samples held, whether
it plays, since when it has not slipped; ancillary data of the lines before the first active line. -/
structure SdiIn where
  badIds : Nat := 0
  idSeen : Bool := false
  writing : Bool := false
  fifo : List (List Int) := []
  playing : Bool := false
  since : Nat := 0
  anc : List AncPkt := []
deriving DecidableEq, Repr

/-- One leg of a flow row: the instant of its last packet and the SSRC heard. -/
structure Leg where
  lastAt : Nat := 0
  ssrc : Option Nat := none
deriving DecidableEq, Repr

/-- A range of sequence positions with their merge deadline (R155). -/
structure Span where
  lo : Nat
  hi : Nat
  deadline : Nat
deriving DecidableEq, Repr

/-- What has come of a sequence position: whether a copy was written, and the instants of arrival on each leg. -/
structure Got where
  written : Bool := false
  p : Option Nat := none
  s : Option Nat := none
deriving DecidableEq, Repr

/-- A frame (or field) that a flow receives: RTP timestamp; bytes written per line of the raster; the position after the marker of the frame before it and that of
its own marker; whether a packet lay outside the format, whether it has been judged complete, whether it has counted as outside the format; receive stamp of its first
packet per leg; serial of its buffer frame when it is written. -/
structure FlowFrame where
  ts : Nat
  bytes : Store Nat Nat := []
  start : Option Nat := none
  marker : Option Nat := none
  seqs : List Nat := []
  outside : Bool := false
  done : Bool := false
  counted : Bool := false
  firstP : Option Int := none
  firstS : Option Int := none
  serial : Option Nat := none
deriving DecidableEq, Repr

/-- A flow row beside its objects (R143-R159). -/
structure Flow where
  /-- Enabled within this cadence cycle; disabled within it while active. -/
  fresh : Bool := false
  leaving : Bool := false
  active : Bool := false
  joinAt : Option Nat := none
  p : Leg := {}
  s : Leg := {}
  newest : Option Nat := none
  /-- Positions below this one have been judged or are not judged. -/
  judged : Nat := 0
  spans : List Span := []
  got : Store Nat Got := []
  /-- Skews of the last second with their instants. -/
  skews : List (Nat × Int) := []
  /-- The two open frames, newest first. -/
  open_ : List FlowFrame := []
  /-- Consecutive frames outside the format; consecutive packets within it (audio). -/
  outside : Nat := 0
  run : Nat := 0
  /-- Position of the last packet that counted to `run`. -/
  lastQ : Option Nat := none
  lastAt : Nat := 0
  /-- 'timestamp': the samples of each 48 kHz tick, as crosspoint channels; 'arrival': the samples held, and whether they play. -/
  ticks : Store Nat (List Int) := []
  /-- Its audio plays: from 'present' until it is lost (R148, R161). -/
  fed : Bool := false
  held : List (List Int) := []
  playing : Bool := false
  /-- Since when the FIFO of embedded audio has not slipped. -/
  since : Nat := 0
deriving DecidableEq, Repr

/-- Media transport beside its objects: buffers by source endpoint, SDI inputs, flows, firmware frames of the second per lane, output rows: next sequence
number. -/
structure Med where
  bufs : Store Nat Buf := []
  sdi : Store Nat SdiIn := []
  flows : Store Nat Flow := []
  fwSecond : Store Nat (Nat × Nat) := []
  txSeq : Store Nat Nat := []
deriving DecidableEq, Repr

/-! The audio crosspoint (chapter 8). -/

/-- A take for a destination channel: source (65535 silence), crossfade code, the instant at or after which its boundary lies, the salvo entry it belongs to. -/
structure AudTake where
  src : Nat
  fade : Nat
  since : Nat
  salvo : Option (Nat × Nat) := none
deriving DecidableEq, Repr

/-- A destination channel beside its objects (R211-R213): a take that has not reached its boundary, a take that waits, a crossfade that runs: old source, samples
done, length. -/
structure AudChan where
  pend : Option AudTake := none
  wait : Option AudTake := none
  fade : Option (Nat × Nat × Nat) := none
deriving DecidableEq, Repr

/-- A mute of destination channels (R53, R89): silent from one instant to another, with ramps of 1 ms before and after. -/
structure Mute where
  first : Nat
  count : Nat
  down : Nat
  up : Nat
deriving DecidableEq, Repr

/-- The audio crosspoint (R209): the blocks of 6 samples that sources placed in this cadence cycle, those that destinations read in it, the destinations' blocks,
the channels' takes, source channels ramping to silence with the samples done and the last block (R161), the blocks of the destination channels, and their mutes. -/
structure Aud where
  placed : Store Nat (List Int) := []
  moved : Store Nat (List Int) := []
  chans : Store Nat AudChan := []
  ramps : Store Nat (Nat × List Int) := []
  heard : Store Nat (List Int) := []
  mutes : List Mute := []
deriving DecidableEq, Repr

/-! The clearing fabric (chapter 8). -/

/-- A copy path of a 'frame-sync' route (R205): source, frames copied newest first, each tagged with its FCNT in the source's domain, the frame read with the FCNT of the
reading frame, and whether it is the one of the frame before. -/
structure SyncPath where
  src : Nat
  frames : List BufFrame := []
  nextSerial : Nat := 0
  reading : Option Nat := none
  readFcnt : Nat := 0
  again : Bool := false
deriving DecidableEq, Repr

/-- An accepted route that has not applied (R199, R205, R219): source, take instant, the first frame it may apply to, path, the copy it waits for, the salvo entry it
belongs to. -/
structure PendRoute where
  src : Nat
  takenAt : Nat
  path : Int
  prep : Option SyncPath := none
  salvo : Option (Nat × Nat) := none
deriving DecidableEq, Repr

/-- A destination beside its objects: ancillary packets that wait for room (R339), the setting of a generator source in force (R341), the route accepted and not applied, the copy that the route in force reads, the frame that it shows as black at a changeover (R50,
R53), lines whose read was missed by frame and line (R58), the frame that it repeats while the pair's outputs are held and the packets that it carried in its last frame
(R439). -/
structure Dest where
  pending : Option PendRoute := none
  sync : Option SyncPath := none
  blackFrame : Option Nat := none
  missed : List (Nat × Nat) := []
  anc : List AncPkt := []
  gen : Option Nat := none
  hold : Option Nat := none
  carried : Nat × List AncPkt := (0, [])
deriving DecidableEq, Repr

/-- The fabric beside its objects: destinations by row, teller tasks that hold anchored salvos. -/
structure Fab where
  dests : Store Nat Dest := []
  anchors : Store Nat Nat := []
deriving DecidableEq, Repr

/-! Tellers (chapter 9). -/

/-- A row of the teller task table beside its objects (R225-R241): kind, key, priority, late policy, target and value, the creating session's port, identifier, roles
and partition, creation order, created since the last round, late, the instant at which it fell due, the instant of dispatch and the result its worker will report, the
order in which it entered a final state. -/
structure Task where
  kind : Int
  byTime : Bool
  td : Nat := 0
  fcnt : Nat := 0
  cycle : Nat := 0
  timeNs : Nat := 0
  prio : Nat := 16
  discard : Bool := false
  target : Nat := 0
  value : Bytes := []
  port : Nat
  session : Nat := 0
  roles : Nat
  part : Option Nat
  order : Nat
  fresh : Bool := true
  late : Bool := false
  dueAt : Int := 0
  dispatchedAt : Nat := 0
  result : Nat := 0
  ended : Nat := 0
  /-- Running number of the cancel accepted for it (R233). -/
  cancelled : Nat := 0
deriving DecidableEq, Repr

/-- The tellers beside their objects: rows, the running numbers of creations, of final states and of cancels. -/
structure Tlr where
  tasks : Store Nat Task := []
  created : Nat := 0
  finals : Nat := 0
  cancels : Nat := 0
deriving DecidableEq, Repr

/-! Encoding (chapters 10 and 11). -/

/-- A frame that a mint channel has read and not handed over: FCNT, whether it is coded as a random-access picture, the override in force, BASE_QP, MIN_QP,
MAX_QP and RC_TARGET_FILL in force, the plan and the ladder under which it is coded, the ancillary data read with it, and the 48 kHz samples of its audio; its place in the refresh
cycle of 'gdr' (R283), the system clock at the release of packet 0 of the slot of this frame's instant, and the 90 kHz counts from the frame's tick to its first sample (R286, R289). -/
structure MintPic where
  fcnt : Nat
  rap : Bool
  place : Option Nat := none
  pcr : Nat := 0
  lead : Nat := 0
  override : Int
  rc : List Int
  plan : PlanMint
  ladder : Ladder
  anc : List AncPkt := []
  samples : Nat := 0
deriving DecidableEq, Repr

/-- A frame slot in transmission (R274, R275): instant of datagram 0, frame period in thirds of a ns, datagrams, packets of the video, audio and ancillary regions, packets of
each that carry data, whether datagrams of nulls are omitted, its clock values, the continuity counters of its first packets and its tables. -/
structure TsSlot where
  start : Nat
  period3 : Nat
  datagrams : Nat
  regions : List Nat
  used : List Nat
  omits : Bool
  clock : SlotClock := ⟨0, 0, 0, 0, false⟩
  counters : List Nat := []
  tables : ProgramMap := {}
deriving DecidableEq, Repr

/-- A mint channel beside its objects: pictures read, oldest first; instants at which access units are due, with the system clock at the release of their slots; a write of INPUT_OVERRIDE, RAP_REQUEST that waits for a frame
start; the override in force; a random-access picture is forced; pictures since the last one; the picture ahead of which its successor was coded; picture QP and bytes
of the last picture of each type; slots, newest first; clocks of the last picture per rectangle; misses of the picture being coded by rectangle and CTU; ancillary data of
the frame being read; PMT content in force; an access unit has been handed over since 'starting'; the next stream packets mark a discontinuity (R438); the continuity counters of the next slot, of the video PID, of
audio streams 0-3, of the ancillary PID, of PAT and of PMT (R288). -/
structure MintChan where
  pics : List MintPic := []
  dues : List (Nat × Nat) := []
  overrideNew : Bool := false
  override : Int := 0
  rapNew : Bool := false
  force : Bool := true
  sinceRap : Nat := 0
  ahead : Bool := false
  lastQp : Store Nat (Int × Nat) := []
  slots : List TsSlot := []
  lastClocks : List Nat := []
  missed : List (Nat × Nat) := []
  anc : List AncPkt := []
  pmt : Option (List Nat) := none
  any : Bool := false
  discont : Bool := false
  counters : List Nat := [0, 0, 0, 0, 0, 0, 0, 0]
deriving DecidableEq, Repr

/-- The encoding subsystem beside its objects. -/
structure Enc where
  chans : Store Nat MintChan := []
deriving DecidableEq, Repr

/-! Compositors (chapter 12). -/

/-- How a commit stands to the plate (R314): it needs none, the plate in force serves it, its plate has still to be built, is being built, is built. -/
inductive PlateNeed where
  | none
  | held
  | queued
  | building
  | built
deriving DecidableEq, Repr

/-- An accepted commit that has not applied (R317-R320): number, the first frame it may apply to, values of the layers it names, background, plate, and the order in which commits
of all compositors were accepted. -/
structure Commit where
  seq : Nat
  fcnt : Nat
  vals : List (Nat × LayerCfg)
  bg : Option Nat
  plate : PlateNeed := .none
  order : Nat := 0
deriving DecidableEq, Repr

/-- A compositor beside its objects: configuration in force of its layers, background in force, commits, the FCNT whose latch instant has passed, the plate in force (its layers and
background), consecutive excused results, lines of layers overdrawn in the frame in progress, and lines of scalers; layer stores in which a poisoned word was found, and when; when one was found
in the plate (R312). -/
structure Comp where
  layers : List LayerCfg := []
  bg : Nat := 67633664
  pend : List Commit := []
  latched : Option Nat := none
  plate : Option (List LayerCfg × Nat) := none
  excused : Nat := 0
  overdrawn : List (Nat × Nat) := []
  scaled : List (Nat × Nat) := []
  stores : List (Nat × Nat) := []
  plateHurt : Option Nat := none
deriving DecidableEq, Repr

/-- A surface beside its objects: pixel bytes received by offset, units of the tiles, bytes of the pool that it holds, freed at the end of the ledger cycle, the domain
at whose tick it leaves escrow, when a poisoned word was found in it. -/
structure Surf where
  bytes : Store Nat Byte := []
  units : List Nat := []
  held : Nat := 0
  freeing : Bool := false
  escrowTd : Nat := 0
  hurt : Nat := 0
deriving DecidableEq, Repr

/-- Compositors and surfaces beside their objects; the number of commits accepted. -/
structure Cmp where
  comps : Store Nat Comp := []
  surfs : Store Nat Surf := []
  order : Nat := 0
deriving DecidableEq, Repr

/-! Multiviewer heads and picture monitors (chapter 13). -/

/-- A head beside its objects (R344, R346): tiles and background in force, commits with the first frame they may apply to, the FCNT whose latch instant has passed, for each tile the
last refresh frame that it read, and the lines of its bank scalers overdrawn in the frame in progress. -/
structure Head where
  tiles : List TileCfg := []
  bg : Nat := 67633664
  pend : List (Nat × List TileCfg × Nat) := []
  latched : Option Nat := none
  seen : Store Nat Nat := []
  scaled : List Nat := []
deriving DecidableEq, Repr

/-- A picture monitor beside its objects (R348-R350): the first frame it measures, the previous signature, the first frame of the run. -/
structure Mon where
  from_ : Nat
  prev : Option Nat := none
  start : Nat := 0
deriving DecidableEq, Repr

/-- Heads and monitors beside their objects; for each metered channel the peak and the instant of it (R345). -/
structure Ras where
  heads : Store Nat Head := []
  mons : Store Nat Mon := []
  meters : Store Nat (Nat × Nat) := []
deriving DecidableEq, Repr

/-! Egress (chapter 7). -/

/-- A frame in a queue: length from destination address to frame check sequence, payload bytes, sequence number, stamp request (0 none, 1 descriptor, 2 queue),
whether it has been counted as held, what a frame of the firmware carries, the PTP port whose Delay_Req it is; of an output row's packet the row, its RTP sequence number and
timestamp, and whether it is the last of its frame. -/
structure EgFrame where
  len : Nat
  payload : Nat := 0
  seq : Nat := 0
  stamp : Nat := 0
  held : Bool := false
  carries : List Out := []
  req : Option Nat := none
  media : Option (Nat × Nat × Nat) := none
  marker : Bool := false
deriving DecidableEq, Repr

/-- A gate control list (R181-R183): base and cycle in ns of the time clock, entries as gate states and interval, the change time at which it starts or started. -/
structure GateList where
  base : Nat
  cycle : Nat
  entries : List (Nat × Nat)
  start : Nat
deriving DecidableEq, Repr

/-- A port of the traffic manager beside its objects: the instant at which the wire falls idle, in hundredths of a ns; gate states in effect; lists; the instant up to
which credit has been counted, and the credit of each class in 1/8,000,000 byte; queues by class and queue; for each class the queue visited and whether the visit
has had its quantum. -/
structure EgPort where
  wire : Nat := 0
  gates : Nat := 127
  running : Option GateList := none
  pending : Option GateList := none
  /-- GATE_ENABLED FALSE takes effect at the next 125 µs boundary. -/
  disableDue : Bool := false
  creditAt : Nat := 0
  credit : Store Nat Int := []
  queues : Store (Nat × Nat) (List EgFrame) := []
  visit : Store Nat (Nat × Bool) := []
deriving DecidableEq, Repr

/-- The traffic manager. -/
structure Eg where
  ports : Store Nat EgPort := []
deriving DecidableEq, Repr

/-! Security (chapter 16). -/

/-- A firmware slot in flash: the bytes loaded; or the image with which the module was delivered, whose bytes the manual does not give (R413, log entry 28). -/
structure FwSlot where
  image : Bytes := []
  delivered : Bool := false
deriving DecidableEq, Repr

/-- Security beside its objects (R411-R423): firmware slots; the two copies of the boot record (`none`: its CRC fails); the security transfer buffer; the newest valid journal
record; whether the last journal write failed; whether one is under way, with the block it starts; the ports whose requests wait for it; the reports being signed; the reports
and signatures that sessions can read. -/
structure Sec where
  fw : Store Nat FwSlot := [(0, { delivered := true })]
  boot : List (Option Nat) := [some 0, some 0]
  buf : Bytes := []
  journal : Option Nat := none
  fault : Bool := false
  writing : Bool := false
  waiting : List Nat := []
  signing : Store Nat Bytes := []
  att : Store Nat Bytes := []
deriving DecidableEq, Repr

/-! The protection pair (chapter 17). -/

/-- A retransmitted channel of the Ivard link (R430): SEQ of the next frame sent, frames not acknowledged with what they carry, when ACK last advanced, SEQ of the last frame
accepted. -/
structure IvardChan where
  next : Nat := 1
  unacked : List (Nat × List MirrorEntry) := []
  movedAt : Nat := 0
  lastRx : Option Nat := none
deriving DecidableEq, Repr

/-- The pair beside its objects (R426-R440): PAIR_ENABLE TRUE waits for a TD0 tick; when the state was entered and in which TD0 frame; per path when a valid heartbeat last came and
since when it has been silent; since when PEER_CUSTODY_IN has been low; TD0 FCNT at which the peer was last heard; the peer's last FLAGS, EPOCH, PAIR_ID, MIRROR_SEQ and
MIRROR_ACK; its last cadence cycle count (ECHO); whether it was heard 'listening'; the handover tick of the module's own release and of the peer's, in the module's own count; the
safe-state reason to be entered at the handover; channels 1 and 2; entries received that wait for their frame; a resynchronisation runs. -/
structure Pair where
  enableDue : Bool := false
  entered : Nat := 0
  enteredFcnt : Nat := 0
  heard : List Nat := [0, 0]
  silentFrom : List Nat := [0, 0]
  lowFrom : Nat := 0
  lastHeard : Nat := 0
  peerFlags : Nat := 0
  peerEpoch : Nat := 0
  peerId : Nat := 0
  peerSeq : Nat := 0
  peerAck : Nat := 0
  peerCycle : Nat := 0
  heardListening : Bool := false
  handover : Option Nat := none
  peerHandover : Option Nat := none
  safeAfter : Option Int := none
  channels : Store Nat IvardChan := []
  inbox : List MirrorEntry := []
  syncing : Bool := false
deriving DecidableEq, Repr

/-- The test access port (R488): the code of the instruction loaded, none after TRST_N low, and whether it is one that drives pins. -/
structure Tap where
  instr : Option Nat := none
  drives : Bool := false
deriving DecidableEq, Repr

/-- What a command does to the frame store, carried out in order at its end: power is lost, so that it holds nothing; a byte is written. -/
inductive MemOrder where
  | clear
  | write (addr : Nat) (b : Byte)
deriving DecidableEq, Repr

/-! The whole machine. -/

/-- Everything the manual gives the module, the queue of waiting commands, and the model's own fields `orders` (empty between commands), `out`, `free` and `last`. -/
structure State where
  pending : List Instr := []
  now : Nat := 0
  clk : Nat := 0
  regs : Store (Nat × Nat) Int := []
  octs : Store (Nat × Nat) Bytes := []
  ctl : Ctl
  alm : Alm
  led : Led
  cands : Store Nat Cand := []
  tds : Store Nat Td := []
  cadence : Nat := 0
  cadenceAt : Nat := 0
  ptp : Ptp
  pwr : Pwr
  lanes : Store Nat Lane := []
  med : Med
  aud : Aud
  fab : Fab
  tlr : Tlr
  eg : Eg
  enc : Enc
  cmp : Cmp
  ras : Ras
  itg : Itg
  sec : Sec
  pair : Pair
  tap : Tap := {}
  mem : List Host.Cell := []
  orders : List MemOrder := []
  out : List Out := []
  free : Nat := 0
  last : OpResult := ⟨0, none⟩
deriving DecidableEq, Repr

/-- The module right after reset: nothing waiting, every object at its default, the key store as R395 says it leaves the factory (key bytes: log
entry 2), memory with nothing listed. -/
def State.reset : State :=
  { ctl := {}, alm := {}, led := {}, ptp := {}, pwr := {}, med := {}, aud := {}, fab := {}, tlr := {}, eg := {}, enc := {}, cmp := {}, ras := {}, itg := {}, sec := {}, pair := {} }

end Sys2Proof.Machine
end

