-- ==== Sys2Proof/Machine/LedgerImage.lean ====
section
/-! DEFINITION. Machine/LedgerImage.lean: the ledger image and the re-adding of the books (R24-R40, R56, R190, R257, R258). What the sections
0001h-0007h, 0009h and 000Bh hold comes as the `Plan` operand (log entry 10); everything else is read from the bytes. -/

namespace Sys2Proof.Machine

open Sys2Proof

/-! The header (R33) and the directory (R35). -/

abbrev hdrLength (b : Bytes) : Nat := fieldNat 8 4 b
abbrev hdrSections (b : Bytes) : Nat := fieldNat 12 2 b
abbrev hdrFlags (b : Bytes) : Nat := fieldNat 14 2 b
abbrev hdrImageId (b : Bytes) : Nat := fieldNat 16 8 b
abbrev hdrMinFw (b : Bytes) : Nat := fieldNat 28 4 b
abbrev hdrSigLen (b : Bytes) : Nat := fieldNat 100 4 b

/-- Whether FLAGS bit 0 says that a signature is present. -/
def hdrSigned (b : Bytes) : Bool := (hdrFlags b).testBit 0

/-- Smallest and largest image (R32). -/
def imageMin : Nat := 4096
def imageMax : Nat := 50331648

/-- A descriptor of the header (R34). -/
def domDesc (b : Bytes) (d : Nat) : DomDesc :=
  let o := 32 + 16 * d
  { rate := fieldNat o 1 b, inUse := fieldNat (o + 1) 1 b, full := fieldNat (o + 2) 2 b, short := fieldNat (o + 4) 4 b,
    share := fieldNat (o + 8) 1 b, engineMap := fieldNat (o + 9) 1 b }

/-- The four descriptors. -/
def domDescs (b : Bytes) : List DomDesc := [0, 1, 2, 3].map (domDesc b)

/-- A directory entry: type, offset, length, entry count. -/
structure Section where
  type : Nat
  off : Nat
  len : Nat
  count : Nat
deriving DecidableEq, Repr

/-- The directory. -/
def sections (b : Bytes) : List Section :=
  (List.range (hdrSections b)).map (fun i =>
    let o := 256 + 16 * i
    ⟨fieldNat o 2 b, fieldNat (o + 4) 4 b, fieldNat (o + 8) 4 b, fieldNat (o + 12) 4 b⟩)

/-- A section of a type. -/
def findSection (b : Bytes) (type : Nat) : Option Section := (sections b).find? (fun s => s.type == type)

/-- Sections follow one another from `pos` without gaps or overlaps, in strictly ascending order of type above `prev`, up to `stop`. -/
def chained : List Section → Nat → Nat → Nat → Bool
  | [], pos, _, stop => pos == stop
  | s :: l, pos, prev, stop => s.off == pos && decide (prev < s.type) && chained l (pos + s.len) s.type stop

/-- Whether the directory is consistent (R35, 0301h); `mints`: the image uses mints, so that it needs the coarsening ladders. -/
def directoryOk (b : Bytes) (mints : Bool) : Bool :=
  let n := hdrSections b
  let l := sections b
  decide (2 ≤ n ∧ n ≤ 64) && l.all (fun s => decide (1 ≤ s.type ∧ s.type ≤ 12)) &&
  ([1, 2, 3, 4, 5, 6, 7, 8, 9, 12] ++ if mints then [10] else []).all (fun t => l.any (fun s => s.type == t)) &&
  chained l (256 + 16 * n) 0 (hdrLength b - 4) && ((hdrFlags b).testBit 1 == l.any (fun s => s.type == 11))

/-- The ownership ranges of section 0008h (R56). -/
def ownerRanges (b : Bytes) : List OwnerRange :=
  match findSection b 8 with
  | none => []
  | some s => (List.range (s.len / 16)).map (fun i =>
      let o := s.off + 16 * i
      ⟨fieldNat o 8 b, fieldNat (o + 8) 4 b, fieldNat (o + 12) 1 b, fieldNat (o + 13) 1 b, fieldNat (o + 14) 2 b⟩)

/-- First address of on-die SRAM (R56). -/
def sramBase : Nat := 0x4000000000

/-- Bytes of a granule at an address (R56). -/
def granuleBytes (addr : Nat) : Nat := if addr < sramBase then 65536 else 4096

/-- End of a range. -/
def OwnerRange.stop (r : OwnerRange) : Nat := r.base + r.granules * granuleBytes r.base

/-- Whether an address lies in a range. -/
def OwnerRange.holds (r : OwnerRange) (a : Nat) : Bool := decide (r.base ≤ a ∧ a < r.stop)

/-- Whether no two ranges of a list overlap. -/
def disjoint : List OwnerRange → Bool
  | [] => true
  | r :: l => l.all (fun q => decide (r.stop ≤ q.base ∨ q.stop ≤ r.base ∨ r.granules = 0 ∨ q.granules = 0)) && disjoint l

/-- A tier record of a ladder at an offset (R257): search ranges, intra set, depth, QP offset, tools, ceiling. -/
def tierAt (b : Bytes) (o : Nat) : LadderTier :=
  ⟨fieldNat o 2 b, fieldNat (o + 2) 2 b, fieldNat (o + 4) 1 b, fieldNat (o + 5) 1 b, toSigned 8 (fieldNat (o + 6) 1 b), fieldNat (o + 8) 4 b, fieldNat (o + 12) 4 b⟩

/-- The ladders from an offset, at most `n`. -/
def laddersFrom (b : Bytes) : Nat → Nat → Nat → List Ladder
  | 0, _, _ => []
  | n + 1, o, stop =>
    if stop < o + 16 then []
    else
      let k := fieldNat (o + 1) 1 b
      ⟨fieldNat o 1 b, fieldNat (o + 2) 2 b, fieldNat (o + 4) 4 b, fieldNat (o + 8) 4 b, fieldNat (o + 12) 4 b,
        (List.range k).map (fun i => tierAt b (o + 16 + 16 * i))⟩ :: laddersFrom b n (o + 16 + 16 * k) stop

/-- The ladders of section 000Ah. -/
def ladders (b : Bytes) : List Ladder :=
  match findSection b 10 with
  | some s => laddersFrom b 16 s.off (s.off + s.len)
  | none => []

/-! Units that channels take, and rates of ports (R172, R245, R246, R265). -/

/-- Mints of a format in halves (R245). -/
def mintHalves (fc : Nat) : Nat :=
  let r := fmtRate fc
  match fmtRaster fc with
  | some .hd => 1
  | some .uhd => if r ≤ 0x0A then 1 else 2
  | some .uhd8k => if r ≤ 5 then 4 else if r ≤ 0x0A then 8 else 16
  | none => 0

/-- Whole mints that a format takes, one for half a mint. -/
def mintCount (fc : Nat) : Nat := (mintHalves fc + 1) / 2

/-- The mints of a channel. -/
def PlanMint_mints (p : PlanMint) : List Nat := (List.range (mintCount p.fmt)).map (p.first + ·)

/-- Engines of a format in halves (R265). -/
def xsHalves (fc : Nat) : Nat :=
  let r := fmtRate fc
  match fmtRaster fc with
  | some .hd => 1
  | some .uhd => if r ≤ 0x0A then 1 else 2
  | some .uhd8k => if r ≤ 0x0A then 4 else 8
  | none => 0

/-- Engines of an XS channel. -/
def PlanXs_engines (p : PlanXs) : List Nat := (List.range ((xsHalves p.fmt + 1) / 2)).map (p.ch / 2 + ·)

/-- Whether a channel's mints begin at a multiple of their number, and are mints (R246). -/
def mintPlaced (p : PlanMint) : Bool := decide (p.ch < 16) && p.first % mintCount p.fmt == 0 && decide (p.first + mintCount p.fmt ≤ 16)

/-- Whether each mint serves one channel, or two that take half of it (R246). -/
def mintsPlaced (l : List PlanMint) : Bool :=
  l.all mintPlaced && (List.range 16).all (fun m =>
    let on := l.filter (fun p => (PlanMint_mints p).contains m)
    decide (on.length ≤ 1) || (on.length == 2 && on.all (fun p => mintHalves p.fmt == 1)))

/-- Whether an XS channel has the index that its format asks for, and no other channel an index of its engines; of a half engine, its own index (R265). -/
def xsPlaced (l : List PlanXs) : Bool :=
  l.all (fun p =>
    let h := xsHalves p.fmt
    decide (p.ch < 16) && p.ch % h == 0 && decide (p.ch + h ≤ 16) && (l.filter (fun q => decide (p.ch ≤ q.ch ∧ q.ch < p.ch + h))).length == 1)

/-- MAC rate of a mode in Mbit/s (R172). -/
def macRate (m : Int) : Nat :=
  if m = LANE_MODE.m10gbase_r then 10000 else if m = LANE_MODE.m25gbase_r then 25000 else if m = LANE_MODE.m50gbase_r then 50000
  else if m = LANE_MODE.m100gbase_kr1 ∨ m = LANE_MODE.m100gbase_cr1 then 100000 else 0

/-! Domains, endpoints and table entries (R24, R29, R34, R39, 0307h). -/

/-- Rate code of a domain that the image uses, 0 otherwise. -/
def descRate (ds : List DomDesc) (d : Nat) : Nat :=
  match ds[d]? with
  | some x => if x.inUse = 1 then x.rate else 0
  | none => 0

/-- Whether a descriptor agrees with R24 and R34. -/
def descOk (x : DomDesc) : Bool :=
  decide (x.share ≤ 16) &&
  (if x.inUse = 1 then isRate x.rate && x.full == fullCycles x.rate && x.short == shortCycle x.rate else x.inUse == 0 && x.rate == 0)

/-- The engines that a plan's assignment lists name. -/
def planEngines (p : Plan) : List Nat := (p.shares.map (·.engine)).eraseDups

/-- Sum of natural numbers. -/
def sumNat (l : List Nat) : Nat := l.foldl (· + ·) 0

/-- A domain's share of an engine, in sixteenths. -/
def shareOf (p : Plan) (d e : Nat) : Nat := sumNat ((p.shares.filter (fun s => s.dom == d && s.engine == e)).map (·.share))

/-- Whether the shares of the domains sum to at most 16, for HBM and for every engine (R29, R30). -/
def sharesOk (ds : List DomDesc) (p : Plan) : Bool :=
  decide (sumNat (ds.map (·.share)) ≤ 16) && (planEngines p).all (fun e => decide (sumNat ([0, 1, 2, 3].map (fun d => shareOf p d e)) ≤ 16)) &&
  p.shares.all (fun s => decide (s.dom < 4) && (decide (s.engine < 8) || s.share == 16 || s.share == 0))

/-- Whether an endpoint's format lies in its domain's family and, on SDI, has a mapping (R18, R334, R336). -/
def endpointOk (ds : List DomDesc) (e : PlanEndpoint) : Bool :=
  let r := descRate ds e.dom
  isRate r && isFormat e.fmt && family (fmtRate e.fmt) == family r && (e.transport != 1 || (fmtSdi e.fmt).isSome)

/-- Whether a table entry names a domain in use and a cycle of its frame. -/
def useOk (ds : List DomDesc) (u : PlanUse) : Bool := let r := descRate ds u.dom; isRate r && decide (u.cycle < frameCycles r)

/-- The domains that the tables of sections 0004h-0006h name (R39): of mint and XS channels, compositors, heads and output rows. -/
def tableDomains (p : Plan) : List Nat :=
  (p.mints.map (·.dom) ++ p.xs.map (·.dom) ++ p.comps.map (·.dom) ++ p.heads.map (·.dom) ++ p.outRows.map (·.dom) ++ p.completion.map (·.1)).eraseDups

/-- The units that those tables give a domain: mints, XS engines, compositors (both halves of a gang) and scalers, with the codes of the assignment lists (R29). -/
def planUnits (p : Plan) : List (Nat × Nat) :=
  (p.mints.map (fun m => (PlanMint_mints m).map (fun k => (m.dom, 0x30 + k)))).flatten ++
  (p.xs.map (fun x => (PlanXs_engines x).map (fun k => (x.dom, 0x40 + k)))).flatten ++
  (p.comps.map (fun c => (c.dom, 0x50 + c.c) :: ((if c.gang then [(c.dom, 0x51 + c.c)] else []) ++
    (c.layers.map (fun l => (List.range l.scalers).map (fun i => (c.dom, 0x200 + (l.scaler + i))))).flatten))).flatten ++
  (p.heads.map (fun h => h.scalers.map (fun i => (h.dom, 0x200 + i)))).flatten

/-- Whether every unit stands in its domain's assignment list; as the shares of a unit sum to at most 16, it then serves that domain alone (R29, R31). -/
def unitsHeld (p : Plan) : Bool := (planUnits p).all (fun u => shareOf p u.1 u.2 == 16)

/-! Totals and capacities (R29, R30, R38-R40). -/

/-- Total planned use of a resource and domain in a cycle; of a stack that of its busiest pseudo-channel (R38). -/
def useIn (p : Plan) (res dom cycle : Nat) : Nat :=
  let l := p.uses.filter (fun u => u.res == res && u.dom == dom && u.cycle == cycle)
  if 0x10 ≤ res ∧ res ≤ 0x15 then
    (((l.map (·.unit)).eraseDups).map (fun c => sumNat ((l.filter (fun u => u.unit == c)).map (·.use)))).foldl max 0
  else sumNat (l.map (·.use))

/-- Grains that may be planned in a window of `ns` with a share (R29, R30). -/
def hbmCap (ns share : Nat) : Nat := ns / 16 * share * 88 / 100

/-- Quarter-slots of a fabric pool (R14). -/
def poolCap : Nat := 4096

/-- Bytes at line rate of a lane's egress port in `ns` under the plan's lane modes (R172). -/
def egressCap (p : Plan) (lane ns : Nat) : Nat :=
  match p.laneModes.find? (fun m => m.1 == lane) with
  | some m => macRate m.2 * ns / 8000
  | none => 0

/-- Capacity of a resource for a domain: in every cycle but the last, and in the last. A unit that the domain's assignment list does not name offers it nothing (R29). -/
def capOf (ds : List DomDesc) (p : Plan) (res dom : Nat) : Nat × Nat :=
  let r := descRate ds dom
  let last := lastUsable r
  let share := match ds[dom]? with
    | some x => x.share
    | none => 0
  if 0x10 ≤ res ∧ res ≤ 0x15 then (hbmCap 125000 share, hbmCap last share)
  else if res = 0x20 ∨ res = 0x21 then (poolCap, poolCap)
  else if 0x30 ≤ res ∧ res ≤ 0x6F ∧ shareOf p dom res = 0 then (0, 0)
  else if 0x30 ≤ res ∧ res ≤ 0x3F then (150000, last * 6 / 5)
  else if 0x40 ≤ res ∧ res ≤ 0x47 then (100000, last * 4 / 5)
  else if 0x100 ≤ res ∧ res ≤ 0x1BF then (egressCap p (res - 0x100) 125000, egressCap p (res - 0x100) last)
  else match p.caps.find? (fun c => c.res == res && c.dom == dom) with
    | some c => (c.full, c.last)
    | none => (0, 0)

/-- Margin of one cycle as use and capacity; a use above the capacity counts as none left. -/
def margin100 (cap use : Nat) : Nat := if cap = 0 then 0 else (cap - use) * 10000 / cap

/-- Whether a cycle (cap, use) leaves a strictly smaller part of its capacity than another. -/
def tighter (a b : Nat × Nat) : Bool :=
  if a.1 = 0 then b.1 != 0 && decide (b.2 < b.1) else if b.1 = 0 then false else decide ((a.1 - a.2) * b.1 < (b.1 - b.2) * a.1)

/-- The cycle with the smallest margin, the lowest when several tie: cycles come as (cap, use), lowest first. -/
def worstOf : List (Nat × Nat) → Nat → Nat × (Nat × Nat) → Nat × (Nat × Nat)
  | [], _, best => best
  | c :: l, i, best => worstOf l (i + 1) (if tighter c best.2 then (i, c) else best)

/-- The recount of one resource and domain, none without planned use. -/
def recount (ds : List DomDesc) (p : Plan) (res dom : Nat) : Option CertEntry :=
  let n := frameCycles (descRate ds dom)
  let cap := capOf ds p res dom
  let uses := (List.range n).map (useIn p res dom)
  if uses.all (· == 0) then none
  else
    let cells := (List.range n).map (fun c => (if c + 1 = n then cap.2 else cap.1, uses.getD c 0))
    let w := worstOf (cells.drop 1) 1 (0, cells.headD (0, 0))
    some ⟨res, dom, cap.1, cap.2, (uses.take (n - 1)).foldl max 0, uses.getD (n - 1) 0, w.1, margin100 w.2.1 w.2.2⟩

/-- Quarter-slots that the endpoints of one direction take (R14). -/
def poolUse (p : Plan) (dest : Bool) : Nat := sumNat ((p.endpoints.filter (fun e => decide (e.ep / 4096 ≥ 8) == dest)).map (fun e => epCost e.ep e.fmt))

/-- The entry of a fabric pool (R38). -/
def poolEntry (p : Plan) (res : Nat) : Option CertEntry :=
  let u := poolUse p (res == 0x21)
  if u = 0 then none else some ⟨res, 0xFF, poolCap, poolCap, u, u, 0, margin100 poolCap u⟩

/-- Resources with an entry per domain, in ascending order. -/
def resourceCodes : List Nat :=
  (List.range 6).map (· + 0x10) ++ [0x20, 0x21] ++ (List.range 16).map (· + 0x30) ++ (List.range 8).map (· + 0x40) ++ (List.range 32).map (· + 0x50) ++
  (List.range 4).map (· + 0x70) ++ (List.range 192).map (· + 0x100)

/-- The entries that the recount produces, in the order of R38. -/
def recountAll (ds : List DomDesc) (p : Plan) : List CertEntry :=
  (resourceCodes.map (fun r => if r = 0x20 ∨ r = 0x21 then (poolEntry p r).toList else [0, 1, 2, 3].filterMap (recount ds p r))).flatten

/-- Latest planned completion of a domain's items, in ns from the tick. -/
def completionOf (p : Plan) (d : Nat) : Nat := ((p.completion.filter (fun c => c.1 == d)).map (·.2)).foldl max 0

/-- Domains that an image uses. -/
def usedDomains (ds : List DomDesc) : List Nat := [0, 1, 2, 3].filter (fun d => isRate (descRate ds d))

/-- The certificate that the recount gives (R38). -/
def recountCert (ds : List DomDesc) (p : Plan) : Certificate :=
  let es := recountAll ds p
  ⟨es, (usedDomains ds).map (fun d => (d, completionOf p d, (periodNs (descRate ds d) + 4294967296 - completionOf p d) % 4294967296)),
    (es.map (·.margin)).foldl min 10000⟩

/-- The certificate in section 000Ch, its reserved bytes left out. -/
def readCert (b : Bytes) (s : Section) (k : Nat) : Certificate :=
  let n := (s.len - 2 - 12 * k) / 24
  let f := s.off + 24 * n
  ⟨(List.range n).map (fun i =>
      let o := s.off + 24 * i
      ⟨fieldNat o 2 b, fieldNat (o + 2) 1 b, fieldNat (o + 4) 4 b, fieldNat (o + 8) 4 b, fieldNat (o + 12) 4 b, fieldNat (o + 16) 4 b,
        fieldNat (o + 20) 2 b, fieldNat (o + 22) 2 b⟩),
    (List.range k).map (fun i => (fieldNat (f + 12 * i) 1 b, fieldNat (f + 12 * i + 4) 4 b, fieldNat (f + 12 * i + 8) 4 b)),
    fieldNat (s.off + s.len - 2) 2 b⟩

/-- Whether the certificate is the recount's (R40, 0302h). -/
def certOk (b : Bytes) (ds : List DomDesc) (p : Plan) : Bool :=
  match findSection b 12 with
  | none => false
  | some s =>
    let k := (usedDomains ds).length
    decide (2 + 12 * k ≤ s.len) && (s.len - 2 - 12 * k) % 24 == 0 && readCert b s k == recountCert ds p

/-- Whether an engine leaves 200 ppm of its clocks of each frame unplanned (R27). -/
def engineSlackOk (ds : List DomDesc) (p : Plan) (e : CertEntry) : Bool :=
  let r := descRate ds e.dom
  let total := sumNat ((p.uses.filter (fun u => u.res == e.res && u.dom == e.dom)).map (·.use))
  if 0x30 ≤ e.res ∧ e.res ≤ 0x3F then decide (total * 15 * 1000000 ≤ period3 r * 6 * 999800)
  else if 0x40 ≤ e.res ∧ e.res ≤ 0x47 then decide (total * 15 * 1000000 ≤ period3 r * 4 * 999800) else true

/-- Strictly falling ceilings, QP offsets that do not fall (R258). -/
def tiersFall : List LadderTier → Bool
  | a :: b :: l => decide (b.ceiling < a.ceiling) && decide (a.qpOffset ≤ b.qpOffset) && tiersFall (b :: l)
  | _ => true

/-- Whether a ladder holds (R257, R258). -/
def ladderOk (x : Ladder) : Bool :=
  decide (2 ≤ x.tiers.length ∧ x.tiers.length ≤ 8) && tiersFall x.tiers &&
  (match x.tiers.getLast? with
    | some t => decide (t.ceiling * x.ctuCount ≤ x.frameBudget)
    | none => false)

/-- Clocks that the engine slices of a channel hold for one rectangle in every picture period, a field of an interlaced format being a picture (R248, R258): the least over its mints. -/
def sliceClocks (ds : List DomDesc) (p : Plan) (m : PlanMint) : Nat :=
  let n := frameCycles (descRate ds m.dom)
  let spans := if fmtInterlaced m.fmt then [(0, n / 2), (n / 2, n)] else [(0, n)]
  ((PlanMint_mints m).map (fun k => (spans.map (fun w => sumNat ((p.uses.filter (fun u => u.res == 0x30 + k && u.dom == m.dom && u.unit == m.ch &&
    decide (w.1 ≤ u.cycle ∧ u.cycle < w.2))).map (·.use)))).foldl min 4294967295)).foldl min 4294967295

/-- Whether each half of a mint keeps to half of its clocks in every cycle (R245). -/
def halvesOk (ds : List DomDesc) (p : Plan) : Bool :=
  (p.mints.filter (fun m => mintHalves m.fmt == 1)).all (fun m =>
    let n := frameCycles (descRate ds m.dom)
    let cap := capOf ds p (0x30 + m.first) m.dom
    (List.range n).all (fun c =>
      let use := sumNat ((p.uses.filter (fun u => u.res == 0x30 + m.first && u.dom == m.dom && u.cycle == c && u.unit == m.ch)).map (·.use))
      decide (2 * use ≤ if c + 1 = n then cap.2 else cap.1)))

/-- Whether every total fits its capacity (R29, R30, 0303h). -/
def totalsOk (ds : List DomDesc) (p : Plan) : Bool :=
  (recountAll ds p).all (fun e => decide (e.maxFull ≤ e.capFull) && decide (e.maxShort ≤ e.capShort) && engineSlackOk ds p e)

/-! Transition tables (R51). -/

/-- The bridge work as a plan, and the descriptors of the domains under the predecessor: the outgoing bank's shares. -/
def bridgePlan (p : Plan) (b : PlanBridge) : Plan :=
  { uses := b.uses, shares := b.shares, caps := b.caps, completion := b.completion, laneModes := p.laneModes }
def bridgeDescs (b : PlanBridge) : List DomDesc :=
  [0, 1, 2, 3].map (fun d => let (r, k) := b.rates.getD d (0, 0); { rate := r, inUse := if r = 0 then 0 else 1, full := fullCycles r, short := shortCycle r, share := k })

/-- Whether the table's own certificate is what its recount gives; whether its totals fit. -/
def bridgeCertOk (p : Plan) (b : PlanBridge) : Bool := b.certificate == recountCert (bridgeDescs b) (bridgePlan p b)
def bridgeFits (p : Plan) (b : PlanBridge) : Bool := totalsOk (bridgeDescs b) (bridgePlan p b)

/-- Whether every domain's latest completion plus the guard fits its frame period (0304h). -/
def framesOk (ds : List DomDesc) (p : Plan) : Bool :=
  (usedDomains ds).all (fun d => decide (3 * (completionOf p d + guardNs) ≤ period3 (descRate ds d)))

/-! Power map (0306h). -/

/-- Power domains of a lane: its group, its packet engine and, in an Ethernet mode, its egress slice (R117, R139, R172). -/
def lanePds (p : Plan) (l : Nat) : List Nat :=
  [l / 8, 56 + l / 24] ++ (if p.laneModes.any (fun m => m.1 == l && decide (6 ≤ m.2 ∧ m.2 ≤ 10)) then [64 + l / 48] else [])

/-- First quarter-slot of an endpoint. -/
def firstQuarter (e : PlanEndpoint) : Nat := if e.ep / 4096 = 0 ∨ e.ep / 4096 = 8 then e.ep % 4096 else e.slot

/-- Power domains of an endpoint: the fabric slice of its slots, and its unit (R191, R265, R297, R342). -/
def endpointPds (p : Plan) (e : PlanEndpoint) : List Nat :=
  let i := e.ep % 4096
  (if epCost e.ep e.fmt = 0 then [] else [48 + firstQuarter e / 512]) ++
  (match e.ep / 4096 with
    | 1 => [68 + i / 4]
    | 2 => [40 + i / 2]
    | 10 => [40 + i / 2]
    | 11 => [68 + i / 32]
    | 12 => [82 + i / 64]
    | _ => []) ++ (e.lanes.map (lanePds p)).flatten

/-- Power domains of a resource of R38. -/
def resourcePds (res : Nat) : List Nat :=
  if 0x10 ≤ res ∧ res ≤ 0x15 then [76 + (res - 0x10)]
  else if 0x30 ≤ res ∧ res ≤ 0x47 then [24 + (res - 0x30)]
  else if 0x50 ≤ res ∧ res ≤ 0x6F then [68 + (res - 0x50) / 4]
  else if 0x70 ≤ res ∧ res ≤ 0x73 then [90 + (res - 0x70)]
  else if 0x100 ≤ res ∧ res ≤ 0x1BF then [(res - 0x100) / 8, 56 + (res - 0x100) / 24, 64 + (res - 0x100) / 48] else []

/-- Power domains of every unit that the tables use. -/
def planPds (p : Plan) : List Nat :=
  ((p.laneModes.map (fun m => lanePds p m.1)).flatten ++ (p.endpoints.map (endpointPds p)).flatten ++ ((p.uses.filter (fun u => u.use != 0)).map (fun u => resourcePds u.res)).flatten).eraseDups

/-- Whether the power map covers them. -/
def powerOk (p : Plan) : Bool := (planPds p).all (fun d => p.power.contains d)

/-! Placement (R190, 0308h). -/

/-- Alignment of a cost in quarter-slots. -/
def costAlign (q : Nat) : Nat := if q = 28 then 32 else if q = 0 then 1 else q

/-- Whether two endpoints of one pool can stand beside each other. -/
def placedApart (a b : PlanEndpoint) : Bool :=
  let qa := epCost a.ep a.fmt
  let qb := epCost b.ep b.fmt
  let fa := firstQuarter a
  let fb := firstQuarter b
  qa == 0 || qb == 0 || decide (fa + qa ≤ fb) || decide (fb + qb ≤ fa)

/-- Pairwise placement. -/
def placedAll : List PlanEndpoint → Bool
  | [] => true
  | e :: l => l.all (placedApart e) && placedAll l

/-- Whether every endpoint's slots follow R190. -/
def placementOk (p : Plan) : Bool :=
  p.endpoints.all (fun e => let q := epCost e.ep e.fmt; firstQuarter e % costAlign q == 0 && decide (q = 0 ∨ firstQuarter e + q ≤ poolCap)) &&
  placedAll (p.endpoints.filter (fun e => e.ep / 4096 < 8)) && placedAll (p.endpoints.filter (fun e => 8 ≤ e.ep / 4096))

/-! The check (R39). -/

/-- The result of the check of a load: `raw` is everything received, `fw` the firmware release, `must` whether a signature is required, `vkey` the ledger
verification key, `fits` what the encoding and compositing chapters add to 0303h. -/
def checkImage (raw : Bytes) (fw : Nat) (must : Bool) (vkey : Option Bytes) (fits : Bool) (p : Plan) : Nat :=
  let len := hdrLength raw
  let ds := domDescs raw
  let image := raw.take len
  if raw.length < 256 ∨ len < imageMin ∨ imageMax < len ∨ (hdrSigned raw = false ∧ hdrSigLen raw ≠ 0) ∨ raw.length ≠ len + hdrSigLen raw then 0x0101
  else if slice 0 4 raw ≠ ascii "SQLG" ∨ fieldNat 4 2 raw ≠ 3 ∨ fieldNat 6 2 raw ≠ 256 then 0x0102
  else if slice 24 4 raw ≠ ascii "B1" ++ [0#8, 0#8] then 0x0103
  else if fw < hdrMinFw raw then 0x0104
  else if fieldNat (len - 4) 4 raw ≠ checkWord raw len then 0x0201
  else if must ∧ hdrSigned raw = false then 0x0202
  else if hdrSigned raw ∧ (hdrSigLen raw ≠ hssSigLen ∨ (match vkey with
      | some k => hssVerify k (raw.drop len) image
      | none => false) = false) then 0x0203
  else if directoryOk raw (p.mints != []) = false then 0x0301
  else if (ds.all descOk && sharesOk ds p && p.endpoints.all (endpointOk ds) && p.uses.all (useOk ds) &&
      (tableDomains p).all (fun d => isRate (descRate ds d)) && p.bridges.all (fun b => b.uses.all (useOk (bridgeDescs b)))) = false then 0x0307
  else if (certOk raw ds p && p.bridges.all (bridgeCertOk p)) = false then 0x0302
  else if (totalsOk ds p && unitsHeld p && mintsPlaced p.mints && xsPlaced p.xs && p.mints.all (fun m => decide (m.slices ≤ sliceClocks ds p m)) && halvesOk ds p && p.bridges.all (bridgeFits p) && (ladders raw).all ladderOk && fits) = false then 0x0303
  else if framesOk ds p = false then 0x0304
  else if disjoint (ownerRanges raw) = false then 0x0305
  else if powerOk p = false then 0x0306
  else if placementOk p = false then 0x0308
  else 0x0001

end Sys2Proof.Machine
end

