-- ==== Sys2Proof/Config.lean ====
section
/-! DEFINITION. Config.lean: what an implementation fixes and the manual does not state. Every opaque constant here has no body: nothing can be
proved of its value, so a statement holds whatever the value is. The counter or the operands it is applied to make the value fresh. -/

namespace Sys2Proof.Config

open Sys2Proof

/-- A random number of the device (session identifiers of R389), fresh at each value of the counter (log entry 5). -/
opaque freeNat : Nat → Nat

/-- A random byte string of the device (nonces of R388), fresh at each value of the counter (log entry 5). -/
opaque freeByte : Nat → Nat → Byte

/-- The point number of an alarm, by its place in the list of alarms; fixed within a firmware release, not given (R462, log entry 6). -/
opaque alarmPoint : Nat → Nat

/-- The number of a named event, by its name; fixed within a firmware release, not given (R462, log entry 6). -/
opaque eventNumber : Nat → Nat

/-- The control value of a DPLL that tracks a reference with a bandwidth code of R78, fresh at each value of the counter: the loop filter is not given (log entry 13). -/
opaque dpllControl : Nat → Nat → Int

/-- The increment that the firmware servo computes with a bandwidth code, fresh at each value of the counter: its gains are not given (R99, log entry 17). -/
opaque servoIncrement : Nat → Nat → Nat

/-- The codes of refusals that the manual calls "an error code" without a number, by their place in the list of log entry 14. -/
opaque refusalCode : Nat → Nat

/-- The bit rate and the CPB size that the standards of the codecs allow, by codec, chroma, level times 10 and tier: not in the manual (R282, log entry 23). -/
opaque hrdLimit : Nat → Nat → Nat → Nat → Nat
opaque cpbLimit : Nat → Nat → Nat → Nat → Nat

/-- Luma of a pixel and chroma (false Cb, true Cr) of three neighbours, from R, G, B, alpha at 10 bits and the colorimetry: the rounding of the conversion of R304 is not given (log entry 24). -/
opaque lumaOf : Nat → Nat × Nat × Nat × Nat → Nat
opaque chromaOf : Nat → Bool → Nat × Nat × Nat × Nat → Nat × Nat × Nat × Nat → Nat × Nat × Nat × Nat → Nat

/-- Geometry of the memories, which the manual does not give: the pseudo-channel controller or macro group of a word (R358), its bank or macro with its spare rows, its row
(R364), and the spare rows of H0-H5 and SRAM as delivered (7003h.01) (log entry 26). -/
opaque wordUnit : Nat → Nat
opaque wordBank : Nat → Nat
opaque wordRow : Nat → Nat
opaque bankSpares : Nat → Nat
opaque spareRows : Nat → Nat

/-- What the decoder of a word makes of an error in three or more symbols of HBM, or three or more bits of SRAM, given the flipped data and check bits: none of R355 and R356 says
(log entry 27). 0 clean, 1 corrected, 2 uncorrectable, 3 an address error, 4 poison. -/
opaque manyErrors : Nat → Nat → Nat

/-- SHA-256 of the image with which the module was delivered, byte by byte: its bytes are not in the manual (log entry 28). -/
opaque deliveredHash : Nat → Byte

end Sys2Proof.Config
end

