-- ==== Sys2Proof/Machine/Dict.lean ====
section
/-! DEFINITION. Machine/Dict.lean: the object dictionary as data (R384-R386, R493), one row per sub-index of the tables of every chapter:
sub-index, name, type, access, level, default, lowest and highest value (or length), values outside that range that have a
meaning of their own, and the names of an enumeration in the numbering of R385. -/

namespace Sys2Proof.Machine

/-- Types of R384. -/
inductive ObjType where
  | bool | u8 | u16 | u32 | u64 | i32 | i64 | f32 | str | octets | time96
deriving DecidableEq, Repr

/-- Access kinds (conventions of the manual, R493). -/
inductive Access where
  | ro | rw | wo | rwc
deriving DecidableEq, Repr

/-- One sub-index of the dictionary. -/
structure ObjRow where
  sub : Nat
  name : String
  ty : ObjType
  access : Access
  expert : Bool
  dflt : Int
  lo : Int
  hi : Int
  extra : List Int
  enums : List String
deriving DecidableEq, Repr

/-- One index of the dictionary: its rows run from `first` to `last` when it is a table. 30LLh and 31LLh stand here as the
tables 3000h and 3100h with the lane as row. -/
structure ObjIndex where
  index : Nat
  table : Bool
  first : Nat
  last : Nat
  subs : List ObjRow
deriving DecidableEq, Repr

def dict1000_subs : List ObjRow := [
  ⟨1, "PART_CODE", .str, .ro, false, 0, 1, 32, [], []⟩,
  ⟨2, "STEPPING", .str, .ro, false, 0, 1, 8, [], []⟩,
  ⟨3, "FW_RELEASE", .str, .ro, false, 0, 1, 32, [], []⟩,
  ⟨4, "SERIAL_NUMBER", .str, .ro, false, 0, 12, 12, [], []⟩,
  ⟨5, "FW_RELEASE_NUM", .u32, .ro, false, 0, 0, 4294967295, [], []⟩]
/-- 1000h (00_scope.md). -/
def dict1000 : ObjIndex := ⟨0x1000, false, 0, 0, dict1000_subs⟩

def dict1001_subs : List ObjRow := [
  ⟨1, "LANE_COUNT", .u16, .ro, false, 192, 0, 65535, [], []⟩,
  ⟨2, "FABRIC_SLOTS", .u16, .ro, false, 1024, 0, 65535, [], []⟩,
  ⟨3, "QUARTER_SLOTS", .u16, .ro, false, 4096, 0, 65535, [], []⟩,
  ⟨4, "AUDIO_CHANNELS", .u16, .ro, false, 16384, 0, 65535, [], []⟩,
  ⟨5, "MINT_COUNT", .u8, .ro, false, 16, 0, 255, [], []⟩,
  ⟨6, "XS_COUNT", .u8, .ro, false, 8, 0, 255, [], []⟩,
  ⟨7, "COMPOSITOR_COUNT", .u8, .ro, false, 32, 0, 255, [], []⟩,
  ⟨8, "SCALER_COUNT", .u8, .ro, false, 64, 0, 255, [], []⟩,
  ⟨9, "HEAD_COUNT", .u8, .ro, false, 4, 0, 255, [], []⟩]
/-- 1001h (01_organization.md). -/
def dict1001 : ObjIndex := ⟨0x1001, false, 0, 0, dict1001_subs⟩

def dict1002_subs : List ObjRow := [
  ⟨1, "HBM_STACKS", .u8, .ro, false, 6, 0, 255, [], []⟩,
  ⟨2, "HBM_CAPACITY_MIB", .u32, .ro, false, 147456, 0, 4294967295, [], []⟩,
  ⟨3, "SRAM_CAPACITY_MIB", .u16, .ro, false, 320, 0, 65535, [], []⟩,
  ⟨4, "HBM_ASSIGN_CEILING", .u8, .ro, false, 88, 0, 255, [], []⟩,
  ⟨5, "TIMING_DOMAINS", .u8, .ro, false, 4, 0, 255, [], []⟩,
  ⟨6, "LEDGER_CYCLE_NS", .u32, .ro, false, 125000, 0, 4294967295, [], []⟩]
/-- 1002h (01_organization.md). -/
def dict1002 : ObjIndex := ⟨0x1002, false, 0, 0, dict1002_subs⟩

def dict1003_subs : List ObjRow := [
  ⟨1, "SUBSYS_STATE", .u8, .ro, false, 0, 0, 4, [], ["off", "starting", "running", "degraded", "fault"]⟩,
  ⟨2, "ACTIVE_ALARMS", .u16, .ro, false, 0, 0, 65535, [], []⟩,
  ⟨3, "OVERDRAFTS", .u64, .ro, false, 0, 0, 18446744073709551615, [], []⟩]
/-- 1003h (01_organization.md). -/
def dict1003 : ObjIndex := ⟨0x1003, true, 1, 12, dict1003_subs⟩

def dict1005_subs : List ObjRow := [
  ⟨1, "QUERY_SOURCE", .u16, .rw, false, 0, 0, 65535, [], []⟩,
  ⟨2, "QUERY_DEST", .u16, .rw, false, 32768, 0, 65535, [], []⟩,
  ⟨3, "PATH_LATENCY_NS", .u64, .ro, false, 0, 0, 18446744073709551615, [], []⟩,
  ⟨4, "PATH_STATUS", .u8, .ro, false, 1, 0, 2, [], ["valid", "no path", "not planned"]⟩]
/-- 1005h (01_organization.md). -/
def dict1005 : ObjIndex := ⟨0x1005, false, 0, 0, dict1005_subs⟩

def dict2000_subs : List ObjRow := [
  ⟨1, "ACTIVE_BANK", .u8, .ro, false, 0, 0, 2, [], ["none", "A", "B"]⟩,
  ⟨2, "ACTIVE_IMAGE_ID", .u64, .ro, false, 0, 0, 18446744073709551615, [], []⟩,
  ⟨3, "SWAP_COUNT", .u32, .ro, false, 0, 0, 4294967295, [], []⟩,
  ⟨4, "LAST_SWAP_KIND", .u8, .ro, false, 0, 0, 3, [], ["none", "first", "compatible", "dark"]⟩,
  ⟨5, "LAST_CHANGEOVER_FCNT_TD0", .u64, .ro, false, 0, 0, 18446744073709551615, [], []⟩,
  ⟨6, "LAST_CHANGEOVER_FCNT_TD1", .u64, .ro, false, 0, 0, 18446744073709551615, [], []⟩,
  ⟨7, "LAST_CHANGEOVER_FCNT_TD2", .u64, .ro, false, 0, 0, 18446744073709551615, [], []⟩,
  ⟨8, "LAST_CHANGEOVER_FCNT_TD3", .u64, .ro, false, 0, 0, 18446744073709551615, [], []⟩,
  ⟨9, "SWAP_STATE", .u8, .ro, false, 0, 0, 3, [], ["idle", "armed", "changing", "retiring"]⟩,
  ⟨10, "SWAP_ERROR", .u16, .ro, false, 0, 0, 65535, [], []⟩]
/-- 2000h (02_ledger.md). -/
def dict2000 : ObjIndex := ⟨0x2000, false, 0, 0, dict2000_subs⟩

def dict2001_subs : List ObjRow := [
  ⟨1, "BANK_STATE", .u8, .ro, false, 0, 0, 7, [], ["empty", "loading", "checking", "rejected", "ready", "armed", "active", "retiring"]⟩,
  ⟨2, "IMAGE_ID", .u64, .ro, false, 0, 0, 18446744073709551615, [], []⟩,
  ⟨3, "IMAGE_LENGTH", .u32, .ro, false, 0, 0, 4294967295, [], []⟩,
  ⟨4, "CHECK_RESULT", .u16, .ro, false, 0, 0, 65535, [], []⟩,
  ⟨5, "WORST_MARGIN", .u16, .ro, false, 0, 0, 65535, [], []⟩,
  ⟨6, "SIGNED", .bool, .ro, false, 0, 0, 1, [], []⟩,
  ⟨7, "PREDECESSOR_MATCH", .bool, .ro, false, 0, 0, 1, [], []⟩,
  ⟨8, "DOMAINS_USED", .u8, .ro, false, 0, 0, 255, [], []⟩]
/-- 2001h (02_ledger.md). -/
def dict2001 : ObjIndex := ⟨0x2001, true, 0, 1, dict2001_subs⟩

def dict2002_subs : List ObjRow := [
  ⟨1, "LOAD_CMD", .u8, .wo, true, 0, 0, 3, [], ["open", "close", "from flash", "discard"]⟩,
  ⟨2, "FLASH_IMAGE", .u8, .rw, true, 0, 0, 3, [], []⟩,
  ⟨3, "XFER_OFFSET", .u32, .rw, true, 0, 0, 4294967295, [], []⟩,
  ⟨4, "XFER_DATA", .octets, .wo, true, 0, 1, 1024, [], []⟩,
  ⟨5, "REQUIRE_SIGNATURE", .bool, .rw, true, 0, 0, 1, [], []⟩,
  ⟨6, "LOAD_TARGET", .u8, .ro, false, 1, 0, 2, [], ["none", "A", "B"]⟩]
/-- 2002h (02_ledger.md). -/
def dict2002 : ObjIndex := ⟨0x2002, false, 0, 0, dict2002_subs⟩

def dict2003_subs : List ObjRow := [
  ⟨1, "SWAP_CMD", .u8, .wo, true, 0, 0, 1, [], ["arm", "disarm"]⟩,
  ⟨2, "ANCHOR_TD", .u8, .rw, true, 0, 0, 3, [], []⟩,
  ⟨3, "ANCHOR_FCNT", .u64, .rw, true, 0, 0, 18446744073709551615, [], []⟩,
  ⟨4, "ALLOW_DARK", .bool, .rw, true, 0, 0, 1, [], []⟩]
/-- 2003h (02_ledger.md). -/
def dict2003 : ObjIndex := ⟨0x2003, false, 0, 0, dict2003_subs⟩

def dict2005_subs : List ObjRow := [
  ⟨1, "FRAME_CYCLES", .u16, .ro, false, 0, 0, 65535, [], []⟩,
  ⟨2, "SHORT_CYCLE_NS", .u32, .ro, false, 0, 0, 4294967295, [], []⟩,
  ⟨3, "OVERDRAFTS", .u64, .ro, false, 0, 0, 18446744073709551615, [], []⟩,
  ⟨4, "OVERDRAFT_FRAMES", .u64, .ro, false, 0, 0, 18446744073709551615, [], []⟩,
  ⟨5, "OVERDRAFT_LIMIT", .u16, .rw, true, 16, 1, 65535, [], []⟩]
/-- 2005h (02_ledger.md). -/
def dict2005 : ObjIndex := ⟨0x2005, true, 0, 3, dict2005_subs⟩

def dict2006_subs : List ObjRow := [
  ⟨1, "OVERDRAFT_KIND_COUNT", .u64, .ro, false, 0, 0, 18446744073709551615, [], []⟩]
/-- 2006h (02_ledger.md). -/
def dict2006 : ObjIndex := ⟨0x2006, true, 1, 11, dict2006_subs⟩

def dict2008_subs : List ObjRow := [
  ⟨1, "OWNER_QUERY_ADDR", .u64, .rw, false, 0, 0, 18446744073709551615, [], []⟩,
  ⟨2, "OWNER_CLASS", .u8, .ro, false, 0, 0, 255, [], []⟩,
  ⟨3, "OWNER_ID", .u16, .ro, false, 0, 0, 65535, [], []⟩,
  ⟨4, "OWNER_DOMAIN", .u8, .ro, false, 0, 0, 255, [], []⟩,
  ⟨5, "OWNER_RANGE_BASE", .u64, .ro, false, 0, 0, 18446744073709551615, [], []⟩,
  ⟨6, "OWNER_RANGE_LEN", .u32, .ro, false, 0, 0, 4294967295, [], []⟩]
/-- 2008h (02_ledger.md). -/
def dict2008 : ObjIndex := ⟨0x2008, false, 0, 0, dict2008_subs⟩

def dict2100_0_subs : List ObjRow := [
  ⟨1, "TD_RATE", .u8, .ro, false, 0, 0, 255, [], []⟩,
  ⟨2, "TD_FAMILY", .u8, .ro, false, 3, 0, 3, [], ["F25", "F30", "F1001", "none"]⟩,
  ⟨3, "FCNT", .u64, .ro, false, 0, 0, 18446744073709551615, [], []⟩,
  ⟨4, "DPLL_STATE", .u8, .ro, false, 0, 0, 3, [], ["free-run", "acquiring", "locked", "holdover"]⟩,
  ⟨5, "SELECTED_REF", .u8, .ro, false, 255, 0, 255, [], []⟩,
  ⟨6, "TRACK_BW", .u8, .rw, true, 4, 0, 12, [], []⟩,
  ⟨7, "ACQ_BW", .u8, .rw, true, 8, 0, 12, [], []⟩,
  ⟨8, "REVERTIVE", .bool, .rw, true, 1, 0, 1, [], []⟩,
  ⟨9, "HOLD_WINDOW_S", .u16, .rw, true, 600, 1, 10000, [], []⟩,
  ⟨10, "HOLD_GUARD_S", .u16, .rw, true, 30, 0, 600, [], []⟩,
  ⟨11, "FREQ_SLEW_LIMIT", .u16, .rw, true, 10, 1, 1000, [], []⟩,
  ⟨12, "CONTROL_VALUE", .i32, .ro, false, 0, (-2147483648), 2147483647, [], []⟩,
  ⟨13, "HOLDOVER_VALUE", .i32, .ro, false, 0, (-2147483648), 2147483647, [], []⟩,
  ⟨14, "HOLDOVER_QUALITY", .u8, .ro, false, 0, 0, 3, [], ["none", "full", "partial", "instant"]⟩,
  ⟨15, "HOLDOVER_SECONDS", .u32, .ro, false, 0, 0, 4294967295, [], []⟩,
  ⟨16, "PHASE_SOURCE", .u8, .ro, false, 1, 0, 1, [], ["reference", "none"]⟩,
  ⟨17, "TICK_PHASE_OFFSET_NS", .i64, .ro, false, 0, (-9223372036854775808), 9223372036854775807, [], []⟩,
  ⟨18, "REALIGN_CMD", .u8, .wo, true, 0, 0, 2, [], ["slew", "jump", "stop"]⟩,
  ⟨19, "REALIGN_SLEW", .u8, .rw, true, 10, 1, 50, [], []⟩,
  ⟨20, "REALIGN_STATE", .u8, .ro, false, 0, 0, 2, [], ["idle", "slewing", "jump pending"]⟩,
  ⟨21, "EPOCH_FCNT_OFFSET", .i64, .ro, false, 0, (-9223372036854775808), 9223372036854775807, [], []⟩,
  ⟨22, "PHASE_STEP_THRESHOLD_NS", .u32, .rw, true, 1000, 100, 100000, [], []⟩,
  ⟨23, "REF_SWITCHES", .u32, .ro, false, 0, 0, 4294967295, [], []⟩,
  ⟨24, "LAST_REALIGN_FCNT", .u64, .ro, false, 0, 0, 18446744073709551615, [], []⟩]
def dict2100_1_subs : List ObjRow := [
  ⟨25, "REALIGN_RESULT", .u16, .ro, false, 0, 0, 65535, [], []⟩]
/-- 2100h (03_reference_and_clock.md). -/
def dict2100 : ObjIndex := ⟨0x2100, true, 0, 3, dict2100_0_subs ++ dict2100_1_subs⟩

def dict2101_subs : List ObjRow := [
  ⟨1, "RANK", .u8, .rw, true, 0, 0, 8, [], []⟩,
  ⟨2, "ELIGIBLE", .bool, .ro, false, 0, 0, 1, [], []⟩,
  ⟨3, "COMPATIBLE", .bool, .ro, false, 0, 0, 1, [], []⟩]
/-- 2101h (03_reference_and_clock.md). -/
def dict2101 : ObjIndex := ⟨0x2101, true, 0, 31, dict2101_subs⟩

def dict2102_subs : List ObjRow := [
  ⟨1, "FP_MODE", .u8, .rw, true, 1, 0, 3, [], ["off", "frame", "even frame", "field"]⟩,
  ⟨2, "FP_OFFSET_NS", .i32, .rw, true, 0, (-1000000), 1000000, [], []⟩,
  ⟨3, "FP_WIDTH_NS", .u32, .rw, true, 1000, 100, 1000000, [], []⟩,
  ⟨4, "FP_POLARITY", .u8, .rw, true, 0, 0, 1, [], ["high", "low"]⟩]
/-- 2102h (03_reference_and_clock.md). -/
def dict2102 : ObjIndex := ⟨0x2102, true, 0, 7, dict2102_subs⟩

def dict2200_subs : List ObjRow := [
  ⟨1, "CAND_NAME", .str, .ro, false, 0, 1, 8, [], []⟩,
  ⟨2, "CAND_ENABLE", .bool, .rw, true, 0, 0, 1, [], []⟩,
  ⟨3, "CAND_RATE", .u8, .rw, true, 9, 1, 15, [], []⟩,
  ⟨4, "REF_LINES", .u16, .rw, true, 1125, 525, 2250, [], []⟩,
  ⟨5, "SOURCE_LANE", .u16, .rw, true, 0, 0, 191, [], []⟩,
  ⟨6, "PPS_USED", .bool, .rw, true, 1, 0, 1, [], []⟩,
  ⟨7, "CAND_STATE", .u8, .ro, false, 1, 0, 4, [], ["disabled", "absent", "measuring", "qualified", "restoring"]⟩,
  ⟨8, "OFFSET_OSC", .i32, .ro, false, 0, (-2147483648), 2147483647, [], []⟩,
  ⟨9, "OFFSET_ENSEMBLE", .i32, .ro, false, 0, (-2147483648), 2147483647, [], []⟩,
  ⟨10, "BASIS", .u8, .ro, false, 2, 0, 2, [], ["ensemble", "oscillator", "none"]⟩,
  ⟨11, "WTR_REMAINING_S", .u16, .ro, false, 0, 0, 65535, [], []⟩,
  ⟨12, "DISQUAL_REASON", .u8, .ro, false, 0, 0, 5, [], ["none", "loss", "hard limit", "oscillator limit", "arbitration", "disabled"]⟩,
  ⟨13, "DISQUAL_COUNT", .u32, .ro, false, 0, 0, 4294967295, [], []⟩]
/-- 2200h (03_reference_and_clock.md). -/
def dict2200 : ObjIndex := ⟨0x2200, true, 0, 7, dict2200_subs⟩

def dict2201_subs : List ObjRow := [
  ⟨1, "SOFT_LIMIT_PPB", .u32, .rw, true, 2000, 100, 50000, [], []⟩,
  ⟨2, "HARD_LIMIT_PPB", .u32, .rw, true, 10000, 200, 100000, [], []⟩,
  ⟨3, "WTR_S", .u16, .rw, true, 300, 0, 3600, [], []⟩,
  ⟨4, "MEAS_WINDOW_S", .u8, .rw, true, 4, 1, 64, [], []⟩,
  ⟨5, "OSC_ALLOWANCE_PPB", .u32, .rw, true, 0, 0, 20000, [], []⟩,
  ⟨6, "QUALIFIED_COUNT", .u8, .ro, false, 0, 0, 255, [], []⟩,
  ⟨7, "ENSEMBLE_ACTIVE", .bool, .ro, false, 0, 0, 1, [], []⟩,
  ⟨8, "WTR_CLEAR", .u8, .wo, true, 0, 0, 7, [], []⟩]
/-- 2201h (03_reference_and_clock.md). -/
def dict2201 : ObjIndex := ⟨0x2201, false, 0, 0, dict2201_subs⟩

def dict2300_subs : List ObjRow := [
  ⟨1, "TIME_SECONDS", .u64, .ro, false, 0, 0, 18446744073709551615, [], []⟩,
  ⟨2, "TIME_NS", .u32, .ro, false, 0, 0, 4294967295, [], []⟩,
  ⟨3, "TIME_FRAC", .u32, .ro, false, 0, 0, 4294967295, [], []⟩,
  ⟨4, "UTC_OFFSET", .i32, .ro, false, 0, (-2147483648), 2147483647, [], []⟩,
  ⟨5, "UTC_OFFSET_VALID", .bool, .ro, false, 0, 0, 1, [], []⟩]
/-- 2300h (04_network_time.md). -/
def dict2300 : ObjIndex := ⟨0x2300, false, 0, 0, dict2300_subs⟩

def dict2301_subs : List ObjRow := [
  ⟨1, "CLOCK_STATE", .u8, .ro, false, 0, 0, 3, [], ["listening", "acquiring", "following", "free-run"]⟩,
  ⟨2, "SERVO_OWNER", .u8, .rw, true, 0, 0, 1, [], ["firmware", "host"]⟩,
  ⟨3, "INCREMENT", .u64, .rw, true, 17179869184, 17171279250, 17188459118, [], []⟩,
  ⟨4, "TIME_ADJUST_NS", .i64, .wo, true, 0, (-1000000000), 1000000000, [], []⟩,
  ⟨5, "STEP_THRESHOLD_NS", .u32, .rw, true, 100000, 1000, 1000000000, [], []⟩,
  ⟨6, "SERVO_BW", .u8, .rw, true, 4, 0, 6, [], []⟩,
  ⟨7, "OFFSET_NS", .i64, .ro, false, 0, (-9223372036854775808), 9223372036854775807, [], []⟩,
  ⟨8, "MEAN_PATH_DELAY_NS", .i64, .ro, false, 0, (-9223372036854775808), 9223372036854775807, [], []⟩,
  ⟨9, "STEP_COUNT", .u32, .ro, false, 0, 0, 4294967295, [], []⟩,
  ⟨10, "LEADER_ID", .octets, .ro, false, 0, 8, 8, [], []⟩,
  ⟨11, "LEADER_PORT", .u8, .ro, false, 255, 0, 255, [], []⟩,
  ⟨12, "LEADER_CHANGES", .u32, .ro, false, 0, 0, 4294967295, [], []⟩]
/-- 2301h (04_network_time.md). -/
def dict2301 : ObjIndex := ⟨0x2301, false, 0, 0, dict2301_subs⟩

def dict2302_subs : List ObjRow := [
  ⟨1, "PTP_DOMAIN", .u8, .rw, true, 127, 0, 127, [], []⟩,
  ⟨2, "LOG_ANNOUNCE_INTERVAL", .i32, .rw, true, (-2), (-3), 1, [], []⟩,
  ⟨3, "LOG_SYNC_INTERVAL", .i32, .rw, true, (-3), (-7), (-1), [], []⟩,
  ⟨4, "LOG_DELAY_REQ_INTERVAL", .i32, .rw, true, (-3), (-7), (-1), [], []⟩,
  ⟨5, "ANNOUNCE_TIMEOUT", .u8, .rw, true, 3, 2, 10, [], []⟩,
  ⟨6, "IP_VERSION", .u8, .rw, true, 0, 0, 1, [], ["IPv4", "IPv6"]⟩,
  ⟨7, "DELAY_MODE", .u8, .rw, true, 0, 0, 1, [], ["multicast", "hybrid"]⟩,
  ⟨8, "MONITOR_DOMAINS", .bool, .rw, true, 0, 0, 1, [], []⟩]
/-- 2302h (04_network_time.md). -/
def dict2302 : ObjIndex := ⟨0x2302, false, 0, 0, dict2302_subs⟩

def dict2303_subs : List ObjRow := [
  ⟨1, "PTP_LANE", .u16, .rw, true, 65535, 0, 191, [65535], []⟩,
  ⟨2, "PORT_STATE", .u8, .ro, false, 0, 0, 3, [], ["disabled", "listening", "slave", "faulty"]⟩,
  ⟨3, "ASYMMETRY_NS", .i32, .rw, true, 0, (-100000), 100000, [], []⟩,
  ⟨4, "SYNC_RECEIVED", .u32, .ro, false, 0, 0, 4294967295, [], []⟩,
  ⟨5, "ANNOUNCE_TIMEOUTS", .u32, .ro, false, 0, 0, 4294967295, [], []⟩]
/-- 2303h (04_network_time.md). -/
def dict2303 : ObjIndex := ⟨0x2303, true, 0, 1, dict2303_subs⟩

def dict2310_subs : List ObjRow := [
  ⟨1, "PTQ_POP", .octets, .ro, true, 0, 16, 16, [], []⟩,
  ⟨2, "PTQ_FILL", .u8, .ro, false, 0, 0, 255, [], []⟩,
  ⟨3, "PTQ_OVERFLOW", .bool, .rwc, false, 0, 0, 1, [], []⟩,
  ⟨4, "PTQ_DISCARDS", .u32, .rwc, false, 0, 0, 4294967295, [], []⟩]
/-- 2310h (04_network_time.md). -/
def dict2310 : ObjIndex := ⟨0x2310, true, 0, 3, dict2310_subs⟩

def dict2311_subs : List ObjRow := [
  ⟨1, "MATCH_QUEUE", .u8, .rw, true, 2, 2, 3, [], []⟩,
  ⟨2, "MATCH_LANE", .u16, .rw, true, 0, 0, 191, [], []⟩,
  ⟨3, "MATCH_SEQ", .u16, .rw, true, 0, 0, 65535, [], []⟩,
  ⟨4, "MATCH_RESULT", .octets, .ro, true, 0, 16, 16, [], []⟩]
/-- 2311h (04_network_time.md). -/
def dict2311 : ObjIndex := ⟨0x2311, false, 0, 0, dict2311_subs⟩

def dict3000_subs : List ObjRow := [
  ⟨1, "LANE_MODE", .u8, .rw, true, 0, 0, 11, [], ["off", "sdi-1.5", "sdi-3", "sdi-6", "sdi-12", "sdi-auto", "10gbase-r", "25gbase-r", "50gbase-r", "100gbase-kr1", "100gbase-cr1", "ivard"]⟩,
  ⟨2, "DIRECTION", .u8, .rw, true, 0, 0, 2, [], ["both", "rx", "tx"]⟩,
  ⟨3, "FEC_MODE", .u8, .rw, true, 0, 0, 2, [], ["none", "rs-528", "rs-544"]⟩,
  ⟨4, "LINK_TRAINING", .bool, .rw, true, 1, 0, 1, [], []⟩,
  ⟨5, "TX_SWING_MV", .u16, .rw, true, 800, 400, 1000, [], []⟩,
  ⟨6, "TX_TAP_CM2", .i32, .rw, true, 0, (-32), 32, [], []⟩,
  ⟨7, "TX_TAP_CM1", .i32, .rw, true, 0, (-48), 0, [], []⟩,
  ⟨8, "TX_TAP_C0", .i32, .rw, true, 128, 64, 128, [], []⟩,
  ⟨9, "TX_TAP_CP1", .i32, .rw, true, 0, (-48), 0, [], []⟩,
  ⟨10, "TX_TAP_CP2", .i32, .rw, true, 0, (-32), 32, [], []⟩,
  ⟨11, "TX_FFE_SOURCE", .u8, .rw, true, 0, 0, 2, [], ["preset", "manual", "trained"]⟩,
  ⟨12, "RX_ADAPT", .u8, .rw, true, 0, 0, 2, [], ["continuous", "frozen", "manual"]⟩,
  ⟨13, "CTLE_CODE", .u8, .rw, true, 8, 0, 15, [], []⟩,
  ⟨14, "CDR_BW", .u8, .rw, true, 0, 0, 3, [], []⟩,
  ⟨15, "RX_INVERT", .bool, .rw, true, 0, 0, 1, [], []⟩,
  ⟨16, "TX_INVERT", .bool, .rw, true, 0, 0, 1, [], []⟩,
  ⟨17, "TEST_MODE", .u8, .rw, true, 0, 0, 4, [], ["none", "prbs", "loop-serial", "loop-far", "loop-parallel"]⟩,
  ⟨18, "PRBS_PATTERN", .u8, .rw, true, 4, 0, 6, [], ["PRBS7", "PRBS9", "PRBS15", "PRBS23", "PRBS31", "PRBS13Q", "PRBS31Q"]⟩,
  ⟨19, "PRBS_DIR", .u8, .rw, true, 2, 0, 2, [], ["tx", "rx", "both"]⟩,
  ⟨20, "EYE_WARN_Q", .u16, .rw, true, 250, 0, 1000, [], []⟩,
  ⟨21, "ADAPT_RESET_Q", .u16, .rw, true, 50, 0, 500, [], []⟩,
  ⟨22, "LOCK_TIMEOUT_MS", .u16, .rw, true, 100, 10, 10000, [], []⟩]
/-- 3000h (05_lanes.md). -/
def dict3000 : ObjIndex := ⟨0x3000, true, 0, 191, dict3000_subs⟩

def dict3100_subs : List ObjRow := [
  ⟨1, "LANE_STATE", .u8, .ro, false, 0, 0, 6, [], ["unpowered", "test", "off", "acquiring", "aligning", "up", "hi-ber"]⟩,
  ⟨2, "RATE_FOUND", .u8, .ro, false, 0, 0, 14, [], ["none", "sdi-1.485", "sdi-1.485/1.001", "sdi-2.97", "sdi-2.97/1.001", "sdi-5.94", "sdi-5.94/1.001", "sdi-11.88", "sdi-11.88/1.001", "10gbase-r", "25gbase-r", "50gbase-r", "100gbase-kr1", "100gbase-cr1", "ivard"]⟩,
  ⟨3, "FREQ_OFFSET_PPB", .i32, .ro, false, 0, (-2147483648), 2147483647, [], []⟩,
  ⟨4, "EYE_Q", .u16, .ro, false, 0, 0, 65535, [], []⟩,
  ⟨5, "CTLE_ACTIVE", .u8, .ro, false, 8, 0, 255, [], []⟩,
  ⟨6, "DFE_TAPS", .octets, .ro, false, 0, 12, 12, [], []⟩,
  ⟨7, "TX_TAPS_ACTIVE", .octets, .ro, false, 0, 10, 10, [], []⟩,
  ⟨8, "LOCKS", .u32, .ro, false, 0, 0, 4294967295, [], []⟩,
  ⟨9, "LOCK_LOSSES", .u32, .rwc, false, 0, 0, 4294967295, [], []⟩,
  ⟨10, "INVALID_HEADERS", .u64, .rwc, false, 0, 0, 18446744073709551615, [], []⟩,
  ⟨11, "HI_BER", .bool, .ro, false, 0, 0, 1, [], []⟩,
  ⟨12, "FEC_CORRECTED", .u64, .rwc, false, 0, 0, 18446744073709551615, [], []⟩,
  ⟨13, "FEC_UNCORRECTED", .u64, .rwc, false, 0, 0, 18446744073709551615, [], []⟩,
  ⟨14, "SDI_CRC_LINES", .u64, .rwc, false, 0, 0, 18446744073709551615, [], []⟩,
  ⟨15, "TRS_RELOCKS", .u32, .rwc, false, 0, 0, 4294967295, [], []⟩,
  ⟨16, "PRBS_LOCKED", .bool, .ro, false, 0, 0, 1, [], []⟩,
  ⟨17, "PRBS_BITS", .u64, .rwc, false, 0, 0, 18446744073709551615, [], []⟩,
  ⟨18, "PRBS_ERRORS", .u64, .rwc, false, 0, 0, 18446744073709551615, [], []⟩,
  ⟨19, "RX_LATENCY_NS", .u32, .ro, false, 0, 0, 4294967295, [], []⟩,
  ⟨20, "TX_LATENCY_NS", .u32, .ro, false, 0, 0, 4294967295, [], []⟩,
  ⟨21, "ADAPT_RESETS", .u32, .rwc, false, 0, 0, 4294967295, [], []⟩,
  ⟨22, "TX_STATE", .u8, .ro, false, 0, 0, 2, [], ["off", "idle", "running"]⟩,
  ⟨23, "TX_CLOCK_DOMAIN", .u8, .ro, false, 255, 0, 255, [], []⟩]
/-- 3100h (05_lanes.md). -/
def dict3100 : ObjIndex := ⟨0x3100, true, 0, 191, dict3100_subs⟩

def dict3400_subs : List ObjRow := [
  ⟨1, "ENGINE_STATE", .u8, .ro, false, 0, 0, 2, [], ["off", "running", "fault"]⟩,
  ⟨2, "ENGINE_FLOWS_ACTIVE", .u16, .ro, false, 0, 0, 65535, [], []⟩]
/-- 3400h (06_media_transport.md). -/
def dict3400 : ObjIndex := ⟨0x3400, true, 0, 7, dict3400_subs⟩

def dict3401_subs : List ObjRow := [
  ⟨1, "FLOWS_ACTIVE", .u16, .ro, false, 0, 0, 65535, [], []⟩,
  ⟨2, "FLOWS_UNCLAIMED", .u16, .ro, false, 0, 0, 65535, [], []⟩,
  ⟨3, "FLOW_LIMIT", .u16, .ro, false, 8192, 0, 65535, [], []⟩,
  ⟨4, "TIMESTAMP_BASIS", .u8, .ro, false, 2, 0, 2, [], ["synchronised", "free-run", "unsynchronised"]⟩,
  ⟨5, "FIRMWARE_RATE_LIMIT", .u32, .rw, true, 10000, 1000, 100000, [], []⟩]
/-- 3401h (06_media_transport.md). -/
def dict3401 : ObjIndex := ⟨0x3401, false, 0, 0, dict3401_subs⟩

def dict3500_subs : List ObjRow := [
  ⟨1, "MAC_ADDR", .octets, .rw, true, 0, 6, 6, [], []⟩,
  ⟨2, "IPV4_ADDR", .octets, .rw, true, 0, 4, 4, [], []⟩,
  ⟨3, "IPV4_PREFIX", .u8, .rw, true, 24, 0, 32, [], []⟩,
  ⟨4, "IPV4_GATEWAY", .octets, .rw, true, 0, 4, 4, [], []⟩,
  ⟨5, "IPV6_ADDR", .octets, .rw, true, 0, 16, 16, [], []⟩,
  ⟨6, "IPV6_PREFIX", .u8, .rw, true, 64, 0, 128, [], []⟩,
  ⟨7, "VLAN_ID", .u16, .rw, true, 0, 0, 4094, [], []⟩,
  ⟨8, "MTU", .u16, .rw, true, 1500, 1500, 9216, [], []⟩]
/-- 3500h (06_media_transport.md). -/
def dict3500 : ObjIndex := ⟨0x3500, true, 0, 191, dict3500_subs⟩

def dict3510_subs : List ObjRow := [
  ⟨1, "RX_FRAMES", .u64, .rwc, false, 0, 0, 18446744073709551615, [], []⟩,
  ⟨2, "RX_ADDR_DROPS", .u64, .rwc, false, 0, 0, 18446744073709551615, [], []⟩,
  ⟨3, "RX_VLAN_DROPS", .u64, .rwc, false, 0, 0, 18446744073709551615, [], []⟩,
  ⟨4, "RX_IP_ERRORS", .u64, .rwc, false, 0, 0, 18446744073709551615, [], []⟩,
  ⟨5, "RX_TO_FIRMWARE", .u64, .rwc, false, 0, 0, 18446744073709551615, [], []⟩,
  ⟨6, "RX_FIRMWARE_DROPS", .u64, .rwc, false, 0, 0, 18446744073709551615, [], []⟩,
  ⟨7, "UNCLAIMED_PACKETS", .u64, .rwc, false, 0, 0, 18446744073709551615, [], []⟩,
  ⟨8, "JOINS_SENT", .u32, .rwc, false, 0, 0, 4294967295, [], []⟩,
  ⟨9, "LEAVES_SENT", .u32, .rwc, false, 0, 0, 4294967295, [], []⟩]
/-- 3510h (06_media_transport.md). -/
def dict3510 : ObjIndex := ⟨0x3510, true, 0, 191, dict3510_subs⟩

def dict3540_subs : List ObjRow := [
  ⟨1, "SDI_IN_ENDPOINT", .u16, .ro, false, 0, 0, 65535, [], []⟩,
  ⟨2, "SDI_IN_LINKS", .u8, .ro, false, 0, 0, 255, [], []⟩,
  ⟨3, "LINK_LANES", .octets, .ro, false, 0, 6, 6, [], []⟩,
  ⟨4, "AUDIO_BASE_CH", .u16, .rw, true, 0, 0, 16383, [], []⟩,
  ⟨5, "AUDIO_CHANNELS", .u8, .rw, true, 16, 0, 32, [], []⟩,
  ⟨6, "PAYLOAD_ID_CHECK", .u8, .rw, true, 0, 0, 1, [], ["enforce", "ignore"]⟩,
  ⟨7, "LOSS_HOLD_FRAMES", .u16, .rw, true, 25, 0, 65535, [], []⟩,
  ⟨8, "SDI_IN_STATE", .u8, .ro, false, 0, 0, 4, [], ["not planned", "lost", "locking", "present", "format mismatch"]⟩,
  ⟨9, "PAYLOAD_ID", .u32, .ro, false, 0, 0, 4294967295, [], []⟩,
  ⟨10, "LINK_SKEW_NS", .u32, .ro, false, 0, 0, 4294967295, [], []⟩,
  ⟨11, "SDI_FRAMES", .u64, .rwc, false, 0, 0, 18446744073709551615, [], []⟩,
  ⟨12, "SDI_LINES_CONCEALED", .u64, .rwc, false, 0, 0, 18446744073709551615, [], []⟩]
/-- 3540h (06_media_transport.md). -/
def dict3540 : ObjIndex := ⟨0x3540, true, 0, 191, dict3540_subs⟩

def dict3580_subs : List ObjRow := [
  ⟨1, "SDI_OUT_ENDPOINT", .u16, .ro, false, 32768, 0, 65535, [], []⟩,
  ⟨2, "SDI_OUT_LINKS", .u8, .ro, false, 0, 0, 255, [], []⟩,
  ⟨3, "OUT_AUDIO_BASE_CH", .u16, .rw, true, 0, 0, 16383, [], []⟩,
  ⟨4, "OUT_AUDIO_CHANNELS", .u8, .rw, true, 16, 0, 32, [], []⟩,
  ⟨5, "INSERT_PAYLOAD_ID", .bool, .rw, true, 1, 0, 1, [], []⟩]
/-- 3580h (06_media_transport.md). -/
def dict3580 : ObjIndex := ⟨0x3580, true, 0, 191, dict3580_subs⟩

def dict3600_subs : List ObjRow := [
  ⟨1, "FLOW_ENABLE", .bool, .rw, true, 0, 0, 1, [], []⟩,
  ⟨2, "FLOW_KIND", .u8, .rw, true, 0, 0, 5, [], ["st2110-20", "st2110-22", "st2110-30", "st2110-31", "st2110-40", "st2022-6"]⟩,
  ⟨3, "ENDPOINT", .u16, .rw, true, 0, 0, 65535, [], []⟩,
  ⟨4, "FLOW_AUDIO_BASE_CH", .u16, .rw, true, 0, 0, 16383, [], []⟩,
  ⟨5, "FLOW_AUDIO_CHANNELS", .u8, .rw, true, 2, 0, 255, [], []⟩,
  ⟨6, "LANE_P", .u16, .rw, true, 65535, 0, 191, [65535], []⟩,
  ⟨7, "LANE_S", .u16, .rw, true, 65535, 0, 191, [65535], []⟩,
  ⟨8, "DEST_ADDR_P", .octets, .rw, true, 0, 16, 16, [], []⟩,
  ⟨9, "SRC_ADDR_P", .octets, .rw, true, 0, 16, 16, [], []⟩,
  ⟨10, "UDP_PORT_P", .u16, .rw, true, 0, 1, 65535, [], []⟩,
  ⟨11, "DEST_ADDR_S", .octets, .rw, true, 0, 16, 16, [], []⟩,
  ⟨12, "SRC_ADDR_S", .octets, .rw, true, 0, 16, 16, [], []⟩,
  ⟨13, "UDP_PORT_S", .u16, .rw, true, 0, 1, 65535, [], []⟩,
  ⟨14, "PAYLOAD_TYPE", .u8, .rw, true, 96, 96, 127, [], []⟩,
  ⟨15, "SKEW_WINDOW_US", .u32, .rw, true, 10000, 100, 50000, [], []⟩,
  ⟨16, "LOSS_TIMEOUT_MS", .u16, .rw, true, 5, 1, 1000, [], []⟩,
  ⟨17, "LEG_TIMEOUT_MS", .u16, .rw, true, 5, 1, 1000, [], []⟩,
  ⟨18, "FLOW_LOSS_HOLD_FRAMES", .u16, .rw, true, 25, 0, 65535, [], []⟩,
  ⟨19, "AUDIO_PLACEMENT", .u8, .rw, true, 0, 0, 1, [], ["timestamp", "arrival"]⟩,
  ⟨20, "PLAYOUT_CYCLES", .u16, .rw, true, 16, 2, 400, [], []⟩,
  ⟨21, "FLOW_STATE", .u8, .ro, false, 0, 0, 7, [], ["disabled", "unclaimed", "joining", "locking", "present", "lost", "format mismatch", "not planned"]⟩,
  ⟨22, "LEG_STATE_P", .u8, .ro, false, 0, 0, 3, [], ["none", "silent", "receiving", "lost"]⟩,
  ⟨23, "LEG_STATE_S", .u8, .ro, false, 0, 0, 3, [], ["none", "silent", "receiving", "lost"]⟩]
/-- 3600h (06_media_transport.md). -/
def dict3600 : ObjIndex := ⟨0x3600, true, 0, 16383, dict3600_subs⟩

def dict3620_subs : List ObjRow := [
  ⟨1, "PACKETS_P", .u64, .rwc, false, 0, 0, 18446744073709551615, [], []⟩,
  ⟨2, "PACKETS_S", .u64, .rwc, false, 0, 0, 18446744073709551615, [], []⟩,
  ⟨3, "BYTES_WRITTEN", .u64, .rwc, false, 0, 0, 18446744073709551615, [], []⟩,
  ⟨4, "DUPLICATES", .u64, .rwc, false, 0, 0, 18446744073709551615, [], []⟩,
  ⟨5, "LATE_DISCARDS", .u64, .rwc, false, 0, 0, 18446744073709551615, [], []⟩,
  ⟨6, "LEG_GAPS_P", .u64, .rwc, false, 0, 0, 18446744073709551615, [], []⟩,
  ⟨7, "LEG_GAPS_S", .u64, .rwc, false, 0, 0, 18446744073709551615, [], []⟩,
  ⟨8, "MERGED_GAPS", .u64, .rwc, false, 0, 0, 18446744073709551615, [], []⟩,
  ⟨9, "LINES_CONCEALED", .u64, .rwc, false, 0, 0, 18446744073709551615, [], []⟩,
  ⟨10, "FRAMES", .u64, .rwc, false, 0, 0, 18446744073709551615, [], []⟩,
  ⟨11, "PT_DISCARDS", .u64, .rwc, false, 0, 0, 18446744073709551615, [], []⟩,
  ⟨12, "FORMAT_ERRORS", .u64, .rwc, false, 0, 0, 18446744073709551615, [], []⟩,
  ⟨13, "SKEW_NS", .i64, .ro, false, 0, (-9223372036854775808), 9223372036854775807, [], []⟩,
  ⟨14, "TS_OFFSET_NS_P", .i64, .ro, false, 0, (-9223372036854775808), 9223372036854775807, [], []⟩,
  ⟨15, "TS_OFFSET_NS_S", .i64, .ro, false, 0, (-9223372036854775808), 9223372036854775807, [], []⟩,
  ⟨16, "LAST_SSRC", .u32, .ro, false, 0, 0, 4294967295, [], []⟩,
  ⟨17, "SSRC_CHANGES", .u32, .rwc, false, 0, 0, 4294967295, [], []⟩,
  ⟨18, "AUDIO_LATE_BLOCKS", .u64, .rwc, false, 0, 0, 18446744073709551615, [], []⟩,
  ⟨19, "AUDIO_SLIPS", .u32, .rwc, false, 0, 0, 4294967295, [], []⟩,
  ⟨20, "ROW_UNCLAIMED_PACKETS", .u64, .rwc, false, 0, 0, 18446744073709551615, [], []⟩]
/-- 3620h (06_media_transport.md). -/
def dict3620 : ObjIndex := ⟨0x3620, true, 0, 16383, dict3620_subs⟩

def dict3700_subs : List ObjRow := [
  ⟨1, "TX_ENABLE", .bool, .rw, true, 0, 0, 1, [], []⟩,
  ⟨2, "TX_KIND", .u8, .ro, false, 7, 0, 7, [], ["st2110-20", "st2110-22", "st2110-30", "st2110-31", "st2110-40", "st2022-6", "ts", "none"]⟩,
  ⟨3, "TX_ENDPOINT", .u16, .ro, false, 0, 0, 65535, [], []⟩,
  ⟨4, "TX_LANE_P", .u16, .ro, false, 65535, 0, 65535, [], []⟩,
  ⟨5, "TX_LANE_S", .u16, .ro, false, 65535, 0, 65535, [], []⟩,
  ⟨6, "SENDER_TYPE", .u8, .ro, false, 3, 0, 3, [], ["N", "NL", "W", "none"]⟩,
  ⟨7, "PACKET_LAYOUT", .u16, .ro, false, 0, 0, 65535, [], []⟩,
  ⟨8, "TX_DEST_ADDR_P", .octets, .rw, true, 0, 16, 16, [], []⟩,
  ⟨9, "TX_DEST_PORT_P", .u16, .rw, true, 0, 1, 65535, [], []⟩,
  ⟨10, "TX_SRC_PORT_P", .u16, .rw, true, 10000, 1, 65535, [], []⟩,
  ⟨11, "TX_DEST_ADDR_S", .octets, .rw, true, 0, 16, 16, [], []⟩,
  ⟨12, "TX_DEST_PORT_S", .u16, .rw, true, 0, 1, 65535, [], []⟩,
  ⟨13, "TX_SRC_PORT_S", .u16, .rw, true, 10000, 1, 65535, [], []⟩,
  ⟨14, "TX_PAYLOAD_TYPE", .u8, .rw, true, 96, 96, 127, [], []⟩,
  ⟨15, "SSRC", .u32, .rw, true, 0, 0, 4294967295, [], []⟩,
  ⟨16, "DSCP", .u8, .rw, true, 34, 0, 63, [], []⟩,
  ⟨17, "TTL", .u8, .rw, true, 64, 1, 255, [], []⟩,
  ⟨18, "RTP_TS_ADJUST", .i32, .rw, true, 0, (-2147483648), 2147483647, [], []⟩,
  ⟨19, "TX_STATE", .u8, .ro, false, 0, 0, 2, [], ["not planned", "off", "sending"]⟩]
/-- 3700h (06_media_transport.md). -/
def dict3700 : ObjIndex := ⟨0x3700, true, 0, 8191, dict3700_subs⟩

def dict3720_subs : List ObjRow := [
  ⟨1, "TX_PACKETS", .u64, .rwc, false, 0, 0, 18446744073709551615, [], []⟩,
  ⟨2, "TX_BYTES", .u64, .rwc, false, 0, 0, 18446744073709551615, [], []⟩,
  ⟨3, "TX_FRAMES", .u64, .rwc, false, 0, 0, 18446744073709551615, [], []⟩]
/-- 3720h (06_media_transport.md). -/
def dict3720 : ObjIndex := ⟨0x3720, true, 0, 8191, dict3720_subs⟩

def dict3800_subs : List ObjRow := [
  ⟨1, "EG_PORT_STATE", .u8, .ro, false, 0, 0, 2, [], ["off", "running", "blocked"]⟩,
  ⟨2, "MAC_RATE_MBPS", .u32, .ro, false, 0, 0, 4294967295, [], []⟩,
  ⟨3, "PACED_ROWS", .u16, .ro, false, 0, 0, 65535, [], []⟩,
  ⟨4, "TX_DISCARDS", .u64, .rwc, false, 0, 0, 18446744073709551615, [], []⟩]
/-- 3800h (07_egress_scheduling.md). -/
def dict3800 : ObjIndex := ⟨0x3800, true, 0, 191, dict3800_subs⟩

def dict3801_subs : List ObjRow := [
  ⟨1, "CLASS_MODE", .u8, .ro, false, 0, 0, 3, [], ["unused", "paced", "shaped", "firmware"]⟩,
  ⟨2, "CLASS_RATE_KBPS", .u32, .ro, false, 0, 0, 4294967295, [], []⟩,
  ⟨3, "BURST_CEILING", .u32, .ro, false, 0, 0, 4294967295, [], []⟩,
  ⟨4, "CREDIT", .i32, .ro, false, 0, (-2147483648), 2147483647, [], []⟩,
  ⟨5, "HELD_FRAMES", .u64, .rwc, false, 0, 0, 18446744073709551615, [], []⟩,
  ⟨6, "TOO_LONG_DISCARDS", .u64, .rwc, false, 0, 0, 18446744073709551615, [], []⟩,
  ⟨7, "CLASS_FRAMES", .u64, .rwc, false, 0, 0, 18446744073709551615, [], []⟩,
  ⟨8, "CLASS_BYTES", .u64, .rwc, false, 0, 0, 18446744073709551615, [], []⟩]
/-- 3801h (07_egress_scheduling.md). -/
def dict3801 : ObjIndex := ⟨0x3801, true, 0, 1535, dict3801_subs⟩

def dict3802_subs : List ObjRow := [
  ⟨1, "QUANTUM", .u32, .rw, true, 1536, 64, 65535, [], []⟩,
  ⟨2, "DEFICIT", .u32, .ro, false, 0, 0, 4294967295, [], []⟩,
  ⟨3, "QUEUE_LIMIT", .u32, .ro, false, 0, 0, 4294967295, [], []⟩,
  ⟨4, "QUEUE_FILL", .u32, .ro, false, 0, 0, 4294967295, [], []⟩,
  ⟨5, "QUEUE_DROPS", .u64, .rwc, false, 0, 0, 18446744073709551615, [], []⟩,
  ⟨6, "QUEUE_SOURCE", .u16, .ro, false, 65535, 0, 65535, [], []⟩]
/-- 3802h (07_egress_scheduling.md). -/
def dict3802 : ObjIndex := ⟨0x3802, true, 0, 393215, dict3802_subs⟩

def dict3810_subs : List ObjRow := [
  ⟨1, "GATE_ENABLED", .bool, .rw, true, 0, 0, 1, [], []⟩,
  ⟨2, "ADMIN_BASE_S", .u64, .rw, true, 0, 0, 281474976710655, [], []⟩,
  ⟨3, "ADMIN_BASE_NS", .u32, .rw, true, 0, 0, 999999999, [], []⟩,
  ⟨4, "ADMIN_CYCLE_NS", .u32, .rw, true, 1000000, 1000, 1000000000, [], []⟩,
  ⟨5, "ADMIN_LENGTH", .u16, .rw, true, 1, 1, 256, [], []⟩,
  ⟨6, "CONFIG_CHANGE", .u8, .wo, true, 0, 0, 1, [], ["apply", "cancel"]⟩,
  ⟨7, "CONFIG_PENDING", .bool, .ro, false, 0, 0, 1, [], []⟩,
  ⟨8, "CONFIG_CHANGE_S", .u64, .ro, false, 0, 0, 18446744073709551615, [], []⟩,
  ⟨9, "CONFIG_CHANGE_NS", .u32, .ro, false, 0, 0, 4294967295, [], []⟩,
  ⟨10, "START_SHIFTED", .bool, .ro, false, 0, 0, 1, [], []⟩,
  ⟨11, "SHIFT_COUNT", .u32, .rwc, false, 0, 0, 4294967295, [], []⟩,
  ⟨12, "GATE_RESTARTS", .u32, .rwc, false, 0, 0, 4294967295, [], []⟩,
  ⟨13, "OPER_CYCLE_NS", .u32, .ro, false, 0, 0, 4294967295, [], []⟩,
  ⟨14, "OPER_LENGTH", .u16, .ro, false, 0, 0, 65535, [], []⟩,
  ⟨15, "CURRENT_ENTRY", .u16, .ro, false, 0, 0, 65535, [], []⟩]
/-- 3810h (07_egress_scheduling.md). -/
def dict3810 : ObjIndex := ⟨0x3810, true, 0, 191, dict3810_subs⟩

def dict3811_subs : List ObjRow := [
  ⟨1, "ADMIN_GATE_STATES", .u8, .rw, true, 255, 0, 255, [], []⟩,
  ⟨2, "ADMIN_INTERVAL_NS", .u32, .rw, true, 1000000, 64, 1000000000, [], []⟩]
/-- 3811h (07_egress_scheduling.md). -/
def dict3811 : ObjIndex := ⟨0x3811, true, 0, 49151, dict3811_subs⟩

def dict3812_subs : List ObjRow := [
  ⟨1, "OPER_GATE_STATES", .u8, .ro, false, 255, 0, 255, [], []⟩,
  ⟨2, "OPER_INTERVAL_NS", .u32, .ro, false, 0, 0, 4294967295, [], []⟩]
/-- 3812h (07_egress_scheduling.md). -/
def dict3812 : ObjIndex := ⟨0x3812, true, 0, 49151, dict3812_subs⟩

def dict3820_subs : List ObjRow := [
  ⟨1, "PACED", .bool, .ro, false, 0, 0, 1, [], []⟩,
  ⟨2, "TRO_NS", .u32, .ro, false, 0, 0, 4294967295, [], []⟩,
  ⟨3, "TDRAIN_PS", .u32, .ro, false, 0, 0, 4294967295, [], []⟩,
  ⟨4, "PACKETS_PER_FRAME", .u32, .ro, false, 0, 0, 4294967295, [], []⟩,
  ⟨5, "EG_CLASS", .u8, .ro, false, 0, 0, 255, [], []⟩,
  ⟨6, "EG_QUEUE", .u16, .ro, false, 0, 0, 65535, [], []⟩,
  ⟨7, "NULL_PACKETS", .u64, .rwc, false, 0, 0, 18446744073709551615, [], []⟩]
/-- 3820h (07_egress_scheduling.md). -/
def dict3820 : ObjIndex := ⟨0x3820, true, 0, 8191, dict3820_subs⟩

def dict4000_subs : List ObjRow := [
  ⟨1, "ROUTE_DEST", .u16, .rw, true, 32768, 0, 65535, [], []⟩,
  ⟨2, "ROUTE_SRC", .u16, .rw, true, 16384, 0, 65535, [], []⟩,
  ⟨3, "ROUTE_CMD", .u8, .wo, true, 0, 0, 0, [], ["take"]⟩,
  ⟨4, "ROUTE_RESULT", .u16, .ro, false, 0, 0, 65535, [], []⟩]
/-- 4000h (08_clearing_fabric.md). -/
def dict4000 : ObjIndex := ⟨0x4000, false, 0, 0, dict4000_subs⟩

def dict4001_subs : List ObjRow := [
  ⟨1, "SRC_QSLOTS_USED", .u16, .ro, false, 0, 0, 65535, [], []⟩,
  ⟨2, "DEST_QSLOTS_USED", .u16, .ro, false, 0, 0, 65535, [], []⟩]
/-- 4001h (08_clearing_fabric.md). -/
def dict4001 : ObjIndex := ⟨0x4001, false, 0, 0, dict4001_subs⟩

def dict4002_subs : List ObjRow := [
  ⟨1, "DEST_ENDPOINT", .u16, .ro, false, 0, 0, 65535, [], []⟩,
  ⟨2, "DEST_DOMAIN", .u8, .ro, false, 255, 0, 255, [], []⟩,
  ⟨3, "DEST_FORMAT", .u8, .ro, false, 0, 0, 255, [], []⟩,
  ⟨4, "SWITCH_LINE", .u16, .ro, false, 0, 0, 65535, [], []⟩,
  ⟨5, "CURRENT_SOURCE", .u16, .ro, false, 16384, 0, 65535, [], []⟩,
  ⟨6, "PENDING_SOURCE", .u16, .ro, false, 65535, 0, 65535, [], []⟩,
  ⟨7, "APPLIED_FCNT", .u64, .ro, false, 0, 0, 18446744073709551615, [], []⟩,
  ⟨8, "ROUTE_PATH", .u8, .ro, false, 0, 0, 2, [], ["direct", "frame-sync", "converter"]⟩,
  ⟨9, "SYNC_DELAY_NS", .u32, .ro, false, 0, 0, 4294967295, [], []⟩,
  ⟨10, "SYNC_REPEATS", .u64, .rwc, false, 0, 0, 18446744073709551615, [], []⟩,
  ⟨11, "SYNC_DROPS", .u64, .rwc, false, 0, 0, 18446744073709551615, [], []⟩,
  ⟨12, "AFV_BASE_CH", .u16, .rw, true, 0, 0, 16383, [], []⟩,
  ⟨13, "AFV_COUNT", .u8, .rw, true, 0, 0, 32, [], []⟩,
  ⟨14, "AFV_CROSSFADE", .u8, .rw, true, 2, 0, 4, [], []⟩,
  ⟨15, "ANC_MODE", .u8, .rw, true, 0, 0, 1, [], ["follow", "none"]⟩,
  ⟨16, "ANC_REPEAT", .u8, .rw, true, 0, 0, 2, [], ["omit captions", "repeat all", "omit all"]⟩,
  ⟨17, "ROUTE_TAKES", .u32, .rwc, false, 0, 0, 4294967295, [], []⟩,
  ⟨18, "SUPERSEDED", .u32, .rwc, false, 0, 0, 4294967295, [], []⟩]
/-- 4002h (08_clearing_fabric.md). -/
def dict4002 : ObjIndex := ⟨0x4002, true, 0, 4639, dict4002_subs⟩

def dict4003_subs : List ObjRow := [
  ⟨1, "ALIGN_MODE", .u8, .ro, false, 0, 0, 3, [], ["none", "line", "frame-1", "frame-2"]⟩,
  ⟨2, "ALIGN_DEPTH", .u8, .ro, false, 0, 0, 255, [], []⟩,
  ⟨3, "ALIGN_STATE", .u8, .ro, false, 0, 0, 4, [], ["not planned", "no input", "in window", "off time", "synchronised"]⟩,
  ⟨4, "ARRIVAL_OFFSET_NS", .i32, .ro, false, 0, (-2147483648), 2147483647, [], []⟩,
  ⟨5, "ALIGN_DELAY_NS", .u32, .ro, false, 0, 0, 4294967295, [], []⟩,
  ⟨6, "OFFTIME_FRAMES", .u64, .rwc, false, 0, 0, 18446744073709551615, [], []⟩,
  ⟨7, "ALIGN_REPEATS", .u64, .rwc, false, 0, 0, 18446744073709551615, [], []⟩,
  ⟨8, "ALIGN_DROPS", .u64, .rwc, false, 0, 0, 18446744073709551615, [], []⟩,
  ⟨9, "SRC_AUDIO_BASE", .u16, .ro, false, 0, 0, 65535, [], []⟩,
  ⟨10, "SRC_AUDIO_COUNT", .u8, .ro, false, 0, 0, 255, [], []⟩]
/-- 4003h (08_clearing_fabric.md). -/
def dict4003 : ObjIndex := ⟨0x4003, true, 0, 4095, dict4003_subs⟩

def dict4010_subs : List ObjRow := [
  ⟨1, "SALVO_LENGTH", .u16, .rw, true, 0, 0, 1024, [], []⟩,
  ⟨2, "SALVO_STATE", .u8, .ro, false, 0, 0, 4, [], ["empty", "loaded", "pending", "applied", "refused"]⟩,
  ⟨3, "SALVO_CMD", .u8, .wo, true, 0, 0, 1, [], ["take", "clear"]⟩,
  ⟨4, "SALVO_ANCHOR_TD", .u8, .rw, true, 0, 0, 3, [], []⟩,
  ⟨5, "SALVO_ANCHOR_FCNT", .u64, .rw, true, 0, 0, 18446744073709551615, [], []⟩,
  ⟨6, "SALVO_ERROR", .u16, .ro, false, 0, 0, 65535, [], []⟩,
  ⟨7, "SALVO_ERROR_ENTRY", .u16, .ro, false, 0, 0, 65535, [], []⟩,
  ⟨8, "SALVO_LATE", .bool, .ro, false, 0, 0, 1, [], []⟩]
/-- 4010h (08_clearing_fabric.md). -/
def dict4010 : ObjIndex := ⟨0x4010, true, 0, 31, dict4010_subs⟩

def dict4011_subs : List ObjRow := [
  ⟨1, "SALVO_ENTRY", .u64, .rw, true, 0, 0, 18446744073709551615, [], []⟩]
/-- 4011h (08_clearing_fabric.md). -/
def dict4011 : ObjIndex := ⟨0x4011, true, 0, 32767, dict4011_subs⟩

def dict4100_subs : List ObjRow := [
  ⟨1, "AUD_DEST_CH", .u16, .rw, true, 0, 0, 65535, [], []⟩,
  ⟨2, "AUD_SRC_CH", .u16, .rw, true, 65535, 0, 65535, [], []⟩,
  ⟨3, "AUD_COUNT", .u8, .rw, true, 1, 1, 64, [], []⟩,
  ⟨4, "AUD_FADE", .u8, .rw, true, 2, 0, 4, [], []⟩,
  ⟨5, "AUD_CMD", .u8, .wo, true, 0, 0, 0, [], ["take"]⟩,
  ⟨6, "AUD_RESULT", .u16, .ro, false, 0, 0, 65535, [], []⟩]
/-- 4100h (08_clearing_fabric.md). -/
def dict4100 : ObjIndex := ⟨0x4100, false, 0, 0, dict4100_subs⟩

def dict4101_subs : List ObjRow := [
  ⟨1, "AUD_SOURCE", .u16, .ro, false, 65535, 0, 65535, [], []⟩,
  ⟨2, "AUD_PENDING", .u16, .ro, false, 65535, 0, 65535, [], []⟩,
  ⟨3, "AUD_FADE_STATE", .u8, .ro, false, 0, 0, 2, [], ["steady", "fading", "waiting"]⟩,
  ⟨4, "AUD_DEST_RATE", .u8, .ro, false, 0, 0, 2, [], ["none", "48k", "96k"]⟩,
  ⟨5, "AUD_TAKES", .u32, .rwc, false, 0, 0, 4294967295, [], []⟩]
/-- 4101h (08_clearing_fabric.md). -/
def dict4101 : ObjIndex := ⟨0x4101, true, 0, 16383, dict4101_subs⟩

def dict4102_subs : List ObjRow := [
  ⟨1, "SRC_RATE", .u8, .ro, false, 0, 0, 2, [], ["none", "48k", "96k"]⟩,
  ⟨2, "SRC_NONPCM", .bool, .ro, false, 0, 0, 1, [], []⟩,
  ⟨3, "SRC_LOCKED", .bool, .ro, false, 0, 0, 1, [], []⟩,
  ⟨4, "SRC_SLIPS", .u32, .rwc, false, 0, 0, 4294967295, [], []⟩]
/-- 4102h (08_clearing_fabric.md). -/
def dict4102 : ObjIndex := ⟨0x4102, true, 0, 16383, dict4102_subs⟩

def dict4200_subs : List ObjRow := [
  ⟨1, "TASKS_IN_USE", .u16, .ro, false, 0, 0, 65535, [], []⟩,
  ⟨2, "TASKS_WAITING", .u16, .ro, false, 0, 0, 65535, [], []⟩,
  ⟨3, "TASKS_READY", .u16, .ro, false, 0, 0, 65535, [], []⟩,
  ⟨4, "TASKS_DISPATCHED", .u16, .ro, false, 0, 0, 65535, [], []⟩,
  ⟨5, "BUSY_REFUSALS", .u32, .rwc, false, 0, 0, 4294967295, [], []⟩,
  ⟨6, "LATE_DISPATCHES", .u64, .rwc, false, 0, 0, 18446744073709551615, [], []⟩,
  ⟨7, "EXPIRED", .u64, .rwc, false, 0, 0, 18446744073709551615, [], []⟩,
  ⟨8, "CANCELLED_BEFORE_DISPATCH", .u64, .rwc, false, 0, 0, 18446744073709551615, [], []⟩,
  ⟨9, "DISPATCHES", .u64, .rwc, false, 0, 0, 18446744073709551615, [], []⟩,
  ⟨10, "SESSION_TASK_LIMIT", .u16, .rw, true, 4096, 1, 4096, [], []⟩]
/-- 4200h (09_timed_actions.md). -/
def dict4200 : ObjIndex := ⟨0x4200, false, 0, 0, dict4200_subs⟩

def dict4201_subs : List ObjRow := [
  ⟨1, "TASK_KIND", .u8, .rw, true, 0, 0, 3, [], ["route", "salvo", "write", "notify"]⟩,
  ⟨2, "KEY_TYPE", .u8, .rw, true, 0, 0, 1, [], ["frame", "time"]⟩,
  ⟨3, "KEY_TD", .u8, .rw, true, 0, 0, 3, [], []⟩,
  ⟨4, "KEY_FCNT", .u64, .rw, true, 0, 0, 281474976710655, [], []⟩,
  ⟨5, "KEY_CYCLE", .u16, .rw, true, 0, 0, 65535, [], []⟩,
  ⟨6, "KEY_TIME_S", .u64, .rw, true, 0, 0, 281474976710655, [], []⟩,
  ⟨7, "KEY_TIME_NS", .u32, .rw, true, 0, 0, 999999999, [], []⟩,
  ⟨8, "PRIORITY", .u8, .rw, true, 16, 0, 31, [], []⟩,
  ⟨9, "LATE_POLICY", .u8, .rw, true, 0, 0, 1, [], ["dispatch", "discard"]⟩,
  ⟨10, "TARGET", .u32, .rw, true, 0, 0, 4294967295, [], []⟩,
  ⟨11, "VALUE", .octets, .rw, true, 0, 1, 8, [], []⟩,
  ⟨12, "TASK_CMD", .u8, .wo, true, 0, 0, 1, [], ["create", "cancel"]⟩,
  ⟨13, "CMD_HANDLE", .u32, .rw, true, 0, 0, 4294967295, [], []⟩,
  ⟨14, "CMD_RESULT", .u16, .ro, false, 0, 0, 65535, [], []⟩]
/-- 4201h (09_timed_actions.md). -/
def dict4201 : ObjIndex := ⟨0x4201, false, 0, 0, dict4201_subs⟩

def dict4202_subs : List ObjRow := [
  ⟨1, "TASK_STATE", .u8, .ro, false, 0, 0, 7, [], ["free", "waiting", "ready", "dispatched", "done", "failed", "cancelled", "expired"]⟩,
  ⟨2, "TASK_HANDLE", .u32, .ro, false, 0, 0, 4294967295, [], []⟩,
  ⟨3, "TASK_KIND_READ", .u8, .ro, false, 0, 0, 4, [], ["route", "salvo", "salvo-anchor", "write", "notify"]⟩,
  ⟨4, "TASK_KEY_TYPE", .u8, .ro, false, 0, 0, 1, [], ["frame", "time"]⟩,
  ⟨5, "TASK_KEY_TD", .u8, .ro, false, 0, 0, 255, [], []⟩,
  ⟨6, "TASK_KEY_FCNT", .u64, .ro, false, 0, 0, 18446744073709551615, [], []⟩,
  ⟨7, "TASK_KEY_CYCLE", .u16, .ro, false, 0, 0, 65535, [], []⟩,
  ⟨8, "TASK_KEY_TIME_S", .u64, .ro, false, 0, 0, 18446744073709551615, [], []⟩,
  ⟨9, "TASK_KEY_TIME_NS", .u32, .ro, false, 0, 0, 4294967295, [], []⟩,
  ⟨10, "TASK_PRIORITY", .u8, .ro, false, 16, 0, 255, [], []⟩,
  ⟨11, "OWNER_PORT", .u8, .ro, false, 5, 0, 5, [], ["CP0", "CP1", "CP2", "CP3", "SVC", "none"]⟩,
  ⟨12, "CANCEL_REQUESTED", .bool, .ro, false, 0, 0, 1, [], []⟩,
  ⟨13, "DISPATCH_S", .u64, .ro, false, 0, 0, 18446744073709551615, [], []⟩,
  ⟨14, "DISPATCH_NS", .u32, .ro, false, 0, 0, 4294967295, [], []⟩,
  ⟨15, "LATE", .bool, .ro, false, 0, 0, 1, [], []⟩,
  ⟨16, "LATE_FRAMES", .u64, .ro, false, 0, 0, 18446744073709551615, [], []⟩,
  ⟨17, "LATENESS_NS", .u64, .ro, false, 0, 0, 18446744073709551615, [], []⟩,
  ⟨18, "OUTCOME", .u16, .ro, false, 0, 0, 65535, [], []⟩,
  ⟨19, "END_REASON", .u8, .ro, false, 0, 0, 4, [], ["none", "completed", "refused by worker", "cancelled before dispatch", "expired"]⟩]
/-- 4202h (09_timed_actions.md). -/
def dict4202 : ObjIndex := ⟨0x4202, true, 0, 4095, dict4202_subs⟩

def dict4203_subs : List ObjRow := [
  ⟨1, "WORKER_CLASS", .u8, .ro, false, 0, 0, 4, [], ["fabric", "encoder", "compositor", "dictionary", "notify"]⟩,
  ⟨2, "WORKERS", .u8, .ro, false, 0, 0, 255, [], []⟩,
  ⟨3, "WORKERS_BLOCKED", .u8, .ro, false, 0, 0, 255, [], []⟩,
  ⟨4, "READY_DEPTH", .u16, .ro, false, 0, 0, 65535, [], []⟩,
  ⟨5, "CLASS_DISPATCHES", .u64, .rwc, false, 0, 0, 18446744073709551615, [], []⟩]
/-- 4203h (09_timed_actions.md). -/
def dict4203 : ObjIndex := ⟨0x4203, true, 0, 4, dict4203_subs⟩

def dict5000_subs : List ObjRow := [
  ⟨1, "ENC_STATE", .u8, .ro, false, 0, 0, 2, [], ["not planned", "starting", "running"]⟩,
  ⟨2, "ENC_CODEC", .u8, .ro, false, 0, 0, 2, [], ["none", "vvc", "hevc"]⟩,
  ⟨3, "ENC_PROFILE", .u8, .ro, false, 0, 0, 3, [], ["none", "main10", "main10-444", "main422-10"]⟩,
  ⟨4, "ENC_LEVEL", .u8, .ro, false, 0, 0, 255, [], []⟩,
  ⟨5, "ENC_TIER", .u8, .ro, false, 0, 0, 1, [], ["main", "high"]⟩,
  ⟨6, "ENC_DOMAIN", .u8, .ro, false, 255, 0, 255, [], []⟩,
  ⟨7, "ENC_FORMAT", .u8, .ro, false, 0, 0, 255, [], []⟩,
  ⟨8, "ENC_CHROMA", .u8, .ro, false, 1, 0, 1, [], ["4:2:0", "4:2:2"]⟩,
  ⟨9, "DELAY_MODE", .u8, .ro, false, 1, 0, 2, [], ["tight", "standard", "look-ahead"]⟩,
  ⟨10, "DELAY_NS", .u32, .ro, false, 0, 0, 4294967295, [], []⟩,
  ⟨11, "MINT_MASK", .u16, .ro, false, 0, 0, 65535, [], []⟩,
  ⟨12, "MINT_SHARE", .u8, .ro, false, 0, 0, 2, [], ["none", "half", "whole"]⟩,
  ⟨13, "SUBPIC_COLUMNS", .u8, .ro, false, 0, 0, 255, [], []⟩,
  ⟨14, "SUBPIC_BANDS", .u8, .ro, false, 0, 0, 255, [], []⟩,
  ⟨15, "CTU_SIZE", .u8, .ro, false, 0, 0, 255, [], []⟩,
  ⟨16, "LADDER_TIERS", .u8, .ro, false, 0, 0, 255, [], []⟩,
  ⟨17, "CTU_BUDGET", .u32, .ro, false, 0, 0, 4294967295, [], []⟩,
  ⟨18, "ROW_SLACK", .u32, .ro, false, 0, 0, 4294967295, [], []⟩]
/-- 5000h (10_encoding_channels.md). -/
def dict5000 : ObjIndex := ⟨0x5000, true, 0, 15, dict5000_subs⟩

def dict5001_subs : List ObjRow := [
  ⟨1, "INPUT_OVERRIDE", .u8, .rw, true, 0, 0, 2, [], ["none", "black", "freeze"]⟩,
  ⟨2, "OVERRIDE_FCNT", .u64, .ro, false, 0, 0, 18446744073709551615, [], []⟩]
/-- 5001h (10_encoding_channels.md). -/
def dict5001 : ObjIndex := ⟨0x5001, true, 0, 15, dict5001_subs⟩

def dict5002_subs : List ObjRow := [
  ⟨1, "MINT_STATE", .u8, .ro, false, 0, 0, 3, [], ["off", "idle", "coding", "fault"]⟩,
  ⟨2, "MINT_CHANNEL_A", .u8, .ro, false, 255, 0, 255, [], []⟩,
  ⟨3, "MINT_CHANNEL_B", .u8, .ro, false, 255, 0, 255, [], []⟩,
  ⟨4, "LAST_FRAME_CLOCKS", .u32, .ro, false, 0, 0, 4294967295, [], []⟩,
  ⟨5, "FRAME_BUDGET", .u32, .ro, false, 0, 0, 4294967295, [], []⟩,
  ⟨6, "MINT_OVERDRAFTS", .u64, .rwc, false, 0, 0, 18446744073709551615, [], []⟩]
/-- 5002h (10_encoding_channels.md). -/
def dict5002 : ObjIndex := ⟨0x5002, true, 0, 15, dict5002_subs⟩

def dict5003_subs : List ObjRow := [
  ⟨1, "TIER0_CTUS", .u32, .ro, false, 0, 0, 4294967295, [], []⟩,
  ⟨2, "TIER1_CTUS", .u32, .ro, false, 0, 0, 4294967295, [], []⟩,
  ⟨3, "TIER2_CTUS", .u32, .ro, false, 0, 0, 4294967295, [], []⟩,
  ⟨4, "TIER3_CTUS", .u32, .ro, false, 0, 0, 4294967295, [], []⟩,
  ⟨5, "TIER4_CTUS", .u32, .ro, false, 0, 0, 4294967295, [], []⟩,
  ⟨6, "TIER5_CTUS", .u32, .ro, false, 0, 0, 4294967295, [], []⟩,
  ⟨7, "TIER6_CTUS", .u32, .ro, false, 0, 0, 4294967295, [], []⟩,
  ⟨8, "TIER7_CTUS", .u32, .ro, false, 0, 0, 4294967295, [], []⟩,
  ⟨9, "FLOOR_GUARD_CTUS", .u32, .ro, false, 0, 0, 4294967295, [], []⟩,
  ⟨10, "MAX_TIER", .u8, .ro, false, 0, 0, 255, [], []⟩,
  ⟨11, "PICTURES_CODED", .u64, .rwc, false, 0, 0, 18446744073709551615, [], []⟩,
  ⟨12, "PICTURES_COARSENED", .u64, .rwc, false, 0, 0, 18446744073709551615, [], []⟩,
  ⟨13, "FLOOR_GUARD_PICTURES", .u64, .rwc, false, 0, 0, 18446744073709551615, [], []⟩,
  ⟨14, "OVERRIDE_PICTURES", .u64, .rwc, false, 0, 0, 18446744073709551615, [], []⟩]
/-- 5003h (10_encoding_channels.md). -/
def dict5003 : ObjIndex := ⟨0x5003, true, 0, 15, dict5003_subs⟩

def dict5004_subs : List ObjRow := [
  ⟨1, "LAD_SEARCH_H", .u16, .ro, false, 0, 0, 65535, [], []⟩,
  ⟨2, "LAD_SEARCH_V", .u16, .ro, false, 0, 0, 65535, [], []⟩,
  ⟨3, "LAD_INTRA_SET", .u8, .ro, false, 0, 0, 255, [], []⟩,
  ⟨4, "LAD_MAX_DEPTH", .u8, .ro, false, 0, 0, 255, [], []⟩,
  ⟨5, "LAD_QP_OFFSET", .i32, .ro, false, 0, (-2147483648), 2147483647, [], []⟩,
  ⟨6, "LAD_TOOLS", .u16, .ro, false, 0, 0, 65535, [], []⟩,
  ⟨7, "LAD_CEILING", .u32, .ro, false, 0, 0, 4294967295, [], []⟩]
/-- 5004h (10_encoding_channels.md). -/
def dict5004 : ObjIndex := ⟨0x5004, true, 0, 127, dict5004_subs⟩

def dict5010_subs : List ObjRow := [
  ⟨1, "XS_ENGINE_STATE", .u8, .ro, false, 0, 0, 2, [], ["off", "idle", "running"]⟩,
  ⟨2, "XS_ENGINE_CHANNELS", .u8, .ro, false, 0, 0, 255, [], []⟩]
/-- 5010h (10_encoding_channels.md). -/
def dict5010 : ObjIndex := ⟨0x5010, true, 0, 7, dict5010_subs⟩

def dict5011_subs : List ObjRow := [
  ⟨1, "XS_STATE", .u8, .ro, false, 0, 0, 2, [], ["not planned", "starting", "running"]⟩,
  ⟨2, "XS_DIRECTION", .u8, .ro, false, 0, 0, 2, [], ["none", "encode", "decode"]⟩,
  ⟨3, "XS_PROFILE", .u8, .ro, false, 0, 0, 2, [], ["none", "main-422-10", "high-444-12"]⟩,
  ⟨4, "XS_LEVEL", .str, .ro, false, 0, 0, 1024, [], []⟩,
  ⟨5, "XS_SUBLEVEL", .str, .ro, false, 0, 0, 1024, [], []⟩,
  ⟨6, "XS_FORMAT", .u8, .ro, false, 0, 0, 255, [], []⟩,
  ⟨7, "XS_DOMAIN", .u8, .ro, false, 255, 0, 255, [], []⟩,
  ⟨8, "XS_ENGINE_MASK", .u8, .ro, false, 0, 0, 255, [], []⟩,
  ⟨9, "XS_BPP", .u16, .ro, false, 0, 0, 65535, [], []⟩,
  ⟨10, "FRAME_BYTES", .u32, .ro, false, 0, 0, 4294967295, [], []⟩,
  ⟨11, "XS_DELAY_NS", .u32, .ro, false, 0, 0, 4294967295, [], []⟩,
  ⟨12, "XS_ALIGN_MODE", .u8, .ro, false, 0, 0, 3, [], ["none", "line", "frame-1", "frame-2"]⟩,
  ⟨13, "XS_ALIGN_DEPTH", .u8, .ro, false, 0, 0, 255, [], []⟩,
  ⟨14, "XS_ARRIVAL_OFFSET_NS", .i32, .ro, false, 0, (-2147483648), 2147483647, [], []⟩]
/-- 5011h (10_encoding_channels.md). -/
def dict5011 : ObjIndex := ⟨0x5011, true, 0, 15, dict5011_subs⟩

def dict5012_subs : List ObjRow := [
  ⟨1, "XS_FRAMES", .u64, .rwc, false, 0, 0, 18446744073709551615, [], []⟩,
  ⟨2, "XS_SLICES_COARSENED", .u64, .rwc, false, 0, 0, 18446744073709551615, [], []⟩,
  ⟨3, "XS_OFFTIME_FRAMES", .u64, .rwc, false, 0, 0, 18446744073709551615, [], []⟩,
  ⟨4, "XS_REPEATS", .u64, .rwc, false, 0, 0, 18446744073709551615, [], []⟩,
  ⟨5, "XS_DROPS", .u64, .rwc, false, 0, 0, 18446744073709551615, [], []⟩,
  ⟨6, "XS_PRECINCTS_CONCEALED", .u64, .rwc, false, 0, 0, 18446744073709551615, [], []⟩,
  ⟨7, "XS_CODESTREAM_ERRORS", .u64, .rwc, false, 0, 0, 18446744073709551615, [], []⟩]
/-- 5012h (10_encoding_channels.md). -/
def dict5012 : ObjIndex := ⟨0x5012, true, 0, 15, dict5012_subs⟩

def dict5100_0_subs : List ObjRow := [
  ⟨1, "RC_MODE", .u8, .ro, false, 0, 0, 1, [], ["cbr", "capped-vbr"]⟩,
  ⟨2, "TS_RATE_BPS", .u64, .ro, false, 0, 0, 18446744073709551615, [], []⟩,
  ⟨3, "DATAGRAMS_PER_SLOT", .u16, .ro, false, 0, 0, 65535, [], []⟩,
  ⟨4, "VIDEO_PACKETS", .u16, .ro, false, 0, 0, 65535, [], []⟩,
  ⟨5, "AUDIO_PACKETS", .u16, .ro, false, 0, 0, 65535, [], []⟩,
  ⟨6, "ANC_PACKETS", .u16, .ro, false, 0, 0, 65535, [], []⟩,
  ⟨7, "AU_MAX_BYTES", .u32, .ro, false, 0, 0, 4294967295, [], []⟩,
  ⟨8, "HRD_BIT_RATE", .u32, .ro, false, 0, 0, 4294967295, [], []⟩,
  ⟨9, "CPB_SIZE_BITS", .u32, .ro, false, 0, 0, 4294967295, [], []⟩,
  ⟨10, "CPB_DELAY_90K", .u16, .ro, false, 0, 0, 65535, [], []⟩,
  ⟨11, "REFRESH", .u8, .ro, false, 2, 0, 2, [], ["gdr", "idr", "none"]⟩,
  ⟨12, "REFRESH_PERIOD", .u16, .ro, false, 0, 0, 65535, [], []⟩,
  ⟨13, "FEC_MODE", .u8, .ro, false, 0, 0, 2, [], ["none", "column", "column-row"]⟩,
  ⟨14, "FEC_L", .u8, .ro, false, 0, 0, 255, [], []⟩,
  ⟨15, "FEC_D", .u8, .ro, false, 0, 0, 255, [], []⟩,
  ⟨16, "BASE_QP", .u8, .rw, true, 27, 0, 63, [], []⟩,
  ⟨17, "MIN_QP", .u8, .rw, true, 10, 0, 63, [], []⟩,
  ⟨18, "MAX_QP", .u8, .rw, true, 51, 0, 63, [], []⟩,
  ⟨19, "RC_TARGET_FILL", .u8, .rw, true, 92, 50, 100, [], []⟩,
  ⟨20, "RAP_REQUEST", .u8, .wo, true, 0, 0, 0, [], ["idr"]⟩,
  ⟨21, "RAP_FCNT", .u64, .ro, false, 0, 0, 18446744073709551615, [], []⟩,
  ⟨22, "AUDIO_STREAMS", .u8, .ro, false, 0, 0, 255, [], []⟩,
  ⟨23, "AUDIO_CH_PER_STREAM", .u8, .ro, false, 0, 0, 255, [], []⟩,
  ⟨24, "AUDIO_BASE_CH", .u16, .rw, true, 0, 0, 16383, [], []⟩]
def dict5100_1_subs : List ObjRow := [
  ⟨25, "PROGRAM_NUMBER", .u16, .rw, true, 1, 1, 65535, [], []⟩,
  ⟨26, "TS_ID", .u16, .rw, true, 1, 0, 65535, [], []⟩,
  ⟨27, "PMT_PID", .u16, .rw, true, 256, 0, 65535, [], []⟩,
  ⟨28, "VIDEO_PID", .u16, .rw, true, 257, 0, 65535, [], []⟩,
  ⟨29, "AUDIO_PID_BASE", .u16, .rw, true, 258, 0, 65535, [], []⟩,
  ⟨30, "ANC_PID", .u16, .rw, true, 262, 0, 65535, [], []⟩]
/-- 5100h (11_encoding_rate_and_streams.md). -/
def dict5100 : ObjIndex := ⟨0x5100, true, 0, 15, dict5100_0_subs ++ dict5100_1_subs⟩

def dict5101_subs : List ObjRow := [
  ⟨1, "LAST_AU_BYTES", .u32, .ro, false, 0, 0, 4294967295, [], []⟩,
  ⟨2, "PEAK_AU_BYTES", .u32, .rwc, false, 0, 0, 4294967295, [], []⟩,
  ⟨3, "LAST_QP_X100", .u16, .ro, false, 0, 0, 65535, [], []⟩,
  ⟨4, "BIT_GUARD_CTUS", .u32, .ro, false, 0, 0, 4294967295, [], []⟩,
  ⟨5, "BIT_GUARD_PICTURES", .u64, .rwc, false, 0, 0, 18446744073709551615, [], []⟩,
  ⟨6, "RAP_COUNT", .u64, .rwc, false, 0, 0, 18446744073709551615, [], []⟩,
  ⟨7, "TS_PACKETS_SENT", .u64, .rwc, false, 0, 0, 18446744073709551615, [], []⟩,
  ⟨8, "NULL_STUFFED", .u64, .rwc, false, 0, 0, 18446744073709551615, [], []⟩,
  ⟨9, "DATAGRAMS_OMITTED", .u64, .rwc, false, 0, 0, 18446744073709551615, [], []⟩,
  ⟨10, "NULL_REPLACED", .u64, .rwc, false, 0, 0, 18446744073709551615, [], []⟩,
  ⟨11, "ANC_DROPPED", .u64, .rwc, false, 0, 0, 18446744073709551615, [], []⟩,
  ⟨12, "PMT_VERSION", .u8, .ro, false, 0, 0, 255, [], []⟩]
/-- 5101h (11_encoding_rate_and_streams.md). -/
def dict5101 : ObjIndex := ⟨0x5101, true, 0, 15, dict5101_subs⟩

def dict6000_subs : List ObjRow := [
  ⟨1, "COMP_STATE", .u8, .ro, false, 0, 0, 4, [], ["not planned", "running", "gang lead", "gang second", "converter"]⟩,
  ⟨2, "COMP_DOMAIN", .u8, .ro, false, 255, 0, 255, [], []⟩,
  ⟨3, "COMP_FORMAT", .u8, .ro, false, 0, 0, 255, [], []⟩,
  ⟨4, "LAYER_COUNT", .u8, .ro, false, 0, 0, 255, [], []⟩,
  ⟨5, "SEALED_LAYER", .u8, .ro, false, 255, 0, 255, [], []⟩,
  ⟨6, "STAGED_MASK", .u16, .ro, false, 0, 0, 65535, [], []⟩,
  ⟨7, "BACKGROUND", .u32, .rw, false, 67633664, 0, 4294967295, [], []⟩,
  ⟨8, "SURF_BAND_BUDGET", .u32, .ro, false, 0, 0, 4294967295, [], []⟩,
  ⟨9, "PLATE_AVAILABLE", .bool, .ro, false, 0, 0, 1, [], []⟩,
  ⟨10, "PLATE_STATE", .u8, .ro, false, 0, 0, 2, [], ["none", "building", "in force"]⟩,
  ⟨11, "PLATE_BASE_TOP", .u8, .ro, false, 255, 0, 255, [], []⟩,
  ⟨12, "COMMIT", .u16, .wo, false, 0, 0, 511, [], []⟩,
  ⟨13, "COMMIT_DISCARD", .u8, .wo, false, 0, 0, 0, [], ["discard"]⟩,
  ⟨14, "COMMIT_STATE", .u8, .ro, false, 0, 0, 2, [], ["idle", "pending", "flattening"]⟩,
  ⟨15, "COMMIT_RESULT", .u16, .ro, false, 0, 0, 65535, [], []⟩,
  ⟨16, "COMMIT_ERROR_LAYER", .u8, .ro, false, 255, 0, 255, [], []⟩,
  ⟨17, "COMMIT_SEQ", .u32, .ro, false, 0, 0, 4294967295, [], []⟩,
  ⟨18, "APPLIED_SEQ", .u32, .ro, false, 0, 0, 4294967295, [], []⟩,
  ⟨19, "APPLIED_FCNT", .u64, .ro, false, 0, 0, 18446744073709551615, [], []⟩,
  ⟨20, "COMMITS_SUPERSEDED", .u32, .rwc, false, 0, 0, 4294967295, [], []⟩,
  ⟨21, "COMP_DELAY_NS", .u32, .ro, false, 0, 0, 4294967295, [], []⟩]
/-- 6000h (12_compositor.md). -/
def dict6000 : ObjIndex := ⟨0x6000, true, 0, 31, dict6000_subs⟩

def dict6001_subs : List ObjRow := [
  ⟨1, "GROUP_COMMIT", .u32, .wo, false, 0, 0, 4294967295, [], []⟩,
  ⟨2, "GROUP_RESULT", .u16, .ro, false, 0, 0, 65535, [], []⟩,
  ⟨3, "GROUP_ERROR_COMP", .u8, .ro, false, 255, 0, 255, [], []⟩]
/-- 6001h (12_compositor.md). -/
def dict6001 : ObjIndex := ⟨0x6001, false, 0, 0, dict6001_subs⟩

def dict6002_subs : List ObjRow := [
  ⟨1, "LAYER_KIND", .u8, .ro, false, 0, 0, 2, [], ["unused", "fabric", "surface"]⟩,
  ⟨2, "ENABLE", .bool, .rw, false, 0, 0, 1, [], []⟩,
  ⟨3, "SURFACE", .u16, .rw, false, 65535, 0, 65535, [], []⟩,
  ⟨4, "SRC_X", .u16, .rw, false, 0, 0, 65535, [], []⟩,
  ⟨5, "SRC_Y", .u16, .rw, false, 0, 0, 65535, [], []⟩,
  ⟨6, "SRC_W", .u16, .rw, false, 0, 0, 65535, [], []⟩,
  ⟨7, "SRC_H", .u16, .rw, false, 0, 0, 65535, [], []⟩,
  ⟨8, "DST_X", .i32, .rw, false, 0, (-2147483648), 2147483647, [], []⟩,
  ⟨9, "DST_Y", .i32, .rw, false, 0, (-2147483648), 2147483647, [], []⟩,
  ⟨10, "DST_W", .u16, .rw, false, 0, 0, 65535, [], []⟩,
  ⟨11, "DST_H", .u16, .rw, false, 0, 0, 65535, [], []⟩,
  ⟨12, "GLOBAL_ALPHA", .u16, .rw, false, 1023, 0, 1023, [], []⟩,
  ⟨13, "KEY_MODE", .u8, .rw, false, 0, 0, 3, [], ["none", "surface", "luma", "linear"]⟩,
  ⟨14, "KEY_LAYER", .u8, .rw, false, 0, 0, 7, [], []⟩,
  ⟨15, "KEY_CLIP", .u16, .rw, false, 64, 0, 1023, [], []⟩,
  ⟨16, "KEY_GAIN", .u16, .rw, false, 75, 1, 4095, [], []⟩,
  ⟨17, "UPDATE_MODE", .u8, .rw, false, 0, 0, 1, [], ["static", "every frame"]⟩,
  ⟨18, "STATIC", .bool, .rw, false, 0, 0, 1, [], []⟩]
/-- 6002h (12_compositor.md). -/
def dict6002 : ObjIndex := ⟨0x6002, true, 0, 255, dict6002_subs⟩

def dict6003_subs : List ObjRow := [
  ⟨1, "IN_FORCE_SURFACE", .u16, .ro, false, 65535, 0, 65535, [], []⟩,
  ⟨2, "IN_FORCE_ENABLE", .bool, .ro, false, 0, 0, 1, [], []⟩,
  ⟨3, "SCALERS", .u8, .ro, false, 0, 0, 255, [], []⟩,
  ⟨4, "SCALER_FIRST", .u8, .ro, false, 255, 0, 255, [], []⟩,
  ⟨5, "NOT_READY_FRAMES", .u64, .rwc, false, 0, 0, 18446744073709551615, [], []⟩,
  ⟨6, "CONSECUTIVE_NOT_READY", .u16, .ro, false, 0, 0, 65535, [], []⟩,
  ⟨7, "FORCED_BLANK", .bool, .rwc, false, 0, 0, 1, [], []⟩,
  ⟨8, "CONCEALED_FRAMES", .u64, .rwc, false, 0, 0, 18446744073709551615, [], []⟩,
  ⟨9, "LAYER_OVERDRAFTS", .u64, .rwc, false, 0, 0, 18446744073709551615, [], []⟩]
/-- 6003h (12_compositor.md). -/
def dict6003 : ObjIndex := ⟨0x6003, true, 0, 255, dict6003_subs⟩

def dict6004_subs : List ObjRow := [
  ⟨1, "SEAL_RESULT", .u8, .ro, false, 0, 0, 3, [], ["idle", "match", "excused", "mismatch"]⟩,
  ⟨2, "SEAL_FCNT", .u64, .ro, false, 0, 0, 18446744073709551615, [], []⟩,
  ⟨3, "SEAL_EXPECTED", .u32, .ro, false, 0, 0, 4294967295, [], []⟩,
  ⟨4, "SEAL_MEASURED", .u32, .ro, false, 0, 0, 4294967295, [], []⟩,
  ⟨5, "SEAL_MATCHES", .u64, .rwc, false, 0, 0, 18446744073709551615, [], []⟩,
  ⟨6, "SEAL_MISMATCHES", .u64, .rwc, false, 0, 0, 18446744073709551615, [], []⟩,
  ⟨7, "SEAL_EXCUSED", .u64, .rwc, false, 0, 0, 18446744073709551615, [], []⟩,
  ⟨8, "SEAL_LIMIT", .u8, .rw, true, 3, 1, 15, [], []⟩]
/-- 6004h (12_compositor.md). -/
def dict6004 : ObjIndex := ⟨0x6004, true, 0, 31, dict6004_subs⟩

def dict6005_subs : List ObjRow := [
  ⟨1, "SCALER_USE", .u8, .ro, false, 0, 0, 3, [], ["none", "layer", "head", "converter"]⟩,
  ⟨2, "SCALER_USER", .u16, .ro, false, 65535, 0, 65535, [], []⟩,
  ⟨3, "SCALER_PAIRED", .bool, .ro, false, 0, 0, 1, [], []⟩]
/-- 6005h (12_compositor.md). -/
def dict6005 : ObjIndex := ⟨0x6005, true, 0, 63, dict6005_subs⟩

def dict6100_subs : List ObjRow := [
  ⟨1, "SURF_STATE", .u8, .ro, false, 0, 0, 6, [], ["free", "loading", "checking", "rejected", "ready", "in use", "escrow"]⟩,
  ⟨2, "SURF_FORMAT", .u8, .rw, false, 2, 0, 4, [], ["rgb565", "rgb888", "argb8888", "argb2101010", "ycbcr422-10"]⟩,
  ⟨3, "SURF_WIDTH", .u16, .rw, false, 1, 1, 32768, [], []⟩,
  ⟨4, "SURF_HEIGHT", .u16, .rw, false, 1, 1, 8640, [], []⟩,
  ⟨5, "SURF_TCS", .bool, .rw, false, 1, 0, 1, [], []⟩,
  ⟨6, "SURF_PREMULTIPLIED", .bool, .rw, false, 0, 0, 1, [], []⟩,
  ⟨7, "SURF_SEALED", .bool, .rw, false, 0, 0, 1, [], []⟩,
  ⟨8, "SURF_XFER_OFFSET", .u32, .rw, false, 0, 0, 4294967295, [], []⟩,
  ⟨9, "SURF_XFER_DATA", .octets, .wo, false, 0, 1, 1024, [], []⟩,
  ⟨10, "SURF_CRC32C", .u32, .rw, false, 0, 0, 4294967295, [], []⟩,
  ⟨11, "SURF_CMD", .u8, .wo, false, 0, 0, 4, [], ["create", "open", "close", "retire", "force retire"]⟩,
  ⟨12, "SURF_RESULT", .u16, .ro, false, 0, 0, 65535, [], []⟩,
  ⟨13, "STORED_BYTES", .u32, .ro, false, 0, 0, 4294967295, [], []⟩,
  ⟨14, "REFERENCES", .u16, .ro, false, 0, 0, 65535, [], []⟩,
  ⟨15, "DAMAGED", .bool, .ro, false, 0, 0, 1, [], []⟩]
/-- 6100h (12_compositor.md). -/
def dict6100 : ObjIndex := ⟨0x6100, true, 0, 16383, dict6100_subs⟩

def dict6101_subs : List ObjRow := [
  ⟨1, "POOL_BYTES", .u64, .ro, false, 0, 0, 18446744073709551615, [], []⟩,
  ⟨2, "POOL_FREE", .u64, .ro, false, 0, 0, 18446744073709551615, [], []⟩,
  ⟨3, "SURFACES_ALLOCATED", .u16, .ro, false, 0, 0, 65535, [], []⟩]
/-- 6101h (12_compositor.md). -/
def dict6101 : ObjIndex := ⟨0x6101, true, 0, 7, dict6101_subs⟩

def dict6200_subs : List ObjRow := [
  ⟨1, "FMT_NAME", .str, .ro, false, 0, 0, 1024, [], []⟩,
  ⟨2, "FMT_WIDTH", .u16, .ro, false, 0, 0, 65535, [], []⟩,
  ⟨3, "FMT_HEIGHT", .u16, .ro, false, 0, 0, 65535, [], []⟩,
  ⟨4, "FMT_TOTAL_LINES", .u16, .ro, false, 0, 0, 65535, [], []⟩,
  ⟨5, "FMT_TOTAL_SAMPLES", .u16, .ro, false, 0, 0, 65535, [], []⟩,
  ⟨6, "FMT_RATE", .u8, .ro, false, 0, 0, 255, [], []⟩,
  ⟨7, "FMT_FIRST_ACTIVE", .u16, .ro, false, 0, 0, 65535, [], []⟩,
  ⟨8, "FMT_SWITCH_LINE", .u16, .ro, false, 0, 0, 65535, [], []⟩,
  ⟨9, "FMT_QSLOTS", .u8, .ro, false, 0, 0, 255, [], []⟩,
  ⟨10, "FMT_TILE_DECIMATION", .u8, .ro, false, 0, 0, 255, [], []⟩]
/-- 6200h (13_raster_and_monitoring.md). -/
def dict6200 : ObjIndex := ⟨0x6200, true, 0, 255, dict6200_subs⟩

def dict6201_subs : List ObjRow := [
  ⟨1, "OUT_FORMAT", .u8, .ro, false, 0, 0, 255, [], []⟩,
  ⟨2, "OUT_TRANSPORT", .u8, .ro, false, 0, 0, 4, [], ["none", "sdi", "st2110", "st2022-6", "head"]⟩,
  ⟨3, "OUT_FRAMES", .u64, .rwc, false, 0, 0, 18446744073709551615, [], []⟩,
  ⟨4, "ANC_DROPS", .u64, .rwc, false, 0, 0, 18446744073709551615, [], []⟩]
/-- 6201h (13_raster_and_monitoring.md). -/
def dict6201 : ObjIndex := ⟨0x6201, true, 0, 4095, dict6201_subs⟩

def dict6202_subs : List ObjRow := [
  ⟨1, "TPG_PATTERN", .u8, .rw, true, 1, 0, 4, [], ["bars-100", "bars-75", "ramp", "pluge", "checker"]⟩,
  ⟨2, "TPG_MOTION", .bool, .rw, true, 0, 0, 1, [], []⟩]
/-- 6202h (13_raster_and_monitoring.md). -/
def dict6202 : ObjIndex := ⟨0x6202, true, 0, 15, dict6202_subs⟩

def dict6203_subs : List ObjRow := [
  ⟨1, "GEN_COLOUR", .u32, .rw, true, 67633664, 0, 4294967295, [], []⟩]
/-- 6203h (13_raster_and_monitoring.md). -/
def dict6203 : ObjIndex := ⟨0x6203, true, 0, 7, dict6203_subs⟩

def dict6210_subs : List ObjRow := [
  ⟨1, "MON_ENABLE", .bool, .rw, true, 1, 0, 1, [], []⟩,
  ⟨2, "MON_STATE", .u8, .ro, false, 0, 0, 3, [], ["idle", "normal", "frozen", "black"]⟩,
  ⟨3, "MON_SIGNATURE", .u64, .ro, false, 0, 0, 18446744073709551615, [], []⟩,
  ⟨4, "MON_FCNT", .u64, .ro, false, 0, 0, 18446744073709551615, [], []⟩,
  ⟨5, "BRIGHT_SAMPLES", .u32, .ro, false, 0, 0, 4294967295, [], []⟩,
  ⟨6, "FREEZE_RUN_FRAMES", .u32, .ro, false, 0, 0, 4294967295, [], []⟩,
  ⟨7, "BLACK_RUN_FRAMES", .u32, .ro, false, 0, 0, 4294967295, [], []⟩,
  ⟨8, "FREEZE_EVENTS", .u32, .rwc, false, 0, 0, 4294967295, [], []⟩,
  ⟨9, "BLACK_EVENTS", .u32, .rwc, false, 0, 0, 4294967295, [], []⟩]
/-- 6210h (13_raster_and_monitoring.md). -/
def dict6210 : ObjIndex := ⟨0x6210, true, 0, 4639, dict6210_subs⟩

def dict6211_subs : List ObjRow := [
  ⟨1, "MASK_BITS", .u8, .rw, true, 2, 0, 4, [], []⟩,
  ⟨2, "BLACK_LEVEL", .u16, .rw, true, 80, 64, 1023, [], []⟩,
  ⟨3, "BLACK_TOLERANCE_PPM", .u32, .rw, true, 1000, 0, 100000, [], []⟩,
  ⟨4, "FREEZE_LIMIT_MS", .u32, .rw, true, 2000, 40, 600000, [], []⟩,
  ⟨5, "BLACK_LIMIT_MS", .u32, .rw, true, 1000, 40, 600000, [], []⟩]
/-- 6211h (13_raster_and_monitoring.md). -/
def dict6211 : ObjIndex := ⟨0x6211, false, 0, 0, dict6211_subs⟩

def dict6220_subs : List ObjRow := [
  ⟨1, "HEAD_STATE", .u8, .ro, false, 0, 0, 1, [], ["not planned", "running"]⟩,
  ⟨2, "HEAD_DOMAIN", .u8, .ro, false, 255, 0, 255, [], []⟩,
  ⟨3, "HEAD_FORMAT", .u8, .ro, false, 0, 0, 255, [], []⟩,
  ⟨4, "HEAD_OUTPUT_A", .u16, .ro, false, 65535, 0, 65535, [], []⟩,
  ⟨5, "HEAD_OUTPUT_B", .u16, .ro, false, 65535, 0, 65535, [], []⟩,
  ⟨6, "HEAD_TILES", .u8, .ro, false, 0, 0, 255, [], []⟩,
  ⟨7, "HEAD_BACKGROUND", .u32, .rw, false, 67633664, 0, 4294967295, [], []⟩,
  ⟨8, "HEAD_COMMIT", .u8, .wo, false, 0, 0, 0, [], ["commit"]⟩,
  ⟨9, "HEAD_RESULT", .u16, .ro, false, 0, 0, 65535, [], []⟩,
  ⟨10, "HEAD_ERROR_TILE", .u8, .ro, false, 255, 0, 255, [], []⟩,
  ⟨11, "HEAD_APPLIED_FCNT", .u64, .ro, false, 0, 0, 18446744073709551615, [], []⟩]
/-- 6220h (13_raster_and_monitoring.md). -/
def dict6220 : ObjIndex := ⟨0x6220, true, 0, 3, dict6220_subs⟩

def dict6221_subs : List ObjRow := [
  ⟨1, "TILE_ENABLE", .bool, .rw, false, 0, 0, 1, [], []⟩,
  ⟨2, "TILE_X", .u16, .rw, false, 0, 0, 65535, [], []⟩,
  ⟨3, "TILE_Y", .u16, .rw, false, 0, 0, 65535, [], []⟩,
  ⟨4, "TILE_W", .u16, .rw, false, 960, 0, 65535, [], []⟩,
  ⟨5, "TILE_H", .u16, .rw, false, 540, 0, 65535, [], []⟩,
  ⟨6, "TILE_BORDER", .u8, .rw, false, 0, 0, 4, [], ["none", "red", "green", "amber", "white"]⟩,
  ⟨7, "TILE_BORDER_PX", .u8, .rw, false, 2, 0, 8, [], []⟩,
  ⟨8, "TILE_LABEL", .str, .rw, false, 0, 0, 32, [], []⟩,
  ⟨9, "METER_BASE_CH", .u16, .rw, false, 0, 0, 16383, [], []⟩,
  ⟨10, "METER_COUNT", .u8, .rw, false, 0, 0, 16, [], []⟩,
  ⟨11, "TILE_REFRESH", .u8, .rw, false, 0, 1, 4, [], []⟩,
  ⟨12, "TILE_REFRESH_PLANNED", .u8, .ro, false, 1, 0, 255, [], []⟩,
  ⟨13, "TILE_PHASE", .u8, .ro, false, 0, 0, 255, [], []⟩]
/-- 6221h (13_raster_and_monitoring.md). -/
def dict6221 : ObjIndex := ⟨0x6221, true, 0, 255, dict6221_subs⟩

def dict7000_subs : List ObjRow := [
  ⟨1, "HBM_CORRECTED", .u64, .rwc, false, 0, 0, 18446744073709551615, [], []⟩,
  ⟨2, "HBM_UNCORRECTABLE", .u64, .rwc, false, 0, 0, 18446744073709551615, [], []⟩,
  ⟨3, "HBM_ADDRESS_ERRORS", .u64, .rwc, false, 0, 0, 18446744073709551615, [], []⟩,
  ⟨4, "SRAM_CORRECTED", .u64, .rwc, false, 0, 0, 18446744073709551615, [], []⟩,
  ⟨5, "SRAM_UNCORRECTABLE", .u64, .rwc, false, 0, 0, 18446744073709551615, [], []⟩,
  ⟨6, "SRAM_ADDRESS_ERRORS", .u64, .rwc, false, 0, 0, 18446744073709551615, [], []⟩,
  ⟨7, "POISON_WRITTEN", .u64, .rwc, false, 0, 0, 18446744073709551615, [], []⟩,
  ⟨8, "POISON_READS", .u64, .rwc, false, 0, 0, 18446744073709551615, [], []⟩,
  ⟨9, "WRITEBACKS_CANCELLED", .u64, .rwc, false, 0, 0, 18446744073709551615, [], []⟩,
  ⟨10, "WRITEBACKS_DROPPED", .u64, .rwc, false, 0, 0, 18446744073709551615, [], []⟩,
  ⟨11, "POISON_LINES_CONCEALED", .u64, .rwc, false, 0, 0, 18446744073709551615, [], []⟩]
/-- 7000h (14_memory_integrity.md). -/
def dict7000 : ObjIndex := ⟨0x7000, false, 0, 0, dict7000_subs⟩

def dict7001_subs : List ObjRow := [
  ⟨1, "AUDITOR_MODE", .u8, .rw, true, 0, 0, 1, [], ["normal", "off"]⟩,
  ⟨2, "AUDITOR_RATE_MBPS", .u32, .rw, true, 2000, 100, 20000, [], []⟩,
  ⟨3, "AUDITOR_STATE", .u8, .ro, false, 0, 0, 2, [], ["running", "slowed", "off"]⟩,
  ⟨4, "HBM_LAP_MS", .u32, .ro, false, 0, 0, 4294967295, [], []⟩,
  ⟨5, "HBM_LAPS", .u64, .ro, false, 0, 0, 18446744073709551615, [], []⟩,
  ⟨6, "HBM_POSITION", .u64, .ro, false, 0, 0, 18446744073709551615, [], []⟩,
  ⟨7, "SRAM_LAP_MS", .u32, .ro, false, 0, 0, 4294967295, [], []⟩,
  ⟨8, "SRAM_LAPS", .u64, .ro, false, 0, 0, 18446744073709551615, [], []⟩]
/-- 7001h (14_memory_integrity.md). -/
def dict7001 : ObjIndex := ⟨0x7001, false, 0, 0, dict7001_subs⟩

def dict7002_subs : List ObjRow := [
  ⟨1, "WATCH_WINDOW_H", .u8, .rw, true, 24, 1, 168, [], []⟩,
  ⟨2, "WATCH_USED", .u16, .ro, false, 0, 0, 65535, [], []⟩,
  ⟨3, "WATCH_EVICTIONS", .u32, .rwc, false, 0, 0, 4294967295, [], []⟩,
  ⟨4, "WATCH_UNTRACKED", .u32, .rwc, false, 0, 0, 4294967295, [], []⟩,
  ⟨5, "RETIREMENTS", .u32, .ro, false, 0, 0, 4294967295, [], []⟩,
  ⟨6, "WEAK_WORDS", .u16, .ro, false, 0, 0, 65535, [], []⟩,
  ⟨7, "REPAIRS_PENDING", .u16, .ro, false, 0, 0, 65535, [], []⟩,
  ⟨8, "WEAK_UNLISTED", .u32, .ro, false, 0, 0, 4294967295, [], []⟩]
/-- 7002h (14_memory_integrity.md). -/
def dict7002 : ObjIndex := ⟨0x7002, false, 0, 0, dict7002_subs⟩

def dict7003_subs : List ObjRow := [
  ⟨1, "SPARE_ROWS_LEFT", .u16, .ro, false, 0, 0, 65535, [], []⟩,
  ⟨2, "ROWS_RETIRED", .u16, .ro, false, 0, 0, 65535, [], []⟩,
  ⟨3, "UNIT_CORRECTED", .u64, .rwc, false, 0, 0, 18446744073709551615, [], []⟩,
  ⟨4, "UNIT_UNCORRECTABLE", .u64, .rwc, false, 0, 0, 18446744073709551615, [], []⟩]
/-- 7003h (14_memory_integrity.md). -/
def dict7003 : ObjIndex := ⟨0x7003, true, 0, 6, dict7003_subs⟩

def dict7004_subs : List ObjRow := [
  ⟨1, "WATCH_ADDR", .u64, .ro, false, 0, 0, 18446744073709551615, [], []⟩,
  ⟨2, "WATCH_COUNT", .u8, .ro, false, 0, 0, 255, [], []⟩,
  ⟨3, "WATCH_FIRST_S", .u64, .ro, false, 0, 0, 18446744073709551615, [], []⟩]
/-- 7004h (14_memory_integrity.md). -/
def dict7004 : ObjIndex := ⟨0x7004, true, 0, 511, dict7004_subs⟩

def dict7005_subs : List ObjRow := [
  ⟨1, "WEAK_ADDR", .u64, .ro, false, 0, 0, 18446744073709551615, [], []⟩]
/-- 7005h (14_memory_integrity.md). -/
def dict7005 : ObjIndex := ⟨0x7005, true, 0, 255, dict7005_subs⟩

def dict7006_subs : List ObjRow := [
  ⟨1, "TMR_CORRECTIONS", .u64, .rwc, false, 0, 0, 18446744073709551615, [], []⟩,
  ⟨2, "TMR_WORDS_LOST", .u8, .ro, false, 0, 0, 255, [], []⟩]
/-- 7006h (14_memory_integrity.md). -/
def dict7006 : ObjIndex := ⟨0x7006, false, 0, 0, dict7006_subs⟩

def dict7007_subs : List ObjRow := [
  ⟨1, "SRAM_TEST", .u8, .ro, false, 3, 0, 3, [], ["pass", "repaired", "fail", "none"]⟩,
  ⟨2, "HBM_TEST", .u8, .ro, false, 3, 0, 3, [], ["pass", "repaired", "fail", "none"]⟩,
  ⟨3, "HBM_ROWS_SAMPLED", .u32, .ro, false, 0, 0, 4294967295, [], []⟩,
  ⟨4, "ROWS_REPAIRED_AT_TEST", .u16, .ro, false, 0, 0, 65535, [], []⟩,
  ⟨5, "SELFTEST_MS", .u16, .ro, false, 0, 0, 65535, [], []⟩]
/-- 7007h (14_memory_integrity.md). -/
def dict7007 : ObjIndex := ⟨0x7007, false, 0, 0, dict7007_subs⟩

def dict7008_subs : List ObjRow := [
  ⟨1, "INJECT_ADDR", .u64, .rw, true, 0, 0, 18446744073709551615, [], []⟩,
  ⟨2, "INJECT_DATA_MASK", .octets, .rw, true, 0, 32, 32, [], []⟩,
  ⟨3, "INJECT_CHECK_MASK", .u32, .rw, true, 0, 0, 4294967295, [], []⟩,
  ⟨4, "INJECT_CMD", .u8, .wo, true, 0, 0, 0, [], ["inject"]⟩,
  ⟨5, "INJECT_RESULT", .u16, .ro, false, 0, 0, 65535, [], []⟩]
/-- 7008h (14_memory_integrity.md). -/
def dict7008 : ObjIndex := ⟨0x7008, false, 0, 0, dict7008_subs⟩

def dict7009_subs : List ObjRow := [
  ⟨1, "ERR_ADDR", .u64, .ro, false, 0, 0, 18446744073709551615, [], []⟩,
  ⟨2, "ERR_KIND", .u8, .ro, false, 3, 0, 3, [], ["uncorrectable", "address", "poison", "none"]⟩,
  ⟨3, "ERR_FOUND_BY", .u8, .ro, false, 2, 0, 2, [], ["auditor", "reader", "none"]⟩,
  ⟨4, "ERR_OWNER_CLASS", .u8, .ro, false, 0, 0, 255, [], []⟩,
  ⟨5, "ERR_OWNER_ID", .u16, .ro, false, 0, 0, 65535, [], []⟩,
  ⟨6, "ERR_DOMAIN", .u8, .ro, false, 255, 0, 255, [], []⟩,
  ⟨7, "ERR_FORMAT", .u8, .ro, false, 0, 0, 255, [], []⟩,
  ⟨8, "ERR_LINE", .u16, .ro, false, 0, 0, 65535, [], []⟩,
  ⟨9, "ERR_FCNT", .u64, .ro, false, 0, 0, 18446744073709551615, [], []⟩]
/-- 7009h (14_memory_integrity.md). -/
def dict7009 : ObjIndex := ⟨0x7009, false, 0, 0, dict7009_subs⟩

def dict7100_subs : List ObjRow := [
  ⟨1, "TALLY_USE", .u8, .ro, false, 0, 0, 3, [], ["device", "sealed", "free", "claimed"]⟩,
  ⟨2, "TALLY_CLAIM", .bool, .rw, false, 0, 0, 1, [], []⟩,
  ⟨3, "POLY_SELECT", .u8, .rw, false, 1, 0, 4, [], ["crc32", "crc32c", "crc16-ccitt", "st292", "program"]⟩,
  ⟨4, "PROG_POLY", .u32, .rw, false, 79764919, 0, 4294967295, [], []⟩,
  ⟨5, "PROG_INIT", .u32, .rw, false, 4294967295, 0, 4294967295, [], []⟩,
  ⟨6, "PROG_XOROUT", .u32, .rw, false, 4294967295, 0, 4294967295, [], []⟩,
  ⟨7, "PROG_REFLECT", .u8, .rw, false, 3, 0, 3, [], []⟩,
  ⟨8, "FEED_WIDTH", .u8, .rw, false, 0, 0, 2, [], ["byte", "halfword", "word"]⟩,
  ⟨9, "FEED_DATA", .octets, .wo, false, 0, 1, 1024, [], []⟩,
  ⟨10, "RUNNING", .u32, .rw, false, 0, 0, 4294967295, [], []⟩,
  ⟨11, "RESULT", .u32, .ro, false, 0, 0, 4294967295, [], []⟩,
  ⟨12, "FOLD_MODE", .u8, .rw, false, 0, 0, 2, [], ["none", "address", "sequence"]⟩,
  ⟨13, "FOLD_VALUE", .u64, .rw, false, 0, 0, 18446744073709551615, [], []⟩,
  ⟨14, "FOLD_STEP", .u32, .rw, false, 1, 1, 4294967295, [], []⟩,
  ⟨15, "TALLY_CMD", .u8, .wo, false, 0, 0, 2, [], ["reset", "close", "run"]⟩,
  ⟨16, "SRC_ADDR", .u64, .rw, false, 0, 0, 18446744073709551615, [], []⟩,
  ⟨17, "SRC_LENGTH", .u32, .rw, false, 0, 1, 4294967295, [], []⟩,
  ⟨18, "TALLY_STATE", .u8, .ro, false, 0, 0, 3, [], ["idle", "feeding", "running", "closed"]⟩,
  ⟨19, "BYTES_FED", .u64, .ro, false, 0, 0, 18446744073709551615, [], []⟩]
/-- 7100h (14_memory_integrity.md). -/
def dict7100 : ObjIndex := ⟨0x7100, true, 0, 31, dict7100_subs⟩

def dict1100_subs : List ObjRow := [
  ⟨1, "KEY_STATE", .u8, .ro, false, 0, 0, 2, [], ["empty", "valid", "invalid"]⟩,
  ⟨2, "KEY_ROLES", .u8, .rw, true, 0, 0, 31, [], []⟩,
  ⟨3, "KEY_PORTS", .u8, .rw, true, 31, 0, 31, [], []⟩,
  ⟨4, "KEY_WRAPPED", .octets, .wo, true, 0, 40, 40, [], []⟩,
  ⟨5, "KEY_ERASE", .u8, .wo, true, 0, 0, 0, [], ["erase"]⟩,
  ⟨6, "KEY_WRITES", .u32, .ro, false, 0, 0, 4294967295, [], []⟩,
  ⟨7, "KEY_LOGINS", .u32, .ro, false, 0, 0, 4294967295, [], []⟩,
  ⟨8, "KEY_FACTORY", .bool, .ro, false, 0, 0, 1, [], []⟩]
/-- 1100h (15_control_dictionary.md). -/
def dict1100 : ObjIndex := ⟨0x1100, true, 0, 7, dict1100_subs⟩

def dict1101_subs : List ObjRow := [
  ⟨1, "SESSION_STATE", .u8, .ro, false, 0, 0, 3, [], ["closed", "challenged", "open", "locked out"]⟩,
  ⟨2, "SESSION_ID", .u32, .ro, false, 0, 0, 4294967295, [], []⟩,
  ⟨3, "SESSION_KEY_SLOT", .u8, .ro, false, 255, 0, 255, [], []⟩,
  ⟨4, "SESSION_ROLES", .u8, .ro, false, 0, 0, 255, [], []⟩,
  ⟨5, "SESSION_PEER_ADDR", .octets, .ro, false, 0, 16, 16, [], []⟩,
  ⟨6, "SESSION_PEER_PORT", .u16, .ro, false, 0, 0, 65535, [], []⟩,
  ⟨7, "SESSION_IDLE_S", .u16, .rw, true, 60, 5, 3600, [], []⟩,
  ⟨8, "LOGIN_FAILURES", .u32, .rwc, false, 0, 0, 4294967295, [], []⟩,
  ⟨9, "AUTH_DISCARDS", .u64, .rwc, false, 0, 0, 18446744073709551615, [], []⟩,
  ⟨10, "REPLAY_DISCARDS", .u64, .rwc, false, 0, 0, 18446744073709551615, [], []⟩,
  ⟨11, "RETRANSMITS", .u64, .rwc, false, 0, 0, 18446744073709551615, [], []⟩,
  ⟨12, "EVENTS_SENT", .u64, .rwc, false, 0, 0, 18446744073709551615, [], []⟩,
  ⟨13, "SESSION_END_CMD", .u8, .wo, true, 0, 0, 0, [], ["end"]⟩,
  ⟨14, "LAST_END_REASON", .u8, .ro, false, 0, 0, 6, [], ["none", "logout", "idle", "forced", "key change", "address change", "restart"]⟩]
/-- 1101h (15_control_dictionary.md). -/
def dict1101 : ObjIndex := ⟨0x1101, true, 0, 4, dict1101_subs⟩

def dict1102_subs : List ObjRow := [
  ⟨1, "MY_PORT", .u8, .ro, false, 0, 0, 4, [], ["CP0", "CP1", "CP2", "CP3", "SVC"]⟩,
  ⟨2, "MY_PARTITION", .u8, .ro, false, 0, 0, 255, [], []⟩,
  ⟨3, "MY_ROLES", .u8, .ro, false, 0, 0, 255, [], []⟩]
/-- 1102h (15_control_dictionary.md). -/
def dict1102 : ObjIndex := ⟨0x1102, false, 0, 0, dict1102_subs⟩

def dict1120_subs : List ObjRow := [
  ⟨1, "CP_MAC", .octets, .ro, false, 0, 6, 6, [], []⟩,
  ⟨2, "CP_IPV4_ADDR", .octets, .rw, true, 0, 4, 4, [], []⟩,
  ⟨3, "CP_IPV4_PREFIX", .u8, .rw, true, 24, 0, 32, [], []⟩,
  ⟨4, "CP_IPV4_GATEWAY", .octets, .rw, true, 0, 4, 4, [], []⟩,
  ⟨5, "CP_IPV6_ADDR", .octets, .rw, true, 0, 16, 16, [], []⟩,
  ⟨6, "CP_IPV6_PREFIX", .u8, .rw, true, 64, 0, 128, [], []⟩,
  ⟨7, "CP_UDP_PORT", .u16, .rw, true, 47210, 1024, 65535, [], []⟩,
  ⟨8, "CP_LINK", .u8, .ro, false, 0, 0, 1, [], ["down", "up"]⟩]
/-- 1120h (15_control_dictionary.md). -/
def dict1120 : ObjIndex := ⟨0x1120, true, 0, 4, dict1120_subs⟩

def dict1200_subs : List ObjRow := [
  ⟨1, "CONFIG_SLOT", .u8, .ro, false, 0, 0, 2, [], ["none", "A", "B"]⟩,
  ⟨2, "FACTORY_FLAG", .bool, .ro, false, 0, 0, 1, [], []⟩,
  ⟨3, "CONFIG_CMD", .u8, .wo, true, 0, 0, 3, [], ["save", "revert", "factory", "import"]⟩,
  ⟨4, "CONFIG_STATE", .u8, .ro, false, 0, 0, 3, [], ["idle", "saving", "postponed", "loading"]⟩,
  ⟨5, "CONFIG_RESULT", .u16, .ro, false, 0, 0, 65535, [], []⟩,
  ⟨6, "RUNNING_DIRTY", .bool, .ro, false, 0, 0, 1, [], []⟩,
  ⟨7, "SAVES", .u32, .ro, false, 0, 0, 4294967295, [], []⟩,
  ⟨8, "RECORDS_SKIPPED", .u32, .ro, false, 0, 0, 4294967295, [], []⟩]
/-- 1200h (15_control_dictionary.md). -/
def dict1200 : ObjIndex := ⟨0x1200, false, 0, 0, dict1200_subs⟩

def dict1201_subs : List ObjRow := [
  ⟨1, "SLOT_STATE", .u8, .ro, false, 0, 0, 2, [], ["empty", "valid", "invalid"]⟩,
  ⟨2, "SLOT_GENERATION", .u32, .ro, false, 0, 0, 4294967295, [], []⟩,
  ⟨3, "SLOT_LENGTH", .u32, .ro, false, 0, 0, 4294967295, [], []⟩,
  ⟨4, "SLOT_CHECK", .u32, .ro, false, 0, 0, 4294967295, [], []⟩,
  ⟨5, "SLOT_SIGNED", .bool, .ro, false, 0, 0, 1, [], []⟩,
  ⟨6, "SLOT_SAVED_TIME", .time96, .ro, false, 0, 12, 12, [], []⟩]
/-- 1201h (15_control_dictionary.md). -/
def dict1201 : ObjIndex := ⟨0x1201, true, 0, 1, dict1201_subs⟩

def dict1202_subs : List ObjRow := [
  ⟨1, "CFG_XFER_CMD", .u8, .wo, true, 0, 0, 1, [], ["open", "discard"]⟩,
  ⟨2, "CFG_XFER_OFFSET", .u32, .rw, true, 0, 0, 4294967295, [], []⟩,
  ⟨3, "CFG_XFER_DATA", .octets, .wo, true, 0, 1, 1024, [], []⟩]
/-- 1202h (15_control_dictionary.md). -/
def dict1202 : ObjIndex := ⟨0x1202, false, 0, 0, dict1202_subs⟩

def dict1210_subs : List ObjRow := [
  ⟨1, "DEVICE_OWNER", .u8, .rw, true, 0, 0, 3, [], []⟩,
  ⟨2, "PARTITION_CMD", .u8, .wo, true, 0, 0, 1, [], ["apply", "discard"]⟩,
  ⟨3, "PARTITION_RESULT", .u16, .ro, false, 0, 0, 65535, [], []⟩,
  ⟨4, "PARTITION_ERROR_ROW", .u8, .ro, false, 255, 0, 255, [], []⟩]
/-- 1210h (15_control_dictionary.md). -/
def dict1210 : ObjIndex := ⟨0x1210, false, 0, 0, dict1210_subs⟩

def dict1211_subs : List ObjRow := [
  ⟨1, "PART_CLASS", .u8, .rw, true, 0, 0, 10, [], ["none", "output", "audio", "mint", "xs", "group", "head", "salvo", "ingress", "egress", "lane"]⟩,
  ⟨2, "PART_FIRST", .u16, .rw, true, 0, 0, 65535, [], []⟩,
  ⟨3, "PART_LAST", .u16, .rw, true, 0, 0, 65535, [], []⟩,
  ⟨4, "PART_OWNER", .u8, .rw, true, 0, 0, 3, [], []⟩]
/-- 1211h (15_control_dictionary.md). -/
def dict1211 : ObjIndex := ⟨0x1211, true, 0, 63, dict1211_subs⟩

def dict1212_subs : List ObjRow := [
  ⟨1, "PART_IN_FORCE_CLASS", .u8, .ro, false, 0, 0, 10, [], ["none", "output", "audio", "mint", "xs", "group", "head", "salvo", "ingress", "egress", "lane"]⟩,
  ⟨2, "PART_IN_FORCE_FIRST", .u16, .ro, false, 0, 0, 65535, [], []⟩,
  ⟨3, "PART_IN_FORCE_LAST", .u16, .ro, false, 0, 0, 65535, [], []⟩,
  ⟨4, "PART_IN_FORCE_OWNER", .u8, .ro, false, 0, 0, 255, [], []⟩]
/-- 1212h (15_control_dictionary.md). -/
def dict1212 : ObjIndex := ⟨0x1212, true, 0, 63, dict1212_subs⟩

def dict1130_subs : List ObjRow := [
  ⟨1, "BOOT_SLOT", .u8, .ro, false, 0, 0, 1, [], ["FW0", "FW1"]⟩,
  ⟨2, "BOOT_FALLBACK", .bool, .ro, false, 0, 0, 1, [], []⟩,
  ⟨3, "SECURITY_VERSION", .u8, .ro, false, 0, 0, 255, [], []⟩,
  ⟨4, "ROLLBACK_COUNTER", .u8, .ro, false, 0, 0, 255, [], []⟩,
  ⟨5, "ROLLBACK_CMD", .u8, .wo, true, 0, 0, 0, [], ["commit"]⟩,
  ⟨6, "POLICY", .u8, .ro, false, 0, 0, 255, [], []⟩,
  ⟨7, "POLICY_SET", .u8, .wo, true, 0, 1, 3, [], []⟩,
  ⟨8, "SEC_RESULT", .u16, .ro, false, 0, 0, 65535, [], []⟩]
/-- 1130h (16_security.md). -/
def dict1130 : ObjIndex := ⟨0x1130, false, 0, 0, dict1130_subs⟩

def dict1131_subs : List ObjRow := [
  ⟨1, "ROOT_STATE", .u8, .ro, false, 0, 0, 2, [], ["blank", "active", "revoked"]⟩,
  ⟨2, "ROOT_HASH", .octets, .ro, false, 0, 32, 32, [], []⟩,
  ⟨3, "ROOT_CMD", .u8, .wo, true, 0, 0, 1, [], ["program", "revoke"]⟩]
/-- 1131h (16_security.md). -/
def dict1131 : ObjIndex := ⟨0x1131, true, 0, 3, dict1131_subs⟩

def dict1132_subs : List ObjRow := [
  ⟨1, "FW_SLOT_STATE", .u8, .ro, false, 0, 0, 4, [], ["empty", "loading", "checking", "valid", "invalid"]⟩,
  ⟨2, "FW_SLOT_RELEASE", .u32, .ro, false, 0, 0, 4294967295, [], []⟩,
  ⟨3, "FW_SLOT_SECVER", .u8, .ro, false, 0, 0, 255, [], []⟩,
  ⟨4, "FW_SLOT_RESULT", .u16, .ro, false, 0, 0, 65535, [], []⟩,
  ⟨5, "FW_SLOT_CMD", .u8, .wo, true, 0, 0, 2, [], ["open", "close", "activate"]⟩,
  ⟨6, "FW_XFER_OFFSET", .u32, .rw, true, 0, 0, 4294967295, [], []⟩,
  ⟨7, "FW_XFER_DATA", .octets, .wo, true, 0, 1, 1024, [], []⟩]
/-- 1132h (16_security.md). -/
def dict1132 : ObjIndex := ⟨0x1132, true, 0, 1, dict1132_subs⟩

def dict1133_subs : List ObjRow := [
  ⟨1, "SEC_XFER_OFFSET", .u16, .rw, true, 0, 0, 3056, [], []⟩,
  ⟨2, "SEC_XFER_DATA", .octets, .wo, true, 0, 1, 1024, [], []⟩]
/-- 1133h (16_security.md). -/
def dict1133 : ObjIndex := ⟨0x1133, false, 0, 0, dict1133_subs⟩

def dict1134_subs : List ObjRow := [
  ⟨1, "VKEY_STATE", .u8, .ro, false, 0, 0, 1, [], ["empty", "valid"]⟩,
  ⟨2, "VKEY_HASH", .octets, .ro, false, 0, 32, 32, [], []⟩,
  ⟨3, "VKEY_CMD", .u8, .wo, true, 0, 0, 0, [], ["install"]⟩]
/-- 1134h (16_security.md). -/
def dict1134 : ObjIndex := ⟨0x1134, true, 0, 1, dict1134_subs⟩

def dict1135_subs : List ObjRow := [
  ⟨1, "IDENTITY_PUBKEY", .octets, .ro, false, 0, 56, 56, [], []⟩,
  ⟨2, "IDENTITY_STATE", .u8, .ro, false, 0, 0, 3, [], ["ready", "low", "journal fault", "exhausted"]⟩,
  ⟨3, "IDENTITY_NEXT", .u32, .ro, false, 0, 0, 4294967295, [], []⟩,
  ⟨4, "IDENTITY_REMAINING", .u32, .ro, false, 0, 0, 4294967295, [], []⟩,
  ⟨5, "JOURNAL_BLOCK_END", .u32, .ro, false, 0, 0, 4294967295, [], []⟩]
/-- 1135h (16_security.md). -/
def dict1135 : ObjIndex := ⟨0x1135, false, 0, 0, dict1135_subs⟩

def dict1136_subs : List ObjRow := [
  ⟨1, "ATT_NONCE", .octets, .rw, false, 0, 32, 32, [], []⟩,
  ⟨2, "ATT_CMD", .u8, .wo, false, 0, 0, 0, [], ["sign"]⟩,
  ⟨3, "ATT_STATE", .u8, .ro, false, 0, 0, 3, [], ["idle", "signing", "ready", "refused"]⟩,
  ⟨4, "ATT_RESULT", .u16, .ro, false, 0, 0, 65535, [], []⟩,
  ⟨5, "ATT_READ_OFFSET", .u16, .rw, false, 0, 0, 2027, [], []⟩,
  ⟨6, "ATT_DATA", .octets, .ro, false, 0, 0, 1024, [], []⟩,
  ⟨7, "ATT_LENGTH", .u16, .ro, false, 0, 0, 65535, [], []⟩]
/-- 1136h (16_security.md). -/
def dict1136 : ObjIndex := ⟨0x1136, false, 0, 0, dict1136_subs⟩

def dict1600_subs : List ObjRow := [
  ⟨1, "PAIR_ENABLE", .bool, .rw, true, 0, 0, 1, [], []⟩,
  ⟨2, "PAIR_ID", .u8, .rw, true, 0, 0, 1, [], []⟩,
  ⟨3, "IVARD_LANE", .u16, .rw, true, 65535, 0, 191, [65535], []⟩,
  ⟨4, "LEASE_FRAMES", .u8, .rw, true, 4, 2, 16, [], []⟩,
  ⟨5, "GUARD_FRAMES", .u8, .rw, true, 1, 1, 4, [], []⟩,
  ⟨6, "HB_TIMEOUT_CYCLES", .u8, .rw, true, 8, 2, 80, [], []⟩,
  ⟨7, "AUTO_RELEASE_MASK", .u16, .rw, true, 560, 0, 65535, [], []⟩,
  ⟨8, "CUSTODY_CMD", .u8, .wo, true, 0, 0, 1, [], ["release", "force release"]⟩,
  ⟨9, "CUSTODY_RESULT", .u16, .ro, false, 0, 0, 65535, [], []⟩]
/-- 1600h (17_protection_pair.md). -/
def dict1600 : ObjIndex := ⟨0x1600, false, 0, 0, dict1600_subs⟩

def dict1601_subs : List ObjRow := [
  ⟨1, "PAIR_STATE", .u8, .ro, false, 0, 0, 5, [], ["unpaired", "listening", "standby", "gap", "active", "releasing"]⟩,
  ⟨2, "EPOCH", .u32, .ro, false, 0, 0, 4294967295, [], []⟩,
  ⟨3, "LEASE_END", .u64, .ro, false, 0, 0, 18446744073709551615, [], []⟩,
  ⟨4, "PEER_STATE", .u8, .ro, false, 0, 0, 5, [], ["unpaired", "listening", "standby", "gap", "active", "releasing"]⟩,
  ⟨5, "PEER_LEASE_END", .u64, .ro, false, 0, 0, 18446744073709551615, [], []⟩,
  ⟨6, "IVARD_PATH", .u8, .ro, false, 0, 0, 2, [], ["none", "up", "silent"]⟩,
  ⟨7, "HB_PATH", .u8, .ro, false, 1, 0, 1, [], ["up", "silent"]⟩,
  ⟨8, "PEER_CUSTODY", .bool, .ro, false, 0, 0, 1, [], []⟩,
  ⟨9, "CUSTODY_HELD", .bool, .ro, false, 0, 0, 1, [], []⟩,
  ⟨10, "MIRROR_STATE", .u8, .ro, false, 4, 0, 4, [], ["current", "lagging", "syncing", "stale", "off"]⟩,
  ⟨11, "MIRROR_SEQ_SENT", .u32, .ro, false, 0, 0, 4294967295, [], []⟩,
  ⟨12, "MIRROR_SEQ_APPLIED", .u32, .ro, false, 0, 0, 4294967295, [], []⟩,
  ⟨13, "MIRROR_LATE", .u64, .rwc, false, 0, 0, 18446744073709551615, [], []⟩,
  ⟨14, "TAKEOVERS", .u32, .ro, false, 0, 0, 4294967295, [], []⟩,
  ⟨15, "LAST_GAP_FRAMES", .u16, .ro, false, 0, 0, 65535, [], []⟩,
  ⟨16, "LAST_TAKEOVER_FCNT", .u64, .ro, false, 0, 0, 18446744073709551615, [], []⟩,
  ⟨17, "LINK_RTT_NS", .u32, .ro, false, 0, 0, 4294967295, [], []⟩]
/-- 1601h (17_protection_pair.md). -/
def dict1601 : ObjIndex := ⟨0x1601, false, 0, 0, dict1601_subs⟩

def dict1602_subs : List ObjRow := [
  ⟨1, "FCNT_OFFSET", .i64, .ro, false, 0, (-9223372036854775808), 9223372036854775807, [], []⟩,
  ⟨2, "PEER_TICK_OFFSET_NS", .i32, .ro, false, 0, (-2147483648), 2147483647, [], []⟩]
/-- 1602h (17_protection_pair.md). -/
def dict1602 : ObjIndex := ⟨0x1602, true, 0, 3, dict1602_subs⟩

def dict1603_subs : List ObjRow := [
  ⟨1, "HB_RECEIVED", .u64, .rwc, false, 0, 0, 18446744073709551615, [], []⟩,
  ⟨2, "HB_ERRORS", .u64, .rwc, false, 0, 0, 18446744073709551615, [], []⟩,
  ⟨3, "PATH_LOSSES", .u32, .rwc, false, 0, 0, 4294967295, [], []⟩]
/-- 1603h (17_protection_pair.md). -/
def dict1603 : ObjIndex := ⟨0x1603, true, 0, 1, dict1603_subs⟩

def dict1400_subs : List ObjRow := [
  ⟨1, "VIN_MV", .u32, .ro, false, 0, 0, 4294967295, [], []⟩,
  ⟨2, "VIN_MIN_MV", .u32, .rwc, false, 0, 0, 4294967295, [], []⟩,
  ⟨3, "VIN_MAX_MV", .u32, .rwc, false, 0, 0, 4294967295, [], []⟩,
  ⟨4, "INPUT_POWER_DW", .u32, .ro, false, 0, 0, 4294967295, [], []⟩,
  ⟨5, "SUPPLY_STATE", .u8, .ro, false, 0, 0, 2, [], ["normal", "ride-through", "stopping"]⟩,
  ⟨6, "DIPS", .u32, .rwc, false, 0, 0, 4294967295, [], []⟩,
  ⟨7, "LAST_DIP_MIN_MV", .u32, .ro, false, 0, 0, 4294967295, [], []⟩,
  ⟨8, "LAST_DIP_MS", .u32, .ro, false, 0, 0, 4294967295, [], []⟩,
  ⟨9, "POSTPONED_WRITES", .u16, .ro, false, 0, 0, 65535, [], []⟩,
  ⟨10, "CASE_TEMP_DC", .i32, .ro, false, 0, (-2147483648), 2147483647, [], []⟩,
  ⟨11, "CASE_TEMP_MAX_DC", .i32, .rwc, false, 0, (-2147483648), 2147483647, [], []⟩,
  ⟨12, "TEMP_WARN_C", .u8, .rw, true, 80, 60, 85, [], []⟩]
/-- 1400h (18_power_and_startup.md). -/
def dict1400 : ObjIndex := ⟨0x1400, false, 0, 0, dict1400_subs⟩

def dict1401_subs : List ObjRow := [
  ⟨1, "DEVICE_STATE", .u8, .ro, false, 0, 0, 4, [], ["starting", "running", "safe", "stopping", "recovery"]⟩,
  ⟨2, "START_STAGE", .u8, .ro, false, 0, 0, 7, [], ["aon", "boot", "firmware", "self-test", "configuration", "ledger", "reference", "media"]⟩,
  ⟨3, "SAFE_REASON", .u8, .ro, false, 0, 0, 9, [], ["none", "vin-stop", "vin-high", "osc-in", "self-test", "ledger", "domain", "watchdog", "thermal", "command"]⟩,
  ⟨4, "SAFE_CMD", .u8, .wo, true, 0, 0, 2, [], ["enter", "leave", "restart"]⟩,
  ⟨5, "TALK_MS", .u32, .ro, false, 0, 0, 4294967295, [], []⟩,
  ⟨6, "START_MS", .u32, .ro, false, 0, 0, 4294967295, [], []⟩,
  ⟨7, "RESET_CAUSE", .u8, .ro, false, 0, 0, 6, [], ["power-on", "nrst", "vin-stop", "vin-high", "watchdog", "command", "thermal"]⟩,
  ⟨8, "AUTO_RESTART", .bool, .rw, true, 1, 0, 1, [], []⟩,
  ⟨9, "RESTARTS", .u32, .ro, false, 0, 0, 4294967295, [], []⟩,
  ⟨10, "ALERT_LEVEL", .u8, .rw, true, 0, 0, 1, [], ["A", "B"]⟩,
  ⟨11, "START_REF_WAIT_S", .u8, .rw, true, 10, 0, 60, [], []⟩,
  ⟨12, "START_LANE_WAIT_MS", .u16, .rw, true, 3000, 0, 10000, [], []⟩]
/-- 1401h (18_power_and_startup.md). -/
def dict1401 : ObjIndex := ⟨0x1401, false, 0, 0, dict1401_subs⟩

def dict1402_subs : List ObjRow := [
  ⟨1, "TEST_ITEM", .u8, .ro, false, 0, 0, 10, [], ["vin", "osc-in", "boot", "domains", "sram", "hbm-repair", "hbm-decoder", "hbm-sample", "key-store", "configuration", "ledger"]⟩,
  ⟨2, "TEST_RESULT", .u8, .ro, false, 0, 0, 3, [], ["not run", "pass", "repaired", "fail"]⟩,
  ⟨3, "TEST_MS", .u16, .ro, false, 0, 0, 65535, [], []⟩,
  ⟨4, "TEST_DETAIL", .u32, .ro, false, 0, 0, 4294967295, [], []⟩]
/-- 1402h (18_power_and_startup.md). -/
def dict1402 : ObjIndex := ⟨0x1402, true, 0, 10, dict1402_subs⟩

def dict1410_subs : List ObjRow := [
  ⟨1, "PD_STATE", .u8, .ro, false, 0, 0, 5, [], ["off", "ramping", "on", "hold", "fault", "locked off"]⟩,
  ⟨2, "PD_HOLDS", .u8, .ro, false, 0, 0, 255, [], []⟩,
  ⟨3, "PD_POWER_DW", .u32, .ro, false, 0, 0, 4294967295, [], []⟩,
  ⟨4, "PD_FAULTS", .u32, .rwc, false, 0, 0, 4294967295, [], []⟩,
  ⟨5, "PD_CMD", .u8, .wo, true, 0, 0, 0, [], ["retry"]⟩]
/-- 1410h (18_power_and_startup.md). -/
def dict1410 : ObjIndex := ⟨0x1410, true, 0, 96, dict1410_subs⟩

def dict1500_subs : List ObjRow := [
  ⟨1, "ALARMS_ACTIVE", .u16, .ro, false, 0, 0, 65535, [], []⟩,
  ⟨2, "HIGHEST_SEVERITY", .u8, .ro, false, 0, 0, 3, [], ["none", "A", "B", "C"]⟩,
  ⟨3, "ACK_ALL", .u8, .wo, false, 0, 0, 0, [], ["ack"]⟩,
  ⟨4, "COALESCE_MS", .u16, .rw, true, 10, 1, 1000, [], []⟩]
/-- 1500h (19_alarms_logs_traces.md). -/
def dict1500 : ObjIndex := ⟨0x1500, false, 0, 0, dict1500_subs⟩

def dict1501_subs : List ObjRow := [
  ⟨1, "ALARM_NAME", .str, .ro, false, 0, 0, 1024, [], []⟩,
  ⟨2, "ALARM_SUBSYS", .u8, .ro, false, 0, 0, 255, [], []⟩,
  ⟨3, "ALARM_SEVERITY", .u8, .ro, false, 0, 0, 3, [], ["none", "A", "B", "C"]⟩,
  ⟨4, "ALARM_ACTIVE", .bool, .ro, false, 0, 0, 1, [], []⟩,
  ⟨5, "LATCHED", .bool, .rwc, false, 0, 0, 1, [], []⟩,
  ⟨6, "RAISES", .u32, .ro, false, 0, 0, 4294967295, [], []⟩,
  ⟨7, "ACTIVE_INSTANCES", .u16, .ro, false, 0, 0, 65535, [], []⟩,
  ⟨8, "LAST_INSTANCE", .u32, .ro, false, 4294967295, 0, 4294967295, [], []⟩,
  ⟨9, "FIRST_RAISE", .time96, .ro, false, 0, 12, 12, [], []⟩,
  ⟨10, "LAST_CHANGE", .time96, .ro, false, 0, 12, 12, [], []⟩]
/-- 1501h (19_alarms_logs_traces.md). -/
def dict1501 : ObjIndex := ⟨0x1501, true, 0, 2047, dict1501_subs⟩

def dict1502_subs : List ObjRow := [
  ⟨1, "RING_OLDEST_SEQ", .u64, .ro, false, 0, 0, 18446744073709551615, [], []⟩,
  ⟨2, "RING_NEXT_SEQ", .u64, .ro, false, 0, 0, 18446744073709551615, [], []⟩,
  ⟨3, "RING_READ_SEQ", .u64, .rw, false, 0, 0, 18446744073709551615, [], []⟩,
  ⟨4, "RING_DATA", .octets, .ro, false, 0, 0, 1024, [], []⟩,
  ⟨5, "RING_OVERWRITTEN", .u64, .ro, false, 0, 0, 18446744073709551615, [], []⟩,
  ⟨6, "RING_DISCARDED", .u64, .ro, false, 0, 0, 18446744073709551615, [], []⟩]
/-- 1502h (19_alarms_logs_traces.md). -/
def dict1502 : ObjIndex := ⟨0x1502, false, 0, 0, dict1502_subs⟩

def dict1503_subs : List ObjRow := [
  ⟨1, "VAULT_STATE", .u8, .ro, false, 0, 0, 2, [], ["recording", "post-trigger", "frozen"]⟩,
  ⟨2, "VAULT_TRIGGER_SEQ", .u64, .ro, false, 0, 0, 18446744073709551615, [], []⟩,
  ⟨3, "VAULT_POST_RECORDS", .u16, .rw, true, 0, 0, 32768, [], []⟩,
  ⟨4, "VAULT_READ_OFFSET", .u32, .rw, false, 0, 0, 4194303, [], []⟩,
  ⟨5, "VAULT_DATA", .octets, .ro, false, 0, 0, 1024, [], []⟩,
  ⟨6, "VAULT_CMD", .u8, .wo, true, 0, 0, 0, [], ["rearm"]⟩]
/-- 1503h (19_alarms_logs_traces.md). -/
def dict1503 : ObjIndex := ⟨0x1503, false, 0, 0, dict1503_subs⟩

def dict1504_subs : List ObjRow := [
  ⟨1, "TRACE_SOURCE", .u32, .rw, true, 0, 0, 4294967295, [], []⟩,
  ⟨2, "TRACE_ROW", .u32, .rw, true, 4294967295, 0, 4294967295, [], []⟩,
  ⟨3, "TRACE_INTERVAL", .u16, .rw, true, 8, 1, 65535, [], []⟩,
  ⟨4, "TRACE_ENABLE", .bool, .rw, true, 0, 0, 1, [], []⟩,
  ⟨5, "TRACE_SAMPLES", .u64, .rwc, false, 0, 0, 18446744073709551615, [], []⟩,
  ⟨6, "TRACE_EFFECTIVE", .u16, .ro, false, 8, 0, 65535, [], []⟩,
  ⟨7, "TRACE_DROPS", .u64, .rwc, false, 0, 0, 18446744073709551615, [], []⟩]
/-- 1504h (19_alarms_logs_traces.md). -/
def dict1504 : ObjIndex := ⟨0x1504, true, 0, 15, dict1504_subs⟩

def dict1505_subs : List ObjRow := [
  ⟨1, "STREAM_ENABLE", .bool, .rw, false, 0, 0, 1, [], []⟩,
  ⟨2, "STREAM_BUDGET_MBPS", .u16, .rw, true, 200, 1, 1000, [], []⟩,
  ⟨3, "STREAM_CONTENT", .u8, .rw, false, 3, 0, 3, [], []⟩,
  ⟨4, "STREAM_BYTES", .u64, .rwc, false, 0, 0, 18446744073709551615, [], []⟩,
  ⟨6, "STREAM_RING_SKIPPED", .u64, .rwc, false, 0, 0, 18446744073709551615, [], []⟩,
  ⟨7, "STREAM_TRACE_DROPS", .u64, .rwc, false, 0, 0, 18446744073709551615, [], []⟩,
  ⟨8, "EVENTS_COALESCED", .u64, .rwc, false, 0, 0, 18446744073709551615, [], []⟩]
/-- 1505h (19_alarms_logs_traces.md). -/
def dict1505 : ObjIndex := ⟨0x1505, true, 0, 4, dict1505_subs⟩

def dict1506_subs : List ObjRow := [
  ⟨1, "EVENT_SEVERITY", .u8, .rw, false, 2, 0, 3, [], ["A", "B", "C", "none"]⟩]
/-- 1506h (19_alarms_logs_traces.md). -/
def dict1506 : ObjIndex := ⟨0x1506, false, 0, 0, dict1506_subs⟩

def dict1509_subs : List ObjRow := [
  ⟨1, "LOOKUP_NAME", .str, .rw, false, 0, 0, 255, [], []⟩,
  ⟨2, "LOOKUP_POINT", .u16, .ro, false, 65535, 0, 65535, [], []⟩]
/-- 1509h (19_alarms_logs_traces.md). -/
def dict1509 : ObjIndex := ⟨0x1509, false, 0, 0, dict1509_subs⟩

/-- Indices 1000h-10FFh. -/
def dictGroup10 : List ObjIndex := [dict1000, dict1001, dict1002, dict1003, dict1005]

/-- Indices 1100h-11FFh. -/
def dictGroup11 : List ObjIndex := [dict1100, dict1101, dict1102, dict1120, dict1130, dict1131, dict1132, dict1133, dict1134, dict1135, dict1136]

/-- Indices 1200h-12FFh. -/
def dictGroup12 : List ObjIndex := [dict1200, dict1201, dict1202, dict1210, dict1211, dict1212]

/-- Indices 1400h-14FFh. -/
def dictGroup14 : List ObjIndex := [dict1400, dict1401, dict1402, dict1410]

/-- Indices 1500h-15FFh. -/
def dictGroup15 : List ObjIndex := [dict1500, dict1501, dict1502, dict1503, dict1504, dict1505, dict1506, dict1509]

/-- Indices 1600h-16FFh. -/
def dictGroup16 : List ObjIndex := [dict1600, dict1601, dict1602, dict1603]

/-- Indices 2000h-20FFh. -/
def dictGroup20 : List ObjIndex := [dict2000, dict2001, dict2002, dict2003, dict2005, dict2006, dict2008]

/-- Indices 2100h-21FFh. -/
def dictGroup21 : List ObjIndex := [dict2100, dict2101, dict2102]

/-- Indices 2200h-22FFh. -/
def dictGroup22 : List ObjIndex := [dict2200, dict2201]

/-- Indices 2300h-23FFh. -/
def dictGroup23 : List ObjIndex := [dict2300, dict2301, dict2302, dict2303, dict2310, dict2311]

/-- Indices 3000h-30FFh. -/
def dictGroup30 : List ObjIndex := [dict3000]

/-- Indices 3100h-31FFh. -/
def dictGroup31 : List ObjIndex := [dict3100]

/-- Indices 3400h-34FFh. -/
def dictGroup34 : List ObjIndex := [dict3400, dict3401]

/-- Indices 3500h-35FFh. -/
def dictGroup35 : List ObjIndex := [dict3500, dict3510, dict3540, dict3580]

/-- Indices 3600h-36FFh. -/
def dictGroup36 : List ObjIndex := [dict3600, dict3620]

/-- Indices 3700h-37FFh. -/
def dictGroup37 : List ObjIndex := [dict3700, dict3720]

/-- Indices 3800h-38FFh. -/
def dictGroup38 : List ObjIndex := [dict3800, dict3801, dict3802, dict3810, dict3811, dict3812, dict3820]

/-- Indices 4000h-40FFh. -/
def dictGroup40 : List ObjIndex := [dict4000, dict4001, dict4002, dict4003, dict4010, dict4011]

/-- Indices 4100h-41FFh. -/
def dictGroup41 : List ObjIndex := [dict4100, dict4101, dict4102]

/-- Indices 4200h-42FFh. -/
def dictGroup42 : List ObjIndex := [dict4200, dict4201, dict4202, dict4203]

/-- Indices 5000h-50FFh. -/
def dictGroup50 : List ObjIndex := [dict5000, dict5001, dict5002, dict5003, dict5004, dict5010, dict5011, dict5012]

/-- Indices 5100h-51FFh. -/
def dictGroup51 : List ObjIndex := [dict5100, dict5101]

/-- Indices 6000h-60FFh. -/
def dictGroup60 : List ObjIndex := [dict6000, dict6001, dict6002, dict6003, dict6004, dict6005]

/-- Indices 6100h-61FFh. -/
def dictGroup61 : List ObjIndex := [dict6100, dict6101]

/-- Indices 6200h-62FFh. -/
def dictGroup62 : List ObjIndex := [dict6200, dict6201, dict6202, dict6203, dict6210, dict6211, dict6220, dict6221]

/-- Indices 7000h-70FFh. -/
def dictGroup70 : List ObjIndex := [dict7000, dict7001, dict7002, dict7003, dict7004, dict7005, dict7006, dict7007, dict7008, dict7009]

/-- Indices 7100h-71FFh. -/
def dictGroup71 : List ObjIndex := [dict7100]

/-- The indices that share the high byte `g`. -/
def dictGroup (g : Nat) : List ObjIndex :=
  match g with
  | 0x10 => dictGroup10
  | 0x11 => dictGroup11
  | 0x12 => dictGroup12
  | 0x14 => dictGroup14
  | 0x15 => dictGroup15
  | 0x16 => dictGroup16
  | 0x20 => dictGroup20
  | 0x21 => dictGroup21
  | 0x22 => dictGroup22
  | 0x23 => dictGroup23
  | 0x30 => dictGroup30
  | 0x31 => dictGroup31
  | 0x34 => dictGroup34
  | 0x35 => dictGroup35
  | 0x36 => dictGroup36
  | 0x37 => dictGroup37
  | 0x38 => dictGroup38
  | 0x40 => dictGroup40
  | 0x41 => dictGroup41
  | 0x42 => dictGroup42
  | 0x50 => dictGroup50
  | 0x51 => dictGroup51
  | 0x60 => dictGroup60
  | 0x61 => dictGroup61
  | 0x62 => dictGroup62
  | 0x70 => dictGroup70
  | 0x71 => dictGroup71
  | _ => []

/-- Every index of the dictionary. -/
def dictAll : List ObjIndex :=
  dictGroup10 ++ dictGroup11 ++ dictGroup12 ++ dictGroup14 ++ dictGroup15 ++ dictGroup16 ++ dictGroup20 ++ dictGroup21 ++ dictGroup22 ++ dictGroup23 ++ dictGroup30 ++ dictGroup31 ++ dictGroup34 ++ dictGroup35 ++ dictGroup36 ++ dictGroup37 ++ dictGroup38 ++ dictGroup40 ++ dictGroup41 ++ dictGroup42 ++ dictGroup50 ++ dictGroup51 ++ dictGroup60 ++ dictGroup61 ++ dictGroup62 ++ dictGroup70 ++ dictGroup71

end Sys2Proof.Machine
end

