-- ==== Sys2Proof/Machine/Memory.lean ====
section
/-! DEFINITION. Machine/Memory.lean: the frame store as bytes in one canonical form: addresses rising, no byte listed that an unlisted address reads as (log entry 3). -/

namespace Sys2Proof.Machine

open Sys2Proof

/-- What a byte that nothing has written reads as: the manual gives no content (log entry 3). -/
def unwritten : Byte := 0#8

/-- The byte at an address. -/
def memRead (m : List Host.Cell) (a : Nat) : Byte := (storeGet a m).getD unwritten

/-- The memory with a byte written. -/
def memWrite (m : List Host.Cell) (a : Nat) (b : Byte) : List Host.Cell := if b = unwritten then storeDel a m else storePut natLt a b m

/-- The bytes of a range. -/
def memRange (m : List Host.Cell) (a n : Nat) : Bytes := (List.range n).map (fun i => memRead m (a + i))

/-- The memory after some orders. -/
def carryOut : List MemOrder → List Host.Cell → List Host.Cell
  | [], m => m
  | .clear :: l, _ => carryOut l []
  | .write a b :: l, m => carryOut l (memWrite m a b)

/-- The frame store as a command in progress sees it: with what it has ordered so far. -/
def State.memNow (s : State) : List Host.Cell := carryOut s.orders s.mem

/-- Order a byte. -/
def State.orderByte (s : State) (a : Nat) (b : Byte) : State := { s with orders := s.orders ++ [.write a b] }

/-- Order bytes from an address on. -/
def State.orderBytes (s : State) (a : Nat) : Bytes → State
  | [] => s
  | b :: l => (s.orderByte a b).orderBytes (a + 1) l

/-- The canonical form: every listed byte differs from `unwritten`, and addresses rise. -/
def memWf : List Host.Cell → Bool
  | [] => true
  | [(_, b)] => b != unwritten
  | (a, b) :: (a', b') :: l => b != unwritten && decide (a < a') && memWf ((a', b') :: l)

end Sys2Proof.Machine
end

