-- ==== Sys2Proof/Machine/Ops.lean ====
section
/-! DEFINITION. Machine/Ops.lean: the named operations that the meanings share: time, the register file, counters, alarms and the log, events to sessions. -/

namespace Sys2Proof.Machine

open Sys2Proof

/-! Endpoints and the dictionary. -/

/-- The index of an object code. -/
def objIndex (code : Nat) : Nat := code / 256

/-- The row of the dictionary for an index. -/
def findIndex (index : Nat) : Option ObjIndex := (dictGroup (index / 256)).find? (fun d => d.index == index)

/-- The sub-index of an object code. -/
def findObj (code : Nat) : Option ObjRow :=
  match findIndex (code / 256) with
  | some d => d.subs.find? (fun r => r.sub == code % 256)
  | none => none

/-- Whether row `row` of the object's index exists. A scalar or record has the one row 0. -/
def rowExists (code row : Nat) : Bool :=
  match findIndex (code / 256) with
  | some d => if d.table then decide (d.first ≤ row ∧ row ≤ d.last) else row == 0
  | none => false

/-- The endpoint of row `r` of 4002h (R220): output slots, mint channels, XS encode inputs, compositor layers, tiles. -/
def destEndpoint (r : Nat) : Nat :=
  if r < 4096 then 0x8000 + r else if r < 4112 then 0x9000 + (r - 4096) else if r < 4128 then 0xA000 + (r - 4112)
  else if r < 4384 then 0xB000 + (r - 4128) else 0xC000 + (r - 4384)

/-- The row of 4002h of a destination endpoint. -/
def destRow (ep : Nat) : Option Nat :=
  let i := ep % 4096
  match ep / 4096 with
  | 8 => some i
  | 9 => if i < 16 then some (4096 + i) else none
  | 10 => if i < 16 then some (4112 + i) else none
  | 11 => if i < 256 then some (4128 + i) else none
  | 12 => if i < 256 then some (4384 + i) else none
  | _ => none

/-- Whether an identifier names a source endpoint (R13). -/
def isSource (ep : Nat) : Bool :=
  let i := ep % 4096
  match ep / 4096 with
  | 0 => true
  | 1 => decide (i < 32)
  | 2 => decide (i < 16)
  | 3 => decide (i < 16)
  | 4 => decide (i < 8)
  | _ => false

/-- Whether an identifier names a destination endpoint of R13. -/
def isDest (ep : Nat) : Bool := (destRow ep).isSome

/-- Source lines per line that a tile reads (R343). -/
def tileStep (fc : Nat) : Nat :=
  let r := fmtRate fc
  match fmtRaster fc with
  | some .hd => if 0x0B ≤ r ∧ r ≤ 0x0D then 2 else 1
  | some .uhd => if r ≤ 5 then 2 else if r ≤ 0x0A then 4 else 8
  | some .uhd8k => if r ≤ 5 then 8 else if r ≤ 0x0A then 16 else 32
  | none => 0

/-- Name of a format (R334). -/
def fmtName (fc : Nat) : String :=
  let rate := ["", "23.98", "24", "25", "29.97", "30", "47.95", "48", "50", "59.94", "60", "100", "119.88", "120", "50", "59.94"].getD (fmtRate fc) ""
  if fmtInterlaced fc then "1080i" ++ rate
  else match fmtRaster fc with
    | some .hd => "1080p" ++ rate
    | some .uhd => "2160p" ++ rate
    | some .uhd8k => "4320p" ++ rate
    | none => ""

/-- The format table (R334-R336, R343), by sub-index of 6200h. -/
def fmtField (sub fc : Nat) : Nat :=
  if isFormat fc = false then 0
  else match sub with
    | 2 => fmtWidth fc
    | 3 => fmtHeight fc
    | 4 => fmtLines fc
    | 5 => fmtSamples fc
    | 6 => fmtRate fc
    | 7 => fmtFirstActive fc
    | 8 => fmtSwitchLine fc
    | 9 => fmtCost fc
    | _ => tileStep fc

/-- Defaults that differ from row to row (R13, R73, R220, R226, R343, R371, R404), or that the state in which the module is delivered gives (R395, R412, R421). AON, row 96 of 1410h,
is on whenever the module answers (R460, log entry 179). -/
def rowDefault (code row : Nat) : Option Int :=
  match code with
  | 0x210101 => some ([1, 2, 4, 5, 3, 0, 0, 0].getD (row % 8) 0)
  | 0x100005 => some 0x00030002
  | 0x220002 => some (if row < 5 then 1 else 0)
  | 0x220003 => some (if 2 ≤ row ∧ row ≤ 4 then 0 else 9)
  | 0x220007 => some (if row < 5 then 1 else 0)
  | 0x400201 => some (destEndpoint row : Int)
  | 0x420301 => some row
  | 0x420302 => some ([2, 2, 4, 1, 1].getD row 0)
  | 0x420303 => some ([2, 2, 4, 1, 1].getD row 0)
  | 0x140201 => some row
  | 0x141001 => if row = 96 then some 2 else none
  | 0x62210B => some 1
  | 0x110001 => some (if row = 0 then 1 else 0)
  | 0x110002 => some (if row = 0 then 0x13 else 0)
  | 0x110003 => some (if row = 0 then 0x10 else 0x1F)
  | 0x110008 => some (if row = 0 then 1 else 0)
  | 0x113101 => some (if row = 0 then 1 else 0)
  | 0x113504 => some 1048576
  | 0x710001 => some (if row < 4 then 0 else 2)
  | 0x71000A => some 0xFFFFFFFF
  | _ => if code / 256 = 0x6200 then some (fmtField (code % 256) row) else none

/-- The default of an integer object. -/
def objDefault (code row : Nat) : Int :=
  match rowDefault code row with
  | some v => v
  | none => match findObj code with
    | some r => r.dflt
    | none => 0

/-- The default of a byte or character object (R3, R63, R404; all others are zero bytes of the stated length or empty). -/
def octDefault (code row : Nat) : Bytes :=
  match code with
  | 0x100001 => ascii "SQ1024-XE"
  | 0x100002 => ascii "B1"
  | 0x100003 => ascii "Zimond 3.2"
  | 0x100004 => ascii "QK4A20731058"
  | 0x220001 => ascii (["REFA", "REFB", "F10A", "F10B", "PTP0", "LREC0", "LREC1", "TWIN"].getD row "")
  | 0x112002 => (if row < 4 then [192, 168, 100, 10 + row] else [192, 168, 101, 10]).map (BitVec.ofNat 8)
  | 0x620001 => ascii (fmtName row)
  | 0x354003 => [0xFF#8, 0xFF#8, 0xFF#8, 0xFF#8, 0xFF#8, 0xFF#8]
  | 0x310007 => [0#8, 0#8, 0#8, 0#8, 0x80#8, 0#8, 0#8, 0#8, 0#8, 0#8]
  | 0x42010B => [0#8, 0#8, 0#8, 0#8]
  | _ => match findObj code with
    | some r => if r.ty = .octets ∧ r.access ≠ .wo ∧ r.lo = r.hi then zeros r.lo.toNat else []
    | none => []

/-- The codes of lane indices: lane l is configured through index 3000h + l and reported through 3100h + l (R115); the model holds both as rows of 3000h and 3100h. -/
def laneIndex (i : Nat) : Option (Nat × Nat) :=
  if 0x3000 ≤ i ∧ i < 0x30C0 then some (0x3000, i - 0x3000) else if 0x3100 ≤ i ∧ i < 0x31C0 then some (0x3100, i - 0x3100) else none

/-- An object of a lane named by the index of its lane, as the object and row that the model holds (R115). -/
def laneCode (o r : Nat) : Nat × Nat :=
  match laneIndex (o / 256) with
  | some (i, l) => if r = 0xFFFFFFFF ∨ l ≠ 0 then (i * 256 + o % 256, l) else (o, r)
  | none => (o, r)

/-! The register file. -/

/-- The value held for an integer object. -/
def State.rd (s : State) (o r : Nat) : Int := (storeGet (o, r) s.regs).getD (objDefault o r)

/-- Hold a value for an integer object; the entry goes when the value is the default. -/
def State.wr (s : State) (o r : Nat) (v : Int) : State :=
  { s with regs := if v = objDefault o r then storeDel (o, r) s.regs else storePut pairLt (o, r) v s.regs }

/-- The bytes held for a byte or character object. -/
def State.rdOct (s : State) (o r : Nat) : Bytes := (storeGet (o, r) s.octs).getD (octDefault o r)

/-- Hold bytes for an object; the entry goes when they are the default. -/
def State.wrOct (s : State) (o r : Nat) (b : Bytes) : State :=
  { s with octs := if b = octDefault o r then storeDel (o, r) s.octs else storePut pairLt (o, r) b s.octs }

/-- A TRUE object. -/
def State.isOn (s : State) (o r : Nat) : Bool := s.rd o r == 1

/-- The natural number held for an unsigned object. -/
def State.rdN (s : State) (o r : Nat) : Nat := (s.rd o r).toNat

/-- A Boolean as its code (R384). -/
def boolVal (b : Bool) : Int := if b then 1 else 0

/-- Bits of an integer type (R384). -/
def ObjType.bits : ObjType → Nat
  | .bool => 8
  | .u8 => 8
  | .u16 => 16
  | .u32 => 32
  | .u64 => 64
  | .i32 => 32
  | .i64 => 64
  | .f32 => 32
  | .time96 => 96
  | .str => 0
  | .octets => 0

/-- Whether a type is signed. -/
def ObjType.signed : ObjType → Bool
  | .i32 => true
  | .i64 => true
  | _ => false

/-- The number of values of an object's type: a counter counts modulo it (log entry 7). -/
def objModulus (o : Nat) : Int :=
  match findObj o with
  | some r => (2 : Int) ^ r.ty.bits
  | none => 2 ^ 64

/-- Advance a counter object by `n`. -/
def State.addTo (s : State) (o r : Nat) (n : Nat) : State := s.wr o r ((s.rd o r + n) % objModulus o)

/-- Advance a counter object by one. -/
def State.bump (s : State) (o r : Nat) : State := s.addTo o r 1

/-- Rows of an object that the register file lists (those whose value is not the default), with their values. -/
def State.listed (s : State) (o : Nat) : List (Nat × Int) := (s.regs.filter (fun c => c.1.1 == o)).map (fun c => (c.1.2, c.2))

/-- Rows of an object that the register file lists. -/
def State.listed' (s : State) (o : Nat) : List Nat := (s.listed o).map (·.1)

/-! Time. -/

/-- The time clock's unit is 2^-32 ns; one second holds this many. -/
def clkPerSecond : Nat := 1000000000 * 4294967296

/-- The clock holds 48 bits of seconds (R93). -/
def clkModulus : Nat := 281474976710656 * clkPerSecond

/-- Clock advances (4 ns, 250 MHz) up to an instant. -/
def advances (t : Nat) : Nat := t / 4

/-- Time passes up to instant `t`: the time clock takes INCREMENT at each of its advances (R93, R94). An instant that has passed is not gone back to. -/
def State.advance (s : State) (t : Nat) : State :=
  { s with
    now := max s.now t
    clk := (s.clk + (advances (max s.now t) - advances s.now) * s.rdN o2301_INCREMENT 0) % clkModulus }

/-- Seconds of the time clock. -/
def State.clkSec (s : State) : Nat := s.clk / clkPerSecond

/-- Nanoseconds of the time clock, whole seconds left out. -/
def State.clkNs (s : State) : Nat := s.clk % clkPerSecond / 4294967296

/-- Fraction of a nanosecond. -/
def State.clkFrac (s : State) : Nat := s.clk % 4294967296

/-- The time clock in whole nanoseconds since its epoch. -/
def State.clkNanos (s : State) : Nat := s.clk / 4294967296

/-- TIME96 (R384) as its 96-bit number: seconds in bytes 0-5, nanoseconds in 6-9, bits 31:16 of the fraction in 10-11. -/
def State.time96 (s : State) : Nat := s.clkSec + s.clkNs * 281474976710656 + s.clkFrac / 65536 * 1208925819614629174706176

/-- Whether anything runs: the always-on domain is powered and NRST_IN is not low (R456, R489). -/
def State.powered (s : State) : Bool := s.pwr.aon && !s.pwr.nrstLow

/-- A command's end: its orders to the frame store are carried out; the queue and the time are no command's to change. -/
def State.finish (s s' : State) : State := { s' with pending := s.pending, now := s.now, mem := carryOut s'.orders s.mem, orders := [] }

/-- The state in which a command at instant `t` begins. -/
def State.begin (s : State) (t : Nat) : State := { s.advance t with orders := [] }

/-- The effect of a command at instant `t` on everything but the queue. A module without power or in reset does nothing. -/
def State.run (s : State) (t : Nat) (f : State → State) : Host.Outcome State Fault Refusal :=
  if s.powered then .next ((s.begin t).finish (f (s.begin t))) else .next (s.begin t)

/-- The effect of an event on the supply or on NRST_IN, in whatever state the module is. -/
def State.runAny (s : State) (t : Nat) (f : State → State) : Host.Outcome State Fault Refusal := .next ((s.begin t).finish (f (s.begin t)))

/-! The result of an operation. -/

/-- Note what an operation answered. -/
def State.answer (s : State) (status : Nat) : State := { s with last := ⟨status, none⟩ }

/-- Note the value that a read returned. -/
def State.answerVal (s : State) (v : Val) : State := { s with last := ⟨0, some v⟩ }

/-- Something leaves the module. -/
def State.emit (s : State) (o : Out) : State := { s with out := s.out ++ [o] }

/-- The next free number, and the counter advanced. -/
def State.takeFree (s : State) : Nat × State := (Config.freeNat s.free, { s with free := s.free + 1 })

/-- `n` free bytes, and the counter advanced. -/
def State.takeFreeBytes (s : State) (n : Nat) : Bytes × State :=
  ((List.range n).map (Config.freeByte s.free), { s with free := s.free + 1 })

/-! Ports and sessions. -/

/-- What a port holds beside its objects. -/
def State.port (s : State) (p : Nat) : Port := (storeGet p s.ctl.ports).getD {}

/-- Set what a port holds. -/
def State.setPort (s : State) (p : Nat) (x : Port) : State :=
  { s with ctl := { s.ctl with ports := storePut natLt p x s.ctl.ports } }

/-- The five control ports: CP0-CP3 and SVC. -/
def portList : List Nat := [0, 1, 2, 3, 4]

/-- A message header (R379). -/
def msgHeader (type flags sid seq len status ops : Nat) : Bytes :=
  [1#8, BitVec.ofNat 8 type] ++ leBytes 2 flags ++ leBytes 4 sid ++ leBytes 4 seq ++ leBytes 2 len ++ leBytes 2 status ++ leBytes 2 ops ++ leBytes 2 0

/-- The MAC of a message of a session (R390): `d` is 00h from the host, 01h from the device. -/
def msgMac (key : Bytes) (d : Byte) (m : Bytes) : Bytes := (hmacSha256 key (d :: m)).take 16

/-- A message of the device to a session, with its MAC. -/
def sessionMsg (x : Session) (type seq status ops : Nat) (body : Bytes) : Bytes :=
  let m := msgHeader type 0 x.id seq body.length status ops ++ body
  m ++ msgMac x.key 1#8 m

/-- Send an EVENT to the open session of a port (R394). -/
def State.sendEvent (s : State) (p kind : Nat) (payload : Bytes) : State :=
  match (s.port p).session with
  | none => s
  | some x =>
    let m := sessionMsg x 0x20 x.eventSeq 0 0 (leBytes 2 kind ++ leBytes 2 payload.length ++ payload)
    ((s.setPort p { s.port p with session := some { x with eventSeq := x.eventSeq + 1 } }).bump o1101_EVENTS_SENT p).emit
      (.sdp p x.addr x.udp m)

/-- Point number of an alarm, 0-2047, and number of a named event, 8000h-87FFh (R462, log entry 6). -/
def pointNo (a : Alarm) : Nat := Config.alarmPoint a.rank % 2048
def eventNo (n : Nat) : Nat := 0x8000 + Config.eventNumber n % 2048

/-! The log (R467-R470). -/

/-- The bytes of a record (R467), its CRC included. -/
def logBytes (r : LogRec) : Bytes :=
  let b := leBytes 8 r.seq ++ leBytes 12 r.time ++ leBytes 2 r.kind ++ leBytes 2 r.point ++ [BitVec.ofNat 8 r.severity, BitVec.ofNat 8 r.subsys] ++
    leBytes 2 0 ++ leBytes 4 r.inst ++ (r.data ++ zeros 28).take 28
  b ++ leBytes 4 (crc32c b)

/-- Records the ring holds (R467). -/
def ringSize : Nat := 1048576

/-- Records the staging queue holds (R467). -/
def stagingSize : Nat := 4096

/-- Records the vault holds (R470). -/
def vaultSize : Nat := 65536

/-- Keep the newest `n` of a list. -/
def keepLast {α : Type} (n : Nat) (l : List α) : List α := l.drop (l.length - n)

/-- The lost-records marker (R468): it takes no number of its own and carries the number of the record that follows. -/
def lostMarker (seq time first n : Nat) : LogRec :=
  ⟨seq, time, 4, 0xFFFF, 0, 0, 0xFFFFFFFF, leBytes 8 first ++ leBytes 4 n⟩

/-- A record goes to the vault unless it is frozen (R470); `trigger` is a severity-A raise. -/
def State.vaultTake (s : State) (r : LogRec) (trigger : Bool) : State :=
  let st := s.rd o1503_VAULT_STATE 0
  if st = VAULT_STATE.frozen then s
  else
    let s := { s with alm := { s.alm with vault := keepLast vaultSize (s.alm.vault ++ [r]) } }
    if st = VAULT_STATE.recording then
      if trigger then
        let n := s.rdN o1503_VAULT_POST_RECORDS 0
        let s := s.wr o1503_VAULT_TRIGGER_SEQ 0 r.seq
        if n = 0 then s.wr o1503_VAULT_STATE 0 VAULT_STATE.frozen
        else { s.wr o1503_VAULT_STATE 0 VAULT_STATE.post_trigger with alm := { s.alm with vaultLeft := n } }
      else s
    else
      let left := s.alm.vaultLeft - 1
      let s := { s with alm := { s.alm with vaultLeft := left } }
      if left = 0 then s.wr o1503_VAULT_STATE 0 VAULT_STATE.frozen else s

/-- A record joins the staging queue, or is discarded and counted when the queue is full (R468). -/
def State.stage (s : State) (r : LogRec) : State :=
  if stagingSize ≤ s.alm.staging.length then
    let l := match s.alm.lost with
      | some (f, n) => some (f, n + 1)
      | none => some (r.seq, 1)
    { s with alm := { s.alm with lost := l } }.bump o1502_RING_DISCARDED 0
  else
    let pre := match s.alm.lost with
      | some (f, n) => [lostMarker r.seq r.time f n]
      | none => []
    { s with alm := { s.alm with staging := s.alm.staging ++ pre ++ [r], lost := none } }

/-- Produce a record: it takes the next sequence number, goes to the vault and to the staging queue. -/
def State.logRec (s : State) (kind point sev subsys inst : Nat) (data : Bytes) (trigger : Bool) : State :=
  let r : LogRec := ⟨s.alm.nextSeq, s.time96, kind, point, sev, subsys, inst, data⟩
  let s := { s with alm := { s.alm with nextSeq := s.alm.nextSeq + 1 } }
  (s.vaultTake r trigger).stage r

/-- Whether a control port answers: from the end of stage 2 on (R452), in recovery SVC alone (R415); not during an orderly stop. -/
def State.talks (s : State) (port : Nat) : Bool :=
  let v := s.rd o1401_DEVICE_STATE 0
  if v = DEVICE_STATE.running ∨ v = DEVICE_STATE.safe then true
  else if v = DEVICE_STATE.starting then decide (START_STAGE.self_test ≤ s.rd o1401_START_STAGE 0)
  else v == DEVICE_STATE.recovery && port == 4

/-- A named event (R462). -/
def State.logEvent (s : State) (name subsys inst : Nat) (data : Bytes) : State :=
  s.logRec 6 (eventNo name) 0 subsys inst data false

/-- Named events of the manual: PWR_DIP (R446) and others by their place in this list. -/
def evPwrDip : Nat := 0

/-! Alarms (R462-R466). -/

/-- The state of a point. -/
def State.point (s : State) (a : Alarm) : AlarmPt := (storeGet a s.alm.points).getD {}

/-- Set the state of a point. -/
def State.setPoint (s : State) (a : Alarm) (p : AlarmPt) : State :=
  { s with alm := { s.alm with points := storePut Alarm.lt a p s.alm.points } }

/-- The highest severity (1 is the highest) among instances. -/
def topSeverity : List (Nat × Nat) → Nat
  | [] => 0
  | [(_, v)] => v
  | (_, v) :: l => min v (topSeverity l)

/-- A change of a point opens or joins the coalescing window of each open session (R465). -/
def State.noteChange (s : State) (a : Alarm) : State :=
  portList.foldl (fun s p =>
    match (s.port p).session with
    | none => s
    | some _ =>
      let w := match storeGet (p, a.rank) s.alm.windows with
        | some w => { w with changes := w.changes + 1 }
        | none => ⟨s.now + s.rdN o1500_COALESCE_MS 0 * 1000000, 1⟩
      { s with alm := { s.alm with windows := storePut pairLt (p, a.rank) w s.alm.windows } }) s

/-- A release of custody of the module's own (R438): the handover tick H is the first TD0 tick at least 2 cadence cycles away, and the lease ends just before it. -/
def State.startRelease (s : State) : State :=
  let x := (storeGet 0 s.tds).getD {}
  let p := max 1 (period3 x.rate)
  let k := max 1 ((3 * (s.now + 250000 - x.tickAt) + p - 1) / p)
  let h := s.rdN o2100_FCNT 0 + k
  { (s.wr o1601_LEASE_END 0 (h - 1 : Nat)).wr o1601_PAIR_STATE 0 PAIR_STATE.releasing with pair := { s.pair with handover := some h, entered := s.now } }

/-- An active module releases custody of its own accord (R436, R438, R451). -/
def State.ownRelease (s : State) : State := if s.rd o1601_PAIR_STATE 0 = PAIR_STATE.active then s.startRelease else s

/-- A severity-A alarm in a subsystem of AUTO_RELEASE_MASK makes an active module release custody (R438). -/
def State.autoRelease (s : State) (sev subsys : Nat) : State :=
  if sev = 1 ∧ (s.rdN o1600_AUTO_RELEASE_MASK 0).testBit subsys then s.ownRelease else s

/-- Raise an instance of a point with a severity, a subsystem and a detail (R463); an instance already active is not raised again. -/
def State.raiseWith (s : State) (a : Alarm) (inst sev subsys : Nat) (data : Bytes) : State :=
  let p := s.point a
  if p.active.any (fun x => x.1 == inst) then s
  else
    let act := p.active ++ [(inst, sev)]
    let top := topSeverity act
    let q : AlarmPt := { p with active := act, subsys := subsys, severity := top, latched := true, raises := (p.raises + 1) % 4294967296, lastInstance := inst,
                                firstRaise := if p.raises = 0 then s.time96 else p.firstRaise, lastChange := s.time96 }
    let s := (s.setPoint a q).logRec 1 (pointNo a) sev subsys inst data (sev == 1)
    let s := if p.active ≠ [] ∧ top ≠ p.severity then s.logRec 3 (pointNo a) top subsys inst [] false else s
    (s.noteChange a).autoRelease sev subsys

/-- A raise of an instance that is active already and stays active: RAISES advances and a record is written (R60). -/
def State.raiseAgain (s : State) (a : Alarm) (inst sev subsys : Nat) (data : Bytes) : State :=
  let p := s.point a
  if p.active.any (fun x => x.1 == inst) then
    ((s.setPoint a { p with subsys := subsys, latched := true, raises := (p.raises + 1) % 4294967296, lastInstance := inst, lastChange := s.time96 }).logRec 1 (pointNo a) sev
      subsys inst data (sev == 1)).noteChange a
  else s.raiseWith a inst sev subsys data

/-- Raise an instance with the severity and subsystem of its chapter. -/
def State.raise (s : State) (a : Alarm) (inst : Nat) : State := s.raiseWith a inst a.severity a.subsys []

/-- Clear an instance (R463). -/
def State.clear (s : State) (a : Alarm) (inst : Nat) : State :=
  let p := s.point a
  match p.active.find? (fun x => x.1 == inst) with
  | none => s
  | some (_, sev) =>
    let act := p.active.filter (fun x => x.1 != inst)
    let top := if act = [] then sev else topSeverity act
    let s' := (s.setPoint a { p with active := act, severity := top, lastChange := s.time96 }).logRec 2 (pointNo a) sev p.subsys inst [] false
    let s' := if act ≠ [] ∧ top ≠ p.severity then s'.logRec 3 (pointNo a) top p.subsys inst [] false else s'
    s'.noteChange a

/-- The severity of an active instance changes (R463): a change of the point's own is recorded. -/
def State.reSeverity (s : State) (a : Alarm) (inst sev : Nat) : State :=
  let p := s.point a
  if p.active.any (fun x => x.1 == inst && x.2 != sev) then
    let act := p.active.map (fun x => if x.1 = inst then (inst, sev) else x)
    let top := topSeverity act
    let s' := s.setPoint a { p with active := act, severity := top, lastChange := s.time96 }
    if top ≠ p.severity then (s'.logRec 3 (pointNo a) top p.subsys inst [] false).noteChange a else s'
  else s

/-- An event alarm: raised and cleared in the control cycle of the event (R463). -/
def State.pulse (s : State) (a : Alarm) (inst : Nat) : State := (s.raise a inst).clear a inst

/-- An alarm without instances. -/
def noInst : Nat := 0xFFFFFFFF

/-- Raise or clear as a condition holds or not. -/
def State.alarmWhile (s : State) (a : Alarm) (inst : Nat) (c : Bool) : State := if c then s.raise a inst else s.clear a inst

/-- Raise an alarm that clears after a quiet interval without its cause, and restart that interval (R463). -/
def State.raiseQuiet (s : State) (a : Alarm) (inst : Nat) : State :=
  let s := s.raise a inst
  { s with alm := { s.alm with quiet := ⟨a, inst, s.now⟩ :: s.alm.quiet.filter (fun q => !(q.alarm == a && q.inst == inst)) } }

/-- Whether any instance of a point is active. -/
def State.alarmActive (s : State) (a : Alarm) : Bool := (s.point a).active != []

/-- Whether the instance of a point is active. -/
def State.instActive (s : State) (a : Alarm) (i : Nat) : Bool := (s.point a).active.any (fun x => x.1 == i)

/-! Lanes. -/

/-- A lane beside its objects. -/
def State.lane (s : State) (l : Nat) : Lane := (storeGet l s.lanes).getD {}

/-- Set a lane. -/
def State.setLane (s : State) (l : Nat) (x : Lane) : State := { s with lanes := storePut natLt l x s.lanes }

/-- State of a lane's receive side (R131). -/
def State.laneState (s : State) (l : Nat) : Int := s.rd o3100_LANE_STATE l

end Sys2Proof.Machine
end

