-- ==== Sys2Proof/Machine/Access.lean ====
section
/-! DEFINITION. Machine/Access.lean: who may do what to an object (R384-R387, R396-R400, R402, R493): the check order of R387, value encodings,
DESCRIBE, and the one shared way in which a write is checked and performed. -/

namespace Sys2Proof.Machine

open Sys2Proof

/-! Statuses of R387. -/

abbrev stOK : Nat := 0
abbrev stBUSY : Nat := 1
abbrev stNO_OBJECT : Nat := 2
abbrev stRANGE : Nat := 3
abbrev stUNSUPPORTED : Nat := 4
abbrev stACCESS : Nat := 5
abbrev stLEVEL : Nat := 6
abbrev stROLE : Nat := 7
abbrev stNOT_OWNED : Nat := 8
abbrev stENCODING : Nat := 9
abbrev stNO_SESSION : Nat := 10
abbrev stNOT_EXECUTED : Nat := 11

/-- A refusal to which the manual gives "an error code" without a number: the code is not 0 and otherwise open (log entry 14). -/
def unstatedCode (k : Nat) : Nat := Config.refusalCode k % 65535 + 1

/-! Roles and partitions. -/

/-- Role bits of R396. -/
abbrev roleOPERATOR : Nat := 0
abbrev roleEXPERT : Nat := 1
abbrev roleSEAL : Nat := 2
abbrev roleCUSTODIAN : Nat := 3
abbrev roleSERVICE : Nat := 4

/-- Who performs an operation: the port, the roles (R396) and the partition acted for, `none` for every partition (R398). -/
structure Ctx where
  port : Nat
  roles : Nat
  part : Option Nat
deriving DecidableEq, Repr

/-- Whether a mask of roles holds a role. -/
def hasRole (roles r : Nat) : Bool := roles.testBit r

/-- Whether roles reach a level (R396): EXPERT reaches both, OPERATOR reaches basic. -/
def reaches (roles : Nat) (expert : Bool) : Bool :=
  if expert then hasRole roles roleEXPERT else hasRole roles roleOPERATOR || hasRole roles roleEXPERT

/-- The partition for which a session of a port acts (R398). -/
def State.partOf (s : State) (port roles : Nat) : Option Nat :=
  if port < 4 then some port else if hasRole roles roleSERVICE then none else some s.ctl.deviceOwner

/-- The performer behind the open session of a port. -/
def State.ctxOf (s : State) (port : Nat) : Option Ctx :=
  match (s.port port).session with
  | some x => some ⟨port, x.roles, s.partOf port x.roles⟩
  | none => none

/-- The performer of writes that the device makes for every partition: records of a configuration (R404), of a mirror (R435). -/
def ctxDevice : Ctx := ⟨5, 31, none⟩

/-- Classes of partition-owned resources, numbered as 1211h.01 (R398). -/
inductive Own where
  | none
  | device
  | res (cls idx : Nat)
deriving DecidableEq, Repr

/-- Per-session objects (R400). -/
def perSession (o : Nat) : Bool :=
  [0x1005, 0x1102, 0x1136, 0x1509, 0x4000, 0x4100, 0x4201].contains (o / 256) || o == o1502_RING_READ_SEQ || o == o1506_EVENT_SEVERITY

/-- The resource to which an object's row belongs (R398; log entry 8). -/
def State.ownOf (s : State) (o r : Nat) : Own :=
  if perSession o then .none else
  match o / 256 with
  | 0x4002 => if r < 4096 then .res 1 (0x8000 + r) else .device
  | 0x6210 => if r < 4096 then .res 1 (0x8000 + r) else .device
  | 0x3580 => if s.rd o3580_SDI_OUT_LINKS r ≠ 0 then .res 1 (s.rdN o3580_SDI_OUT_ENDPOINT r) else .res 10 r
  | 0x5001 => .res 3 r
  | 0x5003 => .res 3 r
  | 0x5100 => .res 3 r
  | 0x5101 => .res 3 r
  | 0x5012 => .res 4 r
  | 0x6000 => .res 5 (r / 4)
  | 0x6001 => .none
  | 0x6002 => .res 5 (r / 32)
  | 0x6003 => .res 5 (r / 32)
  | 0x6004 => .res 5 (r / 4)
  | 0x6100 => .res 5 (r / 2048)
  | 0x6101 => .res 5 r
  | 0x6220 => .res 6 r
  | 0x6221 => .res 6 (r / 64)
  | 0x4010 => .res 7 r
  | 0x4011 => .res 7 (r / 1024)
  | 0x3600 => .res 8 r
  | 0x3620 => .res 8 r
  | 0x3700 => .res 9 r
  | 0x3720 => .res 9 r
  | 0x3820 => .res 9 r
  | 0x3000 => .res 10 r
  | 0x3100 => .res 10 r
  | 0x3500 => .res 10 r
  | 0x3510 => .res 10 r
  | 0x3540 => .res 10 r
  | 0x3800 => .res 10 r
  | 0x3801 => .res 10 (r / 8)
  | 0x3802 => .res 10 (r / 2048)
  | 0x3810 => .res 10 r
  | 0x3811 => .res 10 (r / 256)
  | 0x3812 => .res 10 (r / 256)
  | 0x7100 => .none
  | 0x1200 => if o = o1200_CONFIG_CMD then .none else .device
  | _ => .device

/-- Rows of the partition maps. -/
def mapRows : List Nat := List.range 64

/-- The owner that the map in force gives a resource: the first row of its class that holds it, else the device owner (R398). -/
def State.ownerOf (s : State) (cls idx : Nat) : Nat :=
  match mapRows.find? (fun r => s.rdN o1212_PART_IN_FORCE_CLASS r == cls && decide (s.rdN o1212_PART_IN_FORCE_FIRST r ≤ idx ∧ idx ≤ s.rdN o1212_PART_IN_FORCE_LAST r)) with
  | some r => s.rdN o1212_PART_IN_FORCE_OWNER r
  | none => s.ctl.deviceOwner

/-- The owner of a resource, of a device object the device owner. -/
def State.ownerOfOwn (s : State) : Own → Option Nat
  | .none => none
  | .device => some s.ctl.deviceOwner
  | .res c i => some (s.ownerOf c i)

/-- Whether a performer may act on what `w` names. -/
def State.owns (s : State) (c : Ctx) (w : Own) : Bool :=
  match c.part, s.ownerOfOwn w with
  | none, _ => true
  | _, none => true
  | some p, some q => p == q

/-- A stream row of 1505h belongs to the sessions of its own port as well (log entry 8). -/
def ownStream (c : Ctx) (o r : Nat) : Bool := o / 256 == 0x1505 && c.port == r

/-- Objects whose writes need role SERVICE (R361, R392, R424). -/
def needsService (o : Nat) : Bool :=
  o == o7008_INJECT_CMD || o == o1101_SESSION_END_CMD || [0x1130, 0x1131, 0x1133, 0x1134].contains (o / 256)

/-- Objects whose writes are taken from SVC only (R408, R424). -/
def svcOnly (o : Nat) : Bool := o == o1101_SESSION_END_CMD || [0x1130, 0x1131, 0x1133, 0x1134].contains (o / 256)

/-- Objects whose writes need role CUSTODIAN (R441). -/
def needsCustodian (o : Nat) : Bool := o / 256 == 0x1600

/-- Objects whose writes always need role SEAL (R328); the other sealed-layer writes depend on the layer or surface (R325). -/
def needsSeal (o : Nat) : Bool := o == o6004_SEAL_LIMIT

/-- Objects that accept timed writes (R227): commits, encoder controls, and those so marked. -/
def timedWrite (o : Nat) : Bool :=
  [o5001_INPUT_OVERRIDE, o5100_BASE_QP, o5100_MIN_QP, o5100_MAX_QP, o5100_RC_TARGET_FILL, o5100_RAP_REQUEST, o6000_COMMIT, o6001_GROUP_COMMIT,
    o6220_HEAD_COMMIT].contains o || o / 256 == 0x6202 || o / 256 == 0x6203

/-- Persistent objects (R402). -/
def persistent (o : Nat) : Bool :=
  match findObj o with
  | none => false
  | some d =>
    d.access == .rw && !perSession o &&
    !([o2002_XFER_OFFSET, o2003_ANCHOR_TD, o2003_ANCHOR_FCNT, o2003_ALLOW_DARK, o2008_OWNER_QUERY_ADDR, o1132_FW_XFER_OFFSET, o1133_SEC_XFER_OFFSET,
        o1202_CFG_XFER_OFFSET, o1503_VAULT_READ_OFFSET, o4010_SALVO_ANCHOR_FCNT, o6000_BACKGROUND].contains o) &&
    !([0x1211, 0x7008, 0x7100, 0x5001, 0x6002, 0x6100].contains (o / 256))

/-- Objects readable without a session (R3, R21). -/
def openRead (o : Nat) : Bool := 0x1000 ≤ o / 256 && o / 256 ≤ 0x1002

/-! Values. -/

/-- The bytes of a value of a type (R384). -/
def encodeVal (ty : ObjType) : Val → Bytes
  | .int v => leBytes (ty.bits / 8) (ofSigned ty.bits v)
  | .bytes b => b

/-- The value that bytes give for an object, none when the encoding is wrong (R384). -/
def decodeVal (d : ObjRow) (b : Bytes) : Option Val :=
  match d.ty with
  | .str => if b.all (fun x => 0x20 ≤ x.toNat && x.toNat ≤ 0x7E) && decide ((b.length : Int) ≤ d.hi) then some (.bytes b) else none
  | .octets => if decide (d.lo ≤ b.length ∧ (b.length : Int) ≤ d.hi) then some (.bytes b) else none
  | .bool => match b with
    | [x] => if x.toNat ≤ 1 then some (.int x.toNat) else none
    | _ => none
  | ty => if b.length = ty.bits / 8 then some (.int (if ty.signed then toSigned ty.bits (leNat b) else leNat b)) else none

/-- Whether a value has the form and the length that an object states (R384). -/
def encodingOk (d : ObjRow) (v : Val) : Bool := (decodeVal d (encodeVal d.ty v)) == some v

/-- Whether a value lies in the range of an object, or is a named value (R8, R385, R387). -/
def rangeOk (d : ObjRow) : Val → Bool
  | .int v => decide (d.lo ≤ v ∧ v ≤ d.hi) || d.extra.contains v
  | .bytes _ => true

/-- The device itself may give an object its default again, which for some objects (a UDP port of a row never set, R170) lies outside the values that a write may have (R404). -/
def defaultBack (c : Ctx) (o r : Nat) (v : Val) : Bool := c == ctxDevice && v == .int (objDefault o r)

/-! Checks. -/

/-- The row under which a scalar's per-session copy is held: the port. -/
def effRow (c : Ctx) (o r : Nat) : Nat := if perSession o then c.port else r

/-- Whether a row of 6002h is the sealed layer of its compositor (R298, R325). -/
def State.sealedRow (s : State) (r : Nat) : Bool := s.rdN o6000_SEALED_LAYER (r / 8) == r % 8

/-- The code of a missing role (R387, R396); R325's own codes stand in place of the generic one for the sealed layer and for sealed surfaces. -/
def State.roleCode (s : State) (c : Ctx) (o r : Nat) : Nat :=
  if (needsService o && !hasRole c.roles roleSERVICE) || (needsCustodian o && !hasRole c.roles roleCUSTODIAN) then stROLE
  else if hasRole c.roles roleSEAL then stOK
  else if needsSeal o || (o / 256 == 0x6002 && s.sealedRow r) then 0x1204
  else if (o == o6100_SURF_CMD || o == o6100_SURF_XFER_DATA) && s.isOn o6100_SURF_SEALED r then 0x1306
  else stOK

/-- The code that the checks of R387 give a WRITE, 0 when every generic check passes; `v` is `none` when the bytes do not decode. -/
def State.checkWrite (s : State) (c : Option Ctx) (o r : Nat) (v : Option Val) : Nat :=
  match findObj o with
  | none => stNO_OBJECT
  | some d =>
    if rowExists o r = false then stNO_OBJECT
    else if d.access = .ro then stACCESS
    else match c with
      | none => stNO_SESSION
      | some c =>
        if reaches c.roles d.expert = false then stLEVEL
        else if s.roleCode c o r ≠ stOK then s.roleCode c o r
        else if (!(s.owns c (s.ownOf o r)) && !ownStream c o r) || (svcOnly o && c.port < 4) then stNOT_OWNED
        else match v with
          | none => stENCODING
          | some v => if encodingOk d v = false then stENCODING else if d.access ≠ .rwc && !rangeOk d v && !defaultBack c o r v then stRANGE else stOK

/-- Whether an object is served in the state of the device: all but in recovery (R415) and after 'vin-stop' and 'vin-high' (R450). -/
def State.served (s : State) (o : Nat) (write : Bool) : Bool :=
  let i := o / 256
  let v := s.rd o1401_DEVICE_STATE 0
  let r := s.rd o1401_SAFE_REASON 0
  if v = DEVICE_STATE.recovery then (0x1000 ≤ i && i ≤ 0x1002 && !write) || (0x1130 ≤ i && i ≤ 0x1133)
  else if v = DEVICE_STATE.safe ∧ (r = SAFE_REASON.vin_stop ∨ r = SAFE_REASON.vin_high) then
    (0x1000 ≤ i && i ≤ 0x1002) || (0x1100 ≤ i && i ≤ 0x1102) || (0x1400 ≤ i && i ≤ 0x1402) || i == 0x1500 || i == 0x1501 || i == 0x1503
  else true

/-- Writes that a supply dip refuses: of the key store, of OTP, of firmware (R445). -/
def State.dipBusy (s : State) (o : Nat) : Bool :=
  s.pwr.dipFrom.isSome &&
  [o1100_KEY_ROLES, o1100_KEY_PORTS, o1100_KEY_WRAPPED, o1100_KEY_ERASE, o1131_ROOT_CMD, o1130_ROLLBACK_CMD, o1130_POLICY_SET, o1134_VKEY_CMD, o1132_FW_XFER_DATA].contains o

/-- Whether a session may read a row of the task table: a task of its own partition, or a row without one (R232, log entry 69). -/
def State.taskReadable (s : State) (c : Ctx) (o r : Nat) : Bool :=
  o / 256 != 0x4202 || c.part.isNone || (storeGet r s.tlr.tasks).all (fun x => x.part == c.part)

/-- The code that the checks of R387 give a READ. -/
def State.checkRead (s : State) (c : Option Ctx) (o r : Nat) : Nat :=
  match findObj o with
  | none => stNO_OBJECT
  | some d =>
    if rowExists o r = false then stNO_OBJECT
    else if d.access = .wo then stACCESS
    else match c with
      | none => if openRead o then stOK else stNO_SESSION
      | some c => if reaches c.roles (d.access == .ro && d.expert) = false then stLEVEL else if s.taskReadable c o r = false then stNOT_OWNED else if s.served o false then stOK else stBUSY

/-- What an object's own chapter does with a value that passed the checks: performer, row, value; answers a status. -/
abbrev Handler := Ctx → Nat → Val → State → Nat × State

/-- Store the value. -/
def storeVal (o : Nat) : Handler := fun _ r v s =>
  match v with
  | .int i => (stOK, s.wr o r i)
  | .bytes b => (stOK, s.wrOct o r b)

/-- Any write of an RWC object clears it to its default. -/
def clearRwc (o : Nat) : Handler := fun _ r _ s => (stOK, s.wr o r (objDefault o r))

/-- A number handler ignores bytes, which the encoding check has refused. -/
def onInt (f : Ctx → Nat → Int → State → Nat × State) : Handler := fun c r v s =>
  match v with
  | .int i => f c r i s
  | .bytes _ => (stENCODING, s)

/-- A byte-string handler. -/
def onBytes (f : Ctx → Nat → Bytes → State → Nat × State) : Handler := fun c r v s =>
  match v with
  | .bytes b => f c r b s
  | .int _ => (stENCODING, s)

/-- After an accepted write: a persistent object makes the running configuration dirty (1200h.06), also against a save in progress (R405). -/
def State.afterWrite (s : State) (o : Nat) : State :=
  if persistent o then
    let s := s.wr o1200_RUNNING_DIRTY 0 1
    match s.ctl.save with
    | some v => { s with ctl := { s.ctl with save := some { v with dirtyAfter := true } } }
    | none => s
  else s

/-- A refusal that its chapter's own object reports: SURF_RESULT (R332), CUSTODY_RESULT (R441). -/
def State.noteRefusal (s : State) (o r k : Nat) : State :=
  if o / 256 = 0x6100 ∧ 0x1301 ≤ k ∧ k ≤ 0x1306 then s.wr o6100_SURF_RESULT r k
  else if 0x1601 ≤ k ∧ k ≤ 0x1605 then s.wr o1600_CUSTODY_RESULT 0 k else s

/-! The standby and the mirror (R435). -/

/-- Objects that each module of a pair keeps for itself: those that a standby's own sessions may write (R435). -/
def ownSide (o : Nat) : Bool :=
  o / 256 == 0x1600 || (0x1100 ≤ o / 256 && o / 256 ≤ 0x1136) ||
  (match findObj o with
    | some d => d.access == .rwc
    | none => false)

/-- Whether the module is a standby: it runs, in 'standby' or in 'gap'. In the safe state the pair state holds nothing back (R458; log entry 121). -/
def State.isStandby (s : State) : Bool :=
  s.rd o1401_DEVICE_STATE 0 == DEVICE_STATE.running && (s.rd o1601_PAIR_STATE 0 == PAIR_STATE.standby || s.rd o1601_PAIR_STATE 0 == PAIR_STATE.gap)

/-- The peer's FCNT of a frame, from the module's own (R431). -/
def State.toPeer (s : State) (d fcnt : Nat) : Nat := ((fcnt + s.rd o1602_FCNT_OFFSET d) % 281474976710656).toNat

/-- The module's own FCNT of a frame, from the peer's. -/
def State.fromPeer (s : State) (d fcnt : Nat) : Nat := ((fcnt - s.rd o1602_FCNT_OFFSET d) % 281474976710656).toNat

/-- The frame of a domain and format that a command given now reaches: the one in progress before its latch instant, else the next (R199). -/
def State.frameNow (s : State) (d fc : Nat) : Nat × Nat :=
  let x := (storeGet d s.tds).getD {}
  (d, s.rdN o2100_FCNT d + (if s.now < x.tickAt + lineStartNs fc (fmtSwitchLine fc) then 0 else 1))

/-- The frame to which an accepted write applies, for the commands that apply at a latch instant. -/
def State.entryFrame (s : State) (c : Ctx) (o r : Nat) : Option (Nat × Nat) :=
  let f := fun (row : Nat) => if s.rdN o4002_DEST_DOMAIN row < 4 then some (s.frameNow (s.rdN o4002_DEST_DOMAIN row) (s.rdN o4002_DEST_FORMAT row)) else none
  if o = o4000_ROUTE_CMD then (destRow (s.rdN o4000_ROUTE_DEST c.port)).bind f
  else if o = o6000_COMMIT then f (4128 + 8 * r)
  else if o = o6220_HEAD_COMMIT then f (4384 + 64 * r)
  else none

/-- A value that is itself an FCNT crosses the link in the peer's count (R431). -/
def State.entryValue (s : State) (c : Ctx) (o r : Nat) (v : Int) : Int :=
  if o = o2003_ANCHOR_FCNT then (if v = 0 then 0 else s.toPeer (s.rdN o2003_ANCHOR_TD 0) v.toNat)
  else if o = o4010_SALVO_ANCHOR_FCNT then (if v = 0 then 0 else s.toPeer (s.rdN o4010_SALVO_ANCHOR_TD r) v.toNat)
  else if o = o4201_KEY_FCNT then s.toPeer (s.rdN o4201_KEY_TD c.port) v.toNat
  else v

/-- A channel of the Ivard link. -/
def State.ivard (s : State) (k : Nat) : IvardChan := (storeGet k s.pair.channels).getD {}

/-- Set a channel. -/
def State.setIvard (s : State) (k : Nat) (x : IvardChan) : State := { s with pair := { s.pair with channels := storePut natLt k x s.pair.channels } }

/-- Send a frame on channel 1 or 2: it is kept until it is acknowledged (R430). -/
def State.sendIvard (s : State) (k : Nat) (e : List MirrorEntry) : State :=
  let x := s.ivard k
  (s.setIvard k { x with next := (x.next + 1) % 16777216, unacked := x.unacked ++ [(x.next, e)], movedAt := if x.unacked = [] then s.now else x.movedAt }).emit
    (.ivard k x.next (x.lastRx.getD 0) e)

/-- An active module of a pair passes an accepted write to its standby (R435): on channel 2 the bytes of a ledger image or a surface, on channel 1 every other. -/
def State.mirrorWrite (s : State) (c : Ctx) (o r : Nat) (d : ObjRow) (v : Val) : State :=
  let st := s.rd o1601_PAIR_STATE 0
  if (st ≠ PAIR_STATE.active ∧ st ≠ PAIR_STATE.releasing) ∨ 5 ≤ c.port ∨ ownSide o then s
  else
    let v := match v with
      | .int i => Val.int (s.entryValue c o r i)
      | .bytes b => .bytes b
    let seq := (s.rdN o1601_MIRROR_SEQ_SENT 0 + 1) % 4294967296
    let bulk := o == o2002_XFER_DATA || o == o6100_SURF_XFER_DATA
    let e : MirrorEntry :=
      { seq := if bulk then 0 else seq
        fcnt := s.toPeer 0 (s.rdN o2100_FCNT 0)
        cycle := s.cadence
        port := c.port
        obj := o
        row := r
        value := encodeVal d.ty v
        frame := (s.entryFrame c o r).map (fun f => (f.1, s.toPeer f.1 f.2))
        roles := c.roles
        part := c.part }
    if bulk then s.sendIvard 2 [e] else (s.wr o1601_MIRROR_SEQ_SENT 0 seq).sendIvard 1 [e]

/-- A WRITE: the checks of R387, a standby's refusal (R435), then the object's own refusals and effect. -/
def State.tryWrite (s : State) (h : Handler) (c : Option Ctx) (o r : Nat) (v : Option Val) : Nat × State :=
  let k := s.checkWrite c o r v
  if k ≠ stOK then (k, s.noteRefusal o r k)
  else match c, v, findObj o with
    | some c, some v, some d =>
      if s.served o true = false ∨ s.dipBusy o then (stBUSY, s)
      else if s.isStandby ∧ c.port < 5 ∧ ownSide o = false then (0x1605, s.noteRefusal o r 0x1605)
      else
        let (k, s') := h c (effRow c o r) v s
        if k = stOK then (stOK, (s'.afterWrite o).mirrorWrite c o r d v) else (k, s'.noteRefusal o r k)
    | _, _, _ => (stENCODING, s)

/-- A WRITE by the open session of a port, its status noted. -/
def State.opWrite (s : State) (h : Handler) (port o r : Nat) (v : Val) : State :=
  let (k, s') := s.tryWrite h (s.ctxOf port) o r (some v)
  s'.answer k

/-! DESCRIBE (R386). -/

/-- Type codes of R384. -/
def ObjType.code : ObjType → Nat
  | .bool => 1
  | .u8 => 2
  | .u16 => 3
  | .u32 => 4
  | .u64 => 5
  | .i32 => 6
  | .i64 => 7
  | .f32 => 8
  | .str => 9
  | .octets => 10
  | .time96 => 11

/-- Access codes of R386. -/
def Access.code : Access → Nat
  | .ro => 0
  | .rw => 1
  | .wo => 2
  | .rwc => 3

/-- FLAGS of a descriptor (R386). -/
def objFlags (s : State) (o : Nat) : Nat :=
  (if persistent o then 1 else 0) + (if perSession o then 2 else 0) + (if timedWrite o then 4 else 0) + (if needsSeal o then 8 else 0) +
  (if needsService o then 16 else 0) + (if needsCustodian o then 32 else 0) +
  (match s.ownOf o 0 with
    | .res _ _ => 64
    | _ => 0)

/-- The descriptor of an object (R386). -/
def descriptor (s : State) (o : Nat) (d : ObjRow) : Bytes :=
  [BitVec.ofNat 8 d.ty.code, BitVec.ofNat 8 d.access.code, BitVec.ofNat 8 (if d.expert then 1 else 0), BitVec.ofNat 8 (objFlags s o)] ++
  leBytes 8 (ofSigned 64 d.lo) ++ leBytes 8 (ofSigned 64 d.hi) ++ leBytes 8 (ofSigned 64 d.dflt) ++
  [BitVec.ofNat 8 d.name.length] ++ ascii d.name ++ (d.enums.map (fun e => BitVec.ofNat 8 e.length :: ascii e)).flatten

/-- DESCRIBE: the descriptor of an existing object; it needs no session. -/
def State.describe (s : State) (o r : Nat) : Nat × Bytes :=
  match findObj o with
  | some d => if rowExists o r then (stOK, descriptor s o d) else (stNO_OBJECT, [])
  | none => (stNO_OBJECT, [])

end Sys2Proof.Machine
end

