-- ==== Sys2Proof/Machine/Power.lean ====
section
/-! DEFINITION. Machine/Power.lean: what the rest of the machine needs of the supervisor: which bank and plan serve a domain, which power domains are held
on and why, and their ramping (R31, R42, R117, R139, R172, R448, R453). -/

namespace Sys2Proof.Machine

open Sys2Proof

/-! Banks and plans. -/

/-- A ledger bank: 0 for A, 1 for B. -/
def State.bank (s : State) (b : Nat) : Bank := (storeGet b s.led.banks).getD {}

/-- Set a ledger bank. -/
def State.setBank (s : State) (b : Nat) (x : Bank) : State := { s with led := { s.led with banks := storePut natLt b x s.led.banks } }

/-- The bank that serves a timing domain. -/
def State.serving (s : State) (d : Nat) : Option Nat := storeGet d s.led.serving

/-- The plan that serves a timing domain; nothing is planned in a domain that no bank serves. -/
def State.planOf (s : State) (d : Nat) : Plan :=
  match s.serving d with
  | some b => (s.bank b).plan
  | none => {}

/-- The timing domains. -/
def tdList : List Nat := [0, 1, 2, 3]

/-- The two banks. -/
def bankList : List Nat := [0, 1]

/-- State of a bank (R42). -/
def State.bankState (s : State) (b : Nat) : Int := s.rd o2001_BANK_STATE b

/-- Move a bank to a state. -/
def State.setBankState (s : State) (b : Nat) (v : Int) : State := s.wr o2001_BANK_STATE b v

/-- The active bank: the one serving TD0, or the lowest-numbered domain in use (2000h.01). -/
def State.activeBank (s : State) : Option Nat := tdList.findSome? (fun d => s.serving d)

/-- The plan of the active bank. -/
def State.activePlan (s : State) : Plan :=
  match s.activeBank with
  | some b => (s.bank b).plan
  | none => {}

/-- Whether some bank serves a domain. -/
def State.inUse (s : State) (d : Nat) : Bool := (s.serving d).isSome

/-- A timing domain beside its objects. -/
def State.td (s : State) (d : Nat) : Td := (storeGet d s.tds).getD {}

/-- Set a timing domain. -/
def State.setTd (s : State) (d : Nat) (x : Td) : State := { s with tds := storePut natLt d x s.tds }

/-- Frame counter of a domain (R83). -/
def State.fcnt (s : State) (d : Nat) : Nat := s.rdN o2100_FCNT d

/-- The planned entry of an endpoint in the bank that serves its domain. -/
def State.planned (s : State) (ep : Nat) : Option PlanEndpoint :=
  tdList.findSome? (fun d => (s.planOf d).endpoints.find? (fun e => e.ep == ep && e.dom == d))

/-- The lane mode that the bank serving a domain plans for a lane, over the banks in force. -/
def State.plannedLane (s : State) (l : Nat) : Option Nat :=
  tdList.findSome? (fun d => ((s.planOf d).laneModes.find? (fun e => e.1 == l)).map (·.2))

/-- Whether a mode is an Ethernet mode (R112). -/
def ethMode (m : Int) : Bool := decide (LANE_MODE.m10gbase_r ≤ m ∧ m ≤ LANE_MODE.m100gbase_cr1)

/-- Whether a mode is an SDI mode (R112). -/
def sdiMode (m : Int) : Bool := decide (LANE_MODE.sdi_1_5 ≤ m ∧ m ≤ LANE_MODE.sdi_auto)

/-! Power domains. -/

/-- Subsystem of a power domain (R10). -/
def pdSubsys (pd : Nat) : Nat :=
  if pd < 24 then 1 else if pd < 48 then 6 else if pd < 56 then 4 else if pd < 64 then 2 else if pd < 68 then 3 else if pd < 76 then 7
  else if pd < 82 then 5 else if pd < 86 then 8 else if pd < 90 then 10 else if pd < 94 then 7 else if pd = 94 then 11 else 12

/-- State of a power domain (R448). -/
def State.pdState (s : State) (pd : Nat) : Int := s.rd o1410_PD_STATE pd

/-- Whether a power domain is on. -/
def State.pdOn (s : State) (pd : Nat) : Bool := s.pdState pd == PD_STATE.on

/-- Whether a lane's group is powered. -/
def State.lanePowered (s : State) (l : Nat) : Bool := s.pdOn (l / 8)

/-- Lanes named by PTP ports and by enabled LREC candidates, held on from stage 4 (R453). -/
def State.refLanes (s : State) : List Nat :=
  if s.pwr.ptpHold then
    [s.rdN o2303_PTP_LANE 0, s.rdN o2303_PTP_LANE 1] ++ ([5, 6].filter (fun c => s.isOn o2200_CAND_ENABLE c)).map (fun c => s.rdN o2200_SOURCE_LANE c)
  else []

/-- Whether an enabled flow row names a lane of packet engine `k` (R139). -/
def State.engineNamed (s : State) (k : Nat) : Bool :=
  (s.listed' o3600_FLOW_ENABLE).any (fun f => s.rdN o3600_LANE_P f / 24 == k || (s.rdN o3600_LANE_S f != 65535 && s.rdN o3600_LANE_S f / 24 == k))

/-- Bit 2 of PD_HOLDS (R117, R139, R172, R453). -/
def State.ruleHold (s : State) (pd : Nat) : Bool :=
  if pd < 24 then (List.range 8).any (fun k => s.rd o3000_LANE_MODE (8 * pd + k) != 0) || s.refLanes.any (fun l => l / 8 == pd)
  else if 56 ≤ pd && pd < 64 then s.engineNamed (pd - 56)
  else if 64 ≤ pd && pd < 68 then (List.range 48).any (fun k => ethMode (s.rd o3000_LANE_MODE (48 * (pd - 64) + k)))
  else false

/-- Domains that the safe state keeps, by hold bit 4 (R450). -/
def State.safeHold (s : State) (pd : Nat) : Bool :=
  s.rd o1401_DEVICE_STATE 0 == DEVICE_STATE.safe &&
  (let r := s.rd o1401_SAFE_REASON 0
   if r == SAFE_REASON.vin_stop || r == SAFE_REASON.vin_high then false
   else if pd < 24 then true
   else if pd == 86 || pd == 94 || pd == 95 then true
   else if 76 ≤ pd && pd < 82 then
     r != SAFE_REASON.thermal && !(r == SAFE_REASON.domain && (List.range 6).any (fun h => s.pdState (76 + h) == PD_STATE.fault || s.pdState (76 + h) == PD_STATE.locked_off))
   else false)

/-- PD_HOLDS of a domain (R448). -/
def State.holdBits (s : State) (pd : Nat) : Nat :=
  let running := s.rd o1401_DEVICE_STATE 0 != DEVICE_STATE.safe && s.rd o1401_DEVICE_STATE 0 != DEVICE_STATE.stopping
  (if bankList.any (fun b => s.bankState b == BANK_STATE.active && (s.bank b).plan.power.contains pd) then 1 else 0) +
  (if bankList.any (fun b => (s.bankState b == BANK_STATE.armed || s.bankState b == BANK_STATE.retiring) && (s.bank b).plan.power.contains pd) then 2 else 0) +
  (if running && s.ruleHold pd then 4 else 0) +
  (if s.pwr.testHold.contains pd then 8 else 0) +
  (if s.safeHold pd then 16 else 0)

/-- Power domains PD00-PD95. -/
def pdList : List Nat := List.range 96

/-- Recompute one domain's holds and start its ramp, or set a lane group held only by bit 4 to 'hold' (R448). A domain in 'fault' or 'locked off' stays so. -/
def State.refreshPd (s : State) (pd : Nat) : State :=
  let h := s.holdBits pd
  let s := s.wr o1410_PD_HOLDS pd h
  let st := s.pdState pd
  if st = PD_STATE.fault ∨ st = PD_STATE.locked_off then s
  else if pd < 24 ∧ h = 16 then s.wr o1410_PD_STATE pd PD_STATE.hold
  else if h ≠ 0 ∧ (st = PD_STATE.off ∨ st = PD_STATE.hold) then s.wr o1410_PD_STATE pd PD_STATE.ramping
  else s

/-- Recompute every hold. -/
def State.refreshPower (s : State) : State := pdList.foldl State.refreshPd s

/-- At the end of a ledger cycle a domain without a hold switches off (R448). -/
def State.dropPower (s : State) : State :=
  pdList.foldl (fun s pd =>
    let st := s.pdState pd
    if s.rdN o1410_PD_HOLDS pd = 0 ∧ (st = PD_STATE.ramping ∨ st = PD_STATE.on ∨ st = PD_STATE.hold) then s.wr o1410_PD_STATE pd PD_STATE.off else s) s

end Sys2Proof.Machine
end

