-- ==== Sys2Proof/Machine/Session.lean ====
section
/-! DEFINITION. Machine/Session.lean: sessions, keys and partitions (R378-R380, R388-R401). -/

namespace Sys2Proof.Machine

open Sys2Proof

/-! Messages. -/

/-- One second and the other intervals of this chapter, in ns. -/
def second : Nat := 1000000000

/-- Bytes of a message header (R379). -/
def headerLen : Nat := 20

/-- Whether LENGTH matches the datagram of a message without a MAC. -/
def plainLengthOk (d : Bytes) : Bool := decide (headerLen ≤ d.length) && decide (fieldNat 12 2 d + headerLen = d.length)

/-- Whether LENGTH matches the datagram of a message with a MAC. -/
def macLengthOk (d : Bytes) : Bool := decide (headerLen + 16 ≤ d.length) && decide (fieldNat 12 2 d + headerLen + 16 = d.length)

/-- The body of a message. -/
def msgBody (d : Bytes) : Bytes := slice headerLen (fieldNat 12 2 d) d

/-- Send a message without a session. -/
def State.sendPlain (s : State) (port addr udp type status : Nat) (body : Bytes) : State :=
  s.emit (.sdp port addr udp (msgHeader type 0 0 0 body.length status 0 ++ body))

/-- ERROR with a status (R380). -/
def State.sendError (s : State) (port addr udp status : Nat) : State := s.sendPlain port addr udp 0x7F status []

/-- Messages with SESSION_ID 0 are accepted at up to 100 per second per port, counted over each whole second (R380): whether one more is, and the count kept. -/
def State.admitPlain (s : State) (port : Nat) : Bool × State :=
  let p := s.port port
  let sec := s.now / second
  let n := if p.second = sec then p.inSecond else 0
  if n < 100 then (true, s.setPort port { p with second := sec, inSecond := n + 1 }) else (false, s)

/-- A message with SESSION_ID 0 on a port that answers: the excess is dropped, a wrong VERSION and a wrong LENGTH are answered with ERROR (R380); what passes goes to `f`. -/
def State.withPlain (s : State) (port addr udp : Nat) (d : Bytes) (f : State → State) : State :=
  if s.talks port = false then s
  else match s.admitPlain port with
  | (false, s) => s
  | (true, s) =>
    if fieldNat 0 1 d ≠ 1 then s.sendError port addr udp 0x0806
    else if plainLengthOk d = false then s.sendError port addr udp 9
    else f s

/-- Whether a pending challenge is still valid (R388). -/
def Challenge.valid (now : Nat) (c : Challenge) : Bool := decide (now < c.issued + 10 * second)

/-- Set SESSION_STATE of a port. -/
def State.setSession (s : State) (port : Nat) (v : Int) : State := s.wr o1101_SESSION_STATE port v

/-- Drop challenges that have expired; a port left without one is closed unless it is open or locked out (R392). -/
def State.expireChallenges (s : State) (port : Nat) : State :=
  let p := s.port port
  let cs := p.challenges.filter (Challenge.valid s.now)
  let s := s.setPort port { p with challenges := cs }
  if s.rd o1101_SESSION_STATE port = SESSION_STATE.challenged ∧ cs = [] then s.setSession port SESSION_STATE.closed else s

/-- A HELLO is answered with a CHALLENGE; a fifth pending challenge replaces the oldest (R388, R392). -/
def State.hello (s : State) (port addr udp : Nat) : State :=
  if s.rd o1101_SESSION_STATE port = SESSION_STATE.locked_out then s.sendError port addr udp 0x0804
  else
    let (n, s) := s.takeFreeBytes 32
    let p := s.port port
    let cs := keepLast 4 (p.challenges ++ [⟨n, addr, udp, s.now⟩])
    let s := s.setPort port { p with challenges := cs }
    let s := if s.rd o1101_SESSION_STATE port = SESSION_STATE.closed then s.setSession port SESSION_STATE.challenged else s
    s.sendPlain port addr udp 2 0 n

/-- The session that a message with a SESSION_ID belongs to, when its sender, identifier and MAC are the session's (R390). -/
def State.authentic (s : State) (port addr udp : Nat) (d : Bytes) : Option Session :=
  match (s.port port).session with
  | none => none
  | some x =>
    if x.id = fieldNat 4 4 d ∧ x.addr = addr ∧ x.udp = udp ∧ msgMac x.key 0#8 (d.take (d.length - 16)) = d.drop (d.length - 16) then some x else none

/-- A message of a type that needs no session: one that carries a SESSION_ID nevertheless is discarded, and counted when it is not the port's session's (R390). -/
def State.withoutSession (s : State) (port addr udp : Nat) (d : Bytes) (f : State → State) : State :=
  if fieldNat 4 4 d = 0 then s.withPlain port addr udp d f
  else if s.talks port = false ∨ fieldNat 0 1 d ≠ 1 ∨ macLengthOk d = false ∨ (s.authentic port addr udp d).isSome then s
  else s.bump o1101_AUTH_DISCARDS port

def execHello (t port addr udp : Nat) (d : Bytes) (s : State) : Host.Outcome State Fault Refusal :=
  s.run t (fun s => s.withoutSession port addr udp d (fun s => if fieldNat 1 1 d = 1 then s.hello port addr udp else s))

/-! Sessions. -/

/-- The key that a slot holds: the first copy whose CRC holds (R395). -/
def KeySlot.key (k : KeySlot) : Option Bytes :=
  if crc32c k.a.key = k.a.crc ∧ k.a.key.length = 32 then some k.a.key
  else if crc32c k.b.key = k.b.crc ∧ k.b.key.length = 32 then some k.b.key else none

/-- The key slot of the key store. -/
def State.keySlot (s : State) (k : Nat) : KeySlot := (storeGet k s.ctl.keys).getD {}

/-- The key bytes of a slot; a slot of the key store that nothing has written holds 32 zero bytes (the factory key of KEY0 is in the delivery record,
log entry 2). -/
def State.keyBytes (s : State) (k : Nat) : Bytes := ((s.keySlot k).key).getD (zeros 32)

/-- Both copies of a slot are written (R395). -/
def State.putKey (s : State) (k : Nat) (key : Bytes) : State :=
  { s with ctl := { s.ctl with keys := storePut natLt k ⟨⟨key, crc32c key⟩, ⟨key, crc32c key⟩⟩ s.ctl.keys } }

/-- Whether a slot may log in on a port (R389, 0801h): valid, permitted, and holding a level. -/
def State.slotUsable (s : State) (k port : Nat) : Bool :=
  decide (k < 8) && s.rd o1100_KEY_STATE k == KEY_STATE.valid && (s.rdN o1100_KEY_PORTS k).testBit port && reaches (s.rdN o1100_KEY_ROLES k) false

/-- PROOF of a LOGIN (R388). -/
def loginProof (key nd nh : Bytes) (port addr udp : Nat) : Bytes :=
  hmacSha256 key (ascii "SQDP-LOGIN" ++ nd ++ nh ++ [BitVec.ofNat 8 port] ++ beBytes 16 addr ++ leBytes 2 udp)

/-- DEVICE_PROOF of a LOGIN_ACK (R389). -/
def deviceProof (key nd nh : Bytes) (id : Nat) : Bytes := hmacSha256 key (ascii "SQDP-DEVICE" ++ nd ++ nh ++ leBytes 4 id)

/-- The session key (R389). -/
def sessionKey (key nd nh : Bytes) (id : Nat) : Bytes := hmacSha256 key (ascii "SQDP-SESSION" ++ nd ++ nh ++ leBytes 4 id)

/-- A session identifier: random, not 0, not the port's previous one (R389). -/
def sessionId (free last : Nat) : Nat :=
  let id := free % 4294967295 + 1
  if id = last then id % 4294967295 + 1 else id

/-- Every per-session object returns to its default (R400). -/
def State.dropPerSession (s : State) (port : Nat) : State :=
  { s with
    regs := s.regs.filter (fun c => !(perSession c.1.1 && c.1.2 == port))
    octs := s.octs.filter (fun c => !(perSession c.1.1 && c.1.2 == port))
    sec := { s.sec with att := storeDel port s.sec.att, signing := storeDel port s.sec.signing, waiting := s.sec.waiting.filter (· != port) } }

/-- The tally claims of a port's session are released (R371, R393). -/
def State.dropClaims (s : State) (port : Nat) : State :=
  let mine := (s.itg.claims.filter (fun c => c.2 == port)).map (·.1)
  let s := { s with itg := { s.itg with claims := s.itg.claims.filter (fun c => c.2 != port) } }
  mine.foldl (fun s ch => (s.wr o7100_TALLY_CLAIM ch 0).wr o7100_TALLY_USE ch TALLY_USE.free) s

/-- A session ends (R392, R393): the EVENT of kind 0003h first where the reason asks for it, then the per-session objects, claims and stream go. -/
def State.endSession (s : State) (port : Nat) (reason : Int) : State :=
  match (s.port port).session with
  | none => s
  | some _ =>
    let s := if reason = LAST_END_REASON.logout ∨ reason = LAST_END_REASON.idle ∨ reason = LAST_END_REASON.restart then s
      else s.sendEvent port 3 [BitVec.ofNat 8 reason.toNat, 0#8, 0#8, 0#8]
    let s := s.setPort port { s.port port with session := none, challenges := [] }
    let s := ((((s.setSession port SESSION_STATE.closed).wr o1101_SESSION_ID port 0).wr o1101_SESSION_KEY_SLOT port 255).wr o1101_SESSION_ROLES port 0).wr
      o1101_LAST_END_REASON port reason
    let s := (s.wrOct o1101_SESSION_PEER_ADDR port (zeros 16)).wr o1101_SESSION_PEER_PORT port 0
    let s := (s.dropPerSession port).dropClaims port
    let s := s.wr o1505_STREAM_ENABLE port 0
    { s with alm := { s.alm with windows := s.alm.windows.filter (fun w => w.1.1 != port), streams := storeDel port s.alm.streams } }

/-- A session of another port ends now; the writing session's own ends once its response has been sent (R397). -/
def State.requestEnd (s : State) (c : Ctx) (port : Nat) (reason : Int) : State :=
  if c.port = port then { s with ctl := { s.ctl with endAfter := s.ctl.endAfter ++ [(port, reason)] } } else s.endSession port reason

/-- The end that waits for a response on a port takes place. -/
def State.flushEnds (s : State) (port : Nat) : State :=
  (s.ctl.endAfter.filter (fun e => e.1 == port)).foldl (fun s e => s.endSession e.1 e.2)
    { s with ctl := { s.ctl with endAfter := s.ctl.endAfter.filter (fun e => e.1 != port) } }

/-- An operation of a port that a command row names: performed, its status noted, and the ends it asked for carried out. -/
def State.opCmd (s : State) (h : Handler) (port o r : Nat) (v : Val) : State := (s.opWrite h port o r v).flushEnds port

/-- A refused LOGIN (R389, R392): 0801h and 0802h count, and the fifth locks the port out for 60 s. -/
def State.refuseLogin (s : State) (port addr udp status : Nat) (counts : Bool) : State :=
  let s := s.sendPlain port addr udp 4 status []
  if counts then
    let s := s.bump o1101_LOGIN_FAILURES port
    let p := s.port port
    if p.failures + 1 = 5 then
      ((s.setPort port { p with failures := 0, challenges := [], lockedUntil := some (s.now + 60 * second) }).setSession port SESSION_STATE.locked_out).raise
        .CTL_LOGIN_LOCKOUT port
    else (s.setPort port { p with failures := p.failures + 1 }).expireChallenges port
  else s.expireChallenges port

/-- An accepted LOGIN opens the session (R389, R392, R400). -/
def State.openSession (s : State) (port addr udp k : Nat) (nd nh : Bytes) : State :=
  let (f, s) := s.takeFree
  let p := s.port port
  let id := sessionId f p.lastId
  let key := s.keyBytes k
  let roles := s.rdN o1100_KEY_ROLES k
  let x : Session := { id := id, slot := k, roles := roles, addr := addr, udp := udp, key := sessionKey key nd nh id, lastAuth := s.now }
  let s := s.dropPerSession port
  let s := s.setPort port { p with session := some x, lastId := id, failures := 0 }
  let s := ((((s.setSession port SESSION_STATE.open).wr o1101_SESSION_ID port id).wr o1101_SESSION_KEY_SLOT port k).wr o1101_SESSION_ROLES port roles).wr
    o1101_SESSION_PEER_PORT port udp
  let s := (s.wrOct o1101_SESSION_PEER_ADDR port (beBytes 16 addr)).bump o1100_KEY_LOGINS k
  let part := match s.partOf port roles with
    | some q => q
    | none => 255
  s.sendPlain port addr udp 4 0 (leBytes 4 id ++ [BitVec.ofNat 8 roles, BitVec.ofNat 8 part, 0#8, 0#8] ++ deviceProof key nd nh id)

/-- A LOGIN (R388, R389, R392): the sender's challenge is consumed whatever the outcome. The refusals stand in the order locked out, session open, no
challenge, slot, proof (log entry 9). -/
def State.login (s : State) (port addr udp : Nat) (body : Bytes) : State :=
  if s.rd o1101_SESSION_STATE port = SESSION_STATE.locked_out then s.sendError port addr udp 0x0804
  else
    let k := fieldNat 0 1 body
    let nh := slice 4 32 body
    let proof := slice 36 32 body
    let p := s.port port
    let mine := p.challenges.filter (fun c => c.addr == addr && c.udp == udp && c.valid s.now)
    let hit := mine.find? (fun c => loginProof (s.keyBytes k) c.nonce nh port addr udp == proof)
    match hit.or mine.head? with
    | none => if p.session.isSome then s.refuseLogin port addr udp 0x0803 false else s.refuseLogin port addr udp 0x0805 false
    | some c =>
      let s := s.setPort port { p with challenges := p.challenges.erase c }
      if p.session.isSome then s.refuseLogin port addr udp 0x0803 false
      else if s.slotUsable k port = false then s.refuseLogin port addr udp 0x0801 true
      else if hit.isNone then s.refuseLogin port addr udp 0x0802 true
      else s.openSession port addr udp k c.nonce nh

def execLogin (t port addr udp : Nat) (d : Bytes) (s : State) : Host.Outcome State Fault Refusal :=
  s.run t (fun s => s.withoutSession port addr udp d (fun s =>
    if fieldNat 1 1 d ≠ 3 then s else if fieldNat 12 2 d ≠ 68 then s.sendError port addr udp 9 else s.login port addr udp (msgBody d)))

/-- Replace the open session of a port. -/
def State.putSession (s : State) (port : Nat) (x : Session) : State := s.setPort port { s.port port with session := some x }

/-- A message of a session: malformed ones are discarded, unauthentic ones discarded and counted (R380, R390); then the sequence rule of R391. What is
next in sequence goes to `f` with the session. -/
def State.withSession (s : State) (port addr udp : Nat) (d : Bytes) (f : Session → State → State) : State :=
  if s.talks port = false ∨ fieldNat 0 1 d ≠ 1 ∨ macLengthOk d = false then s
  else match s.authentic port addr udp d with
    | none => s.bump o1101_AUTH_DISCARDS port
    | some x =>
      let x := { x with lastAuth := s.now }
      let s := s.putSession port x
      let seq := fieldNat 8 4 d
      if seq = x.lastSeq + 1 then f { x with lastSeq := seq } (s.putSession port { x with lastSeq := seq, kept := none })
      else match x.kept with
        | some k => if seq = x.lastSeq then (s.bump o1101_RETRANSMITS port).emit (.sdp port addr udp k) else s.bump o1101_REPLAY_DISCARDS port
        | none => s.bump o1101_REPLAY_DISCARDS port

/-- LOGOUT counts as a request: it is answered, then the session ends (R391, R392). -/
def execLogout (t port addr udp : Nat) (d : Bytes) (s : State) : Host.Outcome State Fault Refusal :=
  s.run t (fun s =>
    if fieldNat 1 1 d ≠ 5 then s
    else s.withSession port addr udp d (fun x s => (s.emit (.sdp port addr udp (sessionMsg x 0x11 x.lastSeq 0 0 []))).endSession port LAST_END_REASON.logout))

/-- A challenge expires 10 s after it was issued (R388, R392). -/
def execChallengeExpiry (t port : Nat) (s : State) : Host.Outcome State Fault Refusal := s.run t (fun s => s.expireChallenges port)

/-- A session without an authenticated request for SESSION_IDLE_S ends (R392). -/
def State.idleCheck (s : State) (port : Nat) : State :=
  match (s.port port).session with
  | some x => if x.lastAuth + s.rdN o1101_SESSION_IDLE_S port * second ≤ s.now then s.endSession port LAST_END_REASON.idle else s
  | none => s

def execSessionIdleTimeout (t port : Nat) (s : State) : Host.Outcome State Fault Refusal := s.run t (fun s => s.idleCheck port)

/-- A port locked out returns to 'closed' after 60 s, and CTL_LOGIN_LOCKOUT clears (R392). -/
def State.unlock (s : State) (port : Nat) : State :=
  match (s.port port).lockedUntil with
  | some u =>
    if u ≤ s.now then ((s.setPort port { s.port port with lockedUntil := none }).setSession port SESSION_STATE.closed).clear .CTL_LOGIN_LOCKOUT port else s
  | none => s

def execLockoutExpiry (t port : Nat) (s : State) : Host.Outcome State Fault Refusal := s.run t (fun s => s.unlock port)

/-! Port addresses (R378). -/

/-- The addresses that the objects of a port hold. -/
def State.addrWritten (s : State) (port : Nat) : NetAddr :=
  ⟨s.rdOct o1120_CP_IPV4_ADDR port, s.rdN o1120_CP_IPV4_PREFIX port, s.rdOct o1120_CP_IPV4_GATEWAY port, s.rdOct o1120_CP_IPV6_ADDR port,
    s.rdN o1120_CP_IPV6_PREFIX port, s.rdN o1120_CP_UDP_PORT port⟩

/-- A write of an address, prefix, gateway or UDP port takes effect 1 s after its response (R378); until then the addresses in force stand. -/
def writeAddr (o : Nat) : Handler := fun c r v s =>
  let p := s.port r
  let old := p.addrInForce.getD (s.addrWritten r)
  let (k, s) := storeVal o c r v s
  (k, s.setPort r { s.port r with addrInForce := some old, addrEffectAt := some (s.now + second) })

/-- The written addresses come into force and the session ends (R378). -/
def State.addrEffect (s : State) (port : Nat) : State :=
  match (s.port port).addrEffectAt with
  | some u =>
    if u ≤ s.now then
      (s.endSession port LAST_END_REASON.address_change).setPort port
        { (s.endSession port LAST_END_REASON.address_change).port port with addrEffectAt := none, addrInForce := some (s.addrWritten port) }
    else s
  | none => s

def execAddressChangeEffect (t port : Nat) (s : State) : Host.Outcome State Fault Refusal := s.run t (fun s => s.addrEffect port)

/-- SESSION_END_CMD: the named port's session receives its EVENT and ends (R392, R396). -/
def writeSessionEnd : Handler := fun c r _ s => (stOK, s.requestEnd c r LAST_END_REASON.forced)

def execSessionEndCmd (t port target : Nat) (s : State) : Host.Outcome State Fault Refusal :=
  s.run t (fun s => s.opCmd writeSessionEnd port o1101_SESSION_END_CMD target (.int 0))

/-! Keys (R395-R397). -/

/-- Key slots. -/
def keyList : List Nat := [0, 1, 2, 3, 4, 5, 6, 7]

/-- Whether a valid slot holds EXPERT. -/
def State.expertRemains (s : State) : Bool :=
  keyList.any (fun k => s.rd o1100_KEY_STATE k == KEY_STATE.valid && hasRole (s.rdN o1100_KEY_ROLES k) roleEXPERT)

/-- CTL_KEY_INVALID stands while a slot reads 'invalid', CTL_FACTORY_KEY while KEY0 is the factory's (R395, R410). -/
def State.keyAlarms (s : State) : State :=
  (keyList.foldl (fun s k => s.alarmWhile .CTL_KEY_INVALID k (s.rd o1100_KEY_STATE k == KEY_STATE.invalid)) s).alarmWhile .CTL_FACTORY_KEY noInst
    (s.isOn o1100_KEY_FACTORY 0)

/-- An accepted change of a slot: KEY_WRITES advances, KEY0 is the factory's no more, and every session of the slot ends (R395, R397). -/
def State.slotChanged (s : State) (c : Ctx) (k : Nat) : State :=
  portList.foldl (fun s p =>
    match (s.port p).session with
    | some x => if x.slot = k then s.requestEnd c p LAST_END_REASON.key_change else s
    | none => s) (if k = 0 then (s.bump o1100_KEY_WRITES k).wr o1100_KEY_FACTORY 0 0 else s.bump o1100_KEY_WRITES k).keyAlarms

/-- The key that wraps a new key (R397). -/
def keyWrap (ks : Bytes) (slot writes : Nat) : Bytes := hmacSha256 ks (ascii "SQDP-KEYWRAP" ++ [BitVec.ofNat 8 slot] ++ leBytes 4 writes)

/-- The key of the session that performs a write. -/
def State.ksOf (s : State) (c : Ctx) : Bytes :=
  match (s.port c.port).session with
  | some x => x.key
  | none => []

/-- A wrapped key is unwrapped, checked and stored (R397). -/
def writeKeyWrapped : Handler := onBytes fun c k b s =>
  let knew := xorBytes (b.take 32) (keyWrap (s.ksOf c) k (s.rdN o1100_KEY_WRITES k))
  if (hmacSha256 knew (ascii "SQDP-KEYCHECK")).take 8 ≠ b.drop 32 then (0x0807, s)
  else
    let s' := (s.putKey k knew).wr o1100_KEY_STATE k KEY_STATE.valid
    if s'.expertRemains = false then (0x0808, s)
    else (stOK, s'.slotChanged c k)

/-- A slot is erased unless no valid slot holding EXPERT would remain (R397). -/
def writeKeyErase : Handler := fun c k _ s =>
  let s' := { s with ctl := { s.ctl with keys := storeDel k s.ctl.keys } }.wr o1100_KEY_STATE k KEY_STATE.empty
  if s'.expertRemains = false then (0x0808, s) else (stOK, s'.slotChanged c k)

/-- A write of a slot's roles: no role the writer lacks, and an EXPERT slot must remain (R397). -/
def writeKeyRoles : Handler := onInt fun c k v s =>
  if (List.range 5).any (fun i => v.toNat.testBit i && !hasRole c.roles i) then (0x0808, s)
  else
    let s' := s.wr o1100_KEY_ROLES k v
    if s'.expertRemains = false then (0x0808, s) else (stOK, s'.slotChanged c k)

/-- A write of a slot's ports (R397). -/
def writeKeyPorts : Handler := onInt fun c k v s =>
  let s' := s.wr o1100_KEY_PORTS k v
  if s'.expertRemains = false then (0x0808, s) else (stOK, s'.slotChanged c k)

def execKeyWrapped (t port slot : Nat) (wrapped : Bytes) (s : State) : Host.Outcome State Fault Refusal :=
  s.run t (fun s => s.opCmd writeKeyWrapped port o1100_KEY_WRAPPED slot (.bytes wrapped))

def execKeyErase (t port slot : Nat) (s : State) : Host.Outcome State Fault Refusal :=
  s.run t (fun s => s.opCmd writeKeyErase port o1100_KEY_ERASE slot (.int 0))

def execKeyRolesWrite (t port slot : Nat) (ports : Bool) (v : Nat) (s : State) : Host.Outcome State Fault Refusal :=
  s.run t (fun s => if ports then s.opCmd writeKeyPorts port o1100_KEY_PORTS slot (.int v) else s.opCmd writeKeyRoles port o1100_KEY_ROLES slot (.int v))

/-! Partitions (R398-R401). -/

/-- The range of a class (R398). -/
def classRange : Nat → Nat × Nat
  | 1 => (0x8000, 0x8FFF)
  | 2 => (0, 16383)
  | 3 => (0, 15)
  | 4 => (0, 15)
  | 5 => (0, 7)
  | 6 => (0, 3)
  | 7 => (0, 31)
  | 8 => (0, 16383)
  | 9 => (0, 8191)
  | 10 => (0, 191)
  | _ => (0, 0)

/-- The staged map: class, first, last and owner of every row. -/
def State.stagedMap (s : State) : List (Int × Int × Int × Int) :=
  mapRows.map (fun r => (s.rd o1211_PART_CLASS r, s.rd o1211_PART_FIRST r, s.rd o1211_PART_LAST r, s.rd o1211_PART_OWNER r))

/-- Whether a row lies outside its class or has FIRST above LAST. -/
def rowOutside (e : Int × Int × Int × Int) : Bool :=
  let lim := classRange e.1.toNat
  e.1 != 0 && (decide (e.2.1 < lim.1) || decide ((lim.2 : Int) < e.2.2.1) || decide (e.2.2.1 < e.2.1))

/-- Whether two rows of one class overlap with different owners. -/
def rowsClash (a b : Int × Int × Int × Int) : Bool :=
  a.1 != 0 && a.1 == b.1 && decide (a.2.1 ≤ b.2.2.1) && decide (b.2.1 ≤ a.2.2.1) && a.2.2.2 != b.2.2.2

/-- The first failing row of a map under 0901h. -/
def mapFault (m : List (Int × Int × Int × Int)) : Option Nat :=
  (List.range m.length).find? (fun i => rowOutside (m.getD i (0, 0, 0, 0)) || m.any (rowsClash (m.getD i (0, 0, 0, 0))))

/-- Put a map and a device owner in force. -/
def State.putMap (s : State) (m : List (Int × Int × Int × Int)) (owner : Nat) : State :=
  let s := { s with ctl := { s.ctl with deviceOwner := owner } }
  (mapRows.zip m).foldl (fun s (r, e) =>
    (((s.wr o1212_PART_IN_FORCE_CLASS r e.1).wr o1212_PART_IN_FORCE_FIRST r e.2.1).wr o1212_PART_IN_FORCE_LAST r e.2.2.1).wr o1212_PART_IN_FORCE_OWNER r e.2.2.2) s

/-- Whether every following channel of an AFV range belongs to the partition that owns its destination (R399). -/
def State.afvWhole (s : State) (r base count : Nat) : Bool :=
  let own := s.ownerOfOwn (s.ownOf o4002_AFV_BASE_CH r)
  (List.range count).all (fun i => some (s.ownerOf 2 (base + i)) == own)

/-- Whether a map would leave every AFV range whole. -/
def State.afvHolds (s : State) (m : List (Int × Int × Int × Int)) (owner : Nat) : Bool :=
  let s' := s.putMap m owner
  (s.listed o4002_AFV_COUNT).all (fun e => s'.afvWhole e.1 (s.rdN o4002_AFV_BASE_CH e.1) e.2.toNat)

/-- PARTITION_CMD 'apply' (R401): checked now, in force at the end of the control cycle. -/
def State.partitionApply (s : State) : Nat × State :=
  let m := s.stagedMap
  let owner := s.rdN o1210_DEVICE_OWNER 0
  match mapFault m with
  | some i => (0x0901, (s.wr o1210_PARTITION_RESULT 0 0x0901).wr o1210_PARTITION_ERROR_ROW 0 i)
  | none =>
    if s.afvHolds m owner = false then (0x0902, (s.wr o1210_PARTITION_RESULT 0 0x0902).wr o1210_PARTITION_ERROR_ROW 0 255)
    else (stOK, { ((s.wr o1210_PARTITION_RESULT 0 0).wr o1210_PARTITION_ERROR_ROW 0 255) with ctl := { s.ctl with applyMap := some (m, owner) } })

/-- PARTITION_CMD 'discard' copies the map in force back into the staged map (R401). -/
def State.partitionDiscard (s : State) : State :=
  mapRows.foldl (fun s r =>
    (((s.wr o1211_PART_CLASS r (s.rd o1212_PART_IN_FORCE_CLASS r)).wr o1211_PART_FIRST r (s.rd o1212_PART_IN_FORCE_FIRST r)).wr o1211_PART_LAST r
      (s.rd o1212_PART_IN_FORCE_LAST r)).wr o1211_PART_OWNER r (s.rd o1212_PART_IN_FORCE_OWNER r)) s

def writePartitionCmd : Handler := onInt fun _ _ v s =>
  if v = PARTITION_CMD.apply then s.partitionApply else (stOK, (s.partitionDiscard).wr o1210_PARTITION_RESULT 0 0)

/-- At the end of the control cycle an accepted map comes into force. -/
def State.mapInForce (s : State) : State :=
  match s.ctl.applyMap with
  | some (m, owner) => { s.putMap m owner with ctl := { (s.putMap m owner).ctl with applyMap := none } }
  | none => s

def execPartitionApply (t port : Nat) (s : State) : Host.Outcome State Fault Refusal :=
  s.run t (fun s => s.opCmd writePartitionCmd port o1210_PARTITION_CMD 0 (.int PARTITION_CMD.apply))

def execPartitionDiscard (t port : Nat) (s : State) : Host.Outcome State Fault Refusal :=
  s.run t (fun s => s.opCmd writePartitionCmd port o1210_PARTITION_CMD 0 (.int PARTITION_CMD.discard))

end Sys2Proof.Machine
end

