-- ==== Sys2Proof/Machine/Ledger.lean ====
section
/-! DEFINITION. Machine/Ledger.lean: loads, checks, swaps and overdrafts (R39, R42-R50, R56-R62). What a changeover does to the rest of the device stands
in Machine/Changeover.lean. -/

namespace Sys2Proof.Machine

open Sys2Proof

/-! Banks (R42, R43). -/

/-- The other bank. -/
def otherBank (b : Nat) : Nat := 1 - b

/-- Whether a bank can be the load target. -/
def State.loadable (s : State) (b : Nat) : Bool :=
  let st := s.bankState b
  st != BANK_STATE.active && st != BANK_STATE.retiring && st != BANK_STATE.armed

/-- The load target (R43). -/
def State.loadTarget (s : State) : Option Nat :=
  if s.loadable 0 && s.loadable 1 then
    some (match s.led.lastActive with
      | some b => otherBank b
      | none => 0)
  else if s.loadable 0 then some 0 else if s.loadable 1 then some 1 else none

/-- Code of LOAD_TARGET and ACTIVE_BANK: 'none', 'A', 'B'. -/
def bankCode (b : Option Nat) : Int :=
  match b with
  | some b => (b : Int) + 1
  | none => 0

/-- The bank in 'loading'. -/
def State.loadingBank (s : State) : Option Nat := bankList.find? (fun b => s.bankState b == BANK_STATE.loading)

/-- Whether a bank is being loaded or checked. -/
def State.loadRuns (s : State) : Bool := bankList.any (fun b => s.bankState b == BANK_STATE.loading || s.bankState b == BANK_STATE.checking)

/-- A bank loses its image and everything said of it, and takes a state. -/
def State.emptyBank (s : State) (b : Nat) (st : Int) (x : Bank) : State :=
  let s := (((((((s.setBank b x).setBankState b st).wr o2001_IMAGE_ID b 0).wr o2001_IMAGE_LENGTH b 0).wr o2001_CHECK_RESULT b 0).wr o2001_WORST_MARGIN b 0).wr
    o2001_SIGNED b 0).wr o2001_DOMAINS_USED b 0
  if bankList.all (fun b => s.bankState b == BANK_STATE.empty) then { s with led := { s.led with lastActive := none } } else s

/-- A load begins in the load target (R42, R43). -/
def State.beginLoad (s : State) (flash : Option Nat) : Nat × State :=
  match s.loadTarget with
  | none => (stBUSY, s)
  | some b => if s.loadRuns then (stBUSY, s) else (stOK, s.emptyBank b BANK_STATE.loading { fromFlash := flash })

/-- A verification key that the key store holds (R419): 0 for ledgers, 1 for configurations. -/
def State.vkey (s : State) (k : Nat) : Option Bytes :=
  let x := (storeGet k s.ctl.vkeys).getD {}
  if crc32c x.a.key = x.a.crc ∧ x.a.key.length = hssPubLen then some x.a.key
  else if crc32c x.b.key = x.b.crc ∧ x.b.key.length = hssPubLen then some x.b.key else none

/-- The check of a bank starts, under the ledger key of this instant (R420). -/
def State.startCheck (s : State) (b : Nat) : State := (s.setBank b { s.bank b with vkey := s.vkey 0 }).setBankState b BANK_STATE.checking

/-- LOAD_CMD (R42, R43, R62). -/
def writeLoadCmd : Handler := onInt fun _ _ v s =>
  if v = LOAD_CMD.open then
    let (k, s) := s.beginLoad none
    (k, if k = stOK then s.wr o2002_XFER_OFFSET 0 0 else s)
  else if v = LOAD_CMD.from_flash then s.beginLoad (some (s.rdN o2002_FLASH_IMAGE 0))
  else if v = LOAD_CMD.close then
    match s.loadingBank with
    | none => (stBUSY, s)
    | some b => if (s.bank b).fromFlash.isSome then (stBUSY, s) else (stOK, s.startCheck b)
  else match s.loadingBank.or s.loadTarget with
    | none => (stBUSY, s)
    | some b =>
      if s.bankState b = BANK_STATE.loading ∨ s.bankState b = BANK_STATE.rejected ∨ s.bankState b = BANK_STATE.ready then
        (stOK, s.emptyBank b BANK_STATE.empty {})
      else (stBUSY, s)

/-- Last offset of a load: the largest image followed by the largest signature (R62). -/
def xferLast : Nat := 50334611

/-- XFER_DATA: bytes at XFER_OFFSET of the bank that a transfer loads (R62); without such a bank the write is refused with BUSY (log entry 11). Bytes
received are those up to the highest one written; a gap that XFER_OFFSET leaves is filled with zeros and counts (log entry 144). -/
def writeXferData : Handler := onBytes fun _ _ d s =>
  let o := s.rdN o2002_XFER_OFFSET 0
  match s.loadingBank with
  | none => (stBUSY, s)
  | some b =>
    let x := s.bank b
    if x.fromFlash.isSome then (stBUSY, s)
    else if xferLast + 1 < o + d.length then (stRANGE, s)
    else (stOK, (s.setBank b { x with raw := overwrite o d x.raw }).wr o2002_XFER_OFFSET 0 (o + d.length))

/-- Whether the security configuration requires signed ledgers (R418). -/
def State.policyLedger (s : State) : Bool := (s.rdN o1130_POLICY 0).testBit 0

/-- REQUIRE_SIGNATURE cannot be written while the policy requires signed ledgers (R61, R418). -/
def writeRequireSig : Handler := fun c r v s => if s.policyLedger then (stACCESS, s) else storeVal o2002_REQUIRE_SIGNATURE c r v s

def execLoadOpen (t port : Nat) (s : State) : Host.Outcome State Fault Refusal :=
  s.run t (fun s => s.opCmd writeLoadCmd port o2002_LOAD_CMD 0 (.int LOAD_CMD.open))

def execLoadClose (t port : Nat) (s : State) : Host.Outcome State Fault Refusal :=
  s.run t (fun s => s.opCmd writeLoadCmd port o2002_LOAD_CMD 0 (.int LOAD_CMD.close))

def execLoadFromFlash (t port : Nat) (s : State) : Host.Outcome State Fault Refusal :=
  s.run t (fun s => s.opCmd writeLoadCmd port o2002_LOAD_CMD 0 (.int LOAD_CMD.from_flash))

def execLoadDiscard (t port : Nat) (s : State) : Host.Outcome State Fault Refusal :=
  s.run t (fun s => s.opCmd writeLoadCmd port o2002_LOAD_CMD 0 (.int LOAD_CMD.discard))

def execXferData (t port : Nat) (data : Bytes) (s : State) : Host.Outcome State Fault Refusal :=
  s.run t (fun s => s.opCmd writeXferData port o2002_XFER_DATA 0 (.bytes data))

/-- A read from flash completes: the load closes itself (R42, R43). -/
def State.flashRead (s : State) (image : Bytes) : State :=
  match s.loadingBank with
  | none => s
  | some b => if (s.bank b).fromFlash.isSome then (s.setBank b { s.bank b with raw := image }).startCheck b else s

def execFlashReadComplete (t : Nat) (image : Bytes) (s : State) : Host.Outcome State Fault Refusal := s.run t (fun s => s.flashRead image)

/-! The check (R39). -/

/-- Bits of the domains that an image uses. -/
def domainBits (ds : List DomDesc) : Nat := sumNat ((usedDomains ds).map (fun d => 2 ^ d))

/-- The check of the bank in 'checking' ends (R39, R42, R61). -/
def State.ledgerCheck (s : State) (fits : Plan → List Ladder → Bool) (plan : Plan) : State :=
  match bankList.find? (fun b => s.bankState b == BANK_STATE.checking) with
  | none => s
  | some b =>
    let raw := (s.bank b).raw
    let k := checkImage raw (s.rdN o1000_FW_RELEASE_NUM 0) (s.isOn o2002_REQUIRE_SIGNATURE 0 || s.policyLedger) (s.bank b).vkey (fits plan (ladders raw)) plan
    let s := ((s.wr o2001_CHECK_RESULT b k).wr o2001_IMAGE_ID b (hdrImageId raw)).wr o2001_IMAGE_LENGTH b (hdrLength raw)
    if k = 1 then
      let ds := domDescs raw
      let x : Bank := { s.bank b with descs := ds, owners := ownerRanges raw, ladders := ladders raw, plan := plan }
      let s := (((s.setBank b x).setBankState b BANK_STATE.ready).wr o2001_WORST_MARGIN b (recountCert ds plan).worst).wr o2001_SIGNED b (boolVal (hdrSigned raw))
      { s.wr o2001_DOMAINS_USED b (domainBits ds) with led := { s.led with lastReady := some b } }
    else s.setBankState b BANK_STATE.rejected

/-! Swaps (R45-R50). -/

/-- Descriptor of a domain in a bank. -/
def State.descOf (s : State) (b : Option Nat) (d : Nat) : DomDesc :=
  match b with
  | some b => (s.bank b).descs.getD d {}
  | none => {}

/-- Rate that a bank gives a domain, 0 when it does not use it. -/
def State.bankRate (s : State) (b : Option Nat) (d : Nat) : Nat :=
  let x := s.descOf b d
  if x.inUse = 1 then x.rate else 0

/-- A share of a domain in a bank (R47): key 0 is HBM, key e + 1 is engine e. -/
def State.bankShare (s : State) (b : Option Nat) (d key : Nat) : Nat :=
  if s.bankRate b d = 0 then 0
  else match b with
    | none => 0
    | some b' => if key = 0 then (s.descOf b d).share else shareOf (s.bank b').plan d (key - 1)

/-- Keys of the shares that two banks plan. -/
def State.shareKeys (s : State) (a b : Option Nat) : List Nat :=
  let of (x : Option Nat) : List Nat := match x with
    | some b => (planEngines (s.bank b).plan).map (· + 1)
    | none => []
  (0 :: (of a ++ of b)).eraseDups

/-- Domains that must change over before `d`: those that shrink a share which `d` grows (R47). -/
def State.swapWaits (s : State) (inb out : Option Nat) (doms : List Nat) (d : Nat) : List Nat :=
  let keys := s.shareKeys inb out
  doms.filter (fun x => x != d && keys.any (fun k =>
    decide (s.bankShare out d k < s.bankShare inb d k) && decide (s.bankShare inb x k < s.bankShare out x k)))

/-- Whether the waits have no cycle: `n` rounds of taking out the domains that wait for nothing left. -/
def acyclic : Nat → List (Nat × List Nat) → Bool
  | 0, w => w.isEmpty
  | n + 1, w => acyclic n (w.filter (fun e => e.2.any (fun x => w.any (fun f => f.1 == x))))

/-- The bank that an arm takes (R46): in 'ready'; of two, the one that reached 'ready' last. -/
def State.armTarget (s : State) : Option Nat :=
  let r := bankList.filter (fun b => s.bankState b == BANK_STATE.ready)
  match s.led.lastReady with
  | some b => if r.contains b then some b else r.head?
  | none => r.head?

/-- Kind of a swap to a bank (R45). -/
def State.swapKind (s : State) (b : Nat) : Int :=
  if bankList.all (fun x => s.bankState x != BANK_STATE.active) then LAST_SWAP_KIND.first
  else if (s.bank b).plan.predecessors.contains (s.rdN o2000_ACTIVE_IMAGE_ID 0) then LAST_SWAP_KIND.compatible else LAST_SWAP_KIND.dark

/-- Domains in use in either bank. -/
def State.swapDomains (s : State) (inb out : Option Nat) : List Nat := tdList.filter (fun d => s.bankRate inb d != 0 || s.bankRate out d != 0)

/-- The arm lead in thirds of a ns (R48): the longest frame period in either bank, plus 10 ms. -/
def State.armLead3 (s : State) (inb out : Option Nat) : Nat :=
  (tdList.map (fun d => max (period3 (s.bankRate inb d)) (period3 (s.bankRate out d)))).foldl max 0 + 30000000

/-- Frames of a domain from its last tick up to an instant `t3` (thirds of a ns), rounded up. -/
def State.framesUntil (s : State) (d t3 : Nat) : Nat :=
  let p := period3 (s.td d).rate
  if p = 0 then 0 else (t3 - 3 * (s.td d).tickAt + p - 1) / p

/-- FCNT of the anchor tick, none when ANCHOR_FCNT names one that comes within the arm lead or has passed (R48). -/
def State.anchorFcnt (s : State) (inb out : Option Nat) : Option Nat :=
  let d := s.rdN o2003_ANCHOR_TD 0
  let want := s.rdN o2003_ANCHOR_FCNT 0
  let first := s.fcnt d + max 1 (s.framesUntil d (3 * s.now + s.armLead3 inb out))
  if want = 0 then some first else if first ≤ want then some want else none

/-- Whether every lane mode that a bank plans is the one set (R116, 0C02h). -/
def State.laneModesMatch (s : State) (p : Plan) : Bool := p.laneModes.all (fun m => s.rd o3000_LANE_MODE m.1 == m.2)

/-- A refused swap command leaves its code in SWAP_ERROR. -/
def State.swapRefused (s : State) (k : Nat) : Nat × State := (k, s.wr o2000_SWAP_ERROR 0 k)

/-- SWAP_CMD 'arm' (R45-R48, R116, R449; log entry 12 gives the order of its refusals). -/
def State.swapArm (s : State) : Nat × State :=
  if s.led.swap.isSome then s.swapRefused stBUSY else
  match s.armTarget with
  | none => s.swapRefused stBUSY
  | some b =>
    let kind := s.swapKind b
    let p := (s.bank b).plan
    let out := s.activeBank
    let doms := s.swapDomains (some b) out
    let waits := doms.map (fun d => (d, s.swapWaits (some b) out doms d))
    if kind = LAST_SWAP_KIND.dark ∧ s.isOn o2003_ALLOW_DARK 0 = false then s.swapRefused 0x0A04
    else if s.laneModesMatch p = false then s.swapRefused 0x0C02
    else if p.power.any (fun d => s.pdState d == PD_STATE.locked_off) then s.swapRefused 0x1411
    else match s.anchorFcnt (some b) out with
      | none => s.swapRefused 0x0A03
      | some f =>
        if acyclic 4 waits = false then s.swapRefused 0x0A06
        else
          let w : Swap := { kind := kind, incoming := b, outgoing := out, anchorTd := s.rdN o2003_ANCHOR_TD 0, anchorFcnt := f, domains := doms, waits := waits, done := [] }
          (stOK, ({ (s.setBankState b BANK_STATE.armed).wr o2000_SWAP_STATE 0 SWAP_STATE.armed with led := { (s.setBankState b BANK_STATE.armed).led with swap := some w } }).refreshPower)

/-- SWAP_CMD 'disarm' (R49). -/
def State.swapDisarm (s : State) : Nat × State :=
  match s.led.swap with
  | none => s.swapRefused stBUSY
  | some w =>
    if w.done ≠ [] ∨ tdList.any (fun d => (s.td d).changeDue) then s.swapRefused 0x0A05
    else
      let s := (s.setBankState w.incoming BANK_STATE.ready).wr o2000_SWAP_STATE 0 SWAP_STATE.idle
      (stOK, ({ s with led := { s.led with swap := none, lastReady := some w.incoming } }).refreshPower.dropPower)

/-- SWAP_CMD. -/
def writeSwapCmd : Handler := onInt fun _ _ v s => if v = SWAP_CMD.arm then s.swapArm else s.swapDisarm

def execSwapArm (t port : Nat) (s : State) : Host.Outcome State Fault Refusal :=
  s.run t (fun s => s.opCmd writeSwapCmd port o2003_SWAP_CMD 0 (.int SWAP_CMD.arm))

def execSwapDisarm (t port : Nat) (s : State) : Host.Outcome State Fault Refusal :=
  s.run t (fun s => s.opCmd writeSwapCmd port o2003_SWAP_CMD 0 (.int SWAP_CMD.disarm))

/-- Whether the tick that a domain has just had is its changeover tick (R47): the anchor has come, and the changeover ticks of the domains that it waits for have passed. The tick that
begins a jump frame is none: the late tick is (R90). -/
def State.tickChanges (s : State) (w : Swap) (d : Nat) : Bool :=
  let mine := ((w.waits.find? (fun e => e.1 == d)).map (·.2)).getD []
  w.anchored.isSome && w.domains.contains d && w.done.all (fun e => e.1 != d) && mine.all (fun x => w.done.any (fun e => e.1 == x && decide (e.2 < s.now))) && !(s.td d).inJump

/-- At a tick of a domain: the anchor may have come, and the domain's changeover may be due (R47). With the anchor, it is due as well of the domains that ticked at the same instant
before it. -/
def State.swapTick (s : State) (d : Nat) : State :=
  match s.led.swap with
  | none => s
  | some w =>
    let comes := w.anchored.isNone && d == w.anchorTd && decide (w.anchorFcnt ≤ s.fcnt d)
    let w := if comes then { w with anchored := some s.now } else w
    let s := { s with led := { s.led with swap := some w } }
    let ds := if comes then d :: tdList.filter (fun x => x != d && (s.td x).tickAt == s.now) else [d]
    ds.foldl (fun s x => if s.tickChanges w x then s.setTd x { s.td x with changeDue := true } else s) s

/-- LAST_CHANGEOVER_FCNT of a domain. -/
def lastChangeover (d : Nat) : Nat := o2000_LAST_CHANGEOVER_FCNT_TD0 + d

/-- ACTIVE_BANK and ACTIVE_IMAGE_ID follow the banks in force. -/
def State.noteActive (s : State) : State :=
  let id : Int := match s.activeBank with
    | some b => s.rd o2001_IMAGE_ID b
    | none => 0
  (s.wr o2000_ACTIVE_BANK 0 (bankCode s.activeBank)).wr o2000_ACTIVE_IMAGE_ID 0 id

/-- The rate objects of a domain follow the bank that serves it (R61, R84, R91). -/
def State.noteRate (s : State) (d : Nat) : State :=
  let r := s.bankRate (s.serving d) d
  let s := (((s.wr o2100_TD_RATE d r).wr o2100_TD_FAMILY d (family r)).wr o2005_FRAME_CYCLES d (fullCycles r)).wr o2005_SHORT_CYCLE_NS d (shortCycle r)
  if r = 0 then s else s.setTd d { s.td d with rate := r }

/-- The swap after a domain has changed over (R42, R50, 2000h.09). -/
def State.swapProgress (s : State) (w : Swap) : State :=
  let left := w.domains.filter (fun d => w.done.all (fun e => e.1 != d))
  if left = [] then
    let s := match w.outgoing with
      | some o => { s.setBankState o BANK_STATE.ready with led := { (s.setBankState o BANK_STATE.ready).led with lastReady := some o, swap := none } }
      | none => { s with led := { s.led with swap := none } }
    (((s.wr o2000_SWAP_STATE 0 SWAP_STATE.idle).bump o2000_SWAP_COUNT 0).wr o2000_LAST_SWAP_KIND 0 w.kind).refreshPower
  else
    let st := if left.any (fun d => s.bankRate (some w.incoming) d != 0) then SWAP_STATE.changing else SWAP_STATE.retiring
    ({ s with led := { s.led with swap := some w } }).wr o2000_SWAP_STATE 0 st

/-- The changeover of a domain on the tick that has just come (R42, R47, R50, R84). -/
def State.changeoverBank (s : State) (d : Nat) : State :=
  match s.led.swap with
  | none => s
  | some w =>
    let first := w.done.isEmpty
    let s := if first then
        let s := s.setBankState w.incoming BANK_STATE.active
        let s := match w.outgoing with
          | some o => s.setBankState o BANK_STATE.retiring
          | none => s
        { s with led := { s.led with lastActive := some w.incoming } }
      else s
    let s := { s with led := { s.led with
      serving := if s.bankRate (some w.incoming) d ≠ 0 then storePut natLt d w.incoming s.led.serving else storeDel d s.led.serving } }
    let s := ((s.wr (lastChangeover d) 0 (s.fcnt d)).noteRate d).noteActive
    (s.swapProgress { w with done := w.done ++ [(d, s.now)] }).refreshPower

/-! Ownership (R56, R57). -/

/-- Owner of an address under a bank. -/
def State.ownerIn (s : State) (b : Option Nat) (addr : Nat) : Option OwnerRange :=
  match b with
  | some b => (s.bank b).owners.find? (fun r => r.holds addr)
  | none => none

/-- Owner to which an error at an address is attributed: the range of a bank that serves the owner's domain, else the active bank's (R57). -/
def State.ownerOfAddr (s : State) (addr : Nat) : Option OwnerRange :=
  let hit := bankList.findSome? (fun b =>
    match s.ownerIn (some b) addr with
    | some r => if s.serving r.dom = some b then some r else none
    | none => none)
  hit.or (s.ownerIn s.activeBank addr)

/-- Reading of 2008h.02-06 (R57): class 0 for an unassigned address. -/
def State.ownerQuery (s : State) (sub : Nat) : Int :=
  match s.ownerIn s.activeBank (s.rdN o2008_OWNER_QUERY_ADDR 0) with
  | none => 0
  | some r =>
    match sub with
    | 2 => r.cls
    | 3 => r.id
    | 4 => r.dom
    | 5 => r.base
    | _ => r.granules

/-! Overdraft (R58-R60). -/

/-- Subsystem charged for a kind of item (R58). -/
def missSubsys (kind : Nat) : Nat :=
  match kind with
  | 1 => 2
  | 2 => 4
  | 3 => 4
  | 4 => 6
  | 5 => 6
  | 6 => 6
  | 7 => 7
  | 8 => 7
  | 9 => 8
  | 10 => 4
  | _ => 3

/-- Overdrafts of the frame in progress of a domain. -/
def State.chargedIn (s : State) (d : Nat) : List Nat := (storeGet d s.led.charged).getD []

/-- One overdraft: counted against the kind, the domain and the subsystem (R58). -/
def State.overdraft (s : State) (kind d sub : Nat) : State :=
  let l := s.chargedIn d
  let s := ((s.bump o2006_OVERDRAFT_KIND_COUNT kind).bump o2005_OVERDRAFTS d).bump o1003_OVERDRAFTS sub
  let s := if l = [] then s.bump o2005_OVERDRAFT_FRAMES d else s
  { s with led := { s.led with charged := storePut natLt d (sub :: l) s.led.charged } }

/-- The subsystem charged with the most of a frame's overdrafts, the lowest on a tie (R60). -/
def mostCharged (l : List Nat) : Nat :=
  ((List.range 12).map (· + 1)).foldl (fun best s => if l.count best < l.count s then s else best) 1

/-- At the end of a frame LEDGER_OVERDRAFT_RATE is raised or cleared, and the count starts afresh (R60). -/
def State.overdraftRate (s : State) (d : Nat) : State :=
  let l := s.chargedIn d
  let s := if s.rdN o2005_OVERDRAFT_LIMIT d < l.length then
      s.raiseAgain .LEDGER_OVERDRAFT_RATE d Alarm.LEDGER_OVERDRAFT_RATE.severity (mostCharged l) []
    else s.clear .LEDGER_OVERDRAFT_RATE d
  { s with led := { s.led with charged := storeDel d s.led.charged } }

end Sys2Proof.Machine
end

