-- ==== Sys2Proof/Machine/Reference.lean ====
section
/-! DEFINITION. Machine/Reference.lean: reference candidates, selection, the clean-up loops and realignment (R63-R92). Frame ticks themselves are in
Machine/Ticks.lean. -/

namespace Sys2Proof.Machine

open Sys2Proof

/-! Candidates (R63-R71). -/

/-- The candidates. -/
def candList : List Nat := [0, 1, 2, 3, 4, 5, 6, 7]

/-- A candidate beside its objects. -/
def State.cand (s : State) (c : Nat) : Cand := (storeGet c s.cands).getD {}

/-- Set a candidate. -/
def State.setCand (s : State) (c : Nat) (x : Cand) : State := { s with cands := storePut natLt c x s.cands }

/-- State of a candidate (R70). -/
def State.candState (s : State) (c : Nat) : Int := s.rd o2200_CAND_STATE c

/-- Whether a candidate is qualified. -/
def State.qualified (s : State) (c : Nat) : Bool := s.candState c == CAND_STATE.qualified

/-- Seconds of the measuring window. -/
def State.measWindow (s : State) : Nat := s.rdN o2201_MEAS_WINDOW_S 0

/-- Whether a candidate has an offset: signal present for a full window (R66). -/
def State.hasOffset (s : State) (c : Nat) : Bool := (s.cand c).present && decide (s.measWindow ≤ (s.cand c).samples.length)

/-- Sum of integers. -/
def sumInt (l : List Int) : Int := l.foldl (· + ·) 0

/-- The mean of a list, rounded to the nearest integer (log entry 15). -/
def meanInt (l : List Int) : Int := if l = [] then 0 else (2 * sumInt l + l.length) / (2 * (l.length : Int))

/-- Insert into a rising list. -/
def insertInt (x : Int) : List Int → List Int
  | [] => [x]
  | y :: l => if x ≤ y then x :: y :: l else y :: insertInt x l

/-- A list in rising order. -/
def sortInt (l : List Int) : List Int := l.foldl (fun acc x => insertInt x acc) []

/-- Twice the median: with an even number, the two middle values (R67). -/
def median2 (l : List Int) : Int :=
  let q := sortInt l
  let n := q.length
  if n = 0 then 0 else if n % 2 = 1 then 2 * q.getD (n / 2) 0 else q.getD (n / 2 - 1) 0 + q.getD (n / 2) 0

/-- OFFSET_OSC. -/
def State.offsetOsc (s : State) (c : Nat) : Int := s.rd o2200_OFFSET_OSC c

/-- Twice the ensemble offset of a candidate (R67). -/
def State.ensemble2 (s : State) (c : Nat) : Int :=
  2 * s.offsetOsc c - median2 ((candList.filter (fun k => k != c && s.qualified k)).map s.offsetOsc)

/-- Whether the device is in ensemble mode. -/
def State.ensembleOn (s : State) : Bool := s.isOn o2201_ENSEMBLE_ACTIVE 0

/-- |x| above a limit, for a doubled value. -/
def beyond2 (x2 lim : Int) : Bool := decide (2 * lim < x2) || decide (x2 < -(2 * lim))

/-- Whether a candidate lies beyond the hard limit of the mode (R68, R69). -/
def State.beyondHard (s : State) (c : Nat) : Bool :=
  if s.ensembleOn then beyond2 (s.ensemble2 c) (s.rd o2201_HARD_LIMIT_PPB 0)
  else beyond2 (2 * s.offsetOsc c) (s.rd o2201_HARD_LIMIT_PPB 0 + s.rd o2201_OSC_ALLOWANCE_PPB 0)

/-- Whether a candidate has an offset within the limits. -/
def State.withinLimits (s : State) (c : Nat) : Bool := s.hasOffset c && !s.beyondHard c

/-- QUALIFIED_COUNT follows the states (R91). -/
def State.countQualified (s : State) : State := s.wr o2201_QUALIFIED_COUNT 0 ((candList.filter s.qualified).length)

/-- Start or restart a wait to restore (R70, R71). -/
def State.startWait (s : State) (c : Nat) : State := s.setCand c { s.cand c with waitFrom := if (s.cand c).present then some s.now else none }

/-- WTR_REMAINING_S: the seconds left of a wait to restore (R71). -/
def State.waitLeft (s : State) (c : Nat) : Nat :=
  if s.candState c ≠ CAND_STATE.restoring then 0
  else match (s.cand c).waitFrom with
    | none => s.rdN o2201_WTR_S 0
    | some f => (s.rdN o2201_WTR_S 0 * second - (s.now - f) + (second - 1)) / second

/-- A candidate becomes qualified. -/
def State.qualify (s : State) (c : Nat) : State :=
  ((s.wr o2200_CAND_STATE c CAND_STATE.qualified).clear .REF_DISQUALIFIED c).countQualified

/-- A qualified candidate is disqualified (R68, R69, R75): reason, count and alarm. -/
def State.disqualify (s : State) (c : Nat) (reason : Int) : State :=
  let s := (((s.wr o2200_CAND_STATE c CAND_STATE.restoring).startWait c).wr o2200_DISQUAL_REASON c reason).bump o2200_DISQUAL_COUNT c
  let s := s.setCand c { s.cand c with ever := true }
  (s.raiseWith .REF_DISQUALIFIED c Alarm.REF_DISQUALIFIED.severity Alarm.REF_DISQUALIFIED.subsys [BitVec.ofNat 8 reason.toNat]).countQualified

/-- Step 1 of an update (R66): the new 1 s offsets join their windows, and OFFSET_OSC is the mean of a full one. -/
def State.takeOffsets (s : State) (offsets : List (Nat × Int)) : State :=
  candList.foldl (fun s c =>
    let x := s.cand c
    if s.candState c = CAND_STATE.disabled ∨ x.present = false then s
    else match offsets.find? (fun e => e.1 == c) with
      | none => s
      | some e =>
        let l := (e.2 :: x.samples).take 64
        let s := s.setCand c { x with samples := l }
        if s.hasOffset c then s.wr o2200_OFFSET_OSC c (meanInt (l.take s.measWindow)) else s) s

/-- REF_SOFT_LIMIT of a candidate (R68, R69). In oscillator mode the soft limit plus the allowance takes the place of the soft limit, also in the 80 %
(log entry 16). -/
def State.softLimit (s : State) (c : Nat) : State :=
  let lim := s.rd o2201_SOFT_LIMIT_PPB 0 + (if s.ensembleOn then 0 else s.rd o2201_OSC_ALLOWANCE_PPB 0)
  let x2 := if s.ensembleOn then s.ensemble2 c else 2 * s.offsetOsc c
  let basis := if s.ensembleOn then BASIS.ensemble else BASIS.oscillator
  if beyond2 x2 lim then s.raiseWith .REF_SOFT_LIMIT c Alarm.REF_SOFT_LIMIT.severity Alarm.REF_SOFT_LIMIT.subsys [BitVec.ofNat 8 basis.toNat]
  else if beyond2 (5 * x2) (4 * lim) then s else s.clear .REF_SOFT_LIMIT c

/-- Whether a candidate's reading makes the oscillator suspect (R68). -/
def State.suspects (s : State) (c : Nat) : Bool :=
  s.ensembleOn && s.hasOffset c && s.candState c != CAND_STATE.disabled &&
  beyond2 (2 * s.offsetOsc c) (s.rd o2201_HARD_LIMIT_PPB 0 + s.rd o2201_OSC_ALLOWANCE_PPB 0) && !beyond2 (s.ensemble2 c) (s.rd o2201_SOFT_LIMIT_PPB 0)

/-- Step 2 (R68, R69): soft limits, OSC_IN_SUSPECT, and the candidates that are beyond the hard limit. Every candidate is judged against the medians that
stand before the step. -/
def State.checkLimits (s : State) : State :=
  let on := candList.filter (fun c => s.hasOffset c && s.candState c != CAND_STATE.disabled)
  let bad := on.filter (fun c => s.qualified c && s.beyondHard c)
  let suspect := candList.any s.suspects
  let reason := if s.ensembleOn then DISQUAL_REASON.hard_limit else DISQUAL_REASON.oscillator_limit
  let s := (on.foldl State.softLimit s).alarmWhile .OSC_IN_SUSPECT noInst suspect
  bad.foldl (fun s c => s.disqualify c reason) s

/-- Rank of a candidate in a domain's table, as the last update took it. -/
def State.rankOf (s : State) (d c : Nat) : Nat := (s.td d).ranks.getD c 0

/-- Two qualified candidates of one rank that disagree by more than the soft limit (R75). -/
def State.disagree (s : State) (d a b : Nat) : Bool :=
  decide (a < b) && s.qualified a && s.qualified b && decide (1 ≤ s.rankOf d a) && s.rankOf d a == s.rankOf d b &&
  beyond2 (2 * (s.offsetOsc a - s.offsetOsc b)) (s.rd o2201_SOFT_LIMIT_PPB 0)

/-- Selected reference of a domain. -/
def State.selected (s : State) (d : Nat) : Nat := s.rdN o2100_SELECTED_REF d

/-- Absolute value as a number. -/
def absInt (x : Int) : Nat := x.natAbs

/-- Arbitration of a pair (R75): the one farther from the median of the other qualified candidates is disqualified. -/
def State.arbitrate (s : State) (d a b : Nat) : State :=
  if s.disagree d a b = false then s
  else
    let others := (candList.filter (fun k => k != a && k != b && s.qualified k)).map s.offsetOsc
    if others = [] then s
    else
      let m := median2 others
      let da := absInt (2 * s.offsetOsc a - m)
      let db := absInt (2 * s.offsetOsc b - m)
      let out := if db < da then a else if da < db then b else if s.selected d = a then b else if s.selected d = b then a else b
      s.disqualify out DISQUAL_REASON.arbitration

/-- Every pair of candidates. -/
def candPairs : List (Nat × Nat) := (candList.map (fun a => (candList.filter (a < ·)).map (fun b => (a, b)))).flatten

/-- Step 3 (R75, R76): equal-rank arbitration, TD0's table first; a pair that an earlier domain's table has just broken no longer disagrees in a later one (log entry 146). -/
def State.arbitration (s : State) : State :=
  tdList.foldl (fun s d =>
    let s := s.alarmWhile .REF_RANK_DISAGREE d (candPairs.any (fun p => s.disagree d p.1 p.2))
    candPairs.foldl (fun s p => s.arbitrate d p.1 p.2) s) s

/-- Step 4 (R70, R71): a candidate that has measured a full window within limits, and waits to restore. `ok` are the candidates within limits at step 2; a candidate
that this update has put to 'restoring' does not leave it in the same update. -/
def State.waits (s : State) (ok : List Nat) : State :=
  candList.foldl (fun s c =>
    let x := s.cand c
    if s.candState c = CAND_STATE.measuring then
      if ok.contains c then (if x.ever then (s.wr o2200_CAND_STATE c CAND_STATE.restoring).startWait c else s.qualify c) else s
    else if s.candState c = CAND_STATE.restoring then
      if s.hasOffset c = false then s
      else if ok.contains c = false then s.startWait c
      else match x.waitFrom with
        | none => s
        | some f => if f < s.now ∧ f + s.rdN o2201_WTR_S 0 * second ≤ s.now then s.qualify c else s
    else s) s

/-- Ensemble mode holds while at least three candidates are qualified (R67), oscillator mode otherwise (R69): the flag, the count, the alarm, and in oscillator mode the readings. -/
def State.modeNow (s : State) : State :=
  let on := decide (3 ≤ (candList.filter s.qualified).length)
  let s := ((s.wr o2201_ENSEMBLE_ACTIVE 0 (boolVal on)).countQualified).alarmWhile .REF_ENSEMBLE_THIN noInst (!on)
  if on then s
  else candList.foldl (fun s c => if s.rd o2200_BASIS c = BASIS.none then s else (s.wr o2200_BASIS c BASIS.oscillator).wr o2200_OFFSET_ENSEMBLE c 0) s

/-- Step 5 (R67, R69): the mode, and the readings that depend on it; a candidate without an offset, and a disabled one, read the basis 'none' in both modes (log entry 145). -/
def State.ensembleMode (s : State) : State :=
  let s := s.modeNow
  candList.foldl (fun s c =>
    if s.hasOffset c = false ∨ s.candState c = CAND_STATE.disabled then (s.wr o2200_BASIS c BASIS.none).wr o2200_OFFSET_ENSEMBLE c 0
    else if s.ensembleOn then (s.wr o2200_BASIS c BASIS.ensemble).wr o2200_OFFSET_ENSEMBLE c (s.ensemble2 c / 2)
    else (s.wr o2200_BASIS c BASIS.oscillator).wr o2200_OFFSET_ENSEMBLE c 0) s

/-! Selection (R64, R73, R74). -/

/-- Whether a candidate is compatible with a domain (R64). -/
def State.compatible (s : State) (d c : Nat) : Bool :=
  if c = 2 ∨ c = 3 ∨ c = 4 then true else rateMultiple (s.td d).rate (s.rdN o2200_CAND_RATE c)

/-- Whether a candidate gives a domain frame phase (R63, R64). -/
def State.givesPhase (s : State) (d c : Nat) : Bool :=
  if c = 2 ∨ c = 3 then s.isOn o2200_PPS_USED c && family (s.td d).rate != 2 && family (s.td d).rate != 3 else decide (c < 8)

/-- Whether a candidate is eligible for a domain (R73). -/
def State.eligible (s : State) (d c : Nat) : Bool :=
  s.qualified c && decide (1 ≤ s.rankOf d c ∧ s.rankOf d c ≤ 8) && s.compatible d c && !(c == 7 && (s.td d).twinLost)

/-- The best rank among eligible candidates. -/
def State.bestRank (s : State) (d : Nat) : Nat := ((candList.filter (s.eligible d)).map (s.rankOf d)).foldl min 9

/-- The candidate that R74 selects, none for holdover or free-run. -/
def State.choice (s : State) (d : Nat) : Option Nat :=
  let best := s.bestRank d
  let cur := s.selected d
  let first := candList.find? (fun c => s.eligible d c && s.rankOf d c == best)
  if cur < 8 ∧ s.eligible d cur then (if (s.td d).revertive = false ∨ s.rankOf d cur = best then some cur else first) else first

/-- State of a DPLL. -/
def State.dpll (s : State) (d : Nat) : Int := s.rd o2100_DPLL_STATE d

/-- PHASE_SOURCE (R81, R87). -/
def State.phaseSource (s : State) (d : Nat) : Bool := s.rd o2100_PHASE_SOURCE d == PHASE_SOURCE.reference

/-- PHASE_SOURCE follows the loop's state and candidate; without a source TICK_PHASE_OFFSET_NS keeps its value (R81, R87), and EPOCH_FCNT_OFFSET reads 0 unless PTP0 is
the source (R83). -/
def State.notePhaseSource (s : State) (d : Nat) : State :=
  let on := s.dpll d == DPLL_STATE.locked && s.givesPhase d (s.selected d)
  let s := s.wr o2100_PHASE_SOURCE d (if on then PHASE_SOURCE.reference else PHASE_SOURCE.none)
  if on && s.selected d == 4 then s else s.wr o2100_EPOCH_FCNT_OFFSET d 0

/-- The control value changes; the value that stood until now counts for its time in the mean of the second (R80). -/
def State.setControl (s : State) (d : Nat) (v : Int) : State :=
  let x := s.td d
  (s.setTd d { x with ctlArea := x.ctlArea + s.rd o2100_CONTROL_VALUE d * (s.now - x.ctlFrom : Nat), ctlFrom := s.now }).wr o2100_CONTROL_VALUE d v

/-- TD_HOLDOVER and TD_FREE_RUN of a domain in use (R92). -/
def State.tdAlarms (s : State) (d : Nat) : State :=
  (s.alarmWhile .TD_HOLDOVER d (s.inUse d && s.dpll d == DPLL_STATE.holdover)).alarmWhile .TD_FREE_RUN d (s.inUse d && s.dpll d == DPLL_STATE.free_run)

/-- A slew ends where it stands (R90). -/
def State.stopSlew (s : State) (d : Nat) : State :=
  if s.rd o2100_REALIGN_STATE d = REALIGN_STATE.slewing then (s.wr o2100_REALIGN_STATE d REALIGN_STATE.idle).wr o2100_LAST_REALIGN_FCNT d (s.fcnt d) else s

/-- The audio cadence restarts with a cycle that begins on this TD0 tick (R85). -/
def State.restartCadence (s : State) : State := { s with cadence := 0, cadenceAt := s.now }

/-- While no bank uses a domain its tick is placed on the candidate's frame phase at lock and after a switch; with PTP0 FCNT takes the count of frames
since the epoch; the cadence restarts on the tick so placed when it is TD0's (R83, R85). -/
def State.autoAlign (s : State) (d : Nat) : State :=
  if s.inUse d ∨ s.phaseSource d = false then s
  else
    let s := s.setTd d { s.td d with phaseFine := 0, buildOut := 0, placed := true }
    let s := s.wr o2100_TICK_PHASE_OFFSET_NS d 0
    if s.selected d = 4 then s.wr o2100_FCNT d (epochFrames (s.td d).rate s.clkNanos % 281474976710656) else s

/-- The bandwidth in effect (R78): the smaller of the configured one, ACQ_BW while the loop acquires and TRACK_BW else, and the selected candidate's ceiling. -/
def State.takeBandwidth (s : State) (d : Nat) : State :=
  let set := if s.dpll d = DPLL_STATE.acquiring then s.rdN o2100_ACQ_BW d else s.rdN o2100_TRACK_BW d
  s.setTd d { s.td d with bw := min set (if s.selected d = 4 then 6 else 12) }

/-- A domain takes a candidate (R77, R79). -/
def State.selectCand (s : State) (d c : Nat) : State :=
  let old := s.selected d
  let st := s.dpll d
  let s := (s.stopSlew d).wr o2100_SELECTED_REF d c
  let s := if old < 8 ∧ old ≠ c then s.bump o2100_REF_SWITCHES d else s
  let s := if st = DPLL_STATE.free_run ∨ st = DPLL_STATE.acquiring then
      (s.wr o2100_DPLL_STATE d DPLL_STATE.acquiring).setTd d { s.td d with goodSince := none, lastPhase := none, compared := [] }
    else (s.wr o2100_DPLL_STATE d DPLL_STATE.locked).setTd d { s.td d with slewing := true, lastPhase := none, comparedAt := s.now, compared := [] }
  (((s.takeBandwidth d).notePhaseSource d).autoAlign d).tdAlarms d

/-- The holdover value and its quality (R80): means are newest first. -/
def holdover (means : List (Bool × Int)) (guard window : Nat) (now : Int) : Int × Int :=
  let w := (means.drop guard).take window
  let l := (w.filter (·.1)).map (·.2)
  if l = [] then (now, HOLDOVER_QUALITY.instant)
  else (meanInt l, if l.length = window then HOLDOVER_QUALITY.full else HOLDOVER_QUALITY.partial)

/-- A domain is left without an eligible candidate (R77, R80, R81, R90). -/
def State.loseRef (s : State) (d : Nat) : State :=
  let st := s.dpll d
  let s := if s.selected d < 8 then (s.stopSlew d).wr o2100_SELECTED_REF d 255 else s
  let s := if s.rd o2100_REALIGN_STATE d = REALIGN_STATE.jump_pending ∧ (s.td d).inJump = false then
      ((s.wr o2100_REALIGN_STATE d REALIGN_STATE.idle).wr o2100_REALIGN_RESULT d 0x0B02).setTd d { s.td d with jumpFrame := none }
    else s
  let s := if st = DPLL_STATE.locked then
      let h := holdover (s.td d).means (s.rdN o2100_HOLD_GUARD_S d) (s.rdN o2100_HOLD_WINDOW_S d) (s.rd o2100_CONTROL_VALUE d)
      ((((s.wr o2100_DPLL_STATE d DPLL_STATE.holdover).wr o2100_HOLDOVER_VALUE d h.1).wr o2100_HOLDOVER_QUALITY d h.2).wr o2100_HOLDOVER_SECONDS d 0).setTd d
        { s.td d with lastPhase := none, compared := [], slewing := true, whole := false }
    else if st = DPLL_STATE.acquiring then (s.wr o2100_DPLL_STATE d DPLL_STATE.free_run).setControl d 0
    else s
  (s.notePhaseSource d).tdAlarms d

/-- Selection for one domain (R74). -/
def State.selectFor (s : State) (d : Nat) : State :=
  match s.choice d with
  | some c => if s.selected d = c then s else s.selectCand d c
  | none => s.loseRef d

/-- The ranks and REVERTIVE as written come into use (R76). -/
def State.takeRanks (s : State) : State :=
  tdList.foldl (fun s d => s.setTd d { s.td d with ranks := candList.map (fun c => s.rdN o2101_RANK (8 * d + c)), revertive := s.isOn o2100_REVERTIVE d }) s

/-- Move a value towards another by at most a step. -/
def towards (x y step : Int) : Int := if y - x ≤ step ∧ x - y ≤ step then y else if x < y then x + step else x - step

/-- The mean of the control value over the second that ends. -/
def State.secondMean (s : State) (d : Nat) : Int :=
  let x := s.td d
  let n := s.now - x.secFrom
  if n = 0 then s.rd o2100_CONTROL_VALUE d
  else (2 * (x.ctlArea + s.rd o2100_CONTROL_VALUE d * (s.now - x.ctlFrom : Nat)) + (n : Int)) / (2 * (n : Int))

/-- What one second does to a loop: its mean joins the record, as locked when the loop was 'locked' all through it; holdover moves to its value and counts its seconds
(R80, R81). -/
def State.loopSecond (s : State) (d : Nat) : State :=
  let x := s.td d
  let on := s.dpll d == DPLL_STATE.locked
  let s := s.setTd d { x with means := ((on && x.whole, s.secondMean d) :: x.means).take 10600, secFrom := s.now, ctlFrom := s.now, ctlArea := 0, whole := on }
  if s.dpll d = DPLL_STATE.holdover then
    (s.bump o2100_HOLDOVER_SECONDS d).setControl d
      (towards (s.rd o2100_CONTROL_VALUE d) (s.rd o2100_HOLDOVER_VALUE d) (1000 * s.rd o2100_FREQ_SLEW_LIMIT d))
  else s

/-- PTP0's offset over the second that ends, in ppb (R108): what the clock counted, its steps left out, against 4 ns for each of its advances. -/
def State.clockOffset (s : State) : Int :=
  let n : Int := advances s.now - advances s.ptp.secFrom
  if n ≤ 0 then (2 * (s.rd o2301_INCREMENT 0 - 17179869184) * 1000000000 + 17179869184) / (2 * 17179869184)
  else
    let x := ((s.clk : Int) - s.ptp.clkFrom) % (clkModulus : Int)
    (2 * (x - n * 17179869184) * 1000000000 + n * 17179869184) / (2 * n * 17179869184)

/-- The update of each second, in the order of R76. -/
def State.refUpdate (s : State) (offsets : List (Nat × Int)) : State :=
  let o := s.clockOffset
  let s := tdList.foldl State.loopSecond { s with ptp := { s.ptp with secFrom := s.now, clkFrom := s.clk } }
  let s := s.takeRanks.takeOffsets ((4, o) :: offsets)
  let ok := candList.filter s.withinLimits
  let s := tdList.foldl State.selectFor ((s.checkLimits.arbitration.waits ok).ensembleMode)
  tdList.foldl State.takeBandwidth s

def execRefUpdate (t : Nat) (offsets : List (Nat × Int)) (s : State) : Host.Outcome State Fault Refusal := s.run t (fun s => s.refUpdate offsets)

/-- REF_LOSS at severity B when a domain in use has selected the candidate, else C (R92). -/
def State.raiseRefLoss (s : State) (c : Nat) : State :=
  s.raiseWith .REF_LOSS c (if tdList.any (fun d => s.inUse d && s.selected d == c) then 2 else 3) Alarm.REF_LOSS.subsys []

/-- The detection interval of a candidate's loss (R63), the longest where several events detect it: 1.5 frame periods, 1.1 s for 1PPS and 1 µs for 10 MHz, four lines of a lane that
loses TRS lock (R129); of PTP0 and TWIN none is given. -/
def State.detectionNs (s : State) (c : Nat) : Nat :=
  if c < 2 then period3 (s.rdN o2200_CAND_RATE c) / 2
  else if c < 4 then (if s.isOn o2200_PPS_USED c then 1100000000 else 1000)
  else if c = 5 ∨ c = 6 then 4 * (period3 (s.rdN o2200_CAND_RATE c) / 3375) else 0

/-- A domain's comparisons since an instant are discarded: what the first of them found stands again (R72). -/
def State.discardComparisons (s : State) (d from_ : Nat) : State :=
  let x := s.td d
  match (x.compared.filter (fun e => decide (from_ ≤ e.at_))).getLast? with
  | none => s.setTd d { x with lastPhase := none }
  | some e => (s.setControl d e.control).setTd d { (s.setControl d e.control).td d with
      phaseFine := e.phaseFine, buildOut := e.buildOut, lastPhase := none, slewing := e.slewing, goodSince := e.goodSince, compared := [] }

/-- The domains that have selected a candidate discard their comparisons; then selection runs, TD0 first (R72, R74). -/
def State.lostSelections (s : State) (c from_ : Nat) : State :=
  let s := tdList.foldl (fun s d => if s.selected d = c then s.discardComparisons d from_ else s) s
  tdList.foldl State.selectFor s

/-- TWIN loses its signal for one domain: the peer's domain of that number is not 'locked' (R63). -/
def State.twinLoss (s : State) (d : Nat) : State :=
  let s := s.setTd d { s.td d with twinLost := true }
  let s := if s.selected d = 7 then s.raiseRefLoss 7 else s
  let s := if s.selected d = 7 then s.discardComparisons d s.now else s
  tdList.foldl State.selectFor s

/-- Loss of a candidate's signal (R70, R72). -/
def State.refLoss (s : State) (c : Nat) : State :=
  let st := s.candState c
  let s := s.setCand c { s.cand c with present := false, samples := [] }
  let s := if st = CAND_STATE.disabled ∨ st = CAND_STATE.absent then s else s.raiseRefLoss c
  let s := if st = CAND_STATE.measuring then s.wr o2200_CAND_STATE c CAND_STATE.absent
    else if st = CAND_STATE.qualified then
      (((s.wr o2200_CAND_STATE c CAND_STATE.restoring).startWait c).wr o2200_DISQUAL_REASON c DISQUAL_REASON.loss).countQualified
    else if st = CAND_STATE.restoring then s.startWait c else s
  s.modeNow.lostSelections c (s.now - s.detectionNs c)

/-- REF_LOSS_OF_SIGNAL: candidates 0-7; 8 + d stands for TWIN in domain d alone. -/
def execRefLossOfSignal (t cand : Nat) (s : State) : Host.Outcome State Fault Refusal := s.run t (fun s => if cand < 8 then s.refLoss cand else s.twinLoss (cand - 8))

/-- What the references lose when a lane leaves 'up' (R63): LREC0 and LREC1 the TRS of the lane that SOURCE_LANE names, TWIN the Ivard link on the lane that IVARD_LANE names. -/
def State.laneRefs (s : State) (l : Nat) : State :=
  ([5, 6].filter (fun c => s.rdN o2200_SOURCE_LANE c == l) ++ (if s.rdN o1600_IVARD_LANE 0 = l then [7] else [])).foldl (fun s c => if (s.cand c).present then s.refLoss c else s) s

/-- A candidate's signal appears (R70); the rate detected on LREC0, LREC1 and TWIN comes with it (R91). -/
def State.refPresent (s : State) (c rate : Nat) : State :=
  let s := (s.setCand c { s.cand c with present := true, samples := [] }).clear .REF_LOSS c
  let s := if 5 ≤ c then s.wr o2200_CAND_RATE c rate else s
  if s.candState c = CAND_STATE.absent then s.wr o2200_CAND_STATE c CAND_STATE.measuring
  else if s.candState c = CAND_STATE.restoring then s.startWait c else s

/-- REF_SIGNAL_PRESENT: candidates 0-7, of which PTP0 has signal only while the clock is 'following' (R108); 8 + d stands for TWIN in domain d alone. -/
def execRefSignalPresent (t cand rate : Nat) (s : State) : Host.Outcome State Fault Refusal :=
  s.run t (fun s =>
    if 8 ≤ cand then s.setTd (cand - 8) { s.td (cand - 8) with twinLost := false }
    else if cand = 4 ∧ s.rd o2301_CLOCK_STATE 0 ≠ CLOCK_STATE.following then s else s.refPresent cand rate)

/-- CAND_ENABLE (R70): setting it FALSE leaves a selected candidate as on loss, with reason 'disabled'. -/
def writeCandEnable : Handler := onInt fun _ c v s =>
  let was := s.isOn o2200_CAND_ENABLE c
  let s := s.wr o2200_CAND_ENABLE c v
  if v = 1 then
    if was ∧ s.candState c ≠ CAND_STATE.disabled then (stOK, s.refreshPower)
    else (stOK, (s.wr o2200_CAND_STATE c (if (s.cand c).present then CAND_STATE.measuring else CAND_STATE.absent)).refreshPower)
  else
    let wasSel := tdList.any (fun d => s.selected d == c)
    let s := if wasSel then s.raiseRefLoss c else s
    let s := ((s.wr o2200_CAND_STATE c CAND_STATE.disabled).wr o2200_DISQUAL_REASON c DISQUAL_REASON.disabled).modeNow
    let s := ((s.clear .REF_DISQUALIFIED c).clear .REF_SOFT_LIMIT c).clear .REF_LOSS c
    let s := s.setCand c { s.cand c with samples := [] }
    (stOK, (s.lostSelections c s.now).refreshPower)

def execCandEnable (t port cand : Nat) (on : Bool) (s : State) : Host.Outcome State Fault Refusal :=
  s.run t (fun s => s.opCmd writeCandEnable port o2200_CAND_ENABLE cand (.int (boolVal on)))

/-- WTR_CLEAR: the wait of a candidate within limits ends now (R70). -/
def writeWtrClear : Handler := onInt fun _ _ v s =>
  let c := v.toNat
  if s.candState c = CAND_STATE.restoring ∧ s.withinLimits c then (stOK, (s.qualify c).modeNow) else (stOK, s)

def execWtrClear (t port cand : Nat) (s : State) : Host.Outcome State Fault Refusal :=
  s.run t (fun s => s.opCmd writeWtrClear port o2201_WTR_CLEAR 0 (.int cand))

/-! The clean-up loop (R77-R79). -/

/-- Largest control value: the pull-in range of 120 ppm, in 0.01 ppb (R77). -/
def pullIn : Int := 12000000

/-- A value within the pull-in range. -/
def clampPull (x : Int) : Int := max (-pullIn) (min pullIn x)

/-- The control value that the loop filter takes with the bandwidth in effect: not given by the manual (log entry 13). -/
def State.freeControl (s : State) (bw : Nat) : Int × State := (clampPull (Config.dpllControl bw s.free), { s with free := s.free + 1 })

/-- What a comparison finds is kept for the longest detection interval, so that it can be discarded (R72). -/
def State.keepCompared (s : State) (d : Nat) : State :=
  let x := s.td d
  let e : Compared := ⟨s.now, s.rd o2100_CONTROL_VALUE d, x.phaseFine, x.buildOut, x.lastPhase, x.slewing, x.goodSince⟩
  s.setTd d { x with compared := e :: x.compared.filter (fun y => decide (s.now ≤ y.at_ + 1100000000)) }

/-- A comparison of a loop's phase (ns) with the selected reference's, whose frequency against OSC_IN is `freq` in 0.01 ppb. While the frequency slews to a
new reference it moves by at most FREQ_SLEW_LIMIT, and the phase gained is built out; a step beyond the threshold is built out and logged, and leaves the frequency (R79, R82). While the
frequency slews, what the difference of the two frequencies gains is no step. -/
def State.phaseCompare (s : State) (d : Nat) (phase freq : Int) : State :=
  let x := s.td d
  let ctl := s.rd o2100_CONTROL_VALUE d
  if ¬ (s.dpll d = DPLL_STATE.acquiring ∨ s.dpll d = DPLL_STATE.locked) then s
  else if x.slewing then
    let s := s.keepCompared d
    let x := s.td d
    let gained : Int := (freq - ctl) * (s.now - x.comparedAt : Nat) / 100000000000
    let stepped : Bool := match x.lastPhase with
      | some p => decide (s.rd o2100_PHASE_STEP_THRESHOLD_NS d < absInt (phase - p - gained)) && s.dpll d == DPLL_STATE.locked
      | none => false
    let s := if stepped then s.pulse .REF_PHASE_STEP d else s
    let step := s.rd o2100_FREQ_SLEW_LIMIT d * 1000 * (s.now - x.comparedAt : Nat) / 1000000000
    let v := clampPull (towards ctl freq step)
    let s := s.setControl d v
    s.setTd d { s.td d with slewing := decide (v ≠ freq), buildOut := phase, lastPhase := some phase, comparedAt := s.now, phaseFine := phase * 30000000 }
  else
    let s := s.keepCompared d
    let x := s.td d
    let step : Int := match x.lastPhase with
      | some p => phase - p
      | none => 0
    let big := decide (s.rd o2100_PHASE_STEP_THRESHOLD_NS d < absInt step) && s.dpll d == DPLL_STATE.locked
    let s := if big then s.pulse .REF_PHASE_STEP d else s
    let (v, s) := if big then (clampPull ctl, s) else s.freeControl x.bw
    let s := s.setControl d v
    let good := decide (absInt (phase - x.buildOut) ≤ 100) && decide (absInt (v - freq) ≤ 1000)
    s.setTd d { s.td d with
      buildOut := if big then x.buildOut + step else x.buildOut
      lastPhase := some phase, comparedAt := s.now, phaseFine := phase * 30000000
      goodSince := if good then some (x.goodSince.getD s.now) else none }

def execPhaseComparison (t td : Nat) (phase freq : Int) (s : State) : Host.Outcome State Fault Refusal := s.run t (fun s => s.phaseCompare td phase freq)

/-- The phase of a candidate steps by `n` ns of its own time (R79, R108): a locked loop builds a step beyond the threshold out and logs it, a smaller one is followed. -/
def State.refStep (s : State) (d : Nat) (n : Int) : State :=
  let x := s.td d
  let big := decide (s.rd o2100_PHASE_STEP_THRESHOLD_NS d < absInt n) && s.dpll d == DPLL_STATE.locked
  let s := s.setTd d { x with phaseFine := x.phaseFine + n * 30000000, lastPhase := x.lastPhase.map (· + n), buildOut := if big then x.buildOut + n else x.buildOut }
  if big then s.pulse .REF_PHASE_STEP d else s

/-- An acquiring loop that has been within the limits for 2 s is locked (R77). -/
def State.dpllLock (s : State) (d : Nat) : State :=
  match (s.td d).goodSince with
  | none => s
  | some g =>
    if s.dpll d = DPLL_STATE.acquiring ∧ g + 2 * second ≤ s.now then
      ((((s.wr o2100_DPLL_STATE d DPLL_STATE.locked).takeBandwidth d).notePhaseSource d).autoAlign d).tdAlarms d
    else s

def execDpllLock (t td : Nat) (s : State) : Host.Outcome State Fault Refusal := s.run t (fun s => s.dpllLock td)

/-! Realignment (R88-R90). -/

/-- A refused realignment command leaves its code in REALIGN_RESULT. -/
def State.realignRefused (s : State) (d k : Nat) : Nat × State := (k, s.wr o2100_REALIGN_RESULT d k)

/-- REALIGN_CMD (R88-R90). -/
def writeRealign : Handler := onInt fun _ d v s =>
  let st := s.rd o2100_REALIGN_STATE d
  if v = REALIGN_CMD.stop then
    if st = REALIGN_STATE.jump_pending then s.realignRefused d stBUSY else (stOK, s.stopSlew d)
  else if st ≠ REALIGN_STATE.idle then s.realignRefused d stBUSY
  else if s.phaseSource d = false then s.realignRefused d 0x0B01
  else if v = REALIGN_CMD.slew then (stOK, s.wr o2100_REALIGN_STATE d REALIGN_STATE.slewing)
  else (stOK, (s.wr o2100_REALIGN_STATE d REALIGN_STATE.jump_pending).setTd d { s.td d with jumpFrame := some (s.fcnt d + 1) })

def execRealignSlew (t port td : Nat) (s : State) : Host.Outcome State Fault Refusal :=
  s.run t (fun s => s.opCmd writeRealign port o2100_REALIGN_CMD td (.int REALIGN_CMD.slew))

def execRealignJump (t port td : Nat) (s : State) : Host.Outcome State Fault Refusal :=
  s.run t (fun s => s.opCmd writeRealign port o2100_REALIGN_CMD td (.int REALIGN_CMD.jump))

def execRealignStop (t port td : Nat) (s : State) : Host.Outcome State Fault Refusal :=
  s.run t (fun s => s.opCmd writeRealign port o2100_REALIGN_CMD td (.int REALIGN_CMD.stop))

/-! Writes of the chapter's other objects (R86, R91). -/

/-- SOFT_LIMIT_PPB and HARD_LIMIT_PPB: the hard limit stays above the soft one (R91). -/
def writeLimit (o : Nat) : Handler := fun c r v s =>
  let (k, s') := storeVal o c r v s
  if s'.rd o2201_HARD_LIMIT_PPB 0 ≤ s'.rd o2201_SOFT_LIMIT_PPB 0 then (stRANGE, s) else (k, s')

/-- CAND_RATE is written for REFA and REFB only (R91). -/
def writeCandRate : Handler := fun c r v s => if r < 2 then storeVal o2200_CAND_RATE c r v s else (stACCESS, s)

/-- Objects that apply to some candidates only (R91). -/
def writeCandOnly (o : Nat) (rows : List Nat) : Handler := fun c r v s => if rows.contains r then storeVal o c r v s else (stUNSUPPORTED, s)

/-- PPS_USED decides whether an F10 candidate gives frame phase (R63, R87). -/
def writePps : Handler := fun c r v s =>
  let (k, s) := writeCandOnly o2200_PPS_USED [2, 3] c r v s
  (k, if k = stOK then (tdList.filter (fun d => s.selected d == r)).foldl State.notePhaseSource s else s)

/-- FP_MODE: 'field' needs an interlaced domain (R86). -/
def writeFpMode : Handler := onInt fun c r v s =>
  if v = FP_MODE.field ∧ interlaced (s.bankRate (s.serving (r / 2)) (r / 2)) = false then (unstatedCode 0, s) else storeVal o2102_FP_MODE c r (.int v) s

end Sys2Proof.Machine
end

