-- ==== Sys2Proof/Machine/Ptp.lean ====
section
/-! DEFINITION. Machine/Ptp.lean: the PTP ports, the clock states, the timestamp queues (R93-R111). Steps of the clock, which restart the time gates, are in
Machine/ClockStep.lean. -/

namespace Sys2Proof.Machine

open Sys2Proof

/-! Timestamp queues (R104-R107). -/

/-- Entries a queue holds. -/
def ptqSize : Nat := 16

/-- A timestamp queue. -/
def State.ptq (s : State) (q : Nat) : List PtqEntry := (storeGet q s.ptp.queues).getD []

/-- Set a queue; PTQ_FILL follows. -/
def State.setPtq (s : State) (q : Nat) (l : List PtqEntry) : State :=
  { s with ptp := { s.ptp with queues := storePut natLt q l s.ptp.queues } }.wr o2310_PTQ_FILL q l.length

/-- The 16 bytes of an entry (R105), bit 127 in the last byte. -/
def ptqBytes (e : PtqEntry) : Bytes :=
  leBytes 16 (e.seconds * 2 ^ 80 + e.nanos * 2 ^ 48 + e.lane * 2 ^ 40 + e.seq * 2 ^ 24 + e.msgType * 2 ^ 20 + (if e.sent then 2 ^ 19 else 0) + 2 ^ 18 +
    e.stepGen * 2 ^ 16 + e.fraction)

/-- The entry of a stamp made now, corrected by `corr` ns. -/
def State.stampEntry (s : State) (lane seq msgType : Nat) (sent : Bool) (corr : Int) : PtqEntry :=
  let c := (((s.clk : Int) + corr * 4294967296) % (clkModulus : Int)).toNat
  ⟨c / clkPerSecond, c % clkPerSecond / 4294967296, lane, seq % 65536, msgType, sent, s.rdN o2301_STEP_COUNT 0 % 4, c % 4294967296 / 65536⟩

/-- Note the stamp that found a queue full in this advance. -/
def State.setSpill (s : State) (q : Nat) (e : Option (Nat × PtqEntry)) : State :=
  { s with ptp := { s.ptp with spill := match e with
    | some e => storePut natLt q e s.ptp.spill
    | none => storeDel q s.ptp.spill } }

/-- A stamp is discarded and counted (R107). -/
def State.discardStamp (s : State) (q : Nat) : State := ((s.wr o2310_PTQ_OVERFLOW q 1).bump o2310_PTQ_DISCARDS q).pulse .PTQ_OVERFLOW q

/-- Once the advance of its arrival is over, a stamp that found its queue full is discarded (R107). -/
def State.settleSpill (s : State) (q : Nat) : State :=
  match storeGet q s.ptp.spill with
  | some e => if e.1 < advances s.now then (s.setSpill q none).discardStamp q else s
  | none => s

/-- A stamp arrives at a queue; at a full one it is discarded and counted (R107). Answers whether it was kept. -/
def State.pushStamp (s : State) (q : Nat) (e : PtqEntry) : Bool × State :=
  let s := s.settleSpill q
  let l := s.ptq q
  if l.length < ptqSize then (true, s.setPtq q (l ++ [e]))
  else if (storeGet q s.ptp.spill).isSome then (false, s.discardStamp q)
  else (false, s.setSpill q (some (advances s.now, e)))

/-- Firmware drains PTQ0 and PTQ1 in every ledger cycle (R104). -/
def State.drainPtq (s : State) : State :=
  let s := [0, 1, 2, 3].foldl State.settleSpill s
  (((s.setSpill 0 none).setSpill 1 none).setPtq 0 []).setPtq 1 []

/-- What a removal leaves of a queue: the stamp that found it full in the same advance joins it, as the removal takes effect first (R107). -/
def State.afterRemoval (s : State) (q : Nat) (l : List PtqEntry) : State :=
  match storeGet q s.ptp.spill with
  | some e => (s.setSpill q none).setPtq q (l ++ [e.2])
  | none => s.setPtq q l

/-- A read of PTQ_POP: queues 0 and 1 are refused; the oldest entry is removed, VALID 0 stands for an empty queue (R104-R106). -/
def State.popPtq (s : State) (q : Nat) : Nat × Bytes × State :=
  if q < 2 then (unstatedCode 1, [], s)
  else
    let s := s.settleSpill q
    match s.ptq q with
    | [] => (stOK, zeros 16, s)
    | e :: l => (stOK, ptqBytes e, s.afterRemoval q l)

/-- A read of MATCH_RESULT removes the oldest entry that matches lane and sequence (R106). -/
def State.matchPtq (s : State) : Nat × Bytes × State :=
  let q := s.rdN o2311_MATCH_QUEUE 0
  let s := s.settleSpill q
  match (s.ptq q).find? (fun e => e.lane == s.rdN o2311_MATCH_LANE 0 && e.seq == s.rdN o2311_MATCH_SEQ 0) with
  | none => (stOK, zeros 16, s)
  | some e => (stOK, ptqBytes e, s.afterRemoval q ((s.ptq q).erase e))

/-- A READ of an object by the open session of a port with a reading of its own. -/
def State.opRead (s : State) (port o r : Nat) (f : State → Nat × Val × State) : State :=
  let k := s.checkRead (s.ctxOf port) o r
  if k ≠ stOK then s.answer k
  else
    let (k, v, s) := f s
    if k = stOK then s.answerVal v else s.answer k

/-- A byte-string reading. -/
def asBytes (x : Nat × Bytes × State) : Nat × Val × State := (x.1, .bytes x.2.1, x.2.2)

def execPtqPop (t port queue : Nat) (s : State) : Host.Outcome State Fault Refusal :=
  s.run t (fun s => s.opRead port o2310_PTQ_POP queue (fun s => asBytes (s.popPtq queue)))

def execMatchResult (t port : Nat) (s : State) : Host.Outcome State Fault Refusal :=
  s.run t (fun s => s.opRead port o2311_MATCH_RESULT 0 (fun s => asBytes s.matchPtq))

/-! Clock objects (R94, R95). -/

/-- A read of TIME_SECONDS latches TIME_NS and TIME_FRAC from the same advance (R95). -/
def State.readSeconds (s : State) : Nat × Val × State :=
  (stOK, .int s.clkSec, (s.wr o2300_TIME_NS 0 s.clkNs).wr o2300_TIME_FRAC 0 s.clkFrac)

def execTimeSeconds (t port : Nat) (s : State) : Host.Outcome State Fault Refusal :=
  s.run t (fun s => s.opRead port o2300_TIME_SECONDS 0 State.readSeconds)

/-- INCREMENT is the host's only while SERVO_OWNER, as the last exchange took it, is 'host' (R94, R99). -/
def writeIncrement : Handler := fun c r v s =>
  if s.ptp.owner = SERVO_OWNER.firmware then (stBUSY, s) else storeVal o2301_INCREMENT c r v s

def execIncrement (t port : Nat) (v : Int) (s : State) : Host.Outcome State Fault Refusal :=
  s.run t (fun s => s.opCmd writeIncrement port o2301_INCREMENT 0 (.int v))

/-! Ports and leaders (R97, R98). -/

/-- The PTP ports. -/
def ptpPorts : List Nat := [0, 1]

/-- What a PTP port holds beside its objects. -/
def State.ptpPort (s : State) (p : Nat) : PtpPort := (storeGet p s.ptp.ports).getD {}

/-- Set a PTP port. -/
def State.setPtpPort (s : State) (p : Nat) (x : PtpPort) : State := { s with ptp := { s.ptp with ports := storePut natLt p x s.ptp.ports } }

/-- The PTP port to which a lane is assigned. -/
def State.portOfLane (s : State) (lane : Nat) : Option Nat := ptpPorts.find? (fun p => s.rdN o2303_PTP_LANE p == lane)

/-- Whether the engine of a lane receives: an Ethernet mode, the lane 'up', the engine's domain on (R128, R132, R139, R140, R162). -/
def State.laneReceives (s : State) (lane : Nat) : Bool := ethMode (s.lane lane).mode && s.laneState lane == LANE_STATE.up && s.pdOn (56 + lane / 24)

/-- A PTP message that is received on a lane and passes steps 2 and 3 of R140; in an errored codeword its frame fails step 1 (R127, R140; log entry 155). -/
def State.heardOn (s : State) (lane : Nat) (f : State → State) : State :=
  if s.laneReceives lane = false then s
  else
    let s := s.bump o3510_RX_FRAMES lane
    if (s.lane lane).errored then s.bump o3510_RX_IP_ERRORS lane else f s

/-- An interval of 2^log s in ns. -/
def logInterval (log : Int) : Nat := if log < 0 then second / 2 ^ (-log).toNat else second * 2 ^ log.toNat

/-- The announce interval. -/
def State.announceNs (s : State) : Nat := logInterval (s.rd o2302_LOG_ANNOUNCE_INTERVAL 0)

/-- Whether a foreign leader that has been heard qualifies: two Announce messages within 4 intervals (R97). -/
def State.leaderOk (s : State) (heard : List Nat) : Bool :=
  match heard with
  | a :: b :: _ => decide (a - b ≤ 4 * s.announceNs)
  | _ => false

/-- The best qualified leader with its port; of equals, port 0's (R97). -/
def State.bestLeader (s : State) : Option (Nat × Foreign) :=
  (ptpPorts.map (fun p => ((s.ptpPort p).leaders.filter (·.qualified)).map (fun f => (p, f)))).flatten.foldl
    (fun best e => match best with
      | none => some e
      | some b => if e.2.rank < b.2.rank then some e else some b) none

/-- PTP0 has signal only while the clock is 'following' (R108). -/
def State.setClockState (s : State) (v : Int) : State :=
  let old := s.rd o2301_CLOCK_STATE 0
  let s := { s.wr o2301_CLOCK_STATE 0 v with ptp := { s.ptp with good := 0, bad := 0, everFollowed := s.ptp.everFollowed || v == CLOCK_STATE.following } }
  let sel := tdList.any (fun d => s.inUse d && s.selected d == 4)
  let s := if v = CLOCK_STATE.free_run then (if old = v then s else s.raiseWith .PTP_NO_LEADER noInst (if sel then 2 else 3) Alarm.PTP_NO_LEADER.subsys [])
    else s.clear .PTP_NO_LEADER noInst
  if v = CLOCK_STATE.following then (if old = v then s else s.refPresent 4 0) else if old = CLOCK_STATE.following then s.refLoss 4 else s

/-- PORT_STATE of both ports (R97). -/
def State.portStates (s : State) : State :=
  ptpPorts.foldl (fun s p =>
    s.wr o2303_PORT_STATE p (if s.rdN o2303_PTP_LANE p = 65535 then PORT_STATE.disabled
      else match s.ptp.leader with
        | some l => if l.1 = p then PORT_STATE.slave else PORT_STATE.listening
        | none => PORT_STATE.listening)) s

/-- The best master clock algorithm after a change of what the ports hear (R97, R98, R100). -/
def State.bmca (s : State) : State :=
  match s.bestLeader with
  | none =>
    let had := s.ptp.leader.isSome
    let s := ({ s with ptp := { s.ptp with leader := none } }.wr o2301_LEADER_PORT 0 255).portStates
    if had then s.setClockState CLOCK_STATE.free_run else s
  | some (p, f) =>
    let old := s.ptp.leader
    let known := s.rdOct o2301_LEADER_ID 0
    let s := { s with ptp := { s.ptp with leader := some (p, f.leader) } }.wr o2301_LEADER_PORT 0 p
    let s := (s.wr o2300_UTC_OFFSET 0 f.utcOffset).wr o2300_UTC_OFFSET_VALID 0 (boolVal f.utcValid)
    let s := if known = beBytes 8 f.leader then s else ((s.wrOct o2301_LEADER_ID 0 (beBytes 8 f.leader)).bump o2301_LEADER_CHANGES 0).pulse .PTP_LEADER_CHANGE noInst
    let s := s.portStates
    let s := match (s.ptpPort p).delay with
      | some n => if old = some (p, f.leader) then s else s.wr o2301_MEAN_PATH_DELAY_NS 0 n
      | none => s
    if (old.map (·.2)) = some f.leader then s else s.setClockState CLOCK_STATE.acquiring

/-- An Announce message on a port (R97). A leader that has qualified stays so until it times out (R98), also after a write of PTP_DOMAIN that makes its
messages another domain's (log entry 147). -/
def State.announce (s : State) (p : Nat) (m : AnnounceMsg) : State :=
  if s.rdN o2303_PTP_LANE p = 65535 ∨ m.domain ≠ s.rdN o2302_PTP_DOMAIN 0 then s
  else
    let x := s.ptpPort p
    let (heard, was) := match x.leaders.find? (fun f => f.leader == m.leader) with
      | some f => (f.heard, f.qualified)
      | none => ([], false)
    let heard := (s.now :: heard).take 2
    let f : Foreign := ⟨m.leader, m.rank, heard, m.utcOffset, m.utcValid, was || s.leaderOk heard⟩
    (s.setPtpPort p { x with leaders := x.leaders.filter (fun g => g.leader != m.leader) ++ [f] }).bmca

def execPtpAnnounce (t p : Nat) (msg : AnnounceMsg) (s : State) : Host.Outcome State Fault Refusal := s.run t (fun s => s.heardOn (s.rdN o2303_PTP_LANE p) (fun s => s.announce p msg))

/-- The announce receipt timeout of a port: leaders not heard for ANNOUNCE_TIMEOUT intervals go (R98). -/
def State.announceTimeout (s : State) (p : Nat) : State :=
  let x := s.ptpPort p
  let lim := s.rdN o2302_ANNOUNCE_TIMEOUT 0 * s.announceNs
  let keep := x.leaders.filter (fun f => match f.heard with
    | a :: _ => decide (s.now < a + lim)
    | [] => false)
  if keep = x.leaders then s
  else
    let lost := match s.ptp.leader with
      | some l => l.1 == p && keep.all (fun f => f.leader != l.2)
      | none => false
    let s := s.setPtpPort p { x with leaders := keep }
    (if lost then s.bump o2303_ANNOUNCE_TIMEOUTS p else s).bmca

def execAnnounceTimeout (t p : Nat) (s : State) : Host.Outcome State Fault Refusal := s.run t (fun s => s.announceTimeout p)

/-- A stamp's time in ns. -/
def PtqEntry.ns (e : PtqEntry) : Int := (e.seconds : Int) * 1000000000 + e.nanos

/-- A Sync received on a lane; of one that no PTP port has it is an unclaimed frame (R140). On a port's lane it is stamped into PTQ0, or into PTQ2 in another domain with MONITOR_DOMAINS (R101, R104). The 'slave' port exchanges with its leader, the
other with whatever leader it hears (R97). -/
def State.syncRx (s : State) (lane : Nat) (m : SyncMsg) : State :=
  match s.portOfLane lane with
  | none => s.bump o3510_UNCLAIMED_PACKETS lane
  | some p =>
    if m.domain = s.rdN o2302_PTP_DOMAIN 0 then
      let e := s.stampEntry lane m.seq 0 false (-(s.rd o2303_ASYMMETRY_NS p))
      let (kept, s) := (s.bump o2303_SYNC_RECEIVED p).pushStamp 0 e
      if kept && (s.rd o2303_PORT_STATE p != PORT_STATE.slave || s.ptp.leader == some (p, m.leader)) then
        s.setPtpPort p { s.ptpPort p with sync := some ⟨m.leader, m.seq, e.ns, e.stepGen, if m.twoStep then none else some m.origin⟩ }
      else s
    else if s.isOn o2302_MONITOR_DOMAINS 0 then (s.pushStamp 2 (s.stampEntry lane m.seq 0 false (-(s.rd o2303_ASYMMETRY_NS p)))).2 else s

def execPtpSync (t lane : Nat) (msg : SyncMsg) (s : State) : Host.Outcome State Fault Refusal := s.run t (fun s => s.heardOn lane (fun s => s.syncRx lane msg))

/-- A Follow_Up gives the origin time of its Sync (R96, R98). -/
def State.followUp (s : State) (p seq leader : Nat) (origin : Int) : State :=
  match (s.ptpPort p).sync with
  | some y => if y.seq = seq ∧ y.leader = leader then s.setPtpPort p { s.ptpPort p with sync := some { y with origin := some origin } } else s
  | none => s

def execPtpFollowUp (t p seq leader : Nat) (origin : Int) (s : State) : Host.Outcome State Fault Refusal := s.run t (fun s => s.heardOn (s.rdN o2303_PTP_LANE p) (fun s => s.followUp p seq leader origin))

/-- An exchange that a Delay_Resp completes: offset and mean path delay. Stamps with differing STEP_GEN are discarded (R98, R105). -/
def State.exchange (s : State) (p seq leader : Nat) (rx : Int) : Option (Int × Int) :=
  match (s.ptpPort p).sync, (s.ptpPort p).req with
  | some y, some r =>
    match y.origin with
    | none => none
    | some o =>
      if r.seq = seq ∧ y.leader = leader ∧ y.gen = r.gen then some (((y.stamp - o) - (rx - r.stamp)) / 2, ((y.stamp - o) + (rx - r.stamp)) / 2) else none
  | _, _ => none

/-- The states of R98 at an exchange of the 'slave' port. -/
def State.exchangeState (s : State) (off : Int) : State :=
  let st := s.rd o2301_CLOCK_STATE 0
  if st = CLOCK_STATE.acquiring then
    let n := if absInt off ≤ 1000 then s.ptp.good + 1 else 0
    if 8 ≤ n then s.setClockState CLOCK_STATE.following else { s with ptp := { s.ptp with good := n } }
  else if st = CLOCK_STATE.following then
    let n := if s.rdN o2301_STEP_THRESHOLD_NS 0 < absInt off then s.ptp.bad + 1 else 0
    if 4 ≤ n then s.setClockState CLOCK_STATE.acquiring else { s with ptp := { s.ptp with bad := n } }
  else s

/-- The increment that the firmware servo computes: a value in the range of R94 that the manual does not give (R99, log entry 17). -/
def State.servo (s : State) : State :=
  let v := 0x3FF7CED92 + Config.servoIncrement (s.rdN o2301_SERVO_BW 0) s.free % (0x40083126E - 0x3FF7CED92 + 1)
  { s with free := s.free + 1 }.wr o2301_INCREMENT 0 v

/-- PTP_LANE: a lane in an Ethernet mode that the other PTP port does not have (R97); the power domain of the lane follows (R453). -/
def writePtpLane : Handler := onInt fun _ p v s =>
  let taken := ptpPorts.any (fun q => q != p && s.rd o2303_PTP_LANE q == v)
  if v ≠ 65535 ∧ (ethMode (s.rd o3000_LANE_MODE v.toNat) = false ∨ taken) then (unstatedCode 2, s)
  else
    let s := s.wr o2303_PTP_LANE p v
    let s := s.setPtpPort p {}
    (stOK, (s.bmca.portStates).refreshPower)

def execPtpLane (t port p lane : Nat) (s : State) : Host.Outcome State Fault Refusal :=
  s.run t (fun s => s.opCmd writePtpLane port o2303_PTP_LANE p (.int lane))

end Sys2Proof.Machine
end

