-- ==== Sys2Proof/Machine/Sound.lean ====
section
/-! DEFINITION. Machine/Sound.lean: what sources place in the audio crosspoint (R153, R161, R209, R210). -/

namespace Sys2Proof.Machine

open Sys2Proof

/-- Samples of a crosspoint block (R209). -/
def blockSize : Nat := 6

/-- A block of silence. -/
def silence : List Int := List.replicate blockSize 0

/-- A source channel places a block in this cadence cycle; silence is not listed. -/
def State.place (s : State) (ch : Nat) (b : List Int) : State :=
  { s with aud := { s.aud with placed := if b = silence then storeDel ch s.aud.placed else storePut natLt ch b s.aud.placed } }

/-- Place the samples of several instants on consecutive channels: one entry per instant, each the values of the channels. -/
def State.placeSamples (s : State) (base : Nat) (l : List (List Int)) : State :=
  let n := (l.map (·.length)).foldl max 0
  (List.range n).foldl (fun s i => s.place (base + i) (l.map (fun f => f.getD i 0))) s

/-- The block that a source channel placed last. -/
def State.lastBlock (s : State) (ch : Nat) : List Int := ((storeGet ch s.aud.placed).orElse (fun _ => storeGet ch s.aud.moved)).getD silence

/-- Samples of the ramp to silence: 1 ms at 48 kHz (R161). -/
def rampSamples : Nat := 48

/-- The feed of source channels is lost: they ramp to silence over 1 ms from here, and stay silent (R161). What they ramp from is the last block placed (log entry 19). -/
def State.audioLost (s : State) (base count : Nat) : State :=
  (List.range count).foldl (fun s i => { s with aud := { s.aud with ramps := storePut natLt (base + i) (0, s.lastBlock (base + i)) s.aud.ramps } }) s

/-- The feed is back: no ramp of these channels goes on, nor the silence after it. -/
def State.audioBack (s : State) (base count : Nat) : State :=
  (List.range count).foldl (fun s i => { s with aud := { s.aud with ramps := storeDel (base + i) s.aud.ramps } }) s

/-- Sample `k` of a ramp from a block. -/
def rampSample (b : List Int) (done i : Nat) : Int := b.getD i 0 * ((rampSamples : Int) - (done + i)) / rampSamples

/-- One cadence cycle of the ramps; past its ramp a channel is silent until its feed is back, whatever else would sound on it (R161). -/
def State.rampCycle (s : State) : State :=
  s.aud.ramps.foldl (fun s e =>
    let (ch, done, b) := e
    if rampSamples ≤ done then s.place ch silence
    else
      let s := s.place ch ((List.range blockSize).map (rampSample b done))
      { s with aud := { s.aud with ramps := storePut natLt ch (done + blockSize, b) s.aud.ramps } }) s

/-- A new cadence cycle begins: what sources placed in the last cycle is what destinations read in this one (R209). -/
def State.cycleBlocks (s : State) : State := { s with aud := { s.aud with placed := [], moved := s.aud.placed } }

/-- The block that destinations read from a source channel in this cycle; silence for none. -/
def State.sourceBlock (s : State) (ch : Nat) : List Int := (storeGet ch s.aud.moved).getD silence

/-- The newest `n` samples of a buffer that does not play yet: it starts at its nominal depth (R153, R210). -/
def newest (n : Nat) (held : List (List Int)) : List (List Int) := held.drop (held.length - n)

/-- An audio FIFO or buffer of samples: take a block, then drop or repeat one sample when the fill has left a range (R153, R210). Answers the block, what is left,
and whether it slipped. -/
def takeBlock (lo hi : Nat) (held : List (List Int)) : List (List Int) × List (List Int) × Bool :=
  let b := held.take blockSize
  let b := b ++ List.replicate (blockSize - b.length) (b.getLast?.getD [])
  let rest := held.drop blockSize
  if rest.length < lo then (b, (b.getLast?.toList) ++ rest, true)
  else if hi < rest.length then (b, rest.drop 1, true) else (b, rest, false)

end Sys2Proof.Machine
end

