-- ==== Sys2Proof/Machine/Words.lean ====
section
/-! DEFINITION. Machine/Words.lean: stored words and their codes, write-backs and poison, the watch table and the retirement of rows (R355-R368). -/

namespace Sys2Proof.Machine

open Sys2Proof

/-! Addresses. -/

/-- Bytes of HBM, of one stack, of on-die SRAM (R56, R362, 1002h.03). -/
def hbmBytes : Nat := 154618822656
def stackBytes : Nat := 25769803776
def sramBytes : Nat := 335544320

/-- Whether an address lies in on-die SRAM. -/
def inSram (a : Nat) : Bool := decide (sramBase ≤ a)

/-- Row of 7003h for an address: stack 0-5, SRAM 6. -/
def memOf (a : Nat) : Nat := if inSram a then 6 else a / stackBytes

/-- First address of the word that holds an address (R355, R356). -/
def wordBase (a : Nat) : Nat := if inSram a then a - a % 8 else a - a % 32

/-- Whether an address exists (R56). -/
def addrExists (a : Nat) : Bool := decide (a < hbmBytes) || decide (sramBase ≤ a ∧ a < sramBase + sramBytes)

/-! The decoder (R355, R356, R367). -/

/-- What a decoder reports. -/
inductive Verdict where
  | clean
  | corrected
  | uncorrectable
  | misplaced
  | poison
deriving DecidableEq, Repr

/-- Bytes of a mask that are not zero, among `n`. -/
def badBytes (n mask : Nat) : Nat := ((List.range n).filter (fun i => mask / 256 ^ i % 256 != 0)).length

/-- Bits of a mask that are set, among `n`. -/
def badBits (n mask : Nat) : Nat := ((List.range n).filter (fun i => mask.testBit i)).length

/-- Symbols of an HBM word, or bits of an SRAM word, that are in error. -/
def errCount (sram : Bool) (e : WordErr) : Nat :=
  if sram then badBits 64 e.data + badBits 8 e.check else badBytes 32 e.data + badBytes 4 e.check

/-- The verdict on more errors than R355 and R356 speak of. -/
def manyVerdict (e : WordErr) : Verdict :=
  match Config.manyErrors e.data e.check % 5 with
  | 0 => .clean
  | 1 => .corrected
  | 2 => .uncorrectable
  | 3 => .misplaced
  | _ => .poison

/-- The verdict on a read (R355-R357, R367): a stored word in error, read from the right place or from a wrong one. -/
def verdict (sram misplaced : Bool) (e : WordErr) : Verdict :=
  if misplaced then .misplaced
  else if e.poison then .poison
  else match errCount sram e with
    | 0 => .clean
    | 1 => .corrected
    | 2 => .uncorrectable
    | _ => manyVerdict e

/-! Words. -/

/-- What is wrong with the word at an address. -/
def State.wordErr (s : State) (a : Nat) : WordErr := (storeGet (wordBase a) s.itg.words).getD {}

/-- Set what is wrong with a word. -/
def State.setWord (s : State) (a : Nat) (e : WordErr) : State :=
  { s with itg := { s.itg with words := if e = {} then storeDel (wordBase a) s.itg.words else storePut natLt (wordBase a) e s.itg.words } }

/-- Pending write-backs of a controller. -/
def State.backsOf (s : State) (u : Nat) : List WriteBack := (storeGet u s.itg.backs).getD []

/-- Set the pending write-backs of a controller. -/
def State.setBacks (s : State) (u : Nat) (l : List WriteBack) : State :=
  { s with itg := { s.itg with backs := if l = [] then storeDel u s.itg.backs else storePut natLt u l s.itg.backs } }

/-- Whether a write-back of a word is pending. -/
def State.backPending (s : State) (a : Nat) : Bool := (s.backsOf (Config.wordUnit (wordBase a))).any (fun b => b.addr == wordBase a)

/-- Pending write-backs that a list holds (R358). -/
def backRoom : Nat := 8

/-- A write-back or poison write is queued, or dropped when the list is full (R358). -/
def State.queueBack (s : State) (a : Nat) (poison : Bool) : State :=
  let u := Config.wordUnit (wordBase a)
  let l := s.backsOf u
  if s.backPending a then s
  else if backRoom ≤ l.length then (s.bump o7000_WRITEBACKS_DROPPED 0).raiseQuiet .MEM_WRITEBACK_DROP u
  else s.setBacks u (l ++ [⟨wordBase a, poison⟩])

/-- A word is written with new data: its pending write-back is cancelled, errors and poison go, MEM_POISON clears (R358, R367, R368). -/
def State.wordWritten (s : State) (a : Nat) : State :=
  let w := wordBase a
  let u := Config.wordUnit w
  let s := if s.backPending a then (s.setBacks u ((s.backsOf u).filter (fun b => b.addr != w))).bump o7000_WRITEBACKS_CANCELLED 0 else s
  let s := (s.setWord w {}).clear .MEM_POISON w
  { s with itg := { s.itg with lines := s.itg.lines.filter (fun b => b.addr != w) } }

/-- The words of a line, or of the ancillary area, are written by their source (R369): the uncorrectable ones among them are whole again. -/
def State.lineWritten (s : State) (ep line : Nat) : State :=
  (s.itg.lines.filter (fun b => b.ep == ep && b.line == line)).foldl (fun s b => s.wordWritten b.addr) s

/-- Whether a line of a frame holds an uncorrectable word. -/
def State.lineBad (s : State) (ep serial line : Nat) : Bool := s.itg.lines.any (fun b => b.ep == ep && b.serial == serial && b.line == line)

/-- A concealed line is counted once (R369). -/
def State.countBadLine (s : State) (ep serial line : Nat) : State :=
  let hit := fun (b : BadLine) => b.ep == ep && b.serial == serial && b.line == line
  if s.itg.lines.any (fun b => hit b && !b.counted) then
    { s with itg := { s.itg with lines := s.itg.lines.map (fun b => if hit b then { b with counted := true } else b) } }.bump o7000_POISON_LINES_CONCEALED 0
  else s

/-! Retirement (R364, R365). -/

/-- Seconds of the supervisor's monotonic count (R364). -/
def State.monoSec (s : State) : Nat := s.now / 1000000000

/-- A record in flash; it waits for the end of ride-through (R445). -/
def State.noteFlash (s : State) (w : FlashWrite) : State :=
  if s.pwr.dipFrom.isSome then { s with pwr := { s.pwr with postponed := s.pwr.postponed ++ [w] } }.wr o1400_POSTPONED_WRITES 0 (s.pwr.postponed.length + 1 : Nat) else s

/-- Weak words listed. -/
def State.weakList (s : State) : List Nat := (List.range (min 256 (s.rdN o7002_WEAK_WORDS 0))).map (fun w => s.rdN o7005_WEAK_ADDR w)

/-- A word is marked weak (R365). -/
def State.markWeak (s : State) (a : Nat) : State :=
  let n := s.rdN o7002_WEAK_WORDS 0
  if s.weakList.contains a then s
  else
    let s := if n < 256 then (s.wr o7005_WEAK_ADDR n a).wr o7002_WEAK_WORDS 0 (n + 1 : Nat) else s.bump o7002_WEAK_UNLISTED 0
    (s.noteFlash (.weakWord a)).raise .MEM_WEAK_WORD noInst

/-- Rows that a memory is retiring. -/
def State.rowsOf (s : State) (m : Nat) : List RowCopy := (storeGet m s.itg.rows).getD []

/-- Set the rows that a memory is retiring. -/
def State.setRows (s : State) (m : Nat) (l : List RowCopy) : State :=
  { s with itg := { s.itg with rows := if l = [] then storeDel m s.itg.rows else storePut natLt m l s.itg.rows } }

/-- Whether two words share a row. -/
def sameRow (a b : Nat) : Bool := memOf a == memOf b && Config.wordRow a == Config.wordRow b

/-- The row of a word is retired, or the word is marked weak when its bank has no spare row (R364, R365). A row whose copy is queued or runs has been retired already (log entry 166). -/
def State.retire (s : State) (a : Nat) : State :=
  let m := memOf a
  let b := Config.wordBank a
  let used := (storeGet b s.itg.bankUsed).getD 0
  if (s.rowsOf m).any (fun r => sameRow r.addr a) then s
  else if Config.bankSpares b ≤ used then s.markWeak a
  else
    let s := { s with itg := { s.itg with
      bankUsed := storePut natLt b (used + 1) s.itg.bankUsed
      memUsed := storePut natLt m ((storeGet m s.itg.memUsed).getD 0 + 1) s.itg.memUsed } }
    let s := s.setRows m (s.rowsOf m ++ [{ addr := a }])
    let s := (s.bump o7002_RETIREMENTS 0).bump o7003_ROWS_RETIRED m
    let s := if m < 6 then s.bump o7002_REPAIRS_PENDING 0 else s
    let s := (s.itg.words.filter (fun e => sameRow e.1 a)).foldl (fun s e => s.clear .MEM_POISON e.1) (s.clear .MEM_POISON a)
    (s.noteFlash (.retirement a)).pulse .MEM_WORD_RETIRED a

/-- Postponed records that are discarded (R447): a row whose retirement is not in flash is not retired after the next start, nor is a word weak. -/
def State.dropFlash (s : State) : State :=
  let less := fun (o r : Nat) (s : State) => s.wr o r (s.rdN o r - 1 : Nat)
  let s := s.pwr.postponed.foldl (fun s w =>
    match w with
    | .retirement a =>
      let m := memOf a
      let b := Config.wordBank a
      let s := less o7003_ROWS_RETIRED m (less o7002_RETIREMENTS 0 s)
      let s := if m < 6 then less o7002_REPAIRS_PENDING 0 s else s
      { s with itg := { s.itg with bankUsed := storePut natLt b ((storeGet b s.itg.bankUsed).getD 0 - 1) s.itg.bankUsed,
                                   memUsed := storePut natLt m ((storeGet m s.itg.memUsed).getD 0 - 1) s.itg.memUsed } }
    | .weakWord a =>
      let n := s.rdN o7002_WEAK_WORDS 0
      if 0 < n ∧ s.rdN o7005_WEAK_ADDR (n - 1) = a then (s.wr o7005_WEAK_ADDR (n - 1) 0).wr o7002_WEAK_WORDS 0 (n - 1 : Nat) else less o7002_WEAK_UNLISTED 0 s
    | _ => s) s
  { s with pwr := { s.pwr with postponed := [] } }.wr o1400_POSTPONED_WRITES 0 0

/-- SPARE_ROWS_LEFT. -/
def State.sparesLeft (s : State) (m : Nat) : Nat := Config.spareRows m - (storeGet m s.itg.memUsed).getD 0

/-! The watch table (R364, R366). -/

/-- Entries of the watch table. -/
def watchList : List Nat := List.range 512

/-- Entries in use. -/
def State.watchUsed (s : State) : List Nat := watchList.filter (fun e => s.rd o7004_WATCH_COUNT e != 0)

/-- WATCH_USED follows the table, and MEM_WATCH_FULL clears below 480 (R366). -/
def State.noteWatch (s : State) : State :=
  let n := s.watchUsed.length
  let s := s.wr o7002_WATCH_USED 0 n
  if n < 480 then s.clear .MEM_WATCH_FULL noInst else s

/-- An entry is freed. -/
def State.freeWatch (s : State) (e : Nat) : State := ((s.wr o7004_WATCH_ADDR e 0).wr o7004_WATCH_COUNT e 0).wr o7004_WATCH_FIRST_S e 0

/-- Whether an entry lies within its window. -/
def State.inWindow (s : State) (e : Nat) : Bool := decide (s.monoSec - s.rdN o7004_WATCH_FIRST_S e < s.rdN o7002_WATCH_WINDOW_H 0 * 3600)

/-- Write an entry. -/
def State.setWatch (s : State) (e a n first : Nat) : State := ((s.wr o7004_WATCH_ADDR e a).wr o7004_WATCH_COUNT e n).wr o7004_WATCH_FIRST_S e first

/-- The entry with COUNT 1 whose FIRST_TIME is oldest. -/
def State.oldestWatch (s : State) : Option Nat :=
  (s.watchUsed.filter (fun e => s.rd o7004_WATCH_COUNT e == 1)).foldl (fun best e =>
    match best with
    | none => some e
    | some b => if s.rdN o7004_WATCH_FIRST_S e < s.rdN o7004_WATCH_FIRST_S b then some e else best) none

/-- A free entry, freeing some when there is none (R366): with the state after it. -/
def State.freeEntry (s : State) : Option Nat × State :=
  match watchList.find? (fun e => s.rd o7004_WATCH_COUNT e == 0) with
  | some e => (some e, s)
  | none =>
    let old := watchList.filter (fun e => !s.inWindow e)
    match old with
    | e :: _ => (some e, old.foldl State.freeWatch s)
    | [] => match s.oldestWatch with
      | some e => (some e, (s.freeWatch e).bump o7002_WATCH_EVICTIONS 0)
      | none => (none, s)

/-- A counted event on a word: 1 for a correction, 2 for an uncorrectable error (R364, R366). -/
def State.watchEvent (s : State) (a n : Nat) : State :=
  let w := wordBase a
  match s.watchUsed.find? (fun e => s.rdN o7004_WATCH_ADDR e == w) with
  | some e =>
    if s.inWindow e then
      let c := s.rdN o7004_WATCH_COUNT e + n
      if 3 ≤ c then ((s.freeWatch e).retire w).noteWatch else s.wr o7004_WATCH_COUNT e c
    else s.setWatch e w n s.monoSec
  | none => match s.freeEntry with
    | (some e, s) => (s.setWatch e w n s.monoSec).noteWatch
    | (none, s) => ((s.bump o7002_WATCH_UNTRACKED 0).raise .MEM_WATCH_FULL noInst).noteWatch

/-! A read that meets an error (R355-R358, R364, R367, R368). -/

/-- The error record (7009h). -/
def State.errRecord (s : State) (a : Nat) (kind by_ : Int) (item : Nat) : State :=
  let o := s.ownerOfAddr a
  let cls : Nat := (o.map (·.cls)).getD 0
  let id : Nat := (o.map (·.id)).getD 0
  let buf := cls == 1
  let vals : List (Nat × Int) := [(o7009_ERR_ADDR, a), (o7009_ERR_KIND, kind), (o7009_ERR_FOUND_BY, by_), (o7009_ERR_OWNER_CLASS, cls), (o7009_ERR_OWNER_ID, id),
    (o7009_ERR_DOMAIN, match o with
      | some r => r.dom
      | none => 255),
    (o7009_ERR_FORMAT, if buf then (match s.planned id with
      | some e => (e.fmt : Int)
      | none => 0) else 0),
    (o7009_ERR_LINE, if buf then item else 0),
    (o7009_ERR_FCNT, match o with
      | some r => s.rd o2100_FCNT r.dom
      | none => 0)]
  vals.foldl (fun s e => s.wr e.1 0 e.2) s

/-- Detail of a memory alarm: address and owner. -/
def State.errData (s : State) (a : Nat) : Bytes :=
  match s.ownerOfAddr a with
  | some r => leBytes 8 a ++ leBytes 1 r.cls ++ leBytes 1 r.dom ++ leBytes 2 r.id
  | none => leBytes 8 a ++ [0#8, 0xFF#8, 0#8, 0#8]

/-- Counters of 7000h for HBM and SRAM. -/
def errCounter (a hbm sram : Nat) : Nat := if inSram a then sram else hbm

/-- The flips of a touch join the word. -/
def State.flip (s : State) (w : WordTouch) : State :=
  let e := s.wordErr w.addr
  s.setWord w.addr { e with data := e.data ^^^ w.data, check := e.check ^^^ w.check }

/-- The read of a word by the auditor or by a reader: its verdict, with all that R355-R368 do at once. -/
def State.readWord (s : State) (auditor : Bool) (w : WordTouch) : Verdict × State :=
  let s := s.flip w
  let a := wordBase w.addr
  let v := verdict (inSram a) w.misplaced (s.wordErr a)
  let by_ := if auditor then ERR_FOUND_BY.auditor else ERR_FOUND_BY.reader
  let pend := s.backPending a
  (v, match v with
    | .clean => s
    | .corrected =>
      let s := (s.bump (errCounter a o7000_HBM_CORRECTED o7000_SRAM_CORRECTED) 0).bump o7003_UNIT_CORRECTED (memOf a)
      if pend then s else (s.watchEvent a 1).queueBack a false
    | .uncorrectable =>
      if (s.backsOf (Config.wordUnit a)).any (fun b => b.addr == a && b.poison) then s
      else
        let s := (s.bump (errCounter a o7000_HBM_UNCORRECTABLE o7000_SRAM_UNCORRECTABLE) 0).bump o7003_UNIT_UNCORRECTABLE (memOf a)
        let s := s.errRecord a ERR_KIND.uncorrectable by_ w.item
        let s := match s.ownerOfAddr a with
          | some r => if r.cls = 5 then s else s.raiseWith .MEM_POISON a Alarm.MEM_POISON.severity Alarm.MEM_POISON.subsys (s.errData a)
          | none => s.raiseWith .MEM_POISON a Alarm.MEM_POISON.severity Alarm.MEM_POISON.subsys (s.errData a)
        (s.queueBack a true).watchEvent a 2
    | .misplaced =>
      let s := (s.bump (errCounter a o7000_HBM_ADDRESS_ERRORS o7000_SRAM_ADDRESS_ERRORS) 0).errRecord a ERR_KIND.address by_ w.item
      (s.raiseWith .MEM_ADDRESS_ERROR a Alarm.MEM_ADDRESS_ERROR.severity Alarm.MEM_ADDRESS_ERROR.subsys (leBytes 8 w.addr ++ [BitVec.ofNat 8 (memOf a)])).clear .MEM_ADDRESS_ERROR a
    | .poison => (s.bump o7000_POISON_READS 0).errRecord a ERR_KIND.poison by_ w.item)

/-- Whether a verdict leaves a reader without the data (R357, R369). -/
def Verdict.bad : Verdict → Bool
  | .uncorrectable => true
  | .misplaced => true
  | .poison => true
  | _ => false

end Sys2Proof.Machine
end

