-- ==== Sys2Proof/Machine/Buffers.lean ====
section
/-! DEFINITION. Machine/Buffers.lean: the buffers of source endpoints and what their readers show while a feed is away (R152, R161, R194-R197), and the SDI
inputs that feed them (R162-R165). -/

namespace Sys2Proof.Machine

open Sys2Proof

/-- The buffer of a source endpoint. -/
def State.buf (s : State) (ep : Nat) : Buf := (storeGet ep s.med.bufs).getD {}

/-- Set a buffer. -/
def State.setBuf (s : State) (ep : Nat) (x : Buf) : State := { s with med := { s.med with bufs := storePut natLt ep x s.med.bufs } }

/-- Domain and format of a planned endpoint. -/
def State.epDomain (s : State) (ep : Nat) : Nat :=
  match s.planned ep with
  | some e => e.dom
  | none => 4
def State.epFormat (s : State) (ep : Nat) : Nat :=
  match s.planned ep with
  | some e => e.fmt
  | none => 0

/-! What feeds a slot (R161). -/

/-- Lanes of the links of an SDI input, first link first. -/
def State.sdiLinks (s : State) (l : Nat) : List Nat :=
  let n := s.rdN o3540_SDI_IN_LINKS l
  if n = 0 then [] else l :: ((List.range (n - 1)).map (fun i => fieldNat (2 * i) 2 (s.rdOct o3540_LINK_LANES l)))

/-- Lanes. -/
def laneList : List Nat := List.range 192

/-- First link's lane of the SDI input that a lane belongs to. -/
def State.sdiInputOf (s : State) (lane : Nat) : Option Nat := laneList.find? (fun l => (s.sdiLinks l).contains lane)

/-- First link's lane of the SDI input that feeds a slot. -/
def State.sdiFeed (s : State) (ep : Nat) : Option Nat := laneList.find? (fun l => s.rdN o3540_SDI_IN_LINKS l != 0 && s.rdN o3540_SDI_IN_ENDPOINT l == ep)

/-- Whether a kind of flow carries audio only. -/
def audioKind (k : Int) : Bool := k == FLOW_KIND.st2110_30 || k == FLOW_KIND.st2110_31

/-- The enabled flow row that feeds an endpoint with pictures. -/
def State.flowFeed (s : State) (ep : Nat) : Option Nat :=
  ((s.listed o3600_FLOW_ENABLE).find? (fun e => s.rdN o3600_ENDPOINT e.1 == ep && !audioKind (s.rd o3600_FLOW_KIND e.1) &&
    s.rd o3600_FLOW_KIND e.1 != FLOW_KIND.st2110_40)).map (·.1)

/-- LOSS_HOLD_FRAMES of a slot (R161). -/
def State.lossHold (s : State) (ep : Nat) : Nat :=
  match s.sdiFeed ep with
  | some l => s.rdN o3540_LOSS_HOLD_FRAMES l
  | none => match s.flowFeed ep with
    | some f => s.rdN o3600_FLOW_LOSS_HOLD_FRAMES f
    | none => 0

/-- Audio channels of an SDI input: at most 16 on 1.5G links (R163). -/
def State.sdiAudio (s : State) (l : Nat) : Nat × Nat :=
  let n := s.rdN o3540_AUDIO_CHANNELS l
  let single := match fmtSdi (s.epFormat (s.rdN o3540_SDI_IN_ENDPOINT l)) with
    | some (1, _) => true
    | _ => false
  (s.rdN o3540_AUDIO_BASE_CH l, if single then min 16 n else n)

/-- SRC_AUDIO_BASE and SRC_AUDIO_COUNT of a slot: the channels of the SDI input or ST 2022-6 flow that feeds it, else those planned (R163, R215, log entry 20). -/
def State.slotAudio (s : State) (ep : Nat) : Nat × Nat :=
  match s.sdiFeed ep with
  | some l => s.sdiAudio l
  | none =>
    match (s.flowFeed ep).filter (fun f => s.rd o3600_FLOW_KIND f == FLOW_KIND.st2022_6) with
    | some f => (s.rdN o3600_FLOW_AUDIO_BASE_CH f, s.rdN o3600_FLOW_AUDIO_CHANNELS f)
    | none => match s.planned ep with
      | some e => (e.audioBase, e.audioCount)
      | none => (0, 0)

/-- Whether the readers of a buffer take black in a frame of its domain. -/
def Buf.dark (x : Buf) (f : Nat) : Bool := ((x.shades.find? (fun e => decide (e.1 ≤ f))).map (·.2)).getD true

/-- From a frame on readers take black, or the pictures written. -/
def Buf.shade (x : Buf) (f : Nat) (black : Bool) : Buf := { x with shades := ((f, black) :: x.shades.filter (fun e => decide (e.1 < f))).take 6 }

/-- The feed of a slot goes 'lost' or 'format mismatch': the last frame, which may be one that its readers have still to read, is repeated for LOSS_HOLD_FRAMES frames,
then black (R161). -/
def State.feedDown (s : State) (ep : Nat) : State :=
  let x := s.buf ep
  if x.down then s
  else
    let last := max (s.fcnt (s.epDomain ep)) ((x.frames.head?.map (·.tag)).getD 0)
    let s := s.setBuf ep ({ x with down := true }.shade (last + 1 + s.lossHold ep) true)
    if ep < 4096 then s.wr o4003_ALIGN_STATE ep ALIGN_STATE.no_input else s

/-- The feed is present again: writing resumes at the next frame start, and what readers took they take until that frame (R161). -/
def State.feedUp (s : State) (ep : Nat) : State :=
  let x := s.buf ep
  if x.down then s.setBuf ep { x with down := false, offRun := 0 } else s

/-- LOSS_HOLD_END: after the repeats readers take black (R161, R195), which the count of frames has brought by then; what went before is forgotten. -/
def State.holdEnd (s : State) (ep : Nat) : State :=
  let x := s.buf ep
  let f := s.fcnt (s.epDomain ep)
  if x.dark f then s.setBuf ep { x with shades := x.shades.filter (fun e => decide (f < e.1)) ++ [(f, true)] } else s

def execLossHoldEnd (t slot : Nat) (s : State) : Host.Outcome State Fault Refusal := s.run t (fun s => s.holdEnd slot)

/-! Frames arriving in a slot's buffer (R194-R197). -/

/-- Whether a packet is the ST 352 payload identifier, which is never carried through (R207). -/
def isPayloadId (a : AncPkt) : Bool := a.did == 0x41 && a.sdid == 1

/-- The ancillary data of a frame with packets added in order (R149, R163, R207): packets whose checksum is wrong and payload identifiers are left out; what goes beyond 255 packets or
64 KiB, a byte for each user data word, is not taken (log entry 156). -/
def ancAdd (old new : List AncPkt) : List AncPkt :=
  new.foldl (fun l a =>
    if a.sumOk && !isPayloadId a && decide (l.length < 255) && decide (sumNat (l.map (·.words)) + a.words ≤ 65536) then l ++ [a] else l) old

/-- Ancillary data joins the newest frame (R163, R207); while the feed is away there is none (R161). -/
def State.ancFull (s : State) (ep : Nat) (anc : List AncPkt) : State :=
  let x := s.buf ep
  match x.frames with
  | f :: l => if x.down then s else s.setBuf ep { x with frames := { f with anc := ancAdd f.anc anc } :: l }
  | [] => s

/-- Ancillary data joins the frame of a serial. -/
def State.ancTo (s : State) (ep serial : Nat) (anc : List AncPkt) : State :=
  let x := s.buf ep
  s.setBuf ep { x with frames := x.frames.map (fun f => if f.serial = serial then { f with anc := ancAdd f.anc anc } else f) }

/-- A line that has been written in full joins the newest frame; one that the lane marked with a CRC mismatch is written all the same, its mark with it (R130, R163). -/
def State.lineFull (s : State) (ep line : Nat) (crcBad : Bool) : State :=
  let x := s.buf ep
  match x.frames with
  | f :: l => (s.setBuf ep { x with frames := { f with full := line :: f.full, marked := if crcBad then line :: f.marked else f.marked } :: l }).lineWritten ep line
  | [] => s

/-- A new frame starts in a buffer. -/
def State.startFrame (s : State) (ep tag : Nat) : State :=
  let x := s.buf ep
  (s.setBuf ep { x with frames := (⟨x.nextSerial, tag, s.now, [], [], []⟩ :: x.frames).take 5, nextSerial := x.nextSerial + 1 }).lineWritten ep 0

/-- The arrival offset of a frame whose first active line starts now, against the nearest nominal instant of 'line' mode, with the FCNT it is tagged to: the
line runs `depth` line periods ahead of its readers (R194). -/
def State.arrival (s : State) (ep depth : Nat) : Int × Nat :=
  let fc := s.epFormat ep
  let d := s.epDomain ep
  let p : Int := periodNs (fmtRate fc)
  let nominal : Int := (s.td d).tickAt + (linesNs fc (fmtFirstActive fc - 1) : Int) - linesNs fc depth
  let e := (s.now : Int) - nominal
  if p = 0 then (e, s.fcnt d)
  else
    let k := (2 * e + p) / (2 * p)
    (e - k * p, ((s.fcnt d : Int) + k).toNat)

/-- A frame's first active line starts to be written into an input slot: in window, off time or synchronised (R194-R196). Answers whether the frame is
written. -/
def State.frameArrives (s : State) (ep : Nat) : Bool × State :=
  let mode := s.rd o4003_ALIGN_MODE ep
  if mode = ALIGN_MODE.line then
    let depth := s.rdN o4003_ALIGN_DEPTH ep
    let (e, tag) := s.arrival ep depth
    let s := s.wr o4003_ARRIVAL_OFFSET_NS ep e
    if absInt e ≤ linesNs (s.epFormat ep) (depth - 1) then
      let s := (s.wr o4003_ALIGN_STATE ep ALIGN_STATE.in_window).clear .FAB_INPUT_OFF_TIME ep
      let s := s.setBuf ep ({ s.buf ep with offRun := 0 }.shade tag false)
      (true, s.startFrame ep tag)
    else
      let x := s.buf ep
      let n := x.offRun + 1
      let s := ((s.overdraft 3 (s.epDomain ep) (missSubsys 3)).bump o4003_OFFTIME_FRAMES ep).wr o4003_ALIGN_STATE ep ALIGN_STATE.off_time
      let s := (s.raise .FAB_INPUT_OFF_TIME ep).setBuf ep (if n = s.lossHold ep + 1 then { x with offRun := n }.shade tag true else { x with offRun := n })
      (false, s)
  else if mode = ALIGN_MODE.none then (true, (s.setBuf ep ((s.buf ep).shade (s.fcnt (s.epDomain ep)) false)).startFrame ep (s.fcnt (s.epDomain ep)))
  else (true, (s.wr o4003_ALIGN_STATE ep ALIGN_STATE.synchronised).startFrame ep (s.fcnt (s.epDomain ep)))

/-- Delay of a source frame seen from a destination frame that starts now (R196). -/
def frameDelay (now : Nat) (f : BufFrame) : Nat := now - f.start

/-- The source frame that a buffer of depth `n` frames gives the destination frame starting now, after frame `prev` (R196). -/
def syncChoice (now period line n : Nat) (frames : List BufFrame) (prev : Option Nat) : Option BufFrame :=
  let window := frames.find? (fun f => decide ((n - 1) * period + 4 * line ≤ frameDelay now f ∧ frameDelay now f < n * period + 4 * line))
  match prev with
  | none => window
  | some k =>
    match frames.find? (fun f => f.serial == k + 1) with
    | some c => if (n - 1) * period + 2 * line ≤ frameDelay now c ∧ frameDelay now c < n * period + 6 * line then some c else window
    | none => window

/-- Alignment mode of a source endpoint's buffer: of an input slot (4003h) or of an XS decoder output (5011h), numbered as 4003h.01 (R193, R269). -/
def State.alignMode (s : State) (ep : Nat) : Int :=
  if ep < 4096 then s.rd o4003_ALIGN_MODE ep else if ep / 4096 = 2 then s.rd o5011_XS_ALIGN_MODE (ep % 4096) else ALIGN_MODE.none

/-- Count a repeat or dropped frames of a frame-synchronised buffer and raise its alarm (R196, R269). -/
def State.countSync (s : State) (ep : Nat) (again : Bool) (skipped : Nat) : State :=
  let slot := decide (ep < 4096)
  let r := ep % 4096
  let s := if again then s.bump (if slot then o4003_ALIGN_REPEATS else o5012_XS_REPEATS) r
    else if 0 < skipped then s.addTo (if slot then o4003_ALIGN_DROPS else o5012_XS_DROPS) r skipped else s
  if again ∨ 0 < skipped then s.raiseQuiet (if slot then .FAB_SYNC_SLIP else .XS_SYNC_SLIP) ep else s

/-- Whether a source endpoint's buffer is frame-synchronised (R193, R269). -/
def State.frameSynced (s : State) (ep : Nat) : Bool := s.alignMode ep == ALIGN_MODE.frame_1 || s.alignMode ep == ALIGN_MODE.frame_2

/-- At the read of line period 1 a frame-synchronised buffer chooses the frame to read, once per destination frame (R196, R269). -/
def State.syncSelect (s : State) (ep : Nat) : State :=
  let x := s.buf ep
  let g := s.fcnt (s.epDomain ep)
  if s.frameSynced ep && !x.down && x.chosen.head?.map (·.1) != some g then
    let n := if s.alignMode ep = ALIGN_MODE.frame_1 then 1 else 2
    let fc := s.epFormat ep
    let prev := (x.chosen.head?.filter (fun e => e.1 + 1 == g)).map (·.2)
    match syncChoice s.now (periodNs (fmtRate fc)) (linesNs fc 1) n x.frames prev with
    | some f =>
      let skipped := match prev with
        | some k => f.serial - (k + 1)
        | none => 0
      let s := s.setBuf ep ({ x with chosen := ((g, f.serial) :: x.chosen).take 6 }.shade g false)
      let s := if ep < 4096 then s.wr o4003_ALIGN_DELAY_NS ep (frameDelay s.now f) else s
      s.countSync ep (prev == some f.serial) skipped
    | none => s
  else s

/-- The frame-synchronised buffers of a domain choose at its tick, which is where line period 1 is read. -/
def State.syncSelects (s : State) (d : Nat) : State := ((s.med.bufs.map (·.1)).filter (fun ep => s.epDomain ep == d)).foldl State.syncSelect s

/-- A codestream frame's first packet arrives at an XS decoder (R269). Answers whether the frame is decoded. -/
def State.xsArrives (s : State) (c : Nat) : Bool × State :=
  let ep := 0x2000 + c
  if s.alignMode ep = ALIGN_MODE.line then
    let depth := s.rdN o5011_XS_ALIGN_DEPTH c
    let (e, tag) := s.arrival ep depth
    let s := s.wr o5011_XS_ARRIVAL_OFFSET_NS c e
    if absInt e ≤ linesNs (s.epFormat ep) (depth - 32) then (true, ((s.clear .XS_OFF_TIME c).setBuf ep ((s.buf ep).shade tag false)).startFrame ep tag)
    else (false, (s.bump o5012_XS_OFFTIME_FRAMES c).raise .XS_OFF_TIME c)
  else
    let g := s.fcnt (s.epDomain ep)
    (true, (if s.frameSynced ep then s else s.setBuf ep ((s.buf ep).shade g false)).startFrame ep g)

/-! SDI inputs and their lanes (R162-R165). -/

/-- An SDI input beside its objects. -/
def State.sdi (s : State) (l : Nat) : SdiIn := (storeGet l s.med.sdi).getD {}

/-- Set an SDI input. -/
def State.setSdi (s : State) (l : Nat) (x : SdiIn) : State := { s with med := { s.med with sdi := storePut natLt l x s.med.sdi } }

/-- MT_INPUT_LOSS and MT_FORMAT_MISMATCH of a source endpoint (R171). -/
def State.inputAlarms (s : State) (ep : Nat) (lost mismatch : Bool) : State :=
  (s.alarmWhile .MT_INPUT_LOSS ep lost).alarmWhile .MT_FORMAT_MISMATCH ep mismatch

/-- An SDI input takes a state, its slot following (R161). -/
def State.setSdiState (s : State) (l : Nat) (st : Int) : State :=
  let ep := s.rdN o3540_SDI_IN_ENDPOINT l
  let s := (s.wr o3540_SDI_IN_STATE l st).inputAlarms ep (st == SDI_IN_STATE.lost) (st == SDI_IN_STATE.format_mismatch)
  let (b, n) := s.sdiAudio l
  if st = SDI_IN_STATE.present then (s.feedUp ep).audioBack b n
  else if st = SDI_IN_STATE.lost ∨ st = SDI_IN_STATE.format_mismatch then
    ((s.feedDown ep).audioLost b n).setSdi l { s.sdi l with fifo := [], playing := false, writing := false }
  else s

/-- Depths of the FIFO of embedded audio: start, lowest, highest, in samples (R210). -/
def fifoStart : Nat := 24
def fifoLow : Nat := 12
def fifoHigh : Nat := 36

/-- One cadence cycle of an SDI input's FIFO: a block is placed, one sample dropped or repeated when the fill leaves its range; SRC_LOCKED after 10 s without a
slip (R210). -/
def State.sdiFifo (s : State) (l : Nat) : State :=
  let x := s.sdi l
  let (base, n) := s.sdiAudio l
  let chans := List.range n
  if x.playing = false ∧ x.fifo.length < fifoStart then s
  else
    let x := if x.playing = false then { x with fifo := newest fifoStart x.fifo } else x
    let x := if x.playing then x else { x with playing := true, since := s.now }
    let (b, rest, slip) := takeBlock fifoLow fifoHigh x.fifo
    let s := (s.setSdi l { x with fifo := rest, since := if slip then s.now else x.since }).placeSamples base b
    let s := if slip then chans.foldl (fun s i => (s.bump o4102_SRC_SLIPS (base + i)).raiseQuiet .AUD_SRC_SLIP (base + i)) s else s
    let locked := decide ((s.sdi l).since + 10 * second ≤ s.now)
    chans.foldl (fun s i => s.wr o4102_SRC_LOCKED (base + i) (boolVal locked)) s

/-- A lane left 'up': the SDI input on it is lost at once (R162). -/
def State.laneLeftUp (s : State) (lane : Nat) : State :=
  match s.sdiInputOf lane with
  | some l => if s.rd o3540_SDI_IN_STATE l = SDI_IN_STATE.not_planned then s else (s.setSdiState l SDI_IN_STATE.lost).setSdi l {}
  | none => s

/-- A lane entered 'up': an SDI input all of whose links are up is locking (R132, R162). -/
def State.laneEnteredUp (s : State) (lane : Nat) : State :=
  match s.sdiInputOf lane with
  | some l =>
    if s.rd o3540_SDI_IN_STATE l = SDI_IN_STATE.lost ∧ (s.sdiLinks l).all (fun k => s.rd o3100_LANE_STATE k == LANE_STATE.up) then
      s.wr o3540_SDI_IN_STATE l SDI_IN_STATE.locking
    else s
  | none => s

end Sys2Proof.Machine
end

