-- ==== Sys2Proof/Machine/Lanes.lean ====
section
/-! DEFINITION. Machine/Lanes.lean: lane modes, equalisation, lock and lane states (R112-R137), and what an SDI engine takes from a line (R163-R165). -/

namespace Sys2Proof.Machine

open Sys2Proof

/-! Modes (R112, R118). -/

/-- PAM4 modes. -/
def pam4 (m : Int) : Bool := m == LANE_MODE.m50gbase_r || m == LANE_MODE.m100gbase_kr1 || m == LANE_MODE.m100gbase_cr1 || m == LANE_MODE.ivard

/-- Whether the lane's mode uses codewords of an RS FEC (R127). -/
def State.usesFec (s : State) (l : Nat) : Bool :=
  let m := (s.lane l).mode
  (pam4 m && m != LANE_MODE.ivard) || (m == LANE_MODE.m25gbase_r && s.rd o3000_FEC_MODE l == FEC_MODE.rs_528)

/-- The fixed mode of an SDI rate found: 1-8 of RATE_FOUND. -/
def modeOfRate (r : Int) : Int := if r ≤ 2 then LANE_MODE.sdi_1_5 else if r ≤ 4 then LANE_MODE.sdi_3 else if r ≤ 6 then LANE_MODE.sdi_6 else LANE_MODE.sdi_12

/-- The order in which 'sdi-auto' tries rates, as RATE_FOUND codes (R125). -/
def huntOrder : List Int := [7, 8, 5, 6, 3, 4, 1, 2]

/-- Receive and transmit latency constants of a fixed mode in ns (R118). -/
def modeLatency (m : Int) (rs528 : Bool) : Nat × Nat :=
  if m = LANE_MODE.sdi_1_5 then (1200, 1000)
  else if m = LANE_MODE.sdi_3 then (700, 600)
  else if m = LANE_MODE.sdi_6 then (500, 450)
  else if m = LANE_MODE.sdi_12 then (400, 350)
  else if m = LANE_MODE.m10gbase_r then (600, 550)
  else if m = LANE_MODE.m25gbase_r then (if rs528 then (750, 550) else (500, 450))
  else if m = LANE_MODE.m50gbase_r then (700, 500)
  else if m = LANE_MODE.m100gbase_kr1 ∨ m = LANE_MODE.m100gbase_cr1 then (550, 400)
  else if m = LANE_MODE.ivard then (500, 350)
  else (0, 0)

/-- The SDI output that the serving banks plan on a lane. -/
def State.sdiOutOn (s : State) (l : Nat) : Option PlanEndpoint :=
  tdList.findSome? (fun d => (s.planOf d).endpoints.find? (fun e => e.dom == d && e.transport == 1 && decide (0x8000 ≤ e.ep) && e.lanes.contains l))

/-- The fixed mode in which a lane transmits: in 'sdi-auto' as the output stream requires (R112). -/
def State.txMode (s : State) (l : Nat) : Int :=
  let m := (s.lane l).mode
  if m = LANE_MODE.sdi_auto then
    match s.sdiOutOn l with
    | some e => match fmtSdi e.fmt with
      | some (k, n) => if 1 < e.lanes.length ∧ n = 1 then LANE_MODE.sdi_3 else k
      | none => LANE_MODE.off
    | none => LANE_MODE.off
  else m

/-- Whether a lane is planned by a bank in one of some states. -/
def State.bankPlansLane (s : State) (l : Nat) (sts : List Int) : Option Int :=
  bankList.findSome? (fun b => if sts.contains (s.bankState b) then ((s.bank b).plan.laneModes.find? (fun e => e.1 == l)).map (fun e => (e.2 : Int)) else none)

/-- Whether the active bank plans a lane. -/
def State.activePlansLane (s : State) (l : Nat) : Bool := (s.bankPlansLane l [BANK_STATE.active]).isSome

/-! Transmit side (R114, R117, R120, R132). -/

/-- Preset taps of a mode (R120). -/
def presetTaps (m : Int) : List Int :=
  if m = LANE_MODE.m10gbase_r ∨ m = LANE_MODE.m25gbase_r then [0, -8, 108, -12, 0]
  else if m = LANE_MODE.m50gbase_r then [2, -12, 100, -14, 0]
  else if m = LANE_MODE.m100gbase_kr1 ∨ m = LANE_MODE.m100gbase_cr1 ∨ m = LANE_MODE.ivard then [3, -16, 94, -12, -3]
  else [0, 0, 128, 0, 0]

/-- The written taps. -/
def State.manualTaps (s : State) (l : Nat) : List Int :=
  [s.rd o3000_TX_TAP_CM2 l, s.rd o3000_TX_TAP_CM1 l, s.rd o3000_TX_TAP_C0 l, s.rd o3000_TX_TAP_CP1 l, s.rd o3000_TX_TAP_CP2 l]

/-- TX_TAPS_ACTIVE follows the source in effect (R120). 'trained' gives the taps last agreed, also in a later mode (log entry 151). -/
def State.noteTaps (s : State) (l : Nat) : State :=
  let src := s.rd o3000_TX_FFE_SOURCE l
  let t := if src = TX_FFE_SOURCE.preset then presetTaps (s.txMode l)
    else (if src = TX_FFE_SOURCE.manual then (s.lane l).taps else (s.lane l).trained).getD (presetTaps (s.txMode l))
  s.wrOct o3100_TX_TAPS_ACTIVE l ((t.map (fun x => leBytes 2 (ofSigned 16 x))).flatten)

/-- TX_STATE: 'idle' in a held group; 'off' without power, mode or transmit half; 'idle' when it carries nothing; 'running' otherwise (R114, R117, R132, R137, R448). In a
test pattern that uses the transmitter it runs. -/
def State.txStateOf (s : State) (l : Nat) : Int :=
  let x := s.lane l
  let safe := s.rd o1401_DEVICE_STATE 0 == DEVICE_STATE.safe
  if s.pdState (l / 8) = PD_STATE.hold then TX_STATE.idle
  else if s.laneState l = LANE_STATE.unpowered ∨ x.mode = LANE_MODE.off ∨ x.dir = DIRECTION.rx then TX_STATE.off
  else if safe ∨ x.txFault then TX_STATE.idle
  else if s.rd o3000_TEST_MODE l ≠ TEST_MODE.none then
    (if s.rd o3000_TEST_MODE l = TEST_MODE.prbs ∧ s.rd o3000_PRBS_DIR l = PRBS_DIR.rx then TX_STATE.idle else TX_STATE.running)
  else if sdiMode x.mode then (if (s.sdiOutOn l).isSome then TX_STATE.running else TX_STATE.idle)
  else TX_STATE.running

/-- The readings of a lane that follow from its mode, rate, plan and power (R112-R118, R136). -/
def State.noteLane (s : State) (l : Nat) : State :=
  let x := s.lane l
  let rs := s.rd o3000_FEC_MODE l == FEC_MODE.rs_528
  let found := s.rd o3100_RATE_FOUND l
  let rxMode := if x.mode = LANE_MODE.sdi_auto then (if found = RATE_FOUND.none then LANE_MODE.off else modeOfRate found) else x.mode
  let tx := s.txStateOf l
  let s := ((s.wr o3100_TX_STATE l tx).wr o3100_RX_LATENCY_NS l (modeLatency rxMode rs).1).wr o3100_TX_LATENCY_NS l (modeLatency (s.txMode l) rs).2
  let dom : Int := match s.sdiOutOn l with
    | some e => if sdiMode x.mode then e.dom else 255
    | none => 255
  (s.wr o3100_TX_CLOCK_DOMAIN l dom).noteTaps l

/-! Receive states (R131, R136, R137). -/

/-- Severity of LANE_LOS and LANE_LOCK_LOSS: B when the active bank plans the lane (R137). -/
def State.laneSeverity (s : State) (l : Nat) : Nat := if s.activePlansLane l then 2 else 3

/-- LANE_LOS: signal absent in any state past 'off'; severity B when the active bank plans the lane (R137). -/
def State.noteLos (s : State) (l : Nat) : State :=
  let st := s.laneState l
  if decide (LANE_STATE.acquiring ≤ st) && !(s.lane l).signal && (s.lane l).dir != DIRECTION.tx then
    s.raiseWith .LANE_LOS l (s.laneSeverity l) Alarm.LANE_LOS.subsys []
  else s.clear .LANE_LOS l

/-- Every lane follows the plans in force and the state of the device: its transmit side and the severity of its active alarms (R114, R117, R137). -/
def State.noteLanes (s : State) : State :=
  (s.lanes.map (·.1)).foldl (fun s l => ((s.noteLane l).reSeverity .LANE_LOS l (s.laneSeverity l)).reSeverity .LANE_LOCK_LOSS l (s.laneSeverity l)) s

/-- The lane's receive side takes a state: entries to 'up' and exits from it are counted and signalled to the engine (R131, R132, R137). `byMode`: by a mode
write. -/
def State.setLaneState (s : State) (l : Nat) (st : Int) (byMode : Bool) : State :=
  let old := s.laneState l
  if old = st then s.noteLos l
  else
    let s := s.wr o3100_LANE_STATE l st
    let s := if old = LANE_STATE.up then ((if byMode then s else s.bump o3100_LOCK_LOSSES l).laneLeftUp l).laneRefs l else s
    let s := if old = LANE_STATE.up ∧ st = LANE_STATE.aligning then s.raiseWith .LANE_LOCK_LOSS l (s.laneSeverity l) Alarm.LANE_LOCK_LOSS.subsys [] else s
    let s := if st = LANE_STATE.up then (((s.bump o3100_LOCKS l).clear .LANE_LOCK_LOSS l).laneEnteredUp l) else s
    let s := (s.wr o3100_HI_BER l (boolVal (st == LANE_STATE.hi_ber))).alarmWhile .LANE_HI_BER l (st == LANE_STATE.hi_ber)
    let s := if st = LANE_STATE.aligning then s.setLane l { s.lane l with alignedAt := s.now, good := 0, window := [], lock := false, trs := [] }
      else s
    s.noteLos l

/-- A lock event of the receive side: overridden by a LANE_MODE write of the same 125 µs, which stands before it in the rows of R131. -/
def State.lockEvent (s : State) (l : Nat) (st : Int) : State := if (s.lane l).pendMode then s else s.setLaneState l st false

/-- Acquisition begins: from code 8 with taps 0, or from the held code on a restored signal (R122, R123). The hunt of 'sdi-auto' goes on at the rate where it stood (log entry 148). -/
def State.acquire (s : State) (l : Nat) (fresh byMode : Bool) : State :=
  let s := s.setLaneState l LANE_STATE.acquiring byMode
  let s := if fresh then (s.wr o3100_CTLE_ACTIVE l 8).wrOct o3100_DFE_TAPS l (zeros 12) else s
  s.setLane l { s.lane l with cdr := false, codeword := false, errored := false, lock := false, retryAt := none, lowSince := none, warnSince := none }

/-- The state that a lane takes when its domain comes on, its mode takes effect or a test ends (R131; with mode 'off' a test ends in 'off', log entry 152). -/
def State.laneStart (s : State) (l : Nat) (byMode : Bool) : State :=
  let x := s.lane l
  if x.mode = LANE_MODE.off ∨ x.dir = DIRECTION.tx then s.setLaneState l LANE_STATE.off byMode else s.acquire l true byMode

/-- Whether a lane's group is powered; in 'hold' everything but its transmitters is off (R117, R448). -/
def State.groupOn (s : State) (l : Nat) : Bool := s.pdState (l / 8) == PD_STATE.on

/-- Lanes follow their group's power domain (R131). -/
def State.lanePower (s : State) (l : Nat) : State :=
  if s.groupOn l then (if s.laneState l = LANE_STATE.unpowered then (s.laneStart l false).noteLane l else s)
  else if s.laneState l = LANE_STATE.unpowered then (if s.rd o3100_TX_STATE l = s.txStateOf l then s else s.wr o3100_TX_STATE l (s.txStateOf l))
  else ((s.setLaneState l LANE_STATE.unpowered false).setLane l { s.lane l with signal := false, cdr := false }).noteLane l

/-- Whether the packet and SDI engine of a lane is on (R138, R139). -/
def State.engineOn (s : State) (l : Nat) : Bool := s.pdOn (56 + l / 24)

/-- An SDI input with a link whose engine is off is lost at once (R139, R162). -/
def State.sdiPower (s : State) : State :=
  ((s.listed o3540_SDI_IN_LINKS).map (·.1)).foldl (fun s l =>
    let st := s.rd o3540_SDI_IN_STATE l
    if (st = SDI_IN_STATE.present ∨ st = SDI_IN_STATE.locking ∨ st = SDI_IN_STATE.format_mismatch) ∧ (s.sdiLinks l).any (fun k => !s.engineOn k) then
      (s.setSdiState l SDI_IN_STATE.lost).setSdi l {}
    else s) s

/-- Every lane follows its group, and SDI inputs their engines. -/
def State.lanesPower (s : State) : State := (laneList.foldl State.lanePower s).sdiPower

/-! LANE_MODE and DIRECTION (R116, R117). -/

/-- RATE_FOUND of a mode without a search. -/
def rateOfMode (m : Int) : Int :=
  if m = LANE_MODE.m10gbase_r then RATE_FOUND.m10gbase_r else if m = LANE_MODE.m25gbase_r then RATE_FOUND.m25gbase_r
  else if m = LANE_MODE.m50gbase_r then RATE_FOUND.m50gbase_r else if m = LANE_MODE.m100gbase_kr1 then RATE_FOUND.m100gbase_kr1
  else if m = LANE_MODE.m100gbase_cr1 then RATE_FOUND.m100gbase_cr1 else if m = LANE_MODE.ivard then RATE_FOUND.ivard else RATE_FOUND.none

/-- A write of LANE_MODE (R116): checked against active and armed banks and the PTP ports; pending until the next cadence boundary. -/
def writeLaneMode : Handler := onInt fun _ l v s =>
  match s.bankPlansLane l [BANK_STATE.active, BANK_STATE.armed] with
  | some m => if m ≠ v then (0x0C01, s) else (stOK, s.setLane l { s.lane l with pendMode := true })
  | none =>
    if ethMode v = false ∧ (s.portOfLane l).isSome then (0x0C05, s)
    else (stOK, ((s.wr o3000_LANE_MODE l v).setLane l { s.lane l with pendMode := true }).refreshPower)

def execLaneMode (t port lane : Nat) (mode : Int) (s : State) : Host.Outcome State Fault Refusal :=
  s.run t (fun s => s.opCmd writeLaneMode port o3000_LANE_MODE lane (.int mode))

/-- A write of DIRECTION is pending until the next cadence boundary (R117). -/
def writeDirection : Handler := onInt fun _ l v s => (stOK, (s.wr o3000_DIRECTION l v).setLane l { s.lane l with pendDir := true })

def execDirection (t port lane : Nat) (dir : Int) (s : State) : Host.Outcome State Fault Refusal :=
  s.run t (fun s => s.opCmd writeDirection port o3000_DIRECTION lane (.int dir))

/-- PRBS_BITS and PRBS_ERRORS clear together (R134). -/
def State.clearPrbs (s : State) (l : Nat) : State := ((s.setLane l { s.lane l with prbsFrom := s.now }).wr o3100_PRBS_BITS l 0).wr o3100_PRBS_ERRORS l 0

/-- FEC_MODE as a mode makes it read (R135). -/
def State.noteFec (s : State) (l : Nat) (m : Int) : State :=
  if pam4 m ∧ m ≠ LANE_MODE.ivard then s.wr o3000_FEC_MODE l FEC_MODE.rs_544
  else if m = LANE_MODE.m25gbase_r ∧ s.rd o3000_FEC_MODE l = FEC_MODE.rs_528 then s else s.wr o3000_FEC_MODE l FEC_MODE.none

/-- Pending mode and direction writes of a lane take effect at the boundary, the mode before the direction as the rows of R131 stand (R116, R117, R133); a mode write ends a
test. -/
def State.laneEffect (s : State) (l : Nat) : State :=
  let x := s.lane l
  let dir := s.rd o3000_DIRECTION l
  let s := if x.pendDir then s.setLane l { x with pendDir := false, dir := dir } else s
  let s := if x.pendMode then
      let m := s.rd o3000_LANE_MODE l
      let s := (s.setLane l { s.lane l with pendMode := false, mode := m, hunt := 0, faultRx := false }).noteFec l m
      let s := if s.rd o3000_TEST_MODE l = TEST_MODE.none then s else ((s.clearPrbs l).wr o3100_PRBS_LOCKED l 0).wr o3000_TEST_MODE l TEST_MODE.none
      let s := s.wr o3100_RATE_FOUND l (rateOfMode m)
      if s.laneState l = LANE_STATE.unpowered then s
      else
        let st := s.laneState l
        let s := s.laneStart l true
        if st = LANE_STATE.acquiring then s.setLaneState l (s.laneState l) true else s
    else s
  let s := if x.pendDir ∧ s.laneState l ≠ LANE_STATE.unpowered then
      (if dir = DIRECTION.tx then s.setLaneState l LANE_STATE.off false
       else if s.laneState l = LANE_STATE.off ∧ (s.lane l).mode ≠ LANE_MODE.off then s.acquire l true false else s)
    else s
  if x.pendDir || x.pendMode then s.noteLane l else s

/-- Every pending lane write takes effect (R116). -/
def State.laneEffects (s : State) : State := (s.lanes.map (·.1)).foldl State.laneEffect s

/-! Equaliser writes (R119, R120, R123, R135). -/

/-- TX_FFE_SOURCE: manual taps must sum to at most 128 in absolute value with C0 at least 64 (R119). -/
def writeFfeSource : Handler := onInt fun _ l v s =>
  let t := s.manualTaps l
  if v = TX_FFE_SOURCE.manual ∧ (128 < (t.map absInt).foldl (· + ·) 0 ∨ t.getD 2 0 < 64) then (0x0C04, s)
  else
    let s := if v = TX_FFE_SOURCE.manual then s.setLane l { s.lane l with taps := some t } else s
    (stOK, (s.wr o3000_TX_FFE_SOURCE l v).noteTaps l)

def execTxFfeSource (t port lane : Nat) (v : Int) (s : State) : Host.Outcome State Fault Refusal :=
  s.run t (fun s => s.opCmd writeFfeSource port o3000_TX_FFE_SOURCE lane (.int v))

/-- RX_ADAPT: 'manual' only in 'test' (R123). -/
def writeRxAdapt : Handler := onInt fun c l v s =>
  if v = RX_ADAPT.manual ∧ s.laneState l ≠ LANE_STATE.test then (unstatedCode 3, s)
  else
    let s := if v = RX_ADAPT.manual then s.wr o3100_CTLE_ACTIVE l (s.rd o3000_CTLE_CODE l) else s
    storeVal o3000_RX_ADAPT c l (.int v) s

/-- CTLE_CODE is applied while RX_ADAPT is 'manual', also after the lane has left 'test' (log entry 149). -/
def writeCtle : Handler := onInt fun c l v s =>
  storeVal o3000_CTLE_CODE c l (.int v) (if s.rd o3000_RX_ADAPT l = RX_ADAPT.manual then s.wr o3100_CTLE_ACTIVE l v else s)

/-- FEC_MODE is written for '25gbase-r' only; read-only in the PAM4 Ethernet modes (R135). It takes effect at once, the lane's state unchanged (log entry 150). -/
def writeFecMode : Handler := onInt fun c l v s =>
  let m := s.rd o3000_LANE_MODE l
  if pam4 m ∧ m ≠ LANE_MODE.ivard then (stACCESS, s)
  else if v = FEC_MODE.rs_544 then (stRANGE, s)
  else if m ≠ LANE_MODE.m25gbase_r ∧ v ≠ FEC_MODE.none then (stUNSUPPORTED, s)
  else
    let (k, s) := storeVal o3000_FEC_MODE c l (.int v) s
    (k, s.noteLane l)

/-- TX_SWING_MV goes in 50 mV steps (R135). -/
def writeSwing : Handler := onInt fun c l v s => if v % 50 = 0 then storeVal o3000_TX_SWING_MV c l (.int v) s else (stRANGE, s)

/-- ADAPT_RESET_Q stays below EYE_WARN_Q (R135). -/
def writeEyeLimit (o : Nat) : Handler := fun c l v s =>
  let (k, s') := storeVal o c l v s
  if s'.rd o3000_EYE_WARN_Q l ≤ s'.rd o3000_ADAPT_RESET_Q l then (stRANGE, s) else (k, s')

/-! Tests (R133, R134). -/

/-- A write of either PRBS counter clears both. -/
def writePrbsCount : Handler := fun _ l _ s => (stOK, s.clearPrbs l)

/-- Whether a pattern matches the modulation of the lane's mode (R133). -/
def State.patternOk (s : State) (l : Nat) (p : Int) : Bool := pam4 (s.rd o3000_LANE_MODE l) == decide (PRBS_PATTERN.PRBS13Q ≤ p)

/-- TEST_MODE (R131, R133, R134). -/
def writeTestMode : Handler := onInt fun _ l v s =>
  let planned := (s.bankPlansLane l [BANK_STATE.active, BANK_STATE.armed]).isSome
  if v ≠ TEST_MODE.none ∧ planned then (0x0C03, s)
  else if v = TEST_MODE.prbs ∧ s.patternOk l (s.rd o3000_PRBS_PATTERN l) = false then (unstatedCode 4, s)
  else if v = TEST_MODE.loop_far ∧ s.rd o3000_LANE_MODE l = LANE_MODE.sdi_auto ∧ s.rd o3100_RATE_FOUND l = RATE_FOUND.none then (stBUSY, s)
  else
    let old := s.rd o3000_TEST_MODE l
    let s := s.wr o3000_TEST_MODE l v
    let s := if old = v then s else (s.clearPrbs l).wr o3100_PRBS_LOCKED l 0
    let s := if s.laneState l = LANE_STATE.unpowered then s
      else if v ≠ TEST_MODE.none then s.setLaneState l LANE_STATE.test false
      else if s.laneState l = LANE_STATE.test then s.laneStart l false else s
    (stOK, s.noteLane l)

def execTestMode (t port lane : Nat) (v : Int) (s : State) : Host.Outcome State Fault Refusal :=
  s.run t (fun s => s.opCmd writeTestMode port o3000_TEST_MODE lane (.int v))

/-- A pattern that does not match the modulation of the lane's mode is refused (R133). -/
def writePattern : Handler := onInt fun c l v s => if s.patternOk l v = false then (unstatedCode 4, s) else storeVal o3000_PRBS_PATTERN c l (.int v) s

/-- PRBS_DIR sets which of generator and checker run (R133); a checker that stops is no longer locked. -/
def writePrbsDir : Handler := onInt fun c l v s =>
  let (k, s) := storeVal o3000_PRBS_DIR c l (.int v) s
  (k, (if v = PRBS_DIR.tx then s.wr o3100_PRBS_LOCKED l 0 else s).noteLane l)

/-- Whether the PRBS checker runs on a lane. -/
def State.prbsRuns (s : State) (l : Nat) : Bool :=
  s.laneState l == LANE_STATE.test && s.rd o3000_TEST_MODE l == TEST_MODE.prbs && s.rd o3000_PRBS_DIR l != PRBS_DIR.tx

/-- 1,024 error-free bits lock the checker (R134). -/
def State.prbsGained (s : State) (l : Nat) : State :=
  if s.prbsRuns l && !s.isOn o3100_PRBS_LOCKED l then (s.wr o3100_PRBS_LOCKED l 1).setLane l { s.lane l with prbsFrom := s.now } else s

/-- Line rate of a mode in kbit/s (R112); 'sdi-auto' tests at 11.88 Gbit/s (R133). -/
def lineKbps (m : Int) : Nat :=
  if m = LANE_MODE.sdi_1_5 then 1485000 else if m = LANE_MODE.sdi_3 then 2970000 else if m = LANE_MODE.sdi_6 then 5940000
  else if m = LANE_MODE.sdi_12 ∨ m = LANE_MODE.sdi_auto then 11880000 else if m = LANE_MODE.m10gbase_r then 10312500 else if m = LANE_MODE.m25gbase_r then 25781250
  else if m = LANE_MODE.m50gbase_r then 53125000 else if m = LANE_MODE.off then 0 else 106250000

/-- Bits that the checker of a lane has checked since it locked, or since the counters were cleared after that (R134). -/
def State.prbsSince (s : State) (l : Nat) : Nat :=
  if s.isOn o3100_PRBS_LOCKED l then (s.now - (s.lane l).prbsFrom) * lineKbps (s.lane l).mode / 1000000 else 0

/-- PRBS_BITS and PRBS_ERRORS as they read: what earlier locks counted and what the present one has; its errors are a free number of its bits (R134, log entry 18). -/
def State.prbsRead (s : State) (l : Nat) : Nat × Nat :=
  let n := s.prbsSince l
  ((s.rdN o3100_PRBS_BITS l + n) % 2 ^ 64, (s.rdN o3100_PRBS_ERRORS l + Config.freeNat s.free % (n + 1)) % 2 ^ 64)

def execPrbsLockGained (t lane : Nat) (s : State) : Host.Outcome State Fault Refusal := s.run t (fun s => s.prbsGained lane)

/-- 64 errors within 1,024 bits lose lock; what was counted while locked comes with the event (R134, log entry 18). -/
def State.prbsLost (s : State) (l bits errors : Nat) : State :=
  if s.isOn o3100_PRBS_LOCKED l then ((s.wr o3100_PRBS_LOCKED l 0).addTo o3100_PRBS_BITS l bits).addTo o3100_PRBS_ERRORS l errors else s

def execPrbsLockLost (t lane bits errors : Nat) (s : State) : Host.Outcome State Fault Refusal := s.run t (fun s => s.prbsLost lane bits errors)

/-! Signal, clock and adaptation (R121-R125, R131). -/

/-- Signal appears at a receiver (R131). -/
def State.signalOn (s : State) (l : Nat) : State :=
  if s.laneState l = LANE_STATE.unpowered then s else (s.setLane l { s.lane l with signal := true }).noteLos l

def execLaneSignalDetect (t lane : Nat) (s : State) : Host.Outcome State Fault Refusal := s.run t (fun s => s.signalOn lane)

/-- No signal for 1 µs: the lane returns to 'acquiring', adaptation held (R123, R131). -/
def State.signalOff (s : State) (l : Nat) : State :=
  let s := s.setLane l { s.lane l with signal := false, cdr := false }
  let st := s.laneState l
  if st = LANE_STATE.acquiring ∨ st = LANE_STATE.aligning ∨ st = LANE_STATE.up ∨ st = LANE_STATE.hi_ber then s.acquire l false false else s.noteLos l

def execLaneSignalLoss (t lane : Nat) (s : State) : Host.Outcome State Fault Refusal := s.run t (fun s => s.signalOff lane)

/-- Tracking range of a mode in ppb (R124). -/
def trackRange (m : Int) : Nat := if sdiMode m then 300000 else 200000

/-- RATE_FOUND of a fixed SDI mode. -/
def rateOfSdi (m : Int) (div : Bool) : Int := 2 * m - (if div then 0 else 1)

/-- Divisor of the line rate that gives the loop corner of a lane's CDR: 'auto' is 'wide' for SDI modes and 'normal' otherwise (R124). -/
def State.cdrDivisor (s : State) (l : Nat) : Nat :=
  match s.rdN o3000_CDR_BW l with
  | 1 => 3334
  | 2 => 1667
  | 3 => 833
  | _ => if sdiMode (s.lane l).mode then 833 else 1667

/-- The CDR locks at an offset in ppb from the nominal rate (with `div` the ÷1.001 rate) within the tracking range (R124, R125, R136); of a lane that has locked, the offset is
measured again. -/
def State.cdrLock (s : State) (l : Nat) (ppb : Int) (div : Bool) : State :=
  let x := s.lane l
  if s.laneState l = LANE_STATE.acquiring ∧ x.signal ∧ absInt ppb ≤ trackRange x.mode then
    let s := (s.setLane l { x with cdr := true, corner := s.cdrDivisor l }).wr o3100_FREQ_OFFSET_PPB l ppb
    let s := if x.mode = LANE_MODE.sdi_auto then s.wr o3100_RATE_FOUND l (huntOrder.getD x.hunt 7)
      else if sdiMode x.mode then s.wr o3100_RATE_FOUND l (rateOfSdi x.mode div) else s
    s.noteLane l
  else if x.cdr ∧ x.signal ∧ absInt ppb ≤ trackRange x.mode then (s.setLane l { x with corner := s.cdrDivisor l }).wr o3100_FREQ_OFFSET_PPB l ppb
  else s

def execCdrLock (t lane : Nat) (ppb : Int) (div : Bool) (s : State) : Host.Outcome State Fault Refusal := s.run t (fun s => s.cdrLock lane ppb div)

/-- The hunt of 'sdi-auto' moves to the next rate (R125). -/
def State.nextRate (s : State) (l : Nat) : State := s.setLane l { s.lane l with hunt := ((s.lane l).hunt + 1) % 8, cdr := false }

/-- A dwell of 2 ms ends without lock (R125). -/
def State.rateDwell (s : State) (l : Nat) : State :=
  let x := s.lane l
  if x.mode = LANE_MODE.sdi_auto ∧ s.laneState l = LANE_STATE.acquiring ∧ x.cdr = false then s.nextRate l else s

def execSdiRateDwell (t lane : Nat) (s : State) : Host.Outcome State Fault Refusal := s.run t (fun s => s.rateDwell lane)

/-- TRS lock has not followed within 2 ms of the end of adaptation: the hunt resumes at the next rate (R125). -/
def State.autoTrsTimeout (s : State) (l : Nat) : State :=
  let x := s.lane l
  if x.mode = LANE_MODE.sdi_auto ∧ s.laneState l = LANE_STATE.aligning ∧ x.alignedAt + 2000000 ≤ s.now then (s.acquire l true false).nextRate l else s

def execSdiAutoTrsTimeout (t lane : Nat) (s : State) : Host.Outcome State Fault Refusal := s.run t (fun s => s.autoTrsTimeout lane)

/-- A partner that does not train: the preset is taken and the event counted (R113). -/
def State.trainingTimeout (s : State) (l : Nat) : State :=
  let m := (s.lane l).mode
  if s.isOn o3000_LINK_TRAINING l ∧ pam4 m ∧ m ≠ LANE_MODE.ivard ∧ s.laneState l = LANE_STATE.acquiring then
    ((s.wr o3000_TX_FFE_SOURCE l TX_FFE_SOURCE.preset).bump o3100_ADAPT_RESETS l).noteTaps l
  else s

def execLinkTrainingTimeout (t lane : Nat) (s : State) : Host.Outcome State Fault Refusal := s.run t (fun s => s.trainingTimeout lane)

/-- The code of the highest EYE_Q, the lower of equals (R122). -/
def bestCode : List Nat → Nat → Nat × Nat → Nat
  | [], _, best => best.1
  | q :: l, i, best => bestCode l (i + 1) (if best.2 < q then (i, q) else best)

/-- Adaptation ends: EYE_Q of the sixteen codes, EYE_Q and DFE taps after the data path has adapted, and the taps agreed by link training if it was in use
(R120, R122). -/
def State.adaptDone (s : State) (l : Nat) (qs : List Nat) (q : Nat) (dfe : Bytes) (taps : Option (List Int)) : State :=
  let x := s.lane l
  if ¬ (s.laneState l = LANE_STATE.acquiring ∧ x.cdr ∧ x.retryAt.isNone) then s
  else
    let train := s.isOn o3000_LINK_TRAINING l && pam4 x.mode && x.mode != LANE_MODE.ivard
    let s := match (if train then taps else none) with
      | some t => ((s.setLane l { x with trained := some t }).wr o3000_TX_FFE_SOURCE l TX_FFE_SOURCE.trained).noteTaps l
      | none => s
    let s := ((s.wr o3100_CTLE_ACTIVE l (bestCode (qs.drop 1) 1 (0, qs.headD 0))).wrOct o3100_DFE_TAPS l ((dfe ++ zeros 12).take 12)).wr o3100_EYE_Q l q
    if s.rdN o3000_ADAPT_RESET_Q l ≤ q then s.setLaneState l LANE_STATE.aligning false
    else s.setLane l { s.lane l with retryAt := some (s.now + 10000000) }

def execAdaptationComplete (t lane : Nat) (qs : List Nat) (q : Nat) (dfe : Bytes) (taps : Option (List Int)) (s : State) : Host.Outcome State Fault Refusal :=
  s.run t (fun s => s.adaptDone lane qs q dfe taps)

/-- The wait of 10 ms after a failed adaptation ends (R122). -/
def State.adaptRetry (s : State) (l : Nat) : State :=
  match (s.lane l).retryAt with
  | some u => if u ≤ s.now ∧ s.laneState l = LANE_STATE.acquiring then s.acquire l true false else s
  | none => s

def execAdaptationRetry (t lane : Nat) (s : State) : Host.Outcome State Fault Refusal := s.run t (fun s => s.adaptRetry lane)

/-- Whether the data-path DFE of a lane adapts: with 'continuous' past adaptation, with 'manual' in 'test', while there is a signal (R123). -/
def State.dfeMoves (s : State) (l : Nat) : Bool :=
  let st := s.laneState l
  (s.lane l).signal && ((s.rd o3000_RX_ADAPT l == RX_ADAPT.continuous && (st == LANE_STATE.aligning || st == LANE_STATE.up || st == LANE_STATE.hi_ber)) ||
    (s.rd o3000_RX_ADAPT l == RX_ADAPT.manual && st == LANE_STATE.test))

/-- A tap after `n` steps of sign-sign LMS: a free value at most `n` steps away (R123). -/
def tapMoved (n : Nat) (old new : Byte) : Byte := BitVec.ofInt 8 (old.toInt + max (-(n : Int)) (min (n : Int) (new.toInt - old.toInt)))

/-- The DFE taps have adapted since the last window, each by at most one step in 1 µs (R123, log entry 153). -/
def State.moveTaps (s : State) (l : Nat) : State :=
  let x := s.lane l
  let s' := s.setLane l { x with dfeAt := s.now }
  if s.dfeMoves l then
    let (b, s') := s'.takeFreeBytes 12
    s'.wrOct o3100_DFE_TAPS l ((List.range 12).map (fun i => tapMoved ((s.now - x.dfeAt) / 1000) ((s.rdOct o3100_DFE_TAPS l).getD i 0#8) (b.getD i 0#8)))
  else s'

/-- A 10 ms window ends: openings in millionths of a level distance and of a unit interval (R121, R137). -/
def State.eyeWindow (s : State) (l v h : Nat) : State :=
  let q := min 1000 (min v h / 1000)
  let s := (s.moveTaps l).wr o3100_EYE_Q l q
  let x := s.lane l
  let low := if q < s.rdN o3000_ADAPT_RESET_Q l then some (x.lowSince.getD s.now) else none
  let warn := if q < s.rdN o3000_EYE_WARN_Q l then some (x.warnSince.getD s.now) else none
  let s := s.setLane l { x with lowSince := low, warnSince := warn }
  match warn with
  | some w => if w + second ≤ s.now then s.raise .LANE_EYE_LOW l else s
  | none => if s.rdN o3000_EYE_WARN_Q l + 50 < q then s.clear .LANE_EYE_LOW l else s

def execEyeQWindow (t lane v h : Nat) (s : State) : Host.Outcome State Fault Refusal := s.run t (fun s => s.eyeWindow lane v h)

/-- Every 100 ms the CTLE moves one code to a neighbour that is better by 20 points, the better of two, the lower of equals (R123). -/
def State.ctleTrial (s : State) (l here up down : Nat) : State :=
  let st := s.laneState l
  let c := s.rd o3100_CTLE_ACTIVE l
  if s.rd o3000_RX_ADAPT l = RX_ADAPT.continuous ∧ (st = LANE_STATE.aligning ∨ st = LANE_STATE.up ∨ st = LANE_STATE.hi_ber) ∧ (s.lane l).signal then
    if here + 20 ≤ down ∧ 0 < c ∧ (up ≤ down ∨ c = 15) then s.wr o3100_CTLE_ACTIVE l (c - 1)
    else if here + 20 ≤ up ∧ c < 15 then s.wr o3100_CTLE_ACTIVE l (c + 1) else s
  else s

def execCtleTrial (t lane here up down : Nat) (s : State) : Host.Outcome State Fault Refusal := s.run t (fun s => s.ctleTrial lane here up down)

/-- EYE_Q below ADAPT_RESET_Q for 1 s (R123, R131). -/
def State.adaptReset (s : State) (l : Nat) : State :=
  match (s.lane l).lowSince with
  | some w =>
    if w + second ≤ s.now ∧ s.laneState l = LANE_STATE.up then ((s.acquire l true false).bump o3100_ADAPT_RESETS l).pulse .LANE_ADAPT_RESET l else s
  | none => s

def execAdaptReset (t lane : Nat) (s : State) : Host.Outcome State Fault Refusal := s.run t (fun s => s.adaptReset lane)

/-- No lock within LOCK_TIMEOUT_MS: adaptation restarts from code 8 (R131). -/
def State.lockTimeout (s : State) (l : Nat) : State :=
  if s.laneState l = LANE_STATE.aligning ∧ (s.lane l).alignedAt + s.rdN o3000_LOCK_TIMEOUT_MS l * 1000000 ≤ s.now then s.acquire l true false else s

def execLockTimeout (t lane : Nat) (s : State) : Host.Outcome State Fault Refusal := s.run t (fun s => s.lockTimeout lane)

/-! Block lock (R126-R128). -/

/-- Whether a lane is past adaptation. -/
def State.locking (s : State) (l : Nat) : Bool :=
  s.laneState l == LANE_STATE.aligning || s.laneState l == LANE_STATE.up || s.laneState l == LANE_STATE.hi_ber

/-- Lock is lost (R126, R127, R129, R131). -/
def State.lockLost (s : State) (l : Nat) : State :=
  if s.laneState l = LANE_STATE.up ∨ s.laneState l = LANE_STATE.hi_ber then s.lockEvent l LANE_STATE.aligning
  else s.setLane l { s.lane l with lock := false, good := 0, window := [] }

/-- A 66-bit block with its sync header (R126); with an RS FEC the block is a decoded one and needs codeword lock (R127). During the hunt an invalid header slips the boundary
by one bit. -/
def State.blockRx (s : State) (l hdr : Nat) : State :=
  let x := s.lane l
  if s.locking l = false ∨ sdiMode x.mode ∨ (s.usesFec l ∧ x.codeword = false) then s
  else
    let bad := !(hdr == 1 || hdr == 2)
    let s := if bad then s.bump o3100_INVALID_HEADERS l else s
    if x.lock then
      let w := (bad :: x.window).take 64
      if 16 ≤ w.count true then s.lockLost l else s.setLane l { x with window := w }
    else
      let n := if bad then 0 else x.good + 1
      if 64 ≤ n then
        let s := s.setLane l { x with lock := true, good := 0, window := [] }
        if s.laneState l = LANE_STATE.aligning then
          let s := s.lockEvent l LANE_STATE.up
          s.setLane l { s.lane l with lock := true }
        else s
      else if bad then s.setLane l { x with good := 0, boundary := (x.boundary + 1) % 66 }
      else s.setLane l { x with good := n }

def execLaneBlockRx (t lane hdr : Nat) (s : State) : Host.Outcome State Fault Refusal := s.run t (fun s => s.blockRx lane hdr)

/-- An RS codeword: corrected, uncorrectable, and whether codeword lock holds by the process of IEEE 802.3 (R127). It is counted whatever becomes of the lock; the blocks of an
uncorrectable one are errored until the next codeword. -/
def State.codewordRx (s : State) (l : Nat) (corrected bad sync : Bool) : State :=
  if s.usesFec l = false ∨ s.locking l = false then s
  else
    let had := (s.lane l).codeword
    let s := s.setLane l { s.lane l with codeword := sync, errored := bad }
    let s := if corrected then s.bump o3100_FEC_CORRECTED l else s
    let s := if bad then (s.bump o3100_FEC_UNCORRECTED l).raiseQuiet .LANE_FEC_UNCORR l else s
    if had ∧ sync = false then s.lockLost l else s

def execFecCodewordRx (t lane : Nat) (corrected bad sync : Bool) (s : State) : Host.Outcome State Fault Refusal :=
  s.run t (fun s => s.codewordRx lane corrected bad sync)

/-- The high-BER rule begins to hold (R128). -/
def State.hiBerEnter (s : State) (l : Nat) : State :=
  if s.laneState l = LANE_STATE.up ∧ ethMode (s.lane l).mode then s.lockEvent l LANE_STATE.hi_ber else s

def execHiBerEnter (t lane : Nat) (s : State) : Host.Outcome State Fault Refusal := s.run t (fun s => s.hiBerEnter lane)

/-- The rule clears (R128). -/
def State.hiBerClear (s : State) (l : Nat) : State := if s.laneState l = LANE_STATE.hi_ber then s.lockEvent l LANE_STATE.up else s

def execHiBerClear (t lane : Nat) (s : State) : Host.Outcome State Fault Refusal := s.run t (fun s => s.hiBerClear lane)

/-- Local or Remote Fault begins or ends on an Ethernet lane (R113); the egress port of the lane reads it. -/
def State.faultRx (s : State) (l : Nat) (on : Bool) : State := if ethMode (s.lane l).mode then s.setLane l { s.lane l with faultRx := on } else s

/-- The output-stage current leaves its limits or returns to them (R137). -/
def State.txFault (s : State) (l : Nat) (on : Bool) : State := ((s.setLane l { s.lane l with txFault := on }).alarmWhile .LANE_TX_FAULT l on).noteLane l

def execLaneTxFault (t lane : Nat) (on : Bool) (s : State) : Host.Outcome State Fault Refusal := s.run t (fun s => s.txFault lane on)

/-! SDI lines (R129, R130, R163-R165). -/

/-- What a line does to the search of one data stream (R129): whether it relocks elsewhere, and the search after it. A stream whose EAV is missing for the fourth line has no place. -/
def Trs.line (x : Trs) (eav : Option Nat) : Bool × Trs :=
  let cand := match eav, x.cand with
    | some p, some (q, n) => if p = q then some (p, n + 1) else some (p, 1)
    | some p, none => some (p, 1)
    | none, _ => none
  let third : Option Nat := match cand with
    | some (p, n) => if 3 ≤ n then some p else none
    | none => none
  match x.place with
  | none => (false, ⟨third, if third.isSome then none else cand, 0⟩)
  | some a =>
    if eav = some a then (false, ⟨some a, none, 0⟩)
    else if third.isSome then (true, ⟨third, none, 0⟩)
    else if 4 ≤ x.missing + 1 then (false, ⟨none, none, 0⟩)
    else (false, ⟨some a, cand, x.missing + 1⟩)

/-- Whether every data stream of a lane is locked (R129). -/
def Lane.trsLocked (x : Lane) : Bool := x.trs != [] && x.trs.all (·.place.isSome)

/-- The EAV places of a line, one for each data stream of the mapping: TRS lock when every stream is locked, loss when one is lost, relocation (R129). -/
def State.trsLine (s : State) (l : Nat) (eavs : List (Option Nat)) : State :=
  let x := s.lane l
  let next := (if eavs = [] then [none] else eavs).zipIdx.map (fun e => (x.trs.getD e.2 {}).line e.1)
  let s := s.setLane l { x with trs := next.map (·.2) }
  if x.trsLocked ∧ (s.lane l).trsLocked = false then s.lockLost l
  else
    let s := if next.any (·.1) then
        (match s.sdiInputOf l with
          | some i => (s.bump o3100_TRS_RELOCKS l).setSdi i { s.sdi i with writing := false }
          | none => s.bump o3100_TRS_RELOCKS l)
      else s
    if s.laneState l = LANE_STATE.aligning ∧ (s.lane l).trsLocked then s.lockEvent l LANE_STATE.up else s

/-- Largest skew between links (R165), in ns. -/
def skewLimit : Nat := 8000

/-- The first active line of a frame of an SDI input: identifier, state, arrival (R161, R164, R194). The hold of a mismatch begins with the frame that is not written. -/
def State.sdiFrame (s : State) (l : Nat) : State :=
  let ep := s.rdN o3540_SDI_IN_ENDPOINT l
  let x := s.sdi l
  let bad := s.rd o3540_PAYLOAD_ID_CHECK l == PAYLOAD_ID_CHECK.enforce && !x.idSeen
  let n := if bad then x.badIds + 1 else 0
  let s := s.setSdi l { x with badIds := n, idSeen := false, writing := false }
  if 2 ≤ n then
    let held := (s.buf ep).down
    let s := s.setSdiState l SDI_IN_STATE.format_mismatch
    if held = false ∧ s.alignMode ep = ALIGN_MODE.line then
      s.setBuf ep ((s.buf ep).shade ((s.arrival ep (s.rdN o4003_ALIGN_DEPTH ep)).2 + s.lossHold ep) true)
    else s
  else
    let s := if s.rd o3540_SDI_IN_STATE l = SDI_IN_STATE.present then s else s.setSdiState l SDI_IN_STATE.present
    let (ok, s) := s.frameArrives ep
    if ok then (s.setSdi l { s.sdi l with writing := true }).bump o3540_SDI_FRAMES l else s

/-- The FIFO of an input's embedded audio with samples added: no deeper than it starts while it does not play (R210). -/
def State.sdiHeld (s : State) (l : Nat) (new : List (List Int)) : List (List Int) :=
  let x := s.sdi l
  if x.playing then x.fifo ++ new else newest fifoStart (x.fifo ++ new)

/-- What the SDI engine takes from a line of an input's first link (R163-R165). -/
def State.sdiLine (s : State) (l : Nat) (m : SdiLine) : State :=
  let ep := s.rdN o3540_SDI_IN_ENDPOINT l
  let fc := s.epFormat ep
  let multi := decide (1 < s.rdN o3540_SDI_IN_LINKS l)
  let st := s.rd o3540_SDI_IN_STATE l
  let s := if multi then s.wr o3540_LINK_SKEW_NS l m.skew else s
  let wide := multi && decide (skewLimit < m.skew)
  let s := s.alarmWhile .MT_SDI_LINK_SKEW l wide
  if st = SDI_IN_STATE.not_planned then s
  else if wide then s.setSdiState l SDI_IN_STATE.lost
  else if st = SDI_IN_STATE.lost ∧ ¬ ((s.sdiLinks l).all (fun k => s.laneState k == LANE_STATE.up)) then s
  else
    let s := match m.pid with
      | some (raw, named) => (s.wr o3540_PAYLOAD_ID l raw).setSdi l { s.sdi l with idSeen := named == fc }
      | none => s
    let s := s.setSdi l { s.sdi l with fifo := s.sdiHeld l (m.samples.map (·.take (s.sdiAudio l).2)) }
    let s := if m.line = fmtFirstActive fc then s.sdiFrame l else s
    let before := decide (m.line < fmtFirstActive fc)
    let s := if before then s.setSdi l { s.sdi l with anc := (if m.line = 1 then [] else (s.sdi l).anc) ++ m.anc }
      else if (s.sdi l).writing then (s.ancFull ep ((s.sdi l).anc ++ m.anc)).setSdi l { s.sdi l with anc := [] } else s
    if fmtActive fc m.line ∧ (s.sdi l).writing ∧ (s.buf ep).stale.contains (s.fcnt (s.epDomain ep), m.line) = false then s.lineFull ep m.line m.crcBad else s

/-- An SDI line on a lane: TRS, CRC, then the engine (R129, R130, R163). -/
def State.sdiLineRx (s : State) (l : Nat) (m : SdiLine) : State :=
  if sdiMode (s.lane l).mode = false ∨ s.locking l = false then s
  else
    let s := s.trsLine l m.eavs
    if (s.lane l).trsLocked = false then s
    else
      let s := if m.crcBad then (s.bump o3100_SDI_CRC_LINES l).raiseQuiet .LANE_SDI_CRC l else s
      if s.laneState l = LANE_STATE.up ∧ s.rdN o3540_SDI_IN_LINKS l ≠ 0 ∧ (s.sdiLinks l).all s.engineOn then s.sdiLine l m else s

def execSdiLineRx (t lane : Nat) (line : SdiLine) (s : State) : Host.Outcome State Fault Refusal := s.run t (fun s => s.sdiLineRx lane line)

end Sys2Proof.Machine
end

