-- ==== Sys2Proof/Machine/Queues.lean ====
section
/-! DEFINITION. Machine/Queues.lean: the ports of the egress traffic manager with their credit and queues (R172, R173, R178-R180, R187), and the frames that firmware sends through
them (R96, R141, R160, R173). -/

namespace Sys2Proof.Machine

open Sys2Proof

/-- A port beside its objects. -/
def State.eport (s : State) (l : Nat) : EgPort := (storeGet l s.eg.ports).getD {}

/-- Set a port. -/
def State.setEport (s : State) (l : Nat) (x : EgPort) : State := { s with eg := { s.eg with ports := storePut natLt l x s.eg.ports } }

/-- Wire bytes of a frame: preamble and inter-frame gap included (R172). -/
def wireBytes (len : Nat) : Nat := len + 20

/-- Wire time of a frame in hundredths of a ns (R172). -/
def wireTime (mbps len : Nat) : Nat := if mbps = 0 then 0 else wireBytes len * 800000 / mbps

/-- Wire time of a frame on a lane. -/
def State.wireOn (s : State) (l len : Nat) : Nat := wireTime (macRate (s.lane l).mode) len

/-- EG_PORT_STATE (R172, R187). -/
def State.portState (s : State) (l : Nat) : Int :=
  if ethMode (s.lane l).mode = false ∨ s.pdOn (64 + l / 48) = false then EG_PORT_STATE.off
  else if s.rd o3100_TX_STATE l ≠ TX_STATE.running ∨ s.rd o3000_TEST_MODE l ≠ TEST_MODE.none ∨ (s.lane l).faultRx then EG_PORT_STATE.blocked
  else EG_PORT_STATE.running

/-- Whether a port cannot send (R187). -/
def State.portBlocked (s : State) (l : Nat) : Bool := s.portState l != EG_PORT_STATE.running

/-! Credit (R180). -/

/-- Rows of 3801h and 3802h. -/
def classRow (l c : Nat) : Nat := l * 8 + c
def queueRow (l c q : Nat) : Nat := l * 2048 + c * 256 + q

/-- Shaped and firmware classes. -/
def shapedClasses : List Nat := [0, 1, 2, 3, 4, 5, 6]

/-- Rate in kbit/s and ceiling in bytes of a class: planned, and fixed for TC6 (R180). -/
def State.classRate (s : State) (l c : Nat) : Nat := if c = 6 then 20000 else s.rdN o3801_CLASS_RATE_KBPS (classRow l c)
def State.classCeiling (s : State) (l c : Nat) : Nat := if c = 6 then 16384 else s.rdN o3801_BURST_CEILING (classRow l c)

/-- Credit units in a byte: one kbit/s gives one unit in 1 ns. -/
def creditUnit : Nat := 8000000

/-- Credit of a class in units. -/
def State.creditOf (s : State) (l c : Nat) : Int := (storeGet c (s.eport l).credit).getD 0

/-- Set the credit of a class; CREDIT follows in whole bytes. -/
def State.setCredit (s : State) (l c : Nat) (v : Int) : State :=
  let x := s.eport l
  (s.setEport l { x with credit := storePut natLt c v x.credit }).wr o3801_CREDIT (classRow l c) (v / creditUnit)

/-- Credit grows up to now: while the class's gate is open, never beyond the ceiling (R180). -/
def State.accrue (s : State) (l : Nat) : State :=
  let x := s.eport l
  let dt := s.now - x.creditAt
  let s := shapedClasses.foldl (fun s c =>
    let rate := s.classRate l c
    if rate ≠ 0 ∧ x.gates.testBit c then s.setCredit l c (min ((s.classCeiling l c * creditUnit : Nat) : Int) (s.creditOf l c + (dt * rate : Nat))) else s) s
  s.setEport l { s.eport l with creditAt := s.now }

/-- The wire bytes of a frame are taken from its class's credit (R180). -/
def State.charge (s : State) (l c len : Nat) : State := s.setCredit l c (s.creditOf l c - (wireBytes len * creditUnit : Nat))

/-! Queues (R178, R179, R187). -/

/-- Frames of a queue. -/
def State.queue (s : State) (l c q : Nat) : List EgFrame := (storeGet (c, q) (s.eport l).queues).getD []

/-- Set a queue; QUEUE_FILL follows. -/
def State.setQueue (s : State) (l c q : Nat) (fs : List EgFrame) : State :=
  let x := s.eport l
  (s.setEport l { x with queues := if fs = [] then storeDel (c, q) x.queues else storePut pairLt (c, q) fs x.queues }).wr
    o3802_QUEUE_FILL (queueRow l c q) (sumNat (fs.map (·.len)))

/-- Queues of a class with frames waiting. -/
def State.waitingQueues (s : State) (l c : Nat) : List Nat := ((s.eport l).queues.filter (fun e => e.1.1 == c && e.2 != [])).map (·.1.2)

/-- EG_TX_DISCARD: severity B when the port has paced rows (R189). -/
def State.txDiscard (s : State) (l : Nat) : State :=
  ((s.bump o3800_TX_DISCARDS l).raiseWith .EG_TX_DISCARD l (if 0 < s.rdN o3800_PACED_ROWS l then 2 else 3) Alarm.EG_TX_DISCARD.subsys []).clear .EG_TX_DISCARD l

/-- On a blocked port every shaped frame is discarded as it reaches the head of its queue, its credit charged (R187). -/
def State.flushPort (s : State) (l : Nat) : State :=
  if s.portBlocked l then
    (s.eport l).queues.foldl (fun s e =>
      ((e.2.foldl (fun s f => (s.charge l e.1.1 f.len).txDiscard l) s).setQueue l e.1.1 e.1.2 []).wr o3802_DEFICIT (queueRow l e.1.1 e.1.2) 0) (s.accrue l)
  else s

/-- Whether a queue is an output row's that sends nothing, custody being elsewhere (R428). -/
def State.mute (s : State) (l c q : Nat) : Bool := s.rdN o3802_QUEUE_SOURCE (queueRow l c q) != 65535 && !s.isOn o1601_CUSTODY_HELD 0

/-- A frame arrives at a queue (R179). The queues of TC6 for which no limit is planned have none. -/
def State.enqueue (s : State) (l c q : Nat) (f : EgFrame) : State :=
  let row := queueRow l c q
  let src := s.rdN o3802_QUEUE_SOURCE row
  let limit := s.rdN o3802_QUEUE_LIMIT row
  if 7 ≤ c ∨ 256 ≤ q ∨ s.portState l = EG_PORT_STATE.off ∨ (src ≠ 65535 ∧ s.isOn o3700_TX_ENABLE src = false) ∨ s.mute l c q then s
  else if ¬ (c = 6 ∧ limit = 0) ∧ limit < s.rdN o3802_QUEUE_FILL row + f.len then (s.bump o3802_QUEUE_DROPS row).raiseQuiet .EG_QUEUE_DROP l
  else ((s.accrue l).setQueue l c q (s.queue l c q ++ [f])).flushPort l

/-! Frames of the firmware (R173). -/

/-- The readings of TC6 on a lane: 20 Mbit/s with 16,384 bytes on every Ethernet port (R180). -/
def State.noteFirmwareClass (s : State) (l : Nat) : State :=
  let r := classRow l 6
  if ethMode (s.lane l).mode then ((s.wr o3801_CLASS_MODE r CLASS_MODE.firmware).wr o3801_CLASS_RATE_KBPS r 20000).wr o3801_BURST_CEILING r 16384
  else ((s.wr o3801_CLASS_MODE r CLASS_MODE.unused).wr o3801_CLASS_RATE_KBPS r 0).wr o3801_BURST_CEILING r 0

/-- TC6 of every lane. -/
def State.noteFirmwareClasses (s : State) : State := (s.lanes.map (·.1)).foldl State.noteFirmwareClass s

/-- Length of a firmware frame with a payload above Ethernet, at least 64 bytes (IEEE 802.3; log entry 154). -/
def State.firmwareLength (s : State) (l payload : Nat) : Nat := max 64 (payload + 18 + (if s.rd o3500_VLAN_ID l = 0 then 0 else 4))

/-- A frame of the firmware joins queue 0 or 1 of TC6 of a port, with what it carries (R173). -/
def State.firmwareSend (s : State) (l q payload : Nat) (o : Out) : State := s.enqueue l 6 q { len := s.firmwareLength l payload, carries := [o] }

/-- Bytes above Ethernet of a Delay_Req: 44 of PTP, 8 of UDP, the IP header (IEEE 1588; log entry 154). -/
def delayReqBytes (ipv6 : Bool) : Nat := 44 + 8 + (if ipv6 then 40 else 20)

/-- Bytes above Ethernet of a membership report with `n` sources: IGMPv3 (RFC 3376) or MLDv2 (RFC 3810; log entry 154). -/
def reportBytes (v4 : Bool) (n : Nat) : Nat := if v4 then 24 + 8 + 8 + 4 * n else 40 + 8 + 8 + 20 + 16 * n

/-- A PTP port sends a Delay_Req through queue 0 of TC6, by unicast to its leader in hybrid mode (R96, R173); it is stamped when it leaves (R104). -/
def State.delayReq (s : State) (p : Nat) : State :=
  let lane := s.rdN o2303_PTP_LANE p
  if lane = 65535 then s
  else
    let x := s.ptpPort p
    let v6 := s.rd o2302_IP_VERSION 0 == IP_VERSION.IPv6
    let dst := if s.rd o2302_DELAY_MODE 0 = DELAY_MODE.hybrid then x.sync.map (·.leader) else none
    let f : EgFrame := { len := s.firmwareLength lane (delayReqBytes v6), seq := x.nextSeq, carries := [.delayReq lane x.nextSeq v6 dst], req := some p }
    (s.setPtpPort p { x with nextSeq := (x.nextSeq + 1) % 65536, req := none }).enqueue lane 6 0 f

def execDelayReqSend (t p : Nat) (s : State) : Host.Outcome State Fault Refusal := s.run t (fun s => s.delayReq p)

end Sys2Proof.Machine
end

