-- ==== Sys2Proof/Machine/Media.lean ====
section
/-! DEFINITION. Machine/Media.lean: media transport: received frames, the ingress flow table, seamless protection, joins, output rows (R138-R171). -/

namespace Sys2Proof.Machine

open Sys2Proof

/-! Flow rows. -/

/-- A flow row beside its objects. -/
def State.flow (s : State) (f : Nat) : Flow := (storeGet f s.med.flows).getD {}

/-- Set a flow row. -/
def State.setFlow (s : State) (f : Nat) (x : Flow) : State := { s with med := { s.med with flows := storePut natLt f x s.med.flows } }

/-- State of a row (R148). -/
def State.flowState (s : State) (f : Nat) : Int := s.rd o3600_FLOW_STATE f

/-- Kind of a row. -/
def State.flowKind (s : State) (f : Nat) : Int := s.rd o3600_FLOW_KIND f

/-- Enabled rows, rising. -/
def State.enabledRows (s : State) : List Nat := s.listed' o3600_FLOW_ENABLE

/-- Lane of a leg: first or second. -/
def State.legLane (s : State) (f : Nat) (second : Bool) : Nat := s.rdN (if second then o3600_LANE_S else o3600_LANE_P) f

/-- Destination, source and port of a leg. -/
def State.legDest (s : State) (f : Nat) (second : Bool) : Bytes := s.rdOct (if second then o3600_DEST_ADDR_S else o3600_DEST_ADDR_P) f
def State.legSrc (s : State) (f : Nat) (second : Bool) : Bytes := s.rdOct (if second then o3600_SRC_ADDR_S else o3600_SRC_ADDR_P) f
def State.legPort (s : State) (f : Nat) (second : Bool) : Nat := s.rdN (if second then o3600_UDP_PORT_S else o3600_UDP_PORT_P) f

/-- Legs of a row: those whose lane is not FFFFh. -/
def State.legs (s : State) (f : Nat) : List Bool := [false, true].filter (fun x => s.legLane f x != 65535)

/-- State of a leg (R156). -/
def legObj (second : Bool) : Nat := if second then o3600_LEG_STATE_S else o3600_LEG_STATE_P

/-- No lane (FFFFh) and no address (all zeros). -/
def noLane : Nat := 65535
def noAddr : Bytes := zeros 16

/-- The match key of a leg (R144). -/
def State.legKey (s : State) (f : Nat) (second : Bool) : Nat × Bytes × Nat × Bytes := (s.legLane f second, s.legDest f second, s.legPort f second, s.legSrc f second)

/-- Whether an audio source channel is a 96 kHz one (R150, R214). -/
def State.is96k (s : State) (ch : Nat) : Bool := s.rd o4102_SRC_RATE ch == SRC_RATE.m96k

/-- First crosspoint channel and number of crosspoint channels that a row takes (R150, R163); none for a row without audio. -/
def State.flowAudio (s : State) (f : Nat) : Nat × Nat :=
  let k := s.flowKind f
  let base := s.rdN o3600_FLOW_AUDIO_BASE_CH f
  let n := s.rdN o3600_FLOW_AUDIO_CHANNELS f
  if audioKind k then (base, if s.is96k base then 2 * n else n) else if k = FLOW_KIND.st2022_6 then (base, n) else (base, 0)

/-- Whether two ranges of channels overlap; an empty one overlaps none. -/
def rangesMeet (a b : Nat × Nat) : Bool := decide (max a.1 b.1 < min (a.1 + a.2) (b.1 + b.2))

/-- Options of R149, R153, R155 and R156 (0D04h); ST 2022-6 carries 1.485 and 2.97 Gbit/s, with the embedded audio of R163. -/
def State.flowOptionsOk (s : State) (f : Nat) : Bool :=
  let k := s.flowKind f
  let n := s.rdN o3600_FLOW_AUDIO_CHANNELS f
  let chans := if k = FLOW_KIND.st2110_30 then decide (1 ≤ n ∧ n ≤ (if s.is96k (s.flowAudio f).1 then 32 else 64))
    else if k = FLOW_KIND.st2110_31 then decide (2 ≤ n ∧ n ≤ 16) && n % 2 == 0 && !s.is96k (s.flowAudio f).1
    else if k = FLOW_KIND.st2022_6 then (match fmtSdi (s.epFormat (s.rdN o3600_ENDPOINT f)) with
      | some (1, _) => decide (n ≤ 16)
      | some (2, _) => decide (n ≤ 32)
      | _ => false)
    else true
  let skew := s.rdN o3600_SKEW_WINDOW_US f
  let play := s.rdN o3600_PLAYOUT_CYCLES f
  let leg := s.rdN o3600_LEG_TIMEOUT_MS f
  chans && decide (100 ≤ skew ∧ skew ≤ 50000) && decide (2 ≤ play ∧ play ≤ 400) && decide (1 ≤ leg ∧ leg ≤ 1000) &&
    decide ((s.flowAudio f).1 + (s.flowAudio f).2 ≤ 16384) &&
    s.enabledRows.all (fun g => g == f || !rangesMeet (s.flowAudio f) (s.flowAudio g))

/-- Whether the endpoint of a row is planned as a source of the kind's class (R144). -/
def State.flowPlanned (s : State) (f : Nat) : Bool :=
  let ep := s.rdN o3600_ENDPOINT f
  let k := s.flowKind f
  if audioKind k then true
  else (s.planned ep).isSome && (if k = FLOW_KIND.st2110_22 then ep / 4096 == 2 else ep / 4096 == 0)

/-- The checks of R144, 0 when the row may be enabled. -/
def State.flowCheck (s : State) (f : Nat) : Nat :=
  if s.flowPlanned f = false then 0x0D01
  else if s.enabledRows.any (fun g => g != f && (s.legs f).any (fun a => (s.legs g).any (fun b => s.legKey f a == s.legKey g b))) then 0x0D02
  else if s.legLane f false = noLane ∨ (s.legs f).any (fun a => !ethMode (s.rd o3000_LANE_MODE (s.legLane f a))) then 0x0D03
  else if s.flowOptionsOk f = false then 0x0D04 else 0

/-- Active rows. -/
def State.activeRows (s : State) : List Nat := (s.med.flows.filter (fun e => e.2.active)).map (·.1)

/-- Counts of rows and MT_FLOW_LIMIT (R146, R170, R171), which stands as soon as a row is 'unclaimed', also in the cycle of its enabling (log entry 161). -/
def State.noteFlows (s : State) : State :=
  let act := s.activeRows
  let wait := (s.enabledRows.filter (fun f => s.flowState f == FLOW_STATE.unclaimed)).length
  let s := ((s.wr o3401_FLOWS_ACTIVE 0 act.length).wr o3401_FLOWS_UNCLAIMED 0 wait).alarmWhile .MT_FLOW_LIMIT noInst (decide (0 < wait))
  (List.range 8).foldl (fun s k =>
    s.wr o3400_ENGINE_FLOWS_ACTIVE k ((act.filter (fun f => (s.legs f).any (fun a => s.legLane f a / 24 == k))).length)) s

/-! Joins (R160). -/

/-- Whether an address of 16 bytes is an IPv4 address. -/
def isV4 (a : Bytes) : Bool := a.take 12 == zeros 10 ++ [0xFF#8, 0xFF#8]

/-- Whether an address is a multicast group. -/
def isGroup (a : Bytes) : Bool := if isV4 a then (a.getD 12 0#8).toNat / 16 == 14 else a.getD 0 0#8 == 0xFF#8

/-- Legs of active rows that have joined a group on a lane. -/
def State.groupLegs (s : State) (lane : Nat) (group : Bytes) : List Bytes :=
  (s.activeRows.map (fun f => ((s.legs f).filter (fun a => s.legLane f a == lane && s.legDest f a == group)).map (s.legSrc f))).flatten

/-- A membership report with its sources goes to queue 1 of TC6 (R160, R173). -/
def State.sendReport (s : State) (lane : Nat) (group : Bytes) (srcs : List Bytes) : State :=
  (s.firmwareSend lane 1 (reportBytes (isV4 group) (srcs.filter (· != noAddr)).length) (.join lane group srcs)).bump o3510_JOINS_SENT lane

/-- Report a group on a lane: rows that share it are one record (R160). -/
def State.reportGroup (s : State) (lane : Nat) (group : Bytes) : State := s.sendReport lane group (s.groupLegs lane group).eraseDups

/-- Lanes and groups of the multicast legs of rows, each once. -/
def State.groupsOf (s : State) (rows : List Nat) : List (Nat × Bytes) :=
  ((rows.map (fun f => ((s.legs f).filter (fun a => isGroup (s.legDest f a))).map (fun a => (s.legLane f a, s.legDest f a)))).flatten).eraseDups

/-- Report the groups of rows. -/
def State.joinRows (s : State) (rows : List Nat) : State := (s.groupsOf rows).foldl (fun s g => s.reportGroup g.1 g.2) s

/-- Leave the groups of a row (R160, R173). -/
def State.leaveRow (s : State) (f : Nat) : State :=
  ((s.legs f).filter (fun a => isGroup (s.legDest f a))).foldl (fun s a =>
    (s.firmwareSend (s.legLane f a) 1 (reportBytes (isV4 (s.legDest f a)) (if s.legSrc f a = noAddr then 0 else 1))
      (.leave (s.legLane f a) (s.legDest f a) (s.legSrc f a))).bump o3510_LEAVES_SENT (s.legLane f a)) s

/-- The report of an activated row is repeated 1 s after the first (R160). -/
def State.joinRepeat (s : State) (f : Nat) : State :=
  match (s.flow f).joinAt with
  | some u => if u + second ≤ s.now then (s.setFlow f { s.flow f with joinAt := none }).joinRows [f] else s
  | none => s

def execJoinRepeat (t row : Nat) (s : State) : Host.Outcome State Fault Refusal := s.run t (fun s => s.joinRepeat row)

/-! States of a row (R148, R161). -/

/-- Instance under which a row's alarms stand: its endpoint for pictures, 65,536 + row for rows that carry no picture (R171, log entry 21). -/
def State.flowInst (s : State) (f : Nat) : Nat :=
  let k := s.flowKind f
  if audioKind k ∨ k = FLOW_KIND.st2110_40 then 65536 + f else s.rdN o3600_ENDPOINT f

/-- Whether a row carries pictures to its endpoint. -/
def State.flowVideo (s : State) (f : Nat) : Bool := !audioKind (s.flowKind f) && s.flowKind f != FLOW_KIND.st2110_40

/-- Channels that follow a row's loss and return: those of the slot that it feeds with pictures, or its own (R161). -/
def State.feedAudio (s : State) (f : Nat) : Nat × Nat := if s.flowVideo f && decide (s.rdN o3600_ENDPOINT f < 4096) then s.slotAudio (s.rdN o3600_ENDPOINT f) else s.flowAudio f

/-- What the loss or return of a row does to its endpoint and its audio channels (R161); samples held from before a loss are not played. -/
def State.flowFeeds (s : State) (f : Nat) (up : Bool) : State :=
  let (b, n) := s.feedAudio f
  let x := s.flow f
  let s := (if up then s.audioBack b n else s.audioLost b n).setFlow f (if up then { x with fed := true } else { x with fed := false, playing := false, held := [], ticks := [] })
  if s.flowVideo f then (if up then s.feedUp (s.rdN o3600_ENDPOINT f) else s.feedDown (s.rdN o3600_ENDPOINT f)) else s

/-- A row takes a state, its endpoint and alarms following (R148, R161, R171). -/
def State.setFlowState (s : State) (f : Nat) (st : Int) : State :=
  let s := (s.wr o3600_FLOW_STATE f st).inputAlarms (s.flowInst f) (st == FLOW_STATE.lost) (st == FLOW_STATE.format_mismatch)
  if st = FLOW_STATE.present then s.flowFeeds f true
  else if (s.flow f).active ∧ (st = FLOW_STATE.lost ∨ st = FLOW_STATE.format_mismatch ∨ st = FLOW_STATE.disabled ∨ st = FLOW_STATE.not_planned) then
    s.flowFeeds f false
  else s

/-- Instance of a leg's alarms: twice the row, and one for the second leg. -/
def legInst (f : Nat) (second : Bool) : Nat := 2 * f + (if second then 1 else 0)

/-- Both legs begin: 'none' where the lane is FFFFh, else 'silent' (R156). -/
def State.resetLegs (s : State) (f : Nat) : State :=
  [false, true].foldl (fun s a =>
    (s.wr (legObj a) f (if s.legLane f a = noLane then LEG_STATE_P.none else LEG_STATE_P.silent)).clear .MT_LEG_LOSS (legInst f a)) s

/-- A row leaves the active state for another: leaves sent, entries freed (R146, R148, R160). -/
def State.flowInactive (s : State) (f : Nat) (st : Int) : State :=
  let s := if (s.flow f).active then s.leaveRow f else s
  let was := (s.flow f).active
  let s := ((s.setFlowState f st).resetLegs f).wr o3620_SKEW_NS f 0
  s.setFlow f { ({} : Flow) with leaving := was && st == FLOW_STATE.disabled }

/-- FLOW_ENABLE (R144, R146, R148). The packet engines named by the row are held on (R139). -/
def writeFlowEnable : Handler := onInt fun _ f v s =>
  let on := s.isOn o3600_FLOW_ENABLE f
  if v = 1 then
    if on then (stOK, s)
    else
      let k := s.flowCheck f
      if k ≠ 0 then (k, s)
      else
        let s := (s.wr o3600_FLOW_ENABLE f 1).setFlow f { s.flow f with fresh := true }
        (stOK, (s.setFlowState f FLOW_STATE.unclaimed).noteFlows.refreshPower)
  else if on then (stOK, ((s.flowInactive f FLOW_STATE.disabled).wr o3600_FLOW_ENABLE f 0).noteFlows.refreshPower)
  else (stOK, s)

def execFlowEnable (t port row : Nat) (on : Bool) (s : State) : Host.Outcome State Fault Refusal :=
  s.run t (fun s => s.opCmd writeFlowEnable port o3600_FLOW_ENABLE row (.int (boolVal on)))

/-- Sub-indices .02 to .0D and .0F are writable only while FLOW_ENABLE is FALSE (R147); the leg states follow the lanes (R156). -/
def writeFlowField (o : Nat) : Handler := fun c f v s =>
  if s.isOn o3600_FLOW_ENABLE f then (0x0D05, s)
  else
    let (k, s) := storeVal o c f v s
    (k, if o = o3600_LANE_P ∨ o = o3600_LANE_S then s.resetLegs f else s)

/-- Active rows at most (R143). -/
def flowLimit : Nat := 8192

/-- Whether a row counts against the limit: active, or disabled within this cycle (R146). -/
def flowHolds (x : Flow) : Bool := x.active || x.leaving

/-- One row activated (R146, R148, R156). -/
def State.activateRow (s : State) (f : Nat) : State :=
  let s := s.setFlow f { ({} : Flow) with active := true, joinAt := some s.now }
  (s.setFlowState f FLOW_STATE.joining).resetLegs f

/-- At the end of a cadence cycle: rows disabled in it are removed, then 'unclaimed' rows are activated in row order while fewer than 8,192 are active (R146). -/
def State.flowActivation (s : State) : State :=
  let s := { s with med := { s.med with flows := (s.med.flows.map (fun e => (e.1, { e.2 with leaving := false, fresh := false }))).filter (fun e => decide (e.2 ≠ {})) } }
  let rows := (s.enabledRows.filter (fun f => s.flowState f == FLOW_STATE.unclaimed)).take (flowLimit - s.activeRows.length)
  if rows = [] then s.noteFlows else ((rows.foldl State.activateRow s).joinRows rows).noteFlows

/-! Seamless protection (R154-R156). -/

/-- Whether the kind's positions are the extended 32-bit number (R154). -/
def seqModulus (k : Int) : Nat := if k = FLOW_KIND.st2110_20 then 4294967296 else 65536

/-- The position that a sequence number stands for, nearest to the newest one (R154). -/
def extendSeq (m : Nat) (newest : Option Nat) (w : Nat) : Nat :=
  match newest with
  | none => m + w % m
  | some n =>
    let d := (w % m + m - n % m) % m
    if d < m / 2 then n + d else n + d - m

/-- Positions behind the newest one that are still merged (R155). -/
def mergeDepth : Nat := 32767

/-- The deadline of a position (R155). -/
def Flow.deadline (x : Flow) (q : Nat) : Option Nat := (x.spans.find? (fun a => decide (a.lo ≤ q ∧ q ≤ a.hi))).map (·.deadline)

/-- What came of a position. -/
def Flow.gotAt (x : Flow) (q : Nat) : Got := (storeGet q x.got).getD {}

/-- A packet at position `q` sets the deadlines of `q` and of every position below it that has none (R155). Positions before the first packet are written but not
judged. -/
def Flow.span (x : Flow) (q deadline : Nat) : Flow :=
  match x.newest with
  | none => { x with newest := some q, judged := q, spans := [⟨0, q, deadline⟩] }
  | some n => if n < q then { x with newest := some q, spans := x.spans ++ [⟨n + 1, q, deadline⟩] } else x

/-- Note the arrival of a copy on a leg. -/
def Got.note (g : Got) (second : Bool) (now : Nat) : Got :=
  if second then { g with s := some (g.s.getD now) } else { g with p := some (g.p.getD now) }

/-- Skew of a position: arrival on LANE_S minus arrival on LANE_P. -/
def Got.skew (g : Got) : Option Int :=
  match g.p, g.s with
  | some p, some s => some ((s : Int) - p)
  | _, _ => none

/-- SKEW_NS: the mean over the last second, 0 while either leg is not 'receiving' (R156). -/
def State.noteSkew (s : State) (f : Nat) : State :=
  let x := s.flow f
  let l := x.skews.filter (fun e => decide (s.now < e.1 + second))
  let both := [false, true].all (fun a => s.rd (legObj a) f == LEG_STATE_P.receiving)
  (s.setFlow f { x with skews := l }).wr o3620_SKEW_NS f (if both then meanInt (l.map (·.2)) else 0)

/-- What the merge makes of a packet. -/
inductive Merge where
  | write
  | duplicate
  | late (first : Bool)
deriving DecidableEq, Repr

/-- The merge of a packet of position `q` on a leg (R155). -/
def State.merge (s : State) (f : Nat) (second : Bool) (q : Nat) : Merge × State :=
  let x := (s.flow f).span q (s.now + s.rdN o3600_SKEW_WINDOW_US f * 1000)
  let g := x.gotAt q
  let first := g.p.isNone && g.s.isNone
  let fresh := if second then g.s.isNone else g.p.isNone
  let g' := g.note second s.now
  let far : Bool := match x.newest with
    | some n => decide (q + mergeDepth < n)
    | none => false
  let inTime : Bool := match x.deadline q with
    | some d => decide (s.now ≤ d)
    | none => false
  let m : Merge := if far ∨ inTime = false then .late first else if g.written then .duplicate else .write
  let x := { x with
    got := storePut natLt q { g' with written := g.written || m == .write } x.got
    skews := match fresh, g'.skew with
      | true, some d => (s.now, d) :: x.skews
      | _, _ => x.skews }
  (m, (s.setFlow f x).noteSkew f)

/-- Positions whose deadline has passed are judged: gaps of the merge and of each leg (R155). -/
def State.mergeDeadline (s : State) (f : Nat) : State :=
  let x := s.flow f
  let due := x.spans.filter (fun a => decide (a.deadline ≤ s.now))
  let qs := (due.map (fun a => (List.range (a.hi + 1 - max a.lo x.judged)).map (· + max a.lo x.judged))).flatten
  let legs := s.legs f
  let gaps := (qs.filter (fun q => !(x.gotAt q).written)).length
  let onP := if legs.contains false then (qs.filter (fun q => (x.gotAt q).p.isNone)).length else 0
  let onS := if legs.contains true then (qs.filter (fun q => (x.gotAt q).s.isNone)).length else 0
  let s := s.setFlow f { x with judged := max x.judged ((due.map (fun a => a.hi + 1)).foldl max 0) }
  let s := ((s.addTo o3620_MERGED_GAPS f gaps).addTo o3620_LEG_GAPS_P f onP).addTo o3620_LEG_GAPS_S f onS
  let s := s.setFlow f { s.flow f with spans := x.spans.filter (fun a => decide (s.now ≤ a.deadline)) }
  if 0 < gaps then s.raiseQuiet .MT_MERGED_GAP f else s

def execMergeDeadline (t row : Nat) (s : State) : Host.Outcome State Fault Refusal := s.run t (fun s => s.mergeDeadline row)

/-- No packet on a leg for LEG_TIMEOUT_MS (R156). -/
def State.legTimeout (s : State) (f : Nat) (second : Bool) : State :=
  let x := s.flow f
  let at_ := if second then x.s.lastAt else x.p.lastAt
  if s.rd (legObj second) f = LEG_STATE_P.receiving ∧ at_ + s.rdN o3600_LEG_TIMEOUT_MS f * 1000000 ≤ s.now then
    ((s.wr (legObj second) f LEG_STATE_P.lost).raise .MT_LEG_LOSS (legInst f second)).noteSkew f
  else s

def execLegTimeout (t row : Nat) (second : Bool) (s : State) : Host.Outcome State Fault Refusal := s.run t (fun s => s.legTimeout row second)

/-- No matched packet on any leg for LOSS_TIMEOUT_MS (R148). -/
def State.flowLoss (s : State) (f : Nat) : State :=
  if s.flowState f = FLOW_STATE.present ∧ (s.flow f).lastAt + s.rdN o3600_LOSS_TIMEOUT_MS f * 1000000 ≤ s.now then s.setFlowState f FLOW_STATE.lost else s

def execFlowLossTimeout (t row : Nat) (s : State) : Host.Outcome State Fault Refusal := s.run t (fun s => s.flowLoss row)

/-! Pictures, codestreams and ancillary data (R150, R151, R157). -/

/-- Bytes of a line of active picture: 20 bits per pixel (R149). -/
def lineBytes (fc : Nat) : Nat := fmtWidth fc * 5 / 2

/-- The line of the raster on which a segment lies. -/
def segLine (fc : Nat) (g : PktSeg) : Nat := if fmtInterlaced fc then (if g.second then 584 else 21) + g.row else fmtFirstActive fc + g.row

/-- Lines of a frame, or of a field. -/
def unitLines (fc : Nat) : Nat := if fmtInterlaced fc then 540 else fmtHeight fc

/-- Whether a segment lies inside a format (R150). -/
def segOk (fc : Nat) (g : PktSeg) : Bool :=
  decide (g.row < unitLines fc) && decide (g.pixel * 5 + g.bytes * 2 ≤ fmtWidth fc * 5) && (!g.second || fmtInterlaced fc)

/-- Ticks per second of a kind's RTP clock, as a fraction of a ns: ticks are ns x num / den (R158). -/
def rtpRate (k : Int) (is96 : Bool) : Nat × Nat :=
  if audioKind k then (if is96 then (96, 1000000) else (48, 1000000)) else if k = FLOW_KIND.st2022_6 then (27, 1000) else (9, 100000)

/-- A receive stamp minus the PTP time that a timestamp denotes, resolved to the nearest instant within its wrap, in ns (R157). -/
def tsOffset (k : Int) (stamp : Int) (ts : Nat) : Int :=
  let (num, den) := rtpRate k false
  let wrap : Int := 4294967296 * den
  let d := (stamp * num - (ts : Int) * den) % wrap
  (if 2 * d < wrap then d else d - wrap) / num

/-- TS_OFFSET_NS of each leg from the newest complete frame (R157). -/
def State.noteTs (s : State) (f : Nat) (g : FlowFrame) : State :=
  if g.done && ((s.flow f).open_.find? (·.done)).all (fun h => h.ts == g.ts) then
    let s := match g.firstP with
      | some p => s.wr o3620_TS_OFFSET_NS_P f (tsOffset (s.flowKind f) p g.ts)
      | none => s
    match g.firstS with
    | some p => s.wr o3620_TS_OFFSET_NS_S f (tsOffset (s.flowKind f) p g.ts)
    | none => s
  else s

/-- Whether timestamp `a` is newer than `b` within the wrap. -/
def tsNewer (a b : Nat) : Bool := decide (a ≠ b ∧ (a + 4294967296 - b) % 4294967296 < 2147483648)

/-- Whether a frame has been received whole: every line in full, or every position from the end of the frame before it to its marker (R148). -/
def FlowFrame.complete (g : FlowFrame) (k : Int) (fc : Nat) : Bool :=
  match g.marker with
  | none => false
  | some m =>
    !g.outside &&
    (if k = FLOW_KIND.st2110_20 ∨ k = FLOW_KIND.st2022_6 then (g.bytes.filter (fun e => decide (lineBytes fc ≤ e.2))).length == unitLines fc
     else match g.start with
      | some a => (List.range (m + 1 - a)).all (fun i => g.seqs.contains (a + i))
      | none => false)

/-- Write back one of the open frames of a row. -/
def State.setFrame (s : State) (f : Nat) (g : FlowFrame) : State :=
  s.setFlow f { s.flow f with open_ := (s.flow f).open_.map (fun h => if h.ts = g.ts then g else h) }

/-- Ancillary packets that have waited for a frame join it; those of frames before it are forgotten (R151). -/
def State.ancOpened (s : State) (ep ts serial : Nat) : State :=
  let x := s.buf ep
  let mine := ((x.ancWait.filter (fun e => e.1 == ts)).map (·.2)).flatten
  (s.setBuf ep { x with ancWait := x.ancWait.filter (fun e => tsNewer e.1 ts) }).ancTo ep serial mine

/-- A new frame is opened: the picture goes to the endpoint's buffer when the feed is present (R151, R161, R194, R269). The second field of a frame goes to the
frame of the first. -/
def State.openFrame (s : State) (f : Nat) (p : RtpPacket) : State :=
  let ep := s.rdN o3600_ENDPOINT f
  let fc := s.epFormat ep
  let prev := (s.flow f).open_.head?
  let field2 := fmtInterlaced fc && p.segs.any (·.second)
  let (serial, s) :=
    if s.flowVideo f = false ∨ (s.buf ep).down then (none, s)
    else if field2 then (prev.bind (·.serial), s)
    else
      let (ok, s) := if ep < 4096 then s.frameArrives ep else s.xsArrives (ep % 4096)
      if ok then
        let k := (s.buf ep).nextSerial - 1
        (some k, (s.setBuf ep { s.buf ep with precinct := p.precinct }).ancOpened ep p.ts k)
      else (none, s)
  let g : FlowFrame := { ts := p.ts, start := prev.bind (fun h => h.marker.map (· + 1)), serial := serial }
  s.setFlow f { s.flow f with open_ := (g :: (s.flow f).open_).take 2 }

/-- The frame before the newest one is opened by a packet of its own that comes late; its picture is not written, as the newest one's has begun (R151, log entry 158). -/
def State.openBefore (s : State) (f : Nat) (p : RtpPacket) : State :=
  s.setFlow f { s.flow f with open_ := (s.flow f).open_.take 1 ++ [{ ts := p.ts }] }

/-- Two consecutive frames outside the format (R148). -/
def State.frameOutside (s : State) (f : Nat) : State :=
  let n := (s.flow f).outside + 1
  let s := s.setFlow f { s.flow f with outside := n }
  let st := s.flowState f
  if 2 ≤ n ∧ (st = FLOW_STATE.locking ∨ st = FLOW_STATE.present) then s.setFlowState f FLOW_STATE.format_mismatch else s

/-- A complete frame within format (R148). -/
def State.frameInside (s : State) (f : Nat) : State :=
  let s := s.setFlow f { s.flow f with outside := 0 }
  let st := s.flowState f
  if st = FLOW_STATE.locking ∨ st = FLOW_STATE.format_mismatch then s.setFlowState f FLOW_STATE.present else s

/-- A line of a written frame that is now whole. -/
def State.flowLine (s : State) (ep : Nat) (serial : Option Nat) (line : Nat) : State :=
  let x := s.buf ep
  match serial with
  | none => s
  | some k => (s.setBuf ep { x with frames := x.frames.map (fun b => if b.serial = k ∧ b.full.contains line = false then { b with full := line :: b.full } else b) }).lineWritten ep line

/-- Whether a reader has begun to read a line of a frame (R151). -/
def State.lineBegun (s : State) (ep : Nat) (serial : Option Nat) (line : Nat) : Bool :=
  match (s.buf ep).begun, serial with
  | some (k, l), some n => decide (n < k) || (n == k && decide (line ≤ l))
  | _, _ => false

/-- Whether every packet of a frame has come, from the end of the frame before it to its marker. -/
def FlowFrame.gapless (g : FlowFrame) : Bool :=
  match g.start, g.marker with
  | some a, some m => (List.range (m + 1 - a)).all (fun i => g.seqs.contains (a + i))
  | _, _ => false

/-- Whether a closed frame is outside its format: a packet of it was, or it is an ST 2110-20 frame that came without a gap and still does not have the lines and pixels of the
format (R150). -/
def FlowFrame.isOutside (g : FlowFrame) (k : Int) (fc : Nat) : Bool :=
  g.marker.isSome && (g.outside || (k == FLOW_KIND.st2110_20 && g.gapless && !g.complete k fc))

/-- Judge a frame after a write: newly complete, or closed outside the format; one that closes within its format, though it lacks packets, ends a run of frames outside it (R148,
R150). -/
def State.judgeFrame (s : State) (f : Nat) (g : FlowFrame) (closed : Bool) : State :=
  let k := s.flowKind f
  let fc := s.epFormat (s.rdN o3600_ENDPOINT f)
  let g := match g.start, (s.flow f).open_ with
    | none, [_, h] => { g with start := h.marker.map (· + 1) }
    | _, _ => g
  let whole := g.complete k fc
  let fresh := whole && !g.done
  let out := g.isOutside k fc
  let s := s.setFrame f { g with done := g.done || whole, counted := g.counted || out }
  let s := if closed then s.bump o3620_FRAMES f else s
  let s := if out && !g.counted then s.frameOutside f else if closed && !out then s.setFlow f { s.flow f with outside := 0 } else s
  let ep := s.rdN o3600_ENDPOINT f
  let s := if fresh ∧ ep / 4096 = 2 ∧ g.serial.isSome then (s.bump o5012_XS_FRAMES (ep % 4096)).wr o5011_XS_STATE (ep % 4096) XS_STATE.running else s
  if fresh then (s.frameInside f).noteTs f { g with done := true } else s

/-- The profile, level and sublevel last received by a decoder (R266). -/
def State.noteXs (s : State) (c : Nat) : Option (Nat × Bytes × Bytes) → State
  | some (p, l, b) => ((s.wr o5011_XS_PROFILE c p).wrOct o5011_XS_LEVEL c l).wrOct o5011_XS_SUBLEVEL c b
  | none => s

/-- A codestream that fails its own syntax: its frame is treated as out of window (R270). -/
def State.xsBroken (s : State) (f : Nat) (g : FlowFrame) : State :=
  let ep := s.rdN o3600_ENDPOINT f
  let c := ep % 4096
  let s := (s.bump o5012_XS_CODESTREAM_ERRORS c).raiseQuiet .XS_CODESTREAM_ERROR c
  match g.serial with
  | none => s
  | some k =>
    let s := s.setBuf ep { s.buf ep with frames := (s.buf ep).frames.filter (fun b => b.serial != k) }
    ((s.bump o5012_XS_OFFTIME_FRAMES c).raise .XS_OFF_TIME c).setFrame f { g with serial := none }

/-- The ancillary packets of an ST 2110-40 row go to the frame of its slot that has their RTP timestamp (R151): the frame open under the row that feeds the slot, or one still to
come; those of an older frame, and those whose line has begun to be read, are discarded as late. A slot fed without RTP timestamps takes them with its newest frame. -/
def State.ancPlace (s : State) (f : Nat) (p : RtpPacket) : State :=
  let ep := s.rdN o3600_ENDPOINT f
  match (s.flowFeed ep).filter (fun v => s.flowKind v == FLOW_KIND.st2110_20) with
  | none => s.ancFull ep p.anc
  | some v =>
    if (s.buf ep).down then s
    else match (s.flow v).open_.find? (fun g => g.ts == p.ts) with
      | some g =>
        match g.serial with
        | none => s
        | some k =>
          let late := p.anc.filter (fun a => s.lineBegun ep (some k) a.line)
          (if late = [] then s else s.bump o3620_LATE_DISCARDS f).ancTo ep k (p.anc.filter (fun a => !s.lineBegun ep (some k) a.line))
      | none =>
        if (s.flow v).open_.head?.any (fun g => tsNewer g.ts p.ts) then s.bump o3620_LATE_DISCARDS f
        else s.setBuf ep { s.buf ep with ancWait := (s.buf ep).ancWait ++ [(p.ts, p.anc)] }

/-- An accepted packet of an open frame is written in place (R150-R152). -/
def State.writePacket (s : State) (f : Nat) (q : Nat) (p : RtpPacket) (g : FlowFrame) : State :=
  let ep := s.rdN o3600_ENDPOINT f
  let fc := s.epFormat ep
  let k := s.flowKind f
  let bad := !p.fmtOk || p.segs.any (fun x => !segOk fc x)
  let g := { g with marker := if p.marker then some q else g.marker, seqs := q :: g.seqs, outside := g.outside || bad }
  if bad then
    let s := if k = FLOW_KIND.st2110_20 then s.bump o3620_FORMAT_ERRORS f else s
    (s.setFrame f g).judgeFrame f g p.marker
  else if p.segs.any (fun x => s.lineBegun ep g.serial (segLine fc x)) then
    let s := s.bump o3620_LATE_DISCARDS f
    (s.setFrame f { g with seqs := g.seqs.tail }).judgeFrame f { g with seqs := g.seqs.tail } p.marker
  else
    let s := s.addTo o3620_BYTES_WRITTEN f p.bytes
    let lines := p.segs.foldl (fun b x => let l := segLine fc x; storePut natLt l ((storeGet l b).getD 0 + x.bytes) b) g.bytes
    let g := { g with bytes := lines }
    let s := s.setFrame f g
    let whole := (p.segs.map (segLine fc)).filter (fun l => k == FLOW_KIND.st2110_22 || decide (lineBytes fc ≤ (storeGet l lines).getD 0))
    let s := whole.foldl (fun s l => s.flowLine ep g.serial l) s
    let s := if k = FLOW_KIND.st2110_40 then s.ancPlace f p else if k = FLOW_KIND.st2022_6 ∧ g.serial.isSome then s.ancFull ep p.anc else s
    let s := if k = FLOW_KIND.st2110_22 ∧ ep / 4096 = 2 then s.noteXs (ep % 4096) p.xs else s
    let s := s.judgeFrame f g p.marker
    if p.syntaxOk = false ∧ k = FLOW_KIND.st2110_22 then s.xsBroken f g else s

/-- Note the stamp of a frame's first packet on a leg (R157). -/
def FlowFrame.first (g : FlowFrame) (second : Bool) (stamp : Int) : FlowFrame :=
  if second then { g with firstS := some (g.firstS.getD stamp) } else { g with firstP := some (g.firstP.getD stamp) }

/-- The stamp of a packet belongs to its open frame, written or not. -/
def State.noteFirst (s : State) (f : Nat) (second : Bool) (ts : Nat) : State :=
  match (s.flow f).open_.find? (fun g => g.ts == ts) with
  | some g => let g := g.first second s.clkNanos; (s.setFrame f g).noteTs f g
  | none => s

/-- A packet that the merge writes: its frame is one of the two open ones, a new one, or older and late (R151). -/
def State.framePacket (s : State) (f : Nat) (second : Bool) (q : Nat) (p : RtpPacket) : State :=
  let s := match (s.flow f).open_ with
    | [] => s.openFrame f p
    | g :: l =>
      if tsNewer p.ts g.ts then s.openFrame f p
      else if p.ts ≠ g.ts ∧ l.all (fun h => tsNewer p.ts h.ts) then s.openBefore f p else s
  match (s.flow f).open_.find? (fun g => g.ts == p.ts) with
  | none => s.bump o3620_LATE_DISCARDS f
  | some g => s.writePacket f q p (g.first second s.clkNanos)

/-! Audio packets (R149, R153). -/

/-- Two consecutive sample instants of 96 kHz become one of 48 kHz with twice the channels (R150). -/
def pairUp : List (List Int) → List (List Int)
  | a :: b :: l => ((a.zip b).map (fun x => [x.1, x.2])).flatten :: pairUp l
  | _ => []

/-- The RTP clock's extended reading that a timestamp stands for, nearest to the time clock (R153). -/
def State.extendTs (s : State) (k : Int) (is96 : Bool) (ts : Nat) : Nat :=
  let (num, den) := rtpRate k is96
  let cur := s.clkNanos * num / den
  let d := (ts + 4294967296 - cur % 4294967296) % 4294967296
  if d < 2147483648 then cur + d else cur + d - 4294967296

/-- Most channels of an audio packet with a number of sample instants, 0 where no packet has so many (R149): 1 ms or 125 µs at 48 kHz, and at 96 kHz; ST 2110-31 has 2 to 16. -/
def audioLimit (k : Int) (is96 : Bool) (n : Nat) : Nat :=
  if k = FLOW_KIND.st2110_31 then (if n = 48 ∨ n = 6 then 16 else 0)
  else if is96 then (if n = 96 then 4 else if n = 12 then 32 else 0)
  else if n = 48 then 8 else if n = 6 then 64 else 0

/-- Whether an audio packet is within the row's format: every instant has the row's channels, as many as its packet time allows (R149). -/
def State.audioOk (s : State) (f : Nat) (p : RtpPacket) : Bool :=
  let n := s.rdN o3600_FLOW_AUDIO_CHANNELS f
  p.fmtOk && p.samples.all (fun x => x.length == n) && decide (n ≤ audioLimit (s.flowKind f) (s.is96k (s.flowAudio f).1) p.samples.length) && p.samples != []

/-- What an ST 2110-31 packet's channel status says of its source channels (R214). -/
def State.noteStatus (s : State) (f : Nat) (p : RtpPacket) : State :=
  p.nonpcm.zipIdx.foldl (fun s e => s.wr o4102_SRC_NONPCM ((s.flowAudio f).1 + e.2) (boolVal e.1)) s

/-- An accepted audio packet at position `q`: within format it joins the row's samples; eight at consecutive positions lock the flow, two outside in a row are a mismatch (R148, R153).
What is held before the row plays in 'arrival' is no more than the depth at which it starts. -/
def State.audioPacket (s : State) (f q : Nat) (p : RtpPacket) : State :=
  let x := s.flow f
  if s.audioOk f p = false then
    ((s.bump o3620_FORMAT_ERRORS f).setFlow f { x with run := 0, lastQ := none }).frameOutside f
  else
    let is96 := s.is96k (s.flowAudio f).1
    let s := (s.addTo o3620_BYTES_WRITTEN f p.bytes).noteStatus f p
    let x := { x with run := if x.lastQ.any (fun k => k + 1 == q) then x.run + 1 else 1, lastQ := some q, outside := 0 }
    let x := if s.rd o3600_AUDIO_PLACEMENT f = AUDIO_PLACEMENT.timestamp then
        let at_ := s.extendTs (s.flowKind f) is96 p.ts
        { x with ticks := (p.samples.foldl (fun b v => (b.1 + 1, storePut natLt b.1 v b.2)) (at_, x.ticks)).2 }
      else
        let held := x.held ++ (if is96 then pairUp p.samples else p.samples)
        { x with held := if x.playing then held else newest (s.rdN o3600_PLAYOUT_CYCLES f * blockSize) held }
    let s := s.setFlow f x
    let st := s.flowState f
    if (st = FLOW_STATE.locking ∧ 8 ≤ x.run) ∨ st = FLOW_STATE.format_mismatch then s.setFlowState f FLOW_STATE.present else s

/-- The embedded audio of an ST 2022-6 packet enters the row's FIFO, no deeper than it starts while it does not play (R149, R163, R210). -/
def State.embedded (s : State) (f : Nat) (p : RtpPacket) : State :=
  let x := s.flow f
  let held := x.held ++ p.samples.map (·.take (s.rdN o3600_FLOW_AUDIO_CHANNELS f))
  s.setFlow f { x with held := if x.playing then held else newest fifoStart held }

/-- Repeat the block that each channel of a row placed last. -/
def State.repeatBlocks (s : State) (base n : Nat) : State := (List.range n).foldl (fun s i => s.place (base + i) (s.lastBlock (base + i))) s

/-- One cadence cycle of an audio row's playout (R153), or of the FIFO of embedded audio of ST 2022-6 (R210). -/
def State.flowPlay (s : State) (f : Nat) : State :=
  let x := s.flow f
  let (base, n) := s.flowAudio f
  if n = 0 ∨ x.fed = false then s
  else if s.flowKind f = FLOW_KIND.st2022_6 then
    if x.playing = false ∧ x.held.length < fifoStart then s
    else
      let (b, rest, slip) := takeBlock fifoLow fifoHigh x.held
      let since := if slip ∨ x.playing = false then s.now else x.since
      let s := (s.setFlow f { x with held := rest, playing := true, since := since }).placeSamples base b
      let s := if slip then (List.range n).foldl (fun s i => (s.bump o4102_SRC_SLIPS (base + i)).raiseQuiet .AUD_SRC_SLIP (base + i)) s else s
      (List.range n).foldl (fun s i => s.wr o4102_SRC_LOCKED (base + i) (boolVal (decide (since + 10 * second ≤ s.now)))) s
  else
    let is96 := s.is96k base
    let play := s.rdN o3600_PLAYOUT_CYCLES f
    if s.rd o3600_AUDIO_PLACEMENT f = AUDIO_PLACEMENT.timestamp then
      let k := if is96 then 96 else 48
      let first := ((s.clkNanos - play * 125000) * k + 500000) / 1000000
      let need := (List.range (if is96 then 12 else 6)).map (· + first)
      let got := need.filterMap (fun i => storeGet i x.ticks)
      let s := s.setFlow f { x with ticks := x.ticks.filter (fun e => decide (first + need.length ≤ e.1)) }
      if got.length = need.length then s.placeSamples base (if is96 then pairUp got else got)
      else (s.repeatBlocks base n).bump o3620_AUDIO_LATE_BLOCKS f
    else if x.playing = false ∧ x.held.length < play * blockSize then s
    else
      let (b, rest, slip) := takeBlock (play * blockSize / 2) (play * blockSize * 3 / 2) x.held
      let s := (s.setFlow f { x with held := rest, playing := true }).placeSamples base b
      if slip then (s.bump o3620_AUDIO_SLIPS f).pulse .MT_AUDIO_SLIP f else s

/-! A matched packet (R145, R148, R154-R159). -/

/-- A matched packet on a leg: the leg is 'receiving' (R156), and a row that has received nothing, or nothing since its loss, is 'locking' (R148). -/
def State.legPacket (s : State) (f : Nat) (second : Bool) : State :=
  let x := s.flow f
  let x := if second then { x with s := { x.s with lastAt := s.now }, lastAt := s.now } else { x with p := { x.p with lastAt := s.now }, lastAt := s.now }
  let s := ((s.setFlow f x).wr (legObj second) f LEG_STATE_P.receiving).clear .MT_LEG_LOSS (legInst f second)
  let st := s.flowState f
  if st = FLOW_STATE.joining ∨ st = FLOW_STATE.lost then (s.setFlow f { s.flow f with run := 0, lastQ := none, outside := 0 }).setFlowState f FLOW_STATE.locking else s

/-- The SSRC of an accepted packet; a change on its leg is counted and the row passes through 'locking' again (R159). -/
def State.noteSsrc (s : State) (f : Nat) (second : Bool) (ssrc : Nat) : State :=
  let x := s.flow f
  let old := if second then x.s.ssrc else x.p.ssrc
  let x := if second then { x with s := { x.s with ssrc := some ssrc } } else { x with p := { x.p with ssrc := some ssrc } }
  let s := (s.setFlow f x).wr o3620_LAST_SSRC f ssrc
  if old.all (· == ssrc) then s
  else
    let s := (s.bump o3620_SSRC_CHANGES f).pulse .MT_SSRC_CHANGE f
    let st := s.flowState f
    if st = FLOW_STATE.present ∨ st = FLOW_STATE.format_mismatch then
      (s.setFlow f { s.flow f with run := 0, lastQ := none, outside := 0 }).setFlowState f FLOW_STATE.locking
    else s

/-- A packet of a leg of an active row. One of another payload type matches, but is discarded (R145). -/
def State.flowPacket (s : State) (f : Nat) (second : Bool) (p : RtpPacket) : State :=
  let s := (s.bump (if second then o3620_PACKETS_S else o3620_PACKETS_P) f).legPacket f second
  if p.pt ≠ s.rdN o3600_PAYLOAD_TYPE f then s.bump o3620_PT_DISCARDS f
  else
    let s := s.noteSsrc f second p.ssrc
    let q := extendSeq (seqModulus (s.flowKind f)) (s.flow f).newest p.seq
    let (m, s) := s.merge f second q
    let s := if audioKind (s.flowKind f) then s else s.noteFirst f second p.ts
    match m with
    | .duplicate => s.bump o3620_DUPLICATES f
    | .late first => let s := s.bump o3620_LATE_DISCARDS f; if first then s.raiseQuiet .MT_SKEW_EXCEEDED f else s
    | .write =>
      if audioKind (s.flowKind f) then s.audioPacket f q p
      else (if s.flowKind f = FLOW_KIND.st2022_6 then s.embedded f p else s).framePacket f second q p

/-! Received frames (R140-R142). -/

/-- Whether a MAC address is a multicast one of IPv4 (01:00:5E with 23 bits of group) or IPv6. -/
def isGroupMac (m : Bytes) : Bool := (m.take 3 == [0x01#8, 0x00#8, 0x5E#8] && decide ((m.getD 3 0#8).toNat < 128)) || m.take 2 == [0x33#8, 0x33#8]

/-- The broadcast MAC address. -/
def broadcastMac : Bytes := List.replicate 6 0xFF#8

/-- Whether an address is one of the interface's own (R141). -/
def State.ownAddr (s : State) (lane : Nat) (a : Bytes) : Bool :=
  a == zeros 10 ++ [0xFF#8, 0xFF#8] ++ s.rdOct o3500_IPV4_ADDR lane || (a == s.rdOct o3500_IPV6_ADDR lane && a != noAddr)

/-- A leg of a row, in some states, that a packet matches (R145); a leg that names the source comes before one that names any. -/
def State.matchLeg (s : State) (lane : Nat) (dst src : Bytes) (udp : Nat) (rows : List Nat) : Option (Nat × Bool) :=
  let fits := fun (any : Bool) (f : Nat) => (s.legs f).find? (fun a => s.legLane f a == lane && s.legDest f a == dst && s.legPort f a == udp &&
    s.legSrc f a == (if any then noAddr else src))
  let pick := fun any => rows.findSome? (fun f => (fits any f).map (fun a => (f, a)))
  if src = noAddr then pick true else (pick false).orElse (fun _ => pick true)

/-- Bytes above Ethernet of an answer to ARP or to a neighbour solicitation (RFC 826, RFC 4861; log entry 154). -/
def answerBytes (v4 : Bool) : Nat := if v4 then 28 else 72

/-- Sources that answer a query for some sources of a group that a lane has joined (RFC 3376, RFC 3810): those of them that its rows take. -/
def State.queriedSources (s : State) (lane : Nat) (group : Bytes) (asked : List Bytes) : List Bytes :=
  let mine := (s.groupLegs lane group).eraseDups
  if mine.contains noAddr then asked else mine.filter asked.contains

/-- An answer to a query (R160): to a general one the groups of its protocol, to one for a group that group, to one for sources of a group those of them that are taken. -/
def State.answerQuery (s : State) (lane : Nat) (v4 : Bool) (group : Option Bytes) (srcs : List Bytes) : State :=
  ((s.groupsOf s.activeRows).filter (fun x => x.1 == lane && isV4 x.2 == v4 && group.all (· == x.2))).foldl (fun s x =>
    if group.isSome && srcs != [] then
      let a := s.queriedSources lane x.2 srcs
      if a = [] then s else s.sendReport lane x.2 a
    else s.reportGroup x.1 x.2) s

/-- What firmware does with a frame of step 4 of a length above Ethernet (R141, R160): its answers leave through queue 1 of TC6 (R173). -/
def State.firmwareFrame (s : State) (lane payload : Nat) : EthPayload → State
  | .resolve a => if s.ownAddr lane a then s.firmwareSend lane 1 (answerBytes (isV4 a)) (.netAnswer lane a) else s
  | .echo a => if s.ownAddr lane a then s.firmwareSend lane 1 payload (.netAnswer lane a) else s
  | .query v4 g srcs => s.answerQuery lane v4 g srcs
  | _ => s

/-- Step 4 with the rate limit of R142. -/
def State.toFirmware (s : State) (lane payload : Nat) (m : EthPayload) : State :=
  let sec := s.now / second
  let n := match storeGet lane s.med.fwSecond with
    | some (k, n) => if k = sec then n else 0
    | none => 0
  if s.rdN o3401_FIRMWARE_RATE_LIMIT 0 ≤ n then s.bump o3510_RX_FIRMWARE_DROPS lane
  else
    let s := { s with med := { s.med with fwSecond := storePut natLt lane (sec, n + 1) s.med.fwSecond } }
    (s.bump o3510_RX_TO_FIRMWARE lane).firmwareFrame lane payload m

/-- Step 8: unclaimed, counted for an 'unclaimed' row that it would match (R140, R146). -/
def State.unclaimed (s : State) (lane : Nat) (key : Option (Bytes × Bytes × Nat)) : State :=
  let s := s.bump o3510_UNCLAIMED_PACKETS lane
  match key.bind (fun k => s.matchLeg lane k.1 k.2.1 k.2.2 (s.enabledRows.filter (fun f => s.flowState f == FLOW_STATE.unclaimed))) with
  | some (f, _) => s.bump o3620_ROW_UNCLAIMED_PACKETS f
  | none => s

/-- Steps 7 and 8: a packet to the active row that it matches, else unclaimed. -/
def State.classify (s : State) (lane : Nat) (dst src : Bytes) (udp : Nat) (p : RtpPacket) : State :=
  match s.matchLeg lane dst src udp s.activeRows with
  | some (r, second) => s.flowPacket r second p
  | none => s.unclaimed lane (some (dst, src, udp))

/-- PTP messages go to the time clock; an event message of another domain is stamped into PTQ2 with MONITOR_DOMAINS, a Sync by its own command (R101, R104, R107). -/
def State.ptpFrame (s : State) (lane port domain msgType seq : Nat) : State :=
  if domain ≠ s.rdN o2302_PTP_DOMAIN 0 ∧ s.isOn o2302_MONITOR_DOMAINS 0 ∧ 1 ≤ msgType ∧ msgType ≤ 3 then
    (s.pushStamp 2 (s.stampEntry lane seq msgType false (-(s.rd o2303_ASYMMETRY_NS port)))).2
  else s

/-- A PTP message read as RTP: the second byte of its header stands where the payload type is, and holds versionPTP 2 (IEEE 1588). -/
def ptpAsRtp (seq : Nat) : RtpPacket := { pt := 2, ssrc := 0, seq := seq, ts := 0 }

/-- Whether a UDP port is one of PTP's. -/
def isPtpUdp (udp : Nat) : Bool := udp == 319 || udp == 320

/-- Steps 1 to 8 of R140; a frame in an errored codeword fails step 1 (R127, log entry 155). -/
def State.ethFrame (s : State) (lane : Nat) (f : EthFrame) : State :=
  let mtu := s.rdN o3500_MTU lane
  let vlan := s.rdN o3500_VLAN_ID lane
  let head := if f.tag.isSome then 22 else 18
  let s := s.bump o3510_RX_FRAMES lane
  if f.fcsOk = false ∨ (s.lane lane).errored ∨ mtu + head < f.len then s.bump o3510_RX_IP_ERRORS lane
  else if f.mac ≠ s.rdOct o3500_MAC_ADDR lane ∧ f.mac ≠ broadcastMac ∧ isGroupMac f.mac = false then s.bump o3510_RX_ADDR_DROPS lane
  else if (vlan ≠ 0 ∧ f.tag ≠ some vlan) ∨ (vlan = 0 ∧ f.tag.isSome) then s.bump o3510_RX_VLAN_DROPS lane
  else match f.payload with
    | .resolve a => s.toFirmware lane (f.len - head) (.resolve a)
    | .echo a => s.toFirmware lane (f.len - head) (.echo a)
    | .query v4 g l => s.toFirmware lane (f.len - head) (.query v4 g l)
    | .control => s.toFirmware lane (f.len - head) .control
    | .badIp => s.bump o3510_RX_IP_ERRORS lane
    | .ptp dst src udp d m q => match s.portOfLane lane with
      | some p => s.ptpFrame lane p d m q
      | none => s.classify lane dst src udp (ptpAsRtp q)
    | .rtp dst src udp p => if isPtpUdp udp && (s.portOfLane lane).isSome then s else s.classify lane dst src udp p
    | .other => s.unclaimed lane none

def execEthFrameRx (t lane : Nat) (f : EthFrame) (s : State) : Host.Outcome State Fault Refusal :=
  s.run t (fun s => if s.laneReceives lane then s.ethFrame lane f else s)

/-! Output rows (R158, R167). -/

/-- The plan of an output row in the bank that serves its domain. -/
def State.outRow (s : State) (f : Nat) : Option PlanOutRow := tdList.findSome? (fun d => (s.planOf d).outRows.find? (fun r => r.row == f && r.dom == d))

/-- TX_STATE of a row. -/
def State.noteTx (s : State) (f : Nat) : State :=
  s.wr o3700_TX_STATE f (if (s.outRow f).isNone then TX_STATE_3700.not_planned else if s.isOn o3700_TX_ENABLE f then TX_STATE_3700.sending else TX_STATE_3700.off)

/-- TX_ENABLE (R167). -/
def writeTxEnable : Handler := onInt fun _ f v s => (stOK, (s.wr o3700_TX_ENABLE f v).noteTx f)

def execTxEnable (t port row : Nat) (on : Bool) (s : State) : Host.Outcome State Fault Refusal :=
  s.run t (fun s => s.opCmd writeTxEnable port o3700_TX_ENABLE row (.int (boolVal on)))

/-- Addresses, ports, payload type, SSRC, DSCP, TTL and RTP_TS_ADJUST are writable only while TX_ENABLE is FALSE (R167). -/
def writeTxField (o : Nat) : Handler := fun c f v s => if s.isOn o3700_TX_ENABLE f then (0x0D05, s) else storeVal o c f v s

/-- The RTP timestamp of a reading of the time clock in a row's clock (R158). -/
def State.rtpStamp (s : State) (f : Nat) (k : Int) (is96 : Bool) (ns : Nat) : Nat :=
  let (num, den) := rtpRate k is96
  (((ns * num / den % 4294967296 : Nat) + s.rd o3700_RTP_TS_ADJUST f) % 4294967296).toNat

/-- TIMESTAMP_BASIS (R158). -/
def State.tsBasis (s : State) : Int :=
  if s.rd o2301_CLOCK_STATE 0 = CLOCK_STATE.following then TIMESTAMP_BASIS.synchronised
  else if s.ptp.everFollowed then TIMESTAMP_BASIS.free_run else TIMESTAMP_BASIS.unsynchronised

/-! The changeover of a domain (R148, R163, R167). -/

/-- SDI inputs of a domain's plan. -/
def State.planSdiIn (s : State) (d : Nat) : List PlanEndpoint := (s.planOf d).endpoints.filter (fun e => e.dom == d && decide (e.ep < 4096) && e.transport == 1)

/-- SDI outputs of a domain's plan. -/
def State.planSdiOut (s : State) (d : Nat) : List PlanEndpoint := (s.planOf d).endpoints.filter (fun e => e.dom == d && e.ep / 4096 == 8 && e.transport == 1)

/-- LINK_LANES: lanes of links 2-4 (3540h.03). -/
def linkBytes (lanes : List Nat) : Bytes := ((List.range 3).map (fun i => leBytes 2 (lanes.getD (i + 1) 65535))).flatten

/-- SDI inputs and outputs follow the plans in force (R163). An input that stays planned keeps its state. -/
def State.sdiPlan (s : State) : State :=
  let ins := (tdList.map s.planSdiIn).flatten
  let outs := (tdList.map s.planSdiOut).flatten
  let s := laneList.foldl (fun s l =>
    match ins.find? (fun e => e.lanes.head? == some l) with
    | some e =>
      let kept := s.rdN o3540_SDI_IN_LINKS l ≠ 0 ∧ s.rdN o3540_SDI_IN_ENDPOINT l = e.ep
      let s := ((s.wr o3540_SDI_IN_ENDPOINT l e.ep).wr o3540_SDI_IN_LINKS l e.lanes.length).wrOct o3540_LINK_LANES l (linkBytes e.lanes)
      if kept then s else ((s.setSdi l {}).setSdiState l SDI_IN_STATE.lost)
    | none =>
      if s.rdN o3540_SDI_IN_LINKS l = 0 then s
      else
        let s := (s.setSdiState l SDI_IN_STATE.lost).setSdiState l SDI_IN_STATE.not_planned
        (((s.wr o3540_SDI_IN_LINKS l 0).wr o3540_SDI_IN_ENDPOINT l 0).wrOct o3540_LINK_LANES l (List.replicate 6 0xFF#8)).setSdi l {}) s
  let s := laneList.foldl (fun s l =>
    match outs.find? (fun e => e.lanes.head? == some l) with
    | some e => (s.wr o3580_SDI_OUT_ENDPOINT l e.ep).wr o3580_SDI_OUT_LINKS l e.lanes.length
    | none => (s.wr o3580_SDI_OUT_ENDPOINT l 0x8000).wr o3580_SDI_OUT_LINKS l 0) s
  (ins.filterMap (fun e => e.lanes.head?)).foldl State.laneEnteredUp s

/-- The planned readings of an output row (R167). -/
def State.noteOutRow (s : State) (f : Nat) : State :=
  let s := match s.outRow f with
    | some r => ((((((s.wr o3700_TX_KIND f r.kind).wr o3700_TX_ENDPOINT f r.ep).wr o3700_TX_LANE_P f r.laneP).wr o3700_TX_LANE_S f r.laneS).wr
        o3700_SENDER_TYPE f r.sender).wr o3700_PACKET_LAYOUT f r.layout)
    | none => ((((((s.wr o3700_TX_KIND f TX_KIND.none).wr o3700_TX_ENDPOINT f 0).wr o3700_TX_LANE_P f 65535).wr o3700_TX_LANE_S f 65535).wr
        o3700_SENDER_TYPE f SENDER_TYPE.none).wr o3700_PACKET_LAYOUT f 0)
  s.noteTx f

/-- Output rows of both banks and rows that read as planned. -/
def State.outRowsSeen (s : State) : List Nat :=
  ((bankList.map (fun b => (s.bank b).plan.outRows.map (·.row))).flatten ++ s.listed' o3700_TX_STATE).eraseDups

/-- Flow rows whose endpoint the bank that now serves a domain does not plan go 'not planned'; those whose endpoint it plans again are 'unclaimed' (R148). -/
def State.flowPlan (s : State) : State :=
  (s.enabledRows.foldl (fun s f =>
    let st := s.flowState f
    if s.flowPlanned f then (if st = FLOW_STATE.not_planned then s.setFlowState f FLOW_STATE.unclaimed else s)
    else if (s.flow f).active then s.flowInactive f FLOW_STATE.not_planned else s) s).noteFlows

/-- What the changeover of a domain does to media transport. -/
def State.mediaChangeover (s : State) : State := (s.outRowsSeen.foldl State.noteOutRow s.sdiPlan).flowPlan

end Sys2Proof.Machine
end

