-- ==== Sys2Proof/Machine/Slots.lean ====
section
/-! DEFINITION. Machine/Slots.lean: frame slots of encoded streams and their transport-stream packets (R274, R275, R277, R290, R292, R294). -/

namespace Sys2Proof.Machine

open Sys2Proof

/-- A mint channel beside its objects. -/
def State.mint (s : State) (ch : Nat) : MintChan := (storeGet ch s.enc.chans).getD {}

/-- Set a mint channel. -/
def State.setMint (s : State) (ch : Nat) (x : MintChan) : State := { s with enc := { s.enc with chans := storePut natLt ch x s.enc.chans } }

/-- Round up. -/
def ceilDiv (a b : Nat) : Nat := if b = 0 then 0 else (a + b - 1) / b

/-- Round to the nearest. -/
def roundDiv (a b : Nat) : Nat := if b = 0 then 0 else (2 * a + b) / (2 * b)

/-- Offset in ns of datagram `j` from its slot's start (R275). -/
def TsSlot.offset (x : TsSlot) (j : Nat) : Nat := if x.datagrams = 0 then 0 else j * x.period3 / (3 * x.datagrams)

/-- The slot in transmission at an instant: the newest that has started. -/
def MintChan.slotAt (x : MintChan) (now : Nat) : Option TsSlot := x.slots.find? (fun k => decide (k.start ≤ now))

/-- Whether packet `i` of a slot is a null packet: the tables are the last two (R274). -/
def nullIn : List Nat → List Nat → Nat → Bool
  | r :: rs, u :: us, i => if i < r then decide (u ≤ i) else nullIn rs us (i - r)
  | _, _, _ => false

/-- Null packets among the seven of datagram `j` (R290, R294): beyond the slot's datagrams all are. -/
def TsSlot.nulls (x : TsSlot) (j : Nat) : Nat :=
  if x.datagrams ≤ j then 7 else ((List.range 7).filter (fun k => nullIn x.regions x.used (7 * j + k))).length

/-- Whether datagram `j` is omitted (R290). -/
def TsSlot.omitted (x : TsSlot) (j : Nat) : Bool := x.omits && x.nulls j == 7

end Sys2Proof.Machine
end

