-- ==== Sys2Proof/Machine/Egress.lean ====
section
/-! DEFINITION. Machine/Egress.lean: the egress traffic manager: paced packets, queues, deficit round robin, credit and time gates (R172-R189). -/

namespace Sys2Proof.Machine

open Sys2Proof

/-! Gate lists (R181-R186). -/

/-- One cycle of a list: entries in order, cut at the cycle's end, the last one's states held to it (R182). -/
def cycleSpans (cycle : Nat) : Nat → List (Nat × Nat) → List (Nat × Nat)
  | _, [] => []
  | at_, [(st, _)] => if at_ < cycle then [(st, cycle - at_)] else []
  | at_, (st, n) :: l => if cycle ≤ at_ then [] else if cycle ≤ at_ + n then [(st, cycle - at_)] else (st, n) :: cycleSpans cycle (at_ + n) l

/-- Gate states and lengths of one cycle of a list. -/
def GateList.spans (g : GateList) : List (Nat × Nat) := cycleSpans g.cycle 0 g.entries

/-- The spans from an offset into the cycle on: the rest of the one in effect first. -/
def spansFrom : Nat → List (Nat × Nat) → List (Nat × Nat) × List (Nat × Nat)
  | _, [] => ([], [])
  | off, (st, n) :: l =>
    if off < n then ((st, n - off) :: l, [(st, off)])
    else
      let (a, b) := spansFrom (off - n) l
      (a, (st, n) :: b)

/-- Offset of a clock reading into the cycle. -/
def GateList.offset (g : GateList) (c : Nat) : Nat := if g.cycle = 0 then 0 else (c - g.start) % g.cycle

/-- Gate states at a clock reading from the start on. -/
def GateList.at_ (g : GateList) (c : Nat) : Nat := ((spansFrom (g.offset c) g.spans).1.head?.map (·.1)).getD 127

/-- Entry in effect at a clock reading. -/
def GateList.entry (g : GateList) (c : Nat) : Nat := (spansFrom (g.offset c) g.spans).2.length - 1

/-- Leading time in spans during which a class's gate stays open; `none` when it is open in all of them. -/
def openRun (k : Nat) : List (Nat × Nat) → Option Nat
  | [] => none
  | (st, n) :: l => if st.testBit k then (openRun k l).map (· + n) else some 0

/-- How long a class's gate stays open under a list from a clock reading on; `none` for ever. -/
def GateList.openFor (g : GateList) (k c : Nat) : Option Nat :=
  let (a, b) := spansFrom (g.offset c) g.spans
  openRun k (a ++ b)

/-- The longest window of a class in a list; `none` when its gate never closes (R186). -/
def GateList.longest (g : GateList) (k : Nat) : Option Nat :=
  if g.spans.all (fun x => x.1.testBit k) then none
  else some (((g.spans ++ g.spans).foldl (fun (best, cur) x => if x.1.testBit k then (max best (cur + x.2), cur + x.2) else (best, 0)) (0, 0)).1)

/-- How long a class's gate of a port stays open from now: under the running list and, from its change time, the pending one (R184, R185). -/
def State.gateOpenFor (s : State) (l k : Nat) : Option Nat :=
  let x := s.eport l
  let c := s.clkNanos
  let cur : Option Nat := match x.running with
    | none => if x.gates.testBit k then none else some 0
    | some r =>
      if c < r.start then (if x.gates.testBit k then (r.openFor k r.start).map (· + (r.start - c)) else some 0)
      else r.openFor k c
  match x.pending with
  | none => cur
  | some p =>
    let beyond : Bool := match cur with
      | none => true
      | some d => decide (p.start - c ≤ d)
    if beyond then (p.openFor k p.start).map (· + (p.start - c)) else cur

/-- The gate states in effect follow the running list (R182); those of a step are held until the new change time (R184). -/
def State.refreshGates (s : State) (l : Nat) : State :=
  let s := s.accrue l
  let x := s.eport l
  match x.running with
  | none => (s.setEport l { x with gates := 127 }).wr o3810_CURRENT_ENTRY l 0
  | some r =>
    if s.clkNanos < r.start then s
    else (s.setEport l { x with gates := r.at_ s.clkNanos % 128 }).wr o3810_CURRENT_ENTRY l (r.entry s.clkNanos)

/-- The running list as the objects read it; entries that it does not have read as at reset. -/
def State.noteOper (s : State) (l : Nat) : State :=
  let s := (List.range (s.rdN o3810_OPER_LENGTH l)).foldl (fun s e => (s.wr o3812_OPER_GATE_STATES (l * 256 + e) 255).wr o3812_OPER_INTERVAL_NS (l * 256 + e) 0) s
  match (s.eport l).running with
  | none => (s.wr o3810_OPER_CYCLE_NS l 0).wr o3810_OPER_LENGTH l 0
  | some r =>
    let s := (s.wr o3810_OPER_CYCLE_NS l r.cycle).wr o3810_OPER_LENGTH l r.entries.length
    (r.entries.zipIdx).foldl (fun s e =>
      (s.wr o3812_OPER_GATE_STATES (l * 256 + e.2) (128 + e.1.1 % 128)).wr o3812_OPER_INTERVAL_NS (l * 256 + e.2) e.1.2) s

/-- Two ledger cycles in ns (R183). -/
def gateLead : Nat := 250000

/-- The first whole cycle from a base at least two ledger cycles from `now`, with its number (R183). -/
def changeTime (base cycle now : Nat) : Nat × Nat :=
  let earliest := now + gateLead
  let n := if earliest ≤ base ∨ cycle = 0 then 0 else (earliest - base + cycle - 1) / cycle
  (base + n * cycle, n)

/-- A list accepted now: its change time, with the readings of R183. -/
def State.startList (s : State) (l : Nat) (g : GateList) : GateList × State :=
  let (at_, n) := changeTime g.base g.cycle s.clkNanos
  let s := ((s.wr o3810_CONFIG_CHANGE_S l (at_ / second)).wr o3810_CONFIG_CHANGE_NS l (at_ % second)).wr o3810_START_SHIFTED l (boolVal (decide (0 < n)))
  ({ g with start := at_ }, if 0 < n then (s.bump o3810_SHIFT_COUNT l).raise .EG_GATE_SHIFTED l else s)

/-- The admin list. -/
def State.adminList (s : State) (l : Nat) : GateList :=
  { base := s.rdN o3810_ADMIN_BASE_S l * second + s.rdN o3810_ADMIN_BASE_NS l, cycle := s.rdN o3810_ADMIN_CYCLE_NS l, start := 0,
    entries := (List.range (s.rdN o3810_ADMIN_LENGTH l)).map (fun e => (s.rdN o3811_ADMIN_GATE_STATES (l * 256 + e) % 128, s.rdN o3811_ADMIN_INTERVAL_NS (l * 256 + e))) }

/-- Limits of R181. -/
def GateList.legal (g : GateList) : Bool :=
  decide (1000 ≤ g.cycle ∧ g.cycle ≤ 1000000000) && decide (1 ≤ g.entries.length ∧ g.entries.length ≤ 256) &&
    g.entries.all (fun e => decide (64 ≤ e.2 ∧ e.2 ≤ 1000000000))

/-- ADMIN_GATE_STATES: bit 7 always reads 1, and what is written there is ignored (R181). -/
def writeGateStates : Handler := onInt fun _ r v s => (stOK, s.wr o3811_ADMIN_GATE_STATES r (128 + v % 128))

/-- CONFIG_CHANGE: 'apply' and 'cancel' (R183). -/
def writeConfigChange : Handler := onInt fun _ l v s =>
  if v = CONFIG_CHANGE.apply then
    let g := s.adminList l
    if g.legal = false then (0x0E01, s)
    else if ethMode (s.rd o3000_LANE_MODE l) = false then (0x0E02, s)
    else if s.isOn o3810_GATE_ENABLED l = false then (0x0E03, s)
    else
      let (g, s) := s.startList l g
      (stOK, (s.setEport l { s.eport l with pending := some g }).wr o3810_CONFIG_PENDING l 1)
  else (stOK, (s.setEport l { s.eport l with pending := none }).wr o3810_CONFIG_PENDING l 0)

def execGateApply (t port lane : Nat) (s : State) : Host.Outcome State Fault Refusal :=
  s.run t (fun s => s.opCmd writeConfigChange port o3810_CONFIG_CHANGE lane (.int CONFIG_CHANGE.apply))

def execGateCancel (t port lane : Nat) (s : State) : Host.Outcome State Fault Refusal :=
  s.run t (fun s => s.opCmd writeConfigChange port o3810_CONFIG_CHANGE lane (.int CONFIG_CHANGE.cancel))

/-- GATE_ENABLED: FALSE takes effect at the next 125 µs boundary (R182). -/
def writeGateEnabled : Handler := onInt fun _ l v s => (stOK, (s.wr o3810_GATE_ENABLED l v).setEport l { s.eport l with disableDue := v == 0 })

def execGateEnabled (t port lane : Nat) (on : Bool) (s : State) : Host.Outcome State Fault Refusal :=
  s.run t (fun s => s.opCmd writeGateEnabled port o3810_GATE_ENABLED lane (.int (boolVal on)))

/-- At the boundary a disabled port's lists go and every gate opens (R182). -/
def State.gateDisable (s : State) (l : Nat) : State :=
  let x := s.eport l
  if x.disableDue then
    ((s.accrue l).setEport l { (s.accrue l).eport l with disableDue := false, running := none, pending := none, gates := 127 }).noteOper l
      |>.wr o3810_CONFIG_PENDING l 0 |>.wr o3810_CURRENT_ENTRY l 0
  else s

/-- Every port's disabling at a boundary. -/
def State.gateDisables (s : State) : State := (s.eg.ports.map (·.1)).foldl State.gateDisable s

/-- The change time of a pending list comes: its first cycle begins (R183). EG_GATE_SHIFTED clears at an unshifted one (R189). -/
def State.gateChange (s : State) (l : Nat) : State :=
  let x := s.eport l
  match x.pending with
  | some p =>
    if p.start ≤ s.clkNanos then
      let s := s.accrue l
      let s := ((s.setEport l { s.eport l with running := some p, pending := none }).wr o3810_CONFIG_PENDING l 0).noteOper l
      let s := if s.isOn o3810_START_SHIFTED l then s else s.clear .EG_GATE_SHIFTED l
      s.refreshGates l
    else s.refreshGates l
  | none => (match x.running with
    | some r => if r.start ≤ s.clkNanos ∧ s.isOn o3810_START_SHIFTED l = false then s.clear .EG_GATE_SHIFTED l else s
    | none => s).refreshGates l

def execGateChangeTime (t lane : Nat) (s : State) : Host.Outcome State Fault Refusal := s.run t (fun s => s.gateChange lane)

def execGateEntryChange (t lane : Nat) (s : State) : Host.Outcome State Fault Refusal := s.run t (fun s => s.refreshGates lane)

/-- A step of the clock restarts the running and the pending list of a port as an 'apply' of their own (R184). -/
def State.gateRestart (s : State) (l : Nat) : State :=
  let s := s.accrue l
  let s := match (s.eport l).running with
    | some r =>
      let (r, s) := s.startList l r
      (s.setEport l { s.eport l with running := some r }).bump o3810_GATE_RESTARTS l
    | none => s
  match (s.eport l).pending with
  | some p =>
    let (p, s) := s.startList l p
    (s.setEport l { s.eport l with pending := some p }).bump o3810_GATE_RESTARTS l
  | none => s

/-- Every port's restart. -/
def State.gateRestarts (s : State) : State := (s.eg.ports.map (·.1)).foldl State.gateRestart s

/-! Paced instants (R175-R177). -/

/-- Release offset of packet `k` of a paced ST 2110-20 row from the frame tick, in ns (R176); `p3` is the domain's frame period in thirds of a ns. -/
def pacedFormula (fc p3 tro packets k : Nat) (linear : Bool) : Nat :=
  if packets = 0 ∨ fmtLines fc = 0 then tro
  else
    let act := if linear then fmtLines fc else fmtHeight fc
    let den := 3 * fmtLines fc * packets
    let half := packets / 2
    if fmtInterlaced fc ∧ half ≠ 0 then tro + (k / half) * p3 / 6 + k % half * p3 * act / den
    else tro + k * p3 * act / den

/-- TDRAIN in ps, to the nearest (3820h.03). -/
def drainPs (fc p3 packets : Nat) (linear : Bool) : Nat :=
  if packets = 0 ∨ fmtLines fc = 0 then 0
  else
    let act := if linear then fmtLines fc else fmtHeight fc
    (2 * p3 * 1000 * act + 3 * fmtLines fc * packets) / (6 * fmtLines fc * packets)

/-- Whether the instants of a row come from the formula of R176. -/
def byFormula (r : PlanOutRow) : Bool := r.kind == 0 && r.instants == []

/-- Frame period of a row's domain under the plan that serves it (R24). -/
def State.rowPeriod3 (s : State) (r : PlanOutRow) : Nat := period3 (s.bankRate (s.serving r.dom) r.dom)

/-- Release offset of packet `k` of a paced row from its domain's tick. -/
def State.pacedOffset (s : State) (r : PlanOutRow) (k : Nat) : Nat :=
  if byFormula r then pacedFormula (s.epFormat r.ep) (s.rowPeriod3 r) r.tro r.packets k (r.sender == 1) else r.instants.getD k 0

/-- Offsets of all packets of a row's frame. -/
def State.pacedOffsets (s : State) (r : PlanOutRow) : List Nat :=
  if byFormula r then (List.range r.packets).map (s.pacedOffset r) else r.instants

/-- Paced rows that send on a port. -/
def State.pacedOn (s : State) (l : Nat) : List PlanOutRow :=
  (tdList.map (fun d => (s.planOf d).outRows.filter (fun r => r.dom == d && r.paced && (r.laneP == l || r.laneS == l) && s.isOn o3700_TX_ENABLE r.row))).flatten

/-- Offset in ns from its slot's start of datagram `k` of an encoded stream, also of those that fill a jump frame's extension; beyond the slot's datagrams stand the FEC packets
at the instants that the row's schedule gives (R275, R292, R294). -/
def rowTsOffset (r : PlanOutRow) (x : TsSlot) (jump : Bool) (k : Nat) : Nat := if k < x.datagrams ∨ jump then x.offset k else r.instants.getD (k - x.datagrams) 0

/-- Time in ns from now to the next release instant of a paced row: of its datagrams for an encoded stream, else of its schedule, of the frame in progress or of the one before
whose last packets are due after the tick (R175-R177, R275). -/
def State.rowNext (s : State) (r : PlanOutRow) : Option Nat :=
  if r.kind = 6 then
    match (s.mint (r.ep % 4096)).slotAt s.now with
    | some x =>
      let offs := (List.range (x.datagrams + 1)).map x.offset ++ r.instants
      (offs.filter (fun o => decide (s.now ≤ x.start + o))).foldl (fun best o => some (match best with
        | some b => min b (x.start + o - s.now)
        | none => x.start + o - s.now)) none
    | none => none
  else
    let x := s.td r.dom
    let e := s.now - x.tickAt
    let offs := s.pacedOffsets r
    let back := x.tickAt - x.prevTick
    let late := (offs.find? (fun o => decide (back ≤ o ∧ e + back ≤ o))).map (· - (e + back))
    let here := match offs.find? (fun o => decide (e ≤ o)) with
      | some o => some (o - e)
      | none => offs.head?.map (fun o => periodNs x.rate + o - e)
    match late, here with
    | some a, some b => some (min a b)
    | a, b => a.or b

/-- Time in ns from now to the next paced release instant on a port (R185). -/
def State.nextPaced (s : State) (l : Nat) : Option Nat :=
  (s.pacedOn l).foldl (fun best r =>
    let next := s.rowNext r
    match best, next with
    | some a, some b => some (min a b)
    | none, n => n
    | b, none => b) none

/-! Queues and the transmitter (R174, R178, R179, R185-R187). -/

/-- The guard of R185: the frame's wire time ends before the class's gate closes and before the next paced release. -/
def State.guardOk (s : State) (l c len : Nat) : Bool :=
  let w := s.wireOn l len
  (match s.gateOpenFor l c with
    | some d => decide (w ≤ d * 100)
    | none => true) &&
  (match s.nextPaced l with
    | some d => decide (w ≤ d * 100)
    | none => true)

/-- Whether no window of the running list is long enough for a frame (R186). -/
def State.tooLong (s : State) (l c len : Nat) : Bool :=
  match (s.eport l).running with
  | some r => match r.longest c with
    | some d => decide (d * 100 < s.wireOn l len)
    | none => false
  | none => false

/-- A queue's frames from its first sendable head on: a head that no window of the running list can take is discarded at once (R186), an output row's frame without
custody is not sent and not counted (R428). -/
def State.trim (l c q : Nat) : List EgFrame → State → State
  | [], s => (s.setQueue l c q []).wr o3802_DEFICIT (queueRow l c q) 0
  | f :: rest, s =>
    if s.mute l c q then State.trim l c q rest s
    else if s.guardOk l c f.len = false ∧ s.tooLong l c f.len then
      State.trim l c q rest ((s.bump o3801_TOO_LONG_DISCARDS (classRow l c)).pulse .EG_TOO_LONG l)
    else s.setQueue l c q (f :: rest)

/-- Every queue of a port. -/
def State.trimPort (s : State) (l : Nat) : State := (s.eport l).queues.foldl (fun s e => State.trim l e.1.1 e.1.2 e.2 s) s

/-- The queue after `q` among those waiting, in rising order and round again. -/
def nextQueue (qs : List Nat) (q : Nat) : Nat := ((qs.find? (fun x => decide (q < x))).orElse (fun _ => qs.head?)).getD 0

/-- Deficit round robin of a class (R178): the queue whose head frame is offered. `failed`: queues whose head has failed the guard in this choice; when that is every
waiting queue, nothing is offered. -/
def State.drr (l c : Nat) : Nat → List Nat → State → Option Nat × State
  | 0, _, s => (none, s)
  | n + 1, failed, s =>
    let qs := s.waitingQueues l c
    if qs.all failed.contains then (none, s)
    else
      let (q, had) := (storeGet c (s.eport l).visit).getD (qs.headD 0, false)
      let go := fun (s : State) (q : Nat) (had : Bool) => s.setEport l { s.eport l with visit := storePut natLt c (q, had) (s.eport l).visit }
      match s.queue l c q with
      | [] => State.drr l c n failed (go (s.wr o3802_DEFICIT (queueRow l c q) 0) (nextQueue qs q) false)
      | f :: rest =>
        let row := queueRow l c q
        let s := if had then s else s.addTo o3802_DEFICIT row (s.rdN o3802_QUANTUM row)
        if f.len ≤ s.rdN o3802_DEFICIT row then
          if s.guardOk l c f.len then (some q, go s q true)
          else
            let s := if f.held then s else (s.setQueue l c q ({ f with held := true } :: rest)).bump o3801_HELD_FRAMES (classRow l c)
            State.drr l c n (q :: failed) (go s (nextQueue qs q) false)
        else State.drr l c n failed (go s (nextQueue qs q) false)

/-- Visits that are enough for some queue's deficit to reach the longest frame of 9,238 bytes at the least quantum of 64. -/
def drrVisits (queues : Nat) : Nat := queues * 148 + 2

/-- What reaches the wire: while the receive side of the lane is not 'up', its transmitter sends Remote Fault in place of frames (R113). -/
def State.toWire (s : State) (l : Nat) (f : State → State) : State := if s.laneState l = LANE_STATE.up then f s else s

/-- What the headers of an output row's packet hold on a lane: that of the second leg, or of the first (R167). The source address is the lane's own, of the version of the
destination's. The payload type of an encoded stream is 33 (R291). -/
def State.txHead (s : State) (row l : Nat) : TxHead :=
  let second := (s.outRow row).any (fun r => r.laneS == l && r.laneP != l)
  let dst := s.rdOct (if second then o3700_TX_DEST_ADDR_S else o3700_TX_DEST_ADDR_P) row
  { src := if isV4 dst then zeros 10 ++ [0xFF#8, 0xFF#8] ++ s.rdOct o3500_IPV4_ADDR l else s.rdOct o3500_IPV6_ADDR l
    dst := dst
    sport := s.rdN (if second then o3700_TX_SRC_PORT_S else o3700_TX_SRC_PORT_P) row
    dport := s.rdN (if second then o3700_TX_DEST_PORT_S else o3700_TX_DEST_PORT_P) row
    pt := if (s.outRow row).any (fun r => r.kind == 6) then 33 else s.rdN o3700_TX_PAYLOAD_TYPE row
    ssrc := s.rdN o3700_SSRC row
    dscp := s.rdN o3700_DSCP row
    ttl := s.rdN o3700_TTL row }

/-- A frame reaches the wire: a Delay_Req is stamped into PTQ1 (R104), and what the frame carries leaves; of an output row's frame its packet, with the headers that the row's
objects and the lane give (R167). -/
def State.carried (s : State) (l : Nat) (f : EgFrame) : State :=
  let s := match f.req with
    | some p =>
      let e := s.stampEntry l f.seq 1 true (-(s.rd o2303_ASYMMETRY_NS p))
      let (kept, s) := s.pushStamp 1 e
      s.setPtpPort p { s.ptpPort p with req := if kept then some ⟨f.seq, e.ns, e.stepGen⟩ else none }
    | none => s
  let s := match f.media with
    | some (row, seq, ts) => s.emit (.media l row seq ts (s.txHead row l))
    | none => s
  f.carries.foldl State.emit s

/-- A transmit stamp: written back to a descriptor (R103), or queued in PTQ3 (R104). -/
def State.txStamped (s : State) (l seq kind : Nat) : State :=
  if kind = 1 then s.emit (.txStamp l seq (s.clkSec % 4294967296 * 4294967296 + s.clkNs))
  else if kind = 2 then (s.pushStamp 3 (s.stampEntry l seq 15 true 0)).2
  else s

/-- Counters of an output row for a packet sent (3720h). -/
def State.countTx (s : State) (row payload : Nat) : State := (s.bump o3720_TX_PACKETS row).addTo o3720_TX_BYTES row payload

/-- Whether a shaped row's packet on a lane counts for the row (3720h counts per leg): on its first lane, or on its second while the first cannot send. -/
def State.countsLeg (s : State) (row l : Nat) : Bool := (s.outRow row).all (fun r => r.laneP == l || s.portBlocked r.laneP)

/-- Send the head frame of a queue (R174, R178, R180). -/
def State.sendHead (s : State) (l c q : Nat) : State :=
  match s.queue l c q with
  | [] => s
  | f :: rest =>
    let row := queueRow l c q
    let s := s.wr o3802_DEFICIT row (if rest = [] then 0 else s.rd o3802_DEFICIT row - f.len)
    let s := (s.setQueue l c q rest).charge l c f.len
    let s := s.setEport l { s.eport l with wire := s.now * 100 + s.wireOn l f.len }
    let s := (s.bump o3801_CLASS_FRAMES (classRow l c)).addTo o3801_CLASS_BYTES (classRow l c) (wireBytes f.len)
    let s := match f.media with
      | some (src, _, _) => if s.countsLeg src l then (if f.marker then (s.countTx src f.payload).bump o3720_TX_FRAMES src else s.countTx src f.payload) else s
      | none => s
    s.toWire l (fun s => ((s.txStamped l f.seq f.stamp).emit (.frame l c q f.len)).carried l f)

/-- The classes in the order of R174: the first eligible one sends. -/
def State.choose (s : State) (l : Nat) : List Nat → State
  | [] => s
  | c :: cs =>
    if (s.eport l).gates.testBit c ∧ 0 ≤ s.creditOf l c ∧ s.waitingQueues l c ≠ [] then
      match State.drr l c (drrVisits (s.waitingQueues l c).length) [] s with
      | (some q, s) => s.sendHead l c q
      | (none, s) => s.choose l cs
    else s.choose l cs

/-- The transmitter chooses a frame when the wire is idle (R174). -/
def State.txSelect (s : State) (l : Nat) : State :=
  if s.portState l = EG_PORT_STATE.off then s
  else if s.portBlocked l then s.flushPort l
  else
    let s := (s.refreshGates l).trimPort l
    if s.now * 100 < (s.eport l).wire then s else s.choose l [6, 5, 4, 3, 2, 1, 0]

def execTxSelect (t lane : Nat) (s : State) : Host.Outcome State Fault Refusal := s.run t (fun s => s.txSelect lane)

/-- Header bytes of a packet of a kind between RTP and payload; PRESUMED from the packet formats of the standards, ST 2110-20's as in the manual's example. -/
def kindHeader (k : Nat) : Nat := if k = 0 ∨ k = 4 ∨ k = 5 then 8 else if k = 1 then 4 else 0

/-- Frame length of a paced packet (R149, R167). -/
def State.pacedLength (s : State) (r : PlanOutRow) (second : Bool) : Nat :=
  let l := if second then r.laneS else r.laneP
  let dst := s.rdOct (if second then o3700_TX_DEST_ADDR_S else o3700_TX_DEST_ADDR_P) r.row
  r.layout % 32768 + kindHeader r.kind + 12 + 8 + (if isV4 dst then 20 else 40) + 18 + (if s.rd o3500_VLAN_ID l = 0 then 0 else 4)

/-- Whether an audio destination channel is a 96 kHz one (R158, R214). -/
def State.dstRate96 (s : State) (ch : Nat) : Bool := s.rd o4101_AUD_DEST_RATE ch == AUD_DEST_RATE.m96k

/-- RTP timestamp of a packet of an output row, paced or shaped: the clock at the tick that begins its frame, at the tick of its first sample, or at the release of a datagram of a transport stream
(R158, R291). -/
def State.pacedStamp (s : State) (r : PlanOutRow) : Nat :=
  if r.kind = 6 then s.rtpStamp r.row r.kind false s.clkNanos
  else if audioKind (r.kind : Int) then s.rtpStamp r.row r.kind (s.dstRate96 r.ep) (s.clkNanos - (s.now - s.cadenceAt) % 125000 - 125000 * r.cycles)
  else s.rtpStamp r.row r.kind false ((s.td r.dom).tickClk)

/-- One leg of a paced packet: sent at its instant whatever else the port carries, or discarded on a port that cannot send (R174, R187). -/
def State.pacedLeg (s : State) (r : PlanOutRow) (second null : Bool) (seq stamp : Nat) : State :=
  let l := if second then r.laneS else r.laneP
  if l = noLane then s
  else if s.portBlocked l then s.txDiscard l
  else
    let len := s.pacedLength r second
    let s := (s.accrue l).setEport l { (s.accrue l).eport l with wire := s.now * 100 + s.wireOn l len }
    let s := (s.bump o3801_CLASS_FRAMES (classRow l 7)).addTo o3801_CLASS_BYTES (classRow l 7) (wireBytes len)
    s.toWire l (fun s => (s.txStamped l seq stamp).emit (.paced l r.row seq (s.pacedStamp r) null (s.txHead r.row l)))

/-- The next sequence number of an output row. -/
def State.nextTxSeq (s : State) (r : PlanOutRow) : Nat × State :=
  let seq := (storeGet r.row s.med.txSeq).getD 0
  (seq, { s with med := { s.med with txSeq := storePut natLt r.row ((seq + 1) % seqModulus r.kind) s.med.txSeq } })

/-- A shaped frame arrives at its queue (R179). That of an output row is a packet of the row, with its sequence number and timestamp, and an identical packet goes to the same queue
of the row's second lane; the second lane's packets come with the first's (R158, R167, R168; log entry 157). -/
def State.arrives (s : State) (l c q : Nat) (f : EgFrame) : State :=
  match s.outRow (s.rdN o3802_QUEUE_SOURCE (queueRow l c q)) with
  | none => s.enqueue l c q f
  | some r =>
    if s.isOn o3700_TX_ENABLE r.row = false ∨ s.mute l c q ∨ r.laneP ≠ l then s
    else
      let (seq, s) := s.nextTxSeq r
      let f := { f with media := some (r.row, seq, s.pacedStamp r) }
      let s := s.enqueue l c q f
      if r.laneS = noLane then s else s.enqueue r.laneS c q { f with len := f.len + s.pacedLength r true - s.pacedLength r false }

def execEgressEnqueue (t lane cls queue len : Nat) (payload : TxPayload) (seq stamp : Nat) (s : State) : Host.Outcome State Fault Refusal :=
  s.run t (fun s => s.arrives lane cls queue { len := len, payload := payload.bytes, seq := seq, stamp := stamp, marker := payload.marker })

/-- Whether a row's packet leaves on some leg. -/
def State.rowSends (s : State) (r : PlanOutRow) : Bool := !(s.portBlocked r.laneP) || (r.laneS != noLane && !(s.portBlocked r.laneS))

/-- One packet of a row on both legs, with its counters. -/
def State.sendPaced (s : State) (r : PlanOutRow) (null : Bool) (stamp : Nat) (last : Bool) : State :=
  let (seq, s) := s.nextTxSeq r
  let s := (s.pacedLeg r false null seq stamp).pacedLeg r true null seq stamp
  let sends := s.rowSends r
  let s := if sends then s.countTx r.row (r.layout % 32768) else s
  if sends ∧ last then s.bump o3720_TX_FRAMES r.row else s

/-- The headers of a FEC packet: column FEC goes to the leg's destination port plus 2, row FEC to that port plus 4, with payload type TX_PAYLOAD_TYPE (R292). -/
def State.fecHead (s : State) (row l : Nat) (column : Bool) : TxHead :=
  let h := s.txHead row l
  { h with dport := h.dport + (if column then 2 else 4), pt := s.rdN o3700_TX_PAYLOAD_TYPE row }

/-- A FEC packet on a leg (R292). -/
def State.fecLeg (s : State) (r : PlanOutRow) (second : Bool) (place : Nat) : State :=
  let l := if second then r.laneS else r.laneP
  if l = noLane then s
  else if s.portBlocked l then s.txDiscard l
  else
    let len := s.pacedLength r second + 16
    let s := (s.accrue l).setEport l { (s.accrue l).eport l with wire := s.now * 100 + s.wireOn l len }
    ((s.bump o3801_CLASS_FRAMES (classRow l 7)).addTo o3801_CLASS_BYTES (classRow l 7) (wireBytes len)).toWire l (fun s =>
      s.emit (.fec l r.row place (!r.fecRows.contains place) (s.fecHead r.row l (!r.fecRows.contains place))))

/-- A datagram of an encoded stream (R275, R290-R294): sent at its instant, omitted when all its packets are null and the slot omits such, a null packet in the place of
one that is not ready (R58 kind 11, R293) or is poisoned (R369). Beyond the slot's datagrams come those of a jump frame's extension, else FEC packets. -/
def State.tsRelease (s : State) (r : PlanOutRow) (k : Nat) (ready poisoned : Bool) (stamp : Nat) : State :=
  let ch := r.ep % 4096
  match (s.mint ch).slotAt s.now with
  | none => s
  | some x =>
    if s.now < x.start + rowTsOffset r x (s.td r.dom).inJump k then s
    else if x.datagrams ≤ k ∧ (s.td r.dom).inJump = false then
      let s := (s.fecLeg r false (k - x.datagrams)).fecLeg r true (k - x.datagrams)
      if s.rowSends r then s.countTx r.row 1316 else s
    else if x.omitted k then s.bump o5101_DATAGRAMS_OMITTED ch
    else
      let s := if poisoned then s.bump o5101_NULL_REPLACED ch else if ready then s
        else ((((s.overdraft 11 r.dom (missSubsys 11)).bump o3820_NULL_PACKETS r.row).bump o5101_NULL_REPLACED ch).raiseQuiet .ENC_PACKET_REPLACED ch)
      let s := (s.addTo o5101_TS_PACKETS_SENT ch 7).addTo o5101_NULL_STUFFED ch (x.nulls k)
      let s := if k = 0 ∧ ready ∧ poisoned = false ∧ s.rowSends r then s.emit (.slotStart ch x.clock x.counters) else s
      let s := if k + 1 = x.datagrams ∧ ready ∧ poisoned = false ∧ s.rowSends r then s.emit (.tables ch x.tables) else s
      s.sendPaced r (poisoned || !ready) stamp (k + 1 == x.datagrams)

/-- A packet that is poisoned is not sent; its release instant stays empty (R369). -/
def State.discardPaced (s : State) (r : PlanOutRow) : State :=
  let (_, s) := s.nextTxSeq r
  let s := s.txDiscard r.laneP
  if r.laneS = noLane then s else s.txDiscard r.laneS

/-- Whether the release instant of a packet of the frame in progress has come, or that of the frame before, after whose tick it falls (R176). -/
def State.packetDue (s : State) (r : PlanOutRow) (k : Nat) : Bool :=
  let x := s.td r.dom
  let o := s.pacedOffset r k
  decide (x.tickAt + o ≤ s.now) || decide (x.tickAt - x.prevTick ≤ o ∧ x.prevTick + o ≤ s.now)

/-- A paced packet's release instant (R175-R177, R187, R369). -/
def State.pacedRelease (s : State) (row k : Nat) (ready poisoned : Bool) (stamp : Nat) : State :=
  match s.outRow row with
  | none => s
  | some r =>
    if r.paced = false ∨ s.isOn o3700_TX_ENABLE row = false ∨ s.isOn o1601_CUSTODY_HELD 0 = false then s
    else if r.kind = 6 then s.tsRelease r k ready poisoned stamp
    else if s.packetDue r k = false then s
    else if poisoned then s.discardPaced r
    else s.sendPaced r false stamp (k + 1 == r.packets)



def execLaneFaultRx (t lane : Nat) (on : Bool) (s : State) : Host.Outcome State Fault Refusal := s.run t (fun s => (s.faultRx lane on).flushPort lane)

/-! The changeover of a domain. -/

/-- Planned readings of a row (3820h). -/
def State.noteEgRow (s : State) (f : Nat) : State :=
  match s.outRow f with
  | some r =>
    let fc := s.epFormat r.ep
    (((((s.wr o3820_PACED f (boolVal r.paced)).wr o3820_TRO_NS f r.tro).wr o3820_TDRAIN_PS f (if r.kind = 0 ∧ r.paced then drainPs fc (s.rowPeriod3 r) r.packets (r.sender == 1) else 0)).wr
      o3820_PACKETS_PER_FRAME f r.packets).wr o3820_EG_CLASS f r.cls).wr o3820_EG_QUEUE f r.queue
  | none => (((((s.wr o3820_PACED f 0).wr o3820_TRO_NS f 0).wr o3820_TDRAIN_PS f 0).wr o3820_PACKETS_PER_FRAME f 0).wr o3820_EG_CLASS f 0).wr o3820_EG_QUEUE f 0

/-- Plans in force in any domain. -/
def State.plansInForce (s : State) : List Plan := (((tdList.filterMap s.serving).eraseDups).map (fun b => (s.bank b).plan))

/-- Output rows in force, each under the plan that serves its domain. -/
def State.rowsInForce (s : State) : List PlanOutRow := (tdList.map (fun d => (s.planOf d).outRows.filter (fun r => r.dom == d))).flatten

/-- Planned readings of the ports: classes, queues, paced rows (R173, R175, R178, R180). Credit has grown at the old rates up to now. -/
def State.notePorts (s : State) : State :=
  let s := (s.eg.ports.map (·.1)).foldl State.accrue s
  let old := s.listed' o3801_CLASS_MODE
  let s := old.foldl (fun s r => ((s.wr o3801_CLASS_MODE r CLASS_MODE.unused).wr o3801_CLASS_RATE_KBPS r 0).wr o3801_BURST_CEILING r 0) s
  let s := (s.listed' o3802_QUEUE_LIMIT).foldl (fun s r => (s.wr o3802_QUEUE_LIMIT r 0).wr o3802_QUEUE_SOURCE r 65535) s
  let s := (s.listed' o3800_PACED_ROWS).foldl (fun s r => s.wr o3800_PACED_ROWS r 0) s
  let s := s.noteFirmwareClasses
  let s := s.plansInForce.foldl (fun s p =>
    let s := p.classes.foldl (fun s c => ((s.wr o3801_CLASS_MODE (classRow c.lane c.cls) (if c.cls = 6 then CLASS_MODE.firmware else CLASS_MODE.shaped)).wr
      o3801_CLASS_RATE_KBPS (classRow c.lane c.cls) c.rate).wr o3801_BURST_CEILING (classRow c.lane c.cls) c.ceiling) s
    p.queues.foldl (fun s q => (s.wr o3802_QUEUE_LIMIT (queueRow q.lane q.cls q.queue) q.limit).wr o3802_QUEUE_SOURCE (queueRow q.lane q.cls q.queue) q.source) s) s
  (s.rowsInForce.filter (·.paced)).foldl (fun s r => [r.laneP, r.laneS].foldl (fun s l =>
    if l = noLane then s else (s.bump o3800_PACED_ROWS l).wr o3801_CLASS_MODE (classRow l 7) CLASS_MODE.paced) s) s

/-- What the changeover of a domain does to egress. -/
def State.egressChangeover (s : State) : State := (s.outRowsSeen.foldl State.noteEgRow s).notePorts

end Sys2Proof.Machine
end

