-- ==== Sys2Proof/Machine/ClockStep.lean ====
section
/-! DEFINITION. Machine/ClockStep.lean: steps of the time clock, which restart the time gates, and the servo that may step it (R95, R98, R99, R109, R184). -/

namespace Sys2Proof.Machine

open Sys2Proof

/-- The clock steps by a signed number of nanoseconds, its fraction unchanged (R95), which is a phase step of PTP0 (R108); every gate list restarts (R184). -/
def State.clockStep (s : State) (n : Int) : State :=
  let s := { s with clk := (((s.clk : Int) + n * 4294967296) % (clkModulus : Int)).toNat, ptp := { s.ptp with clkFrom := s.ptp.clkFrom + n * 4294967296 } }
  let s := (tdList.filter (fun d => s.selected d == 4)).foldl (fun s d => s.refStep d n) s
  ((s.bump o2301_STEP_COUNT 0).pulse .PTP_TIME_STEP noInst).gateRestarts

/-- TIME_ADJUST_NS is the host's only while SERVO_OWNER, as the last exchange took it, is 'host' (R99). -/
def writeTimeAdjust : Handler := onInt fun _ _ v s =>
  if s.ptp.owner = SERVO_OWNER.firmware then (stBUSY, s) else (stOK, s.clockStep v)

def execTimeAdjustNs (t port : Nat) (v : Int) (s : State) : Host.Outcome State Fault Refusal :=
  s.run t (fun s => s.opCmd writeTimeAdjust port o2301_TIME_ADJUST_NS 0 (.int v))

/-- A completed exchange: SERVO_OWNER as it stands takes effect, the port notes its path delay; on the 'slave' port, with its leader, the offset, the servo and the states of R98
(R97-R99). In 'acquiring' the firmware's servo steps the clock first when the offset is beyond the threshold. -/
def State.delayResp (s : State) (p seq leader : Nat) (rx : Int) : State :=
  match s.exchange p seq leader rx with
  | none => s
  | some (off, delay) =>
    let s := s.setPtpPort p { s.ptpPort p with req := none, delay := some delay }
    let s := { s with ptp := { s.ptp with owner := s.rd o2301_SERVO_OWNER 0 } }
    if s.rd o2303_PORT_STATE p = PORT_STATE.slave ∧ s.ptp.leader = some (p, leader) then
      let s := (s.wr o2301_OFFSET_NS 0 off).wr o2301_MEAN_PATH_DELAY_NS 0 delay
      let s := if s.ptp.owner = SERVO_OWNER.firmware then
          (if s.rd o2301_CLOCK_STATE 0 = CLOCK_STATE.acquiring ∧ s.rdN o2301_STEP_THRESHOLD_NS 0 < absInt off then s.clockStep (-off) else s).servo
        else s
      s.exchangeState off
    else s

def execPtpDelayResp (t p seq leader : Nat) (rx : Int) (s : State) : Host.Outcome State Fault Refusal := s.run t (fun s => s.heardOn (s.rdN o2303_PTP_LANE p) (fun s => s.delayResp p seq leader rx))

end Sys2Proof.Machine
end

