-- ==== Sys2Proof/Machine/TaskTable.lean ====
section
/-! DEFINITION. Machine/TaskTable.lean: the teller task table: rows and handles, creation, rounds, lateness, cancels (R225-R241). What a task does at dispatch is in
Machine/Tellers.lean. -/

namespace Sys2Proof.Machine

open Sys2Proof

/-- Rows of the task table (R225). -/
def taskRows : Nat := 4096

/-- Set a task. -/
def State.setTask (s : State) (r : Nat) (x : Task) : State := { s with tlr := { s.tlr with tasks := storePut natLt r x s.tlr.tasks } }

/-- State of a row (R241). -/
def State.taskState (s : State) (r : Nat) : Int := s.rd o4202_TASK_STATE r

/-- Rows in a state. -/
def State.tasksIn (s : State) (st : Int) : List (Nat × Task) := s.tlr.tasks.filter (fun e => s.taskState e.1 == st)

/-- Rows in 'waiting', 'ready' or 'dispatched'. -/
def State.tasksInUse (s : State) : List (Nat × Task) :=
  s.tlr.tasks.filter (fun e => s.taskState e.1 == TASK_STATE.waiting || s.taskState e.1 == TASK_STATE.ready || s.taskState e.1 == TASK_STATE.dispatched)

/-- Worker classes: 0 'fabric', 1 'encoder', 2 'compositor', 3 'dictionary', 4 'notify' (R226, R242). -/
def classList : List Nat := [0, 1, 2, 3, 4]

/-- Workers of a class. -/
def classWorkers (c : Nat) : Nat := [2, 2, 4, 1, 1].getD c 0

/-- The object of a TARGET and its row: bits 23:0 are index x 256 + sub-index, the row stands in bits 31:24 (R227, log entry 22). -/
def targetObj (t : Nat) : Nat := t % 16777216
def targetRow (t : Nat) : Nat := t / 16777216

/-- Worker class and service time in ns of a task (R226). -/
def Task.cls (x : Task) : Nat :=
  if x.kind = TASK_KIND_READ.write then
    (let i := targetObj x.target / 256
     if 0x5000 ≤ i ∧ i ≤ 0x51FF then 1 else if 0x6000 ≤ i ∧ i ≤ 0x61FF then 2 else 3)
  else if x.kind = TASK_KIND_READ.notify then 4 else 0

def Task.service (x : Task) : Nat :=
  if x.kind = TASK_KIND_READ.route then 2000 else if x.kind = TASK_KIND_READ.salvo then 40000 else if x.kind = TASK_KIND_READ.salvo_anchor then 4000
  else if x.kind = TASK_KIND_READ.write then 10000 else 5000

/-- The counts of 4200h and 4203h, and TLR_TABLE_FULL (R242, R243). -/
def State.noteTasks (s : State) : State :=
  let w := (s.tasksIn TASK_STATE.waiting).length
  let r := s.tasksIn TASK_STATE.ready
  let d := s.tasksIn TASK_STATE.dispatched
  let n := w + r.length + d.length
  let s := (((s.wr o4200_TASKS_IN_USE 0 n).wr o4200_TASKS_WAITING 0 w).wr o4200_TASKS_READY 0 r.length).wr o4200_TASKS_DISPATCHED 0 d.length
  let s := classList.foldl (fun s c =>
    (s.wr o4203_READY_DEPTH c ((r.filter (fun e => e.2.cls == c)).length)).wr o4203_WORKERS_BLOCKED c (classWorkers c - (d.filter (fun e => e.2.cls == c)).length)) s
  if n < 3840 then s.clear .TLR_TABLE_FULL noInst else s

/-- The row that the next creation takes: one that has never been used, else the one that entered its final state earliest (R231). -/
def State.freeRow (s : State) : Option Nat :=
  if s.tlr.tasks.length < taskRows then (List.range taskRows).find? (fun r => (storeGet r s.tlr.tasks).isNone)
  else
    let final := s.tlr.tasks.filter (fun e => decide (TASK_STATE.done ≤ s.taskState e.1))
    (final.foldl (fun best e => match best with
      | none => some (e.1, e.2.ended)
      | some b => if e.2.ended < b.2 then some (e.1, e.2.ended) else some b) none).map (·.1)

/-- The generation of a row: it advances each time the row is taken (R225). -/
def State.nextHandle (s : State) (r : Nat) : Nat := (s.rdN o4202_TASK_HANDLE r / 4096 + 1) % 1048576 * 4096 + r

/-- Take a row for a task, or refuse with BUSY (R230, R231). Answers the code and the row. -/
def State.takeRow (s : State) (x : Task) : Nat × Nat × State :=
  match s.freeRow with
  | none => (stBUSY, 0, (s.bump o4200_BUSY_REFUSALS 0).raise .TLR_TABLE_FULL noInst)
  | some r =>
    let h := s.nextHandle r
    let s := { s with tlr := { s.tlr with created := s.tlr.created + 1 } }
    let s := s.setTask r { x with order := s.tlr.created, fresh := true }
    let s := ((s.wr o4202_TASK_STATE r TASK_STATE.waiting).wr o4202_TASK_HANDLE r h).wr o4202_TASK_KIND_READ r x.kind
    let s := (((s.wr o4202_TASK_KEY_TYPE r (if x.byTime then TASK_KEY_TYPE.time else TASK_KEY_TYPE.frame)).wr o4202_TASK_KEY_TD r x.td).wr o4202_TASK_KEY_FCNT r x.fcnt).wr
      o4202_TASK_KEY_CYCLE r x.cycle
    let s := (((s.wr o4202_TASK_KEY_TIME_S r (x.timeNs / second)).wr o4202_TASK_KEY_TIME_NS r (x.timeNs % second)).wr o4202_TASK_PRIORITY r x.prio).wr o4202_OWNER_PORT r x.port
    let s := [o4202_CANCEL_REQUESTED, o4202_DISPATCH_S, o4202_DISPATCH_NS, o4202_LATE, o4202_LATE_FRAMES, o4202_LATENESS_NS, o4202_OUTCOME, o4202_END_REASON].foldl
      (fun s o => s.wr o r 0) s
    (stOK, r, s.noteTasks)

/-! Keys (R228, R229). -/

/-- Grid of the time rounds in ns. -/
def timeGrid : Nat := 125000

/-- The time-grid instant at or after a time. -/
def gridAt (ns : Nat) : Nat := (ns + timeGrid - 1) / timeGrid * timeGrid

/-- The due cycle of a frame key in a domain: the last cycle when the frame has no such cycle (R229). -/
def State.dueCycle (s : State) (x : Task) : Nat := min x.cycle (frameCycles (s.td x.td).rate - 1)

/-- Whether a task's due instant has come. -/
def State.taskDue (s : State) (x : Task) : Bool :=
  if x.byTime then decide (gridAt x.timeNs ≤ s.clkNanos)
  else decide (x.fcnt < s.fcnt x.td) || (x.fcnt == s.fcnt x.td && decide (s.dueCycle x ≤ (s.td x.td).cycle))

/-- Whether its due instant is that of the round now running: a cycle start of its domain, or a time-grid instant. -/
def State.taskOnTime (s : State) (x : Task) : Bool :=
  if x.byTime then decide (s.clkNanos < gridAt x.timeNs + timeGrid) else x.fcnt == s.fcnt x.td && s.dueCycle x == (s.td x.td).cycle

/-- The instant at which a task fell due, on the count of OSC_IN. -/
def State.dueInstant (s : State) (x : Task) : Int :=
  if x.byTime then (s.now : Int) - ((s.clkNanos : Int) - gridAt x.timeNs)
  else ((s.td x.td).tickAt : Int) - ((s.fcnt x.td : Int) - x.fcnt) * periodNs (s.td x.td).rate + s.dueCycle x * 125000

/-! Ends of a task. -/

/-- A task enters a final state (R231, R241). -/
def State.endTask (s : State) (r : Nat) (st reason : Int) : State :=
  match storeGet r s.tlr.tasks with
  | none => s
  | some x =>
    let s := { s with tlr := { s.tlr with finals := s.tlr.finals + 1 } }
    (((s.setTask r { x with ended := s.tlr.finals }).wr o4202_TASK_STATE r st).wr o4202_END_REASON r reason).noteTasks

/-- LATE_FRAMES of a frame key, LATENESS_NS of a time key, at the late instant (R238). -/
def State.noteLateness (s : State) (r : Nat) (x : Task) : State :=
  if x.byTime then s.wr o4202_LATENESS_NS r (s.clkNanos - gridAt x.timeNs) else s.wr o4202_LATE_FRAMES r (s.fcnt x.td - x.fcnt)

/-- A task that would be dispatched late: it ends 'expired' with 'discard', and is marked with 'dispatch' (R238). -/
def State.taskLate (s : State) (r : Nat) (x : Task) : State :=
  if x.discard then (((s.noteLateness r x).bump o4200_EXPIRED 0).raiseQuiet .TLR_LATE noInst).endTask r TASK_STATE.expired END_REASON.expired
  else s.setTask r { x with late := true, fresh := false }

/-! Rounds (R233). -/

/-- Whether a task's round is one of this kind: the time round, or a round of domain `d`. -/
def Task.ofRound (x : Task) (d : Option Nat) : Bool :=
  match d with
  | none => x.byTime
  | some d => !x.byTime && x.td == d

/-- Insert a row with its cancel among rows in the order in which their cancels were accepted. -/
def byCancel (e : Nat × Task) : List (Nat × Task) → List (Nat × Task)
  | [] => [e]
  | f :: l => if e.2.cancelled < f.2.cancelled then e :: f :: l else f :: byCancel e l

/-- First step of a round: the cancels accepted since the last one, in the order of their acceptance (R233, R240). -/
def State.applyCancels (s : State) : State :=
  ((s.tlr.tasks.filter (fun e => s.isOn o4202_CANCEL_REQUESTED e.1 && (s.taskState e.1 == TASK_STATE.waiting || s.taskState e.1 == TASK_STATE.ready))).foldr byCancel []).foldl
    (fun s e => (s.bump o4200_CANCELLED_BEFORE_DISPATCH 0).endTask e.1 TASK_STATE.cancelled END_REASON.cancelled_before_dispatch) s

/-- A waiting task in a round: due tasks of the round's kind, and tasks created since the last round whose due instant has passed, go to their ready list (R233). One that
another kind of round finds due has been created after its due instant, unless this is that instant. -/
def State.moveTask (s : State) (d : Option Nat) (r : Nat) (x : Task) : State :=
  let s := s.setTask r { x with fresh := false }
  if s.taskDue x ∧ (x.ofRound d ∨ x.fresh) then
    let x := { x with fresh := false, dueAt := s.dueInstant x }
    let ontime := (x.ofRound d || x.dueAt == (s.now : Int)) && s.taskOnTime x
    let s := (s.setTask r x).wr o4202_TASK_STATE r TASK_STATE.ready
    if ontime then s else s.taskLate r x
  else s

/-- A ready task that a round of its own kind after its due instant finds still there is late (R238). -/
def State.overtake (s : State) (d : Option Nat) (r : Nat) (x : Task) : State := if x.ofRound d ∧ x.late = false ∧ x.dueAt < s.now then s.taskLate r x else s

/-- One round: cancels, then tasks that are ready and late, then tasks that fall due (R233, R238, R240). -/
def State.tellerRound (s : State) (d : Option Nat) : State :=
  let s := s.applyCancels
  let s := (s.tasksIn TASK_STATE.ready).foldl (fun s e => s.overtake d e.1 e.2) s
  let s := (s.tasksIn TASK_STATE.waiting).foldl (fun s e => s.moveTask d e.1 e.2) s
  s.noteTasks

/-- The order of a ready list: priority, due instant, creation (R234). -/
def taskBefore (a b : Task) : Bool :=
  decide (a.prio < b.prio) || (a.prio == b.prio && (decide (a.dueAt < b.dueAt) || (a.dueAt == b.dueAt && decide (a.order < b.order))))

/-- The head of a class's ready list. -/
def State.readyHead (s : State) (c : Nat) : Option (Nat × Task) :=
  ((s.tasksIn TASK_STATE.ready).filter (fun e => e.2.cls == c)).foldl (fun best e => match best with
    | none => some e
    | some b => if taskBefore e.2 b.2 then some e else some b) none

/-- Whether a worker of a class is free. -/
def State.workerFree (s : State) (c : Nat) : Bool := decide (((s.tasksIn TASK_STATE.dispatched).filter (fun e => e.2.cls == c)).length < classWorkers c)

/-- A task goes to a worker (R235): dispatch instant and, for a late task, LATE and its lateness (R238). -/
def State.dispatched (s : State) (r : Nat) (x : Task) : State :=
  let s := (s.setTask r { x with dispatchedAt := s.now }).wr o4202_TASK_STATE r TASK_STATE.dispatched
  let s := ((s.wr o4202_DISPATCH_S r s.clkSec).wr o4202_DISPATCH_NS r s.clkNs).bump o4200_DISPATCHES 0
  let s := s.bump o4203_CLASS_DISPATCHES x.cls
  let s := if x.late then (((s.wr o4202_LATE r 1).noteLateness r x).bump o4200_LATE_DISPATCHES 0).raiseQuiet .TLR_LATE noInst else s
  s.noteTasks

/-- The worker of a task reports its result once the service time has passed (R226, R235). -/
def State.taskComplete (s : State) (r : Nat) : State :=
  match storeGet r s.tlr.tasks with
  | none => s
  | some x =>
    if s.taskState r = TASK_STATE.dispatched ∧ x.dispatchedAt + x.service ≤ s.now then
      let s := s.wr o4202_OUTCOME r x.result
      if x.result = 0 then s.endTask r TASK_STATE.done END_REASON.completed else s.endTask r TASK_STATE.failed END_REASON.refused_by_worker
    else s

end Sys2Proof.Machine
end

