-- ==== Sys2Proof/Machine/Fabric.lean ====
section
/-! DEFINITION. Machine/Fabric.lean: the clearing fabric: routes, the latch instant, salvos and the audio crosspoint (R190-R224). -/

namespace Sys2Proof.Machine

open Sys2Proof

/-! Destinations. -/

/-- A destination beside its objects, by row of 4002h. -/
def State.dest (s : State) (r : Nat) : Dest := (storeGet r s.fab.dests).getD {}

/-- Set a destination. -/
def State.setDest (s : State) (r : Nat) (x : Dest) : State := { s with fab := { s.fab with dests := storePut natLt r x s.fab.dests } }

/-- No source pending (FFFFh), and black and colour generator 0 (4000h). -/
def noSource : Nat := 65535
def black0 : Nat := 0x4000

/-- Domain of a destination row; 255 when it is not planned. -/
def State.destDomain (s : State) (r : Nat) : Nat := s.rdN o4002_DEST_DOMAIN r

/-- Format of a destination row. -/
def State.destFormat (s : State) (r : Nat) : Nat := s.rdN o4002_DEST_FORMAT r

/-- Whether a source is synthesised on the reading destination's own path (R14). -/
def isGenerator (ep : Nat) : Bool := ep / 4096 == 3 || ep / 4096 == 4

/-- Offset of the latch instant of a format from the frame tick in ns (R198). -/
def latchOffset (fc : Nat) : Nat := lineStartNs fc (fmtSwitchLine fc)

/-! Tiles (R343, R346, R347). -/

/-- A head beside its objects. -/
def State.head (s : State) (v : Nat) : Head := (storeGet v s.ras.heads).getD {}

/-- Row of tile `t` of head `v`, and back. -/
def tileDest (v t : Nat) : Nat := 4384 + v * 64 + t
def isTile (r : Nat) : Bool := decide (4384 ≤ r ∧ r < 4640)

/-- Whether a destination reads in the frame in progress of its domain: a tile only in its refresh frames (R346), of divisor 4 in ride-through (R445). -/
def State.readsNow (s : State) (r : Nat) : Bool :=
  if isTile r then
    let i := r - 4384
    let n := ((s.head (i / 64)).tiles[i % 64]?.map (·.refresh)).getD 1
    s.fcnt (s.destDomain r) % (if (s.td (s.destDomain r)).dip then 4 else max 1 n) == s.rdN o6221_TILE_PHASE i
  else true

/-- The setting of a generator (R341): pattern and motion, or colour. -/
def State.genSetting (s : State) (ep : Nat) : Nat :=
  let g := ep % 4096
  if ep / 4096 = 3 then 2 * s.rdN o6202_TPG_PATTERN g + (if s.isOn o6202_TPG_MOTION g then 1 else 0) else s.rdN o6203_GEN_COLOUR g

/-- What CURRENT_SOURCE reads for an output that a head feeds (R342). -/
def headSource : Nat := 0xFFFE

/-! The bank that serves a route (R54). -/

/-- Instant of tick `k` frames after the last tick of a domain; a jump frame in progress is longer (R89). -/
def State.tickIn (s : State) (d k : Nat) : Nat := (s.td d).tickAt + (if k = 0 then 0 else (s.td d).jumpExtend) + k * period3 (s.td d).rate / 3

/-- Frames from the last tick of a domain to its first tick at or after an instant. -/
def State.framesTo (s : State) (d at_ : Nat) : Nat :=
  let p := period3 (s.td d).rate
  let t0 := (s.td d).tickAt
  if at_ ≤ t0 ∨ p = 0 then 0 else (3 * (at_ - t0) + p - 1) / p

/-- Instant of the anchor of a swap. -/
def State.anchorAt (s : State) (w : Swap) : Nat :=
  match w.anchored with
  | some t => t
  | none => s.tickIn w.anchorTd (w.anchorFcnt - s.fcnt w.anchorTd)

/-- Instant at which a domain changes over in a swap: on its first tick at or after the anchor, after those it waits for (R47); `none` when it has or does not. -/
def State.changeoverAt (s : State) (w : Swap) : Nat → Nat → Option Nat
  | 0, _ => none
  | n + 1, d =>
    if !w.domains.contains d || w.done.any (fun e => e.1 == d) then none
    else
      let mine := ((w.waits.find? (fun e => e.1 == d)).map (·.2)).getD []
      let after := (mine.filterMap (fun x => (s.changeoverAt w n x).map (· + 1))).foldl max (s.anchorAt w)
      some (s.tickIn d (max 1 (s.framesTo d (max after (s.now + 1)))))

/-- The bank that serves a domain in the frame that starts at an instant (R54). -/
def State.bankAt (s : State) (d at_ : Nat) : Option Nat :=
  match s.led.swap with
  | none => s.serving d
  | some w => match s.changeoverAt w 4 d with
    | some c => if c ≤ at_ then (if s.bankRate (some w.incoming) d ≠ 0 then some w.incoming else none) else s.serving d
    | none => s.serving d

/-- The plan's entry of a destination endpoint, of a bank in force or else of the incoming one. -/
def State.endpointEntry (s : State) (ep : Nat) : Option PlanEndpoint :=
  match s.planned ep with
  | some e => some e
  | none => match s.led.swap with
    | some w => (s.bank w.incoming).plan.endpoints.find? (fun e => e.ep == ep)
    | none => none

/-- Domain in which a destination endpoint is planned. -/
def State.endpointDomain (s : State) (ep : Nat) : Option Nat := (s.endpointEntry ep).map (·.dom)

/-- The start of the frame to which a route taken now for a destination applies (R199). -/
def State.routeFrame (s : State) (ep d : Nat) : Nat :=
  let fc := match s.planned ep with
    | some e => e.fmt
    | none => 0
  if s.now < (s.td d).tickAt + latchOffset fc then (s.td d).tickAt else s.tickIn d 1

/-! Checks of a video route (R55, R204, R218). -/

/-- An entry of a plan. -/
def planEp (p : Plan) (ep : Nat) : Option PlanEndpoint := p.endpoints.find? (fun e => e.ep == ep)

/-- The path that joins a source to a destination under a plan (R204): 0F01h when either is not planned, 0F02h when no path is. -/
def routePath (p : Plan) (dst src : Nat) : Except Nat Int :=
  match planEp p dst with
  | none => .error 0x0F01
  | some e =>
    let fed := p.heads.any (fun h => h.outs.contains dst)
    if isGenerator src then (if fed then .error 0x0F02 else .ok ROUTE_PATH.direct)
    else match planEp p src with
      | none => .error 0x0F01
      | some f =>
        if fed then .error 0x0F02
        else if f.dom = e.dom ∧ f.fmt = e.fmt then .ok ROUTE_PATH.direct
        else if f.dom ≠ e.dom ∧ f.fmt = e.fmt ∧ p.permissions.any (fun a => a.dst == dst && !a.converter && a.dom == f.dom) then .ok ROUTE_PATH.frame_sync
        else if p.permissions.any (fun a => a.dst == dst && a.converter && a.dom == f.dom && a.fmt == f.fmt) then .ok ROUTE_PATH.converter
        else .error 0x0F02

/-- The path of a route taken for the frame that starts at an instant (R54, R218). -/
def State.checkRoute (s : State) (dst src at_ : Nat) : Except Nat Int :=
  match s.endpointDomain dst with
  | none => .error 0x0F01
  | some d => match s.bankAt d at_ with
    | some b => routePath (s.bank b).plan dst src
    | none => .error 0x0F01

/-! Checks of an audio take (R211, R212, R214). -/

/-- Silence as a source channel. -/
def silentCh : Nat := 65535

/-- Rates of channels: 0 none, 1 48k, 2 96k. -/
def State.srcRate (s : State) (ch : Nat) : Int := if ch = silentCh then 0 else s.rd o4102_SRC_RATE ch
def State.dstRate (s : State) (ch : Nat) : Int := s.rd o4101_AUD_DEST_RATE ch

/-- Whether a take of a block keeps the pairs whole and the rates equal (R214, 0F06h). -/
def State.audioPairs (s : State) (dst src count : Nat) : Bool :=
  (List.range count).all (fun i =>
    let sc := if src = silentCh then silentCh else src + i
    let dc := dst + i
    let sr := s.srcRate sc
    let dr := s.dstRate dc
    let whole := fun (c : Nat) => if c % 2 = 0 then decide (i + 1 < count) else decide (1 ≤ i)
    (sr != 2 || (sc % 2 == dc % 2 && whole sc)) && (dr != 2 || whole dc) && (sr == 0 || dr == 0 || sr == dr))

/-! Salvo entries (R217, R218). -/

/-- A salvo entry, read from its 64 bits (R217). -/
inductive SalvoItem where
  | video (dst src : Nat)
  | audio (dst src count fade : Nat)
  | reserved
deriving DecidableEq, Repr

/-- The fields of an entry. -/
def salvoItem (v : Nat) : SalvoItem :=
  let src := v % 65536
  let dst := v / 65536 % 65536
  match v / 2 ^ 62 with
  | 0 => .video dst src
  | 1 => .audio dst src (v / 2 ^ 32 % 256) (v / 2 ^ 59 % 8)
  | _ => .reserved

/-- Channels of audio following video of a destination row (R215). -/
def State.afvRange (s : State) (r : Nat) : Nat × Nat := (s.rdN o4002_AFV_BASE_CH r, s.rdN o4002_AFV_COUNT r)

/-- Whether two items share a destination (0F04h). -/
def State.itemsMeet (s : State) : SalvoItem → SalvoItem → Bool
  | .video a _, .video b _ => a == b
  | .audio a _ n _, .audio b _ m _ => rangesMeet (a, n) (b, m)
  | .video a _, .audio b _ m _ => match destRow a with
    | some r => rangesMeet (s.afvRange r) (b, m)
    | none => false
  | .audio b _ m _, .video a _ => match destRow a with
    | some r => rangesMeet (s.afvRange r) (b, m)
    | none => false
  | _, _ => false

/-- The resource to which a video destination belongs (R398). -/
def destOwn (ep : Nat) : Own :=
  let i := ep % 4096
  match ep / 4096 with
  | 8 => .res 1 ep
  | 9 => .res 3 i
  | 10 => .res 4 i
  | 11 => .res 5 (i / 32)
  | 12 => .res 6 (i / 64)
  | _ => .device

/-- The check of one item against the performer, the frame it would apply to and the items before it, in the order of R218; 0 when it passes. -/
def State.checkItem (s : State) (c : Ctx) (frameOf : Nat → Nat → Nat) (before : List SalvoItem) : SalvoItem → Nat
  | .reserved => 0x0F07
  | .audio dst src count fade =>
    if 5 ≤ fade then 0x0F07
    else if count < 1 ∨ 64 < count ∨ 16384 < dst + count ∨ (src ≠ silentCh ∧ 16384 < src + count) then 0x0F05
    else if (List.range count).any (fun i => !s.owns c (.res 2 (dst + i))) then stNOT_OWNED
    else if before.any (fun b => s.itemsMeet b (.audio dst src count fade)) then 0x0F04
    else if s.audioPairs dst src count = false then 0x0F06 else 0
  | .video dst src =>
    if isDest dst = false ∨ isSource src = false then 0x0F01
    else if s.owns c (destOwn dst) = false then stNOT_OWNED
    else match s.checkRoute dst src (frameOf dst ((s.endpointDomain dst).getD 0)) with
      | .error k => k
      | .ok _ => if before.any (fun b => s.itemsMeet b (.video dst src)) then 0x0F04 else 0

/-- The first failure of a list of items, with its place. -/
def State.checkItems (s : State) (c : Ctx) (frameOf : Nat → Nat → Nat) : List SalvoItem → List SalvoItem → Nat → Option (Nat × Nat)
  | _, [], _ => none
  | before, i :: l, n =>
    let k := s.checkItem c frameOf before i
    if k ≠ 0 then some (k, n) else s.checkItems c frameOf (before ++ [i]) l (n + 1)

/-! Accepted takes. -/

/-- A copy path begins empty; the frames of the source that start after the take are copied (R205). -/
def newSync (src : Nat) : SyncPath := { src := src }

/-- Whether a path reads a copy: 'frame-sync', or a 'converter' whose source lies in another domain (R204, R301). -/
def State.pathCopies (s : State) (path : Int) (r src : Nat) : Bool :=
  path == ROUTE_PATH.frame_sync || (path == ROUTE_PATH.converter && s.epDomain src != s.destDomain r)

/-- A route is accepted for a destination: it replaces one that has not applied (R199, R201). -/
def State.acceptRoute (s : State) (dst src takenAt : Nat) (path : Int) (salvo : Option (Nat × Nat)) : State :=
  match destRow dst with
  | none => s
  | some r =>
    let x := s.dest r
    let s := if x.pending.isSome then s.bump o4002_SUPERSEDED r else s
    let copies := s.pathCopies path r src
    (s.setDest r { x with pending := some { src := src, takenAt := takenAt, path := path, prep := if copies then some (newSync src) else none, salvo := salvo } }).wr
      o4002_PENDING_SOURCE r src

/-- A channel beside its objects. -/
def State.chan (s : State) (ch : Nat) : AudChan := (storeGet ch s.aud.chans).getD {}

/-- Set a channel; AUD_PENDING reads the take that has not reached its boundary or waits (R212). -/
def State.setChan (s : State) (ch : Nat) (x : AudChan) : State :=
  let p := match x.pend, x.wait with
    | some t, _ => t.src
    | none, some t => t.src
    | none, none => 65535
  ({ s with aud := { s.aud with chans := if x = ({} : AudChan) then storeDel ch s.aud.chans else storePut natLt ch x s.aud.chans } }).wr o4101_AUD_PENDING ch p

/-- A take of one channel is accepted; its boundary is the first at or after `since` (R211). -/
def State.acceptAudio (s : State) (ch : Nat) (t : AudTake) : State := s.setChan ch { s.chan ch with pend := some t }

/-- A take of a block is accepted. -/
def State.acceptBlock (s : State) (dst src count fade since : Nat) (salvo : Option (Nat × Nat)) : State :=
  (List.range count).foldl (fun s i => s.acceptAudio (dst + i) ⟨if src = silentCh then silentCh else src + i, fade, since, salvo⟩) s

/-- An item applies: taken at `takenAt`, its audio boundary at or after `since`. -/
def State.acceptItem (s : State) (takenAt since : Nat) (salvo : Option (Nat × Nat)) : SalvoItem → State
  | .reserved => s
  | .audio dst src count fade => s.acceptBlock dst src count fade since salvo
  | .video dst src =>
    match s.checkRoute dst src (s.routeFrame dst ((s.endpointDomain dst).getD 0)) with
    | .ok path => s.acceptRoute dst src takenAt path salvo
    | .error _ => s

/-- A take of one item 'now' (R218, R219): its code and the state. -/
def State.takeNow (s : State) (c : Ctx) (i : SalvoItem) : Nat × State :=
  let k := s.checkItem c s.routeFrame [] i
  if k ≠ 0 then (k, s) else (stOK, s.acceptItem s.now (s.now + 1) none i)

/-- ROUTE_CMD (R218): the session's route, its code in ROUTE_RESULT. -/
def writeRouteCmd : Handler := onInt fun c p _ s =>
  let (k, s) := s.takeNow c (.video (s.rdN o4000_ROUTE_DEST p) (s.rdN o4000_ROUTE_SRC p))
  (k, s.wr o4000_ROUTE_RESULT p k)

def execRouteTake (t port : Nat) (s : State) : Host.Outcome State Fault Refusal :=
  s.run t (fun s => s.opCmd writeRouteCmd port o4000_ROUTE_CMD 0 (.int 0))

/-- AUD_CMD (R211, R218): the session's block, its code in AUD_RESULT. -/
def writeAudCmd : Handler := onInt fun c p _ s =>
  let (k, s) := s.takeNow c (.audio (s.rdN o4100_AUD_DEST_CH p) (s.rdN o4100_AUD_SRC_CH p) (s.rdN o4100_AUD_COUNT p) (s.rdN o4100_AUD_FADE p))
  (k, s.wr o4100_AUD_RESULT p k)

def execAudTake (t port : Nat) (s : State) : Host.Outcome State Fault Refusal :=
  s.run t (fun s => s.opCmd writeAudCmd port o4100_AUD_CMD 0 (.int 0))

/-! Endpoint-valued objects and audio following video. -/

/-- ROUTE_DEST and QUERY_DEST, ROUTE_SRC and QUERY_SOURCE take only identifiers of R13. -/
def writeEndpoint (o : Nat) (ok : Nat → Bool) : Handler := fun c p v s =>
  match v with
  | .int i => if ok i.toNat then storeVal o c p v s else (stRANGE, s)
  | .bytes _ => (stENCODING, s)

/-- AFV_BASE_CH and AFV_COUNT: every following channel must be owned by the partition that owns the destination (R399). -/
def writeAfv (o : Nat) : Handler := fun c r v s =>
  match v with
  | .int i =>
    let base := if o = o4002_AFV_BASE_CH then i.toNat else s.rdN o4002_AFV_BASE_CH r
    let count := if o = o4002_AFV_COUNT then i.toNat else s.rdN o4002_AFV_COUNT r
    if s.afvWhole r base count then storeVal o c r v s else (stNOT_OWNED, s)
  | .bytes _ => (stENCODING, s)

/-! Salvos (R216-R220). -/

/-- State of a salvo. -/
def State.salvoState (s : State) (k : Nat) : Int := s.rd o4010_SALVO_STATE k

/-- The items of a salvo. -/
def State.salvoItems (s : State) (k : Nat) : List SalvoItem :=
  (List.range (s.rdN o4010_SALVO_LENGTH k)).map (fun e => salvoItem (s.rdN o4011_SALVO_ENTRY (k * 1024 + e)))

/-- SALVO_LENGTH (R216). -/
def writeSalvoLength : Handler := onInt fun _ k v s =>
  if s.salvoState k = SALVO_STATE.pending then (stBUSY, s)
  else (stOK, (s.wr o4010_SALVO_LENGTH k v).wr o4010_SALVO_STATE k (if v = 0 then SALVO_STATE.empty else SALVO_STATE.loaded))

def execSalvoLength (t port salvo : Nat) (v : Int) (s : State) : Host.Outcome State Fault Refusal :=
  s.run t (fun s => s.opCmd writeSalvoLength port o4010_SALVO_LENGTH salvo (.int v))

/-- An entry with its reserved bits 58:40 zero: they are ignored when written (R6, R217). -/
def salvoBits (v : Int) : Int := v % 2 ^ 40 + v / 2 ^ 59 * 2 ^ 59

/-- A write of an entry or of the anchor (R216). -/
def writeSalvoEntry (o : Nat) : Handler := onInt fun c r v s =>
  let v := if o = o4011_SALVO_ENTRY then salvoBits v else v
  let k := if o = o4011_SALVO_ENTRY then r / 1024 else r
  let st := s.salvoState k
  if st = SALVO_STATE.pending then (stBUSY, s)
  else storeVal o c r (.int v) (if st = SALVO_STATE.applied ∨ st = SALVO_STATE.refused then s.wr o4010_SALVO_STATE k SALVO_STATE.loaded else s)

/-- Objects that hold an entry or an anchor; a write of any other by this command is one of an entry. -/
def salvoObj (o : Nat) : Nat := if o = o4010_SALVO_ANCHOR_TD ∨ o = o4010_SALVO_ANCHOR_FCNT then o else o4011_SALVO_ENTRY

def execSalvoEntry (t port obj row : Nat) (v : Int) (s : State) : Host.Outcome State Fault Refusal :=
  s.run t (fun s => s.opCmd (writeSalvoEntry (salvoObj obj)) port (salvoObj obj) row (.int v))

/-- Whether anything of a salvo has still to apply. -/
def State.salvoWaits (s : State) (k : Nat) : Bool :=
  (storeGet k s.fab.anchors).isSome ||
  s.fab.dests.any (fun e => match e.2.pending with
    | some p => (p.salvo.map (·.1)) == some k
    | none => false) ||
  s.aud.chans.any (fun e => [e.2.pend, e.2.wait].any (fun t => match t with
    | some t => (t.salvo.map (·.1)) == some k
    | none => false))

/-- A 'pending' salvo whose last entry has applied is 'applied' (R216). -/
def State.salvoProgress (s : State) : State :=
  (s.listed' o4010_SALVO_STATE).foldl (fun s k =>
    if s.salvoState k = SALVO_STATE.pending ∧ s.salvoWaits k = false then s.wr o4010_SALVO_STATE k SALVO_STATE.applied else s) s

/-- Domain of a video item's destination. -/
def State.itemDomain (s : State) : SalvoItem → Option Nat
  | .video dst _ => s.endpointDomain dst
  | _ => none

/-- Latest latch instant of the anchor frame among video items of the anchor domain, else the anchor instant (R211). -/
def State.anchorAudio (s : State) (td tick : Nat) (l : List SalvoItem) : Nat :=
  (l.filterMap (fun i => match i with
    | .video dst _ => if s.endpointDomain dst = some td then (s.planned dst).map (fun e => tick + latchOffset e.fmt) else none
    | _ => none)).foldl max tick

/-- Every item of a salvo applies. -/
def State.acceptSalvo (s : State) (k takenAt since : Nat) : State :=
  ((s.salvoItems k).zipIdx).foldl (fun s e => s.acceptItem takenAt since (some (k, e.2)) e.1) s

/-- A take refused: SALVO_ERROR and the entry (R218). -/
def State.salvoRefused (s : State) (k code entry : Nat) : Nat × State :=
  (code, ((s.wr o4010_SALVO_STATE k SALVO_STATE.refused).wr o4010_SALVO_ERROR k code).wr o4010_SALVO_ERROR_ENTRY k entry)

/-- The task that holds an anchored salvo (R237). -/
def anchorTask (c : Ctx) (session k td anchor : Nat) : Task :=
  { kind := TASK_KIND_READ.salvo_anchor
    byTime := false
    td := td
    fcnt := anchor
    prio := 0
    value := leBytes 1 k
    port := c.port % 8
    session := session
    roles := c.roles
    part := c.part
    order := 0 }

/-- SALVO_CMD 'take' (R216-R219). -/
def State.salvoTake (s : State) (c : Ctx) (session k : Nat) : Nat × State :=
  let st := s.salvoState k
  let anchor := s.rdN o4010_SALVO_ANCHOR_FCNT k
  let td := s.rdN o4010_SALVO_ANCHOR_TD k
  if st = SALVO_STATE.pending then (stBUSY, s)
  else if st = SALVO_STATE.empty then (unstatedCode 5, s)
  else if anchor ≠ 0 ∧ s.inUse td = false then s.salvoRefused k 0x0F08 0xFFFF
  else
    let late := decide (anchor ≠ 0 ∧ anchor ≤ s.fcnt td)
    let tick := s.tickIn td (anchor - s.fcnt td)
    let ahead := decide (anchor ≠ 0) && !late
    let frameOf := fun dst d =>
      if ahead = false then s.routeFrame dst d
      else if d = td then tick
      else s.tickIn d (s.framesTo d (tick - latchOffset (((s.endpointEntry dst).map (·.fmt)).getD 0)))
    match s.checkItems c frameOf [] (s.salvoItems k) 0 with
    | some (code, e) => s.salvoRefused k code e
    | none =>
      let ok := fun (s : State) => ((s.wr o4010_SALVO_STATE k SALVO_STATE.pending).wr o4010_SALVO_ERROR k 0).wr o4010_SALVO_ERROR_ENTRY k 0
      if ahead then
        let (b, r, s) := s.takeRow (anchorTask c session k td anchor)
        if b ≠ stOK then (b, s) else (stOK, (ok { s with fab := { s.fab with anchors := storePut natLt k r s.fab.anchors } }).wr o4010_SALVO_LATE k 0)
      else
        let s := (ok s).wr o4010_SALVO_LATE k (boolVal late)
        let s := if late then s.pulse .FAB_SALVO_LATE k else s
        (stOK, (s.acceptSalvo k s.now (s.now + 1)).salvoProgress)

/-- The release of an anchored salvo at its anchor (R219, R237). -/
def State.salvoRelease (s : State) (k : Nat) : State :=
  let td := s.rdN o4010_SALVO_ANCHOR_TD k
  let tick := (s.td td).tickAt
  let s := { s with fab := { s.fab with anchors := storeDel k s.fab.anchors } }
  (s.acceptSalvo k (tick - 1) (s.anchorAudio td tick (s.salvoItems k))).salvoProgress

/-- Identifier of the open session of a port, 0 for none. -/
def State.sessionIdOf (s : State) (port : Nat) : Nat :=
  match (s.port port).session with
  | some x => x.id
  | none => 0

/-- SALVO_CMD (R216). -/
def writeSalvoCmd : Handler := onInt fun c k v s =>
  if v = SALVO_CMD.take then s.salvoTake c (s.sessionIdOf c.port) k
  else if s.salvoState k = SALVO_STATE.pending then (stBUSY, s)
  else (stOK, (s.wr o4010_SALVO_LENGTH k 0).wr o4010_SALVO_STATE k SALVO_STATE.empty)

def execSalvoTake (t port salvo : Nat) (s : State) : Host.Outcome State Fault Refusal :=
  s.run t (fun s => s.opCmd writeSalvoCmd port o4010_SALVO_CMD salvo (.int SALVO_CMD.take))

def execSalvoClear (t port salvo : Nat) (s : State) : Host.Outcome State Fault Refusal :=
  s.run t (fun s => s.opCmd writeSalvoCmd port o4010_SALVO_CMD salvo (.int SALVO_CMD.clear))

/-! Copies of 'frame-sync' routes (R205). -/

/-- A copy takes the frame that the source's readers show in the frame that starts with this tick of the source's domain. -/
def State.copyFrame (s : State) (p : SyncPath) : SyncPath :=
  let f : BufFrame := { serial := p.nextSerial, tag := s.fcnt (s.epDomain p.src), start := s.now + lineStartNs (s.epFormat p.src) (fmtFirstActive (s.epFormat p.src)) }
  { p with frames := (f :: p.frames).take 4, nextSerial := p.nextSerial + 1 }

/-- Depth in frames of a destination's copy: that of its frame-sync buffer, 1 for a converter's layer store (R204, R301). -/
def State.syncDepth (s : State) (r src : Nat) : Nat :=
  let p := s.planOf (s.destDomain r)
  match p.permissions.find? (fun a => a.dst == destEndpoint r && !a.converter && a.dom == s.epDomain src) with
  | some a => a.depth
  | none => 1

/-- The frame of a copy read in the frame before the one in progress. -/
def State.readBefore (s : State) (r : Nat) (p : SyncPath) : Option Nat := if p.readFcnt + 1 = s.fcnt (s.destDomain r) then p.reading else none

/-- The frame that R196 gives a destination from a copy, in the frame that started at the last tick. -/
def State.syncFrame (s : State) (r : Nat) (p : SyncPath) : Option BufFrame :=
  let fc := s.destFormat r
  syncChoice (s.td (s.destDomain r)).tickAt (periodNs (fmtRate fc)) (linesNs fc 1) (s.syncDepth r p.src) p.frames (s.readBefore r p)

/-- At the read of line period 1 a destination chooses the frame it reads from its copy (R196, R205). -/
def State.destSelect (s : State) (r : Nat) : State :=
  let x := s.dest r
  match x.sync with
  | none => s
  | some p =>
    match s.syncFrame r p with
    | none => s
    | some f =>
      let again := s.readBefore r p == some f.serial
      let skipped := match s.readBefore r p with
        | some k => f.serial - (k + 1)
        | none => 0
      let s := s.setDest r { x with sync := some { p with reading := some f.serial, readFcnt := s.fcnt (s.destDomain r), again := again } }
      let s := s.wr o4002_SYNC_DELAY_NS r (frameDelay (s.td (s.destDomain r)).tickAt f)
      let s := if again then s.bump o4002_SYNC_REPEATS r else if 0 < skipped then s.addTo o4002_SYNC_DROPS r skipped else s
      if again ∨ 0 < skipped then s.raiseQuiet .FAB_SYNC_SLIP (65536 + r) else s

/-! The latch instant (R198-R201, R215). -/

/-- Audio follows a video route that has just applied (R215): a channel whose take would be refused takes silence. -/
def State.followAudio (s : State) (r src : Nat) : State :=
  let (base, count) := s.afvRange r
  let (a, n) := if src < 4096 then s.slotAudio src else (0, 0)
  let want := fun i => if src < 4096 ∧ i < n then a + i else silentCh
  (List.range count).foldl (fun s i =>
    let sc := want i
    let dc := base + i
    let sr := s.srcRate sc
    let dr := s.dstRate dc
    let mate := fun (c : Nat) => if c % 2 = 0 then i + 1 else i - 1
    let whole := fun (c : Nat) => decide (mate c < count) && (decide (1 ≤ i) || c % 2 == 0)
    let okS := sr != 2 || (sc % 2 == dc % 2 && whole sc && want (mate sc) == (if sc % 2 = 0 then sc + 1 else sc - 1))
    let ok := okS && (dr != 2 || whole dc) && (sr == 0 || dr == 0 || sr == dr)
    s.acceptAudio dc ⟨if ok then sc else silentCh, s.rdN o4002_AFV_CROSSFADE r, s.now, none⟩) s

/-- A pending route applies at the switching line of the frame in progress when it was taken before that line's instant, and, for a path that reads a copy, when R196
finds a frame in it (R199, R205). -/
def State.applyRoute (s : State) (r : Nat) : State :=
  let x := s.dest r
  match x.pending with
  | none => s
  | some q =>
    let found : Option (Option BufFrame) := match q.prep with
      | none => some none
      | some p => (s.syncFrame r p).map some
    match found with
    | none => s
    | some f =>
      if s.now ≤ q.takenAt ∨ s.readsNow r = false then s
      else
        let d := s.destDomain r
        let sync := q.prep.map (fun p => { p with reading := f.map (·.serial), readFcnt := s.fcnt d })
        let s := s.setDest r { x with pending := none, sync := sync }
        let s := ((s.wr o4002_CURRENT_SOURCE r q.src).wr o4002_PENDING_SOURCE r noSource).wr o4002_APPLIED_FCNT r (s.fcnt d)
        let s := (s.wr o4002_ROUTE_PATH r q.path).wr o4002_SYNC_DELAY_NS r (match f with
          | some f => frameDelay (s.td d).tickAt f
          | none => 0)
        ((s.bump o4002_ROUTE_TAKES r).followAudio r q.src).salvoProgress

/-! What a destination reads (R152, R161, R192, R195-R197, R202, R207, R208). -/

/-- A read of a line of a source's buffer: what is shown, the ancillary data of the frame shown, and whether the line is concealed now for the first time. -/
structure LineRead where
  what : Shown
  anc : List AncPkt := []
  conceal : Option (Nat × Nat) := none
  serial : Option Nat := none
  poisoned : Bool := false
deriving DecidableEq, Repr

/-- The frame that a reader takes from a buffer in frame `n` of its domain, and whether it has been shown before (R194-R197). -/
def State.frameAt (s : State) (ep n : Nat) : Option (BufFrame × Bool) :=
  let x := s.buf ep
  if s.frameSynced ep then
    match x.chosen.find? (fun e => decide (e.1 ≤ n)) with
    | some (g, k) => (x.frames.find? (fun f => f.serial == k)).map (fun f => (f, g != n || x.chosen.any (fun e => e.2 == k && decide (e.1 < n))))
    | none => none
  else match x.frames.find? (fun f => f.tag == n) with
    | some f => some (f, false)
    | none => (x.frames.find? (fun f => decide (f.tag < n))).map (fun f => (f, true))

/-- The picture that a source gave its readers in frame `n` of its domain as a whole, as a copy or a converter's store holds it (R204, R205, R301). -/
def State.readWhole (s : State) (ep n : Nat) (again : Bool) : LineRead :=
  let how := fun (b : Bool) => if b || again then How.repeated else How.fresh
  if isGenerator ep then { what := .line ep (s.genSetting ep) .fresh }
  else if ep / 4096 = 1 then { what := .line ep n (how false) }
  else if (s.buf ep).dark n then { what := .black }
  else match s.frameAt ep n with
    | some (f, old) => { what := .line ep f.serial (how old), anc := f.anc }
    | none => { what := .black }

/-- A read of a line that may hold an uncorrectable word (R369): the same line of the previous frame, or black when that is uncorrectable too; a frame whose ancillary area holds one
gives no ancillary data. -/
def State.readPoison (s : State) (ep line : Nat) (a : LineRead) : LineRead :=
  match a.serial, a.what with
  | some k, .line src n h =>
    let anc := if s.lineBad ep k 0 then [] else a.anc
    if line ≠ 0 ∧ n = k ∧ s.lineBad ep k line then
      let prev := ((s.buf ep).frames.find? (fun g => decide (g.serial < k))).map (·.serial)
      { a with
        what := match prev with
          | some g => if s.lineBad ep g line then .black else .line src g .concealed
          | none => .black
        anc := anc
        poisoned := true }
    else { a with what := .line src n h, anc := anc }
  | _, _ => a

/-- A line of a frame of a buffer (R152, R161): one that has not been written in full, or has been concealed, is taken from the newest frame before it that holds it, by every
reader, also where the frame is repeated. -/
def State.lineOf (s : State) (ep line : Nat) (f : BufFrame) (again : Bool) : LineRead :=
  let x := s.buf ep
  let hidden := x.concealed.contains (f.serial, line)
  if fmtActive (s.epFormat ep) line && (hidden || !f.full.contains line) then
    { what := .line ep (((x.frames.find? (fun g => decide (g.serial < f.serial) && g.full.contains line)).map (·.serial)).getD f.serial) .concealed
      anc := f.anc
      serial := some f.serial
      conceal := if hidden then none else some (f.serial, line) }
  else { what := .line ep f.serial (if again then .repeated else .fresh), anc := f.anc, serial := some f.serial }

/-- A read of a line from a source endpoint's buffer. -/
def State.readLine (s : State) (ep line : Nat) : LineRead :=
  let x := s.buf ep
  let d := s.epDomain ep
  if isGenerator ep then { what := .line ep (s.genSetting ep) .fresh }
  else if ep / 4096 = 1 then
    if x.stale.contains (s.fcnt d, line) then { what := .line ep (s.fcnt d - 1) .stale } else { what := .line ep (s.fcnt d) .fresh }
  else if x.dark (s.fcnt d) then { what := .black }
  else match s.frameAt ep (s.fcnt d) with
    | none => { what := .black }
    | some (f, again) =>
      let prev := (x.frames.find? (fun g => decide (g.serial < f.serial))).map (·.serial)
      if x.stale.contains (s.fcnt d, line) then { what := .line ep (prev.getD f.serial) .stale, anc := f.anc, serial := some f.serial }
      else s.lineOf ep line f again

/-- Counter of concealed lines of what feeds an endpoint (R152, R270). A decoder's precinct counts once, at its first line. -/
def State.countConcealed (s : State) (ep line : Nat) : State :=
  if ep / 4096 = 2 then
    let p := max 1 (s.buf ep).precinct
    if fmtPictureLine (s.epFormat ep) line % p = 0 then s.bump o5012_XS_PRECINCTS_CONCEALED (ep % 4096) else s
  else match s.sdiFeed ep with
    | some l => s.bump o3540_SDI_LINES_CONCEALED l
    | none => match s.flowFeed ep with
      | some f => s.bump o3620_LINES_CONCEALED f
      | none => s

/-- Lines of a frame are concealed for every reader, counted once each (R152). -/
def State.concealLine (s : State) (ep serial line : Nat) : State :=
  (s.setBuf ep { s.buf ep with concealed := ((serial, line) :: (s.buf ep).concealed).filter (fun e => decide (serial ≤ e.1 + 5)) }).countConcealed ep line

/-- The marks that a read leaves in a buffer: the line has begun to be read by a reader of the buffer itself, and is concealed for every reader (R151, R152). -/
def State.markRead (s : State) (ep line : Nat) (direct : Bool) (a : LineRead) : State :=
  let x := s.buf ep
  let s := match a.serial with
    | some k =>
      let s := if direct then s.setBuf ep { x with begun := some (k, line) } else s
      if a.poisoned then s.countBadLine ep k line else s
    | none => s
  match a.conceal with
  | some c => s.concealLine ep c.1 c.2
  | none => s

/-- At a tick of domain `d` every copy of a source of that domain takes its frame; one that waits, only for a take before the tick (R205). -/
def State.copyTakes (s : State) (d : Nat) : State :=
  s.fab.dests.foldl (fun s e =>
    let x := s.dest e.1
    let x := match x.sync with
      | some p => if s.epDomain p.src = d then { x with sync := some (s.copyFrame p) } else x
      | none => x
    let x := match x.pending with
      | some q => match q.prep with
        | some p => if s.epDomain p.src = d ∧ q.takenAt < s.now then { x with pending := some { q with prep := some (s.copyFrame p) } } else x
        | none => x
      | none => x
    s.setDest e.1 x) s

/-- The active lines of a format. -/
def activeLines (fc : Nat) : List Nat := (List.range (fmtLines fc + 1)).filter (fmtActive fc)

/-- Sources of a domain whose frame `n` a copy or a converter's layer store has read (R204, R205, R301). -/
def State.copiedSources (s : State) (d n : Nat) : List Nat :=
  (s.fab.dests.map (fun e =>
    let paths := (e.2.sync.toList ++ (e.2.pending.bind (·.prep)).toList).filter (fun p => p.frames.any (·.tag == n))
    let own := if e.2.sync.isNone && s.rd o4002_ROUTE_PATH e.1 == ROUTE_PATH.converter then [s.rdN o4002_CURRENT_SOURCE e.1] else []
    (paths.map (·.src) ++ own).filter (fun ep => s.epDomain ep == d && !isGenerator ep && ep / 4096 != 1))).flatten.eraseDups

/-- At the tick that ends frame `n` a copy has read it whole: its lines that have not been written in full are concealed (R152; log entry 160). -/
def State.concealCopied (s : State) (n ep : Nat) : State :=
  if (s.buf ep).dark n then s
  else match s.frameAt ep n with
    | some (f, _) => ((activeLines (s.epFormat ep)).filter (fun l => !f.full.contains l && !(s.buf ep).concealed.contains (f.serial, l))).foldl (fun s l => s.concealLine ep f.serial l) s
    | none => s

/-- At a tick of domain `d` the copies of the frame that ends are whole, and every copy of a source of that domain takes the frame that begins (R152, R205). -/
def State.copyTick (s : State) (d : Nat) : State :=
  let n := s.fcnt d - 1
  ((s.copiedSources d n).foldl (State.concealCopied · n) s).copyTakes d

/-- Caption packets (R208). -/
def isCaption (a : AncPkt) : Bool := a.did == 0x61 && (a.sdid == 1 || a.sdid == 2)

/-- Ancillary data that a destination carries on a line (R207, R208). -/
def State.destAnc (s : State) (r line : Nat) (what : Shown) (anc : List AncPkt) : List AncPkt :=
  if s.rd o4002_ANC_MODE r ≠ ANC_MODE.follow then []
  else
    let here := anc.filter (fun a => a.line == line)
    match what with
    | .black => []
    | .held _ => []
    | .line _ _ .fresh => here
    | .line _ _ _ =>
      let m := s.rd o4002_ANC_REPEAT r
      if m = ANC_REPEAT.omit_all then [] else if m = ANC_REPEAT.omit_captions then here.filter (fun a => !isCaption a) else here

/-- A destination's read of a line of a copy: what is shown is the line of the source frame copied (R205), or, of a converter's layer store, the picture that it scales (R301). -/
def State.copyRead (r line : Nat) (p : SyncPath) (s : State) : LineRead :=
  match p.frames.find? (fun f => some f.serial == p.reading) with
  | none => { what := .black }
  | some f =>
    let again := p.again || p.readFcnt != s.fcnt (s.destDomain r)
    if isGenerator p.src ∨ p.src / 4096 = 1 ∨ (s.buf p.src).dark f.tag ∨ s.rd o4002_ROUTE_PATH r = ROUTE_PATH.converter then s.readWhole p.src f.tag again
    else match s.frameAt p.src f.tag with
      | some (g, old) => s.readPoison p.src line (s.lineOf p.src line g (old || again))
      | none => { what := .black }

/-- What a destination reads for a line, before the effects of the read. -/
def State.destLine (s : State) (r line : Nat) : LineRead :=
  let x := s.dest r
  let d := s.destDomain r
  if (s.td d).inJump ∨ x.blackFrame = some (s.fcnt d) then { what := .black }
  else
    let src := s.rdN o4002_CURRENT_SOURCE r
    let a : LineRead := match x.sync with
      | some p => State.copyRead r line p s
      | none =>
        if src = headSource then { what := .line src (s.fcnt d) .fresh }
        else if isGenerator src then { what := .line src (x.gen.getD (s.genSetting src)) .fresh }
        else if s.rd o4002_ROUTE_PATH r = ROUTE_PATH.converter then s.readWhole src (s.fcnt d - 1) false
        else s.readPoison src line (s.readLine src line)
    if x.missed.contains (s.fcnt d, line) then
      { a with what := match a.what with
          | .line src k _ => .line src (k - 1) .stale
          | w => w }
    else a

/-! Ancillary space of an output (R338, R339). -/

/-- Whether a line lies in the vertical ancillary space of a format. -/
def inVanc (fc line : Nat) : Bool :=
  decide (fmtSwitchLine fc + 2 ≤ line ∧ line < fmtFirstActive fc) || (fmtInterlaced fc && decide (571 ≤ line ∧ line ≤ 583))

/-- Words that a packet takes: flag, identifiers, count, data, checksum. -/
def ancWords (a : AncPkt) : Nat := 7 + a.words

/-- The packets, in order, that fit a room in words, and the others. -/
def placeAnc : Nat → List AncPkt → List AncPkt × List AncPkt
  | _, [] => ([], [])
  | room, a :: l =>
    if ancWords a ≤ room then let (x, y) := placeAnc (room - ancWords a) l; (a :: x, y) else let (x, y) := placeAnc room l; (x, a :: y)

/-- The packets that an output carries on a line: those that wait and those of the line, each on the first line of its space with room; what found none before the first active
line of the frame or field is dropped, and so is a vertical packet of a line that no line of the space follows (R339). The room of a line in words is PRESUMED: its active samples, its blanking less 16. -/
def State.outputAnc (s : State) (r line : Nat) (here : List AncPkt) : List AncPkt × State :=
  let fc := s.destFormat r
  let x := s.dest r
  let all := x.anc ++ here
  let (v, restV) := if inVanc fc line then placeAnc (fmtWidth fc) (all.filter (fun a => !a.horiz)) else ([], all.filter (fun a => !a.horiz))
  let (h, restH) := placeAnc (fmtSamples fc - fmtWidth fc - 16) (all.filter (·.horiz))
  let last := line + 1 = fmtFirstActive fc ∨ (fmtInterlaced fc = true ∧ line = 583)
  let past := decide ((if fmtInterlaced fc then 584 else fmtFirstActive fc) ≤ line)
  let lostV := last || past
  let lost := (if lostV then restV.length else 0) + if last then restH.length else 0
  let s := s.setDest r { x with anc := (if lostV then [] else restV) ++ if last then [] else restH }
  let s := if lost = 0 then s else (s.addTo o6201_ANC_DROPS r lost).raiseQuiet .RST_ANC_DROP r
  (v ++ h, s)

/-! The hold of the gap (R439). -/

/-- Whether an SDI output sends an output slot. -/
def State.sdiSends (s : State) (r : Nat) : Bool := (s.listed' o3580_SDI_OUT_LINKS).any (fun l => s.rdN o3580_SDI_OUT_ENDPOINT l == 0x8000 + r)

/-- Embedded audio channels of an SDI output of a format: at most 16 on a 1.5G link (R163, R166). -/
def State.sdiOutAudio (s : State) (l fc : Nat) : Nat :=
  let n := s.rdN o3580_OUT_AUDIO_CHANNELS l
  match fmtSdi fc with
  | some (1, _) => min 16 n
  | _ => n

/-- What the SDI output of a row inserts into the frame that begins: the ST 352 identifier of the planned format when INSERT_PAYLOAD_ID is TRUE, and its embedded audio channels
(R166). DESIGN CHOICE: it is named once a frame, at the switching line (log entry 139). -/
def State.sdiInsert (s : State) (r : Nat) : State :=
  match (s.listed' o3580_SDI_OUT_LINKS).find? (fun l => s.rdN o3580_SDI_OUT_ENDPOINT l == 0x8000 + r) with
  | none => s
  | some l => s.emit (.sdi l (s.fcnt (s.destDomain r)) (if s.isOn o3580_INSERT_PAYLOAD_ID l then some (s.destFormat r) else none)
      (s.rdN o3580_OUT_AUDIO_BASE_CH l) (s.sdiOutAudio l (s.destFormat r)))

/-- F and V of the EAV of a line (R338). -/
def eavBits (fc line : Nat) : Bool × Bool := (fmtInterlaced fc && decide (564 ≤ line), !fmtActive fc line)

/-- What a sample that carries nothing else holds: luma, chroma (R338). -/
def idleSamples : Nat × Nat := (0x40, 0x200)

/-- A line of an SDI output on each of its links (R338). On four links each carries the lines of its sub-image, two lines of the picture to one of the link; PRESUMED from the mapping
standards (log entry 164). -/
def State.sdiRaster (s : State) (r line : Nat) : State :=
  if r < 4096 && s.sdiSends r then
    let fc := s.destFormat r
    let lanes := ((s.planned (0x8000 + r)).map (·.lanes)).getD []
    let (f, v) := eavBits fc line
    lanes.foldl (fun s l => s.emit (.sdiLine l (if lanes.length = 4 then (line + 1) / 2 else line) f v idleSamples)) s
  else s

/-- At the switching line of the frames after the one in which 'gap' was entered an SDI output repeats that frame; it is live again from the first switching line after 'gap'. -/
def State.noteHold (s : State) (r : Nat) : State :=
  let x := s.dest r
  let d := s.destDomain r
  if s.rd o1601_PAIR_STATE 0 = PAIR_STATE.gap ∧ s.sdiSends r ∧ s.pair.entered < (s.td d).tickAt then
    (if x.hold.isSome then s else s.setDest r { x with hold := some (s.fcnt d - 1) })
  else if x.hold.isSome then s.setDest r { x with hold := none } else s

/-- Time code packets of ST 12-1 (R439). -/
def isTimeCode (a : AncPkt) : Bool := a.did == 0x60 && a.sdid == 0x60

/-- The packets carried on a line with the frame that is repeated: time code counts on, the others follow R208. -/
def State.heldAnc (s : State) (r line m : Nat) : List AncPkt :=
  let x := s.dest r
  let mode := s.rd o4002_ANC_REPEAT r
  let here := (if x.carried.1 = m then x.carried.2 else []).filter (fun a => a.line == line)
  (here.filter (fun a => isTimeCode a || (mode != ANC_REPEAT.omit_all && !(mode == ANC_REPEAT.omit_captions && isCaption a)))).map
    (fun a => if isTimeCode a then { a with tc := a.tc + (s.fcnt (s.destDomain r) - m) } else a)

/-- Note the packets that an output carries on a line. -/
def State.noteCarried (s : State) (r line : Nat) (anc : List AncPkt) : State :=
  if anc = [] then s
  else
    let x := s.dest r
    let f := s.fcnt (s.destDomain r)
    s.setDest r { x with carried := (f, (if x.carried.1 = f then x.carried.2 else []) ++ anc.map (fun a => { a with line := line })) }

/-- Whether a destination reads a line: a tile reads every d-th line of its source's picture (R15, R343), from the first on (log entry 159). -/
def lineTaken (r fc line : Nat) : Bool := !(isTile r && fmtActive fc line) || fmtPictureLine fc line % max 1 (tileStep fc) == 0

/-- The read of line period `line` by destination row `r` (R192): frame choices at line 1, the pending route, the generator's setting and the hold of the gap at the switching line,
then the read. What the reading encoder does with the line is `k`. -/
def State.fabricLine (s : State) (k : Nat → Nat → List AncPkt → State → State) (r line : Nat) : State :=
  let fc := s.destFormat r
  if s.destDomain r = 255 ∨ s.readsNow r = false then s
  else
    let s := if line = 1 then (s.syncSelect (s.rdN o4002_CURRENT_SOURCE r)).destSelect r else s
    let s := if line = fmtSwitchLine fc then
        let s := s.applyRoute r
        let src := s.rdN o4002_CURRENT_SOURCE r
        let s := (s.setDest r { s.dest r with gen := if isGenerator src then some (s.genSetting src) else none }).noteHold r
        if r < 4096 then s.sdiInsert r else s
      else s
    if lineTaken r fc line = false then s else
    let s := s.sdiRaster r line
    let a := s.destLine r line
    let s := s.markRead (s.rdN o4002_CURRENT_SOURCE r) line (s.dest r).sync.isNone a
    match (s.dest r).hold with
    | some m =>
      let anc := s.heldAnc r line m
      let s := k r line anc s
      if fmtActive fc line ∨ anc ≠ [] then s.emit (.line r line (if fmtActive fc line then .held m else .black) anc) else s
    | none =>
      let here := s.destAnc r line a.what a.anc
      let (anc, s) := if r < 4096 then s.outputAnc r line here else (here, s)
      let s := (k r line anc s).noteCarried r line anc
      if fmtActive fc line ∨ anc ≠ [] then s.emit (.line r line (if fmtActive fc line then a.what else .black) anc) else s

/-! The audio crosspoint (R209, R211-R213). -/

/-- Lengths of the crossfades in samples (R212). -/
def fadeLength (c : Nat) : Nat := [0, 48, 240, 480, 960].getD c 0

/-- Whether a source channel carries non-PCM data (R214). -/
def State.nonPcm (s : State) (ch : Nat) : Bool := ch != silentCh && s.isOn o4102_SRC_NONPCM ch

/-- A take starts on a channel: a cut, or a crossfade from the old source (R212, R214). -/
def State.startTake (s : State) (ch : Nat) (t : AudTake) : State :=
  let old := s.rdN o4101_AUD_SOURCE ch
  let n := fadeLength t.fade
  let cut := n == 0 || s.nonPcm old || s.nonPcm t.src
  let s := s.setChan ch { s.chan ch with wait := none, fade := if cut then none else some (old, 0, n) }
  ((s.wr o4101_AUD_SOURCE ch t.src).bump o4101_AUD_TAKES ch).wr o4101_AUD_FADE_STATE ch (if cut then AUD_FADE_STATE.steady else AUD_FADE_STATE.fading)

/-- A channel at a cadence boundary: a crossfade that has run its length ends and a waiting take starts; a take whose boundary this is starts, or waits behind a running
crossfade (R211-R213). -/
def State.chanBoundary (s : State) (ch : Nat) : State :=
  let x := s.chan ch
  let ended : Bool := match x.fade with
    | some (_, i, n) => decide (n ≤ i)
    | none => false
  let s := if ended then
      let s := (s.setChan ch { x with fade := none }).wr o4101_AUD_FADE_STATE ch AUD_FADE_STATE.steady
      match x.wait with
      | some t => s.startTake ch t
      | none => s
    else s
  let x := s.chan ch
  match x.pend with
  | some t =>
    if t.since ≤ s.now then
      let s := s.setChan ch { x with pend := none }
      if x.fade.isSome then (s.setChan ch { s.chan ch with wait := some t }).wr o4101_AUD_FADE_STATE ch AUD_FADE_STATE.waiting else s.startTake ch t
    else s
  | none => s

/-- Samples of a channel in a cycle: its source's block, or the crossfade of two (R212). -/
def fadeSample (a b : List Int) (done len i : Nat) : Int :=
  let k := min len (done + i)
  (a.getD i 0 * ((len : Int) - k) + b.getD i 0 * k) / len

/-- Gain of a mute at an instant, in thousandths: 0 while silent, rising and falling over 1 ms (R53). -/
def muteGain (m : Mute) (t : Nat) : Nat :=
  if t + 1000000 ≤ m.down then 1000 else if t < m.down then (m.down - t) / 1000 else if t < m.up then 0 else if t < m.up + 1000000 then (t - m.up) / 1000 else 1000

/-- The block of a destination channel in this cycle (R209, R212), mutes applied. -/
def State.chanBlock (s : State) (ch : Nat) : List Int :=
  let src := s.rdN o4101_AUD_SOURCE ch
  let new := if src = silentCh then silence else s.sourceBlock src
  let b := match (s.chan ch).fade with
    | some (old, i, n) => (List.range blockSize).map (fadeSample (if old = silentCh then silence else s.sourceBlock old) new i n)
    | none => new
  s.aud.mutes.foldl (fun b m => if m.first ≤ ch ∧ ch < m.first + m.count then
      b.zipIdx.map (fun x => x.1 * (muteGain m (s.now + x.2 * 20833) : Nat) / 1000) else b) b

/-- Destination channels that have a source or a take. -/
def State.liveChans (s : State) : List Nat := (s.listed' o4101_AUD_SOURCE ++ s.aud.chans.map (·.1)).eraseDups

/-- The move of a channel's block; a missed move repeats the previous block (R58 kind 10). -/
def State.moveBlock (s : State) (missed : List Nat) (ch : Nat) : State :=
  let b := if missed.contains ch then (storeGet ch s.aud.heard).getD silence else s.chanBlock ch
  let s := { s with aud := { s.aud with heard := if b = silence then storeDel ch s.aud.heard else storePut natLt ch b s.aud.heard } }
  match (s.chan ch).fade with
  | some (old, i, n) => s.setChan ch { s.chan ch with fade := some (old, i + blockSize, n) }
  | none => s

/-- One cadence cycle of the crosspoint: takes at the boundary, then the moves (R209-R213). -/
def State.crosspoint (s : State) (missed : List Nat) : State :=
  let s := (s.aud.chans.map (·.1)).foldl State.chanBoundary s
  let s := s.salvoProgress
  let s := s.liveChans.foldl (fun s ch => s.moveBlock missed ch) s
  { s with aud := { s.aud with mutes := s.aud.mutes.filter (fun m => decide (s.now < m.up + 1000000)) } }

/-! The changeover of a domain (R50, R53, R206). -/

/-- Two plans of an endpoint are the same allocation (R53): slot, buffer address, format, alignment and read schedule; audio counts separately. -/
def sameAllocation (a b : PlanEndpoint) : Bool :=
  a.ep == b.ep && a.dom == b.dom && a.slot == b.slot && a.buffer == b.buffer && a.fmt == b.fmt && a.align == b.align && a.depth == b.depth && a.schedule == b.schedule

/-- The entry of a mint channel in a plan. -/
def planMint (p : Plan) (ch : Nat) : Option PlanMint := p.mints.find? (fun m => m.ch == ch)

/-- Two plans give a destination the same allocation, its mints included (R53); `moved`: the rate code of its domain changes, so that no allocation of it is the same (R50). -/
def keepsAllocation (moved : Bool) (old new : Plan) (o e : PlanEndpoint) : Bool :=
  !moved && sameAllocation o e && (e.ep / 4096 != 9 || planMint old (e.ep % 4096) == planMint new (e.ep % 4096))

/-- The initial source of a destination (R206). -/
def plannedSource (e : PlanEndpoint) : Nat := e.source.getD black0

/-- The path in force of a source under a plan, 'direct' where there is none. -/
def pathOr (p : Plan) (dst src : Nat) : Int :=
  match routePath p dst src with
  | .ok k => k
  | .error _ => ROUTE_PATH.direct

/-- A destination of the new plan at its domain's changeover: `old` is its entry in the plan before; `fresh`: the domain starts. -/
def State.changeDest (s : State) (was p : Plan) (dark fresh moved : Bool) (old : Option PlanEndpoint) (e : PlanEndpoint) : State :=
  match destRow e.ep with
  | none => s
  | some r =>
    let s := ((s.wr o4002_DEST_DOMAIN r e.dom).wr o4002_DEST_FORMAT r e.fmt).wr o4002_SWITCH_LINE r (fmtSwitchLine e.fmt)
    let cur := s.rdN o4002_CURRENT_SOURCE r
    let permits : Bool := match routePath p e.ep cur with
      | .ok _ => true
      | .error _ => false
    let fed := p.heads.any (fun h => h.outs.contains e.ep)
    let (src, black) := if fed then (headSource, fresh || (dark && (moved || !(old.any (sameAllocation e))))) else match old with
      | none => (plannedSource e, fresh || dark)
      | some o => if dark = false ∨ keepsAllocation moved was p o e then (cur, false) else (if permits then cur else plannedSource e, true)
    let x := s.dest r
    let path := pathOr p e.ep src
    let sync := if s.pathCopies path r src then some ((x.sync.filter (fun y => y.src == src)).getD (newSync src)) else none
    let s := s.setDest r { x with sync := sync, blackFrame := if black then some (s.fcnt e.dom) else x.blackFrame, missed := [] }
    let s := if src = cur ∧ old.isSome then s else (s.wr o4002_CURRENT_SOURCE r src).wr o4002_APPLIED_FCNT r (s.fcnt e.dom)
    let s := s.wr o4002_ROUTE_PATH r path
    if sync.isNone then s.wr o4002_SYNC_DELAY_NS r 0 else s

/-- A destination that the new bank does not plan: its pending route is discarded and it reads 'not planned' (R206). -/
def State.dropDest (s : State) (ep : Nat) : State :=
  match destRow ep with
  | none => s
  | some r =>
    let had := (s.dest r).pending.isSome
    let s := { s with fab := { s.fab with dests := storeDel r s.fab.dests } }
    let s := ((((s.wr o4002_DEST_DOMAIN r 255).wr o4002_DEST_FORMAT r 0).wr o4002_SWITCH_LINE r 0).wr o4002_PENDING_SOURCE r noSource).wr o4002_CURRENT_SOURCE r black0
    let s := (s.wr o4002_ROUTE_PATH r ROUTE_PATH.direct).wr o4002_SYNC_DELAY_NS r 0
    if had then s.wr o4002_APPLIED_FCNT r 0 else s

/-- An input slot of the new plan (R50, R193): one whose allocation is new is written afresh. -/
def State.changeSlot (s : State) (dark : Bool) (old : Option PlanEndpoint) (e : PlanEndpoint) : State :=
  let s := (s.wr o4003_ALIGN_MODE e.ep e.align).wr o4003_ALIGN_DEPTH e.ep e.depth
  let kept : Bool := match old with
    | some o => !dark || sameAllocation o e
    | none => false
  if kept then s
  else
    let x := s.buf e.ep
    (s.setBuf e.ep { ({} : Buf) with down := x.down, nextSerial := x.nextSerial }).wr o4003_ALIGN_STATE e.ep ALIGN_STATE.no_input

/-- An input slot that is no longer planned. -/
def State.dropSlot (s : State) (ep : Nat) : State :=
  let s := { s with med := { s.med with bufs := storeDel ep s.med.bufs } }
  (((s.wr o4003_ALIGN_MODE ep ALIGN_MODE.none).wr o4003_ALIGN_DEPTH ep 0).wr o4003_ALIGN_STATE ep ALIGN_STATE.not_planned).clear .FAB_INPUT_OFF_TIME ep

/-- Rates and flags of audio channels that the plans in force give (R214). -/
def State.audioPlan (s : State) : State :=
  let s := (s.listed' o4101_AUD_DEST_RATE).foldl (fun s c => s.wr o4101_AUD_DEST_RATE c 0) s
  let s := (s.listed' o4102_SRC_RATE).foldl (fun s c => (s.wr o4102_SRC_RATE c 0).wr o4102_SRC_NONPCM c 0) s
  ((s.plansInForce.map (·.audio)).flatten).foldl (fun s a => (List.range a.count).foldl (fun s i =>
    if a.dest then s.wr o4101_AUD_DEST_RATE (a.first + i) a.rate
    else (s.wr o4102_SRC_RATE (a.first + i) a.rate).wr o4102_SRC_NONPCM (a.first + i) (boolVal a.nonpcm)) s) s

/-- Quarter-slots of the two pools that the plans in force use (4001h). -/
def State.poolsPlan (s : State) : State :=
  (s.wr o4001_SRC_QSLOTS_USED 0 (sumNat (s.plansInForce.map (fun p => poolUse p false)))).wr
    o4001_DEST_QSLOTS_USED 0 (sumNat (s.plansInForce.map (fun p => poolUse p true)))

/-- What the changeover of a domain does to the fabric; `old` is the plan that served the domain before. -/
def State.fabricChangeover (s : State) (d : Nat) (old : Plan) (dark fresh moved : Bool) : State :=
  let new := s.planOf d
  let ins := fun (p : Plan) => p.endpoints.filter (fun e => e.dom == d && decide (e.ep < 4096))
  let outs := fun (p : Plan) => p.endpoints.filter (fun e => e.dom == d && isDest e.ep)
  let find := fun (l : List PlanEndpoint) (ep : Nat) => l.find? (fun e => e.ep == ep)
  let s := (ins new).foldl (fun s e => s.changeSlot dark (find (ins old) e.ep) e) s
  let s := ((ins old).filter (fun e => (s.planned e.ep).isNone)).foldl (fun s e => s.dropSlot e.ep) s
  let s := (outs new).foldl (fun s e => s.changeDest old new dark fresh moved (find (outs old) e.ep) e) s
  let s := ((outs old).filter (fun e => (s.planned e.ep).isNone)).foldl (fun s e => s.dropDest e.ep) s
  (s.audioPlan.poolsPlan).salvoProgress

end Sys2Proof.Machine
end

