-- ==== Sys2Proof/Machine/Mints.lean ====
section
/-! DEFINITION. Machine/Mints.lean: what the plan of a mint channel or XS channel fixes (R244-R253, R265-R269, R274-R282), and the check of it. -/

namespace Sys2Proof.Machine

open Sys2Proof

/-! Mints and rectangles (R245-R247). -/

/-- CTU size (R247, R250). -/
def ctuSize (codec : Nat) : Nat := if codec = 1 then 128 else 64

/-- Columns and CTU rows of the bands of a channel's picture (R247). -/
def subpics (fc codec : Nat) : Nat × List Nat :=
  let k := if codec = 1 then 1 else 2
  match mintCount fc with
  | 1 => (1, [if fmtScale fc = 1 then (if codec = 1 then 9 else 17) else 17 * k])
  | 2 => (2, [34 * k])
  | 4 => (2, [17 * k, 17 * k])
  | _ => (2, if codec = 1 then [9, 9, 8, 8] else [17, 17, 17, 17])

/-- CTUs in a row of a rectangle. -/
def ctuColumns (fc codec : Nat) : Nat := (if fmtScale fc = 1 then 1920 else 3840) / ctuSize codec

/-- CTUs of each rectangle, left to right, then top to bottom (R247). -/
def rectCtus (fc codec : Nat) : List Nat :=
  let (cols, bands) := subpics fc codec
  (bands.map (fun b => List.replicate cols (b * ctuColumns fc codec))).flatten

/-- Level of a format, times 10 (R249). -/
def encLevel (fc : Nat) : Nat :=
  let r := fmtRate fc
  match fmtRaster fc with
  | some .hd => if r ≤ 5 ∨ 0x0E ≤ r then 40 else if r ≤ 0x0A then 41 else 50
  | some .uhd => if r ≤ 5 then 50 else if r ≤ 0x0A then 51 else 52
  | some .uhd8k => if r ≤ 5 then 60 else if r ≤ 0x0A then 61 else 62
  | none => 0

/-- Profile of a codec and chroma (R249), numbered as 5000h.03. -/
def encProfile (codec chroma : Nat) : Int :=
  if chroma = 0 then ENC_PROFILE.main10 else if codec = 1 then ENC_PROFILE.main10_444 else ENC_PROFILE.main422_10

/-- DELAY_NS (R253): the mode's delay, rounded to the nearest ns. -/
def delayNs (fc mode : Nat) : Nat :=
  let p := period3 (fmtRate fc)
  match mode with
  | 0 => roundDiv p 12 + 250000
  | 1 => roundDiv p 3
  | _ => roundDiv (4 * p) 3

/-! The slot and the bits (R274-R282). -/

/-- Bytes of an audio PES with `n` samples of `ch` channels (R286). -/
def audioPes (n ch : Nat) : Nat := 14 + 4 + n * 7 * (ch / 2)

/-- TS packets of a PES. -/
def tsPackets (bytes : Nat) : Nat := ceilDiv bytes 184

/-- The largest sample count of a frame (R286). -/
def maxSamples (fc : Nat) : Nat := ceilDiv (period3 (fmtRate fc) * 48) 3000000

/-- A: packets of the audio region (R274). -/
def audioRegion (p : PlanMint) : Nat := p.streams * tsPackets (audioPes (maxSamples p.fmt) p.chPer)

/-- V: packets of the video region (R274). -/
def videoRegion (p : PlanMint) : Nat := 7 * p.datagrams - audioRegion p - p.anc - 2

/-- AU_MAX_BYTES (R277). -/
def auMaxBytes (p : PlanMint) : Nat := 184 * videoRegion p - 27

/-- Bytes reserved for the non-VCL NAL units (R277). -/
def nonVclBytes : Nat := 2048

/-- SHARE of a rectangle of `n` CTUs (R277). -/
def shareBytes (p : PlanMint) (n : Nat) : Nat :=
  let total := sumNat (rectCtus p.fmt p.codec)
  if total = 0 then 0 else (auMaxBytes p - nonVclBytes) * n / total

/-- Frame period of a channel in thirds of a ns. -/
def mintPeriod (p : PlanMint) : Nat := period3 (fmtRate p.fmt)

/-- D_90, RATE_V and the CPB size (R280). -/
def cpbDelay (p : PlanMint) : Nat := ceilDiv (mintPeriod p * 90000) 3000000000
def hrdRate (p : PlanMint) : Nat := ceilDiv (auMaxBytes p * 8 * 3000000000) (mintPeriod p)
def cpbSize (p : PlanMint) : Nat := ceilDiv (hrdRate p * cpbDelay p) 90000

/-- TS rate in bit/s (R275). -/
def tsRate (p : PlanMint) : Nat := roundDiv (p.datagrams * 1316 * 8 * 3000000000) (mintPeriod p)

/-- What the check of the books asks of a mint channel (R258, R277, R282). The limits of bit rate and CPB are those of the codecs' standards (log entry 23). -/
def mintFits (ls : List Ladder) (p : PlanMint) : Bool :=
  (match ls.find? (fun l => l.channel == p.ch) with
    | some l => decide (l.frameBudget ≤ p.slices)
    | none => false) &&
  (rectCtus p.fmt p.codec).all (fun n => decide (8 * n ≤ shareBytes p n)) &&
  decide (hrdRate p ≤ Config.hrdLimit p.codec p.chroma (encLevel p.fmt) p.tier ∧ cpbSize p ≤ Config.cpbLimit p.codec p.chroma (encLevel p.fmt) p.tier)

/-! The tools of the mints (R250, R251, R257). -/

/-- Bit `i` of TOOLS. -/
def toolBit (x : LadderTier) (i : Nat) (l : List Tool) : List Tool := if x.tools / 2 ^ i % 2 = 1 then l else []

/-- Tools that a tier of the ladder lets a picture use; an intra picture uses those of intra coding alone (R250, R257, R261). DEDUCED (log entry 162): MRL and CCLM belong to INTRA_SET
'all modes', AMVR to non-merge inter, and the tools of motion for which TOOLS has no bit go with merge. -/
def tierTools (p : PlanMint) (intra : Bool) (x : LadderTier) : List Tool :=
  let split := if 0 < x.maxDepth then [Tool.partitions] else []
  let modes := if x.intraSet = 0 then [Tool.allIntra] else []
  if p.codec ≠ 1 then split ++ modes
  else
    let fine := if x.intraSet = 0 then [Tool.mrl, .cclm] else []
    let inter := if intra then [] else
      [Tool.merge, .tmvp, .sbTmvp] ++ toolBit x 0 [.affine] ++ toolBit x 1 [.gpm] ++ toolBit x 2 [.ciip] ++ toolBit x 3 [.mmvd] ++ toolBit x 6 [.amvr] ++
        (if p.mode = 2 then toolBit x 5 [.bdof, .dmvr] else [])
    split ++ modes ++ fine ++ toolBit x 4 [.mip] ++ inter

/-- Tools that a channel uses in every tier (R250): LMCS for PQ sources, GDR where it is the refresh structure. -/
def planTools (p : PlanMint) (intra : Bool) : List Tool :=
  if p.codec = 1 then
    [.mts, .lfnst, .sbt, .jccr, .dependentQuant, .deblocking, .sao, .alf, .ccAlf] ++ (if p.colour = 2 then [Tool.lmcs] else []) ++ (if p.refresh = 0 then [Tool.gdr] else [])
  else [.deblocking, .sao] ++ (if intra then [] else [Tool.amp, .merge, .amvp, .tmvp])

/-- Tools of a picture whose CTUs used some tiers of the ladder. -/
def pictureTools (p : PlanMint) (ld : Ladder) (intra : Bool) (tiers : List Nat) : List Tool :=
  (planTools p intra ++ (tiers.map (fun t => ((ld.tiers[t]?).map (tierTools p intra)).getD [])).flatten).eraseDups

/-- What the mints never emit (R251). -/
def neverEmitted : List Tool :=
  [.isp, .resampling, .palette, .intraBlockCopy, .colourTransform, .bdpcm, .transformSkip, .scalingLists, .wavefront, .moreTiles, .longTermRefs, .moreLayers, .pcm, .crossComponent, .rdpcm,
    .extendedPrecision]

/-- Reference pictures at most (R252). -/
def maxRefs (mode : Nat) : Nat := if mode = 2 then 4 else 2

/-! The refresh structure (R283). -/

/-- Place of a picture in the refresh cycle of 'gdr': a cycle begins at the frame after a random-access picture, and after the last picture of the cycle before. -/
def refreshPlace (p : PlanMint) (rap : Bool) (since : Nat) : Option Nat :=
  if p.refresh ≠ 0 ∨ rap ∨ p.period = 0 then none else some ((since - 1) % p.period)

/-- Columns of every rectangle that a picture intra-codes, from and to: all in a random-access picture, the next ones in a refresh cycle. -/
def intraColumns (p : PlanMint) (rap : Bool) (place : Option Nat) : Nat × Nat :=
  let cols := ctuColumns p.fmt p.codec
  match rap, place with
  | true, _ => (0, cols)
  | false, some k => (min cols (k * ceilDiv cols p.period), min cols ((k + 1) * ceilDiv cols p.period))
  | false, none => (0, 0)

/-- Whether a slot's access unit lets a decoder start: an IDR picture, or the first of a refresh cycle (R289). -/
def isEntry (rap : Bool) (place : Option Nat) : Bool := rap || place == some 0

/-- The syntax of an access unit: `tiers` are those that its CTUs used, `captions` the bytes of its captions. -/
def auSyntax (p : PlanMint) (ld : Ladder) (rap : Bool) (place : Option Nat) (tiers : List Nat) (captions : Nat) (timecode : Bool) : AuSyntax :=
  { codec := p.codec
    profile := encProfile p.codec p.chroma
    level := encLevel p.fmt
    tier := p.tier
    chroma := p.chroma
    colour := p.colour
    fields := fmtInterlaced p.fmt
    ctu := ctuSize p.codec
    columns := (subpics p.fmt p.codec).1
    bands := (subpics p.fmt p.codec).2
    treatedAsPic := false
    loopAcross := true
    tools := pictureTools p ld rap tiers
    refs := maxRefs p.mode
    cpbDelay := cpbDelay p
    hrdRate := hrdRate p
    cpbSize := cpbSize p
    buffering := rap
    recovery := if place = some 0 then some (p.period - 1) else none
    intra := intraColumns p rap place
    captions := captions
    timecode := timecode }

/-! The system clock of a stream (R289). -/

/-- Counts of 27 MHz, to the thousandth, in a length given in thirds of a ns. -/
def sysOf3 (p3 : Nat) : Nat := p3 * 9

/-- 27 MHz and 90 kHz counts wrap as the PCR field of ISO/IEC 13818-1 does. PRESUMED from that standard (log entry 163). -/
def pcrModulus : Nat := 2 ^ 33 * 300
def ptsModulus : Nat := 2 ^ 33

/-- The clock values of a slot: `pcr` is the system clock at the release of its packet 0, `shown` that of the slot at the picture's output index. -/
def slotClock (p : PlanMint) (pcr shown lead : Nat) (rai : Bool) : SlotClock :=
  let stamp := fun (c : Nat) => (c / 300 + cpbDelay p) % ptsModulus
  let pts := if p.mode = 2 then stamp (shown + sysOf3 (mintPeriod p) / 1000) else stamp pcr
  { pcr := pcr % pcrModulus, dts := stamp pcr, pts := pts, audioPts := (pts + lead) % ptsModulus, rai := rai }

/-! XS channels (R265-R268). -/

/-- FRAME_BYTES (R267): `bpp` is in hundredths of a bit. -/
def xsFrameBytes (p : PlanXs) : Nat := p.bpp * (fmtWidth p.fmt * fmtHeight p.fmt) / 800

/-- XS_DELAY_NS (R268, R271). -/
def xsDelay (p : PlanXs) : Nat :=
  let line := fun (n : Nat) => roundDiv (n * period3 (fmtRate p.fmt)) (3 * fmtLines p.fmt)
  if p.dir = 1 then line 32 + 2000 else if p.align = 1 then line p.depth else 0

/-- Bits of a list of units. -/
def unitMask (l : List Nat) : Nat := sumNat (l.map (2 ^ ·))

end Sys2Proof.Machine
end

