-- ==== Sys2Proof/Machine/Coding.lean ====
section
/-! DEFINITION. Machine/Coding.lean: how the mints code a picture: bounded effort, the bit guard and the row QP (R256-R261, R277-R279). -/

namespace Sys2Proof.Machine

open Sys2Proof

/-- What is fixed while a rectangle is coded: F, B, ROW_SLACK, the tiers, CTUs and CTUs per row, SHARE, picture QP with MIN_QP and MAX_QP, whether RC_MODE is 'cbr', the target of the
whole picture in hundredths of a byte times `den`, and the CTUs of the picture; CTUs at which a slice or a reference fetch was overdrawn. -/
structure CodeEnv where
  frame : Nat
  budget : Nat
  slack : Nat
  tiers : List LadderTier
  ctus : Nat
  cols : Nat
  share : Nat
  qp : Int
  minQp : Int
  maxQp : Int
  cbr : Bool
  target100 : Nat
  den : Nat
  total : Nat
  missed : List Nat
deriving DecidableEq, Repr

/-- How far a rectangle has come: clocks spent S, row tier, "behind" at the start of the row before, whether the row is overdrawn, row QP, bits U, CTUs per tier, CTUs under
the floor guard and under the bit guard, and the sum of the QPs. -/
structure CodeAcc where
  spent : Nat := 0
  rowTier : Nat := 0
  behind : Int := 0
  overdrawn : Bool := false
  qp : Int
  bits : Nat := 0
  perTier : List Nat := List.replicate 8 0
  floor : Nat := 0
  guard : Nat := 0
  qpSum : Int := 0
deriving DecidableEq, Repr

/-- The last tier. -/
def CodeEnv.last (e : CodeEnv) : Nat := e.tiers.length - 1

/-- C_t. -/
def CodeEnv.ceiling (e : CodeEnv) (t : Nat) : Nat :=
  match e.tiers[t]? with
  | some x => x.ceiling
  | none => 0

/-- QP_OFFSET of a tier. -/
def CodeEnv.offset (e : CodeEnv) (t : Nat) : Int :=
  match e.tiers[t]? with
  | some x => x.qpOffset
  | none => 0

/-- The row tier at the start of a row after the first (R259). -/
def CodeEnv.nextTier (e : CodeEnv) (tier : Nat) (before behind : Int) : Nat :=
  if (e.slack : Int) < behind ∧ before < behind then min (tier + 1) e.last else if behind ≤ 0 then tier - 1 else tier

/-- The row QP at the start of a row after the first (R279): `i` CTUs of the rectangle are done. -/
def CodeEnv.nextQp (e : CodeEnv) (qp : Int) (bits i : Nat) : Int :=
  let have_ := bits * 100 * 100 * e.den * e.total
  let part := 8 * e.target100 * i
  let q := if 110 * part < have_ then qp + 1 else if have_ < 90 * part ∧ e.cbr then qp - 1 else qp
  max (e.qp - 6) (min (e.qp + 6) q)

/-- The start of a row after the first. -/
def CodeEnv.startRow (e : CodeEnv) (i : Nat) (x : CodeAcc) : CodeAcc :=
  let behind : Int := (x.spent : Int) - (i * e.budget : Nat)
  { x with rowTier := e.nextTier x.rowTier x.behind behind, behind := behind, overdrawn := false, qp := e.nextQp x.qp x.bits i }

/-- Add one to an entry of a list. -/
def bumpAt (i : Nat) (l : List Nat) : List Nat := l.modify i (· + 1)

/-- Bits that the CTUs after this one are kept (R278). -/
def keptBits (left : Nat) : Nat := (left - 1) * 64

/-- One CTU of a rectangle (R256, R259, R260, R278, R279, R369): `left` CTUs remain, this one included. -/
def CodeEnv.code (e : CodeEnv) (left : Nat) (c : Ctu) (x : CodeAcc) : CodeAcc :=
  let i := e.ctus - left
  let x := if i ≠ 0 ∧ i % e.cols = 0 then e.startRow i x else x
  let miss := e.missed.contains i
  let x := if miss then { x with overdrawn := true, spent := x.spent + c.missClocks } else x
  let t := if x.overdrawn then min (x.rowTier + 1) e.last else x.rowTier
  let guarded := decide (e.frame < x.spent + e.ceiling t + (left - 1) * e.ceiling e.last)
  let t := if guarded then e.last else t
  let room := 8 * e.share - keptBits left
  let broken := decide (room < x.bits + c.least)
  let floored := broken || c.poisoned
  let bits := if floored then min 64 c.floorBits else if x.bits + c.bits ≤ room then c.bits else c.least
  let clocks := if floored then min (e.ceiling e.last) c.floorClocks else min (e.ceiling t) (c.clocks.getD t (c.clocks.getLastD 0))
  { x with
    spent := x.spent + clocks
    bits := x.bits + bits
    perTier := bumpAt t x.perTier
    floor := x.floor + (if guarded then 1 else 0)
    guard := x.guard + (if broken then 1 else 0)
    qpSum := x.qpSum + max e.minQp (min e.maxQp (x.qp + e.offset t)) }

/-- The CTUs of a rectangle, `n` left: CTUs for which the content gives nothing cost nothing. -/
def CodeEnv.run (e : CodeEnv) : Nat → List Ctu → CodeAcc → CodeAcc
  | 0, _, x => x
  | n + 1, cs, x => e.run n cs.tail (e.code (n + 1) (cs.headD {}) x)

/-- A rectangle from its start. -/
def CodeEnv.rect (e : CodeEnv) (cs : List Ctu) : CodeAcc := e.run e.ctus cs { qp := e.qp }

/-! Picture QP (R279). -/

/-- round(6 log2(a / b)) within -4 to 4: the largest n of these with 2^(2n - 1) b^12 ≤ a^12. -/
def logStep (a b : Nat) : Int :=
  ([-3, -2, -1, 0, 1, 2, 3, 4] : List Int).foldl (fun best n =>
    let k := 2 * n - 1
    let le := if 0 ≤ k then decide (2 ^ k.toNat * b ^ 12 ≤ a ^ 12) else decide (b ^ 12 ≤ 2 ^ (-k).toNat * a ^ 12)
    if le then n else best) (-4)

/-- The picture QP: BASE_QP, or in 'cbr' the QP of the last picture of the type moved by its bytes against the target (hundredths of a byte times `den`). -/
def pictureQp (cbr : Bool) (base : Int) (last : Option (Int × Nat)) (target100 den : Nat) : Int :=
  match cbr, last with
  | true, some (q, bytes) => q + logStep (bytes * 100 * den) target100
  | _, _ => base

/-- The target in hundredths of a byte, as a fraction: AU_MAX_BYTES x fill, times min(1, complexity / mean of it and the next two) in 'look-ahead' (R279). -/
def targetOf (auMax fill : Nat) (look : Bool) (c : Nat × Nat × Nat) : Nat × Nat :=
  let sum := c.1 + c.2.1 + c.2.2
  if look ∧ 3 * c.1 < sum then (auMax * fill * 3 * c.1, sum) else (auMax * fill, 1)

end Sys2Proof.Machine
end

