-- ==== Sys2Proof/Machine/Encoding.lean ====
section
/-! DEFINITION. Machine/Encoding.lean: mint channels and XS channels at work: overrides, random access, access units, slots, changeover (R252-R296). -/

namespace Sys2Proof.Machine

open Sys2Proof

/-- The planned entry of a mint channel, and its ladder. -/
def State.mintPlan (s : State) (ch : Nat) : Option (PlanMint × Ladder) :=
  tdList.findSome? (fun d =>
    match (s.planOf d).mints.find? (fun p => p.ch == ch && p.dom == d), s.serving d with
    | some p, some b => some (p, ((s.bank b).ladders.find? (fun l => l.channel == ch)).getD ⟨ch, 0, 0, 0, 0, []⟩)
    | _, _ => none)

/-- Destination row of a mint channel, of an XS channel (R220). -/
def mintRow (ch : Nat) : Nat := 4096 + ch
def xsRow (c : Nat) : Nat := 4112 + c

/-! Writes (R263, R279, R284, R288). -/

/-- INPUT_OVERRIDE (R263, R273). -/
def writeOverride : Handler := onInt fun _ ch v s =>
  (stOK, ((s.wr o5001_INPUT_OVERRIDE ch v).setMint ch { s.mint ch with overrideNew := true }).alarmWhile .ENC_OVERRIDE ch (v != INPUT_OVERRIDE.none))

def execInputOverride (t port ch : Nat) (v : Int) (s : State) : Host.Outcome State Fault Refusal :=
  s.run t (fun s => s.opCmd writeOverride port o5001_INPUT_OVERRIDE ch (.int v))

/-- RAP_REQUEST 'idr' (R284). -/
def writeRap : Handler := onInt fun _ ch _ s => (stOK, s.setMint ch { s.mint ch with rapNew := true })

def execRapRequest (t port ch : Nat) (s : State) : Host.Outcome State Fault Refusal :=
  s.run t (fun s => s.opCmd writeRap port o5100_RAP_REQUEST ch (.int RAP_REQUEST.idr))

/-- BASE_QP, MIN_QP, MAX_QP, RC_TARGET_FILL (R279, R295): 1102h keeps MIN_QP at or below MAX_QP; HEVC takes no QP above 51. -/
def writeRc (o : Nat) : Handler := onInt fun c ch v s =>
  let lo := if o = o5100_MIN_QP then v else s.rd o5100_MIN_QP ch
  let hi := if o = o5100_MAX_QP then v else s.rd o5100_MAX_QP ch
  if o ≠ o5100_RC_TARGET_FILL ∧ s.rd o5000_ENC_CODEC ch = ENC_CODEC.hevc ∧ 51 < v then (stRANGE, s)
  else if hi < lo then (0x1102, s) else storeVal o c ch (.int v) s

/-- The four objects of the command; any other stands for RC_TARGET_FILL. -/
def rcObj (o : Nat) : Nat := if o = o5100_BASE_QP ∨ o = o5100_MIN_QP ∨ o = o5100_MAX_QP then o else o5100_RC_TARGET_FILL

def execRcParameterWrite (t port obj ch : Nat) (v : Int) (s : State) : Host.Outcome State Fault Refusal :=
  s.run t (fun s => s.opCmd (writeRc (rcObj obj)) port (rcObj obj) ch (.int v))

/-- PIDs of a channel (R288), with one object's value replaced. -/
def State.pids (s : State) (ch o : Nat) (v : Int) : List Int :=
  let of := fun (x : Nat) => if x = o then v else s.rd x ch
  [of o5100_PMT_PID, of o5100_VIDEO_PID, of o5100_ANC_PID] ++ (List.range (max 1 (s.rdN o5100_AUDIO_STREAMS ch))).map (fun (i : Nat) => of o5100_AUDIO_PID_BASE + (i : Int))

/-- Whether a list has no repeats. -/
def noRepeat : List Int → Bool
  | [] => true
  | x :: l => !l.contains x && noRepeat l

/-- Whether an output row of the stream has TX_ENABLE TRUE. -/
def State.streamSends (s : State) (ch : Nat) : Bool :=
  tdList.any (fun d => (s.planOf d).outRows.any (fun r => r.dom == d && r.kind == 6 && r.ep % 4096 == ch && s.isOn o3700_TX_ENABLE r.row))

/-- PIDs, program_number and transport_stream_id (R288). -/
def writePid (o : Nat) : Handler := onInt fun c ch v s =>
  let isPid := o != o5100_PROGRAM_NUMBER && o != o5100_TS_ID
  let l := s.pids ch o v
  if s.streamSends ch then (0x1101, s)
  else if isPid ∧ (l.any (fun p => decide (p < 0x10 ∨ 0x1FFE < p)) || !noRepeat l) then (0x1103, s)
  else storeVal o c ch (.int v) s

/-! The read of a frame (R262, R263, R279, R284). -/

/-- 48 kHz sample ticks from the frame tick at `r` for one frame period (R85, R286): they fall every 62,500/3 ns from the cadence boundary. -/
def State.frameSamples (s : State) (r p3 : Nat) : Nat :=
  let a : Int := 3 * ((r : Int) - s.cadenceAt)
  (a + p3 + 62499) / 62500 - (a + 62499) / 62500 |>.toNat

/-- Whether the refresh structure plans an IDR picture at this frame (R283). -/
def planIdr (p : PlanMint) (since : Nat) : Bool := p.refresh == 1 && decide (p.period ≤ since)

/-- 90 kHz counts from the frame tick at `r` to the first 48 kHz sample tick from there on, rounded down (R286). -/
def State.sampleLead (s : State) (r : Nat) : Nat :=
  let a : Int := 3 * ((r : Int) - s.cadenceAt)
  ((a + 62499) / 62500 * 62500 - a).toNat * 9 / 300000

/-- The system clock of the slot whose frame is being read: packet 0 leaves DELAY_NS and 126,000 ns after this instant, and the clock has run on from the frame's tick (R275, R289). -/
def State.slotPcr (s : State) (d delay : Nat) : Nat := ((s.td d).sys + (s.now - (s.td d).tickAt + delay + 126000) * 27) / 1000

/-- The read of the first active line of a frame starts: writes that wait take effect, and the picture joins those to be coded. -/
def State.mintRead (s : State) (ch : Nat) : State :=
  match s.mintPlan ch with
  | none => s
  | some (p, ld) =>
    let x := s.mint ch
    let f := s.fcnt p.dom
    let jump := (s.td p.dom).inJump
    let s := if x.overrideNew then s.wr o5001_OVERRIDE_FCNT ch f else s
    let s := if x.rapNew then s.wr o5100_RAP_FCNT ch f else s
    let ov := if x.overrideNew then s.rd o5001_INPUT_OVERRIDE ch else x.override
    let rap := x.force || x.rapNew || planIdr p x.sinceRap
    let pcr := s.slotPcr p.dom (s.rdN o5000_DELAY_NS ch)
    let tick := (s.td p.dom).tickAt
    let rc := [s.rd o5100_BASE_QP ch, s.rd o5100_MIN_QP ch, s.rd o5100_MAX_QP ch, s.rd o5100_RC_TARGET_FILL ch]
    let pic : MintPic := { fcnt := f, rap := rap, place := refreshPlace p rap x.sinceRap, pcr := pcr, lead := s.sampleLead tick, override := ov, rc := rc, plan := p, ladder := ld, anc := x.anc, samples := s.frameSamples tick (mintPeriod p) }
    s.setMint ch { x with
      pics := x.pics ++ [pic]
      dues := x.dues ++ [(s.now + s.rdN o5000_DELAY_NS ch, pcr)]
      overrideNew := false
      override := ov
      rapNew := false
      force := jump
      sinceRap := if rap then 1 else x.sinceRap + 1
      anc := [] }

/-- Ancillary data of a line joins the picture of its frame: before the first active line the one to be read next (R287). -/
def State.mintAnc (s : State) (ch : Nat) (early : Bool) (anc : List AncPkt) : State :=
  let x := s.mint ch
  match early, x.pics.getLast? with
  | false, some p => s.setMint ch { x with pics := x.pics.dropLast ++ [{ p with anc := p.anc ++ anc }] }
  | _, _ => s.setMint ch { x with anc := x.anc ++ anc }

/-! The access unit (R262, R274, R277). -/

/-- Bytes of an ancillary packet in the ST 2038 PES; PRESUMED from that standard: 70 bits and 10 per word, filled to a byte. -/
def ancBytes (a : AncPkt) : Nat := ceilDiv (70 + 10 * a.words) 8

/-- Packets carried as SEI or not at all (R287): captions, time code, ST 352. -/
def isCtaCaption (a : AncPkt) : Bool := a.did == 0x61 && a.sdid == 1
def isTimecode (a : AncPkt) : Bool := a.did == 0x60 && a.sdid == 0x60

/-- The packets, in order, that fit a number of bytes, up to the last that fits; and how many are dropped. -/
def fitting (size : AncPkt → Nat) : Nat → List AncPkt → Nat × Nat
  | _, [] => (0, 0)
  | room, a :: l => if size a ≤ room then let (u, n) := fitting size (room - size a) l; (u + size a, n) else (0, l.length + 1)

/-- Bytes of captions that an access unit carries: at most 512 (R287). -/
def captionBytes (anc : List AncPkt) : Nat := (fitting (·.words) 512 (anc.filter isCtaCaption)).1

/-- Ancillary data of a picture: TS packets of the ST 2038 PES, captions dropped, other packets dropped (R287). -/
def ancSplit (c : Nat) (anc : List AncPkt) : Nat × Nat × Nat :=
  let other := anc.filter (fun a => !isCtaCaption a && !isTimecode a && !isPayloadId a)
  let (used, lost) := fitting ancBytes (184 * c - 14) other
  let (_, caps) := fitting (·.words) 512 (anc.filter isCtaCaption)
  (if used = 0 then 0 else tsPackets (14 + used), caps, lost)

/-- The picture handed over next in decoding order (R252, R283), those left, and whether its predecessor in output order is still to come. -/
def takePic (look ahead : Bool) : List MintPic → Option (MintPic × List MintPic × Bool)
  | [] => none
  | [p] => some (p, [], false)
  | p :: q :: l => if look ∧ ahead = false ∧ p.rap = false ∧ q.rap = false then some (q, p :: l, true) else some (p, q :: l, false)

/-- PMT content of a channel (R288). -/
def State.pmtContent (s : State) (ch : Nat) (p : PlanMint) : List Nat :=
  [s.rdN o5100_PMT_PID ch, s.rdN o5100_VIDEO_PID ch, s.rdN o5100_AUDIO_PID_BASE ch, s.rdN o5100_ANC_PID ch, s.rdN o5100_PROGRAM_NUMBER ch, p.codec, p.streams, p.anc]

/-- The elementary streams of a channel, and its tables (R288): a video stream, ST 302M audio with the registration BSSD, ST 2038 data with the registration VANC. -/
def State.programMap (s : State) (ch : Nat) (p : PlanMint) : ProgramMap :=
  { tsId := s.rdN o5100_TS_ID ch
    program := s.rdN o5100_PROGRAM_NUMBER ch
    pmtPid := s.rdN o5100_PMT_PID ch
    version := s.rdN o5101_PMT_VERSION ch
    streams := [(if p.codec = 1 then 0x33 else 0x24, s.rdN o5100_VIDEO_PID ch, ([] : Bytes))] ++
      (List.range p.streams).map (fun i => (0x06, s.rdN o5100_AUDIO_PID_BASE ch + i, [0x42#8, 0x53#8, 0x53#8, 0x44#8])) ++
      (if p.anc = 0 then [] else [(0x06, s.rdN o5100_ANC_PID ch, [0x56#8, 0x41#8, 0x4E#8, 0x43#8])]) }

/-- Packets that carry data in a slot, by PID: video, audio streams 0-3, ancillary data, PAT, PMT (R274). -/
def pidPackets (p : PlanMint) (bytes samples anc : Nat) : List Nat :=
  [tsPackets (bytes + 27)] ++ (List.range 4).map (fun i => if i < p.streams then tsPackets (audioPes samples p.chPer) else 0) ++ [anc, 1, 1]

/-- The slot of an access unit (R274, R275). -/
def newSlot (p : PlanMint) (start bytes samples anc : Nat) (clock : SlotClock) : TsSlot :=
  { start := start
    period3 := mintPeriod p
    datagrams := p.datagrams
    regions := [videoRegion p, audioRegion p, p.anc]
    used := [tsPackets (bytes + 27), p.streams * tsPackets (audioPes samples p.chPer), anc]
    omits := p.rc == 1 && p.fec == 0
    clock := clock }

/-- Sums over the rectangles of a picture. -/
def sumRects (f : CodeAcc → Nat) (l : List CodeAcc) : Nat := sumNat (l.map f)

/-- The coding of a picture: one rectangle per mint. -/
def State.codePicture (s : State) (ch : Nat) (p : PlanMint) (ld : Ladder) (pic : MintPic) (au : AuContent) : Int × List CodeAcc :=
  let x := s.mint ch
  let cbr := p.rc == 0
  let (target, den) := targetOf (auMaxBytes p) (pic.rc.getD 3 0).toNat (p.mode == 2) au.complexity
  let last := if x.any then storeGet (if pic.rap then 1 else 0) x.lastQp else none
  let qp := pictureQp cbr (pic.rc.getD 0 0) last target den
  let ns := rectCtus p.fmt p.codec
  (qp, ns.zipIdx.map (fun e =>
    let env : CodeEnv := ⟨ld.frameBudget, ld.ctuBudget, ld.rowSlack, ld.tiers, e.1, ctuColumns p.fmt p.codec, shareBytes p e.1, qp, pic.rc.getD 1 0, pic.rc.getD 2 0, cbr, target, den,
      sumNat ns, (x.missed.filter (fun m => m.1 == e.2)).map (·.2)⟩
    env.rect (au.rects.getD e.2 [])))

/-- Clocks of the last picture on a mint, over its channels (5002h.04). -/
def State.noteClocks (s : State) (m : Nat) : State :=
  let of := fun (ch : Nat) => if ch = 255 then 0 else
    match s.mintPlan ch with
    | some (p, _) => (s.mint ch).lastClocks.getD (m - p.first) 0
    | none => 0
  s.wr o5002_LAST_FRAME_CLOCKS m (of (s.rdN o5002_MINT_CHANNEL_A m) + of (s.rdN o5002_MINT_CHANNEL_B m))

/-- What a coded picture leaves in the objects of its channel (5003h, 5101h). -/
def State.notePicture (s : State) (ch : Nat) (p : PlanMint) (pic : MintPic) (qp : Int) (l : List CodeAcc) (bytes : Nat) : State :=
  let tiers := (List.range 8).map (fun t => sumRects (fun r => r.perTier.getD t 0) l)
  let ctus := sumNat tiers
  let top := ((List.range 8).filter (fun t => tiers.getD t 0 != 0)).getLastD 0
  let floor := sumRects (·.floor) l
  let guard := sumRects (·.guard) l
  let s := (List.range 8).foldl (fun s t => s.wr (o5003_TIER0_CTUS + t) ch (tiers.getD t 0)) s
  let s := (s.wr o5003_FLOOR_GUARD_CTUS ch floor).wr o5003_MAX_TIER ch top
  let s := s.addTo o5003_PICTURES_CODED ch (if fmtInterlaced p.fmt then 2 else 1)
  let s := if 0 < top then s.bump o5003_PICTURES_COARSENED ch else s
  let s := if 0 < floor then (s.bump o5003_FLOOR_GUARD_PICTURES ch).raiseQuiet .ENC_EFFORT_FLOOR ch else s
  let s := if pic.override ≠ INPUT_OVERRIDE.none then s.bump o5003_OVERRIDE_PICTURES ch else s
  let s := (s.wr o5101_LAST_AU_BYTES ch bytes).wr o5101_PEAK_AU_BYTES ch (max (s.rdN o5101_PEAK_AU_BYTES ch) bytes)
  let s := (s.wr o5101_LAST_QP_X100 ch (((l.map (·.qpSum)).foldl (· + ·) 0) * 100 / ctus)).wr o5101_BIT_GUARD_CTUS ch guard
  let s := if 0 < guard then (s.bump o5101_BIT_GUARD_PICTURES ch).raiseQuiet .ENC_BIT_GUARD ch else s
  let s := if pic.rap then s.bump o5101_RAP_COUNT ch else s
  let x := s.mint ch
  let s := s.setMint ch { x with lastQp := storePut natLt (if pic.rap then 1 else 0) (qp, bytes) x.lastQp, lastClocks := l.map (·.spent), missed := [], any := true }
  (PlanMint_mints p).foldl State.noteClocks s

/-- The tiers that the CTUs of a picture used. -/
def usedTiers (l : List CodeAcc) : List Nat := (List.range 8).filter (fun t => sumRects (fun r => r.perTier.getD t 0) l != 0)

/-- The PMT of a slot: its version advances when its content has changed (R288). -/
def State.notePmt (s : State) (ch : Nat) (p : PlanMint) : State :=
  let c := s.pmtContent ch p
  let x := s.mint ch
  let s := s.setMint ch { x with pmt := some c }
  match x.pmt with
  | some o => if o = c then s else s.wr o5101_PMT_VERSION ch ((s.rd o5101_PMT_VERSION ch + 1) % 32)
  | none => s

/-- An access unit is handed over at its instant, in the layout planned when its frame was read (R247-R252, R262, R264, R275, R289, R294). -/
def State.handover (s : State) (ch : Nat) (au : AuContent) : State :=
  match s.mintPlan ch with
  | none => s
  | some (now, _) =>
    let x := s.mint ch
    match x.dues, takePic (now.mode == 2) x.ahead x.pics with
    | (due, pcr) :: dues, some (pic, rest, ahead) =>
      if s.now < due then s
      else
        let p := pic.plan
        let ld := pic.ladder
        let (qp, l) := s.codePicture ch p ld pic au
        let bytes := min nonVclBytes au.nonVcl + sumRects (fun r => ceilDiv r.bits 8) l
        let s := s.setMint ch { x with pics := rest, dues := dues, ahead := ahead }
        let s := s.notePicture ch p pic qp l bytes
        let (pk, caps, lost) := ancSplit p.anc pic.anc
        let s := s.addTo o5101_ANC_DROPPED ch (caps + lost)
        let s := if 0 < lost then s.raiseQuiet .ENC_ANC_OVERFLOW ch else s
        let s := s.notePmt ch p
        let y := s.mint ch
        let slot := newSlot p (due + 126000) bytes pic.samples pk (slotClock p pcr pic.pcr pic.lead (isEntry pic.rap pic.place))
        let s := s.setMint ch { y with
          slots := ({ slot with counters := y.counters, tables := s.programMap ch p } :: x.slots).take 3
          counters := (y.counters.zip (pidPackets p bytes pic.samples pk)).map (fun e => (e.1 + e.2) % 16) }
        let s := if s.rd o5000_ENC_STATE ch = ENC_STATE.starting then s.wr o5000_ENC_STATE ch ENC_STATE.running else s
        let s := if (s.mint ch).discont then (s.setMint ch { s.mint ch with discont := false }).emit (.discontinuity ch) else s
        s.emit (.au ch pic.fcnt bytes pic.rap pic.override (auSyntax p ld pic.rap pic.place (usedTiers l) (captionBytes pic.anc) (pic.anc.any isTimecode)))
    | _, _ => s


/-- A CTU slice or reference fetch of rectangle `rect` was overdrawn at a CTU (R58 kind 4, R260): it is counted on its mint. -/
def State.ctuMissed (s : State) (ch rect ctu : Nat) : State :=
  match s.mintPlan ch with
  | none => s
  | some (p, _) =>
    let s := s.setMint ch { s.mint ch with missed := (rect, ctu) :: (s.mint ch).missed }
    s.bump o5002_MINT_OVERDRAFTS (p.first + rect)

/-! States of mints and XS engines (5002h.01, 5010h.01). -/

/-- Mints and XS engines. -/
def mintList : List Nat := List.range 16
def xsEngineList : List Nat := List.range 8

/-- MINT_STATE and XS_ENGINE_STATE follow the power domains and the plans; ENC_MINT_FAULT (R245, R265, R273). -/
def State.noteUnits (s : State) : State :=
  let s := mintList.foldl (fun s m =>
    let pd := s.pdState (24 + m)
    let served := s.rdN o5002_MINT_CHANNEL_A m != 255
    let st := if pd = PD_STATE.fault ∨ pd = PD_STATE.locked_off then MINT_STATE.fault
      else if pd ≠ PD_STATE.on then MINT_STATE.off else if served then MINT_STATE.coding else MINT_STATE.idle
    (s.wr o5002_MINT_STATE m st).alarmWhile .ENC_MINT_FAULT m (st == MINT_STATE.fault && s.activePlan.power.contains (24 + m))) s
  xsEngineList.foldl (fun s x =>
    s.wr o5010_XS_ENGINE_STATE x (if s.pdOn (40 + x) = false then XS_ENGINE_STATE.off
      else if s.rdN o5010_XS_ENGINE_CHANNELS x = 0 then XS_ENGINE_STATE.idle else XS_ENGINE_STATE.running)) s

/-! The changeover of a domain (R50, R51, R53, R264). -/

/-- Planned readings of a mint channel (5000h, 5004h, 5100h). -/
def State.noteMint (s : State) (p : PlanMint) (ld : Ladder) : State :=
  let ch := p.ch
  let (cols, bands) := subpics p.fmt p.codec
  let vals : List (Nat × Nat) := [(o5000_ENC_CODEC, p.codec), (o5000_ENC_PROFILE, (encProfile p.codec p.chroma).toNat), (o5000_ENC_LEVEL, encLevel p.fmt), (o5000_ENC_TIER, p.tier),
    (o5000_ENC_DOMAIN, p.dom), (o5000_ENC_FORMAT, p.fmt), (o5000_ENC_CHROMA, p.chroma), (o5000_DELAY_MODE, p.mode), (o5000_DELAY_NS, delayNs p.fmt p.mode),
    (o5000_MINT_MASK, unitMask (PlanMint_mints p)), (o5000_MINT_SHARE, if mintHalves p.fmt = 1 then 1 else 2), (o5000_SUBPIC_COLUMNS, cols), (o5000_SUBPIC_BANDS, bands.length),
    (o5000_CTU_SIZE, ctuSize p.codec), (o5000_LADDER_TIERS, ld.tiers.length), (o5000_CTU_BUDGET, ld.ctuBudget), (o5000_ROW_SLACK, ld.rowSlack)] ++
    [(o5100_RC_MODE, p.rc), (o5100_TS_RATE_BPS, tsRate p), (o5100_DATAGRAMS_PER_SLOT, p.datagrams), (o5100_VIDEO_PACKETS, videoRegion p), (o5100_AUDIO_PACKETS, audioRegion p),
    (o5100_ANC_PACKETS, p.anc), (o5100_AU_MAX_BYTES, auMaxBytes p), (o5100_HRD_BIT_RATE, hrdRate p), (o5100_CPB_SIZE_BITS, cpbSize p), (o5100_CPB_DELAY_90K, cpbDelay p),
    (o5100_REFRESH, p.refresh), (o5100_REFRESH_PERIOD, p.period), (o5100_FEC_MODE, p.fec), (o5100_FEC_L, p.fecL), (o5100_FEC_D, p.fecD), (o5100_AUDIO_STREAMS, p.streams),
    (o5100_AUDIO_CH_PER_STREAM, if p.streams = 0 then 0 else p.chPer)]
  let s := vals.foldl (fun s e => s.wr e.1 ch e.2) s
  (List.range 8).foldl (fun s t =>
    let r := ch * 8 + t
    let x := ld.tiers.getD t ⟨0, 0, 0, 0, 0, 0, 0⟩
    ((((((s.wr o5004_LAD_SEARCH_H r x.searchH).wr o5004_LAD_SEARCH_V r x.searchV).wr o5004_LAD_INTRA_SET r x.intraSet).wr o5004_LAD_MAX_DEPTH r x.maxDepth).wr
      o5004_LAD_QP_OFFSET r x.qpOffset).wr o5004_LAD_TOOLS r x.tools).wr o5004_LAD_CEILING r x.ceiling) s

/-- Objects that the plan of a mint channel fixes. -/
def mintPlanned : List Nat :=
  (List.range 17).map (o5000_ENC_CODEC + ·) ++ (List.range 15).map (o5100_RC_MODE + ·) ++ [o5100_AUDIO_STREAMS, o5100_AUDIO_CH_PER_STREAM]

/-- A mint channel is no longer planned: pictures read are not handed over (R264). -/
def State.dropMint (s : State) (ch : Nat) : State :=
  let s := mintPlanned.foldl (fun s o => s.wr o ch (objDefault o ch)) s
  let s := (List.range 8).foldl (fun s t => (List.range 7).foldl (fun s k => s.wr (o5004_LAD_SEARCH_H + k) (ch * 8 + t) 0) s) s
  { s.wr o5000_ENC_STATE ch ENC_STATE.not_planned with enc := { s.enc with chans := storeDel ch s.enc.chans } }

/-- A mint channel of the new plan at its domain's changeover: it starts, or runs on with a random-access picture when its mints or, in a dark swap, its allocation (`kept`: not)
change. -/
def State.changeMint (s : State) (dark kept : Bool) (old : Option PlanMint) (p : PlanMint) (ld : Ladder) : State :=
  let s := s.noteMint p ld
  match old with
  | none => (s.setMint p.ch {}).wr o5000_ENC_STATE p.ch ENC_STATE.starting
  | some o =>
    let force := if dark then !kept else PlanMint_mints o != PlanMint_mints p
    s.setMint p.ch { s.mint p.ch with force := (s.mint p.ch).force || force }

/-- MINT_CHANNEL_A and _B, FRAME_BUDGET and the engines of XS channels over the plans in force. -/
def State.noteMints (s : State) : State :=
  let ms : List (PlanMint × Ladder) := (List.range 16).filterMap s.mintPlan
  let xs := (tdList.map (fun d => (s.planOf d).xs.filter (fun p => p.dom == d))).flatten
  let s := mintList.foldl (fun s m =>
    let on := ms.filter (fun e => (PlanMint_mints e.1).contains m)
    let chs := on.map (·.1.ch)
    (((s.wr o5002_MINT_CHANNEL_A m (chs.getD 0 255)).wr o5002_MINT_CHANNEL_B m (chs.getD 1 255)).wr o5002_FRAME_BUDGET m (sumNat (on.map (·.2.frameBudget)))).noteClocks m) s
  let s := xsEngineList.foldl (fun s x => s.wr o5010_XS_ENGINE_CHANNELS x ((xs.filter (fun p => (PlanXs_engines p).contains x)).length)) s
  s.noteUnits

/-- Planned readings of an XS channel (5011h). -/
def State.noteXsPlan (s : State) (p : PlanXs) (fresh : Bool) : State :=
  let vals : List (Nat × Nat) := [(o5011_XS_DIRECTION, p.dir), (o5011_XS_FORMAT, p.fmt), (o5011_XS_DOMAIN, p.dom), (o5011_XS_ENGINE_MASK, unitMask (PlanXs_engines p)),
    (o5011_XS_BPP, if p.dir = 1 then p.bpp else 0), (o5011_FRAME_BYTES, if p.dir = 1 then xsFrameBytes p else 0), (o5011_XS_DELAY_NS, xsDelay p), (o5011_XS_ALIGN_MODE, p.align),
    (o5011_XS_ALIGN_DEPTH, p.depth)]
  let s := vals.foldl (fun s e => s.wr e.1 p.ch e.2) s
  let s := if p.dir = 1 ∨ fresh then ((s.wr o5011_XS_PROFILE p.ch p.profile).wrOct o5011_XS_LEVEL p.ch p.level).wrOct o5011_XS_SUBLEVEL p.ch p.sublevel else s
  if fresh then s.wr o5011_XS_STATE p.ch XS_STATE.starting else s

/-- An XS channel is no longer planned. -/
def State.dropXs (s : State) (c : Nat) : State :=
  let s := [o5011_XS_STATE, o5011_XS_DIRECTION, o5011_XS_PROFILE, o5011_XS_FORMAT, o5011_XS_DOMAIN, o5011_XS_ENGINE_MASK, o5011_XS_BPP, o5011_FRAME_BYTES, o5011_XS_DELAY_NS,
    o5011_XS_ALIGN_MODE, o5011_XS_ALIGN_DEPTH, o5011_XS_ARRIVAL_OFFSET_NS].foldl (fun s o => s.wr o c (objDefault o c)) s
  (((s.wrOct o5011_XS_LEVEL c []).wrOct o5011_XS_SUBLEVEL c []).clear .XS_OFF_TIME c)

/-- What the changeover of a domain does to the encoders; `old` is the plan that served the domain before. -/
def State.encoderChangeover (s : State) (d : Nat) (old : Plan) (dark moved : Bool) : State :=
  let new := s.planOf d
  let ms := fun (p : Plan) => p.mints.filter (fun m => m.dom == d)
  let xs := fun (p : Plan) => p.xs.filter (fun m => m.dom == d)
  let s := ((ms old).filter (fun m => (s.mintPlan m.ch).isNone)).foldl (fun s m => s.dropMint m.ch) s
  let s := (ms new).foldl (fun s m =>
    match s.mintPlan m.ch with
    | some (p, ld) =>
      let kept : Bool := match planEp old (0x9000 + m.ch), planEp new (0x9000 + m.ch) with
        | some a, some b => keepsAllocation moved old new a b
        | _, _ => false
      s.changeMint dark kept ((ms old).find? (fun o => o.ch == m.ch)) p ld
    | none => s) s
  let s := ((xs old).filter (fun m => (xs new).all (fun n => n.ch != m.ch))).foldl (fun s m => s.dropXs m.ch) s
  let s := (xs new).foldl (fun s m => s.noteXsPlan m ((xs old).all (fun o => o.ch != m.ch))) s
  s.noteMints

/-! The read of a line by a mint channel or an XS encoder. -/

/-- What a line read does to the encoder that reads it: the first active line starts a frame, ancillary data joins it, an XS encoder ends its frame at the last active line. -/
def State.encoderLine (s : State) (row line : Nat) (anc : List AncPkt) : State :=
  if 4096 ≤ row ∧ row < 4112 then
    let ch := row - 4096
    let s := if line = fmtFirstActive (s.destFormat row) then s.mintRead ch else s
    if anc = [] then s else s.mintAnc ch (decide (line < fmtFirstActive (s.destFormat row))) anc
  else if 4112 ≤ row ∧ row < 4128 then
    let c := row - 4112
    let fc := s.destFormat row
    if s.rd o5011_XS_DIRECTION c = XS_DIRECTION.encode ∧ fmtActive fc line ∧ fmtActive fc (line + 1) = false ∧ (fmtInterlaced fc = false ∨ 584 ≤ line) then
      (s.bump o5012_XS_FRAMES c).wr o5011_XS_STATE c XS_STATE.running
    else s
  else s

end Sys2Proof.Machine
end

