-- ==== Sys2Proof/Machine/Pixels.lean ====
section
/-! DEFINITION. Machine/Pixels.lean: pixels of surfaces, keys and blending (R302-R304), and the CRC of a sealed layer's region (R327). -/

namespace Sys2Proof.Machine

open Sys2Proof

/-! Blending (R302, R303). -/

/-- Blend of a layer sample over what lies below it, with straight alpha. -/
def blendStraight (l b a : Nat) : Nat := (l * a + b * (1023 - a) + 511) / 1023

/-- The same with premultiplied alpha, clamped to the sample range. -/
def blendPremult (l b a : Nat) : Nat := min 1023 (l + (b * (1023 - a) + 511) / 1023)

/-- Key of 'luma' and 'linear' from a luma sample. -/
def lumaKey (y clip gain : Nat) : Nat := (max 0 (min 1023 ((((y : Int) - clip) * gain) / 64))).toNat

/-- α of a pixel from its key and GLOBAL_ALPHA. -/
def pixelAlpha (key global : Nat) : Nat := key * global / 1023

/-- The key of a layer's pixel: its own alpha, its own luma, and the co-sited luma of the key layer. -/
def layerKey (x : LayerCfg) (alpha luma keyLuma : Nat) : Nat :=
  if x.keyMode = KEY_MODE.surface then alpha
  else if x.keyMode = KEY_MODE.luma then lumaKey luma x.keyClip x.keyGain
  else if x.keyMode = KEY_MODE.linear then lumaKey keyLuma x.keyClip x.keyGain
  else 1023

/-- One sample of a layer's pixel over the result below (R302): outside the destination rectangle, or disabled, the layer adds nothing. -/
def overPixel (x : LayerCfg) (premult inside : Bool) (sample key below : Nat) : Nat :=
  if x.enable && inside then (if premult then blendPremult sample below (pixelAlpha key x.alpha) else blendStraight sample below (pixelAlpha key x.alpha)) else below

/-- A layer's part in a sample of the output: configuration, whether its surface is premultiplied, whether the pixel lies in its rectangle and no layer takes it as key (R303), sample, key. -/
structure LayerSample where
  cfg : LayerCfg
  premult : Bool
  inside : Bool
  sample : Nat
  key : Nat
deriving DecidableEq, Repr

/-- A sample of the output: from the background upwards through the layers (R302). -/
def composeSample (bg : Nat) (l : List LayerSample) : Nat := l.foldl (fun b x => overPixel x.cfg x.premult x.inside x.sample x.key b) bg

/-! Surface formats (R304). -/

/-- Twice the bytes of a pixel of a format. -/
def bytes2 (f : Int) : Nat := if f = SURF_FORMAT.rgb565 then 4 else if f = SURF_FORMAT.rgb888 then 6 else if f = SURF_FORMAT.ycbcr422_10 then 5 else 8

/-- Bytes of `n` pixels. -/
def pixelBytes (f : Int) (n : Nat) : Nat := n * bytes2 f / 2

/-- Expand a component of `n` bits to 10 by bit replication. -/
def expand10 (n v : Nat) : Nat :=
  match n with
  | 2 => v * 341
  | 5 => v * 32 + v
  | 6 => v * 16 + v / 4
  | 8 => v * 4 + v / 64
  | _ => v

/-- R, G, B and alpha of a pixel at 10 bits, from its bytes as a little-endian number (rgb888: bytes R, G, B). -/
def rgbaOf (f : Int) (v : Nat) : Nat × Nat × Nat × Nat :=
  if f = SURF_FORMAT.rgb565 then (expand10 5 (v / 2048 % 32), expand10 6 (v / 32 % 64), expand10 5 (v % 32), 1023)
  else if f = SURF_FORMAT.rgb888 then (expand10 8 (v % 256), expand10 8 (v / 256 % 256), expand10 8 (v / 65536 % 256), 1023)
  else if f = SURF_FORMAT.argb8888 then (expand10 8 (v / 65536 % 256), expand10 8 (v / 256 % 256), expand10 8 (v % 256), expand10 8 (v / 16777216 % 256))
  else (v / 1048576 % 1024, v / 1024 % 1024, v % 1024, expand10 2 (v / 1073741824 % 4))

/-- A surface. -/
def State.surf (s : State) (h : Nat) : Surf := (storeGet h s.cmp.surfs).getD {}

/-- Set a surface. -/
def State.setSurf (s : State) (h : Nat) (x : Surf) : State := { s with cmp := { s.cmp with surfs := storePut natLt h x s.cmp.surfs } }

/-- A byte of a surface's pixels. -/
def Surf.byte (x : Surf) (o : Nat) : Nat := ((storeGet o x.bytes).getD 0#8).toNat

/-- `n` bytes as a little-endian number, as a big-endian one. -/
def Surf.le (x : Surf) (o n : Nat) : Nat := (List.range n).foldl (fun v i => v + x.byte (o + i) * 256 ^ i) 0
def Surf.be (x : Surf) (o n : Nat) : Nat := (List.range n).foldl (fun v i => v * 256 + x.byte (o + i)) 0

/-- Width, height, format of a surface. -/
def State.surfW (s : State) (h : Nat) : Nat := s.rdN o6100_SURF_WIDTH h
def State.surfH (s : State) (h : Nat) : Nat := s.rdN o6100_SURF_HEIGHT h
def State.surfFmt (s : State) (h : Nat) : Int := s.rd o6100_SURF_FORMAT h

/-- Uncompressed bytes of a surface. -/
def State.surfBytes (s : State) (h : Nat) : Nat := pixelBytes (s.surfFmt h) (s.surfW h) * s.surfH h

/-- R, G, B, alpha of a pixel of an RGB surface. -/
def State.surfRgba (s : State) (h px py : Nat) : Nat × Nat × Nat × Nat :=
  let f := s.surfFmt h
  let n := bytes2 f / 2
  rgbaOf f ((s.surf h).le ((py * s.surfW h + px) * n) n)

/-- Y, Cb and Cr of a pixel of a surface as a compositor takes it: stored as they are, or converted with the matrix of an output's colorimetry, chroma filtered by (1, 2, 1)/4. How
the conversion rounds is not stated (log entry 24). -/
def State.surfYcc (s : State) (colour h px py : Nat) : Nat × Nat × Nat :=
  if s.surfFmt h = SURF_FORMAT.ycbcr422_10 then
    let v := (s.surf h).be (pixelBytes SURF_FORMAT.ycbcr422_10 (py * s.surfW h) + px / 2 * 5) 5
    (if px % 2 = 0 then v / 2 ^ 20 % 1024 else v % 1024, v / 2 ^ 30 % 1024, v / 2 ^ 10 % 1024)
  else
    let at_ := fun (x : Nat) => s.surfRgba h (min (s.surfW h - 1) x) py
    (Config.lumaOf colour (at_ px), Config.chromaOf colour false (at_ (px - 1)) (at_ px) (at_ (px + 1)), Config.chromaOf colour true (at_ (px - 1)) (at_ px) (at_ (px + 1)))

/-- Alpha of a pixel of a surface (R303): 1,023 for formats without. -/
def State.surfAlpha (s : State) (h px py : Nat) : Nat := if s.surfFmt h = SURF_FORMAT.ycbcr422_10 then 1023 else (s.surfRgba h px py).2.2.2

/-! The sealed layer's region (R327). -/

/-- Columns or lines that a destination rectangle shares with a picture of `n`. -/
def clip (from_ : Int) (len n : Nat) : List Nat :=
  let lo := (max 0 from_).toNat
  let hi := (min (n : Int) (from_ + len)).toNat
  (List.range (hi - lo)).map (lo + ·)

/-- The 16-bit halfwords of a line of the region: Cb, Y, Cr, Y. -/
def State.sealLine (s : State) (colour : Nat) (x : LayerCfg) (cols : List Nat) (py : Nat) : Bytes :=
  (cols.map (fun (c : Nat) =>
    let px := (((c : Int) - x.dstX).toNat + x.srcX)
    let (y, cb, cr) := s.surfYcc colour x.surface px py
    if c % 2 = 0 then leBytes 2 cb ++ leBytes 2 y ++ leBytes 2 cr else leBytes 2 y)).flatten

/-- The expected value: CRC-32C of the region's pixels in raster order. -/
def State.sealExpected (s : State) (colour : Nat) (x : LayerCfg) (w h : Nat) : Nat :=
  let cols := clip x.dstX x.dstW w
  crc32c (((clip x.dstY x.dstH h).map (fun (r : Nat) => s.sealLine colour x cols (((r : Int) - x.dstY).toNat + x.srcY))).flatten)

/-- Whether the layer is enabled and its rectangle meets the picture. -/
def sealVisible (x : LayerCfg) (w h : Nat) : Bool := x.enable && clip x.dstX x.dstW w != [] && clip x.dstY x.dstH h != []

end Sys2Proof.Machine
end

