-- ==== Sys2Proof/Machine/Compositor.lean ====
section
/-! DEFINITION. Machine/Compositor.lean: layers, commits, the latch instant, surfaces, plates and the sealed layer (R297-R333). -/

namespace Sys2Proof.Machine

open Sys2Proof

/-- A compositor beside its objects. -/
def State.comp (s : State) (c : Nat) : Comp := (storeGet c s.cmp.comps).getD {}

/-- Set a compositor. -/
def State.setComp (s : State) (c : Nat) (x : Comp) : State := { s with cmp := { s.cmp with comps := storePut natLt c x s.cmp.comps } }

/-- Row of layer `l` of compositor `c`. -/
def layerRow (c l : Nat) : Nat := c * 8 + l

/-- The entry of a compositor in a plan. -/
def planComp (p : Plan) (c : Nat) : Option PlanComp := p.comps.find? (fun x => x.c == c)

/-- The compositor that a plan gangs with the one before it. -/
def planSecond (p : Plan) (c : Nat) : Option PlanComp := p.comps.find? (fun x => x.gang && x.c + 1 == c)

/-- The entry of a compositor in the plans in force. -/
def State.compPlan (s : State) (c : Nat) : Option PlanComp :=
  tdList.findSome? (fun d => (s.planOf d).comps.find? (fun x => x.c == c && x.dom == d))

/-- Compositors that the plans in force hold. -/
def State.compsPlanned (s : State) : List PlanComp := (tdList.map (fun d => (s.planOf d).comps.filter (fun x => x.dom == d))).flatten

/-- The sealed layer of a compositor. -/
def sealedOf (p : PlanComp) : Option Nat := if p.sealed then some (p.layers.length - 1) else none

/-- The staged configuration of a layer (6002h). -/
def State.staged (s : State) (r : Nat) : LayerCfg :=
  { enable := s.isOn o6002_ENABLE r
    surface := s.rdN o6002_SURFACE r
    srcX := s.rdN o6002_SRC_X r
    srcY := s.rdN o6002_SRC_Y r
    srcW := s.rdN o6002_SRC_W r
    srcH := s.rdN o6002_SRC_H r
    dstX := s.rd o6002_DST_X r
    dstY := s.rd o6002_DST_Y r
    dstW := s.rdN o6002_DST_W r
    dstH := s.rdN o6002_DST_H r
    alpha := s.rdN o6002_GLOBAL_ALPHA r
    keyMode := s.rd o6002_KEY_MODE r
    keyLayer := s.rdN o6002_KEY_LAYER r
    keyClip := s.rdN o6002_KEY_CLIP r
    keyGain := s.rdN o6002_KEY_GAIN r
    everyFrame := s.rd o6002_UPDATE_MODE r == UPDATE_MODE.every_frame
    static := s.isOn o6002_STATIC r }

/-! Staged writes (R297, R301, R317, R325). -/

/-- A write of a staged layer value. -/
def writeStaged (o : Nat) : Handler := fun ctx r v s =>
  let c := r / 8
  let st := s.rd o6000_COMP_STATE c
  if st = COMP_STATE.gang_second ∨ st = COMP_STATE.converter then (0x1208, s)
  else
    let m := s.rdN o6000_STAGED_MASK c
    storeVal o ctx r v (s.wr o6000_STAGED_MASK c (m ||| 2 ^ (r % 8) : Nat))

/-- A write of the background; bits 31:30 of a colour word, to which the layout gives no meaning, are ignored (log entry 143). -/
def writeBackground : Handler := onInt fun _ c v s =>
  if s.rd o6000_COMP_STATE c = COMP_STATE.gang_second then (0x1208, s)
  else (stOK, (s.wr o6000_BACKGROUND c (v % 1073741824)).wr o6000_STAGED_MASK c (s.rdN o6000_STAGED_MASK c ||| 256 : Nat))

/-! Band budgets (R313, R314). -/

/-- Source rows that output lines `a` up to `b` of a layer take: the rectangle's rows in proportion, clipped to it. -/
def sourceRows (x : LayerCfg) (a b : Nat) : Nat × Nat :=
  let lo := (max 0 ((a : Int) - x.dstY)).toNat
  let hi := (min (x.dstH : Int) ((b : Int) - x.dstY)).toNat
  if hi ≤ lo ∨ x.dstH = 0 then (0, 0) else (x.srcY + lo * x.srcH / x.dstH, x.srcY + ceilDiv (hi * x.srcH) x.dstH)

/-- Bytes that some rows of a surface fetch: stored units of the tiles touched, or the rows rounded out to whole grains. -/
def State.fetchBytes (s : State) (x : LayerCfg) (rows : Nat × Nat) : Nat :=
  let h := x.surface
  let w := s.surfW h
  let n := rows.2 - rows.1
  if n = 0 ∨ x.srcW = 0 then 0
  else if s.isOn o6100_SURF_TCS h then
    let perRow := ceilDiv w 32
    let c0 := x.srcX / 32
    let cols := (x.srcX + x.srcW - 1) / 32 + 1 - c0
    let r0 := rows.1 / 8
    let trows := (rows.2 - 1) / 8 + 1 - r0
    32 * sumNat ((List.range trows).map (fun i => sumNat ((List.range cols).map (fun j => (s.surf h).units.getD ((r0 + i) * perRow + c0 + j) 0))))
  else
    let f := s.surfFmt h
    32 * sumNat ((List.range n).map (fun i =>
      let o := pixelBytes f ((rows.1 + i) * w + x.srcX)
      ceilDiv (o + pixelBytes f x.srcW) 32 - o / 32))

/-- Need of a band for some layers (R313): enabled surface layers that name a surface. -/
def State.bandNeed (s : State) (p : PlanComp) (cfg : List LayerCfg) (from_ a b : Nat) : Nat :=
  sumNat (cfg.zipIdx.map (fun e =>
    if from_ ≤ e.2 ∧ e.1.enable ∧ e.1.surface ≠ 65535 ∧ (p.layers[e.2]?.map (·.kind)) = some 2 then s.fetchBytes e.1 (sourceRows e.1 a b) else 0))

/-- Bands of a picture of `h` lines. -/
def bands (h : Nat) : List (Nat × Nat) := (List.range (ceilDiv h 64)).map (fun i => (64 * i, min h (64 * i + 64)))

/-- Whether every band fits the budget; `plate`: layers below `base` come from the plate. -/
def State.bandsFit (s : State) (p : PlanComp) (cfg : List LayerCfg) (plate : Option Nat) : Bool :=
  (bands (fmtHeight p.fmt)).all (fun b =>
    match plate with
    | none => decide (s.bandNeed p cfg 0 b.1 b.2 ≤ p.budget)
    | some k => decide (64 * fmtWidth p.fmt * 5 / 2 + s.bandNeed p cfg k b.1 b.2 ≤ p.budget))

/-- Layers of the static base (R314). -/
def baseLayers (p : PlanComp) (cfg : List LayerCfg) : Nat :=
  ((List.range p.layers.length).takeWhile (fun l =>
    match cfg[l]?, p.layers[l]? with
    | some x, some k => x.static && (k.kind == 2 || !x.enable) && sealedOf p != some l
    | _, _ => false)).length

/-! The check of a commit (R316, R318, R325, R331). -/

/-- Width and height of what a layer shows: its surface, or the picture of its input. -/
def State.layerSize (s : State) (plan : Plan) (p : PlanComp) (c l : Nat) (x : LayerCfg) : Option (Nat × Nat) :=
  match p.layers[l]? with
  | some k =>
    if k.kind = 2 then (if x.surface = 65535 then none else some (s.surfW x.surface, s.surfH x.surface))
    else
      let fc := match planEp plan (0xB000 + layerRow c l) with
        | some e => e.fmt
        | none => p.fmt
      some (fmtWidth fc, fmtHeight fc)
  | none => none

/-- Whether a scale ratio lies in 1/8-16. -/
def ratioOk (dst src : Nat) : Bool := decide (src ≤ 8 * dst ∧ dst ≤ 16 * src)

/-- Whether a surface can be named by a commit of compositor `c` (R310, R312). -/
def State.surfUsable (s : State) (c h : Nat) : Bool :=
  let st := s.rd o6100_SURF_STATE h
  decide (h / 2048 = c / 4) && (st == SURF_STATE.ready || st == SURF_STATE.in_use) && !(s.surf h).freeing && !s.isOn o6100_DAMAGED h

/-- The code that layer `l` of a commit gives, 0 when it passes; codes in the order of R318. -/
def State.checkLayer (s : State) (plan : Plan) (p : PlanComp) (sealRole : Bool) (c l : Nat) (cfg : List LayerCfg) : Nat :=
  match p.layers[l]?, cfg[l]? with
  | some k, some x =>
    let scaled := x.dstW != x.srcW || x.dstH != x.srcH
    let isSealed := sealedOf p == some l
    let inside := match s.layerSize plan p c l x with
      | some (w, h) => decide (x.srcX + x.srcW ≤ w ∧ x.srcY + x.srcH ≤ h)
      | none => true
    let even := x.surface != 65535 && s.surfFmt x.surface == SURF_FORMAT.ycbcr422_10
    if x.enable && scaled && k.scalers != 0 && decide (4096 * k.scalers < x.srcW) then 0x1201
    else if x.enable && scaled && (k.scalers == 0 || !ratioOk x.dstW x.srcW || !ratioOk x.dstH x.srcH) then 0x1202
    else if k.kind == 2 && x.surface != 65535 && !s.surfUsable c x.surface then 0x1203
    else if isSealed && (!sealRole || x.surface == 65535 || !s.isOn o6100_SURF_SEALED x.surface || scaled || x.keyMode != KEY_MODE.none || x.alpha != 1023) then 0x1204
    else if x.enable && (x.srcW == 0 || x.srcH == 0 || !inside || decide (x.dstX < -16384 ∨ 16383 < x.dstX ∨ x.dstY < -16384 ∨ 16383 < x.dstY) ||
      x.dstW == 0 || decide (16384 < x.dstW) || x.dstH == 0 || decide (16384 < x.dstH) || x.dstX % 2 != 0 || (even && (x.srcX % 2 != 0 || x.srcW % 2 != 0))) then 0x1206
    else if (k.kind == 1 && (x.surface != 65535 || x.keyMode == KEY_MODE.surface || x.everyFrame)) ||
      (x.keyMode == KEY_MODE.linear && (decide (l ≤ x.keyLayer) || (p.layers[x.keyLayer]?.map (·.kind)) != some 1)) then 0x1207
    else 0
  | _, _ => 0x1207

/-- Replace the named layers of a configuration. -/
def withVals (cfg : List LayerCfg) (vals : List (Nat × LayerCfg)) : List LayerCfg := vals.foldl (fun l v => l.set v.1 v.2) cfg

/-- The configuration after commits. -/
def afterCommits (cfg : List LayerCfg) (l : List Commit) : List LayerCfg := l.foldl (fun c x => withVals c x.vals) cfg

/-- Layers named by a mask. -/
def maskLayers (mask : Nat) : List Nat := (List.range 8).filter (fun l => mask.testBit l)

/-- A commit whose plate has not been built. -/
def Commit.flat (x : Commit) : Bool := x.plate == .queued || x.plate == .building || x.plate == .built

/-- The first frame to which a commit now can apply (R319): the one in progress before its latch instant, else the next. -/
def State.commitFrame (s : State) (d fc : Nat) : Nat := if s.now < (s.td d).tickAt + latchOffset fc then s.fcnt d else s.fcnt d + 1

/-- What the check of a commit answers: refused with a code and layer, or the commit, whether it supersedes a flattening one. -/
structure CommitPlan where
  code : Nat := 0
  layer : Nat := 255
  commit : Option Commit := none
  supersedes : Bool := false
deriving DecidableEq, Repr

/-- How the band budget decides a commit (R314): the need of the plate, or none when it cannot be cured. -/
def State.plateFor (s : State) (p : PlanComp) (x : Comp) (cfg : List LayerCfg) (bg : Nat) : Option PlateNeed :=
  if s.bandsFit p cfg none then some .none
  else
    let k := baseLayers p cfg
    if p.plate = false ∨ k = 0 ∨ s.bandsFit p cfg (some k) = false then none
    else if x.plate = some (cfg.take k, bg) then some .held else some .queued

/-- The whole check of a commit of a mask by a performer (R314, R316-R318). While a plate is being built, a commit that leaves its base alone is checked with the need of the old base,
which a plate in force may serve, and starts no build. -/
def State.checkCommit (s : State) (sealRole : Bool) (c mask : Nat) : CommitPlan :=
  match s.compPlan c with
  | none => { code := 0x1208 }
  | some q =>
    let f := s.commitFrame q.dom q.fmt
    let plan := match s.bankAt q.dom (if f = s.fcnt q.dom then (s.td q.dom).tickAt else s.tickIn q.dom 1) with
      | some b => (s.bank b).plan
      | none => {}
    match planComp plan c with
    | none => { code := 0x1208 }
    | some p =>
      if p.converter.isSome then { code := 0x1208 }
      else
        let x := s.comp c
        let vals := (maskLayers mask).map (fun l => (l, s.staged (layerRow c l)))
        let bg := if mask.testBit 8 then some (s.rdN o6000_BACKGROUND c) else none
        let flat := x.pend.find? Commit.flat
        let flatBase := match flat with
          | some y => baseLayers p (afterCommits x.layers (x.pend.takeWhile (fun z => z.seq != y.seq) ++ [y]))
          | none => 0
        let supersedes := flat.isSome && (bg.isSome || vals.any (fun v => decide (v.1 < flatBase)))
        let before := if supersedes then x.pend.filter (fun y => !y.flat) else x.pend
        let cfg := withVals (afterCommits x.layers before) vals
        let codes := (maskLayers mask).map (fun l => (l, if p.layers.length ≤ l then 0x1207 else s.checkLayer plan p sealRole c l cfg))
        match codes.find? (fun e => e.2 != 0) with
        | some (l, k) => { code := k, layer := l }
        | none =>
          let bgNow := bg.getD ((before.filterMap (·.bg)).getLastD x.bg)
          let need := if flat.isSome ∧ supersedes = false then
              (s.plateFor p x (withVals (afterCommits x.layers (before.filter (fun y => !y.flat))) vals) x.bg).filter (fun n => n != .queued)
            else s.plateFor p x cfg bgNow
          match need with
          | none => { code := 0x1205 }
          | some n => { commit := some { seq := (s.rdN o6000_COMMIT_SEQ c + 1) % 4294967296, fcnt := f, vals := vals, bg := bg, plate := n, order := s.cmp.order + 1 }, supersedes := supersedes }

/-! References of surfaces (R307). -/

/-- Whether a configuration names a surface. -/
def namesSurf (h : Nat) (l : List LayerCfg) : Bool := l.any (fun x => x.surface == h)

/-- Layers of a compositor that name a surface, in force or in an accepted commit. -/
def Comp.refs (x : Comp) (h : Nat) : Nat :=
  ((List.range 8).filter (fun l => (x.layers[l]?.map (·.surface)) == some h || x.pend.any (fun y => y.vals.any (fun v => v.1 == l && v.2.surface == h)))).length

/-- REFERENCES of a surface. -/
def State.surfRefs (s : State) (h : Nat) : Nat := sumNat (s.cmp.comps.map (fun e => e.2.refs h))

/-- POOL_FREE and SURFACES_ALLOCATED of a group. -/
def State.notePool (s : State) (g : Nat) : State :=
  let l := s.cmp.surfs.filter (fun e => e.1 / 2048 == g)
  (s.wr o6101_POOL_FREE g (s.rdN o6101_POOL_BYTES g - sumNat (l.map (·.2.held)) : Nat)).wr o6101_SURFACES_ALLOCATED g l.length

/-- A surface takes a state; 'free' returns its memory. -/
def State.setSurfState (s : State) (h : Nat) (st : Int) : State :=
  let s := s.wr o6100_SURF_STATE h st
  if st = SURF_STATE.free then
    ((({ s with cmp := { s.cmp with surfs := storeDel h s.cmp.surfs } }).wr o6100_REFERENCES h 0).wr o6100_STORED_BYTES h 0).notePool (h / 2048)
  else s

/-- 'ready' and 'in use' follow the references (R307). -/
def State.noteSurfs (s : State) : State :=
  s.cmp.surfs.foldl (fun s e =>
    let n := s.surfRefs e.1
    let s := s.wr o6100_REFERENCES e.1 n
    let st := s.rd o6100_SURF_STATE e.1
    if st = SURF_STATE.ready ∧ 0 < n then s.wr o6100_SURF_STATE e.1 SURF_STATE.in_use
    else if st = SURF_STATE.in_use ∧ n = 0 then s.wr o6100_SURF_STATE e.1 SURF_STATE.ready else s) s

/-! The latch instant (R319, R320, R323). -/

/-- PLATE_STATE, PLATE_BASE_TOP and COMP_PLATE_IN_FORCE. -/
def State.notePlate (s : State) (c : Nat) : State :=
  let x := s.comp c
  let st := if x.pend.any (fun y => y.plate == .building || y.plate == .built) then PLATE_STATE.building else if x.plate.isSome then PLATE_STATE.in_force else PLATE_STATE.none
  let top : Int := match x.plate with
    | some (l, _) => (l.length : Int) - 1
    | none => 255
  ((s.wr o6000_PLATE_STATE c st).wr o6000_PLATE_BASE_TOP c top).alarmWhile .COMP_PLATE_IN_FORCE c (st == PLATE_STATE.in_force)

/-- IN_FORCE_SURFACE and IN_FORCE_ENABLE. -/
def State.noteLayers (s : State) (c : Nat) : State :=
  (s.comp c).layers.zipIdx.foldl (fun s e => (s.wr o6003_IN_FORCE_SURFACE (layerRow c e.2) e.1.surface).wr o6003_IN_FORCE_ENABLE (layerRow c e.2) (boolVal e.1.enable)) s

/-- One layer at the latch instant: whether it is ready (R323, R328). -/
def State.readyLayer (s : State) (p : PlanComp) (named : List Nat) (l : Nat) : State :=
  let r := layerRow p.c l
  let isSealed := sealedOf p == some l
  let every := match (s.comp p.c).layers[l]? with
    | some x => x.everyFrame
    | none => false
  if (p.layers[l]?.map (·.kind)) ≠ some 2 then s
  else if every = false ∨ named.contains l then
    let s := s.wr o6003_CONSECUTIVE_NOT_READY r 0
    if isSealed then s.clear .COMP_SEAL_NOT_READY p.c else s
  else
    let s := ((s.bump o6003_NOT_READY_FRAMES r).bump o6003_CONSECUTIVE_NOT_READY r).raiseQuiet .COMP_LAYER_NOT_READY r
    if isSealed ∧ s.rd o6004_SEAL_LIMIT p.c ≤ s.rd o6003_CONSECUTIVE_NOT_READY r then s.raise .COMP_SEAL_NOT_READY p.c else s

/-- The plate after some commits have applied: the last one decides. -/
def plateAfter (p : PlanComp) (old : Option (List LayerCfg × Nat)) (cfg : List LayerCfg) (bg : Nat) : Option PlateNeed → Option (List LayerCfg × Nat)
  | none => old
  | some .none => none
  | some .held => old
  | some _ => some (cfg.take (baseLayers p cfg), bg)

/-- COMMIT_STATE at a latch instant (R321). -/
def State.noteCommitState (s : State) (c : Nat) : State :=
  let x := s.comp c
  s.wr o6000_COMMIT_STATE c (if x.pend = [] then COMMIT_STATE.idle else if x.pend.any Commit.flat then COMMIT_STATE.flattening else COMMIT_STATE.pending)

/-- The latch instant of a compositor's frame in progress. -/
def State.latchComp (s : State) (p : PlanComp) : State :=
  let c := p.c
  let x := s.comp c
  let f := s.fcnt p.dom
  let goes := fun (y : Commit) => decide (y.fcnt ≤ f) && (!y.flat || y.plate == .built)
  let due := x.pend.filter goes
  let rest := x.pend.filter (fun y => !goes y)
  let cfg := afterCommits x.layers due
  let bg := (due.filterMap (·.bg)).getLastD x.bg
  let named := ((due.map (fun y => y.vals.map (·.1))).flatten).eraseDups
  let replaced := sumNat (due.map (fun y => y.vals.length)) - named.length
  let plate := plateAfter p x.plate cfg bg (due.getLast?.map (·.plate))
  let s := s.setComp c { x with layers := cfg, bg := bg, pend := rest, latched := some f, plate := plate, plateHurt := if plate = x.plate then x.plateHurt else none }
  let s := s.addTo o6000_COMMITS_SUPERSEDED c replaced
  let s := match due.getLast? with
    | some y => (s.wr o6000_APPLIED_SEQ c y.seq).wr o6000_APPLIED_FCNT c f
    | none => s
  let s := (List.range p.layers.length).foldl (fun s l => s.readyLayer p named l) s
  ((s.noteLayers c).notePlate c).noteCommitState c

/-- Whether a compositor's latch instant of the frame in progress has come and has not been taken. -/
def State.latchDue (s : State) (p : PlanComp) : Bool :=
  p.converter.isNone && (s.comp p.c).latched != some (s.fcnt p.dom) && decide ((s.td p.dom).tickAt + latchOffset p.fmt ≤ s.now)

/-- Latch instants that have come. -/
def State.latchComps (s : State) : State :=
  let due := s.compsPlanned.filter s.latchDue
  if due = [] then s else (due.foldl State.latchComp s).noteSurfs

/-! Commits (R317-R322). -/

/-- A commit that passed its check is accepted. -/
def State.acceptCommit (s : State) (c mask : Nat) (k : Commit) (supersedes : Bool) : State :=
  let x := s.comp c
  let pend := (if supersedes then x.pend.filter (fun y => !y.flat) else x.pend) ++ [k]
  let s := { (s.setComp c { x with pend := pend }) with cmp := { (s.setComp c { x with pend := pend }).cmp with order := k.order } }
  let s := (s.wr o6000_COMMIT_SEQ c k.seq).wr o6000_STAGED_MASK c (s.rdN o6000_STAGED_MASK c &&& (511 - mask % 512) : Nat)
  let st := s.rd o6000_COMMIT_STATE c
  let s := if st = COMMIT_STATE.idle then s.wr o6000_COMMIT_STATE c (if k.flat then COMMIT_STATE.flattening else COMMIT_STATE.pending)
    else if supersedes ∧ k.flat = false ∧ pend.any Commit.flat = false then s.wr o6000_COMMIT_STATE c COMMIT_STATE.pending else s
  (s.notePlate c).noteSurfs

/-- One compositor's commit: its code, its first failing layer, the state. -/
def State.commit (s : State) (ctx : Ctx) (c mask : Nat) : Nat × State :=
  let q := s.checkCommit (hasRole ctx.roles roleSEAL) c mask
  match q.commit with
  | none => (q.code, (s.wr o6000_COMMIT_RESULT c q.code).wr o6000_COMMIT_ERROR_LAYER c q.layer)
  | some k => (stOK, (s.acceptCommit c mask k q.supersedes |>.wr o6000_COMMIT_RESULT c 0).wr o6000_COMMIT_ERROR_LAYER c 255)

/-- COMMIT; bits above 8 of the mask are reserved. -/
def writeCommit : Handler := onInt fun ctx c v s => s.latchComps.commit ctx c (v.toNat % 512)

def execCommit (t port c mask : Nat) (s : State) : Host.Outcome State Fault Refusal :=
  s.run t (fun s => s.opCmd writeCommit port o6000_COMMIT c (.int mask))

/-- COMMIT_DISCARD (R297, R320, R321). -/
def writeCommitDiscard : Handler := onInt fun _ c _ s =>
  let s := s.latchComps
  if s.rd o6000_COMP_STATE c = COMP_STATE.gang_second then (0x1208, s) else
  let s := s.setComp c { s.comp c with pend := (s.comp c).pend.filter Commit.flat }
  (stOK, (s.noteCommitState c).noteSurfs)

def execCommitDiscard (t port c : Nat) (s : State) : Host.Outcome State Fault Refusal :=
  s.run t (fun s => s.opCmd writeCommitDiscard port o6000_COMMIT_DISCARD c (.int 0))

/-- The first compositor of a group commit that fails, with its code (R322). -/
def State.groupFault (s : State) (ctx : Ctx) (cs : List Nat) : Option (Nat × Nat) :=
  cs.findSome? (fun c =>
    if s.owns ctx (.res 5 (c / 4)) = false then some (stNOT_OWNED, c)
    else
      let q := s.checkCommit (hasRole ctx.roles roleSEAL) c (s.rdN o6000_STAGED_MASK c)
      if q.commit.isNone then some (q.code, c) else none)

/-- GROUP_COMMIT. -/
def writeGroupCommit : Handler := onInt fun ctx _ v s =>
  let s := s.latchComps
  let cs := (List.range 32).filter (fun c => v.toNat.testBit c)
  match s.groupFault ctx cs with
  | some (k, c) => (k, (s.wr o6001_GROUP_RESULT 0 k).wr o6001_GROUP_ERROR_COMP 0 c)
  | none => (stOK, ((cs.foldl (fun s c => (s.commit ctx c (s.rdN o6000_STAGED_MASK c)).2) s).wr o6001_GROUP_RESULT 0 0).wr o6001_GROUP_ERROR_COMP 0 255)

def execGroupCommit (t port mask : Nat) (s : State) : Host.Outcome State Fault Refusal :=
  s.run t (fun s => s.opCmd writeGroupCommit port o6001_GROUP_COMMIT 0 (.int mask))

/-! Plates (R314). -/

/-- Commits of a group's compositors, with the compositor. -/
def State.groupCommits (s : State) (g : Nat) : List (Nat × Commit) :=
  ((s.cmp.comps.filter (fun e => e.1 / 4 == g)).map (fun e => e.2.pend.map (fun y => (e.1, y)))).flatten

/-- A commit's plate takes a new standing. -/
def State.setPlate (s : State) (c seq : Nat) (n : PlateNeed) : State :=
  let x := s.comp c
  (s.setComp c { x with pend := x.pend.map (fun y => if y.seq = seq then { y with plate := n } else y) }).notePlate c

/-- The builder of a group, when free, starts the oldest commit that waits. -/
def State.plateStart (s : State) (g : Nat) : State :=
  let l := s.groupCommits g
  if l.any (fun e => e.2.plate == .building) then s
  else
    match l.filter (fun e => e.2.plate == .queued) with
    | [] => s
    | e :: es =>
      let first := es.foldl (fun a b => if b.2.order < a.2.order then b else a) e
      s.setPlate first.1 first.2.seq .building

def execPlateBuildStart (t group : Nat) (s : State) : Host.Outcome State Fault Refusal := s.run t (fun s => s.latchComps.plateStart group)

/-- A build ends: its commit applies at the next latch instant. -/
def State.plateDone (s : State) (g : Nat) : State :=
  match (s.groupCommits g).find? (fun e => e.2.plate == .building) with
  | some (c, y) => s.setPlate c y.seq .built
  | none => s

def execPlateBuildComplete (t group : Nat) (s : State) : Host.Outcome State Fault Refusal := s.run t (fun s => s.latchComps.plateDone group)

/-! Surfaces (R304-R312, R332). -/

/-- Whether the format and size of a surface are those of R304 and R306. -/
def State.surfShapeOk (s : State) (h : Nat) : Bool := s.surfFmt h != SURF_FORMAT.ycbcr422_10 || s.surfW h % 2 == 0

/-- 'create' (R306). -/
def State.surfCreate (s : State) (h : Nat) : Nat × State :=
  let g := h / 2048
  let n := s.surfBytes h
  if s.rd o6100_SURF_STATE h ≠ SURF_STATE.free then (stBUSY, s)
  else if s.surfShapeOk h = false then (0x1305, s)
  else if s.rdN o6101_POOL_BYTES g = 0 ∨ s.rdN o6101_POOL_FREE g < n then (0x1301, s)
  else (stOK, ((((s.setSurf h { held := n }).wr o6100_SURF_STATE h SURF_STATE.loading).wr o6100_DAMAGED h 0).wr o6100_SURF_XFER_OFFSET h 0).notePool g)

/-- 'open' (R307, R309): the pixels are loaded afresh. -/
def State.surfOpen (s : State) (h : Nat) : Nat × State :=
  let st := s.rd o6100_SURF_STATE h
  if st = SURF_STATE.in_use ∨ st = SURF_STATE.escrow then (0x1302, s)
  else if (st ≠ SURF_STATE.ready ∧ st ≠ SURF_STATE.rejected) ∨ (s.surf h).freeing then (stBUSY, s)
  else (stOK, (((s.setSurf h { s.surf h with bytes := [], units := [], held := s.surfBytes h }).wr o6100_SURF_STATE h SURF_STATE.loading).wr o6100_SURF_XFER_OFFSET h 0).notePool (h / 2048))

/-- 'close' (R308). -/
def State.surfClose (s : State) (h : Nat) : Nat × State :=
  if s.rd o6100_SURF_STATE h ≠ SURF_STATE.loading ∨ (s.surf h).freeing then (stBUSY, s) else (stOK, s.wr o6100_SURF_STATE h SURF_STATE.checking)

/-- Whether a compositor's frame in progress reads a surface, and whether its next frame would (R310). -/
def State.readsSurf (s : State) (c h : Nat) : Bool :=
  match s.compPlan c with
  | none => false
  | some p =>
    let x := s.comp c
    namesSurf h (if x.latched = some (s.fcnt p.dom) then x.layers else afterCommits x.layers (x.pend.filter (fun y => !y.flat && decide (y.fcnt ≤ s.fcnt p.dom))))
def State.nextReads (s : State) (c h : Nat) : Bool :=
  let x := s.comp c
  namesSurf h (afterCommits x.layers (x.pend.filter (fun y => !y.flat))) || namesSurf h (afterCommits x.layers x.pend)

/-- 'retire' (R307, R310). -/
def State.surfRetire (s : State) (h : Nat) : Nat × State :=
  let st := s.rd o6100_SURF_STATE h
  let cs := s.cmp.comps.map (·.1)
  if st = SURF_STATE.rejected then (stOK, s.setSurfState h SURF_STATE.free)
  else if st = SURF_STATE.loading ∨ st = SURF_STATE.ready then (stOK, s.setSurf h { s.surf h with freeing := true })
  else if st = SURF_STATE.in_use then
    if cs.any (fun c => s.nextReads c h) then (0x1303, s)
    else match cs.find? (fun c => s.readsSurf c h) with
      | some c => (stOK, (s.setSurf h { s.surf h with escrowTd := ((s.compPlan c).map (·.dom)).getD 0 }).wr o6100_SURF_STATE h SURF_STATE.escrow)
      | none => (stOK, s.setSurfState h SURF_STATE.free)
  else (stBUSY, s)

/-- Layers of a compositor that name a surface are set to name none (R311). -/
def State.blankComp (s : State) (h c : Nat) : State :=
  let x := s.comp c
  let off := fun (y : LayerCfg) => if y.surface = h then { y with surface := 65535 } else y
  let hit := (List.range 8).filter (fun l => (x.layers[l]?.map (·.surface)) == some h || x.pend.any (fun y => y.vals.any (fun v => v.1 == l && v.2.surface == h)))
  let s := s.setComp c { x with layers := x.layers.map off, pend := x.pend.map (fun y => { y with vals := y.vals.map (fun v => (v.1, off v.2)) }) }
  hit.foldl (fun s l => (s.wr o6003_FORCED_BLANK (layerRow c l) 1).raise .COMP_FORCED_BLANK (layerRow c l)) (s.noteLayers c)

/-- 'force retire' (R311): expert level. -/
def State.surfForce (s : State) (ctx : Ctx) (h : Nat) : Nat × State :=
  if reaches ctx.roles true = false then (stLEVEL, s)
  else if s.rd o6100_SURF_STATE h = SURF_STATE.free then (stBUSY, s)
  else
    let s := (s.cmp.comps.map (·.1)).foldl (fun s c => s.blankComp h c) s
    (stOK, (s.setSurf h { s.surf h with freeing := true }).wr o6100_REFERENCES h 0)

/-- SURF_CMD; an accepted command clears SURF_RESULT. -/
def writeSurfCmd : Handler := onInt fun ctx h v s =>
  let s := s.latchComps
  let (k, s) := if v = SURF_CMD.create then s.surfCreate h else if v = SURF_CMD.open then s.surfOpen h else if v = SURF_CMD.close then s.surfClose h
    else if v = SURF_CMD.retire then s.surfRetire h else s.surfForce ctx h
  (k, if k = stOK then s.wr o6100_SURF_RESULT h 0 else s)

def execSurfCreate (t port surf : Nat) (s : State) : Host.Outcome State Fault Refusal :=
  s.run t (fun s => s.opCmd writeSurfCmd port o6100_SURF_CMD surf (.int SURF_CMD.create))

def execSurfOpen (t port surf : Nat) (s : State) : Host.Outcome State Fault Refusal :=
  s.run t (fun s => s.opCmd writeSurfCmd port o6100_SURF_CMD surf (.int SURF_CMD.open))

def execSurfClose (t port surf : Nat) (s : State) : Host.Outcome State Fault Refusal :=
  s.run t (fun s => s.opCmd writeSurfCmd port o6100_SURF_CMD surf (.int SURF_CMD.close))

def execSurfRetire (t port surf : Nat) (s : State) : Host.Outcome State Fault Refusal :=
  s.run t (fun s => s.opCmd writeSurfCmd port o6100_SURF_CMD surf (.int SURF_CMD.retire))

def execSurfForceRetire (t port surf : Nat) (s : State) : Host.Outcome State Fault Refusal :=
  s.run t (fun s => s.opCmd writeSurfCmd port o6100_SURF_CMD surf (.int SURF_CMD.force_retire))

/-- Bytes join a surface at an offset. -/
def putBytes (o : Nat) (data : Bytes) (m : Store Nat Byte) : Store Nat Byte := data.zipIdx.foldl (fun m e => storePut natLt (o + e.2) e.1 m) m

/-- SURF_XFER_DATA (R308, R309). -/
def writeSurfData : Handler := onBytes fun _ h b s =>
  let st := s.rd o6100_SURF_STATE h
  let o := s.rdN o6100_SURF_XFER_OFFSET h
  if st = SURF_STATE.in_use ∨ st = SURF_STATE.escrow then (0x1302, s)
  else if st ≠ SURF_STATE.loading then (stBUSY, s)
  else if s.surfBytes h < o + b.length then (stRANGE, s)
  else (stOK, ((s.setSurf h { s.surf h with bytes := putBytes o b (s.surf h).bytes }).wr o6100_SURF_XFER_OFFSET h (o + b.length : Nat)).wr o6100_SURF_RESULT h 0)

def execSurfXferData (t port surf : Nat) (data : Bytes) (s : State) : Host.Outcome State Fault Refusal :=
  s.run t (fun s => s.opCmd writeSurfData port o6100_SURF_XFER_DATA surf (.bytes data))

/-- Fields fixed while a surface is not 'free' (R332). -/
def writeSurfField (o : Nat) : Handler := fun c h v s => if s.rd o6100_SURF_STATE h = SURF_STATE.free then storeVal o c h v s else (stBUSY, s)

/-- The check of a surface ends (R305, R307, R308): `units` are the stored units of its tiles. -/
def State.surfChecked (s : State) (h : Nat) (units : List Nat) : State :=
  if s.rd o6100_SURF_STATE h ≠ SURF_STATE.checking then s
  else
    let x := s.surf h
    let ok := decide (x.bytes.length = s.surfBytes h) && crc32c (x.bytes.map (·.2)) == s.rdN o6100_SURF_CRC32C h
    if ok then
      let n := if s.isOn o6100_SURF_TCS h then 32 * sumNat units + 4 * units.length else s.surfBytes h
      ((((s.setSurf h { x with units := units, held := n }).wr o6100_SURF_STATE h SURF_STATE.ready).wr o6100_STORED_BYTES h n).wr o6100_DAMAGED h 0 |>.clear .SURF_DAMAGED h).notePool (h / 2048)
    else (s.wr o6100_SURF_STATE h SURF_STATE.rejected).wr o6100_SURF_RESULT h 0x1304

def execSurfCheckDone (t surf : Nat) (units : List Nat) (s : State) : Host.Outcome State Fault Refusal := s.run t (fun s => s.latchComps.surfChecked surf units)

/-- Domain of a group's compositors. -/
def State.groupDomain (s : State) (g : Nat) : Option Nat := (s.compsPlanned.find? (fun p => p.c / 4 == g)).map (·.dom)

/-- The end of a ledger cycle of a domain frees the surfaces that wait for it (R307, R311). -/
def State.freeSurfs (s : State) (d : Nat) : State :=
  (s.cmp.surfs.filter (fun e => e.2.freeing && (s.groupDomain (e.1 / 2048)).all (· == d))).foldl (fun s e => s.setSurfState e.1 SURF_STATE.free) s

/-- A frame tick of a domain frees the surfaces in escrow (R310). -/
def State.freeEscrow (s : State) (d : Nat) : State :=
  (s.cmp.surfs.filter (fun e => s.rd o6100_SURF_STATE e.1 == SURF_STATE.escrow && e.2.escrowTd == d)).foldl (fun s e => s.setSurfState e.1 SURF_STATE.free) s

/-- FORCED_BLANK cleared (R333). -/
def clearBlank : Handler := fun _ r _ s => (stOK, (s.wr o6003_FORCED_BLANK r 0).clear .COMP_FORCED_BLANK r)

/-- An uncorrectable error lies in a surface (R312). -/
def State.surfDamaged (s : State) (h : Nat) : State :=
  if s.rd o6100_SURF_STATE h = SURF_STATE.free ∨ s.isOn o6100_DAMAGED h then s
  else ((s.setSurf h { s.surf h with hurt := s.now }).wr o6100_DAMAGED h 1).raise .SURF_DAMAGED h

/-- An uncorrectable error lies in what a group keeps in its pool: a surface, the store of a layer, or a plate (R312). -/
def State.poolDamaged (s : State) (g item : Nat) : State :=
  if item < 2048 then s.surfDamaged (g * 2048 + item)
  else if item < 2080 then
    let c := g * 4 + (item - 2048) / 8
    let l := (item - 2048) % 8
    if (s.comp c).stores.any (fun e => e.1 == l) then s else s.setComp c { s.comp c with stores := (l, s.now) :: (s.comp c).stores }
  else
    let c := g * 4 + item % 4
    if (s.comp c).plate.isSome ∧ (s.comp c).plateHurt = none then s.setComp c { s.comp c with plateHurt := some s.now } else s

/-- Whether a surface is concealed in the frame in progress of a domain: from the frame after the one in which its error was found (R312). -/
def State.conceals (s : State) (d h : Nat) : Bool := s.isOn o6100_DAMAGED h && decide ((s.surf h).hurt < (s.td d).tickAt)

/-! The end of a frame (R312, R327, R328). -/

/-- A planned line of a layer was overdrawn (R58 kind 7, R59). -/
def State.layerMissed (s : State) (r line : Nat) : State :=
  let c := r / 8
  (s.bump o6003_LAYER_OVERDRAFTS r).setComp c { s.comp c with overdrawn := (r % 8, line) :: (s.comp c).overdrawn }

/-- The sealed layer's check at the tick that ends frame `f`. -/
def State.sealCheck (s : State) (p : PlanComp) (l f : Nat) (measured : List (Nat × Nat)) : State :=
  let c := p.c
  let x := s.comp c
  let cfg := x.layers.getD l {}
  let w := fmtWidth p.fmt
  let h := fmtHeight p.fmt
  let s := s.wr o6004_SEAL_FCNT c f
  if sealVisible cfg w h = false ∨ cfg.surface = 65535 then (s.wr o6004_SEAL_RESULT c SEAL_RESULT.idle).setComp c { x with excused := 0 }
  else
    let e := s.sealExpected p.colour cfg w h
    let m := match measured.find? (fun y => y.1 == c) with
      | some y => y.2
      | none => e
    let s := (s.wr o6004_SEAL_EXPECTED c e).wr o6004_SEAL_MEASURED c m
    if e = m then (((s.wr o6004_SEAL_RESULT c SEAL_RESULT.match).bump o6004_SEAL_MATCHES c).clear .COMP_SEAL_MISMATCH c).setComp c { x with excused := 0 }
    else if x.overdrawn.any (fun e => e.1 == l) ∨ s.conceals p.dom cfg.surface then
      let s := ((s.wr o6004_SEAL_RESULT c SEAL_RESULT.excused).bump o6004_SEAL_EXCUSED c).setComp c { x with excused := x.excused + 1 }
      if s.rd o6004_SEAL_LIMIT c ≤ x.excused + 1 then s.raise .COMP_SEAL_MISMATCH c else s
    else (((s.wr o6004_SEAL_RESULT c SEAL_RESULT.mismatch).bump o6004_SEAL_MISMATCHES c).raise .COMP_SEAL_MISMATCH c).setComp c { x with excused := 0 }

/-- Whether a layer shows concealed pixels in the frame that ends: of a damaged surface, of its store, of the plate that holds it (R312). A store is written afresh in every frame, so
that an error in it tells in the next frame alone (log entry 165). -/
def State.layerConcealed (s : State) (p : PlanComp) (x : Comp) (l : Nat) (y : LayerCfg) : Bool :=
  let before := fun (at_ : Nat) => decide (at_ < (s.td p.dom).tickAt)
  y.enable && ((y.surface != 65535 && s.conceals p.dom y.surface) || x.stores.any (fun e => e.1 == l && before e.2) ||
    (decide (l < (x.plate.map (·.1.length)).getD 0) && x.plateHurt.any before))

/-- CONCEALED_FRAMES of the layers of a compositor (R312). -/
def State.countDamage (s : State) (p : PlanComp) : State :=
  let x := s.comp p.c
  let s := x.layers.zipIdx.foldl (fun s e => if s.layerConcealed p x e.2 e.1 then s.bump o6003_CONCEALED_FRAMES (layerRow p.c e.2) else s) s
  s.setComp p.c { s.comp p.c with stores := x.stores.filter (fun e => decide ((s.td p.dom).tickAt ≤ e.2)) }

/-- Whether a fabric layer is named as KEY_LAYER by an enabled layer, so that it contributes no picture of its own (R303). -/
def keyOnly (cfg : List LayerCfg) (p : PlanComp) (l : Nat) : Bool :=
  (p.layers[l]?.map (·.kind)) == some 1 && cfg.any (fun x => x.enable && x.keyMode == KEY_MODE.linear && x.keyLayer == l)

/-- Frame `f` as it was composed: fabric layers from their stores as written in the frame before (R299, R302). -/
def State.composed (s : State) (p : PlanComp) (f : Nat) : State :=
  let x := s.comp p.c
  s.emit (.composed p.c f x.bg ((x.layers.zipIdx.filter (fun e => e.1.enable)).map (fun e =>
    ⟨e.2, e.1, if (p.layers[e.2]?.map (·.kind)) = some 1 then some (f - 1) else none, keyOnly x.layers p e.2,
      (x.overdrawn.filter (fun o => o.1 == e.2)).map (·.2), (x.scaled.filter (fun o => o.1 == e.2)).map (·.2)⟩)))

/-- What the end of frame `f` of a domain does to its compositors. -/
def State.compsFrameEnd (s : State) (d f : Nat) (measured : List (Nat × Nat)) : State :=
  ((s.compsPlanned.filter (fun p => p.dom == d && p.converter.isNone)).foldl (fun s p =>
    let s := match sealedOf p with
      | some l => s.sealCheck p l f measured
      | none => s
    let s := (s.countDamage p).composed p f
    s.setComp p.c { s.comp p.c with overdrawn := [], scaled := [] }) s).freeEscrow d

/-- SEAL_EXCUSED_LIMIT (R328). -/
def State.sealExcused (s : State) (c : Nat) : State :=
  if s.rdN o6000_SEALED_LAYER c ≠ 255 ∧ s.rd o6004_SEAL_LIMIT c ≤ (s.comp c).excused then s.raise .COMP_SEAL_MISMATCH c else s

def execSealExcusedLimit (t c : Nat) (s : State) : Host.Outcome State Fault Refusal := s.run t (fun s => s.latchComps.sealExcused c)

/-- SEAL_NOT_READY_LIMIT (R328). -/
def State.sealNotReady (s : State) (c : Nat) : State :=
  let l := s.rdN o6000_SEALED_LAYER c
  if l ≠ 255 ∧ s.rd o6004_SEAL_LIMIT c ≤ s.rd o6003_CONSECUTIVE_NOT_READY (layerRow c l) then s.raise .COMP_SEAL_NOT_READY c else s

def execSealNotReadyLimit (t c : Nat) (s : State) : Host.Outcome State Fault Refusal := s.run t (fun s => s.latchComps.sealNotReady c)

/-! The check of the books (R316) and the changeover (R321, R324). -/

/-- The initial configuration of a layer (R324): fabric layers full-screen and enabled. -/
def initialLayer (plan : Plan) (p : PlanComp) (l : Nat) (k : PlanLayer) : LayerCfg :=
  if k.kind = 1 then
    let fc := match planEp plan (0xB000 + layerRow p.c l) with
      | some e => e.fmt
      | none => p.fmt
    { enable := true, srcW := fmtWidth fc, srcH := fmtHeight fc, dstW := fmtWidth p.fmt, dstH := fmtHeight p.fmt }
  else {}

/-- Whether the initial configurations keep the scalers' limits (R316). -/
def compFits (plan : Plan) (p : PlanComp) : Bool :=
  p.layers.zipIdx.all (fun e =>
    let x := initialLayer plan p e.2 e.1
    x.enable == false || (x.srcW == x.dstW && x.srcH == x.dstH) ||
    (e.1.scalers != 0 && decide (x.srcW ≤ 4096 * e.1.scalers) && ratioOk x.dstW x.srcW && ratioOk x.dstH x.srcH))

/-- What the chapters of encoding and compositing add to the check of the books (0303h). -/
def planFits (p : Plan) (ls : List Ladder) : Bool := p.mints.all (mintFits ls) && p.comps.all (compFits p)

def execLedgerCheck (t : Nat) (plan : Plan) (s : State) : Host.Outcome State Fault Refusal := s.run t (fun s => s.ledgerCheck planFits plan)

/-- State of a compositor as planned. -/
def compState (p : PlanComp) : Int := if p.converter.isSome then COMP_STATE.converter else if p.gang then COMP_STATE.gang_lead else COMP_STATE.running

/-- Planned readings of a compositor; its constant is one frame period of its domain (R300). -/
def State.noteComp (s : State) (p : PlanComp) : State :=
  let c := p.c
  let vals : List (Nat × Int) := [(o6000_COMP_STATE, compState p), (o6000_COMP_DOMAIN, p.dom), (o6000_COMP_FORMAT, p.fmt), (o6000_LAYER_COUNT, p.layers.length),
    (o6000_SEALED_LAYER, ((sealedOf p).getD 255 : Nat)), (o6000_SURF_BAND_BUDGET, p.budget), (o6000_PLATE_AVAILABLE, boolVal p.plate),
    (o6000_COMP_DELAY_NS, (roundDiv (period3 (s.bankRate (s.serving p.dom) p.dom)) 3 : Nat))]
  let s := vals.foldl (fun s e => s.wr e.1 c e.2) s
  let s := if p.gang then s.wr o6000_COMP_STATE (c + 1) COMP_STATE.gang_second else s
  p.layers.zipIdx.foldl (fun s e =>
    let r := layerRow c e.2
    ((s.wr o6002_LAYER_KIND r e.1.kind).wr o6003_SCALERS r e.1.scalers).wr o6003_SCALER_FIRST r (if e.1.scalers = 0 then 255 else e.1.scaler)) s

/-- A compositor is no longer planned, or starts afresh: its objects return to their defaults. -/
def State.dropComp (s : State) (c : Nat) : State :=
  let gang := s.rd o6000_COMP_STATE c == COMP_STATE.gang_lead
  let s := [o6000_COMP_STATE, o6000_COMP_DOMAIN, o6000_COMP_FORMAT, o6000_LAYER_COUNT, o6000_SEALED_LAYER, o6000_SURF_BAND_BUDGET, o6000_PLATE_AVAILABLE, o6000_COMP_DELAY_NS,
    o6000_PLATE_STATE, o6000_PLATE_BASE_TOP].foldl (fun s o => s.wr o c (objDefault o c)) s
  let s := if gang then s.wr o6000_COMP_STATE (c + 1) COMP_STATE.not_planned else s
  let s := (List.range 8).foldl (fun s l => [o6002_LAYER_KIND, o6003_SCALERS, o6003_SCALER_FIRST, o6003_IN_FORCE_SURFACE, o6003_IN_FORCE_ENABLE].foldl (fun s o =>
    s.wr o (layerRow c l) (objDefault o (layerRow c l))) s) s
  (if (s.comp c).pend = [] then s else s.wr o6000_COMMIT_RESULT c 0x1209).wr o6000_COMMIT_STATE c COMMIT_STATE.idle |>.clear .COMP_PLATE_IN_FORCE c
    |> fun s => { s with cmp := { s.cmp with comps := storeDel c s.cmp.comps } }

/-- A plan of a compositor without the scalers that its layers use: in a compatible swap a layer that moves to another scaler takes its state with it (R51). -/
def sansScalers (p : PlanComp) : PlanComp := { p with layers := p.layers.map (fun l => { l with scaler := 255 }) }

/-- A compositor of the new plan: kept when its allocation is the same, or when a compatible swap gives its layers other scalers, else started with its initial configuration (R51,
R324). -/
def State.changeComp (s : State) (plan : Plan) (dark : Bool) (old : Option PlanComp) (p : PlanComp) : State :=
  if old = some p then s
  else if !dark && old.map sansScalers == some (sansScalers p) then s.noteComp p
  else
    let s := (s.dropComp p.c).noteComp p
    (s.setComp p.c { layers := p.layers.zipIdx.map (fun e => initialLayer plan p e.2 e.1) }).noteLayers p.c

/-- POOL_BYTES of a group; a change of the pool releases its surfaces (R324). -/
def State.changePool (s : State) (g n : Nat) : State :=
  if s.rdN o6101_POOL_BYTES g = n then s
  else ((s.cmp.surfs.filter (fun e => e.1 / 2048 == g)).foldl (fun s e => s.setSurfState e.1 SURF_STATE.free) (s.wr o6101_POOL_BYTES g n)).notePool g

/-- Scalers over the plans in force (6005h). -/
def State.noteScalers (s : State) : State :=
  let s := (s.listed' o6005_SCALER_USE).foldl (fun s r => ((s.wr o6005_SCALER_USE r 0).wr o6005_SCALER_USER r 65535).wr o6005_SCALER_PAIRED r 0) s
  s.compsPlanned.foldl (fun s p => p.layers.zipIdx.foldl (fun s e => (List.range e.1.scalers).foldl (fun s i =>
    let r := e.1.scaler + i
    match p.converter with
    | some ep => ((s.wr o6005_SCALER_USE r SCALER_USE.converter).wr o6005_SCALER_USER r ep).wr o6005_SCALER_PAIRED r (boolVal (e.1.scalers == 2))
    | none => ((s.wr o6005_SCALER_USE r SCALER_USE.layer).wr o6005_SCALER_USER r (layerRow p.c e.2)).wr o6005_SCALER_PAIRED r (boolVal (e.1.scalers == 2))) s) s) s

/-- What the changeover of a domain does to the compositors; `old` is the plan that served the domain before. -/
def State.compChangeover (s : State) (d : Nat) (old : Plan) (dark : Bool) : State :=
  let new := s.planOf d
  let mine := fun (p : Plan) => p.comps.filter (fun x => x.dom == d)
  let s := ((mine old).filter (fun x => (planComp new x.c).isNone)).foldl (fun s x => s.dropComp x.c) s
  let s := (mine new).foldl (fun s x => s.changeComp new dark ((mine old).find? (fun o => o.c == x.c)) x) s
  let groups := (((mine old) ++ (mine new)).map (fun x => x.c / 4)).eraseDups
  let s := groups.foldl (fun s g => s.changePool g (((new.pools.find? (fun e => e.1 == g)).map (·.2)).getD 0)) s
  s.noteSurfs

end Sys2Proof.Machine
end

