-- ==== Sys2Proof/Machine/Raster.lean ====
section
/-! DEFINITION. Machine/Raster.lean: generators, multiviewer heads and picture monitors (R337-R354). -/

namespace Sys2Proof.Machine

open Sys2Proof

/-! Generators (R341, R351). -/

/-- GEN_COLOUR: generator 0 is fixed black. Bits 31:30 of a colour word, to which the layout gives no meaning, are ignored (log entry 143). -/
def writeColour : Handler := onInt fun c g v s => if g = 0 then (stACCESS, s) else storeVal o6203_GEN_COLOUR c g (.int (v % 1073741824)) s

/-- HEAD_BACKGROUND; bits 31:30 are ignored (log entry 143). -/
def writeHeadBackground : Handler := onInt fun c h v s => storeVal o6220_HEAD_BACKGROUND c h (.int (v % 1073741824)) s

/-! Heads (R342-R346). -/

/-- Set a head. -/
def State.setHead (s : State) (v : Nat) (x : Head) : State := { s with ras := { s.ras with heads := storePut natLt v x s.ras.heads } }

/-- Heads planned in force. -/
def State.headsPlanned (s : State) : List PlanHead := (tdList.map (fun d => (s.planOf d).heads.filter (fun h => h.dom == d))).flatten

/-- The entry of a head in the plans in force. -/
def State.headPlan (s : State) (v : Nat) : Option PlanHead := s.headsPlanned.find? (fun h => h.v == v)

/-- Row of 6221h. -/
def tileRow (v t : Nat) : Nat := v * 64 + t

/-- The staged configuration of a tile. -/
def State.stagedTile (s : State) (r : Nat) : TileCfg :=
  { enable := s.isOn o6221_TILE_ENABLE r
    x := s.rdN o6221_TILE_X r
    y := s.rdN o6221_TILE_Y r
    w := s.rdN o6221_TILE_W r
    h := s.rdN o6221_TILE_H r
    border := s.rd o6221_TILE_BORDER r
    borderPx := s.rdN o6221_TILE_BORDER_PX r
    label := s.rdOct o6221_TILE_LABEL r
    meterBase := s.rdN o6221_METER_BASE_CH r
    meters := s.rdN o6221_METER_COUNT r
    refresh := s.rdN o6221_TILE_REFRESH r }

/-- TILE_REFRESH takes 1, 2 or 4. -/
def writeRefresh : Handler := onInt fun c r v s => if v = 3 then (stRANGE, s) else storeVal o6221_TILE_REFRESH c r (.int v) s

/-- Width and lines read of a tile's source (R343). -/
def tileSource (plan : Plan) (v t : Nat) : Nat × Nat :=
  match planEp plan (destEndpoint (tileDest v t)) with
  | some e => (fmtWidth e.fmt, if tileStep e.fmt = 0 then 0 else fmtHeight e.fmt / tileStep e.fmt)
  | none => (0, 0)

/-- The code that a tile of a head commit gives (R344), 0 when it passes. -/
def checkTile (plan : Plan) (h : PlanHead) (p : PlanTile) (x : TileCfg) : Nat :=
  let w := fmtWidth h.fmt
  let ht := fmtHeight h.fmt
  let (sw, sl) := tileSource plan h.v p.t
  if w < x.x + x.w ∨ ht < x.y + x.h ∨ x.w < 64 ∨ w < x.w ∨ x.w % 2 = 1 ∨ x.h < 36 ∨ ht < x.h ∨ x.x % 2 = 1 then 0x1401
  else if 16 * x.w < sw ∨ sw < x.w ∨ 8 * x.h < sl ∨ 16 * sl < x.h ∨ (1920 < x.w ∧ h.scalers = []) then 0x1402
  else if x.refresh < p.refresh then 0x1403
  else if 16384 < x.meterBase + x.meters then 0x1405
  else 0

/-- The check of a head commit: code, first failing tile, and the tiles and background that would result. -/
def State.checkHead (s : State) (v : Nat) : Nat × Nat × Option (Nat × List TileCfg × Nat) :=
  match s.headPlan v with
  | none => (0x1404, 255, none)
  | some q =>
    let f := s.commitFrame q.dom q.fmt
    let plan := match s.bankAt q.dom (if f = s.fcnt q.dom then (s.td q.dom).tickAt else s.tickIn q.dom 1) with
      | some b => (s.bank b).plan
      | none => {}
    match plan.heads.find? (fun h => h.v == v) with
    | none => (0x1404, 255, none)
    | some h =>
      match (h.tiles.map (fun p => (p.t, checkTile plan h p (s.stagedTile (tileRow v p.t))))).find? (fun e => e.2 != 0) with
      | some (t, k) => (k, t, none)
      | none => (0, 255, some (f, (List.range 64).map (fun t => s.stagedTile (tileRow v t)), s.rdN o6220_HEAD_BACKGROUND v))

/-- The latch instant of a head's frame in progress. -/
def State.latchHead (s : State) (p : PlanHead) : State :=
  let x := s.head p.v
  let f := s.fcnt p.dom
  let due := x.pend.filter (fun y => decide (y.1 ≤ f))
  let (tiles, bg) := match due.getLast? with
    | some y => y.2
    | none => (x.tiles, x.bg)
  let s := s.setHead p.v { x with tiles := tiles, bg := bg, pend := x.pend.filter (fun y => decide (f < y.1)), latched := some f }
  if due = [] then s else s.wr o6220_HEAD_APPLIED_FCNT p.v f

/-- Latch instants of heads that have come. -/
def State.latchHeads (s : State) : State :=
  (s.headsPlanned.filter (fun p => (s.head p.v).latched != some (s.fcnt p.dom) && decide ((s.td p.dom).tickAt + latchOffset p.fmt ≤ s.now))).foldl State.latchHead s

/-- HEAD_COMMIT (R344). A refusal leaves the tiles unchanged; a refresh that it refuses reads as before (log entry 25). -/
def writeHeadCommit : Handler := onInt fun _ v _ s =>
  let s := s.latchHeads
  let (k, t, go) := s.checkHead v
  match go with
  | some y => (stOK, (((s.setHead v { s.head v with pend := (s.head v).pend ++ [y] }).wr o6220_HEAD_RESULT v 0).wr o6220_HEAD_ERROR_TILE v 255))
  | none =>
    let s := if k = 0x1403 then s.wr o6221_TILE_REFRESH (tileRow v t) (((s.head v).tiles.getD t {}).refresh) else s
    (k, (s.wr o6220_HEAD_RESULT v k).wr o6220_HEAD_ERROR_TILE v t)

def execHeadCommit (t port head : Nat) (s : State) : Host.Outcome State Fault Refusal :=
  s.run t (fun s => s.opCmd writeHeadCommit port o6220_HEAD_COMMIT head (.int HEAD_COMMIT.commit))

/-! Meters and the pictures of heads (R342, R345, R346). -/

/-- ns for which a meter's peak has decayed: it holds for 2 s. -/
def meterDecay (at_ now : Nat) : Nat := now - (at_ + 2000000000)

/-- Whether a magnitude reaches a peak that has decayed for some ns at 20 dB a second, counted in cadence cycles; after 3 s of decay every peak lies below -60 dBFS (R345). -/
def meterReached (m peak decay : Nat) : Bool :=
  let k := decay / 125000
  if k = 0 then decide (peak ≤ m) else decide (24000 ≤ k) || decide (peak ^ 8000 ≤ m ^ 8000 * 10 ^ k)

/-- A metered channel after a block: a new peak, or the one that stands. -/
def State.meterBlock (s : State) (ch : Nat) : Nat × Nat :=
  let m := ((storeGet ch s.aud.heard).getD silence).foldl (fun k x => max k x.natAbs) 0
  let (p, at_) := (storeGet ch s.ras.meters).getD (0, 0)
  if meterReached m p (meterDecay at_ s.now) then (m, s.now) else (p, at_)

/-- Channels that an enabled tile of a planned head meters. -/
def State.meteredChans (s : State) : List Nat :=
  ((s.headsPlanned.map (fun p => ((s.head p.v).tiles.filter (·.enable)).map (fun x => (List.range x.meters).map (x.meterBase + ·)))).flatten.flatten).eraseDups

/-- The meters after the moves of a cadence cycle. -/
def State.noteMeters (s : State) : State :=
  { s with ras := { s.ras with meters := s.meteredChans.foldl (fun l ch => let e := s.meterBlock ch; if e.1 = 0 then l else storePut natLt ch e l) [] } }

/-- Frame `f` of a head: the enabled tiles with the pictures stored up to the frame before; the label is not drawn below 72 lines. -/
def State.tiled (s : State) (p : PlanHead) (f : Nat) : State :=
  let x := s.head p.v
  s.emit (.tiled p.v f x.bg ((p.tiles.filter (fun q => (x.tiles.getD q.t {}).enable)).map (fun q =>
    let y := x.tiles.getD q.t {}
    ⟨q.t, y, storeGet q.t x.seen, if y.h < 72 then [] else y.label,
      (List.range y.meters).map (fun i => let e := (storeGet (y.meterBase + i) s.ras.meters).getD (0, 0); (e.1, meterDecay e.2 s.now)),
      if 1920 < y.w then x.scaled else []⟩)))

/-- The end of frame `f` of a head: its picture, and the refresh frames that its tiles have read in it. -/
def State.headFrameEnd (s : State) (p : PlanHead) (f : Nat) : State :=
  let read := p.tiles.filter (fun q => s.readsNow (tileDest p.v q.t))
  let s := s.tiled p f
  let x := s.head p.v
  s.setHead p.v { x with seen := read.foldl (fun l q => storePut natLt q.t f l) x.seen, scaled := [] }

/-! Picture monitors (R348-R350). -/

/-- Rows that have a monitor: outputs and tiles. -/
def hasMonitor (r : Nat) : Bool := decide (r < 4096) || isTile r

/-- A monitor. -/
def State.mon (s : State) (r : Nat) : Option Mon := storeGet r s.ras.mons

/-- Set or remove a monitor. -/
def State.setMon (s : State) (r : Nat) : Option Mon → State
  | some x => { s with ras := { s.ras with mons := storePut natLt r x s.ras.mons } }
  | none => { s with ras := { s.ras with mons := storeDel r s.ras.mons } }

/-- Severity of a monitor's alarms (R354). -/
def monSeverity (r : Nat) : Nat := if isTile r then 3 else 2

/-- A monitor takes a state; runs end. -/
def State.monState (s : State) (r : Nat) (st : Int) : State :=
  let s := s.wr o6210_MON_STATE r st
  let s := if st = MON_STATE.frozen then s else (s.wr o6210_FREEZE_RUN_FRAMES r 0).clear .MON_FREEZE r
  if st = MON_STATE.black then s else (s.wr o6210_BLACK_RUN_FRAMES r 0).clear .MON_BLACK r

/-- A monitor starts at the next frame, goes on with the frame of a changeover that changed its row, or is idle (R349). -/
def State.monStart (s : State) (r : Nat) : State :=
  let d := s.destDomain r
  if d = 255 ∨ s.isOn o6210_MON_ENABLE r = false then (s.monState r MON_STATE.idle).setMon r none
  else (s.monState r MON_STATE.normal).setMon r (some { from_ := if (s.mon r).isSome then s.fcnt d else s.fcnt d + 1 })

/-- MON_ENABLE (R349, R353). -/
def writeMonEnable : Handler := onInt fun _ r v s =>
  if hasMonitor r = false then (0x1404, s)
  else if s.rd o6210_MON_ENABLE r = v then (stOK, s)
  else (stOK, (s.wr o6210_MON_ENABLE r v).monStart r)

/-- One bit of a CRC-64 fed most significant bit first. -/
def crc64Bit (reg : Nat) (bit : Bool) : Nat :=
  let top := reg.testBit 63 != bit
  let sh := reg * 2 % 18446744073709551616
  if top then sh ^^^ 0x42F0E1EBA9EA3693 else sh

/-- One 16-bit halfword. -/
def crc64Half (reg v : Nat) : Nat := (List.range 16).foldl (fun r i => crc64Bit r (v.testBit (15 - i))) reg

/-- The signature of a picture (R348). -/
def signature (mask : Nat) (samples : List Nat) : Nat :=
  (samples.foldl (fun r v => crc64Half r (v / 2 ^ mask * 2 ^ mask)) 0xFFFFFFFFFFFFFFFF) ^^^ 0xFFFFFFFFFFFFFFFF

/-- Luma samples above BLACK_LEVEL: every second sample is luma. -/
def brightSamples (level : Nat) : List Nat → Nat
  | _ :: y :: l => (if level < y then 1 else 0) + brightSamples level l
  | _ => 0

/-- Whether a run of `n` frames has reached a limit in ms (R350). -/
def runReached (rate n ms : Nat) : Bool := decide (ms * 3000000 ≤ n * period3 rate)

/-- MON_FREEZE when the run has reached its limit. -/
def State.monFreeze (s : State) (r : Nat) : State :=
  let d := s.destDomain r
  if s.rd o6210_MON_STATE r = MON_STATE.frozen ∧ runReached (s.td d).rate (s.rdN o6210_FREEZE_RUN_FRAMES r) (s.rdN o6211_FREEZE_LIMIT_MS 0) ∧ s.instActive .MON_FREEZE r = false then
    (s.raiseWith .MON_FREEZE r (monSeverity r) Alarm.MON_FREEZE.subsys (leBytes 4 r ++ leBytes 8 (s.rdN o6210_MON_FCNT r) ++ leBytes 2 (s.rdN o4002_CURRENT_SOURCE r))).bump o6210_FREEZE_EVENTS r
  else s

/-- MON_BLACK when the run has reached its limit. -/
def State.monBlack (s : State) (r : Nat) : State :=
  let d := s.destDomain r
  if s.rd o6210_MON_STATE r = MON_STATE.black ∧ runReached (s.td d).rate (s.rdN o6210_BLACK_RUN_FRAMES r) (s.rdN o6211_BLACK_LIMIT_MS 0) ∧ s.instActive .MON_BLACK r = false then
    (s.raiseWith .MON_BLACK r (monSeverity r) Alarm.MON_BLACK.subsys (leBytes 4 r ++ leBytes 8 (s.rdN o6210_MON_FCNT r) ++ leBytes 2 (s.rdN o4002_CURRENT_SOURCE r))).bump o6210_BLACK_EVENTS r
  else s

def execMonFreezeLimit (t row : Nat) (s : State) : Host.Outcome State Fault Refusal := s.run t (fun s => s.monFreeze row)

def execMonBlackLimit (t row : Nat) (s : State) : Host.Outcome State Fault Refusal := s.run t (fun s => s.monBlack row)

/-- Luma samples of a measured frame: for a tile, over the lines it reads (R343, R348). -/
def State.measuredLuma (s : State) (r : Nat) : Nat :=
  let f := s.destFormat r
  fmtWidth f * (if isTile r then fmtHeight f / max 1 (tileStep f) else fmtHeight f)

/-- A measured frame `f` of a row (R348-R350). -/
def State.monFrame (s : State) (r f : Nat) (x : Mon) (samples : Option (List Nat)) : State :=
  let (sig, bright, luma) := match samples with
    | some l => (signature (s.rdN o6211_MASK_BITS 0) l, brightSamples (s.rdN o6211_BLACK_LEVEL 0) l, l.length / 2)
    | none => (s.rdN o6210_MON_SIGNATURE r, s.rdN o6210_BRIGHT_SAMPLES r, s.measuredLuma r)
  let black := decide (bright ≤ luma * s.rdN o6211_BLACK_TOLERANCE_PPM 0 / 1000000)
  let frozen := !black && x.prev == some sig
  let st := if black then MON_STATE.black else if frozen then MON_STATE.frozen else MON_STATE.normal
  let start := if s.rd o6210_MON_STATE r = st then x.start else f
  let s := ((s.wr o6210_MON_SIGNATURE r sig).wr o6210_MON_FCNT r f).wr o6210_BRIGHT_SAMPLES r bright
  let s := (s.monState r st).setMon r (some { x with prev := some sig, start := start })
  let s := if st = MON_STATE.frozen then s.wr o6210_FREEZE_RUN_FRAMES r (f - start + 1 : Nat) else if st = MON_STATE.black then s.wr o6210_BLACK_RUN_FRAMES r (f - start + 1 : Nat) else s
  (s.monFreeze r).monBlack r

/-- The end of frame `f` of a domain: OUT_FRAMES of its outputs, its heads, and its monitors. Called before FCNT advances. -/
def State.rasterFrameEnd (s : State) (d f : Nat) (pictures : List (Nat × List Nat)) : State :=
  let outs := (s.planOf d).endpoints.filter (fun e => e.dom == d && e.ep / 4096 == 8)
  let s := outs.foldl (fun s e => s.bump o6201_OUT_FRAMES (e.ep % 4096)) s
  let s := (s.headsPlanned.filter (fun p => p.dom == d)).foldl (fun s p => s.headFrameEnd p f) s
  s.ras.mons.foldl (fun s e =>
    if s.destDomain e.1 = d ∧ e.2.from_ ≤ f ∧ s.readsNow e.1 then s.monFrame e.1 f e.2 ((pictures.find? (fun p => p.1 == e.1)).map (·.2)) else s) s

/-! The changeover of a domain. -/

/-- Readings of an output that the plan fixes (6201h). -/
def State.noteOutput (s : State) (plan : Plan) (e : PlanEndpoint) : State :=
  let r := e.ep % 4096
  (s.wr o6201_OUT_FORMAT r e.fmt).wr o6201_OUT_TRANSPORT r (if plan.heads.any (fun h => h.outs.contains e.ep) then OUT_TRANSPORT.head else e.transport)

/-- A head of the new plan: kept when its allocation is the same (R324, R344). -/
def State.changeHead (s : State) (old : Option PlanHead) (p : PlanHead) : State :=
  let vals : List (Nat × Int) := [(o6220_HEAD_STATE, HEAD_STATE.running), (o6220_HEAD_DOMAIN, p.dom), (o6220_HEAD_FORMAT, p.fmt), (o6220_HEAD_OUTPUT_A, (p.outs.getD 0 65535 : Nat)),
    (o6220_HEAD_OUTPUT_B, (p.outs.getD 1 65535 : Nat)), (o6220_HEAD_TILES, p.tiles.length)]
  let s := vals.foldl (fun s e => s.wr e.1 p.v e.2) s
  let s := p.tiles.foldl (fun s x => (s.wr o6221_TILE_REFRESH_PLANNED (tileRow p.v x.t) x.refresh).wr o6221_TILE_PHASE (tileRow p.v x.t) x.phase) s
  let s := p.scalers.foldl (fun s k => (s.wr o6005_SCALER_USE k SCALER_USE.head).wr o6005_SCALER_USER k p.v) s
  if old = some p then s
  else
    let s := p.tiles.foldl (fun s x => s.wr o6221_TILE_REFRESH (tileRow p.v x.t) x.refresh) s
    s.setHead p.v { tiles := (List.range 64).map (fun t => { refresh := ((p.tiles.find? (fun x => x.t == t)).map (·.refresh)).getD 1 }) }

/-- A head that is no longer planned. -/
def State.dropHead (s : State) (p : PlanHead) : State :=
  let s := [o6220_HEAD_STATE, o6220_HEAD_DOMAIN, o6220_HEAD_FORMAT, o6220_HEAD_OUTPUT_A, o6220_HEAD_OUTPUT_B, o6220_HEAD_TILES].foldl (fun s o => s.wr o p.v (objDefault o p.v)) s
  let s := p.tiles.foldl (fun s x => (s.wr o6221_TILE_REFRESH_PLANNED (tileRow p.v x.t) 1).wr o6221_TILE_PHASE (tileRow p.v x.t) 0) s
  { s with ras := { s.ras with heads := storeDel p.v s.ras.heads } }

/-- What the changeover of a domain does to raster, heads and monitors; `old` is the plan that served the domain before, `moved` says that its rate
code changes. -/
def State.rasterChangeover (s : State) (d : Nat) (old : Plan) (moved : Bool) : State :=
  let new := s.planOf d
  let outs := fun (p : Plan) => p.endpoints.filter (fun e => e.dom == d && e.ep / 4096 == 8)
  let heads := fun (p : Plan) => p.heads.filter (fun h => h.dom == d)
  let s := ((outs old).filter (fun e => (planEp new e.ep).isNone)).foldl (fun s e => (s.wr o6201_OUT_FORMAT (e.ep % 4096) 0).wr o6201_OUT_TRANSPORT (e.ep % 4096) 0) s
  let s := (outs new).foldl (fun s e => s.noteOutput new e) s
  let s := ((heads old).filter (fun h => (heads new).all (fun x => x.v != h.v))).foldl State.dropHead s
  let s := s.noteScalers
  let s := s.headsPlanned.foldl (fun s h => s.changeHead (if h.dom = d then (heads old).find? (fun x => x.v == h.v) else some h) h) s
  let mine := fun (p : Plan) => p.endpoints.filter (fun e => e.dom == d && (match destRow e.ep with
    | some r => hasMonitor r
    | none => false))
  let s := ((mine old).filter (fun e => (planEp new e.ep).isNone)).foldl (fun s e => match destRow e.ep with
    | some r => s.monStart r
    | none => s) s
  (mine new).foldl (fun s e =>
    match destRow e.ep with
    | some r => if (planEp old e.ep).any (fun o => keepsAllocation moved old new o e) then s else s.monStart r
    | none => s) s

end Sys2Proof.Machine
end

