-- ==== Sys2Proof/Machine/Integrity.lean ====
section
/-! DEFINITION. Machine/Integrity.lean: what readers do with words they cannot use, the auditor, write-backs, retirement, injection, granules, and the tally units (R357-R377). -/

namespace Sys2Proof.Machine

open Sys2Proof

/-! Readers (R369). -/

/-- The frame of a buffer in which a line was last written. -/
def State.newestWith (s : State) (ep line : Nat) : Option Nat :=
  (((s.buf ep).frames.find? (fun f => line == 0 || f.full.contains line)).or (s.buf ep).frames.head?).map (·.serial)

/-- An uncorrectable word of a frame buffer (class 1). -/
def State.noteBadLine (s : State) (a ep line : Nat) : State :=
  match s.newestWith ep line with
  | some k =>
    if s.itg.lines.any (fun b => b.addr == a) then s else { s with itg := { s.itg with lines := { addr := a, ep := ep, line := line, serial := k } :: s.itg.lines } }
  | none => s

/-- A poisoned word of a ledger bank (R370): its granule is reloaded from flash when the bank came from there. -/
def State.noteGranule (s : State) (r : OwnerRange) (a : Nat) : State :=
  let g := (a - r.base) / 4096
  let s := s.raise .MEM_LEDGER_POISON r.id
  if s.itg.granules.any (fun x => x.bank == r.id && x.granule == g) then s
  else { s with itg := { s.itg with granules := s.itg.granules ++ [⟨r.id, g, (s.bank r.id).fromFlash.isSome⟩] } }

/-- The record of a sequence number is discarded and counted as lost (R369, R468). -/
def State.loseRecord (s : State) (seq : Nat) : State :=
  if s.alm.ring.any (fun r => r.seq == seq) then
    let l := match s.alm.lost with
      | some (f, n) => some (f, n + 1)
      | none => some (seq, 1)
    { s with alm := { s.alm with ring := s.alm.ring.filter (fun r => r.seq != seq), lost := l } }.bump o1502_RING_DISCARDED 0
  else s

/-- What the device does about a word that a reader or the auditor cannot use, by the owner class of R56; classes 6 and 7 are the business of their readers. -/
def State.actOn (s : State) (w : WordTouch) : State :=
  let a := wordBase w.addr
  match s.ownerOfAddr a with
  | none => s
  | some r =>
    match r.cls with
    | 1 => s.noteBadLine a r.id w.item
    | 2 => if r.id < 16 then s.setMint r.id { s.mint r.id with force := true } else s
    | 3 => s.poolDamaged r.id w.item
    | 4 => s.wordWritten a
    | 5 => s.noteGranule r a
    | 8 => s.loseRecord w.item
    | _ => s

/-- A reader meets a word: whether it cannot use it. -/
def State.meet (s : State) (auditor : Bool) (w : WordTouch) : Bool × State :=
  let (v, s) := s.readWord auditor w
  (v.bad, if v.bad then s.actOn w else s)

/-- A reader meets some words: the ones it cannot use. -/
def State.meetAll (s : State) (l : List WordTouch) : List WordTouch × State :=
  l.foldl (fun p w =>
    let (b, s) := p.2.meet false w
    (if b then p.1 ++ [w] else p.1, s)) ([], s)

/-- Owner class of an address. -/
def State.classOf (s : State) (a : Nat) : Nat := ((s.ownerOfAddr (wordBase a)).map (·.cls)).getD 0

/-- A paced packet's release instant; a packet that holds an unusable word of class 7 is poisoned (R175, R369). -/
def execPacedRelease (t row k : Nat) (ready : Bool) (stamp : Nat) (touched : List WordTouch) (s : State) : Host.Outcome State Fault Refusal :=
  s.run t (fun s =>
    let (bad, s) := s.meetAll touched
    s.pacedRelease row k ready (bad.any (fun w => s.classOf w.addr == 7)) stamp)

def execAccessUnitHandover (t ch : Nat) (au : AuContent) (touched : List WordTouch) (s : State) : Host.Outcome State Fault Refusal :=
  s.run t (fun s =>
    let (_, s) := s.meetAll touched
    s.handover ch au)

/-! Write-backs (R358, R367). -/

/-- The bytes of a word as stored, errors and all, become its data: a poison write keeps the data as read. -/
def State.freezeWord (s : State) (a : Nat) : State :=
  let n := if inSram a then 8 else 32
  let e := s.wordErr a
  s.orderBytes a (xorBytes (memRange s.memNow a n) (leBytes n e.data))

/-- A word is written as poison. -/
def State.writePoison (s : State) (a : Nat) : State := ((s.freezeWord a).setWord a { poison := true }).bump o7000_POISON_WRITTEN 0

/-- The oldest pending write-back of a controller is performed. -/
def State.writeBack (s : State) (u : Nat) : State :=
  match s.backsOf u with
  | [] => s
  | b :: l =>
    let s := s.setBacks u l
    if b.poison then s.writePoison b.addr else s.wordWritten b.addr

def execWriteback (t unit : Nat) (s : State) : Host.Outcome State Fault Refusal := s.run t (fun s => s.writeBack unit)

/-! Rows (R364). -/

/-- The first row of a memory's queue starts its copy. -/
def State.rowStart (s : State) (m : Nat) : State :=
  match s.rowsOf m with
  | r :: l => s.setRows m ({ r with started := true } :: l)
  | [] => s

def execRowCopyStart (t memory : Nat) (s : State) : Host.Outcome State Fault Refusal := s.run t (fun s => s.rowStart memory)

/-- A word of the old row as the copy leaves it on the spare row: corrected, or poison. -/
def State.copyWord (s : State) (w : WordTouch) : State :=
  let a := wordBase w.addr
  let (v, s) := s.meet false w
  if v then (if (s.wordErr a).poison then s else s.writePoison a) else s.setWord a {}

/-- The copy of a row completes: the spare row serves alone. -/
def State.rowDone (s : State) (m : Nat) (touched : List WordTouch) : State :=
  match s.rowsOf m with
  | [] => s
  | r :: _ =>
    if r.started = false then s
    else
      let s := touched.foldl State.copyWord s
      let s := (s.itg.words.filter (fun e => sameRow e.1 r.addr)).foldl (fun s e => s.copyWord { addr := e.1 }) s
      s.setRows m ((s.rowsOf m).drop 1)

def execRowCopyComplete (t memory : Nat) (touched : List WordTouch) (s : State) : Host.Outcome State Fault Refusal := s.run t (fun s => s.rowDone memory touched)

/-! Injection (R361). -/

/-- INJECT_ADDR names an HBM word. -/
def writeInjectAddr : Handler := onInt fun c r v s =>
  if v % 32 = 0 ∧ v < hbmBytes then storeVal o7008_INJECT_ADDR c r (.int v) s else (stRANGE, s)

/-- Class of an address in the active bank's map. -/
def State.activeClass (s : State) (a : Nat) : Nat := ((s.ownerIn s.activeBank a).map (·.cls)).getD 0

/-- INJECT_CMD 'inject': the word is read and corrected, and written with the chosen errors. -/
def writeInject : Handler := onInt fun _ _ _ s =>
  let a := s.rdN o7008_INJECT_ADDR 0
  if s.activeBank.isSome ∧ s.activeClass a ≠ 0 then (0x1701, s.wr o7008_INJECT_RESULT 0 0x1701)
  else
    let (v, s) := s.readWord false { addr := a }
    let s := if v.bad ∧ (s.wordErr a).poison = false then s.freezeWord a else s
    (stOK, ((s.wordWritten a).setWord a { data := leNat (s.rdOct o7008_INJECT_DATA_MASK 0), check := s.rdN o7008_INJECT_CHECK_MASK 0 }).wr o7008_INJECT_RESULT 0 0)

def execInjectCmd (t port : Nat) (s : State) : Host.Outcome State Fault Refusal :=
  s.run t (fun s => s.opCmd writeInject port o7008_INJECT_CMD 0 (.int INJECT_CMD.inject))

/-! The auditor (R362, R363). -/

/-- AUDITOR_MODE. -/
def writeAuditorMode : Handler := onInt fun _ _ v s =>
  let s := (s.wr o7001_AUDITOR_MODE 0 v).alarmWhile .MEM_AUDITOR_OFF noInst (v == AUDITOR_MODE.off)
  (stOK, s.wr o7001_AUDITOR_STATE 0 (if v = AUDITOR_MODE.off then AUDITOR_STATE.off else if s.pwr.slowed then AUDITOR_STATE.slowed else AUDITOR_STATE.running))

def execAuditorMode (t port : Nat) (mode : Int) (s : State) : Host.Outcome State Fault Refusal :=
  s.run t (fun s => s.opCmd writeAuditorMode port o7001_AUDITOR_MODE 0 (.int mode))

/-- The nominal HBM lap in ns at AUDITOR_RATE_MBPS. -/
def State.nominalLap (s : State) : Nat := hbmBytes * 1000 / s.rdN o7001_AUDITOR_RATE_MBPS 0

/-- The HBM walker passes the last word. -/
def State.hbmLapEnd (s : State) : State :=
  let lap := s.now - s.itg.hbmFrom
  let s := ((s.wr o7001_HBM_LAP_MS 0 (lap / 1000000 : Nat)).bump o7001_HBM_LAPS 0).alarmWhile .MEM_AUDITOR_BEHIND noInst (decide (2 * s.nominalLap < lap))
  { s with itg := { s.itg with hbmFrom := s.now } }

/-- The SRAM walker passes the last word. -/
def State.sramLapEnd (s : State) : State :=
  let s := (s.wr o7001_SRAM_LAP_MS 0 ((s.now - s.itg.sramFrom) / 1000000 : Nat)).bump o7001_SRAM_LAPS 0
  { s with itg := { s.itg with sramFrom := s.now } }

/-- A walker reads its next word. -/
def State.auditWord (s : State) (sram : Bool) (w : WordTouch) : State :=
  if s.rd o7001_AUDITOR_MODE 0 = AUDITOR_MODE.off then s
  else if sram then
    let p := s.itg.sramPos
    let (_, s) := s.meet true { w with addr := sramBase + p }
    let n := if p + 8 < sramBytes then p + 8 else 0
    let s := { s with itg := { s.itg with sramPos := n } }
    if n = 0 then s.sramLapEnd else s
  else
    let p := s.rdN o7001_HBM_POSITION 0
    let (_, s) := s.meet true { w with addr := p }
    let n := if p + 32 < hbmBytes then p + 32 else 0
    let s := s.wr o7001_HBM_POSITION 0 n
    if n = 0 then s.hbmLapEnd else s

/-! Triplicated words (R359). -/

/-- How the copies of a critical word vote: `none` is a copy that cannot be used, a number the bits in which it differs from the word last written. -/
inductive Vote where
  | agree
  | rewritten
  | lost
deriving DecidableEq, Repr

/-- The vote of R359. -/
def vote (copies : List (Option Nat)) : Vote :=
  match copies.filterMap id with
  | [a, b, c] => if a = b ∧ b = c then .agree else .rewritten
  | [a, b] => if a = b then .rewritten else .lost
  | _ => .lost

/-- A read of a critical word: what its owner does with a lost one is `lost`. -/
def State.readCritical (s : State) (lost : Nat → State → State) (k : Nat) (copies : List (Option Nat)) : State :=
  match vote copies with
  | .agree => s
  | .rewritten => s.bump o7006_TMR_CORRECTIONS 0
  | .lost => lost k ((s.bump o7006_TMR_WORDS_LOST 0).pulse .MEM_TMR_LOST k)

/-! Granules (R370). -/

/-- A reload completes with the bytes read: the kept CRC decides. -/
def State.granuleReload (s : State) (b g : Nat) (data : Bytes) : State :=
  match s.itg.granules.find? (fun x => x.bank == b && x.granule == g && x.reloading) with
  | none => s
  | some x =>
    if crc32c data = crc32c (slice (4096 * g) 4096 (s.bank b).raw) then
      let s := { s with itg := { s.itg with granules := s.itg.granules.filter (fun y => y != x) } }
      let base := ((s.bank b).owners.find? (fun r => r.cls == 5 && r.id == b)).map (·.base)
      let s := match base with
        | some o => (s.itg.words.filter (fun e => decide (o + 4096 * g ≤ e.1 ∧ e.1 < o + 4096 * (g + 1)))).foldl (fun s e => s.wordWritten e.1) s
        | none => s
      if s.itg.granules.any (fun y => y.bank == b) then s else s.clear .MEM_LEDGER_POISON b
    else { s with itg := { s.itg with granules := s.itg.granules.map (fun y => if y = x then { y with reloading := false } else y) } }

def execGranuleReload (t bank granule : Nat) (data : Bytes) (s : State) : Host.Outcome State Fault Refusal := s.run t (fun s => s.granuleReload bank granule data)

/-- A bank that is no longer active has no granules to reload (R377). -/
def State.dropGranules (s : State) : State :=
  bankList.foldl (fun s b =>
    if s.bankState b = BANK_STATE.active ∨ s.bankState b = BANK_STATE.retiring then s
    else { s with itg := { s.itg with granules := s.itg.granules.filter (fun y => y.bank != b) } }.clear .MEM_LEDGER_POISON b) s

/-! Tally units (R371-R374). -/

/-- A polynomial: width, polynomial, initial value, reflection of input and output, final XOR (R373). -/
structure Poly where
  width : Nat
  poly : Nat
  init : Nat
  reflIn : Bool
  reflOut : Bool
  xorOut : Nat
deriving DecidableEq, Repr

/-- The polynomial that POLY_SELECT chooses. -/
def State.poly (s : State) (ch : Nat) : Poly :=
  let v := s.rd o7100_POLY_SELECT ch
  if v = POLY_SELECT.crc32 then ⟨32, 0x04C11DB7, 0xFFFFFFFF, true, true, 0xFFFFFFFF⟩
  else if v = POLY_SELECT.crc32c then ⟨32, 0x1EDC6F41, 0xFFFFFFFF, true, true, 0xFFFFFFFF⟩
  else if v = POLY_SELECT.crc16_ccitt then ⟨16, 0x1021, 0xFFFF, false, false, 0⟩
  else if v = POLY_SELECT.st292 then ⟨18, 0x31, 0, true, false, 0⟩
  else
    let r := s.rdN o7100_PROG_REFLECT ch
    ⟨32, s.rdN o7100_PROG_POLY ch, s.rdN o7100_PROG_INIT ch, r.testBit 0, r.testBit 1, s.rdN o7100_PROG_XOROUT ch⟩

/-- Bytes of a feed: FEED_WIDTH. -/
def State.feedBytes (s : State) (ch : Nat) : Nat :=
  let v := s.rd o7100_FEED_WIDTH ch
  if v = FEED_WIDTH.byte then 1 else if v = FEED_WIDTH.halfword then 2 else 4

/-- Bits of a feed of `n` bytes that enter: 'st292' takes the low 10 bits of a halfword. -/
def Poly.feedBits (p : Poly) (n : Nat) : Nat := if p.width = 18 then 10 else 8 * n

/-- Data into a register, `n` bytes a feed, little-endian. -/
def Poly.feed (p : Poly) (n : Nat) : Nat → Bytes → Nat → Nat
  | 0, _, reg => reg
  | k + 1, b, reg => p.feed n k (b.drop n) (crcFeed p.width p.poly p.reflIn (p.feedBits n) reg (leNat (b.take n)))

/-- All of the data. -/
def Poly.feedAll (p : Poly) (n : Nat) (b : Bytes) (reg : Nat) : Nat := p.feed n (b.length / n) b reg

/-- The result of a register. -/
def Poly.result (p : Poly) (reg : Nat) : Nat := (if p.reflOut then reflectBits p.width reg else reg % 2 ^ p.width) ^^^ p.xorOut

/-- Whether a channel is claimed by the session of a performer. -/
def State.claimedBy (s : State) (c : Ctx) (ch : Nat) : Bool := storeGet ch s.itg.claims == some c.port

/-- A write of a channel without the session's claim is refused with 1711h. -/
def claimed (h : Handler) : Handler := fun c ch v s => if s.claimedBy c ch then h c ch v s else (0x1711, s)

/-- TALLY_CLAIM. -/
def writeTallyClaim : Handler := onInt fun c ch v s =>
  if v = 1 then
    if s.claimedBy c ch then (stOK, s)
    else if s.rd o7100_TALLY_USE ch = TALLY_USE.free then
      (stOK, ({ s with itg := { s.itg with claims := storePut natLt ch c.port s.itg.claims } }.wr o7100_TALLY_USE ch TALLY_USE.claimed).wr o7100_TALLY_CLAIM ch 1)
    else (0x1711, s)
  else if s.claimedBy c ch then
    (stOK, ({ s with itg := { s.itg with claims := storeDel ch s.itg.claims } }.wr o7100_TALLY_USE ch TALLY_USE.free).wr o7100_TALLY_CLAIM ch 0)
  else (0x1711, s)

def execTallyClaim (t port ch : Nat) (on : Bool) (s : State) : Host.Outcome State Fault Refusal :=
  s.run t (fun s => s.opCmd writeTallyClaim port o7100_TALLY_CLAIM ch (.int (boolVal on)))

/-- State of a channel. -/
def State.tallyState (s : State) (ch : Nat) : Int := s.rd o7100_TALLY_STATE ch

/-- Polynomial settings: only in 'idle' or 'closed' (R373). -/
def writePoly (o : Nat) : Handler := claimed fun c ch v s =>
  if s.tallyState ch = TALLY_STATE.idle ∨ s.tallyState ch = TALLY_STATE.closed then storeVal o c ch v s else (stBUSY, s)

/-- RUNNING: not during a 'run' (R372). -/
def writeRunning : Handler := claimed fun c ch v s => if s.tallyState ch = TALLY_STATE.running then (stBUSY, s) else storeVal o7100_RUNNING c ch v s

/-- Data joins the channel's block. -/
def State.feed (s : State) (ch n : Nat) (b : Bytes) : State :=
  ((s.wr o7100_RUNNING ch ((s.poly ch).feedAll n b (s.rdN o7100_RUNNING ch) : Nat)).addTo o7100_BYTES_FED ch b.length).wr o7100_TALLY_STATE ch TALLY_STATE.feeding

/-- FEED_DATA (R372, R373). -/
def writeFeed : Handler := claimed (onBytes fun _ ch b s =>
  let n := s.feedBytes ch
  if s.tallyState ch = TALLY_STATE.running then (stBUSY, s)
  else if b.length % n ≠ 0 then (0x1712, s)
  else if s.rd o7100_POLY_SELECT ch = POLY_SELECT.st292 ∧ n ≠ 2 then (0x1713, s)
  else (stOK, s.feed ch n b))

def execFeedData (t port ch : Nat) (data : Bytes) (s : State) : Host.Outcome State Fault Refusal :=
  s.run t (fun s => s.opCmd writeFeed port o7100_FEED_DATA ch (.bytes data))

/-- TALLY_CMD 'reset' (R374). -/
def State.tallyReset (s : State) (ch : Nat) : State :=
  ((s.wr o7100_RUNNING ch (s.poly ch).init).wr o7100_BYTES_FED ch 0).wr o7100_TALLY_STATE ch TALLY_STATE.idle

/-- TALLY_CMD 'close' (R374). -/
def State.tallyClose (s : State) (ch : Nat) : State :=
  let p := s.poly ch
  let mode := s.rd o7100_FOLD_MODE ch
  let fold := s.rdN o7100_FOLD_VALUE ch
  let n := if s.rd o7100_POLY_SELECT ch = POLY_SELECT.st292 then 2 else 1
  let reg := s.rdN o7100_RUNNING ch
  let reg := if mode = FOLD_MODE.none then reg else p.feedAll n (leBytes 8 fold) reg
  let step := if mode = FOLD_MODE.address then s.rdN o7100_BYTES_FED ch else if mode = FOLD_MODE.sequence then s.rdN o7100_FOLD_STEP ch else 0
  (((s.wr o7100_RESULT ch (p.result reg)).wr o7100_FOLD_VALUE ch ((fold + step) % 2 ^ 64 : Nat)).tallyReset ch).wr o7100_TALLY_STATE ch TALLY_STATE.closed

/-- Partition-owned resource of an address in the active bank's map (R372). -/
def State.addrOwn (s : State) (a : Nat) : Own :=
  match s.ownerIn s.activeBank a with
  | none => .device
  | some r =>
    match r.cls with
    | 1 => if r.id / 4096 = 8 then .res 1 r.id else .device
    | 2 => if r.id < 16 then .res 3 r.id else .res 4 (r.id - 16)
    | 3 => .res 5 r.id
    | 7 => .res 10 r.id
    | _ => .device

/-- Whether a performer owns every address of a range, all of which exist: ownership changes only where a range of the map begins or ends. -/
def State.ownsRange (s : State) (c : Ctx) (a n : Nat) : Bool :=
  let cuts : List Nat := match s.activeBank with
    | some b => ((s.bank b).owners.map (fun (r : OwnerRange) => [r.base, r.stop])).flatten
    | none => []
  n == 0 || (addrExists a && addrExists (a + n - 1) && (inSram a == inSram (a + n - 1)) &&
    (a :: cuts.filter (fun x => decide (a < x ∧ x < a + n))).all (fun x => s.owns c (s.addrOwn x)))

/-- TALLY_CMD 'run' (R372). -/
def State.tallyRun (s : State) (c : Ctx) (ch : Nat) : Nat × State :=
  let n := s.feedBytes ch
  let a := s.rdN o7100_SRC_ADDR ch
  let len := s.rdN o7100_SRC_LENGTH ch
  if len % n ≠ 0 then (0x1712, s)
  else if s.rd o7100_POLY_SELECT ch = POLY_SELECT.st292 ∧ n ≠ 2 then (0x1713, s)
  else if s.ownsRange c a len = false then (0x1714, s)
  else (stOK, { s with itg := { s.itg with runs := storePut natLt ch ⟨a, len, n⟩ s.itg.runs } }.wr o7100_TALLY_STATE ch TALLY_STATE.running)

/-- TALLY_CMD; BUSY during a 'run'. -/
def writeTallyCmd : Handler := claimed (onInt fun c ch v s =>
  if s.tallyState ch = TALLY_STATE.running then (stBUSY, s)
  else if v = TALLY_CMD.reset then (stOK, s.tallyReset ch)
  else if v = TALLY_CMD.close then (stOK, s.tallyClose ch) else s.tallyRun c ch)

def execTallyReset (t port ch : Nat) (s : State) : Host.Outcome State Fault Refusal :=
  s.run t (fun s => s.opCmd writeTallyCmd port o7100_TALLY_CMD ch (.int TALLY_CMD.reset))

def execTallyClose (t port ch : Nat) (s : State) : Host.Outcome State Fault Refusal :=
  s.run t (fun s => s.opCmd writeTallyCmd port o7100_TALLY_CMD ch (.int TALLY_CMD.close))

def execTallyRun (t port ch : Nat) (s : State) : Host.Outcome State Fault Refusal :=
  s.run t (fun s => s.opCmd writeTallyCmd port o7100_TALLY_CMD ch (.int TALLY_CMD.run))

/-- Bytes that writers left in memory: each writes its word. -/
def State.storeBytes (s : State) (l : List (Nat × Byte)) : State :=
  l.foldl (fun s e => (s.orderByte e.1 e.2).wordWritten e.1) s

/-- A 'run' ends: what the planned writers had stored in its range first, then the feed. -/
def State.runDone (s : State) (ch : Nat) (stored : List (Nat × Byte)) : State :=
  match storeGet ch s.itg.runs with
  | none => s
  | some r =>
    let s := s.storeBytes (stored.filter (fun e => decide (r.addr ≤ e.1 ∧ e.1 < r.addr + r.len)))
    { s with itg := { s.itg with runs := storeDel ch s.itg.runs } }.feed ch r.width (memRange s.memNow r.addr r.len)

def execTallyRunComplete (t ch : Nat) (stored : List (Nat × Byte)) (s : State) : Host.Outcome State Fault Refusal := s.run t (fun s => s.runDone ch stored)

/-- Channels that the active bank reserves for sealed layers (R326, R371). -/
def State.sealedTally (s : State) : List Nat := ((s.activePlan.comps.filter (·.sealed)).map (·.tally)).flatten

/-- TALLY_USE after a changeover: a claimed channel that is reserved loses its claim and its state. -/
def State.noteTally (s : State) : State :=
  let l := s.sealedTally
  ((List.range 24).map (· + 8)).foldl (fun s ch =>
    if l.contains ch then
      let s := { s with itg := { s.itg with claims := storeDel ch s.itg.claims, runs := storeDel ch s.itg.runs } }
      let s := if s.rd o7100_TALLY_USE ch = TALLY_USE.sealed then s
        else ((List.range 18).map (o7100_TALLY_CLAIM + ·)).foldl (fun s o => s.wr o ch (objDefault o ch)) s
      s.wr o7100_TALLY_USE ch TALLY_USE.sealed
    else if s.rd o7100_TALLY_USE ch = TALLY_USE.sealed then s.wr o7100_TALLY_USE ch TALLY_USE.free else s) s

end Sys2Proof.Machine
end

