-- ==== Sys2Proof/Machine/Pair.lean ====
section
/-! DEFINITION. Machine/Pair.lean: the protection pair: the Ivard link, heartbeats, pair states, custody and the lease, release and the gap (R426-R442). What a mirrored
write does is the operand `apply` here; Machine/Router.lean supplies it. -/

namespace Sys2Proof.Machine

open Sys2Proof

/-! States and custody. -/

/-- The pair state. -/
def State.pairState (s : State) : Int := s.rd o1601_PAIR_STATE 0

/-- Paired: in a state other than 'unpaired'. -/
def State.paired (s : State) : Bool := s.pairState != PAIR_STATE.unpaired

/-- Enter a pair state. -/
def State.setPairState (s : State) (v : Int) : State :=
  { s.wr o1601_PAIR_STATE 0 v with pair := { s.pair with entered := s.now, enteredFcnt := s.fcnt 0 } }

/-- CUSTODY_OUT (R427). -/
def State.setCustody (s : State) (on : Bool) : State := s.wr o1601_CUSTODY_HELD 0 (boolVal on)

/-- Whether media run: the state 'running'. -/
def State.mediaRuns (s : State) : Bool := s.rd o1401_DEVICE_STATE 0 == DEVICE_STATE.running

/-- Whether the instant is that of a TD0 tick, at which the tick conditions of R434 are evaluated. -/
def State.atTick (s : State) : Bool := s.now == (s.td 0).tickAt

/-- A path is up. -/
def State.pathUp (s : State) (k : Nat) : Bool := if k = 0 then s.rd o1601_IVARD_PATH 0 == IVARD_PATH.up else s.rd o1601_HB_PATH 0 == HB_PATH.up

/-- "Silent": both paths are silent (R434). -/
def State.bothSilent (s : State) : Bool := !s.pathUp 0 && !s.pathUp 1

/-- The Ivard link exists while IVARD_LANE names a lane in mode 'ivard'. -/
def State.ivardLane (s : State) : Option Nat :=
  let l := s.rdN o1600_IVARD_LANE 0
  if l < 192 ∧ (s.rd o3000_LANE_MODE l = LANE_MODE.ivard) then some l else none

/-- Set what a path reads. TWIN has no signal while the Ivard link is down (R63). -/
def State.setPath (s : State) (k : Nat) (up : Bool) : State :=
  let s := if k = 0 ∧ up = false ∧ (s.cand 7).present then s.refLoss 7 else s
  if k = 0 then s.wr o1601_IVARD_PATH 0 (if up then IVARD_PATH.up else if s.ivardLane.isSome then IVARD_PATH.silent else IVARD_PATH.none)
  else s.wr o1601_HB_PATH 0 (if up then HB_PATH.up else HB_PATH.silent)

/-- MIRROR_STATE and its alarm (R435, R442). -/
def State.noteMirror (s : State) : State :=
  let st := s.pairState
  let v :=
    if st = PAIR_STATE.unpaired ∨ st = PAIR_STATE.listening then MIRROR_STATE.off
    else if st = PAIR_STATE.active ∨ st = PAIR_STATE.releasing then
      if s.bothSilent then MIRROR_STATE.off
      else if s.pathUp 0 = false then MIRROR_STATE.stale
      else if (s.rdN o1601_MIRROR_SEQ_SENT 0 + 65536 - s.pair.peerAck) % 65536 ≤ 64 then MIRROR_STATE.current else MIRROR_STATE.lagging
    else if s.pathUp 0 = false then MIRROR_STATE.stale
    else if s.pair.syncing then MIRROR_STATE.syncing
    else if (s.pair.peerSeq + 4294967296 - s.rdN o1601_MIRROR_SEQ_APPLIED 0) % 4294967296 ≤ 64 then MIRROR_STATE.current else MIRROR_STATE.lagging
  (s.wr o1601_MIRROR_STATE 0 v).alarmWhile .PAIR_MIRROR_STALE noInst (v == MIRROR_STATE.stale || v == MIRROR_STATE.lagging)

/-- PAIR_ISOLATED stands while a paired module hears nothing and PEER_CUSTODY_IN is high (R437). -/
def State.noteIsolated (s : State) : State := s.alarmWhile .PAIR_ISOLATED noInst (s.paired && s.bothSilent && s.isOn o1601_PEER_CUSTODY 0)

/-! The gap (R439). -/

/-- The end of a silence of which the end is not known. -/
def openEnd : Nat := 2 ^ 80

/-- Every audio destination ramps to silence over 1 ms from now. -/
def State.gapSilence (s : State) : State := { s with aud := { s.aud with mutes := s.aud.mutes ++ [⟨0, 16384, s.now + 1000000, openEnd⟩] } }

/-- The silence of the gap ends now, and audio ramps up over 1 ms. -/
def State.gapSound (s : State) : State :=
  { s with aud := { s.aud with mutes := s.aud.mutes.map (fun m => if m.up = openEnd then { m with up := s.now } else m) } }

/-- A standby that hears nothing enters 'gap'. -/
def State.enterGap (s : State) : State :=
  if s.bothSilent ∧ s.pairState = PAIR_STATE.standby then (s.setPairState PAIR_STATE.gap).gapSilence else s

/-- To 'standby' from any state: a resynchronisation runs when entries may have been missed. -/
def State.toStandby (s : State) (sync : Bool) : State :=
  let s := if s.pairState = PAIR_STATE.gap then s.gapSound else s
  let s := (s.setCustody false).setPairState PAIR_STATE.standby
  { s with pair := { s.pair with handover := none, syncing := s.pair.syncing || sync } }

/-- Every encoded stream codes the frame as an IDR picture and marks a discontinuity (R438, R439). -/
def State.streamsRestart (s : State) : State := s.enc.chans.foldl (fun s e => s.setMint e.1 { s.mint e.1 with force := true, discont := true }) s

/-- A module takes custody at a TD0 tick: EPOCH above the peer's, the lease renewed, CUSTODY_OUT high (R437, R438). -/
def State.takeCustody (s : State) : State :=
  let s := (s.wr o1601_EPOCH 0 ((s.pair.peerEpoch + 1) % 4294967296 : Nat)).wr o1601_LEASE_END 0 ((s.fcnt 0 + s.rdN o1600_LEASE_FRAMES 0) % 281474976710656 : Nat)
  let s := ((s.gapSound.setCustody true).setPairState PAIR_STATE.active).streamsRestart
  { s with pair := { s.pair with peerHandover := none, syncing := false, inbox := [] } }

/-- Custody taken under R437: counted, with the gap in frames since the peer was last heard (R440). -/
def State.takeOver (s : State) : State :=
  let gap := if s.pairState = PAIR_STATE.gap then some (s.fcnt 0 - s.pair.lastHeard) else none
  let s := (s.takeCustody.bump o1601_TAKEOVERS 0).wr o1601_LAST_TAKEOVER_FCNT 0 (s.fcnt 0)
  let s := match gap with
    | some g => s.wr o1601_LAST_GAP_FRAMES 0 (min g 65535 : Nat)
    | none => s
  (s.raiseQuiet .PAIR_TAKEOVER noInst).noteMirror

/-! Pairing (R434). -/

/-- The links as they are when the module begins to listen; beside a peer whose custody is already seen it is a standby (R434). -/
def State.listen (s : State) : State :=
  let s := ((s.setCustody false).setPath 0 false).setPath 1 false
  let s := { s.setPairState PAIR_STATE.listening with pair := { ({} : Pair) with entered := s.now, enteredFcnt := s.fcnt 0, silentFrom := [s.now, s.now], lowFrom := s.pair.lowFrom } }
  (if s.isOn o1601_PEER_CUSTODY 0 then s.toStandby true else s).noteMirror.noteIsolated

/-- PAIR_ENABLE FALSE: 'unpaired' at once; CUSTODY_OUT high when media run (R427, R434). -/
def State.unpair (s : State) : State :=
  let s := s.gapSound.setPairState PAIR_STATE.unpaired
  let s := (s.setPath 1 false).wr o1601_IVARD_PATH 0 IVARD_PATH.none
  let s := { s with pair := { ({} : Pair) with entered := s.now, lowFrom := s.pair.lowFrom } }
  let s := (s.setCustody s.mediaRuns).noteMirror.noteIsolated
  (((s.clear .PAIR_PATH_LOSS 0).clear .PAIR_PATH_LOSS 1).clear .PAIR_ID_CONFLICT 0).clear .PAIR_ID_CONFLICT 1

/-- PAIR_ENABLE: FALSE is refused beside an active peer; TRUE takes effect at the next TD0 tick (R434). -/
def writePairEnable : Handler := onInt fun _ _ v s =>
  if v = 0 then
    if s.isOn o1601_PEER_CUSTODY 0 ∧ s.pairState ≠ PAIR_STATE.active then (0x1603, s)
    else (stOK, if s.paired then (s.wr o1600_PAIR_ENABLE 0 0).unpair else { s.wr o1600_PAIR_ENABLE 0 0 with pair := { s.pair with enableDue := false } })
  else (stOK, { s.wr o1600_PAIR_ENABLE 0 1 with pair := { s.pair with enableDue := !s.paired } })

def execPairEnable (t port : Nat) (on : Bool) (s : State) : Host.Outcome State Fault Refusal :=
  s.run t (fun s => s.opCmd writePairEnable port o1600_PAIR_ENABLE 0 (.int (boolVal on)))

/-- IVARD_LANE takes a lane in mode 'ivard', or none (R441). -/
def writeIvardLane : Handler := fun c r v s =>
  match v with
  | .int i =>
    if i = 65535 ∨ s.rd o3000_LANE_MODE i.toNat = LANE_MODE.ivard then
      let (k, s) := storeVal o1600_IVARD_LANE c r v s
      (k, if s.paired && !s.pathUp 0 then s.setPath 0 false else s)
    else (0x1604, s)
  | .bytes _ => (stENCODING, s)

/-- An unpaired module raises CUSTODY_OUT when media start; a pair begins to listen at the next TD0 tick (R427, R452). -/
def State.startPair (s : State) : State :=
  if s.isOn o1600_PAIR_ENABLE 0 then { s.unpair.setCustody false with pair := { s.unpair.pair with enableDue := true } } else s.setCustody true

/-- What a TD0 tick does in the pair: pairing begins, an active module renews its lease while it runs, unless its firmware has hung, and a module that has become a standby while
both paths were silent already enters 'gap' (R434, R436). -/
def State.pairTick (s : State) (hung : Bool) : State :=
  if s.pair.enableDue ∧ s.paired = false ∧ s.mediaRuns then s.listen
  else if s.pairState = PAIR_STATE.active ∧ s.mediaRuns ∧ hung = false then s.wr o1601_LEASE_END 0 ((s.fcnt 0 + s.rdN o1600_LEASE_FRAMES 0) % 281474976710656 : Nat)
  else if s.pairState = PAIR_STATE.standby ∧ s.mediaRuns ∧ s.bothSilent then s.enterGap.noteMirror
  else s

/-! Heartbeats (R432, R433). -/

/-- The fields of a heartbeat, and its bytes. -/
structure Heartbeat where
  pairId : Nat
  state : Nat
  flags : Nat
  epoch : Nat
  leaseEnd : Nat
  handover : Nat
  fcnt : Nat
  mirrorAck : Nat
  mirrorSeq : Nat
  echo : Nat
deriving DecidableEq, Repr

/-- The 32 bytes of a heartbeat. -/
def Heartbeat.bytes (h : Heartbeat) : Bytes :=
  leBytes 1 h.pairId ++ leBytes 1 h.state ++ leBytes 2 h.flags ++ leBytes 4 h.epoch ++ leBytes 6 h.leaseEnd ++ leBytes 2 h.handover ++ leBytes 6 h.fcnt ++
  leBytes 2 h.mirrorAck ++ leBytes 4 h.mirrorSeq ++ leBytes 4 h.echo

/-- Read a heartbeat. -/
def readHeartbeat (d : Bytes) : Heartbeat :=
  { pairId := fieldNat 0 1 d % 2
    state := fieldNat 1 1 d
    flags := fieldNat 2 2 d
    epoch := fieldNat 4 4 d
    leaseEnd := fieldNat 8 6 d
    handover := fieldNat 14 2 d
    fcnt := fieldNat 16 6 d
    mirrorAck := fieldNat 22 2 d
    mirrorSeq := fieldNat 24 4 d
    echo := fieldNat 28 4 d }

/-- Whether the active bank matches the peer's, as FLAGS bit 1 says: loads and swaps are mirrored, so that a module with an active bank serves what its peer serves unless a
resynchronisation runs (DEDUCED, log entry 118). -/
def State.bankMatches (s : State) : Bool := s.activeBank.isSome && !s.pair.syncing

/-- The heartbeat of the cadence cycle in progress. -/
def State.heartbeat (s : State) : Heartbeat :=
  let active := s.pairState == PAIR_STATE.active || s.pairState == PAIR_STATE.releasing
  { pairId := s.rdN o1600_PAIR_ID 0
    state := s.pairState.toNat
    flags := (if s.rd o1601_MIRROR_STATE 0 = MIRROR_STATE.current then 1 else 0) + (if s.bankMatches then 2 else 0) + (if s.pair.handover.isSome then 4 else 0)
    epoch := s.rdN o1601_EPOCH 0
    leaseEnd := s.rdN o1601_LEASE_END 0
    handover := match s.pair.handover with
      | some h => h - s.fcnt 0
      | none => 0
    fcnt := s.fcnt 0
    mirrorAck := s.rdN o1601_MIRROR_SEQ_APPLIED 0 % 65536
    mirrorSeq := if active then s.rdN o1601_MIRROR_SEQ_SENT 0 else s.rdN o1601_MIRROR_SEQ_APPLIED 0
    echo := s.cadence % 65536 * 65536 + s.pair.peerCycle }

/-- A paired module sends a heartbeat on both paths in every cadence cycle; in the safe state and while it stops it sends none (R432, R447, R450). -/
def State.heartbeatSend (s : State) : State :=
  if s.paired = false ∨ s.mediaRuns = false then s
  else
    let b := s.heartbeat.bytes
    let s := if s.ivardLane.isSome then s.emit (.heartbeat 0 b) else s
    s.emit (.heartbeat 1 b)

/-- What a valid heartbeat says of the peer. -/
def State.notePeer (s : State) (path : Nat) (h : Heartbeat) : State :=
  let s := (s.bump o1603_HB_RECEIVED path).setPath path true
  let s := (s.clear .PAIR_PATH_LOSS path).clear .PAIR_ID_CONFLICT path
  let s := (s.wr o1601_PEER_STATE 0 (min h.state 5 : Nat)).wr o1601_PEER_LEASE_END 0 (s.fromPeer 0 h.leaseEnd : Nat)
  let p := s.pair
  let pend := if h.flags.testBit 2 ∧ h.handover ≠ 0 then some (s.fromPeer 0 (h.fcnt + h.handover)) else p.peerHandover
  { s with pair := { p with heard := p.heard.set path s.now, lastHeard := s.fcnt 0, peerFlags := h.flags, peerEpoch := h.epoch, peerId := h.pairId, peerSeq := h.mirrorSeq,
                            peerAck := h.mirrorAck, peerCycle := h.echo / 65536, heardListening := p.heardListening || h.state == 1, peerHandover := pend } }

/-- The transitions that a heard heartbeat makes (R434). -/
def State.hearPeer (s : State) (h : Heartbeat) : State :=
  let st := s.pairState
  if st = PAIR_STATE.gap then s.toStandby (decide (h.mirrorSeq ≠ s.rdN o1601_MIRROR_SEQ_APPLIED 0))
  else if st = PAIR_STATE.listening ∧ (h.state = 4 ∨ h.state = 5) then s.toStandby true
  else if st = PAIR_STATE.active ∧ h.state = 4 ∧
      (s.rdN o1601_EPOCH 0 < h.epoch ∨ (h.epoch = s.rdN o1601_EPOCH 0 ∧ h.pairId < s.rdN o1600_PAIR_ID 0)) then
    (s.toStandby true).pulse .PAIR_DUAL_ACTIVE noInst
  else s

/-- A heartbeat arrives on a path (R433): one with a bad CRC is counted, one with the module's own PAIR_ID raises PAIR_ID_CONFLICT. -/
def State.rxHeartbeat (s : State) (path : Nat) (d : Bytes) (crcOk : Bool) : State :=
  let h := readHeartbeat d
  if crcOk = false ∨ d.length ≠ 32 then s.bump o1603_HB_ERRORS path
  else if s.paired = false then s
  else if h.pairId = s.rdN o1600_PAIR_ID 0 then s.raise .PAIR_ID_CONFLICT path
  else
    let was := s.rd o1601_PEER_STATE 0
    let s := (s.notePeer path h).hearPeer h
    let s := if s.pairState = PAIR_STATE.active ∧ h.state = 2 ∧ was ≠ PEER_STATE.standby then s.emit .resync else s
    s.noteMirror.noteIsolated

def execHeartbeatRx (t path : Nat) (d : Bytes) (crcOk : Bool) (s : State) : Host.Outcome State Fault Refusal := s.run t (fun s => s.rxHeartbeat (min path 1) d crcOk)

/-- A path on which no valid heartbeat has arrived for HB_TIMEOUT_CYCLES falls silent (R433); both silent, a standby enters 'gap' (R434). -/
def State.pathSilent (s : State) (k : Nat) : State :=
  if s.paired = false ∨ s.pathUp k = false ∨ s.now < s.pair.heard.getD k 0 + 125000 * s.rdN o1600_HB_TIMEOUT_CYCLES 0 then s
  else
    let s := ((s.setPath k false).bump o1603_PATH_LOSSES k).raise .PAIR_PATH_LOSS k
    let s := { s with pair := { s.pair with silentFrom := s.pair.silentFrom.set k s.now } }
    s.enterGap.noteMirror.noteIsolated

def execHbPathSilent (t path : Nat) (s : State) : Host.Outcome State Fault Refusal := s.run t (fun s => s.pathSilent (min path 1))

/-- PEER_CUSTODY_IN changes: high, a listening module becomes standby (R434). -/
def State.peerCustody (s : State) (high : Bool) : State :=
  let s := s.wr o1601_PEER_CUSTODY 0 (boolVal high)
  let s := if high then s else { s with pair := { s.pair with lowFrom := s.now } }
  let s := if high ∧ s.pairState = PAIR_STATE.listening then s.toStandby true else s
  s.noteMirror.noteIsolated

def execPeerCustodyIn (t : Nat) (high : Bool) (s : State) : Host.Outcome State Fault Refusal := s.run t (fun s => s.peerCustody high)

/-! Claims (R437). -/

/-- The lease and the guard have passed at this tick: `lease` is the lease end that counts. -/
def State.leasePassed (s : State) (lease : Nat) : Bool := decide (lease + 1 + s.rdN o1600_GUARD_FRAMES 0 ≤ s.fcnt 0)

/-- Start of the GUARD_FRAMES frames before this tick. -/
def State.guardFrom (s : State) : Nat := s.now - s.rdN o1600_GUARD_FRAMES 0 * period3 (s.td 0).rate / 3

/-- Both paths have been silent throughout the guard frames. -/
def State.guardSilent (s : State) : Bool := s.bothSilent && s.pair.silentFrom.all (fun a => decide (a ≤ s.guardFrom))

/-- PEER_CUSTODY_IN has been low throughout the guard frames. -/
def State.guardLow (s : State) : Bool := !s.isOn o1601_PEER_CUSTODY 0 && decide (s.pair.lowFrom ≤ s.guardFrom)

/-- A module in 'gap' takes custody (R437); in the safe state none does (R427). -/
def State.gapClaim (s : State) : Bool :=
  s.pairState == PAIR_STATE.gap && s.mediaRuns && s.atTick && s.leasePassed (s.rdN o1601_PEER_LEASE_END 0) && s.guardSilent && s.guardLow && !s.alarmActive .PAIR_ID_CONFLICT

def execCustodyTakeover (t : Nat) (s : State) : Host.Outcome State Fault Refusal := s.run t (fun s => if s.gapClaim then s.takeOver else s)

/-- The wait of 'listening' has ended at this tick (R434). -/
def State.waitOver (s : State) : Bool :=
  decide (s.pair.enteredFcnt + s.rdN o1600_LEASE_FRAMES 0 + s.rdN o1600_GUARD_FRAMES 0 + 1 ≤ s.fcnt 0)

/-- A listening module claims (R437): heard nothing, under the conditions of 'gap' with the FCNT at which it began to listen in place of the peer's lease; the peer heard
'listening', PAIR_ID 0 at the end of the wait. -/
def State.listenClaim (s : State) : Bool :=
  s.pairState == PAIR_STATE.listening && s.mediaRuns && s.atTick && s.waitOver && !s.alarmActive .PAIR_ID_CONFLICT &&
  (if s.pair.heardListening then s.rd o1600_PAIR_ID 0 == 0 && s.guardLow else s.leasePassed s.pair.enteredFcnt && s.guardSilent && s.guardLow)

def execListenWaitEnd (t : Nat) (s : State) : Host.Outcome State Fault Refusal := s.run t (fun s => if s.listenClaim then s.takeOver else s)

/-- The lease lapses at the tick that begins frame LEASE_END + 1: the supervisor fences the module (R436). -/
def State.leaseLapse (s : State) : State :=
  if s.atTick ∧ (s.pairState = PAIR_STATE.active ∨ s.pairState = PAIR_STATE.releasing) ∧ s.rdN o1601_LEASE_END 0 + 1 ≤ s.fcnt 0 then (s.toStandby true).noteMirror else s

def execLeaseLapse (t : Nat) (s : State) : Host.Outcome State Fault Refusal := s.run t (fun s => s.leaseLapse)

/-! Release (R438). -/

/-- Whether the peer is ready to take over: heard as 'standby', its mirror current, its active bank matching. -/
def State.peerReady (s : State) : Bool :=
  !s.bothSilent && s.rd o1601_PEER_STATE 0 == PEER_STATE.standby && s.pair.peerFlags.testBit 0 && s.pair.peerFlags.testBit 1

/-- CUSTODY_CMD. -/
def writeCustodyCmd : Handler := onInt fun _ _ v s =>
  if s.pairState ≠ PAIR_STATE.active then (0x1602, s)
  else if v = CUSTODY_CMD.release ∧ s.peerReady = false then (0x1601, s)
  else (stOK, s.startRelease.wr o1600_CUSTODY_RESULT 0 0)

def execCustodyRelease (t port : Nat) (s : State) : Host.Outcome State Fault Refusal :=
  s.run t (fun s => s.opCmd writeCustodyCmd port o1600_CUSTODY_CMD 0 (.int CUSTODY_CMD.release))

def execCustodyForceRelease (t port : Nat) (s : State) : Host.Outcome State Fault Refusal :=
  s.run t (fun s => s.opCmd writeCustodyCmd port o1600_CUSTODY_CMD 0 (.int CUSTODY_CMD.force_release))

/-- The handover tick: the releasing module steps down, and a standby that has received the release takes custody (R434, R438). -/
def State.handoverTick (s : State) : State :=
  if s.atTick = false then s
  else if s.pairState = PAIR_STATE.releasing then
    match s.pair.handover with
    | some h => if h ≤ s.fcnt 0 then (s.toStandby true).noteMirror else s
    | none => s
  else if s.pairState = PAIR_STATE.standby then
    match s.pair.peerHandover with
    | some h => if h ≤ s.fcnt 0 ∧ s.mediaRuns then s.takeCustody.noteMirror else s
    | none => s
  else s

/-- A custody word is lost (R436): an active module releases, a standby resynchronises. -/
def State.custodyLost (s : State) : State :=
  if s.pairState = PAIR_STATE.active then s.ownRelease
  else if s.pairState = PAIR_STATE.standby then { s with pair := { s.pair with syncing := true } }.noteMirror else s

/-! The Ivard link (R429-R431). -/

/-- Frames that an ACK acknowledges leave the list. -/
def acked (ack : Nat) (l : List (Nat × List MirrorEntry)) : List (Nat × List MirrorEntry) :=
  if l.any (fun e => e.1 == ack) then (l.dropWhile (fun e => e.1 != ack)).drop 1 else l

/-- ACK of a channel advances. -/
def State.takeAck (s : State) (k ack : Nat) : State :=
  let x := s.ivard k
  let l := acked ack x.unacked
  if l.length < x.unacked.length then s.setIvard k { x with unacked := l, movedAt := s.now } else s

/-- 50 µs without progress of ACK: every frame after the last acknowledged one is sent again (R430). -/
def State.ivardResend (s : State) (k : Nat) : State :=
  let x := s.ivard k
  if x.unacked = [] ∨ s.now < x.movedAt + 50000 then s
  else
    let s := s.setIvard k { x with movedAt := s.now }
    x.unacked.foldl (fun s e => s.emit (.ivard k e.1 (x.lastRx.getD 0) e.2)) s

def execIvardResendTimeout (t channel : Nat) (s : State) : Host.Outcome State Fault Refusal := s.run t (fun s => s.ivardResend channel)

/-- Who performs a mirrored write (R435): the peer's session of a port, with the roles and partition under which it was accepted. Its per-session objects stand apart from those of
the module's own sessions. -/
def mirrorCtx (e : MirrorEntry) : Ctx := ⟨e.port + 8, e.roles, e.part⟩

/-- Whether a mirrored write has come to its frame: a command given now would reach that frame, or a later one. -/
def State.entryReach (s : State) (e : MirrorEntry) : Option (Nat × Nat) := (s.entryFrame (mirrorCtx e) e.obj e.row).map (fun f => (f.2, (e.frame.map (·.2)).getD f.2))

/-- Apply a mirrored write: late when its frame's latch instant has passed (R435). -/
def State.applyEntry (s : State) (apply : MirrorEntry → State → State) (e : MirrorEntry) : State :=
  let late : Bool := match s.entryReach e with
    | some (now, want) => e.frame.isSome && decide (want < now)
    | none => false
  let s := if late then s.bump o1601_MIRROR_LATE 0 else s
  let s := apply e s
  if e.seq = 0 then s else s.wr o1601_MIRROR_SEQ_APPLIED 0 e.seq

/-- The entries received are applied in order, each once its frame is reached. -/
def State.drainInbox (apply : MirrorEntry → State → State) : List MirrorEntry → State → State
  | [], s => { s with pair := { s.pair with inbox := [] } }
  | e :: l, s =>
    let wait : Bool := match s.entryReach e with
      | some (now, want) => e.frame.isSome && decide (now < want)
      | none => false
    if wait then { s with pair := { s.pair with inbox := e :: l } } else State.drainInbox apply l (s.applyEntry apply e)

/-- Entries that wait are tried again. -/
def State.mirrorWork (s : State) (apply : MirrorEntry → State → State) : State :=
  if s.pair.inbox = [] then s else (State.drainInbox apply s.pair.inbox s).noteMirror

/-- What a frame of channel 1 or 2 brings to a standby. -/
def State.takeItem (apply : MirrorEntry → State → State) (k : Nat) (s : State) : IvardItem → State
  | .write e => if k = 1 then { s with pair := { s.pair with inbox := s.pair.inbox ++ [e] } }.mirrorWork apply else apply e s
  | .bank b raw =>
    let st := s.bankState b
    if st = BANK_STATE.active ∨ st = BANK_STATE.armed ∨ st = BANK_STATE.retiring then s else (s.setBank b { ({} : Bank) with raw := raw }).startCheck b
  | .surface r px => s.setSurf r { s.surf r with bytes := px.zipIdx.map (fun x => (x.2, x.1)) }
  | .synced => { s.wr o1601_MIRROR_SEQ_APPLIED 0 s.pair.peerSeq with pair := { s.pair with syncing := false } }.noteMirror

/-- A block or a frame arrives on the Ivard link (R429, R430). -/
def State.rxIvard (s : State) (apply : MirrorEntry → State → State) : IvardRx → State
  | .stray => s.bump o1603_HB_ERRORS 0
  | .frame start data fin items =>
    let k := fieldNat 0 1 start
    let seq := fieldNat 1 3 start
    let len := fieldNat 4 2 start
    if start.length ≠ 7 ∨ fin.length ≠ 7 ∨ data.length ≠ 8 * len ∨ 1024 < len ∨ crc32c (start ++ data) ≠ fieldNat 0 4 fin then s.bump o1603_HB_ERRORS 0
    else if k = 0 then s.rxHeartbeat 0 data true
    else if s.paired = false ∨ 2 < k then s
    else
      let s := s.takeAck k (fieldNat 4 3 fin)
      let x := s.ivard k
      let inOrder : Bool := match x.lastRx with
        | some l => seq == (l + 1) % 16777216
        | none => true
      if len = 0 ∨ inOrder = false then s
      else
        let s := s.setIvard k { x with lastRx := some seq }
        let s := if s.isStandby then items.foldl (State.takeItem apply k) s else s
        s.emit (.ivard k (((s.ivard k).next + 16777215) % 16777216) seq [])

/-- The tick of the peer that a TICK block places (R431): the instant of its arrival less both latency constants and half the round trip. It gives the offset between the two ticks,
of the nearest ticks, and FCNT_OFFSET. -/
def State.rxTick (s : State) (d fcnt peerTx : Nat) : State :=
  let rx := match s.ivardLane with
    | some l => s.rdN o3100_RX_LATENCY_NS l
    | none => 0
  let p : Int := s.now - peerTx - rx - s.rdN o1601_LINK_RTT_NS 0 / 2
  let period : Int := period3 (s.td d).rate / 3
  let diff := p - (s.td d).tickAt
  let (n, off) : Int × Int := if period < 2 * diff then (s.fcnt d + 1, diff - period) else if 2 * diff < -period then (s.fcnt d - 1, diff + period) else (s.fcnt d, diff)
  let s := s.wr o1602_PEER_TICK_OFFSET_NS d (max (-2147483648) (min 2147483647 off))
  let s := s.wr o1602_FCNT_OFFSET d ((fcnt : Int) - n)
  s.alarmWhile .PAIR_TICK_SKEW d (s.inUse d && decide (1000 < off.natAbs))

def execIvardTickRx (t td fcnt peerTx : Nat) (s : State) : Host.Outcome State Fault Refusal := s.run t (fun s => if s.paired && decide (td < 4) then s.rxTick td fcnt peerTx else s)

/-- The round trip measured from the ECHO fields (R431). -/
def execLinkRttMeasure (t rtt : Nat) (s : State) : Host.Outcome State Fault Refusal :=
  s.run t (fun s => if s.paired && s.pathUp 0 then s.wr o1601_LINK_RTT_NS 0 (rtt % 4294967296 : Nat) else s)

/-- The active sends a TICK block after each frame tick of a domain in use (R431). -/
def State.sendTick (s : State) (d : Nat) : State :=
  if (s.pairState = PAIR_STATE.active ∨ s.pairState = PAIR_STATE.releasing) ∧ s.ivardLane.isSome ∧ s.inUse d then s.emit (.tick d (s.fcnt d)) else s

end Sys2Proof.Machine
end

