-- ==== Sys2Proof/Machine/Changeover.lean ====
section
/-! DEFINITION. Machine/Changeover.lean: the changeover of a timing domain in every subsystem, the start of media at the first one, the end of the domains of a bank that
the safe state discards (R45-R53, R402, R450, R452). -/

namespace Sys2Proof.Machine

open Sys2Proof

/-! Audio destinations of a domain (R53, R89). -/

/-- Audio destination channels that belong to a destination endpoint: those that the plan embeds, and those of the SDI output that it feeds. -/
def State.endpointChans (s : State) (e : PlanEndpoint) : List (Nat × Nat) :=
  (e.audioBase, e.audioCount) ::
    ((s.listed' o3580_SDI_OUT_LINKS).filter (fun l => s.rdN o3580_SDI_OUT_ENDPOINT l == e.ep)).map (fun l => (s.rdN o3580_OUT_AUDIO_BASE_CH l, s.rdN o3580_OUT_AUDIO_CHANNELS l))

/-- Audio destination channels of a domain under a plan, as first channel and count; with `old`, only those whose audio allocation that plan does not hold alike (R53): the channels
that endpoints embed, those of the streams of encoding channels, and those of audio packets. -/
def State.audioDests (s : State) (p : Plan) (old : Option Plan) (d : Nat) : List (Nat × Nat) :=
  let es := (p.endpoints.filter (fun e => e.dom == d && isDest e.ep && match old with
    | some o => o.endpoints.all (fun x => x.ep != e.ep || x.dom != d || x.audioBase != e.audioBase || x.audioCount != e.audioCount)
    | none => true)).map s.endpointChans
  let ms := (p.mints.filter (fun m => m.dom == d && match old with
    | some o => o.mints.all (fun x => x.ch != m.ch || x.dom != d || x.streams != m.streams || x.chPer != m.chPer)
    | none => true)).map (fun m => (s.rdN o5100_AUDIO_BASE_CH m.ch, m.streams * m.chPer))
  let count (p : Plan) (first : Nat) : Nat := ((p.audio.find? (fun a => a.dest && a.first == first)).map (·.count)).getD 0
  let rs := (p.outRows.filter (fun r => r.dom == d && (r.kind == 2 || r.kind == 3) && match old with
    | some o => o.outRows.all (fun x => x.row != r.row || x.dom != d || x.kind != r.kind || x.ep != r.ep || count o x.ep != count p r.ep)
    | none => true)).map (fun r => (r.ep, count p r.ep))
  (es.flatten ++ ms ++ rs).filter (fun e => e.2 != 0)

/-- Mutes of channels between two instants. -/
def mutesOf (l : List (Nat × Nat)) (down up : Nat) : List Mute := l.map (fun e => ⟨e.1, e.2, down, up⟩)

/-- What a new plan of a domain does to every subsystem; `old` is the plan that served it, `dark` says that changed allocations start afresh, `fresh` that the domain starts, `moved` that
its rate code changes (R50, R53). -/
def State.planChanged (s : State) (d : Nat) (old : Plan) (dark fresh moved : Bool) : State :=
  let s := (s.mediaChangeover.egressChangeover.fabricChangeover d old dark fresh moved).encoderChangeover d old dark moved
  let s := ((s.compChangeover d old dark).rasterChangeover d old moved).noteTally.dropGranules
  s.lanesPower.noteLanes.noteUnits

/-! The first changeover (R402, R452). -/

/-- The route records in takes: channels that carry 96 kHz go in pairs. -/
def routeItems (s : State) : List (Bool × Nat × Nat) → List SalvoItem
  | (true, a, x) :: (true, b, y) :: l =>
    if s.dstRate a = 2 ∧ a % 2 = 0 ∧ b = a + 1 ∧ y = x + 1 then .audio a x 2 0 :: routeItems s l
    else .audio a x 1 0 :: routeItems s ((true, b, y) :: l)
  | (true, a, x) :: l => .audio a x 1 0 :: routeItems s l
  | (false, r, x) :: l => .video (destEndpoint r) x :: routeItems s l
  | [] => []

/-- The route records apply as one take 'now'; those that the active bank does not permit are skipped and counted (R402). -/
def State.applyRoutes (s : State) : State :=
  (routeItems s s.ctl.routeRecs).foldl (fun s i =>
    if s.checkItem ctxDevice s.routeFrame [] i = 0 then s.acceptItem s.now (s.now + 1) none i
    else (s.bump o1200_RECORDS_SKIPPED 0).raise .CFG_RECORDS_SKIPPED noInst) s

/-- The staged values of every planned head are committed (R402). -/
def State.commitHeads (s : State) : State := s.headsPlanned.foldl (fun s h => (writeHeadCommit ctxDevice h.v (.int 0) s).2) s

/-- Whether the first changeover tick makes the device 'running': in start-up, after 'leave', or out of the safe state for 'ledger' (R457, R458). -/
def State.startsMedia (s : State) : Bool :=
  let v := s.rd o1401_DEVICE_STATE 0
  v == DEVICE_STATE.starting || (v == DEVICE_STATE.safe && (s.pwr.leaving || s.rd o1401_SAFE_REASON 0 == SAFE_REASON.ledger))

/-- Media start (R452). -/
def State.startMedia (s : State) : State :=
  let ms := (s.now - s.pwr.stage0At) / 1000000
  let s := if s.rd o1401_DEVICE_STATE 0 = DEVICE_STATE.starting then
      (s.wr o1401_START_MS 0 (min ms 4294967295 : Nat)).alarmWhile .SYS_START_SLOW noInst (decide (20000 < ms))
    else s
  let s := (s.wr o1401_DEVICE_STATE 0 DEVICE_STATE.running).wr o1401_SAFE_REASON 0 SAFE_REASON.none
  let s := { s with pwr := { s.pwr with safeOut := false, starting := false, leaving := false, armedFirst := false, testHold := [] } }
  ((s.clear .SYS_SAFE_STATE noInst).refreshPower.applyRoutes.commitHeads).startPair.noteLanes

/-- The changeover of a domain on its changeover tick (R47). -/
def State.changeover (s : State) (d : Nat) : State :=
  match s.led.swap with
  | none => s
  | some w =>
    let old := s.planOf d
    let fresh := !s.inUse d
    let was := s.bankRate (s.serving d) d
    let s := (s.setTd d { s.td d with changeDue := false }).changeoverBank d
    let dark := w.kind == LAST_SWAP_KIND.dark
    let s := (s.notePhaseSource d).tdAlarms d
    let moved := was != 0 && was != s.bankRate (s.serving d) d
    let s := s.planChanged d old dark fresh moved
    let s := if dark then { s with aud := { s.aud with mutes := s.aud.mutes ++ mutesOf (s.audioDests (s.planOf d) (if moved then none else some old) d) s.now (s.tickIn d 1) } } else s
    if s.startsMedia then s.startMedia else s

def execDomainChangeover (t td : Nat) (s : State) : Host.Outcome State Fault Refusal :=
  s.run t (fun s => if decide (td < 4) && (s.td td).changeDue then s.changeover td else s)

/-! The end of a bank (R450). -/

/-- A domain whose bank is discarded: its rate reads 00h, what it fed ends (R450). -/
def State.endDomain (s : State) (d : Nat) : State :=
  let old := s.planOf d
  let s := { s with led := { s.led with serving := storeDel d s.led.serving } }
  ((((s.noteRate d).noteActive).notePhaseSource d).tdAlarms d).planChanged d old true false false

/-- Both banks are discarded and read 'empty' (R450). -/
def State.discardBanks (s : State) : State :=
  let s := { s with led := { s.led with swap := none } }.wr o2000_SWAP_STATE 0 SWAP_STATE.idle
  let s := tdList.foldl (fun s d => s.setTd d { s.td d with changeDue := false }) s
  let s := (tdList.filter s.inUse).foldl State.endDomain s
  let s := (s.emptyBank 0 BANK_STATE.empty {}).emptyBank 1 BANK_STATE.empty {}
  (s.noteActive.noteTally.dropGranules).refreshPower

end Sys2Proof.Machine
end

