-- ==== Sys2Proof/Machine/Supply.lean ====
section
/-! DEFINITION. Machine/Supply.lean: the VIN supervisor, power domains, the safe state, resets (R443-R451, R455-R459, R489, R490). The start-up sequence and the end of a dip, which
write flash and apply configurations, are in Machine/Startup.lean. -/

namespace Sys2Proof.Machine

open Sys2Proof

/-! Domains (R448, R449). -/

/-- What depends on the power domains follows them. -/
def State.followPower (s : State) : State := s.refreshPower.lanesPower.noteUnits

/-- A ramp ends: the domain is on. -/
def State.rampDone (s : State) (pd : Nat) : State :=
  if pd < 96 ∧ s.pdState pd = PD_STATE.ramping then ((s.wr o1410_PD_STATE pd PD_STATE.on).clear .PWR_DOMAIN_FAULT pd).lanesPower.noteUnits else s

def execDomainRampDone (t pd : Nat) (s : State) : Host.Outcome State Fault Refusal := s.run t (fun s => s.rampDone pd)

/-- PD_CMD 'retry' (R449). -/
def writePdCmd : Handler := onInt fun _ pd _ s =>
  let st := s.pdState pd
  if st = PD_STATE.locked_off then (0x1412, s) else if st ≠ PD_STATE.fault then (stBUSY, s) else (stOK, s.wr o1410_PD_STATE pd PD_STATE.ramping)

def execPdRetry (t port pd : Nat) (s : State) : Host.Outcome State Fault Refusal := s.run t (fun s => s.opCmd writePdCmd port o1410_PD_CMD pd (.int 0))

/-! The safe state (R450, R451). -/

/-- The safe state is entered with a reason. -/
def State.doSafe (s : State) (reason : Int) : State :=
  let s := (s.wr o1401_DEVICE_STATE 0 DEVICE_STATE.safe).wr o1401_SAFE_REASON 0 reason
  let s := { s.setCustody false with pwr := { s.pwr with safeOut := true, starting := false, leaving := false, armedFirst := false, testHold := [] } }
  let s := if reason = SAFE_REASON.ledger then s else s.discardBanks
  let s := s.raiseWith .SYS_SAFE_STATE noInst Alarm.SYS_SAFE_STATE.severity Alarm.SYS_SAFE_STATE.subsys [BitVec.ofInt 8 reason]
  s.refreshPower.dropPower.lanesPower.noteLanes.noteUnits

/-- A cause of the safe state (R451, R457, R458): a paired active that can still do so hands over first; `now` is set for the causes that cannot wait. A device that is 'safe' keeps
its first reason. -/
def State.enterSafe (s : State) (reason : Int) (atOnce : Bool) : State :=
  let v := s.rd o1401_DEVICE_STATE 0
  if v ≠ DEVICE_STATE.starting ∧ v ≠ DEVICE_STATE.running then s
  else if atOnce = false ∧ (s.pairState = PAIR_STATE.active ∨ s.pairState = PAIR_STATE.releasing) then
    let s := s.ownRelease
    { s with pair := { s.pair with safeAfter := s.pair.safeAfter.or (some reason) } }
  else s.doSafe reason

/-- The handover tick, after which a module on its way into the safe state enters it. -/
def State.handover' (s : State) : State :=
  let s' := s.handoverTick
  match s'.pair.safeAfter with
  | some r => if s'.pairState = PAIR_STATE.standby then { s' with pair := { s'.pair with safeAfter := none } }.doSafe r else s'
  | none => s'

def execHandoverTick (t : Nat) (s : State) : Host.Outcome State Fault Refusal := s.run t (fun s => s.handover')

/-- A converter reports a fault (R449). -/
def State.domainFault (s : State) (pd : Nat) : State :=
  let st := s.pdState pd
  if 96 ≤ pd ∨ (st ≠ PD_STATE.ramping ∧ st ≠ PD_STATE.on ∧ st ≠ PD_STATE.hold) then s
  else
    let l := s.now :: (((storeGet pd s.pwr.faults).getD []).filter (fun a => decide (s.now < a + 60 * second)))
    let s := { s with pwr := { s.pwr with faults := storePut natLt pd l s.pwr.faults } }
    let s := (s.wr o1410_PD_STATE pd (if 3 ≤ l.length then PD_STATE.locked_off else PD_STATE.fault)).bump o1410_PD_FAULTS pd
    let s := (s.raiseWith .PWR_DOMAIN_FAULT pd Alarm.PWR_DOMAIN_FAULT.severity (pdSubsys pd) []).lanesPower.noteUnits
    if 76 ≤ pd ∧ pd < 82 then s.enterSafe SAFE_REASON.domain false else if 86 ≤ pd ∧ pd < 90 then s.enterSafe SAFE_REASON.domain true else s

def execDomainFault (t pd : Nat) (s : State) : Host.Outcome State Fault Refusal := s.run t (fun s => s.domainFault pd)

/-! What a reset leaves. -/

/-- A save that is broken off leaves its target as it was or not valid; which of the two is open (a free number). -/
def State.breakSave (s : State) : State :=
  match s.ctl.save with
  | some v =>
    let (n, s) := s.takeFree
    if s.rd o1200_CONFIG_STATE 0 = CONFIG_STATE.saving ∧ n % 2 = 1 then { s with ctl := { s.ctl with cfgSlots := storePut natLt v.target [] s.ctl.cfgSlots } } else s
  | none => s

/-- Objects in non-volatile memory: the key store, OTP, firmware slots, the identity, the records of memory, counts since manufacture; and the level of a pin. -/
def nonVolatile (o : Nat) : Bool :=
  let i := o / 256
  [0x1100, 0x1131, 0x1134, 0x1135, 0x7005].contains i || (i == 0x1132 && o != o1132_FW_XFER_OFFSET) ||
  [o1000_SERIAL_NUMBER, o1120_CP_MAC, o1130_POLICY, o1130_ROLLBACK_COUNTER, o1200_SAVES, o1401_RESTARTS, o7002_RETIREMENTS, o7002_WEAK_WORDS, o7002_REPAIRS_PENDING,
    o7002_WEAK_UNLISTED, o7003_ROWS_RETIRED, o1601_PEER_CUSTODY].contains o

/-- Objects of the VIN supervisor, the reset-cause record and the vault, which NRST_IN leaves (R456, R470). -/
def supervised (o : Nat) : Bool := (o / 256 == 0x1400 && o != o1400_TEMP_WARN_C && o != o1400_POSTPONED_WRITES) || [o1401_RESET_CAUSE, o1503_VAULT_STATE, o1503_VAULT_TRIGGER_SEQ].contains o

/-- Status of the reference selector and the time clock, which a restart without NRST_IN leaves (R93, R453). -/
def selectorKept (o : Nat) : Bool :=
  ([0x2100, 0x2101, 0x2200, 0x2201, 0x2300, 0x2301, 0x2303, 0x2310].contains (o / 256)) &&
  (match findObj o with
    | some d => d.access == .ro
    | none => false)

/-- Alarm points whose conditions lie outside what a reset resets. -/
def keptPoint (restart : Bool) (a : Alarm) : Bool :=
  [Alarm.PWR_VIN_HIGH, .PWR_TEMP_HIGH, .PWR_TEMP_STOP, .PWR_RIDE_THROUGH, .PWR_VIN_STOP, .OSC_IN_LOSS].contains a || (restart && a.subsys == 9)

/-- The module after a loss of its volatile state: `aon` says that the supervisor and the vault have kept theirs, `restart` that the whole always-on domain has. Open sessions end
(R392), banks and everything that ran are gone, memory lists nothing. -/
def State.cold (s : State) (aon restart : Bool) : State :=
  let keep := fun (o : Nat) => nonVolatile o || (aon && supervised o) || (restart && selectorKept o)
  let open_ := portList.filter (fun p => (s.port p).session.isSome)
  let s := s.breakSave.dropFlash
  let s' : State :=
    { State.reset with
      pending := s.pending
      mem := s.mem
      orders := [.clear]
      now := s.now
      clk := if restart then s.clk else 0
      regs := s.regs.filter (fun e => keep e.1.1)
      octs := s.octs.filter (fun e => keep e.1.1)
      ctl := { keys := s.ctl.keys, vkeys := s.ctl.vkeys, cfgSlots := s.ctl.cfgSlots }
      alm := { points := if aon then s.alm.points.filter (fun e => keptPoint restart e.1) else [], nextSeq := if aon then s.alm.nextSeq else 0,
               vault := if aon then s.alm.vault else [], vaultLeft := if aon then s.alm.vaultLeft else 0 }
      led := {}
      cands := if restart then s.cands else []
      tds := if restart then s.tds else []
      ptp := if restart then s.ptp else {}
      pwr := { aon := s.pwr.aon, dipFrom := if aon then s.pwr.dipFrom else none, dipMin := s.pwr.dipMin, warnOut := aon && s.pwr.warnOut, slowed := aon && s.pwr.slowed, oscIn := s.pwr.oscIn,
               caseTemp := s.pwr.caseTemp, nrstLow := s.pwr.nrstLow, rsvd := aon && s.pwr.rsvd }
      med := {}
      aud := {}
      fab := {}
      tlr := {}
      eg := {}
      enc := {}
      cmp := {}
      ras := {}
      itg := { bankUsed := s.itg.bankUsed, memUsed := s.itg.memUsed }
      sec := { fw := s.sec.fw, boot := s.sec.boot, journal := s.sec.journal }
      pair := { lowFrom := s.pair.lowFrom }
      tap := if aon then s.tap else {}
      out := s.out
      free := s.free
      last := s.last }
  open_.foldl (fun s p => s.wr o1101_LAST_END_REASON p LAST_END_REASON.restart) s'

/-- Stage 0 begins (R452). -/
def State.beginStart (s : State) : State :=
  let s := ((s.wr o1401_DEVICE_STATE 0 DEVICE_STATE.starting).wr o1401_START_STAGE 0 START_STAGE.aon).bump o1401_RESTARTS 0
  { s with pwr := { s.pwr with starting := true, stage0At := s.now, stageAt := s.now } }

/-- A restart from stage 0 with a cause; the always-on domain runs on. -/
def State.restart (s : State) (cause : Int) : State := ((s.cold true true).wr o1401_RESET_CAUSE 0 cause).beginStart

/-! The supply (R443-R447, R489). -/

/-- Note the supply voltage in mV; a lowest or highest value of 0 has not been measured. -/
def State.noteVin (s : State) (mv : Nat) : State :=
  let s := s.wr o1400_VIN_MV 0 mv
  let lo := s.rdN o1400_VIN_MIN_MV 0
  let s := if lo = 0 ∨ mv < lo then s.wr o1400_VIN_MIN_MV 0 mv else s
  if s.rdN o1400_VIN_MAX_MV 0 < mv then s.wr o1400_VIN_MAX_MV 0 mv else s

/-- VIN rises through 33.0 V: the always-on domain comes up and waits for the start level (R489, R490). -/
def State.powerUp (s : State) (mv : Nat) : State :=
  if s.pwr.aon then s
  else
    let s := { s with pwr := { s.pwr with aon := true } }.cold false false
    (s.wr o1401_RESET_CAUSE 0 RESET_CAUSE.power_on).noteVin mv

def execAonPowerUp (t mv : Nat) (s : State) : Host.Outcome State Fault Refusal := s.runAny t (fun s => s.powerUp mv)

/-- VIN falls through 30.0 V: the module is unpowered (R443). -/
def execAonLockout (t : Nat) (s : State) : Host.Outcome State Fault Refusal :=
  s.runAny t (fun s => { s.cold false false with pwr := { (s.cold false false).pwr with aon := false } })

/-- VIN above the start level for 10 ms, which ends what is left of a dip (R443, R444): a module that waits begins stage 0; after 'vin-stop' and 'vin-high' it restarts when AUTO_RESTART is TRUE (R447). -/
def State.vinStart (s : State) (mv : Nat) : State :=
  let s := (s.noteVin mv).clear .PWR_VIN_STOP noInst
  let v := s.rd o1401_DEVICE_STATE 0
  let r := s.rd o1401_SAFE_REASON 0
  let s := if v ≠ DEVICE_STATE.stopping ∧ s.rd o1400_SUPPLY_STATE 0 = SUPPLY_STATE.stopping then
      { s.wr o1400_SUPPLY_STATE 0 SUPPLY_STATE.normal with pwr := { s.pwr with warnOut := false } }
    else s
  if v = DEVICE_STATE.starting ∧ s.pwr.starting = false then s.beginStart
  else if v = DEVICE_STATE.safe ∧ s.isOn o1401_AUTO_RESTART 0 then
    if r = SAFE_REASON.vin_stop then s.restart RESET_CAUSE.vin_stop else if r = SAFE_REASON.vin_high then s.restart RESET_CAUSE.vin_high else s
  else s

def execVinStart (t mv : Nat) (s : State) : Host.Outcome State Fault Refusal := s.run t (fun s => s.vinStart mv)

/-- TRACE_EFFECTIVE of the channels and AUDITOR_STATE take the rates of a ride-through, or leave them (R445, R446, R471). -/
def State.setSlowed (s : State) (dip : Bool) : State :=
  let s := { s with pwr := { s.pwr with slowed := dip } }
  let s := (List.range 16).foldl (fun s c => s.wr o1504_TRACE_EFFECTIVE c (if dip then min 65535 (8 * s.rdN o1504_TRACE_INTERVAL c) else s.rdN o1504_TRACE_INTERVAL c : Nat)) s
  if s.rd o7001_AUDITOR_MODE 0 = AUDITOR_MODE.off then s else s.wr o7001_AUDITOR_STATE 0 (if dip then AUDITOR_STATE.slowed else AUDITOR_STATE.running)

/-- Rates and PWR_RIDE_THROUGH at the start and at the end of a ride-through (R445, R446, R461): the rates come back with the next frame of a domain in use, at once where none is. -/
def State.noteDip (s : State) : State :=
  let s := if s.pwr.dipFrom.isSome then s.setSlowed true else if tdList.any s.inUse then s else s.setSlowed false
  s.alarmWhile .PWR_RIDE_THROUGH noInst (s.rd o1400_SUPPLY_STATE 0 == SUPPLY_STATE.ride_through)

/-- VIN falls through 41.0 V: ride-through begins (R445). -/
def State.vinWarning (s : State) (mv : Nat) : State :=
  let s := s.noteVin mv
  if s.rd o1400_SUPPLY_STATE 0 ≠ SUPPLY_STATE.normal then s
  else ({ s with pwr := { s.pwr with warnOut := true, dipFrom := some s.now, dipMin := mv } }.wr o1400_SUPPLY_STATE 0 SUPPLY_STATE.ride_through).noteDip

def execVinWarning (t mv : Nat) (s : State) : Host.Outcome State Fault Refusal := s.run t (fun s => s.vinWarning mv)

/-- VIN crosses the reset or the over-voltage level: the device stops in order (R447). The postponed flash writes are discarded. -/
def State.orderlyStop (s : State) (mv : Nat) (reason : Int) : State :=
  let s := s.noteVin mv
  let v := s.rd o1401_DEVICE_STATE 0
  if v ≠ DEVICE_STATE.starting ∧ v ≠ DEVICE_STATE.running ∧ v ≠ DEVICE_STATE.safe then s
  else
    let s := (((s.raise .PWR_VIN_STOP noInst).setCustody false).clear .SYS_SAFE_STATE noInst).dropFlash
    let s := { s with pwr := { s.pwr with safeOut := true, dipFrom := none, starting := false, leaving := false, stopReason := reason } }
    let s := if s.rd o1200_CONFIG_STATE 0 = CONFIG_STATE.postponed then { s.wr o1200_CONFIG_STATE 0 CONFIG_STATE.idle with ctl := { s.ctl with save := none } } else s
    (((s.wr o1400_SUPPLY_STATE 0 SUPPLY_STATE.stopping).wr o1401_DEVICE_STATE 0 DEVICE_STATE.stopping).setSlowed false).noteDip

def execVinReset (t mv : Nat) (s : State) : Host.Outcome State Fault Refusal := s.run t (fun s => s.orderlyStop mv SAFE_REASON.vin_stop)

def execVinOvervoltage (t mv : Nat) (s : State) : Host.Outcome State Fault Refusal := s.run t (fun s => s.orderlyStop mv SAFE_REASON.vin_high)

/-- The stop is complete: every domain is off and the device is 'safe' (R447, R457). -/
def State.stopDone (s : State) : State :=
  if s.rd o1401_DEVICE_STATE 0 ≠ DEVICE_STATE.stopping then s
  else
    let s := pdList.foldl (fun s pd => if s.pdState pd = PD_STATE.locked_off then s else s.wr o1410_PD_STATE pd PD_STATE.off) s
    s.doSafe s.pwr.stopReason

def execOrderlyStopComplete (t : Nat) (s : State) : Host.Outcome State Fault Refusal := s.run t (fun s => s.stopDone)

/-- VIN between 60.0 V and 64.0 V (R443, R461). -/
def State.vinHigh (s : State) (mv : Nat) : State :=
  let s := s.noteVin mv
  if 60000 < mv then s.raise .PWR_VIN_HIGH noInst else if mv < 59500 then s.clear .PWR_VIN_HIGH noInst else s

def execVinHigh (t mv : Nat) (s : State) : Host.Outcome State Fault Refusal := s.run t (fun s => s.vinHigh mv)

/-! Commands and resets (R455-R459). -/

/-- SAFE_CMD (R458): 'enter'; 'leave' for the reasons 'command' and 'ledger', which runs stages 5-7; 'restart', under 'thermal' once the case is cool. -/
def writeSafeCmd : Handler := onInt fun _ _ v s =>
  let st := s.rd o1401_DEVICE_STATE 0
  let r := s.rd o1401_SAFE_REASON 0
  if v = SAFE_CMD.enter then
    if st = DEVICE_STATE.stopping ∨ st = DEVICE_STATE.recovery then (stBUSY, s) else (stOK, s.enterSafe SAFE_REASON.command false)
  else if v = SAFE_CMD.leave then
    if st ≠ DEVICE_STATE.safe ∨ (r ≠ SAFE_REASON.command ∧ r ≠ SAFE_REASON.ledger) then (0x1413, s)
    else
      let s := s.wr o1401_START_STAGE 0 START_STAGE.ledger
      let s := { s with pwr := { s.pwr with leaving := true, starting := true, stageAt := s.now, armedFirst := false } }
      (stOK, (s.beginLoad (some (s.rdN o2002_FLASH_IMAGE 0))).2)
  else if st ≠ DEVICE_STATE.safe then (stBUSY, s)
  else if r = SAFE_REASON.thermal ∧ 10 * s.rd o1400_TEMP_WARN_C 0 ≤ s.pwr.caseTemp then (stBUSY, s)
  else (stOK, s.restart RESET_CAUSE.command)

def execSafeEnter (t port : Nat) (s : State) : Host.Outcome State Fault Refusal := s.run t (fun s => s.opCmd writeSafeCmd port o1401_SAFE_CMD 0 (.int SAFE_CMD.enter))

def execSafeLeave (t port : Nat) (s : State) : Host.Outcome State Fault Refusal := s.run t (fun s => s.opCmd writeSafeCmd port o1401_SAFE_CMD 0 (.int SAFE_CMD.leave))

def execSafeRestart (t port : Nat) (s : State) : Host.Outcome State Fault Refusal :=
  s.run t (fun s => s.opCmd writeSafeCmd port o1401_SAFE_CMD 0 (.int SAFE_CMD.restart))

/-- NRST_IN: low for 1 µs, the module is in reset; on release it waits for the start level with the cause 'nrst' (R456, R490). -/
def State.nrst (s : State) (low : Bool) : State :=
  if s.pwr.aon = false then s
  else if low then
    if s.pwr.nrstLow then s else { s with pwr := { s.pwr with nrstLow := true } }.cold true false
  else if s.pwr.nrstLow then { s with pwr := { s.pwr with nrstLow := false } }.wr o1401_RESET_CAUSE 0 RESET_CAUSE.nrst else s

def execNrstIn (t : Nat) (low : Bool) (s : State) : Host.Outcome State Fault Refusal := s.runAny t (fun s => s.nrst low)

/-- The supervisor's watchdog: the core pairs are reset, the firmware is loaded again, sessions are lost, the device is 'safe' (R456). -/
def State.watchdog (s : State) : State :=
  let v := s.rd o1401_DEVICE_STATE 0
  if v = DEVICE_STATE.recovery ∨ v = DEVICE_STATE.stopping ∨ (v = DEVICE_STATE.starting ∧ s.rd o1401_START_STAGE 0 < START_STAGE.firmware) then s
  else
    let s := portList.foldl (fun s p => if (s.port p).session.isSome then s.endSession p LAST_END_REASON.restart else s) s
    ((s.setCustody false).wr o1401_RESET_CAUSE 0 RESET_CAUSE.watchdog).enterSafe SAFE_REASON.watchdog true

def execWatchdogTimeout (t : Nat) (s : State) : Host.Outcome State Fault Refusal := s.run t (fun s => s.watchdog)

/-- 1 s after an 'activate' in recovery the boot ROM restarts the device (R455). -/
def State.recoveryRestart (s : State) : State :=
  match s.pwr.recoveryAt with
  | some u => if s.rd o1401_DEVICE_STATE 0 = DEVICE_STATE.recovery ∧ u ≤ s.now then s.restart RESET_CAUSE.command else s
  | none => s

def execRecoveryRestart (t : Nat) (s : State) : Host.Outcome State Fault Refusal := s.run t (fun s => s.recoveryRestart)

/-- The case temperature in 0.1 °C (R459). -/
def State.caseTemp (s : State) (dc : Int) : State :=
  let s := { s.wr o1400_CASE_TEMP_DC 0 dc with pwr := { s.pwr with caseTemp := dc } }
  let s := if s.rd o1400_CASE_TEMP_MAX_DC 0 < dc then s.wr o1400_CASE_TEMP_MAX_DC 0 dc else s
  let w := 10 * s.rd o1400_TEMP_WARN_C 0
  let s := if w ≤ dc then s.raise .PWR_TEMP_HIGH noInst else if dc ≤ w - 30 then s.clear .PWR_TEMP_HIGH noInst else s
  if 950 ≤ dc then (s.raise .PWR_TEMP_STOP noInst).enterSafe SAFE_REASON.thermal false else if dc < w then s.clear .PWR_TEMP_STOP noInst else s

def execCaseTempSample (t : Nat) (dc : Int) (s : State) : Host.Outcome State Fault Refusal := s.run t (fun s => s.caseTemp dc)

/-! OSC_IN (R65, R458). -/

def execOscInLoss (t : Nat) (s : State) : Host.Outcome State Fault Refusal := s.run t (fun s => { s.raise .OSC_IN_LOSS noInst with pwr := { s.pwr with oscIn := false } })

/-- OSC_IN has been present for 1 s: stage 0 resumes after 'osc-in' (R458). -/
def State.oscRestored (s : State) : State :=
  let s := { s.clear .OSC_IN_LOSS noInst with pwr := { s.pwr with oscIn := true } }
  if s.rd o1401_DEVICE_STATE 0 = DEVICE_STATE.safe ∧ s.rd o1401_SAFE_REASON 0 = SAFE_REASON.osc_in then
    let s := ((s.wr o1401_DEVICE_STATE 0 DEVICE_STATE.starting).wr o1401_SAFE_REASON 0 SAFE_REASON.none).clear .SYS_SAFE_STATE noInst
    { s with pwr := { s.pwr with starting := true, stageAt := s.now } }
  else s

def execOscInRestored (t : Nat) (s : State) : Host.Outcome State Fault Refusal := s.run t (fun s => s.oscRestored)

end Sys2Proof.Machine
end

