-- ==== Sys2Proof/Machine/Reports.lean ====
section
/-! DEFINITION. Machine/Reports.lean: acknowledgements, coalesced events, the ring, the vault, the telemetry streams (R462-R474), a control port's link (R408) and the test access
port (R488). -/

namespace Sys2Proof.Machine

open Sys2Proof

/-! Points (R462-R464). -/

/-- The alarm of a point number. -/
def pointAlarm (pt : Nat) : Option Alarm := Alarm.all.find? (fun a => pointNo a == pt)

/-- LATCHED goes on a point that is not active. -/
def State.unlatch (s : State) (a : Alarm) : State := s.setPoint a { s.point a with latched := false }

/-- A write of LATCHED (R464). -/
def writeLatched : Handler := onInt fun _ pt _ s =>
  match pointAlarm pt with
  | none => (stOK, s)
  | some a =>
    if s.alarmActive a then (stBUSY, s)
    else if (s.point a).latched then (stOK, (s.unlatch a).logRec 5 (pointNo a) 0 (s.point a).subsys noInst [] false)
    else (stOK, s)

def execAlarmAck (t port pt : Nat) (s : State) : Host.Outcome State Fault Refusal := s.run t (fun s => s.opCmd writeLatched port o1501_LATCHED pt (.int 0))

/-- ACK_ALL: every point that is not active; one record when it clears at least one (R464). -/
def writeAckAll : Handler := onInt fun _ _ _ s =>
  let l := Alarm.all.filter (fun a => !s.alarmActive a && (s.point a).latched)
  if l = [] then (stOK, s) else (stOK, (l.foldl State.unlatch s).logRec 5 0xFFFF 0 0 noInst [] false)

def execAckAll (t port : Nat) (s : State) : Host.Outcome State Fault Refusal := s.run t (fun s => s.opCmd writeAckAll port o1500_ACK_ALL 0 (.int 0))

/-- Alarms that clear after 10 s without their cause do so (R463). -/
def State.quietClear (s : State) : State :=
  let due := s.alm.quiet.filter (fun q => decide (q.since + 10 * second ≤ s.now))
  let s := due.foldl (fun s q => s.clear q.alarm q.inst) s
  { s with alm := { s.alm with quiet := s.alm.quiet.filter (fun q => !decide (q.since + 10 * second ≤ s.now)) } }

def execAlarmClearTimer (t : Nat) (s : State) : Host.Outcome State Fault Refusal := s.run t (fun s => s.quietClear)

/-! Events of alarms (R465, R466). -/

/-- The payload of an alarm event. -/
def State.alarmPayload (s : State) (a : Alarm) (changes : Nat) : Bytes :=
  let p := s.point a
  leBytes 2 (pointNo a) ++ leBytes 1 p.severity ++ leBytes 1 ((if p.active = [] then 0 else 1) + (if p.latched then 2 else 0)) ++ leBytes 4 p.lastInstance ++ leBytes 4 p.raises ++
  leBytes 2 (min changes 65535) ++ leBytes 2 p.active.length ++ leBytes 12 p.lastChange

/-- The window of a point for a session ends: one event, unless the session does not receive the point's severity; the changes merged are counted. -/
def State.windowEnd (s : State) (port : Nat) (a : Alarm) : State :=
  match storeGet (port, a.rank) s.alm.windows with
  | none => s
  | some w =>
    if s.now < w.ends then s
    else
      let s := { s with alm := { s.alm with windows := storeDel (port, a.rank) s.alm.windows } }
      if (s.port port).session.isNone ∨ s.rdN o1506_EVENT_SEVERITY port + 1 < (s.point a).severity ∨ s.rd o1506_EVENT_SEVERITY port = EVENT_SEVERITY.none then s
      else (s.sendEvent port 2 (s.alarmPayload a w.changes)).addTo o1505_EVENTS_COALESCED port (w.changes - 1)

def execCoalesceWindow (t port alarm : Nat) (s : State) : Host.Outcome State Fault Refusal :=
  s.run t (fun s => match Alarm.all[alarm]? with
    | some a => s.windowEnd port a
    | none => s)

/-! The ring (R467-R469). -/

/-- Oldest record held, and the number of the next record. -/
def State.ringOldest (s : State) : Nat := (s.alm.ring.head?.map (·.seq)).getD s.alm.nextSeq

/-- Staged records go to the ring, up to 1,024 in a control cycle; the oldest records make room. -/
def State.ringDrain (s : State) : State :=
  let ring := s.alm.ring ++ s.alm.staging.take 1024
  let extra := ring.length - ringSize
  { s with alm := { s.alm with ring := ring.drop extra, staging := s.alm.staging.drop 1024 } }.addTo o1502_RING_OVERWRITTEN 0 extra

/-- A read of RING_DATA: a marker for what has been overwritten, then records from RING_READ_SEQ, 16 in all; RING_READ_SEQ passes them. -/
def State.readRing (s : State) (p : Nat) : Nat × Val × State :=
  let from_ := s.rdN o1502_RING_READ_SEQ p
  let old := s.ringOldest
  let pre := if from_ < old then
      match s.alm.ring.head? with
      | some r => [lostMarker r.seq r.time from_ (min (old - from_) 4294967295)]
      | none => []
    else []
  let l := pre ++ (s.alm.ring.filter (fun r => decide (from_ ≤ r.seq))).take (16 - pre.length)
  let s := match l.getLast? with
    | some r => s.wr o1502_RING_READ_SEQ p (if r.kind = 4 then r.seq else r.seq + 1 : Nat)
    | none => s
  (stOK, .bytes ((l.map logBytes).flatten), s)

def execRingData (t port : Nat) (s : State) : Host.Outcome State Fault Refusal := s.run t (fun s => s.opRead port o1502_RING_DATA 0 (fun s => s.readRing port))

/-! The vault (R470). -/

/-- VAULT_CMD 'rearm' is for a frozen vault. -/
def writeVaultCmd : Handler := onInt fun _ _ _ s =>
  if s.rd o1503_VAULT_STATE 0 = VAULT_STATE.frozen then (stOK, s.wr o1503_VAULT_STATE 0 VAULT_STATE.recording) else (stBUSY, s)

def execVaultRearm (t port : Nat) (s : State) : Host.Outcome State Fault Refusal := s.run t (fun s => s.opCmd writeVaultCmd port o1503_VAULT_CMD 0 (.int 0))

/-- VAULT_DATA: up to 1,024 bytes at VAULT_READ_OFFSET, oldest record first. -/
def State.vaultData (s : State) : Bytes :=
  let o := s.rdN o1503_VAULT_READ_OFFSET 0
  let l := (s.alm.vault.drop (o / 64)).take 17
  (((l.map logBytes).flatten).drop (o % 64)).take 1024

/-! Telemetry streams (R472). -/

/-- A port's stream. -/
def State.stream (s : State) (p : Nat) : TelStream := (storeGet p s.alm.streams).getD {}

/-- Set a stream. -/
def State.setStream (s : State) (p : Nat) (x : TelStream) : State := { s with alm := { s.alm with streams := storePut natLt p x s.alm.streams } }

/-- STREAM_ENABLE: a stream starts at RING_NEXT_SEQ. -/
def writeStream : Handler := onInt fun _ p v s =>
  let s := s.wr o1505_STREAM_ENABLE p v
  if v = 1 then (if (s.stream p).on then (stOK, s) else (stOK, s.setStream p { position := s.alm.nextSeq, on := true }))
  else (stOK, { s with alm := { s.alm with streams := storeDel p s.alm.streams } })

def execStreamEnable (t port row : Nat) (on : Bool) (s : State) : Host.Outcome State Fault Refusal :=
  s.run t (fun s => s.opCmd writeStream port o1505_STREAM_ENABLE row (.int (boolVal on)))

/-- STREAM_BUDGET_MBPS: 1-200 on SVC (R474). -/
def writeBudget : Handler := fun c p v s =>
  match v with
  | .int i => if p = 4 ∧ 200 < i then (stRANGE, s) else storeVal o1505_STREAM_BUDGET_MBPS c p v s
  | .bytes _ => (stENCODING, s)

/-- Send one item of a stream: event kind, bytes, bits of credit. -/
def State.sendItem (s : State) (p kind : Nat) (b : Bytes) : State :=
  let x := s.stream p
  ((s.setStream p { x with credit := x.credit - 8 * b.length }).sendEvent p kind b).addTo o1505_STREAM_BYTES p b.length

/-- Ring records from the stream's position while the credit covers them; `n` bounds the records looked at. -/
def State.streamRecords (p : Nat) : Nat → List LogRec → State → State
  | 0, _, s => s
  | _, [], s => s
  | n + 1, r :: l, s =>
    if (s.stream p).credit < 512 then s
    else
      let s := s.sendItem p 0x10 (logBytes r)
      State.streamRecords p n l (s.setStream p { s.stream p with position := if r.kind = 4 then r.seq else r.seq + 1 })

/-- A sample: channel, 3 reserved bytes, TIME96, value. -/
def sampleBytes (x : Nat × Nat × Int) : Bytes := leBytes 1 x.1 ++ zeros 3 ++ leBytes 12 x.2.1 ++ leBytes 8 (ofSigned 64 x.2.2)

/-- One control cycle of a stream: the credit grows, records go in sequence order, then the cycle's samples in channel order; samples that do not go are dropped. Answers which
channels' samples went. -/
def State.streamCycle (s : State) (p : Nat) : List Nat × State :=
  let x := s.stream p
  if x.on = false ∨ (s.port p).session.isNone then ([], s)
  else
    let grow := 125 * s.rdN o1505_STREAM_BUDGET_MBPS p
    let s := s.setStream p { x with credit := min (8 * grow) (x.credit + grow) }
    let content := s.rdN o1505_STREAM_CONTENT p
    let s := if content.testBit 0 then
        let old := s.ringOldest
        let s := if x.position < old then
            (s.addTo o1505_STREAM_RING_SKIPPED p (old - x.position)).setStream p { s.stream p with position := old }
          else s
        let l := s.alm.ring.filter (fun r => decide ((s.stream p).position ≤ r.seq))
        State.streamRecords p l.length l s
      else s
    if content.testBit 1 then
      s.alm.samples.foldl (fun a v =>
        if 192 ≤ (a.2.stream p).credit then (a.1 ++ [v.1], a.2.sendItem p 0x11 (sampleBytes v)) else (a.1, a.2.bump o1505_STREAM_TRACE_DROPS p)) ([], s)
    else ([], s)

/-- The streams of all ports in a control cycle; a sample that no stream takes is counted as dropped (R471). -/
def State.streamsCycle (s : State) : State :=
  let (sent, s) := portList.foldl (fun a p => let (l, s) := a.2.streamCycle p; (a.1 ++ l, s)) ([], s)
  let s := (s.alm.samples.filter (fun v => !sent.contains v.1)).foldl (fun s v => s.bump o1504_TRACE_DROPS v.1) s
  { s with alm := { s.alm with samples := [] } }

/-! Traces (R471). -/

/-- Control cycles between the samples of a channel. -/
def State.traceInterval (s : State) (c : Nat) : Nat := s.rdN o1504_TRACE_EFFECTIVE c

/-- Each control cycle counts towards the interval of the enabled channels. -/
def State.traceCycle (s : State) : State :=
  (List.range 16).foldl (fun s c =>
    { s with alm := { s.alm with traceCount := if s.isOn o1504_TRACE_ENABLE c then storePut natLt c ((storeGet c s.alm.traceCount).getD 0 + 1) s.alm.traceCount
                                               else storeDel c s.alm.traceCount } }) s

/-- TRACE_INTERVAL, with TRACE_EFFECTIVE. -/
def writeTraceInterval : Handler := onInt fun _ c v s =>
  (stOK, (s.wr o1504_TRACE_INTERVAL c v).wr o1504_TRACE_EFFECTIVE c (if s.pwr.slowed then min 65535 (8 * v) else v))

/-- TRACE_SOURCE takes a readable object of an integer type that the session could read, or 0 for none (R471). -/
def writeTraceSource : Handler := fun c r v s =>
  match v with
  | .int i =>
    let o := i.toNat
    if o = 0 then storeVal o1504_TRACE_SOURCE c r v s
    else match findObj o with
      | none => (stUNSUPPORTED, s)
      | some d =>
        if d.access = .wo ∨ reaches c.roles (d.access == .ro && d.expert) = false then (stLEVEL, s)
        else if d.ty.bits = 0 ∨ d.ty = .f32 ∨ d.ty = .time96 then (stUNSUPPORTED, s)
        else storeVal o1504_TRACE_SOURCE c r v s
  | .bytes _ => (stENCODING, s)

/-! A control port's link, and the test access port. -/

def execCpLinkChange (t port : Nat) (up : Bool) (s : State) : Host.Outcome State Fault Refusal :=
  s.run t (fun s => if port < 5 then s.wr o1120_CP_LINK port (if up then CP_LINK.up else CP_LINK.down) else s)

/-- A boundary-scan instruction is loaded, or TRST_N resets the TAP alone (R488). -/
def State.tapLoad (s : State) (code : Nat) (drives trst : Bool) : State :=
  if s.pwr.aon = false then s else { s with tap := if trst then {} else ⟨some code, drives⟩ }

def execTapInstruction (t code : Nat) (drives trst : Bool) (s : State) : Host.Outcome State Fault Refusal := s.runAny t (fun s => s.tapLoad code drives trst)

end Sys2Proof.Machine
end

