-- ==== Sys2Proof/Machine/Security.lean ====
section
/-! DEFINITION. Machine/Security.lean: root slots, firmware images and the boot ROM, policy and verification keys, the identity key, attestation (R411-R425). -/

namespace Sys2Proof.Machine

open Sys2Proof

/-- A result of a 1130h, 1131h or 1134h command stays in SEC_RESULT. -/
def secResult (p : Nat × State) : Nat × State := (p.1, p.2.wr o1130_SEC_RESULT 0 p.1)

/-! The security transfer buffer (1133h). -/

/-- Bytes of the buffer: the largest use is a root programming. -/
def secBufLen : Nat := 3056

/-- SEC_XFER_DATA. -/
def writeSecData : Handler := onBytes fun _ _ b s =>
  let o := s.rdN o1133_SEC_XFER_OFFSET 0
  if secBufLen < o + b.length then (stRANGE, s)
  else (stOK, { s with sec := { s.sec with buf := overwrite o b s.sec.buf } }.wr o1133_SEC_XFER_OFFSET 0 (o + b.length : Nat))

/-- The buffer is emptied after a command. -/
def State.emptyBuf (s : State) : State := { s with sec := { s.sec with buf := [] } }.wr o1133_SEC_XFER_OFFSET 0 0

/-! Root slots (R412). -/

/-- Root slots. -/
def rootList : List Nat := [0, 1, 2, 3]

/-- An active slot that holds the hash of a key. -/
def State.rootFor (s : State) (key : Bytes) : Option Nat :=
  rootList.find? (fun r => s.rd o1131_ROOT_STATE r == ROOT_STATE.active && s.rdOct o1131_ROOT_HASH r == sha256 key)

/-- What the signature of a root programming covers. -/
def rootMsg (slot : Nat) (hash : Bytes) : Bytes := ascii "SQ-ROOT" ++ [BitVec.ofNat 8 slot] ++ hash

/-- ROOT_CMD 'program': the buffer holds hash, signer's key and signature. -/
def State.rootProgram (s : State) (r : Nat) : Nat × State :=
  let b := s.sec.buf
  let hash := slice 0 32 b
  let key := slice 32 60 b
  let sig := b.drop 92
  if s.rd o1131_ROOT_STATE r ≠ ROOT_STATE.blank then (stBUSY, s.emptyBuf)
  else if b.length ≠ secBufLen ∨ (s.rootFor key).isNone ∨ hssVerify key sig (rootMsg r hash) = false then (0x1808, s.emptyBuf)
  else (stOK, (s.emptyBuf.wr o1131_ROOT_STATE r ROOT_STATE.active).wrOct o1131_ROOT_HASH r hash)

/-- A firmware slot. -/
def State.fwSlot (s : State) (f : Nat) : FwSlot := (storeGet f s.sec.fw).getD {}

/-- Set a firmware slot. -/
def State.setFw (s : State) (f : Nat) (x : FwSlot) : State := { s with sec := { s.sec with fw := storePut natLt f x s.sec.fw } }

/-- The running slot. -/
def State.runSlot (s : State) : Nat := s.rdN o1130_BOOT_SLOT 0

/-- Whether a firmware image runs: in recovery none does (R415). -/
def State.fwRuns (s : State) : Bool := s.rd o1401_DEVICE_STATE 0 != DEVICE_STATE.recovery

/-- Root slot that verified the running image: the one its header names, ROOT0 for the delivered image. -/
def State.runRoot (s : State) : Nat :=
  let x := s.fwSlot s.runSlot
  if x.delivered then 0 else fieldNat 17 1 x.image

/-- ROOT_CMD 'revoke'. -/
def State.rootRevoke (s : State) (r : Nat) : Nat × State :=
  if s.rd o1131_ROOT_STATE r ≠ ROOT_STATE.active then (stBUSY, s.emptyBuf)
  else if rootList.all (fun x => x == r || s.rd o1131_ROOT_STATE x != ROOT_STATE.active) ∨ (s.fwRuns ∧ s.runRoot = r) then (0x1807, s.emptyBuf)
  else (stOK, s.emptyBuf.wr o1131_ROOT_STATE r ROOT_STATE.revoked)

/-- ROOT_CMD. -/
def writeRootCmd : Handler := onInt fun _ r v s => secResult (if v = ROOT_CMD.program then s.rootProgram r else s.rootRevoke r)

def execRootProgram (t port slot : Nat) (s : State) : Host.Outcome State Fault Refusal :=
  s.run t (fun s => s.opCmd writeRootCmd port o1131_ROOT_CMD slot (.int ROOT_CMD.program))

def execRootRevoke (t port slot : Nat) (s : State) : Host.Outcome State Fault Refusal :=
  s.run t (fun s => s.opCmd writeRootCmd port o1131_ROOT_CMD slot (.int ROOT_CMD.revoke))

/-! Firmware images (R413, R414). -/

abbrev fwLength (b : Bytes) : Nat := fieldNat 8 4 b
abbrev fwRelease (b : Bytes) : Nat := fieldNat 12 4 b
abbrev fwSecver (b : Bytes) : Nat := fieldNat 16 1 b

/-- Smallest and largest image. -/
def fwMin : Nat := 4096
def fwMax : Nat := 33554432

/-- The check of an image by the boot ROM. -/
def State.checkFw (s : State) (raw : Bytes) : Nat :=
  let len := fwLength raw
  let root := fieldNat 17 1 raw
  let key := slice 56 60 raw
  if raw.length < 128 ∨ len < fwMin ∨ fwMax < len ∨ raw.length ≠ len + fieldNat 116 4 raw ∨ slice 0 4 raw ≠ ascii "SQFW" ∨ fieldNat 4 2 raw ≠ 1 ∨ fieldNat 6 2 raw ≠ 128 then 0x1801
  else if slice 20 4 raw ≠ ascii "B1" ++ [0#8, 0#8] then 0x1802
  else if rootList.contains root = false ∨ s.rd o1131_ROOT_STATE root ≠ ROOT_STATE.active ∨ s.rdOct o1131_ROOT_HASH root ≠ sha256 key then 0x1803
  else if hssVerify key (raw.drop len) (raw.take len) = false then 0x1804
  else if slice 24 32 raw ≠ sha256 ((raw.take len).drop 128) then 0x1805
  else if s.rd o1130_ROLLBACK_COUNTER 0 > fwSecver raw then 0x1806
  else 0x0001

/-- The check of a slot; the delivered image passes, but for the anti-rollback counter: its SECURITY_VERSION is 0 (log entry 28). -/
def State.checkSlot (s : State) (f : Nat) : Nat :=
  let x := s.fwSlot f
  if x.delivered then (if s.rd o1130_ROLLBACK_COUNTER 0 > 0 then 0x1806 else 1) else s.checkFw x.image

/-- A slot reads what its check gave. -/
def State.noteSlot (s : State) (f : Nat) : State :=
  let k := s.checkSlot f
  let x := s.fwSlot f
  let s := (s.wr o1132_FW_SLOT_RESULT f k).wr o1132_FW_SLOT_STATE f (if k = 1 then FW_SLOT_STATE.valid else FW_SLOT_STATE.invalid)
  if x.delivered then (s.wr o1132_FW_SLOT_RELEASE f 0x00030002).wr o1132_FW_SLOT_SECVER f 0
  else if x.image.length < 128 then s else (s.wr o1132_FW_SLOT_RELEASE f (fwRelease x.image)).wr o1132_FW_SLOT_SECVER f (fwSecver x.image)

/-- Whether a check of a slot runs. -/
def State.fwChecking (s : State) : Bool := [0, 1].any (fun f => s.rd o1132_FW_SLOT_STATE f == FW_SLOT_STATE.checking)

/-- A slot is emptied for loading. -/
def State.fwOpen (s : State) (f : Nat) : State :=
  ((((({ s with sec := { s.sec with fw := storeDel f s.sec.fw } }.wr o1132_FW_SLOT_STATE f FW_SLOT_STATE.loading).wr o1132_FW_SLOT_RELEASE f 0).wr o1132_FW_SLOT_SECVER f 0).wr
    o1132_FW_SLOT_RESULT f 0).wr o1132_FW_XFER_OFFSET f 0)

/-- Both copies of the boot record name a slot. -/
def State.putBoot (s : State) (f : Nat) : State := { s with sec := { s.sec with boot := [some f, some f] } }

/-- FW_SLOT_CMD (R416). -/
def writeFwCmd : Handler := onInt fun _ f v s =>
  let st := s.rd o1132_FW_SLOT_STATE f
  if s.fwChecking then (stBUSY, s)
  else if v = FW_SLOT_CMD.open then (if s.fwRuns ∧ f = s.runSlot then (0x180C, s) else (stOK, s.fwOpen f))
  else if v = FW_SLOT_CMD.close then
    (if st = FW_SLOT_STATE.loading then (stOK, (s.noteFlash (.fwClose f)).wr o1132_FW_SLOT_STATE f FW_SLOT_STATE.checking) else (stBUSY, s))
  else if st = FW_SLOT_STATE.valid then
    let s := if s.rd o1401_DEVICE_STATE 0 = DEVICE_STATE.recovery then { s with pwr := { s.pwr with recoveryAt := some (s.now + 1000000000) } } else s
    (stOK, if s.pwr.dipFrom.isSome then s.noteFlash (.fwActivate f) else s.putBoot f)
  else
    let k := s.rdN o1132_FW_SLOT_RESULT f
    (if k < 2 then 0x1801 else k, s)

def execFwSlotOpen (t port slot : Nat) (s : State) : Host.Outcome State Fault Refusal :=
  s.run t (fun s => s.opCmd writeFwCmd port o1132_FW_SLOT_CMD slot (.int FW_SLOT_CMD.open))

def execFwSlotClose (t port slot : Nat) (s : State) : Host.Outcome State Fault Refusal :=
  s.run t (fun s => s.opCmd writeFwCmd port o1132_FW_SLOT_CMD slot (.int FW_SLOT_CMD.close))

def execFwSlotActivate (t port slot : Nat) (s : State) : Host.Outcome State Fault Refusal :=
  s.run t (fun s => s.opCmd writeFwCmd port o1132_FW_SLOT_CMD slot (.int FW_SLOT_CMD.activate))

/-- FW_XFER_DATA. -/
def writeFwData : Handler := onBytes fun _ f b s =>
  let o := s.rdN o1132_FW_XFER_OFFSET f
  if s.rd o1132_FW_SLOT_STATE f ≠ FW_SLOT_STATE.loading then (stBUSY, s)
  else if fwMax + hssSigLen < o + b.length then (stRANGE, s)
  else (stOK, (s.setFw f { s.fwSlot f with image := overwrite o b (s.fwSlot f).image }).wr o1132_FW_XFER_OFFSET f (o + b.length : Nat))

def execFwXferData (t port slot : Nat) (data : Bytes) (s : State) : Host.Outcome State Fault Refusal :=
  s.run t (fun s => s.opCmd writeFwData port o1132_FW_XFER_DATA slot (.bytes data))

/-- The check of a slot ends; one whose flash writes wait for the end of ride-through has not run. -/
def State.fwChecked (s : State) (f : Nat) : State :=
  if s.rd o1132_FW_SLOT_STATE f = FW_SLOT_STATE.checking ∧ s.pwr.postponed.contains (.fwClose f) = false then s.noteSlot f else s

def execFwCheckDone (t slot : Nat) (s : State) : Host.Outcome State Fault Refusal := s.run t (fun s => s.fwChecked slot)

/-! The boot ROM (R415). -/

/-- Slots in the order in which the boot ROM checks them: the one of the first whole copy of the boot record first. -/
def State.bootOrder (s : State) : List Nat :=
  match s.sec.boot.findSome? id with
  | some 1 => [1, 0]
  | _ => [0, 1]

/-- The boot ROM checks the slots and runs the first that passes: whether one does. -/
def State.bootRom (s : State) : Bool × State :=
  let s := [0, 1].foldl (fun s f => if s.fwSlot f = {} then s else s.noteSlot f) s
  let l := s.bootOrder
  match l.find? (fun f => s.rd o1132_FW_SLOT_STATE f == FW_SLOT_STATE.valid) with
  | none => (false, s.raise .SEC_BOOT_FAILED noInst)
  | some f =>
    let fell := l.head? != some f
    let s := ((s.clear .SEC_BOOT_FAILED noInst).wr o1130_BOOT_SLOT 0 f).wr o1130_SECURITY_VERSION 0 (s.rd o1132_FW_SLOT_SECVER f)
    let s := (s.wr o1130_BOOT_FALLBACK 0 (boolVal fell)).alarmWhile .SEC_BOOT_FALLBACK noInst fell
    let n := s.rdN o1132_FW_SLOT_RELEASE f
    (true, (s.wr o1000_FW_RELEASE_NUM 0 n).wrOct o1000_FW_RELEASE 0 (ascii ("Zimond " ++ toString (n / 65536) ++ "." ++ toString (n % 65536))))

/-! Anti-rollback and policy (R417, R418). -/

/-- ROLLBACK_CMD 'commit': the other slot is checked again. -/
def State.rollbackCommit (s : State) : State :=
  let v := s.rd o1130_SECURITY_VERSION 0
  if s.fwRuns = false ∨ v ≤ s.rd o1130_ROLLBACK_COUNTER 0 then s
  else
    let s := s.wr o1130_ROLLBACK_COUNTER 0 v
    let f := 1 - s.runSlot
    let st := s.rd o1132_FW_SLOT_STATE f
    if st = FW_SLOT_STATE.valid ∨ st = FW_SLOT_STATE.invalid then s.wr o1132_FW_SLOT_STATE f FW_SLOT_STATE.checking else s

def writeRollback : Handler := onInt fun _ _ _ s => secResult (stOK, s.rollbackCommit)

def execRollbackCommit (t port : Nat) (s : State) : Host.Outcome State Fault Refusal :=
  s.run t (fun s => s.opCmd writeRollback port o1130_ROLLBACK_CMD 0 (.int 0))

/-- POLICY_SET. -/
def writePolicy : Handler := onInt fun _ _ v s => secResult (
  let old := s.rdN o1130_POLICY 0
  let bits := v.toNat % 4
  if [0, 1].any (fun k => bits.testBit k && !old.testBit k && s.rd o1134_VKEY_STATE k != VKEY_STATE.valid) then (0x180B, s)
  else
    let s := s.wr o1130_POLICY 0 (old ||| bits : Nat)
    (stOK, if (old ||| bits).testBit 0 then s.wr o2002_REQUIRE_SIGNATURE 0 1 else s))

def execPolicySet (t port bits : Nat) (s : State) : Host.Outcome State Fault Refusal :=
  s.run t (fun s => s.opCmd writePolicy port o1130_POLICY_SET 0 (.int bits))

/-! Verification keys (R419, R420). -/

/-- What the signature of a key installation covers. -/
def vkeyMsg (k : Nat) (key : Bytes) : Bytes := ascii "SQ-VKEY" ++ [BitVec.ofNat 8 k] ++ key

/-- Both copies of a verification key are written. -/
def State.putVkey (s : State) (k : Nat) (key : Bytes) : State :=
  (({ s with ctl := { s.ctl with vkeys := storePut natLt k ⟨⟨key, crc32c key⟩, ⟨key, crc32c key⟩⟩ s.ctl.vkeys } }.wr o1134_VKEY_STATE k VKEY_STATE.valid).wrOct o1134_VKEY_HASH k (sha256 key))

/-- VKEY_CMD 'install'. -/
def writeVkey : Handler := onInt fun _ k _ s => secResult (
  let b := s.sec.buf
  let key := b.take 60
  let signed := match s.vkey k with
    | some old => hssVerify old (b.drop 60) (vkeyMsg k key)
    | none => false
  if key.length ≠ 60 ∨ ((s.rdN o1130_POLICY 0).testBit k ∧ signed = false) then (0x1808, s.emptyBuf) else (stOK, s.emptyBuf.putVkey k key))

def execVkeyInstall (t port purpose : Nat) (s : State) : Host.Outcome State Fault Refusal :=
  s.run t (fun s => s.opCmd writeVkey port o1134_VKEY_CMD purpose (.int 0))

/-! The identity key (R421, R422). -/

/-- Indices of the identity key. -/
def identityMax : Nat := 1048576

/-- The next index. -/
def State.nextIndex (s : State) : Nat := s.rdN o1135_IDENTITY_NEXT 0

/-- IDENTITY_STATE, IDENTITY_REMAINING and the alarms follow the next index and the journal. -/
def State.noteIdentity (s : State) : State :=
  let n := s.nextIndex
  let s := s.wr o1135_IDENTITY_REMAINING 0 (identityMax - n : Nat)
  let st := if identityMax ≤ n then IDENTITY_STATE.exhausted else if s.sec.fault then IDENTITY_STATE.journal_fault
    else if identityMax - n < 65536 then IDENTITY_STATE.low else IDENTITY_STATE.ready
  (((s.wr o1135_IDENTITY_STATE 0 st).alarmWhile .SEC_JOURNAL_FAULT noInst s.sec.fault).alarmWhile .SEC_IDENTITY_EXHAUSTED noInst (st == IDENTITY_STATE.exhausted)).alarmWhile
    .SEC_IDENTITY_LOW noInst (st == IDENTITY_STATE.low)

/-- The newest journal record gives next index and block end, at start-up and when critical word 0 or 1 is lost. -/
def State.readJournal (s : State) : State :=
  match s.sec.journal with
  | some j => ((s.wr o1135_IDENTITY_NEXT 0 (j + 64 : Nat)).wr o1135_JOURNAL_BLOCK_END 0 (j + 64 : Nat)).noteIdentity
  | none => s.noteIdentity

/-! Attestation (R423). -/

/-- Digest of a verification key, zeros when there is none. -/
def State.vkeyHash (s : State) (k : Nat) : Bytes := s.rdOct o1134_VKEY_HASH k

/-- FW_HASH of the running image. -/
def State.runHash (s : State) : Bytes :=
  let x := s.fwSlot s.runSlot
  if x.delivered then (List.range 32).map Config.deliveredHash else sha256 (x.image.take (fwLength x.image))

/-- LEDGER_CHECK of the active bank. -/
def State.activeCheck (s : State) : Nat :=
  match s.activeBank with
  | some b => fieldNat (hdrLength (s.bank b).raw - 4) 4 (s.bank b).raw
  | none => 0

/-- Generation and check word of the configuration slot loaded; 0 under factory defaults. -/
def State.configLoaded (s : State) (o : Nat) : Nat :=
  let c := s.rdN o1200_CONFIG_SLOT 0
  if s.isOn o1200_FACTORY_FLAG 0 ∨ c = 0 then 0 else s.rdN o (c - 1)

/-- A string object cut or filled to a field. -/
def fieldBytes (n : Nat) (b : Bytes) : Bytes := (b ++ zeros n).take n

/-- The report of a session with index `q`. -/
def State.report (s : State) (p q : Nat) : Bytes :=
  let one := fun (o : Nat) => leBytes 1 (s.rdN o 0)
  ascii "SQAT" ++ leBytes 2 1 ++ leBytes 2 256 ++ fieldBytes 12 (s.rdOct o1000_SERIAL_NUMBER 0) ++ ascii "B1" ++ [0#8, 0#8] ++ leBytes 4 (s.rdN o1000_FW_RELEASE_NUM 0) ++
    one o1130_SECURITY_VERSION ++ one o1130_ROLLBACK_COUNTER ++ leBytes 1 s.runRoot ++ one o1130_POLICY ++ s.runHash ++
    leBytes 8 (s.rdN o2000_ACTIVE_IMAGE_ID 0) ++ leBytes 4 s.activeCheck ++ leBytes 4 (s.configLoaded o1201_SLOT_GENERATION) ++ leBytes 4 (s.configLoaded o1201_SLOT_CHECK) ++
    one o1200_CONFIG_SLOT ++ zeros 3 ++ fieldBytes 32 (s.rdOct o1136_ATT_NONCE p) ++ leBytes 12 s.time96 ++ one o2301_CLOCK_STATE ++ zeros 3 ++ leBytes 4 q ++
    s.vkeyHash 0 ++ s.vkeyHash 1 ++ zeros 52

/-- A session's request takes the next index: its report is signed. -/
def State.takeIndex (s : State) (p : Nat) : State :=
  let q := s.nextIndex
  let r := s.report p q
  let s := (s.wr o1135_IDENTITY_NEXT 0 (q + 1 : Nat)).noteIdentity
  { s with sec := { s.sec with signing := storePut natLt p r s.sec.signing } }

/-- A request ends refused; no report is there to read (R424). -/
def State.attRefused (s : State) (p k : Nat) : State :=
  (({ s with sec := { s.sec with att := storeDel p s.sec.att } }.wr o1136_ATT_STATE p ATT_STATE.refused).wr o1136_ATT_RESULT p k).wr o1136_ATT_LENGTH p 0

/-- ATT_CMD 'sign'. -/
def writeAttCmd : Handler := onInt fun _ p _ s =>
  if s.rd o1136_ATT_STATE p = ATT_STATE.signing then (stBUSY, s)
  else if identityMax ≤ s.nextIndex then (0x1809, s.attRefused p 0x1809)
  else
    let go := fun (s : State) => ((s.wr o1136_ATT_STATE p ATT_STATE.signing).wr o1136_ATT_RESULT p 0).wr o1136_ATT_LENGTH p 0
    let s := { s with sec := { s.sec with att := storeDel p s.sec.att } }
    if s.nextIndex ≠ s.rdN o1135_JOURNAL_BLOCK_END 0 then (stOK, (go s).takeIndex p)
    else if s.pwr.dipFrom.isSome then (stBUSY, s.attRefused p stBUSY)
    else (stOK, { go s with sec := { (go s).sec with writing := true, waiting := s.sec.waiting ++ [p] } })

def execAttSign (t port : Nat) (s : State) : Host.Outcome State Fault Refusal :=
  s.run t (fun s => s.opCmd writeAttCmd port o1136_ATT_CMD 0 (.int 0))

/-- The signature of a report completes; the device's signature bytes are free (log entry 5). -/
def State.attDone (s : State) (p : Nat) : State :=
  match storeGet p s.sec.signing with
  | none => s
  | some r =>
    let (sig, s) := s.takeFreeBytes 1772
    let s := { s with sec := { s.sec with signing := storeDel p s.sec.signing, att := storePut natLt p (r ++ sig) s.sec.att } }
    ((s.wr o1136_ATT_STATE p ATT_STATE.ready).wr o1136_ATT_LENGTH p 2028).wr o1136_ATT_RESULT p 0

def execAttSignComplete (t port : Nat) (s : State) : Host.Outcome State Fault Refusal := s.run t (fun s => s.attDone port)

/-- ATT_DATA. -/
def State.attData (s : State) (p : Nat) : Bytes := slice (s.rdN o1136_ATT_READ_OFFSET p) 1024 ((storeGet p s.sec.att).getD [])

/-- The write and verify of a journal record end (R421, R422): waiting requests take their indices in order, or are refused. -/
def State.journalDone (s : State) (ok : Bool) : State :=
  if s.sec.writing = false then s
  else
    let w := s.sec.waiting
    let q := s.rdN o1135_JOURNAL_BLOCK_END 0
    if ok then
      let s := { s with sec := { s.sec with writing := false, waiting := [], fault := false, journal := some q } }.wr o1135_JOURNAL_BLOCK_END 0 (q + 64 : Nat)
      w.foldl State.takeIndex s.noteIdentity
    else
      let s := ({ s with sec := { s.sec with writing := false, waiting := [], fault := true } }).noteIdentity
      w.foldl (fun s p => s.attRefused p 0x180A) s

def execJournalWriteComplete (t : Nat) (ok : Bool) (s : State) : Host.Outcome State Fault Refusal := s.run t (fun s => s.journalDone ok)

end Sys2Proof.Machine
end

