-- ==== Sys2Proof/Machine/Handlers.lean ====
section
/-! DEFINITION. Machine/Handlers.lean: which operation each writable object runs. An object that is not listed stores its value when it is RW, and returns to its default
when it is RWC (R387, R493). CONFIG_CMD, CFG_XFER_CMD, CFG_XFER_DATA and TASK_CMD, whose effects write objects themselves, are added by Machine/Router.lean. -/

namespace Sys2Proof.Machine

open Sys2Proof

/-- What QUERY_DEST accepts: a destination, or an encoded stream of class Eh (R13, R23). -/
def isStreamOrDest (e : Nat) : Bool := isDest e || decide (0xE000 ≤ e ∧ e < 0xE020)

/-- Sessions, keys, partitions, security and the pair (chapters 15-17). -/
def handlersCtl : List (Nat × Handler) :=
  [(o1100_KEY_ROLES, writeKeyRoles), (o1100_KEY_PORTS, writeKeyPorts), (o1100_KEY_WRAPPED, writeKeyWrapped), (o1100_KEY_ERASE, writeKeyErase),
    (o1101_SESSION_END_CMD, writeSessionEnd), (o1130_ROLLBACK_CMD, writeRollback), (o1130_POLICY_SET, writePolicy), (o1131_ROOT_CMD, writeRootCmd),
    (o1132_FW_SLOT_CMD, writeFwCmd), (o1132_FW_XFER_DATA, writeFwData), (o1133_SEC_XFER_DATA, writeSecData), (o1134_VKEY_CMD, writeVkey),
    (o1136_ATT_CMD, writeAttCmd), (o1210_PARTITION_CMD, writePartitionCmd), (o1600_PAIR_ENABLE, writePairEnable), (o1600_IVARD_LANE, writeIvardLane),
    (o1600_CUSTODY_CMD, writeCustodyCmd)] ++
  [o1120_CP_IPV4_ADDR, o1120_CP_IPV4_PREFIX, o1120_CP_IPV4_GATEWAY, o1120_CP_IPV6_ADDR, o1120_CP_IPV6_PREFIX, o1120_CP_UDP_PORT].map (fun o => (o, writeAddr o))

/-- Power, alarms, logs and traces (chapters 18 and 19). -/
def handlersSup : List (Nat × Handler) :=
  [(o1401_SAFE_CMD, writeSafeCmd), (o1410_PD_CMD, writePdCmd), (o1500_ACK_ALL, writeAckAll), (o1501_LATCHED, writeLatched), (o1503_VAULT_CMD, writeVaultCmd),
    (o1504_TRACE_SOURCE, writeTraceSource), (o1504_TRACE_INTERVAL, writeTraceInterval), (o1505_STREAM_ENABLE, writeStream), (o1505_STREAM_BUDGET_MBPS, writeBudget)]

/-- The ledger, the reference and network time (chapters 1-4). -/
def handlersRef : List (Nat × Handler) :=
  [(o1005_QUERY_SOURCE, writeEndpoint o1005_QUERY_SOURCE isSource), (o1005_QUERY_DEST, writeEndpoint o1005_QUERY_DEST isStreamOrDest), (o2002_LOAD_CMD, writeLoadCmd),
    (o2002_XFER_DATA, writeXferData), (o2002_REQUIRE_SIGNATURE, writeRequireSig), (o2003_SWAP_CMD, writeSwapCmd), (o2100_REALIGN_CMD, writeRealign),
    (o2102_FP_MODE, writeFpMode), (o2200_CAND_ENABLE, writeCandEnable), (o2200_CAND_RATE, writeCandRate), (o2200_REF_LINES, writeCandOnly o2200_REF_LINES [0, 1]),
    (o2200_SOURCE_LANE, writeCandOnly o2200_SOURCE_LANE [5, 6]), (o2200_PPS_USED, writePps), (o2201_SOFT_LIMIT_PPB, writeLimit o2201_SOFT_LIMIT_PPB),
    (o2201_HARD_LIMIT_PPB, writeLimit o2201_HARD_LIMIT_PPB), (o2201_WTR_CLEAR, writeWtrClear), (o2301_INCREMENT, writeIncrement), (o2301_TIME_ADJUST_NS, writeTimeAdjust),
    (o2303_PTP_LANE, writePtpLane)]

/-- Lanes, media transport and egress (chapters 5-7). -/
def handlersNet : List (Nat × Handler) :=
  [(o3000_LANE_MODE, writeLaneMode), (o3000_DIRECTION, writeDirection), (o3000_FEC_MODE, writeFecMode), (o3000_TX_SWING_MV, writeSwing),
    (o3000_TX_FFE_SOURCE, writeFfeSource), (o3000_RX_ADAPT, writeRxAdapt), (o3000_CTLE_CODE, writeCtle), (o3000_TEST_MODE, writeTestMode),
    (o3000_PRBS_PATTERN, writePattern), (o3000_PRBS_DIR, writePrbsDir), (o3000_EYE_WARN_Q, writeEyeLimit o3000_EYE_WARN_Q), (o3000_ADAPT_RESET_Q, writeEyeLimit o3000_ADAPT_RESET_Q),
    (o3100_PRBS_BITS, writePrbsCount), (o3100_PRBS_ERRORS, writePrbsCount), (o3600_FLOW_ENABLE, writeFlowEnable), (o3700_TX_ENABLE, writeTxEnable),
    (o3810_GATE_ENABLED, writeGateEnabled), (o3810_CONFIG_CHANGE, writeConfigChange), (o3811_ADMIN_GATE_STATES, writeGateStates)] ++
  [o3600_FLOW_KIND, o3600_ENDPOINT, o3600_FLOW_AUDIO_BASE_CH, o3600_FLOW_AUDIO_CHANNELS, o3600_LANE_P, o3600_LANE_S, o3600_DEST_ADDR_P, o3600_SRC_ADDR_P,
    o3600_UDP_PORT_P, o3600_DEST_ADDR_S, o3600_SRC_ADDR_S, o3600_UDP_PORT_S, o3600_SKEW_WINDOW_US].map (fun o => (o, writeFlowField o)) ++
  [o3700_TX_DEST_ADDR_P, o3700_TX_DEST_PORT_P, o3700_TX_SRC_PORT_P, o3700_TX_DEST_ADDR_S, o3700_TX_DEST_PORT_S, o3700_TX_SRC_PORT_S, o3700_TX_PAYLOAD_TYPE, o3700_SSRC,
    o3700_DSCP, o3700_TTL, o3700_RTP_TS_ADJUST].map (fun o => (o, writeTxField o))

/-- The fabric, encoding, composition, pictures and memory (chapters 8, 10-14). -/
def handlersPic : List (Nat × Handler) :=
  [(o4000_ROUTE_DEST, writeEndpoint o4000_ROUTE_DEST isDest), (o4000_ROUTE_SRC, writeEndpoint o4000_ROUTE_SRC isSource), (o4000_ROUTE_CMD, writeRouteCmd),
    (o4002_AFV_BASE_CH, writeAfv o4002_AFV_BASE_CH), (o4002_AFV_COUNT, writeAfv o4002_AFV_COUNT), (o4010_SALVO_LENGTH, writeSalvoLength), (o4010_SALVO_CMD, writeSalvoCmd),
    (o4010_SALVO_ANCHOR_TD, writeSalvoEntry o4010_SALVO_ANCHOR_TD), (o4010_SALVO_ANCHOR_FCNT, writeSalvoEntry o4010_SALVO_ANCHOR_FCNT),
    (o4011_SALVO_ENTRY, writeSalvoEntry o4011_SALVO_ENTRY), (o4100_AUD_CMD, writeAudCmd), (o5001_INPUT_OVERRIDE, writeOverride), (o5100_RAP_REQUEST, writeRap),
    (o6000_BACKGROUND, writeBackground), (o6000_COMMIT, writeCommit), (o6000_COMMIT_DISCARD, writeCommitDiscard), (o6001_GROUP_COMMIT, writeGroupCommit),
    (o6003_FORCED_BLANK, clearBlank), (o6100_SURF_CMD, writeSurfCmd), (o6100_SURF_XFER_DATA, writeSurfData), (o6203_GEN_COLOUR, writeColour), (o6220_HEAD_BACKGROUND, writeHeadBackground),
    (o6210_MON_ENABLE, writeMonEnable), (o6220_HEAD_COMMIT, writeHeadCommit), (o6221_TILE_REFRESH, writeRefresh), (o7001_AUDITOR_MODE, writeAuditorMode),
    (o7008_INJECT_ADDR, writeInjectAddr), (o7008_INJECT_CMD, writeInject), (o7100_TALLY_CLAIM, writeTallyClaim), (o7100_RUNNING, writeRunning),
    (o7100_FEED_DATA, writeFeed), (o7100_TALLY_CMD, writeTallyCmd)] ++
  [o5100_BASE_QP, o5100_MIN_QP, o5100_MAX_QP, o5100_RC_TARGET_FILL].map (fun o => (o, writeRc o)) ++
  [o5100_PROGRAM_NUMBER, o5100_TS_ID, o5100_PMT_PID, o5100_VIDEO_PID, o5100_AUDIO_PID_BASE, o5100_ANC_PID].map (fun o => (o, writePid o)) ++
  [o6002_ENABLE, o6002_SURFACE, o6002_SRC_X, o6002_SRC_Y, o6002_SRC_W, o6002_SRC_H, o6002_DST_X, o6002_DST_Y, o6002_DST_W, o6002_DST_H, o6002_GLOBAL_ALPHA, o6002_KEY_MODE,
    o6002_KEY_LAYER, o6002_KEY_CLIP, o6002_KEY_GAIN, o6002_UPDATE_MODE, o6002_STATIC].map (fun o => (o, writeStaged o)) ++
  [o6100_SURF_FORMAT, o6100_SURF_WIDTH, o6100_SURF_HEIGHT, o6100_SURF_TCS, o6100_SURF_PREMULTIPLIED, o6100_SURF_SEALED].map (fun o => (o, writeSurfField o)) ++
  [o7100_POLY_SELECT, o7100_PROG_POLY, o7100_PROG_INIT, o7100_PROG_XOROUT, o7100_PROG_REFLECT].map (fun o => (o, writePoly o)) ++
  [o7100_FEED_WIDTH, o7100_FOLD_MODE, o7100_FOLD_VALUE, o7100_FOLD_STEP, o7100_SRC_ADDR, o7100_SRC_LENGTH].map (fun o => (o, claimed (storeVal o)))

/-- Every object with an operation of its own. -/
def handlerTable : List (Nat × Handler) := handlersCtl ++ handlersSup ++ handlersRef ++ handlersNet ++ handlersPic

/-- What a write of an object does that has no operation of its own. -/
def plainHandler (o : Nat) : Handler :=
  match findObj o with
  | some d => if d.access = .rwc then clearRwc o else storeVal o
  | none => storeVal o

/-- The operation of an object, but for those of Machine/Router.lean. -/
def handler0 (o : Nat) : Handler :=
  match handlerTable.find? (fun e => e.1 == o) with
  | some e => e.2
  | none => plainHandler o

/-- The object and row of an operation header (R381): FFFFFFFFh stands for the one row of a scalar or record, which has no other; the index of a lane's record names the lane
(R115). -/
def opRow (o row : Nat) : Option (Nat × Nat) :=
  match laneIndex (o / 256) with
  | some _ => if row = 0xFFFFFFFF then some (laneCode o row) else none
  | none =>
    match findIndex (o / 256) with
    | some d => if d.table then (if row = 0xFFFFFFFF then none else some (o, row)) else if row = 0xFFFFFFFF then some (o, 0) else none
    | none => none

end Sys2Proof.Machine
end

