-- ==== Sys2Proof/Machine/CfgStore.lean ====
section
/-! DEFINITION. Machine/CfgStore.lean: the configuration store (R402-R407): slot images, the choice of a slot, the application of its records, save, revert, factory and import. -/

namespace Sys2Proof.Machine

open Sys2Proof

/-! Slot images (R403). -/

/-- Bytes of the header, of the check word, and the most a slot holds. -/
def cfgHeader : Nat := 64
def cfgMax : Nat := 8388608

/-- Object and ROW of an operation header for an object's row (R381); a lane's objects stand at the lane's own index (R115). -/
def wireCode (o r : Nat) : Nat × Nat :=
  if o / 256 = 0x3000 ∨ o / 256 = 0x3100 then (o + r * 256, 0xFFFFFFFF)
  else match findIndex (o / 256) with
    | some d => (o, if d.table then r else 0xFFFFFFFF)
    | none => (o, r)

/-- A record: the operation header with byte 0 reserved, and the value padded. -/
def recordBytes (x : CfgRecord) : Bytes :=
  let (o, r) := wireCode x.obj x.row
  leBytes 1 0 ++ leBytes 1 (o % 256) ++ leBytes 2 (o / 256) ++ leBytes 4 r ++ leBytes 2 x.value.length ++ zeros 2 ++ pad4 x.value

/-- Read the records of an image; what does not end within it is not read. -/
def readRecords : Nat → Bytes → List CfgRecord
  | 0, _ => []
  | n + 1, b =>
    let len := fieldNat 8 2 b
    let o := fieldNat 2 2 b * 256 + fieldNat 1 1 b
    if b.length < 12 + (len + 3) / 4 * 4 then []
    else
      let (o, r) := (opRow o (fieldNat 4 4 b)).getD (o, 0xFFFFFFFF)
      ⟨o, r, slice 12 len b⟩ :: readRecords n (b.drop (12 + (len + 3) / 4 * 4))

abbrev cfgLength (b : Bytes) : Nat := fieldNat 8 4 b
abbrev cfgGeneration (b : Bytes) : Nat := fieldNat 12 4 b
abbrev cfgCount (b : Bytes) : Nat := fieldNat 16 4 b
abbrev cfgSavedTime (b : Bytes) : Nat := fieldNat 24 12 b
abbrev cfgSigLen (b : Bytes) : Nat := fieldNat 36 4 b
abbrev cfgCheck (b : Bytes) : Nat := fieldNat (cfgLength b - 4) 4 b

/-- The records that a slot holds. -/
def cfgRecords (b : Bytes) : List CfgRecord := readRecords (cfgCount b) (slice cfgHeader (cfgLength b - cfgHeader - 4) b)

/-- An unsigned image. -/
def cfgImage (gen fw time : Nat) (l : List CfgRecord) : Bytes :=
  let body := (l.map recordBytes).flatten
  let len := cfgHeader + body.length + 4
  let b := ascii "SQCF" ++ leBytes 2 1 ++ leBytes 2 64 ++ leBytes 4 len ++ leBytes 4 gen ++ leBytes 4 l.length ++ leBytes 4 fw ++ leBytes 12 time ++ leBytes 4 0 ++ zeros 24 ++ body
  b ++ leBytes 4 (checkWord (b ++ zeros 4) len)

/-- Whether configurations must be signed (R418). -/
def State.policyConfig (s : State) : Bool := (s.rdN o1130_POLICY 0).testBit 1

/-- Whether the signature of an image is present and verifies against verification key 1 (R419). -/
def State.cfgSigned (s : State) (b : Bytes) : Bool :=
  cfgSigLen b == hssSigLen && b.length == cfgLength b + hssSigLen &&
  (match s.vkey 1 with
    | some k => hssVerify k (b.drop (cfgLength b)) (b.take (cfgLength b))
    | none => false)

/-- Whether an image is valid (R404). -/
def State.cfgValid (s : State) (b : Bytes) : Bool :=
  let len := cfgLength b
  b.take 4 == ascii "SQCF" && fieldNat 4 2 b == 1 && fieldNat 6 2 b == 64 && decide (cfgHeader + 4 ≤ len ∧ len + cfgSigLen b = b.length ∧ b.length ≤ cfgMax) &&
  cfgCheck b == checkWord b len && (!s.policyConfig || s.cfgSigned b)

/-! Slots. -/

/-- Slots A and B. -/
def cfgSlotList : List Nat := [0, 1]

/-- The bytes of a slot; none when it has never been written. -/
def State.cfgSlot (s : State) (k : Nat) : Option Bytes := storeGet k s.ctl.cfgSlots

/-- A slot that is valid. -/
def State.slotGood (s : State) (k : Nat) : Bool :=
  match s.cfgSlot k with
  | some b => s.cfgValid b
  | none => false

/-- The objects of a slot follow its bytes (R409). -/
def State.noteCfgSlot (s : State) (k : Nat) : State :=
  match s.cfgSlot k with
  | none => s.wr o1201_SLOT_STATE k SLOT_STATE.empty
  | some b =>
    if s.cfgValid b then
      let s := ((s.wr o1201_SLOT_STATE k SLOT_STATE.valid).wr o1201_SLOT_GENERATION k (cfgGeneration b)).wr o1201_SLOT_LENGTH k (cfgLength b)
      ((s.wr o1201_SLOT_CHECK k (cfgCheck b)).wr o1201_SLOT_SIGNED k (boolVal (s.cfgSigned b))).wr o1201_SLOT_SAVED_TIME k (cfgSavedTime b)
    else
      let s := ((s.wr o1201_SLOT_STATE k SLOT_STATE.invalid).wr o1201_SLOT_GENERATION k 0).wr o1201_SLOT_LENGTH k 0
      ((s.wr o1201_SLOT_CHECK k 0).wr o1201_SLOT_SIGNED k 0).wr o1201_SLOT_SAVED_TIME k 0

/-- A slot is written. -/
def State.putCfgSlot (s : State) (k : Nat) (b : Bytes) : State :=
  ({ s with ctl := { s.ctl with cfgSlots := storePut natLt k b s.ctl.cfgSlots } }).noteCfgSlot k

/-- Whether generation `a` is newer than `b` (R404). -/
def newerGen (a b : Nat) : Bool := let d := (a + 4294967296 - b) % 4294967296; decide (1 ≤ d ∧ d ≤ 2147483647)

/-- Generation of a slot. -/
def State.slotGen (s : State) (k : Nat) : Nat := ((s.cfgSlot k).map cfgGeneration).getD 0

/-- The slot that R404 chooses. -/
def State.chooseSlot (s : State) : Option Nat :=
  match s.slotGood 0, s.slotGood 1 with
  | true, true => if newerGen (s.slotGen 1) (s.slotGen 0) then some 1 else some 0
  | true, false => some 0
  | false, true => some 1
  | false, false => none

/-- The target of a save (R405): a slot that is not valid, else the one not in use. -/
def State.saveTarget (s : State) : Nat :=
  if s.slotGood 0 = false then 0 else if s.slotGood 1 = false then 1 else if s.rd o1200_CONFIG_SLOT 0 = CONFIG_SLOT.A then 1 else 0

/-- The generation of a save: the newest valid one plus one, 1 when no slot is valid. -/
def State.saveGeneration (s : State) : Nat :=
  match s.chooseSlot with
  | some k => (s.slotGen k + 1) % 4294967296
  | none => 1

/-! The running configuration (R402). -/

/-- Merge two lists of records, each sorted by index, sub-index and row; `n` bounds the steps. -/
def mergeRecords : Nat → List CfgRecord → List CfgRecord → List CfgRecord
  | 0, a, b => a ++ b
  | _, [], b => b
  | _, a, [] => a
  | n + 1, x :: a, y :: b => if pairLt (wireCode y.obj y.row) (wireCode x.obj x.row) then y :: mergeRecords n (x :: a) b else x :: mergeRecords n a (y :: b)

/-- Merge, with steps enough. -/
def mergeAll (a b : List CfgRecord) : List CfgRecord := mergeRecords (a.length + b.length) a b

/-- The records of lanes among a list in the order of their indices, merged with the others. -/
def sortLanes (l : List CfgRecord) : List CfgRecord :=
  let (a, b) := l.partition (fun x => x.obj / 256 == 0x3000)
  mergeAll (a.foldl (fun acc x => mergeAll acc [x]) []) b

/-- The value of an object as bytes. -/
def State.valueBytes (s : State) (o r : Nat) : Bytes :=
  match findObj o with
  | some d => if d.ty.bits = 0 then s.rdOct o r else encodeVal d.ty (.int (s.rd o r))
  | none => []

/-- Rows of the destinations planned in force, rising. -/
def State.plannedDests (s : State) : List Nat :=
  ((tdList.map (fun d => ((s.planOf d).endpoints.filterMap (fun e => if e.dom = d then destRow e.ep else none)))).flatten).foldl (fun l r => storePut natLt r () l) ([] : Store Nat Unit)
    |>.map (·.1)

/-- The route records: CURRENT_SOURCE of every planned video destination, AUD_SOURCE of every audio channel. -/
def State.routeRecords (s : State) : List CfgRecord :=
  s.plannedDests.map (fun r => ⟨o4002_CURRENT_SOURCE, r, s.valueBytes o4002_CURRENT_SOURCE r⟩) ++
  (List.range 16384).map (fun c => ⟨o4101_AUD_SOURCE, c, s.valueBytes o4101_AUD_SOURCE c⟩)

/-- The records of the running configuration: every persistent object that is not at its default, and the route records. -/
def State.runningRecords (s : State) : List CfgRecord :=
  let a := (s.regs.filter (fun e => persistent e.1.1)).map (fun e => CfgRecord.mk e.1.1 e.1.2 (s.valueBytes e.1.1 e.1.2))
  let b := (s.octs.filter (fun e => persistent e.1.1)).map (fun e => CfgRecord.mk e.1.1 e.1.2 e.2)
  mergeAll (mergeAll (sortLanes a) b) s.routeRecords

/-! Loading (R404). -/

/-- A record is skipped and counted. -/
def State.skipRecord (s : State) : State := (s.bump o1200_RECORDS_SKIPPED 0).raise .CFG_RECORDS_SKIPPED noInst

/-- A record is applied as a write made for every partition, or skipped. -/
def State.applyRecord (s : State) (x : CfgRecord) : State :=
  match findObj x.obj with
  | none => s.skipRecord
  | some d =>
    if persistent x.obj = false then s.skipRecord
    else
      let (k, s') := s.tryWrite (handler0 x.obj) (some ctxDevice) x.obj x.row (decodeVal d x.value)
      if k = stOK then s' else s'.skipRecord

/-- An object without a record takes its default, by a write; one whose write is refused keeps its value. -/
def State.applyDefault (s : State) (o r : Nat) : State :=
  match findObj o with
  | none => s
  | some d =>
    let v := if d.ty.bits = 0 then Val.bytes (octDefault o r) else .int (objDefault o r)
    let (k, s') := s.tryWrite (handler0 o) (some ctxDevice) o r (some v)
    if k = stOK then s' else s

/-- Whether a record is a route record. -/
def isRoute (x : CfgRecord) : Bool := x.obj == o4002_CURRENT_SOURCE || x.obj == o4101_AUD_SOURCE

/-- The running configuration becomes a list of records; the key store keeps its own (R404). Route records are applied at once while media runs, and wait for the first
changeover otherwise (R402). -/
def State.loadRecords (s : State) (l : List CfgRecord) : State :=
  let has := fun (k : Nat × Nat) => l.any (fun x => x.obj == k.1 && x.row == k.2)
  let stale := ((s.regs.map (·.1)) ++ s.octs.map (·.1)).filter (fun k => persistent k.1 && k.1 / 256 != 0x1100 && !has k)
  let s := s.wr o1200_RECORDS_SKIPPED 0 0
  let s := stale.foldl (fun s k => s.applyDefault k.1 k.2) s
  let s := (l.filter (fun x => !isRoute x)).foldl State.applyRecord s
  let s := { s with ctl := { s.ctl with routeRecs := (l.filter isRoute).map (fun x => (x.obj == o4101_AUD_SOURCE, x.row, leNat x.value)) } }
  if s.rd o1401_DEVICE_STATE 0 = DEVICE_STATE.running then s.applyRoutes else s

/-- FACTORY_FLAG with its alarm (R410). -/
def State.setFactory (s : State) (on : Bool) : State := (s.wr o1200_FACTORY_FLAG 0 (boolVal on)).alarmWhile .CFG_FACTORY_DEFAULTS noInst on

/-- Factory defaults (R404): no records, a partition map with no rows, DEVICE_OWNER 0. -/
def State.factoryDefaults (s : State) : State :=
  ((s.loadRecords []).putMap (mapRows.map (fun _ => (0, 0, 0, 0))) 0).setFactory true

/-- The choice of R404 and its application. -/
def State.loadConfig (s : State) : State :=
  match s.chooseSlot with
  | some k =>
    let s := s.loadRecords (cfgRecords ((s.cfgSlot k).getD []))
    ((s.wr o1200_CONFIG_SLOT 0 (k + 1 : Nat)).wr o1200_RUNNING_DIRTY 0 0).setFactory false
  | none => (s.factoryDefaults).wr o1200_RUNNING_DIRTY 0 0

/-! Save and import (R405, R406). -/

/-- CONFIG_RESULT. -/
def State.cfgResult (s : State) (k : Nat) : State := s.wr o1200_CONFIG_RESULT 0 k

/-- A save or an import is accepted: it runs, or waits while a dip is ridden through (R445). -/
def State.startSave (s : State) (w : FlashWrite) : State :=
  ((s.cfgResult 0).wr o1200_CONFIG_STATE 0 (if s.pwr.dipFrom.isSome then CONFIG_STATE.postponed else CONFIG_STATE.saving)).noteFlash w

/-- At the end of the control cycle the save takes its snapshot (R405). -/
def State.takeSnapshot (s : State) : State :=
  if s.ctl.snapshotDue then
    { s with ctl := { s.ctl with snapshotDue := false,
                                 save := some { target := s.saveTarget, generation := s.saveGeneration, records := s.runningRecords, time := s.time96 } } }
  else s

/-- What revert, factory and import need: EXPERT on the device-owner partition or on SVC (R406). -/
def State.deviceWriter (s : State) (c : Ctx) : Bool := s.owns c .device || decide (c.port = 4)

/-- CONFIG_CMD (R405, R406). -/
def writeConfigCmd : Handler := onInt fun c _ v s =>
  if v ≠ CONFIG_CMD.save ∧ s.deviceWriter c = false then (stNOT_OWNED, s)
  else if s.rd o1200_CONFIG_STATE 0 ≠ CONFIG_STATE.idle then (stBUSY, s)
  else if v = CONFIG_CMD.save then
    if s.policyConfig then (0x0903, s.cfgResult 0x0903)
    else (stOK, { s.startSave .save with ctl := { s.ctl with snapshotDue := true } })
  else if v = CONFIG_CMD.revert then (stOK, s.loadConfig.cfgResult 0)
  else if v = CONFIG_CMD.factory then (stOK, (s.factoryDefaults.wr o1200_RUNNING_DIRTY 0 1).cfgResult 0)
  else if s.cfgValid s.ctl.cfgBuffer then
    (stOK, { s.startSave .importCfg with ctl := { s.ctl with save := some { target := s.saveTarget, generation := cfgGeneration s.ctl.cfgBuffer, records := [], imported := some s.ctl.cfgBuffer } } })
  else (0x0904, s.cfgResult 0x0904)

/-- The write and verify of the target end (R405, R406): an image imported is written as it came. -/
def State.saveDone (s : State) (imported ok : Bool) : State :=
  match s.ctl.save with
  | none => s
  | some v =>
    if s.rd o1200_CONFIG_STATE 0 ≠ CONFIG_STATE.saving ∨ v.imported.isSome ≠ imported then s
    else
      let s := { s.wr o1200_CONFIG_STATE 0 CONFIG_STATE.idle with ctl := { s.ctl with save := none } }
      if ok = false then ((s.putCfgSlot v.target []).cfgResult 0x0905).raise .CFG_SAVE_FAILED noInst
      else match v.imported with
        | some b => s.putCfgSlot v.target b
        | none =>
          let s := s.putCfgSlot v.target (cfgImage v.generation (s.rdN o1000_FW_RELEASE_NUM 0) v.time v.records)
          let s := ((s.wr o1200_CONFIG_SLOT 0 (v.target + 1 : Nat)).bump o1200_SAVES 0).clear .CFG_SAVE_FAILED noInst
          let s := s.clear .CFG_RECORDS_SKIPPED noInst
          if v.dirtyAfter then s else (s.setFactory false).wr o1200_RUNNING_DIRTY 0 0

def execConfigSave (t port : Nat) (s : State) : Host.Outcome State Fault Refusal :=
  s.run t (fun s => s.opCmd writeConfigCmd port o1200_CONFIG_CMD 0 (.int CONFIG_CMD.save))

def execConfigSaveComplete (t : Nat) (ok : Bool) (s : State) : Host.Outcome State Fault Refusal := s.run t (fun s => s.saveDone false ok)

def execConfigRevert (t port : Nat) (s : State) : Host.Outcome State Fault Refusal :=
  s.run t (fun s => s.opCmd writeConfigCmd port o1200_CONFIG_CMD 0 (.int CONFIG_CMD.revert))

def execConfigFactory (t port : Nat) (s : State) : Host.Outcome State Fault Refusal :=
  s.run t (fun s => s.opCmd writeConfigCmd port o1200_CONFIG_CMD 0 (.int CONFIG_CMD.factory))

def execConfigImport (t port : Nat) (s : State) : Host.Outcome State Fault Refusal :=
  s.run t (fun s => s.opCmd writeConfigCmd port o1200_CONFIG_CMD 0 (.int CONFIG_CMD.import))

def execConfigImportComplete (t : Nat) (ok : Bool) (s : State) : Host.Outcome State Fault Refusal := s.run t (fun s => s.saveDone true ok)

/-! Transfer of an image (R406). -/

/-- CFG_XFER_CMD: 'open' starts with no bytes, 'discard' drops what has come. -/
def writeCfgXferCmd : Handler := onInt fun _ _ v s =>
  (stOK, { s.wr o1202_CFG_XFER_OFFSET 0 0 with ctl := { s.ctl with cfgBuffer := [], cfgOpen := v == CFG_XFER_CMD.open } })

def execCfgXferOpen (t port : Nat) (s : State) : Host.Outcome State Fault Refusal :=
  s.run t (fun s => s.opCmd writeCfgXferCmd port o1202_CFG_XFER_CMD 0 (.int CFG_XFER_CMD.open))

def execCfgXferDiscard (t port : Nat) (s : State) : Host.Outcome State Fault Refusal :=
  s.run t (fun s => s.opCmd writeCfgXferCmd port o1202_CFG_XFER_CMD 0 (.int CFG_XFER_CMD.discard))

/-- CFG_XFER_DATA: bytes at CFG_XFER_OFFSET, which advances; nothing beyond 8 MiB. -/
def writeCfgXferData : Handler := onBytes fun _ _ b s =>
  let o := s.rdN o1202_CFG_XFER_OFFSET 0
  if s.ctl.cfgOpen = false then (stBUSY, s)
  else if cfgMax < o + b.length then (stRANGE, s)
  else (stOK, { s.wr o1202_CFG_XFER_OFFSET 0 (o + b.length : Nat) with ctl := { s.ctl with cfgBuffer := overwrite o b s.ctl.cfgBuffer } })

def execCfgXferData (t port : Nat) (data : Bytes) (s : State) : Host.Outcome State Fault Refusal :=
  s.run t (fun s => s.opCmd writeCfgXferData port o1202_CFG_XFER_DATA 0 (.bytes data))

/-! The triplicated words (R407). -/

/-- One of words 8-11 is lost: the four are rebuilt from the slot headers, and a save in progress is abandoned. -/
def State.rebuildConfig (s : State) : State :=
  let s := (s.noteCfgSlot 0).noteCfgSlot 1
  let s := s.wr o1200_CONFIG_SLOT 0 (match s.chooseSlot with
    | some k => ((k + 1 : Nat) : Int)
    | none => CONFIG_SLOT.none)
  if s.rd o1200_CONFIG_STATE 0 = CONFIG_STATE.saving then
    let s := s.breakSave
    ({ s.wr o1200_CONFIG_STATE 0 CONFIG_STATE.idle with ctl := { s.ctl with save := none, snapshotDue := false } }.cfgResult 0x0905).raise .CFG_SAVE_FAILED noInst
  else s

end Sys2Proof.Machine
end

