-- ==== Sys2Proof/Machine/Tellers.lean ====
section
/-! DEFINITION. Machine/Tellers.lean: what the tellers do: creation and cancel, dispatch of each kind of task, completion, time-grid rounds (R225-R240). The task table itself is in
Machine/TaskTable.lean. -/

namespace Sys2Proof.Machine

open Sys2Proof

/-! Creation and cancel (R227, R230, R240). -/

/-- The kind of a task (R226) for a value of TASK_KIND. -/
def kindOf (v : Int) : Int :=
  if v = TASK_KIND.route then TASK_KIND_READ.route else if v = TASK_KIND.salvo then TASK_KIND_READ.salvo
  else if v = TASK_KIND.write then TASK_KIND_READ.write else TASK_KIND_READ.notify

/-- Whether VALUE has the length and content that its kind takes (R226); a write's length is checked against its target (R227). -/
def valueFits (kind : Int) (v : Bytes) : Bool :=
  if kind = TASK_KIND_READ.route then v.length == 4
  else if kind = TASK_KIND_READ.salvo then decide (1 ≤ v.length ∧ v.length ≤ 8 ∧ fieldNat 0 1 v < 32)
  else decide (1 ≤ v.length ∧ v.length ≤ 8)

/-- Whether a write task may name its target, with a VALUE of the size of the target's type (R227). -/
def targetFits (target : Nat) (v : Bytes) : Bool :=
  match findObj (targetObj target) with
  | none => false
  | some d => timedWrite (targetObj target) && rowExists (targetObj target) (targetRow target) && v.length == d.ty.bits / 8

/-- Whether the key fields lie within R228. -/
def State.keyFits (s : State) (x : Task) : Bool :=
  if x.byTime then decide (x.timeNs < 281474976710656 * second) else decide (x.td < 4 ∧ x.fcnt < 281474976710656) && decide (x.cycle < frameCycles (s.td x.td).rate)

/-- The task that a session's 4201h describes; a mirrored one keeps the port of its creator (R435). -/
def State.taskWritten (s : State) (c : Ctx) : Task :=
  { kind := kindOf (s.rd o4201_TASK_KIND c.port)
    byTime := s.rd o4201_KEY_TYPE c.port == KEY_TYPE.time
    td := s.rdN o4201_KEY_TD c.port
    fcnt := s.rdN o4201_KEY_FCNT c.port
    cycle := s.rdN o4201_KEY_CYCLE c.port
    timeNs := s.rdN o4201_KEY_TIME_S c.port * second + s.rdN o4201_KEY_TIME_NS c.port
    prio := s.rdN o4201_PRIORITY c.port
    discard := s.rd o4201_LATE_POLICY c.port == LATE_POLICY.discard
    target := s.rdN o4201_TARGET c.port
    value := s.rdOct o4201_VALUE c.port
    port := c.port % 8
    session := s.sessionIdOf c.port
    roles := c.roles
    part := c.part
    order := 0 }

/-- Tasks in 'waiting', 'ready' and 'dispatched' that a session has created. -/
def State.tasksHeld (s : State) (port session : Nat) : Nat := (s.tasksInUse.filter (fun e => e.2.port == port && e.2.session == session && e.2.kind != TASK_KIND_READ.salvo_anchor)).length

/-- TASK_CMD 'create' (R230): its code, and the new handle in CMD_HANDLE. The limit of a session is checked where the session is: a mirrored creation has passed it. -/
def State.taskCreate (s : State) (c : Ctx) : Nat × State :=
  let x := s.taskWritten c
  if valueFits x.kind x.value = false then (0x1007, s)
  else if s.keyFits x = false then (0x1001, s)
  else if x.kind = TASK_KIND_READ.write ∧ targetFits x.target x.value = false then (0x1003, s)
  else if c.port < 8 ∧ s.rdN o4200_SESSION_TASK_LIMIT 0 ≤ s.tasksHeld c.port x.session then (0x1002, s)
  else
    let (k, r, s) := s.takeRow x
    if k ≠ stOK then (k, s) else (stOK, s.wr o4201_CMD_HANDLE c.port (s.rd o4202_TASK_HANDLE r))

/-- TASK_CMD 'cancel' (R237, R240): a stale handle, another partition's task, a 'salvo-anchor', one that is dispatched or final. -/
def State.taskCancel (s : State) (c : Ctx) : Nat × State :=
  let h := s.rdN o4201_CMD_HANDLE c.port
  let r := h % 4096
  match storeGet r s.tlr.tasks with
  | none => (0x1004, s)
  | some x =>
    if s.rdN o4202_TASK_HANDLE r ≠ h then (0x1004, s)
    else if c.part ≠ none ∧ x.part ≠ c.part then (stNOT_OWNED, s)
    else if x.kind = TASK_KIND_READ.salvo_anchor then (0x1006, s)
    else if s.taskState r ≠ TASK_STATE.waiting ∧ s.taskState r ≠ TASK_STATE.ready then (0x1005, s)
    else (stOK, { s.setTask r { x with cancelled := s.tlr.cancels } with tlr := { (s.setTask r { x with cancelled := s.tlr.cancels }).tlr with cancels := s.tlr.cancels + 1 } }.wr o4202_CANCEL_REQUESTED r 1)

/-- TASK_CMD, with CMD_RESULT. -/
def writeTaskCmd : Handler := onInt fun c _ v s =>
  let (k, s) := if v = TASK_CMD.create then s.taskCreate c else s.taskCancel c
  (k, s.wr o4201_CMD_RESULT c.port k)

def execTaskCreate (t port : Nat) (s : State) : Host.Outcome State Fault Refusal :=
  s.run t (fun s => s.opCmd writeTaskCmd port o4201_TASK_CMD 0 (.int TASK_CMD.create))

def execTaskCancel (t port : Nat) (s : State) : Host.Outcome State Fault Refusal :=
  s.run t (fun s => s.opCmd writeTaskCmd port o4201_TASK_CMD 0 (.int TASK_CMD.cancel))

/-! Dispatch (R226, R232, R235-R237). -/

/-- Under what a task acts: the roles and the partition of its creating session (R232). Port 6 stands for the tellers, whose actions are not journalled (R435). -/
def Task.ctx (x : Task) : Ctx := ⟨6, x.roles, x.part⟩

/-- The notification of a task (R394). -/
def State.notify (s : State) (handle : Nat) (x : Task) : Nat × State :=
  if (s.port x.port).session.isNone ∨ s.isStandby then (0x1008, s)
  else (stOK, s.sendEvent x.port 1 (leBytes 4 handle ++ leBytes 1 x.value.length ++ zeros 3 ++ fieldBytes 8 x.value ++ leBytes 12 s.time96))

/-- The action of a task at dispatch, with its code. -/
def State.taskAct (s : State) (handle : Nat) (x : Task) : Nat × State :=
  if x.kind = TASK_KIND_READ.route then s.takeNow x.ctx (.video (fieldNat 0 2 x.value) (fieldNat 2 2 x.value))
  else if x.kind = TASK_KIND_READ.salvo then
    let k := fieldNat 0 1 x.value
    if s.owns x.ctx (.res 7 k) = false then (stNOT_OWNED, s) else s.salvoTake { x.ctx with port := x.port } x.session k
  else if x.kind = TASK_KIND_READ.salvo_anchor then
    let s := s.salvoRelease (leNat x.value)
    (s.rdN o4010_SALVO_ERROR (leNat x.value), s)
  else if x.kind = TASK_KIND_READ.write then
    let o := targetObj x.target
    match findObj o with
    | none => (stNO_OBJECT, s)
    | some d => s.tryWrite (handler0 o) (some x.ctx) o (targetRow x.target) (decodeVal d x.value)
  else s.notify handle x

/-- A free worker of a class takes the head of its ready list (R235). -/
def State.dispatchClass (s : State) (cls : Nat) : State :=
  if s.workerFree cls = false then s
  else match s.readyHead cls with
    | none => s
    | some (r, x) =>
      let s := s.dispatched r x
      let (k, s) := s.taskAct (s.rdN o4202_TASK_HANDLE r) x
      match storeGet r s.tlr.tasks with
      | some y => s.setTask r { y with result := k }
      | none => s

def execTaskDispatch (t cls : Nat) (s : State) : Host.Outcome State Fault Refusal := s.run t (fun s => if cls < 5 then s.dispatchClass cls else s)

def execTaskComplete (t row : Nat) (s : State) : Host.Outcome State Fault Refusal := s.run t (fun s => s.taskComplete row)

/-- A time-grid instant of the time clock begins a time-grid round (R233). -/
def execTimeGridInstant (t : Nat) (s : State) : Host.Outcome State Fault Refusal := s.run t (fun s => s.tellerRound none)

end Sys2Proof.Machine
end

