-- ==== Sys2Proof/Machine/Readings.lean ====
section
/-! DEFINITION. Machine/Readings.lean: objects whose reading is computed when they are read: subsystem states, the path latency query, alarms, the ring and the vault, and others
(R10, R21-R23, R57, R95, R106, R139, R158, R172, R221, R276, R347, R462-R470). -/

namespace Sys2Proof.Machine

open Sys2Proof

/-! Subsystem status (R21). -/

/-- Subsystem of an active instance of a point: of a faulted power domain the domain's own, else that of the point's last raise (R21, R449; log entry 142). -/
def instSubsys (p : Alarm × AlarmPt) (inst : Nat) : Nat := if p.1 = .PWR_DOMAIN_FAULT then pdSubsys inst else p.2.subsys

/-- Severities of the active instances of a point in a subsystem. -/
def severitiesIn (k : Nat) (p : Alarm × AlarmPt) : List Nat := (p.2.active.filter (fun i => instSubsys p i.1 == k)).map (·.2)

/-- Points with an active instance in a subsystem. -/
def State.subsysAlarms (s : State) (k : Nat) : List (Alarm × AlarmPt) := s.alm.points.filter (fun p => severitiesIn k p != [])

/-- Whether a power domain of a subsystem is on; 9 and 12 lie in AON (R10). -/
def State.subsysOn (s : State) (k : Nat) : Bool := k == 9 || k == 12 || pdList.any (fun d => pdSubsys d == k && s.pdOn d)

/-- An instance of a subsystem is out of service: a power domain of it is in 'fault' or 'locked off' (R449). -/
def State.subsysOut (s : State) (k : Nat) : Bool :=
  pdList.any (fun d => pdSubsys d == k && (s.pdState d == PD_STATE.fault || s.pdState d == PD_STATE.locked_off))

/-- SUBSYS_STATE: the first condition that holds. -/
def State.subsysState (s : State) (k : Nat) : Int :=
  let l := s.subsysAlarms k
  if l.any (fun p => (severitiesIn k p).contains 1) then SUBSYS_STATE.fault
  else if s.subsysOn k = false then SUBSYS_STATE.off
  else if s.rd o1401_DEVICE_STATE 0 = DEVICE_STATE.starting then SUBSYS_STATE.starting
  else if l.any (fun p => (severitiesIn k p).contains 2) || s.subsysOut k then SUBSYS_STATE.degraded
  else SUBSYS_STATE.running

/-! The path latency query (R23, R221, R271, R276, R300, R347). -/

/-- A latency: whole ns, thirds of a ns (of frame periods), and thirds of a ns that are still to be divided by a number of total lines (of line periods). -/
structure Latency where
  ns : Nat := 0
  third : Nat := 0
  line3 : Nat := 0
  lines : Nat := 1
deriving DecidableEq, Repr

/-- Frame period of a domain under the active bank, in thirds of a ns. -/
def State.domPeriod3 (s : State) (d : Nat) : Nat := period3 (s.bankRate s.activeBank d)

/-- The lane of the leg that delivers a flow's packets: P while it receives, else S when that receives (R169). -/
def State.deliveringLane (s : State) (f : Nat) : Nat :=
  if s.rd o3600_LEG_STATE_P f ≠ LEG_STATE_P.receiving ∧ s.rd o3600_LEG_STATE_S f = LEG_STATE_S.receiving then s.rdN o3600_LANE_S f else s.rdN o3600_LANE_P f

/-- Lane and engine constants of the input that feeds a source (R118, R169). -/
def State.latencyIn (s : State) (e : PlanEndpoint) : Nat :=
  if e.ep / 4096 ≠ 0 then 0
  else match s.sdiFeed e.ep with
    | some l => s.rdN o3100_RX_LATENCY_NS l + (if 1 < s.rdN o3540_SDI_IN_LINKS l then 8150 else 150)
    | none => match s.flowFeed e.ep with
      | some f => s.rdN o3100_RX_LATENCY_NS (s.deliveringLane f) + (if s.rd o3600_FLOW_KIND f = FLOW_KIND.st2022_6 then 350 else 300)
      | none =>
        let l := e.lanes.headD 65535
        s.rdN o3100_RX_LATENCY_NS l + (if e.transport = 1 then (if 1 < e.lanes.length then 8150 else 150) else if e.transport = 3 then 350 else 300)

/-- Lane and engine constants of an XS decoder output: those of the flow that feeds it (R271). -/
def State.latencyXs (s : State) (e : PlanEndpoint) : Nat :=
  match s.flowFeed e.ep with
  | some f => s.rdN o3100_RX_LATENCY_NS (s.deliveringLane f) + 300
  | none => s.rdN o3100_RX_LATENCY_NS (e.lanes.headD 65535) + 300

/-- Delay of the frame that a frame-synchronised buffer gives its readers. -/
def State.frameInForce (s : State) (ep : Nat) : Nat :=
  if ep < 4096 then s.rdN o4003_ALIGN_DELAY_NS ep
  else match (s.buf ep).frames.find? (fun f => some f.serial == (s.buf ep).chosen.head?.map (·.2)) with
    | some f => frameDelay (s.td (s.epDomain ep)).tickAt f
    | none => 0

/-- L_in + A of a source, in units of 1/(3 × total lines of its format) ns. -/
def State.latencySource (s : State) (e : PlanEndpoint) : Nat :=
  let unit := 3 * max 1 (fmtLines e.fmt)
  let base := (if e.ep / 4096 = 2 then s.latencyXs e else s.latencyIn e) * unit
  if e.ep / 4096 ≠ 0 ∧ e.ep / 4096 ≠ 2 then 0
  else if e.align = 1 then base + e.depth * period3 (fmtRate e.fmt)
  else if e.align = 2 ∨ e.align = 3 then base + s.frameInForce e.ep * unit
  else base

/-- The output row of an endpoint's stream: of an endpoint with a companion row of ancillary data, its video row (R168). -/
def outRowOf (p : Plan) (ep : Nat) : Option PlanOutRow :=
  (p.outRows.find? (fun r => r.ep == ep && r.kind != 2 && r.kind != 3 && r.kind != 4)).or (p.outRows.find? (fun r => r.ep == ep && r.kind == 4))

/-- L_out of an output (R221). -/
def State.latencyOut (s : State) (p : Plan) (e : PlanEndpoint) : Nat :=
  let lane := if e.transport = 1 then e.lanes.headD 65535 else ((outRowOf p e.ep).map (·.laneP)).getD (e.lanes.headD 65535)
  s.rdN o3100_TX_LATENCY_NS lane + (if e.transport = 1 then 250 else if e.transport = 3 then 1800 else 1750)

/-- The endpoint whose reading an encoded stream's path ends in. -/
def streamInput (dst : Nat) : Nat := if dst / 4096 ≠ 14 then dst else if dst % 4096 < 16 then 0x9000 + dst % 4096 else 0xA000 + dst % 4096 - 16

/-- X, in ns and thirds of a ns (R221). -/
def State.latencyCross (s : State) (path : Int) (dst src : PlanEndpoint) : Latency :=
  let r := (destRow dst.ep).getD 0
  if path = ROUTE_PATH.direct then {}
  else if path = ROUTE_PATH.converter ∧ src.dom = dst.dom then { third := s.domPeriod3 dst.dom }
  else { ns := s.rdN o4002_SYNC_DELAY_NS r }

/-- What follows the crosspoint: an output, a compositor layer, a tile, a codec channel or its stream; none where the path has no constant latency (R268). -/
def State.latencyAfter (s : State) (p : Plan) (dst : Nat) (e : PlanEndpoint) : Option Latency :=
  match dst / 4096 with
  | 8 => some { ns := s.latencyOut p e }
  | 11 => some { third := s.domPeriod3 e.dom }
  | 12 =>
    let head := p.heads.find? (fun h => h.v == dst % 4096 / 64)
    let out := head.bind (fun h => planEp p (h.outs.headD 0))
    some { ns := (out.map (s.latencyOut p)).getD 0, third := s.domPeriod3 ((head.map (·.dom)).getD e.dom) }
  | 14 =>
    let row := outRowOf p dst
    let tx := (row.map (fun r => s.rdN o3100_TX_LATENCY_NS r.laneP)).getD 0
    if dst % 4096 < 16 then some { ns := s.rdN o5000_DELAY_NS (dst % 4096) + 125000 + 1000 + tx }
    else if row.any (·.paced) then some { ns := 2000 + 1000 + tx, line3 := 32 * period3 (fmtRate e.fmt), lines := max 1 (fmtLines e.fmt) } else none
  | _ => some {}

/-- The query of a session: its status and the latency in ns. -/
def State.pathQuery (s : State) (src dst : Nat) : Int × Nat :=
  let p := s.activePlan
  let inner := streamInput dst
  match planEp p inner with
  | none => (PATH_STATUS.no_path, 0)
  | some e =>
    match (if isGenerator src then some { ep := src, dom := e.dom, fmt := e.fmt } else planEp p src) with
    | none => (PATH_STATUS.no_path, 0)
    | some f =>
      if (s.flowFeed src).any (fun f => s.rd o3600_FLOW_KIND f == FLOW_KIND.st2022_6 && s.rd o3600_AUDIO_PLACEMENT f == AUDIO_PLACEMENT.arrival) then (PATH_STATUS.not_planned, 0) else
      match routePath p inner src, s.latencyAfter p dst e with
      | .ok path, some after =>
        let unit := max 1 (fmtLines f.fmt)
        let x := if dst / 4096 = 14 ∧ dst % 4096 < 16 then {} else s.latencyCross path e f
        (PATH_STATUS.valid,
          roundDiv ((s.latencySource f + (x.ns + after.ns) * (3 * unit) + (x.third + after.third) * unit) * after.lines + after.line3 * unit) (3 * unit * after.lines))
      | _, _ => (PATH_STATUS.not_planned, 0)

/-! Alarms (R463). -/

/-- Active points, and the highest severity among them (0 none, 1 A, 2 B, 3 C). -/
def State.activePoints (s : State) : List (Alarm × AlarmPt) := s.alm.points.filter (fun p => p.2.active != [])
def State.highestSeverity (s : State) : Nat :=
  (s.activePoints.map (·.2.severity)).foldl (fun a v => if a = 0 then v else min a v) 0

/-- Reading of a row of 1501h. -/
def State.alarmReading (s : State) (sub pt : Nat) : Val :=
  match pointAlarm pt with
  | none => if sub = 1 then .bytes [] else .int (if sub = 8 then 0xFFFFFFFF else 0)
  | some a =>
    let p := s.point a
    match sub with
    | 1 => .bytes (ascii a.name)
    | 2 => .int p.subsys
    | 3 => .int p.severity
    | 4 => .int (boolVal (p.active != []))
    | 5 => .int (boolVal p.latched)
    | 6 => .int p.raises
    | 7 => .int p.active.length
    | 8 => .int p.lastInstance
    | 9 => .int p.firstRaise
    | _ => .int p.lastChange

/-- LOOKUP_POINT: an alarm's point, a named event's number, FFFFh for a name that is neither. -/
def lookupPoint (name : Bytes) : Nat :=
  match Alarm.all.find? (fun a => ascii a.name == name) with
  | some a => pointNo a
  | none => if name = ascii "PWR_DIP" then eventNo evPwrDip else 0xFFFF

/-! One reading. -/

/-- What the register file holds. -/
def State.readPlain (s : State) (o r : Nat) : Val :=
  match findObj o with
  | some d => if d.ty.bits = 0 then .bytes (s.rdOct o r) else .int (s.rd o r)
  | none => .int (s.rd o r)

/-- A reading that changes nothing. -/
def asInt (s : State) (v : Int) : Nat × Val × State := (stOK, .int v, s)

/-- A power that is measured: a free value (R444, R448; log entry 5). -/
def State.measured (s : State) : Nat × Val × State := let (n, s) := s.takeFree; (stOK, .int (n % 4294967296), s)

/-- Readings that are computed; `c` reads, row `r` is the port for per-session objects. -/
def State.readComputed (s : State) (c : Ctx) (o r : Nat) : Nat × Val × State :=
  match o / 256 with
  | 0x1501 => (stOK, s.alarmReading (o % 256) r, s)
  | 0x2008 => if o = o2008_OWNER_QUERY_ADDR then (stOK, s.readPlain o r, s) else asInt s (s.ownerQuery (o % 256))
  | _ =>
    if o = o1003_SUBSYS_STATE then asInt s (s.subsysState r)
    else if o = o1003_ACTIVE_ALARMS then asInt s (s.subsysAlarms r).length
    else if o = o1005_PATH_LATENCY_NS then asInt s (s.pathQuery (s.rdN o1005_QUERY_SOURCE r) (s.rdN o1005_QUERY_DEST r)).2
    else if o = o1005_PATH_STATUS then asInt s (s.pathQuery (s.rdN o1005_QUERY_SOURCE r) (s.rdN o1005_QUERY_DEST r)).1
    else if o = o1102_MY_PORT then asInt s c.port
    else if o = o1102_MY_PARTITION then asInt s (c.part.getD 255)
    else if o = o1102_MY_ROLES then asInt s c.roles
    else if o = o1136_ATT_DATA then (stOK, .bytes (s.attData r), s)
    else if o = o1400_INPUT_POWER_DW ∨ o = o1410_PD_POWER_DW then s.measured
    else if o = o1500_ALARMS_ACTIVE then asInt s s.activePoints.length
    else if o = o1500_HIGHEST_SEVERITY then asInt s s.highestSeverity
    else if o = o1502_RING_OLDEST_SEQ then asInt s s.ringOldest
    else if o = o1502_RING_NEXT_SEQ then asInt s s.alm.nextSeq
    else if o = o1502_RING_DATA then s.readRing r
    else if o = o1503_VAULT_DATA then (stOK, .bytes s.vaultData, s)
    else if o = o1509_LOOKUP_POINT then asInt s (lookupPoint (s.rdOct o1509_LOOKUP_NAME r))
    else if o = o2001_PREDECESSOR_MATCH then
      asInt s (boolVal (s.activeBank.isSome && (s.bank r).plan.predecessors.contains (s.rdN o2001_IMAGE_ID (s.activeBank.getD 0))))
    else if o = o2002_REQUIRE_SIGNATURE then asInt s (boolVal (s.policyLedger || s.isOn o r))
    else if o = o2002_LOAD_TARGET then asInt s (bankCode s.loadTarget)
    else if o = o2101_COMPATIBLE then asInt s (boolVal (s.compatible (r / 8) (r % 8)))
    else if o = o2101_ELIGIBLE then asInt s (boolVal (s.eligible (r / 8) (r % 8)))
    else if o = o2200_WTR_REMAINING_S then asInt s (s.waitLeft r)
    else if o = o2300_TIME_SECONDS then s.readSeconds
    else if o = o2310_PTQ_OVERFLOW ∨ o = o2310_PTQ_DISCARDS then let s := s.settleSpill r; (stOK, s.readPlain o r, s)
    else if o = o2310_PTQ_POP then asBytes (s.popPtq r)
    else if o = o2311_MATCH_RESULT then asBytes s.matchPtq
    else if o = o3100_PRBS_BITS then asInt s (s.prbsRead r).1
    else if o = o3100_PRBS_ERRORS then asInt s (s.prbsRead r).2
    else if o = o3801_CREDIT then asInt s ((s.accrue (r / 8)).rd o3801_CREDIT r)
    else if o = o3400_ENGINE_STATE then
      asInt s (if s.pdOn (56 + r) then ENGINE_STATE.running
               else if s.pdState (56 + r) = PD_STATE.fault ∨ s.pdState (56 + r) = PD_STATE.locked_off then ENGINE_STATE.fault else ENGINE_STATE.off)
    else if o = o3401_TIMESTAMP_BASIS then asInt s s.tsBasis
    else if o = o3800_EG_PORT_STATE then asInt s (s.portState r)
    else if o = o3800_MAC_RATE_MBPS then asInt s (macRate (s.lane r).mode)
    else if o = o4003_SRC_AUDIO_BASE then asInt s (s.slotAudio r).1
    else if o = o4003_SRC_AUDIO_COUNT then asInt s (s.slotAudio r).2
    else if o = o7003_SPARE_ROWS_LEFT then asInt s (s.sparesLeft r)
    else (stOK, s.readPlain o r, s)

/-- A READ: the checks of R387, then the reading. -/
def State.tryRead (s : State) (c : Option Ctx) (o r : Nat) : Nat × Val × State :=
  let k := s.checkRead c o r
  if k ≠ stOK then (k, .int 0, s) else
  let c := c.getD ⟨4, 0, some 255⟩
  s.readComputed c o (effRow c o r)

def execPathLatencyQuery (t port obj : Nat) (s : State) : Host.Outcome State Fault Refusal :=
  s.run t (fun s =>
    let o := if obj = o1005_PATH_STATUS then o1005_PATH_STATUS else o1005_PATH_LATENCY_NS
    let (k, v, s) := s.tryRead (s.ctxOf port) o 0
    if k = stOK then s.answerVal v else s.answer k)

end Sys2Proof.Machine
end

