-- ==== Sys2Proof/Machine/Router.lean ====
section
/-! DEFINITION. Machine/Router.lean: messages with operations (R379-R383, R386, R387), the writes of objects without a command of their own, the samples of traces (R471), and the
frames of the Ivard link that bring mirrored writes (R430, R435). -/

namespace Sys2Proof.Machine

open Sys2Proof

/-- The operation that a write of an object runs. -/
def handlerOf (o : Nat) : Handler :=
  if o = o1200_CONFIG_CMD then writeConfigCmd
  else if o = o1202_CFG_XFER_CMD then writeCfgXferCmd
  else if o = o1202_CFG_XFER_DATA then writeCfgXferData
  else if o = o4201_TASK_CMD then writeTaskCmd
  else handler0 o

/-- The value that the bytes of a WRITE give; none when they do not decode, or when the object does not exist. -/
def wireVal (o : Nat) (b : Bytes) : Option Val := (findObj o).bind (fun d => decodeVal d b)

def execObjectWrite (t port obj row : Nat) (value : Bytes) (s : State) : Host.Outcome State Fault Refusal :=
  s.run t (fun s =>
    let (o, r) := laneCode obj row
    let (k, s) := s.tryWrite (handlerOf o) (s.ctxOf port) o r (wireVal o value)
    (s.answer k).flushEnds port)

/-- DESCRIBE on a port that answers (R386, R415, R450). -/
def State.describeOp (s : State) (o r : Nat) : Nat × Bytes :=
  let (k, b) := s.describe o r
  if k = stOK ∧ s.served o false = false then (stBUSY, []) else (k, b)

def execDescribe (t port obj row : Nat) (s : State) : Host.Outcome State Fault Refusal :=
  s.run t (fun s =>
    if s.talks port = false then s
    else
      let (o, r) := laneCode obj row
      let (k, b) := s.describeOp o r
      if k = stOK then s.answerVal (.bytes b) else s.answer k)

/-! Operations of a message (R381). -/

/-- An operation: OP, object, ROW, value bytes. -/
structure SdpOp where
  op : Nat
  obj : Nat
  row : Nat
  value : Bytes
deriving DecidableEq, Repr

/-- Read `n` operations from a body that they fill. -/
def parseOps : Nat → Bytes → Option (List SdpOp)
  | 0, b => if b = [] then some [] else none
  | n + 1, b =>
    let len := fieldNat 8 2 b
    let full := 12 + (len + 3) / 4 * 4
    if b.length < full then none
    else match parseOps n (b.drop full) with
      | none => none
      | some l => some (⟨fieldNat 0 1 b, fieldNat 2 2 b * 256 + fieldNat 1 1 b, fieldNat 4 4 b, slice 12 len b⟩ :: l)

/-- The operations of a message: at most 64. -/
def msgOps (d : Bytes) : Option (List SdpOp) := if 64 < fieldNat 16 2 d then none else parseOps (fieldNat 16 2 d) (msgBody d)

/-- Bytes of a value with a status. -/
def valBytes (o : Nat) (k : Nat) (v : Val) : Bytes :=
  match findObj o with
  | some d => if k = stOK then encodeVal d.ty v else []
  | none => []

/-- Whether one of a list of operations writes an object's row. -/
def writesTo (l : List SdpOp) (op : SdpOp) : Bool := l.any (fun x => x.op == 2 && x.obj == op.obj && x.row == op.row)

/-- Perform an operation (R382): `s0` is the state before the message, `before` and `after` the operations around it. -/
def State.doOp (s0 s : State) (c : Option Ctx) (before after : List SdpOp) (x : SdpOp) : OpOutcome × State :=
  match opRow x.obj x.row with
  | none => (.done stNO_OBJECT [], s)
  | some (o, r) =>
    if x.op = 1 then
      if writesTo before x then
        let (k, v, s') := s.tryRead c o r
        (.done k (valBytes o k v), s')
      else if writesTo after x then
        let (k, v, _) := s0.tryRead c o r
        (.done k (valBytes o k v), s)
      else
        let (k, _, _) := s.tryRead c o r
        if k = stOK then (.later o r, s) else (.done k [], s)
    else if x.op = 2 then
      let (k, s') := s.tryWrite (handlerOf o) c o r (wireVal o x.value)
      (.done k [], s')
    else if x.op = 3 then
      let (k, b) := s.describeOp o r
      (.done k b, s)
    else (.done stUNSUPPORTED [], s)

/-- Bytes that a result takes in the RESPONSE. -/
def padded (n : Nat) : Nat := 4 + (n + 3) / 4 * 4

/-- Bytes that the result of an operation will take (R383), from what a read would return now. -/
def State.resultSize (s : State) (c : Option Ctx) (x : SdpOp) : Nat :=
  match opRow x.obj x.row with
  | none => padded 0
  | some (o, r) =>
    if x.op = 1 then
      let (k, v, _) := s.tryRead c o r
      padded (valBytes o k v).length
    else if x.op = 3 then padded (s.describeOp o r).2.length
    else padded 0

/-- Whether a result counts as a failure for STOP_ON_ERROR. -/
def OpOutcome.failed : OpOutcome → Bool
  | .done k _ => k != stOK
  | .later _ _ => false

/-- The operations of a message in order: `room` is what the results may still take, `halted` stops the rest with 000Bh (R382, R383). -/
def State.runOps (s0 : State) (c : Option Ctx) (stop : Bool) : List SdpOp → List SdpOp → Nat → Bool → State → List OpOutcome × State
  | _, [], _, _, s => ([], s)
  | before, x :: l, room, halted, s =>
    let size := s.resultSize c x
    if halted ∨ room < size + 4 * l.length then
      let (rs, s) := State.runOps s0 c stop (before ++ [x]) l (room - 4) true s
      (.done stNOT_EXECUTED [] :: rs, s)
    else
      let (y, s) := State.doOp s0 s c before l x
      let (rs, s) := State.runOps s0 c stop (before ++ [x]) l (room - size) (stop && y.failed) s
      (y :: rs, s)

/-- Payload bytes of a datagram to an address (R379). -/
def datagramMax (addr : Nat) : Nat := if addr / 4294967296 = 0xFFFF then 1472 else 1452

/-- The results of a response whose reads that wait are made now. -/
def State.finishOps (c : Option Ctx) : List OpOutcome → State → List (Nat × Bytes) × State
  | [], s => ([], s)
  | .done k b :: l, s =>
    let (rs, s) := State.finishOps c l s
    ((k, b) :: rs, s)
  | .later o r :: l, s =>
    let (k, v, s) := s.tryRead c o r
    let (rs, s) := State.finishOps c l s
    ((k, valBytes o k v) :: rs, s)

/-- A result as the RESPONSE carries it (R381). -/
def resultBytes (x : Nat × Bytes) : Bytes := leBytes 2 x.1 ++ leBytes 2 x.2.length ++ pad4 x.2

/-- Complete a response and send it; the session keeps it (R391), and ends that waited for it take place. -/
def State.sendResponse (s : State) (p : PendingResponse) : State :=
  let c : Option Ctx := if p.sessionId = 0 then none else some ⟨p.port, p.roles, s.partOf p.port p.roles⟩
  let (rs, s) := State.finishOps c p.results s
  let body := (rs.map resultBytes).flatten
  let status := ((rs.find? (fun r => r.1 != stOK)).map (·.1)).getD stOK
  let m := msgHeader 0x11 0 p.sessionId p.seq body.length status rs.length ++ body
  let m := if p.sessionId = 0 then m else m ++ msgMac p.key 1#8 m
  let s := match (s.port p.port).session with
    | some x => if x.id = p.sessionId ∧ x.lastSeq = p.seq then s.putSession p.port { x with kept := some m } else s
    | none => s
  (s.emit (.sdp p.port p.addr p.udp m)).flushEnds p.port

/-- The end of a control cycle: the reads that waited for it are made, and their responses go (R382). -/
def State.cycleResponses (s : State) : State := s.ctl.responses.foldl State.sendResponse { s with ctl := { s.ctl with responses := [] } }

/-- Run the operations of a message; the response goes at once unless a read waits for the end of the cycle. -/
def State.runMessage (s : State) (port addr udp : Nat) (d : Bytes) (x : Option Session) (ops : List SdpOp) : State :=
  let c := x.bind (fun _ => s.ctxOf port)
  let room := datagramMax addr - headerLen - (if x.isSome then 16 else 0)
  let (rs, s') := State.runOps s c ((fieldNat 2 2 d).testBit 0) [] ops room false s
  let p : PendingResponse :=
    { port := port
      sessionId := (x.map (·.id)).getD 0
      roles := (x.map (·.roles)).getD 0
      key := (x.map (·.key)).getD []
      addr := addr
      udp := udp
      seq := fieldNat 8 4 d
      results := rs }
  if rs.any (fun r => match r with
    | .later _ _ => true
    | .done _ _ => false) then { s' with ctl := { s'.ctl with responses := s'.ctl.responses ++ [p] } }
  else s'.sendResponse p

/-- A REQUEST (R380-R383, R390, R391). -/
def State.request (s : State) (port addr udp : Nat) (d : Bytes) : State :=
  if fieldNat 4 4 d = 0 then
    s.withPlain port addr udp d (fun s =>
      if fieldNat 1 1 d ≠ 0x10 then s
      else match msgOps d with
        | none => s.sendError port addr udp stENCODING
        | some ops => s.runMessage port addr udp d none ops)
  else if fieldNat 1 1 d ≠ 0x10 then s
  else match msgOps d with
    | none => s
    | some ops => s.withSession port addr udp d (fun x s => s.runMessage port addr udp d (some x) ops)

def execRequest (t port addr udp : Nat) (d : Bytes) (s : State) : Host.Outcome State Fault Refusal := s.run t (fun s => s.request port addr udp d)

/-! Traces (R471). -/

/-- The integer that a trace channel samples; a source that cannot be read now gives none. -/
def State.traceValue (s : State) (ch : Nat) : Option Int × State :=
  match opRow (s.rdN o1504_TRACE_SOURCE ch) (s.rdN o1504_TRACE_ROW ch) with
  | none => (none, s)
  | some (o, r) =>
    match s.tryRead (some ctxDevice) o r with
    | (k, .int v, s') => if k = stOK then (some v, s') else (none, s)
    | _ => (none, s)

/-- The end of a channel's interval: a sample of its source joins those of the control cycle. -/
def State.traceSample (s : State) (ch : Nat) : State :=
  if s.isOn o1504_TRACE_ENABLE ch ∧ s.pdOn 95 ∧ s.traceInterval ch ≤ (storeGet ch s.alm.traceCount).getD 0 then
    let s := { s with alm := { s.alm with traceCount := storePut natLt ch 0 s.alm.traceCount } }
    match s.traceValue ch with
    | (some v, s) => { s.bump o1504_TRACE_SAMPLES ch with alm := { s.alm with samples := s.alm.samples ++ [(ch, s.time96, v)] } }
    | (none, s) => s
  else s

def execTraceSample (t ch : Nat) (s : State) : Host.Outcome State Fault Refusal := s.run t (fun s => if ch < 16 then s.traceSample ch else s)

/-! Mirrored writes (R435). -/

/-- A mirrored write is performed with the roles and the partition under which the active accepted it (R435). -/
def applyMirror (e : MirrorEntry) (s : State) : State := (s.tryWrite (handlerOf e.obj) (some (mirrorCtx e)) e.obj e.row (wireVal e.obj e.value)).2

def execIvardFrameRx (t : Nat) (rx : IvardRx) (s : State) : Host.Outcome State Fault Refusal := s.run t (fun s => s.rxIvard applyMirror rx)

end Sys2Proof.Machine
end

