-- ==== Sys2Proof/Machine/Startup.lean ====
section
/-! DEFINITION. Machine/Startup.lean: the start-up sequence (R360, R452-R454) and the end of ride-through (R446). -/

namespace Sys2Proof.Machine

open Sys2Proof

/-! The end of ride-through. -/

/-- A postponed flash write runs (R405, R416, R446). The records of memory hold from their acceptance on, so nothing else follows them. -/
def State.runFlash (s : State) : FlashWrite → State
  | .save => s.wr o1200_CONFIG_STATE 0 CONFIG_STATE.saving
  | .importCfg => s.wr o1200_CONFIG_STATE 0 CONFIG_STATE.saving
  | .fwClose _ => s
  | .fwActivate f => s.putBoot f
  | .retirement _ => s
  | .weakWord _ => s

/-- VIN has stayed above 42.0 V for 10 ms: `low` is the lowest VIN seen in mV. -/
def State.vinClear (s : State) (mv low : Nat) : State :=
  let s := s.noteVin mv
  match s.pwr.dipFrom with
  | none => s
  | some from_ =>
    let low := min low s.pwr.dipMin
    let ms := (s.now - from_) / 1000000 % 4294967296
    let l := s.pwr.postponed
    let s := { s with pwr := { s.pwr with warnOut := false, dipFrom := none, postponed := [] } }
    let s := ((s.wr o1400_POSTPONED_WRITES 0 0).wr o1400_SUPPLY_STATE 0 SUPPLY_STATE.normal).bump o1400_DIPS 0
    let s := (s.wr o1400_LAST_DIP_MIN_MV 0 low).wr o1400_LAST_DIP_MS 0 ms
    (l.foldl State.runFlash s).noteDip.logEvent evPwrDip 12 noInst (leBytes 4 low ++ leBytes 4 ms)

def execVinClear (t mv low : Nat) (s : State) : Host.Outcome State Fault Refusal := s.run t (fun s => s.vinClear mv low)

/-! Stages. -/

/-- A start-up stage begins. -/
def State.beginStage (s : State) (stage : Int) : State := { s.wr o1401_START_STAGE 0 stage with pwr := { s.pwr with stageAt := s.now } }

/-- Milliseconds of the stage in progress. -/
def State.stageMs (s : State) : Nat := (s.now - s.pwr.stageAt) / 1000000

/-- A row of the self-test report (1402h). -/
def State.noteTest (s : State) (i : Nat) (result : Int) (ms detail : Nat) : State :=
  ((s.wr o1402_TEST_RESULT i result).wr o1402_TEST_MS i (min ms 65535 : Nat)).wr o1402_TEST_DETAIL i detail

/-- A pass or a failure as a test result. -/
def testOf (ok : Bool) : Int := if ok then TEST_RESULT.pass else TEST_RESULT.fail

/-- A stage fails: the sequence ends in the safe state. After 'leave' the device is 'safe' already and keeps its first reason (R452, R458). -/
def State.failStart (s : State) (reason : Int) : State :=
  if s.rd o1401_DEVICE_STATE 0 = DEVICE_STATE.starting then s.doSafe reason
  else { s with pwr := { s.pwr with starting := false, leaving := false, armedFirst := false, testHold := [] } }.followPower

/-- Stage 0 ends: OSC_IN is checked. While a RSVD land is found driven or grounded, and from then on until VIN is cycled with the lands free, the device stays in this stage (R478). -/
def State.endAon (s : State) (free : Bool) : State :=
  if s.pwr.rsvd ∨ free = false then { s with pwr := { s.pwr with rsvd := true } }
  else
  let s := (s.noteTest 0 TEST_RESULT.pass s.stageMs 0).noteTest 1 (testOf s.pwr.oscIn) s.stageMs 0
  if s.pwr.oscIn then s.beginStage START_STAGE.boot else (s.raise .OSC_IN_LOSS noInst).failStart SAFE_REASON.osc_in

/-- Stage 1 ends: the boot ROM has found an image to run, or the device is in recovery (R415); without a flash that it can use it is in recovery too (R487). -/
def State.endBoot (s : State) (r : StageReport) : State :=
  let (ok, s) := if r.ok then s.bootRom else (false, s.raise .SEC_BOOT_FAILED noInst)
  let s := s.noteTest 2 (testOf ok) s.stageMs (s.rdN o1132_FW_SLOT_RESULT (s.runSlot))
  if ok then ({ s with pwr := { s.pwr with testHold := [86] } }.beginStage START_STAGE.firmware).followPower
  else
    let s := { s.wr o1401_DEVICE_STATE 0 DEVICE_STATE.recovery with pwr := { s.pwr with starting := false } }
    s.raiseWith .SYS_SAFE_STATE noInst Alarm.SYS_SAFE_STATE.severity Alarm.SYS_SAFE_STATE.subsys [0#8]

/-- Domains that start-up holds on from the self-test to the start of media: memory, the core pair, tally units and supervision (R452). -/
def startHolds : List Nat := [76, 77, 78, 79, 80, 81, 86, 94, 95]

/-- Stage 2 ends: the key store is checked and the control ports answer. -/
def State.endFirmware (s : State) (r : StageReport) : State :=
  if r.ok = false then s.failStart SAFE_REASON.watchdog
  else
    let s := (r.keys.filter (· < 8)).foldl (fun s k => s.wr o1100_KEY_STATE k KEY_STATE.invalid) s
    let s := (s.keyAlarms.readJournal).noteTest 8 (testOf (r.keys == [])) s.stageMs (r.keys.headD 0)
    let s := s.wr o1401_TALK_MS 0 ((s.now - s.pwr.stage0At) / 1000000 : Nat)
    ({ s with pwr := { s.pwr with testHold := startHolds } }.beginStage START_STAGE.self_test).followPower

/-- A row repaired at the test takes a spare row (R360). -/
def State.repairRow (s : State) (a : Nat) : State :=
  { s with itg := { s.itg with bankUsed := storePut natLt (Config.wordBank a) ((storeGet (Config.wordBank a) s.itg.bankUsed).getD 0 + 1) s.itg.bankUsed,
                               memUsed := storePut natLt (memOf a) ((storeGet (memOf a) s.itg.memUsed).getD 0 + 1) s.itg.memUsed } }

/-- The worst of test results: 'fail', then 'repaired', else 'pass'. -/
def worstTest (l : List Nat) : Nat := if l.contains 3 then 3 else if l.contains 2 then 2 else 1

/-- Domains whose failure stops the start (R454). -/
def vitalDomain (pd : Nat) : Bool := decide (76 ≤ pd ∧ pd ≤ 81) || pd == 86

/-- Stage 3 ends: domain test and memory tests (R360, R454). -/
def State.endSelfTest (s : State) (r : StageReport) : State :=
  let bad := r.domains.filter (· < 96)
  let s := bad.foldl (fun s pd => (s.wr o1410_PD_STATE pd PD_STATE.locked_off).raiseWith .PWR_DOMAIN_FAULT pd Alarm.PWR_DOMAIN_FAULT.severity (pdSubsys pd) []) s
  let s := s.noteTest 3 (testOf (bad == [])) (r.ms.getD 0 0) (bad.headD 0)
  let s := s.noteTest 4 r.sram (r.ms.getD 1 0) (if r.sram = 3 then 6 else 0)
  let s := [0, 1, 2].foldl (fun s i => s.noteTest (5 + i) (r.hbm.getD i 0) (r.ms.getD (2 + i) 0) (if r.hbm.getD i 0 = 3 then r.unit else 0)) s
  let h := worstTest r.hbm
  let s := ((s.wr o7007_SRAM_TEST 0 (worstTest [r.sram] - 1 : Nat)).wr o7007_HBM_TEST 0 (h - 1 : Nat)).wr o7007_HBM_ROWS_SAMPLED 0 r.sampled
  let s := (s.wr o7007_ROWS_REPAIRED_AT_TEST 0 r.repaired.length).wr o7007_SELFTEST_MS 0 (min (sumNat (r.ms.drop 1)) 65535 : Nat)
  let s := (r.repaired.foldl State.repairRow s).wr o7002_REPAIRS_PENDING 0 0
  let s := s.alarmWhile .MEM_WEAK_WORD noInst (decide (0 < s.rdN o7002_WEAK_WORDS 0 + s.rdN o7002_WEAK_UNLISTED 0))
  if r.sram = 3 ∨ h = 3 ∨ bad.any vitalDomain then s.failStart SAFE_REASON.self_test else (s.beginStage START_STAGE.configuration).followPower

/-- Stage 5 begins: the image of FLASH_IMAGE is read into the load target. -/
def State.beginLedger (s : State) : State := ((s.beginStage START_STAGE.ledger).beginLoad (some (s.rdN o2002_FLASH_IMAGE 0))).2

/-- Stage 4 ends: the configuration is chosen and applied, PTP and reference lanes go on (R404, R453). -/
def State.endConfiguration (s : State) : State :=
  let s := ((s.noteCfgSlot 0).noteCfgSlot 1).loadConfig
  let s := s.noteTest 9 (testOf (!s.isOn o1200_FACTORY_FLAG 0)) s.stageMs 0
  { s with pwr := { s.pwr with ptpHold := true } }.followPower.beginLedger

/-- The bank that start-up has loaded. -/
def State.startBank (s : State) : Option Nat := s.led.lastReady

/-- Stage 5 ends when the load has ended. -/
def State.endLedger (s : State) : State :=
  if s.loadRuns then s
  else match bankList.find? (fun b => s.bankState b == BANK_STATE.ready) with
    | some _ => (s.noteTest 10 TEST_RESULT.pass s.stageMs 0).beginStage START_STAGE.reference
    | none => (s.noteTest 10 TEST_RESULT.fail s.stageMs (s.rdN o2001_CHECK_RESULT 0)).failStart SAFE_REASON.ledger

/-- Domains that the loaded image uses. -/
def State.startDomains (s : State) : List Nat :=
  match s.startBank with
  | some b => usedDomains (s.bank b).descs
  | none => []

/-- Stage 7 begins: the planned power domains go on. -/
def State.beginMedia (s : State) : State :=
  let plan := (s.startBank.map (fun b => (s.bank b).plan.power)).getD []
  ({ s with pwr := { s.pwr with testHold := (s.pwr.testHold ++ plan).eraseDups } }.beginStage START_STAGE.media).followPower

/-- The first swap is armed with ANCHOR_FCNT 0; a refusal ends the start. -/
def State.armFirst (s : State) : State :=
  if s.pwr.armedFirst then s
  else
    let (k, s) := (s.wr o2003_ANCHOR_FCNT 0 0).swapArm
    if k = stOK then { s with pwr := { s.pwr with armedFirst := true } } else s.failStart SAFE_REASON.ledger

/-- Receive lanes that the loaded image plans. -/
def State.startLanes (s : State) : List Nat :=
  match s.startBank with
  | some b => (((s.bank b).plan.endpoints.filter (fun e => e.ep / 4096 == 0 || e.ep / 4096 == 2)).map (·.lanes)).flatten
  | none => []

/-- The stage in progress completes, or fails. Stages 5-7 complete when what they wait for has come. -/
def State.stageComplete (s : State) (r : StageReport) : State :=
  let st := s.rd o1401_START_STAGE 0
  if s.pwr.starting = false then s
  else if st = START_STAGE.aon then s.endAon r.rsvdFree
  else if st = START_STAGE.boot then s.endBoot r
  else if st = START_STAGE.firmware then s.endFirmware r
  else if st = START_STAGE.self_test then s.endSelfTest r
  else if st = START_STAGE.configuration then s.endConfiguration
  else if st = START_STAGE.ledger then s.endLedger
  else if st = START_STAGE.reference then (if s.startDomains.all (fun d => s.dpll d == DPLL_STATE.locked) then s.beginMedia else s)
  else if s.startLanes.all (fun l => s.rd o3100_LANE_STATE l == LANE_STATE.up) then s.armFirst else s

def execStartupStageComplete (t : Nat) (report : StageReport) (s : State) : Host.Outcome State Fault Refusal := s.run t (fun s => s.stageComplete report)

/-- START_REF_WAIT_S has passed in stage 6. -/
def State.refWaitOver (s : State) : State :=
  if s.pwr.starting ∧ s.rd o1401_START_STAGE 0 = START_STAGE.reference ∧ s.pwr.stageAt + s.rdN o1401_START_REF_WAIT_S 0 * second ≤ s.now then s.beginMedia else s

def execStartRefWaitExpiry (t : Nat) (s : State) : Host.Outcome State Fault Refusal := s.run t (fun s => s.refWaitOver)

/-- START_LANE_WAIT_MS has passed in stage 7. -/
def State.laneWaitOver (s : State) : State :=
  if s.pwr.starting ∧ s.rd o1401_START_STAGE 0 = START_STAGE.media ∧ s.pwr.stageAt + s.rdN o1401_START_LANE_WAIT_MS 0 * 1000000 ≤ s.now then s.armFirst else s

def execStartLaneWaitExpiry (t : Nat) (s : State) : Host.Outcome State Fault Refusal := s.run t (fun s => s.laneWaitOver)

end Sys2Proof.Machine
end

