-- ==== Sys2Proof/Machine/Ticks.lean ====
section
/-! DEFINITION. Machine/Ticks.lean: what the module does by itself: frame ticks, ledger cycles, line periods and cadence cycles (R19, R26, R58, R83-R90, R192, R209), the
auditor's next word (R359, R362). -/

namespace Sys2Proof.Machine

open Sys2Proof

/-! Mutes to come (R53, R89). -/

/-- Mutes that a domain's next tick brings: it begins a jump frame, or the changeover frame of a dark swap (R53, R89); the jump frame in progress lasts until its late tick. -/
def State.comingMutes (s : State) (d : Nat) : List Mute :=
  let x := s.td d
  let next := s.tickIn d 1
  let jump := if x.inJump then mutesOf (s.audioDests (s.planOf d) none d) x.tickAt next
    else if x.jumpFrame = some (s.fcnt d + 1) then mutesOf (s.audioDests (s.planOf d) none d) next (next + period3 x.rate) else []
  let dark := match s.led.swap with
    | some w =>
      if w.kind = LAST_SWAP_KIND.dark ∧ s.bankAt d next = some w.incoming ∧ s.serving d ≠ some w.incoming then
        let was := s.bankRate (s.serving d) d
        let old := if was = 0 ∨ was = s.bankRate (some w.incoming) d then some (s.planOf d) else none
        mutesOf (s.audioDests (s.bank w.incoming).plan old d) next (next + period3 (s.bankRate (some w.incoming) d) / 3)
      else []
    | none => []
  jump ++ dark

/-! Items that miss their place (R58). -/

/-- A line of a source buffer is marked stale in the frame in progress (R58). -/
def State.markStale (s : State) (ep f : Nat) (lines : List Nat) : State :=
  s.setBuf ep { s.buf ep with stale := ((s.buf ep).stale.filter (fun e => e.1 == f)) ++ lines.map (fun l => (f, l)) }

/-- A destination takes a line of the frame in progress from the frame before (R58). -/
def State.markMissed (s : State) (r f line : Nat) : State :=
  s.setDest r { s.dest r with missed := ((s.dest r).missed.filter (fun e => e.1 == f)) ++ [(f, line)] }

/-- A scaler takes an output line from the previous frame: for the layer, the head or the converter that uses it (R58 kind 8). -/
def State.scalerMissed (s : State) (d r line : Nat) : State :=
  let u := s.rdN o6005_SCALER_USER r
  let k := s.rd o6005_SCALER_USE r
  if k = SCALER_USE.layer then s.setComp (u / 8) { s.comp (u / 8) with scaled := (u % 8, line) :: (s.comp (u / 8)).scaled }
  else if k = SCALER_USE.head then s.setHead u { s.head u with scaled := line :: (s.head u).scaled }
  else if k = SCALER_USE.converter then
    match destRow u with
    | some r => s.markMissed r (s.fcnt d) line
    | none => s
  else s

/-- The fallback of an item that missed its place (R58), and what its own chapter counts of it. Kinds 3 and 11 are found where they happen. The lines of a precinct that a decoder
missed are those of the frame before. -/
def State.fallback (s : State) (d : Nat) (m : Miss) : State :=
  match m.kind with
  | 1 => s.markStale m.unit (s.fcnt d) [m.line]
  | 2 => s.markMissed m.unit (s.fcnt d) m.line
  | 4 => s.ctuMissed (m.unit / 8) (m.unit % 8) m.line
  | 5 => (s.bump o5012_XS_SLICES_COARSENED m.unit).emit (.coarser m.unit (s.fcnt d) m.line)
  | 6 => s.markStale (0x2000 + m.unit) (s.fcnt d) ((List.range (s.buf (0x2000 + m.unit)).precinct).map (m.line + ·))
  | 7 => s.layerMissed m.unit m.line
  | 8 => s.scalerMissed d m.unit m.line
  | 9 => s.markMissed m.unit (s.fcnt d) m.line
  | _ => s

/-- Subsystem charged for an item: an internal source's own for kind 1 (R58). -/
def chargeOf (m : Miss) : Nat := if m.kind = 1 ∧ m.subsys ≠ 0 then m.subsys else missSubsys m.kind

/-- An item that cannot complete in its planned place. -/
def State.takeMiss (s : State) (d : Nat) (m : Miss) : State :=
  if 1 ≤ m.kind ∧ m.kind ≤ 11 then (s.fallback d m).overdraft m.kind d (chargeOf m) else s

/-! The frame tick (R83-R90). -/

/-- Units of `phaseFine` in a ns, and in the frame period of a rate. -/
def fineNs : Int := 30000000
def finePeriod (rate : Nat) : Int := period3 rate * 10000000

/-- An offset brought into (−P/2, +P/2] (R87). -/
def wrapPhase (p x : Int) : Int :=
  if p = 0 then x
  else
    let y := x % p
    if p < 2 * y then y - p else y

/-- One frame of a slew: the offset moves towards zero by at most REALIGN_SLEW times P (R88). -/
def slewStep (rate : Nat) (slew x : Int) : Int := towards x 0 (slew * period3 rate)

/-- A realignment ends at this tick. -/
def State.realigned (s : State) (d : Nat) : State := (s.wr o2100_REALIGN_STATE d REALIGN_STATE.idle).wr o2100_LAST_REALIGN_FCNT d (s.fcnt d)

/-- The tick of a domain that slews (R88). -/
def State.slewTick (s : State) (d : Nat) : State :=
  if s.rd o2100_REALIGN_STATE d ≠ REALIGN_STATE.slewing then s
  else
    let x := s.td d
    let v := slewStep x.rate (s.rd o2100_REALIGN_SLEW d) x.phaseFine
    let s := s.setTd d { x with phaseFine := v }
    if absInt v < fineNs then s.realigned d else s

/-- The extension of a jump frame in ns: (−offset) mod P (R89). -/
def jumpLength (rate : Nat) (x : Int) : Nat := if period3 rate = 0 then 0 else ((-x) % finePeriod rate / fineNs).toNat

/-- The cadence cycle in progress ends early at a late tick: each block is completed with the last sample that the cycle took (R85). -/
def cutBlock (n : Nat) (b : List Int) : List Int := b.take n ++ List.replicate (blockSize - n) ((b.take n).getLast?.getD 0)

/-- Samples that the cadence cycle in progress has taken: those whose ticks have come. -/
def State.cycleSamples (s : State) : Nat := min blockSize (ceilDiv ((s.now - s.cadenceAt) * 6) 125000)

/-- TD0's late tick: the cycle in progress is completed and a new one begins (R85). -/
def State.lateTick (s : State) : State :=
  let n := s.cycleSamples
  let s := if n = 0 then s else { s with aud := { s.aud with placed := s.aud.placed.map (fun e => (e.1, cutBlock n e.2)) } }
  s.restartCadence

/-- The tick of a domain for which a jump is pending or in progress (R89). -/
def State.jumpTick (s : State) (d : Nat) : State :=
  let x := s.td d
  if x.inJump then
    let mutes := mutesOf (s.audioDests (s.planOf d) none d) s.now s.now
    let s := s.setTd d { x with inJump := false, jumpFrame := none, jumpExtend := 0, phaseFine := 0, buildOut := 0, lastPhase := none, compared := [] }
    let s := { s with aud := { s.aud with mutes := s.aud.mutes ++ mutes } }.realigned d
    if d = 0 then s.lateTick else s
  else if x.jumpFrame = some (s.fcnt d) then s.setTd d { x with inJump := true, jumpExtend := jumpLength x.rate x.phaseFine }
  else s

/-- TICK_PHASE_OFFSET_NS and EPOCH_FCNT_OFFSET at a tick (R83, R87). -/
def State.notePhase (s : State) (d : Nat) : State :=
  let x := s.td d
  let s := if s.phaseSource d then
      let v := wrapPhase (finePeriod x.rate) x.phaseFine
      (s.setTd d { x with phaseFine := v }).wr o2100_TICK_PHASE_OFFSET_NS d (v.tdiv fineNs)
    else s
  s.wr o2100_EPOCH_FCNT_OFFSET d (if s.phaseSource d && s.selected d == 4 then (epochFrames x.rate s.clkNanos : Int) - s.fcnt d else 0)

/-- What the writes to the frame pulses of a domain's pins set, in force from the tick on (R86). -/
def State.pulsePins (s : State) (d : Nat) : List (Int × Int × Int × Int) :=
  [2 * d, 2 * d + 1].map (fun p => (s.rd o2102_FP_MODE p, s.rd o2102_FP_OFFSET_NS p, s.rd o2102_FP_WIDTH_NS p, s.rd o2102_FP_POLARITY p))

/-- The pulse of a pin at a tick (R86): 'frame' at every one, 'even frame' at those with even FCNT, 'field' at both fields of the frame. -/
def State.framePulse (s : State) (d pin : Nat) (v : Int × Int × Int × Int) : State :=
  let (mode, off, width, pol) := v
  let f := s.fcnt d
  let p := Out.framePulse pin f off width (pol == FP_POLARITY.high)
  if mode = FP_MODE.frame ∨ (mode = FP_MODE.even_frame ∧ f % 2 = 0) then s.emit p
  else if mode = FP_MODE.field then (s.emit p).emit (.framePulse pin f (off + period3 (s.td d).rate / 6) width (pol == FP_POLARITY.high))
  else s

/-- What the system clock of R289 counts in the frame that ends: the frame period of the rate, which the domain's tick generator counts on the same DPLL (R83), and the extension of a
jump frame. -/
def Td.frameClock (x : Td) : Nat := period3 x.rate * 9 + (if x.inJump then x.jumpExtend * 27 else 0)

/-- FCNT has 48 bits. -/
def fcntModulus : Nat := 281474976710656

/-- The tick itself: FCNT advances by one, cycle 0 begins, what waits for a tick takes effect (R20, R83, R86, R446). -/
def State.countTick (s : State) (d : Nat) : State :=
  let first := d == 0 && (s.td 0).placed
  let s := s.wr o2100_FCNT d ((s.fcnt d + 1) % fcntModulus : Nat)
  let s := s.setTd d { s.td d with sys := (s.td d).sys + (s.td d).frameClock }
  let s := s.setTd d { s.td d with tickAt := s.now, prevTick := (s.td d).tickAt, tickClk := s.clkNanos, cycle := 0, placed := false, dip := s.pwr.dipFrom.isSome, fp := s.pulsePins d }
  let s := if s.pwr.slowed ∧ s.pwr.dipFrom.isNone then s.setSlowed false else s
  let s := (s.td d).fp.zipIdx.foldl (fun s e => s.framePulse d (2 * d + e.2) e.1) s
  if first then s.restartCadence else s

/-- A frame tick of a domain: the items of the frame that ends which an early tick has left unserved take their fallbacks (R26), the frame is judged, then the tick comes. -/
def State.frameTick (s : State) (d : Nat) (content : FrameContent) : State :=
  let s := content.missed.foldl (fun s m => s.takeMiss d m) s.latchComps.latchHeads
  let f := s.fcnt d
  let s := ((s.rasterFrameEnd d f content.pictures).compsFrameEnd d f content.seals).overdraftRate d
  let s := ((((s.countTick d).jumpTick d).slewTick d).notePhase d).swapTick d
  let s := (s.syncSelects d).copyTick d
  let s := if d = 0 then s.pairTick content.hung else s
  (s.mirrorWork applyMirror).sendTick d

def execFrameTick (t td : Nat) (content : FrameContent) (s : State) : Host.Outcome State Fault Refusal :=
  s.run t (fun s => if td < 4 then s.frameTick td content else s)

/-! The ledger cycle (R19, R58). -/

/-- A ledger cycle starts: the one before it has ended, so that what waits for its end happens; the items of this one are served, and the tellers hold a round. -/
def State.ledgerCycle (s : State) (d : Nat) (misses : List Miss) (touched : List WordTouch) : State :=
  let x := s.td d
  let s := s.setTd d { x with cycle := if s.now = x.tickAt then 0 else min (x.cycle + 1) (frameCycles x.rate - 1) }
  let s := ((s.latchComps.latchHeads.freeSurfs d).dropPower.lanesPower.noteUnits).drainPtq
  let s := (s.meetAll touched).2
  (misses.foldl (fun s m => s.takeMiss d m) s).tellerRound (some d)

def execLedgerCycleStart (t td : Nat) (misses : List Miss) (touched : List WordTouch) (s : State) : Host.Outcome State Fault Refusal :=
  s.run t (fun s => if td < 4 then s.ledgerCycle td misses touched else s)

/-! The line period (R192). -/

def execLinePeriodStart (t row line : Nat) (touched : List WordTouch) (s : State) : Host.Outcome State Fault Refusal :=
  s.run t (fun s => (s.meetAll touched).2.latchComps.latchHeads.fabricLine (fun k r l a => a.encoderLine k r l) row line)

/-! The cadence cycle (R85, R209), which is the control cycle as well. -/

/-- What the end of a control cycle brings: an accepted partition map, the snapshot of a save, the responses with the reads that waited (R382, R401, R405). -/
def State.controlCycleEnd (s : State) : State := s.mapInForce.takeSnapshot.cycleResponses

/-- A cadence cycle begins: its number and its instant. A cycle that begins on a tick at which the cadence restarted has been counted. -/
def State.countCycle (s : State) : State := if s.cadenceAt = s.now then s else { s with cadence := s.cadence + 1, cadenceAt := s.now }

/-- The sources of the crosspoint place the blocks of the cycle (R153, R161, R210). -/
def State.playSources (s : State) : State :=
  let s := (s.med.flows.map (·.1)).foldl State.flowPlay s
  let s := ((s.med.sdi.map (·.1)).filter (fun l => s.rd o3540_SDI_IN_STATE l == SDI_IN_STATE.present)).foldl State.sdiFifo s
  s.rampCycle

/-- The moves of the cycle, with the mutes that the next tick of a domain brings. -/
def State.crosspointCycle (s : State) (missed : List Nat) : State :=
  let keep := s.aud.mutes
  let s := { s with aud := { s.aud with mutes := keep ++ (tdList.map s.comingMutes).flatten } }.crosspoint missed
  { s with aud := { s.aud with mutes := keep.filter (fun m => decide (s.now < m.up + 1000000)) } }

/-- A cadence cycle. -/
def State.cadenceCycle (s : State) (misses : List Miss) (touched : List WordTouch) : State :=
  let s := s.controlCycleEnd.countCycle.cycleBlocks
  let s := s.laneEffects.noteFirmwareClasses.gateDisables.flowActivation.playSources
  let (bad, s) := s.meetAll touched
  let late := misses.filter (fun m => m.kind == 10)
  let s := late.foldl (fun s _ => s.overdraft 10 0 (missSubsys 10)) s
  let s := (s.crosspointCycle (late.map (·.unit) ++ (bad.filter (fun w => s.classOf w.addr == 6)).map (·.item))).noteMeters
  ((s.heartbeatSend.mirrorWork applyMirror).ringDrain).traceCycle.streamsCycle

def execAudioCadenceCycle (t : Nat) (misses : List Miss) (touched : List WordTouch) (s : State) : Host.Outcome State Fault Refusal :=
  s.run t (fun s => s.cadenceCycle misses touched)

/-! The auditor's next word (R359, R362). -/

/-- What the owner of a critical word does when it is lost: the journal is read again, custody is given up, the configuration is rebuilt (R359). -/
def lostCritical (k : Nat) (s : State) : State :=
  if k < 2 then s.readJournal else if k < 4 then s else if k < 8 then s.custodyLost else if k < 12 then s.rebuildConfig else s

def execAuditorWord (t : Nat) (sram : Bool) (word : WordTouch) (critical : List (Nat × List (Option Nat))) (s : State) : Host.Outcome State Fault Refusal :=
  s.run t (fun s => critical.foldl (fun s e => s.readCritical lostCritical e.1 e.2) (s.auditWord sram word))

end Sys2Proof.Machine
end

