-- ==== Sys2Proof/Machine/Dispatch.lean ====
section
/-! DEFINITION. Machine/Dispatch.lean: one arm per command, each one call of that command's meaning. -/

namespace Sys2Proof.Machine

open Sys2Proof

/-- What a command does to everything but the queue. -/
def exec (i : Instr) (s : State) : Host.Outcome State Fault Refusal :=
  match i with
  | .hello t port addr udp d => Sys2Proof.Machine.execHello t port addr udp d s
  | .login t port addr udp d => Sys2Proof.Machine.execLogin t port addr udp d s
  | .logout t port addr udp d => Sys2Proof.Machine.execLogout t port addr udp d s
  | .request t port addr udp d => Sys2Proof.Machine.execRequest t port addr udp d s
  | .describe t port obj row => Sys2Proof.Machine.execDescribe t port obj row s
  | .objectWrite t port obj row value => Sys2Proof.Machine.execObjectWrite t port obj row value s
  | .pathLatencyQuery t port obj => Sys2Proof.Machine.execPathLatencyQuery t port obj s
  | .challengeExpiry t port => Sys2Proof.Machine.execChallengeExpiry t port s
  | .sessionIdleTimeout t port => Sys2Proof.Machine.execSessionIdleTimeout t port s
  | .lockoutExpiry t port => Sys2Proof.Machine.execLockoutExpiry t port s
  | .addressChangeEffect t port => Sys2Proof.Machine.execAddressChangeEffect t port s
  | .sessionEndCmd t port target => Sys2Proof.Machine.execSessionEndCmd t port target s
  | .keyWrapped t port slot wrapped => Sys2Proof.Machine.execKeyWrapped t port slot wrapped s
  | .keyErase t port slot => Sys2Proof.Machine.execKeyErase t port slot s
  | .keyRolesWrite t port slot ports v => Sys2Proof.Machine.execKeyRolesWrite t port slot ports v s
  | .partitionApply t port => Sys2Proof.Machine.execPartitionApply t port s
  | .partitionDiscard t port => Sys2Proof.Machine.execPartitionDiscard t port s
  | .configSave t port => Sys2Proof.Machine.execConfigSave t port s
  | .configSaveComplete t ok => Sys2Proof.Machine.execConfigSaveComplete t ok s
  | .configRevert t port => Sys2Proof.Machine.execConfigRevert t port s
  | .configFactory t port => Sys2Proof.Machine.execConfigFactory t port s
  | .configImport t port => Sys2Proof.Machine.execConfigImport t port s
  | .configImportComplete t ok => Sys2Proof.Machine.execConfigImportComplete t ok s
  | .cfgXferOpen t port => Sys2Proof.Machine.execCfgXferOpen t port s
  | .cfgXferDiscard t port => Sys2Proof.Machine.execCfgXferDiscard t port s
  | .cfgXferData t port data => Sys2Proof.Machine.execCfgXferData t port data s
  | .loadOpen t port => Sys2Proof.Machine.execLoadOpen t port s
  | .loadClose t port => Sys2Proof.Machine.execLoadClose t port s
  | .loadFromFlash t port => Sys2Proof.Machine.execLoadFromFlash t port s
  | .loadDiscard t port => Sys2Proof.Machine.execLoadDiscard t port s
  | .xferData t port data => Sys2Proof.Machine.execXferData t port data s
  | .flashReadComplete t image => Sys2Proof.Machine.execFlashReadComplete t image s
  | .ledgerCheck t plan => Sys2Proof.Machine.execLedgerCheck t plan s
  | .swapArm t port => Sys2Proof.Machine.execSwapArm t port s
  | .swapDisarm t port => Sys2Proof.Machine.execSwapDisarm t port s
  | .domainChangeover t td => Sys2Proof.Machine.execDomainChangeover t td s
  | .frameTick t td content => Sys2Proof.Machine.execFrameTick t td content s
  | .ledgerCycleStart t td misses touched => Sys2Proof.Machine.execLedgerCycleStart t td misses touched s
  | .audioCadenceCycle t misses touched => Sys2Proof.Machine.execAudioCadenceCycle t misses touched s
  | .timeGridInstant t => Sys2Proof.Machine.execTimeGridInstant t s
  | .linePeriodStart t row line touched => Sys2Proof.Machine.execLinePeriodStart t row line touched s
  | .refUpdate t offsets => Sys2Proof.Machine.execRefUpdate t offsets s
  | .refLossOfSignal t cand => Sys2Proof.Machine.execRefLossOfSignal t cand s
  | .refSignalPresent t cand rate => Sys2Proof.Machine.execRefSignalPresent t cand rate s
  | .candEnable t port cand on => Sys2Proof.Machine.execCandEnable t port cand on s
  | .wtrClear t port cand => Sys2Proof.Machine.execWtrClear t port cand s
  | .phaseComparison t td phase freq => Sys2Proof.Machine.execPhaseComparison t td phase freq s
  | .dpllLock t td => Sys2Proof.Machine.execDpllLock t td s
  | .realignSlew t port td => Sys2Proof.Machine.execRealignSlew t port td s
  | .realignJump t port td => Sys2Proof.Machine.execRealignJump t port td s
  | .realignStop t port td => Sys2Proof.Machine.execRealignStop t port td s
  | .oscInLoss t => Sys2Proof.Machine.execOscInLoss t s
  | .oscInRestored t => Sys2Proof.Machine.execOscInRestored t s
  | .ptpAnnounce t p msg => Sys2Proof.Machine.execPtpAnnounce t p msg s
  | .ptpSync t lane msg => Sys2Proof.Machine.execPtpSync t lane msg s
  | .ptpFollowUp t p seq leader origin => Sys2Proof.Machine.execPtpFollowUp t p seq leader origin s
  | .ptpDelayResp t p seq leader rx => Sys2Proof.Machine.execPtpDelayResp t p seq leader rx s
  | .delayReqSend t p => Sys2Proof.Machine.execDelayReqSend t p s
  | .announceTimeout t p => Sys2Proof.Machine.execAnnounceTimeout t p s
  | .increment t port v => Sys2Proof.Machine.execIncrement t port v s
  | .timeAdjustNs t port v => Sys2Proof.Machine.execTimeAdjustNs t port v s
  | .timeSeconds t port => Sys2Proof.Machine.execTimeSeconds t port s
  | .ptqPop t port queue => Sys2Proof.Machine.execPtqPop t port queue s
  | .matchResult t port => Sys2Proof.Machine.execMatchResult t port s
  | .laneMode t port lane mode => Sys2Proof.Machine.execLaneMode t port lane mode s
  | .direction t port lane dir => Sys2Proof.Machine.execDirection t port lane dir s
  | .testMode t port lane v => Sys2Proof.Machine.execTestMode t port lane v s
  | .txFfeSource t port lane v => Sys2Proof.Machine.execTxFfeSource t port lane v s
  | .laneSignalDetect t lane => Sys2Proof.Machine.execLaneSignalDetect t lane s
  | .laneSignalLoss t lane => Sys2Proof.Machine.execLaneSignalLoss t lane s
  | .cdrLock t lane ppb div => Sys2Proof.Machine.execCdrLock t lane ppb div s
  | .sdiRateDwell t lane => Sys2Proof.Machine.execSdiRateDwell t lane s
  | .linkTrainingTimeout t lane => Sys2Proof.Machine.execLinkTrainingTimeout t lane s
  | .adaptationComplete t lane qs q dfe taps => Sys2Proof.Machine.execAdaptationComplete t lane qs q dfe taps s
  | .adaptationRetry t lane => Sys2Proof.Machine.execAdaptationRetry t lane s
  | .eyeQWindow t lane v h => Sys2Proof.Machine.execEyeQWindow t lane v h s
  | .ctleTrial t lane here up down => Sys2Proof.Machine.execCtleTrial t lane here up down s
  | .adaptReset t lane => Sys2Proof.Machine.execAdaptReset t lane s
  | .laneBlockRx t lane hdr => Sys2Proof.Machine.execLaneBlockRx t lane hdr s
  | .fecCodewordRx t lane corrected bad sync => Sys2Proof.Machine.execFecCodewordRx t lane corrected bad sync s
  | .hiBerEnter t lane => Sys2Proof.Machine.execHiBerEnter t lane s
  | .hiBerClear t lane => Sys2Proof.Machine.execHiBerClear t lane s
  | .sdiLineRx t lane line => Sys2Proof.Machine.execSdiLineRx t lane line s
  | .lockTimeout t lane => Sys2Proof.Machine.execLockTimeout t lane s
  | .prbsLockGained t lane => Sys2Proof.Machine.execPrbsLockGained t lane s
  | .prbsLockLost t lane bits errors => Sys2Proof.Machine.execPrbsLockLost t lane bits errors s
  | .laneFaultRx t lane on => Sys2Proof.Machine.execLaneFaultRx t lane on s
  | .laneTxFault t lane on => Sys2Proof.Machine.execLaneTxFault t lane on s
  | .ethFrameRx t lane f => Sys2Proof.Machine.execEthFrameRx t lane f s
  | .flowEnable t port row on => Sys2Proof.Machine.execFlowEnable t port row on s
  | .joinRepeat t row => Sys2Proof.Machine.execJoinRepeat t row s
  | .flowLossTimeout t row => Sys2Proof.Machine.execFlowLossTimeout t row s
  | .legTimeout t row second => Sys2Proof.Machine.execLegTimeout t row second s
  | .mergeDeadline t row => Sys2Proof.Machine.execMergeDeadline t row s
  | .lossHoldEnd t slot => Sys2Proof.Machine.execLossHoldEnd t slot s
  | .pacedRelease t row k ready stamp touched => Sys2Proof.Machine.execPacedRelease t row k ready stamp touched s
  | .txSelect t lane => Sys2Proof.Machine.execTxSelect t lane s
  | .egressEnqueue t lane cls queue len payload seq stamp => Sys2Proof.Machine.execEgressEnqueue t lane cls queue len payload seq stamp s
  | .gateEnabled t port lane on => Sys2Proof.Machine.execGateEnabled t port lane on s
  | .gateApply t port lane => Sys2Proof.Machine.execGateApply t port lane s
  | .gateCancel t port lane => Sys2Proof.Machine.execGateCancel t port lane s
  | .gateChangeTime t lane => Sys2Proof.Machine.execGateChangeTime t lane s
  | .gateEntryChange t lane => Sys2Proof.Machine.execGateEntryChange t lane s
  | .routeTake t port => Sys2Proof.Machine.execRouteTake t port s
  | .audTake t port => Sys2Proof.Machine.execAudTake t port s
  | .salvoLength t port salvo v => Sys2Proof.Machine.execSalvoLength t port salvo v s
  | .salvoEntry t port obj row v => Sys2Proof.Machine.execSalvoEntry t port obj row v s
  | .salvoTake t port salvo => Sys2Proof.Machine.execSalvoTake t port salvo s
  | .salvoClear t port salvo => Sys2Proof.Machine.execSalvoClear t port salvo s
  | .taskCreate t port => Sys2Proof.Machine.execTaskCreate t port s
  | .taskCancel t port => Sys2Proof.Machine.execTaskCancel t port s
  | .taskDispatch t cls => Sys2Proof.Machine.execTaskDispatch t cls s
  | .taskComplete t row => Sys2Proof.Machine.execTaskComplete t row s
  | .accessUnitHandover t ch au touched => Sys2Proof.Machine.execAccessUnitHandover t ch au touched s
  | .inputOverride t port ch v => Sys2Proof.Machine.execInputOverride t port ch v s
  | .rapRequest t port ch => Sys2Proof.Machine.execRapRequest t port ch s
  | .rcParameterWrite t port obj ch v => Sys2Proof.Machine.execRcParameterWrite t port obj ch v s
  | .commit t port c mask => Sys2Proof.Machine.execCommit t port c mask s
  | .commitDiscard t port c => Sys2Proof.Machine.execCommitDiscard t port c s
  | .groupCommit t port mask => Sys2Proof.Machine.execGroupCommit t port mask s
  | .plateBuildStart t group => Sys2Proof.Machine.execPlateBuildStart t group s
  | .plateBuildComplete t group => Sys2Proof.Machine.execPlateBuildComplete t group s
  | .surfCreate t port surf => Sys2Proof.Machine.execSurfCreate t port surf s
  | .surfOpen t port surf => Sys2Proof.Machine.execSurfOpen t port surf s
  | .surfClose t port surf => Sys2Proof.Machine.execSurfClose t port surf s
  | .surfCheckDone t surf units => Sys2Proof.Machine.execSurfCheckDone t surf units s
  | .surfRetire t port surf => Sys2Proof.Machine.execSurfRetire t port surf s
  | .surfForceRetire t port surf => Sys2Proof.Machine.execSurfForceRetire t port surf s
  | .surfXferData t port surf data => Sys2Proof.Machine.execSurfXferData t port surf data s
  | .sealExcusedLimit t c => Sys2Proof.Machine.execSealExcusedLimit t c s
  | .sealNotReadyLimit t c => Sys2Proof.Machine.execSealNotReadyLimit t c s
  | .headCommit t port head => Sys2Proof.Machine.execHeadCommit t port head s
  | .monFreezeLimit t row => Sys2Proof.Machine.execMonFreezeLimit t row s
  | .monBlackLimit t row => Sys2Proof.Machine.execMonBlackLimit t row s
  | .writeback t unit => Sys2Proof.Machine.execWriteback t unit s
  | .auditorWord t sram word critical => Sys2Proof.Machine.execAuditorWord t sram word critical s
  | .rowCopyStart t memory => Sys2Proof.Machine.execRowCopyStart t memory s
  | .rowCopyComplete t memory touched => Sys2Proof.Machine.execRowCopyComplete t memory touched s
  | .injectCmd t port => Sys2Proof.Machine.execInjectCmd t port s
  | .auditorMode t port mode => Sys2Proof.Machine.execAuditorMode t port mode s
  | .granuleReload t bank granule data => Sys2Proof.Machine.execGranuleReload t bank granule data s
  | .tallyClaim t port ch on => Sys2Proof.Machine.execTallyClaim t port ch on s
  | .feedData t port ch data => Sys2Proof.Machine.execFeedData t port ch data s
  | .tallyReset t port ch => Sys2Proof.Machine.execTallyReset t port ch s
  | .tallyClose t port ch => Sys2Proof.Machine.execTallyClose t port ch s
  | .tallyRun t port ch => Sys2Proof.Machine.execTallyRun t port ch s
  | .tallyRunComplete t ch stored => Sys2Proof.Machine.execTallyRunComplete t ch stored s
  | .rootProgram t port slot => Sys2Proof.Machine.execRootProgram t port slot s
  | .rootRevoke t port slot => Sys2Proof.Machine.execRootRevoke t port slot s
  | .fwSlotOpen t port slot => Sys2Proof.Machine.execFwSlotOpen t port slot s
  | .fwSlotClose t port slot => Sys2Proof.Machine.execFwSlotClose t port slot s
  | .fwCheckDone t slot => Sys2Proof.Machine.execFwCheckDone t slot s
  | .fwSlotActivate t port slot => Sys2Proof.Machine.execFwSlotActivate t port slot s
  | .fwXferData t port slot data => Sys2Proof.Machine.execFwXferData t port slot data s
  | .rollbackCommit t port => Sys2Proof.Machine.execRollbackCommit t port s
  | .policySet t port bits => Sys2Proof.Machine.execPolicySet t port bits s
  | .vkeyInstall t port purpose => Sys2Proof.Machine.execVkeyInstall t port purpose s
  | .attSign t port => Sys2Proof.Machine.execAttSign t port s
  | .attSignComplete t port => Sys2Proof.Machine.execAttSignComplete t port s
  | .journalWriteComplete t ok => Sys2Proof.Machine.execJournalWriteComplete t ok s
  | .ivardFrameRx t rx => Sys2Proof.Machine.execIvardFrameRx t rx s
  | .ivardTickRx t td fcnt peerTx => Sys2Proof.Machine.execIvardTickRx t td fcnt peerTx s
  | .ivardResendTimeout t channel => Sys2Proof.Machine.execIvardResendTimeout t channel s
  | .linkRttMeasure t rtt => Sys2Proof.Machine.execLinkRttMeasure t rtt s
  | .heartbeatRx t path d crcOk => Sys2Proof.Machine.execHeartbeatRx t path d crcOk s
  | .hbPathSilent t path => Sys2Proof.Machine.execHbPathSilent t path s
  | .pairEnable t port on => Sys2Proof.Machine.execPairEnable t port on s
  | .peerCustodyIn t high => Sys2Proof.Machine.execPeerCustodyIn t high s
  | .listenWaitEnd t => Sys2Proof.Machine.execListenWaitEnd t s
  | .leaseLapse t => Sys2Proof.Machine.execLeaseLapse t s
  | .custodyTakeover t => Sys2Proof.Machine.execCustodyTakeover t s
  | .custodyRelease t port => Sys2Proof.Machine.execCustodyRelease t port s
  | .custodyForceRelease t port => Sys2Proof.Machine.execCustodyForceRelease t port s
  | .handoverTick t => Sys2Proof.Machine.execHandoverTick t s
  | .aonPowerUp t mv => Sys2Proof.Machine.execAonPowerUp t mv s
  | .vinStart t mv => Sys2Proof.Machine.execVinStart t mv s
  | .vinWarning t mv => Sys2Proof.Machine.execVinWarning t mv s
  | .vinClear t mv low => Sys2Proof.Machine.execVinClear t mv low s
  | .vinReset t mv => Sys2Proof.Machine.execVinReset t mv s
  | .vinOvervoltage t mv => Sys2Proof.Machine.execVinOvervoltage t mv s
  | .vinHigh t mv => Sys2Proof.Machine.execVinHigh t mv s
  | .aonLockout t => Sys2Proof.Machine.execAonLockout t s
  | .orderlyStopComplete t => Sys2Proof.Machine.execOrderlyStopComplete t s
  | .domainRampDone t pd => Sys2Proof.Machine.execDomainRampDone t pd s
  | .domainFault t pd => Sys2Proof.Machine.execDomainFault t pd s
  | .pdRetry t port pd => Sys2Proof.Machine.execPdRetry t port pd s
  | .safeEnter t port => Sys2Proof.Machine.execSafeEnter t port s
  | .safeLeave t port => Sys2Proof.Machine.execSafeLeave t port s
  | .safeRestart t port => Sys2Proof.Machine.execSafeRestart t port s
  | .startupStageComplete t report => Sys2Proof.Machine.execStartupStageComplete t report s
  | .startRefWaitExpiry t => Sys2Proof.Machine.execStartRefWaitExpiry t s
  | .startLaneWaitExpiry t => Sys2Proof.Machine.execStartLaneWaitExpiry t s
  | .nrstIn t low => Sys2Proof.Machine.execNrstIn t low s
  | .watchdogTimeout t => Sys2Proof.Machine.execWatchdogTimeout t s
  | .recoveryRestart t => Sys2Proof.Machine.execRecoveryRestart t s
  | .caseTempSample t dc => Sys2Proof.Machine.execCaseTempSample t dc s
  | .alarmClearTimer t => Sys2Proof.Machine.execAlarmClearTimer t s
  | .alarmAck t port pt => Sys2Proof.Machine.execAlarmAck t port pt s
  | .ackAll t port => Sys2Proof.Machine.execAckAll t port s
  | .coalesceWindow t port alarm => Sys2Proof.Machine.execCoalesceWindow t port alarm s
  | .ringData t port => Sys2Proof.Machine.execRingData t port s
  | .vaultRearm t port => Sys2Proof.Machine.execVaultRearm t port s
  | .traceSample t ch => Sys2Proof.Machine.execTraceSample t ch s
  | .streamEnable t port row on => Sys2Proof.Machine.execStreamEnable t port row on s
  | .txEnable t port row on => Sys2Proof.Machine.execTxEnable t port row on s
  | .ptpLane t port p lane => Sys2Proof.Machine.execPtpLane t port p lane s
  | .sdiAutoTrsTimeout t lane => Sys2Proof.Machine.execSdiAutoTrsTimeout t lane s
  | .cpLinkChange t port up => Sys2Proof.Machine.execCpLinkChange t port up s
  | .tapInstruction t code drives trst => Sys2Proof.Machine.execTapInstruction t code drives trst s

end Sys2Proof.Machine
end

