-- ==== Sys2Proof/Machine/Flags.lean ====
section
/-! DEFINITION. Machine/Flags.lean: the levels of the module's output pins, which follow from its state (R427, R444, R488, R490). Without power, in reset and while the module waits for
the start level the pins are high-impedance and read as the carrier's pulls make them. -/

namespace Sys2Proof.Machine

open Sys2Proof

/-- A point of severity at or above ALERT_LEVEL is active (R444). -/
def State.alertDue (s : State) : Bool :=
  Alarm.all.any (fun a => s.alarmActive a && decide ((s.point a).severity ≤ s.rdN o1401_ALERT_LEVEL 0 + 1))

/-- The module has begun stage 0: it is powered, not in reset, and does not wait for the start level (R490). -/
def State.pinsLive (s : State) : Bool := s.powered && (s.rd o1401_DEVICE_STATE 0 != DEVICE_STATE.starting || s.pwr.starting)

/-- ALERT_OUT is asserted (R444). -/
def State.alertOut (s : State) : Bool := s.pinsLive && s.alertDue

/-- PWR_WARN_OUT is asserted (R444). -/
def State.warnPin (s : State) : Bool := s.pinsLive && s.pwr.warnOut

/-- SAFE_OUT reads high: it is low only while the device runs (R444). -/
def State.safePin (s : State) : Bool := !s.pinsLive || s.pwr.safeOut

/-- CUSTODY_OUT is high (R427). -/
def State.custodyPin (s : State) : Bool := s.pinsLive && s.isOn o1601_CUSTODY_HELD 0

/-- How the module drives an output (R490). -/
inductive Drive where
  /-- Undriven, or high-impedance with the pin's own pull. -/
  | undriven
  /-- Electrically idle: driven without swing. -/
  | idle
  /-- Driven with its signal. -/
  | driven
deriving DecidableEq, Repr

/-- TXP and TXN of a lane (R117, R132, R450, R490): a group that is off leaves them undriven. -/
def State.lanePins (s : State) (l : Nat) : Drive :=
  if !s.pinsLive then .undriven
  else if s.pdState (l / 8) = PD_STATE.hold then .idle
  else if s.pdOn (l / 8) then (if s.rd o3100_TX_STATE l = TX_STATE.running then .driven else .idle)
  else .undriven

/-- The transmitters of the control ports: idle until the end of stage 0 (R490). -/
def State.controlPins (s : State) : Drive :=
  if !s.pinsLive then .undriven else if s.pwr.starting && s.rd o1401_START_STAGE 0 == START_STAGE.aon then .idle else .driven

/-- HB_TXP and HB_TXN: heartbeats while the device runs paired (R432, R490). -/
def State.heartbeatPins (s : State) : Drive := if !s.pinsLive then .undriven else if s.mediaRuns && s.paired then .driven else .idle

/-- FP0-FP7 and the QSPI pins: from stage 0 on (R490). -/
def State.otherPins (s : State) : Drive := if s.pinsLive then .driven else .undriven

/-- TDO is driven in the Shift-IR and Shift-DR states alone (R490); `shift` says that the TAP controller is in one. -/
def State.tdoPin (s : State) (shift : Bool) : Drive := if s.pinsLive && shift then .driven else .undriven

/-- The TAP drives the pins: only with an instruction that does so, and only while NRST_IN is low; at any other time it behaves as SAMPLE (R488). -/
def State.tapDrives (s : State) : Bool := s.tap.drives && s.pwr.nrstLow

end Sys2Proof.Machine
end

