-- ==== Sys2Proof/Machine/Operands.lean ====
section
/-! DEFINITION. Machine/Operands.lean: the ranges of the operands of commands. -/

namespace Sys2Proof.Machine

open Sys2Proof

/-- A number below a limit: a row, a slot, a channel. -/
def below (n x : Nat) : Bool := decide (x < n)

/-- A field of a width. -/
def fits (n x : Nat) : Bool := decide (x < 2 ^ n)

/-- A control port: CP0 to CP3 and SVC (R378). -/
def isPort (x : Nat) : Bool := below 5 x

/-- A timing domain (R18). -/
def isTd (x : Nat) : Bool := below 4 x

/-- A lane (1001h.01). -/
def isLane (x : Nat) : Bool := below 192 x

/-- A lane, or FFFFh for none. -/
def laneOrNone (x : Nat) : Bool := isLane x || x == 65535

/-- A reference candidate (R63). -/
def isCand (x : Nat) : Bool := below 8 x

/-- A PTP port (R96). -/
def isPtpPort (x : Nat) : Bool := below 2 x

/-- A line of a raster: lines are numbered from 1. -/
def lineNo (x : Nat) : Bool := decide (1 ≤ x)

/-- A retransmitted channel of the Ivard link (R430). -/
def channelOk (x : Nat) : Bool := x == 1 || x == 2

/-- A heartbeat has 32 bytes (R432). -/
def isBeat (d : Bytes) : Bool := d.length == 32

/-- Kinds of overdrafts are numbered 1 to 11 (R58). -/
def missesOk (l : List Miss) : Bool := l.all (fun m => decide (1 ≤ m.kind ∧ m.kind ≤ 11))

/-- A memory word: the bits of an error lie within its data, 256 bits, and its check bits, 32 (R355). -/
def wordOk (w : WordTouch) : Bool := fits 256 w.data && fits 32 w.check

/-- Words that a reader meets. -/
def wordsOk (l : List WordTouch) : Bool := l.all wordOk

end Sys2Proof.Machine
end

