-- ==== Sys2Proof/WellFormed.lean ====
section
/-! DEFINITION. WellFormed.lean: the operands that a command can carry: numbers of ports, domains, lanes, candidates, rows and slots within their tables, fields within their
widths. A meaning does not rely on it: every command has a next state. -/

namespace Sys2Proof

open Machine

/-- The operands of a command lie within the tables and the widths that the manual gives them. -/
def Instr.wellFormed : Instr → Bool
  | .hello _ port addr udp _ => isPort port && fits 128 addr && fits 16 udp
  | .login _ port addr udp _ => isPort port && fits 128 addr && fits 16 udp
  | .logout _ port addr udp _ => isPort port && fits 128 addr && fits 16 udp
  | .request _ port addr udp _ => isPort port && fits 128 addr && fits 16 udp
  | .describe _ port obj row => isPort port && fits 24 obj && fits 32 row
  | .objectWrite _ port obj row _ => isPort port && fits 24 obj && fits 32 row
  | .pathLatencyQuery _ port obj => isPort port && fits 24 obj
  | .challengeExpiry _ port => isPort port
  | .sessionIdleTimeout _ port => isPort port
  | .lockoutExpiry _ port => isPort port
  | .addressChangeEffect _ port => isPort port
  | .sessionEndCmd _ port target => isPort port && isPort target
  | .keyWrapped _ port slot _ => isPort port && below 8 slot
  | .keyErase _ port slot => isPort port && below 8 slot
  | .keyRolesWrite _ port slot _ _ => isPort port && below 8 slot
  | .partitionApply _ port => isPort port
  | .partitionDiscard _ port => isPort port
  | .configSave _ port => isPort port
  | .configSaveComplete _ _ => true
  | .configRevert _ port => isPort port
  | .configFactory _ port => isPort port
  | .configImport _ port => isPort port
  | .configImportComplete _ _ => true
  | .cfgXferOpen _ port => isPort port
  | .cfgXferDiscard _ port => isPort port
  | .cfgXferData _ port _ => isPort port
  | .loadOpen _ port => isPort port
  | .loadClose _ port => isPort port
  | .loadFromFlash _ port => isPort port
  | .loadDiscard _ port => isPort port
  | .xferData _ port _ => isPort port
  | .flashReadComplete _ _ => true
  | .ledgerCheck _ _ => true
  | .swapArm _ port => isPort port
  | .swapDisarm _ port => isPort port
  | .domainChangeover _ td => isTd td
  | .frameTick _ td _ => isTd td
  | .ledgerCycleStart _ td misses touched => isTd td && missesOk misses && wordsOk touched
  | .audioCadenceCycle _ misses touched => missesOk misses && wordsOk touched
  | .timeGridInstant _ => true
  | .linePeriodStart _ row line touched => below 4640 row && lineNo line && wordsOk touched
  | .refUpdate _ _ => true
  | .refLossOfSignal _ cand => below 12 cand
  | .refSignalPresent _ cand _ => below 12 cand
  | .candEnable _ port cand _ => isPort port && isCand cand
  | .wtrClear _ port cand => isPort port && isCand cand
  | .phaseComparison _ td _ _ => isTd td
  | .dpllLock _ td => isTd td
  | .realignSlew _ port td => isPort port && isTd td
  | .realignJump _ port td => isPort port && isTd td
  | .realignStop _ port td => isPort port && isTd td
  | .oscInLoss _ => true
  | .oscInRestored _ => true
  | .ptpAnnounce _ p _ => isPtpPort p
  | .ptpSync _ lane _ => isLane lane
  | .ptpFollowUp _ p seq _ _ => isPtpPort p && fits 16 seq
  | .ptpDelayResp _ p seq _ _ => isPtpPort p && fits 16 seq
  | .delayReqSend _ p => isPtpPort p
  | .announceTimeout _ p => isPtpPort p
  | .increment _ port _ => isPort port
  | .timeAdjustNs _ port _ => isPort port
  | .timeSeconds _ port => isPort port
  | .ptqPop _ port queue => isPort port && below 4 queue
  | .matchResult _ port => isPort port
  | .laneMode _ port lane _ => isPort port && isLane lane
  | .direction _ port lane _ => isPort port && isLane lane
  | .testMode _ port lane _ => isPort port && isLane lane
  | .txFfeSource _ port lane _ => isPort port && isLane lane
  | .laneSignalDetect _ lane => isLane lane
  | .laneSignalLoss _ lane => isLane lane
  | .cdrLock _ lane _ _ => isLane lane
  | .sdiRateDwell _ lane => isLane lane
  | .linkTrainingTimeout _ lane => isLane lane
  | .adaptationComplete _ lane _ _ _ _ => isLane lane
  | .adaptationRetry _ lane => isLane lane
  | .eyeQWindow _ lane _ _ => isLane lane
  | .ctleTrial _ lane _ _ _ => isLane lane
  | .adaptReset _ lane => isLane lane
  | .laneBlockRx _ lane hdr => isLane lane && below 4 hdr
  | .fecCodewordRx _ lane _ _ _ => isLane lane
  | .hiBerEnter _ lane => isLane lane
  | .hiBerClear _ lane => isLane lane
  | .sdiLineRx _ lane _ => isLane lane
  | .lockTimeout _ lane => isLane lane
  | .prbsLockGained _ lane => isLane lane
  | .prbsLockLost _ lane _ _ => isLane lane
  | .laneFaultRx _ lane _ => isLane lane
  | .laneTxFault _ lane _ => isLane lane
  | .ethFrameRx _ lane _ => isLane lane
  | .flowEnable _ port row _ => isPort port && below 16384 row
  | .joinRepeat _ row => below 16384 row
  | .flowLossTimeout _ row => below 16384 row
  | .legTimeout _ row _ => below 16384 row
  | .mergeDeadline _ row => below 16384 row
  | .lossHoldEnd _ slot => below 4096 slot
  | .pacedRelease _ row _ _ _ touched => below 8192 row && wordsOk touched
  | .txSelect _ lane => isLane lane
  | .egressEnqueue _ lane cls _ _ _ _ stamp => isLane lane && below 7 cls && below 3 stamp
  | .gateEnabled _ port lane _ => isPort port && isLane lane
  | .gateApply _ port lane => isPort port && isLane lane
  | .gateCancel _ port lane => isPort port && isLane lane
  | .gateChangeTime _ lane => isLane lane
  | .gateEntryChange _ lane => isLane lane
  | .routeTake _ port => isPort port
  | .audTake _ port => isPort port
  | .salvoLength _ port salvo _ => isPort port && below 32 salvo
  | .salvoEntry _ port obj row _ => isPort port && fits 24 obj && fits 32 row
  | .salvoTake _ port salvo => isPort port && below 32 salvo
  | .salvoClear _ port salvo => isPort port && below 32 salvo
  | .taskCreate _ port => isPort port
  | .taskCancel _ port => isPort port
  | .taskDispatch _ cls => below 5 cls
  | .taskComplete _ row => below 4096 row
  | .accessUnitHandover _ ch _ touched => below 16 ch && wordsOk touched
  | .inputOverride _ port ch _ => isPort port && below 16 ch
  | .rapRequest _ port ch => isPort port && below 16 ch
  | .rcParameterWrite _ port obj ch _ => isPort port && fits 24 obj && below 16 ch
  | .commit _ port c mask => isPort port && below 32 c && fits 8 mask
  | .commitDiscard _ port c => isPort port && below 32 c
  | .groupCommit _ port mask => isPort port && fits 32 mask
  | .plateBuildStart _ group => below 8 group
  | .plateBuildComplete _ group => below 8 group
  | .surfCreate _ port surf => isPort port && below 16384 surf
  | .surfOpen _ port surf => isPort port && below 16384 surf
  | .surfClose _ port surf => isPort port && below 16384 surf
  | .surfCheckDone _ surf _ => below 16384 surf
  | .surfRetire _ port surf => isPort port && below 16384 surf
  | .surfForceRetire _ port surf => isPort port && below 16384 surf
  | .surfXferData _ port surf _ => isPort port && below 16384 surf
  | .sealExcusedLimit _ c => below 32 c
  | .sealNotReadyLimit _ c => below 32 c
  | .headCommit _ port head => isPort port && below 4 head
  | .monFreezeLimit _ row => below 4640 row
  | .monBlackLimit _ row => below 4640 row
  | .writeback _ _ => true
  | .auditorWord _ _ word _ => wordOk word
  | .rowCopyStart _ memory => below 7 memory
  | .rowCopyComplete _ memory touched => below 7 memory && wordsOk touched
  | .injectCmd _ port => isPort port
  | .auditorMode _ port _ => isPort port
  | .granuleReload _ bank _ _ => below 2 bank
  | .tallyClaim _ port ch _ => isPort port && below 32 ch
  | .feedData _ port ch _ => isPort port && below 32 ch
  | .tallyReset _ port ch => isPort port && below 32 ch
  | .tallyClose _ port ch => isPort port && below 32 ch
  | .tallyRun _ port ch => isPort port && below 32 ch
  | .tallyRunComplete _ ch _ => below 32 ch
  | .rootProgram _ port slot => isPort port && below 4 slot
  | .rootRevoke _ port slot => isPort port && below 4 slot
  | .fwSlotOpen _ port slot => isPort port && below 2 slot
  | .fwSlotClose _ port slot => isPort port && below 2 slot
  | .fwCheckDone _ slot => below 2 slot
  | .fwSlotActivate _ port slot => isPort port && below 2 slot
  | .fwXferData _ port slot _ => isPort port && below 2 slot
  | .rollbackCommit _ port => isPort port
  | .policySet _ port bits => isPort port && fits 8 bits
  | .vkeyInstall _ port purpose => isPort port && below 2 purpose
  | .attSign _ port => isPort port
  | .attSignComplete _ port => isPort port
  | .journalWriteComplete _ _ => true
  | .ivardFrameRx _ _ => true
  | .ivardTickRx _ td fcnt _ => isTd td && fits 48 fcnt
  | .ivardResendTimeout _ channel => channelOk channel
  | .linkRttMeasure _ _ => true
  | .heartbeatRx _ path d _ => below 2 path && isBeat d
  | .hbPathSilent _ path => below 2 path
  | .pairEnable _ port _ => isPort port
  | .peerCustodyIn _ _ => true
  | .listenWaitEnd _ => true
  | .leaseLapse _ => true
  | .custodyTakeover _ => true
  | .custodyRelease _ port => isPort port
  | .custodyForceRelease _ port => isPort port
  | .handoverTick _ => true
  | .aonPowerUp _ _ => true
  | .vinStart _ _ => true
  | .vinWarning _ _ => true
  | .vinClear _ _ _ => true
  | .vinReset _ _ => true
  | .vinOvervoltage _ _ => true
  | .vinHigh _ _ => true
  | .aonLockout _ => true
  | .orderlyStopComplete _ => true
  | .domainRampDone _ pd => below 97 pd
  | .domainFault _ pd => below 97 pd
  | .pdRetry _ port pd => isPort port && below 97 pd
  | .safeEnter _ port => isPort port
  | .safeLeave _ port => isPort port
  | .safeRestart _ port => isPort port
  | .startupStageComplete _ _ => true
  | .startRefWaitExpiry _ => true
  | .startLaneWaitExpiry _ => true
  | .nrstIn _ _ => true
  | .watchdogTimeout _ => true
  | .recoveryRestart _ => true
  | .caseTempSample _ _ => true
  | .alarmClearTimer _ => true
  | .alarmAck _ port pt => isPort port && below 2048 pt
  | .ackAll _ port => isPort port
  | .coalesceWindow _ port alarm => isPort port && below 2048 alarm
  | .ringData _ port => isPort port
  | .vaultRearm _ port => isPort port
  | .traceSample _ ch => below 16 ch
  | .streamEnable _ port row _ => isPort port && below 5 row
  | .txEnable _ port row _ => isPort port && below 8192 row
  | .ptpLane _ port p lane => isPort port && isPtpPort p && laneOrNone lane
  | .sdiAutoTrsTimeout _ lane => isLane lane
  | .cpLinkChange _ port _ => isPort port
  | .tapInstruction _ _ _ _ => true

end Sys2Proof
end

