-- ==== Sys2Proof/Safety.lean ====
section
/-! DEFINITION. Safety.lean: what a sound state is, in the terms that the claims use. -/

namespace Sys2Proof.Machine

open Sys2Proof

/-- The frame store stands in its one canonical form, and no order of a command that has ended is left over. -/
def State.sound (s : State) : Bool := memWf s.mem && s.orders.isEmpty

/-- Every command that waits carries operands that the manual allows. -/
def State.queueOk (s : State) : Bool := s.pending.all Instr.wellFormed

/-- A step neither stops nor refuses. -/
def goesOn (s : State) : Bool :=
  match step s with
  | .next _ => true
  | .fault _ => false
  | .refused _ => false

/-! Premises of the claims about commands, on the state and the operands alone. `s` is the state at the command's instant. -/

/-- A message without a session reaches its handling (R379, R380): the port answers, SESSION_ID is 0, the second's 100 are not used up, VERSION and LENGTH are right, the type is `type`. -/
def State.hears (s : State) (port type : Nat) (d : Bytes) : Bool :=
  s.talks port && fieldNat 4 4 d == 0 && (s.admitPlain port).1 && fieldNat 0 1 d == 1 && plainLengthOk d && fieldNat 1 1 d == type

/-- A message of the port's session reaches its handling (R380, R390, R391): the port answers, the message is well formed and authentic, and it is the next in sequence. -/
def State.nextInSession (s : State) (port addr udp : Nat) (d : Bytes) (x : Session) : Bool :=
  s.talks port && fieldNat 0 1 d == 1 && macLengthOk d && s.authentic port addr udp d == some x && fieldNat 8 4 d == x.lastSeq + 1

/-- The session of a port may do a write: it passes the checks of R387, the device serves the object in its state, no dip and no standby refuses it, and no session's end waits
for a response. -/
def State.admits (s : State) (port o r : Nat) (v : Val) : Bool :=
  s.checkWrite (s.ctxOf port) o r (some v) == stOK && s.served o true && !s.dipBusy o && !(s.isStandby && decide (port < 5) && !ownSide o) && s.ctl.endAfter.isEmpty

/-- The session of a port may do a read: it passes the checks of R387. -/
def State.mayRead (s : State) (port o r : Nat) : Bool := s.checkRead (s.ctxOf port) o r == stOK

/-- Objects that every accepted write may touch beside its own: the running configuration becomes dirty (R402), and an active module of a pair counts the write that it passes
to its standby (R435). -/
def writeSideObjects : List Nat := [o1200_RUNNING_DIRTY, o1601_MIRROR_SEQ_SENT]

/-- The frame over objects: every row of every object not listed reads in `u` as in `s`. -/
def State.keepsRegs (s u : State) (l : List (Nat × Nat)) : Prop :=
  (∀ o r, (o, r) ∉ l → o ∉ writeSideObjects → u.rd o r = s.rd o r) ∧ ∀ o r, (o, r) ∉ l → u.rdOct o r = s.rdOct o r

/-- All that the block holds beside its objects, its control ports, its logs, the link to its peer and its answers: what a frame says of the rest. -/
def State.works (s : State) :=
  ((s.led, s.cands, s.tds, s.cadence, s.cadenceAt, s.ptp, s.pwr), (s.lanes, s.med, s.aud, s.fab, s.tlr, s.eg), (s.enc, s.cmp, s.ras, s.itg, s.sec, s.tap, s.mem))

/-- The instance of an alarm is active. -/
def State.stands (s : State) (a : Alarm) (inst : Nat) : Prop := ∃ v, (inst, v) ∈ (s.point a).active

end Sys2Proof.Machine
end

