-- ==== Sys2Proof/Certificates/Slice0/Obligations.lean ====
section
/-! DEFINITION. Certificates/Slice0/Obligations.lean: the statements for the provers, chapter by chapter. -/

section

open Sys2Proof Sys2Proof.Machine

/-- A step takes the command at the front of the queue and runs it with the queue's rest; with nothing waiting the state stays (log entry 1: the model's choice). -/
def Obligations.StepTakesTheFront : Prop :=
  (∀ (c : Instr) (rest : List Instr) (s : State), step { s with pending := c :: rest } = exec c { s with pending := rest }) ∧
  ∀ s : State, s.pending = [] → step s = .next s

/-- Every command, in every state, has a next state: the queue is as it was, time has not gone back, the frame store keeps its canonical form. -/
def Obligations.EveryCommandGoesOn : Prop :=
  ∀ (c : Instr) (s : State), ∃ u, exec c s = .next u ∧ u.pending = s.pending ∧ s.now ≤ u.now ∧ u.orders = [] ∧ (memWf s.mem = true → memWf u.mem = true)

/-- A step keeps a sound state sound. -/
def Obligations.SoundStaysSound : Prop :=
  ∀ (s u : State), s.sound = true → step s = .next u → u.sound = true

/-- The state after reset is sound, nothing waits, no lane, buffer, task or session is there, and the module is not yet started. -/
def Obligations.ResetIsSound : Prop :=
  State.reset.sound = true ∧ State.reset.pending = [] ∧ State.reset.mem = [] ∧ State.reset.out = [] ∧ State.reset.regs = [] ∧ State.reset.octs = []

/-- Time in a domain (R24, R29, R30, R83, R209): the full cycles of 125 us and the short cycle, truncated to whole ns, fill the frame period of every rate; a domain at 9/16 of a stack
may plan 61,871 grains in a full cycle and 28,377 in the short one of the example. A frame tick advances FCNT of its domain alone and begins cycle 0; a ledger cycle start takes the next
cycle of the frame, or cycle 0 at the tick; a cadence cycle that does not begin where the count already stands counts one. -/
def Obligations.TicksCountFramesAndCycles : Prop :=
  (∀ r, isRate r = true → 375000 * fullCycles r + 3 * shortCycle r ≤ period3 r ∧ period3 r < 375000 * fullCycles r + 3 * shortCycle r + 3) ∧
  hbmCap 125000 9 = 61871 ∧ hbmCap (58333 - 1000) 9 = 28377 ∧
  ∀ (s : State) (t d : Nat) (misses : List Miss) (touched : List WordTouch) (content : FrameContent), s.powered = true → s.pair.inbox = [] →
    (d < 4 → ∃ u, exec (.frameTick t d content) s = .next u ∧ u.fcnt d = (s.fcnt d + 1) % 2 ^ 48 ∧ (∀ d', d' ≠ d → u.fcnt d' = s.fcnt d') ∧ (u.td d).tickAt = max s.now t ∧
      (u.td d).cycle = 0) ∧
    (d < 4 → ∃ u, exec (.ledgerCycleStart t d misses touched) s = .next u ∧ (∀ d', u.fcnt d' = s.fcnt d') ∧
      (u.td d).cycle = if max s.now t = (s.td d).tickAt then 0 else min ((s.td d).cycle + 1) (frameCycles (s.td d).rate - 1)) ∧
    (s.cadenceAt ≠ max s.now t → ∃ u, exec (.audioCadenceCycle t misses touched) s = .next u ∧ u.cadence = s.cadence + 1 ∧ u.cadenceAt = max s.now t ∧
      ∀ d', u.fcnt d' = s.fcnt d')

/-- The book-keeping of loads (R42, R43): with a load target and no load running, 'open' and 'from flash' put it in 'loading', empty; 'close' sends a transfer to its check; 'discard'
empties the loading bank; the end of a read from flash sends the bank to its check by itself. The end of a check (R32, R36, R39, R42): with CHECK_RESULT 0001h the bank is 'ready', with the image's domains and plan, and is the one that reached 'ready' last; with any other it is
'rejected'. An image shorter than 4,096 bytes fails with 0101h; a wrong check word of an unsigned image that fails nothing before it fails with 0201h. -/
def Obligations.LoadsAreChecked : Prop :=
  (∀ (s : State) (t port b : Nat), s.powered = true →
      (∀ v, s.loadTarget = some b → s.loadRuns = false → s.admits port o2002_LOAD_CMD 0 (.int v) = true →
        (v = LOAD_CMD.open → ∃ u, exec (.loadOpen t port) s = .next u ∧ u.last = ⟨0, none⟩ ∧ u.bankState b = BANK_STATE.loading ∧ u.bank b = {} ∧ u.rd o2002_XFER_OFFSET 0 = 0) ∧
        (v = LOAD_CMD.from_flash → ∃ u, exec (.loadFromFlash t port) s = .next u ∧ u.last = ⟨0, none⟩ ∧ u.bankState b = BANK_STATE.loading ∧
          u.bank b = { fromFlash := some (s.rdN o2002_FLASH_IMAGE 0) })) ∧
      (s.loadingBank = some b → s.admits port o2002_LOAD_CMD 0 (.int LOAD_CMD.close) = true → (s.bank b).fromFlash = none →
        ∃ u, exec (.loadClose t port) s = .next u ∧ u.last = ⟨0, none⟩ ∧ u.bankState b = BANK_STATE.checking ∧ (u.bank b).raw = (s.bank b).raw) ∧
      (s.loadingBank = some b → s.admits port o2002_LOAD_CMD 0 (.int LOAD_CMD.discard) = true →
        ∃ u, exec (.loadDiscard t port) s = .next u ∧ u.last = ⟨0, none⟩ ∧ u.bankState b = BANK_STATE.empty ∧ u.bank b = {} ∧ u.rd o2001_IMAGE_ID b = 0) ∧
      ∀ image k, s.loadingBank = some b → (s.bank b).fromFlash = some k →
        ∃ u, exec (.flashReadComplete t image) s = .next u ∧ u.bankState b = BANK_STATE.checking ∧ (u.bank b).raw = image) ∧
  (∀ (s : State) (t b : Nat) (plan : Plan), s.powered = true → bankList.find? (fun x => s.bankState x == BANK_STATE.checking) = some b →
      ∃ u, exec (.ledgerCheck t plan) s = .next u ∧
        (u.rd o2001_CHECK_RESULT b = 1 ∧ u.bankState b = BANK_STATE.ready ∧ (u.bank b).plan = plan ∧ (u.bank b).descs = domDescs (s.bank b).raw ∧ u.led.lastReady = some b ∨
         u.rd o2001_CHECK_RESULT b ≠ 1 ∧ u.bankState b = BANK_STATE.rejected ∧ u.bank b = s.bank b) ∧
        (hdrLength (s.bank b).raw < 4096 → u.rd o2001_CHECK_RESULT b = 0x0101) ∧
        (∀ len, (s.bank b).raw.length = len → hdrLength (s.bank b).raw = len → 4096 ≤ len → len ≤ 50331648 → hdrSigned (s.bank b).raw = false → hdrSigLen (s.bank b).raw = 0 →
          slice 0 4 (s.bank b).raw = ascii "SQLG" → fieldNat 4 2 (s.bank b).raw = 3 → fieldNat 6 2 (s.bank b).raw = 256 → slice 24 4 (s.bank b).raw = ascii "B1" ++ [0#8, 0#8] →
          hdrMinFw (s.bank b).raw ≤ s.rdN o1000_FW_RELEASE_NUM 0 → fieldNat (len - 4) 4 (s.bank b).raw ≠ checkWord (s.bank b).raw len → u.rd o2001_CHECK_RESULT b = 0x0201))

/-- The place of an image and its signature (R62): 'open' sets XFER_OFFSET to 0; XFER_DATA writes at XFER_OFFSET, which advances, up to offset 50,334,611, the last byte of the largest
image followed by the largest signature, and is refused with RANGE beyond it, XFER_OFFSET unchanged; a check of bytes that do not match IMAGE_LENGTH plus SIGNATURE_LENGTH, or of an
IMAGE_LENGTH outside the range, gives 0101h; a signed image that passes has its 2,964 bytes of signature from offset IMAGE_LENGTH on. -/
def Obligations.XferDataStaysInRange : Prop :=
  imageMax = 50331648 ∧ hssSigLen = 2964 ∧
  ∀ (s : State) (t port b : Nat), s.powered = true →
    (s.loadTarget = some b → s.loadRuns = false → s.admits port o2002_LOAD_CMD 0 (.int LOAD_CMD.open) = true →
      ∃ u, exec (.loadOpen t port) s = .next u ∧ u.rd o2002_XFER_OFFSET 0 = 0 ∧ u.loadingBank = some b ∧ (u.bank b).raw = []) ∧
    (∀ data, s.admits port o2002_XFER_DATA 0 (.bytes data) = true → s.loadingBank = some b → (s.bank b).fromFlash = none →
      let o := s.rdN o2002_XFER_OFFSET 0
      (o + data.length ≤ 50334612 → ∃ u, exec (.xferData t port data) s = .next u ∧ u.last = ⟨0, none⟩ ∧ (u.bank b).raw = overwrite o data (s.bank b).raw ∧
        u.rdN o2002_XFER_OFFSET 0 = o + data.length) ∧
      (50334612 < o + data.length → ∃ u, exec (.xferData t port data) s = .next u ∧ u.last = ⟨3, none⟩ ∧ u.bank b = s.bank b ∧ u.rdN o2002_XFER_OFFSET 0 = o)) ∧
    ∀ plan, bankList.find? (fun x => s.bankState x == BANK_STATE.checking) = some b →
      let raw := (s.bank b).raw
      ∃ u, exec (.ledgerCheck t plan) s = .next u ∧
        (raw.length ≠ hdrLength raw + hdrSigLen raw ∨ hdrLength raw < 4096 ∨ imageMax < hdrLength raw → u.rd o2001_CHECK_RESULT b = 0x0101) ∧
        (u.rd o2001_CHECK_RESULT b = 1 → hdrSigned raw = true → raw.length = hdrLength raw + 2964 ∧
          ∃ k, (s.bank b).vkey = some k ∧ hssVerify k (raw.drop (hdrLength raw)) (raw.take (hdrLength raw)) = true)

/-- SWAP_CMD (R46-R49): an arm that no refusal meets puts the bank in 'armed' with its kind and its anchor, and one without a bank to take is refused with BUSY; a disarm before the first
changeover tick returns the bank to 'ready', as the one that reached it last, and one from that tick on is refused with 0A05h. In every case the banks that serve the domains stay. The changeover tick of a domain (R42, R47, R61): with its changeover due, the incoming bank serves the domain when it uses it, and no bank does otherwise; LAST_CHANGEOVER_FCNT
of the domain is the FCNT of that tick. -/
def Obligations.SwapsLeadToChangeovers : Prop :=
  (∀ (s : State) (t port b f : Nat), s.powered = true →
      (s.admits port o2003_SWAP_CMD 0 (.int SWAP_CMD.arm) = true → s.led.swap = none → s.armTarget = some b →
        (s.swapKind b = LAST_SWAP_KIND.dark → s.isOn o2003_ALLOW_DARK 0 = true) → s.laneModesMatch (s.bank b).plan = true →
        (∀ d ∈ (s.bank b).plan.power, s.pdState d ≠ PD_STATE.locked_off) → (s.begin t).anchorFcnt (some b) s.activeBank = some f →
        acyclic 4 ((s.swapDomains (some b) s.activeBank).map (fun d => (d, s.swapWaits (some b) s.activeBank (s.swapDomains (some b) s.activeBank) d))) = true →
        ∃ u w, exec (.swapArm t port) s = .next u ∧ u.last = ⟨0, none⟩ ∧ u.bankState b = BANK_STATE.armed ∧ u.rd o2000_SWAP_STATE 0 = SWAP_STATE.armed ∧ u.led.swap = some w ∧
          w.incoming = b ∧ w.kind = s.swapKind b ∧ w.anchorTd = s.rdN o2003_ANCHOR_TD 0 ∧ w.anchorFcnt = f ∧ w.done = [] ∧ u.led.serving = s.led.serving) ∧
      (s.admits port o2003_SWAP_CMD 0 (.int SWAP_CMD.arm) = true → s.led.swap = none → s.armTarget = none →
        ∃ u, exec (.swapArm t port) s = .next u ∧ u.last = ⟨1, none⟩ ∧ u.rd o2000_SWAP_ERROR 0 = 1 ∧ u.led = s.led) ∧
      ∀ w, s.admits port o2003_SWAP_CMD 0 (.int SWAP_CMD.disarm) = true → s.led.swap = some w →
        (w.done = [] → (∀ d, d < 4 → (s.td d).changeDue = false) → ∃ u, exec (.swapDisarm t port) s = .next u ∧ u.last = ⟨0, none⟩ ∧
          u.bankState w.incoming = BANK_STATE.ready ∧ u.rd o2000_SWAP_STATE 0 = SWAP_STATE.idle ∧ u.led.swap = none ∧ u.led.lastReady = some w.incoming ∧
          u.led.serving = s.led.serving) ∧
        (w.done ≠ [] ∨ (∃ d, d < 4 ∧ (s.td d).changeDue = true) → ∃ u, exec (.swapDisarm t port) s = .next u ∧ u.last = ⟨0x0A05, none⟩ ∧ u.rd o2000_SWAP_ERROR 0 = 0x0A05 ∧ u.led = s.led)) ∧
  (∀ (s : State) (t d : Nat) (w : Swap), s.powered = true → d < 4 → s.led.swap = some w → (s.td d).changeDue = true →
      ∃ u, exec (.domainChangeover t d) s = .next u ∧ u.serving d = (if s.bankRate (some w.incoming) d = 0 then none else some w.incoming) ∧
        (∀ d', d' ≠ d → u.serving d' = s.serving d') ∧ u.rd (o2000_LAST_CHANGEOVER_FCNT_TD0 + d) 0 = s.fcnt d)

/-- An item of planned work that cannot complete in its planned place (R58) counts one overdraft against its kind, against the domain and against the subsystem that the table of R58
charges (an internal source's own, for a source buffer write). -/
def Obligations.MissesAreCountedThreeTimes : Prop :=
  ∀ (s : State) (d : Nat) (m : Miss), 1 ≤ m.kind → m.kind ≤ 11 →
    (s.takeMiss d m).rd o2006_OVERDRAFT_KIND_COUNT m.kind = (s.rd o2006_OVERDRAFT_KIND_COUNT m.kind + 1) % 2 ^ 64 ∧
    (s.takeMiss d m).rd o2005_OVERDRAFTS d = (s.rd o2005_OVERDRAFTS d + 1) % 2 ^ 64 ∧
    (s.takeMiss d m).rd o1003_OVERDRAFTS (chargeOf m) = (s.rd o1003_OVERDRAFTS (chargeOf m) + 1) % 2 ^ 64 ∧
    (∀ k, k ≠ m.kind → (s.takeMiss d m).rd o2006_OVERDRAFT_KIND_COUNT k = s.rd o2006_OVERDRAFT_KIND_COUNT k)

/-- The update of each second (R67, R74, R76) leaves the module consistent: QUALIFIED_COUNT counts the qualified candidates, ENSEMBLE_ACTIVE reads TRUE exactly when they are at least
three, and every domain has selected the candidate that R74 chooses among those eligible, none when none is. -/
def Obligations.ReferenceUpdateSelects : Prop :=
  ∀ (s : State) (t : Nat) (offsets : List (Nat × Int)), s.powered = true →
    ∃ u, exec (.refUpdate t offsets) s = .next u ∧ u.rd o2201_QUALIFIED_COUNT 0 = ((candList.filter u.qualified).length : Nat) ∧
      u.rd o2201_ENSEMBLE_ACTIVE 0 = boolVal (decide (3 ≤ (candList.filter u.qualified).length)) ∧
      ∀ d < 4, (∀ c, u.choice d = some c → u.selected d = c) ∧ (u.choice d = none → 8 ≤ u.selected d)

/-- A candidate's signal and its enable (R63, R70, R72, R108): loss takes a qualified candidate to 'restoring' with its wait at WTR_S and reason 'loss', a measuring one to 'absent'; a
signal takes an absent one to 'measuring' (PTP0 while the clock is 'following'); disabling takes any to 'disabled'; enabling takes a disabled one to 'measuring' or 'absent'. No domain keeps a
candidate that was lost while qualified, or disabled; no domain in which TWIN alone is lost keeps TWIN, whose state stays. WTR_CLEAR (R70) ends the wait of a candidate within limits: it is qualified, with no wait left and its REF_DISQUALIFIED cleared; a candidate that does not wait is left as it was. -/
def Obligations.CandidatesComeAndGo : Prop :=
  (∀ (s : State) (t port c : Nat), s.powered = true → c < 8 →
      (s.candState c = CAND_STATE.qualified → ∃ u, exec (.refLossOfSignal t c) s = .next u ∧ u.candState c = CAND_STATE.restoring ∧
        u.waitLeft c = s.rdN o2201_WTR_S 0 ∧ u.rd o2200_DISQUAL_REASON c = DISQUAL_REASON.loss ∧ (∀ d < 4, u.selected d ≠ c) ∧ u.stands .REF_LOSS c) ∧
      (s.candState c = CAND_STATE.measuring → ∃ u, exec (.refLossOfSignal t c) s = .next u ∧ u.candState c = CAND_STATE.absent ∧ (u.cand c).present = false) ∧
      (∀ rate, s.candState c = CAND_STATE.absent → (c = 4 → s.rd o2301_CLOCK_STATE 0 = CLOCK_STATE.following) → ∃ u, exec (.refSignalPresent t c rate) s = .next u ∧ u.candState c = CAND_STATE.measuring ∧ (u.cand c).present = true ∧
        (u.cand c).samples = [] ∧ (5 ≤ c → u.rd o2200_CAND_RATE c = rate) ∧ ¬ u.stands .REF_LOSS c) ∧
      (s.admits port o2200_CAND_ENABLE c (.int 0) = true → ∃ u, exec (.candEnable t port c false) s = .next u ∧ u.last = ⟨0, none⟩ ∧ u.candState c = CAND_STATE.disabled ∧
        u.rd o2200_CAND_ENABLE c = 0 ∧ u.rd o2200_DISQUAL_REASON c = DISQUAL_REASON.disabled ∧ ∀ d < 4, u.selected d ≠ c) ∧
      (s.admits port o2200_CAND_ENABLE c (.int 1) = true → s.candState c = CAND_STATE.disabled → ∃ u, exec (.candEnable t port c true) s = .next u ∧ u.last = ⟨0, none⟩ ∧
        u.rd o2200_CAND_ENABLE c = 1 ∧ u.candState c = if (s.cand c).present then CAND_STATE.measuring else CAND_STATE.absent) ∧
      ∀ d, d < 4 → (∃ u, exec (.refLossOfSignal t (8 + d)) s = .next u ∧ (u.td d).twinLost = true ∧ u.selected d ≠ 7 ∧ u.candState c = s.candState c) ∧
        ∃ u, exec (.refSignalPresent t (8 + d) 0) s = .next u ∧ (u.td d).twinLost = false ∧ u.candState c = s.candState c) ∧
  (∀ (s : State) (t port c : Nat), s.powered = true → s.admits port o2201_WTR_CLEAR 0 (.int c) = true →
      (s.candState c = CAND_STATE.restoring → s.withinLimits c = true → ∃ u, exec (.wtrClear t port c) s = .next u ∧ u.last = ⟨0, none⟩ ∧ u.qualified c = true ∧
        u.waitLeft c = 0 ∧ ¬ u.stands .REF_DISQUALIFIED c) ∧
      (s.candState c ≠ CAND_STATE.restoring → ∃ u, exec (.wtrClear t port c) s = .next u ∧ u.last = ⟨0, none⟩ ∧ s.keepsRegs u [] ∧ u.works = s.works))

/-- A phase comparison (R77, R79, R82): the control value of a loop that has acquired its reference or is acquiring it stays within the pull-in range; while its frequency slews to a new
reference it moves by no more than FREQ_SLEW_LIMIT allows; a step beyond PHASE_STEP_THRESHOLD_NS of a locked loop is built out, raises REF_PHASE_STEP and leaves the frequency. An acquiring loop that has stayed within its limits for 2 s is 'locked'; before that it still acquires (R77). REALIGN_CMD (R88-R90): 'slew' and 'jump' from 'idle' with a frame phase start; without a frame phase 'slew' is refused with 0B01h; 'stop' ends a slew where it stands, with
LAST_REALIGN_FCNT. No other object changes, and nothing of the rest of the machine but, for a jump, the domain's own plan of it. -/
def Obligations.LoopsCompareLockAndRealign : Prop :=
  (∀ (s : State) (t d : Nat) (phase freq : Int), s.powered = true → s.dpll d = DPLL_STATE.acquiring ∨ s.dpll d = DPLL_STATE.locked →
      ((s.td d).slewing = true → 0 ≤ s.rd o2100_FREQ_SLEW_LIMIT d → -12000000 ≤ s.rd o2100_CONTROL_VALUE d → s.rd o2100_CONTROL_VALUE d ≤ 12000000 →
        ∃ u, exec (.phaseComparison t d phase freq) s = .next u ∧ -12000000 ≤ u.rd o2100_CONTROL_VALUE d ∧ u.rd o2100_CONTROL_VALUE d ≤ 12000000 ∧
          ((u.rd o2100_CONTROL_VALUE d - s.rd o2100_CONTROL_VALUE d).natAbs : Int) ≤ s.rd o2100_FREQ_SLEW_LIMIT d * 1000 * (max s.now t - (s.td d).comparedAt : Nat) / 1000000000) ∧
      ((s.td d).slewing = false → ∃ u, exec (.phaseComparison t d phase freq) s = .next u ∧ -12000000 ≤ u.rd o2100_CONTROL_VALUE d ∧ u.rd o2100_CONTROL_VALUE d ≤ 12000000 ∧
        (u.td d).lastPhase = some phase ∧ (u.td d).comparedAt = max s.now t ∧
        ∀ p, (s.td d).lastPhase = some p → s.dpll d = DPLL_STATE.locked → ¬ s.stands .REF_PHASE_STEP d → s.rd o2100_PHASE_STEP_THRESHOLD_NS d < ((phase - p).natAbs : Nat) →
          (u.td d).buildOut = (s.td d).buildOut + (phase - p) ∧ (u.point .REF_PHASE_STEP).latched = true ∧
          (-12000000 ≤ s.rd o2100_CONTROL_VALUE d → s.rd o2100_CONTROL_VALUE d ≤ 12000000 → u.rd o2100_CONTROL_VALUE d = s.rd o2100_CONTROL_VALUE d))) ∧
  (∀ (s : State) (t d g : Nat), s.powered = true → s.dpll d = DPLL_STATE.acquiring → (s.td d).goodSince = some g →
      (g + 2000000000 ≤ max s.now t → ∃ u, exec (.dpllLock t d) s = .next u ∧ u.dpll d = DPLL_STATE.locked) ∧
      (max s.now t < g + 2000000000 → ∃ u, exec (.dpllLock t d) s = .next u ∧ u.dpll d = DPLL_STATE.acquiring)) ∧
  (∀ (s : State) (t port d : Nat), s.powered = true →
      (s.admits port o2100_REALIGN_CMD d (.int REALIGN_CMD.slew) = true → s.rd o2100_REALIGN_STATE d = REALIGN_STATE.idle → s.phaseSource d = true →
        ∃ u, exec (.realignSlew t port d) s = .next u ∧ u.last = ⟨0, none⟩ ∧ u.rd o2100_REALIGN_STATE d = REALIGN_STATE.slewing ∧ s.keepsRegs u [(o2100_REALIGN_STATE, d)] ∧
          u.works = s.works) ∧
      (s.admits port o2100_REALIGN_CMD d (.int REALIGN_CMD.jump) = true → s.rd o2100_REALIGN_STATE d = REALIGN_STATE.idle → s.phaseSource d = true →
        ∃ u, exec (.realignJump t port d) s = .next u ∧ u.last = ⟨0, none⟩ ∧ u.rd o2100_REALIGN_STATE d = REALIGN_STATE.jump_pending ∧ (u.td d).jumpFrame = some (s.fcnt d + 1) ∧
          s.keepsRegs u [(o2100_REALIGN_STATE, d)] ∧ ∀ d', d' ≠ d → u.td d' = s.td d') ∧
      (s.admits port o2100_REALIGN_CMD d (.int REALIGN_CMD.slew) = true → s.rd o2100_REALIGN_STATE d = REALIGN_STATE.idle → s.phaseSource d = false →
        ∃ u, exec (.realignSlew t port d) s = .next u ∧ u.last = ⟨0x0B01, none⟩ ∧ u.rd o2100_REALIGN_RESULT d = 0x0B01 ∧ s.keepsRegs u [(o2100_REALIGN_RESULT, d)] ∧
          u.works = s.works) ∧
      (s.admits port o2100_REALIGN_CMD d (.int REALIGN_CMD.stop) = true → s.rd o2100_REALIGN_STATE d = REALIGN_STATE.slewing →
        ∃ u, exec (.realignStop t port d) s = .next u ∧ u.last = ⟨0, none⟩ ∧ u.rd o2100_REALIGN_STATE d = REALIGN_STATE.idle ∧ u.rd o2100_LAST_REALIGN_FCNT d = s.fcnt d ∧
          s.keepsRegs u [(o2100_REALIGN_STATE, d), (o2100_LAST_REALIGN_FCNT, d)] ∧ u.works = s.works))

/-- The time clock (R93-R95, R99): it advances by INCREMENT every 4 ns; a read of TIME_SECONDS latches TIME_NS and TIME_FRAC of the same instant; a step adds whole ns, leaves the
fraction and advances STEP_COUNT; INCREMENT and TIME_ADJUST_NS are refused with BUSY while the servo, as the last exchange took SERVO_OWNER, is the firmware's. -/
def Obligations.TimeClockRunsAndSteps : Prop :=
  ∀ (s : State) (t port : Nat) (v : Int), s.powered = true →
    let clk := (s.clk + (max s.now t / 4 - s.now / 4) * s.rdN o2301_INCREMENT 0) % clkModulus
    (s.mayRead port o2300_TIME_SECONDS 0 = true → ∃ u, exec (.timeSeconds t port) s = .next u ∧ u.last = ⟨0, some (.int (clk / clkPerSecond : Nat))⟩ ∧
      u.rd o2300_TIME_NS 0 = (clk % clkPerSecond / 4294967296 : Nat) ∧ u.rd o2300_TIME_FRAC 0 = (clk % 4294967296 : Nat) ∧ u.clk = clk) ∧
    (s.admits port o2301_INCREMENT 0 (.int v) = true →
      (s.ptp.owner = SERVO_OWNER.host → ∃ u, exec (.increment t port v) s = .next u ∧ u.last = ⟨0, none⟩ ∧ u.rd o2301_INCREMENT 0 = v ∧ u.clk = clk ∧
        s.keepsRegs u [(o2301_INCREMENT, 0)] ∧ u.works = s.works) ∧
      (s.ptp.owner = SERVO_OWNER.firmware → ∃ u, exec (.increment t port v) s = .next u ∧ u.last = ⟨1, none⟩ ∧ s.keepsRegs u [] ∧ u.works = s.works)) ∧
    (s.admits port o2301_TIME_ADJUST_NS 0 (.int v) = true →
      (s.ptp.owner = SERVO_OWNER.host → ∃ u, exec (.timeAdjustNs t port v) s = .next u ∧ u.last = ⟨0, none⟩ ∧
        (u.clk : Int) = (clk + v * 4294967296) % clkModulus ∧ u.clkFrac = clk % 4294967296 ∧ u.rd o2301_STEP_COUNT 0 = (s.rd o2301_STEP_COUNT 0 + 1) % 4294967296) ∧
      (s.ptp.owner = SERVO_OWNER.firmware → ∃ u, exec (.timeAdjustNs t port v) s = .next u ∧ u.last = ⟨1, none⟩ ∧ u.clk = clk))

/-- A stamp that arrives at a queue with room joins its end. One that arrives at a full queue is not kept: once the clock has advanced it is discarded and counted, the sticky PTQ_OVERFLOW is
set, and what is queued stays; a removal in the same advance takes effect first, so that it joins the queue (R104, R107). Reads of the timestamp queues (R104, R106): PTQ_POP of queue 2 or 3 answers and removes the oldest entry, 16 zero bytes (VALID 0) when there is none, and is refused for queues 0 and
1; MATCH_RESULT answers and removes the oldest entry of the lane and sequence asked for, and removes nothing when none matches. -/
def Obligations.TimestampQueuesAreRead : Prop :=
  (∀ (s : State) (q : Nat) (e : PtqEntry), storeGet q s.ptp.spill = none →
      ((s.ptq q).length < 16 → (s.pushStamp q e).1 = true ∧ (s.pushStamp q e).2.ptq q = s.ptq q ++ [e] ∧ (s.pushStamp q e).2.rd o2310_PTQ_FILL q = ((s.ptq q).length + 1 : Nat)) ∧
      (16 ≤ (s.ptq q).length → (s.pushStamp q e).1 = false ∧ (s.pushStamp q e).2.ptq q = s.ptq q ∧
        (∀ n, advances s.now < advances n → let u := ({ (s.pushStamp q e).2 with now := n }).settleSpill q
          u.ptq q = s.ptq q ∧ u.rd o2310_PTQ_OVERFLOW q = 1 ∧ u.rd o2310_PTQ_DISCARDS q = (s.rd o2310_PTQ_DISCARDS q + 1) % 4294967296) ∧
        ∀ x l, 2 ≤ q → s.ptq q = x :: l → ((s.pushStamp q e).2.popPtq q).2.2.ptq q = l ++ [e] ∧
          ((s.pushStamp q e).2.popPtq q).2.2.rd o2310_PTQ_DISCARDS q = s.rd o2310_PTQ_DISCARDS q)) ∧
  (∀ (s : State) (t port q : Nat), s.powered = true →
      (s.mayRead port o2310_PTQ_POP q = true → storeGet q s.ptp.spill = none →
        (q < 2 → ∃ u, exec (.ptqPop t port q) s = .next u ∧ u.last.status ≠ 0 ∧ u.last.value = none ∧ u.ptp = s.ptp) ∧
        (2 ≤ q → s.ptq q = [] → ∃ u, exec (.ptqPop t port q) s = .next u ∧ u.last = ⟨0, some (.bytes (zeros 16))⟩ ∧ u.ptp = s.ptp) ∧
        ∀ e l, 2 ≤ q → s.ptq q = e :: l → ∃ u, exec (.ptqPop t port q) s = .next u ∧ u.last = ⟨0, some (.bytes (ptqBytes e))⟩ ∧ u.ptq q = l ∧ u.rd o2310_PTQ_FILL q = l.length) ∧
      (s.mayRead port o2311_MATCH_RESULT 0 = true → storeGet (s.rdN o2311_MATCH_QUEUE 0) s.ptp.spill = none →
        let mine (e : PtqEntry) : Prop := e.lane = s.rdN o2311_MATCH_LANE 0 ∧ e.seq = s.rdN o2311_MATCH_SEQ 0
        ((∀ e ∈ s.ptq (s.rdN o2311_MATCH_QUEUE 0), ¬ mine e) →
          ∃ u, exec (.matchResult t port) s = .next u ∧ u.last = ⟨0, some (.bytes (zeros 16))⟩ ∧ u.ptp = s.ptp) ∧
        ∀ before e after, s.ptq (s.rdN o2311_MATCH_QUEUE 0) = before ++ e :: after → (∀ x ∈ before, ¬ mine x) → mine e →
          ∃ u, exec (.matchResult t port) s = .next u ∧ u.last = ⟨0, some (.bytes (ptqBytes e))⟩ ∧ u.ptq (s.rdN o2311_MATCH_QUEUE 0) = before ++ after))

/-- Leaders come and go (R97, R98, R100): the second Announce of a leader within 4 announce intervals, the first that qualifies, makes the port 'slave' and the clock 'acquiring', with
that leader's identity and UTC offset; when the only leader has not been heard for ANNOUNCE_TIMEOUT intervals, the clock goes to 'free-run' at the last INCREMENT. The messages of an exchange (R96-R99, R104, R173), on a lane that receives: a Sync on a PTP port is counted and stamped into PTQ0; a Follow_Up gives its origin time; a Delay_Req joins
queue 0 of TC6 of the port's lane, addressed to the leader in hybrid mode, and is stamped into PTQ1 when it reaches the wire; a Delay_Resp on the 'slave' port from its leader gives the
offset ((t2 - t1) - (t4 - t3)) / 2 and the mean path delay, and takes SERVO_OWNER. With the servo the host's, INCREMENT and the clock stay. PTP_LANE (R97): a lane in an Ethernet mode that the other PTP port does not have is assigned, and the port starts 'listening'; a lane that the other port has is refused and the
assignment stays. -/
def Obligations.NetworkTimeIsFollowed : Prop :=
  (∀ (s : State) (t p a : Nat) (m : AnnounceMsg) (f : Foreign), s.powered = true → p < 2 → s.rdN o2303_PTP_LANE p ≠ 65535 → (s.ptpPort (1 - p)).leaders = [] →
      (s.ptpPort p).leaders = [f] → f.heard.head? = some a →
      (s.laneReceives (s.rdN o2303_PTP_LANE p) = true → (s.lane (s.rdN o2303_PTP_LANE p)).errored = false → m.domain = s.rdN o2302_PTP_DOMAIN 0 → f.leader = m.leader → max s.now t ≤ a + 4 * s.announceNs → s.ptp.leader = none →
        ∃ u, exec (.ptpAnnounce t p m) s = .next u ∧ u.ptp.leader = some (p, m.leader) ∧ u.rd o2301_CLOCK_STATE 0 = CLOCK_STATE.acquiring ∧ u.rdN o2301_LEADER_PORT 0 = p ∧
          u.rdOct o2301_LEADER_ID 0 = beBytes 8 m.leader ∧ u.rd o2300_UTC_OFFSET 0 = m.utcOffset ∧ u.rd o2303_PORT_STATE p = PORT_STATE.slave) ∧
      (s.ptp.leader = some (p, f.leader) → a + s.rdN o2302_ANNOUNCE_TIMEOUT 0 * s.announceNs ≤ max s.now t →
        ∃ u, exec (.announceTimeout t p) s = .next u ∧ u.ptp.leader = none ∧ u.rd o2301_CLOCK_STATE 0 = CLOCK_STATE.free_run ∧ u.rdN o2301_LEADER_PORT 0 = 255 ∧
          u.rd o2301_INCREMENT 0 = s.rd o2301_INCREMENT 0 ∧ u.rd o2303_ANNOUNCE_TIMEOUTS p = (s.rd o2303_ANNOUNCE_TIMEOUTS p + 1) % 4294967296)) ∧
  (∀ (s : State) (t p lane : Nat), s.powered = true → p < 2 → s.rdN o2303_PTP_LANE p = lane → s.portOfLane lane = some p → s.laneReceives lane = true → (s.lane lane).errored = false →
      (∀ m : SyncMsg, m.domain = s.rdN o2302_PTP_DOMAIN 0 → (s.ptq 0).length < 16 → storeGet 0 s.ptp.spill = none →
        s.rd o2303_PORT_STATE p ≠ PORT_STATE.slave ∨ s.ptp.leader = some (p, m.leader) →
        ∃ u e, exec (.ptpSync t lane m) s = .next u ∧ u.rd o2303_SYNC_RECEIVED p = (s.rd o2303_SYNC_RECEIVED p + 1) % 4294967296 ∧ u.ptq 0 = s.ptq 0 ++ [e] ∧ e.lane = lane ∧
          e.seq = m.seq % 65536 ∧ e.sent = false ∧ (u.ptpPort p).sync = some ⟨m.leader, m.seq, e.ns, e.stepGen, if m.twoStep then none else some m.origin⟩) ∧
      (∀ (y : SyncState) (origin : Int), (s.ptpPort p).sync = some y →
        ∃ u, exec (.ptpFollowUp t p y.seq y.leader origin) s = .next u ∧ (u.ptpPort p).sync = some { y with origin := some origin }) ∧
      (lane ≠ 65535 → s.portState lane = EG_PORT_STATE.running → s.rdN o3802_QUEUE_SOURCE (queueRow lane 6 0) = 65535 → s.rdN o3802_QUEUE_LIMIT (queueRow lane 6 0) = 0 →
        ∃ u f, exec (.delayReqSend t p) s = .next u ∧ u.queue lane 6 0 = s.queue lane 6 0 ++ [f] ∧ u.out = s.out ∧ f.req = some p ∧ f.seq = (s.ptpPort p).nextSeq ∧
          f.carries = [.delayReq lane f.seq (s.rd o2302_IP_VERSION 0 == IP_VERSION.IPv6) (if s.rd o2302_DELAY_MODE 0 = DELAY_MODE.hybrid then (s.ptpPort p).sync.map (·.leader) else none)] ∧
          (u.ptpPort p).nextSeq = (f.seq + 1) % 65536) ∧
      (∀ f : EgFrame, f.req = some p → (s.ptq 1).length < 16 → storeGet 1 s.ptp.spill = none →
        ∃ e, (s.carried lane f).ptq 1 = s.ptq 1 ++ [e] ∧ e.sent = true ∧ e.seq = f.seq % 65536 ∧ ((s.carried lane f).ptpPort p).req = some ⟨f.seq, e.ns, e.stepGen⟩) ∧
      ∀ (y : SyncState) (r : ReqState) (o rx : Int), (s.ptpPort p).sync = some y → (s.ptpPort p).req = some r → y.origin = some o → y.gen = r.gen →
        s.rd o2303_PORT_STATE p = PORT_STATE.slave → s.ptp.leader = some (p, y.leader) → s.rd o2301_SERVO_OWNER 0 = SERVO_OWNER.host →
        ∃ u, exec (.ptpDelayResp t p r.seq y.leader rx) s = .next u ∧ u.rd o2301_OFFSET_NS 0 = ((y.stamp - o) - (rx - r.stamp)) / 2 ∧ u.ptp.owner = SERVO_OWNER.host ∧
          u.rd o2301_MEAN_PATH_DELAY_NS 0 = ((y.stamp - o) + (rx - r.stamp)) / 2 ∧ u.rd o2301_INCREMENT 0 = s.rd o2301_INCREMENT 0 ∧ u.rd o2301_STEP_COUNT 0 = s.rd o2301_STEP_COUNT 0 ∧
          (s.rd o2301_CLOCK_STATE 0 = CLOCK_STATE.acquiring → s.ptp.good = 7 → (((y.stamp - o) - (rx - r.stamp)) / 2).natAbs ≤ 1000 →
            u.rd o2301_CLOCK_STATE 0 = CLOCK_STATE.following)) ∧
  (∀ (s : State) (t port p lane : Nat), s.powered = true → p < 2 → s.admits port o2303_PTP_LANE p (.int lane) = true → lane ≠ 65535 → ethMode (s.rd o3000_LANE_MODE lane) = true →
      (s.rd o2303_PTP_LANE (1 - p) ≠ lane → ∃ u, exec (.ptpLane t port p lane) s = .next u ∧ u.last = ⟨0, none⟩ ∧ u.rdN o2303_PTP_LANE p = lane ∧
        u.rd o2303_PORT_STATE p = PORT_STATE.listening ∧ (u.ptpPort p).leaders = []) ∧
      (s.rd o2303_PTP_LANE (1 - p) = lane → ∃ u, exec (.ptpLane t port p lane) s = .next u ∧ u.last.status ≠ 0 ∧ s.keepsRegs u [] ∧ u.works = s.works))

/-- Writes of a lane's set-up (R116, R117, R119, R120, R133): LANE_MODE and DIRECTION are held and wait for the next cadence boundary; a mode other than the one that an active or armed
bank plans is refused with 0C01h, one that is no Ethernet mode on a lane that PTP_LANE names with 0C05h; 'loop-serial' as a test of a lane that no bank plans puts a powered lane in 'test' with cleared counters, one of a planned lane is refused with 0C03h; manual taps
that sum to at most 128 with C0 at least 64 come into effect, others are refused with 0C04h and the taps stay. -/
def Obligations.LaneSetUpIsWritten : Prop :=
  ∀ (s : State) (t port l : Nat) (v : Int), s.powered = true →
    (s.admits port o3000_LANE_MODE l (.int v) = true →
      (s.bankPlansLane l [BANK_STATE.active, BANK_STATE.armed] = none → ethMode v = true ∨ s.portOfLane l = none →
        ∃ u, exec (.laneMode t port l v) s = .next u ∧ u.last = ⟨0, none⟩ ∧ u.rd o3000_LANE_MODE l = v ∧ (u.lane l).pendMode = true ∧ (u.lane l).mode = (s.lane l).mode) ∧
      (s.bankPlansLane l [BANK_STATE.active, BANK_STATE.armed] = some v → ∃ u, exec (.laneMode t port l v) s = .next u ∧ u.last = ⟨0, none⟩ ∧ (u.lane l).pendMode = true) ∧
      (s.bankPlansLane l [BANK_STATE.active, BANK_STATE.armed] = none → ethMode v = false → s.portOfLane l ≠ none →
        ∃ u, exec (.laneMode t port l v) s = .next u ∧ u.last = ⟨0x0C05, none⟩ ∧ s.keepsRegs u [] ∧ u.works = s.works) ∧
      ∀ m, s.bankPlansLane l [BANK_STATE.active, BANK_STATE.armed] = some m → m ≠ v →
        ∃ u, exec (.laneMode t port l v) s = .next u ∧ u.last = ⟨0x0C01, none⟩ ∧ s.keepsRegs u [] ∧ u.works = s.works) ∧
    (s.admits port o3000_DIRECTION l (.int v) = true → ∃ u, exec (.direction t port l v) s = .next u ∧ u.last = ⟨0, none⟩ ∧ u.rd o3000_DIRECTION l = v ∧
      u.lane l = { s.lane l with pendDir := true } ∧ s.keepsRegs u [(o3000_DIRECTION, l)] ∧ ∀ k, k ≠ l → u.lane k = s.lane k) ∧
    (s.admits port o3000_TEST_MODE l (.int TEST_MODE.loop_serial) = true →
      (s.bankPlansLane l [BANK_STATE.active, BANK_STATE.armed] = none → s.laneState l ≠ LANE_STATE.unpowered → s.rd o3000_TEST_MODE l = TEST_MODE.none →
        ∃ u, exec (.testMode t port l TEST_MODE.loop_serial) s = .next u ∧ u.last = ⟨0, none⟩ ∧ u.rd o3000_TEST_MODE l = TEST_MODE.loop_serial ∧ u.laneState l = LANE_STATE.test ∧
          u.rd o3100_PRBS_BITS l = 0 ∧ u.rd o3100_PRBS_ERRORS l = 0 ∧ u.rd o3100_PRBS_LOCKED l = 0) ∧
      (s.bankPlansLane l [BANK_STATE.active, BANK_STATE.armed] ≠ none →
        ∃ u, exec (.testMode t port l TEST_MODE.loop_serial) s = .next u ∧ u.last = ⟨0x0C03, none⟩ ∧ s.keepsRegs u [] ∧ u.works = s.works)) ∧
    (s.admits port o3000_TX_FFE_SOURCE l (.int TX_FFE_SOURCE.manual) = true →
      let c := s.manualTaps l
      ((c.map Int.natAbs).sum ≤ 128 → 64 ≤ s.rd o3000_TX_TAP_C0 l → ∃ u, exec (.txFfeSource t port l TX_FFE_SOURCE.manual) s = .next u ∧ u.last = ⟨0, none⟩ ∧
        u.rd o3000_TX_FFE_SOURCE l = TX_FFE_SOURCE.manual ∧ u.rdOct o3100_TX_TAPS_ACTIVE l = (c.map (fun x => leBytes 2 (ofSigned 16 x))).flatten) ∧
      (128 < (c.map Int.natAbs).sum ∨ s.rd o3000_TX_TAP_C0 l < 64 →
        ∃ u, exec (.txFfeSource t port l TX_FFE_SOURCE.manual) s = .next u ∧ u.last = ⟨0x0C04, none⟩ ∧ s.keepsRegs u [] ∧ u.works = s.works))

/-- Signal and clock (R113, R123-R125, R131): a signal makes LANE_LOS clear; its loss returns a lane that is 'up' to 'acquiring' with the CTLE code held; the CDR locks within the
tracking range of the mode and nowhere else, with the corner that CDR_BW gives, and its offset is then measured again while it holds; the hunt of 'sdi-auto' goes through the eight rates; a partner that does not train leaves the preset. -/
def Obligations.LaneClocksAreRecovered : Prop :=
  ∀ (s : State) (t l : Nat) (ppb : Int) (div : Bool), s.powered = true →
    (s.laneState l ≠ LANE_STATE.unpowered → ∃ u, exec (.laneSignalDetect t l) s = .next u ∧ (u.lane l).signal = true ∧ u.laneState l = s.laneState l ∧ ¬ u.stands .LANE_LOS l) ∧
    (s.laneState l = LANE_STATE.up → ∃ u, exec (.laneSignalLoss t l) s = .next u ∧ u.laneState l = LANE_STATE.acquiring ∧ (u.lane l).signal = false ∧
      u.rd o3100_CTLE_ACTIVE l = s.rd o3100_CTLE_ACTIVE l ∧ u.rd o3100_LOCK_LOSSES l = (s.rd o3100_LOCK_LOSSES l + 1) % 4294967296) ∧
    (s.laneState l = LANE_STATE.acquiring → (s.lane l).signal = true →
      (ppb.natAbs ≤ (if sdiMode (s.lane l).mode then 300000 else 200000) → ∃ u, exec (.cdrLock t l ppb div) s = .next u ∧ (u.lane l).cdr = true ∧
        (u.lane l).corner = s.cdrDivisor l ∧ u.rd o3100_FREQ_OFFSET_PPB l = ppb ∧ ((s.lane l).mode = LANE_MODE.sdi_auto → (s.lane l).hunt < 8 → u.rd o3100_RATE_FOUND l = huntOrder.getD (s.lane l).hunt 0)) ∧
      ((if sdiMode (s.lane l).mode then 300000 else 200000) < ppb.natAbs → ∃ u, exec (.cdrLock t l ppb div) s = .next u ∧ u.lanes = s.lanes ∧ u.regs = s.regs)) ∧
    (s.laneState l = LANE_STATE.up → (s.lane l).cdr = true → (s.lane l).signal = true → ppb.natAbs ≤ (if sdiMode (s.lane l).mode then 300000 else 200000) →
      ∃ u, exec (.cdrLock t l ppb div) s = .next u ∧ u.rd o3100_FREQ_OFFSET_PPB l = ppb ∧ s.keepsRegs u [(o3100_FREQ_OFFSET_PPB, l)] ∧ u.lane l = { s.lane l with corner := s.cdrDivisor l }) ∧
    ((s.lane l).mode = LANE_MODE.sdi_auto → s.laneState l = LANE_STATE.acquiring → (s.lane l).cdr = false →
      ∃ u, exec (.sdiRateDwell t l) s = .next u ∧ (u.lane l).hunt = ((s.lane l).hunt + 1) % 8 ∧ u.laneState l = LANE_STATE.acquiring) ∧
    ((s.lane l).mode = LANE_MODE.sdi_auto → s.laneState l = LANE_STATE.aligning → (s.lane l).alignedAt + 2000000 ≤ max s.now t →
      ∃ u, exec (.sdiAutoTrsTimeout t l) s = .next u ∧ (u.lane l).hunt = ((s.lane l).hunt + 1) % 8 ∧ u.laneState l = LANE_STATE.acquiring ∧ u.rd o3100_CTLE_ACTIVE l = 8) ∧
    (s.isOn o3000_LINK_TRAINING l = true → (s.lane l).mode = LANE_MODE.m50gbase_r → s.laneState l = LANE_STATE.acquiring →
      ∃ u, exec (.linkTrainingTimeout t l) s = .next u ∧ u.rd o3000_TX_FFE_SOURCE l = TX_FFE_SOURCE.preset ∧ u.rd o3100_ADAPT_RESETS l = (s.rd o3100_ADAPT_RESETS l + 1) % 4294967296)

/-- Adaptation (R121-R123, R131): the code with the highest EYE_Q is applied, the lower of equals; the lane goes to 'aligning' when EYE_Q reaches ADAPT_RESET_Q and waits 10 ms
otherwise; EYE_Q is floor(1,000 x min(V, H)); the CTLE moves by one code, to a neighbour that is better by 20 points; 1 s below ADAPT_RESET_Q, and LOCK_TIMEOUT_MS without lock,
begin again from code 8. -/
def Obligations.ReceiversAdapt : Prop :=
  ∀ (s : State) (t l q : Nat) (qs : List Nat) (dfe : Bytes), s.powered = true →
    (s.laneState l = LANE_STATE.acquiring → (s.lane l).cdr = true → (s.lane l).retryAt = none →
      ∃ u, exec (.adaptationComplete t l qs q dfe none) s = .next u ∧ (∀ c : Nat, u.rd o3100_CTLE_ACTIVE l = c → ∀ i, qs.getD i 0 ≤ qs.getD c 0 ∧ (i < c → qs.getD i 0 < qs.getD c 0)) ∧
        (s.rdN o3000_ADAPT_RESET_Q l ≤ q → u.laneState l = LANE_STATE.aligning) ∧
        (q < s.rdN o3000_ADAPT_RESET_Q l → u.laneState l = LANE_STATE.acquiring ∧ (u.lane l).retryAt = some (max s.now t + 10000000))) ∧
    (∀ w, s.laneState l = LANE_STATE.acquiring → (s.lane l).retryAt = some w → w ≤ max s.now t →
      ∃ u, exec (.adaptationRetry t l) s = .next u ∧ u.laneState l = LANE_STATE.acquiring ∧ (u.lane l).retryAt = none ∧ (u.lane l).cdr = false ∧ u.rd o3100_CTLE_ACTIVE l = 8) ∧
    (∀ v h, v ≤ 1000000 → h ≤ 1000000 → ∃ u, exec (.eyeQWindow t l v h) s = .next u ∧ u.rd o3100_EYE_Q l = (1000 * min v h / 1000000 : Nat) ∧
      (∀ w, (s.lane l).warnSince = some w → w + 1000000000 ≤ max s.now t → 1000 * min v h / 1000000 < s.rdN o3000_EYE_WARN_Q l → u.stands .LANE_EYE_LOW l)) ∧
    (∀ here up down, s.rd o3000_RX_ADAPT l = RX_ADAPT.continuous → s.laneState l = LANE_STATE.up → (s.lane l).signal = true → 0 ≤ s.rd o3100_CTLE_ACTIVE l →
      s.rd o3100_CTLE_ACTIVE l ≤ 15 → ∃ u, exec (.ctleTrial t l here up down) s = .next u ∧ 0 ≤ u.rd o3100_CTLE_ACTIVE l ∧ u.rd o3100_CTLE_ACTIVE l ≤ 15 ∧
        (down < here + 20 → up < here + 20 → u.rd o3100_CTLE_ACTIVE l = s.rd o3100_CTLE_ACTIVE l) ∧
        (here + 20 ≤ down → up < here + 20 → 0 < s.rd o3100_CTLE_ACTIVE l → u.rd o3100_CTLE_ACTIVE l = s.rd o3100_CTLE_ACTIVE l - 1) ∧
        (here + 20 ≤ up → down < here + 20 → s.rd o3100_CTLE_ACTIVE l < 15 → u.rd o3100_CTLE_ACTIVE l = s.rd o3100_CTLE_ACTIVE l + 1)) ∧
    (∀ w, s.laneState l = LANE_STATE.up → (s.lane l).lowSince = some w → w + 1000000000 ≤ max s.now t →
      ∃ u, exec (.adaptReset t l) s = .next u ∧ u.laneState l = LANE_STATE.acquiring ∧ u.rd o3100_ADAPT_RESETS l = (s.rd o3100_ADAPT_RESETS l + 1) % 4294967296 ∧
        u.rd o3100_CTLE_ACTIVE l = 8) ∧
    (s.laneState l = LANE_STATE.aligning → (s.lane l).alignedAt + s.rdN o3000_LOCK_TIMEOUT_MS l * 1000000 ≤ max s.now t →
      ∃ u, exec (.lockTimeout t l) s = .next u ∧ u.laneState l = LANE_STATE.acquiring ∧ u.rd o3100_CTLE_ACTIVE l = 8)

/-- Block lock (R126-R128, R131): in a mode with block lock, the 64th consecutive valid header locks and brings the lane 'up'; an invalid one begins the count again at the next place of
the boundary and is counted; with lock held, the 16th invalid header of the last 64 loses it; codewords are counted, an uncorrectable one marks its blocks, and loss of codeword lock is
loss of lock; the high-BER rule takes an Ethernet lane to 'hi-ber' and back without touching its block lock. A LANE_MODE write that waits for the same boundary overrides the change of
state. TRS lock (R129, R130): a data stream locks where its EAV stands on a third consecutive line, and the lane is 'up' once every stream of its line is locked; the fourth line without
the EAV of a stream at its place returns the lane to 'aligning'; an EAV at another place on three consecutive lines moves the lock there and is counted; a line with a wrong CRC is
counted once and never affects lock. The lane is no first link of an SDI input here; what an input takes from its lines is stated apart. -/
def Obligations.LanesLockAndUnlock : Prop :=
  (∀ (s : State) (t l hdr : Nat), s.powered = true →
      (sdiMode (s.lane l).mode = false → s.usesFec l = false →
        (s.laneState l = LANE_STATE.aligning → (s.lane l).lock = false →
          (hdr = 1 ∨ hdr = 2 → (s.lane l).good = 63 → (s.lane l).pendMode = false → ∃ u, exec (.laneBlockRx t l hdr) s = .next u ∧ u.laneState l = LANE_STATE.up ∧ (u.lane l).lock = true ∧
            u.rd o3100_LOCKS l = (s.rd o3100_LOCKS l + 1) % 4294967296) ∧
          (hdr = 1 ∨ hdr = 2 → (s.lane l).good = 63 → (s.lane l).pendMode = true → ∃ u, exec (.laneBlockRx t l hdr) s = .next u ∧ u.laneState l = LANE_STATE.aligning) ∧
          (hdr = 1 ∨ hdr = 2 → (s.lane l).good < 63 → ∃ u, exec (.laneBlockRx t l hdr) s = .next u ∧ u.lane l = { s.lane l with good := (s.lane l).good + 1 } ∧
            u.laneState l = LANE_STATE.aligning) ∧
          (hdr ≠ 1 → hdr ≠ 2 → ∃ u, exec (.laneBlockRx t l hdr) s = .next u ∧ u.lane l = { s.lane l with good := 0, boundary := ((s.lane l).boundary + 1) % 66 } ∧
            u.laneState l = LANE_STATE.aligning ∧ u.rd o3100_INVALID_HEADERS l = (s.rd o3100_INVALID_HEADERS l + 1) % 2 ^ 64)) ∧
        (s.laneState l = LANE_STATE.up → (s.lane l).lock = true → hdr ≠ 1 → hdr ≠ 2 →
          (15 ≤ ((s.lane l).window.take 63).count true → (s.lane l).pendMode = false → ∃ u, exec (.laneBlockRx t l hdr) s = .next u ∧ u.laneState l = LANE_STATE.aligning ∧
            (u.lane l).lock = false ∧ u.rd o3100_LOCK_LOSSES l = (s.rd o3100_LOCK_LOSSES l + 1) % 4294967296) ∧
          (((s.lane l).window.take 63).count true < 15 → ∃ u, exec (.laneBlockRx t l hdr) s = .next u ∧ u.laneState l = LANE_STATE.up ∧ (u.lane l).lock = true))) ∧
      (s.usesFec l = true → s.laneState l = LANE_STATE.up → (s.lane l).codeword = true →
        (∃ u, exec (.fecCodewordRx t l true false true) s = .next u ∧ u.laneState l = LANE_STATE.up ∧ u.rd o3100_FEC_CORRECTED l = (s.rd o3100_FEC_CORRECTED l + 1) % 2 ^ 64 ∧
          (u.lane l).errored = false) ∧
        (∃ u, exec (.fecCodewordRx t l false true true) s = .next u ∧ u.laneState l = LANE_STATE.up ∧ u.rd o3100_FEC_UNCORRECTED l = (s.rd o3100_FEC_UNCORRECTED l + 1) % 2 ^ 64 ∧
          (u.lane l).errored = true ∧ u.stands .LANE_FEC_UNCORR l) ∧
        ((s.lane l).pendMode = false → ∃ u, exec (.fecCodewordRx t l false true false) s = .next u ∧ u.laneState l = LANE_STATE.aligning ∧ (u.lane l).codeword = false ∧
          u.rd o3100_FEC_UNCORRECTED l = (s.rd o3100_FEC_UNCORRECTED l + 1) % 2 ^ 64)) ∧
      ((s.lane l).pendMode = false → ethMode (s.lane l).mode = true → s.laneState l = LANE_STATE.up → ∃ u, exec (.hiBerEnter t l) s = .next u ∧ u.laneState l = LANE_STATE.hi_ber ∧
        u.rd o3100_HI_BER l = 1 ∧ u.stands .LANE_HI_BER l ∧ (u.lane l).lock = (s.lane l).lock) ∧
      ((s.lane l).pendMode = false → s.laneState l = LANE_STATE.hi_ber → ∃ u, exec (.hiBerClear t l) s = .next u ∧ u.laneState l = LANE_STATE.up ∧ u.rd o3100_HI_BER l = 0 ∧
        ¬ u.stands .LANE_HI_BER l ∧ (u.lane l).lock = (s.lane l).lock)) ∧
  (∀ (s : State) (t l p q n : Nat) (m : SdiLine), s.powered = true → sdiMode (s.lane l).mode = true → s.rdN o3540_SDI_IN_LINKS l = 0 → (s.lane l).pendMode = false →
      (s.laneState l = LANE_STATE.aligning →
        ((s.lane l).trs = [⟨none, some (p, 2), 0⟩] → m.eavs = [some p] →
          ∃ u, exec (.sdiLineRx t l m) s = .next u ∧ u.laneState l = LANE_STATE.up ∧ (u.lane l).trs = [⟨some p, none, 0⟩]) ∧
        ((s.lane l).trs = [⟨some p, none, 0⟩, ⟨none, some (q, n), 0⟩] → m.eavs = [some p, some q] →
          (2 ≤ n → ∃ u, exec (.sdiLineRx t l m) s = .next u ∧ u.laneState l = LANE_STATE.up ∧ (u.lane l).trs = [⟨some p, none, 0⟩, ⟨some q, none, 0⟩]) ∧
          (n < 2 → ∃ u, exec (.sdiLineRx t l m) s = .next u ∧ u.laneState l = LANE_STATE.aligning ∧ (u.lane l).trs = [⟨some p, none, 0⟩, ⟨none, some (q, n + 1), 0⟩]))) ∧
      (s.laneState l = LANE_STATE.up →
        (∀ c, (s.lane l).trs = [⟨some p, c, n⟩] → m.eavs = [none] →
          (3 ≤ n → ∃ u, exec (.sdiLineRx t l m) s = .next u ∧ u.laneState l = LANE_STATE.aligning) ∧
          (n < 3 → ∃ u, exec (.sdiLineRx t l m) s = .next u ∧ u.laneState l = LANE_STATE.up ∧ (u.lane l).trs = [⟨some p, none, n + 1⟩])) ∧
        ((s.lane l).trs = [⟨some p, some (q, 2), n⟩] → q ≠ p → m.eavs = [some q] → ∃ u, exec (.sdiLineRx t l m) s = .next u ∧ u.laneState l = LANE_STATE.up ∧
          (u.lane l).trs = [⟨some q, none, 0⟩] ∧ u.rd o3100_TRS_RELOCKS l = (s.rd o3100_TRS_RELOCKS l + 1) % 4294967296) ∧
        ((s.lane l).trs = [⟨some p, none, 0⟩] → m.eavs = [some p] → m.crcBad = true → ∃ u, exec (.sdiLineRx t l m) s = .next u ∧ u.laneState l = LANE_STATE.up ∧
          (u.lane l).trs = [⟨some p, none, 0⟩] ∧ u.rd o3100_SDI_CRC_LINES l = (s.rd o3100_SDI_CRC_LINES l + 1) % 2 ^ 64)))

/-- Tests and faults (R113, R134, R137): a running checker that locks reads locked and counts from there; what it counted joins the counters when it loses lock; an output stage out
of its limits raises LANE_TX_FAULT and leaves no transmitter running, until it returns; Local or Remote Fault on an Ethernet lane is held while it lasts. -/
def Obligations.LaneTestsAndFaults : Prop :=
  ∀ (s : State) (t l bits errors : Nat) (on : Bool), s.powered = true →
    (s.prbsRuns l = true → s.isOn o3100_PRBS_LOCKED l = false → ∃ u, exec (.prbsLockGained t l) s = .next u ∧ u.rd o3100_PRBS_LOCKED l = 1 ∧ s.keepsRegs u [(o3100_PRBS_LOCKED, l)] ∧
      u.lane l = { s.lane l with prbsFrom := max s.now t } ∧ ∀ k, k ≠ l → u.lane k = s.lane k) ∧
    (s.isOn o3100_PRBS_LOCKED l = true → ∃ u, exec (.prbsLockLost t l bits errors) s = .next u ∧ u.rd o3100_PRBS_LOCKED l = 0 ∧
      u.rd o3100_PRBS_BITS l = (s.rd o3100_PRBS_BITS l + bits) % 2 ^ 64 ∧ u.rd o3100_PRBS_ERRORS l = (s.rd o3100_PRBS_ERRORS l + errors) % 2 ^ 64 ∧ u.works = s.works) ∧
    (∃ u, exec (.laneTxFault t l true) s = .next u ∧ u.stands .LANE_TX_FAULT l ∧ u.rd o3100_TX_STATE l ≠ TX_STATE.running) ∧
    (∃ u, exec (.laneTxFault t l false) s = .next u ∧ ¬ u.stands .LANE_TX_FAULT l ∧ (u.lane l).txFault = false) ∧
    (ethMode (s.lane l).mode = true → ∃ u, exec (.laneFaultRx t l on) s = .next u ∧ (u.lane l).faultRx = on ∧ ∀ k, k ≠ l → u.lane k = s.lane k)

/-- Flow rows (R144, R146, R148, R156, R160, R161): an enable that passes the checks of R144 leaves the row waiting, another carries its code and changes nothing; a disable frees the row;
the report of a multicast leg joins its firmware queue again after 1 s; a silent leg is lost with its alarm, a silent row is lost with MT_INPUT_LOSS; the end of a hold changes no register and no frame, and readers
take black in a frame in which the hold has ended. -/
def Obligations.FlowRowsComeAndGo : Prop :=
  ∀ (s : State) (t port f : Nat), s.powered = true →
    (s.admits port o3600_FLOW_ENABLE f (.int 1) = true → s.isOn o3600_FLOW_ENABLE f = false →
      (s.flowCheck f = 0 → ∃ u, exec (.flowEnable t port f true) s = .next u ∧ u.last = ⟨0, none⟩ ∧ u.rd o3600_FLOW_ENABLE f = 1 ∧ u.flowState f = FLOW_STATE.unclaimed) ∧
      (s.flowCheck f ≠ 0 → ∃ u, exec (.flowEnable t port f true) s = .next u ∧ u.last = ⟨s.flowCheck f, none⟩ ∧ s.keepsRegs u [] ∧ u.works = s.works)) ∧
    (s.admits port o3600_FLOW_ENABLE f (.int 0) = true → s.isOn o3600_FLOW_ENABLE f = true → ∃ u, exec (.flowEnable t port f false) s = .next u ∧ u.last = ⟨0, none⟩ ∧
      u.rd o3600_FLOW_ENABLE f = 0 ∧ u.flowState f = FLOW_STATE.disabled ∧ (u.flow f).active = false) ∧
    (∀ a, (s.flow f).joinAt = some a → a + 1000000000 ≤ max s.now t → ∃ u, exec (.joinRepeat t f) s = .next u ∧ (u.flow f).joinAt = none ∧
      ∀ leg ∈ s.legs f, isGroup (s.legDest f leg) = true → s.portState (s.legLane f leg) = EG_PORT_STATE.running →
        s.rdN o3802_QUEUE_SOURCE (queueRow (s.legLane f leg) 6 1) = 65535 → s.rdN o3802_QUEUE_LIMIT (queueRow (s.legLane f leg) 6 1) = 0 →
        ∃ e ∈ u.queue (s.legLane f leg) 6 1, e.carries = [.join (s.legLane f leg) (s.legDest f leg) (s.groupLegs (s.legLane f leg) (s.legDest f leg)).eraseDups]) ∧
    (∀ second : Bool, s.rd (legObj second) f = LEG_STATE_P.receiving →
      (if second then (s.flow f).s.lastAt else (s.flow f).p.lastAt) + s.rdN o3600_LEG_TIMEOUT_MS f * 1000000 ≤ max s.now t →
      ∃ u, exec (.legTimeout t f second) s = .next u ∧ u.rd (legObj second) f = LEG_STATE_P.lost ∧ u.stands .MT_LEG_LOSS (legInst f second)) ∧
    (s.flowState f = FLOW_STATE.present → (s.flow f).lastAt + s.rdN o3600_LOSS_TIMEOUT_MS f * 1000000 ≤ max s.now t →
      ∃ u, exec (.flowLossTimeout t f) s = .next u ∧ u.flowState f = FLOW_STATE.lost ∧ u.stands .MT_INPUT_LOSS (s.flowInst f)) ∧
    ∀ ep, ∃ u, exec (.lossHoldEnd t ep) s = .next u ∧ s.keepsRegs u [] ∧ (∀ e, e ≠ ep → u.buf e = s.buf e) ∧ (u.buf ep).frames = (s.buf ep).frames ∧
      ((s.buf ep).dark (s.fcnt (s.epDomain ep)) = true → isGenerator ep = false → ep / 4096 ≠ 1 → ∀ line, u.readLine ep line = { what := .black }) ∧
      ((s.buf ep).dark (s.fcnt (s.epDomain ep)) = false → u.buf ep = s.buf ep)

/-- Received frames (R127, R140, R145, R155): on a lane that receives, a frame with a bad check sequence, or in an errored codeword, is counted and dropped; a packet of an active row is
counted on its leg, which receives; one of another payload type is discarded and counted; the first copy of an audio packet within format is written; one whose position has been written
is a duplicate, one whose deadline has passed is discarded as late, and neither writes a byte. A position without a packet at its deadline is a gap of the merge. -/
def Obligations.PacketsAreMergedOnce : Prop :=
  ∀ (s : State) (t lane : Nat) (fr : EthFrame), s.powered = true →
    let more (u : State) (o r : Nat) : Prop := u.rd o r = (s.rd o r + 1) % objModulus o
    (s.laneReceives lane = true →
      (fr.fcsOk = false ∨ (s.lane lane).errored = true → ∃ u, exec (.ethFrameRx t lane fr) s = .next u ∧ more u o3510_RX_FRAMES lane ∧ more u o3510_RX_IP_ERRORS lane ∧
        s.keepsRegs u [(o3510_RX_FRAMES, lane), (o3510_RX_IP_ERRORS, lane)] ∧ u.works = s.works) ∧
      ∀ dst src udp p r second, fr.fcsOk = true → (s.lane lane).errored = false → (isPtpUdp udp = true → s.portOfLane lane = none) → fr.tag = none → s.rdN o3500_VLAN_ID lane = 0 → fr.len ≤ s.rdN o3500_MTU lane + 18 → isGroupMac fr.mac = true →
        fr.payload = .rtp dst src udp p → s.matchLeg lane dst src udp s.activeRows = some (r, second) →
        (p.pt ≠ s.rdN o3600_PAYLOAD_TYPE r → ∃ u, exec (.ethFrameRx t lane fr) s = .next u ∧ more u (if second then o3620_PACKETS_S else o3620_PACKETS_P) r ∧
          more u o3620_PT_DISCARDS r ∧ u.rd (legObj second) r = LEG_STATE_P.receiving ∧ u.rd o3620_BYTES_WRITTEN r = s.rd o3620_BYTES_WRITTEN r ∧
          u.rd o3620_LAST_SSRC r = s.rd o3620_LAST_SSRC r) ∧
        (p.pt = s.rdN o3600_PAYLOAD_TYPE r →
          let x := s.flow r
          let q := extendSeq (seqModulus (s.flowKind r)) x.newest p.seq
          ∀ n d, x.newest = some n → q ≤ n → n ≤ q + mergeDepth → x.deadline q = some d →
            (max s.now t ≤ d → (x.gotAt q).written = false → audioKind (s.flowKind r) = true → s.audioOk r p = true → ∃ u, exec (.ethFrameRx t lane fr) s = .next u ∧
              u.rd o3620_BYTES_WRITTEN r = (s.rd o3620_BYTES_WRITTEN r + p.bytes) % objModulus o3620_BYTES_WRITTEN ∧ ((u.flow r).gotAt q).written = true ∧
              u.rd o3620_LAST_SSRC r = p.ssrc) ∧
            (max s.now t ≤ d → (x.gotAt q).written = true → ∃ u, exec (.ethFrameRx t lane fr) s = .next u ∧ more u (if second then o3620_PACKETS_S else o3620_PACKETS_P) r ∧
              more u o3620_DUPLICATES r ∧ u.rd o3620_BYTES_WRITTEN r = s.rd o3620_BYTES_WRITTEN r ∧ u.rd (legObj second) r = LEG_STATE_P.receiving) ∧
            (d < max s.now t → ∃ u, exec (.ethFrameRx t lane fr) s = .next u ∧ more u o3620_LATE_DISCARDS r ∧ u.rd o3620_BYTES_WRITTEN r = s.rd o3620_BYTES_WRITTEN r))) ∧
    ∀ f a d, (s.flow f).spans = [⟨a, a, d⟩] → d ≤ max s.now t → (s.flow f).judged ≤ a →
      (((s.flow f).gotAt a).written = false → ∃ u, exec (.mergeDeadline t f) s = .next u ∧ more u o3620_MERGED_GAPS f ∧ (u.flow f).judged = a + 1) ∧
      (((s.flow f).gotAt a).written = true → ∃ u, exec (.mergeDeadline t f) s = .next u ∧ u.rd o3620_MERGED_GAPS f = s.rd o3620_MERGED_GAPS f % objModulus o3620_MERGED_GAPS)

/-- Frames on the wire (R158, R167, R174-R180, R187): a frame that fits its queue's limit joins the queue of a running port, one that does not is dropped and counted; a packet of a shaped
output row takes the row's next sequence number and its timestamp, and an identical one joins the queue of the second lane; an idle transmitter with one
frame waiting in TC6 sends it; a paced packet of an enabled row leaves at its instant with the row's next sequence number, while custody is held; TX_ENABLE sets what the row does. Time gates (R181-R184): a legal list applied on an enabled Ethernet port waits for a change time that is a whole cycle from its base and at least 250 us away, and the running list goes
on; an illegal one is refused with 0E01h; a cancel drops what waits; at the change time the list runs; the gates in effect are those of the running list at the clock, all open without one. -/
def Obligations.FramesQueueAtTheirGates : Prop :=
  (∀ (s : State) (t port l : Nat), s.powered = true →
      (s.portState l = EG_PORT_STATE.running →
        (∀ c q len payload seq stamp marker, c < 7 → q < 256 →
          let limit := s.rdN o3802_QUEUE_LIMIT (queueRow l c q)
          let fill := s.rdN o3802_QUEUE_FILL (queueRow l c q)
          (s.rdN o3802_QUEUE_SOURCE (queueRow l c q) = 65535 → s.outRow 65535 = none →
            (fill + len ≤ limit ∨ (c = 6 ∧ limit = 0) → ∃ u, exec (.egressEnqueue t l c q len ⟨payload, marker⟩ seq stamp) s = .next u ∧
              u.queue l c q = s.queue l c q ++ [{ len := len, payload := payload, seq := seq, stamp := stamp, marker := marker }] ∧ ∀ c' q', (c', q') ≠ (c, q) → u.queue l c' q' = s.queue l c' q') ∧
            (limit < fill + len → ¬ (c = 6 ∧ limit = 0) → ∃ u, exec (.egressEnqueue t l c q len ⟨payload, marker⟩ seq stamp) s = .next u ∧ u.eg = s.eg ∧
              u.rd o3802_QUEUE_DROPS (queueRow l c q) = (s.rd o3802_QUEUE_DROPS (queueRow l c q) + 1) % objModulus o3802_QUEUE_DROPS ∧ u.stands .EG_QUEUE_DROP l)) ∧
          ∀ r, s.outRow (s.rdN o3802_QUEUE_SOURCE (queueRow l c q)) = some r → s.isOn o3700_TX_ENABLE r.row = true → s.isOn o1601_CUSTODY_HELD 0 = true → r.laneP = l → fill + len ≤ limit →
            let n := (storeGet r.row s.med.txSeq).getD 0
            (r.laneS = 65535 → ∃ u, exec (.egressEnqueue t l c q len ⟨payload, marker⟩ seq stamp) s = .next u ∧ u.queue l c q = s.queue l c q ++
              [{ len := len, payload := payload, seq := seq, stamp := stamp, marker := marker, media := some (r.row, n, (s.begin t).pacedStamp r) }]) ∧
            (∀ k, r.laneS = k → k ≠ 65535 → k ≠ l → s.portState k = EG_PORT_STATE.running → s.rdN o3802_QUEUE_SOURCE (queueRow k c q) = s.rdN o3802_QUEUE_SOURCE (queueRow l c q) →
              s.rdN o3802_QUEUE_FILL (queueRow k c q) + (len + s.pacedLength r true - s.pacedLength r false) ≤ s.rdN o3802_QUEUE_LIMIT (queueRow k c q) →
              ∃ u e f, exec (.egressEnqueue t l c q len ⟨payload, marker⟩ seq stamp) s = .next u ∧ e ∈ u.queue l c q ∧ f ∈ u.queue k c q ∧
                e.media = some (r.row, n, (s.begin t).pacedStamp r) ∧ f.media = e.media ∧ f.payload = payload)) ∧
        ∀ q f, (s.eport l).wire ≤ max s.now t * 100 → (s.eport l).running = none → (s.eport l).pending = none → (s.eport l).queues = [((6, q), [f])] →
          storeGet 6 (s.eport l).visit = none → s.rd o3802_DEFICIT (queueRow l 6 q) = 0 → f.len ≤ s.rdN o3802_QUANTUM (queueRow l 6 q) → s.rdN o3802_QUANTUM (queueRow l 6 q) < 65536 →
          0 ≤ s.creditOf l 6 → s.pacedOn l = [] → s.rdN o3802_QUEUE_SOURCE (queueRow l 6 q) = 65535 → s.rd o3100_LANE_STATE l = LANE_STATE.up → ∃ u, exec (.txSelect t l) s = .next u ∧ .frame l 6 q f.len ∈ u.out ∧ u.queue l 6 q = [] ∧
            u.rd o3801_CLASS_FRAMES (classRow l 6) = (s.rd o3801_CLASS_FRAMES (classRow l 6) + 1) % objModulus o3801_CLASS_FRAMES ∧
            (u.eport l).wire = max s.now t * 100 + s.wireOn l f.len) ∧
      (∀ row k ready stamp r, s.outRow row = some r → r.paced = true → r.kind ≠ 6 → s.isOn o3700_TX_ENABLE row = true → s.isOn o1601_CUSTODY_HELD 0 = true →
        (s.td r.dom).tickAt + s.pacedOffset r k ≤ max s.now t → r.laneP ≠ 65535 → r.laneS = 65535 → s.portBlocked r.laneP = false → s.rd o3100_LANE_STATE r.laneP = LANE_STATE.up →
        ∃ u, exec (.pacedRelease t row k ready stamp []) s = .next u ∧
          .paced r.laneP row ((storeGet row s.med.txSeq).getD 0) ((s.begin t).pacedStamp r) false (s.txHead row r.laneP) ∈ u.out ∧
          storeGet row u.med.txSeq = some (((storeGet row s.med.txSeq).getD 0 + 1) % seqModulus r.kind) ∧
          u.rd o3720_TX_PACKETS row = (s.rd o3720_TX_PACKETS row + 1) % objModulus o3720_TX_PACKETS) ∧
      ∀ row on, s.admits port o3700_TX_ENABLE row (.int (boolVal on)) = true → ∃ u, exec (.txEnable t port row on) s = .next u ∧ u.last = ⟨0, none⟩ ∧
        u.rd o3700_TX_ENABLE row = boolVal on ∧
        u.rd o3700_TX_STATE row = (if (s.outRow row).isNone then TX_STATE_3700.not_planned else if on then TX_STATE_3700.sending else TX_STATE_3700.off) ∧
        s.keepsRegs u [(o3700_TX_ENABLE, row), (o3700_TX_STATE, row)] ∧ u.works = s.works) ∧
  (∀ (s : State) (t port l : Nat), s.powered = true →
      let clk := (s.begin t).clkNanos
      (s.admits port o3810_CONFIG_CHANGE l (.int CONFIG_CHANGE.apply) = true →
        ((s.adminList l).legal = true → ethMode (s.rd o3000_LANE_MODE l) = true → s.isOn o3810_GATE_ENABLED l = true →
          ∃ u p n, exec (.gateApply t port l) s = .next u ∧ u.last = ⟨0, none⟩ ∧ (u.eport l).pending = some p ∧ (u.eport l).running = (s.eport l).running ∧
            u.rd o3810_CONFIG_PENDING l = 1 ∧ p.entries = (s.adminList l).entries ∧ p.cycle = (s.adminList l).cycle ∧ p.start = (s.adminList l).base + n * p.cycle ∧ clk + 250000 ≤ p.start) ∧
        ((s.adminList l).legal = false → ∃ u, exec (.gateApply t port l) s = .next u ∧ u.last = ⟨0x0E01, none⟩ ∧ s.keepsRegs u [] ∧ u.works = s.works)) ∧
      (s.admits port o3810_CONFIG_CHANGE l (.int CONFIG_CHANGE.cancel) = true → ∃ u, exec (.gateCancel t port l) s = .next u ∧ u.last = ⟨0, none⟩ ∧
        u.eport l = { s.eport l with pending := none } ∧ s.keepsRegs u [(o3810_CONFIG_PENDING, l)] ∧ u.rd o3810_CONFIG_PENDING l = 0) ∧
      (∀ on, s.admits port o3810_GATE_ENABLED l (.int (boolVal on)) = true → ∃ u, exec (.gateEnabled t port l on) s = .next u ∧ u.last = ⟨0, none⟩ ∧
        u.rd o3810_GATE_ENABLED l = boolVal on ∧ u.eport l = { s.eport l with disableDue := !on } ∧ s.keepsRegs u [(o3810_GATE_ENABLED, l)]) ∧
      (∀ p, (s.eport l).pending = some p → p.start ≤ clk → ∃ u, exec (.gateChangeTime t l) s = .next u ∧ (u.eport l).running = some p ∧ (u.eport l).pending = none ∧
        u.rd o3810_CONFIG_PENDING l = 0 ∧ (u.eport l).gates = p.at_ clk % 128) ∧
      (∀ r, (s.eport l).running = some r → r.start ≤ clk → ∃ u, exec (.gateEntryChange t l) s = .next u ∧ (u.eport l).gates = r.at_ clk % 128 ∧
        u.rd o3810_CURRENT_ENTRY l = r.entry clk ∧ (u.eport l).running = some r) ∧
      ((s.eport l).running = none → ∃ u, exec (.gateEntryChange t l) s = .next u ∧ (u.eport l).gates = 127))

/-- A route and its latch instant (R199, R201, R218): ROUTE_TAKE with a path leaves the source pending and the output's CURRENT_SOURCE as it was; the read of the switching line, after
the take, applies it with that frame's number; a take without a path carries its code and leaves the pending route. Takes of audio and salvos (R211, R216-R218): an accepted block leaves every channel of it with its take for the next boundary; a salvo's length, entries (their reserved bits zero) and clear are held while it
is not pending; an accepted take without an anchor leaves every video entry's source pending, a refused one names its code and entry and changes no destination. -/
def Obligations.RoutesAndSalvosAreTaken : Prop :=
  (∀ (s : State) (t port r : Nat) (c : Ctx), s.powered = true →
      (s.ctxOf port = some c → s.admits port o4000_ROUTE_CMD 0 (.int 0) = true →
        let dst := s.rdN o4000_ROUTE_DEST port
        let src := s.rdN o4000_ROUTE_SRC port
        let at_ := (s.begin t).routeFrame dst ((s.endpointDomain dst).getD 0)
        destRow dst = some r → isDest dst = true → isSource src = true → s.owns c (destOwn dst) = true →
          (∀ p, s.checkRoute dst src at_ = .ok p → ∃ u q, exec (.routeTake t port) s = .next u ∧ u.last = ⟨0, none⟩ ∧ u.rd o4002_PENDING_SOURCE r = src ∧
            u.rd o4002_CURRENT_SOURCE r = s.rd o4002_CURRENT_SOURCE r ∧ (u.dest r).pending = some q ∧ q.src = src ∧ q.takenAt = max s.now t ∧ q.path = p ∧
            s.keepsRegs u [(o4002_PENDING_SOURCE, r), (o4002_SUPERSEDED, r), (o4000_ROUTE_RESULT, port)] ∧ u.aud = s.aud ∧ u.led = s.led ∧ u.cmp = s.cmp ∧
            ∀ r', r' ≠ r → u.dest r' = s.dest r') ∧
          ∀ k, s.checkRoute dst src at_ = .error k → ∃ u, exec (.routeTake t port) s = .next u ∧ u.last = ⟨k, none⟩ ∧ u.rd o4000_ROUTE_RESULT port = k ∧
            s.keepsRegs u [(o4000_ROUTE_RESULT, port)] ∧ u.works = s.works) ∧
      ∀ q touched, r < 4096 → s.destDomain r ≠ 255 → (s.dest r).pending = some q → q.prep = none → q.takenAt < max s.now t →
        ∃ u, exec (.linePeriodStart t r (fmtSwitchLine (s.destFormat r)) touched) s = .next u ∧ u.rd o4002_CURRENT_SOURCE r = q.src ∧ u.rd o4002_PENDING_SOURCE r = 65535 ∧
          u.rd o4002_APPLIED_FCNT r = s.fcnt (s.destDomain r) ∧ u.rd o4002_ROUTE_PATH r = q.path ∧ (u.dest r).pending = none) ∧
  (∀ (s : State) (t port k : Nat) (c : Ctx), s.powered = true → s.ctxOf port = some c →
      (s.admits port o4100_AUD_CMD 0 (.int 0) = true →
        let dst := s.rdN o4100_AUD_DEST_CH port
        let src := s.rdN o4100_AUD_SRC_CH port
        let n := s.rdN o4100_AUD_COUNT port
        let fade := s.rdN o4100_AUD_FADE port
        src ≠ 65535 → (s.begin t).checkItem c (s.begin t).routeFrame [] (.audio dst src n fade) = 0 →
          ∃ u, exec (.audTake t port) s = .next u ∧ u.last = ⟨0, none⟩ ∧ u.rd o4100_AUD_RESULT port = 0 ∧
            ∀ i < n, (u.chan (dst + i)).pend = some ⟨src + i, fade, max s.now t + 1, none⟩ ∧ u.rd o4101_AUD_SOURCE (dst + i) = s.rd o4101_AUD_SOURCE (dst + i)) ∧
      (s.salvoState k ≠ SALVO_STATE.pending →
        (∀ v, s.admits port o4010_SALVO_LENGTH k (.int v) = true → ∃ u, exec (.salvoLength t port k v) s = .next u ∧ u.last = ⟨0, none⟩ ∧ u.rd o4010_SALVO_LENGTH k = v ∧
          u.salvoState k = (if v = 0 then SALVO_STATE.empty else SALVO_STATE.loaded) ∧ s.keepsRegs u [(o4010_SALVO_LENGTH, k), (o4010_SALVO_STATE, k)] ∧ u.works = s.works) ∧
        (∀ e v, e < 1024 → s.admits port o4011_SALVO_ENTRY (k * 1024 + e) (.int v) = true →
          ∃ u, exec (.salvoEntry t port o4011_SALVO_ENTRY (k * 1024 + e) v) s = .next u ∧ u.last = ⟨0, none⟩ ∧ u.rd o4011_SALVO_ENTRY (k * 1024 + e) = salvoBits v ∧
            (s.salvoState k = SALVO_STATE.applied ∨ s.salvoState k = SALVO_STATE.refused → u.salvoState k = SALVO_STATE.loaded) ∧
            s.keepsRegs u [(o4011_SALVO_ENTRY, k * 1024 + e), (o4010_SALVO_STATE, k)] ∧ u.works = s.works) ∧
        (s.admits port o4010_SALVO_CMD k (.int SALVO_CMD.clear) = true → ∃ u, exec (.salvoClear t port k) s = .next u ∧ u.last = ⟨0, none⟩ ∧ u.rd o4010_SALVO_LENGTH k = 0 ∧
          u.salvoState k = SALVO_STATE.empty ∧ s.keepsRegs u [(o4010_SALVO_LENGTH, k), (o4010_SALVO_STATE, k)] ∧ u.works = s.works)) ∧
      (s.salvoState k = SALVO_STATE.loaded → s.rd o4010_SALVO_ANCHOR_FCNT k = 0 → s.admits port o4010_SALVO_CMD k (.int SALVO_CMD.take) = true →
        let check := (s.begin t).checkItems c (s.begin t).routeFrame [] (s.salvoItems k) 0
        (check = none → ∃ u, exec (.salvoTake t port k) s = .next u ∧ u.last = ⟨0, none⟩ ∧ u.rd o4010_SALVO_ERROR k = 0 ∧
          (u.salvoState k = SALVO_STATE.pending ∨ u.salvoState k = SALVO_STATE.applied) ∧
          ∀ dst (src : Nat) r, .video dst src ∈ s.salvoItems k → destRow dst = some r → u.rd o4002_PENDING_SOURCE r = src) ∧
        ∀ code e, check = some (code, e) → ∃ u, exec (.salvoTake t port k) s = .next u ∧ u.last = ⟨code, none⟩ ∧ u.salvoState k = SALVO_STATE.refused ∧
          u.rd o4010_SALVO_ERROR k = code ∧ u.rd o4010_SALVO_ERROR_ENTRY k = e ∧ u.works = s.works))

/-- The life of a task (R225-R241): an accepted creation takes a row, waiting, under a new handle; a full table is BUSY; a cancel of a waiting or ready task is noted and takes place at
the next round of either kind; a free worker of class 'notify' dispatches the head of its list and the session gets its EVENT; once the service time has passed the task ends 'done' or
'failed'. -/
def Obligations.TasksLiveAndEnd : Prop :=
  ∀ (s : State) (t port : Nat) (c : Ctx), s.powered = true →
    (s.ctxOf port = some c → s.admits port o4201_TASK_CMD 0 (.int TASK_CMD.create) = true →
      let x := s.taskWritten c
      valueFits x.kind x.value = true → s.keyFits x = true → (x.kind = TASK_KIND_READ.write → targetFits x.target x.value = true) →
      s.tasksHeld port x.session < s.rdN o4200_SESSION_TASK_LIMIT 0 →
        (∀ r, s.freeRow = some r → ∃ u y, exec (.taskCreate t port) s = .next u ∧ u.last = ⟨0, none⟩ ∧ u.taskState r = TASK_STATE.waiting ∧
          u.rd o4202_TASK_HANDLE r = s.nextHandle r ∧ u.rd o4201_CMD_HANDLE port = s.nextHandle r ∧ storeGet r u.tlr.tasks = some y ∧
          y = { x with order := s.tlr.created + 1, fresh := true }) ∧
        (s.freeRow = none → ∃ u, exec (.taskCreate t port) s = .next u ∧ u.last = ⟨1, none⟩ ∧ u.tlr = s.tlr ∧ u.rd o4201_CMD_RESULT port = 1)) ∧
    (∀ x, s.ctxOf port = some c → s.admits port o4201_TASK_CMD 0 (.int TASK_CMD.cancel) = true →
      let h := s.rdN o4201_CMD_HANDLE port
      storeGet (h % 4096) s.tlr.tasks = some x → s.rdN o4202_TASK_HANDLE (h % 4096) = h → c.part = none ∨ x.part = c.part → x.kind ≠ TASK_KIND_READ.salvo_anchor →
      s.taskState (h % 4096) = TASK_STATE.waiting ∨ s.taskState (h % 4096) = TASK_STATE.ready →
        ∃ u, exec (.taskCancel t port) s = .next u ∧ u.last = ⟨0, none⟩ ∧ u.rd o4202_CANCEL_REQUESTED (h % 4096) = 1 ∧ u.taskState (h % 4096) = s.taskState (h % 4096) ∧
          s.keepsRegs u [(o4202_CANCEL_REQUESTED, h % 4096), (o4201_CMD_RESULT, port)] ∧ storeGet (h % 4096) u.tlr.tasks = some { x with cancelled := s.tlr.cancels } ∧
          ∀ k, k ≠ h % 4096 → storeGet k u.tlr.tasks = storeGet k s.tlr.tasks) ∧
    (∀ r x, (r, x) ∈ s.tlr.tasks → s.isOn o4202_CANCEL_REQUESTED r = true → s.taskState r = TASK_STATE.waiting ∨ s.taskState r = TASK_STATE.ready →
      (∃ u, exec (.timeGridInstant t) s = .next u ∧ u.taskState r = TASK_STATE.cancelled ∧ u.rd o4202_END_REASON r = END_REASON.cancelled_before_dispatch) ∧
      ∀ d misses touched, d < 4 → ∃ u, exec (.ledgerCycleStart t d misses touched) s = .next u ∧ u.taskState r = TASK_STATE.cancelled ∧
        u.rd o4202_END_REASON r = END_REASON.cancelled_before_dispatch) ∧
    (∀ r x y, s.workerFree 4 = true → s.readyHead 4 = some (r, x) → (s.port x.port).session = some y → s.isStandby = false →
      ∃ u, exec (.taskDispatch t 4) s = .next u ∧ u.taskState r = TASK_STATE.dispatched ∧ u.rd o4200_DISPATCHES 0 = (s.rd o4200_DISPATCHES 0 + 1) % objModulus o4200_DISPATCHES ∧
        .sdp x.port y.addr y.udp (sessionMsg y 0x20 y.eventSeq 0 0 (leBytes 2 1 ++ leBytes 2 28 ++ (leBytes 4 (s.rdN o4202_TASK_HANDLE r) ++ leBytes 1 x.value.length ++ zeros 3 ++
          fieldBytes 8 x.value ++ leBytes 12 (s.begin t).time96))) ∈ u.out) ∧
    ∀ r x, storeGet r s.tlr.tasks = some x → s.taskState r = TASK_STATE.dispatched → x.dispatchedAt + x.service ≤ max s.now t →
      ∃ u, exec (.taskComplete t r) s = .next u ∧ u.taskState r = (if x.result = 0 then TASK_STATE.done else TASK_STATE.failed) ∧ u.rd o4202_OUTCOME r = x.result ∧
        u.rd o4202_END_REASON r = (if x.result = 0 then END_REASON.completed else END_REASON.refused_by_worker)

/-- The guards of the mints (R258, R259, R277, R278): whatever the content, a rectangle whose ladder's last ceiling times its CTUs is within the frame budget spends no more clocks than
that budget; one whose share is at least 8 bytes per CTU takes no more bits than its share; and every CTU is coded once, at some tier. -/
def Obligations.GuardsKeepTheBudgets : Prop :=
  ∀ (e : CodeEnv) (cs : List Ctu),
    (e.missed = [] → e.ctus * e.ceiling e.last ≤ e.frame → (e.rect cs).spent ≤ e.frame) ∧
    (64 * e.ctus ≤ 8 * e.share → (e.rect cs).bits ≤ 8 * e.share) ∧
    (e.tiers.length ≤ 8 → (e.rect cs).perTier.sum = e.ctus)

/-- Every access unit fits (R251, R262, R264, R274, R277, R278, R289): at its instant a channel hands over the picture next in decoding order as one access unit, which takes no more than
AU_MAX_BYTES whatever the content when every share is at least 8 bytes per CTU, and uses no tool that the mints never emit; the picture is counted, twice for 1080i; the slot carries the
system clock as PCR, DTS is its base plus D_90, and PTS equals DTS but in 'look-ahead'. -/
def Obligations.AccessUnitsFitTheirSlots : Prop :=
  ∀ (s : State) (t ch due pcr : Nat) (dues : List (Nat × Nat)) (au : AuContent) (p : PlanMint) (ld : Ladder) (pic : MintPic) (rest : List MintPic) (ahead : Bool), s.powered = true →
    s.mintPlan ch = some (p, ld) → (s.mint ch).dues = (due, pcr) :: dues → takePic (p.mode == 2) (s.mint ch).ahead (s.mint ch).pics = some (pic, rest, ahead) → due ≤ max s.now t →
    2048 ≤ auMaxBytes pic.plan → (∀ n ∈ rectCtus pic.plan.fmt pic.plan.codec, 8 * n ≤ shareBytes pic.plan n) →
    ∃ u bytes y ck, exec (.accessUnitHandover t ch au []) s = .next u ∧ .au ch pic.fcnt bytes pic.rap pic.override y ∈ u.out ∧ (∀ x ∈ neverEmitted, x ∉ y.tools) ∧
      (u.mint ch).slots.head?.map (·.clock) = some ck ∧ ck.pcr = pcr % pcrModulus ∧ ck.dts = (pcr / 300 + cpbDelay pic.plan) % ptsModulus ∧ (pic.plan.mode ≠ 2 → ck.pts = ck.dts) ∧
      (pic.rap = true → ck.rai = true) ∧ bytes ≤ auMaxBytes pic.plan ∧ u.rd o5101_LAST_AU_BYTES ch = bytes ∧
      u.rd o5003_PICTURES_CODED ch = (s.rd o5003_PICTURES_CODED ch + (if fmtInterlaced pic.plan.fmt then 2 else 1)) % objModulus o5003_PICTURES_CODED ∧
      (u.mint ch).dues = dues ∧ (u.mint ch).pics = rest ∧ (u.mint ch).any = true

/-- Writes to an encoder (R263, R279, R284, R295): an override is held for the next picture with ENC_OVERRIDE while it is not 'none'; a request for a random access point waits for the next
picture; the rate parameters are held while MIN_QP stays at or below MAX_QP and no HEVC QP is above 51, and are refused with 1102h or RANGE otherwise. -/
def Obligations.EncoderWritesWaitForAPicture : Prop :=
  ∀ (s : State) (t port ch : Nat) (v : Int), s.powered = true →
    (s.admits port o5001_INPUT_OVERRIDE ch (.int v) = true → ∃ u, exec (.inputOverride t port ch v) s = .next u ∧ u.last = ⟨0, none⟩ ∧ u.rd o5001_INPUT_OVERRIDE ch = v ∧
      u.mint ch = { s.mint ch with overrideNew := true } ∧ (u.stands .ENC_OVERRIDE ch ↔ v ≠ INPUT_OVERRIDE.none)) ∧
    (s.admits port o5100_RAP_REQUEST ch (.int RAP_REQUEST.idr) = true → ∃ u, exec (.rapRequest t port ch) s = .next u ∧ u.last = ⟨0, none⟩ ∧
      u.mint ch = { s.mint ch with rapNew := true } ∧ s.keepsRegs u []) ∧
    ∀ o ∈ [o5100_BASE_QP, o5100_MIN_QP, o5100_MAX_QP, o5100_RC_TARGET_FILL], s.admits port o ch (.int v) = true →
      let lo := if o = o5100_MIN_QP then v else s.rd o5100_MIN_QP ch
      let hi := if o = o5100_MAX_QP then v else s.rd o5100_MAX_QP ch
      let wide := o ≠ o5100_RC_TARGET_FILL ∧ s.rd o5000_ENC_CODEC ch = ENC_CODEC.hevc ∧ 51 < v
      (¬ wide → lo ≤ hi → ∃ u, exec (.rcParameterWrite t port o ch v) s = .next u ∧ u.last = ⟨0, none⟩ ∧ u.rd o ch = v ∧ s.keepsRegs u [(o, ch)] ∧ u.works = s.works) ∧
      (¬ wide → hi < lo → ∃ u, exec (.rcParameterWrite t port o ch v) s = .next u ∧ u.last = ⟨0x1102, none⟩ ∧ s.keepsRegs u [] ∧ u.works = s.works) ∧
      (wide → ∃ u, exec (.rcParameterWrite t port o ch v) s = .next u ∧ u.last = ⟨stRANGE, none⟩ ∧ s.keepsRegs u [] ∧ u.works = s.works)

/-- Commits (R316-R322): a mask that passes its check is accepted with the next COMMIT_SEQ, and its layers leave STAGED_MASK; one that fails carries its code and its first failing layer
and changes nothing else; a discard takes away what has not applied and does not flatten, on the second member of a gang it is refused; a group commit is taken whole or not at all; a plate is built for the commit that waits for it.
No latch instant has come since the last command here. -/
def Obligations.CommitsAreCheckedAndQueued : Prop :=
  ∀ (s : State) (t port c : Nat) (x : Ctx), s.powered = true → s.ctxOf port = some x → (s.begin t).compsPlanned.filter (s.begin t).latchDue = [] →
    let check (c mask : Nat) : CommitPlan := (s.begin t).checkCommit (hasRole x.roles roleSEAL) c mask
    (∀ mask : Nat, mask < 512 → s.admits port o6000_COMMIT c (.int mask) = true →
      (∀ k, (check c mask).commit = some k → ∃ u, exec (.commit t port c mask) s = .next u ∧ u.last = ⟨0, none⟩ ∧ u.rd o6000_COMMIT_RESULT c = 0 ∧ u.rd o6000_COMMIT_SEQ c = k.seq ∧
        k.seq = (s.rdN o6000_COMMIT_SEQ c + 1) % 4294967296 ∧ k ∈ (u.comp c).pend ∧ (u.comp c).layers = (s.comp c).layers ∧
        u.rd o6000_STAGED_MASK c = (s.rdN o6000_STAGED_MASK c &&& (511 - mask) : Nat)) ∧
      ((check c mask).commit = none → ∃ u, exec (.commit t port c mask) s = .next u ∧ u.last = ⟨(check c mask).code, none⟩ ∧ u.rd o6000_COMMIT_RESULT c = (check c mask).code ∧
        u.rd o6000_COMMIT_ERROR_LAYER c = (check c mask).layer ∧ s.keepsRegs u [(o6000_COMMIT_RESULT, c), (o6000_COMMIT_ERROR_LAYER, c)] ∧ u.works = s.works)) ∧
    (s.admits port o6000_COMMIT_DISCARD c (.int 0) = true →
      (s.rd o6000_COMP_STATE c ≠ COMP_STATE.gang_second → ∃ u, exec (.commitDiscard t port c) s = .next u ∧ u.last = ⟨0, none⟩ ∧
        (u.comp c).pend = (s.comp c).pend.filter Commit.flat ∧ (u.comp c).layers = (s.comp c).layers) ∧
      (s.rd o6000_COMP_STATE c = COMP_STATE.gang_second → ∃ u, exec (.commitDiscard t port c) s = .next u ∧ u.last = ⟨0x1208, none⟩ ∧ s.keepsRegs u [] ∧ u.works = s.works)) ∧
    (∀ mask : Nat, s.admits port o6001_GROUP_COMMIT 0 (.int mask) = true →
      let cs := (List.range 32).filter (fun i => mask.testBit i)
      (∀ k i, (s.begin t).groupFault x cs = some (k, i) → ∃ u, exec (.groupCommit t port mask) s = .next u ∧ u.last = ⟨k, none⟩ ∧ u.rd o6001_GROUP_RESULT 0 = k ∧
        u.rd o6001_GROUP_ERROR_COMP 0 = i ∧ s.keepsRegs u [(o6001_GROUP_RESULT, 0), (o6001_GROUP_ERROR_COMP, 0)] ∧ u.works = s.works) ∧
      ((s.begin t).groupFault x cs = none → ∃ u, exec (.groupCommit t port mask) s = .next u ∧ u.last = ⟨0, none⟩ ∧ u.rd o6001_GROUP_RESULT 0 = 0 ∧
        u.rd o6001_GROUP_ERROR_COMP 0 = 255 ∧ ∀ i ∈ cs, ∃ k ∈ (u.comp i).pend, k.seq = (s.rdN o6000_COMMIT_SEQ i + 1) % 4294967296 ∧ u.rd o6000_COMMIT_SEQ i = k.seq)) ∧
    ∀ g y, s.groupCommits g = [(c, y)] →
      (y.plate = .queued → ∃ u, exec (.plateBuildStart t g) s = .next u ∧ (u.comp c).pend = (s.comp c).pend.map (fun z => if z.seq = y.seq then { z with plate := .building } else z)) ∧
      (y.plate = .building → ∃ u, exec (.plateBuildComplete t g) s = .next u ∧ (u.comp c).pend = (s.comp c).pend.map (fun z => if z.seq = y.seq then { z with plate := .built } else z))

/-- The life of a surface (R306-R312): 'create' of a free surface that fits its pool loads it; data joins it at the offset, which advances; 'close' checks it; the right CRC of the right
length makes it 'ready', anything else rejects it with 1304h; 'open' loads it afresh; 'retire' waits for the end of the cycle, of a rejected surface it does not; a forced one blanks the layers that show it. No latch instant
has come since the last command here. -/
def Obligations.SurfacesLoadAndRetire : Prop :=
  ∀ (s : State) (t port h : Nat), s.powered = true → (s.begin t).compsPlanned.filter (s.begin t).latchDue = [] →
    let st := s.rd o6100_SURF_STATE h
    let n := s.surfBytes h
    (s.admits port o6100_SURF_CMD h (.int SURF_CMD.create) = true → st = SURF_STATE.free → s.surfShapeOk h = true → s.rdN o6101_POOL_BYTES (h / 2048) ≠ 0 →
      (n ≤ s.rdN o6101_POOL_FREE (h / 2048) → ∃ u, exec (.surfCreate t port h) s = .next u ∧ u.last = ⟨0, none⟩ ∧ u.rd o6100_SURF_STATE h = SURF_STATE.loading ∧
        u.surf h = { held := n } ∧ u.rd o6100_SURF_XFER_OFFSET h = 0 ∧ u.rd o6100_SURF_RESULT h = 0) ∧
      (s.rdN o6101_POOL_FREE (h / 2048) < n → ∃ u, exec (.surfCreate t port h) s = .next u ∧ u.last = ⟨0x1301, none⟩ ∧ u.rd o6100_SURF_RESULT h = 0x1301 ∧
        s.keepsRegs u [(o6100_SURF_RESULT, h)] ∧ u.works = s.works)) ∧
    (∀ data, s.admits port o6100_SURF_XFER_DATA h (.bytes data) = true → st = SURF_STATE.loading →
      let o := s.rdN o6100_SURF_XFER_OFFSET h
      (o + data.length ≤ n → ∃ u, exec (.surfXferData t port h data) s = .next u ∧ u.last = ⟨0, none⟩ ∧ u.rdN o6100_SURF_XFER_OFFSET h = o + data.length ∧
        ∀ i < data.length, storeGet (o + i) (u.surf h).bytes = data[i]?) ∧
      (n < o + data.length → ∃ u, exec (.surfXferData t port h data) s = .next u ∧ u.last = ⟨stRANGE, none⟩ ∧ u.works = s.works)) ∧
    (s.admits port o6100_SURF_CMD h (.int SURF_CMD.close) = true → st = SURF_STATE.loading → (s.surf h).freeing = false →
      ∃ u, exec (.surfClose t port h) s = .next u ∧ u.last = ⟨0, none⟩ ∧ u.rd o6100_SURF_STATE h = SURF_STATE.checking ∧ u.works = s.works) ∧
    (∀ units, st = SURF_STATE.checking →
      ((s.surf h).bytes.length = n → crc32c ((s.surf h).bytes.map (·.2)) = s.rdN o6100_SURF_CRC32C h → ∃ u, exec (.surfCheckDone t h units) s = .next u ∧
        u.rd o6100_SURF_STATE h = SURF_STATE.ready ∧ u.rd o6100_DAMAGED h = 0) ∧
      ((s.surf h).bytes.length ≠ n ∨ crc32c ((s.surf h).bytes.map (·.2)) ≠ s.rdN o6100_SURF_CRC32C h → ∃ u, exec (.surfCheckDone t h units) s = .next u ∧
        u.rd o6100_SURF_STATE h = SURF_STATE.rejected ∧ u.rd o6100_SURF_RESULT h = 0x1304 ∧ u.works = s.works)) ∧
    (s.admits port o6100_SURF_CMD h (.int SURF_CMD.open) = true → st = SURF_STATE.ready ∨ st = SURF_STATE.rejected → (s.surf h).freeing = false →
      ∃ u, exec (.surfOpen t port h) s = .next u ∧ u.last = ⟨0, none⟩ ∧ u.rd o6100_SURF_STATE h = SURF_STATE.loading ∧ (u.surf h).bytes = [] ∧ u.rd o6100_SURF_XFER_OFFSET h = 0) ∧
    (s.admits port o6100_SURF_CMD h (.int SURF_CMD.retire) = true →
      (st = SURF_STATE.ready ∨ st = SURF_STATE.loading → ∃ u, exec (.surfRetire t port h) s = .next u ∧ u.last = ⟨0, none⟩ ∧ u.rd o6100_SURF_STATE h = st ∧
        u.surf h = { s.surf h with freeing := true }) ∧
      (st = SURF_STATE.rejected → ∃ u, exec (.surfRetire t port h) s = .next u ∧ u.last = ⟨0, none⟩ ∧ u.rd o6100_SURF_STATE h = SURF_STATE.free)) ∧
    ∀ x, s.ctxOf port = some x → reaches x.roles true = true → s.admits port o6100_SURF_CMD h (.int SURF_CMD.force_retire) = true → st ≠ SURF_STATE.free →
      ∃ u, exec (.surfForceRetire t port h) s = .next u ∧ u.last = ⟨0, none⟩ ∧ (u.surf h).freeing = true ∧ u.rd o6100_REFERENCES h = 0 ∧
        ∀ c ∈ s.cmp.comps.map (·.1), ∀ (l : Nat) (y : LayerCfg), (u.comp c).layers[l]? = some y → y.surface ≠ h

/-- Pixels that a frame can show stay (R309): a write of pixel data, and an 'open', to a surface in 'in use' or 'escrow' is refused with 1302h, and nothing of the surface or of any
other changes; for the 'open', no latch instant has come since the last command. -/
def Obligations.ShownSurfacesAreNotWritten : Prop :=
  ∀ (s : State) (t port h : Nat), s.powered = true → s.rd o6100_SURF_STATE h = SURF_STATE.in_use ∨ s.rd o6100_SURF_STATE h = SURF_STATE.escrow →
    (∀ data, s.admits port o6100_SURF_XFER_DATA h (.bytes data) = true → ∃ u, exec (.surfXferData t port h data) s = .next u ∧ u.last = ⟨0x1302, none⟩ ∧
      u.rd o6100_SURF_RESULT h = 0x1302 ∧ s.keepsRegs u [(o6100_SURF_RESULT, h)] ∧ u.works = s.works) ∧
    ((s.begin t).compsPlanned.filter (s.begin t).latchDue = [] → s.admits port o6100_SURF_CMD h (.int SURF_CMD.open) = true →
      ∃ u, exec (.surfOpen t port h) s = .next u ∧ u.last = ⟨0x1302, none⟩ ∧
      u.rd o6100_SURF_RESULT h = 0x1302 ∧ s.keepsRegs u [(o6100_SURF_RESULT, h)] ∧ u.works = s.works)

/-- Heads, monitors and the limits of the sealed layer (R328, R344, R350): a head commit that passes its check waits for its latch instant, one that fails names its code and tile and leaves
the head; a run of frozen or black frames that reaches its limit raises its alarm once and is counted; the sealed layer's limits raise their alarms and nothing is raised below them. No
latch instant has come since the last command here. -/
def Obligations.LimitsRaiseTheirAlarms : Prop :=
  ∀ (s : State) (t port r : Nat), s.powered = true → (s.begin t).latchHeads = s.begin t → (s.begin t).compsPlanned.filter (s.begin t).latchDue = [] →
    (s.admits port o6220_HEAD_COMMIT r (.int HEAD_COMMIT.commit) = true →
      (∀ y, (s.begin t).checkHead r = (0, 255, some y) → ∃ u, exec (.headCommit t port r) s = .next u ∧ u.last = ⟨0, none⟩ ∧ (u.head r).pend = (s.head r).pend ++ [y] ∧
        (u.head r).tiles = (s.head r).tiles ∧ u.rd o6220_HEAD_RESULT r = 0) ∧
      ∀ k i, k ≠ 0 → (s.begin t).checkHead r = (k, i, none) → ∃ u, exec (.headCommit t port r) s = .next u ∧ u.last = ⟨k, none⟩ ∧ u.rd o6220_HEAD_RESULT r = k ∧
        u.rd o6220_HEAD_ERROR_TILE r = i ∧ u.works = s.works) ∧
    (let reached := runReached (s.td (s.destDomain r)).rate (s.rdN o6210_FREEZE_RUN_FRAMES r) (s.rdN o6211_FREEZE_LIMIT_MS 0)
     (s.rd o6210_MON_STATE r = MON_STATE.frozen → reached = true → s.instActive .MON_FREEZE r = false → ∃ u, exec (.monFreezeLimit t r) s = .next u ∧ u.stands .MON_FREEZE r ∧
       u.rd o6210_FREEZE_EVENTS r = (s.rd o6210_FREEZE_EVENTS r + 1) % objModulus o6210_FREEZE_EVENTS) ∧
     (reached = false ∨ s.instActive .MON_FREEZE r = true → ∃ u, exec (.monFreezeLimit t r) s = .next u ∧ u.regs = s.regs ∧ u.alm = s.alm)) ∧
    (let reached := runReached (s.td (s.destDomain r)).rate (s.rdN o6210_BLACK_RUN_FRAMES r) (s.rdN o6211_BLACK_LIMIT_MS 0)
     (s.rd o6210_MON_STATE r = MON_STATE.black → reached = true → s.instActive .MON_BLACK r = false → ∃ u, exec (.monBlackLimit t r) s = .next u ∧ u.stands .MON_BLACK r ∧
       u.rd o6210_BLACK_EVENTS r = (s.rd o6210_BLACK_EVENTS r + 1) % objModulus o6210_BLACK_EVENTS) ∧
     (reached = false ∨ s.instActive .MON_BLACK r = true → ∃ u, exec (.monBlackLimit t r) s = .next u ∧ u.regs = s.regs ∧ u.alm = s.alm)) ∧
    (s.rdN o6000_SEALED_LAYER r ≠ 255 →
      (s.rd o6004_SEAL_LIMIT r ≤ (s.comp r).excused → ∃ u, exec (.sealExcusedLimit t r) s = .next u ∧ u.stands .COMP_SEAL_MISMATCH r) ∧
      ((s.comp r).excused < s.rd o6004_SEAL_LIMIT r → ∃ u, exec (.sealExcusedLimit t r) s = .next u ∧ u.regs = s.regs ∧ u.alm = s.alm) ∧
      (s.rd o6004_SEAL_LIMIT r ≤ s.rd o6003_CONSECUTIVE_NOT_READY (layerRow r (s.rdN o6000_SEALED_LAYER r)) → ∃ u, exec (.sealNotReadyLimit t r) s = .next u ∧
        u.stands .COMP_SEAL_NOT_READY r) ∧
      (s.rd o6003_CONSECUTIVE_NOT_READY (layerRow r (s.rdN o6000_SEALED_LAYER r)) < s.rd o6004_SEAL_LIMIT r → ∃ u, exec (.sealNotReadyLimit t r) s = .next u ∧
        u.regs = s.regs ∧ u.alm = s.alm))

/-- Stored words (R358, R359, R362-R364, R367): a write-back makes its word whole, or poison, counted, and stores
nothing outside its word; the HBM walker passes one word at a time and counts what it corrects; the copies
of a critical word vote; the first row of a memory's queue starts its copy, and a copy that ends leaves every word of the row whole or poison and takes the row off the queue. -/
def Obligations.StoredWordsAreKeptWhole : Prop :=
  ∀ (s : State) (t : Nat), s.powered = true →
    (∀ unit b l, s.backsOf unit = b :: l →
      (b.poison = false → (s.setBacks unit l).backPending b.addr = false → ∃ u, exec (.writeback t unit) s = .next u ∧ u.backsOf unit = l ∧ u.wordErr b.addr = {} ∧ (∀ a, wordBase a ≠ wordBase b.addr → u.wordErr a = s.wordErr a) ∧
        s.keepsRegs u [(o1502_RING_DISCARDED, 0), (o1503_VAULT_STATE, 0)] ∧ u.mem = s.mem) ∧
      (b.poison = true → ∃ u, exec (.writeback t unit) s = .next u ∧ u.backsOf unit = l ∧ u.wordErr b.addr = { poison := true } ∧
        (∀ a, wordBase a ≠ wordBase b.addr → u.wordErr a = s.wordErr a) ∧ u.rd o7000_POISON_WRITTEN 0 = (s.rd o7000_POISON_WRITTEN 0 + 1) % 2 ^ 64 ∧
        s.keepsRegs u [(o7000_POISON_WRITTEN, 0)] ∧
        ∀ x, ¬ (b.addr ≤ x ∧ x < b.addr + (if inSram b.addr then 8 else 32)) → memRead u.mem x = memRead s.mem x)) ∧
    (∀ w, s.rd o7001_AUDITOR_MODE 0 ≠ AUDITOR_MODE.off → s.rdN o7001_HBM_POSITION 0 % 32 = 0 → s.rdN o7001_HBM_POSITION 0 + 32 < hbmBytes →
      let found := (s.flip { w with addr := s.rdN o7001_HBM_POSITION 0 }).wordErr (s.rdN o7001_HBM_POSITION 0)
      ∃ u, exec (.auditorWord t false w []) s = .next u ∧ u.rdN o7001_HBM_POSITION 0 = s.rdN o7001_HBM_POSITION 0 + 32 ∧
        (verdict false w.misplaced found = .corrected → u.rd o7000_HBM_CORRECTED 0 = (s.rd o7000_HBM_CORRECTED 0 + 1) % 2 ^ 64) ∧
        (verdict false w.misplaced found = .uncorrectable → s.backPending (s.rdN o7001_HBM_POSITION 0) = false →
          u.rd o7000_HBM_UNCORRECTABLE 0 = (s.rd o7000_HBM_UNCORRECTABLE 0 + 1) % 2 ^ 64 ∧ u.rdN o7009_ERR_ADDR 0 = s.rdN o7001_HBM_POSITION 0 ∧
          u.rd o7009_ERR_KIND 0 = ERR_KIND.uncorrectable ∧ u.rd o7009_ERR_FOUND_BY 0 = ERR_FOUND_BY.auditor)) ∧
    (∀ w k copies, s.rd o7001_AUDITOR_MODE 0 = AUDITOR_MODE.off → k < 64 →
      (vote copies = .agree → ∃ u, exec (.auditorWord t false w [(k, copies)]) s = .next u ∧ s.keepsRegs u [] ∧ u.works = s.works) ∧
      (vote copies = .rewritten → ∃ u, exec (.auditorWord t false w [(k, copies)]) s = .next u ∧ u.rd o7006_TMR_CORRECTIONS 0 = (s.rd o7006_TMR_CORRECTIONS 0 + 1) % 2 ^ 64 ∧
        s.keepsRegs u [(o7006_TMR_CORRECTIONS, 0)] ∧ u.works = s.works) ∧
      (vote copies = .lost → ∃ u, exec (.auditorWord t false w [(k, copies)]) s = .next u ∧ u.rd o7006_TMR_WORDS_LOST 0 = (s.rd o7006_TMR_WORDS_LOST 0 + 1) % 256)) ∧
    (∀ m r l, s.rowsOf m = r :: l →
      (∃ u, exec (.rowCopyStart t m) s = .next u ∧ u.rowsOf m = { r with started := true } :: l ∧ (∀ k, k ≠ m → u.rowsOf k = s.rowsOf k) ∧ s.keepsRegs u [] ∧ u.mem = s.mem) ∧
      (r.started = true → ∀ touched, ∃ u, exec (.rowCopyComplete t m touched) s = .next u ∧ l <+: u.rowsOf m ∧
        ∀ a, wordBase a = a → sameRow a r.addr = true → u.wordErr a = {} ∨ (u.wordErr a).poison = true))

/-- Injection, the auditor's mode and granules (R361, R363, R370): 'inject' writes a word that the map gives class 0, or any word with no bank active, with the chosen errors, and is
refused with 1701h elsewhere; MEM_AUDITOR_OFF stands exactly while the mode is 'off'; a granule whose reload has the kept CRC-32C is whole, and the alarm of its bank goes with its
last one; one with another CRC is reloaded no more. -/
def Obligations.DiagnosisActsOnMemory : Prop :=
  ∀ (s : State) (t port : Nat), s.powered = true →
    (let a := s.rdN o7008_INJECT_ADDR 0; s.admits port o7008_INJECT_CMD 0 (.int INJECT_CMD.inject) = true → a % 32 = 0 → a < hbmBytes →
      (s.activeBank = none ∨ s.activeClass a = 0 → ∃ u, exec (.injectCmd t port) s = .next u ∧ u.last = ⟨0, none⟩ ∧ u.rd o7008_INJECT_RESULT 0 = 0 ∧
        u.wordErr a = { data := leNat (s.rdOct o7008_INJECT_DATA_MASK 0), check := s.rdN o7008_INJECT_CHECK_MASK 0 } ∧ (∀ b, wordBase b = b → b ≠ a → (u.wordErr b) = s.wordErr b)) ∧
      (s.activeBank ≠ none → s.activeClass a ≠ 0 → ∃ u, exec (.injectCmd t port) s = .next u ∧ u.last = ⟨0x1701, none⟩ ∧ u.rd o7008_INJECT_RESULT 0 = 0x1701 ∧
        s.keepsRegs u [(o7008_INJECT_RESULT, 0)] ∧ u.works = s.works)) ∧
    (∀ mode, s.admits port o7001_AUDITOR_MODE 0 (.int mode) = true → ∃ u, exec (.auditorMode t port mode) s = .next u ∧ u.last = ⟨0, none⟩ ∧ u.rd o7001_AUDITOR_MODE 0 = mode ∧
      (u.stands .MEM_AUDITOR_OFF noInst ↔ mode = AUDITOR_MODE.off) ∧
      u.rd o7001_AUDITOR_STATE 0 = (if mode = AUDITOR_MODE.off then AUDITOR_STATE.off else if s.pwr.slowed then AUDITOR_STATE.slowed else AUDITOR_STATE.running)) ∧
    (∀ b g data x, s.itg.granules.find? (fun y => y.bank == b && y.granule == g && y.reloading) = some x →
      (crc32c data = crc32c (slice (4096 * g) 4096 (s.bank b).raw) → ∃ u, exec (.granuleReload t b g data) s = .next u ∧ u.itg.granules = s.itg.granules.filter (fun y => y != x) ∧
        ((∀ y ∈ s.itg.granules, y.bank = b → y = x) → ¬ u.stands .MEM_LEDGER_POISON b)) ∧
      (crc32c data ≠ crc32c (slice (4096 * g) 4096 (s.bank b).raw) → ∃ u, exec (.granuleReload t b g data) s = .next u ∧ { x with reloading := false } ∈ u.itg.granules ∧
        u.alm = s.alm ∧ s.keepsRegs u [] ∧ u.mem = s.mem))

/-- Tally units (R371, R372, R374): a session claims a free channel and releases it; data of the claiming session joins RUNNING; 'reset' loads the initial value; 'close' puts the
reflected and inverted register into RESULT and reloads it; 'run' takes the bytes of its range, whose end feeds them; a session without the claim is refused with 1711h. -/
def Obligations.TallyChannelsCompute : Prop :=
  ∀ (s : State) (t port ch : Nat), s.powered = true →
    (s.admits port o7100_TALLY_CLAIM ch (.int 1) = true → s.claimedBy ⟨port, 31, none⟩ ch = false →
      (s.rd o7100_TALLY_USE ch = TALLY_USE.free → ∃ u, exec (.tallyClaim t port ch true) s = .next u ∧ u.last = ⟨0, none⟩ ∧ u.rd o7100_TALLY_USE ch = TALLY_USE.claimed ∧
        u.rd o7100_TALLY_CLAIM ch = 1 ∧ u.claimedBy ⟨port, 31, none⟩ ch = true ∧ s.keepsRegs u [(o7100_TALLY_USE, ch), (o7100_TALLY_CLAIM, ch)]) ∧
      (s.rd o7100_TALLY_USE ch ≠ TALLY_USE.free → ∃ u, exec (.tallyClaim t port ch true) s = .next u ∧ u.last = ⟨0x1711, none⟩ ∧ s.keepsRegs u [] ∧ u.works = s.works)) ∧
    (s.admits port o7100_TALLY_CLAIM ch (.int 0) = true → s.claimedBy ⟨port, 31, none⟩ ch = true → ∃ u, exec (.tallyClaim t port ch false) s = .next u ∧ u.last = ⟨0, none⟩ ∧
      u.rd o7100_TALLY_USE ch = TALLY_USE.free ∧ u.rd o7100_TALLY_CLAIM ch = 0 ∧ u.claimedBy ⟨port, 31, none⟩ ch = false) ∧
    (∀ data, s.admits port o7100_FEED_DATA ch (.bytes data) = true →
      (s.claimedBy ⟨port, 31, none⟩ ch = false → ∃ u, exec (.feedData t port ch data) s = .next u ∧ u.last = ⟨0x1711, none⟩ ∧ s.keepsRegs u [] ∧ u.works = s.works) ∧
      (s.claimedBy ⟨port, 31, none⟩ ch = true → s.tallyState ch ≠ TALLY_STATE.running →
        (data.length % s.feedBytes ch ≠ 0 → ∃ u, exec (.feedData t port ch data) s = .next u ∧ u.last = ⟨0x1712, none⟩ ∧ s.keepsRegs u [] ∧ u.works = s.works) ∧
        (data.length % s.feedBytes ch = 0 → ¬ (s.rd o7100_POLY_SELECT ch = POLY_SELECT.st292 ∧ s.feedBytes ch ≠ 2) →
          ∃ u, exec (.feedData t port ch data) s = .next u ∧ u.last = ⟨0, none⟩ ∧ u.rdN o7100_RUNNING ch = (s.poly ch).feedAll (s.feedBytes ch) data (s.rdN o7100_RUNNING ch) ∧
            u.rd o7100_BYTES_FED ch = (s.rd o7100_BYTES_FED ch + data.length) % 2 ^ 64 ∧ u.tallyState ch = TALLY_STATE.feeding ∧
            s.keepsRegs u [(o7100_RUNNING, ch), (o7100_BYTES_FED, ch), (o7100_TALLY_STATE, ch)] ∧ u.works = s.works))) ∧
    (s.claimedBy ⟨port, 31, none⟩ ch = true → s.tallyState ch ≠ TALLY_STATE.running →
      (s.admits port o7100_TALLY_CMD ch (.int TALLY_CMD.reset) = true → ∃ u, exec (.tallyReset t port ch) s = .next u ∧ u.last = ⟨0, none⟩ ∧ u.rdN o7100_RUNNING ch = (s.poly ch).init ∧
        u.rd o7100_BYTES_FED ch = 0 ∧ u.tallyState ch = TALLY_STATE.idle ∧ s.keepsRegs u [(o7100_RUNNING, ch), (o7100_BYTES_FED, ch), (o7100_TALLY_STATE, ch)] ∧ u.works = s.works) ∧
      (s.admits port o7100_TALLY_CMD ch (.int TALLY_CMD.close) = true → ∃ u, exec (.tallyClose t port ch) s = .next u ∧ u.last = ⟨0, none⟩ ∧ u.rdN o7100_RUNNING ch = (s.poly ch).init ∧
        u.rd o7100_BYTES_FED ch = 0 ∧ u.tallyState ch = TALLY_STATE.closed ∧
        (s.rd o7100_FOLD_MODE ch = FOLD_MODE.none → u.rdN o7100_RESULT ch = (s.poly ch).result (s.rdN o7100_RUNNING ch)) ∧
        (s.rd o7100_FOLD_MODE ch = FOLD_MODE.sequence → u.rdN o7100_FOLD_VALUE ch = (s.rdN o7100_FOLD_VALUE ch + s.rdN o7100_FOLD_STEP ch) % 2 ^ 64) ∧
        (s.rd o7100_FOLD_MODE ch = FOLD_MODE.address → u.rdN o7100_FOLD_VALUE ch = (s.rdN o7100_FOLD_VALUE ch + s.rdN o7100_BYTES_FED ch) % 2 ^ 64)) ∧
      (∀ c, s.ctxOf port = some c → s.admits port o7100_TALLY_CMD ch (.int TALLY_CMD.run) = true → s.rdN o7100_SRC_LENGTH ch % s.feedBytes ch = 0 →
        ¬ (s.rd o7100_POLY_SELECT ch = POLY_SELECT.st292 ∧ s.feedBytes ch ≠ 2) →
        (s.ownsRange c (s.rdN o7100_SRC_ADDR ch) (s.rdN o7100_SRC_LENGTH ch) = true → ∃ u, exec (.tallyRun t port ch) s = .next u ∧ u.last = ⟨0, none⟩ ∧
          u.tallyState ch = TALLY_STATE.running ∧ storeGet ch u.itg.runs = some ⟨s.rdN o7100_SRC_ADDR ch, s.rdN o7100_SRC_LENGTH ch, s.feedBytes ch⟩) ∧
        (s.ownsRange c (s.rdN o7100_SRC_ADDR ch) (s.rdN o7100_SRC_LENGTH ch) = false → ∃ u, exec (.tallyRun t port ch) s = .next u ∧ u.last = ⟨0x1714, none⟩ ∧
          s.keepsRegs u [] ∧ u.works = s.works))) ∧
    (∀ r, storeGet ch s.itg.runs = some r → ∃ u, exec (.tallyRunComplete t ch []) s = .next u ∧ u.tallyState ch = TALLY_STATE.feeding ∧ storeGet ch u.itg.runs = none ∧
      u.rdN o7100_RUNNING ch = (s.poly ch).feedAll r.width (memRange s.mem r.addr r.len) (s.rdN o7100_RUNNING ch) ∧ u.mem = s.mem)

/-- The check values of R373: on a channel of the session, in 'idle' with the initial value loaded and no folding, '123456789' and then 'close' leave CBF43926h ('crc32'), E3069283h
('crc32c') and 29B1h ('crc16-ccitt') in RESULT. -/
def Obligations.CheckValuesComeOut : Prop :=
  ∀ (s : State) (t port ch : Nat), s.powered = true → s.claimedBy ⟨port, 31, none⟩ ch = true → s.tallyState ch = TALLY_STATE.idle →
    s.rdN o7100_RUNNING ch = (s.poly ch).init → s.rd o7100_FOLD_MODE ch = FOLD_MODE.none → s.rd o7100_FEED_WIDTH ch = FEED_WIDTH.byte →
    s.admits port o7100_FEED_DATA ch (.bytes (ascii "123456789")) = true →
    ∃ u, exec (.feedData t port ch (ascii "123456789")) s = .next u ∧ (u.admits port o7100_TALLY_CMD ch (.int TALLY_CMD.close) = true →
      ∃ v, exec (.tallyClose t port ch) u = .next v ∧ v.last = ⟨0, none⟩ ∧
        (s.rd o7100_POLY_SELECT ch = POLY_SELECT.crc32 → v.rdN o7100_RESULT ch = 0xCBF43926) ∧
        (s.rd o7100_POLY_SELECT ch = POLY_SELECT.crc32c → v.rdN o7100_RESULT ch = 0xE3069283) ∧
        (s.rd o7100_POLY_SELECT ch = POLY_SELECT.crc16_ccitt → v.rdN o7100_RESULT ch = 0x29B1))

/-- A HELLO is answered with a CHALLENGE that carries a nonce of 32 bytes, bound to the sender; a port holds at most 4 pending challenges (R388). A LOGIN with a pending challenge of its sender, a usable key slot and the right proof opens the port's session with the roles of the slot and a new identifier (R388, R389). -/
def Obligations.HelloAndLoginOpenTheSession : Prop :=
  (∀ (s : State) (t port addr udp : Nat) (d : Bytes), s.powered = true → (s.begin t).hears port 1 d = true →
      (s.begin t).rd o1101_SESSION_STATE port ≠ SESSION_STATE.locked_out →
      ∃ u c, exec (.hello t port addr udp d) s = .next u ∧ c ∈ (u.port port).challenges ∧ c.addr = addr ∧ c.udp = udp ∧ c.issued = u.now ∧ c.nonce.length = 32 ∧
        (u.port port).challenges.length ≤ 4 ∧ u.out = s.out ++ [.sdp port addr udp (msgHeader 2 0 0 0 32 0 0 ++ c.nonce)]) ∧
  (∀ (s : State) (t port addr udp : Nat) (d : Bytes) (c : Challenge), s.powered = true → (s.begin t).hears port 3 d = true → fieldNat 12 2 d = 68 →
      (s.begin t).rd o1101_SESSION_STATE port ≠ SESSION_STATE.locked_out → (s.port port).session = none →
      c ∈ (s.port port).challenges → c.addr = addr → c.udp = udp → c.valid (max s.now t) = true →
      loginProof (s.keyBytes (fieldNat 0 1 (msgBody d))) c.nonce (slice 4 32 (msgBody d)) port addr udp = slice 36 32 (msgBody d) →
      s.slotUsable (fieldNat 0 1 (msgBody d)) port = true →
      ∃ u x, exec (.login t port addr udp d) s = .next u ∧ (u.port port).session = some x ∧ x.slot = fieldNat 0 1 (msgBody d) ∧ x.addr = addr ∧ x.udp = udp ∧
        x.roles = s.rdN o1100_KEY_ROLES x.slot ∧ x.id ≠ 0 ∧ x.id ≠ (s.port port).lastId ∧ x.lastSeq = 0 ∧ x.eventSeq = 1 ∧
        u.rd o1101_SESSION_STATE port = SESSION_STATE.open)

/-- A LOGOUT next in sequence is answered, then the session ends (R391, R392). SESSION_END_CMD by a SERVICE session on SVC: the named port's session gets its EVENT of kind 0003h and ends; its per-session objects are at their defaults (R392, R393, R400). -/
def Obligations.SessionsEnd : Prop :=
  (∀ (s : State) (t port addr udp : Nat) (d : Bytes) (x : Session), s.powered = true → (s.begin t).nextInSession port addr udp d x = true → fieldNat 1 1 d = 5 →
      ∃ u, exec (.logout t port addr udp d) s = .next u ∧ (u.port port).session = none ∧ u.rd o1101_SESSION_STATE port = SESSION_STATE.closed ∧
        u.rd o1101_LAST_END_REASON port = LAST_END_REASON.logout ∧ u.out = s.out ++ [.sdp port addr udp (sessionMsg x 0x11 (x.lastSeq + 1) 0 0 [])]) ∧
  (∀ (s : State) (t port target : Nat) (x : Session), s.powered = true → s.admits port o1101_SESSION_END_CMD target (.int 0) = true → (s.port target).session = some x →
      ∃ u, exec (.sessionEndCmd t port target) s = .next u ∧ u.last = ⟨0, none⟩ ∧ (u.port target).session = none ∧ u.rd o1101_LAST_END_REASON target = LAST_END_REASON.forced ∧
        .sdp target x.addr x.udp (sessionMsg x 0x20 x.eventSeq 0 0 (leBytes 2 3 ++ leBytes 2 4 ++ [BitVec.ofNat 8 LAST_END_REASON.forced.toNat, 0#8, 0#8, 0#8])) ∈ u.out ∧
        ∀ o, perSession o = true → u.rd o target = objDefault o target)

/-- A session's REQUEST, next in sequence, with one WRITE of an object that just stores a number: the value is held, and the RESPONSE that goes to the session carries status 0, one
result without a value and the request's SEQ (R381, R382, R390, R391). -/
def Obligations.RequestWritesAndResponds : Prop :=
  ∀ (s : State) (t port addr udp obj row r : Nat) (d value : Bytes) (v : Int) (x : Session), s.powered = true → (s.begin t).nextInSession port addr udp d x = true →
    fieldNat 4 4 d ≠ 0 → fieldNat 1 1 d = 0x10 → msgOps d = some [⟨2, obj, row, value⟩] → opRow obj row = some (obj, r) → wireVal obj value = some (.int v) →
    handlerOf obj = storeVal obj → perSession obj = false → s.admits port obj r (.int v) = true →
    ∃ u, exec (.request t port addr udp d) s = .next u ∧ u.rd obj r = v ∧ u.out.getLast? = some (.sdp port addr udp (sessionMsg x 0x11 (x.lastSeq + 1) 0 1 (zeros 4)))

/-- A DESCRIBE of an object that exists, on a port that answers, in a state in which the device serves the object: its answer is the descriptor of R386, and nothing else of the module
changes. It needs no session. An object of a lane is named by the index of its lane (R115). An admitted WRITE of an object without an operation of its own: a number or a byte string is held in the object's row (in the session's copy, where the object is per-session),
an RWC object returns to its default; nothing else changes (R387, R400, R493). The order of the checks of R387: a WRITE that several checks would refuse carries the code of the first of them, and nothing but the object that a chapter names for its
refusals is written. -/
def Obligations.ObjectsAreDescribedAndWritten : Prop :=
  (∀ (s : State) (t port index at_ obj row : Nat) (d : ObjRow), s.powered = true → s.talks port = true → laneCode index at_ = (obj, row) → findObj obj = some d →
      rowExists obj row = true → s.served obj false = true →
      ∃ u, exec (.describe t port index at_) s = .next u ∧ u.last = ⟨0, some (.bytes (descriptor s obj d))⟩ ∧ u.works = s.works ∧ u.regs = s.regs ∧ u.octs = s.octs ∧
        u.ctl = s.ctl ∧ u.alm = s.alm ∧ u.pair = s.pair ∧ u.out = s.out) ∧
  (∀ (s : State) (t port index at_ obj row : Nat) (value : Bytes) (w : Val), s.powered = true → laneCode index at_ = (obj, row) → wireVal obj value = some w → s.admits port obj row w = true →
      let r := if perSession obj then port else row
      (handlerOf obj = storeVal obj → ∃ u, exec (.objectWrite t port index at_ value) s = .next u ∧ u.last = ⟨0, none⟩ ∧ (∀ v, w = .int v → u.rd obj r = v) ∧
        (∀ b, w = .bytes b → u.rdOct obj r = b) ∧ s.keepsRegs u [(obj, r)] ∧ u.works = s.works ∧ u.alm = s.alm) ∧
      (handlerOf obj = clearRwc obj → ∃ u, exec (.objectWrite t port index at_ value) s = .next u ∧ u.last = ⟨0, none⟩ ∧ u.rd obj r = objDefault obj r ∧
        s.keepsRegs u [(obj, r)] ∧ u.works = s.works ∧ u.alm = s.alm)) ∧
  (∀ (s : State) (t port index at_ obj row : Nat) (value : Bytes), s.powered = true → s.ctl.endAfter = [] → laneCode index at_ = (obj, row) →
      s.checkWrite (s.ctxOf port) obj row (wireVal obj value) ≠ stOK →
      ∃ u, exec (.objectWrite t port index at_ value) s = .next u ∧ u.last = ⟨s.checkWrite (s.ctxOf port) obj row (wireVal obj value), none⟩ ∧
        s.keepsRegs u [(o6100_SURF_RESULT, row), (o1600_CUSTODY_RESULT, 0)] ∧ u.works = s.works ∧ u.alm = s.alm ∧ u.out = s.out ∧ u.ctl = s.ctl ∧
        (findObj obj = none → u.last.status = 2) ∧
        (∀ d, findObj obj = some d → rowExists obj row = true → d.access = .ro → u.last.status = 5) ∧
        (∀ d, findObj obj = some d → rowExists obj row = true → d.access ≠ .ro → (s.port port).session = none → u.last.status = 10))

/-- The path latency query (R23): a read of PATH_STATUS and PATH_LATENCY_NS answers 'no path' and 0 where the active bank does not plan the destination or the source, which is
no generator's; for a planned source
without alignment on a planned output of its own domain that it reaches directly, 'valid' and the input's latency plus the output's (R221, R276). -/
def Obligations.PathLatencyIsEvaluated : Prop :=
  ∀ (s : State) (t port : Nat), s.powered = true → s.mayRead port o1005_PATH_STATUS 0 = true → s.mayRead port o1005_PATH_LATENCY_NS 0 = true →
    let src := s.rdN o1005_QUERY_SOURCE port
    let dst := s.rdN o1005_QUERY_DEST port
    (planEp s.activePlan (streamInput dst) = none ∨ isGenerator src = false ∧ planEp s.activePlan src = none →
      (∃ u, exec (.pathLatencyQuery t port o1005_PATH_STATUS) s = .next u ∧ u.last = ⟨0, some (.int PATH_STATUS.no_path)⟩) ∧
      ∃ u, exec (.pathLatencyQuery t port o1005_PATH_LATENCY_NS) s = .next u ∧ u.last = ⟨0, some (.int 0)⟩) ∧
    ∀ e f, dst / 4096 = 8 → planEp s.activePlan dst = some e → e.ep = dst → src / 4096 = 0 → planEp s.activePlan src = some f → f.ep = src → f.align = 0 →
      routePath s.activePlan dst src = .ok ROUTE_PATH.direct →
      (s.flowFeed src).any (fun f => s.rd o3600_FLOW_KIND f == FLOW_KIND.st2022_6 && s.rd o3600_AUDIO_PLACEMENT f == AUDIO_PLACEMENT.arrival) = false →
      (∃ u, exec (.pathLatencyQuery t port o1005_PATH_STATUS) s = .next u ∧ u.last = ⟨0, some (.int PATH_STATUS.valid)⟩) ∧
      ∃ u, exec (.pathLatencyQuery t port o1005_PATH_LATENCY_NS) s = .next u ∧ u.last = ⟨0, some (.int (s.latencyIn f + s.latencyOut s.activePlan e : Nat))⟩

/-- The instants at which challenges, sessions, lockouts and addresses end or take effect: a challenge 10 s after it was issued, which leaves a challenged port closed when it was the
last; a session SESSION_IDLE_S after its last authenticated request, without an EVENT; a lockout at its end, with its alarm; a written address 1 s after its response, which ends
the session (R378, R388, R392). -/
def Obligations.PortTimersRunOut : Prop :=
  ∀ (s : State) (t port : Nat), s.powered = true →
    (s.rd o1101_SESSION_STATE port = SESSION_STATE.challenged → (∀ c ∈ (s.port port).challenges, c.issued + 10000000000 ≤ max s.now t) →
      ∃ u, exec (.challengeExpiry t port) s = .next u ∧ (u.port port).challenges = [] ∧ u.rd o1101_SESSION_STATE port = SESSION_STATE.closed) ∧
    (∀ x, (s.port port).session = some x → x.lastAuth + s.rdN o1101_SESSION_IDLE_S port * 1000000000 ≤ max s.now t →
      ∃ u, exec (.sessionIdleTimeout t port) s = .next u ∧ (u.port port).session = none ∧ u.rd o1101_SESSION_STATE port = SESSION_STATE.closed ∧
        u.rd o1101_LAST_END_REASON port = LAST_END_REASON.idle ∧ u.out = s.out) ∧
    (∀ w, (s.port port).lockedUntil = some w → w ≤ max s.now t →
      ∃ u, exec (.lockoutExpiry t port) s = .next u ∧ u.rd o1101_SESSION_STATE port = SESSION_STATE.closed ∧ ¬ u.stands .CTL_LOGIN_LOCKOUT port) ∧
    ∀ w, (s.port port).addrEffectAt = some w → w ≤ max s.now t →
      ∃ u, exec (.addressChangeEffect t port) s = .next u ∧ (u.port port).addrInForce = some (s.addrWritten port) ∧ (u.port port).addrEffectAt = none ∧
        (u.port port).session = none ∧ ((s.port port).session ≠ none → u.rd o1101_LAST_END_REASON port = LAST_END_REASON.address_change)

/-- An accepted change of a key slot (R397): a wrapped key that passes its check is stored and makes the slot valid, an erased slot is empty, written roles and ports are held;
KEY_WRITES advances and no session of the slot is left on any port. The premise that another valid slot holds EXPERT keeps 0808h away. PARTITION_CMD (R401): 'apply' of a staged map without fault takes it, with DEVICE_OWNER, for the end of the control cycle; one with a faulty row is refused with 0901h and that row,
and the map in force stays; 'discard' makes every staged row what the row in force is. -/
def Obligations.KeysAndPartitionsAreSet : Prop :=
  (∀ (s : State) (t port slot j : Nat), s.powered = true → slot < 8 → j < 8 → j ≠ slot → s.rd o1100_KEY_STATE j = KEY_STATE.valid →
      hasRole (s.rdN o1100_KEY_ROLES j) roleEXPERT = true →
      let done (u : State) : Prop := u.last = ⟨0, none⟩ ∧ u.rd o1100_KEY_WRITES slot = (s.rd o1100_KEY_WRITES slot + 1) % 4294967296 ∧
        ∀ p ∈ portList, ∀ x, (u.port p).session = some x → x.slot ≠ slot
      (∀ (w : Bytes) (x : Session), (s.port port).session = some x → s.admits port o1100_KEY_WRAPPED slot (.bytes w) = true →
        (hmacSha256 (xorBytes (w.take 32) (keyWrap x.key slot (s.rdN o1100_KEY_WRITES slot))) (ascii "SQDP-KEYCHECK")).take 8 = w.drop 32 →
        ∃ u, exec (.keyWrapped t port slot w) s = .next u ∧ done u ∧ u.rd o1100_KEY_STATE slot = KEY_STATE.valid ∧
          (u.keySlot slot).a.key = xorBytes (w.take 32) (keyWrap x.key slot (s.rdN o1100_KEY_WRITES slot))) ∧
      (s.admits port o1100_KEY_ERASE slot (.int 0) = true → ∃ u, exec (.keyErase t port slot) s = .next u ∧ done u ∧ u.rd o1100_KEY_STATE slot = KEY_STATE.empty) ∧
      (∀ v : Nat, s.admits port o1100_KEY_PORTS slot (.int v) = true →
        ∃ u, exec (.keyRolesWrite t port slot true v) s = .next u ∧ done u ∧ u.rd o1100_KEY_PORTS slot = v) ∧
      ∀ (v : Nat) (c : Ctx), s.ctxOf port = some c → (∀ i < 5, v.testBit i = true → hasRole c.roles i = true) → s.admits port o1100_KEY_ROLES slot (.int v) = true →
        ∃ u, exec (.keyRolesWrite t port slot false v) s = .next u ∧ done u ∧ u.rd o1100_KEY_ROLES slot = v) ∧
  (∀ (s : State) (t port : Nat), s.powered = true →
      (s.admits port o1210_PARTITION_CMD 0 (.int PARTITION_CMD.apply) = true →
        (mapFault s.stagedMap = none → s.afvHolds s.stagedMap (s.rdN o1210_DEVICE_OWNER 0) = true →
          ∃ u, exec (.partitionApply t port) s = .next u ∧ u.last = ⟨0, none⟩ ∧ u.rd o1210_PARTITION_RESULT 0 = 0 ∧ u.ctl.applyMap = some (s.stagedMap, s.rdN o1210_DEVICE_OWNER 0)) ∧
        ∀ i, mapFault s.stagedMap = some i →
          ∃ u, exec (.partitionApply t port) s = .next u ∧ u.last = ⟨0x0901, none⟩ ∧ u.rd o1210_PARTITION_RESULT 0 = 0x0901 ∧ u.rd o1210_PARTITION_ERROR_ROW 0 = i ∧
            u.ctl.applyMap = s.ctl.applyMap) ∧
      (s.admits port o1210_PARTITION_CMD 0 (.int PARTITION_CMD.discard) = true →
        ∃ u, exec (.partitionDiscard t port) s = .next u ∧ u.last = ⟨0, none⟩ ∧ ∀ r < 64, u.rd o1211_PART_CLASS r = s.rd o1212_PART_IN_FORCE_CLASS r ∧
          u.rd o1211_PART_FIRST r = s.rd o1212_PART_IN_FORCE_FIRST r ∧ u.rd o1211_PART_LAST r = s.rd o1212_PART_IN_FORCE_LAST r ∧
          u.rd o1211_PART_OWNER r = s.rd o1212_PART_IN_FORCE_OWNER r))

/-- A save (R405): 'save' starts it with CONFIG_STATE 'saving' and a snapshot due at the end of the control cycle; when its write and verify have succeeded, the target holds an image of
the snapshot with the next generation, CONFIG_SLOT names it and SAVES has advanced; when they have failed, CONFIG_RESULT reads 0905h. -/
def Obligations.ConfigurationIsSaved : Prop :=
  ∀ (s : State) (t port : Nat), s.powered = true →
    (s.admits port o1200_CONFIG_CMD 0 (.int CONFIG_CMD.save) = true → s.rd o1200_CONFIG_STATE 0 = CONFIG_STATE.idle → s.policyConfig = false → s.pwr.dipFrom = none →
      ∃ u, exec (.configSave t port) s = .next u ∧ u.last = ⟨0, none⟩ ∧ u.rd o1200_CONFIG_STATE 0 = CONFIG_STATE.saving ∧ u.rd o1200_CONFIG_RESULT 0 = 0 ∧ u.ctl.snapshotDue = true) ∧
    ∀ v, s.ctl.save = some v → v.imported = none → s.rd o1200_CONFIG_STATE 0 = CONFIG_STATE.saving →
      (∃ u, exec (.configSaveComplete t true) s = .next u ∧ u.rd o1200_CONFIG_STATE 0 = CONFIG_STATE.idle ∧
        u.cfgSlot v.target = some (cfgImage v.generation (s.rdN o1000_FW_RELEASE_NUM 0) v.time v.records) ∧ u.rd o1200_CONFIG_SLOT 0 = (v.target + 1 : Nat) ∧
        u.rd o1200_SAVES 0 = (s.rd o1200_SAVES 0 + 1) % objModulus o1200_SAVES ∧ u.ctl.save = none ∧ (v.dirtyAfter = false → u.rd o1200_RUNNING_DIRTY 0 = 0)) ∧
      ∃ u, exec (.configSaveComplete t false) s = .next u ∧ u.rd o1200_CONFIG_STATE 0 = CONFIG_STATE.idle ∧ u.rd o1200_CONFIG_RESULT 0 = 0x0905 ∧ u.ctl.save = none ∧
        u.rd o1200_CONFIG_SLOT 0 = s.rd o1200_CONFIG_SLOT 0 ∧ ∀ k, k ≠ v.target → u.cfgSlot k = s.cfgSlot k

/-- Revert, factory and import (R404, R406): 'revert' leaves CONFIG_SLOT at the chosen slot and the configuration not dirty; 'factory' sets FACTORY_FLAG and DEVICE_OWNER 0; 'import' of a valid image starts its write, whose end leaves the image in the target as it came. The transfer of a configuration image (R406): 'open' and 'discard' empty what was transferred and set CFG_XFER_OFFSET to 0; data is written at CFG_XFER_OFFSET, which advances,
and never beyond 8 MiB (1003h in its place). -/
def Obligations.ConfigurationsAreReplaced : Prop :=
  (∀ (s : State) (t port : Nat) (c : Ctx), s.powered = true → s.ctxOf port = some c → s.deviceWriter c = true → s.rd o1200_CONFIG_STATE 0 = CONFIG_STATE.idle →
      (∀ k, s.admits port o1200_CONFIG_CMD 0 (.int CONFIG_CMD.revert) = true → s.chooseSlot = some k →
        ∃ u, exec (.configRevert t port) s = .next u ∧ u.last = ⟨0, none⟩ ∧ u.rd o1200_CONFIG_SLOT 0 = (k + 1 : Nat) ∧ u.rd o1200_RUNNING_DIRTY 0 = 0 ∧
          u.rd o1200_FACTORY_FLAG 0 = 0 ∧ u.rd o1200_CONFIG_RESULT 0 = 0) ∧
      (s.admits port o1200_CONFIG_CMD 0 (.int CONFIG_CMD.factory) = true →
        ∃ u, exec (.configFactory t port) s = .next u ∧ u.last = ⟨0, none⟩ ∧ u.rd o1200_FACTORY_FLAG 0 = 1 ∧ u.ctl.deviceOwner = 0 ∧ u.rd o1200_CONFIG_RESULT 0 = 0) ∧
      (s.admits port o1200_CONFIG_CMD 0 (.int CONFIG_CMD.import) = true → s.cfgValid s.ctl.cfgBuffer = true → s.pwr.dipFrom = none →
        ∃ u v, exec (.configImport t port) s = .next u ∧ u.last = ⟨0, none⟩ ∧ u.rd o1200_CONFIG_STATE 0 = CONFIG_STATE.saving ∧ u.ctl.save = some v ∧
          v.imported = some s.ctl.cfgBuffer ∧ v.target = s.saveTarget) ∧
      ∀ (s' : State) (v : Save) (b : Bytes), s'.powered = true → s'.ctl.save = some v → v.imported = some b → s'.rd o1200_CONFIG_STATE 0 = CONFIG_STATE.saving →
        ∃ u, exec (.configImportComplete t true) s' = .next u ∧ u.rd o1200_CONFIG_STATE 0 = CONFIG_STATE.idle ∧ u.cfgSlot v.target = some b ∧
          u.rd o1200_CONFIG_SLOT 0 = s'.rd o1200_CONFIG_SLOT 0 ∧ u.ctl.save = none) ∧
  (∀ (s : State) (t port : Nat), s.powered = true →
      (s.admits port o1202_CFG_XFER_CMD 0 (.int CFG_XFER_CMD.open) = true →
        ∃ u, exec (.cfgXferOpen t port) s = .next u ∧ u.last = ⟨0, none⟩ ∧ u.ctl.cfgOpen = true ∧ u.ctl.cfgBuffer = [] ∧ u.rd o1202_CFG_XFER_OFFSET 0 = 0) ∧
      (s.admits port o1202_CFG_XFER_CMD 0 (.int CFG_XFER_CMD.discard) = true →
        ∃ u, exec (.cfgXferDiscard t port) s = .next u ∧ u.last = ⟨0, none⟩ ∧ u.ctl.cfgOpen = false ∧ u.ctl.cfgBuffer = [] ∧ u.rd o1202_CFG_XFER_OFFSET 0 = 0) ∧
      ∀ data, s.admits port o1202_CFG_XFER_DATA 0 (.bytes data) = true → s.ctl.cfgOpen = true →
        (s.rdN o1202_CFG_XFER_OFFSET 0 + data.length ≤ 8388608 → ∃ u, exec (.cfgXferData t port data) s = .next u ∧ u.last = ⟨0, none⟩ ∧
          u.ctl.cfgBuffer = overwrite (s.rdN o1202_CFG_XFER_OFFSET 0) data s.ctl.cfgBuffer ∧ u.rdN o1202_CFG_XFER_OFFSET 0 = s.rdN o1202_CFG_XFER_OFFSET 0 + data.length) ∧
        (8388608 < s.rdN o1202_CFG_XFER_OFFSET 0 + data.length → ∃ u, exec (.cfgXferData t port data) s = .next u ∧ u.last = ⟨stRANGE, none⟩ ∧ u.ctl = s.ctl))

/-- Roots, keys and policy (R412, R417-R420): 'program' takes the hash of a buffer that an active root's key has signed into a blank slot, and 'revoke' ends an active one that is
neither the last nor the one of the running image; a policy bit is set for good, and only over a valid key; 'install' keeps the 60 bytes of the buffer as the purpose's key, signed by
the key it replaces where the policy asks it; 'commit' raises the counter to the running image's version. The buffer is empty after each of the first and of 'install'. -/
def Obligations.RootsKeysAndPolicyAreSet : Prop :=
  ∀ (s : State) (t port k : Nat), s.powered = true →
    (
      let signed : Prop := s.sec.buf.length = secBufLen ∧ (s.rootFor (slice 32 60 s.sec.buf)).isSome = true ∧
        hssVerify (slice 32 60 s.sec.buf) (s.sec.buf.drop 92) (rootMsg k (slice 0 32 s.sec.buf)) = true
      s.admits port o1131_ROOT_CMD k (.int ROOT_CMD.program) = true → s.rd o1131_ROOT_STATE k = ROOT_STATE.blank →
        ∃ u, exec (.rootProgram t port k) s = .next u ∧ u.sec = { s.sec with buf := [] } ∧
          s.keepsRegs u [(o1131_ROOT_STATE, k), (o1131_ROOT_HASH, k), (o1130_SEC_RESULT, 0), (o1133_SEC_XFER_OFFSET, 0)] ∧
          (signed → u.last = ⟨0, none⟩ ∧ u.rd o1131_ROOT_STATE k = ROOT_STATE.active ∧ u.rdOct o1131_ROOT_HASH k = slice 0 32 s.sec.buf ∧ u.rd o1130_SEC_RESULT 0 = 0) ∧
          (¬ signed → u.last = ⟨0x1808, none⟩ ∧ u.rd o1131_ROOT_STATE k = ROOT_STATE.blank ∧ u.rd o1130_SEC_RESULT 0 = 0x1808)) ∧
    (s.admits port o1131_ROOT_CMD k (.int ROOT_CMD.revoke) = true → s.rd o1131_ROOT_STATE k = ROOT_STATE.active →
      ((∃ x ∈ rootList, x ≠ k ∧ s.rd o1131_ROOT_STATE x = ROOT_STATE.active) → s.runRoot ≠ k → ∃ u, exec (.rootRevoke t port k) s = .next u ∧ u.last = ⟨0, none⟩ ∧
        u.rd o1131_ROOT_STATE k = ROOT_STATE.revoked ∧ s.keepsRegs u [(o1131_ROOT_STATE, k), (o1130_SEC_RESULT, 0), (o1133_SEC_XFER_OFFSET, 0)]) ∧
      ((∀ x ∈ rootList, x ≠ k → s.rd o1131_ROOT_STATE x ≠ ROOT_STATE.active) ∨ (s.fwRuns = true ∧ s.runRoot = k) → ∃ u, exec (.rootRevoke t port k) s = .next u ∧ u.last = ⟨0x1807, none⟩ ∧
        u.rd o1131_ROOT_STATE k = ROOT_STATE.active ∧ u.rd o1130_SEC_RESULT 0 = 0x1807)) ∧
    (∀ bits : Nat, bits < 4 → s.admits port o1130_POLICY_SET 0 (.int bits) = true →
      ((∀ b ∈ [0, 1], bits.testBit b = true → s.rd o1134_VKEY_STATE b = VKEY_STATE.valid) → ∃ u, exec (.policySet t port bits) s = .next u ∧ u.last = ⟨0, none⟩ ∧
        u.rdN o1130_POLICY 0 = s.rdN o1130_POLICY 0 ||| bits ∧ (bits.testBit 0 = true → u.rd o2002_REQUIRE_SIGNATURE 0 = 1)) ∧
      (∀ b ∈ [0, 1], bits.testBit b = true → (s.rdN o1130_POLICY 0).testBit b = false → s.rd o1134_VKEY_STATE b ≠ VKEY_STATE.valid →
        ∃ u, exec (.policySet t port bits) s = .next u ∧ u.last = ⟨0x180B, none⟩ ∧ u.rdN o1130_POLICY 0 = s.rdN o1130_POLICY 0)) ∧
    (
      let allowed : Prop := (s.rdN o1130_POLICY 0).testBit k = false ∨ ∃ old, s.vkey k = some old ∧ hssVerify old (s.sec.buf.drop 60) (vkeyMsg k (s.sec.buf.take 60)) = true
      s.admits port o1134_VKEY_CMD k (.int 0) = true → 60 ≤ s.sec.buf.length → ∃ u, exec (.vkeyInstall t port k) s = .next u ∧ u.sec.buf = [] ∧
        (allowed → u.last = ⟨0, none⟩ ∧ u.vkey k = some (s.sec.buf.take 60) ∧ u.rd o1134_VKEY_STATE k = VKEY_STATE.valid ∧
          u.rdOct o1134_VKEY_HASH k = sha256 (s.sec.buf.take 60) ∧ u.rd o1130_SEC_RESULT 0 = 0) ∧
        (¬ allowed → u.last = ⟨0x1808, none⟩ ∧ u.vkey k = s.vkey k ∧ u.rd o1130_SEC_RESULT 0 = 0x1808)) ∧
    (s.admits port o1130_ROLLBACK_CMD 0 (.int 0) = true →
      (s.fwRuns = true → s.rd o1130_ROLLBACK_COUNTER 0 < s.rd o1130_SECURITY_VERSION 0 → ∃ u, exec (.rollbackCommit t port) s = .next u ∧ u.last = ⟨0, none⟩ ∧
        u.rd o1130_ROLLBACK_COUNTER 0 = s.rd o1130_SECURITY_VERSION 0 ∧
        (s.rd o1132_FW_SLOT_STATE (1 - s.runSlot) = FW_SLOT_STATE.valid → u.rd o1132_FW_SLOT_STATE (1 - s.runSlot) = FW_SLOT_STATE.checking)) ∧
      (s.rd o1130_SECURITY_VERSION 0 ≤ s.rd o1130_ROLLBACK_COUNTER 0 → ∃ u, exec (.rollbackCommit t port) s = .next u ∧ u.last = ⟨0, none⟩ ∧ s.keepsRegs u [(o1130_SEC_RESULT, 0)] ∧
        u.works = s.works))

/-- Attestation (R421-R423): a request takes the next index at once, and none is used twice; at the end of a block it waits for the journal, whose record gives 64 indices more, and
whose fault refuses with 180Ah; past the last index a request is refused with 1809h; a signed report is 256 bytes and a signature of 1,772. -/
def Obligations.AttestationTakesIndices : Prop :=
  ∀ (s : State) (t port : Nat), s.powered = true →
    (s.admits port o1136_ATT_CMD 0 (.int 0) = true →
      (s.rd o1136_ATT_STATE port = ATT_STATE.signing → ∃ u, exec (.attSign t port) s = .next u ∧ u.last = ⟨1, none⟩ ∧ s.keepsRegs u [] ∧ u.works = s.works) ∧
      (s.rd o1136_ATT_STATE port ≠ ATT_STATE.signing →
        (identityMax ≤ s.nextIndex → ∃ u, exec (.attSign t port) s = .next u ∧ u.last = ⟨0x1809, none⟩ ∧ u.rd o1136_ATT_STATE port = ATT_STATE.refused ∧
          u.rd o1136_ATT_RESULT port = 0x1809 ∧ u.rd o1136_ATT_LENGTH port = 0 ∧ storeGet port u.sec.att = none ∧
          s.keepsRegs u [(o1136_ATT_STATE, port), (o1136_ATT_RESULT, port), (o1136_ATT_LENGTH, port)] ∧ u.mem = s.mem) ∧
        (s.nextIndex < identityMax → s.nextIndex ≠ s.rdN o1135_JOURNAL_BLOCK_END 0 → ∃ u, exec (.attSign t port) s = .next u ∧ u.last = ⟨0, none⟩ ∧
          u.rd o1136_ATT_STATE port = ATT_STATE.signing ∧ u.nextIndex = s.nextIndex + 1 ∧ u.rd o1135_IDENTITY_REMAINING 0 = (identityMax - (s.nextIndex + 1) : Nat) ∧
          (storeGet port u.sec.signing).isSome = true) ∧
        (s.nextIndex < identityMax → s.nextIndex = s.rdN o1135_JOURNAL_BLOCK_END 0 → s.pwr.dipFrom = none → ∃ u, exec (.attSign t port) s = .next u ∧ u.last = ⟨0, none⟩ ∧
          u.rd o1136_ATT_STATE port = ATT_STATE.signing ∧ u.nextIndex = s.nextIndex ∧ u.sec.writing = true ∧ u.sec.waiting = s.sec.waiting ++ [port]))) ∧
    (s.sec.writing = true →
      (∃ u, exec (.journalWriteComplete t true) s = .next u ∧ u.sec.writing = false ∧ u.sec.waiting = [] ∧ u.sec.journal = some (s.rdN o1135_JOURNAL_BLOCK_END 0) ∧
        u.rdN o1135_JOURNAL_BLOCK_END 0 = s.rdN o1135_JOURNAL_BLOCK_END 0 + 64 ∧ u.nextIndex = s.nextIndex + s.sec.waiting.length ∧ ¬ u.stands .SEC_JOURNAL_FAULT noInst) ∧
      ∃ u, exec (.journalWriteComplete t false) s = .next u ∧ u.sec.writing = false ∧ u.sec.waiting = [] ∧ u.stands .SEC_JOURNAL_FAULT noInst ∧ u.nextIndex = s.nextIndex ∧
        ∀ p ∈ s.sec.waiting, u.rd o1136_ATT_STATE p = ATT_STATE.refused ∧ u.rd o1136_ATT_RESULT p = 0x180A) ∧
    (∀ r, storeGet port s.sec.signing = some r → ∃ u sig, exec (.attSignComplete t port) s = .next u ∧ sig.length = 1772 ∧ storeGet port u.sec.att = some (r ++ sig) ∧
      storeGet port u.sec.signing = none ∧ u.rd o1136_ATT_STATE port = ATT_STATE.ready ∧ u.rd o1136_ATT_LENGTH port = 2028 ∧ u.rd o1136_ATT_RESULT port = 0)

/-- Firmware slots (R413, R414, R416): 'open' empties the slot that does not run and takes bytes at FW_XFER_OFFSET; 'close' starts its check, whose end leaves it 'valid' exactly when
the image passes; 'activate' lets both copies of the boot record name a valid slot. While a check runs every one of them is BUSY. -/
def Obligations.FirmwareSlotsAreLoaded : Prop :=
  ∀ (s : State) (t port f : Nat), s.powered = true → f < 2 →
    (s.fwChecking = false →
      (s.admits port o1132_FW_SLOT_CMD f (.int FW_SLOT_CMD.open) = true →
        (f ≠ s.runSlot → ∃ u, exec (.fwSlotOpen t port f) s = .next u ∧ u.last = ⟨0, none⟩ ∧ u.rd o1132_FW_SLOT_STATE f = FW_SLOT_STATE.loading ∧ (u.fwSlot f).image = [] ∧
          u.rd o1132_FW_SLOT_RESULT f = 0 ∧ u.rd o1132_FW_XFER_OFFSET f = 0 ∧ u.fwSlot (1 - f) = s.fwSlot (1 - f)) ∧
        (s.fwRuns = true → f = s.runSlot → ∃ u, exec (.fwSlotOpen t port f) s = .next u ∧ u.last = ⟨0x180C, none⟩ ∧ s.keepsRegs u [] ∧ u.works = s.works)) ∧
      (s.admits port o1132_FW_SLOT_CMD f (.int FW_SLOT_CMD.close) = true →
        (s.rd o1132_FW_SLOT_STATE f = FW_SLOT_STATE.loading → ∃ u, exec (.fwSlotClose t port f) s = .next u ∧ u.last = ⟨0, none⟩ ∧
          u.rd o1132_FW_SLOT_STATE f = FW_SLOT_STATE.checking ∧ u.sec = s.sec) ∧
        (s.rd o1132_FW_SLOT_STATE f ≠ FW_SLOT_STATE.loading → ∃ u, exec (.fwSlotClose t port f) s = .next u ∧ u.last = ⟨1, none⟩ ∧ s.keepsRegs u [] ∧ u.works = s.works)) ∧
      (s.admits port o1132_FW_SLOT_CMD f (.int FW_SLOT_CMD.activate) = true → s.pwr.dipFrom = none →
        (s.rd o1132_FW_SLOT_STATE f = FW_SLOT_STATE.valid → ∃ u, exec (.fwSlotActivate t port f) s = .next u ∧ u.last = ⟨0, none⟩ ∧ u.sec = { s.sec with boot := [some f, some f] } ∧
          s.keepsRegs u []) ∧
        (s.rd o1132_FW_SLOT_STATE f ≠ FW_SLOT_STATE.valid → 2 ≤ s.rdN o1132_FW_SLOT_RESULT f → ∃ u, exec (.fwSlotActivate t port f) s = .next u ∧
          u.last = ⟨s.rdN o1132_FW_SLOT_RESULT f, none⟩ ∧ u.sec = s.sec))) ∧
    (s.fwChecking = true → s.admits port o1132_FW_SLOT_CMD f (.int FW_SLOT_CMD.open) = true →
      ∃ u, exec (.fwSlotOpen t port f) s = .next u ∧ u.last = ⟨1, none⟩ ∧ s.keepsRegs u [] ∧ u.works = s.works) ∧
    (∀ d, s.admits port o1132_FW_XFER_DATA f (.bytes d) = true → s.rd o1132_FW_SLOT_STATE f = FW_SLOT_STATE.loading → s.rdN o1132_FW_XFER_OFFSET f + d.length ≤ fwMax →
      ∃ u, exec (.fwXferData t port f d) s = .next u ∧ u.last = ⟨0, none⟩ ∧ (u.fwSlot f).image = overwrite (s.rdN o1132_FW_XFER_OFFSET f) d (s.fwSlot f).image ∧
        u.rdN o1132_FW_XFER_OFFSET f = s.rdN o1132_FW_XFER_OFFSET f + d.length ∧ s.keepsRegs u [(o1132_FW_XFER_OFFSET, f)] ∧ u.fwSlot (1 - f) = s.fwSlot (1 - f)) ∧
    (s.rd o1132_FW_SLOT_STATE f = FW_SLOT_STATE.checking → FlashWrite.fwClose f ∉ s.pwr.postponed → ∃ u, exec (.fwCheckDone t f) s = .next u ∧
      u.rd o1132_FW_SLOT_RESULT f = s.checkSlot f ∧ (u.rd o1132_FW_SLOT_STATE f = FW_SLOT_STATE.valid ↔ s.checkSlot f = 1) ∧
      (u.rd o1132_FW_SLOT_STATE f = FW_SLOT_STATE.invalid ↔ s.checkSlot f ≠ 1))

/-- Heartbeats and paths (R433, R434): one with a bad CRC is counted and nothing else; one with the module's own PAIR_ID raises PAIR_ID_CONFLICT; a valid one makes its path up and takes
a module in 'gap' back to 'standby', an active one with the lower epoch to 'standby'; a path silent for HB_TIMEOUT_CYCLES is lost, and with both silent a standby enters 'gap';
PEER_CUSTODY_IN high makes a listening module standby. The Ivard link (R430, R431): a stray block is counted; a frame in order on channel 1 or 2 of an active module is acknowledged; 50 us without progress sends every frame that waits
again; a tick of the peer gives FCNT_OFFSET against the nearest own tick; the round trip is held. -/
def Obligations.PeersAndTheirFramesAreHeard : Prop :=
  (∀ (s : State) (t k : Nat) (d : Bytes), s.powered = true → k < 2 →
      (∃ u, exec (.heartbeatRx t k d false) s = .next u ∧ u.rd o1603_HB_ERRORS k = (s.rd o1603_HB_ERRORS k + 1) % 2 ^ 64 ∧ s.keepsRegs u [(o1603_HB_ERRORS, k)] ∧
        u.works = s.works ∧ u.pair = s.pair) ∧
      (s.paired = true → d.length = 32 → (readHeartbeat d).pairId = s.rdN o1600_PAIR_ID 0 → ∃ u, exec (.heartbeatRx t k d true) s = .next u ∧ u.stands .PAIR_ID_CONFLICT k ∧
        u.pair.heard = s.pair.heard) ∧
      (d.length = 32 → (readHeartbeat d).pairId ≠ s.rdN o1600_PAIR_ID 0 →
        s.pairState = PAIR_STATE.gap ∨ (s.pairState = PAIR_STATE.active ∧ (readHeartbeat d).state = 4 ∧ s.rdN o1601_EPOCH 0 < (readHeartbeat d).epoch) →
        ∃ u, exec (.heartbeatRx t k d true) s = .next u ∧ u.pairState = PAIR_STATE.standby ∧ u.pathUp k = true ∧ u.rd o1601_CUSTODY_HELD 0 = 0 ∧
          u.rd o1603_HB_RECEIVED k = (s.rd o1603_HB_RECEIVED k + 1) % 2 ^ 64 ∧ u.pair.peerEpoch = (readHeartbeat d).epoch) ∧
      (s.paired = true → s.pathUp k = true → s.pair.heard.getD k 0 + 125000 * s.rdN o1600_HB_TIMEOUT_CYCLES 0 ≤ max s.now t →
        ∃ u, exec (.hbPathSilent t k) s = .next u ∧ u.pathUp k = false ∧ u.rd o1603_PATH_LOSSES k = (s.rd o1603_PATH_LOSSES k + 1) % 4294967296 ∧ u.stands .PAIR_PATH_LOSS k ∧
          u.pairState = (if s.pathUp (1 - k) = false ∧ s.pairState = PAIR_STATE.standby then PAIR_STATE.gap else s.pairState)) ∧
      (s.pairState = PAIR_STATE.listening → ∃ u, exec (.peerCustodyIn t true) s = .next u ∧ u.pairState = PAIR_STATE.standby ∧ u.rd o1601_PEER_CUSTODY 0 = 1) ∧
      ∃ u, exec (.peerCustodyIn t false) s = .next u ∧ u.pairState = s.pairState ∧ u.rd o1601_PEER_CUSTODY 0 = 0 ∧ u.pair.lowFrom = max s.now t) ∧
  (∀ (s : State) (t k : Nat), s.powered = true →
      (∃ u, exec (.ivardFrameRx t .stray) s = .next u ∧ u.rd o1603_HB_ERRORS 0 = (s.rd o1603_HB_ERRORS 0 + 1) % 2 ^ 64 ∧ s.keepsRegs u [(o1603_HB_ERRORS, 0)] ∧ u.works = s.works ∧
        u.pair = s.pair) ∧
      (∀ start data fin items seq, k = 1 ∨ k = 2 → start.length = 7 → fin.length = 7 → fieldNat 0 1 start = k → fieldNat 1 3 start = (seq + 1) % 16777216 →
        data.length = 8 * fieldNat 4 2 start → 0 < data.length → fieldNat 4 2 start ≤ 1024 → crc32c (start ++ data) = fieldNat 0 4 fin → s.pairState = PAIR_STATE.active →
        (s.ivard k).lastRx = some seq → ∃ u, exec (.ivardFrameRx t (.frame start data fin items)) s = .next u ∧ (u.ivard k).lastRx = some ((seq + 1) % 16777216) ∧
          (u.ivard k).unacked = acked (fieldNat 4 3 fin) (s.ivard k).unacked ∧ s.keepsRegs u [] ∧ u.works = s.works) ∧
      ((s.ivard k).unacked ≠ [] → (s.ivard k).movedAt + 50000 ≤ max s.now t →
        ∃ u, exec (.ivardResendTimeout t k) s = .next u ∧ u.out = s.out ++ (s.ivard k).unacked.map (fun e => .ivard k e.1 ((s.ivard k).lastRx.getD 0) e.2) ∧
          (u.ivard k).unacked = (s.ivard k).unacked ∧ s.keepsRegs u [] ∧ u.works = s.works) ∧
      (∀ fcnt peerTx, s.paired = true → k < 4 → ∃ u n, exec (.ivardTickRx t k fcnt peerTx) s = .next u ∧ (n = (s.fcnt k : Int) ∨ n = s.fcnt k + 1 ∨ n = s.fcnt k - 1) ∧
        u.rd o1602_FCNT_OFFSET k = (fcnt : Int) - n ∧ (∀ d, d ≠ k → u.rd o1602_FCNT_OFFSET d = s.rd o1602_FCNT_OFFSET d) ∧ u.works = s.works) ∧
      ∀ rtt, s.paired = true → s.pathUp 0 = true → rtt < 4294967296 → ∃ u, exec (.linkRttMeasure t rtt) s = .next u ∧ u.rd o1601_LINK_RTT_NS 0 = rtt ∧
        s.keepsRegs u [(o1601_LINK_RTT_NS, 0)] ∧ u.works = s.works)

/-- Custody (R434, R436-R438): a claim under R437 makes the module active with EPOCH above the peer's and a new lease, and without its conditions nothing moves; a lease that ran out
and a handover tick take custody from the holder; a standby told of the handover takes it; a release needs a ready peer, a forced one does not, and both name the handover tick after
the lease. PAIR_ENABLE waits for a tick, and its FALSE is refused beside an active peer. -/
def Obligations.CustodyPasses : Prop :=
  ∀ (s : State) (t port : Nat), s.powered = true →
    let holds (u : State) : Prop := u.pairState = PAIR_STATE.active ∧ u.rd o1601_CUSTODY_HELD 0 = 1 ∧ u.rd o1601_EPOCH 0 = ((s.pair.peerEpoch + 1) % 4294967296 : Nat) ∧
      u.rd o1601_LEASE_END 0 = ((s.fcnt 0 + s.rdN o1600_LEASE_FRAMES 0) % 281474976710656 : Nat)
    let yields (u : State) : Prop := u.pairState = PAIR_STATE.standby ∧ u.rd o1601_CUSTODY_HELD 0 = 0
    ((s.begin t).gapClaim = true → ∃ u, exec (.custodyTakeover t) s = .next u ∧ holds u ∧ u.rd o1601_TAKEOVERS 0 = (s.rd o1601_TAKEOVERS 0 + 1) % 4294967296) ∧
    ((s.begin t).gapClaim = false → ∃ u, exec (.custodyTakeover t) s = .next u ∧ u.regs = s.regs ∧ u.pair = s.pair ∧ u.works = s.works) ∧
    ((s.begin t).listenClaim = true → ∃ u, exec (.listenWaitEnd t) s = .next u ∧ holds u ∧ u.rd o1601_TAKEOVERS 0 = (s.rd o1601_TAKEOVERS 0 + 1) % 4294967296) ∧
    (max s.now t = (s.td 0).tickAt →
      (s.pairState = PAIR_STATE.active ∨ s.pairState = PAIR_STATE.releasing → s.rdN o1601_LEASE_END 0 < s.fcnt 0 → ∃ u, exec (.leaseLapse t) s = .next u ∧ yields u) ∧
      (∀ h, s.pairState = PAIR_STATE.releasing → s.pair.handover = some h → h ≤ s.fcnt 0 → ∃ u, exec (.handoverTick t) s = .next u ∧ yields u) ∧
      ∀ h, s.pairState = PAIR_STATE.standby → s.mediaRuns = true → s.pair.peerHandover = some h → h ≤ s.fcnt 0 → ∃ u, exec (.handoverTick t) s = .next u ∧ holds u) ∧
    (∀ v, s.admits port o1600_CUSTODY_CMD 0 (.int v) = true → v = CUSTODY_CMD.release ∨ v = CUSTODY_CMD.force_release →
      let run := if v = CUSTODY_CMD.release then exec (.custodyRelease t port) s else exec (.custodyForceRelease t port) s
      (s.pairState = PAIR_STATE.active → v = CUSTODY_CMD.force_release ∨ s.peerReady = true → ∃ u h, run = .next u ∧ u.last = ⟨0, none⟩ ∧ u.pairState = PAIR_STATE.releasing ∧
        u.pair.handover = some h ∧ s.fcnt 0 < h ∧ u.rd o1601_LEASE_END 0 = (h - 1 : Nat) ∧ u.rd o1601_CUSTODY_HELD 0 = s.rd o1601_CUSTODY_HELD 0 ∧ u.works = s.works) ∧
      (s.pairState = PAIR_STATE.active → v = CUSTODY_CMD.release → s.peerReady = false →
        ∃ u, run = .next u ∧ u.last = ⟨0x1601, none⟩ ∧ u.rd o1600_CUSTODY_RESULT 0 = 0x1601 ∧ u.pairState = PAIR_STATE.active ∧ u.works = s.works) ∧
      (s.pairState ≠ PAIR_STATE.active → ∃ u, run = .next u ∧ u.last = ⟨0x1602, none⟩ ∧ u.rd o1600_CUSTODY_RESULT 0 = 0x1602 ∧ u.pairState = s.pairState ∧ u.works = s.works)) ∧
    (s.admits port o1600_PAIR_ENABLE 0 (.int 1) = true → ∃ u, exec (.pairEnable t port true) s = .next u ∧ u.last = ⟨0, none⟩ ∧ u.rd o1600_PAIR_ENABLE 0 = 1 ∧
      u.pairState = s.pairState ∧ u.pair.enableDue = !s.paired ∧ s.keepsRegs u [(o1600_PAIR_ENABLE, 0)] ∧ u.works = s.works) ∧
    (s.admits port o1600_PAIR_ENABLE 0 (.int 0) = true →
      (s.isOn o1601_PEER_CUSTODY 0 = true → s.pairState ≠ PAIR_STATE.active → ∃ u, exec (.pairEnable t port false) s = .next u ∧ u.last = ⟨0x1603, none⟩ ∧
        u.rd o1600_CUSTODY_RESULT 0 = 0x1603 ∧ s.keepsRegs u [(o1600_CUSTODY_RESULT, 0)] ∧ u.pair = s.pair ∧ u.works = s.works) ∧
      (s.paired = true → s.pairState = PAIR_STATE.active ∨ s.isOn o1601_PEER_CUSTODY 0 = false → ∃ u, exec (.pairEnable t port false) s = .next u ∧ u.last = ⟨0, none⟩ ∧
        u.pairState = PAIR_STATE.unpaired ∧ u.rd o1601_CUSTODY_HELD 0 = boolVal s.mediaRuns))

/-- Ride-through (R445, R446): VIN falling through the warning level in 'normal' enters 'ride-through' and asserts PWR_WARN_OUT, unless the module still waits for the
start level (R490), while everything that carries media stays as it is; at its
end PWR_WARN_OUT is released, nothing is postponed any more, DIPS has advanced, and the lowest VIN and the time are kept. PWR_VIN_HIGH stands above 60.0 V and is clear below 59.5 V. The orderly stop (R447, R457): from 'starting', 'running' or 'safe' the reset level and the over-voltage level lead to 'stopping', with PWR_VIN_STOP, CUSTODY_OUT low, SAFE_OUT high
and the postponed flash writes discarded; once the domains are off the device is 'safe' with the stop's reason. -/
def Obligations.DipsAndStopsAreRidden : Prop :=
  (∀ (s : State) (t mv low : Nat), s.powered = true →
      (s.rd o1400_SUPPLY_STATE 0 = SUPPLY_STATE.normal → ∃ u, exec (.vinWarning t mv) s = .next u ∧ u.rd o1400_SUPPLY_STATE 0 = SUPPLY_STATE.ride_through ∧ u.warnPin = s.pinsLive ∧
        u.pwr.dipFrom = some (max s.now t) ∧ u.led = s.led ∧ u.tds = s.tds ∧ u.lanes = s.lanes ∧ u.med = s.med ∧ u.aud = s.aud ∧ u.fab = s.fab ∧ u.tlr = s.tlr ∧ u.eg = s.eg ∧
        u.enc = s.enc ∧ u.cmp = s.cmp ∧ u.ras = s.ras) ∧
      (∀ f, s.pwr.dipFrom = some f → ∃ u, exec (.vinClear t mv low) s = .next u ∧ u.rd o1400_SUPPLY_STATE 0 = SUPPLY_STATE.normal ∧ u.warnPin = false ∧ u.pwr.dipFrom = none ∧
        u.pwr.postponed = [] ∧ u.rd o1400_POSTPONED_WRITES 0 = 0 ∧ u.rd o1400_DIPS 0 = (s.rd o1400_DIPS 0 + 1) % 4294967296 ∧
        u.rd o1400_LAST_DIP_MIN_MV 0 = (min low s.pwr.dipMin : Nat) ∧ u.rd o1400_LAST_DIP_MS 0 = ((max s.now t - f) / 1000000 % 4294967296 : Nat)) ∧
      (60000 < mv → ∃ u, exec (.vinHigh t mv) s = .next u ∧ u.stands .PWR_VIN_HIGH noInst ∧ u.rdN o1400_VIN_MV 0 = mv) ∧
      (mv < 59500 → ∃ u, exec (.vinHigh t mv) s = .next u ∧ ¬ u.stands .PWR_VIN_HIGH noInst ∧ u.rdN o1400_VIN_MV 0 = mv)) ∧
  (∀ (s : State) (t mv : Nat), s.powered = true →
      (s.rd o1401_DEVICE_STATE 0 = DEVICE_STATE.starting ∨ s.rd o1401_DEVICE_STATE 0 = DEVICE_STATE.running ∨ s.rd o1401_DEVICE_STATE 0 = DEVICE_STATE.safe →
        let stopping (u : State) (r : Int) : Prop := u.rd o1401_DEVICE_STATE 0 = DEVICE_STATE.stopping ∧ u.rd o1400_SUPPLY_STATE 0 = SUPPLY_STATE.stopping ∧
          u.stands .PWR_VIN_STOP noInst ∧ u.custodyPin = false ∧ u.safePin = true ∧ u.pwr.postponed = [] ∧ u.pwr.stopReason = r
        (∃ u, exec (.vinReset t mv) s = .next u ∧ stopping u SAFE_REASON.vin_stop) ∧ ∃ u, exec (.vinOvervoltage t mv) s = .next u ∧ stopping u SAFE_REASON.vin_high) ∧
      (s.rd o1401_DEVICE_STATE 0 = DEVICE_STATE.stopping → ∃ u, exec (.orderlyStopComplete t) s = .next u ∧ u.rd o1401_DEVICE_STATE 0 = DEVICE_STATE.safe ∧
        u.rd o1401_SAFE_REASON 0 = s.pwr.stopReason ∧ u.safePin = true ∧ u.custodyPin = false))

/-- Power domains (R448, R449): a ramp ends 'on' with its fault alarm cleared; a fault of a domain that is on switches it off, counted and with PWR_DOMAIN_FAULT, and leaves it 'locked off'
when it is the third within 60 s; 'retry' ramps a domain in 'fault', and is refused with 1412h for one 'locked off' and with BUSY for any other. -/
def Obligations.DomainsRampFaultAndRetry : Prop :=
  ∀ (s : State) (t port pd : Nat), s.powered = true → pd < 96 →
    (s.pdState pd = PD_STATE.ramping → ∃ u, exec (.domainRampDone t pd) s = .next u ∧ u.pdState pd = PD_STATE.on ∧ ¬ u.stands .PWR_DOMAIN_FAULT pd) ∧
    (s.pdState pd = PD_STATE.on → ¬ (76 ≤ pd ∧ pd < 82) → ¬ (86 ≤ pd ∧ pd < 90) →
      ∃ u, exec (.domainFault t pd) s = .next u ∧ u.rd o1410_PD_FAULTS pd = (s.rd o1410_PD_FAULTS pd + 1) % 4294967296 ∧ u.stands .PWR_DOMAIN_FAULT pd ∧
        u.pdState pd = if 2 ≤ (((storeGet pd s.pwr.faults).getD []).filter (fun a => decide (max s.now t < a + 60000000000))).length then PD_STATE.locked_off else PD_STATE.fault) ∧
    (s.admits port o1410_PD_CMD pd (.int 0) = true →
      (s.pdState pd = PD_STATE.fault → ∃ u, exec (.pdRetry t port pd) s = .next u ∧ u.last = ⟨0, none⟩ ∧ u.pdState pd = PD_STATE.ramping ∧ s.keepsRegs u [(o1410_PD_STATE, pd)] ∧
        u.works = s.works) ∧
      (s.pdState pd = PD_STATE.locked_off → ∃ u, exec (.pdRetry t port pd) s = .next u ∧ u.last = ⟨0x1412, none⟩ ∧ s.keepsRegs u [] ∧ u.works = s.works) ∧
      (s.pdState pd ≠ PD_STATE.fault → s.pdState pd ≠ PD_STATE.locked_off →
        ∃ u, exec (.pdRetry t port pd) s = .next u ∧ u.last = ⟨1, none⟩ ∧ s.keepsRegs u [] ∧ u.works = s.works))

/-- SAFE_CMD (R457, R458): 'enter' takes an unpaired device that runs to 'safe', reason 'command', SAFE_OUT high; 'leave' from 'command' or 'ledger' begins stage 5, and is refused with
1413h for any other reason; 'restart' from 'safe' with a cool case begins stage 0 with the cause 'command', and no session is left. -/
def Obligations.SafeCommandsAct : Prop :=
  ∀ (s : State) (t port : Nat), s.powered = true →
    (s.admits port o1401_SAFE_CMD 0 (.int SAFE_CMD.enter) = true → s.rd o1401_DEVICE_STATE 0 = DEVICE_STATE.running → s.pairState = PAIR_STATE.unpaired →
      ∃ u, exec (.safeEnter t port) s = .next u ∧ u.last = ⟨0, none⟩ ∧ u.rd o1401_DEVICE_STATE 0 = DEVICE_STATE.safe ∧ u.rd o1401_SAFE_REASON 0 = SAFE_REASON.command ∧
        u.safePin = true ∧ u.custodyPin = false) ∧
    (s.admits port o1401_SAFE_CMD 0 (.int SAFE_CMD.leave) = true → s.rd o1401_DEVICE_STATE 0 = DEVICE_STATE.safe →
      (s.rd o1401_SAFE_REASON 0 = SAFE_REASON.command ∨ s.rd o1401_SAFE_REASON 0 = SAFE_REASON.ledger →
        ∃ u, exec (.safeLeave t port) s = .next u ∧ u.last = ⟨0, none⟩ ∧ u.rd o1401_START_STAGE 0 = START_STAGE.ledger ∧ u.pwr.leaving = true ∧ u.pwr.starting = true ∧
          u.rd o1401_DEVICE_STATE 0 = DEVICE_STATE.safe) ∧
      (s.rd o1401_SAFE_REASON 0 ≠ SAFE_REASON.command → s.rd o1401_SAFE_REASON 0 ≠ SAFE_REASON.ledger →
        ∃ u, exec (.safeLeave t port) s = .next u ∧ u.last = ⟨0x1413, none⟩ ∧ s.keepsRegs u [] ∧ u.works = s.works)) ∧
    (s.admits port o1401_SAFE_CMD 0 (.int SAFE_CMD.restart) = true → s.rd o1401_DEVICE_STATE 0 = DEVICE_STATE.safe → s.pwr.caseTemp < 10 * s.rd o1400_TEMP_WARN_C 0 →
      ∃ u, exec (.safeRestart t port) s = .next u ∧ u.last = ⟨0, none⟩ ∧ u.rd o1401_DEVICE_STATE 0 = DEVICE_STATE.starting ∧ u.rd o1401_START_STAGE 0 = START_STAGE.aon ∧
        u.rd o1401_RESET_CAUSE 0 = RESET_CAUSE.command ∧ u.pwr.starting = true ∧ (∀ p, (u.port p).session = none) ∧ u.mem = [])

/-- What a reset leaves (R93, R392, R443, R456, R489): VIN through 33.0 V brings the always-on domain up with the cause 'power-on' and the clock at 0; VIN through 30.0 V leaves the
module without power; NRST_IN low puts it in reset, in which no other command acts, and its release leaves the cause 'nrst' in 'starting'; the start level then begins stage 0.
After each of the first three, no session is open and the frame store holds nothing. Restarts and the watchdog (R455, R456): 500 ms without a report ends every session and takes a running device to 'safe', reason and reset cause 'watchdog', whatever the pair does;
1 s after an 'activate' in recovery the device is back at stage 0. -/
def Obligations.ResetsAndRestartsStartAfresh : Prop :=
  (∀ (s : State) (t mv : Nat),
      let fresh (u : State) : Prop := (∀ p, (u.port p).session = none) ∧ u.mem = [] ∧ u.tlr.tasks = [] ∧ u.eg = {} ∧ u.med = {}
      (s.pwr.aon = false → ∃ u, exec (.aonPowerUp t mv) s = .next u ∧ fresh u ∧ u.pwr.aon = true ∧ u.clk = 0 ∧ u.rd o1401_RESET_CAUSE 0 = RESET_CAUSE.power_on ∧
        u.rd o1401_DEVICE_STATE 0 = DEVICE_STATE.starting ∧ u.rdN o1400_VIN_MV 0 = mv) ∧
      (∃ u, exec (.aonLockout t) s = .next u ∧ fresh u ∧ u.powered = false) ∧
      (s.powered = true → ∃ u, exec (.nrstIn t true) s = .next u ∧ fresh u ∧ u.powered = false ∧ u.pwr.aon = true ∧ u.rd o1401_DEVICE_STATE 0 = DEVICE_STATE.starting) ∧
      (s.pwr.aon = true → s.pwr.nrstLow = true → ∃ u, exec (.nrstIn t false) s = .next u ∧ u.powered = true ∧ u.rd o1401_RESET_CAUSE 0 = RESET_CAUSE.nrst) ∧
      (s.powered = true → s.rd o1401_DEVICE_STATE 0 = DEVICE_STATE.starting → s.pwr.starting = false → s.rd o1401_SAFE_REASON 0 = SAFE_REASON.none →
        ∃ u, exec (.vinStart t mv) s = .next u ∧ u.pwr.starting = true ∧ u.pwr.stage0At = max s.now t ∧ u.rd o1401_START_STAGE 0 = START_STAGE.aon ∧ ¬ u.stands .PWR_VIN_STOP noInst)) ∧
  (∀ (s : State) (t w : Nat), s.powered = true →
      (s.rd o1401_DEVICE_STATE 0 = DEVICE_STATE.running → ∃ u, exec (.watchdogTimeout t) s = .next u ∧ u.rd o1401_DEVICE_STATE 0 = DEVICE_STATE.safe ∧
        u.rd o1401_SAFE_REASON 0 = SAFE_REASON.watchdog ∧ u.rd o1401_RESET_CAUSE 0 = RESET_CAUSE.watchdog ∧ u.safePin = true ∧ u.custodyPin = false ∧
        ∀ p ∈ portList, (u.port p).session = none) ∧
      (s.rd o1401_DEVICE_STATE 0 = DEVICE_STATE.recovery → s.pwr.recoveryAt = some w → w ≤ max s.now t →
        ∃ u, exec (.recoveryRestart t) s = .next u ∧ u.rd o1401_DEVICE_STATE 0 = DEVICE_STATE.starting ∧ u.rd o1401_START_STAGE 0 = START_STAGE.aon ∧ u.pwr.starting = true))

/-- The stages of start-up (R65, R452, R458, R478): with a RSVD land driven or grounded, now or before, the device stays in stage 0; with the lands free, stage 0 ends in stage 1 with
OSC_IN present, and in the safe state, reason 'osc-in', without it; OSC_IN restored resumes
stage 0; stage 6 ends when every domain that the image uses is locked, or when START_REF_WAIT_S has passed; stage 7 arms the first swap when START_LANE_WAIT_MS has passed. -/
def Obligations.StartupStagesFollow : Prop :=
  ∀ (s : State) (t : Nat) (r : StageReport), s.powered = true →
    (∃ u, exec (.oscInLoss t) s = .next u ∧ u.pwr.oscIn = false ∧ u.stands .OSC_IN_LOSS noInst) ∧
    (s.rd o1401_DEVICE_STATE 0 = DEVICE_STATE.safe → s.rd o1401_SAFE_REASON 0 = SAFE_REASON.osc_in → ∃ u, exec (.oscInRestored t) s = .next u ∧ u.pwr.oscIn = true ∧
      u.rd o1401_DEVICE_STATE 0 = DEVICE_STATE.starting ∧ u.rd o1401_SAFE_REASON 0 = SAFE_REASON.none ∧ u.pwr.starting = true ∧ ¬ u.stands .OSC_IN_LOSS noInst) ∧
    (s.pwr.starting = true →
      (s.rd o1401_START_STAGE 0 = START_STAGE.aon → s.pwr.rsvd = true ∨ r.rsvdFree = false →
        ∃ u, exec (.startupStageComplete t r) s = .next u ∧ u.pwr.rsvd = true ∧ u.pwr.starting = true ∧ s.keepsRegs u []) ∧
      (s.rd o1401_START_STAGE 0 = START_STAGE.aon → s.pwr.rsvd = false → r.rsvdFree = true → s.pwr.oscIn = true →
        ∃ u, exec (.startupStageComplete t r) s = .next u ∧ u.rd o1401_START_STAGE 0 = START_STAGE.boot ∧ u.rd o1402_TEST_RESULT 1 = TEST_RESULT.pass) ∧
      (s.rd o1401_START_STAGE 0 = START_STAGE.aon → s.pwr.rsvd = false → r.rsvdFree = true → s.pwr.oscIn = false → s.rd o1401_DEVICE_STATE 0 = DEVICE_STATE.starting →
        ∃ u, exec (.startupStageComplete t r) s = .next u ∧ u.rd o1401_DEVICE_STATE 0 = DEVICE_STATE.safe ∧ u.rd o1401_SAFE_REASON 0 = SAFE_REASON.osc_in) ∧
      (s.rd o1401_START_STAGE 0 = START_STAGE.reference →
        ((∀ d ∈ s.startDomains, s.dpll d = DPLL_STATE.locked) → ∃ u, exec (.startupStageComplete t r) s = .next u ∧ u.rd o1401_START_STAGE 0 = START_STAGE.media) ∧
        ((∃ d ∈ s.startDomains, s.dpll d ≠ DPLL_STATE.locked) → ∃ u, exec (.startupStageComplete t r) s = .next u ∧ u.rd o1401_START_STAGE 0 = START_STAGE.reference) ∧
        (s.pwr.stageAt + s.rdN o1401_START_REF_WAIT_S 0 * 1000000000 ≤ max s.now t → ∃ u, exec (.startRefWaitExpiry t) s = .next u ∧ u.rd o1401_START_STAGE 0 = START_STAGE.media)) ∧
      (s.rd o1401_START_STAGE 0 = START_STAGE.media → s.pwr.stageAt + s.rdN o1401_START_LANE_WAIT_MS 0 * 1000000 ≤ max s.now t → s.pwr.armedFirst = false →
        (((s.begin t).wr o2003_ANCHOR_FCNT 0 0).swapArm).1 = 0 →
        ∃ u, exec (.startLaneWaitExpiry t) s = .next u ∧ u.pwr.armedFirst = true ∧ u.rd o2000_SWAP_STATE 0 = SWAP_STATE.armed ∧ u.led.swap.isSome = true))

/-- The case temperature (R459): PWR_TEMP_HIGH stands at or above TEMP_WARN_C and is clear 3 degrees below it; at 95 degrees an unpaired device that runs is 'safe',
reason 'thermal', and one that is safe already has PWR_TEMP_STOP and keeps its first reason. -/
def Obligations.CaseTemperatureIsWatched : Prop :=
  ∀ (s : State) (t : Nat) (dc : Int), s.powered = true →
    ∃ u, exec (.caseTempSample t dc) s = .next u ∧ u.rd o1400_CASE_TEMP_DC 0 = dc ∧
      (dc < 950 → 10 * s.rd o1400_TEMP_WARN_C 0 ≤ dc → u.stands .PWR_TEMP_HIGH noInst) ∧
      (dc < 950 → dc ≤ 10 * s.rd o1400_TEMP_WARN_C 0 - 30 → ¬ u.stands .PWR_TEMP_HIGH noInst ∧ ¬ u.stands .PWR_TEMP_STOP noInst) ∧
      (950 ≤ dc → s.rd o1401_DEVICE_STATE 0 = DEVICE_STATE.running → s.pairState = PAIR_STATE.unpaired →
        u.rd o1401_DEVICE_STATE 0 = DEVICE_STATE.safe ∧ u.rd o1401_SAFE_REASON 0 = SAFE_REASON.thermal) ∧
      (950 ≤ dc → s.rd o1401_DEVICE_STATE 0 = DEVICE_STATE.safe → u.stands .PWR_TEMP_STOP noInst ∧ u.rd o1401_SAFE_REASON 0 = s.rd o1401_SAFE_REASON 0)

/-- A write of LATCHED, by the command of its own or as any write of the object, clears it on a point that is not active and is BUSY on an active one; ACK_ALL clears it on every point that
is not active; each acknowledgement that clears at least one point makes one record, which waits for the ring while the queue has room; ALERT_OUT stays as it is (R464). -/
def Obligations.AcknowledgementsClearLatched : Prop :=
  ∀ (s : State) (t port : Nat), s.powered = true →
    let recorded (u : State) (n : Nat) : Prop := u.alm.nextSeq = s.alm.nextSeq + n ∧
      (n = 1 → s.alm.staging.length < stagingSize → ∃ r ∈ u.alm.staging, r.kind = 5 ∧ r.seq = s.alm.nextSeq)
    (∀ pt a run, pointAlarm pt = some a →
      (run = exec (.alarmAck t port pt) s ∧ s.admits port o1501_LATCHED pt (.int 0) = true ∨
        ∃ value w, run = exec (.objectWrite t port o1501_LATCHED pt value) s ∧ wireVal o1501_LATCHED value = some w ∧ s.admits port o1501_LATCHED pt w = true) →
      (s.alarmActive a = true → ∃ u, run = .next u ∧ u.last = ⟨1, none⟩ ∧ u.alm = s.alm ∧ s.keepsRegs u [] ∧ u.works = s.works ∧ u.alertOut = s.alertOut) ∧
      (s.alarmActive a = false → ∃ u, run = .next u ∧ u.last = ⟨0, none⟩ ∧ u.point a = { s.point a with latched := false } ∧ (∀ b, b ≠ a → u.point b = s.point b) ∧
        recorded u (if (s.point a).latched then 1 else 0) ∧ u.works = s.works ∧ u.alertOut = s.alertOut)) ∧
    (s.admits port o1500_ACK_ALL 0 (.int 0) = true → ∃ u, exec (.ackAll t port) s = .next u ∧ u.last = ⟨0, none⟩ ∧
      (∀ a, u.point a = { s.point a with latched := s.alarmActive a && (s.point a).latched }) ∧
      recorded u (if Alarm.all.any (fun a => !s.alarmActive a && (s.point a).latched) then 1 else 0) ∧ u.works = s.works ∧ u.alertOut = s.alertOut)

/-- Alarms and their events (R463, R465): an alarm that clears after 10 s without its cause does so then, and no other; at the end of a window a session receives one event with the
changes merged. -/
def Obligations.AlarmsClearAndAreReported : Prop :=
  ∀ (s : State) (t port : Nat), s.powered = true →
    (∃ u, exec (.alarmClearTimer t) s = .next u ∧ (∀ q ∈ s.alm.quiet, q.since + 10000000000 ≤ max s.now t → ¬ u.stands q.alarm q.inst) ∧
      (∀ a i, (∀ q ∈ s.alm.quiet, q.alarm = a → q.inst = i → max s.now t < q.since + 10000000000) → (u.stands a i ↔ s.stands a i)) ∧ u.works = s.works) ∧
    (∀ n a w x, Alarm.all[n]? = some a → storeGet (port, a.rank) s.alm.windows = some w → w.ends ≤ max s.now t → (s.port port).session = some x →
      (s.point a).severity ≤ s.rdN o1506_EVENT_SEVERITY port + 1 → s.rd o1506_EVENT_SEVERITY port ≠ EVENT_SEVERITY.none →
      ∃ u, exec (.coalesceWindow t port n) s = .next u ∧ storeGet (port, a.rank) u.alm.windows = none ∧
        u.out = s.out ++ [.sdp port x.addr x.udp (sessionMsg x 0x20 x.eventSeq 0 0 (leBytes 2 2 ++ leBytes 2 (s.alarmPayload a w.changes).length ++ s.alarmPayload a w.changes))] ∧
        u.rd o1505_EVENTS_COALESCED port = (s.rd o1505_EVENTS_COALESCED port + (w.changes - 1 : Nat)) % 2 ^ 64 ∧ u.works = s.works)

/-- The ring, the vault and the streams (R469-R472): RING_DATA returns up to 16 records from RING_READ_SEQ and passes them, with a marker first when the oldest have been overwritten;
a frozen vault is armed again; a stream starts at the next record and ends; a channel's sample counts, and joins those of the control cycle. -/
def Obligations.RecordsAreReadAndStreamed : Prop :=
  ∀ (s : State) (t port : Nat), s.powered = true →
    (s.mayRead port o1502_RING_DATA 0 = true →
      (s.ringOldest ≤ s.rdN o1502_RING_READ_SEQ port →
        let l := (s.alm.ring.filter (fun r => decide (s.rdN o1502_RING_READ_SEQ port ≤ r.seq))).take 16
        ∃ u, exec (.ringData t port) s = .next u ∧ u.last = ⟨0, some (.bytes (l.map logBytes).flatten)⟩ ∧ u.alm = s.alm ∧
          (l = [] → u.rdN o1502_RING_READ_SEQ port = s.rdN o1502_RING_READ_SEQ port) ∧
          (∀ r, l.getLast? = some r → r.kind ≠ 4 → u.rdN o1502_RING_READ_SEQ port = r.seq + 1) ∧ s.keepsRegs u [(o1502_RING_READ_SEQ, port)] ∧ u.works = s.works) ∧
      (s.rdN o1502_RING_READ_SEQ port < s.ringOldest → s.alm.ring ≠ [] → ∃ u r b, exec (.ringData t port) s = .next u ∧ s.alm.ring.head? = some r ∧
        u.last = ⟨0, some (.bytes (logBytes (lostMarker r.seq r.time (s.rdN o1502_RING_READ_SEQ port) (min (r.seq - s.rdN o1502_RING_READ_SEQ port) 4294967295)) ++ b))⟩ ∧
        u.works = s.works)) ∧
    (s.admits port o1503_VAULT_CMD 0 (.int 0) = true →
      (s.rd o1503_VAULT_STATE 0 = VAULT_STATE.frozen → ∃ u, exec (.vaultRearm t port) s = .next u ∧ u.last = ⟨0, none⟩ ∧ u.rd o1503_VAULT_STATE 0 = VAULT_STATE.recording ∧
        u.alm = s.alm ∧ s.keepsRegs u [(o1503_VAULT_STATE, 0)] ∧ u.works = s.works) ∧
      (s.rd o1503_VAULT_STATE 0 ≠ VAULT_STATE.frozen → ∃ u, exec (.vaultRearm t port) s = .next u ∧ u.last = ⟨1, none⟩ ∧ s.keepsRegs u [] ∧ u.works = s.works)) ∧
    (∀ row, s.admits port o1505_STREAM_ENABLE row (.int 1) = true → ∃ u, exec (.streamEnable t port row true) s = .next u ∧ u.last = ⟨0, none⟩ ∧ u.rd o1505_STREAM_ENABLE row = 1 ∧
      u.stream row = (if (s.stream row).on then s.stream row else { position := s.alm.nextSeq, on := true }) ∧ (∀ k, k ≠ row → u.stream k = s.stream k) ∧
      s.keepsRegs u [(o1505_STREAM_ENABLE, row)] ∧ u.works = s.works) ∧
    (∀ row, s.admits port o1505_STREAM_ENABLE row (.int 0) = true → ∃ u, exec (.streamEnable t port row false) s = .next u ∧ u.last = ⟨0, none⟩ ∧ u.rd o1505_STREAM_ENABLE row = 0 ∧
      (u.stream row).on = false ∧ (∀ k, k ≠ row → u.stream k = s.stream k) ∧ s.keepsRegs u [(o1505_STREAM_ENABLE, row)] ∧ u.works = s.works) ∧
    (∀ ch v x, ch < 16 → s.isOn o1504_TRACE_ENABLE ch = true → s.pdOn 95 = true → s.traceInterval ch ≤ (storeGet ch s.alm.traceCount).getD 0 →
      ({ s.begin t with alm := { s.alm with traceCount := storePut natLt ch 0 s.alm.traceCount } }).traceValue ch = (some v, x) →
      ∃ u, exec (.traceSample t ch) s = .next u ∧ u.rd o1504_TRACE_SAMPLES ch = (x.rd o1504_TRACE_SAMPLES ch + 1) % 2 ^ 64 ∧ u.alm.samples = x.alm.samples ++ [(ch, x.time96, v)] ∧
        (∀ o r, (o, r) ≠ (o1504_TRACE_SAMPLES, ch) → u.rd o r = x.rd o r))

/-- Links of control ports and the test access port (R408, R488): CP_LINK follows the port's link; a boundary-scan instruction is held by the TAP, TRST_N resets the TAP alone, and
neither touches anything else of the module, powered or not. -/
def Obligations.LinksAndTheTapAreNoted : Prop :=
  ∀ (s : State) (t : Nat),
    (∀ port up, s.powered = true → port < 5 → ∃ u, exec (.cpLinkChange t port up) s = .next u ∧ u.rd o1120_CP_LINK port = (if up then CP_LINK.up else CP_LINK.down) ∧
      s.keepsRegs u [(o1120_CP_LINK, port)] ∧ u.works = s.works ∧ u.out = s.out) ∧
    (∀ code drives, s.pwr.aon = true → ∃ u, exec (.tapInstruction t code drives false) s = .next u ∧ u.tap = ⟨some code, drives⟩ ∧ s.keepsRegs u [] ∧
      u.works = ({ s with tap := ⟨some code, drives⟩ }).works ∧ u.out = s.out) ∧
    (∀ code drives, s.pwr.aon = true → ∃ u, exec (.tapInstruction t code drives true) s = .next u ∧ u.tap = {} ∧ s.keepsRegs u [] ∧ u.works = ({ s with tap := {} }).works ∧ u.out = s.out)

end
end

