-- ==== Sys2Proof/Laws/Store.lean ====
section
/-! SUPPORT. Laws/Store.lean: a put is read back under its own key and changes no other key; so does a removal. -/

namespace Sys2Proof.Machine

@[simp] theorem storeGet_del_same {κ α : Type} [DecidableEq κ] (k : κ) (l : Store κ α) : storeGet k (storeDel k l) = none := by
  induction l with
  | nil => rfl
  | cons c l ih =>
    obtain ⟨k', v⟩ := c
    by_cases h : k' = k <;> simp_all [storeDel, storeGet]

theorem storeGet_del_ne {κ α : Type} [DecidableEq κ] {k k' : κ} (h : k' ≠ k) (l : Store κ α) :
    storeGet k' (storeDel k l) = storeGet k' l := by
  induction l with
  | nil => rfl
  | cons c l ih =>
    obtain ⟨c, v⟩ := c
    by_cases h1 : c = k
    · subst h1; simp_all [storeDel, storeGet, Ne.symm h]
    · by_cases h2 : c = k' <;> simp_all [storeDel, storeGet]

theorem storeGet_ins_same {κ α : Type} [DecidableEq κ] (lt : κ → κ → Bool) (k : κ) (v : α) (l : Store κ α)
    (h : storeGet k l = none) : storeGet k (storeIns lt k v l) = some v := by
  induction l with
  | nil => simp [storeIns, storeGet]
  | cons c l ih =>
    obtain ⟨c, w⟩ := c
    simp only [storeGet] at h
    split at h
    · cases h
    · rename_i hc
      simp only [storeIns]
      split <;> simp_all [storeGet]

theorem storeGet_ins_ne {κ α : Type} [DecidableEq κ] (lt : κ → κ → Bool) {k k' : κ} (h : k' ≠ k) (v : α) (l : Store κ α) :
    storeGet k' (storeIns lt k v l) = storeGet k' l := by
  induction l with
  | nil => simp [storeIns, storeGet, Ne.symm h]
  | cons c l ih =>
    obtain ⟨c, w⟩ := c
    simp only [storeIns]
    split
    · simp [storeGet, Ne.symm h]
    · simp only [storeGet, ih]

@[simp] theorem storeGet_put_same {κ α : Type} [DecidableEq κ] (lt : κ → κ → Bool) (k : κ) (v : α) (l : Store κ α) :
    storeGet k (storePut lt k v l) = some v :=
  storeGet_ins_same lt k v _ (storeGet_del_same k l)

theorem storeGet_put_ne {κ α : Type} [DecidableEq κ] (lt : κ → κ → Bool) {k k' : κ} (h : k' ≠ k) (v : α) (l : Store κ α) :
    storeGet k' (storePut lt k v l) = storeGet k' l := by
  rw [storePut, storeGet_ins_ne lt h, storeGet_del_ne h]


end Sys2Proof.Machine
end

