-- ==== Sys2Proof/Laws/Memory.lean ====
section
/-! SUPPORT. Laws/Memory.lean: every memory operation keeps the canonical form; a byte written is read back and no other byte changes. -/

namespace Sys2Proof.Machine

open Sys2Proof

/-- The canonical form, as a property of the pairs. -/
theorem memWf_iff (m : List Host.Cell) : memWf m = true ↔ m.Pairwise (fun a b => a.1 < b.1) ∧ ∀ c ∈ m, c.2 ≠ unwritten := by
  induction m with
  | nil => simp [memWf]
  | cons c l ih =>
    obtain ⟨a, b⟩ := c
    cases l with
    | nil => simp [memWf]
    | cons c' l =>
      obtain ⟨a', b'⟩ := c'
      simp only [memWf, Bool.and_eq_true, bne_iff_ne, decide_eq_true_eq, ih, List.pairwise_cons, List.mem_cons, forall_eq_or_imp]
      constructor
      · rintro ⟨⟨h1, h2⟩, ⟨h3, h4⟩, h5⟩
        exact ⟨⟨⟨h2, fun x hx => Nat.lt_trans h2 (h3 x hx)⟩, h3, h4⟩, h1, h5⟩
      · rintro ⟨⟨⟨h2, _⟩, h3, h4⟩, h1, h5⟩
        exact ⟨⟨h1, h2⟩, ⟨h3, h4⟩, h5⟩

theorem storeDel_wf {m : List Host.Cell} (a : Nat) (h : memWf m = true) : memWf (storeDel a m) = true := by
  rw [memWf_iff] at h ⊢
  exact ⟨h.1.filter _, fun c hc => h.2 c (List.mem_of_mem_filter hc)⟩

theorem mem_storeIns {m : List Host.Cell} (a : Nat) (b : Byte) (c : Host.Cell) : c ∈ storeIns natLt a b m ↔ c = (a, b) ∨ c ∈ m := by
  induction m with
  | nil => simp [storeIns]
  | cons d l ih =>
    obtain ⟨k, v⟩ := d
    simp only [storeIns]
    split
    · simp
    · simp only [List.mem_cons, ih]
      tauto

theorem storeIns_sorted {m : List Host.Cell} (a : Nat) (b : Byte) (h : m.Pairwise (fun x y => x.1 < y.1)) (hn : ∀ c ∈ m, c.1 ≠ a) :
    (storeIns natLt a b m).Pairwise (fun x y => x.1 < y.1) := by
  induction m with
  | nil => simp [storeIns]
  | cons d l ih =>
    obtain ⟨k, v⟩ := d
    rw [List.pairwise_cons] at h
    simp only [storeIns]
    split
    · rename_i hk
      have hk : a < k := by simpa [natLt] using hk
      rw [List.pairwise_cons, List.pairwise_cons]
      refine ⟨fun c hc => ?_, h⟩
      rcases List.mem_cons.1 hc with rfl | hc
      · exact hk
      · exact Nat.lt_trans hk (h.1 c hc)
    · rename_i hk
      have hk : ¬ a < k := by simpa [natLt] using hk
      have hne : k ≠ a := hn (k, v) (by simp)
      rw [List.pairwise_cons]
      refine ⟨fun c hc => ?_, ih h.2 (fun c hc => hn c (by simp [hc]))⟩
      rcases (mem_storeIns a b c).1 hc with rfl | hc
      · show k < a
        omega
      · exact h.1 c hc

theorem memWrite_wf {m : List Host.Cell} (a : Nat) (b : Byte) (h : memWf m = true) : memWf (memWrite m a b) = true := by
  unfold memWrite
  split
  · exact storeDel_wf a h
  · rename_i hb
    have hd := (memWf_iff _).1 (storeDel_wf a h)
    rw [memWf_iff]
    refine ⟨storeIns_sorted a b hd.1 (fun c hc => ?_), fun c hc => ?_⟩
    · simpa [storeDel] using (List.mem_filter.1 hc).2
    · rcases (mem_storeIns a b c).1 hc with rfl | hc
      · exact hb
      · exact hd.2 c hc

theorem carryOut_wf (l : List MemOrder) {m : List Host.Cell} (h : memWf m = true) : memWf (carryOut l m) = true := by
  induction l generalizing m with
  | nil => exact h
  | cons x l ih =>
    cases x with
    | clear => exact ih rfl
    | write a b => exact ih (memWrite_wf a b h)

@[simp] theorem memRead_write_same (m : List Host.Cell) (a : Nat) (b : Byte) : memRead (memWrite m a b) a = b := by
  unfold memRead memWrite
  split
  · rename_i h
    simp [h]
  · simp

theorem memRead_write_ne (m : List Host.Cell) {a a' : Nat} (b : Byte) (h : a' ≠ a) : memRead (memWrite m a b) a' = memRead m a' := by
  unfold memRead memWrite
  split
  · rw [storeGet_del_ne h]
  · rw [storeGet_put_ne natLt h]

theorem memRead_carryOut {l : List MemOrder} {m : List Host.Cell} {a : Nat} (hc : MemOrder.clear ∉ l) (hw : ∀ b, MemOrder.write a b ∉ l) :
    memRead (carryOut l m) a = memRead m a := by
  induction l generalizing m with
  | nil => rfl
  | cons x l ih =>
    cases x with
    | clear => simp at hc
    | write a' b =>
      have hne : a ≠ a' := fun e => hw b (by simp [e])
      rw [carryOut, ih (fun h => hc (List.mem_cons_of_mem _ h)) (fun b' h => hw b' (List.mem_cons_of_mem _ h)), memRead_write_ne _ _ hne]

end Sys2Proof.Machine
end

