-- ==== Sys2Proof/Laws/State.lean ====
section
/-! SUPPORT. Laws/State.lean: each named update leaves every field but its own as it was, and what was set is read back. -/

namespace Sys2Proof.Machine

open Sys2Proof

/-! wr -/

@[simp] theorem State.wr_pending (s : State) (o r : Nat) (v : Int) : (s.wr o r v).pending = s.pending := rfl
@[simp] theorem State.wr_now (s : State) (o r : Nat) (v : Int) : (s.wr o r v).now = s.now := rfl
@[simp] theorem State.wr_clk (s : State) (o r : Nat) (v : Int) : (s.wr o r v).clk = s.clk := rfl
@[simp] theorem State.wr_octs (s : State) (o r : Nat) (v : Int) : (s.wr o r v).octs = s.octs := rfl
@[simp] theorem State.wr_ctl (s : State) (o r : Nat) (v : Int) : (s.wr o r v).ctl = s.ctl := rfl
@[simp] theorem State.wr_alm (s : State) (o r : Nat) (v : Int) : (s.wr o r v).alm = s.alm := rfl
@[simp] theorem State.wr_led (s : State) (o r : Nat) (v : Int) : (s.wr o r v).led = s.led := rfl
@[simp] theorem State.wr_cands (s : State) (o r : Nat) (v : Int) : (s.wr o r v).cands = s.cands := rfl
@[simp] theorem State.wr_tds (s : State) (o r : Nat) (v : Int) : (s.wr o r v).tds = s.tds := rfl
@[simp] theorem State.wr_cadence (s : State) (o r : Nat) (v : Int) : (s.wr o r v).cadence = s.cadence := rfl
@[simp] theorem State.wr_cadenceAt (s : State) (o r : Nat) (v : Int) : (s.wr o r v).cadenceAt = s.cadenceAt := rfl
@[simp] theorem State.wr_ptp (s : State) (o r : Nat) (v : Int) : (s.wr o r v).ptp = s.ptp := rfl
@[simp] theorem State.wr_pwr (s : State) (o r : Nat) (v : Int) : (s.wr o r v).pwr = s.pwr := rfl
@[simp] theorem State.wr_lanes (s : State) (o r : Nat) (v : Int) : (s.wr o r v).lanes = s.lanes := rfl
@[simp] theorem State.wr_med (s : State) (o r : Nat) (v : Int) : (s.wr o r v).med = s.med := rfl
@[simp] theorem State.wr_aud (s : State) (o r : Nat) (v : Int) : (s.wr o r v).aud = s.aud := rfl
@[simp] theorem State.wr_fab (s : State) (o r : Nat) (v : Int) : (s.wr o r v).fab = s.fab := rfl
@[simp] theorem State.wr_tlr (s : State) (o r : Nat) (v : Int) : (s.wr o r v).tlr = s.tlr := rfl
@[simp] theorem State.wr_eg (s : State) (o r : Nat) (v : Int) : (s.wr o r v).eg = s.eg := rfl
@[simp] theorem State.wr_enc (s : State) (o r : Nat) (v : Int) : (s.wr o r v).enc = s.enc := rfl
@[simp] theorem State.wr_cmp (s : State) (o r : Nat) (v : Int) : (s.wr o r v).cmp = s.cmp := rfl
@[simp] theorem State.wr_ras (s : State) (o r : Nat) (v : Int) : (s.wr o r v).ras = s.ras := rfl
@[simp] theorem State.wr_itg (s : State) (o r : Nat) (v : Int) : (s.wr o r v).itg = s.itg := rfl
@[simp] theorem State.wr_sec (s : State) (o r : Nat) (v : Int) : (s.wr o r v).sec = s.sec := rfl
@[simp] theorem State.wr_pair (s : State) (o r : Nat) (v : Int) : (s.wr o r v).pair = s.pair := rfl
@[simp] theorem State.wr_tap (s : State) (o r : Nat) (v : Int) : (s.wr o r v).tap = s.tap := rfl
@[simp] theorem State.wr_mem (s : State) (o r : Nat) (v : Int) : (s.wr o r v).mem = s.mem := rfl
@[simp] theorem State.wr_orders (s : State) (o r : Nat) (v : Int) : (s.wr o r v).orders = s.orders := rfl
@[simp] theorem State.wr_out (s : State) (o r : Nat) (v : Int) : (s.wr o r v).out = s.out := rfl
@[simp] theorem State.wr_free (s : State) (o r : Nat) (v : Int) : (s.wr o r v).free = s.free := rfl
@[simp] theorem State.wr_last (s : State) (o r : Nat) (v : Int) : (s.wr o r v).last = s.last := rfl

/-! wrOct -/

@[simp] theorem State.wrOct_pending (s : State) (o r : Nat) (b : Bytes) : (s.wrOct o r b).pending = s.pending := rfl
@[simp] theorem State.wrOct_now (s : State) (o r : Nat) (b : Bytes) : (s.wrOct o r b).now = s.now := rfl
@[simp] theorem State.wrOct_clk (s : State) (o r : Nat) (b : Bytes) : (s.wrOct o r b).clk = s.clk := rfl
@[simp] theorem State.wrOct_regs (s : State) (o r : Nat) (b : Bytes) : (s.wrOct o r b).regs = s.regs := rfl
@[simp] theorem State.wrOct_ctl (s : State) (o r : Nat) (b : Bytes) : (s.wrOct o r b).ctl = s.ctl := rfl
@[simp] theorem State.wrOct_alm (s : State) (o r : Nat) (b : Bytes) : (s.wrOct o r b).alm = s.alm := rfl
@[simp] theorem State.wrOct_led (s : State) (o r : Nat) (b : Bytes) : (s.wrOct o r b).led = s.led := rfl
@[simp] theorem State.wrOct_cands (s : State) (o r : Nat) (b : Bytes) : (s.wrOct o r b).cands = s.cands := rfl
@[simp] theorem State.wrOct_tds (s : State) (o r : Nat) (b : Bytes) : (s.wrOct o r b).tds = s.tds := rfl
@[simp] theorem State.wrOct_cadence (s : State) (o r : Nat) (b : Bytes) : (s.wrOct o r b).cadence = s.cadence := rfl
@[simp] theorem State.wrOct_cadenceAt (s : State) (o r : Nat) (b : Bytes) : (s.wrOct o r b).cadenceAt = s.cadenceAt := rfl
@[simp] theorem State.wrOct_ptp (s : State) (o r : Nat) (b : Bytes) : (s.wrOct o r b).ptp = s.ptp := rfl
@[simp] theorem State.wrOct_pwr (s : State) (o r : Nat) (b : Bytes) : (s.wrOct o r b).pwr = s.pwr := rfl
@[simp] theorem State.wrOct_lanes (s : State) (o r : Nat) (b : Bytes) : (s.wrOct o r b).lanes = s.lanes := rfl
@[simp] theorem State.wrOct_med (s : State) (o r : Nat) (b : Bytes) : (s.wrOct o r b).med = s.med := rfl
@[simp] theorem State.wrOct_aud (s : State) (o r : Nat) (b : Bytes) : (s.wrOct o r b).aud = s.aud := rfl
@[simp] theorem State.wrOct_fab (s : State) (o r : Nat) (b : Bytes) : (s.wrOct o r b).fab = s.fab := rfl
@[simp] theorem State.wrOct_tlr (s : State) (o r : Nat) (b : Bytes) : (s.wrOct o r b).tlr = s.tlr := rfl
@[simp] theorem State.wrOct_eg (s : State) (o r : Nat) (b : Bytes) : (s.wrOct o r b).eg = s.eg := rfl
@[simp] theorem State.wrOct_enc (s : State) (o r : Nat) (b : Bytes) : (s.wrOct o r b).enc = s.enc := rfl
@[simp] theorem State.wrOct_cmp (s : State) (o r : Nat) (b : Bytes) : (s.wrOct o r b).cmp = s.cmp := rfl
@[simp] theorem State.wrOct_ras (s : State) (o r : Nat) (b : Bytes) : (s.wrOct o r b).ras = s.ras := rfl
@[simp] theorem State.wrOct_itg (s : State) (o r : Nat) (b : Bytes) : (s.wrOct o r b).itg = s.itg := rfl
@[simp] theorem State.wrOct_sec (s : State) (o r : Nat) (b : Bytes) : (s.wrOct o r b).sec = s.sec := rfl
@[simp] theorem State.wrOct_pair (s : State) (o r : Nat) (b : Bytes) : (s.wrOct o r b).pair = s.pair := rfl
@[simp] theorem State.wrOct_tap (s : State) (o r : Nat) (b : Bytes) : (s.wrOct o r b).tap = s.tap := rfl
@[simp] theorem State.wrOct_mem (s : State) (o r : Nat) (b : Bytes) : (s.wrOct o r b).mem = s.mem := rfl
@[simp] theorem State.wrOct_orders (s : State) (o r : Nat) (b : Bytes) : (s.wrOct o r b).orders = s.orders := rfl
@[simp] theorem State.wrOct_out (s : State) (o r : Nat) (b : Bytes) : (s.wrOct o r b).out = s.out := rfl
@[simp] theorem State.wrOct_free (s : State) (o r : Nat) (b : Bytes) : (s.wrOct o r b).free = s.free := rfl
@[simp] theorem State.wrOct_last (s : State) (o r : Nat) (b : Bytes) : (s.wrOct o r b).last = s.last := rfl

/-! addTo -/

@[simp] theorem State.addTo_pending (s : State) (o r n : Nat) : (s.addTo o r n).pending = s.pending := rfl
@[simp] theorem State.addTo_now (s : State) (o r n : Nat) : (s.addTo o r n).now = s.now := rfl
@[simp] theorem State.addTo_clk (s : State) (o r n : Nat) : (s.addTo o r n).clk = s.clk := rfl
@[simp] theorem State.addTo_octs (s : State) (o r n : Nat) : (s.addTo o r n).octs = s.octs := rfl
@[simp] theorem State.addTo_ctl (s : State) (o r n : Nat) : (s.addTo o r n).ctl = s.ctl := rfl
@[simp] theorem State.addTo_alm (s : State) (o r n : Nat) : (s.addTo o r n).alm = s.alm := rfl
@[simp] theorem State.addTo_led (s : State) (o r n : Nat) : (s.addTo o r n).led = s.led := rfl
@[simp] theorem State.addTo_cands (s : State) (o r n : Nat) : (s.addTo o r n).cands = s.cands := rfl
@[simp] theorem State.addTo_tds (s : State) (o r n : Nat) : (s.addTo o r n).tds = s.tds := rfl
@[simp] theorem State.addTo_cadence (s : State) (o r n : Nat) : (s.addTo o r n).cadence = s.cadence := rfl
@[simp] theorem State.addTo_cadenceAt (s : State) (o r n : Nat) : (s.addTo o r n).cadenceAt = s.cadenceAt := rfl
@[simp] theorem State.addTo_ptp (s : State) (o r n : Nat) : (s.addTo o r n).ptp = s.ptp := rfl
@[simp] theorem State.addTo_pwr (s : State) (o r n : Nat) : (s.addTo o r n).pwr = s.pwr := rfl
@[simp] theorem State.addTo_lanes (s : State) (o r n : Nat) : (s.addTo o r n).lanes = s.lanes := rfl
@[simp] theorem State.addTo_med (s : State) (o r n : Nat) : (s.addTo o r n).med = s.med := rfl
@[simp] theorem State.addTo_aud (s : State) (o r n : Nat) : (s.addTo o r n).aud = s.aud := rfl
@[simp] theorem State.addTo_fab (s : State) (o r n : Nat) : (s.addTo o r n).fab = s.fab := rfl
@[simp] theorem State.addTo_tlr (s : State) (o r n : Nat) : (s.addTo o r n).tlr = s.tlr := rfl
@[simp] theorem State.addTo_eg (s : State) (o r n : Nat) : (s.addTo o r n).eg = s.eg := rfl
@[simp] theorem State.addTo_enc (s : State) (o r n : Nat) : (s.addTo o r n).enc = s.enc := rfl
@[simp] theorem State.addTo_cmp (s : State) (o r n : Nat) : (s.addTo o r n).cmp = s.cmp := rfl
@[simp] theorem State.addTo_ras (s : State) (o r n : Nat) : (s.addTo o r n).ras = s.ras := rfl
@[simp] theorem State.addTo_itg (s : State) (o r n : Nat) : (s.addTo o r n).itg = s.itg := rfl
@[simp] theorem State.addTo_sec (s : State) (o r n : Nat) : (s.addTo o r n).sec = s.sec := rfl
@[simp] theorem State.addTo_pair (s : State) (o r n : Nat) : (s.addTo o r n).pair = s.pair := rfl
@[simp] theorem State.addTo_tap (s : State) (o r n : Nat) : (s.addTo o r n).tap = s.tap := rfl
@[simp] theorem State.addTo_mem (s : State) (o r n : Nat) : (s.addTo o r n).mem = s.mem := rfl
@[simp] theorem State.addTo_orders (s : State) (o r n : Nat) : (s.addTo o r n).orders = s.orders := rfl
@[simp] theorem State.addTo_out (s : State) (o r n : Nat) : (s.addTo o r n).out = s.out := rfl
@[simp] theorem State.addTo_free (s : State) (o r n : Nat) : (s.addTo o r n).free = s.free := rfl
@[simp] theorem State.addTo_last (s : State) (o r n : Nat) : (s.addTo o r n).last = s.last := rfl

/-! bump -/

@[simp] theorem State.bump_pending (s : State) (o r : Nat) : (s.bump o r).pending = s.pending := rfl
@[simp] theorem State.bump_now (s : State) (o r : Nat) : (s.bump o r).now = s.now := rfl
@[simp] theorem State.bump_clk (s : State) (o r : Nat) : (s.bump o r).clk = s.clk := rfl
@[simp] theorem State.bump_octs (s : State) (o r : Nat) : (s.bump o r).octs = s.octs := rfl
@[simp] theorem State.bump_ctl (s : State) (o r : Nat) : (s.bump o r).ctl = s.ctl := rfl
@[simp] theorem State.bump_alm (s : State) (o r : Nat) : (s.bump o r).alm = s.alm := rfl
@[simp] theorem State.bump_led (s : State) (o r : Nat) : (s.bump o r).led = s.led := rfl
@[simp] theorem State.bump_cands (s : State) (o r : Nat) : (s.bump o r).cands = s.cands := rfl
@[simp] theorem State.bump_tds (s : State) (o r : Nat) : (s.bump o r).tds = s.tds := rfl
@[simp] theorem State.bump_cadence (s : State) (o r : Nat) : (s.bump o r).cadence = s.cadence := rfl
@[simp] theorem State.bump_cadenceAt (s : State) (o r : Nat) : (s.bump o r).cadenceAt = s.cadenceAt := rfl
@[simp] theorem State.bump_ptp (s : State) (o r : Nat) : (s.bump o r).ptp = s.ptp := rfl
@[simp] theorem State.bump_pwr (s : State) (o r : Nat) : (s.bump o r).pwr = s.pwr := rfl
@[simp] theorem State.bump_lanes (s : State) (o r : Nat) : (s.bump o r).lanes = s.lanes := rfl
@[simp] theorem State.bump_med (s : State) (o r : Nat) : (s.bump o r).med = s.med := rfl
@[simp] theorem State.bump_aud (s : State) (o r : Nat) : (s.bump o r).aud = s.aud := rfl
@[simp] theorem State.bump_fab (s : State) (o r : Nat) : (s.bump o r).fab = s.fab := rfl
@[simp] theorem State.bump_tlr (s : State) (o r : Nat) : (s.bump o r).tlr = s.tlr := rfl
@[simp] theorem State.bump_eg (s : State) (o r : Nat) : (s.bump o r).eg = s.eg := rfl
@[simp] theorem State.bump_enc (s : State) (o r : Nat) : (s.bump o r).enc = s.enc := rfl
@[simp] theorem State.bump_cmp (s : State) (o r : Nat) : (s.bump o r).cmp = s.cmp := rfl
@[simp] theorem State.bump_ras (s : State) (o r : Nat) : (s.bump o r).ras = s.ras := rfl
@[simp] theorem State.bump_itg (s : State) (o r : Nat) : (s.bump o r).itg = s.itg := rfl
@[simp] theorem State.bump_sec (s : State) (o r : Nat) : (s.bump o r).sec = s.sec := rfl
@[simp] theorem State.bump_pair (s : State) (o r : Nat) : (s.bump o r).pair = s.pair := rfl
@[simp] theorem State.bump_tap (s : State) (o r : Nat) : (s.bump o r).tap = s.tap := rfl
@[simp] theorem State.bump_mem (s : State) (o r : Nat) : (s.bump o r).mem = s.mem := rfl
@[simp] theorem State.bump_orders (s : State) (o r : Nat) : (s.bump o r).orders = s.orders := rfl
@[simp] theorem State.bump_out (s : State) (o r : Nat) : (s.bump o r).out = s.out := rfl
@[simp] theorem State.bump_free (s : State) (o r : Nat) : (s.bump o r).free = s.free := rfl
@[simp] theorem State.bump_last (s : State) (o r : Nat) : (s.bump o r).last = s.last := rfl

/-! answer -/

@[simp] theorem State.answer_pending (s : State) (k : Nat) : (s.answer k).pending = s.pending := rfl
@[simp] theorem State.answer_now (s : State) (k : Nat) : (s.answer k).now = s.now := rfl
@[simp] theorem State.answer_clk (s : State) (k : Nat) : (s.answer k).clk = s.clk := rfl
@[simp] theorem State.answer_regs (s : State) (k : Nat) : (s.answer k).regs = s.regs := rfl
@[simp] theorem State.answer_octs (s : State) (k : Nat) : (s.answer k).octs = s.octs := rfl
@[simp] theorem State.answer_ctl (s : State) (k : Nat) : (s.answer k).ctl = s.ctl := rfl
@[simp] theorem State.answer_alm (s : State) (k : Nat) : (s.answer k).alm = s.alm := rfl
@[simp] theorem State.answer_led (s : State) (k : Nat) : (s.answer k).led = s.led := rfl
@[simp] theorem State.answer_cands (s : State) (k : Nat) : (s.answer k).cands = s.cands := rfl
@[simp] theorem State.answer_tds (s : State) (k : Nat) : (s.answer k).tds = s.tds := rfl
@[simp] theorem State.answer_cadence (s : State) (k : Nat) : (s.answer k).cadence = s.cadence := rfl
@[simp] theorem State.answer_cadenceAt (s : State) (k : Nat) : (s.answer k).cadenceAt = s.cadenceAt := rfl
@[simp] theorem State.answer_ptp (s : State) (k : Nat) : (s.answer k).ptp = s.ptp := rfl
@[simp] theorem State.answer_pwr (s : State) (k : Nat) : (s.answer k).pwr = s.pwr := rfl
@[simp] theorem State.answer_lanes (s : State) (k : Nat) : (s.answer k).lanes = s.lanes := rfl
@[simp] theorem State.answer_med (s : State) (k : Nat) : (s.answer k).med = s.med := rfl
@[simp] theorem State.answer_aud (s : State) (k : Nat) : (s.answer k).aud = s.aud := rfl
@[simp] theorem State.answer_fab (s : State) (k : Nat) : (s.answer k).fab = s.fab := rfl
@[simp] theorem State.answer_tlr (s : State) (k : Nat) : (s.answer k).tlr = s.tlr := rfl
@[simp] theorem State.answer_eg (s : State) (k : Nat) : (s.answer k).eg = s.eg := rfl
@[simp] theorem State.answer_enc (s : State) (k : Nat) : (s.answer k).enc = s.enc := rfl
@[simp] theorem State.answer_cmp (s : State) (k : Nat) : (s.answer k).cmp = s.cmp := rfl
@[simp] theorem State.answer_ras (s : State) (k : Nat) : (s.answer k).ras = s.ras := rfl
@[simp] theorem State.answer_itg (s : State) (k : Nat) : (s.answer k).itg = s.itg := rfl
@[simp] theorem State.answer_sec (s : State) (k : Nat) : (s.answer k).sec = s.sec := rfl
@[simp] theorem State.answer_pair (s : State) (k : Nat) : (s.answer k).pair = s.pair := rfl
@[simp] theorem State.answer_tap (s : State) (k : Nat) : (s.answer k).tap = s.tap := rfl
@[simp] theorem State.answer_mem (s : State) (k : Nat) : (s.answer k).mem = s.mem := rfl
@[simp] theorem State.answer_orders (s : State) (k : Nat) : (s.answer k).orders = s.orders := rfl
@[simp] theorem State.answer_out (s : State) (k : Nat) : (s.answer k).out = s.out := rfl
@[simp] theorem State.answer_free (s : State) (k : Nat) : (s.answer k).free = s.free := rfl

/-! answerVal -/

@[simp] theorem State.answerVal_pending (s : State) (v : Val) : (s.answerVal v).pending = s.pending := rfl
@[simp] theorem State.answerVal_now (s : State) (v : Val) : (s.answerVal v).now = s.now := rfl
@[simp] theorem State.answerVal_clk (s : State) (v : Val) : (s.answerVal v).clk = s.clk := rfl
@[simp] theorem State.answerVal_regs (s : State) (v : Val) : (s.answerVal v).regs = s.regs := rfl
@[simp] theorem State.answerVal_octs (s : State) (v : Val) : (s.answerVal v).octs = s.octs := rfl
@[simp] theorem State.answerVal_ctl (s : State) (v : Val) : (s.answerVal v).ctl = s.ctl := rfl
@[simp] theorem State.answerVal_alm (s : State) (v : Val) : (s.answerVal v).alm = s.alm := rfl
@[simp] theorem State.answerVal_led (s : State) (v : Val) : (s.answerVal v).led = s.led := rfl
@[simp] theorem State.answerVal_cands (s : State) (v : Val) : (s.answerVal v).cands = s.cands := rfl
@[simp] theorem State.answerVal_tds (s : State) (v : Val) : (s.answerVal v).tds = s.tds := rfl
@[simp] theorem State.answerVal_cadence (s : State) (v : Val) : (s.answerVal v).cadence = s.cadence := rfl
@[simp] theorem State.answerVal_cadenceAt (s : State) (v : Val) : (s.answerVal v).cadenceAt = s.cadenceAt := rfl
@[simp] theorem State.answerVal_ptp (s : State) (v : Val) : (s.answerVal v).ptp = s.ptp := rfl
@[simp] theorem State.answerVal_pwr (s : State) (v : Val) : (s.answerVal v).pwr = s.pwr := rfl
@[simp] theorem State.answerVal_lanes (s : State) (v : Val) : (s.answerVal v).lanes = s.lanes := rfl
@[simp] theorem State.answerVal_med (s : State) (v : Val) : (s.answerVal v).med = s.med := rfl
@[simp] theorem State.answerVal_aud (s : State) (v : Val) : (s.answerVal v).aud = s.aud := rfl
@[simp] theorem State.answerVal_fab (s : State) (v : Val) : (s.answerVal v).fab = s.fab := rfl
@[simp] theorem State.answerVal_tlr (s : State) (v : Val) : (s.answerVal v).tlr = s.tlr := rfl
@[simp] theorem State.answerVal_eg (s : State) (v : Val) : (s.answerVal v).eg = s.eg := rfl
@[simp] theorem State.answerVal_enc (s : State) (v : Val) : (s.answerVal v).enc = s.enc := rfl
@[simp] theorem State.answerVal_cmp (s : State) (v : Val) : (s.answerVal v).cmp = s.cmp := rfl
@[simp] theorem State.answerVal_ras (s : State) (v : Val) : (s.answerVal v).ras = s.ras := rfl
@[simp] theorem State.answerVal_itg (s : State) (v : Val) : (s.answerVal v).itg = s.itg := rfl
@[simp] theorem State.answerVal_sec (s : State) (v : Val) : (s.answerVal v).sec = s.sec := rfl
@[simp] theorem State.answerVal_pair (s : State) (v : Val) : (s.answerVal v).pair = s.pair := rfl
@[simp] theorem State.answerVal_tap (s : State) (v : Val) : (s.answerVal v).tap = s.tap := rfl
@[simp] theorem State.answerVal_mem (s : State) (v : Val) : (s.answerVal v).mem = s.mem := rfl
@[simp] theorem State.answerVal_orders (s : State) (v : Val) : (s.answerVal v).orders = s.orders := rfl
@[simp] theorem State.answerVal_out (s : State) (v : Val) : (s.answerVal v).out = s.out := rfl
@[simp] theorem State.answerVal_free (s : State) (v : Val) : (s.answerVal v).free = s.free := rfl

/-! emit -/

@[simp] theorem State.emit_pending (s : State) (x : Out) : (s.emit x).pending = s.pending := rfl
@[simp] theorem State.emit_now (s : State) (x : Out) : (s.emit x).now = s.now := rfl
@[simp] theorem State.emit_clk (s : State) (x : Out) : (s.emit x).clk = s.clk := rfl
@[simp] theorem State.emit_regs (s : State) (x : Out) : (s.emit x).regs = s.regs := rfl
@[simp] theorem State.emit_octs (s : State) (x : Out) : (s.emit x).octs = s.octs := rfl
@[simp] theorem State.emit_ctl (s : State) (x : Out) : (s.emit x).ctl = s.ctl := rfl
@[simp] theorem State.emit_alm (s : State) (x : Out) : (s.emit x).alm = s.alm := rfl
@[simp] theorem State.emit_led (s : State) (x : Out) : (s.emit x).led = s.led := rfl
@[simp] theorem State.emit_cands (s : State) (x : Out) : (s.emit x).cands = s.cands := rfl
@[simp] theorem State.emit_tds (s : State) (x : Out) : (s.emit x).tds = s.tds := rfl
@[simp] theorem State.emit_cadence (s : State) (x : Out) : (s.emit x).cadence = s.cadence := rfl
@[simp] theorem State.emit_cadenceAt (s : State) (x : Out) : (s.emit x).cadenceAt = s.cadenceAt := rfl
@[simp] theorem State.emit_ptp (s : State) (x : Out) : (s.emit x).ptp = s.ptp := rfl
@[simp] theorem State.emit_pwr (s : State) (x : Out) : (s.emit x).pwr = s.pwr := rfl
@[simp] theorem State.emit_lanes (s : State) (x : Out) : (s.emit x).lanes = s.lanes := rfl
@[simp] theorem State.emit_med (s : State) (x : Out) : (s.emit x).med = s.med := rfl
@[simp] theorem State.emit_aud (s : State) (x : Out) : (s.emit x).aud = s.aud := rfl
@[simp] theorem State.emit_fab (s : State) (x : Out) : (s.emit x).fab = s.fab := rfl
@[simp] theorem State.emit_tlr (s : State) (x : Out) : (s.emit x).tlr = s.tlr := rfl
@[simp] theorem State.emit_eg (s : State) (x : Out) : (s.emit x).eg = s.eg := rfl
@[simp] theorem State.emit_enc (s : State) (x : Out) : (s.emit x).enc = s.enc := rfl
@[simp] theorem State.emit_cmp (s : State) (x : Out) : (s.emit x).cmp = s.cmp := rfl
@[simp] theorem State.emit_ras (s : State) (x : Out) : (s.emit x).ras = s.ras := rfl
@[simp] theorem State.emit_itg (s : State) (x : Out) : (s.emit x).itg = s.itg := rfl
@[simp] theorem State.emit_sec (s : State) (x : Out) : (s.emit x).sec = s.sec := rfl
@[simp] theorem State.emit_pair (s : State) (x : Out) : (s.emit x).pair = s.pair := rfl
@[simp] theorem State.emit_tap (s : State) (x : Out) : (s.emit x).tap = s.tap := rfl
@[simp] theorem State.emit_mem (s : State) (x : Out) : (s.emit x).mem = s.mem := rfl
@[simp] theorem State.emit_orders (s : State) (x : Out) : (s.emit x).orders = s.orders := rfl
@[simp] theorem State.emit_free (s : State) (x : Out) : (s.emit x).free = s.free := rfl
@[simp] theorem State.emit_last (s : State) (x : Out) : (s.emit x).last = s.last := rfl

/-! begin -/

@[simp] theorem State.begin_pending (s : State) (t : Nat) : (s.begin t).pending = s.pending := rfl
@[simp] theorem State.begin_regs (s : State) (t : Nat) : (s.begin t).regs = s.regs := rfl
@[simp] theorem State.begin_octs (s : State) (t : Nat) : (s.begin t).octs = s.octs := rfl
@[simp] theorem State.begin_ctl (s : State) (t : Nat) : (s.begin t).ctl = s.ctl := rfl
@[simp] theorem State.begin_alm (s : State) (t : Nat) : (s.begin t).alm = s.alm := rfl
@[simp] theorem State.begin_led (s : State) (t : Nat) : (s.begin t).led = s.led := rfl
@[simp] theorem State.begin_cands (s : State) (t : Nat) : (s.begin t).cands = s.cands := rfl
@[simp] theorem State.begin_tds (s : State) (t : Nat) : (s.begin t).tds = s.tds := rfl
@[simp] theorem State.begin_cadence (s : State) (t : Nat) : (s.begin t).cadence = s.cadence := rfl
@[simp] theorem State.begin_cadenceAt (s : State) (t : Nat) : (s.begin t).cadenceAt = s.cadenceAt := rfl
@[simp] theorem State.begin_ptp (s : State) (t : Nat) : (s.begin t).ptp = s.ptp := rfl
@[simp] theorem State.begin_pwr (s : State) (t : Nat) : (s.begin t).pwr = s.pwr := rfl
@[simp] theorem State.begin_lanes (s : State) (t : Nat) : (s.begin t).lanes = s.lanes := rfl
@[simp] theorem State.begin_med (s : State) (t : Nat) : (s.begin t).med = s.med := rfl
@[simp] theorem State.begin_aud (s : State) (t : Nat) : (s.begin t).aud = s.aud := rfl
@[simp] theorem State.begin_fab (s : State) (t : Nat) : (s.begin t).fab = s.fab := rfl
@[simp] theorem State.begin_tlr (s : State) (t : Nat) : (s.begin t).tlr = s.tlr := rfl
@[simp] theorem State.begin_eg (s : State) (t : Nat) : (s.begin t).eg = s.eg := rfl
@[simp] theorem State.begin_enc (s : State) (t : Nat) : (s.begin t).enc = s.enc := rfl
@[simp] theorem State.begin_cmp (s : State) (t : Nat) : (s.begin t).cmp = s.cmp := rfl
@[simp] theorem State.begin_ras (s : State) (t : Nat) : (s.begin t).ras = s.ras := rfl
@[simp] theorem State.begin_itg (s : State) (t : Nat) : (s.begin t).itg = s.itg := rfl
@[simp] theorem State.begin_sec (s : State) (t : Nat) : (s.begin t).sec = s.sec := rfl
@[simp] theorem State.begin_pair (s : State) (t : Nat) : (s.begin t).pair = s.pair := rfl
@[simp] theorem State.begin_tap (s : State) (t : Nat) : (s.begin t).tap = s.tap := rfl
@[simp] theorem State.begin_mem (s : State) (t : Nat) : (s.begin t).mem = s.mem := rfl
@[simp] theorem State.begin_out (s : State) (t : Nat) : (s.begin t).out = s.out := rfl
@[simp] theorem State.begin_free (s : State) (t : Nat) : (s.begin t).free = s.free := rfl
@[simp] theorem State.begin_last (s : State) (t : Nat) : (s.begin t).last = s.last := rfl

/-! orderByte -/

@[simp] theorem State.orderByte_pending (s : State) (a : Nat) (b : Byte) : (s.orderByte a b).pending = s.pending := rfl
@[simp] theorem State.orderByte_now (s : State) (a : Nat) (b : Byte) : (s.orderByte a b).now = s.now := rfl
@[simp] theorem State.orderByte_clk (s : State) (a : Nat) (b : Byte) : (s.orderByte a b).clk = s.clk := rfl
@[simp] theorem State.orderByte_regs (s : State) (a : Nat) (b : Byte) : (s.orderByte a b).regs = s.regs := rfl
@[simp] theorem State.orderByte_octs (s : State) (a : Nat) (b : Byte) : (s.orderByte a b).octs = s.octs := rfl
@[simp] theorem State.orderByte_ctl (s : State) (a : Nat) (b : Byte) : (s.orderByte a b).ctl = s.ctl := rfl
@[simp] theorem State.orderByte_alm (s : State) (a : Nat) (b : Byte) : (s.orderByte a b).alm = s.alm := rfl
@[simp] theorem State.orderByte_led (s : State) (a : Nat) (b : Byte) : (s.orderByte a b).led = s.led := rfl
@[simp] theorem State.orderByte_cands (s : State) (a : Nat) (b : Byte) : (s.orderByte a b).cands = s.cands := rfl
@[simp] theorem State.orderByte_tds (s : State) (a : Nat) (b : Byte) : (s.orderByte a b).tds = s.tds := rfl
@[simp] theorem State.orderByte_cadence (s : State) (a : Nat) (b : Byte) : (s.orderByte a b).cadence = s.cadence := rfl
@[simp] theorem State.orderByte_cadenceAt (s : State) (a : Nat) (b : Byte) : (s.orderByte a b).cadenceAt = s.cadenceAt := rfl
@[simp] theorem State.orderByte_ptp (s : State) (a : Nat) (b : Byte) : (s.orderByte a b).ptp = s.ptp := rfl
@[simp] theorem State.orderByte_pwr (s : State) (a : Nat) (b : Byte) : (s.orderByte a b).pwr = s.pwr := rfl
@[simp] theorem State.orderByte_lanes (s : State) (a : Nat) (b : Byte) : (s.orderByte a b).lanes = s.lanes := rfl
@[simp] theorem State.orderByte_med (s : State) (a : Nat) (b : Byte) : (s.orderByte a b).med = s.med := rfl
@[simp] theorem State.orderByte_aud (s : State) (a : Nat) (b : Byte) : (s.orderByte a b).aud = s.aud := rfl
@[simp] theorem State.orderByte_fab (s : State) (a : Nat) (b : Byte) : (s.orderByte a b).fab = s.fab := rfl
@[simp] theorem State.orderByte_tlr (s : State) (a : Nat) (b : Byte) : (s.orderByte a b).tlr = s.tlr := rfl
@[simp] theorem State.orderByte_eg (s : State) (a : Nat) (b : Byte) : (s.orderByte a b).eg = s.eg := rfl
@[simp] theorem State.orderByte_enc (s : State) (a : Nat) (b : Byte) : (s.orderByte a b).enc = s.enc := rfl
@[simp] theorem State.orderByte_cmp (s : State) (a : Nat) (b : Byte) : (s.orderByte a b).cmp = s.cmp := rfl
@[simp] theorem State.orderByte_ras (s : State) (a : Nat) (b : Byte) : (s.orderByte a b).ras = s.ras := rfl
@[simp] theorem State.orderByte_itg (s : State) (a : Nat) (b : Byte) : (s.orderByte a b).itg = s.itg := rfl
@[simp] theorem State.orderByte_sec (s : State) (a : Nat) (b : Byte) : (s.orderByte a b).sec = s.sec := rfl
@[simp] theorem State.orderByte_pair (s : State) (a : Nat) (b : Byte) : (s.orderByte a b).pair = s.pair := rfl
@[simp] theorem State.orderByte_tap (s : State) (a : Nat) (b : Byte) : (s.orderByte a b).tap = s.tap := rfl
@[simp] theorem State.orderByte_mem (s : State) (a : Nat) (b : Byte) : (s.orderByte a b).mem = s.mem := rfl
@[simp] theorem State.orderByte_out (s : State) (a : Nat) (b : Byte) : (s.orderByte a b).out = s.out := rfl
@[simp] theorem State.orderByte_free (s : State) (a : Nat) (b : Byte) : (s.orderByte a b).free = s.free := rfl
@[simp] theorem State.orderByte_last (s : State) (a : Nat) (b : Byte) : (s.orderByte a b).last = s.last := rfl

/-! setPort -/

@[simp] theorem State.setPort_pending (s : State) (k : Nat) (x : Port) : (s.setPort k x).pending = s.pending := rfl
@[simp] theorem State.setPort_now (s : State) (k : Nat) (x : Port) : (s.setPort k x).now = s.now := rfl
@[simp] theorem State.setPort_clk (s : State) (k : Nat) (x : Port) : (s.setPort k x).clk = s.clk := rfl
@[simp] theorem State.setPort_regs (s : State) (k : Nat) (x : Port) : (s.setPort k x).regs = s.regs := rfl
@[simp] theorem State.setPort_octs (s : State) (k : Nat) (x : Port) : (s.setPort k x).octs = s.octs := rfl
@[simp] theorem State.setPort_alm (s : State) (k : Nat) (x : Port) : (s.setPort k x).alm = s.alm := rfl
@[simp] theorem State.setPort_led (s : State) (k : Nat) (x : Port) : (s.setPort k x).led = s.led := rfl
@[simp] theorem State.setPort_cands (s : State) (k : Nat) (x : Port) : (s.setPort k x).cands = s.cands := rfl
@[simp] theorem State.setPort_tds (s : State) (k : Nat) (x : Port) : (s.setPort k x).tds = s.tds := rfl
@[simp] theorem State.setPort_cadence (s : State) (k : Nat) (x : Port) : (s.setPort k x).cadence = s.cadence := rfl
@[simp] theorem State.setPort_cadenceAt (s : State) (k : Nat) (x : Port) : (s.setPort k x).cadenceAt = s.cadenceAt := rfl
@[simp] theorem State.setPort_ptp (s : State) (k : Nat) (x : Port) : (s.setPort k x).ptp = s.ptp := rfl
@[simp] theorem State.setPort_pwr (s : State) (k : Nat) (x : Port) : (s.setPort k x).pwr = s.pwr := rfl
@[simp] theorem State.setPort_lanes (s : State) (k : Nat) (x : Port) : (s.setPort k x).lanes = s.lanes := rfl
@[simp] theorem State.setPort_med (s : State) (k : Nat) (x : Port) : (s.setPort k x).med = s.med := rfl
@[simp] theorem State.setPort_aud (s : State) (k : Nat) (x : Port) : (s.setPort k x).aud = s.aud := rfl
@[simp] theorem State.setPort_fab (s : State) (k : Nat) (x : Port) : (s.setPort k x).fab = s.fab := rfl
@[simp] theorem State.setPort_tlr (s : State) (k : Nat) (x : Port) : (s.setPort k x).tlr = s.tlr := rfl
@[simp] theorem State.setPort_eg (s : State) (k : Nat) (x : Port) : (s.setPort k x).eg = s.eg := rfl
@[simp] theorem State.setPort_enc (s : State) (k : Nat) (x : Port) : (s.setPort k x).enc = s.enc := rfl
@[simp] theorem State.setPort_cmp (s : State) (k : Nat) (x : Port) : (s.setPort k x).cmp = s.cmp := rfl
@[simp] theorem State.setPort_ras (s : State) (k : Nat) (x : Port) : (s.setPort k x).ras = s.ras := rfl
@[simp] theorem State.setPort_itg (s : State) (k : Nat) (x : Port) : (s.setPort k x).itg = s.itg := rfl
@[simp] theorem State.setPort_sec (s : State) (k : Nat) (x : Port) : (s.setPort k x).sec = s.sec := rfl
@[simp] theorem State.setPort_pair (s : State) (k : Nat) (x : Port) : (s.setPort k x).pair = s.pair := rfl
@[simp] theorem State.setPort_tap (s : State) (k : Nat) (x : Port) : (s.setPort k x).tap = s.tap := rfl
@[simp] theorem State.setPort_mem (s : State) (k : Nat) (x : Port) : (s.setPort k x).mem = s.mem := rfl
@[simp] theorem State.setPort_orders (s : State) (k : Nat) (x : Port) : (s.setPort k x).orders = s.orders := rfl
@[simp] theorem State.setPort_out (s : State) (k : Nat) (x : Port) : (s.setPort k x).out = s.out := rfl
@[simp] theorem State.setPort_free (s : State) (k : Nat) (x : Port) : (s.setPort k x).free = s.free := rfl
@[simp] theorem State.setPort_last (s : State) (k : Nat) (x : Port) : (s.setPort k x).last = s.last := rfl

/-! setPoint -/

@[simp] theorem State.setPoint_pending (s : State) (a : Alarm) (x : AlarmPt) : (s.setPoint a x).pending = s.pending := rfl
@[simp] theorem State.setPoint_now (s : State) (a : Alarm) (x : AlarmPt) : (s.setPoint a x).now = s.now := rfl
@[simp] theorem State.setPoint_clk (s : State) (a : Alarm) (x : AlarmPt) : (s.setPoint a x).clk = s.clk := rfl
@[simp] theorem State.setPoint_regs (s : State) (a : Alarm) (x : AlarmPt) : (s.setPoint a x).regs = s.regs := rfl
@[simp] theorem State.setPoint_octs (s : State) (a : Alarm) (x : AlarmPt) : (s.setPoint a x).octs = s.octs := rfl
@[simp] theorem State.setPoint_ctl (s : State) (a : Alarm) (x : AlarmPt) : (s.setPoint a x).ctl = s.ctl := rfl
@[simp] theorem State.setPoint_led (s : State) (a : Alarm) (x : AlarmPt) : (s.setPoint a x).led = s.led := rfl
@[simp] theorem State.setPoint_cands (s : State) (a : Alarm) (x : AlarmPt) : (s.setPoint a x).cands = s.cands := rfl
@[simp] theorem State.setPoint_tds (s : State) (a : Alarm) (x : AlarmPt) : (s.setPoint a x).tds = s.tds := rfl
@[simp] theorem State.setPoint_cadence (s : State) (a : Alarm) (x : AlarmPt) : (s.setPoint a x).cadence = s.cadence := rfl
@[simp] theorem State.setPoint_cadenceAt (s : State) (a : Alarm) (x : AlarmPt) : (s.setPoint a x).cadenceAt = s.cadenceAt := rfl
@[simp] theorem State.setPoint_ptp (s : State) (a : Alarm) (x : AlarmPt) : (s.setPoint a x).ptp = s.ptp := rfl
@[simp] theorem State.setPoint_pwr (s : State) (a : Alarm) (x : AlarmPt) : (s.setPoint a x).pwr = s.pwr := rfl
@[simp] theorem State.setPoint_lanes (s : State) (a : Alarm) (x : AlarmPt) : (s.setPoint a x).lanes = s.lanes := rfl
@[simp] theorem State.setPoint_med (s : State) (a : Alarm) (x : AlarmPt) : (s.setPoint a x).med = s.med := rfl
@[simp] theorem State.setPoint_aud (s : State) (a : Alarm) (x : AlarmPt) : (s.setPoint a x).aud = s.aud := rfl
@[simp] theorem State.setPoint_fab (s : State) (a : Alarm) (x : AlarmPt) : (s.setPoint a x).fab = s.fab := rfl
@[simp] theorem State.setPoint_tlr (s : State) (a : Alarm) (x : AlarmPt) : (s.setPoint a x).tlr = s.tlr := rfl
@[simp] theorem State.setPoint_eg (s : State) (a : Alarm) (x : AlarmPt) : (s.setPoint a x).eg = s.eg := rfl
@[simp] theorem State.setPoint_enc (s : State) (a : Alarm) (x : AlarmPt) : (s.setPoint a x).enc = s.enc := rfl
@[simp] theorem State.setPoint_cmp (s : State) (a : Alarm) (x : AlarmPt) : (s.setPoint a x).cmp = s.cmp := rfl
@[simp] theorem State.setPoint_ras (s : State) (a : Alarm) (x : AlarmPt) : (s.setPoint a x).ras = s.ras := rfl
@[simp] theorem State.setPoint_itg (s : State) (a : Alarm) (x : AlarmPt) : (s.setPoint a x).itg = s.itg := rfl
@[simp] theorem State.setPoint_sec (s : State) (a : Alarm) (x : AlarmPt) : (s.setPoint a x).sec = s.sec := rfl
@[simp] theorem State.setPoint_pair (s : State) (a : Alarm) (x : AlarmPt) : (s.setPoint a x).pair = s.pair := rfl
@[simp] theorem State.setPoint_tap (s : State) (a : Alarm) (x : AlarmPt) : (s.setPoint a x).tap = s.tap := rfl
@[simp] theorem State.setPoint_mem (s : State) (a : Alarm) (x : AlarmPt) : (s.setPoint a x).mem = s.mem := rfl
@[simp] theorem State.setPoint_orders (s : State) (a : Alarm) (x : AlarmPt) : (s.setPoint a x).orders = s.orders := rfl
@[simp] theorem State.setPoint_out (s : State) (a : Alarm) (x : AlarmPt) : (s.setPoint a x).out = s.out := rfl
@[simp] theorem State.setPoint_free (s : State) (a : Alarm) (x : AlarmPt) : (s.setPoint a x).free = s.free := rfl
@[simp] theorem State.setPoint_last (s : State) (a : Alarm) (x : AlarmPt) : (s.setPoint a x).last = s.last := rfl

/-! setTd -/

@[simp] theorem State.setTd_pending (s : State) (k : Nat) (x : Td) : (s.setTd k x).pending = s.pending := rfl
@[simp] theorem State.setTd_now (s : State) (k : Nat) (x : Td) : (s.setTd k x).now = s.now := rfl
@[simp] theorem State.setTd_clk (s : State) (k : Nat) (x : Td) : (s.setTd k x).clk = s.clk := rfl
@[simp] theorem State.setTd_regs (s : State) (k : Nat) (x : Td) : (s.setTd k x).regs = s.regs := rfl
@[simp] theorem State.setTd_octs (s : State) (k : Nat) (x : Td) : (s.setTd k x).octs = s.octs := rfl
@[simp] theorem State.setTd_ctl (s : State) (k : Nat) (x : Td) : (s.setTd k x).ctl = s.ctl := rfl
@[simp] theorem State.setTd_alm (s : State) (k : Nat) (x : Td) : (s.setTd k x).alm = s.alm := rfl
@[simp] theorem State.setTd_led (s : State) (k : Nat) (x : Td) : (s.setTd k x).led = s.led := rfl
@[simp] theorem State.setTd_cands (s : State) (k : Nat) (x : Td) : (s.setTd k x).cands = s.cands := rfl
@[simp] theorem State.setTd_cadence (s : State) (k : Nat) (x : Td) : (s.setTd k x).cadence = s.cadence := rfl
@[simp] theorem State.setTd_cadenceAt (s : State) (k : Nat) (x : Td) : (s.setTd k x).cadenceAt = s.cadenceAt := rfl
@[simp] theorem State.setTd_ptp (s : State) (k : Nat) (x : Td) : (s.setTd k x).ptp = s.ptp := rfl
@[simp] theorem State.setTd_pwr (s : State) (k : Nat) (x : Td) : (s.setTd k x).pwr = s.pwr := rfl
@[simp] theorem State.setTd_lanes (s : State) (k : Nat) (x : Td) : (s.setTd k x).lanes = s.lanes := rfl
@[simp] theorem State.setTd_med (s : State) (k : Nat) (x : Td) : (s.setTd k x).med = s.med := rfl
@[simp] theorem State.setTd_aud (s : State) (k : Nat) (x : Td) : (s.setTd k x).aud = s.aud := rfl
@[simp] theorem State.setTd_fab (s : State) (k : Nat) (x : Td) : (s.setTd k x).fab = s.fab := rfl
@[simp] theorem State.setTd_tlr (s : State) (k : Nat) (x : Td) : (s.setTd k x).tlr = s.tlr := rfl
@[simp] theorem State.setTd_eg (s : State) (k : Nat) (x : Td) : (s.setTd k x).eg = s.eg := rfl
@[simp] theorem State.setTd_enc (s : State) (k : Nat) (x : Td) : (s.setTd k x).enc = s.enc := rfl
@[simp] theorem State.setTd_cmp (s : State) (k : Nat) (x : Td) : (s.setTd k x).cmp = s.cmp := rfl
@[simp] theorem State.setTd_ras (s : State) (k : Nat) (x : Td) : (s.setTd k x).ras = s.ras := rfl
@[simp] theorem State.setTd_itg (s : State) (k : Nat) (x : Td) : (s.setTd k x).itg = s.itg := rfl
@[simp] theorem State.setTd_sec (s : State) (k : Nat) (x : Td) : (s.setTd k x).sec = s.sec := rfl
@[simp] theorem State.setTd_pair (s : State) (k : Nat) (x : Td) : (s.setTd k x).pair = s.pair := rfl
@[simp] theorem State.setTd_tap (s : State) (k : Nat) (x : Td) : (s.setTd k x).tap = s.tap := rfl
@[simp] theorem State.setTd_mem (s : State) (k : Nat) (x : Td) : (s.setTd k x).mem = s.mem := rfl
@[simp] theorem State.setTd_orders (s : State) (k : Nat) (x : Td) : (s.setTd k x).orders = s.orders := rfl
@[simp] theorem State.setTd_out (s : State) (k : Nat) (x : Td) : (s.setTd k x).out = s.out := rfl
@[simp] theorem State.setTd_free (s : State) (k : Nat) (x : Td) : (s.setTd k x).free = s.free := rfl
@[simp] theorem State.setTd_last (s : State) (k : Nat) (x : Td) : (s.setTd k x).last = s.last := rfl

/-! setCand -/

@[simp] theorem State.setCand_pending (s : State) (k : Nat) (x : Cand) : (s.setCand k x).pending = s.pending := rfl
@[simp] theorem State.setCand_now (s : State) (k : Nat) (x : Cand) : (s.setCand k x).now = s.now := rfl
@[simp] theorem State.setCand_clk (s : State) (k : Nat) (x : Cand) : (s.setCand k x).clk = s.clk := rfl
@[simp] theorem State.setCand_regs (s : State) (k : Nat) (x : Cand) : (s.setCand k x).regs = s.regs := rfl
@[simp] theorem State.setCand_octs (s : State) (k : Nat) (x : Cand) : (s.setCand k x).octs = s.octs := rfl
@[simp] theorem State.setCand_ctl (s : State) (k : Nat) (x : Cand) : (s.setCand k x).ctl = s.ctl := rfl
@[simp] theorem State.setCand_alm (s : State) (k : Nat) (x : Cand) : (s.setCand k x).alm = s.alm := rfl
@[simp] theorem State.setCand_led (s : State) (k : Nat) (x : Cand) : (s.setCand k x).led = s.led := rfl
@[simp] theorem State.setCand_tds (s : State) (k : Nat) (x : Cand) : (s.setCand k x).tds = s.tds := rfl
@[simp] theorem State.setCand_cadence (s : State) (k : Nat) (x : Cand) : (s.setCand k x).cadence = s.cadence := rfl
@[simp] theorem State.setCand_cadenceAt (s : State) (k : Nat) (x : Cand) : (s.setCand k x).cadenceAt = s.cadenceAt := rfl
@[simp] theorem State.setCand_ptp (s : State) (k : Nat) (x : Cand) : (s.setCand k x).ptp = s.ptp := rfl
@[simp] theorem State.setCand_pwr (s : State) (k : Nat) (x : Cand) : (s.setCand k x).pwr = s.pwr := rfl
@[simp] theorem State.setCand_lanes (s : State) (k : Nat) (x : Cand) : (s.setCand k x).lanes = s.lanes := rfl
@[simp] theorem State.setCand_med (s : State) (k : Nat) (x : Cand) : (s.setCand k x).med = s.med := rfl
@[simp] theorem State.setCand_aud (s : State) (k : Nat) (x : Cand) : (s.setCand k x).aud = s.aud := rfl
@[simp] theorem State.setCand_fab (s : State) (k : Nat) (x : Cand) : (s.setCand k x).fab = s.fab := rfl
@[simp] theorem State.setCand_tlr (s : State) (k : Nat) (x : Cand) : (s.setCand k x).tlr = s.tlr := rfl
@[simp] theorem State.setCand_eg (s : State) (k : Nat) (x : Cand) : (s.setCand k x).eg = s.eg := rfl
@[simp] theorem State.setCand_enc (s : State) (k : Nat) (x : Cand) : (s.setCand k x).enc = s.enc := rfl
@[simp] theorem State.setCand_cmp (s : State) (k : Nat) (x : Cand) : (s.setCand k x).cmp = s.cmp := rfl
@[simp] theorem State.setCand_ras (s : State) (k : Nat) (x : Cand) : (s.setCand k x).ras = s.ras := rfl
@[simp] theorem State.setCand_itg (s : State) (k : Nat) (x : Cand) : (s.setCand k x).itg = s.itg := rfl
@[simp] theorem State.setCand_sec (s : State) (k : Nat) (x : Cand) : (s.setCand k x).sec = s.sec := rfl
@[simp] theorem State.setCand_pair (s : State) (k : Nat) (x : Cand) : (s.setCand k x).pair = s.pair := rfl
@[simp] theorem State.setCand_tap (s : State) (k : Nat) (x : Cand) : (s.setCand k x).tap = s.tap := rfl
@[simp] theorem State.setCand_mem (s : State) (k : Nat) (x : Cand) : (s.setCand k x).mem = s.mem := rfl
@[simp] theorem State.setCand_orders (s : State) (k : Nat) (x : Cand) : (s.setCand k x).orders = s.orders := rfl
@[simp] theorem State.setCand_out (s : State) (k : Nat) (x : Cand) : (s.setCand k x).out = s.out := rfl
@[simp] theorem State.setCand_free (s : State) (k : Nat) (x : Cand) : (s.setCand k x).free = s.free := rfl
@[simp] theorem State.setCand_last (s : State) (k : Nat) (x : Cand) : (s.setCand k x).last = s.last := rfl

/-! setLane -/

@[simp] theorem State.setLane_pending (s : State) (k : Nat) (x : Lane) : (s.setLane k x).pending = s.pending := rfl
@[simp] theorem State.setLane_now (s : State) (k : Nat) (x : Lane) : (s.setLane k x).now = s.now := rfl
@[simp] theorem State.setLane_clk (s : State) (k : Nat) (x : Lane) : (s.setLane k x).clk = s.clk := rfl
@[simp] theorem State.setLane_regs (s : State) (k : Nat) (x : Lane) : (s.setLane k x).regs = s.regs := rfl
@[simp] theorem State.setLane_octs (s : State) (k : Nat) (x : Lane) : (s.setLane k x).octs = s.octs := rfl
@[simp] theorem State.setLane_ctl (s : State) (k : Nat) (x : Lane) : (s.setLane k x).ctl = s.ctl := rfl
@[simp] theorem State.setLane_alm (s : State) (k : Nat) (x : Lane) : (s.setLane k x).alm = s.alm := rfl
@[simp] theorem State.setLane_led (s : State) (k : Nat) (x : Lane) : (s.setLane k x).led = s.led := rfl
@[simp] theorem State.setLane_cands (s : State) (k : Nat) (x : Lane) : (s.setLane k x).cands = s.cands := rfl
@[simp] theorem State.setLane_tds (s : State) (k : Nat) (x : Lane) : (s.setLane k x).tds = s.tds := rfl
@[simp] theorem State.setLane_cadence (s : State) (k : Nat) (x : Lane) : (s.setLane k x).cadence = s.cadence := rfl
@[simp] theorem State.setLane_cadenceAt (s : State) (k : Nat) (x : Lane) : (s.setLane k x).cadenceAt = s.cadenceAt := rfl
@[simp] theorem State.setLane_ptp (s : State) (k : Nat) (x : Lane) : (s.setLane k x).ptp = s.ptp := rfl
@[simp] theorem State.setLane_pwr (s : State) (k : Nat) (x : Lane) : (s.setLane k x).pwr = s.pwr := rfl
@[simp] theorem State.setLane_med (s : State) (k : Nat) (x : Lane) : (s.setLane k x).med = s.med := rfl
@[simp] theorem State.setLane_aud (s : State) (k : Nat) (x : Lane) : (s.setLane k x).aud = s.aud := rfl
@[simp] theorem State.setLane_fab (s : State) (k : Nat) (x : Lane) : (s.setLane k x).fab = s.fab := rfl
@[simp] theorem State.setLane_tlr (s : State) (k : Nat) (x : Lane) : (s.setLane k x).tlr = s.tlr := rfl
@[simp] theorem State.setLane_eg (s : State) (k : Nat) (x : Lane) : (s.setLane k x).eg = s.eg := rfl
@[simp] theorem State.setLane_enc (s : State) (k : Nat) (x : Lane) : (s.setLane k x).enc = s.enc := rfl
@[simp] theorem State.setLane_cmp (s : State) (k : Nat) (x : Lane) : (s.setLane k x).cmp = s.cmp := rfl
@[simp] theorem State.setLane_ras (s : State) (k : Nat) (x : Lane) : (s.setLane k x).ras = s.ras := rfl
@[simp] theorem State.setLane_itg (s : State) (k : Nat) (x : Lane) : (s.setLane k x).itg = s.itg := rfl
@[simp] theorem State.setLane_sec (s : State) (k : Nat) (x : Lane) : (s.setLane k x).sec = s.sec := rfl
@[simp] theorem State.setLane_pair (s : State) (k : Nat) (x : Lane) : (s.setLane k x).pair = s.pair := rfl
@[simp] theorem State.setLane_tap (s : State) (k : Nat) (x : Lane) : (s.setLane k x).tap = s.tap := rfl
@[simp] theorem State.setLane_mem (s : State) (k : Nat) (x : Lane) : (s.setLane k x).mem = s.mem := rfl
@[simp] theorem State.setLane_orders (s : State) (k : Nat) (x : Lane) : (s.setLane k x).orders = s.orders := rfl
@[simp] theorem State.setLane_out (s : State) (k : Nat) (x : Lane) : (s.setLane k x).out = s.out := rfl
@[simp] theorem State.setLane_free (s : State) (k : Nat) (x : Lane) : (s.setLane k x).free = s.free := rfl
@[simp] theorem State.setLane_last (s : State) (k : Nat) (x : Lane) : (s.setLane k x).last = s.last := rfl

/-! setBuf -/

@[simp] theorem State.setBuf_pending (s : State) (k : Nat) (x : Buf) : (s.setBuf k x).pending = s.pending := rfl
@[simp] theorem State.setBuf_now (s : State) (k : Nat) (x : Buf) : (s.setBuf k x).now = s.now := rfl
@[simp] theorem State.setBuf_clk (s : State) (k : Nat) (x : Buf) : (s.setBuf k x).clk = s.clk := rfl
@[simp] theorem State.setBuf_regs (s : State) (k : Nat) (x : Buf) : (s.setBuf k x).regs = s.regs := rfl
@[simp] theorem State.setBuf_octs (s : State) (k : Nat) (x : Buf) : (s.setBuf k x).octs = s.octs := rfl
@[simp] theorem State.setBuf_ctl (s : State) (k : Nat) (x : Buf) : (s.setBuf k x).ctl = s.ctl := rfl
@[simp] theorem State.setBuf_alm (s : State) (k : Nat) (x : Buf) : (s.setBuf k x).alm = s.alm := rfl
@[simp] theorem State.setBuf_led (s : State) (k : Nat) (x : Buf) : (s.setBuf k x).led = s.led := rfl
@[simp] theorem State.setBuf_cands (s : State) (k : Nat) (x : Buf) : (s.setBuf k x).cands = s.cands := rfl
@[simp] theorem State.setBuf_tds (s : State) (k : Nat) (x : Buf) : (s.setBuf k x).tds = s.tds := rfl
@[simp] theorem State.setBuf_cadence (s : State) (k : Nat) (x : Buf) : (s.setBuf k x).cadence = s.cadence := rfl
@[simp] theorem State.setBuf_cadenceAt (s : State) (k : Nat) (x : Buf) : (s.setBuf k x).cadenceAt = s.cadenceAt := rfl
@[simp] theorem State.setBuf_ptp (s : State) (k : Nat) (x : Buf) : (s.setBuf k x).ptp = s.ptp := rfl
@[simp] theorem State.setBuf_pwr (s : State) (k : Nat) (x : Buf) : (s.setBuf k x).pwr = s.pwr := rfl
@[simp] theorem State.setBuf_lanes (s : State) (k : Nat) (x : Buf) : (s.setBuf k x).lanes = s.lanes := rfl
@[simp] theorem State.setBuf_aud (s : State) (k : Nat) (x : Buf) : (s.setBuf k x).aud = s.aud := rfl
@[simp] theorem State.setBuf_fab (s : State) (k : Nat) (x : Buf) : (s.setBuf k x).fab = s.fab := rfl
@[simp] theorem State.setBuf_tlr (s : State) (k : Nat) (x : Buf) : (s.setBuf k x).tlr = s.tlr := rfl
@[simp] theorem State.setBuf_eg (s : State) (k : Nat) (x : Buf) : (s.setBuf k x).eg = s.eg := rfl
@[simp] theorem State.setBuf_enc (s : State) (k : Nat) (x : Buf) : (s.setBuf k x).enc = s.enc := rfl
@[simp] theorem State.setBuf_cmp (s : State) (k : Nat) (x : Buf) : (s.setBuf k x).cmp = s.cmp := rfl
@[simp] theorem State.setBuf_ras (s : State) (k : Nat) (x : Buf) : (s.setBuf k x).ras = s.ras := rfl
@[simp] theorem State.setBuf_itg (s : State) (k : Nat) (x : Buf) : (s.setBuf k x).itg = s.itg := rfl
@[simp] theorem State.setBuf_sec (s : State) (k : Nat) (x : Buf) : (s.setBuf k x).sec = s.sec := rfl
@[simp] theorem State.setBuf_pair (s : State) (k : Nat) (x : Buf) : (s.setBuf k x).pair = s.pair := rfl
@[simp] theorem State.setBuf_tap (s : State) (k : Nat) (x : Buf) : (s.setBuf k x).tap = s.tap := rfl
@[simp] theorem State.setBuf_mem (s : State) (k : Nat) (x : Buf) : (s.setBuf k x).mem = s.mem := rfl
@[simp] theorem State.setBuf_orders (s : State) (k : Nat) (x : Buf) : (s.setBuf k x).orders = s.orders := rfl
@[simp] theorem State.setBuf_out (s : State) (k : Nat) (x : Buf) : (s.setBuf k x).out = s.out := rfl
@[simp] theorem State.setBuf_free (s : State) (k : Nat) (x : Buf) : (s.setBuf k x).free = s.free := rfl
@[simp] theorem State.setBuf_last (s : State) (k : Nat) (x : Buf) : (s.setBuf k x).last = s.last := rfl

/-! setSdi -/

@[simp] theorem State.setSdi_pending (s : State) (k : Nat) (x : SdiIn) : (s.setSdi k x).pending = s.pending := rfl
@[simp] theorem State.setSdi_now (s : State) (k : Nat) (x : SdiIn) : (s.setSdi k x).now = s.now := rfl
@[simp] theorem State.setSdi_clk (s : State) (k : Nat) (x : SdiIn) : (s.setSdi k x).clk = s.clk := rfl
@[simp] theorem State.setSdi_regs (s : State) (k : Nat) (x : SdiIn) : (s.setSdi k x).regs = s.regs := rfl
@[simp] theorem State.setSdi_octs (s : State) (k : Nat) (x : SdiIn) : (s.setSdi k x).octs = s.octs := rfl
@[simp] theorem State.setSdi_ctl (s : State) (k : Nat) (x : SdiIn) : (s.setSdi k x).ctl = s.ctl := rfl
@[simp] theorem State.setSdi_alm (s : State) (k : Nat) (x : SdiIn) : (s.setSdi k x).alm = s.alm := rfl
@[simp] theorem State.setSdi_led (s : State) (k : Nat) (x : SdiIn) : (s.setSdi k x).led = s.led := rfl
@[simp] theorem State.setSdi_cands (s : State) (k : Nat) (x : SdiIn) : (s.setSdi k x).cands = s.cands := rfl
@[simp] theorem State.setSdi_tds (s : State) (k : Nat) (x : SdiIn) : (s.setSdi k x).tds = s.tds := rfl
@[simp] theorem State.setSdi_cadence (s : State) (k : Nat) (x : SdiIn) : (s.setSdi k x).cadence = s.cadence := rfl
@[simp] theorem State.setSdi_cadenceAt (s : State) (k : Nat) (x : SdiIn) : (s.setSdi k x).cadenceAt = s.cadenceAt := rfl
@[simp] theorem State.setSdi_ptp (s : State) (k : Nat) (x : SdiIn) : (s.setSdi k x).ptp = s.ptp := rfl
@[simp] theorem State.setSdi_pwr (s : State) (k : Nat) (x : SdiIn) : (s.setSdi k x).pwr = s.pwr := rfl
@[simp] theorem State.setSdi_lanes (s : State) (k : Nat) (x : SdiIn) : (s.setSdi k x).lanes = s.lanes := rfl
@[simp] theorem State.setSdi_aud (s : State) (k : Nat) (x : SdiIn) : (s.setSdi k x).aud = s.aud := rfl
@[simp] theorem State.setSdi_fab (s : State) (k : Nat) (x : SdiIn) : (s.setSdi k x).fab = s.fab := rfl
@[simp] theorem State.setSdi_tlr (s : State) (k : Nat) (x : SdiIn) : (s.setSdi k x).tlr = s.tlr := rfl
@[simp] theorem State.setSdi_eg (s : State) (k : Nat) (x : SdiIn) : (s.setSdi k x).eg = s.eg := rfl
@[simp] theorem State.setSdi_enc (s : State) (k : Nat) (x : SdiIn) : (s.setSdi k x).enc = s.enc := rfl
@[simp] theorem State.setSdi_cmp (s : State) (k : Nat) (x : SdiIn) : (s.setSdi k x).cmp = s.cmp := rfl
@[simp] theorem State.setSdi_ras (s : State) (k : Nat) (x : SdiIn) : (s.setSdi k x).ras = s.ras := rfl
@[simp] theorem State.setSdi_itg (s : State) (k : Nat) (x : SdiIn) : (s.setSdi k x).itg = s.itg := rfl
@[simp] theorem State.setSdi_sec (s : State) (k : Nat) (x : SdiIn) : (s.setSdi k x).sec = s.sec := rfl
@[simp] theorem State.setSdi_pair (s : State) (k : Nat) (x : SdiIn) : (s.setSdi k x).pair = s.pair := rfl
@[simp] theorem State.setSdi_tap (s : State) (k : Nat) (x : SdiIn) : (s.setSdi k x).tap = s.tap := rfl
@[simp] theorem State.setSdi_mem (s : State) (k : Nat) (x : SdiIn) : (s.setSdi k x).mem = s.mem := rfl
@[simp] theorem State.setSdi_orders (s : State) (k : Nat) (x : SdiIn) : (s.setSdi k x).orders = s.orders := rfl
@[simp] theorem State.setSdi_out (s : State) (k : Nat) (x : SdiIn) : (s.setSdi k x).out = s.out := rfl
@[simp] theorem State.setSdi_free (s : State) (k : Nat) (x : SdiIn) : (s.setSdi k x).free = s.free := rfl
@[simp] theorem State.setSdi_last (s : State) (k : Nat) (x : SdiIn) : (s.setSdi k x).last = s.last := rfl

/-! setFlow -/

@[simp] theorem State.setFlow_pending (s : State) (k : Nat) (x : Flow) : (s.setFlow k x).pending = s.pending := rfl
@[simp] theorem State.setFlow_now (s : State) (k : Nat) (x : Flow) : (s.setFlow k x).now = s.now := rfl
@[simp] theorem State.setFlow_clk (s : State) (k : Nat) (x : Flow) : (s.setFlow k x).clk = s.clk := rfl
@[simp] theorem State.setFlow_regs (s : State) (k : Nat) (x : Flow) : (s.setFlow k x).regs = s.regs := rfl
@[simp] theorem State.setFlow_octs (s : State) (k : Nat) (x : Flow) : (s.setFlow k x).octs = s.octs := rfl
@[simp] theorem State.setFlow_ctl (s : State) (k : Nat) (x : Flow) : (s.setFlow k x).ctl = s.ctl := rfl
@[simp] theorem State.setFlow_alm (s : State) (k : Nat) (x : Flow) : (s.setFlow k x).alm = s.alm := rfl
@[simp] theorem State.setFlow_led (s : State) (k : Nat) (x : Flow) : (s.setFlow k x).led = s.led := rfl
@[simp] theorem State.setFlow_cands (s : State) (k : Nat) (x : Flow) : (s.setFlow k x).cands = s.cands := rfl
@[simp] theorem State.setFlow_tds (s : State) (k : Nat) (x : Flow) : (s.setFlow k x).tds = s.tds := rfl
@[simp] theorem State.setFlow_cadence (s : State) (k : Nat) (x : Flow) : (s.setFlow k x).cadence = s.cadence := rfl
@[simp] theorem State.setFlow_cadenceAt (s : State) (k : Nat) (x : Flow) : (s.setFlow k x).cadenceAt = s.cadenceAt := rfl
@[simp] theorem State.setFlow_ptp (s : State) (k : Nat) (x : Flow) : (s.setFlow k x).ptp = s.ptp := rfl
@[simp] theorem State.setFlow_pwr (s : State) (k : Nat) (x : Flow) : (s.setFlow k x).pwr = s.pwr := rfl
@[simp] theorem State.setFlow_lanes (s : State) (k : Nat) (x : Flow) : (s.setFlow k x).lanes = s.lanes := rfl
@[simp] theorem State.setFlow_aud (s : State) (k : Nat) (x : Flow) : (s.setFlow k x).aud = s.aud := rfl
@[simp] theorem State.setFlow_fab (s : State) (k : Nat) (x : Flow) : (s.setFlow k x).fab = s.fab := rfl
@[simp] theorem State.setFlow_tlr (s : State) (k : Nat) (x : Flow) : (s.setFlow k x).tlr = s.tlr := rfl
@[simp] theorem State.setFlow_eg (s : State) (k : Nat) (x : Flow) : (s.setFlow k x).eg = s.eg := rfl
@[simp] theorem State.setFlow_enc (s : State) (k : Nat) (x : Flow) : (s.setFlow k x).enc = s.enc := rfl
@[simp] theorem State.setFlow_cmp (s : State) (k : Nat) (x : Flow) : (s.setFlow k x).cmp = s.cmp := rfl
@[simp] theorem State.setFlow_ras (s : State) (k : Nat) (x : Flow) : (s.setFlow k x).ras = s.ras := rfl
@[simp] theorem State.setFlow_itg (s : State) (k : Nat) (x : Flow) : (s.setFlow k x).itg = s.itg := rfl
@[simp] theorem State.setFlow_sec (s : State) (k : Nat) (x : Flow) : (s.setFlow k x).sec = s.sec := rfl
@[simp] theorem State.setFlow_pair (s : State) (k : Nat) (x : Flow) : (s.setFlow k x).pair = s.pair := rfl
@[simp] theorem State.setFlow_tap (s : State) (k : Nat) (x : Flow) : (s.setFlow k x).tap = s.tap := rfl
@[simp] theorem State.setFlow_mem (s : State) (k : Nat) (x : Flow) : (s.setFlow k x).mem = s.mem := rfl
@[simp] theorem State.setFlow_orders (s : State) (k : Nat) (x : Flow) : (s.setFlow k x).orders = s.orders := rfl
@[simp] theorem State.setFlow_out (s : State) (k : Nat) (x : Flow) : (s.setFlow k x).out = s.out := rfl
@[simp] theorem State.setFlow_free (s : State) (k : Nat) (x : Flow) : (s.setFlow k x).free = s.free := rfl
@[simp] theorem State.setFlow_last (s : State) (k : Nat) (x : Flow) : (s.setFlow k x).last = s.last := rfl

/-! setDest -/

@[simp] theorem State.setDest_pending (s : State) (k : Nat) (x : Dest) : (s.setDest k x).pending = s.pending := rfl
@[simp] theorem State.setDest_now (s : State) (k : Nat) (x : Dest) : (s.setDest k x).now = s.now := rfl
@[simp] theorem State.setDest_clk (s : State) (k : Nat) (x : Dest) : (s.setDest k x).clk = s.clk := rfl
@[simp] theorem State.setDest_regs (s : State) (k : Nat) (x : Dest) : (s.setDest k x).regs = s.regs := rfl
@[simp] theorem State.setDest_octs (s : State) (k : Nat) (x : Dest) : (s.setDest k x).octs = s.octs := rfl
@[simp] theorem State.setDest_ctl (s : State) (k : Nat) (x : Dest) : (s.setDest k x).ctl = s.ctl := rfl
@[simp] theorem State.setDest_alm (s : State) (k : Nat) (x : Dest) : (s.setDest k x).alm = s.alm := rfl
@[simp] theorem State.setDest_led (s : State) (k : Nat) (x : Dest) : (s.setDest k x).led = s.led := rfl
@[simp] theorem State.setDest_cands (s : State) (k : Nat) (x : Dest) : (s.setDest k x).cands = s.cands := rfl
@[simp] theorem State.setDest_tds (s : State) (k : Nat) (x : Dest) : (s.setDest k x).tds = s.tds := rfl
@[simp] theorem State.setDest_cadence (s : State) (k : Nat) (x : Dest) : (s.setDest k x).cadence = s.cadence := rfl
@[simp] theorem State.setDest_cadenceAt (s : State) (k : Nat) (x : Dest) : (s.setDest k x).cadenceAt = s.cadenceAt := rfl
@[simp] theorem State.setDest_ptp (s : State) (k : Nat) (x : Dest) : (s.setDest k x).ptp = s.ptp := rfl
@[simp] theorem State.setDest_pwr (s : State) (k : Nat) (x : Dest) : (s.setDest k x).pwr = s.pwr := rfl
@[simp] theorem State.setDest_lanes (s : State) (k : Nat) (x : Dest) : (s.setDest k x).lanes = s.lanes := rfl
@[simp] theorem State.setDest_med (s : State) (k : Nat) (x : Dest) : (s.setDest k x).med = s.med := rfl
@[simp] theorem State.setDest_aud (s : State) (k : Nat) (x : Dest) : (s.setDest k x).aud = s.aud := rfl
@[simp] theorem State.setDest_tlr (s : State) (k : Nat) (x : Dest) : (s.setDest k x).tlr = s.tlr := rfl
@[simp] theorem State.setDest_eg (s : State) (k : Nat) (x : Dest) : (s.setDest k x).eg = s.eg := rfl
@[simp] theorem State.setDest_enc (s : State) (k : Nat) (x : Dest) : (s.setDest k x).enc = s.enc := rfl
@[simp] theorem State.setDest_cmp (s : State) (k : Nat) (x : Dest) : (s.setDest k x).cmp = s.cmp := rfl
@[simp] theorem State.setDest_ras (s : State) (k : Nat) (x : Dest) : (s.setDest k x).ras = s.ras := rfl
@[simp] theorem State.setDest_itg (s : State) (k : Nat) (x : Dest) : (s.setDest k x).itg = s.itg := rfl
@[simp] theorem State.setDest_sec (s : State) (k : Nat) (x : Dest) : (s.setDest k x).sec = s.sec := rfl
@[simp] theorem State.setDest_pair (s : State) (k : Nat) (x : Dest) : (s.setDest k x).pair = s.pair := rfl
@[simp] theorem State.setDest_tap (s : State) (k : Nat) (x : Dest) : (s.setDest k x).tap = s.tap := rfl
@[simp] theorem State.setDest_mem (s : State) (k : Nat) (x : Dest) : (s.setDest k x).mem = s.mem := rfl
@[simp] theorem State.setDest_orders (s : State) (k : Nat) (x : Dest) : (s.setDest k x).orders = s.orders := rfl
@[simp] theorem State.setDest_out (s : State) (k : Nat) (x : Dest) : (s.setDest k x).out = s.out := rfl
@[simp] theorem State.setDest_free (s : State) (k : Nat) (x : Dest) : (s.setDest k x).free = s.free := rfl
@[simp] theorem State.setDest_last (s : State) (k : Nat) (x : Dest) : (s.setDest k x).last = s.last := rfl

/-! setMint -/

@[simp] theorem State.setMint_pending (s : State) (k : Nat) (x : MintChan) : (s.setMint k x).pending = s.pending := rfl
@[simp] theorem State.setMint_now (s : State) (k : Nat) (x : MintChan) : (s.setMint k x).now = s.now := rfl
@[simp] theorem State.setMint_clk (s : State) (k : Nat) (x : MintChan) : (s.setMint k x).clk = s.clk := rfl
@[simp] theorem State.setMint_regs (s : State) (k : Nat) (x : MintChan) : (s.setMint k x).regs = s.regs := rfl
@[simp] theorem State.setMint_octs (s : State) (k : Nat) (x : MintChan) : (s.setMint k x).octs = s.octs := rfl
@[simp] theorem State.setMint_ctl (s : State) (k : Nat) (x : MintChan) : (s.setMint k x).ctl = s.ctl := rfl
@[simp] theorem State.setMint_alm (s : State) (k : Nat) (x : MintChan) : (s.setMint k x).alm = s.alm := rfl
@[simp] theorem State.setMint_led (s : State) (k : Nat) (x : MintChan) : (s.setMint k x).led = s.led := rfl
@[simp] theorem State.setMint_cands (s : State) (k : Nat) (x : MintChan) : (s.setMint k x).cands = s.cands := rfl
@[simp] theorem State.setMint_tds (s : State) (k : Nat) (x : MintChan) : (s.setMint k x).tds = s.tds := rfl
@[simp] theorem State.setMint_cadence (s : State) (k : Nat) (x : MintChan) : (s.setMint k x).cadence = s.cadence := rfl
@[simp] theorem State.setMint_cadenceAt (s : State) (k : Nat) (x : MintChan) : (s.setMint k x).cadenceAt = s.cadenceAt := rfl
@[simp] theorem State.setMint_ptp (s : State) (k : Nat) (x : MintChan) : (s.setMint k x).ptp = s.ptp := rfl
@[simp] theorem State.setMint_pwr (s : State) (k : Nat) (x : MintChan) : (s.setMint k x).pwr = s.pwr := rfl
@[simp] theorem State.setMint_lanes (s : State) (k : Nat) (x : MintChan) : (s.setMint k x).lanes = s.lanes := rfl
@[simp] theorem State.setMint_med (s : State) (k : Nat) (x : MintChan) : (s.setMint k x).med = s.med := rfl
@[simp] theorem State.setMint_aud (s : State) (k : Nat) (x : MintChan) : (s.setMint k x).aud = s.aud := rfl
@[simp] theorem State.setMint_fab (s : State) (k : Nat) (x : MintChan) : (s.setMint k x).fab = s.fab := rfl
@[simp] theorem State.setMint_tlr (s : State) (k : Nat) (x : MintChan) : (s.setMint k x).tlr = s.tlr := rfl
@[simp] theorem State.setMint_eg (s : State) (k : Nat) (x : MintChan) : (s.setMint k x).eg = s.eg := rfl
@[simp] theorem State.setMint_cmp (s : State) (k : Nat) (x : MintChan) : (s.setMint k x).cmp = s.cmp := rfl
@[simp] theorem State.setMint_ras (s : State) (k : Nat) (x : MintChan) : (s.setMint k x).ras = s.ras := rfl
@[simp] theorem State.setMint_itg (s : State) (k : Nat) (x : MintChan) : (s.setMint k x).itg = s.itg := rfl
@[simp] theorem State.setMint_sec (s : State) (k : Nat) (x : MintChan) : (s.setMint k x).sec = s.sec := rfl
@[simp] theorem State.setMint_pair (s : State) (k : Nat) (x : MintChan) : (s.setMint k x).pair = s.pair := rfl
@[simp] theorem State.setMint_tap (s : State) (k : Nat) (x : MintChan) : (s.setMint k x).tap = s.tap := rfl
@[simp] theorem State.setMint_mem (s : State) (k : Nat) (x : MintChan) : (s.setMint k x).mem = s.mem := rfl
@[simp] theorem State.setMint_orders (s : State) (k : Nat) (x : MintChan) : (s.setMint k x).orders = s.orders := rfl
@[simp] theorem State.setMint_out (s : State) (k : Nat) (x : MintChan) : (s.setMint k x).out = s.out := rfl
@[simp] theorem State.setMint_free (s : State) (k : Nat) (x : MintChan) : (s.setMint k x).free = s.free := rfl
@[simp] theorem State.setMint_last (s : State) (k : Nat) (x : MintChan) : (s.setMint k x).last = s.last := rfl

/-! setComp -/

@[simp] theorem State.setComp_pending (s : State) (k : Nat) (x : Comp) : (s.setComp k x).pending = s.pending := rfl
@[simp] theorem State.setComp_now (s : State) (k : Nat) (x : Comp) : (s.setComp k x).now = s.now := rfl
@[simp] theorem State.setComp_clk (s : State) (k : Nat) (x : Comp) : (s.setComp k x).clk = s.clk := rfl
@[simp] theorem State.setComp_regs (s : State) (k : Nat) (x : Comp) : (s.setComp k x).regs = s.regs := rfl
@[simp] theorem State.setComp_octs (s : State) (k : Nat) (x : Comp) : (s.setComp k x).octs = s.octs := rfl
@[simp] theorem State.setComp_ctl (s : State) (k : Nat) (x : Comp) : (s.setComp k x).ctl = s.ctl := rfl
@[simp] theorem State.setComp_alm (s : State) (k : Nat) (x : Comp) : (s.setComp k x).alm = s.alm := rfl
@[simp] theorem State.setComp_led (s : State) (k : Nat) (x : Comp) : (s.setComp k x).led = s.led := rfl
@[simp] theorem State.setComp_cands (s : State) (k : Nat) (x : Comp) : (s.setComp k x).cands = s.cands := rfl
@[simp] theorem State.setComp_tds (s : State) (k : Nat) (x : Comp) : (s.setComp k x).tds = s.tds := rfl
@[simp] theorem State.setComp_cadence (s : State) (k : Nat) (x : Comp) : (s.setComp k x).cadence = s.cadence := rfl
@[simp] theorem State.setComp_cadenceAt (s : State) (k : Nat) (x : Comp) : (s.setComp k x).cadenceAt = s.cadenceAt := rfl
@[simp] theorem State.setComp_ptp (s : State) (k : Nat) (x : Comp) : (s.setComp k x).ptp = s.ptp := rfl
@[simp] theorem State.setComp_pwr (s : State) (k : Nat) (x : Comp) : (s.setComp k x).pwr = s.pwr := rfl
@[simp] theorem State.setComp_lanes (s : State) (k : Nat) (x : Comp) : (s.setComp k x).lanes = s.lanes := rfl
@[simp] theorem State.setComp_med (s : State) (k : Nat) (x : Comp) : (s.setComp k x).med = s.med := rfl
@[simp] theorem State.setComp_aud (s : State) (k : Nat) (x : Comp) : (s.setComp k x).aud = s.aud := rfl
@[simp] theorem State.setComp_fab (s : State) (k : Nat) (x : Comp) : (s.setComp k x).fab = s.fab := rfl
@[simp] theorem State.setComp_tlr (s : State) (k : Nat) (x : Comp) : (s.setComp k x).tlr = s.tlr := rfl
@[simp] theorem State.setComp_eg (s : State) (k : Nat) (x : Comp) : (s.setComp k x).eg = s.eg := rfl
@[simp] theorem State.setComp_enc (s : State) (k : Nat) (x : Comp) : (s.setComp k x).enc = s.enc := rfl
@[simp] theorem State.setComp_ras (s : State) (k : Nat) (x : Comp) : (s.setComp k x).ras = s.ras := rfl
@[simp] theorem State.setComp_itg (s : State) (k : Nat) (x : Comp) : (s.setComp k x).itg = s.itg := rfl
@[simp] theorem State.setComp_sec (s : State) (k : Nat) (x : Comp) : (s.setComp k x).sec = s.sec := rfl
@[simp] theorem State.setComp_pair (s : State) (k : Nat) (x : Comp) : (s.setComp k x).pair = s.pair := rfl
@[simp] theorem State.setComp_tap (s : State) (k : Nat) (x : Comp) : (s.setComp k x).tap = s.tap := rfl
@[simp] theorem State.setComp_mem (s : State) (k : Nat) (x : Comp) : (s.setComp k x).mem = s.mem := rfl
@[simp] theorem State.setComp_orders (s : State) (k : Nat) (x : Comp) : (s.setComp k x).orders = s.orders := rfl
@[simp] theorem State.setComp_out (s : State) (k : Nat) (x : Comp) : (s.setComp k x).out = s.out := rfl
@[simp] theorem State.setComp_free (s : State) (k : Nat) (x : Comp) : (s.setComp k x).free = s.free := rfl
@[simp] theorem State.setComp_last (s : State) (k : Nat) (x : Comp) : (s.setComp k x).last = s.last := rfl

/-! setSurf -/

@[simp] theorem State.setSurf_pending (s : State) (k : Nat) (x : Surf) : (s.setSurf k x).pending = s.pending := rfl
@[simp] theorem State.setSurf_now (s : State) (k : Nat) (x : Surf) : (s.setSurf k x).now = s.now := rfl
@[simp] theorem State.setSurf_clk (s : State) (k : Nat) (x : Surf) : (s.setSurf k x).clk = s.clk := rfl
@[simp] theorem State.setSurf_regs (s : State) (k : Nat) (x : Surf) : (s.setSurf k x).regs = s.regs := rfl
@[simp] theorem State.setSurf_octs (s : State) (k : Nat) (x : Surf) : (s.setSurf k x).octs = s.octs := rfl
@[simp] theorem State.setSurf_ctl (s : State) (k : Nat) (x : Surf) : (s.setSurf k x).ctl = s.ctl := rfl
@[simp] theorem State.setSurf_alm (s : State) (k : Nat) (x : Surf) : (s.setSurf k x).alm = s.alm := rfl
@[simp] theorem State.setSurf_led (s : State) (k : Nat) (x : Surf) : (s.setSurf k x).led = s.led := rfl
@[simp] theorem State.setSurf_cands (s : State) (k : Nat) (x : Surf) : (s.setSurf k x).cands = s.cands := rfl
@[simp] theorem State.setSurf_tds (s : State) (k : Nat) (x : Surf) : (s.setSurf k x).tds = s.tds := rfl
@[simp] theorem State.setSurf_cadence (s : State) (k : Nat) (x : Surf) : (s.setSurf k x).cadence = s.cadence := rfl
@[simp] theorem State.setSurf_cadenceAt (s : State) (k : Nat) (x : Surf) : (s.setSurf k x).cadenceAt = s.cadenceAt := rfl
@[simp] theorem State.setSurf_ptp (s : State) (k : Nat) (x : Surf) : (s.setSurf k x).ptp = s.ptp := rfl
@[simp] theorem State.setSurf_pwr (s : State) (k : Nat) (x : Surf) : (s.setSurf k x).pwr = s.pwr := rfl
@[simp] theorem State.setSurf_lanes (s : State) (k : Nat) (x : Surf) : (s.setSurf k x).lanes = s.lanes := rfl
@[simp] theorem State.setSurf_med (s : State) (k : Nat) (x : Surf) : (s.setSurf k x).med = s.med := rfl
@[simp] theorem State.setSurf_aud (s : State) (k : Nat) (x : Surf) : (s.setSurf k x).aud = s.aud := rfl
@[simp] theorem State.setSurf_fab (s : State) (k : Nat) (x : Surf) : (s.setSurf k x).fab = s.fab := rfl
@[simp] theorem State.setSurf_tlr (s : State) (k : Nat) (x : Surf) : (s.setSurf k x).tlr = s.tlr := rfl
@[simp] theorem State.setSurf_eg (s : State) (k : Nat) (x : Surf) : (s.setSurf k x).eg = s.eg := rfl
@[simp] theorem State.setSurf_enc (s : State) (k : Nat) (x : Surf) : (s.setSurf k x).enc = s.enc := rfl
@[simp] theorem State.setSurf_ras (s : State) (k : Nat) (x : Surf) : (s.setSurf k x).ras = s.ras := rfl
@[simp] theorem State.setSurf_itg (s : State) (k : Nat) (x : Surf) : (s.setSurf k x).itg = s.itg := rfl
@[simp] theorem State.setSurf_sec (s : State) (k : Nat) (x : Surf) : (s.setSurf k x).sec = s.sec := rfl
@[simp] theorem State.setSurf_pair (s : State) (k : Nat) (x : Surf) : (s.setSurf k x).pair = s.pair := rfl
@[simp] theorem State.setSurf_tap (s : State) (k : Nat) (x : Surf) : (s.setSurf k x).tap = s.tap := rfl
@[simp] theorem State.setSurf_mem (s : State) (k : Nat) (x : Surf) : (s.setSurf k x).mem = s.mem := rfl
@[simp] theorem State.setSurf_orders (s : State) (k : Nat) (x : Surf) : (s.setSurf k x).orders = s.orders := rfl
@[simp] theorem State.setSurf_out (s : State) (k : Nat) (x : Surf) : (s.setSurf k x).out = s.out := rfl
@[simp] theorem State.setSurf_free (s : State) (k : Nat) (x : Surf) : (s.setSurf k x).free = s.free := rfl
@[simp] theorem State.setSurf_last (s : State) (k : Nat) (x : Surf) : (s.setSurf k x).last = s.last := rfl

/-! setHead -/

@[simp] theorem State.setHead_pending (s : State) (k : Nat) (x : Head) : (s.setHead k x).pending = s.pending := rfl
@[simp] theorem State.setHead_now (s : State) (k : Nat) (x : Head) : (s.setHead k x).now = s.now := rfl
@[simp] theorem State.setHead_clk (s : State) (k : Nat) (x : Head) : (s.setHead k x).clk = s.clk := rfl
@[simp] theorem State.setHead_regs (s : State) (k : Nat) (x : Head) : (s.setHead k x).regs = s.regs := rfl
@[simp] theorem State.setHead_octs (s : State) (k : Nat) (x : Head) : (s.setHead k x).octs = s.octs := rfl
@[simp] theorem State.setHead_ctl (s : State) (k : Nat) (x : Head) : (s.setHead k x).ctl = s.ctl := rfl
@[simp] theorem State.setHead_alm (s : State) (k : Nat) (x : Head) : (s.setHead k x).alm = s.alm := rfl
@[simp] theorem State.setHead_led (s : State) (k : Nat) (x : Head) : (s.setHead k x).led = s.led := rfl
@[simp] theorem State.setHead_cands (s : State) (k : Nat) (x : Head) : (s.setHead k x).cands = s.cands := rfl
@[simp] theorem State.setHead_tds (s : State) (k : Nat) (x : Head) : (s.setHead k x).tds = s.tds := rfl
@[simp] theorem State.setHead_cadence (s : State) (k : Nat) (x : Head) : (s.setHead k x).cadence = s.cadence := rfl
@[simp] theorem State.setHead_cadenceAt (s : State) (k : Nat) (x : Head) : (s.setHead k x).cadenceAt = s.cadenceAt := rfl
@[simp] theorem State.setHead_ptp (s : State) (k : Nat) (x : Head) : (s.setHead k x).ptp = s.ptp := rfl
@[simp] theorem State.setHead_pwr (s : State) (k : Nat) (x : Head) : (s.setHead k x).pwr = s.pwr := rfl
@[simp] theorem State.setHead_lanes (s : State) (k : Nat) (x : Head) : (s.setHead k x).lanes = s.lanes := rfl
@[simp] theorem State.setHead_med (s : State) (k : Nat) (x : Head) : (s.setHead k x).med = s.med := rfl
@[simp] theorem State.setHead_aud (s : State) (k : Nat) (x : Head) : (s.setHead k x).aud = s.aud := rfl
@[simp] theorem State.setHead_fab (s : State) (k : Nat) (x : Head) : (s.setHead k x).fab = s.fab := rfl
@[simp] theorem State.setHead_tlr (s : State) (k : Nat) (x : Head) : (s.setHead k x).tlr = s.tlr := rfl
@[simp] theorem State.setHead_eg (s : State) (k : Nat) (x : Head) : (s.setHead k x).eg = s.eg := rfl
@[simp] theorem State.setHead_enc (s : State) (k : Nat) (x : Head) : (s.setHead k x).enc = s.enc := rfl
@[simp] theorem State.setHead_cmp (s : State) (k : Nat) (x : Head) : (s.setHead k x).cmp = s.cmp := rfl
@[simp] theorem State.setHead_itg (s : State) (k : Nat) (x : Head) : (s.setHead k x).itg = s.itg := rfl
@[simp] theorem State.setHead_sec (s : State) (k : Nat) (x : Head) : (s.setHead k x).sec = s.sec := rfl
@[simp] theorem State.setHead_pair (s : State) (k : Nat) (x : Head) : (s.setHead k x).pair = s.pair := rfl
@[simp] theorem State.setHead_tap (s : State) (k : Nat) (x : Head) : (s.setHead k x).tap = s.tap := rfl
@[simp] theorem State.setHead_mem (s : State) (k : Nat) (x : Head) : (s.setHead k x).mem = s.mem := rfl
@[simp] theorem State.setHead_orders (s : State) (k : Nat) (x : Head) : (s.setHead k x).orders = s.orders := rfl
@[simp] theorem State.setHead_out (s : State) (k : Nat) (x : Head) : (s.setHead k x).out = s.out := rfl
@[simp] theorem State.setHead_free (s : State) (k : Nat) (x : Head) : (s.setHead k x).free = s.free := rfl
@[simp] theorem State.setHead_last (s : State) (k : Nat) (x : Head) : (s.setHead k x).last = s.last := rfl

/-! setTask -/

@[simp] theorem State.setTask_pending (s : State) (k : Nat) (x : Task) : (s.setTask k x).pending = s.pending := rfl
@[simp] theorem State.setTask_now (s : State) (k : Nat) (x : Task) : (s.setTask k x).now = s.now := rfl
@[simp] theorem State.setTask_clk (s : State) (k : Nat) (x : Task) : (s.setTask k x).clk = s.clk := rfl
@[simp] theorem State.setTask_regs (s : State) (k : Nat) (x : Task) : (s.setTask k x).regs = s.regs := rfl
@[simp] theorem State.setTask_octs (s : State) (k : Nat) (x : Task) : (s.setTask k x).octs = s.octs := rfl
@[simp] theorem State.setTask_ctl (s : State) (k : Nat) (x : Task) : (s.setTask k x).ctl = s.ctl := rfl
@[simp] theorem State.setTask_alm (s : State) (k : Nat) (x : Task) : (s.setTask k x).alm = s.alm := rfl
@[simp] theorem State.setTask_led (s : State) (k : Nat) (x : Task) : (s.setTask k x).led = s.led := rfl
@[simp] theorem State.setTask_cands (s : State) (k : Nat) (x : Task) : (s.setTask k x).cands = s.cands := rfl
@[simp] theorem State.setTask_tds (s : State) (k : Nat) (x : Task) : (s.setTask k x).tds = s.tds := rfl
@[simp] theorem State.setTask_cadence (s : State) (k : Nat) (x : Task) : (s.setTask k x).cadence = s.cadence := rfl
@[simp] theorem State.setTask_cadenceAt (s : State) (k : Nat) (x : Task) : (s.setTask k x).cadenceAt = s.cadenceAt := rfl
@[simp] theorem State.setTask_ptp (s : State) (k : Nat) (x : Task) : (s.setTask k x).ptp = s.ptp := rfl
@[simp] theorem State.setTask_pwr (s : State) (k : Nat) (x : Task) : (s.setTask k x).pwr = s.pwr := rfl
@[simp] theorem State.setTask_lanes (s : State) (k : Nat) (x : Task) : (s.setTask k x).lanes = s.lanes := rfl
@[simp] theorem State.setTask_med (s : State) (k : Nat) (x : Task) : (s.setTask k x).med = s.med := rfl
@[simp] theorem State.setTask_aud (s : State) (k : Nat) (x : Task) : (s.setTask k x).aud = s.aud := rfl
@[simp] theorem State.setTask_fab (s : State) (k : Nat) (x : Task) : (s.setTask k x).fab = s.fab := rfl
@[simp] theorem State.setTask_eg (s : State) (k : Nat) (x : Task) : (s.setTask k x).eg = s.eg := rfl
@[simp] theorem State.setTask_enc (s : State) (k : Nat) (x : Task) : (s.setTask k x).enc = s.enc := rfl
@[simp] theorem State.setTask_cmp (s : State) (k : Nat) (x : Task) : (s.setTask k x).cmp = s.cmp := rfl
@[simp] theorem State.setTask_ras (s : State) (k : Nat) (x : Task) : (s.setTask k x).ras = s.ras := rfl
@[simp] theorem State.setTask_itg (s : State) (k : Nat) (x : Task) : (s.setTask k x).itg = s.itg := rfl
@[simp] theorem State.setTask_sec (s : State) (k : Nat) (x : Task) : (s.setTask k x).sec = s.sec := rfl
@[simp] theorem State.setTask_pair (s : State) (k : Nat) (x : Task) : (s.setTask k x).pair = s.pair := rfl
@[simp] theorem State.setTask_tap (s : State) (k : Nat) (x : Task) : (s.setTask k x).tap = s.tap := rfl
@[simp] theorem State.setTask_mem (s : State) (k : Nat) (x : Task) : (s.setTask k x).mem = s.mem := rfl
@[simp] theorem State.setTask_orders (s : State) (k : Nat) (x : Task) : (s.setTask k x).orders = s.orders := rfl
@[simp] theorem State.setTask_out (s : State) (k : Nat) (x : Task) : (s.setTask k x).out = s.out := rfl
@[simp] theorem State.setTask_free (s : State) (k : Nat) (x : Task) : (s.setTask k x).free = s.free := rfl
@[simp] theorem State.setTask_last (s : State) (k : Nat) (x : Task) : (s.setTask k x).last = s.last := rfl

/-! setBank -/

@[simp] theorem State.setBank_pending (s : State) (k : Nat) (x : Bank) : (s.setBank k x).pending = s.pending := rfl
@[simp] theorem State.setBank_now (s : State) (k : Nat) (x : Bank) : (s.setBank k x).now = s.now := rfl
@[simp] theorem State.setBank_clk (s : State) (k : Nat) (x : Bank) : (s.setBank k x).clk = s.clk := rfl
@[simp] theorem State.setBank_regs (s : State) (k : Nat) (x : Bank) : (s.setBank k x).regs = s.regs := rfl
@[simp] theorem State.setBank_octs (s : State) (k : Nat) (x : Bank) : (s.setBank k x).octs = s.octs := rfl
@[simp] theorem State.setBank_ctl (s : State) (k : Nat) (x : Bank) : (s.setBank k x).ctl = s.ctl := rfl
@[simp] theorem State.setBank_alm (s : State) (k : Nat) (x : Bank) : (s.setBank k x).alm = s.alm := rfl
@[simp] theorem State.setBank_cands (s : State) (k : Nat) (x : Bank) : (s.setBank k x).cands = s.cands := rfl
@[simp] theorem State.setBank_tds (s : State) (k : Nat) (x : Bank) : (s.setBank k x).tds = s.tds := rfl
@[simp] theorem State.setBank_cadence (s : State) (k : Nat) (x : Bank) : (s.setBank k x).cadence = s.cadence := rfl
@[simp] theorem State.setBank_cadenceAt (s : State) (k : Nat) (x : Bank) : (s.setBank k x).cadenceAt = s.cadenceAt := rfl
@[simp] theorem State.setBank_ptp (s : State) (k : Nat) (x : Bank) : (s.setBank k x).ptp = s.ptp := rfl
@[simp] theorem State.setBank_pwr (s : State) (k : Nat) (x : Bank) : (s.setBank k x).pwr = s.pwr := rfl
@[simp] theorem State.setBank_lanes (s : State) (k : Nat) (x : Bank) : (s.setBank k x).lanes = s.lanes := rfl
@[simp] theorem State.setBank_med (s : State) (k : Nat) (x : Bank) : (s.setBank k x).med = s.med := rfl
@[simp] theorem State.setBank_aud (s : State) (k : Nat) (x : Bank) : (s.setBank k x).aud = s.aud := rfl
@[simp] theorem State.setBank_fab (s : State) (k : Nat) (x : Bank) : (s.setBank k x).fab = s.fab := rfl
@[simp] theorem State.setBank_tlr (s : State) (k : Nat) (x : Bank) : (s.setBank k x).tlr = s.tlr := rfl
@[simp] theorem State.setBank_eg (s : State) (k : Nat) (x : Bank) : (s.setBank k x).eg = s.eg := rfl
@[simp] theorem State.setBank_enc (s : State) (k : Nat) (x : Bank) : (s.setBank k x).enc = s.enc := rfl
@[simp] theorem State.setBank_cmp (s : State) (k : Nat) (x : Bank) : (s.setBank k x).cmp = s.cmp := rfl
@[simp] theorem State.setBank_ras (s : State) (k : Nat) (x : Bank) : (s.setBank k x).ras = s.ras := rfl
@[simp] theorem State.setBank_itg (s : State) (k : Nat) (x : Bank) : (s.setBank k x).itg = s.itg := rfl
@[simp] theorem State.setBank_sec (s : State) (k : Nat) (x : Bank) : (s.setBank k x).sec = s.sec := rfl
@[simp] theorem State.setBank_pair (s : State) (k : Nat) (x : Bank) : (s.setBank k x).pair = s.pair := rfl
@[simp] theorem State.setBank_tap (s : State) (k : Nat) (x : Bank) : (s.setBank k x).tap = s.tap := rfl
@[simp] theorem State.setBank_mem (s : State) (k : Nat) (x : Bank) : (s.setBank k x).mem = s.mem := rfl
@[simp] theorem State.setBank_orders (s : State) (k : Nat) (x : Bank) : (s.setBank k x).orders = s.orders := rfl
@[simp] theorem State.setBank_out (s : State) (k : Nat) (x : Bank) : (s.setBank k x).out = s.out := rfl
@[simp] theorem State.setBank_free (s : State) (k : Nat) (x : Bank) : (s.setBank k x).free = s.free := rfl
@[simp] theorem State.setBank_last (s : State) (k : Nat) (x : Bank) : (s.setBank k x).last = s.last := rfl

/-! setPtpPort -/

@[simp] theorem State.setPtpPort_pending (s : State) (k : Nat) (x : PtpPort) : (s.setPtpPort k x).pending = s.pending := rfl
@[simp] theorem State.setPtpPort_now (s : State) (k : Nat) (x : PtpPort) : (s.setPtpPort k x).now = s.now := rfl
@[simp] theorem State.setPtpPort_clk (s : State) (k : Nat) (x : PtpPort) : (s.setPtpPort k x).clk = s.clk := rfl
@[simp] theorem State.setPtpPort_regs (s : State) (k : Nat) (x : PtpPort) : (s.setPtpPort k x).regs = s.regs := rfl
@[simp] theorem State.setPtpPort_octs (s : State) (k : Nat) (x : PtpPort) : (s.setPtpPort k x).octs = s.octs := rfl
@[simp] theorem State.setPtpPort_ctl (s : State) (k : Nat) (x : PtpPort) : (s.setPtpPort k x).ctl = s.ctl := rfl
@[simp] theorem State.setPtpPort_alm (s : State) (k : Nat) (x : PtpPort) : (s.setPtpPort k x).alm = s.alm := rfl
@[simp] theorem State.setPtpPort_led (s : State) (k : Nat) (x : PtpPort) : (s.setPtpPort k x).led = s.led := rfl
@[simp] theorem State.setPtpPort_cands (s : State) (k : Nat) (x : PtpPort) : (s.setPtpPort k x).cands = s.cands := rfl
@[simp] theorem State.setPtpPort_tds (s : State) (k : Nat) (x : PtpPort) : (s.setPtpPort k x).tds = s.tds := rfl
@[simp] theorem State.setPtpPort_cadence (s : State) (k : Nat) (x : PtpPort) : (s.setPtpPort k x).cadence = s.cadence := rfl
@[simp] theorem State.setPtpPort_cadenceAt (s : State) (k : Nat) (x : PtpPort) : (s.setPtpPort k x).cadenceAt = s.cadenceAt := rfl
@[simp] theorem State.setPtpPort_pwr (s : State) (k : Nat) (x : PtpPort) : (s.setPtpPort k x).pwr = s.pwr := rfl
@[simp] theorem State.setPtpPort_lanes (s : State) (k : Nat) (x : PtpPort) : (s.setPtpPort k x).lanes = s.lanes := rfl
@[simp] theorem State.setPtpPort_med (s : State) (k : Nat) (x : PtpPort) : (s.setPtpPort k x).med = s.med := rfl
@[simp] theorem State.setPtpPort_aud (s : State) (k : Nat) (x : PtpPort) : (s.setPtpPort k x).aud = s.aud := rfl
@[simp] theorem State.setPtpPort_fab (s : State) (k : Nat) (x : PtpPort) : (s.setPtpPort k x).fab = s.fab := rfl
@[simp] theorem State.setPtpPort_tlr (s : State) (k : Nat) (x : PtpPort) : (s.setPtpPort k x).tlr = s.tlr := rfl
@[simp] theorem State.setPtpPort_eg (s : State) (k : Nat) (x : PtpPort) : (s.setPtpPort k x).eg = s.eg := rfl
@[simp] theorem State.setPtpPort_enc (s : State) (k : Nat) (x : PtpPort) : (s.setPtpPort k x).enc = s.enc := rfl
@[simp] theorem State.setPtpPort_cmp (s : State) (k : Nat) (x : PtpPort) : (s.setPtpPort k x).cmp = s.cmp := rfl
@[simp] theorem State.setPtpPort_ras (s : State) (k : Nat) (x : PtpPort) : (s.setPtpPort k x).ras = s.ras := rfl
@[simp] theorem State.setPtpPort_itg (s : State) (k : Nat) (x : PtpPort) : (s.setPtpPort k x).itg = s.itg := rfl
@[simp] theorem State.setPtpPort_sec (s : State) (k : Nat) (x : PtpPort) : (s.setPtpPort k x).sec = s.sec := rfl
@[simp] theorem State.setPtpPort_pair (s : State) (k : Nat) (x : PtpPort) : (s.setPtpPort k x).pair = s.pair := rfl
@[simp] theorem State.setPtpPort_tap (s : State) (k : Nat) (x : PtpPort) : (s.setPtpPort k x).tap = s.tap := rfl
@[simp] theorem State.setPtpPort_mem (s : State) (k : Nat) (x : PtpPort) : (s.setPtpPort k x).mem = s.mem := rfl
@[simp] theorem State.setPtpPort_orders (s : State) (k : Nat) (x : PtpPort) : (s.setPtpPort k x).orders = s.orders := rfl
@[simp] theorem State.setPtpPort_out (s : State) (k : Nat) (x : PtpPort) : (s.setPtpPort k x).out = s.out := rfl
@[simp] theorem State.setPtpPort_free (s : State) (k : Nat) (x : PtpPort) : (s.setPtpPort k x).free = s.free := rfl
@[simp] theorem State.setPtpPort_last (s : State) (k : Nat) (x : PtpPort) : (s.setPtpPort k x).last = s.last := rfl

/-! setFw -/

@[simp] theorem State.setFw_pending (s : State) (k : Nat) (x : FwSlot) : (s.setFw k x).pending = s.pending := rfl
@[simp] theorem State.setFw_now (s : State) (k : Nat) (x : FwSlot) : (s.setFw k x).now = s.now := rfl
@[simp] theorem State.setFw_clk (s : State) (k : Nat) (x : FwSlot) : (s.setFw k x).clk = s.clk := rfl
@[simp] theorem State.setFw_regs (s : State) (k : Nat) (x : FwSlot) : (s.setFw k x).regs = s.regs := rfl
@[simp] theorem State.setFw_octs (s : State) (k : Nat) (x : FwSlot) : (s.setFw k x).octs = s.octs := rfl
@[simp] theorem State.setFw_ctl (s : State) (k : Nat) (x : FwSlot) : (s.setFw k x).ctl = s.ctl := rfl
@[simp] theorem State.setFw_alm (s : State) (k : Nat) (x : FwSlot) : (s.setFw k x).alm = s.alm := rfl
@[simp] theorem State.setFw_led (s : State) (k : Nat) (x : FwSlot) : (s.setFw k x).led = s.led := rfl
@[simp] theorem State.setFw_cands (s : State) (k : Nat) (x : FwSlot) : (s.setFw k x).cands = s.cands := rfl
@[simp] theorem State.setFw_tds (s : State) (k : Nat) (x : FwSlot) : (s.setFw k x).tds = s.tds := rfl
@[simp] theorem State.setFw_cadence (s : State) (k : Nat) (x : FwSlot) : (s.setFw k x).cadence = s.cadence := rfl
@[simp] theorem State.setFw_cadenceAt (s : State) (k : Nat) (x : FwSlot) : (s.setFw k x).cadenceAt = s.cadenceAt := rfl
@[simp] theorem State.setFw_ptp (s : State) (k : Nat) (x : FwSlot) : (s.setFw k x).ptp = s.ptp := rfl
@[simp] theorem State.setFw_pwr (s : State) (k : Nat) (x : FwSlot) : (s.setFw k x).pwr = s.pwr := rfl
@[simp] theorem State.setFw_lanes (s : State) (k : Nat) (x : FwSlot) : (s.setFw k x).lanes = s.lanes := rfl
@[simp] theorem State.setFw_med (s : State) (k : Nat) (x : FwSlot) : (s.setFw k x).med = s.med := rfl
@[simp] theorem State.setFw_aud (s : State) (k : Nat) (x : FwSlot) : (s.setFw k x).aud = s.aud := rfl
@[simp] theorem State.setFw_fab (s : State) (k : Nat) (x : FwSlot) : (s.setFw k x).fab = s.fab := rfl
@[simp] theorem State.setFw_tlr (s : State) (k : Nat) (x : FwSlot) : (s.setFw k x).tlr = s.tlr := rfl
@[simp] theorem State.setFw_eg (s : State) (k : Nat) (x : FwSlot) : (s.setFw k x).eg = s.eg := rfl
@[simp] theorem State.setFw_enc (s : State) (k : Nat) (x : FwSlot) : (s.setFw k x).enc = s.enc := rfl
@[simp] theorem State.setFw_cmp (s : State) (k : Nat) (x : FwSlot) : (s.setFw k x).cmp = s.cmp := rfl
@[simp] theorem State.setFw_ras (s : State) (k : Nat) (x : FwSlot) : (s.setFw k x).ras = s.ras := rfl
@[simp] theorem State.setFw_itg (s : State) (k : Nat) (x : FwSlot) : (s.setFw k x).itg = s.itg := rfl
@[simp] theorem State.setFw_pair (s : State) (k : Nat) (x : FwSlot) : (s.setFw k x).pair = s.pair := rfl
@[simp] theorem State.setFw_tap (s : State) (k : Nat) (x : FwSlot) : (s.setFw k x).tap = s.tap := rfl
@[simp] theorem State.setFw_mem (s : State) (k : Nat) (x : FwSlot) : (s.setFw k x).mem = s.mem := rfl
@[simp] theorem State.setFw_orders (s : State) (k : Nat) (x : FwSlot) : (s.setFw k x).orders = s.orders := rfl
@[simp] theorem State.setFw_out (s : State) (k : Nat) (x : FwSlot) : (s.setFw k x).out = s.out := rfl
@[simp] theorem State.setFw_free (s : State) (k : Nat) (x : FwSlot) : (s.setFw k x).free = s.free := rfl
@[simp] theorem State.setFw_last (s : State) (k : Nat) (x : FwSlot) : (s.setFw k x).last = s.last := rfl

/-! setIvard -/

@[simp] theorem State.setIvard_pending (s : State) (k : Nat) (x : IvardChan) : (s.setIvard k x).pending = s.pending := rfl
@[simp] theorem State.setIvard_now (s : State) (k : Nat) (x : IvardChan) : (s.setIvard k x).now = s.now := rfl
@[simp] theorem State.setIvard_clk (s : State) (k : Nat) (x : IvardChan) : (s.setIvard k x).clk = s.clk := rfl
@[simp] theorem State.setIvard_regs (s : State) (k : Nat) (x : IvardChan) : (s.setIvard k x).regs = s.regs := rfl
@[simp] theorem State.setIvard_octs (s : State) (k : Nat) (x : IvardChan) : (s.setIvard k x).octs = s.octs := rfl
@[simp] theorem State.setIvard_ctl (s : State) (k : Nat) (x : IvardChan) : (s.setIvard k x).ctl = s.ctl := rfl
@[simp] theorem State.setIvard_alm (s : State) (k : Nat) (x : IvardChan) : (s.setIvard k x).alm = s.alm := rfl
@[simp] theorem State.setIvard_led (s : State) (k : Nat) (x : IvardChan) : (s.setIvard k x).led = s.led := rfl
@[simp] theorem State.setIvard_cands (s : State) (k : Nat) (x : IvardChan) : (s.setIvard k x).cands = s.cands := rfl
@[simp] theorem State.setIvard_tds (s : State) (k : Nat) (x : IvardChan) : (s.setIvard k x).tds = s.tds := rfl
@[simp] theorem State.setIvard_cadence (s : State) (k : Nat) (x : IvardChan) : (s.setIvard k x).cadence = s.cadence := rfl
@[simp] theorem State.setIvard_cadenceAt (s : State) (k : Nat) (x : IvardChan) : (s.setIvard k x).cadenceAt = s.cadenceAt := rfl
@[simp] theorem State.setIvard_ptp (s : State) (k : Nat) (x : IvardChan) : (s.setIvard k x).ptp = s.ptp := rfl
@[simp] theorem State.setIvard_pwr (s : State) (k : Nat) (x : IvardChan) : (s.setIvard k x).pwr = s.pwr := rfl
@[simp] theorem State.setIvard_lanes (s : State) (k : Nat) (x : IvardChan) : (s.setIvard k x).lanes = s.lanes := rfl
@[simp] theorem State.setIvard_med (s : State) (k : Nat) (x : IvardChan) : (s.setIvard k x).med = s.med := rfl
@[simp] theorem State.setIvard_aud (s : State) (k : Nat) (x : IvardChan) : (s.setIvard k x).aud = s.aud := rfl
@[simp] theorem State.setIvard_fab (s : State) (k : Nat) (x : IvardChan) : (s.setIvard k x).fab = s.fab := rfl
@[simp] theorem State.setIvard_tlr (s : State) (k : Nat) (x : IvardChan) : (s.setIvard k x).tlr = s.tlr := rfl
@[simp] theorem State.setIvard_eg (s : State) (k : Nat) (x : IvardChan) : (s.setIvard k x).eg = s.eg := rfl
@[simp] theorem State.setIvard_enc (s : State) (k : Nat) (x : IvardChan) : (s.setIvard k x).enc = s.enc := rfl
@[simp] theorem State.setIvard_cmp (s : State) (k : Nat) (x : IvardChan) : (s.setIvard k x).cmp = s.cmp := rfl
@[simp] theorem State.setIvard_ras (s : State) (k : Nat) (x : IvardChan) : (s.setIvard k x).ras = s.ras := rfl
@[simp] theorem State.setIvard_itg (s : State) (k : Nat) (x : IvardChan) : (s.setIvard k x).itg = s.itg := rfl
@[simp] theorem State.setIvard_sec (s : State) (k : Nat) (x : IvardChan) : (s.setIvard k x).sec = s.sec := rfl
@[simp] theorem State.setIvard_tap (s : State) (k : Nat) (x : IvardChan) : (s.setIvard k x).tap = s.tap := rfl
@[simp] theorem State.setIvard_mem (s : State) (k : Nat) (x : IvardChan) : (s.setIvard k x).mem = s.mem := rfl
@[simp] theorem State.setIvard_orders (s : State) (k : Nat) (x : IvardChan) : (s.setIvard k x).orders = s.orders := rfl
@[simp] theorem State.setIvard_out (s : State) (k : Nat) (x : IvardChan) : (s.setIvard k x).out = s.out := rfl
@[simp] theorem State.setIvard_free (s : State) (k : Nat) (x : IvardChan) : (s.setIvard k x).free = s.free := rfl
@[simp] theorem State.setIvard_last (s : State) (k : Nat) (x : IvardChan) : (s.setIvard k x).last = s.last := rfl

/-! setEport -/

@[simp] theorem State.setEport_pending (s : State) (k : Nat) (x : EgPort) : (s.setEport k x).pending = s.pending := rfl
@[simp] theorem State.setEport_now (s : State) (k : Nat) (x : EgPort) : (s.setEport k x).now = s.now := rfl
@[simp] theorem State.setEport_clk (s : State) (k : Nat) (x : EgPort) : (s.setEport k x).clk = s.clk := rfl
@[simp] theorem State.setEport_regs (s : State) (k : Nat) (x : EgPort) : (s.setEport k x).regs = s.regs := rfl
@[simp] theorem State.setEport_octs (s : State) (k : Nat) (x : EgPort) : (s.setEport k x).octs = s.octs := rfl
@[simp] theorem State.setEport_ctl (s : State) (k : Nat) (x : EgPort) : (s.setEport k x).ctl = s.ctl := rfl
@[simp] theorem State.setEport_alm (s : State) (k : Nat) (x : EgPort) : (s.setEport k x).alm = s.alm := rfl
@[simp] theorem State.setEport_led (s : State) (k : Nat) (x : EgPort) : (s.setEport k x).led = s.led := rfl
@[simp] theorem State.setEport_cands (s : State) (k : Nat) (x : EgPort) : (s.setEport k x).cands = s.cands := rfl
@[simp] theorem State.setEport_tds (s : State) (k : Nat) (x : EgPort) : (s.setEport k x).tds = s.tds := rfl
@[simp] theorem State.setEport_cadence (s : State) (k : Nat) (x : EgPort) : (s.setEport k x).cadence = s.cadence := rfl
@[simp] theorem State.setEport_cadenceAt (s : State) (k : Nat) (x : EgPort) : (s.setEport k x).cadenceAt = s.cadenceAt := rfl
@[simp] theorem State.setEport_ptp (s : State) (k : Nat) (x : EgPort) : (s.setEport k x).ptp = s.ptp := rfl
@[simp] theorem State.setEport_pwr (s : State) (k : Nat) (x : EgPort) : (s.setEport k x).pwr = s.pwr := rfl
@[simp] theorem State.setEport_lanes (s : State) (k : Nat) (x : EgPort) : (s.setEport k x).lanes = s.lanes := rfl
@[simp] theorem State.setEport_med (s : State) (k : Nat) (x : EgPort) : (s.setEport k x).med = s.med := rfl
@[simp] theorem State.setEport_aud (s : State) (k : Nat) (x : EgPort) : (s.setEport k x).aud = s.aud := rfl
@[simp] theorem State.setEport_fab (s : State) (k : Nat) (x : EgPort) : (s.setEport k x).fab = s.fab := rfl
@[simp] theorem State.setEport_tlr (s : State) (k : Nat) (x : EgPort) : (s.setEport k x).tlr = s.tlr := rfl
@[simp] theorem State.setEport_enc (s : State) (k : Nat) (x : EgPort) : (s.setEport k x).enc = s.enc := rfl
@[simp] theorem State.setEport_cmp (s : State) (k : Nat) (x : EgPort) : (s.setEport k x).cmp = s.cmp := rfl
@[simp] theorem State.setEport_ras (s : State) (k : Nat) (x : EgPort) : (s.setEport k x).ras = s.ras := rfl
@[simp] theorem State.setEport_itg (s : State) (k : Nat) (x : EgPort) : (s.setEport k x).itg = s.itg := rfl
@[simp] theorem State.setEport_sec (s : State) (k : Nat) (x : EgPort) : (s.setEport k x).sec = s.sec := rfl
@[simp] theorem State.setEport_pair (s : State) (k : Nat) (x : EgPort) : (s.setEport k x).pair = s.pair := rfl
@[simp] theorem State.setEport_tap (s : State) (k : Nat) (x : EgPort) : (s.setEport k x).tap = s.tap := rfl
@[simp] theorem State.setEport_mem (s : State) (k : Nat) (x : EgPort) : (s.setEport k x).mem = s.mem := rfl
@[simp] theorem State.setEport_orders (s : State) (k : Nat) (x : EgPort) : (s.setEport k x).orders = s.orders := rfl
@[simp] theorem State.setEport_out (s : State) (k : Nat) (x : EgPort) : (s.setEport k x).out = s.out := rfl
@[simp] theorem State.setEport_free (s : State) (k : Nat) (x : EgPort) : (s.setEport k x).free = s.free := rfl
@[simp] theorem State.setEport_last (s : State) (k : Nat) (x : EgPort) : (s.setEport k x).last = s.last := rfl

/-! setStream -/

@[simp] theorem State.setStream_pending (s : State) (k : Nat) (x : TelStream) : (s.setStream k x).pending = s.pending := rfl
@[simp] theorem State.setStream_now (s : State) (k : Nat) (x : TelStream) : (s.setStream k x).now = s.now := rfl
@[simp] theorem State.setStream_clk (s : State) (k : Nat) (x : TelStream) : (s.setStream k x).clk = s.clk := rfl
@[simp] theorem State.setStream_regs (s : State) (k : Nat) (x : TelStream) : (s.setStream k x).regs = s.regs := rfl
@[simp] theorem State.setStream_octs (s : State) (k : Nat) (x : TelStream) : (s.setStream k x).octs = s.octs := rfl
@[simp] theorem State.setStream_ctl (s : State) (k : Nat) (x : TelStream) : (s.setStream k x).ctl = s.ctl := rfl
@[simp] theorem State.setStream_led (s : State) (k : Nat) (x : TelStream) : (s.setStream k x).led = s.led := rfl
@[simp] theorem State.setStream_cands (s : State) (k : Nat) (x : TelStream) : (s.setStream k x).cands = s.cands := rfl
@[simp] theorem State.setStream_tds (s : State) (k : Nat) (x : TelStream) : (s.setStream k x).tds = s.tds := rfl
@[simp] theorem State.setStream_cadence (s : State) (k : Nat) (x : TelStream) : (s.setStream k x).cadence = s.cadence := rfl
@[simp] theorem State.setStream_cadenceAt (s : State) (k : Nat) (x : TelStream) : (s.setStream k x).cadenceAt = s.cadenceAt := rfl
@[simp] theorem State.setStream_ptp (s : State) (k : Nat) (x : TelStream) : (s.setStream k x).ptp = s.ptp := rfl
@[simp] theorem State.setStream_pwr (s : State) (k : Nat) (x : TelStream) : (s.setStream k x).pwr = s.pwr := rfl
@[simp] theorem State.setStream_lanes (s : State) (k : Nat) (x : TelStream) : (s.setStream k x).lanes = s.lanes := rfl
@[simp] theorem State.setStream_med (s : State) (k : Nat) (x : TelStream) : (s.setStream k x).med = s.med := rfl
@[simp] theorem State.setStream_aud (s : State) (k : Nat) (x : TelStream) : (s.setStream k x).aud = s.aud := rfl
@[simp] theorem State.setStream_fab (s : State) (k : Nat) (x : TelStream) : (s.setStream k x).fab = s.fab := rfl
@[simp] theorem State.setStream_tlr (s : State) (k : Nat) (x : TelStream) : (s.setStream k x).tlr = s.tlr := rfl
@[simp] theorem State.setStream_eg (s : State) (k : Nat) (x : TelStream) : (s.setStream k x).eg = s.eg := rfl
@[simp] theorem State.setStream_enc (s : State) (k : Nat) (x : TelStream) : (s.setStream k x).enc = s.enc := rfl
@[simp] theorem State.setStream_cmp (s : State) (k : Nat) (x : TelStream) : (s.setStream k x).cmp = s.cmp := rfl
@[simp] theorem State.setStream_ras (s : State) (k : Nat) (x : TelStream) : (s.setStream k x).ras = s.ras := rfl
@[simp] theorem State.setStream_itg (s : State) (k : Nat) (x : TelStream) : (s.setStream k x).itg = s.itg := rfl
@[simp] theorem State.setStream_sec (s : State) (k : Nat) (x : TelStream) : (s.setStream k x).sec = s.sec := rfl
@[simp] theorem State.setStream_pair (s : State) (k : Nat) (x : TelStream) : (s.setStream k x).pair = s.pair := rfl
@[simp] theorem State.setStream_tap (s : State) (k : Nat) (x : TelStream) : (s.setStream k x).tap = s.tap := rfl
@[simp] theorem State.setStream_mem (s : State) (k : Nat) (x : TelStream) : (s.setStream k x).mem = s.mem := rfl
@[simp] theorem State.setStream_orders (s : State) (k : Nat) (x : TelStream) : (s.setStream k x).orders = s.orders := rfl
@[simp] theorem State.setStream_out (s : State) (k : Nat) (x : TelStream) : (s.setStream k x).out = s.out := rfl
@[simp] theorem State.setStream_free (s : State) (k : Nat) (x : TelStream) : (s.setStream k x).free = s.free := rfl
@[simp] theorem State.setStream_last (s : State) (k : Nat) (x : TelStream) : (s.setStream k x).last = s.last := rfl

/-! setWord -/

@[simp] theorem State.setWord_pending (s : State) (k : Nat) (x : WordErr) : (s.setWord k x).pending = s.pending := rfl
@[simp] theorem State.setWord_now (s : State) (k : Nat) (x : WordErr) : (s.setWord k x).now = s.now := rfl
@[simp] theorem State.setWord_clk (s : State) (k : Nat) (x : WordErr) : (s.setWord k x).clk = s.clk := rfl
@[simp] theorem State.setWord_regs (s : State) (k : Nat) (x : WordErr) : (s.setWord k x).regs = s.regs := rfl
@[simp] theorem State.setWord_octs (s : State) (k : Nat) (x : WordErr) : (s.setWord k x).octs = s.octs := rfl
@[simp] theorem State.setWord_ctl (s : State) (k : Nat) (x : WordErr) : (s.setWord k x).ctl = s.ctl := rfl
@[simp] theorem State.setWord_alm (s : State) (k : Nat) (x : WordErr) : (s.setWord k x).alm = s.alm := rfl
@[simp] theorem State.setWord_led (s : State) (k : Nat) (x : WordErr) : (s.setWord k x).led = s.led := rfl
@[simp] theorem State.setWord_cands (s : State) (k : Nat) (x : WordErr) : (s.setWord k x).cands = s.cands := rfl
@[simp] theorem State.setWord_tds (s : State) (k : Nat) (x : WordErr) : (s.setWord k x).tds = s.tds := rfl
@[simp] theorem State.setWord_cadence (s : State) (k : Nat) (x : WordErr) : (s.setWord k x).cadence = s.cadence := rfl
@[simp] theorem State.setWord_cadenceAt (s : State) (k : Nat) (x : WordErr) : (s.setWord k x).cadenceAt = s.cadenceAt := rfl
@[simp] theorem State.setWord_ptp (s : State) (k : Nat) (x : WordErr) : (s.setWord k x).ptp = s.ptp := rfl
@[simp] theorem State.setWord_pwr (s : State) (k : Nat) (x : WordErr) : (s.setWord k x).pwr = s.pwr := rfl
@[simp] theorem State.setWord_lanes (s : State) (k : Nat) (x : WordErr) : (s.setWord k x).lanes = s.lanes := rfl
@[simp] theorem State.setWord_med (s : State) (k : Nat) (x : WordErr) : (s.setWord k x).med = s.med := rfl
@[simp] theorem State.setWord_aud (s : State) (k : Nat) (x : WordErr) : (s.setWord k x).aud = s.aud := rfl
@[simp] theorem State.setWord_fab (s : State) (k : Nat) (x : WordErr) : (s.setWord k x).fab = s.fab := rfl
@[simp] theorem State.setWord_tlr (s : State) (k : Nat) (x : WordErr) : (s.setWord k x).tlr = s.tlr := rfl
@[simp] theorem State.setWord_eg (s : State) (k : Nat) (x : WordErr) : (s.setWord k x).eg = s.eg := rfl
@[simp] theorem State.setWord_enc (s : State) (k : Nat) (x : WordErr) : (s.setWord k x).enc = s.enc := rfl
@[simp] theorem State.setWord_cmp (s : State) (k : Nat) (x : WordErr) : (s.setWord k x).cmp = s.cmp := rfl
@[simp] theorem State.setWord_ras (s : State) (k : Nat) (x : WordErr) : (s.setWord k x).ras = s.ras := rfl
@[simp] theorem State.setWord_sec (s : State) (k : Nat) (x : WordErr) : (s.setWord k x).sec = s.sec := rfl
@[simp] theorem State.setWord_pair (s : State) (k : Nat) (x : WordErr) : (s.setWord k x).pair = s.pair := rfl
@[simp] theorem State.setWord_tap (s : State) (k : Nat) (x : WordErr) : (s.setWord k x).tap = s.tap := rfl
@[simp] theorem State.setWord_mem (s : State) (k : Nat) (x : WordErr) : (s.setWord k x).mem = s.mem := rfl
@[simp] theorem State.setWord_orders (s : State) (k : Nat) (x : WordErr) : (s.setWord k x).orders = s.orders := rfl
@[simp] theorem State.setWord_out (s : State) (k : Nat) (x : WordErr) : (s.setWord k x).out = s.out := rfl
@[simp] theorem State.setWord_free (s : State) (k : Nat) (x : WordErr) : (s.setWord k x).free = s.free := rfl
@[simp] theorem State.setWord_last (s : State) (k : Nat) (x : WordErr) : (s.setWord k x).last = s.last := rfl

/-! What an update sets is read back. -/

@[simp] theorem State.rd_wr_same (s : State) (o r : Nat) (v : Int) : (s.wr o r v).rd o r = v := by
  unfold State.rd State.wr
  by_cases h : v = objDefault o r <;> simp [h]

theorem State.rd_wr_ne (s : State) {o r o' r' : Nat} (v : Int) (h : (o', r') ≠ (o, r)) : (s.wr o r v).rd o' r' = s.rd o' r' := by
  unfold State.rd State.wr
  by_cases hv : v = objDefault o r
  · simp [hv, storeGet_del_ne h]
  · simp [hv, storeGet_put_ne pairLt h]

theorem State.rd_wr_obj (s : State) {o r o' r' : Nat} (v : Int) (h : o' ≠ o) : (s.wr o r v).rd o' r' = s.rd o' r' :=
  s.rd_wr_ne v (fun e => h (congrArg Prod.fst e))

@[simp] theorem State.rdOct_wrOct_same (s : State) (o r : Nat) (b : Bytes) : (s.wrOct o r b).rdOct o r = b := by
  unfold State.rdOct State.wrOct
  by_cases h : b = octDefault o r <;> simp [h]

@[simp] theorem State.rdOct_wr (s : State) (o r : Nat) (v : Int) (o' r' : Nat) : (s.wr o r v).rdOct o' r' = s.rdOct o' r' := rfl
@[simp] theorem State.rd_wrOct (s : State) (o r : Nat) (b : Bytes) (o' r' : Nat) : (s.wrOct o r b).rd o' r' = s.rd o' r' := rfl

@[simp] theorem State.port_setPort (s : State) (k : Nat) (x : Port) : (s.setPort k x).port k = x := by simp [State.port, State.setPort]
@[simp] theorem State.point_setPoint (s : State) (a : Alarm) (x : AlarmPt) : (s.setPoint a x).point a = x := by simp [State.point, State.setPoint]
@[simp] theorem State.td_setTd (s : State) (k : Nat) (x : Td) : (s.setTd k x).td k = x := by simp [State.td, State.setTd]
@[simp] theorem State.cand_setCand (s : State) (k : Nat) (x : Cand) : (s.setCand k x).cand k = x := by simp [State.cand, State.setCand]
@[simp] theorem State.lane_setLane (s : State) (k : Nat) (x : Lane) : (s.setLane k x).lane k = x := by simp [State.lane, State.setLane]
@[simp] theorem State.buf_setBuf (s : State) (k : Nat) (x : Buf) : (s.setBuf k x).buf k = x := by simp [State.buf, State.setBuf]
@[simp] theorem State.sdi_setSdi (s : State) (k : Nat) (x : SdiIn) : (s.setSdi k x).sdi k = x := by simp [State.sdi, State.setSdi]
@[simp] theorem State.flow_setFlow (s : State) (k : Nat) (x : Flow) : (s.setFlow k x).flow k = x := by simp [State.flow, State.setFlow]
@[simp] theorem State.dest_setDest (s : State) (k : Nat) (x : Dest) : (s.setDest k x).dest k = x := by simp [State.dest, State.setDest]
@[simp] theorem State.mint_setMint (s : State) (k : Nat) (x : MintChan) : (s.setMint k x).mint k = x := by simp [State.mint, State.setMint]
@[simp] theorem State.comp_setComp (s : State) (k : Nat) (x : Comp) : (s.setComp k x).comp k = x := by simp [State.comp, State.setComp]
@[simp] theorem State.surf_setSurf (s : State) (k : Nat) (x : Surf) : (s.setSurf k x).surf k = x := by simp [State.surf, State.setSurf]
@[simp] theorem State.head_setHead (s : State) (k : Nat) (x : Head) : (s.setHead k x).head k = x := by simp [State.head, State.setHead]
@[simp] theorem State.bank_setBank (s : State) (k : Nat) (x : Bank) : (s.setBank k x).bank k = x := by simp [State.bank, State.setBank]
@[simp] theorem State.rd_answer (s : State) (k : Nat) (o' r' : Nat) : (s.answer k).rd o' r' = s.rd o' r' := rfl
@[simp] theorem State.rdN_answer (s : State) (k : Nat) (o' r' : Nat) : (s.answer k).rdN o' r' = s.rdN o' r' := rfl
@[simp] theorem State.rd_answerVal (s : State) (v : Val) (o' r' : Nat) : (s.answerVal v).rd o' r' = s.rd o' r' := rfl
@[simp] theorem State.rdN_answerVal (s : State) (v : Val) (o' r' : Nat) : (s.answerVal v).rdN o' r' = s.rdN o' r' := rfl
@[simp] theorem State.rd_emit (s : State) (x : Out) (o' r' : Nat) : (s.emit x).rd o' r' = s.rd o' r' := rfl
@[simp] theorem State.rdN_emit (s : State) (x : Out) (o' r' : Nat) : (s.emit x).rdN o' r' = s.rdN o' r' := rfl
@[simp] theorem State.rd_begin (s : State) (t : Nat) (o' r' : Nat) : (s.begin t).rd o' r' = s.rd o' r' := rfl
@[simp] theorem State.rdN_begin (s : State) (t : Nat) (o' r' : Nat) : (s.begin t).rdN o' r' = s.rdN o' r' := rfl
@[simp] theorem State.rd_orderByte (s : State) (a : Nat) (b : Byte) (o' r' : Nat) : (s.orderByte a b).rd o' r' = s.rd o' r' := rfl
@[simp] theorem State.rdN_orderByte (s : State) (a : Nat) (b : Byte) (o' r' : Nat) : (s.orderByte a b).rdN o' r' = s.rdN o' r' := rfl
@[simp] theorem State.rd_setPort (s : State) (k : Nat) (x : Port) (o' r' : Nat) : (s.setPort k x).rd o' r' = s.rd o' r' := rfl
@[simp] theorem State.rdN_setPort (s : State) (k : Nat) (x : Port) (o' r' : Nat) : (s.setPort k x).rdN o' r' = s.rdN o' r' := rfl
@[simp] theorem State.rd_setPoint (s : State) (a : Alarm) (x : AlarmPt) (o' r' : Nat) : (s.setPoint a x).rd o' r' = s.rd o' r' := rfl
@[simp] theorem State.rdN_setPoint (s : State) (a : Alarm) (x : AlarmPt) (o' r' : Nat) : (s.setPoint a x).rdN o' r' = s.rdN o' r' := rfl
@[simp] theorem State.rd_setTd (s : State) (k : Nat) (x : Td) (o' r' : Nat) : (s.setTd k x).rd o' r' = s.rd o' r' := rfl
@[simp] theorem State.rdN_setTd (s : State) (k : Nat) (x : Td) (o' r' : Nat) : (s.setTd k x).rdN o' r' = s.rdN o' r' := rfl
@[simp] theorem State.rd_setCand (s : State) (k : Nat) (x : Cand) (o' r' : Nat) : (s.setCand k x).rd o' r' = s.rd o' r' := rfl
@[simp] theorem State.rdN_setCand (s : State) (k : Nat) (x : Cand) (o' r' : Nat) : (s.setCand k x).rdN o' r' = s.rdN o' r' := rfl
@[simp] theorem State.rd_setLane (s : State) (k : Nat) (x : Lane) (o' r' : Nat) : (s.setLane k x).rd o' r' = s.rd o' r' := rfl
@[simp] theorem State.rdN_setLane (s : State) (k : Nat) (x : Lane) (o' r' : Nat) : (s.setLane k x).rdN o' r' = s.rdN o' r' := rfl
@[simp] theorem State.rd_setBuf (s : State) (k : Nat) (x : Buf) (o' r' : Nat) : (s.setBuf k x).rd o' r' = s.rd o' r' := rfl
@[simp] theorem State.rdN_setBuf (s : State) (k : Nat) (x : Buf) (o' r' : Nat) : (s.setBuf k x).rdN o' r' = s.rdN o' r' := rfl
@[simp] theorem State.rd_setSdi (s : State) (k : Nat) (x : SdiIn) (o' r' : Nat) : (s.setSdi k x).rd o' r' = s.rd o' r' := rfl
@[simp] theorem State.rdN_setSdi (s : State) (k : Nat) (x : SdiIn) (o' r' : Nat) : (s.setSdi k x).rdN o' r' = s.rdN o' r' := rfl
@[simp] theorem State.rd_setFlow (s : State) (k : Nat) (x : Flow) (o' r' : Nat) : (s.setFlow k x).rd o' r' = s.rd o' r' := rfl
@[simp] theorem State.rdN_setFlow (s : State) (k : Nat) (x : Flow) (o' r' : Nat) : (s.setFlow k x).rdN o' r' = s.rdN o' r' := rfl
@[simp] theorem State.rd_setDest (s : State) (k : Nat) (x : Dest) (o' r' : Nat) : (s.setDest k x).rd o' r' = s.rd o' r' := rfl
@[simp] theorem State.rdN_setDest (s : State) (k : Nat) (x : Dest) (o' r' : Nat) : (s.setDest k x).rdN o' r' = s.rdN o' r' := rfl
@[simp] theorem State.rd_setMint (s : State) (k : Nat) (x : MintChan) (o' r' : Nat) : (s.setMint k x).rd o' r' = s.rd o' r' := rfl
@[simp] theorem State.rdN_setMint (s : State) (k : Nat) (x : MintChan) (o' r' : Nat) : (s.setMint k x).rdN o' r' = s.rdN o' r' := rfl
@[simp] theorem State.rd_setComp (s : State) (k : Nat) (x : Comp) (o' r' : Nat) : (s.setComp k x).rd o' r' = s.rd o' r' := rfl
@[simp] theorem State.rdN_setComp (s : State) (k : Nat) (x : Comp) (o' r' : Nat) : (s.setComp k x).rdN o' r' = s.rdN o' r' := rfl
@[simp] theorem State.rd_setSurf (s : State) (k : Nat) (x : Surf) (o' r' : Nat) : (s.setSurf k x).rd o' r' = s.rd o' r' := rfl
@[simp] theorem State.rdN_setSurf (s : State) (k : Nat) (x : Surf) (o' r' : Nat) : (s.setSurf k x).rdN o' r' = s.rdN o' r' := rfl
@[simp] theorem State.rd_setHead (s : State) (k : Nat) (x : Head) (o' r' : Nat) : (s.setHead k x).rd o' r' = s.rd o' r' := rfl
@[simp] theorem State.rdN_setHead (s : State) (k : Nat) (x : Head) (o' r' : Nat) : (s.setHead k x).rdN o' r' = s.rdN o' r' := rfl
@[simp] theorem State.rd_setTask (s : State) (k : Nat) (x : Task) (o' r' : Nat) : (s.setTask k x).rd o' r' = s.rd o' r' := rfl
@[simp] theorem State.rdN_setTask (s : State) (k : Nat) (x : Task) (o' r' : Nat) : (s.setTask k x).rdN o' r' = s.rdN o' r' := rfl
@[simp] theorem State.rd_setBank (s : State) (k : Nat) (x : Bank) (o' r' : Nat) : (s.setBank k x).rd o' r' = s.rd o' r' := rfl
@[simp] theorem State.rdN_setBank (s : State) (k : Nat) (x : Bank) (o' r' : Nat) : (s.setBank k x).rdN o' r' = s.rdN o' r' := rfl
@[simp] theorem State.rd_setPtpPort (s : State) (k : Nat) (x : PtpPort) (o' r' : Nat) : (s.setPtpPort k x).rd o' r' = s.rd o' r' := rfl
@[simp] theorem State.rdN_setPtpPort (s : State) (k : Nat) (x : PtpPort) (o' r' : Nat) : (s.setPtpPort k x).rdN o' r' = s.rdN o' r' := rfl
@[simp] theorem State.rd_setFw (s : State) (k : Nat) (x : FwSlot) (o' r' : Nat) : (s.setFw k x).rd o' r' = s.rd o' r' := rfl
@[simp] theorem State.rdN_setFw (s : State) (k : Nat) (x : FwSlot) (o' r' : Nat) : (s.setFw k x).rdN o' r' = s.rdN o' r' := rfl
@[simp] theorem State.rd_setIvard (s : State) (k : Nat) (x : IvardChan) (o' r' : Nat) : (s.setIvard k x).rd o' r' = s.rd o' r' := rfl
@[simp] theorem State.rdN_setIvard (s : State) (k : Nat) (x : IvardChan) (o' r' : Nat) : (s.setIvard k x).rdN o' r' = s.rdN o' r' := rfl
@[simp] theorem State.rd_setEport (s : State) (k : Nat) (x : EgPort) (o' r' : Nat) : (s.setEport k x).rd o' r' = s.rd o' r' := rfl
@[simp] theorem State.rdN_setEport (s : State) (k : Nat) (x : EgPort) (o' r' : Nat) : (s.setEport k x).rdN o' r' = s.rdN o' r' := rfl
@[simp] theorem State.rd_setStream (s : State) (k : Nat) (x : TelStream) (o' r' : Nat) : (s.setStream k x).rd o' r' = s.rd o' r' := rfl
@[simp] theorem State.rdN_setStream (s : State) (k : Nat) (x : TelStream) (o' r' : Nat) : (s.setStream k x).rdN o' r' = s.rdN o' r' := rfl
@[simp] theorem State.rd_setWord (s : State) (k : Nat) (x : WordErr) (o' r' : Nat) : (s.setWord k x).rd o' r' = s.rd o' r' := rfl
@[simp] theorem State.rdN_setWord (s : State) (k : Nat) (x : WordErr) (o' r' : Nat) : (s.setWord k x).rdN o' r' = s.rdN o' r' := rfl

end Sys2Proof.Machine
end

