-- ==== Sys2Proof/Laws/Run.lean ====
section
/-! SUPPORT. Laws/Run.lean: everything that the frame of a command can do, once for all commands. -/

namespace Sys2Proof.Machine

open Sys2Proof

@[simp] theorem State.begin_now (s : State) (t : Nat) : (s.begin t).now = max s.now t := rfl
@[simp] theorem State.begin_orders (s : State) (t : Nat) : (s.begin t).orders = [] := rfl
@[simp] theorem State.begin_powered (s : State) (t : Nat) : (s.begin t).powered = s.powered := rfl

@[simp] theorem State.begin_rd (s : State) (t o r : Nat) : (s.begin t).rd o r = s.rd o r := rfl
@[simp] theorem State.begin_rdN (s : State) (t o r : Nat) : (s.begin t).rdN o r = s.rdN o r := rfl
@[simp] theorem State.begin_rdOct (s : State) (t o r : Nat) : (s.begin t).rdOct o r = s.rdOct o r := rfl
@[simp] theorem State.begin_port (s : State) (t p : Nat) : (s.begin t).port p = s.port p := rfl

@[simp] theorem State.finish_pending (s u : State) : (s.finish u).pending = s.pending := rfl
@[simp] theorem State.finish_now (s u : State) : (s.finish u).now = s.now := rfl
@[simp] theorem State.finish_orders (s u : State) : (s.finish u).orders = [] := rfl
@[simp] theorem State.finish_mem (s u : State) : (s.finish u).mem = carryOut u.orders s.mem := rfl
@[simp] theorem State.finish_rd (s u : State) (o r : Nat) : (s.finish u).rd o r = u.rd o r := rfl
@[simp] theorem State.finish_rdN (s u : State) (o r : Nat) : (s.finish u).rdN o r = u.rdN o r := rfl
@[simp] theorem State.finish_rdOct (s u : State) (o r : Nat) : (s.finish u).rdOct o r = u.rdOct o r := rfl

/-- A powered module goes on to the end of the command. -/
theorem State.run_powered (s : State) (t : Nat) (f : State → State) (h : s.powered = true) :
    s.run t f = .next ((s.begin t).finish (f (s.begin t))) := by
  simp [State.run, h]

/-- Without power or in reset time alone passes. -/
theorem State.run_unpowered (s : State) (t : Nat) (f : State → State) (h : s.powered = false) : s.run t f = .next (s.begin t) := by
  simp [State.run, h]

/-- What every command leaves: the queue as it was, the time gone forward to its instant, no order left over, a memory in its form still in its form. -/
theorem State.run_frame (s : State) (t : Nat) (f : State → State) :
    ∃ u, s.run t f = .next u ∧ u.pending = s.pending ∧ u.now = max s.now t ∧ u.orders = [] ∧ (memWf s.mem = true → memWf u.mem = true) := by
  cases h : s.powered with
  | false => exact ⟨_, s.run_unpowered t f h, rfl, rfl, rfl, fun w => w⟩
  | true => exact ⟨_, s.run_powered t f h, rfl, rfl, rfl, fun w => carryOut_wf _ w⟩

theorem State.runAny_frame (s : State) (t : Nat) (f : State → State) :
    ∃ u, s.runAny t f = .next u ∧ u.pending = s.pending ∧ u.now = max s.now t ∧ u.orders = [] ∧ (memWf s.mem = true → memWf u.mem = true) :=
  ⟨_, rfl, rfl, rfl, rfl, fun w => carryOut_wf _ w⟩

end Sys2Proof.Machine
end

