-- ==== Sys2Proof/Laws/Access.lean ====
section
/-! SUPPORT. Laws/Access.lean: what a write that the checks admit does, once for all objects. -/

namespace Sys2Proof.Machine

open Sys2Proof

/-- The performer of a port acts on that port. -/
theorem ctxOf_port {s : State} {port : Nat} {c : Ctx} (h : s.ctxOf port = some c) : c.port = port := by
  unfold State.ctxOf at h
  split at h
  · injection h with h
    subst h
    rfl
  · cases h

/-- A write that passes the checks of R387 is of an object that exists, by an open session. -/
theorem checkWrite_ok {s : State} {c : Option Ctx} {o r : Nat} {v : Val} (h : s.checkWrite c o r (some v) = stOK) :
    ∃ d x, findObj o = some d ∧ c = some x := by
  unfold State.checkWrite at h
  split at h
  · cases h
  · rename_i d hd
    split at h
    · cases h
    · split at h
      · cases h
      · split at h
        · cases h
        · rename_i x
          exact ⟨d, x, hd, rfl⟩

/-- An admitted write is its handler's, followed by what follows every accepted write, or by the note of the handler's refusal. -/
theorem opWrite_admitted {s : State} {port o r : Nat} {v : Val} (h : Handler) (ha : s.admits port o r v = true) :
    ∃ c d, s.ctxOf port = some c ∧ c.port = port ∧ findObj o = some d ∧ s.ctl.endAfter = [] ∧
      s.opWrite h port o r v =
        if (h c (effRow c o r) v s).1 = stOK then (((h c (effRow c o r) v s).2.afterWrite o).mirrorWrite c o r d v).answer stOK
        else ((h c (effRow c o r) v s).2.noteRefusal o r (h c (effRow c o r) v s).1).answer (h c (effRow c o r) v s).1 := by
  simp only [State.admits, Bool.and_eq_true, beq_iff_eq, Bool.not_eq_true', List.isEmpty_iff] at ha
  obtain ⟨⟨⟨⟨hk, hs⟩, hd⟩, hb⟩, he⟩ := ha
  obtain ⟨d, c, hf, hc⟩ := checkWrite_ok hk
  have hp := ctxOf_port hc
  refine ⟨c, d, hc, hp, hf, he, ?_⟩
  unfold State.opWrite State.tryWrite
  rw [hk]
  simp only [ne_eq, not_true_eq_false, if_false, hc, hf, hs, hd]
  have hn : ¬ (s.isStandby = true ∧ c.port < 5 ∧ ownSide o = false) := by
    rintro ⟨h1, h2, h3⟩
    rw [hp] at h2
    simp [h1, h2, h3] at hb
  simp only [Bool.false_eq_true, or_self, if_false, hn, Bool.true_eq_false]
  by_cases hkk : (h c (effRow c o r) v s).1 = stOK
  · simp [hkk]
  · simp [hkk]

/-- The premise on a write does not depend on the instant of its command. -/
@[simp] theorem begin_admits (s : State) (t port o r : Nat) (v : Val) : (s.begin t).admits port o r v = s.admits port o r v := rfl

theorem afterWrite_rd (s : State) (o : Nat) {o' r' : Nat} (h : o' ≠ o1200_RUNNING_DIRTY) : (s.afterWrite o).rd o' r' = s.rd o' r' := by
  unfold State.afterWrite
  split
  · dsimp only
    split
    · exact s.rd_wr_obj 1 h
    · exact s.rd_wr_obj 1 h
  · rfl

theorem sendIvard_rd (s : State) (k : Nat) (e : List MirrorEntry) (o' r' : Nat) : (s.sendIvard k e).rd o' r' = s.rd o' r' := rfl

theorem mirrorWrite_rd (s : State) (c : Ctx) (o r : Nat) (d : ObjRow) (v : Val) {o' r' : Nat} (h : o' ≠ o1601_MIRROR_SEQ_SENT) :
    (s.mirrorWrite c o r d v).rd o' r' = s.rd o' r' := by
  unfold State.mirrorWrite
  simp only
  split
  · rfl
  · split
    · rw [sendIvard_rd]
    · rw [sendIvard_rd, s.rd_wr_obj _ h]

/-- Flushing when nothing waits changes nothing. -/
theorem flushEnds_none (s : State) (port : Nat) (h : s.ctl.endAfter = []) : s.flushEnds port = s := by
  unfold State.flushEnds
  simp [h]
  cases s with
  | mk =>
    congr
    simp at h
    simp [← h]

/-- A command that is an admitted write whose handler accepts and asks for no session's end: the handler's effect, then what follows every accepted write. -/
theorem opCmd_accepted {s : State} {port o r : Nat} {v : Val} (h : Handler) (ha : s.admits port o r v = true)
    (hk : ∀ c, s.ctxOf port = some c → (h c (effRow c o r) v s).1 = stOK)
    (he : ∀ c, s.ctxOf port = some c → (h c (effRow c o r) v s).2.ctl.endAfter = []) :
    ∃ c d, s.ctxOf port = some c ∧ c.port = port ∧ findObj o = some d ∧
      s.opCmd h port o r v = (((h c (effRow c o r) v s).2.afterWrite o).mirrorWrite c o r d v).answer stOK := by
  obtain ⟨c, d, hc, hp, hf, -, hw⟩ := opWrite_admitted h ha
  rw [if_pos (hk c hc)] at hw
  refine ⟨c, d, hc, hp, hf, ?_⟩
  unfold State.opCmd
  rw [hw]
  refine flushEnds_none _ _ ?_
  have hm : ∀ (x : State), (x.mirrorWrite c o r d v).ctl = x.ctl := by
    intro x
    unfold State.mirrorWrite
    dsimp only
    split
    · rfl
    · split <;> rfl
  have ha' : ∀ (x : State), (x.afterWrite o).ctl.endAfter = x.ctl.endAfter := by
    intro x
    unfold State.afterWrite
    split
    · dsimp only
      split <;> rfl
    · rfl
  show (State.mirrorWrite _ c o r d v).ctl.endAfter = []
  rw [hm, ha']
  exact he c hc

end Sys2Proof.Machine
end

