-- ==== Sys2Proof/Tests/Slice0.lean ====
section
/-! SUPPORT. Tests/Slice0.lean: ill-formed terms that the check refuses, and witnesses: for each statement, small states and operands that meet the hypotheses of each of its clauses,
most with what the command does there. -/

namespace Sys2Proof.Machine

/-- Some object values, each with its object, row and value. -/
def State.put (s : State) (l : List (Nat × Nat × Int)) : State := l.foldl (fun s e => s.wr e.1 e.2.1 e.2.2) s

end Sys2Proof.Machine

namespace Sys2Proof.Tests

-- One theorem at a time: many kernel evaluations at once need more memory than a check may take.
set_option Elab.async false

open Sys2Proof Sys2Proof.Machine

/-- A session with every role. -/
def sess : Session := { id := 7, slot := 0, roles := 31, addr := 9, udp := 10, key := [1#8], lastAuth := 0 }

/-- The module after reset with that session on SVC. -/
def base : State := { State.reset with ctl := { State.reset.ctl with ports := [(4, { session := some sess })] } }

/-- A command's next state, looked at. -/
def does (i : Instr) (s : State) (p : State → Bool) : Bool :=
  match exec i s with
  | .next u => p u
  | .fault _ => false
  | .refused _ => false

/-- An operation was accepted. -/
def okd (u : State) : Bool := u.last == ⟨0, none⟩

/-- An operation was answered with a code. -/
def answered (k : Nat) (u : State) : Bool := u.last == ⟨k, none⟩

/-- Every one of some checks. -/
def all (l : List Bool) : Bool := l.all (fun b => b)

/-- A plan in force in domain 0, with the power domains of lanes 0-23 on. -/
def planned (p : Plan) : State :=
  { (base.put [(o2001_BANK_STATE, 0, BANK_STATE.active), (o1410_PD_STATE, 56, PD_STATE.on), (o1410_PD_STATE, 64, PD_STATE.on), (o1410_PD_STATE, 95, PD_STATE.on)]) with
    led := { base.led with banks := [(0, { plan := p, descs := [{ rate := 8, inUse := 1 }] })], serving := [(0, 0)] } }

theorem wit_SoundStaysSound : all [
    { base with pending := [.tapInstruction 1 2 false false] }.sound,
    (match step { base with pending := [.tapInstruction 1 2 false false] } with | .next u => u.sound && u.pending == [] && u.tap == ⟨some 2, false⟩ | _ => false),
    memWf [(3, 1#8), (9, 2#8)] && !memWf [(3, 1#8), (3, 2#8)] && !memWf [(3, 0#8)]] = true := by
  decide +kernel

/-! Each check of WellFormed.lean refuses an ill-formed term, and takes the greatest value of its range. -/

theorem smoke_ill_formed : [Instr.describe 0 5 0 0, .describe 0 0 (2 ^ 24) 0, .describe 0 0 0 (2 ^ 32), .hello 0 0 (2 ^ 128) 0 [], .hello 0 0 0 (2 ^ 16) [],
    .commit 0 0 0 256, .ivardTickRx 0 0 (2 ^ 48) 0, .domainChangeover 0 4, .refLossOfSignal 0 12, .laneSignalLoss 0 192, .ptpLane 0 0 2 0, .ptpLane 0 0 0 192, .ptqPop 0 0 4,
    .egressEnqueue 0 0 7 0 0 ⟨0, false⟩ 0 0, .laneBlockRx 0 0 4, .keyErase 0 0 8, .salvoTake 0 0 32, .taskDispatch 0 5, .taskComplete 0 4096, .lossHoldEnd 0 4096, .rapRequest 0 0 16,
    .surfOpen 0 0 16384, .headCommit 0 0 4, .monFreezeLimit 0 4640, .linePeriodStart 0 0 0 [], .rowCopyStart 0 7, .granuleReload 0 2 0 [], .domainFault 0 97,
    .alarmAck 0 0 2048, .mergeDeadline 0 16384, .pacedRelease 0 8192 0 true 0 [], .ivardResendTimeout 0 3, .heartbeatRx 0 0 (zeros 31) true,
    .audioCadenceCycle 0 [{ kind := 12, unit := 0 }] [], .auditorWord 0 false { addr := 0, check := 2 ^ 32 } [], .audioCadenceCycle 0 [] [{ addr := 0, data := 2 ^ 256 }]].all (fun i => !i.wellFormed) = true := by
  decide +kernel

theorem smoke_well_formed : [Instr.describe 0 4 (2 ^ 24 - 1) (2 ^ 32 - 1), .commit 0 0 31 255, .domainChangeover 0 3, .laneSignalLoss 0 191, .ptpLane 0 0 1 65535, .keyErase 0 0 7,
    .linePeriodStart 0 4639 1 [], .heartbeatRx 0 1 (zeros 32) true, .ivardResendTimeout 0 2, .audioCadenceCycle 0 [{ kind := 11, unit := 0 }] [{ addr := 0, data := 2 ^ 256 - 1 }]].all Instr.wellFormed = true := by
  decide +kernel


/-! Chapter 2. -/

theorem wit_TicksCountFramesAndCycles : all [
    base.powered,
    base.pair.inbox == [],
    does (.frameTick 5 3 {}) base (fun u => u.fcnt 3 == 1 && u.fcnt 0 == 0 && (u.td 3).cycle == 0),
    does (.ledgerCycleStart 5 0 [] []) base (fun u => (u.td 0).cycle == 1 && u.fcnt 0 == 0),
    does (.audioCadenceCycle 5 [] []) base (fun u => u.cadence == 1 && u.cadenceAt == 5)] = true := by
  decide +kernel

/-- A bank that loads, by transfer and from flash. -/
def loading (f : Option Nat) : State :=
  { (base.put [(o2001_BANK_STATE, 0, BANK_STATE.loading)]) with led := { base.led with banks := [(0, { raw := [1#8], fromFlash := f })] } }

theorem wit_LoadsAreChecked : all [
    base.loadTarget == some 0,
    base.loadRuns == false,
    base.admits 4 o2002_LOAD_CMD 0 (.int LOAD_CMD.open),
    base.admits 4 o2002_LOAD_CMD 0 (.int LOAD_CMD.from_flash),
    does (.loadOpen 0 4) base (fun u => okd u && u.bankState 0 == BANK_STATE.loading),
    does (.loadFromFlash 0 4) base (fun u => okd u && (u.bank 0).fromFlash == some 0),
    (loading none).loadingBank == some 0,
    (loading none).admits 4 o2002_LOAD_CMD 0 (.int LOAD_CMD.close),
    (loading none).admits 4 o2002_LOAD_CMD 0 (.int LOAD_CMD.discard),
    does (.loadClose 0 4) (loading none) (fun u => okd u && u.bankState 0 == BANK_STATE.checking),
    does (.loadDiscard 0 4) (loading none) (fun u => okd u && u.bankState 0 == BANK_STATE.empty),
    does (.flashReadComplete 0 [2#8]) (loading (some 1)) (fun u => u.bankState 0 == BANK_STATE.checking && (u.bank 0).raw == [2#8])] = true := by
  decide +kernel

/-- A bank under check whose image is too short. -/
def checking : State := { (base.put [(o2001_BANK_STATE, 1, BANK_STATE.checking)]) with led := { base.led with banks := [(1, { raw := [1#8] })] } }

theorem wit_LoadsAreChecked_check : all [
    checking.powered,
    bankList.find? (fun x => checking.bankState x == BANK_STATE.checking) == some 1,
    decide (hdrLength (checking.bank 1).raw < 4096),
    does (.ledgerCheck 0 {}) checking (fun u => u.rd o2001_CHECK_RESULT 1 == 0x0101 && u.bankState 1 == BANK_STATE.rejected)] = true := by
  decide +kernel

theorem wit_XferDataStaysInRange : all [
    (loading none).admits 4 o2002_XFER_DATA 0 (.bytes [5#8]),
    ((loading none).bank 0).fromFlash == none,
    does (.xferData 0 4 [5#8]) ((loading none).put [(o2002_XFER_OFFSET, 0, 1)]) (fun u => okd u && (u.bank 0).raw == [1#8, 5#8] && u.rdN o2002_XFER_OFFSET 0 == 2),
    does (.xferData 0 4 [5#8]) ((loading none).put [(o2002_XFER_OFFSET, 0, 50334612)]) (answered 3)] = true := by
  decide +kernel

/-- A ready bank, and one armed whose changeover of domain 0 is due. -/
def ready : State := { base with led := { base.led with lastReady := some 1 } }.put [(o2001_BANK_STATE, 1, BANK_STATE.ready)]
def armed (l : List (Nat × Nat)) (due : Bool) : State :=
  let w : Swap := { kind := LAST_SWAP_KIND.first, incoming := 1, outgoing := none, anchorTd := 0, anchorFcnt := 5, domains := [0], waits := [], done := l }
  { (base.put [(o2001_BANK_STATE, 1, BANK_STATE.armed)]) with led := { base.led with banks := [(1, { descs := [{ rate := 8, inUse := 1 }] })], swap := some w }, tds := [(0, { changeDue := due })] }

theorem wit_SwapsLeadToChangeovers : all [
    ready.admits 4 o2003_SWAP_CMD 0 (.int SWAP_CMD.arm),
    ready.led.swap == none,
    ready.armTarget == some 1,
    ready.swapKind 1 != LAST_SWAP_KIND.dark,
    ready.laneModesMatch (ready.bank 1).plan,
    (ready.bank 1).plan.power == [],
    ((ready.begin 0).anchorFcnt (some 1) ready.activeBank).isSome,
    acyclic 4 ((ready.swapDomains (some 1) ready.activeBank).map (fun d => (d, ready.swapWaits (some 1) ready.activeBank (ready.swapDomains (some 1) ready.activeBank) d))),
    does (.swapArm 0 4) ready (fun u => okd u && u.bankState 1 == BANK_STATE.armed && u.led.swap.isSome),
    base.armTarget == none,
    does (.swapArm 0 4) base (fun u => answered 1 u && u.rd o2000_SWAP_ERROR 0 == 1),
    (armed [] false).admits 4 o2003_SWAP_CMD 0 (.int SWAP_CMD.disarm),
    does (.swapDisarm 0 4) (armed [] false) (fun u => okd u && u.bankState 1 == BANK_STATE.ready && u.led.swap == none && u.led.lastReady == some 1),
    does (.swapDisarm 0 4) (armed [(0, 3)] false) (fun u => answered 0x0A05 u && u.led == (armed [(0, 3)] false).led),
    does (.swapDisarm 0 4) (armed [] true) (fun u => answered 0x0A05 u && u.led == (armed [] true).led),
    ((armed [] true).td 0).changeDue] = true := by
  decide +kernel

theorem wit_MissesAreCountedThreeTimes : all [
    (base.takeMiss 2 { kind := 1, unit := 0, subsys := 7 }).rd o1003_OVERDRAFTS 7 == 1,
    (base.takeMiss 2 { kind := 11, unit := 0 }).rd o2006_OVERDRAFT_KIND_COUNT 11 == 1] = true := by
  decide +kernel

theorem wit_XferDataStaysInRange_check : all [
    imageMax == 50331648 && hssSigLen == 2964,
    does (.loadOpen 0 4) base (fun u => u.rd o2002_XFER_OFFSET 0 == 0 && u.loadingBank == some 0),
    (checking.bank 1).raw.length != hdrLength (checking.bank 1).raw + hdrSigLen (checking.bank 1).raw || decide (hdrLength (checking.bank 1).raw < 4096)] = true := by
  decide +kernel


/-! Chapters 3 and 4. -/

/-- A candidate in a state, selected by domain 0. -/
def candAt (st : Int) : State := { (base.put [(o2200_CAND_STATE, 2, st), (o2100_SELECTED_REF, 0, 2)]) with cands := [(2, { present := true, samples := List.replicate 64 0 })] }

theorem wit_ReferenceUpdateSelects : all [
    base.powered] = true := by
  decide +kernel

theorem wit_CandidatesComeAndGo : all [
    (candAt CAND_STATE.qualified).powered && (candAt CAND_STATE.qualified).candState 2 == CAND_STATE.qualified,
    does (.refLossOfSignal 0 2) (candAt CAND_STATE.qualified) (fun u => u.candState 2 == CAND_STATE.restoring && u.selected 0 != 2 && u.instActive .REF_LOSS 2),
    (candAt CAND_STATE.measuring).powered && (candAt CAND_STATE.measuring).candState 2 == CAND_STATE.measuring,
    does (.refLossOfSignal 0 2) (candAt CAND_STATE.measuring) (fun u => u.candState 2 == CAND_STATE.absent),
    (candAt 0).powered && ((candAt 0).put [(o2200_CAND_STATE, 7, CAND_STATE.absent)]).candState 7 == CAND_STATE.absent,
    does (.refSignalPresent 0 7 3) ((candAt 0).put [(o2200_CAND_STATE, 7, CAND_STATE.absent)]) (fun u => u.candState 7 == CAND_STATE.measuring && u.rd o2200_CAND_RATE 7 == 3),
    (candAt CAND_STATE.qualified).admits 4 o2200_CAND_ENABLE 2 (.int 0),
    (candAt CAND_STATE.disabled).admits 4 o2200_CAND_ENABLE 2 (.int 1) && (candAt CAND_STATE.disabled).candState 2 == CAND_STATE.disabled && (candAt CAND_STATE.disabled).powered,
    does (.candEnable 0 4 2 false) (candAt CAND_STATE.qualified) (fun u => okd u && u.candState 2 == CAND_STATE.disabled && u.selected 0 != 2),
    does (.candEnable 0 4 2 true) (candAt CAND_STATE.disabled) (fun u => okd u && u.candState 2 == CAND_STATE.measuring),
    does (.refLossOfSignal 0 8) ((candAt CAND_STATE.qualified).put [(o2100_SELECTED_REF, 0, 7)]) (fun u => (u.td 0).twinLost && u.selected 0 != 7 && u.candState 2 == CAND_STATE.qualified),
    does (.refSignalPresent 0 8 0) base (fun u => !(u.td 0).twinLost),
    (candAt CAND_STATE.restoring).powered && (candAt CAND_STATE.restoring).admits 4 o2201_WTR_CLEAR 0 (.int 2) && (candAt CAND_STATE.restoring).candState 2 == CAND_STATE.restoring && (candAt CAND_STATE.restoring).withinLimits 2,
    does (.wtrClear 0 4 2) (candAt CAND_STATE.restoring) (fun u => okd u && u.qualified 2),
    (candAt CAND_STATE.measuring).admits 4 o2201_WTR_CLEAR 0 (.int 2) && (candAt CAND_STATE.measuring).candState 2 != CAND_STATE.restoring,
    does (.wtrClear 0 4 2) (candAt CAND_STATE.measuring) (fun u => okd u && u.candState 2 == CAND_STATE.measuring)] = true := by
  decide +kernel

/-- A loop that is locked or acquires. -/
def loop (st : Int) (x : Td) : State := { (base.put [(o2100_DPLL_STATE, 1, st), (o2100_FREQ_SLEW_LIMIT, 1, 100)]) with tds := [(1, x)] }
def aligned (st ph : Int) : State := base.put [(o2100_REALIGN_STATE, 1, st), (o2100_PHASE_SOURCE, 1, ph)]

theorem wit_LoopsCompareLockAndRealign : all [
    (loop DPLL_STATE.locked { slewing := true }).powered && (loop DPLL_STATE.locked { slewing := true }).dpll 1 == DPLL_STATE.locked && ((loop DPLL_STATE.locked { slewing := true }).td 1).slewing,
    decide (0 ≤ (loop DPLL_STATE.locked { slewing := true }).rd o2100_FREQ_SLEW_LIMIT 1 ∧ -12000000 ≤ (loop DPLL_STATE.locked { slewing := true }).rd o2100_CONTROL_VALUE 1 ∧ (loop DPLL_STATE.locked { slewing := true }).rd o2100_CONTROL_VALUE 1 ≤ 12000000),
    (loop DPLL_STATE.locked { lastPhase := some 0 }).powered && (loop DPLL_STATE.locked { lastPhase := some 0 }).dpll 1 == DPLL_STATE.locked && !((loop DPLL_STATE.locked { lastPhase := some 0 }).td 1).slewing,
    ((loop DPLL_STATE.locked { lastPhase := some 0 }).td 1).lastPhase == some 0,
    (loop DPLL_STATE.locked { lastPhase := some 0 }).instActive .REF_PHASE_STEP 1 == false,
    decide ((loop DPLL_STATE.locked { lastPhase := some 0 }).rd o2100_PHASE_STEP_THRESHOLD_NS 1 < 99999999),
    (loop DPLL_STATE.locked { lastPhase := some 0 }).rd o2100_CONTROL_VALUE 1 == 0,
    (loop DPLL_STATE.acquiring { goodSince := some 5 }).powered && (loop DPLL_STATE.acquiring { goodSince := some 5 }).dpll 1 == DPLL_STATE.acquiring && ((loop DPLL_STATE.acquiring { goodSince := some 5 }).td 1).goodSince == some 5 && (loop DPLL_STATE.acquiring {}).now == 0,
    (aligned REALIGN_STATE.idle PHASE_SOURCE.reference).powered && (aligned REALIGN_STATE.idle PHASE_SOURCE.reference).phaseSource 1 && (aligned REALIGN_STATE.idle PHASE_SOURCE.reference).rd o2100_REALIGN_STATE 1 == REALIGN_STATE.idle,
    [REALIGN_CMD.slew, REALIGN_CMD.jump].all (fun v => (aligned REALIGN_STATE.idle PHASE_SOURCE.reference).admits 4 o2100_REALIGN_CMD 1 (.int v)),
    (aligned REALIGN_STATE.idle PHASE_SOURCE.none).phaseSource 1 == false && (aligned REALIGN_STATE.idle PHASE_SOURCE.none).rd o2100_REALIGN_STATE 1 == REALIGN_STATE.idle && (aligned REALIGN_STATE.idle PHASE_SOURCE.none).admits 4 o2100_REALIGN_CMD 1 (.int REALIGN_CMD.slew),
    (aligned REALIGN_STATE.slewing PHASE_SOURCE.none).rd o2100_REALIGN_STATE 1 == REALIGN_STATE.slewing && (aligned REALIGN_STATE.slewing PHASE_SOURCE.none).admits 4 o2100_REALIGN_CMD 1 (.int REALIGN_CMD.stop),
    does (.realignSlew 0 4 1) (aligned REALIGN_STATE.idle PHASE_SOURCE.reference) (fun u => okd u && u.rd o2100_REALIGN_STATE 1 == REALIGN_STATE.slewing),
    does (.realignJump 0 4 1) (aligned REALIGN_STATE.idle PHASE_SOURCE.reference) (fun u => okd u && (u.td 1).jumpFrame == some 1),
    does (.realignSlew 0 4 1) (aligned REALIGN_STATE.idle PHASE_SOURCE.none) (answered 0x0B01),
    does (.realignStop 0 4 1) (aligned REALIGN_STATE.slewing PHASE_SOURCE.none) (fun u => okd u && u.rd o2100_REALIGN_STATE 1 == REALIGN_STATE.idle)] = true := by
  decide +kernel

/-- The module whose servo is the host's or the firmware's. -/
def owned (o : Int) : State := { base with ptp := { base.ptp with owner := o } }

theorem wit_TimeClockRunsAndSteps : all [
    base.powered && base.mayRead 4 o2300_TIME_SECONDS 0,
    does (.timeSeconds 1000000004 4) base (fun u => u.last == ⟨0, some (.int 1)⟩ && u.rd o2300_TIME_NS 0 == 4),
    (owned SERVO_OWNER.host).powered && (owned SERVO_OWNER.host).admits 4 o2301_INCREMENT 0 (.int 17179869185) && (owned SERVO_OWNER.host).ptp.owner == SERVO_OWNER.host,
    (owned SERVO_OWNER.firmware).powered && (owned SERVO_OWNER.firmware).admits 4 o2301_INCREMENT 0 (.int 17179869185) && (owned SERVO_OWNER.firmware).ptp.owner == SERVO_OWNER.firmware,
    (owned SERVO_OWNER.host).admits 4 o2301_TIME_ADJUST_NS 0 (.int (-5)) && (owned SERVO_OWNER.firmware).admits 4 o2301_TIME_ADJUST_NS 0 (.int (-5)),
    does (.increment 0 4 17179869185) (owned SERVO_OWNER.host) (fun u => okd u && u.rd o2301_INCREMENT 0 == 17179869185),
    does (.increment 0 4 17179869185) (owned SERVO_OWNER.firmware) (answered 1),
    does (.timeAdjustNs 0 4 5) (owned SERVO_OWNER.host) (fun u => okd u && u.clk == 5 * 4294967296 && u.rd o2301_STEP_COUNT 0 == 1),
    does (.timeAdjustNs 0 4 5) (owned SERVO_OWNER.firmware) (answered 1)] = true := by
  decide +kernel

/-- Stamps in the queues. -/
def stamp (n : Nat) : PtqEntry := { seconds := 0, nanos := n, lane := 3, seq := n % 65536, msgType := 0, sent := false, stepGen := 0, fraction := 0 }
def queued (q n : Nat) : State := { base with ptp := { base.ptp with queues := [(q, (List.range n).map stamp)] } }

/-- A queue with a stamp that found it full. -/
def spilt : State := ((queued 2 16).pushStamp 2 (stamp 90)).2

theorem wit_FullTimestampQueueDiscards : all [
    ((queued 0 15).ptq 0).length == 15 && storeGet 0 (queued 0 15).ptp.spill == none,
    ((queued 0 15).pushStamp 0 (stamp 9)).1 && ((((queued 0 15).pushStamp 0 (stamp 9)).2).ptq 0).length == 16,
    ((queued 0 16).ptq 0).length == 16 && storeGet 0 (queued 0 16).ptp.spill == none,
    ((queued 0 16).pushStamp 0 (stamp 9)).1 == false,
    decide (advances spilt.now < advances 4),
    (({ spilt with now := 4 } : State).settleSpill 2).rdN o2310_PTQ_OVERFLOW 2 == 1 && (({ spilt with now := 4 } : State).settleSpill 2).rdN o2310_PTQ_DISCARDS 2 == 1,
    ((queued 2 16).ptq 2).length == 16 && ((spilt.popPtq 2).2.2).ptq 2 == ((List.range 16).drop 1).map stamp ++ [stamp 90]] = true := by
  decide +kernel

theorem wit_TimestampQueuesAreRead : all [
    base.powered && base.mayRead 4 o2310_PTQ_POP 1 && storeGet 1 base.ptp.spill == none,
    base.mayRead 4 o2310_PTQ_POP 2 && base.ptq 2 == [] && storeGet 2 base.ptp.spill == none,
    does (.ptqPop 0 4 1) base (fun u => u.last.status != 0 && u.last.value == none),
    does (.ptqPop 0 4 2) base (fun u => u.last == ⟨0, some (.bytes (zeros 16))⟩),
    (queued 3 2).powered && (queued 3 2).mayRead 4 o2310_PTQ_POP 3 && (queued 3 2).ptq 3 == [stamp 0, stamp 1] && storeGet 3 (queued 3 2).ptp.spill == none,
    does (.ptqPop 0 4 3) (queued 3 2) (fun u => u.last == ⟨0, some (.bytes (ptqBytes (stamp 0)))⟩ && u.ptq 3 == [stamp 1]),
    base.mayRead 4 o2311_MATCH_RESULT 0 && base.rdN o2311_MATCH_QUEUE 0 == 2,
    ((queued 2 3).put [(o2311_MATCH_LANE, 0, 3), (o2311_MATCH_SEQ, 0, 1)]).ptq 2 == [stamp 0] ++ stamp 1 :: [stamp 2],
    (stamp 1).lane == 3 && (stamp 1).seq == 1 && (stamp 0).seq != 1,
    does (.matchResult 0 4) ((queued 2 3).put [(o2311_MATCH_LANE, 0, 3), (o2311_MATCH_SEQ, 0, 1)]) (fun u => u.last == ⟨0, some (.bytes (ptqBytes (stamp 1)))⟩ && u.ptq 2 == [stamp 0, stamp 2]),
    ((queued 2 3).put [(o2311_MATCH_LANE, 0, 4), (o2311_MATCH_SEQ, 0, 1)]).mayRead 4 o2311_MATCH_RESULT 0,
    does (.matchResult 0 4) ((queued 2 3).put [(o2311_MATCH_LANE, 0, 4), (o2311_MATCH_SEQ, 0, 1)]) (fun u => u.last == ⟨0, some (.bytes (zeros 16))⟩)] = true := by
  decide +kernel

/-- A PTP port on lane 3, which receives and sends, with a leader heard at 5, a Sync and a Delay_Req in progress. -/
def ptp (led : Option (Nat × Nat)) (good : Nat) : State :=
  let f : Foreign := { leader := 77, rank := 1, heard := [5], utcOffset := 37, utcValid := true }
  let x : PtpPort := { leaders := [f], sync := some ⟨77, 4, 1000, 0, some 400⟩, req := some ⟨6, 2000, 0⟩, nextSeq := 7 }
  { (base.put [(o2303_PTP_LANE, 0, 3), (o2303_PORT_STATE, 0, PORT_STATE.slave), (o2301_SERVO_OWNER, 0, SERVO_OWNER.host), (o2301_CLOCK_STATE, 0, CLOCK_STATE.acquiring),
      (o3000_LANE_MODE, 3, LANE_MODE.m25gbase_r), (o3100_LANE_STATE, 3, LANE_STATE.up), (o3100_TX_STATE, 3, TX_STATE.running), (o1410_PD_STATE, 56, PD_STATE.on),
      (o1410_PD_STATE, 64, PD_STATE.on)]) with ptp := { base.ptp with ports := [(0, x)], leader := led, good := good }, lanes := [(3, { mode := LANE_MODE.m25gbase_r })] }

/-- Its leader. -/
def led : Option (Nat × Nat) := some (0, 77)

theorem wit_NetworkTimeIsFollowed : all [
    (ptp none 0).powered && (ptp none 0).rdN o2303_PTP_LANE 0 == 3 && ((ptp none 0).ptpPort 1).leaders == [] && ((ptp none 0).ptpPort 0).leaders.length == 1,
    (ptp none 0).laneReceives 3 && !((ptp none 0).lane 3).errored && (ptp none 0).rdN o2302_PTP_DOMAIN 0 == 127 && (ptp none 0).ptp.leader == none && decide (6 ≤ 5 + 4 * (ptp none 0).announceNs),
    (ptp led 0).powered && (ptp led 0).ptp.leader == led && decide (5 + (ptp led 0).rdN o2302_ANNOUNCE_TIMEOUT 0 * (ptp led 0).announceNs ≤ 9000000000),
    (ptp led 7).powered && (ptp led 7).rdN o2303_PTP_LANE 0 == 3 && (ptp led 7).portOfLane 3 == some 0 && (ptp led 7).laneReceives 3 && !((ptp led 7).lane 3).errored,
    ((ptp led 7).ptq 0).length == 0 && storeGet 0 (ptp led 7).ptp.spill == none && (ptp led 7).rdN o2302_PTP_DOMAIN 0 == 127,
    ((ptp led 7).ptpPort 0).sync == some ⟨77, 4, 1000, 0, some 400⟩,
    (ptp led 7).portState 3 == EG_PORT_STATE.running && (ptp led 7).rdN o3802_QUEUE_SOURCE (queueRow 3 6 0) == 65535 && (ptp led 7).rdN o3802_QUEUE_LIMIT (queueRow 3 6 0) == 0,
    ((ptp led 7).ptq 1).length == 0 && storeGet 1 (ptp led 7).ptp.spill == none,
    (((ptp led 7).carried 3 { len := 90, seq := 7, req := some 0 }).ptq 1).length == 1 && ((((ptp led 7).carried 3 { len := 90, seq := 7, req := some 0 }).ptpPort 0).req.map (·.seq)) == some 7,
    ((ptp led 7).ptpPort 0).req == some ⟨6, 2000, 0⟩ && (ptp led 7).rd o2303_PORT_STATE 0 == PORT_STATE.slave && (ptp led 7).ptp.leader == led && (ptp led 7).rd o2301_SERVO_OWNER 0 == SERVO_OWNER.host,
    (ptp led 7).rd o2301_CLOCK_STATE 0 == CLOCK_STATE.acquiring && (ptp led 7).ptp.good == 7 && decide ((((1000 : Int) - 400) - (2700 - 2000)) / 2 = -50),
    (ptp none 0).admits 4 o2303_PTP_LANE 1 (.int 3) && ethMode ((ptp none 0).rd o3000_LANE_MODE 3) && (ptp none 0).rd o2303_PTP_LANE 0 == 3,
    ((ptp none 0).put [(o3000_LANE_MODE, 9, LANE_MODE.m25gbase_r)]).admits 4 o2303_PTP_LANE 1 (.int 9) && ethMode (((ptp none 0).put [(o3000_LANE_MODE, 9, LANE_MODE.m25gbase_r)]).rd o3000_LANE_MODE 9)] = true := by
  decide +kernel


/-! Chapter 5. -/

/-- Lane 8 in a state, with what it holds. -/
def laneAt (st : Int) (x : Lane) : State := { (base.put [(o3100_LANE_STATE, 8, st), (o3000_LANE_MODE, 8, x.mode), (o3100_CTLE_ACTIVE, 8, 8)]) with lanes := [(8, x)] }

/-- An active bank that plans mode 6 for lane 8. -/
def laneTaken : State :=
  { (base.put [(o2001_BANK_STATE, 0, BANK_STATE.active)]) with led := { base.led with banks := [(0, { plan := { laneModes := [(8, 6)] } })] } }

/-- Lane 8 named by PTP_LANE. -/
def lanePtp : State := base.put [(o2303_PTP_LANE, 0, 8)]

/-- Lane 8 'up' with 'continuous' adaptation. -/
def laneAdapts : State := (laneAt LANE_STATE.up { signal := true }).put [(o3000_RX_ADAPT, 8, RX_ADAPT.continuous)]

/-- Lane 8 with a running PRBS checker. -/
def laneChecks : State := (laneAt LANE_STATE.test {}).put [(o3000_TEST_MODE, 8, TEST_MODE.prbs), (o3000_PRBS_DIR, 8, PRBS_DIR.rx)]

theorem wit_LaneSetUpIsWritten : all [
    base.powered && base.admits 4 o3000_LANE_MODE 8 (.int 6) && base.bankPlansLane 8 [BANK_STATE.active, BANK_STATE.armed] == none && base.portOfLane 8 == none,
    does (.laneMode 0 4 8 6) base (fun u => okd u && u.rd o3000_LANE_MODE 8 == 6 && (u.lane 8).pendMode),
    lanePtp.powered && lanePtp.admits 4 o3000_LANE_MODE 8 (.int LANE_MODE.sdi_12) && lanePtp.portOfLane 8 == some 0 && !ethMode LANE_MODE.sdi_12,
    lanePtp.bankPlansLane 8 [BANK_STATE.active, BANK_STATE.armed] == none,
    does (.laneMode 0 4 8 LANE_MODE.sdi_12) lanePtp (answered 0x0C05),
    laneTaken.powered && laneTaken.bankPlansLane 8 [BANK_STATE.active, BANK_STATE.armed] == some 6,
    laneTaken.admits 4 o3000_LANE_MODE 8 (.int LANE_MODE.sdi_12) && laneTaken.admits 4 o3000_LANE_MODE 8 (.int 6),
    does (.laneMode 0 4 8 LANE_MODE.sdi_12) laneTaken (answered 0x0C01),
    does (.laneMode 0 4 8 6) laneTaken (fun u => okd u && (u.lane 8).pendMode),
    base.admits 4 o3000_DIRECTION 8 (.int 1),
    does (.direction 0 4 8 1) base (fun u => okd u && u.rd o3000_DIRECTION 8 == 1 && (u.lane 8).pendDir),
    (laneAt LANE_STATE.up {}).powered && (laneAt LANE_STATE.up {}).admits 4 o3000_TEST_MODE 8 (.int TEST_MODE.loop_serial),
    (laneAt LANE_STATE.up {}).bankPlansLane 8 [BANK_STATE.active, BANK_STATE.armed] == none && (laneAt LANE_STATE.up {}).rd o3000_TEST_MODE 8 == TEST_MODE.none,
    does (.testMode 0 4 8 TEST_MODE.loop_serial) (laneAt LANE_STATE.up {}) (fun u => okd u && u.laneState 8 == LANE_STATE.test),
    laneTaken.admits 4 o3000_TEST_MODE 8 (.int TEST_MODE.loop_serial),
    does (.testMode 0 4 8 TEST_MODE.loop_serial) laneTaken (answered 0x0C03),
    (base.put [(o3000_TX_TAP_C0, 8, 64), (o3000_TX_TAP_CM1, 8, -64)]).admits 4 o3000_TX_FFE_SOURCE 8 (.int TX_FFE_SOURCE.manual),
    does (.txFfeSource 0 4 8 TX_FFE_SOURCE.manual) (base.put [(o3000_TX_TAP_C0, 8, 64), (o3000_TX_TAP_CM1, 8, -64)]) okd,
    (base.put [(o3000_TX_TAP_C0, 8, 64), (o3000_TX_TAP_CM1, 8, -65)]).admits 4 o3000_TX_FFE_SOURCE 8 (.int TX_FFE_SOURCE.manual),
    does (.txFfeSource 0 4 8 TX_FFE_SOURCE.manual) (base.put [(o3000_TX_TAP_C0, 8, 64), (o3000_TX_TAP_CM1, 8, -65)]) (answered 0x0C04),
    does (.txFfeSource 0 4 8 TX_FFE_SOURCE.manual) (base.put [(o3000_TX_TAP_C0, 8, 63)]) (answered 0x0C04)] = true := by
  decide +kernel

theorem wit_LaneClocksAreRecovered : all [
    (laneAt LANE_STATE.acquiring {}).powered && (laneAt LANE_STATE.acquiring {}).laneState 8 == LANE_STATE.acquiring,
    does (.laneSignalDetect 0 8) (laneAt LANE_STATE.acquiring {}) (fun u => (u.lane 8).signal && u.laneState 8 == LANE_STATE.acquiring && u.instActive .LANE_LOS 8 == false),
    (laneAt LANE_STATE.up { signal := true }).powered && (laneAt LANE_STATE.up { signal := true }).laneState 8 == LANE_STATE.up,
    (laneAt LANE_STATE.acquiring { mode := LANE_MODE.sdi_auto, signal := true }).powered && sdiMode LANE_MODE.sdi_auto,
    does (.cdrLock 0 8 (-300000) true) (laneAt LANE_STATE.acquiring { mode := LANE_MODE.sdi_auto, signal := true }) (fun u => (u.lane 8).cdr && u.rd o3100_FREQ_OFFSET_PPB 8 == -300000 && u.rd o3100_RATE_FOUND 8 == 7 && (u.lane 8).corner == 833),
    sdiMode 6 == false && (laneAt LANE_STATE.acquiring { mode := 6, signal := true }).powered,
    does (.cdrLock 0 8 200001 true) (laneAt LANE_STATE.acquiring { mode := 6, signal := true }) (fun u => !(u.lane 8).cdr),
    does (.cdrLock 0 8 100 true) (laneAt LANE_STATE.up { mode := 6, signal := true, cdr := true }) (fun u => u.rd o3100_FREQ_OFFSET_PPB 8 == 100),
    does (.sdiRateDwell 0 8) (laneAt LANE_STATE.acquiring { mode := LANE_MODE.sdi_auto, hunt := 7 }) (fun u => (u.lane 8).hunt == 0 && u.laneState 8 == LANE_STATE.acquiring),
    (laneAt LANE_STATE.aligning { mode := LANE_MODE.sdi_auto, alignedAt := 5, hunt := 2 }).powered,
    ((laneAt LANE_STATE.acquiring { mode := LANE_MODE.m50gbase_r }).put [(o3000_LINK_TRAINING, 8, 1)]).powered && ((laneAt LANE_STATE.acquiring { mode := LANE_MODE.m50gbase_r }).put [(o3000_LINK_TRAINING, 8, 1)]).isOn o3000_LINK_TRAINING 8] = true := by
  decide +kernel

theorem wit_ReceiversAdapt : all [
    (laneAt LANE_STATE.acquiring { cdr := true }).powered && (laneAt LANE_STATE.acquiring { cdr := true }).rdN o3000_ADAPT_RESET_Q 8 == 50,
    does (.adaptationComplete 3 8 [1, 9, 9] 49 [] none) (laneAt LANE_STATE.acquiring { cdr := true }) (fun u => (u.lane 8).retryAt == some 10000003 && u.laneState 8 == LANE_STATE.acquiring),
    does (.adaptationRetry 9 8) (laneAt LANE_STATE.acquiring { retryAt := some 9 }) (fun u => (u.lane 8).retryAt == none && u.laneState 8 == LANE_STATE.acquiring),
    (laneAt LANE_STATE.up { warnSince := some 9 }).powered && Nat.ble 250 ((laneAt LANE_STATE.up {}).rdN o3000_EYE_WARN_Q 8),
    does (.eyeQWindow 1000000009 8 249999 1000000) (laneAt LANE_STATE.up { warnSince := some 9 }) (fun u => u.rd o3100_EYE_Q 8 == 249 && u.instActive .LANE_EYE_LOW 8),
    laneAdapts.powered && laneAdapts.rd o3000_RX_ADAPT 8 == RX_ADAPT.continuous && laneAdapts.laneState 8 == LANE_STATE.up && (laneAdapts.lane 8).signal && laneAdapts.rd o3100_CTLE_ACTIVE 8 == 8,
    does (.ctleTrial 0 8 30 49 50) laneAdapts (fun u => u.rd o3100_CTLE_ACTIVE 8 == 7),
    does (.ctleTrial 0 8 30 50 49) laneAdapts (fun u => u.rd o3100_CTLE_ACTIVE 8 == 9),
    does (.ctleTrial 0 8 30 49 49) laneAdapts (fun u => u.rd o3100_CTLE_ACTIVE 8 == 8),
    (laneAt LANE_STATE.up { lowSince := some 9 }).powered && (laneAt LANE_STATE.up { lowSince := some 9 }).laneState 8 == LANE_STATE.up,
    (laneAt LANE_STATE.aligning { alignedAt := 9 }).powered && Nat.ble ((laneAt LANE_STATE.aligning {}).rdN o3000_LOCK_TIMEOUT_MS 8) 1000] = true := by
  decide +kernel

/-- Lane 8 hunting for block lock, and with it. -/
def laneHunts (n : Nat) (pend : Bool) : State := laneAt LANE_STATE.aligning { mode := LANE_MODE.m10gbase_r, good := n, pendMode := pend }
def laneLocked (n : Nat) : State := laneAt LANE_STATE.up { mode := LANE_MODE.m10gbase_r, lock := true, window := List.replicate n true }
def laneCoded : State := laneAt LANE_STATE.up { mode := LANE_MODE.m50gbase_r, codeword := true }
def laneSdi (st : Int) (x : List Trs) : State := laneAt st { mode := LANE_MODE.sdi_12, trs := x }

theorem wit_LanesLockAndUnlock : all [
    (laneHunts 63 false).powered && (laneHunts 63 false).usesFec 8 == false && sdiMode LANE_MODE.m10gbase_r == false && (laneHunts 63 false).laneState 8 == LANE_STATE.aligning,
    (laneHunts 63 true).powered && (laneHunts 63 true).usesFec 8 == false && (laneHunts 63 true).laneState 8 == LANE_STATE.aligning,
    does (.laneBlockRx 0 8 2) (laneHunts 63 true) (fun u => u.laneState 8 == LANE_STATE.aligning),
    (laneHunts 62 false).powered && (laneHunts 62 false).usesFec 8 == false && (laneHunts 62 false).laneState 8 == LANE_STATE.aligning,
    does (.laneBlockRx 0 8 1) (laneHunts 62 false) (fun u => (u.lane 8).good == 63),
    does (.laneBlockRx 0 8 0) (laneHunts 62 false) (fun u => (u.lane 8).good == 0 && (u.lane 8).boundary == 1 && u.rd o3100_INVALID_HEADERS 8 == 1),
    (laneLocked 15).powered && (laneLocked 15).usesFec 8 == false && (laneLocked 15).laneState 8 == LANE_STATE.up && !((laneLocked 15).lane 8).pendMode,
    (laneLocked 14).powered && (laneLocked 14).usesFec 8 == false && (laneLocked 14).laneState 8 == LANE_STATE.up,
    does (.laneBlockRx 0 8 3) (laneLocked 14) (fun u => u.laneState 8 == LANE_STATE.up && (u.lane 8).lock),
    laneCoded.powered && laneCoded.usesFec 8 && laneCoded.laneState 8 == LANE_STATE.up && (laneCoded.lane 8).codeword && !(laneCoded.lane 8).pendMode,
    does (.fecCodewordRx 0 8 true false true) laneCoded (fun u => u.rd o3100_FEC_CORRECTED 8 == 1),
    does (.fecCodewordRx 0 8 false true true) laneCoded (fun u => u.rd o3100_FEC_UNCORRECTED 8 == 1 && (u.lane 8).errored && u.instActive .LANE_FEC_UNCORR 8),
    ethMode LANE_MODE.m25gbase_r && (laneAt LANE_STATE.up { mode := LANE_MODE.m25gbase_r, lock := true }).powered && (laneAt LANE_STATE.up { mode := LANE_MODE.m25gbase_r, lock := true }).laneState 8 == LANE_STATE.up,
    (laneAt LANE_STATE.hi_ber { mode := LANE_MODE.m25gbase_r, lock := true }).powered && (laneAt LANE_STATE.hi_ber { mode := LANE_MODE.m25gbase_r, lock := true }).laneState 8 == LANE_STATE.hi_ber,
    (laneSdi LANE_STATE.aligning []).powered && sdiMode LANE_MODE.sdi_12 && (laneSdi LANE_STATE.aligning []).rdN o3540_SDI_IN_LINKS 8 == 0 && (laneSdi LANE_STATE.aligning []).laneState 8 == LANE_STATE.aligning,
    does (.sdiLineRx 0 8 { eavs := [some 4, some 5], line := 1 }) (laneSdi LANE_STATE.aligning [⟨some 4, none, 0⟩, ⟨none, some (5, 1), 0⟩]) (fun u => u.laneState 8 == LANE_STATE.aligning && (u.lane 8).trs == [⟨some 4, none, 0⟩, ⟨none, some (5, 2), 0⟩]),
    (laneSdi LANE_STATE.up []).powered && (laneSdi LANE_STATE.up []).rdN o3540_SDI_IN_LINKS 8 == 0 && (laneSdi LANE_STATE.up []).laneState 8 == LANE_STATE.up,
    does (.sdiLineRx 0 8 { eavs := [none], line := 1 }) (laneSdi LANE_STATE.up [⟨some 4, none, 2⟩]) (fun u => (u.lane 8).trs == [⟨some 4, none, 3⟩]),
    does (.sdiLineRx 0 8 { eavs := [some 4], crcBad := true, line := 1 }) (laneSdi LANE_STATE.up [⟨some 4, none, 0⟩]) (fun u => u.rd o3100_SDI_CRC_LINES 8 == 1)] = true := by
  decide +kernel

theorem wit_LaneTestsAndFaults : all [
    laneChecks.powered && laneChecks.prbsRuns 8 && laneChecks.isOn o3100_PRBS_LOCKED 8 == false,
    does (.prbsLockGained 5 8) laneChecks (fun u => u.rd o3100_PRBS_LOCKED 8 == 1 && (u.lane 8).prbsFrom == 5),
    ((laneAt LANE_STATE.test {}).put [(o3100_PRBS_LOCKED, 8, 1)]).powered && ((laneAt LANE_STATE.test {}).put [(o3100_PRBS_LOCKED, 8, 1)]).isOn o3100_PRBS_LOCKED 8,
    does (.prbsLockLost 0 8 2000 3) ((laneAt LANE_STATE.test {}).put [(o3100_PRBS_LOCKED, 8, 1)]) (fun u => u.rd o3100_PRBS_LOCKED 8 == 0 && u.rd o3100_PRBS_BITS 8 == 2000 && u.rd o3100_PRBS_ERRORS 8 == 3),
    does (.laneTxFault 0 8 true) (laneAt LANE_STATE.up {}) (fun u => u.instActive .LANE_TX_FAULT 8 && u.rd o3100_TX_STATE 8 != TX_STATE.running),
    does (.laneTxFault 0 8 false) (laneAt LANE_STATE.up { txFault := true }) (fun u => !(u.lane 8).txFault && u.instActive .LANE_TX_FAULT 8 == false),
    ethMode LANE_MODE.m25gbase_r && (laneAt LANE_STATE.up { mode := LANE_MODE.m25gbase_r }).powered,
    does (.laneFaultRx 0 8 true) (laneAt LANE_STATE.up { mode := LANE_MODE.m25gbase_r }) (fun u => (u.lane 8).faultRx)] = true := by
  decide +kernel


/-! Chapter 6. -/

/-- A multicast group, a source, and flow row 5 on Ethernet lane 3, disabled or in a state. -/
def group : Bytes := zeros 10 ++ [0xFF#8, 0xFF#8, 239#8, 1#8, 2#8, 3#8]
def speaker : Bytes := zeros 10 ++ [0xFF#8, 0xFF#8, 10#8, 0#8, 0#8, 1#8]
def flowAt (on st leg : Int) (x : Flow) : State :=
  let s := (planned { endpoints := [{ ep := 7, dom := 0, fmt := 0x28 }] }).put [(o3600_FLOW_ENABLE, 5, on), (o3600_FLOW_STATE, 5, st), (o3600_LEG_STATE_P, 5, leg), (o3600_ENDPOINT, 5, 7),
    (o3600_LANE_P, 5, 3), (o3600_UDP_PORT_P, 5, 20000), (o3000_LANE_MODE, 3, LANE_MODE.m25gbase_r), (o3100_LANE_STATE, 3, LANE_STATE.up)]
  { (s.wrOct o3600_DEST_ADDR_P 5 group) with med := { s.med with flows := [(5, x)] }, lanes := [(3, { mode := LANE_MODE.m25gbase_r })] }

/-- Row 5 active, its report due, on a running port. -/
def joined : State := (flowAt 1 FLOW_STATE.lost 0 { active := true, joinAt := some 2 }).put [(o3100_TX_STATE, 3, TX_STATE.running)]

theorem wit_FlowRowsComeAndGo : all [
    (flowAt 0 0 0 {}).powered && (flowAt 0 0 0 {}).admits 4 o3600_FLOW_ENABLE 5 (.int 1) && (flowAt 0 0 0 {}).isOn o3600_FLOW_ENABLE 5 == false && (flowAt 0 0 0 {}).flowCheck 5 == 0,
    base.powered && base.admits 4 o3600_FLOW_ENABLE 5 (.int 1) && base.isOn o3600_FLOW_ENABLE 5 == false && base.flowCheck 5 == 0x0D01,
    does (.flowEnable 0 4 5 true) (flowAt 0 0 0 {}) (fun u => okd u && u.flowState 5 == FLOW_STATE.unclaimed),
    does (.flowEnable 0 4 5 true) base (answered 0x0D01),
    (flowAt 1 FLOW_STATE.present LEG_STATE_P.receiving { active := true }).admits 4 o3600_FLOW_ENABLE 5 (.int 0) && (flowAt 1 FLOW_STATE.present LEG_STATE_P.receiving { active := true }).isOn o3600_FLOW_ENABLE 5,
    joined.powered && (joined.flow 5).joinAt == some 2 && joined.legs 5 == [false] && isGroup (joined.legDest 5 false) && joined.legLane 5 false == 3,
    joined.portState 3 == EG_PORT_STATE.running && joined.rdN o3802_QUEUE_SOURCE (queueRow 3 6 1) == 65535 && joined.rdN o3802_QUEUE_LIMIT (queueRow 3 6 1) == 0,
    does (.joinRepeat 1000000002 5) joined (fun u => (u.queue 3 6 1).map (·.carries) == [[.join 3 group [noAddr]]] && (u.flow 5).joinAt == none && u.rd o3510_JOINS_SENT 3 == 1),
    (flowAt 1 FLOW_STATE.present LEG_STATE_P.receiving {}).powered && (flowAt 1 FLOW_STATE.present LEG_STATE_P.receiving {}).rdN o3600_LEG_TIMEOUT_MS 5 == 5,
    does (.legTimeout 5000002 5 false) (flowAt 1 FLOW_STATE.present LEG_STATE_P.receiving { active := true, p := { lastAt := 2 } }) (fun u => u.rd o3600_LEG_STATE_P 5 == LEG_STATE_P.lost && u.instActive .MT_LEG_LOSS 10),
    (flowAt 1 FLOW_STATE.present 0 {}).rdN o3600_LOSS_TIMEOUT_MS 5 == 5,
    ({ (flowAt 1 FLOW_STATE.lost 0 {}) with med := { base.med with bufs := [(7, { shades := [(0, true)] })] } } : State).powered && isGenerator 7 == false && 7 / 4096 != 1,
    does (.lossHoldEnd 0 7) { (flowAt 1 FLOW_STATE.lost 0 {}) with med := { base.med with bufs := [(7, { shades := [(0, true)] })] } } (fun u => (u.buf 7).dark 0)] = true := by
  decide +kernel

/-- A packet of row 5, and what the row has received. -/
def packet (pt : Nat) : EthFrame := { mac := [1#8, 0#8, 0x5E#8, 1#8, 2#8, 3#8], payload := .rtp group speaker 20000 { pt := pt, ssrc := 1, seq := 40, ts := 9 } }
def hears (w : Bool) : Flow := { active := true, newest := some 41, spans := [⟨40, 40, 100⟩], got := [(40, { written := w })], judged := 40 }

/-- Row 5 with what it has received; and as an audio row of two channels. -/
def row5 (w : Bool) : State := flowAt 1 FLOW_STATE.present 0 (hears w)
def row5a : State := (row5 false).put [(o3600_FLOW_KIND, 5, FLOW_KIND.st2110_30), (o3600_FLOW_AUDIO_CHANNELS, 5, 2)]
def sound : RtpPacket := { pt := 96, ssrc := 1, seq := 40, ts := 9, bytes := 36, samples := List.replicate 6 [1, 2] }

theorem wit_PacketsAreMergedOnce : all [
    (row5 true).powered && (row5 true).laneReceives 3 && ((row5 true).lane 3).errored == false && (row5 true).portOfLane 3 == none,
    does (.ethFrameRx 0 3 { fcsOk := false, mac := [], payload := .other }) (row5 true) (fun u => u.rd o3510_RX_FRAMES 3 == 1 && u.rd o3510_RX_IP_ERRORS 3 == 1),
    isGroupMac (packet 96).mac && decide ((packet 96).len ≤ (row5 true).rdN o3500_MTU 3 + 18) && (packet 96).tag == none && (row5 true).rdN o3500_VLAN_ID 3 == 0,
    (row5 true).matchLeg 3 group speaker 20000 (row5 true).activeRows == some (5, false) && (row5 true).rdN o3600_PAYLOAD_TYPE 5 == 96,
    does (.ethFrameRx 0 3 (packet 97)) (row5 true) (fun u => u.rd o3620_PACKETS_P 5 == 1 && u.rd o3620_PT_DISCARDS 5 == 1 && u.rd o3600_LEG_STATE_P 5 == LEG_STATE_P.receiving),
    ((row5 true).flow 5).newest == some 41 && extendSeq (seqModulus ((row5 true).flowKind 5)) (some 41) 40 == 40 && (hears true).deadline 40 == some 100 && ((hears true).gotAt 40).written,
    row5a.powered && row5a.laneReceives 3 && (row5a.lane 3).errored == false && row5a.portOfLane 3 == none && row5a.rdN o3500_VLAN_ID 3 == 0 && row5a.rdN o3600_PAYLOAD_TYPE 5 == 96,
    row5a.matchLeg 3 group speaker 20000 row5a.activeRows == some (5, false) && audioKind (row5a.flowKind 5) && row5a.audioOk 5 sound && extendSeq (seqModulus (row5a.flowKind 5)) (some 41) 40 == 40,
    (row5 false).powered && ((row5 false).flow 5).spans == [⟨40, 40, 100⟩] && ((row5 false).flow 5).judged == 40 && !(((row5 false).flow 5).gotAt 40).written,
    does (.mergeDeadline 100 5) (row5 false) (fun u => u.rd o3620_MERGED_GAPS 5 == 1 && (u.flow 5).judged == 41),
    does (.mergeDeadline 100 5) (row5 true) (fun u => u.rd o3620_MERGED_GAPS 5 == 0)] = true := by
  decide +kernel


/-! Chapter 7. -/

/-- An Ethernet lane whose port runs, with what the traffic manager holds. -/
def wire (x : EgPort) (m : List (Nat × Nat × Int)) : State :=
  let s := (planned { outRows := [{ row := 2, dom := 0, kind := 0, ep := 0x8000, laneP := 3, sender := 1, tro := 1000, packets := 4, instants := [10, 20] }] }).put
    ([(o3100_LANE_STATE, 3, LANE_STATE.up), (o3000_LANE_MODE, 3, LANE_MODE.m25gbase_r), (o3100_TX_STATE, 3, TX_STATE.running), (o3802_QUEUE_LIMIT, queueRow 3 1 0, 100),
     (o3100_LANE_STATE, 4, LANE_STATE.up), (o3000_LANE_MODE, 4, LANE_MODE.m25gbase_r), (o3100_TX_STATE, 4, TX_STATE.running), (o3802_QUEUE_LIMIT, queueRow 4 1 0, 100)] ++ m)
  { s with lanes := [(3, { mode := LANE_MODE.m25gbase_r }), (4, { mode := LANE_MODE.m25gbase_r })], eg := { ports := [(3, x)] } }

/-- Row 9 shaped on lanes 3 and 4, or on lane 3 alone, and row 2 paced, with custody. -/
def shapedOn (k : Nat) : State :=
  let r : PlanOutRow := { row := 9, dom := 0, kind := 2, ep := 0, laneP := 3, laneS := k, cls := 1 }
  let s := wire {} [(o3700_TX_ENABLE, 9, 1), (o1601_CUSTODY_HELD, 0, 1), (o3802_QUEUE_SOURCE, queueRow 3 1 0, 9), (o3802_QUEUE_SOURCE, queueRow 4 1 0, 9)]
  { s with led := { s.led with banks := [(0, { plan := { outRows := [r] }, descs := [{ rate := 8, inUse := 1 }] })] } }
def pacing : State := wire {} [(o3700_TX_ENABLE, 2, 1), (o1601_CUSTODY_HELD, 0, 1)]

theorem wit_FramesQueueAtTheirGates : all [
    (wire {} []).powered && (wire {} []).portState 3 == EG_PORT_STATE.running && (wire {} []).rdN o3802_QUEUE_SOURCE (queueRow 3 1 0) == 65535 && ((wire {} []).outRow 65535).isNone,
    does (.egressEnqueue 0 3 1 0 100 ⟨60, true⟩ 7 0) (wire {} []) (fun u => u.queue 3 1 0 == [{ len := 100, payload := 60, seq := 7, marker := true }]),
    does (.egressEnqueue 0 3 1 0 101 ⟨60, true⟩ 7 0) (wire {} []) (fun u => u.queue 3 1 0 == [] && u.rd o3802_QUEUE_DROPS (queueRow 3 1 0) == 1 && u.instActive .EG_QUEUE_DROP 3),
    (wire {} []).rdN o3802_QUEUE_LIMIT (queueRow 3 6 0) == 0 && (wire {} []).rdN o3802_QUEUE_SOURCE (queueRow 3 6 0) == 65535,
    does (.egressEnqueue 0 3 6 0 64 ⟨46, false⟩ 8 0) (wire {} []) (fun u => u.queue 3 6 0 == [{ len := 64, payload := 46, seq := 8 }]),
    (shapedOn 65535).powered && (shapedOn 65535).portState 3 == EG_PORT_STATE.running && ((shapedOn 65535).outRow 9).isSome && (shapedOn 65535).isOn o3700_TX_ENABLE 9 && (shapedOn 65535).isOn o1601_CUSTODY_HELD 0,
    does (.egressEnqueue 0 3 1 0 90 ⟨60, true⟩ 7 0) (shapedOn 65535) (fun u => (u.queue 3 1 0).map (·.media) == [some (9, 0, ((shapedOn 65535).begin 0).pacedStamp { row := 9, dom := 0, kind := 2, ep := 0, laneP := 3, laneS := 65535, cls := 1 })]),
    (shapedOn 4).powered && (shapedOn 4).portState 3 == EG_PORT_STATE.running && (shapedOn 4).portState 4 == EG_PORT_STATE.running && ((shapedOn 4).outRow 9).isSome && (shapedOn 4).isOn o3700_TX_ENABLE 9,
    does (.egressEnqueue 0 3 1 0 90 ⟨60, true⟩ 7 0) (shapedOn 4) (fun u => (u.queue 3 1 0).map (·.media) == (u.queue 4 1 0).map (·.media) && (u.queue 4 1 0).length == 1),
    (wire { queues := [((6, 0), [{ len := 64 }])] } []).powered && (wire { queues := [((6, 0), [{ len := 64 }])] } []).portState 3 == EG_PORT_STATE.running,
    (wire {} []).rdN o3802_QUANTUM (queueRow 3 6 0) == 1536 && (wire {} []).rd o3802_DEFICIT (queueRow 3 6 0) == 0 && (wire {} []).pacedOn 3 == [] && (wire {} []).creditOf 3 6 == 0,
    pacing.powered && (pacing.outRow 2).isSome && pacing.isOn o3700_TX_ENABLE 2 && pacing.isOn o1601_CUSTODY_HELD 0 && pacing.portBlocked 3 == false && pacing.rd o3100_LANE_STATE 3 == LANE_STATE.up,
    base.powered && base.admits 4 o3700_TX_ENABLE 2 (.int 1) && (wire {} []).admits 4 o3700_TX_ENABLE 2 (.int 1),
    does (.txEnable 0 4 2 true) (wire {} []) (fun u => okd u && u.rd o3700_TX_STATE 2 == TX_STATE_3700.sending),
    does (.txEnable 0 4 2 true) base (fun u => okd u && u.rd o3700_TX_STATE 2 == TX_STATE_3700.not_planned)] = true := by
  decide +kernel

/-- A gate list of one entry. -/
def gates : GateList := { base := 0, cycle := 100000, entries := [(5, 100000)], start := 300000 }
def admin : List (Nat × Nat × Int) :=
  [(o3810_ADMIN_CYCLE_NS, 3, 100000), (o3810_ADMIN_LENGTH, 3, 1), (o3811_ADMIN_GATE_STATES, 768, 5), (o3811_ADMIN_INTERVAL_NS, 768, 100000), (o3810_GATE_ENABLED, 3, 1)]

theorem wit_FramesQueueAtTheirGates_gates : all [
    (wire {} admin).powered && ((wire {} admin).adminList 3).legal && (wire {} admin).admits 4 o3810_CONFIG_CHANGE 3 (.int CONFIG_CHANGE.apply),
    ethMode ((wire {} admin).rd o3000_LANE_MODE 3) && (wire {} admin).isOn o3810_GATE_ENABLED 3,
    does (.gateApply 0 4 3) (wire {} admin) (fun u => okd u && (u.eport 3).pending == some gates && u.rd o3810_CONFIG_PENDING 3 == 1),
    (wire {} [(o3810_ADMIN_CYCLE_NS, 3, 999)]).powered && ((wire {} [(o3810_ADMIN_CYCLE_NS, 3, 999)]).adminList 3).legal == false && (wire {} [(o3810_ADMIN_CYCLE_NS, 3, 999)]).admits 4 o3810_CONFIG_CHANGE 3 (.int CONFIG_CHANGE.apply),
    does (.gateApply 0 4 3) (wire {} [(o3810_ADMIN_CYCLE_NS, 3, 999)]) (answered 0x0E01),
    (wire { pending := some gates } [(o3810_CONFIG_PENDING, 3, 1)]).powered && (wire { pending := some gates } [(o3810_CONFIG_PENDING, 3, 1)]).admits 4 o3810_CONFIG_CHANGE 3 (.int CONFIG_CHANGE.cancel),
    does (.gateCancel 0 4 3) (wire { pending := some gates } [(o3810_CONFIG_PENDING, 3, 1)]) (fun u => okd u && (u.eport 3).pending == none),
    (wire {} admin).admits 4 o3810_GATE_ENABLED 3 (.int 0),
    does (.gateEnabled 0 4 3 false) (wire {} admin) (fun u => okd u && (u.eport 3).disableDue),
    (wire { pending := some gates } admin).powered && (wire { running := some gates } admin).powered && Nat.ble gates.start ((wire {} []).begin 300000).clkNanos,
    does (.gateEntryChange 300000 3) (wire { running := some gates } admin) (fun u => (u.eport 3).gates == 5 && u.rd o3810_CURRENT_ENTRY 3 == 0),
    does (.gateEntryChange 300000 3) (wire { gates := 5 } admin) (fun u => (u.eport 3).gates == 127)] = true := by
  decide +kernel


/-! Chapters 8 and 9. -/

/-- Output 2 of domain 0 with a source 7 planned for it by permission. -/
def fabric (m : List (Nat × Nat × Int)) : State :=
  (planned { endpoints := [{ ep := 0x8002, dom := 0, fmt := 0x28 }, { ep := 7, dom := 0, fmt := 0x28, align := 1 }], permissions := [] }).put
    ([(o4002_DEST_DOMAIN, 2, 0), (o4002_DEST_FORMAT, 2, 0x28), (o4000_ROUTE_DEST, 4, 0x8002), (o4000_ROUTE_SRC, 4, 7)] ++ m)
def waiting : PendRoute := { src := 7, takenAt := 3, path := 1 }

theorem wit_RoutesAndSalvosAreTaken : all [
    (fabric []).powered && (fabric []).ctxOf 4 == some ⟨4, 31, none⟩ && (fabric []).admits 4 o4000_ROUTE_CMD 0 (.int 0),
    destRow 0x8002 == some 2 && isDest 0x8002 && isSource 7 && (fabric []).rdN o4000_ROUTE_DEST 4 == 0x8002 && (fabric []).rdN o4000_ROUTE_SRC 4 == 7,
    (fabric []).owns ⟨4, 31, none⟩ (destOwn 0x8002),
    ((fabric []).checkRoute 0x8002 7 (((fabric []).begin 5).routeFrame 0x8002 (((fabric []).endpointDomain 0x8002).getD 0))).toOption.isSome,
    does (.routeTake 5 4) (fabric []) (fun u => okd u && u.rd o4002_PENDING_SOURCE 2 == 7 && ((u.dest 2).pending.map (·.takenAt)) == some 5),
    (fabric [(o4000_ROUTE_SRC, 4, 9)]).powered && (fabric [(o4000_ROUTE_SRC, 4, 9)]).admits 4 o4000_ROUTE_CMD 0 (.int 0) && (fabric [(o4000_ROUTE_SRC, 4, 9)]).owns ⟨4, 31, none⟩ (destOwn 0x8002) && isSource 9,
    ((fabric [(o4000_ROUTE_SRC, 4, 9)]).checkRoute 0x8002 9 (((fabric []).begin 5).routeFrame 0x8002 0)).toOption.isNone,
    does (.routeTake 5 4) (fabric [(o4000_ROUTE_SRC, 4, 9)]) (fun u => u.last.status != 0 && u.rd o4000_ROUTE_RESULT 4 == u.last.status),
    ({ (fabric []) with fab := { dests := [(2, { pending := some waiting })] } } : State).powered && (fabric []).destDomain 2 == 0 && waiting.prep.isNone && (fabric []).destFormat 2 == 0x28,
    ((fabric [(o3580_SDI_OUT_LINKS, 5, 1), (o3580_SDI_OUT_ENDPOINT, 5, 0x8002), (o3580_INSERT_PAYLOAD_ID, 5, 1), (o3580_OUT_AUDIO_CHANNELS, 5, 16)]).sdiInsert 2).out.contains (.sdi 5 ((fabric []).fcnt 0) (some 0x28) 0 16),
    ((fabric [(o3580_SDI_OUT_LINKS, 5, 1), (o3580_SDI_OUT_ENDPOINT, 5, 0x8002), (o3580_INSERT_PAYLOAD_ID, 5, 0), (o3580_OUT_AUDIO_CHANNELS, 5, 16)]).sdiInsert 2).out.contains (.sdi 5 ((fabric []).fcnt 0) none 0 16),
    (base.put [(o4100_AUD_DEST_CH, 4, 64), (o4100_AUD_SRC_CH, 4, 8), (o4100_AUD_COUNT, 4, 2)]).admits 4 o4100_AUD_CMD 0 (.int 0) && base.ctxOf 4 == some ⟨4, 31, none⟩,
    (base.begin 1).checkItem ⟨4, 31, none⟩ (base.begin 1).routeFrame [] (.audio 0 0 0 0) != 0,
    (((base.put [(o4100_AUD_DEST_CH, 4, 64), (o4100_AUD_SRC_CH, 4, 8), (o4100_AUD_COUNT, 4, 2)])).begin 1).checkItem ⟨4, 31, none⟩ (base.begin 1).routeFrame [] (.audio 64 8 2 2) == 0,
    does (.audTake 5 4) (base.put [(o4100_AUD_DEST_CH, 4, 64), (o4100_AUD_SRC_CH, 4, 8), (o4100_AUD_COUNT, 4, 2)]) (fun u => okd u && (u.chan 65).pend == some ⟨9, 2, 6, none⟩)] = true := by
  decide +kernel

/-- Salvo 3 with entries. -/
def salvo (st : Int) (l : List Int) : State :=
  ((fabric []).put [(o4010_SALVO_STATE, 3, st), (o4010_SALVO_LENGTH, 3, l.length)]).put ((List.range l.length).map (fun e => (o4011_SALVO_ENTRY, 3072 + e, l.getD e 0)))

theorem wit_RoutesAndSalvosAreTaken_salvos : all [
    (salvo SALVO_STATE.loaded [1]).powered && (salvo SALVO_STATE.loaded [1]).ctxOf 4 == some ⟨4, 31, none⟩ && (salvo SALVO_STATE.loaded [1]).admits 4 o4010_SALVO_LENGTH 3 (.int 0),
    (salvo SALVO_STATE.empty []).powered && (salvo SALVO_STATE.empty []).admits 4 o4010_SALVO_LENGTH 3 (.int 1),
    (salvo SALVO_STATE.refused [1, 2]).powered && (salvo SALVO_STATE.refused [1, 2]).admits 4 o4011_SALVO_ENTRY 3073 (.int 0x80030000000005) && (salvo SALVO_STATE.loaded [1, 2]).admits 4 o4010_SALVO_CMD 3 (.int SALVO_CMD.clear),
    (salvo SALVO_STATE.loaded [0x80020007]).powered && (salvo SALVO_STATE.loaded [0x80020007]).admits 4 o4010_SALVO_CMD 3 (.int SALVO_CMD.take) && (salvo SALVO_STATE.loaded [0x80020007]).rd o4010_SALVO_ANCHOR_FCNT 3 == 0,
    (((salvo SALVO_STATE.loaded [0x80020007]).begin 0).checkItems ⟨4, 31, none⟩ ((salvo SALVO_STATE.loaded [0x80020007]).begin 0).routeFrame [] ((salvo SALVO_STATE.loaded [0x80020007]).salvoItems 3) 0).isNone,
    (((salvo SALVO_STATE.loaded [0x4000000000000000]).begin 0).checkItems ⟨4, 31, none⟩ (base.begin 0).routeFrame [] ((salvo SALVO_STATE.loaded [0x4000000000000000]).salvoItems 3) 0).isSome,
    does (.salvoLength 0 4 3 0) (salvo SALVO_STATE.loaded [1]) (fun u => okd u && u.salvoState 3 == SALVO_STATE.empty),
    does (.salvoLength 0 4 3 1) (salvo SALVO_STATE.empty []) (fun u => okd u && u.salvoState 3 == SALVO_STATE.loaded),
    does (.salvoEntry 0 4 o4011_SALVO_ENTRY 3073 0x80030000000005) (salvo SALVO_STATE.refused [1, 2]) (fun u => okd u && u.salvoState 3 == SALVO_STATE.loaded && u.rd o4011_SALVO_ENTRY 3073 == 5),
    does (.salvoClear 0 4 3) (salvo SALVO_STATE.loaded [1, 2]) (fun u => okd u && u.salvoState 3 == SALVO_STATE.empty),
    (salvo SALVO_STATE.loaded [0x80020007]).salvoItems 3 == [salvoItem 0x80020007],
    does (.salvoTake 0 4 3) (salvo SALVO_STATE.loaded [0x80020007]) (fun u => okd u && u.salvoState 3 == SALVO_STATE.pending && u.rd o4002_PENDING_SOURCE 2 == 7)] = true := by
  decide +kernel


/-- A task of class 4 as SVC's session wrote it, and one in the table. -/
def task : Task := { kind := TASK_KIND_READ.notify, byTime := true, port := 4, session := 7, roles := 31, part := none, value := [1#8], order := 1 }
def written : State := { (base.put [(o4201_KEY_TYPE, 4, KEY_TYPE.time), (o4201_TASK_KIND, 4, TASK_KIND.notify)]) with octs := [((o4201_VALUE, 4), [1#8])] }
def tabled (st : Int) (m : List (Nat × Nat × Int)) (x : Task) : State := { (written.put ([(o4202_TASK_STATE, 9, st), (o4202_TASK_HANDLE, 9, 4105), (o4201_CMD_HANDLE, 4, 4105)] ++ m)) with
    tlr := { tasks := [(9, x)] } }

/-- A table without a free row, its tasks another session's. -/
def fullTable : State := { written with tlr := { tasks := (List.range 4096).map (fun r => (r, { task with port := 3 })) } }

theorem wit_TasksLiveAndEnd : all [
    written.powered && written.ctxOf 4 == some ⟨4, 31, none⟩ && written.admits 4 o4201_TASK_CMD 0 (.int TASK_CMD.create),
    valueFits (written.taskWritten ⟨4, 31, none⟩).kind (written.taskWritten ⟨4, 31, none⟩).value,
    written.keyFits (written.taskWritten ⟨4, 31, none⟩),
    (written.taskWritten ⟨4, 31, none⟩).kind != TASK_KIND_READ.write,
    decide (written.tasksHeld 4 7 < written.rdN o4200_SESSION_TASK_LIMIT 0),
    written.freeRow == some 0,
    does (.taskCreate 0 4) written (fun u => okd u && u.taskState 0 == TASK_STATE.waiting && u.rd o4202_TASK_HANDLE 0 == 4096 && (storeGet 0 u.tlr.tasks).isSome),
    fullTable.powered && fullTable.admits 4 o4201_TASK_CMD 0 (.int TASK_CMD.create) && fullTable.keyFits (fullTable.taskWritten ⟨4, 31, none⟩) && decide (fullTable.tasksHeld 4 7 < fullTable.rdN o4200_SESSION_TASK_LIMIT 0),
    valueFits (fullTable.taskWritten ⟨4, 31, none⟩).kind (fullTable.taskWritten ⟨4, 31, none⟩).value,
    (tabled TASK_STATE.waiting [] task).powered && (tabled TASK_STATE.waiting [] task).rdN o4201_CMD_HANDLE 4 % 4096 == 9 && (tabled TASK_STATE.waiting [] task).admits 4 o4201_TASK_CMD 0 (.int TASK_CMD.cancel),
    does (.taskCancel 0 4) (tabled TASK_STATE.waiting [] task) (fun u => okd u && u.rd o4202_CANCEL_REQUESTED 9 == 1 && u.taskState 9 == TASK_STATE.waiting),
    (tabled TASK_STATE.ready [(o4202_CANCEL_REQUESTED, 9, 1)] task).powered && (tabled TASK_STATE.ready [(o4202_CANCEL_REQUESTED, 9, 1)] task).taskState 9 == TASK_STATE.ready,
    (tabled TASK_STATE.ready [] task).powered && (tabled TASK_STATE.ready [] task).workerFree 4 && (tabled TASK_STATE.ready [] task).readyHead 4 == some (9, task),
    (tabled TASK_STATE.ready [] task).isStandby == false && ((tabled TASK_STATE.ready [] task).port 4).session == some sess,
    (tabled TASK_STATE.dispatched [] { task with dispatchedAt := 3 }).powered && (tabled TASK_STATE.dispatched [] { task with dispatchedAt := 3 }).taskState 9 == TASK_STATE.dispatched && task.service == 5000] = true := by
  decide +kernel


/-! Chapters 10 to 13. -/

/-- Four CTUs in rows of two, two tiers of 1,000 and 400 clocks, 2,000 clocks and 40 bytes in all. -/
def env4 : CodeEnv :=
  { frame := 2000, budget := 500, slack := 100, tiers := [⟨64, 32, 3, 4, 0, 0, 1000⟩, ⟨16, 8, 1, 2, 2, 0, 400⟩], ctus := 4, cols := 2, share := 40, qp := 30, minQp := 10,
    maxQp := 51, cbr := false, target100 := 4000, den := 1, total := 4, missed := [] }
def ctu4 : Ctu := { clocks := [900, 350], bits := 90, least := 20, floorBits := 40, floorClocks := 300 }

theorem wit_GuardsKeepTheBudgets : all [
    env4.missed == [] && decide (env4.ctus * env4.ceiling env4.last ≤ env4.frame),
    decide (64 * env4.ctus ≤ 8 * env4.share),
    decide (env4.tiers.length ≤ 8),
    decide ((env4.rect [ctu4, ctu4, ctu4, ctu4]).spent ≤ 2000 ∧ (env4.rect [ctu4, ctu4, ctu4, ctu4]).bits ≤ 320) && (env4.rect [ctu4, ctu4, ctu4, ctu4]).perTier.sum == 4,
    (env4.rect [ctu4, ctu4, ctu4, ctu4]).floor != 0] = true := by
  decide +kernel

/-- Mint channel 2 with one picture read, due at 5. -/
def plan2 : PlanMint := { ch := 2, dom := 0, fmt := 0x28, first := 0, datagrams := 4000, slices := 9000000 }
def minting : State := { (planned { mints := [plan2] }) with enc := { chans := [(2, { dues := [(5, 600), (6, 900)], pics := [{ fcnt := 8, rap := true, override := 0, rc := [30, 10, 51, 90], plan := plan2, ladder := ⟨2, 0, 0, 0, 0, []⟩ }] })] } }

theorem wit_AccessUnitsFitTheirSlots : all [
    (minting.mintPlan 2).isSome,
    minting.powered && (minting.mint 2).dues == [(5, 600), (6, 900)],
    (takePic (plan2.mode == 2) (minting.mint 2).ahead (minting.mint 2).pics).isSome,
    decide (2048 ≤ auMaxBytes plan2),
    (rectCtus plan2.fmt plan2.codec).all (fun n => decide (8 * n ≤ shareBytes plan2 n))] = true := by
  decide +kernel

theorem wit_EncoderWritesWaitForAPicture : all [
    base.powered && base.admits 4 o5001_INPUT_OVERRIDE 2 (.int INPUT_OVERRIDE.none) && base.admits 4 o5001_INPUT_OVERRIDE 2 (.int 1),
    does (.inputOverride 0 4 2 1) base (fun u => okd u && (u.mint 2).overrideNew && u.instActive .ENC_OVERRIDE 2),
    does (.inputOverride 0 4 2 INPUT_OVERRIDE.none) base (fun u => okd u && !u.instActive .ENC_OVERRIDE 2),
    base.admits 4 o5100_RAP_REQUEST 2 (.int RAP_REQUEST.idr),
    does (.rapRequest 0 4 2) base (fun u => okd u && (u.mint 2).rapNew),
    base.admits 4 o5100_BASE_QP 2 (.int 30) && decide (base.rd o5100_MIN_QP 2 ≤ base.rd o5100_MAX_QP 2),
    does (.rcParameterWrite 0 4 o5100_BASE_QP 2 30) base (fun u => okd u && u.rd o5100_BASE_QP 2 == 30),
    (base.put [(o5100_MAX_QP, 2, 39)]).admits 4 o5100_MIN_QP 2 (.int 40) && (base.put [(o5100_MAX_QP, 2, 39)]).powered,
    does (.rcParameterWrite 0 4 o5100_MIN_QP 2 40) (base.put [(o5100_MAX_QP, 2, 39)]) (answered 0x1102),
    does (.rcParameterWrite 0 4 o5100_MIN_QP 2 39) (base.put [(o5100_MAX_QP, 2, 39)]) okd,
    (base.put [(o5000_ENC_CODEC, 2, ENC_CODEC.hevc)]).admits 4 o5100_MAX_QP 2 (.int 52) && (base.put [(o5000_ENC_CODEC, 2, ENC_CODEC.hevc)]).powered,
    does (.rcParameterWrite 0 4 o5100_MAX_QP 2 52) (base.put [(o5000_ENC_CODEC, 2, ENC_CODEC.hevc)]) (answered stRANGE),
    does (.rcParameterWrite 0 4 o5100_RC_TARGET_FILL 2 80) (base.put [(o5000_ENC_CODEC, 2, ENC_CODEC.hevc)]) okd] = true := by
  decide +kernel


/-- Compositor 1 with one fabric layer, in group 0; commits of it. -/
def comp1 (m : List (Nat × Nat × Int)) (l : List Commit) : State :=
  { ((planned { comps := [{ c := 1, dom := 0, fmt := 0x28, layers := [{ kind := 1 }] }] }).put m) with cmp := { comps := [(1, { pend := l })] } }
def commit1 (x : PlateNeed) : Commit := { seq := 4, fcnt := 1, vals := [], bg := none, plate := x }

theorem wit_CommitsAreCheckedAndQueued : all [
    (comp1 [] []).powered && (comp1 [] []).ctxOf 4 == some ⟨4, 31, none⟩ && ((comp1 [] []).begin 5).compsPlanned.length == 1,
    ((comp1 [] []).begin 5).compsPlanned.filter ((comp1 [] []).begin 5).latchDue == [],
    (comp1 [] []).admits 4 o6000_COMMIT 1 (.int 256) && (((comp1 [] []).begin 5).checkCommit true 1 256).commit.isSome && hasRole 31 roleSEAL,
    does (.commit 5 4 1 256) (comp1 [] []) (fun u => okd u && u.rd o6000_COMMIT_SEQ 1 == 1 && (u.comp 1).pend.length == 1),
    (comp1 [] []).admits 4 o6000_COMMIT 1 (.int 2) && (((comp1 [] []).begin 5).checkCommit true 1 2).commit.isNone,
    does (.commit 5 4 1 2) (comp1 [] []) (fun u => u.last.status != 0 && u.rd o6000_COMMIT_RESULT 1 == u.last.status),
    (comp1 [(o6000_COMP_STATE, 1, COMP_STATE.gang_second)] []).powered && (comp1 [(o6000_COMP_STATE, 1, COMP_STATE.gang_second)] []).admits 4 o6000_COMMIT_DISCARD 1 (.int 0),
    does (.commitDiscard 5 4 1) (comp1 [(o6000_COMP_STATE, 1, COMP_STATE.gang_second)] []) (answered 0x1208),
    (comp1 [] [commit1 .none, commit1 .building]).powered && (comp1 [] [commit1 .none, commit1 .building]).admits 4 o6000_COMMIT_DISCARD 1 (.int 0),
    ((comp1 [] [commit1 .none, commit1 .building]).begin 5).compsPlanned.filter ((comp1 [] [commit1 .none, commit1 .building]).begin 5).latchDue == [] && (comp1 [] []).rd o6000_COMP_STATE 1 != COMP_STATE.gang_second,
    does (.commitDiscard 5 4 1) (comp1 [] [commit1 .none, commit1 .building]) (fun u => okd u && (u.comp 1).pend == [commit1 .building]),
    (comp1 [] []).admits 4 o6001_GROUP_COMMIT 0 (.int 8) && (((comp1 [] []).begin 5).groupFault ⟨4, 31, none⟩ [3]).isSome,
    does (.groupCommit 5 4 8) (comp1 [] []) (fun u => u.last.status != 0 && u.rd o6001_GROUP_ERROR_COMP 0 == 3),
    (comp1 [(o6000_STAGED_MASK, 1, 256)] []).powered && (comp1 [(o6000_STAGED_MASK, 1, 256)] []).admits 4 o6001_GROUP_COMMIT 0 (.int 2) && (((comp1 [(o6000_STAGED_MASK, 1, 256)] []).begin 5).groupFault ⟨4, 31, none⟩ [1]).isNone,
    ((comp1 [(o6000_STAGED_MASK, 1, 256)] []).begin 5).compsPlanned.filter ((comp1 [(o6000_STAGED_MASK, 1, 256)] []).begin 5).latchDue == [],
    does (.groupCommit 5 4 2) (comp1 [(o6000_STAGED_MASK, 1, 256)] []) (fun u => okd u && u.rd o6001_GROUP_ERROR_COMP 0 == 255 && (u.comp 1).pend.map (·.seq) == [1] && u.rd o6000_COMMIT_SEQ 1 == 1),
    (comp1 [] [commit1 .queued]).powered && (comp1 [] [commit1 .queued]).groupCommits 0 == [(1, commit1 .queued)] && ((comp1 [] [commit1 .queued]).begin 5).compsPlanned.filter ((comp1 [] [commit1 .queued]).begin 5).latchDue == [],
    does (.plateBuildStart 5 0) (comp1 [] [commit1 .queued]) (fun u => (u.comp 1).pend == [commit1 .building]),
    (comp1 [] [commit1 .building]).powered && (comp1 [] [commit1 .building]).groupCommits 0 == [(1, commit1 .building)] && ((comp1 [] [commit1 .building]).begin 5).compsPlanned.filter ((comp1 [] [commit1 .building]).begin 5).latchDue == [],
    does (.plateBuildComplete 5 0) (comp1 [] [commit1 .building]) (fun u => (u.comp 1).pend == [commit1 .built]),
    keyOnly [{}, { enable := true, keyMode := KEY_MODE.linear, keyLayer := 0 }] { c := 1, dom := 0, fmt := 0x28, layers := [{ kind := 1 }, { kind := 2 }] } 0,
    meterReached 100 1000 0 == false && meterReached 1000 1000 0,
    meterReached 0 8388607 3000000000] = true := by
  decide +kernel

/-- Surface 5 of 2 x 1 pixels in a pool of 4,096 bytes. -/
def surface (m : List (Nat × Nat × Int)) (x : Surf) : State :=
  { (base.put ([(o6100_SURF_WIDTH, 5, 2), (o6100_SURF_HEIGHT, 5, 1), (o6101_POOL_BYTES, 0, 4096), (o6101_POOL_FREE, 0, 4096)] ++ m)) with cmp := { surfs := [(5, x)] } }
def surfAt (st : Int) (x : Surf) : State := surface [(o6100_SURF_STATE, 5, st)] x
def filled : Surf := { bytes := (List.range 8).map (fun i => (i, 1#8)) }

theorem wit_SurfacesLoadAndRetire : all [
    (surface [] {}).powered && ((surface [] {}).begin 5).compsPlanned == [] && (surface [] {}).ctxOf 4 == some ⟨4, 31, none⟩,
    (surface [] {}).surfBytes 5 == 8 && (surface [] {}).surfShapeOk 5 && (surface [] {}).rd o6100_SURF_STATE 5 == SURF_STATE.free && (surface [] {}).rdN o6101_POOL_BYTES 0 == 4096 && (surface [] {}).rdN o6101_POOL_FREE 0 == 4096,
    [SURF_CMD.create, SURF_CMD.close, SURF_CMD.open, SURF_CMD.retire, SURF_CMD.force_retire].all (fun v => (surface [] {}).admits 4 o6100_SURF_CMD 5 (.int v) && (surfAt SURF_STATE.ready filled).admits 4 o6100_SURF_CMD 5 (.int v)),
    does (.surfCreate 5 4 5) (surface [] {}) (fun u => okd u && u.rd o6100_SURF_STATE 5 == SURF_STATE.loading && u.surf 5 == { held := 8 }),
    (surface [(o6101_POOL_FREE, 0, 7)] {}).powered && (surface [(o6101_POOL_FREE, 0, 7)] {}).admits 4 o6100_SURF_CMD 5 (.int SURF_CMD.create) && (surface [(o6101_POOL_FREE, 0, 7)] {}).surfShapeOk 5,
    does (.surfCreate 5 4 5) (surface [(o6101_POOL_FREE, 0, 7)] {}) (fun u => answered 0x1301 u && u.rd o6100_SURF_RESULT 5 == 0x1301),
    (surfAt SURF_STATE.loading {}).powered && (surfAt SURF_STATE.loading {}).admits 4 o6100_SURF_XFER_DATA 5 (.bytes [1#8, 2#8]) && (surfAt SURF_STATE.loading {}).admits 4 o6100_SURF_CMD 5 (.int SURF_CMD.close),
    does (.surfXferData 5 4 5 [1#8, 2#8]) (surface [(o6100_SURF_STATE, 5, SURF_STATE.loading), (o6100_SURF_XFER_OFFSET, 5, 6)] {}) (fun u => okd u && u.rdN o6100_SURF_XFER_OFFSET 5 == 8 && storeGet 7 (u.surf 5).bytes == some 2#8),
    does (.surfXferData 5 4 5 [1#8, 2#8]) (surface [(o6100_SURF_STATE, 5, SURF_STATE.loading), (o6100_SURF_XFER_OFFSET, 5, 7)] {}) (answered stRANGE),
    does (.surfClose 5 4 5) (surfAt SURF_STATE.loading {}) (fun u => okd u && u.rd o6100_SURF_STATE 5 == SURF_STATE.checking),
    (surfAt SURF_STATE.checking filled).powered && (surfAt SURF_STATE.checking filled).rdN o6100_SURF_CRC32C 5 != crc32c (filled.bytes.map (·.2)),
    does (.surfCheckDone 5 5 []) (surfAt SURF_STATE.checking filled) (fun u => u.rd o6100_SURF_STATE 5 == SURF_STATE.rejected && u.rd o6100_SURF_RESULT 5 == 0x1304),
    (surface [(o6100_SURF_STATE, 5, SURF_STATE.checking), (o6100_SURF_CRC32C, 5, crc32c (filled.bytes.map (·.2)))] filled).powered && filled.bytes.length == 8,
    does (.surfCheckDone 5 5 []) (surface [(o6100_SURF_STATE, 5, SURF_STATE.checking), (o6100_SURF_CRC32C, 5, crc32c (filled.bytes.map (·.2)))] filled) (fun u => u.rd o6100_SURF_STATE 5 == SURF_STATE.ready),
    (surfAt SURF_STATE.ready filled).powered && (surfAt SURF_STATE.rejected filled).powered && !((surfAt SURF_STATE.ready filled).surf 5).freeing && (surfAt SURF_STATE.rejected filled).admits 4 o6100_SURF_CMD 5 (.int SURF_CMD.retire),
    does (.surfOpen 5 4 5) (surfAt SURF_STATE.ready filled) (fun u => okd u && u.rd o6100_SURF_STATE 5 == SURF_STATE.loading && (u.surf 5).bytes == []),
    does (.surfRetire 5 4 5) (surfAt SURF_STATE.rejected filled) (fun u => okd u && u.rd o6100_SURF_STATE 5 == SURF_STATE.free),
    does (.surfRetire 5 4 5) (surfAt SURF_STATE.ready filled) (fun u => okd u && u.rd o6100_SURF_STATE 5 == SURF_STATE.ready && (u.surf 5).freeing),
    reaches 31 true,
    does (.surfForceRetire 5 4 5) (surfAt SURF_STATE.ready filled) (fun u => okd u && (u.surf 5).freeing && u.rd o6100_REFERENCES 5 == 0)] = true := by
  decide +kernel

theorem wit_ShownSurfacesAreNotWritten : all [
    [SURF_STATE.in_use, SURF_STATE.escrow].all (fun v => (surfAt v filled).powered && (surfAt v filled).admits 4 o6100_SURF_XFER_DATA 5 (.bytes [1#8]) && (surfAt v filled).admits 4 o6100_SURF_CMD 5 (.int SURF_CMD.open) && ((surfAt v filled).begin 5).compsPlanned == []),
    does (.surfXferData 5 4 5 [1#8]) (surfAt SURF_STATE.in_use filled) (fun u => answered 0x1302 u && u.surf 5 == filled),
    does (.surfOpen 5 4 5) (surfAt SURF_STATE.escrow filled) (fun u => answered 0x1302 u && u.surf 5 == filled)] = true := by
  decide +kernel

/-- Head 0 in domain 0, and monitor row 0. -/
def head0 (m : List (Nat × Nat × Int)) : State := (planned { heads := [{ v := 0, dom := 0, fmt := 0x28, outs := [0x8000], tiles := [{ t := 0 }] }], endpoints := [{ ep := 0xC000, dom := 0, fmt := 0x28 }] }).put m

theorem wit_LimitsRaiseTheirAlarms : all [
    (head0 []).powered && base.powered && ((head0 []).begin 5).latchHeads == (head0 []).begin 5 && (base.begin 5).latchHeads == base.begin 5 && (base.begin 5).compsPlanned == [],
    ((head0 []).begin 5).compsPlanned.filter ((head0 []).begin 5).latchDue == [],
    (head0 []).admits 4 o6220_HEAD_COMMIT 0 (.int HEAD_COMMIT.commit),
    (((head0 []).begin 5).checkHead 0).2.2.isSome,
    does (.headCommit 5 4 0) (head0 []) (fun u => okd u && (u.head 0).pend.length == 1),
    base.admits 4 o6220_HEAD_COMMIT 0 (.int HEAD_COMMIT.commit) && (base.begin 5).checkHead 0 != (0, 255, none) && ((base.begin 5).checkHead 0).2.2.isNone,
    does (.headCommit 5 4 0) base (fun u => u.last.status != 0 && u.rd o6220_HEAD_RESULT 0 == u.last.status),
    runReached 8 1000 1 && !runReached 8 0 1000,
    does (.monFreezeLimit 5 0) (base.put [(o4002_DEST_DOMAIN, 0, 0), (o6210_MON_STATE, 0, MON_STATE.frozen), (o6210_FREEZE_RUN_FRAMES, 0, 1000000)]) (fun u => u.instActive .MON_FREEZE 0 && u.rd o6210_FREEZE_EVENTS 0 == 1),
    does (.monFreezeLimit 5 0) (base.put [(o4002_DEST_DOMAIN, 0, 0), (o6210_MON_STATE, 0, MON_STATE.frozen)]) (fun u => !u.instActive .MON_FREEZE 0),
    does (.monBlackLimit 5 0) (base.put [(o4002_DEST_DOMAIN, 0, 0), (o6210_MON_STATE, 0, MON_STATE.black), (o6210_BLACK_RUN_FRAMES, 0, 1000000)]) (fun u => u.instActive .MON_BLACK 0 && u.rd o6210_BLACK_EVENTS 0 == 1),
    does (.monBlackLimit 5 0) (base.put [(o4002_DEST_DOMAIN, 0, 0), (o6210_MON_STATE, 0, MON_STATE.black)]) (fun u => !u.instActive .MON_BLACK 0),
    (base.put [(o6210_MON_STATE, 0, MON_STATE.frozen), (o6210_FREEZE_RUN_FRAMES, 0, 1000000)]).powered && (base.put [(o6000_SEALED_LAYER, 1, 2), (o6004_SEAL_LIMIT, 1, 3)]).powered,
    does (.sealExcusedLimit 5 1) { (base.put [(o6000_SEALED_LAYER, 1, 2), (o6004_SEAL_LIMIT, 1, 3)]) with cmp := { comps := [(1, { excused := 3 })] } } (fun u => u.instActive .COMP_SEAL_MISMATCH 1),
    does (.sealExcusedLimit 5 1) { (base.put [(o6000_SEALED_LAYER, 1, 2), (o6004_SEAL_LIMIT, 1, 3)]) with cmp := { comps := [(1, { excused := 2 })] } } (fun u => !u.instActive .COMP_SEAL_MISMATCH 1),
    does (.sealNotReadyLimit 5 1) (base.put [(o6000_SEALED_LAYER, 1, 2), (o6004_SEAL_LIMIT, 1, 3), (o6003_CONSECUTIVE_NOT_READY, layerRow 1 2, 3)]) (fun u => u.instActive .COMP_SEAL_NOT_READY 1),
    does (.sealNotReadyLimit 5 1) (base.put [(o6000_SEALED_LAYER, 1, 2), (o6004_SEAL_LIMIT, 1, 3), (o6003_CONSECUTIVE_NOT_READY, layerRow 1 2, 2)]) (fun u => !u.instActive .COMP_SEAL_NOT_READY 1)] = true := by
  decide +kernel

/-- Memory integrity with something set. -/
def itg (x : Itg) : State := { base with itg := x }

theorem wit_StoredWordsAreKeptWhole : all [
    (itg { backs := [(2, [⟨64, false⟩])], words := [(64, { data := 1 })] }).powered && (itg { backs := [(2, [⟨64, false⟩])], words := [(64, { data := 1 })] }).backsOf 2 == [⟨64, false⟩],
    ((itg { backs := [(2, [⟨64, false⟩])], words := [(64, { data := 1 })] }).setBacks 2 []).backPending 64 == false,
    (itg { backs := [(2, [⟨64, true⟩])] }).powered && (itg { backs := [(2, [⟨64, true⟩])] }).backsOf 2 == [⟨64, true⟩],
    does (.writeback 5 2) (itg { backs := [(2, [⟨64, false⟩])], words := [(64, { data := 1 })] }) (fun u => u.wordErr 64 == {} && u.backsOf 2 == []),
    does (.writeback 5 2) (itg { backs := [(2, [⟨64, true⟩])] }) (fun u => (u.wordErr 64).poison && u.rd o7000_POISON_WRITTEN 0 == 1),
    base.powered && base.rd o7001_AUDITOR_MODE 0 != AUDITOR_MODE.off && base.rdN o7001_HBM_POSITION 0 == 0,
    verdict false false ((base.flip { addr := 0, data := 5 }).wordErr 0) == .corrected,
    does (.auditorWord 5 false { addr := 0, data := 5 } []) base (fun u => u.rd o7000_HBM_CORRECTED 0 == 1 && u.rdN o7001_HBM_POSITION 0 == 32),
    verdict false false ((base.flip { addr := 0, data := 257 }).wordErr 0) == .uncorrectable && !base.backPending 0,
    does (.auditorWord 5 false { addr := 0, data := 257 } []) base (fun u => u.rd o7000_HBM_UNCORRECTABLE 0 == 1 && u.rd o7009_ERR_KIND 0 == ERR_KIND.uncorrectable),
    (base.put [(o7001_AUDITOR_MODE, 0, AUDITOR_MODE.off)]).powered && (base.put [(o7001_AUDITOR_MODE, 0, AUDITOR_MODE.off)]).rd o7001_AUDITOR_MODE 0 == AUDITOR_MODE.off,
    vote [some 1, some 1, some 1] == .agree && vote [some 1, some 2, some 1] == .rewritten && vote [some 1, none, some 2] == .lost,
    does (.auditorWord 5 false { addr := 0 } [(3, [some 1, some 1, some 1])]) (base.put [(o7001_AUDITOR_MODE, 0, AUDITOR_MODE.off)]) (fun u => u.rd o7006_TMR_CORRECTIONS 0 == 0),
    does (.auditorWord 5 false { addr := 0 } [(3, [some 1, some 2, some 1])]) (base.put [(o7001_AUDITOR_MODE, 0, AUDITOR_MODE.off)]) (fun u => u.rd o7006_TMR_CORRECTIONS 0 == 1),
    does (.auditorWord 5 false { addr := 0 } [(3, [some 1, none, some 2])]) (base.put [(o7001_AUDITOR_MODE, 0, AUDITOR_MODE.off)]) (fun u => u.rd o7006_TMR_WORDS_LOST 0 == 1),
    (itg { rows := [(1, [{ addr := stackBytes }])] }).powered && (itg { rows := [(1, [{ addr := stackBytes }])] }).rowsOf 1 == [{ addr := stackBytes }],
    does (.rowCopyStart 5 1) (itg { rows := [(1, [{ addr := stackBytes }])] }) (fun u => u.rowsOf 1 == [{ addr := stackBytes, started := true }]),
    (itg { rows := [(1, [{ addr := stackBytes, started := true }])] }).powered && (itg { rows := [(1, [{ addr := stackBytes, started := true }])] }).rowsOf 1 == [{ addr := stackBytes, started := true }],
    does (.rowCopyComplete 5 1 []) (itg { rows := [(1, [{ addr := stackBytes, started := true }])] }) (fun u => u.rowsOf 1 == [])] = true := by
  decide +kernel

def owned1 : State :=
  { planned {} with led := { (planned {}).led with banks := [(0, { owners := [{ base := 0, granules := 1, cls := 1, dom := 0, id := 5 }] })] } }

theorem wit_DiagnosisActsOnMemory : all [
    base.powered && owned1.powered && (base.put [(o7008_INJECT_ADDR, 0, 64), (o7008_INJECT_CHECK_MASK, 0, 1)]).admits 4 o7008_INJECT_CMD 0 (.int INJECT_CMD.inject) && owned1.admits 4 o7008_INJECT_CMD 0 (.int INJECT_CMD.inject),
    base.activeBank == none && owned1.activeBank == some 0 && owned1.activeClass 0 == 1,
    does (.injectCmd 5 4) (base.put [(o7008_INJECT_ADDR, 0, 64), (o7008_INJECT_CHECK_MASK, 0, 1)]) (fun u => okd u && u.wordErr 64 == { check := 1 }),
    does (.injectCmd 5 4) owned1 (fun u => answered 0x1701 u && u.rd o7008_INJECT_RESULT 0 == 0x1701),
    base.admits 4 o7001_AUDITOR_MODE 0 (.int AUDITOR_MODE.off),
    does (.auditorMode 5 4 AUDITOR_MODE.off) base (fun u => okd u && u.instActive .MEM_AUDITOR_OFF noInst && u.rd o7001_AUDITOR_STATE 0 == AUDITOR_STATE.off),
    (itg { granules := [⟨1, 0, true⟩] }).powered && (itg { granules := [⟨1, 0, true⟩] }).itg.granules.find? (fun y => y.bank == 1 && y.granule == 0 && y.reloading) == some ⟨1, 0, true⟩,
    crc32c [] == crc32c (slice 0 4096 (base.bank 1).raw),
    crc32c [1#8] != crc32c (slice 0 4096 (base.bank 1).raw),
    does (.granuleReload 5 1 0 []) (itg { granules := [⟨1, 0, true⟩] }) (fun u => u.itg.granules == [] && !u.instActive .MEM_LEDGER_POISON 1),
    does (.granuleReload 5 1 0 [1#8]) (itg { granules := [⟨1, 0, true⟩] }) (fun u => u.itg.granules == [⟨1, 0, false⟩])] = true := by
  decide +kernel

/-- Channel 9 claimed by the session of port 4. -/
def tally (x : Itg) (m : List (Nat × Nat × Int)) : State :=
  (itg { x with claims := [(9, 4)] }).put ([(o7100_TALLY_USE, 9, TALLY_USE.claimed), (o7100_TALLY_CLAIM, 9, 1)] ++ m)

theorem wit_TallyChannelsCompute : all [
    (base.put [(o7100_TALLY_USE, 9, TALLY_USE.free)]).admits 4 o7100_TALLY_CLAIM 9 (.int 1) && !base.claimedBy ⟨4, 31, none⟩ 9,
    (base.put [(o7100_TALLY_USE, 9, TALLY_USE.free)]).powered && (base.put [(o7100_TALLY_USE, 9, TALLY_USE.free)]).rd o7100_TALLY_USE 9 == TALLY_USE.free && (base.put [(o7100_TALLY_USE, 9, TALLY_USE.sealed)]).admits 4 o7100_TALLY_CLAIM 9 (.int 1),
    does (.tallyClaim 5 4 9 true) (base.put [(o7100_TALLY_USE, 9, TALLY_USE.free)]) (fun u => okd u && u.claimedBy ⟨4, 31, none⟩ 9),
    does (.tallyClaim 5 4 9 true) (base.put [(o7100_TALLY_USE, 9, TALLY_USE.sealed)]) (answered 0x1711),
    (tally {} []).powered && (tally {} []).admits 4 o7100_TALLY_CLAIM 9 (.int 0) && (tally {} []).claimedBy ⟨4, 31, none⟩ 9,
    does (.tallyClaim 5 4 9 false) (tally {} []) (fun u => okd u && !u.claimedBy ⟨4, 31, none⟩ 9 && u.rd o7100_TALLY_USE 9 == TALLY_USE.free),
    (tally {} []).admits 4 o7100_FEED_DATA 9 (.bytes [1#8]) && base.admits 4 o7100_FEED_DATA 9 (.bytes [1#8]) && (tally {} [(o7100_FEED_WIDTH, 9, FEED_WIDTH.halfword)]).admits 4 o7100_FEED_DATA 9 (.bytes [1#8]),
    (tally {} []).rd o7100_POLY_SELECT 9 != POLY_SELECT.st292 && (tally {} [(o7100_FEED_WIDTH, 9, FEED_WIDTH.halfword)]).feedBytes 9 == 2,
    does (.feedData 5 4 9 [1#8]) base (answered 0x1711),
    (tally {} []).feedBytes 9 == 1 && (tally {} []).tallyState 9 != TALLY_STATE.running,
    does (.feedData 5 4 9 [1#8]) (tally {} [(o7100_FEED_WIDTH, 9, FEED_WIDTH.halfword)]) (answered 0x1712),
    does (.feedData 5 4 9 [1#8]) (tally {} []) (fun u => okd u && u.rd o7100_BYTES_FED 9 == 1),
    (tally {} []).admits 4 o7100_TALLY_CMD 9 (.int TALLY_CMD.reset) && (tally {} []).admits 4 o7100_TALLY_CMD 9 (.int TALLY_CMD.close) && (tally {} []).admits 4 o7100_TALLY_CMD 9 (.int TALLY_CMD.run),
    does (.tallyReset 5 4 9) (tally {} [(o7100_BYTES_FED, 9, 4)]) (fun u => okd u && u.rd o7100_BYTES_FED 9 == 0 && u.tallyState 9 == TALLY_STATE.idle),
    does (.tallyClose 5 4 9) (tally {} []) (fun u => okd u && u.tallyState 9 == TALLY_STATE.closed),
    does (.tallyClose 5 4 9) (tally {} [(o7100_FOLD_MODE, 9, FOLD_MODE.sequence), (o7100_FOLD_STEP, 9, 3)]) (fun u => okd u && u.rd o7100_FOLD_VALUE 9 == 3),
    does (.tallyClose 5 4 9) (tally {} [(o7100_FOLD_MODE, 9, FOLD_MODE.address), (o7100_BYTES_FED, 9, 7)]) (fun u => okd u && u.rd o7100_FOLD_VALUE 9 == 7),
    (tally {} [(o7100_SRC_ADDR, 9, 64), (o7100_SRC_LENGTH, 9, 2)]).admits 4 o7100_TALLY_CMD 9 (.int TALLY_CMD.run) && (tally {} [(o7100_SRC_ADDR, 9, 2 ^ 40), (o7100_SRC_LENGTH, 9, 2)]).ownsRange ⟨4, 31, none⟩ (2 ^ 40) 2 == false,
    (tally {} []).ctxOf 4 == some ⟨4, 31, none⟩ && (tally {} []).ownsRange ⟨4, 31, none⟩ 64 2,
    does (.tallyRun 5 4 9) (tally {} [(o7100_SRC_ADDR, 9, 64), (o7100_SRC_LENGTH, 9, 2)]) (fun u => okd u && u.tallyState 9 == TALLY_STATE.running),
    does (.tallyRun 5 4 9) (tally {} [(o7100_SRC_ADDR, 9, 2 ^ 40), (o7100_SRC_LENGTH, 9, 2)]) (answered 0x1714),
    (tally { runs := [(9, ⟨64, 2, 1⟩)] } []).powered && storeGet 9 (tally { runs := [(9, ⟨64, 2, 1⟩)] } []).itg.runs == some ⟨64, 2, 1⟩,
    does (.tallyRunComplete 5 9 []) (tally { runs := [(9, ⟨64, 2, 1⟩)] } []) (fun u => u.tallyState 9 == TALLY_STATE.feeding && u.rd o7100_BYTES_FED 9 == 2)] = true := by
  decide +kernel

def tallyNew (p : Int) : State := tally {} [(o7100_POLY_SELECT, 9, p), (o7100_RUNNING, 9, if p = POLY_SELECT.crc16_ccitt then 0xFFFF else 0xFFFFFFFF)]

theorem wit_CheckValuesComeOut : all [
    [POLY_SELECT.crc32, POLY_SELECT.crc32c, POLY_SELECT.crc16_ccitt].all (fun p => (tallyNew p).rdN o7100_RUNNING 9 == ((tallyNew p).poly 9).init && (tallyNew p).tallyState 9 == TALLY_STATE.idle && (tallyNew p).rd o7100_FOLD_MODE 9 == FOLD_MODE.none && (tallyNew p).rd o7100_FEED_WIDTH 9 == FEED_WIDTH.byte),
    (tallyNew POLY_SELECT.crc32).powered && (tallyNew POLY_SELECT.crc32).claimedBy ⟨4, 31, none⟩ 9 && (tallyNew POLY_SELECT.crc32).admits 4 o7100_FEED_DATA 9 (.bytes (ascii "123456789")),
    does (.feedData 5 4 9 (ascii "123456789")) (tallyNew POLY_SELECT.crc32) (fun u => u.admits 4 o7100_TALLY_CMD 9 (.int TALLY_CMD.close) && does (.tallyClose 5 4 9) u (fun v => v.rdN o7100_RESULT 9 == 0xCBF43926)),
    does (.feedData 5 4 9 (ascii "123456789")) (tallyNew POLY_SELECT.crc32c) (fun u => does (.tallyClose 5 4 9) u (fun v => v.rdN o7100_RESULT 9 == 0xE3069283)),
    does (.feedData 5 4 9 (ascii "123456789")) (tallyNew POLY_SELECT.crc16_ccitt) (fun u => does (.tallyClose 5 4 9) u (fun v => v.rdN o7100_RESULT 9 == 0x29B1))] = true := by
  decide +kernel

/-- In 'starting', with the control ports answering. -/
def awake (s : State) : State := s.put [(o1401_START_STAGE, 0, START_STAGE.self_test)]
def helloMsg : Bytes := msgHeader 1 0 0 0 0 0 0
def loginBody : Bytes := zeros 4 ++ zeros 32 ++ loginProof (zeros 32) (zeros 32) (zeros 32) 4 9 10
def loginMsg : Bytes := msgHeader 3 0 0 0 68 0 0 ++ loginBody
/-- Port 4 with a challenge that it has sent. -/
def challenged : State :=
  { State.reset with ctl := { State.reset.ctl with ports := [(4, { challenges := [⟨zeros 32, 9, 10, 0⟩] })] } }.put [(o1101_SESSION_STATE, 4, SESSION_STATE.challenged)]
def signed (m : Bytes) : Bytes := m ++ msgMac sess.key 0#8 m
def logoutMsg : Bytes := signed (msgHeader 5 0 7 1 0 0 0)
def opBytes (op o r : Nat) (v : Bytes) : Bytes := leBytes 1 op ++ leBytes 1 (o % 256) ++ leBytes 2 (o / 256) ++ leBytes 4 r ++ leBytes 2 v.length ++ zeros 2 ++ pad4 v
def requestMsg : Bytes := signed (msgHeader 0x10 0 7 1 16 0 1 ++ opBytes 2 o1101_SESSION_IDLE_S 4 [100#8, 0#8])

theorem wit_HelloAndLoginOpenTheSession : all [
    (awake State.reset).powered && ((awake State.reset).begin 5).hears 4 1 helloMsg && ((awake State.reset).begin 5).rd o1101_SESSION_STATE 4 != SESSION_STATE.locked_out,
    does (.hello 5 4 9 10 helloMsg) (awake State.reset) (fun u => (u.port 4).challenges.length == 1 && u.out.length == 1),
    (awake challenged).powered && ((awake challenged).begin 5).rd o1101_SESSION_STATE 4 != SESSION_STATE.locked_out && ((awake challenged).begin 5).hears 4 3 loginMsg && fieldNat 12 2 loginMsg == 68,
    (challenged.port 4).session == none && (challenged.port 4).challenges.all (fun c => c.addr == 9 && c.udp == 10 && c.valid 5),
    fieldNat 0 1 (msgBody loginMsg) == 0 && challenged.keyBytes 0 == zeros 32 && msgBody loginMsg == loginBody && slice 36 32 loginBody == loginProof (zeros 32) (zeros 32) (zeros 32) 4 9 10,
    challenged.slotUsable 0 4] = true := by
  decide +kernel

theorem wit_SessionsEnd : all [
    (awake base).powered && ((awake base).begin 5).nextInSession 4 9 10 logoutMsg sess && fieldNat 1 1 logoutMsg == 5,
    does (.logout 5 4 9 10 logoutMsg) (awake base) (fun u => (u.port 4).session == none && u.rd o1101_LAST_END_REASON 4 == LAST_END_REASON.logout),
    base.powered && base.admits 4 o1101_SESSION_END_CMD 4 (.int 0) && (base.port 4).session == some sess,
    does (.sessionEndCmd 5 4 4) base (fun u => okd u && (u.port 4).session == none && u.rd o1101_LAST_END_REASON 4 == LAST_END_REASON.forced)] = true := by
  decide +kernel

/-- Objects that take their values without an operation of their own. -/
theorem wit_plain_handler : handlerOf o1101_SESSION_IDLE_S = storeVal o1101_SESSION_IDLE_S ∧ handlerOf o1101_AUTH_DISCARDS = clearRwc o1101_AUTH_DISCARDS := ⟨rfl, rfl⟩

theorem wit_RequestWritesAndResponds : all [
    (awake base).powered && ((awake base).begin 5).nextInSession 4 9 10 requestMsg sess && fieldNat 4 4 requestMsg == 7 && fieldNat 1 1 requestMsg == 0x10,
    msgOps requestMsg == some [⟨2, o1101_SESSION_IDLE_S, 4, [100#8, 0#8]⟩] && opRow o1101_SESSION_IDLE_S 4 == some (o1101_SESSION_IDLE_S, 4),
    wireVal o1101_SESSION_IDLE_S [100#8, 0#8] == some (.int 100) && !perSession o1101_SESSION_IDLE_S && (awake base).admits 4 o1101_SESSION_IDLE_S 4 (.int 100),
    does (.request 5 4 9 10 requestMsg) (awake base) (fun u => u.rd o1101_SESSION_IDLE_S 4 == 100 && u.out.length == 1)] = true := by
  decide +kernel

theorem wit_ObjectsAreDescribedAndWritten : all [
    (awake base).powered && laneCode o1101_SESSION_IDLE_S 4 == (o1101_SESSION_IDLE_S, 4) && (awake base).talks 4 && (findObj o1101_SESSION_IDLE_S).isSome && rowExists o1101_SESSION_IDLE_S 4 && (awake base).served o1101_SESSION_IDLE_S false,
    does (.describe 5 4 o1101_SESSION_IDLE_S 4) (awake base) (fun u => u.last.status == 0 && u.last.value.isSome),
    base.powered && laneCode (o3000_LANE_MODE + 17 * 256) 0xFFFFFFFF == (o3000_LANE_MODE, 17) && base.admits 4 o1101_SESSION_IDLE_S 4 (.int 100),
    does (.objectWrite 5 4 o1101_SESSION_IDLE_S 4 [100#8, 0#8]) base (fun u => okd u && u.rd o1101_SESSION_IDLE_S 4 == 100),
    base.admits 4 o1101_AUTH_DISCARDS 4 (.int 0) && wireVal o1101_AUTH_DISCARDS (zeros 8) == some (.int 0),
    does (.objectWrite 5 4 o1101_AUTH_DISCARDS 4 (zeros 8)) (base.put [(o1101_AUTH_DISCARDS, 4, 3)]) (fun u => okd u && u.rd o1101_AUTH_DISCARDS 4 == 0),
    base.ctl.endAfter == [] && laneCode 0x999901 0 == (0x999901, 0) && laneCode o1000_FW_RELEASE_NUM 0 == (o1000_FW_RELEASE_NUM, 0) && base.checkWrite (base.ctxOf 4) 0x999901 0 none == 2 && base.checkWrite (base.ctxOf 4) o1000_FW_RELEASE_NUM 0 none == 5 && base.checkWrite (base.ctxOf 3) o1101_SESSION_IDLE_S 4 (some (.int 100)) == 10,
    does (.objectWrite 5 4 o1000_FW_RELEASE_NUM 0 [1#8]) base (answered 5)] = true := by
  decide +kernel

/-- A source on lane 0 and an output of domain 0, in one bank. -/
def routed : State :=
  (planned { endpoints := [{ ep := 0, dom := 0, fmt := 0x28 }, { ep := 0x8000, dom := 0, fmt := 0x28 }] }).put [(o1005_QUERY_SOURCE, 4, 0), (o1005_QUERY_DEST, 4, 0x8000)]

theorem wit_PathLatencyIsEvaluated : all [
    base.powered && routed.powered && routed.mayRead 4 o1005_PATH_STATUS 0 && routed.mayRead 4 o1005_PATH_LATENCY_NS 0 && base.mayRead 4 o1005_PATH_STATUS 0 && base.mayRead 4 o1005_PATH_LATENCY_NS 0,
    planEp base.activePlan (streamInput (base.rdN o1005_QUERY_DEST 4)) == none,
    (planEp (routed.put [(o1005_QUERY_SOURCE, 4, 9)]).activePlan 9) == none && isGenerator 9 == false && routed.flowFeed 0 == none,
    does (.pathLatencyQuery 5 4 o1005_PATH_LATENCY_NS) (routed.put [(o1005_QUERY_SOURCE, 4, 9)]) (fun u => u.last == ⟨0, some (.int 0)⟩),
    does (.pathLatencyQuery 5 4 o1005_PATH_STATUS) base (fun u => u.last == ⟨0, some (.int PATH_STATUS.no_path)⟩),
    ((planEp routed.activePlan 0x8000).map (·.ep)) == some 0x8000 && ((planEp routed.activePlan 0).map (fun e => (e.ep, e.align))) == some (0, 0),
    (match routePath routed.activePlan 0x8000 0 with | .ok p => p == ROUTE_PATH.direct | .error _ => false),
    does (.pathLatencyQuery 5 4 o1005_PATH_STATUS) routed (fun u => u.last == ⟨0, some (.int PATH_STATUS.valid)⟩),
    does (.pathLatencyQuery 5 4 o1005_PATH_LATENCY_NS) routed (fun u => match u.last.value with | some (.int v) => decide (0 < v) | _ => false)] = true := by
  decide +kernel

/-- Port 2 with something set. -/
def port2 (p : Port) (m : List (Nat × Nat × Int)) : State := { base with ctl := { base.ctl with ports := [(2, p), (4, { session := some sess })] } }.put m

theorem wit_PortTimersRunOut : all [
    (port2 { challenges := [⟨zeros 32, 9, 10, 0⟩] } [(o1101_SESSION_STATE, 2, SESSION_STATE.challenged)]).powered && (port2 {} [(o1101_SESSION_STATE, 2, SESSION_STATE.challenged)]).rd o1101_SESSION_STATE 2 == SESSION_STATE.challenged,
    does (.challengeExpiry 10000000000 2) (port2 { challenges := [⟨zeros 32, 9, 10, 0⟩] } [(o1101_SESSION_STATE, 2, SESSION_STATE.challenged)]) (fun u => (u.port 2).challenges == [] && u.rd o1101_SESSION_STATE 2 == SESSION_STATE.closed),
    ((port2 { session := some sess } []).port 2).session == some sess && sess.lastAuth + (port2 { session := some sess } []).rdN o1101_SESSION_IDLE_S 2 * 1000000000 == 60000000000,
    does (.sessionIdleTimeout 60000000000 2) (port2 { session := some sess } []) (fun u => (u.port 2).session == none && u.rd o1101_LAST_END_REASON 2 == LAST_END_REASON.idle),
    does (.sessionIdleTimeout 59999999999 2) (port2 { session := some sess } []) (fun u => (u.port 2).session == some sess),
    does (.lockoutExpiry 7 2) (port2 { lockedUntil := some 7 } [(o1101_SESSION_STATE, 2, SESSION_STATE.locked_out)]) (fun u => u.rd o1101_SESSION_STATE 2 == SESSION_STATE.closed),
    does (.addressChangeEffect 7 2) (port2 { session := some sess, addrEffectAt := some 7 } []) (fun u => (u.port 2).session == none && (u.port 2).addrInForce == some (u.addrWritten 2))] = true := by
  decide +kernel

def newKey : Bytes := (List.range 32).map (fun i => BitVec.ofNat 8 (i + 1))
def wrapped (k : Nat) : Bytes := xorBytes newKey (keyWrap sess.key k 0) ++ (hmacSha256 newKey (ascii "SQDP-KEYCHECK")).take 8
def withExpert : State := base.put [(o1100_KEY_STATE, 1, KEY_STATE.valid), (o1100_KEY_ROLES, 1, 31)]

theorem wit_KeysAndPartitionsAreSet : all [
    withExpert.powered && (withExpert.port 4).session == some sess && withExpert.ctxOf 4 == some ⟨4, 31, none⟩ && hasRole 31 1 && hasRole (withExpert.rdN o1100_KEY_ROLES 1) roleEXPERT && withExpert.rd o1100_KEY_STATE 1 == KEY_STATE.valid,
    withExpert.admits 4 o1100_KEY_WRAPPED 2 (.bytes (wrapped 2)),
    does (.keyWrapped 5 4 2 (wrapped 2)) withExpert (fun u => okd u && (u.keySlot 2).a.key == newKey && u.rd o1100_KEY_STATE 2 == KEY_STATE.valid),
    withExpert.admits 4 o1100_KEY_ERASE 0 (.int 0),
    does (.keyErase 5 4 0) withExpert (fun u => okd u && u.rd o1100_KEY_STATE 0 == KEY_STATE.empty && (u.port 4).session == none),
    withExpert.admits 4 o1100_KEY_PORTS 2 (.int 3) && withExpert.admits 4 o1100_KEY_ROLES 2 (.int 2),
    does (.keyRolesWrite 5 4 2 true 3) withExpert (fun u => okd u && u.rd o1100_KEY_PORTS 2 == 3),
    does (.keyRolesWrite 5 4 2 false 2) withExpert (fun u => okd u && u.rd o1100_KEY_ROLES 2 == 2),
    base.powered && base.admits 4 o1210_PARTITION_CMD 0 (.int PARTITION_CMD.apply) && base.admits 4 o1210_PARTITION_CMD 0 (.int PARTITION_CMD.discard),
    mapFault base.stagedMap == none && base.afvHolds base.stagedMap (base.rdN o1210_DEVICE_OWNER 0),
    does (.partitionApply 5 4) base (fun u => okd u && u.ctl.applyMap.isSome),
    mapFault (base.put [(o1211_PART_CLASS, 1, 2), (o1211_PART_FIRST, 1, 9), (o1211_PART_LAST, 1, 8)]).stagedMap == some 1,
    does (.partitionApply 5 4) (base.put [(o1211_PART_CLASS, 1, 2), (o1211_PART_FIRST, 1, 9), (o1211_PART_LAST, 1, 8)]) (fun u => answered 0x0901 u && u.rd o1210_PARTITION_ERROR_ROW 0 == 1),
    does (.partitionDiscard 5 4) (base.put [(o1211_PART_FIRST, 1, 9)]) (fun u => okd u && u.rd o1211_PART_FIRST 1 == u.rd o1212_PART_IN_FORCE_FIRST 1)] = true := by
  decide +kernel

def image : Bytes := cfgImage 5 1 0 []
/-- The configuration store with something set. -/
def stored (c : Ctl) (m : List (Nat × Nat × Int)) : State := { base with ctl := { c with ports := base.ctl.ports } }.put m
def saving (v : Save) : State := stored { save := some v } [(o1200_CONFIG_STATE, 0, CONFIG_STATE.saving)]

theorem wit_ConfigurationIsSaved : all [
    base.powered && (saving { target := 1, generation := 5, records := [] }).powered && (saving { target := 1, generation := 5, records := [] }).rd o1200_CONFIG_STATE 0 == CONFIG_STATE.saving && base.admits 4 o1200_CONFIG_CMD 0 (.int CONFIG_CMD.save) && base.rd o1200_CONFIG_STATE 0 == CONFIG_STATE.idle && !base.policyConfig && base.pwr.dipFrom == none,
    does (.configSave 5 4) base (fun u => okd u && u.rd o1200_CONFIG_STATE 0 == CONFIG_STATE.saving && u.ctl.snapshotDue),
    does (.configSaveComplete 5 true) (saving { target := 1, generation := 5, records := [] }) (fun u => u.rd o1200_CONFIG_SLOT 0 == CONFIG_SLOT.B && (u.cfgSlot 1).isSome && u.rd o1201_SLOT_STATE 1 == SLOT_STATE.valid),
    does (.configSaveComplete 5 false) (saving { target := 1, generation := 5, records := [] }) (fun u => u.rd o1200_CONFIG_RESULT 0 == 0x0905)] = true := by
  decide +kernel

theorem wit_ConfigurationsAreReplaced : all [
    base.powered && base.ctxOf 4 == some ⟨4, 31, none⟩ && base.deviceWriter ⟨4, 31, none⟩ && base.rd o1200_CONFIG_STATE 0 == CONFIG_STATE.idle,
    [CONFIG_CMD.revert, CONFIG_CMD.factory, CONFIG_CMD.import].all (fun v => base.admits 4 o1200_CONFIG_CMD 0 (.int v)),
    (stored { cfgSlots := [(1, image)] } []).powered && (stored { cfgSlots := [(1, image)] } []).admits 4 o1200_CONFIG_CMD 0 (.int CONFIG_CMD.revert) && (stored { cfgSlots := [(1, image)] } []).chooseSlot == some 1,
    does (.configRevert 5 4) (stored { cfgSlots := [(1, image)] } []) (fun u => okd u && u.rd o1200_CONFIG_SLOT 0 == 2),
    does (.configFactory 5 4) base (fun u => okd u && u.rd o1200_FACTORY_FLAG 0 == 1),
    (stored { cfgBuffer := image } []).powered && (stored { cfgBuffer := image } []).admits 4 o1200_CONFIG_CMD 0 (.int CONFIG_CMD.import) && (stored { cfgBuffer := image } []).pwr.dipFrom == none && (stored { cfgBuffer := image } []).cfgValid image,
    (saving { target := 1, generation := 5, records := [], imported := some image }).powered && (saving { target := 1, generation := 5, records := [], imported := some image }).rd o1200_CONFIG_STATE 0 == CONFIG_STATE.saving,
    does (.configImport 5 4) (stored { cfgBuffer := image } []) (fun u => okd u && u.rd o1200_CONFIG_STATE 0 == CONFIG_STATE.saving),
    does (.configImportComplete 5 true) (saving { target := 1, generation := 5, records := [], imported := some image }) (fun u => u.cfgSlot 1 == some image),
    base.admits 4 o1202_CFG_XFER_CMD 0 (.int CFG_XFER_CMD.open) && base.admits 4 o1202_CFG_XFER_CMD 0 (.int CFG_XFER_CMD.discard) && (stored { cfgOpen := true } []).powered && (stored { cfgOpen := true } []).admits 4 o1202_CFG_XFER_DATA 0 (.bytes [1#8, 2#8]),
    does (.cfgXferOpen 5 4) base (fun u => okd u && u.ctl.cfgOpen),
    does (.cfgXferDiscard 5 4) (stored { cfgOpen := true, cfgBuffer := [1#8] } []) (fun u => okd u && !u.ctl.cfgOpen && u.ctl.cfgBuffer == []),
    does (.cfgXferData 5 4 [1#8, 2#8]) (stored { cfgOpen := true } []) (fun u => okd u && u.ctl.cfgBuffer == [1#8, 2#8] && u.rd o1202_CFG_XFER_OFFSET 0 == 2),
    does (.cfgXferData 5 4 [1#8, 2#8]) (stored { cfgOpen := true } [(o1202_CFG_XFER_OFFSET, 0, 8388606)]) okd,
    does (.cfgXferData 5 4 [1#8, 2#8]) (stored { cfgOpen := true } [(o1202_CFG_XFER_OFFSET, 0, 8388607)]) (answered stRANGE)] = true := by
  decide +kernel

/-- The root of trust with something set. -/
def sec (x : Sec) (m : List (Nat × Nat × Int)) : State := { base with sec := x }.put m
def twoRoots : State := sec {} [(o1131_ROOT_STATE, 0, ROOT_STATE.active), (o1131_ROOT_STATE, 1, ROOT_STATE.active), (o1131_ROOT_STATE, 2, ROOT_STATE.blank)]

theorem wit_RootsKeysAndPolicyAreSet : all [
    twoRoots.powered && twoRoots.admits 4 o1131_ROOT_CMD 2 (.int ROOT_CMD.program) && twoRoots.rd o1131_ROOT_STATE 2 == ROOT_STATE.blank,
    does (.rootProgram 5 4 2) twoRoots (fun u => answered 0x1808 u && u.rd o1131_ROOT_STATE 2 == ROOT_STATE.blank && u.sec.buf == []),
    twoRoots.admits 4 o1131_ROOT_CMD 1 (.int ROOT_CMD.revoke) && twoRoots.admits 4 o1131_ROOT_CMD 0 (.int ROOT_CMD.revoke) && twoRoots.runRoot == 0 && twoRoots.fwRuns && twoRoots.rd o1131_ROOT_STATE 0 == ROOT_STATE.active && twoRoots.rd o1131_ROOT_STATE 1 == ROOT_STATE.active,
    does (.rootRevoke 5 4 1) twoRoots (fun u => okd u && u.rd o1131_ROOT_STATE 1 == ROOT_STATE.revoked),
    does (.rootRevoke 5 4 0) twoRoots (fun u => answered 0x1807 u && u.rd o1131_ROOT_STATE 0 == ROOT_STATE.active),
    (sec {} [(o1131_ROOT_STATE, 0, ROOT_STATE.revoked), (o1131_ROOT_STATE, 1, ROOT_STATE.active), (o1131_ROOT_STATE, 2, ROOT_STATE.blank), (o1131_ROOT_STATE, 3, ROOT_STATE.blank)]).rd o1131_ROOT_STATE 1 == ROOT_STATE.active,
    does (.rootRevoke 5 4 1) (sec {} [(o1131_ROOT_STATE, 0, ROOT_STATE.revoked), (o1131_ROOT_STATE, 1, ROOT_STATE.active), (o1131_ROOT_STATE, 2, ROOT_STATE.blank), (o1131_ROOT_STATE, 3, ROOT_STATE.blank)]) (answered 0x1807),
    base.admits 4 o1130_POLICY_SET 0 (.int 1) && base.admits 4 o1134_VKEY_CMD 1 (.int 0) && base.admits 4 o1130_ROLLBACK_CMD 0 (.int 0),
    (sec {} [(o1134_VKEY_STATE, 0, VKEY_STATE.valid)]).powered && (sec {} [(o1134_VKEY_STATE, 0, VKEY_STATE.valid)]).admits 4 o1130_POLICY_SET 0 (.int 1) && base.rd o1134_VKEY_STATE 0 != VKEY_STATE.valid && base.rdN o1130_POLICY 0 == 0,
    does (.policySet 5 4 1) (sec {} [(o1134_VKEY_STATE, 0, VKEY_STATE.valid)]) (fun u => okd u && u.rd o1130_POLICY 0 == 1 && u.rd o2002_REQUIRE_SIGNATURE 0 == 1),
    does (.policySet 5 4 1) base (fun u => answered 0x180B u && u.rd o1130_POLICY 0 == 0),
    (sec { buf := List.replicate 60 1#8 } []).powered && (sec { buf := List.replicate 60 1#8 } []).admits 4 o1134_VKEY_CMD 1 (.int 0) && (sec { buf := List.replicate 60 1#8 } [(o1130_POLICY, 0, 2)]).admits 4 o1134_VKEY_CMD 1 (.int 0) && (sec { buf := List.replicate 60 1#8 } [(o1130_POLICY, 0, 2)]).vkey 1 == none,
    does (.vkeyInstall 5 4 1) (sec { buf := List.replicate 60 1#8 } []) (fun u => okd u && u.vkey 1 == some (List.replicate 60 1#8) && u.sec.buf == []),
    does (.vkeyInstall 5 4 1) (sec { buf := List.replicate 60 1#8 } [(o1130_POLICY, 0, 2)]) (fun u => answered 0x1808 u && u.vkey 1 == none),
    base.powered && base.fwRuns && (sec {} [(o1130_SECURITY_VERSION, 0, 3), (o1132_FW_SLOT_STATE, 1, FW_SLOT_STATE.valid)]).admits 4 o1130_ROLLBACK_CMD 0 (.int 0) && (sec {} [(o1130_SECURITY_VERSION, 0, 3)]).runSlot == 0,
    does (.rollbackCommit 5 4) (sec {} [(o1130_SECURITY_VERSION, 0, 3), (o1132_FW_SLOT_STATE, 1, FW_SLOT_STATE.valid)]) (fun u => okd u && u.rd o1130_ROLLBACK_COUNTER 0 == 3 && u.rd o1132_FW_SLOT_STATE 1 == FW_SLOT_STATE.checking),
    does (.rollbackCommit 5 4) base (fun u => okd u && u.rd o1130_ROLLBACK_COUNTER 0 == 0)] = true := by
  decide +kernel

theorem wit_AttestationTakesIndices : all [
    base.powered && base.admits 4 o1136_ATT_CMD 0 (.int 0) && base.rd o1136_ATT_STATE 4 != ATT_STATE.signing && base.pwr.dipFrom == none,
    (sec {} [(o1135_IDENTITY_NEXT, 0, 1048576)]).admits 4 o1136_ATT_CMD 0 (.int 0) && (sec {} [(o1136_ATT_STATE, 4, ATT_STATE.signing)]).admits 4 o1136_ATT_CMD 0 (.int 0),
    (sec {} [(o1135_IDENTITY_NEXT, 0, 1048575), (o1135_JOURNAL_BLOCK_END, 0, 1048576)]).admits 4 o1136_ATT_CMD 0 (.int 0) && (sec {} [(o1135_IDENTITY_NEXT, 0, 64), (o1135_JOURNAL_BLOCK_END, 0, 64)]).admits 4 o1136_ATT_CMD 0 (.int 0),
    does (.attSign 5 4) (sec {} [(o1136_ATT_STATE, 4, ATT_STATE.signing)]) (answered stBUSY),
    does (.attSign 5 4) (sec {} [(o1135_IDENTITY_NEXT, 0, 1048576)]) (fun u => answered 0x1809 u && u.rd o1136_ATT_STATE 4 == ATT_STATE.refused),
    does (.attSign 5 4) (sec {} [(o1135_IDENTITY_NEXT, 0, 1048575), (o1135_JOURNAL_BLOCK_END, 0, 1048576)]) (fun u => okd u && u.nextIndex == 1048576 && u.rd o1135_IDENTITY_REMAINING 0 == 0),
    does (.attSign 5 4) (sec {} [(o1135_IDENTITY_NEXT, 0, 64), (o1135_JOURNAL_BLOCK_END, 0, 64)]) (fun u => okd u && u.nextIndex == 64 && u.sec.writing && u.sec.waiting == [4]),
    does (.journalWriteComplete 5 true) (sec { writing := true, waiting := [4] } [(o1135_IDENTITY_NEXT, 0, 64), (o1135_JOURNAL_BLOCK_END, 0, 64)]) (fun u => u.rd o1135_JOURNAL_BLOCK_END 0 == 128 && u.nextIndex == 65 && u.sec.journal == some 64),
    does (.journalWriteComplete 5 false) (sec { writing := true, waiting := [4] } [(o1135_IDENTITY_NEXT, 0, 64), (o1135_JOURNAL_BLOCK_END, 0, 64)]) (fun u => u.instActive .SEC_JOURNAL_FAULT noInst && u.rd o1136_ATT_RESULT 4 == 0x180A),
    does (.attSignComplete 5 4) (sec { signing := [(4, zeros 256)] } []) (fun u => u.rd o1136_ATT_STATE 4 == ATT_STATE.ready && (storeGet 4 u.sec.signing).isNone)] = true := by
  decide +kernel

theorem wit_FirmwareSlotsAreLoaded : all [
    base.powered && base.fwRuns && base.pwr.dipFrom == none && base.fwChecking == false && base.runSlot == 0,
    [FW_SLOT_CMD.open, FW_SLOT_CMD.close, FW_SLOT_CMD.activate].all (fun v => base.admits 4 o1132_FW_SLOT_CMD 1 (.int v)) && base.admits 4 o1132_FW_SLOT_CMD 0 (.int FW_SLOT_CMD.open),
    does (.fwSlotOpen 5 4 1) base (fun u => okd u && u.rd o1132_FW_SLOT_STATE 1 == FW_SLOT_STATE.loading),
    does (.fwSlotOpen 5 4 0) base (answered 0x180C),
    (sec {} [(o1132_FW_SLOT_STATE, 1, FW_SLOT_STATE.loading)]).admits 4 o1132_FW_SLOT_CMD 1 (.int FW_SLOT_CMD.close) && base.rd o1132_FW_SLOT_STATE 1 != FW_SLOT_STATE.loading,
    does (.fwSlotClose 5 4 1) (sec {} [(o1132_FW_SLOT_STATE, 1, FW_SLOT_STATE.loading)]) (fun u => okd u && u.rd o1132_FW_SLOT_STATE 1 == FW_SLOT_STATE.checking),
    does (.fwSlotClose 5 4 1) base (answered stBUSY),
    (sec {} [(o1132_FW_SLOT_STATE, 1, FW_SLOT_STATE.valid)]).admits 4 o1132_FW_SLOT_CMD 1 (.int FW_SLOT_CMD.activate) && (sec {} [(o1132_FW_SLOT_STATE, 1, FW_SLOT_STATE.invalid), (o1132_FW_SLOT_RESULT, 1, 0x1804)]).admits 4 o1132_FW_SLOT_CMD 1 (.int FW_SLOT_CMD.activate),
    does (.fwSlotActivate 5 4 1) (sec {} [(o1132_FW_SLOT_STATE, 1, FW_SLOT_STATE.valid)]) (fun u => okd u && u.sec.boot == [some 1, some 1]),
    does (.fwSlotActivate 5 4 1) (sec {} [(o1132_FW_SLOT_STATE, 1, FW_SLOT_STATE.invalid), (o1132_FW_SLOT_RESULT, 1, 0x1804)]) (answered 0x1804),
    (sec {} [(o1132_FW_SLOT_STATE, 1, FW_SLOT_STATE.checking)]).fwChecking && (sec {} [(o1132_FW_SLOT_STATE, 1, FW_SLOT_STATE.checking)]).admits 4 o1132_FW_SLOT_CMD 1 (.int FW_SLOT_CMD.open),
    does (.fwSlotOpen 5 4 1) (sec {} [(o1132_FW_SLOT_STATE, 1, FW_SLOT_STATE.checking)]) (answered stBUSY),
    (sec {} [(o1132_FW_SLOT_STATE, 1, FW_SLOT_STATE.loading)]).admits 4 o1132_FW_XFER_DATA 1 (.bytes [1#8, 2#8]),
    does (.fwXferData 5 4 1 [1#8, 2#8]) (sec {} [(o1132_FW_SLOT_STATE, 1, FW_SLOT_STATE.loading)]) (fun u => okd u && (u.fwSlot 1).image == [1#8, 2#8] && u.rd o1132_FW_XFER_OFFSET 1 == 2),
    base.pwr.postponed == [],
    does (.fwCheckDone 5 0) (sec {} [(o1132_FW_SLOT_STATE, 0, FW_SLOT_STATE.checking)]) (fun u => u.rd o1132_FW_SLOT_STATE 0 == FW_SLOT_STATE.valid && u.rd o1132_FW_SLOT_RESULT 0 == 1),
    does (.fwCheckDone 5 1) (sec {} [(o1132_FW_SLOT_STATE, 1, FW_SLOT_STATE.checking)]) (fun u => u.rd o1132_FW_SLOT_STATE 1 == FW_SLOT_STATE.invalid && u.rd o1132_FW_SLOT_RESULT 1 == 0x1801)] = true := by
  decide +kernel

/-- A module of a pair, in a pair state, with its TD0 tick at `t`. -/
def paired (st : Int) (x : Pair) (m : List (Nat × Nat × Int)) : State := { base with pair := x }.put ([(o1401_DEVICE_STATE, 0, DEVICE_STATE.running), (o1600_PAIR_ENABLE, 0, 1), (o1601_PAIR_STATE, 0, st)] ++ m)
def ticked (t : Nat) (s : State) : State := s.setTd 0 { s.td 0 with tickAt := t }
/-- A heartbeat of the peer. -/
def beat (st epoch : Nat) : Bytes :=
  Heartbeat.bytes { pairId := 1, state := st, flags := 3, epoch := epoch, leaseEnd := 9, handover := 0, fcnt := 4, mirrorAck := 0, mirrorSeq := 0, echo := 0 }
def frameStart : Bytes := leBytes 1 1 ++ leBytes 3 6 ++ leBytes 2 1 ++ [0#8]
def frameFin : Bytes := leBytes 4 (crc32c (frameStart ++ zeros 8)) ++ leBytes 3 2

theorem wit_PeersAndTheirFramesAreHeard : all [
    does (.heartbeatRx 5 1 [] false) base (fun u => u.rd o1603_HB_ERRORS 1 == 1),
    base.powered && (paired PAIR_STATE.gap {} [(o1600_PAIR_ID, 0, 1)]).powered && (paired PAIR_STATE.gap {} [(o1600_PAIR_ID, 0, 1)]).paired && (beat 4 3).length == 32 && (readHeartbeat (beat 4 3)).pairId == 1 && (readHeartbeat (beat 4 3)).state == 4 && (readHeartbeat (beat 4 3)).epoch == 3,
    does (.heartbeatRx 5 0 (beat 4 3) true) (paired PAIR_STATE.gap {} [(o1600_PAIR_ID, 0, 1)]) (fun u => u.instActive .PAIR_ID_CONFLICT 0),
    (paired PAIR_STATE.gap {} []).powered && (paired PAIR_STATE.gap {} []).rdN o1600_PAIR_ID 0 == 0 && (paired PAIR_STATE.active {} [(o1601_EPOCH, 0, 2)]).powered && (readHeartbeat (beat 2 3)).pairId == 1 && (beat 2 3).length == 32,
    does (.heartbeatRx 5 0 (beat 2 3) true) (paired PAIR_STATE.gap {} []) (fun u => u.pairState == PAIR_STATE.standby && u.pathUp 0),
    does (.heartbeatRx 5 1 (beat 4 3) true) (paired PAIR_STATE.active {} [(o1601_EPOCH, 0, 2)]) (fun u => u.pairState == PAIR_STATE.standby && u.pair.peerEpoch == 3),
    (paired PAIR_STATE.standby {} [(o1601_HB_PATH, 0, HB_PATH.up)]).pathUp 1 && !(paired PAIR_STATE.standby {} [(o1601_HB_PATH, 0, HB_PATH.up)]).pathUp 0,
    (paired PAIR_STATE.standby {} [(o1601_HB_PATH, 0, HB_PATH.up)]).powered && (paired PAIR_STATE.standby {} [(o1601_HB_PATH, 0, HB_PATH.up)]).paired && decide ((paired PAIR_STATE.standby {} []).pair.heard.getD 1 0 + 125000 * (paired PAIR_STATE.standby {} []).rdN o1600_HB_TIMEOUT_CYCLES 0 ≤ 10000000),
    does (.hbPathSilent 10000000 1) (paired PAIR_STATE.standby {} [(o1601_HB_PATH, 0, HB_PATH.up)]) (fun u => u.pairState == PAIR_STATE.gap && u.instActive .PAIR_PATH_LOSS 1),
    (paired PAIR_STATE.listening {} []).powered && (paired PAIR_STATE.listening {} []).pairState == PAIR_STATE.listening,
    does (.peerCustodyIn 5 true) (paired PAIR_STATE.listening {} []) (fun u => u.pairState == PAIR_STATE.standby),
    does (.peerCustodyIn 5 false) (paired PAIR_STATE.listening {} [(o1601_PEER_CUSTODY, 0, 1)]) (fun u => u.pairState == PAIR_STATE.listening && u.pair.lowFrom == 5),
    does (.ivardFrameRx 5 .stray) base (fun u => u.rd o1603_HB_ERRORS 0 == 1),
    frameStart.length == 7 && frameFin.length == 7 && fieldNat 0 1 frameStart == 1 && fieldNat 1 3 frameStart == 6 && fieldNat 4 2 frameStart == 1 && crc32c (frameStart ++ zeros 8) == fieldNat 0 4 frameFin,
    (paired PAIR_STATE.active { channels := [(1, { lastRx := some 5, unacked := [(1, []), (2, []), (3, [])] })] } []).powered && ((paired PAIR_STATE.active { channels := [(1, { lastRx := some 5, unacked := [(1, []), (2, []), (3, [])] })] } []).ivard 1).lastRx == some 5,
    does (.ivardFrameRx 5 (.frame frameStart (zeros 8) frameFin [])) (paired PAIR_STATE.active { channels := [(1, { lastRx := some 5, unacked := [(1, []), (2, []), (3, [])] })] } []) (fun u => (u.ivard 1).lastRx == some 6 && (u.ivard 1).unacked == [(3, [])]),
    ((paired PAIR_STATE.active { channels := [(1, { lastRx := some 5, unacked := [(3, [])] })] } []).ivard 1).unacked == [(3, [])] && ((paired PAIR_STATE.active { channels := [(1, { lastRx := some 5, unacked := [(3, [])] })] } []).ivard 1).movedAt == 0,
    does (.ivardResendTimeout 50000 1) (paired PAIR_STATE.active { channels := [(1, { lastRx := some 5, unacked := [(3, [])] })] } []) (fun u => u.out == [.ivard 1 3 5 []]),
    does (.ivardTickRx 5 0 100 4) (paired PAIR_STATE.active {} []) (fun u => decide (98 ≤ u.rd o1602_FCNT_OFFSET 0)),
    (paired PAIR_STATE.active {} [(o1601_IVARD_PATH, 0, IVARD_PATH.up)]).powered && (paired PAIR_STATE.active {} [(o1601_IVARD_PATH, 0, IVARD_PATH.up)]).paired && (paired PAIR_STATE.active {} [(o1601_IVARD_PATH, 0, IVARD_PATH.up)]).pathUp 0,
    does (.linkRttMeasure 5 900) (paired PAIR_STATE.active {} [(o1601_IVARD_PATH, 0, IVARD_PATH.up)]) (fun u => u.rd o1601_LINK_RTT_NS 0 == 900)] = true := by
  decide +kernel

def held : List (Nat × Nat × Int) := [(o2100_FCNT, 0, 1000), (o1601_PEER_LEASE_END, 0, 10), (o1601_LEASE_END, 0, 999)]

theorem wit_CustodyPasses : all [
    (ticked 5 (paired PAIR_STATE.gap { peerEpoch := 7 } held)).powered && ((ticked 5 (paired PAIR_STATE.gap { peerEpoch := 7 } held)).begin 5).gapClaim,
    does (.custodyTakeover 5) (ticked 5 (paired PAIR_STATE.gap { peerEpoch := 7 } held)) (fun u => u.pairState == PAIR_STATE.active && u.rd o1601_EPOCH 0 == 8 && u.rd o1601_TAKEOVERS 0 == 1),
    ((ticked 5 (paired PAIR_STATE.gap {} [])).begin 5).gapClaim == false,
    does (.custodyTakeover 5) (ticked 5 (paired PAIR_STATE.gap {} [])) (fun u => u.pairState == PAIR_STATE.gap),
    (ticked 5 (paired PAIR_STATE.listening {} held)).powered,
    ((ticked 5 (paired PAIR_STATE.listening {} held)).begin 5).listenClaim,
    does (.listenWaitEnd 5) (ticked 5 (paired PAIR_STATE.listening {} held)) (fun u => u.pairState == PAIR_STATE.active && u.rd o1601_TAKEOVERS 0 == 1),
    max 0 5 == ((ticked 5 (paired PAIR_STATE.active {} held)).td 0).tickAt && (ticked 5 (paired PAIR_STATE.active {} held)).now == 0 && (ticked 5 (paired PAIR_STATE.active {} held)).powered && (ticked 5 (paired PAIR_STATE.active {} held)).fcnt 0 == 1000,
    (ticked 5 (paired PAIR_STATE.standby { peerHandover := some 1000 } held)).mediaRuns && (ticked 5 (paired PAIR_STATE.standby { peerHandover := some 1000 } held)).powered,
    does (.leaseLapse 5) (ticked 5 (paired PAIR_STATE.active {} held)) (fun u => u.pairState == PAIR_STATE.standby),
    does (.handoverTick 5) (ticked 5 (paired PAIR_STATE.releasing { handover := some 1000 } held)) (fun u => u.pairState == PAIR_STATE.standby),
    does (.handoverTick 5) (ticked 5 (paired PAIR_STATE.standby { peerHandover := some 1000 } held)) (fun u => u.pairState == PAIR_STATE.active),
    (paired PAIR_STATE.active {} []).admits 4 o1600_CUSTODY_CMD 0 (.int CUSTODY_CMD.release) && (paired PAIR_STATE.active {} []).admits 4 o1600_CUSTODY_CMD 0 (.int CUSTODY_CMD.force_release),
    (paired PAIR_STATE.active { peerFlags := 3 } [(o1601_HB_PATH, 0, HB_PATH.up), (o1601_PEER_STATE, 0, PEER_STATE.standby)]).peerReady,
    (paired PAIR_STATE.active {} []).powered && (paired PAIR_STATE.active {} []).peerReady == false && base.admits 4 o1600_CUSTODY_CMD 0 (.int CUSTODY_CMD.force_release) && (paired PAIR_STATE.active { peerFlags := 3 } [(o1601_HB_PATH, 0, HB_PATH.up), (o1601_PEER_STATE, 0, PEER_STATE.standby)]).admits 4 o1600_CUSTODY_CMD 0 (.int CUSTODY_CMD.release),
    does (.custodyRelease 5 4) (paired PAIR_STATE.active { peerFlags := 3 } [(o1601_HB_PATH, 0, HB_PATH.up), (o1601_PEER_STATE, 0, PEER_STATE.standby)]) (fun u => okd u && u.pairState == PAIR_STATE.releasing),
    does (.custodyRelease 5 4) (paired PAIR_STATE.active {} []) (answered 0x1601),
    does (.custodyForceRelease 5 4) (paired PAIR_STATE.active {} []) (fun u => okd u && u.pairState == PAIR_STATE.releasing),
    does (.custodyForceRelease 5 4) base (answered 0x1602),
    base.admits 4 o1600_PAIR_ENABLE 0 (.int 1) && base.admits 4 o1600_PAIR_ENABLE 0 (.int 0),
    (paired PAIR_STATE.standby {} [(o1601_PEER_CUSTODY, 0, 1)]).admits 4 o1600_PAIR_ENABLE 0 (.int 0) && (paired PAIR_STATE.active {} []).admits 4 o1600_PAIR_ENABLE 0 (.int 0),
    does (.pairEnable 5 4 true) base (fun u => okd u && u.pair.enableDue),
    does (.pairEnable 5 4 false) (paired PAIR_STATE.standby {} [(o1601_PEER_CUSTODY, 0, 1)]) (answered 0x1603),
    does (.pairEnable 5 4 false) (paired PAIR_STATE.active {} []) (fun u => okd u && u.pairState == PAIR_STATE.unpaired)] = true := by
  decide +kernel

/-- The supervisor with something set. -/
def pwr (x : Pwr) (m : List (Nat × Nat × Int)) : State := { base with pwr := x }.put m
def inState (v : Int) (m : List (Nat × Nat × Int)) : State := pwr { safeOut := v != DEVICE_STATE.running } ([(o1401_DEVICE_STATE, 0, v)] ++ m)
def atStage (v : Int) (x : Pwr) : State := pwr { x with starting := true } [(o1401_START_STAGE, 0, v)]

theorem wit_DipsAndStopsAreRidden : all [
    (pwr { starting := true } [(o1400_SUPPLY_STATE, 0, SUPPLY_STATE.normal)]).powered && (pwr { starting := true } [(o1400_SUPPLY_STATE, 0, SUPPLY_STATE.normal)]).pinsLive && (pwr { starting := true } [(o1400_SUPPLY_STATE, 0, SUPPLY_STATE.normal)]).rd o1400_SUPPLY_STATE 0 == SUPPLY_STATE.normal,
    does (.vinWarning 5 39000) (pwr {} [(o1400_SUPPLY_STATE, 0, SUPPLY_STATE.normal)]) (fun u => u.rd o1400_SUPPLY_STATE 0 == SUPPLY_STATE.ride_through && u.warnPin == false),
    does (.vinWarning 5 39000) (pwr { starting := true } [(o1400_SUPPLY_STATE, 0, SUPPLY_STATE.normal)]) (fun u => u.rd o1400_SUPPLY_STATE 0 == SUPPLY_STATE.ride_through && u.warnPin),
    does (.vinClear 3000005 45000 38000) (pwr { dipFrom := some 5, dipMin := 39000, warnOut := true } [(o1400_SUPPLY_STATE, 0, SUPPLY_STATE.ride_through)]) (fun u => u.rd o1400_LAST_DIP_MS 0 == 3 && u.rd o1400_LAST_DIP_MIN_MV 0 == 38000 && u.rd o1400_DIPS 0 == 1),
    (pwr { dipFrom := some 5, dipMin := 39000, warnOut := true } [(o1400_SUPPLY_STATE, 0, SUPPLY_STATE.ride_through)]).powered && base.powered && (inState DEVICE_STATE.running []).powered,
    does (.vinHigh 5 60001) base (fun u => u.instActive .PWR_VIN_HIGH noInst && u.rd o1400_VIN_MV 0 == 60001),
    does (.vinHigh 5 59499) base (fun u => !u.instActive .PWR_VIN_HIGH noInst),
    [DEVICE_STATE.starting, DEVICE_STATE.running, DEVICE_STATE.safe].all (fun v => does (.vinReset 5 35000) (inState v []) (fun u => u.rd o1401_DEVICE_STATE 0 == DEVICE_STATE.stopping && u.pwr.stopReason == SAFE_REASON.vin_stop)),
    does (.vinOvervoltage 5 61000) (inState DEVICE_STATE.running []) (fun u => u.pwr.stopReason == SAFE_REASON.vin_high && u.safePin),
    (inState DEVICE_STATE.stopping []).rd o1401_DEVICE_STATE 0 == DEVICE_STATE.stopping] = true := by
  decide +kernel

theorem wit_DomainsRampFaultAndRetry : all [
    (pwr {} [(o1410_PD_STATE, 10, PD_STATE.ramping)]).powered && (pwr {} [(o1410_PD_STATE, 10, PD_STATE.ramping)]).pdState 10 == PD_STATE.ramping && (pwr {} [(o1410_PD_STATE, 10, PD_STATE.on)]).pdState 10 == PD_STATE.on,
    does (.domainRampDone 5 10) (pwr {} [(o1410_PD_STATE, 10, PD_STATE.ramping)]) (fun u => u.pdState 10 == PD_STATE.on),
    does (.domainFault 5 10) (pwr {} [(o1410_PD_STATE, 10, PD_STATE.on)]) (fun u => u.pdState 10 == PD_STATE.fault && u.instActive .PWR_DOMAIN_FAULT 10),
    does (.domainFault 5 10) (pwr { faults := [(10, [1, 2])] } [(o1410_PD_STATE, 10, PD_STATE.on)]) (fun u => u.pdState 10 == PD_STATE.locked_off),
    [PD_STATE.fault, PD_STATE.locked_off, PD_STATE.on].all (fun v => (pwr {} [(o1410_PD_STATE, 10, v)]).admits 4 o1410_PD_CMD 10 (.int 0) && (pwr {} [(o1410_PD_STATE, 10, v)]).pdState 10 == v),
    does (.pdRetry 5 4 10) (pwr {} [(o1410_PD_STATE, 10, PD_STATE.fault)]) (fun u => okd u && u.pdState 10 == PD_STATE.ramping),
    does (.pdRetry 5 4 10) (pwr {} [(o1410_PD_STATE, 10, PD_STATE.locked_off)]) (answered 0x1412),
    does (.pdRetry 5 4 10) (pwr {} [(o1410_PD_STATE, 10, PD_STATE.on)]) (answered stBUSY)] = true := by
  decide +kernel

theorem wit_SafeCommandsAct : all [
    (inState DEVICE_STATE.running []).admits 4 o1401_SAFE_CMD 0 (.int SAFE_CMD.enter) && (inState DEVICE_STATE.running []).pairState == PAIR_STATE.unpaired,
    (inState DEVICE_STATE.running []).powered && (inState DEVICE_STATE.running []).rd o1401_DEVICE_STATE 0 == DEVICE_STATE.running,
    [SAFE_CMD.leave, SAFE_CMD.restart].all (fun v => (inState DEVICE_STATE.safe []).admits 4 o1401_SAFE_CMD 0 (.int v)),
    [SAFE_REASON.command, SAFE_REASON.ledger, SAFE_REASON.thermal].all (fun r => (inState DEVICE_STATE.safe [(o1401_SAFE_REASON, 0, r)]).admits 4 o1401_SAFE_CMD 0 (.int SAFE_CMD.leave) && (inState DEVICE_STATE.safe [(o1401_SAFE_REASON, 0, r)]).powered),
    (inState DEVICE_STATE.safe []).powered && (inState DEVICE_STATE.safe []).rd o1401_DEVICE_STATE 0 == DEVICE_STATE.safe && decide ((inState DEVICE_STATE.safe []).pwr.caseTemp < 10 * (inState DEVICE_STATE.safe []).rd o1400_TEMP_WARN_C 0),
    [SAFE_REASON.command, SAFE_REASON.ledger].all (fun r => does (.safeLeave 5 4) (inState DEVICE_STATE.safe [(o1401_SAFE_REASON, 0, r)]) (fun u => okd u && u.rd o1401_START_STAGE 0 == START_STAGE.ledger && u.pwr.leaving)),
    does (.safeLeave 5 4) (inState DEVICE_STATE.safe [(o1401_SAFE_REASON, 0, SAFE_REASON.thermal)]) (answered 0x1413),
    does (.safeRestart 5 4) (inState DEVICE_STATE.safe []) (fun u => okd u && u.rd o1401_DEVICE_STATE 0 == DEVICE_STATE.starting && u.rd o1401_RESET_CAUSE 0 == RESET_CAUSE.command)] = true := by
  decide +kernel

theorem wit_ResetsAndRestartsStartAfresh : all [
    does (.aonPowerUp 5 33000) (pwr { aon := false } []) (fun u => u.pwr.aon && u.rd o1401_RESET_CAUSE 0 == RESET_CAUSE.power_on && (u.port 4).session == none),
    does (.aonLockout 5) base (fun u => !u.powered),
    does (.nrstIn 5 true) base (fun u => !u.powered && u.pwr.aon),
    does (.nrstIn 5 false) (pwr { nrstLow := true } []) (fun u => u.powered && u.rd o1401_RESET_CAUSE 0 == RESET_CAUSE.nrst),
    base.powered && (pwr { nrstLow := true } []).pwr.aon && (inState DEVICE_STATE.starting []).powered && (inState DEVICE_STATE.starting []).rd o1401_SAFE_REASON 0 == SAFE_REASON.none && !(inState DEVICE_STATE.starting []).pwr.starting,
    does (.vinStart 5 45000) (inState DEVICE_STATE.starting []) (fun u => u.pwr.starting && u.pwr.stage0At == 5),
    (inState DEVICE_STATE.running []).powered && (inState DEVICE_STATE.running []).rd o1401_DEVICE_STATE 0 == DEVICE_STATE.running,
    (pwr { recoveryAt := some 7 } [(o1401_DEVICE_STATE, 0, DEVICE_STATE.recovery)]).powered && (pwr { recoveryAt := some 7 } [(o1401_DEVICE_STATE, 0, DEVICE_STATE.recovery)]).rd o1401_DEVICE_STATE 0 == DEVICE_STATE.recovery,
    does (.recoveryRestart 7) (pwr { recoveryAt := some 7 } [(o1401_DEVICE_STATE, 0, DEVICE_STATE.recovery)]) (fun u => u.rd o1401_DEVICE_STATE 0 == DEVICE_STATE.starting)] = true := by
  decide +kernel

/-- In stage 7 with bank 1 ready, in stage 6 with bank 1 to be started in domain 0. -/
def stage7 : State := { base with led := { base.led with lastReady := some 1 }, pwr := { starting := true } }.put [(o2001_BANK_STATE, 1, BANK_STATE.ready), (o1401_START_STAGE, 0, START_STAGE.media)]
def stage6 : State :=
  { base with led := { base.led with lastReady := some 1, banks := [(1, { descs := [{ rate := 8, inUse := 1 }] })] }, pwr := { starting := true } }.put
    [(o2001_BANK_STATE, 1, BANK_STATE.ready), (o1401_START_STAGE, 0, START_STAGE.reference)]

theorem wit_StartupStagesFollow : all [
    does (.oscInLoss 5) base (fun u => u.instActive .OSC_IN_LOSS noInst && !u.pwr.oscIn),
    does (.oscInRestored 5) { inState DEVICE_STATE.safe [(o1401_SAFE_REASON, 0, SAFE_REASON.osc_in)] with pwr := { oscIn := false } } (fun u => u.rd o1401_DEVICE_STATE 0 == DEVICE_STATE.starting && u.pwr.starting),
    ({ inState DEVICE_STATE.safe [(o1401_SAFE_REASON, 0, SAFE_REASON.osc_in)] with pwr := { oscIn := false } } : State).powered && (atStage START_STAGE.aon {}).powered && (atStage START_STAGE.aon {}).rd o1401_START_STAGE 0 == START_STAGE.aon,
    (atStage START_STAGE.aon {}).pwr.rsvd == false && (atStage START_STAGE.aon {}).pwr.oscIn && ({} : StageReport).rsvdFree,
    does (.startupStageComplete 5 { rsvdFree := false }) (atStage START_STAGE.aon {}) (fun u => u.pwr.rsvd && u.rd o1401_START_STAGE 0 == START_STAGE.aon),
    does (.startupStageComplete 5 {}) (atStage START_STAGE.aon { rsvd := true }) (fun u => u.rd o1401_START_STAGE 0 == START_STAGE.aon),
    does (.startupStageComplete 5 {}) (atStage START_STAGE.aon {}) (fun u => u.rd o1401_START_STAGE 0 == START_STAGE.boot),
    ((atStage START_STAGE.aon { oscIn := false }).put [(o1401_DEVICE_STATE, 0, DEVICE_STATE.starting)]).pwr.oscIn == false && ((atStage START_STAGE.aon { oscIn := false }).put [(o1401_DEVICE_STATE, 0, DEVICE_STATE.starting)]).rd o1401_START_STAGE 0 == START_STAGE.aon,
    (atStage START_STAGE.reference {}).startDomains == [],
    does (.startupStageComplete 5 {}) (atStage START_STAGE.reference {}) (fun u => u.rd o1401_START_STAGE 0 == START_STAGE.media),
    stage6.powered && stage6.pwr.starting && stage6.rd o1401_START_STAGE 0 == START_STAGE.reference && stage6.startDomains == [0] && stage6.dpll 0 != DPLL_STATE.locked,
    does (.startupStageComplete 5 {}) stage6 (fun u => u.rd o1401_START_STAGE 0 == START_STAGE.reference),
    does (.startRefWaitExpiry 400000000000) stage6 (fun u => u.rd o1401_START_STAGE 0 == START_STAGE.media),
    decide (stage6.rdN o1401_START_REF_WAIT_S 0 * 1000000000 ≤ 400000000000),
    stage7.powered && stage7.rd o1401_START_STAGE 0 == START_STAGE.media && stage7.pwr.armedFirst == false && decide (stage7.rdN o1401_START_LANE_WAIT_MS 0 * 1000000 ≤ 400000000000),
    (((stage7.begin 400000000000).wr o2003_ANCHOR_FCNT 0 0).swapArm).1 == 0,
    does (.startLaneWaitExpiry 400000000000) stage7 (fun u => u.pwr.armedFirst && u.rd o2000_SWAP_STATE 0 == SWAP_STATE.armed)] = true := by
  decide +kernel

theorem wit_CaseTemperatureIsWatched : all [
    does (.caseTempSample 5 949) base (fun u => u.instActive .PWR_TEMP_HIGH noInst && u.rd o1400_CASE_TEMP_DC 0 == 949),
    does (.caseTempSample 5 (-100)) base (fun u => !u.instActive .PWR_TEMP_HIGH noInst),
    (inState DEVICE_STATE.running []).powered && (inState DEVICE_STATE.running []).pairState == PAIR_STATE.unpaired && decide (10 * base.rd o1400_TEMP_WARN_C 0 ≤ 949),
    does (.caseTempSample 5 950) (inState DEVICE_STATE.safe [(o1401_SAFE_REASON, 0, SAFE_REASON.command)]) (fun u => u.instActive .PWR_TEMP_STOP noInst && u.rd o1401_SAFE_REASON 0 == SAFE_REASON.command)] = true := by
  decide +kernel

/-- The logs with something set. -/
def alm (x : Alm) (m : List (Nat × Nat × Int)) : State := { base with alm := x }.put m
def latchedPoint : State := alm { points := [(.LEDGER_OVERDRAFT_RATE, { latched := true })] } []
def activePoint : State := alm { points := [(.LEDGER_OVERDRAFT_RATE, { latched := true, active := [(0, 0)] })] } []
def logged : State := alm { ring := [⟨8, 0, 1, 0, 0, 0, 0, []⟩, ⟨9, 0, 1, 0, 0, 0, 0, []⟩], nextSeq := 10 } []

/-- The first alarm of the list is the one that its point number names. -/
theorem wit_point : pointAlarm (pointNo .LEDGER_OVERDRAFT_RATE) = some .LEDGER_OVERDRAFT_RATE := by
  simp [pointAlarm, Alarm.all]

theorem wit_AcknowledgementsClearLatched : all [
    base.powered && activePoint.powered && latchedPoint.powered && wireVal o1501_LATCHED [1#8] == some (.int 1) && base.admits 4 o1501_LATCHED 2047 (.int 1),
    activePoint.alarmActive .LEDGER_OVERDRAFT_RATE && !latchedPoint.alarmActive .LEDGER_OVERDRAFT_RATE && (latchedPoint.point .LEDGER_OVERDRAFT_RATE).latched,
    activePoint.admits 4 o1500_ACK_ALL 0 (.int 0) && latchedPoint.admits 4 o1500_ACK_ALL 0 (.int 0) && decide (latchedPoint.alm.staging.length < stagingSize),
    does (.ackAll 5 4) latchedPoint (fun u => okd u && !(u.point .LEDGER_OVERDRAFT_RATE).latched && u.alm.nextSeq == 1),
    does (.ackAll 5 4) activePoint (fun u => okd u && (u.point .LEDGER_OVERDRAFT_RATE).latched && u.alm.nextSeq == 0)] = true := by
  decide +kernel

theorem wit_AlarmsClearAndAreReported : all [
    does (.alarmClearTimer 10000000000) { activePoint with alm := { activePoint.alm with quiet := [⟨.LEDGER_OVERDRAFT_RATE, 0, 0⟩] } } (fun u => !u.instActive .LEDGER_OVERDRAFT_RATE 0),
    does (.alarmClearTimer 9999999999) { activePoint with alm := { activePoint.alm with quiet := [⟨.LEDGER_OVERDRAFT_RATE, 0, 0⟩] } } (fun u => u.instActive .LEDGER_OVERDRAFT_RATE 0),
    ({ activePoint with alm := { activePoint.alm with windows := [((4, Alarm.LEDGER_OVERDRAFT_RATE.rank), ⟨7, 3⟩)] } } : State).powered && (activePoint.port 4).session == some sess,
    (Alarm.all[0]?) == some Alarm.LEDGER_OVERDRAFT_RATE,
    base.rd o1506_EVENT_SEVERITY 4 != EVENT_SEVERITY.none && decide ((activePoint.point .LEDGER_OVERDRAFT_RATE).severity ≤ base.rdN o1506_EVENT_SEVERITY 4 + 1),
    does (.coalesceWindow 7 4 0) { activePoint with alm := { activePoint.alm with windows := [((4, Alarm.LEDGER_OVERDRAFT_RATE.rank), ⟨7, 3⟩)] } } (fun u => u.rd o1505_EVENTS_COALESCED 4 == 2 && u.out.length == 1 && u.alm.windows == [])] = true := by
  decide +kernel

theorem wit_RecordsAreReadAndStreamed : all [
    logged.powered && logged.alm.ring != [] && logged.mayRead 4 o1502_RING_DATA 0 && logged.ringOldest == 8,
    does (.ringData 5 4) (logged.put [(o1502_RING_READ_SEQ, 4, 8)]) (fun u => u.rd o1502_RING_READ_SEQ 4 == 10),
    does (.ringData 5 4) (logged.put [(o1502_RING_READ_SEQ, 4, 10)]) (fun u => u.last == ⟨0, some (.bytes [])⟩),
    does (.ringData 5 4) (logged.put [(o1502_RING_READ_SEQ, 4, 7)]) (fun u => u.last.value.isSome && u.rd o1502_RING_READ_SEQ 4 == 10),
    [VAULT_STATE.frozen, VAULT_STATE.recording].all (fun v => (alm {} [(o1503_VAULT_STATE, 0, v)]).admits 4 o1503_VAULT_CMD 0 (.int 0)),
    does (.vaultRearm 5 4) (alm {} [(o1503_VAULT_STATE, 0, VAULT_STATE.frozen)]) (fun u => okd u && u.rd o1503_VAULT_STATE 0 == VAULT_STATE.recording),
    does (.vaultRearm 5 4) (alm {} [(o1503_VAULT_STATE, 0, VAULT_STATE.recording)]) (answered stBUSY),
    base.admits 4 o1505_STREAM_ENABLE 3 (.int 1) && base.admits 4 o1505_STREAM_ENABLE 3 (.int 0),
    does (.streamEnable 5 4 3 true) base (fun u => okd u && (u.stream 3).on),
    does (.streamEnable 5 4 3 false) (alm { streams := [(3, { on := true })] } []) (fun u => okd u && !(u.stream 3).on),
    (alm { traceCount := [(2, 1000000)] } [(o1504_TRACE_ENABLE, 2, 1), (o1504_TRACE_SOURCE, 2, o1401_DEVICE_STATE), (o1504_TRACE_ROW, 2, 0xFFFFFFFF), (o1410_PD_STATE, 95, PD_STATE.on)]).pdOn 95,
    (alm { traceCount := [(2, 1000000)] } [(o1504_TRACE_ENABLE, 2, 1), (o1504_TRACE_SOURCE, 2, o1401_DEVICE_STATE), (o1504_TRACE_ROW, 2, 0xFFFFFFFF), (o1410_PD_STATE, 95, PD_STATE.on)]).powered && decide ((alm {} []).traceInterval 2 ≤ 1000000) && (alm {} [(o1504_TRACE_ENABLE, 2, 1)]).isOn o1504_TRACE_ENABLE 2,
    ((alm {} [(o1504_TRACE_SOURCE, 2, o1401_DEVICE_STATE), (o1504_TRACE_ROW, 2, 0xFFFFFFFF)]).traceValue 2).1.isSome,
    does (.traceSample 5 2) (alm { traceCount := [(2, 1000000)] } [(o1504_TRACE_ENABLE, 2, 1), (o1504_TRACE_SOURCE, 2, o1401_DEVICE_STATE), (o1504_TRACE_ROW, 2, 0xFFFFFFFF), (o1410_PD_STATE, 95, PD_STATE.on)]) (fun u => u.rd o1504_TRACE_SAMPLES 2 == 1 && u.alm.samples.length == 1)] = true := by
  decide +kernel

theorem wit_LinksAndTheTapAreNoted : all [
    base.powered && base.pwr.aon && ({ base with tap := ⟨some 1, true⟩ } : State).pwr.aon,
    does (.cpLinkChange 5 2 true) base (fun u => u.rd o1120_CP_LINK 2 == CP_LINK.up),
    does (.tapInstruction 5 3 true false) base (fun u => u.tap == ⟨some 3, true⟩),
    does (.tapInstruction 5 3 true true) { base with tap := ⟨some 1, true⟩ } (fun u => u.tap == {})] = true := by
  decide +kernel

/-- Every row of 1501h takes the write of LATCHED. -/
theorem latched_rows : ∀ r, r < 2048 → latchedPoint.admits 4 o1501_LATCHED r (.int 0) = true := by
  have h : (List.range 2048).all (fun r => latchedPoint.admits 4 o1501_LATCHED r (.int 0)) = true := by decide +kernel
  intro r hr
  exact List.all_eq_true.mp h r (List.mem_range.mpr hr)

theorem wit_ack_row : latchedPoint.admits 4 o1501_LATCHED (pointNo .LEDGER_OVERDRAFT_RATE) (.int 0) = true :=
  latched_rows _ (Nat.mod_lt _ (by decide))

end Sys2Proof.Tests
end

section
/-! SUPPORT. What an admitted or a refused command leaves, once for all commands of one write; then the load of a bank and the check of an image (R39, R42, R43, R62), up to the place
of an image and its signature. -/

namespace Sys2Proof.Machine

open Sys2Proof

/-! The frame of a command. -/

@[simp] theorem State.begin_bank (s : State) (t b : Nat) : (s.begin t).bank b = s.bank b := rfl
@[simp] theorem State.begin_bankState (s : State) (t b : Nat) : (s.begin t).bankState b = s.bankState b := rfl
@[simp] theorem State.begin_loadTarget (s : State) (t : Nat) : (s.begin t).loadTarget = s.loadTarget := rfl
@[simp] theorem State.begin_loadRuns (s : State) (t : Nat) : (s.begin t).loadRuns = s.loadRuns := rfl
@[simp] theorem State.begin_loadingBank (s : State) (t : Nat) : (s.begin t).loadingBank = s.loadingBank := rfl
theorem rd_withLed (s : State) (l : Led) (o r : Nat) : ({ s with led := l } : State).rd o r = s.rd o r := rfl
@[simp] theorem State.finish_led (s u : State) : (s.finish u).led = u.led := rfl
@[simp] theorem State.finish_last (s u : State) : (s.finish u).last = u.last := rfl

@[simp] theorem afterWrite_led (s : State) (o : Nat) : (s.afterWrite o).led = s.led := by
  unfold State.afterWrite
  split
  · dsimp only
    split <;> rfl
  · rfl

@[simp] theorem mirrorWrite_led (s : State) (c : Ctx) (o r : Nat) (d : ObjRow) (v : Val) : (s.mirrorWrite c o r d v).led = s.led := by
  unfold State.mirrorWrite
  dsimp only
  split
  · rfl
  · split <;> rfl

/-- The note of a refusal is at most one object of another chapter. -/
theorem noteRefusal_ctl (s : State) (o r k : Nat) : (s.noteRefusal o r k).ctl = s.ctl := by
  unfold State.noteRefusal
  split
  · rfl
  · split <;> rfl

/-- A code below 1301h belongs to no chapter that notes its refusals. -/
theorem noteRefusal_low (s : State) (o r : Nat) {k : Nat} (h : k < 0x1301) : s.noteRefusal o r k = s := by
  unfold State.noteRefusal
  rw [if_neg (by omega), if_neg (by omega)]

/-- A command that is an admitted write whose handler refuses: what the handler left, the note of its refusal, and its code. -/
theorem opCmd_refused {s w : State} {port o r k : Nat} {v : Val} {h : Handler} (ha : s.admits port o r v = true)
    (hk : ∀ c, h c (effRow c o r) v s = (k, w)) (hne : k ≠ stOK) (hctl : w.ctl = s.ctl) :
    s.opCmd h port o r v = (w.noteRefusal o r k).answer k := by
  obtain ⟨c, d, -, -, -, he, hw⟩ := opWrite_admitted h ha
  rw [hk c, if_neg hne] at hw
  unfold State.opCmd
  rw [hw]
  refine flushEnds_none _ _ ?_
  rw [State.answer_ctl, noteRefusal_ctl, hctl, he]

/-- An accepted command at its instant: status 0, the ledger as the handler left it, and every object too but those of every accepted write. -/
theorem run_opCmd_accepted {s w : State} {t port o r : Nat} {v : Val} {h : Handler} (hp : s.powered = true) (ha : s.admits port o r v = true)
    (hk : ∀ c, h c (effRow c o r) v (s.begin t) = (stOK, w)) (hctl : w.ctl = s.ctl) :
    ∃ u, s.run t (fun s => s.opCmd h port o r v) = .next u ∧ u.last = ⟨0, none⟩ ∧ u.led = w.led ∧
      ∀ o' r', o' ∉ writeSideObjects → u.rd o' r' = w.rd o' r' := by
  have ha' : (s.begin t).admits port o r v = true := by rw [begin_admits, ha]
  have hend : w.ctl.endAfter = [] := by
    obtain ⟨_, _, -, -, -, he, -⟩ := opWrite_admitted h ha
    rw [hctl, he]
  obtain ⟨c, d, -, -, -, hcmd⟩ := opCmd_accepted h ha' (fun c _ => by rw [hk c]) (fun c _ => by rw [hk c, hend])
  rw [hk c] at hcmd
  refine ⟨_, s.run_powered t _ hp, ?_, ?_, fun o' r' ho => ?_⟩
  · rw [State.finish_last, hcmd]
    rfl
  · rw [State.finish_led, hcmd, State.answer_led, mirrorWrite_led, afterWrite_led]
  · simp only [writeSideObjects, List.mem_cons, List.not_mem_nil, or_false, not_or] at ho
    rw [State.finish_rd, hcmd, State.rd_answer, mirrorWrite_rd _ _ _ _ _ _ ho.2, afterWrite_rd _ _ ho.1]

/-- A command that its handler refuses with a code that no chapter notes, and without a change: the code alone is left. -/
theorem run_opCmd_refused {s : State} {t port o r k : Nat} {v : Val} {h : Handler} (hp : s.powered = true) (ha : s.admits port o r v = true)
    (hk : ∀ c, h c (effRow c o r) v (s.begin t) = (k, s.begin t)) (hne : k ≠ stOK) (hlow : k < 0x1301) :
    ∃ u, s.run t (fun s => s.opCmd h port o r v) = .next u ∧ u.last = ⟨k, none⟩ ∧ u.led = s.led ∧ ∀ o' r', u.rd o' r' = s.rd o' r' := by
  have ha' : (s.begin t).admits port o r v = true := by rw [begin_admits, ha]
  have hcmd := opCmd_refused ha' hk hne rfl
  rw [noteRefusal_low _ _ _ hlow] at hcmd
  refine ⟨_, s.run_powered t _ hp, ?_, ?_, fun o' r' => ?_⟩
  · rw [State.finish_last, hcmd]
    rfl
  · rw [State.finish_led, hcmd, State.answer_led, State.begin_led]
  · rw [State.finish_rd, hcmd, State.rd_answer, State.begin_rd]

/-! Banks. -/

theorem bank_eq_of_led {s u : State} (h : u.led = s.led) (b : Nat) : u.bank b = s.bank b := by
  unfold State.bank
  rw [h]

theorem mem_bankList {b : Nat} : b ∈ bankList ↔ b = 0 ∨ b = 1 := by simp [bankList]

/-- The load target is one of the two banks. -/
theorem loadTarget_mem {s : State} {b : Nat} (h : s.loadTarget = some b) : b ∈ bankList := by
  rw [mem_bankList]
  unfold State.loadTarget at h
  split at h
  · have hb := Option.some.inj h
    split at hb
    · unfold otherBank at hb
      omega
    · exact .inl hb.symm
  · split at h
    · exact .inl (Option.some.inj h).symm
    · split at h
      · exact .inr (Option.some.inj h).symm
      · cases h

/-- With no load running, no bank is in 'loading'. -/
theorem bankState_ne_loading {s : State} (h : s.loadRuns = false) {b : Nat} (hb : b ∈ bankList) : s.bankState b ≠ BANK_STATE.loading := by
  have hidle := List.any_eq_false.mp h b hb
  simp only [Bool.or_eq_true, beq_iff_eq, not_or] at hidle
  exact hidle.1

/-- The one bank in 'loading' is the bank that loads. -/
theorem loadingBank_eq_some {s : State} {b : Nat} (hb : b ∈ bankList) (h : ∀ b' ∈ bankList, s.bankState b' = BANK_STATE.loading ↔ b' = b) :
    s.loadingBank = some b := by
  rcases mem_bankList.mp hb with rfl | rfl
  · have h0 := (h 0 (by decide)).mpr rfl
    simp [State.loadingBank, bankList, h0]
  · have h0 : s.bankState 0 ≠ BANK_STATE.loading := fun e => absurd ((h 0 (by decide)).mp e) (by decide)
    have h1 := (h 1 (by decide)).mpr rfl
    simp [State.loadingBank, bankList, h0, h1]

/-- What reads neither the objects that a bank loses nor the bank that was active last sees only the bank and its state change. -/
theorem emptyBank_eq_of_frame {α : Type} (f : State → α) (hled : ∀ w : State, f { w with led := { w.led with lastActive := none } } = f w)
    (hwr : ∀ (w : State) (o r : Nat) (v : Int), o ≠ o2001_BANK_STATE → f (w.wr o r v) = f w) (s : State) (b : Nat) (st : Int) (x : Bank) :
    f (s.emptyBank b st x) = f ((s.setBank b x).setBankState b st) := by
  have hlast : ∀ (w : State) (p : Prop) [Decidable p], f (if p then { w with led := { w.led with lastActive := none } } else w) = f w := by
    intro w p _
    split
    · exact hled w
    · rfl
  unfold State.emptyBank
  refine (hlast _ _).trans ?_
  iterate 6 rw [hwr _ _ _ _ (by decide)]

theorem emptyBank_ctl (s : State) (b : Nat) (st : Int) (x : Bank) : (s.emptyBank b st x).ctl = s.ctl :=
  emptyBank_eq_of_frame (·.ctl) (fun _ => rfl) (fun _ _ _ _ _ => rfl) s b st x

theorem emptyBank_bank_same (s : State) (b : Nat) (st : Int) (x : Bank) : (s.emptyBank b st x).bank b = x :=
  (emptyBank_eq_of_frame (·.bank b) (fun _ => rfl) (fun _ _ _ _ _ => rfl) s b st x).trans (s.bank_setBank b x)

/-- Emptying a bank moves that bank alone to its new state. -/
theorem emptyBank_bankState (s : State) (b : Nat) (st : Int) (x : Bank) (b' : Nat) :
    (s.emptyBank b st x).bankState b' = if b' = b then st else s.bankState b' := by
  rw [emptyBank_eq_of_frame (·.bankState b') (fun _ => rfl) (fun w _ _ v ho => w.rd_wr_obj v ho.symm)]
  unfold State.bankState State.setBankState
  split
  · next e => rw [e, State.rd_wr_same]
  · next e => rw [State.rd_wr_ne _ _ (by simpa using e), State.rd_setBank]

/-! Transfers (R43, R62). -/

/-- An 'open' with a load target and no load running empties the target and sets the offset to 0. -/
theorem writeLoadCmd_open {s : State} {b : Nat} (ht : s.loadTarget = some b) (hr : s.loadRuns = false) (c : Ctx) (r : Nat) :
    writeLoadCmd c r (.int LOAD_CMD.open) s = (stOK, (s.emptyBank b BANK_STATE.loading {}).wr o2002_XFER_OFFSET 0 0) := by
  simp [writeLoadCmd, onInt, State.beginLoad, ht, hr]

/-- Bytes that end at the last offset of a load or before it are written, and the offset advances by their length. -/
theorem writeXferData_fits {s : State} {b : Nat} {d : Bytes} (hb : s.loadingBank = some b) (hf : (s.bank b).fromFlash = none)
    (hd : s.rdN o2002_XFER_OFFSET 0 + d.length ≤ xferLast + 1) (c : Ctx) (r : Nat) :
    writeXferData c r (.bytes d) s =
      (stOK, (s.setBank b { s.bank b with raw := overwrite (s.rdN o2002_XFER_OFFSET 0) d (s.bank b).raw }).wr o2002_XFER_OFFSET 0
        (s.rdN o2002_XFER_OFFSET 0 + d.length)) := by
  simp [writeXferData, onBytes, hb, hf, Nat.not_lt.mpr hd]

/-- Bytes that would end beyond the last offset are refused, and nothing changes. -/
theorem writeXferData_beyond {s : State} {b : Nat} {d : Bytes} (hb : s.loadingBank = some b) (hf : (s.bank b).fromFlash = none)
    (hd : xferLast + 1 < s.rdN o2002_XFER_OFFSET 0 + d.length) (c : Ctx) (r : Nat) :
    writeXferData c r (.bytes d) s = (stRANGE, s) := by
  simp [writeXferData, onBytes, hb, hf, hd]

/-- A load that 'open' begins is empty, and its first bytes go to offset 0. -/
theorem loadOpen_startsAtZero {s : State} {t port b : Nat} (hp : s.powered = true) (ht : s.loadTarget = some b) (hr : s.loadRuns = false)
    (ha : s.admits port o2002_LOAD_CMD 0 (.int LOAD_CMD.open) = true) :
    ∃ u, exec (.loadOpen t port) s = .next u ∧ u.rd o2002_XFER_OFFSET 0 = 0 ∧ u.loadingBank = some b ∧ (u.bank b).raw = [] := by
  obtain ⟨u, hu, -, hled, hrd⟩ := run_opCmd_accepted (h := writeLoadCmd) (t := t) hp ha
    (fun c => writeLoadCmd_open ((s.begin_loadTarget t).trans ht) ((s.begin_loadRuns t).trans hr) c _) (emptyBank_ctl _ _ _ _)
  have hstate : ∀ b', u.bankState b' = if b' = b then BANK_STATE.loading else s.bankState b' := by
    intro b'
    calc u.bankState b' = ((s.begin t).emptyBank b BANK_STATE.loading {}).bankState b' := by
          unfold State.bankState
          rw [hrd _ _ (by decide), State.rd_wr_obj _ _ (by decide)]
      _ = if b' = b then BANK_STATE.loading else s.bankState b' := by rw [emptyBank_bankState, State.begin_bankState]
  refine ⟨u, hu, ?_, ?_, ?_⟩
  · rw [hrd _ _ (by decide), State.rd_wr_same]
  · refine loadingBank_eq_some (loadTarget_mem ht) fun b' hb' => ?_
    have hidle := bankState_ne_loading hr hb'
    rw [hstate]
    split <;> simp_all
  · rw [bank_eq_of_led (hled.trans (State.wr_led _ _ _ _)), emptyBank_bank_same]

/-- XFER_DATA up to the last offset of a load. -/
theorem xferData_writes {s : State} {t port b : Nat} {d : Bytes} (hp : s.powered = true) (ha : s.admits port o2002_XFER_DATA 0 (.bytes d) = true)
    (hb : s.loadingBank = some b) (hf : (s.bank b).fromFlash = none) (hd : s.rdN o2002_XFER_OFFSET 0 + d.length ≤ xferLast + 1) :
    ∃ u, exec (.xferData t port d) s = .next u ∧ u.last = ⟨0, none⟩ ∧ (u.bank b).raw = overwrite (s.rdN o2002_XFER_OFFSET 0) d (s.bank b).raw ∧
      u.rdN o2002_XFER_OFFSET 0 = s.rdN o2002_XFER_OFFSET 0 + d.length := by
  obtain ⟨u, hu, hlast, hled, hrd⟩ := run_opCmd_accepted (h := writeXferData) (t := t) hp ha
    (fun c => writeXferData_fits ((s.begin_loadingBank t).trans hb) hf hd c _) rfl
  refine ⟨u, hu, hlast, ?_, ?_⟩
  · rw [bank_eq_of_led (hled.trans (State.wr_led _ _ _ _)), State.bank_setBank]
    rfl
  · unfold State.rdN
    rw [hrd _ _ (by decide), State.rd_wr_same]
    exact Int.toNat_natCast _

/-- XFER_DATA beyond the last offset of a load. -/
theorem xferData_refuses {s : State} {t port b : Nat} {d : Bytes} (hp : s.powered = true) (ha : s.admits port o2002_XFER_DATA 0 (.bytes d) = true)
    (hb : s.loadingBank = some b) (hf : (s.bank b).fromFlash = none) (hd : xferLast + 1 < s.rdN o2002_XFER_OFFSET 0 + d.length) :
    ∃ u, exec (.xferData t port d) s = .next u ∧ u.last = ⟨3, none⟩ ∧ u.bank b = s.bank b ∧ u.rdN o2002_XFER_OFFSET 0 = s.rdN o2002_XFER_OFFSET 0 := by
  obtain ⟨u, hu, hlast, hled, hrd⟩ := run_opCmd_refused (h := writeXferData) (t := t) hp ha
    (fun c => writeXferData_beyond ((s.begin_loadingBank t).trans hb) hf hd c _) (by decide) (by decide)
  refine ⟨u, hu, hlast, bank_eq_of_led hled b, ?_⟩
  unfold State.rdN
  rw [hrd]

/-! The check of an image (R39, R62). -/

/-- Bytes that are not an image of R32 with its signature fail with 0101h. -/
theorem checkImage_misplaced {raw : Bytes} {fw : Nat} {must : Bool} {vkey : Option Bytes} {fits : Bool} {p : Plan}
    (h : raw.length ≠ hdrLength raw + hdrSigLen raw ∨ hdrLength raw < imageMin ∨ imageMax < hdrLength raw) :
    checkImage raw fw must vkey fits p = 0x0101 := by
  unfold checkImage
  exact if_pos (by tauto)

/-- A chain of tests that ends in another value than that of its first test has failed that test. -/
theorem else_of_ite_eq {α : Type} {p : Prop} [Decidable p] {a b c : α} (hne : a ≠ c) (h : (if p then a else b) = c) : ¬p ∧ b = c := by
  split at h
  · exact absurd h hne
  · next hp => exact ⟨hp, h⟩

/-- A signed image that passes is followed by a signature of its full length, which the key verifies. -/
theorem checkImage_signed {raw : Bytes} {fw : Nat} {must : Bool} {vkey : Option Bytes} {fits : Bool} {p : Plan}
    (h : checkImage raw fw must vkey fits p = 1) (hs : hdrSigned raw = true) :
    raw.length = hdrLength raw + hssSigLen ∧ ∃ k, vkey = some k ∧ hssVerify k (raw.drop (hdrLength raw)) (raw.take (hdrLength raw)) = true := by
  unfold checkImage at h
  obtain ⟨hplace, h⟩ := else_of_ite_eq (by decide) h
  iterate 5 replace h := (else_of_ite_eq (by decide) h).2
  obtain ⟨hsig, -⟩ := else_of_ite_eq (by decide) h
  simp only [not_or, not_and, not_not] at hplace hsig
  obtain ⟨-, -, -, -, hlen⟩ := hplace
  obtain ⟨hsigLen, hverified⟩ := hsig hs
  refine ⟨hsigLen ▸ hlen, ?_⟩
  cases vkey with
  | none => simp at hverified
  | some k => exact ⟨k, rfl, by simpa using hverified⟩

/-- The end of a check notes the result of the image of the bank under check. -/
theorem ledgerCheck_result {s : State} {b : Nat} (fits : Plan → List Ladder → Bool) (plan : Plan)
    (hb : bankList.find? (fun x => s.bankState x == BANK_STATE.checking) = some b) :
    (s.ledgerCheck fits plan).rd o2001_CHECK_RESULT b =
      (checkImage (s.bank b).raw (s.rdN o1000_FW_RELEASE_NUM 0) (s.isOn o2002_REQUIRE_SIGNATURE 0 || s.policyLedger) (s.bank b).vkey
        (fits plan (ladders (s.bank b).raw)) plan : Nat) := by
  unfold State.ledgerCheck
  simp only [hb]
  split
  · refine (rd_withLed _ _ _ _).trans ?_
    simp (disch := decide) only [State.setBankState, State.rd_setBank, State.rd_wr_obj, State.rd_wr_same]
  · simp (disch := decide) only [State.setBankState, State.rd_wr_obj, State.rd_wr_same]

/-- The command that ends a check leaves in CHECK_RESULT what the check of the image gives, with the release, the policy and the key of the state before it. -/
theorem exec_ledgerCheck {s : State} {b : Nat} (t : Nat) (plan : Plan) (hp : s.powered = true)
    (hb : bankList.find? (fun x => s.bankState x == BANK_STATE.checking) = some b) :
    ∃ u, exec (.ledgerCheck t plan) s = .next u ∧ u.rd o2001_CHECK_RESULT b =
      (checkImage (s.bank b).raw (s.rdN o1000_FW_RELEASE_NUM 0) (s.isOn o2002_REQUIRE_SIGNATURE 0 || s.policyLedger) (s.bank b).vkey
        (planFits plan (ladders (s.bank b).raw)) plan : Nat) :=
  ⟨_, s.run_powered t (·.ledgerCheck planFits plan) hp, ledgerCheck_result (s := s.begin t) planFits plan hb⟩

/-- Settles O7, a clause each from what 'open' and XFER_DATA leave and from the result that the check notes. The bytes of a gap that XFER_OFFSET leaves are the model's choice (log
entry 144). -/
theorem xferDataStaysInRange : Obligations.XferDataStaysInRange := by
  refine ⟨rfl, rfl, fun s t port b hp => ⟨loadOpen_startsAtZero hp, fun data ha hb hf => ⟨xferData_writes hp ha hb hf, xferData_refuses hp ha hb hf⟩, fun plan hb => ?_⟩⟩
  obtain ⟨u, hu, hres⟩ := exec_ledgerCheck t plan hp hb
  refine ⟨u, hu, fun h => ?_, fun h hs => ?_⟩
  · rw [hres, checkImage_misplaced h]
    rfl
  · exact checkImage_signed (Int.natCast_inj.mp (hres.symm.trans h)) hs

end Sys2Proof.Machine
end

section
/-! SUPPORT. What an alarm, an admitted read and each operation on a timestamp queue leave; then the queues of R104-R107. -/

namespace Sys2Proof.Machine

open Sys2Proof

/-! What an alarm leaves (R463, R467, R468, R470, R438): it touches the alarms and logs, the pair, and five objects. -/

/-- The objects that raising or clearing an alarm may write: the vault's, the count of discarded records, and those of a release of custody. -/
def alarmSideObjects : List Nat := [o1503_VAULT_TRIGGER_SEQ, o1503_VAULT_STATE, o1502_RING_DISCARDED, o1601_LEASE_END, o1601_PAIR_STATE]

/-- A reading of the state that sees none of what an alarm touches. -/
structure AlarmBlind {α : Type} (f : State → α) : Prop where
  alm : ∀ (s : State) (x : Alm), f { s with alm := x } = f s
  pair : ∀ (s : State) (x : Pair), f { s with pair := x } = f s
  wr : ∀ (s : State) (o r : Nat) (v : Int), o ∈ alarmSideObjects → f (s.wr o r v) = f s

theorem alarmBlind_ptp : AlarmBlind State.ptp := ⟨fun _ _ => rfl, fun _ _ => rfl, fun _ _ _ _ _ => rfl⟩

theorem alarmBlind_rd {o : Nat} (r : Nat) (ho : o ∉ alarmSideObjects) : AlarmBlind (·.rd o r) :=
  ⟨fun _ _ => rfl, fun _ _ => rfl, fun s _ _ v hm => s.rd_wr_obj v fun e => ho (e ▸ hm)⟩

namespace AlarmBlind

variable {α : Type} {f : State → α} (hf : AlarmBlind f)
include hf

theorem vaultTake (s : State) (r : LogRec) (trigger : Bool) : f (s.vaultTake r trigger) = f s := by
  have htrig : o1503_VAULT_TRIGGER_SEQ ∈ alarmSideObjects := by decide
  have hstate : o1503_VAULT_STATE ∈ alarmSideObjects := by decide
  unfold State.vaultTake
  extract_lets -- the kernel finds a `dsimp` of this body too deep
  split_ifs
  · rfl
  · exact (hf.wr _ _ _ _ hstate).trans ((hf.wr _ _ _ _ htrig).trans (hf.alm _ _))
  · exact (hf.alm _ _).trans ((hf.wr _ _ _ _ hstate).trans ((hf.wr _ _ _ _ htrig).trans (hf.alm _ _)))
  · exact hf.alm _ _
  · exact (hf.wr _ _ _ _ hstate).trans ((hf.alm _ _).trans (hf.alm _ _))
  · exact (hf.alm _ _).trans (hf.alm _ _)

theorem stage (s : State) (r : LogRec) : f (s.stage r) = f s := by
  unfold State.stage
  split
  · exact (hf.wr _ _ _ _ (by decide)).trans (hf.alm _ _)
  · exact hf.alm _ _

theorem logRec (s : State) (kind point sev subsys inst : Nat) (data : Bytes) (trigger : Bool) :
    f (s.logRec kind point sev subsys inst data trigger) = f s := by
  unfold State.logRec
  exact (hf.stage _ _).trans ((hf.vaultTake _ _ _).trans (hf.alm _ _))

theorem noteChange (s : State) (a : Alarm) : f (s.noteChange a) = f s := by
  unfold State.noteChange
  induction portList generalizing s with
  | nil => rfl
  | cons p l ih =>
    refine (ih _).trans ?_
    dsimp only
    split
    · rfl
    · exact hf.alm _ _

theorem autoRelease (s : State) (sev subsys : Nat) : f (s.autoRelease sev subsys) = f s := by
  have hrel : f s.startRelease = f s := by
    unfold State.startRelease
    exact (hf.pair _ _).trans ((hf.wr _ _ _ _ (by decide)).trans (hf.wr _ _ _ _ (by decide)))
  unfold State.autoRelease State.ownRelease
  split_ifs
  · exact hrel
  · rfl
  · rfl

theorem setPoint (s : State) (a : Alarm) (p : AlarmPt) : f (s.setPoint a p) = f s := hf.alm _ _

theorem raise (s : State) (a : Alarm) (inst : Nat) : f (s.raise a inst) = f s := by
  unfold State.raise State.raiseWith
  dsimp only
  split
  · rfl
  · rw [hf.autoRelease, hf.noteChange]
    split <;> simp only [hf.logRec, hf.setPoint]

theorem clear (s : State) (a : Alarm) (inst : Nat) : f (s.clear a inst) = f s := by
  unfold State.clear
  dsimp only
  split
  · rfl
  · rw [hf.noteChange]
    split_ifs <;> simp only [hf.logRec, hf.setPoint]

/-- An event alarm is unseen by such a reading. -/
theorem pulse (s : State) (a : Alarm) (inst : Nat) : f (s.pulse a inst) = f s := (hf.clear _ _ _).trans (hf.raise _ _ _)

end AlarmBlind

/-! Reads of an object with a reading of its own. -/

@[simp] theorem State.finish_ptp (s u : State) : (s.finish u).ptp = u.ptp := rfl

/-- The premise on a read does not depend on the instant of its command. -/
@[simp] theorem begin_mayRead (s : State) (t port o r : Nat) : (s.begin t).mayRead port o r = s.mayRead port o r := rfl

/-- A read that passes its checks is its object's reading: the value it answers, or the code that refuses it. -/
theorem opRead_admitted {s : State} {port o r : Nat} (f : State → Nat × Val × State) (hr : s.mayRead port o r = true) :
    s.opRead port o r f = if (f s).1 = stOK then (f s).2.2.answerVal (f s).2.1 else (f s).2.2.answer (f s).1 := by
  unfold State.opRead
  exact if_neg (not_not.mpr (beq_iff_eq.mp hr))

/-- An admitted read at its instant that its object answers: status 0 with the value, network time and every object as the reading left them. -/
theorem run_opRead_answered {s w : State} {t port o r : Nat} {v : Val} {f : State → Nat × Val × State} (hp : s.powered = true)
    (hr : s.mayRead port o r = true) (hf : f (s.begin t) = (stOK, v, w)) :
    ∃ u, s.run t (fun s => s.opRead port o r f) = .next u ∧ u.last = ⟨0, some v⟩ ∧ u.ptp = w.ptp ∧ ∀ o' r', u.rd o' r' = w.rd o' r' := by
  have hread := opRead_admitted f (show (s.begin t).mayRead port o r = true from hr)
  rw [hf, if_pos rfl] at hread
  refine ⟨_, s.run_powered t _ hp, ?_⟩
  rw [hread]
  exact ⟨rfl, rfl, fun _ _ => rfl⟩

/-- An admitted read at its instant that its object refuses: the code without a value. -/
theorem run_opRead_refused {s w : State} {t port o r k : Nat} {v : Val} {f : State → Nat × Val × State} (hp : s.powered = true)
    (hr : s.mayRead port o r = true) (hf : f (s.begin t) = (k, v, w)) (hk : k ≠ stOK) :
    ∃ u, s.run t (fun s => s.opRead port o r f) = .next u ∧ u.last = ⟨k, none⟩ ∧ u.ptp = w.ptp := by
  have hread := opRead_admitted f (show (s.begin t).mayRead port o r = true from hr)
  rw [hf, if_neg hk] at hread
  refine ⟨_, s.run_powered t _ hp, ?_⟩
  rw [hread]
  exact ⟨rfl, rfl⟩

/-! The operations on a timestamp queue (R104-R107). -/

section
variable {s : State} {q : Nat}

theorem ptq_eq_of_ptp {u : State} (h : u.ptp = s.ptp) (q : Nat) : u.ptq q = s.ptq q := by
  unfold State.ptq
  rw [h]

@[simp] theorem ptq_setPtq (s : State) (q : Nat) (l : List PtqEntry) : (s.setPtq q l).ptq q = l := by simp [State.ptq, State.setPtq]

@[simp] theorem rd_setPtq_fill (s : State) (q : Nat) (l : List PtqEntry) : (s.setPtq q l).rd o2310_PTQ_FILL q = l.length := State.rd_wr_same _ _ _ _

theorem rd_setPtq (s : State) (q : Nat) (l : List PtqEntry) {o : Nat} (r : Nat) (h : o ≠ o2310_PTQ_FILL) : (s.setPtq q l).rd o r = s.rd o r :=
  State.rd_wr_obj _ _ h

@[simp] theorem ptq_setSpill (s : State) (q : Nat) (e : Option (Nat × PtqEntry)) (q' : Nat) : (s.setSpill q e).ptq q' = s.ptq q' := rfl

@[simp] theorem rd_setSpill (s : State) (q : Nat) (e : Option (Nat × PtqEntry)) (o r : Nat) : (s.setSpill q e).rd o r = s.rd o r := rfl

@[simp] theorem spill_setSpill (s : State) (q : Nat) (e : Nat × PtqEntry) : storeGet q (s.setSpill q (some e)).ptp.spill = some e :=
  storeGet_put_same _ _ _ _

@[simp] theorem ptq_discardStamp (s : State) (q q' : Nat) : (s.discardStamp q).ptq q' = s.ptq q' :=
  ptq_eq_of_ptp (alarmBlind_ptp.pulse _ _ _) q'

/-- A discard sets the sticky flag and counts (R107). -/
theorem rd_discardStamp (s : State) (q : Nat) :
    (s.discardStamp q).rd o2310_PTQ_OVERFLOW q = 1 ∧ (s.discardStamp q).rd o2310_PTQ_DISCARDS q = (s.rd o2310_PTQ_DISCARDS q + 1) % 4294967296 := by
  have hmod : objModulus o2310_PTQ_DISCARDS = 4294967296 := by decide
  constructor
  · refine ((alarmBlind_rd q (by decide)).pulse _ _ _).trans ?_
    exact (State.rd_wr_obj _ _ (by decide)).trans (State.rd_wr_same _ _ _ _)
  · refine ((alarmBlind_rd q (by decide)).pulse _ _ _).trans ((State.rd_wr_same _ _ _ _).trans ?_)
    rw [State.rd_wr_obj _ _ (by decide), hmod]
    rfl

theorem settleSpill_of_none (h : storeGet q s.ptp.spill = none) : s.settleSpill q = s := by simp [State.settleSpill, h]

/-- In the advance of its arrival a stamp that found its queue full is not yet discarded. -/
theorem settleSpill_of_same {e : Nat × PtqEntry} (h : storeGet q s.ptp.spill = some e) (hn : advances s.now ≤ e.1) : s.settleSpill q = s := by
  simp [State.settleSpill, h, Nat.not_lt.mpr hn]

theorem settleSpill_of_later {e : Nat × PtqEntry} (h : storeGet q s.ptp.spill = some e) (hn : e.1 < advances s.now) :
    s.settleSpill q = (s.setSpill q none).discardStamp q := by simp [State.settleSpill, h, hn]

theorem pushStamp_room (e : PtqEntry) (h : storeGet q s.ptp.spill = none) (hl : (s.ptq q).length < 16) :
    s.pushStamp q e = (true, s.setPtq q (s.ptq q ++ [e])) := by simp [State.pushStamp, settleSpill_of_none h, ptqSize, hl]

theorem pushStamp_full (e : PtqEntry) (h : storeGet q s.ptp.spill = none) (hl : 16 ≤ (s.ptq q).length) :
    s.pushStamp q e = (false, s.setSpill q (some (advances s.now, e))) := by
  simp [State.pushStamp, settleSpill_of_none h, ptqSize, Nat.not_lt.mpr hl, h]

theorem afterRemoval_of_none (l : List PtqEntry) (h : storeGet q s.ptp.spill = none) : s.afterRemoval q l = s.setPtq q l := by
  simp [State.afterRemoval, h]

theorem afterRemoval_of_some {e : Nat × PtqEntry} (l : List PtqEntry) (h : storeGet q s.ptp.spill = some e) :
    s.afterRemoval q l = (s.setSpill q none).setPtq q (l ++ [e.2]) := by simp [State.afterRemoval, h]

theorem popPtq_firmware (hq : q < 2) : s.popPtq q = (unstatedCode 1, [], s) := if_pos hq

theorem popPtq_empty (hq : 2 ≤ q) (hs : s.settleSpill q = s) (h : s.ptq q = []) : s.popPtq q = (stOK, zeros 16, s) := by
  simp [State.popPtq, Nat.not_lt.mpr hq, hs, h]

theorem popPtq_cons {e : PtqEntry} {l : List PtqEntry} (hq : 2 ≤ q) (hs : s.settleSpill q = s) (h : s.ptq q = e :: l) :
    s.popPtq q = (stOK, ptqBytes e, s.afterRemoval q l) := by
  simp [State.popPtq, Nat.not_lt.mpr hq, hs, h]

/-- MATCH_LANE and MATCH_SEQ ask for this entry's lane and sequence (R106). -/
def State.seeks (s : State) (e : PtqEntry) : Prop := e.lane = s.rdN o2311_MATCH_LANE 0 ∧ e.seq = s.rdN o2311_MATCH_SEQ 0

theorem matchPtq_none (hs : storeGet (s.rdN o2311_MATCH_QUEUE 0) s.ptp.spill = none) (h : ∀ e ∈ s.ptq (s.rdN o2311_MATCH_QUEUE 0), ¬ s.seeks e) :
    s.matchPtq = (stOK, zeros 16, s) := by
  have hfind : (s.ptq (s.rdN o2311_MATCH_QUEUE 0)).find? (fun e => e.lane == s.rdN o2311_MATCH_LANE 0 && e.seq == s.rdN o2311_MATCH_SEQ 0) = none := by
    simpa [State.seeks] using h
  simp only [State.matchPtq, settleSpill_of_none hs, hfind]

/-- The oldest entry that matches goes, and it alone. -/
theorem matchPtq_some {before after : List PtqEntry} {e : PtqEntry} (hs : storeGet (s.rdN o2311_MATCH_QUEUE 0) s.ptp.spill = none)
    (h : s.ptq (s.rdN o2311_MATCH_QUEUE 0) = before ++ e :: after) (hb : ∀ x ∈ before, ¬ s.seeks x) (he : s.seeks e) :
    s.matchPtq = (stOK, ptqBytes e, s.setPtq (s.rdN o2311_MATCH_QUEUE 0) (before ++ after)) := by
  have hfind : (before ++ e :: after).find? (fun e => e.lane == s.rdN o2311_MATCH_LANE 0 && e.seq == s.rdN o2311_MATCH_SEQ 0) = some e :=
    List.find?_eq_some_iff_append.mpr ⟨by simpa [State.seeks] using he, before, after, rfl, by simpa [State.seeks, imp_iff_not_or] using hb⟩
  have herase : (before ++ e :: after).erase e = before ++ after := by
    rw [List.erase_append_right _ fun hm => hb e hm he, List.erase_cons_head]
  simp only [State.matchPtq, settleSpill_of_none hs, h, hfind, herase, afterRemoval_of_none _ hs]

end

/-! The queues hold 16 entries (R104, R107). -/

/-- The stamp that found a queue full is discarded once the clock has advanced. -/
theorem fullQueue_discards {s : State} {q n : Nat} (e : PtqEntry) (h : storeGet q s.ptp.spill = none) (hl : 16 ≤ (s.ptq q).length)
    (hn : advances s.now < advances n) :
    (({ (s.pushStamp q e).2 with now := n }).settleSpill q).ptq q = s.ptq q ∧
      (({ (s.pushStamp q e).2 with now := n }).settleSpill q).rd o2310_PTQ_OVERFLOW q = 1 ∧
      (({ (s.pushStamp q e).2 with now := n }).settleSpill q).rd o2310_PTQ_DISCARDS q = (s.rd o2310_PTQ_DISCARDS q + 1) % 4294967296 := by
  rw [pushStamp_full e h hl]
  dsimp only
  rw [settleSpill_of_later (s := { s.setSpill q (some (advances s.now, e)) with now := n }) (spill_setSpill s q _) hn]
  obtain ⟨hover, hcount⟩ := rd_discardStamp (({ s.setSpill q (some (advances s.now, e)) with now := n }).setSpill q none) q
  exact ⟨ptq_discardStamp _ q q, hover, hcount⟩

/-- A removal in the advance of the stamp's arrival makes room for it, and nothing is discarded. -/
theorem fullQueue_pop_admits {s : State} {q : Nat} {x : PtqEntry} {l : List PtqEntry} (e : PtqEntry) (h : storeGet q s.ptp.spill = none)
    (hl : 16 ≤ (s.ptq q).length) (hq : 2 ≤ q) (hx : s.ptq q = x :: l) :
    ((s.pushStamp q e).2.popPtq q).2.2.ptq q = l ++ [e] ∧ ((s.pushStamp q e).2.popPtq q).2.2.rd o2310_PTQ_DISCARDS q = s.rd o2310_PTQ_DISCARDS q := by
  have hspill := spill_setSpill s q (advances s.now, e)
  rw [pushStamp_full e h hl, popPtq_cons (e := x) (l := l) hq (settleSpill_of_same hspill (Nat.le_refl _)) hx, afterRemoval_of_some l hspill]
  exact ⟨ptq_setPtq _ _ _, rd_setPtq _ _ _ _ (by decide)⟩

/-! The two ways of reading (R104, R106). -/

section
variable {s : State} {t port q : Nat}

theorem exec_ptqPop_firmware (hp : s.powered = true) (hr : s.mayRead port o2310_PTQ_POP q = true) (hq : q < 2) :
    ∃ u, exec (.ptqPop t port q) s = .next u ∧ u.last.status ≠ 0 ∧ u.last.value = none ∧ u.ptp = s.ptp := by
  obtain ⟨u, hu, hlast, hptp⟩ := run_opRead_refused (t := t) (f := fun s => asBytes (s.popPtq q)) hp hr
    (congrArg asBytes (popPtq_firmware hq)) (Nat.succ_ne_zero _)
  refine ⟨u, hu, ?_, ?_, hptp⟩
  · rw [hlast]
    exact Nat.succ_ne_zero _
  · rw [hlast]

theorem exec_ptqPop_empty (hp : s.powered = true) (hr : s.mayRead port o2310_PTQ_POP q = true) (hs : storeGet q s.ptp.spill = none) (hq : 2 ≤ q)
    (h : s.ptq q = []) : ∃ u, exec (.ptqPop t port q) s = .next u ∧ u.last = ⟨0, some (.bytes (zeros 16))⟩ ∧ u.ptp = s.ptp := by
  obtain ⟨u, hu, hlast, hptp, -⟩ := run_opRead_answered (t := t) (f := fun s => asBytes (s.popPtq q)) hp hr
    (congrArg asBytes (popPtq_empty (s := s.begin t) hq (settleSpill_of_none hs) h))
  exact ⟨u, hu, hlast, hptp⟩

theorem exec_ptqPop_cons {e : PtqEntry} {l : List PtqEntry} (hp : s.powered = true) (hr : s.mayRead port o2310_PTQ_POP q = true)
    (hs : storeGet q s.ptp.spill = none) (hq : 2 ≤ q) (h : s.ptq q = e :: l) :
    ∃ u, exec (.ptqPop t port q) s = .next u ∧ u.last = ⟨0, some (.bytes (ptqBytes e))⟩ ∧ u.ptq q = l ∧ u.rd o2310_PTQ_FILL q = l.length := by
  obtain ⟨u, hu, hlast, hptp, hrd⟩ := run_opRead_answered (t := t) (f := fun s => asBytes (s.popPtq q)) hp hr
    (congrArg asBytes (popPtq_cons (s := s.begin t) hq (settleSpill_of_none hs) h))
  rw [afterRemoval_of_none (s := s.begin t) l hs] at hptp hrd
  refine ⟨u, hu, hlast, ?_, ?_⟩
  · rw [ptq_eq_of_ptp hptp, ptq_setPtq]
  · rw [hrd, rd_setPtq_fill]

theorem exec_matchResult_none (hp : s.powered = true) (hr : s.mayRead port o2311_MATCH_RESULT 0 = true)
    (hs : storeGet (s.rdN o2311_MATCH_QUEUE 0) s.ptp.spill = none) (h : ∀ e ∈ s.ptq (s.rdN o2311_MATCH_QUEUE 0), ¬ s.seeks e) :
    ∃ u, exec (.matchResult t port) s = .next u ∧ u.last = ⟨0, some (.bytes (zeros 16))⟩ ∧ u.ptp = s.ptp := by
  obtain ⟨u, hu, hlast, hptp, -⟩ := run_opRead_answered (t := t) (f := fun s => asBytes s.matchPtq) hp hr
    (congrArg asBytes (matchPtq_none (s := s.begin t) hs h))
  exact ⟨u, hu, hlast, hptp⟩

theorem exec_matchResult_some {before after : List PtqEntry} {e : PtqEntry} (hp : s.powered = true) (hr : s.mayRead port o2311_MATCH_RESULT 0 = true)
    (hs : storeGet (s.rdN o2311_MATCH_QUEUE 0) s.ptp.spill = none) (h : s.ptq (s.rdN o2311_MATCH_QUEUE 0) = before ++ e :: after)
    (hb : ∀ x ∈ before, ¬ s.seeks x) (he : s.seeks e) :
    ∃ u, exec (.matchResult t port) s = .next u ∧ u.last = ⟨0, some (.bytes (ptqBytes e))⟩ ∧ u.ptq (s.rdN o2311_MATCH_QUEUE 0) = before ++ after := by
  obtain ⟨u, hu, hlast, hptp, -⟩ := run_opRead_answered (t := t) (f := fun s => asBytes s.matchPtq) hp hr
    (congrArg asBytes (matchPtq_some (s := s.begin t) hs h hb he))
  exact ⟨u, hu, hlast, (ptq_eq_of_ptp hptp _).trans (ptq_setPtq _ _ _)⟩

end

/-- Settles O14: a stamp at a queue with room and at a full one (R104, R107), then the reads of PTQ_POP and of MATCH_RESULT (R104, R106). -/
theorem timestampQueuesAreRead : Obligations.TimestampQueuesAreRead := by
  refine ⟨fun s q e hs => ⟨fun hl => ?_, fun hl => ?_⟩, fun s t port q hp => ⟨fun hr hs => ?_, fun hr hs => ?_⟩⟩
  · rw [pushStamp_room e hs hl]
    exact ⟨rfl, ptq_setPtq _ _ _, by simp⟩
  · refine ⟨?_, ?_, fun n => fullQueue_discards e hs hl, fun x l => fullQueue_pop_admits e hs hl⟩
    · rw [pushStamp_full e hs hl]
    · rw [pushStamp_full e hs hl, ptq_setSpill]
  · exact ⟨exec_ptqPop_firmware hp hr, exec_ptqPop_empty hp hr hs, fun e l => exec_ptqPop_cons hp hr hs⟩
  · exact ⟨exec_matchResult_none hp hr hs, fun before e after => exec_matchResult_some hp hr hs⟩

end Sys2Proof.Machine
end

section
/-! SUPPORT. A surface command that its handler refuses; then a surface that a frame can show (R309). -/

namespace Sys2Proof.Machine

open Sys2Proof

/-- A command on an object that is not one of each session acts on the row it names. -/
theorem effRow_eq (c : Ctx) {o : Nat} (r : Nat) (h : perSession o = false) : effRow c o r = r := by
  unfold effRow
  rw [h]
  rfl

/-- SURF_RESULT of the surface takes the code of a refusal of its chapter (R332). -/
theorem noteRefusal_surface (s : State) {o k : Nat} (r : Nat) (ho : o / 256 = 0x6100) (hlow : 0x1301 ≤ k) (hhigh : k ≤ 0x1306) :
    s.noteRefusal o r k = s.wr o6100_SURF_RESULT r k :=
  if_pos ⟨ho, hlow, hhigh⟩

/-- A write of one object keeps every other. -/
theorem keepsRegs_wr (s : State) (o r : Nat) (v : Int) : s.keepsRegs (s.wr o r v) [(o, r)] :=
  ⟨fun _ _ hne _ => s.rd_wr_ne v fun e => hne (List.mem_singleton.mpr e), fun _ _ _ => rfl⟩

/-- A surface command that its handler refuses with a code of the chapter, and without a change: the code is answered, SURF_RESULT of that surface takes it, and nothing else changes. -/
theorem run_opCmd_surfaceRefused {s : State} {t port o r k : Nat} {v : Val} {h : Handler} (hp : s.powered = true) (ha : s.admits port o r v = true)
    (ho : o / 256 = 0x6100) (hrow : perSession o = false) (hlow : 0x1301 ≤ k) (hhigh : k ≤ 0x1306) (hk : ∀ c, h c r v (s.begin t) = (k, s.begin t)) :
    ∃ u, s.run t (fun s => s.opCmd h port o r v) = .next u ∧ u.last = ⟨k, none⟩ ∧
      u.rd o6100_SURF_RESULT r = k ∧ s.keepsRegs u [(o6100_SURF_RESULT, r)] ∧ u.works = s.works := by
  have hcmd : (s.begin t).opCmd h port o r v = ((s.begin t).wr o6100_SURF_RESULT r k).answer k := by
    rw [opCmd_refused (s := s.begin t) ha (fun c => (congrArg (h c · v _) (effRow_eq c r hrow)).trans (hk c)) (by unfold stOK; omega) rfl,
      noteRefusal_surface _ r ho hlow hhigh]
  refine ⟨_, s.run_powered t _ hp, ?_⟩
  rw [hcmd]
  exact ⟨rfl, State.rd_wr_same _ _ _ _, keepsRegs_wr (s.begin t) _ _ _, rfl⟩

/-! A surface that a frame can show: 'in use' or 'escrow'. -/

section
variable {s : State} {h : Nat} (hst : s.rd o6100_SURF_STATE h = SURF_STATE.in_use ∨ s.rd o6100_SURF_STATE h = SURF_STATE.escrow)
include hst

theorem writeSurfData_shown (c : Ctx) (d : Bytes) : writeSurfData c h (.bytes d) s = (0x1302, s) := if_pos hst

theorem surfOpen_shown : s.surfOpen h = (0x1302, s) := if_pos hst

/-- With no latch instant due, 'open' meets the surface as the last command left it. -/
theorem writeSurfCmd_open_shown (c : Ctx) (hl : s.compsPlanned.filter s.latchDue = []) :
    writeSurfCmd c h (.int SURF_CMD.open) s = (0x1302, s) := by
  have hlatch : s.latchComps = s := if_pos hl
  simp [writeSurfCmd, onInt, hlatch, surfOpen_shown hst, stOK]

end

/-- Settles O31: the handlers of SURF_XFER_DATA and of 'open' refuse with 1302h and change nothing, and the note of that refusal is SURF_RESULT alone (R309, R332). -/
theorem shownSurfacesAreNotWritten : Obligations.ShownSurfacesAreNotWritten := by
  intro s t port h hp hst
  refine ⟨fun data ha => ?_, fun hl ha => ?_⟩
  · exact run_opCmd_surfaceRefused (h := writeSurfData) hp ha rfl rfl (by decide) (by decide) fun c =>
      writeSurfData_shown (s := s.begin t) hst c data
  · exact run_opCmd_surfaceRefused (h := writeSurfCmd) hp ha rfl rfl (by decide) (by decide) fun c =>
      writeSurfCmd_open_shown (s := s.begin t) hst c hl

end Sys2Proof.Machine
end

section
/-! SUPPORT. What a record of the log and an accepted or refused command of one write leave of the alarms; then the acknowledgements of R464. -/

namespace Sys2Proof.Machine

open Sys2Proof

/-! A record of the log (R467, R468, R470): it takes the next number and touches no point. -/

/-- A record that goes to the vault changes nothing of the logs that does not speak of the vault (R470). -/
theorem vaultTake_alm {α : Type} {g : Alm → α} (hvault : ∀ x v, g { x with vault := v } = g x) (hleft : ∀ x n, g { x with vaultLeft := n } = g x)
    (s : State) (r : LogRec) (trigger : Bool) : g (s.vaultTake r trigger).alm = g s.alm := by
  have hwr : ∀ (u : State) (o k : Nat) (v : Int), g (u.wr o k v).alm = g u.alm := fun u o k v => congrArg g (u.wr_alm o k v)
  unfold State.vaultTake
  extract_lets -- as for `AlarmBlind.vaultTake`
  split_ifs
  · rfl
  · exact (hwr _ _ _ _).trans ((hwr _ _ _ _).trans (hvault _ _))
  · exact (hleft _ _).trans ((hwr _ _ _ _).trans (hvault _ _))
  · exact hvault _ _
  · exact (hwr _ _ _ _).trans ((hleft _ _).trans (hvault _ _))
  · exact (hleft _ _).trans (hvault _ _)

theorem stage_alm (s : State) (r : LogRec) : (s.stage r).alm.points = s.alm.points ∧ (s.stage r).alm.nextSeq = s.alm.nextSeq := by
  unfold State.stage
  split <;> exact ⟨rfl, rfl⟩

/-- While the queue has room a record waits there for the ring (R468). -/
theorem mem_stage {s : State} (r : LogRec) (h : s.alm.staging.length < stagingSize) : r ∈ (s.stage r).alm.staging := by
  unfold State.stage
  rw [if_neg (Nat.not_le.mpr h)]
  exact List.mem_append_right _ (List.mem_singleton_self r)

section
variable (s : State) (kind point sev subsys inst : Nat) (data : Bytes) (trigger : Bool)

theorem logRec_points : (s.logRec kind point sev subsys inst data trigger).alm.points = s.alm.points := by
  unfold State.logRec
  exact (stage_alm _ _).1.trans (vaultTake_alm (g := Alm.points) (fun _ _ => rfl) (fun _ _ => rfl) _ _ _)

theorem logRec_nextSeq : (s.logRec kind point sev subsys inst data trigger).alm.nextSeq = s.alm.nextSeq + 1 := by
  unfold State.logRec
  exact (stage_alm _ _).2.trans (vaultTake_alm (g := Alm.nextSeq) (fun _ _ => rfl) (fun _ _ => rfl) _ _ _)

theorem logRec_staged (h : s.alm.staging.length < stagingSize) :
    ∃ r ∈ (s.logRec kind point sev subsys inst data trigger).alm.staging, r.kind = kind ∧ r.seq = s.alm.nextSeq := by
  unfold State.logRec
  refine ⟨_, mem_stage _ ?_, rfl, rfl⟩
  rw [vaultTake_alm (g := Alm.staging) (fun _ _ => rfl) (fun _ _ => rfl) _ _ _]
  exact h

end

theorem point_congr {s u : State} (h : u.alm.points = s.alm.points) (a : Alarm) : u.point a = s.point a := by
  unfold State.point
  rw [h]

/-! The frame of a command of one write, for the alarms. -/

theorem alarmBlind_ctl : AlarmBlind State.ctl := ⟨fun _ _ => rfl, fun _ _ => rfl, fun _ _ _ _ _ => rfl⟩
theorem alarmBlind_orders : AlarmBlind State.orders := ⟨fun _ _ => rfl, fun _ _ => rfl, fun _ _ _ _ _ => rfl⟩
theorem alarmBlind_works : AlarmBlind State.works := ⟨fun _ _ => rfl, fun _ _ => rfl, fun _ _ _ _ _ => rfl⟩

/-- What follows every accepted write touches neither the alarms and logs nor the works, and orders nothing. -/
theorem afterWrite_frame (s : State) (o : Nat) :
    (s.afterWrite o).alm = s.alm ∧ (s.afterWrite o).works = s.works ∧ (s.afterWrite o).orders = s.orders := by
  unfold State.afterWrite
  split
  · dsimp only
    split <;> exact ⟨rfl, rfl, rfl⟩
  · exact ⟨rfl, rfl, rfl⟩

theorem mirrorWrite_frame (s : State) (c : Ctx) (o r : Nat) (d : ObjRow) (v : Val) :
    (s.mirrorWrite c o r d v).alm = s.alm ∧ (s.mirrorWrite c o r d v).works = s.works ∧ (s.mirrorWrite c o r d v).orders = s.orders := by
  unfold State.mirrorWrite
  dsimp only
  split
  · exact ⟨rfl, rfl, rfl⟩
  · split <;> exact ⟨rfl, rfl, rfl⟩

theorem finish_works {s u : State} (ho : u.orders = []) (hm : u.mem = s.mem) : (s.finish u).works = u.works := by
  unfold State.finish State.works
  simp only [ho, hm, carryOut]

theorem mem_of_works {s u : State} (h : u.works = s.works) : u.mem = s.mem := congrArg (fun w => w.2.2.2.2.2.2.2.2) h

theorem pwr_of_works {s u : State} (h : u.works = s.works) : u.pwr = s.pwr := congrArg (fun w => w.1.2.2.2.2.2.2) h

/-- An accepted command whose handler leaves the works and orders nothing: the alarms as the handler left them, the works as they were, and every object as the handler left it but
those of every accepted write. -/
theorem run_opCmd_accepted_alm {s w : State} {t port o r : Nat} {v : Val} {h : Handler} (hp : s.powered = true) (ha : s.admits port o r v = true)
    (hk : ∀ c, h c (effRow c o r) v (s.begin t) = (stOK, w)) (hctl : w.ctl = s.ctl) (hord : w.orders = []) (hworks : w.works = s.works) :
    ∃ u, s.run t (fun s => s.opCmd h port o r v) = .next u ∧ u.last = ⟨0, none⟩ ∧ u.alm = w.alm ∧ u.works = s.works ∧
      ∀ o' r', o' ∉ writeSideObjects → u.rd o' r' = w.rd o' r' := by
  obtain ⟨u, hu, hlast, -, hrd⟩ := run_opCmd_accepted hp ha hk hctl
  obtain ⟨_, _, -, -, -, hend, -⟩ := opWrite_admitted h ha
  obtain ⟨c, d, -, -, -, hcmd⟩ := opCmd_accepted (s := s.begin t) h ha (fun c _ => by rw [hk c]) (fun c _ => by rw [hk c, hctl, hend])
  rw [hk c] at hcmd
  obtain ⟨hma, hmw, hmo⟩ := mirrorWrite_frame (w.afterWrite o) c o r d v
  obtain ⟨haa, haw, hao⟩ := afterWrite_frame w o
  have hfin : u = (s.begin t).finish (((w.afterWrite o).mirrorWrite c o r d v).answer stOK) := by
    rw [s.run_powered t _ hp, hcmd] at hu
    exact (Host.Outcome.next.inj hu).symm
  have hw : ((w.afterWrite o).mirrorWrite c o r d v).works = s.works := hmw.trans (haw.trans hworks)
  refine ⟨u, hu, hlast, ?_, ?_, hrd⟩
  · rw [hfin]
    exact hma.trans haa
  · rw [hfin]
    exact (finish_works (hmo.trans (hao.trans hord)) (mem_of_works hw)).trans hw

/-- A command that its handler refuses with a code that no chapter notes, and without a change: only its answer is new. -/
theorem run_opCmd_refused_frame {s : State} {t port o r k : Nat} {v : Val} {h : Handler} (hp : s.powered = true) (ha : s.admits port o r v = true)
    (hk : ∀ c, h c (effRow c o r) v (s.begin t) = (k, s.begin t)) (hne : k ≠ stOK) (hlow : k < 0x1301) :
    s.run t (fun s => s.opCmd h port o r v) = .next ((s.begin t).finish ((s.begin t).answer k)) := by
  rw [s.run_powered t _ hp, opCmd_refused (s := s.begin t) ha hk hne rfl, noteRefusal_low _ _ _ hlow]

/-! Acknowledgements (R464). -/

/-- ALERT_OUT follows from the power, the device state, the level and what is active (R444): LATCHED is no part of it. -/
theorem alertOut_congr {s u : State} (hpwr : u.pwr = s.pwr) (hstate : u.rd o1401_DEVICE_STATE 0 = s.rd o1401_DEVICE_STATE 0)
    (hlevel : u.rd o1401_ALERT_LEVEL 0 = s.rd o1401_ALERT_LEVEL 0)
    (hpoint : ∀ a, (u.point a).active = (s.point a).active ∧ (u.point a).severity = (s.point a).severity) : u.alertOut = s.alertOut := by
  have hdue : u.alertDue = s.alertDue := by
    unfold State.alertDue State.alarmActive State.rdN
    congr 1
    funext a
    obtain ⟨hactive, hseverity⟩ := hpoint a
    rw [hactive, hseverity, hlevel]
  unfold State.alertOut State.pinsLive State.powered
  rw [hpwr, hstate, hdue]

theorem point_unlatch_same (s : State) (a : Alarm) : (s.unlatch a).point a = { s.point a with latched := false } := s.point_setPoint a _

theorem point_unlatch_ne (s : State) {a b : Alarm} (h : b ≠ a) : (s.unlatch a).point b = s.point b := by
  unfold State.point State.unlatch State.setPoint
  rw [storeGet_put_ne _ h]

theorem point_foldl_unlatch (l : List Alarm) (s : State) (b : Alarm) :
    (l.foldl State.unlatch s).point b = if b ∈ l then { s.point b with latched := false } else s.point b := by
  induction l generalizing s with
  | nil => rfl
  | cons a l ih =>
    rw [List.foldl_cons, ih]
    by_cases hb : b = a
    · subst hb
      simp [point_unlatch_same]
    · simp [point_unlatch_ne s hb, hb]

theorem foldl_unlatch_alm (l : List Alarm) (s : State) :
    (l.foldl State.unlatch s).alm.nextSeq = s.alm.nextSeq ∧ (l.foldl State.unlatch s).alm.staging = s.alm.staging := by
  induction l generalizing s with
  | nil => exact ⟨rfl, rfl⟩
  | cons a l ih => exact ih (s.unlatch a)

/-- What an acknowledgement does: LATCHED goes on the points of a list, with one record when there is one. -/
def State.acknowledge (s : State) (l : List Alarm) (point subsys : Nat) : State :=
  if l = [] then s else (l.foldl State.unlatch s).logRec 5 point 0 subsys noInst [] false

/-- `n` records of acknowledgements were made after `s`; a single one waits for the ring when the queue had room (R464, R468). -/
def State.recorded (s u : State) (n : Nat) : Prop :=
  u.alm.nextSeq = s.alm.nextSeq + n ∧ (n = 1 → s.alm.staging.length < stagingSize → ∃ r ∈ u.alm.staging, r.kind = 5 ∧ r.seq = s.alm.nextSeq)

section
variable (s : State) (l : List Alarm) (point subsys : Nat)

theorem point_acknowledge (b : Alarm) :
    (s.acknowledge l point subsys).point b = if b ∈ l then { s.point b with latched := false } else s.point b := by
  unfold State.acknowledge
  by_cases h : l = []
  · subst h
    rfl
  · rw [if_neg h, point_congr (logRec_points ..), point_foldl_unlatch]

/-- An acknowledgement changes no point but in LATCHED. -/
theorem point_acknowledge_active (b : Alarm) : ((s.acknowledge l point subsys).point b).active = (s.point b).active ∧
    ((s.acknowledge l point subsys).point b).severity = (s.point b).severity := by
  rw [point_acknowledge]
  split <;> exact ⟨rfl, rfl⟩

theorem recorded_acknowledge : s.recorded (s.acknowledge l point subsys) (if l = [] then 0 else 1) := by
  unfold State.acknowledge
  by_cases h : l = []
  · simp [State.recorded, h]
  · obtain ⟨hseq, hstaging⟩ := foldl_unlatch_alm l s
    rw [if_neg h, if_neg h]
    refine ⟨?_, fun _ hroom => ?_⟩
    · rw [logRec_nextSeq, hseq]
    · rw [← hseq]
      rw [← hstaging] at hroom
      exact logRec_staged _ _ _ _ _ _ _ _ hroom

variable {s l point subsys}

/-- A reading that sees no alarm sees no acknowledgement. -/
theorem AlarmBlind.acknowledge {α : Type} {f : State → α} (hf : AlarmBlind f) : f (s.acknowledge l point subsys) = f s := by
  have hfold : f (l.foldl State.unlatch s) = f s := by
    induction l generalizing s with
    | nil => rfl
    | cons a l ih => exact ih.trans (hf.setPoint _ _ _)
  unfold State.acknowledge
  split
  · rfl
  · exact (hf.logRec _ _ _ _ _ _ _ _).trans hfold

/-- A command whose handler acknowledges the points of a list. -/
theorem run_opCmd_acknowledge {t port o r : Nat} {v : Val} {h : Handler} (hp : s.powered = true) (ha : s.admits port o r v = true)
    (hk : ∀ c, h c (effRow c o r) v (s.begin t) = (stOK, (s.begin t).acknowledge l point subsys)) :
    ∃ u, s.run t (fun s => s.opCmd h port o r v) = .next u ∧ u.last = ⟨0, none⟩ ∧
      (∀ b, u.point b = if b ∈ l then { s.point b with latched := false } else s.point b) ∧
      s.recorded u (if l = [] then 0 else 1) ∧ u.works = s.works ∧ u.alertOut = s.alertOut := by
  obtain ⟨u, hu, hlast, halm, hworks, hrd⟩ :=
    run_opCmd_accepted_alm hp ha hk alarmBlind_ctl.acknowledge alarmBlind_orders.acknowledge alarmBlind_works.acknowledge
  have hpoint : ∀ b, u.point b = ((s.begin t).acknowledge l point subsys).point b := point_congr (congrArg Alm.points halm)
  refine ⟨u, hu, hlast, fun b => (hpoint b).trans (point_acknowledge ..), ?_, hworks, ?_⟩
  · have hrec := recorded_acknowledge (s.begin t) l point subsys
    unfold State.recorded at hrec ⊢
    rw [halm]
    exact hrec
  · refine alertOut_congr (pwr_of_works hworks) ?_ ?_ fun b => ?_
    · exact (hrd _ 0 (by decide)).trans (alarmBlind_rd 0 (by decide)).acknowledge
    · exact (hrd _ 0 (by decide)).trans (alarmBlind_rd 0 (by decide)).acknowledge
    · rw [hpoint]
      exact point_acknowledge_active ..

end

/-! The two handlers. -/

section
variable {s : State} {pt : Nat} {a : Alarm} (hpt : pointAlarm pt = some a)
include hpt

theorem writeLatched_active (c : Ctx) (i : Int) (h : s.alarmActive a = true) : writeLatched c pt (.int i) s = (stBUSY, s) := by
  simp [writeLatched, onInt, hpt, h]

theorem writeLatched_inactive (c : Ctx) (i : Int) (h : s.alarmActive a = false) :
    writeLatched c pt (.int i) s = (stOK, s.acknowledge (if (s.point a).latched then [a] else []) (pointNo a) (s.point a).subsys) := by
  by_cases hl : (s.point a).latched = true <;> simp [writeLatched, onInt, hpt, h, hl, State.acknowledge]

end

/-- The points that ACK_ALL acknowledges: latched and not active. -/
def State.ackable (s : State) : List Alarm := Alarm.all.filter (fun a => !s.alarmActive a && (s.point a).latched)

theorem mem_alarm_all (a : Alarm) : a ∈ Alarm.all := by cases a <;> decide

theorem mem_ackable {s : State} {a : Alarm} : a ∈ s.ackable ↔ s.alarmActive a = false ∧ (s.point a).latched = true := by
  simp [State.ackable, mem_alarm_all]

/-- LATCHED stays on exactly the points that are active. -/
theorem unlatched_if_ackable (s : State) (a : Alarm) :
    (if a ∈ s.ackable then { s.point a with latched := false } else s.point a) = { s.point a with latched := s.alarmActive a && (s.point a).latched } := by
  by_cases h : a ∈ s.ackable
  · obtain ⟨hact, -⟩ := mem_ackable.mp h
    simp [h, hact]
  · have hkept : (s.alarmActive a && (s.point a).latched) = (s.point a).latched := by
      cases hl : (s.point a).latched with
      | true => simpa [mem_ackable, hl] using h
      | false => simp
    rw [if_neg h, hkept]

theorem ackable_eq_nil {s : State} : s.ackable = [] ↔ ¬ Alarm.all.any (fun a => !s.alarmActive a && (s.point a).latched) = true := by
  simp [State.ackable]

theorem writeAckAll_int (s : State) (c : Ctx) (r : Nat) (i : Int) : writeAckAll c r (.int i) s = (stOK, s.acknowledge s.ackable 0xFFFF 0) := by
  unfold State.acknowledge
  by_cases h : s.ackable = []
  · rw [if_pos h]
    exact if_pos h
  · rw [if_neg h]
    exact if_neg h

/-! The commands. -/

theorem wireVal_latched_int {b : Bytes} {w : Val} (h : wireVal o1501_LATCHED b = some w) : ∃ i, w = .int i := by
  obtain ⟨d, hd, hb⟩ := Option.bind_eq_some_iff.mp h
  have hty : d.ty = .bool := by
    have : (findObj o1501_LATCHED).map ObjRow.ty = some .bool := by rfl
    rw [hd] at this
    exact Option.some.inj this
  unfold decodeVal at hb
  rw [hty] at hb
  dsimp only at hb
  split at hb
  · split at hb
    · exact ⟨_, (Option.some.inj hb).symm⟩
    · cases hb
  · cases hb

/-- A WRITE of LATCHED runs the same operation as the command of its own (R464). -/
theorem exec_objectWrite_latched {t port pt : Nat} {b : Bytes} {w : Val} (s : State) (h : wireVal o1501_LATCHED b = some w) :
    exec (.objectWrite t port o1501_LATCHED pt b) s = s.run t (fun s => s.opCmd writeLatched port o1501_LATCHED pt w) := by
  have hcode : laneCode o1501_LATCHED pt = (o1501_LATCHED, pt) := rfl
  have hhandler : handlerOf o1501_LATCHED = writeLatched := rfl
  show execObjectWrite t port o1501_LATCHED pt b s = _
  unfold execObjectWrite
  simp only [h, hcode, hhandler]
  rfl

section
variable {s : State} {t port : Nat} (hp : s.powered = true)
include hp

theorem run_latched_active {pt : Nat} {a : Alarm} {i : Int} (hpt : pointAlarm pt = some a) (ha : s.admits port o1501_LATCHED pt (.int i) = true)
    (h : s.alarmActive a = true) :
    s.run t (fun s => s.opCmd writeLatched port o1501_LATCHED pt (.int i)) = .next ((s.begin t).finish ((s.begin t).answer stBUSY)) :=
  run_opCmd_refused_frame hp ha (fun c => writeLatched_active (s := s.begin t) hpt c i h) (by decide) (by decide)

theorem run_latched_inactive {pt : Nat} {a : Alarm} {i : Int} (hpt : pointAlarm pt = some a) (ha : s.admits port o1501_LATCHED pt (.int i) = true)
    (h : s.alarmActive a = false) :
    ∃ u, s.run t (fun s => s.opCmd writeLatched port o1501_LATCHED pt (.int i)) = .next u ∧ u.last = ⟨0, none⟩ ∧
      u.point a = { s.point a with latched := false } ∧ (∀ b, b ≠ a → u.point b = s.point b) ∧
      s.recorded u (if (s.point a).latched then 1 else 0) ∧ u.works = s.works ∧ u.alertOut = s.alertOut := by
  obtain ⟨u, hu, hlast, hpoint, hrec, hworks, halert⟩ :=
    run_opCmd_acknowledge hp ha fun c => writeLatched_inactive (s := s.begin t) hpt c i h
  rw [show (s.begin t).point a = s.point a from rfl] at hpoint hrec
  refine ⟨u, hu, hlast, ?_, fun b hb => ?_, ?_, hworks, halert⟩
  · rw [hpoint]
    cases hl : (s.point a).latched with
    | true => exact if_pos (List.mem_singleton_self a)
    | false => simp [← hl]
  · rw [hpoint, if_neg]
    split <;> simp [hb]
  · cases hl : (s.point a).latched <;> simpa [hl] using hrec

theorem exec_ackAll_acknowledges (ha : s.admits port o1500_ACK_ALL 0 (.int 0) = true) :
    ∃ u, exec (.ackAll t port) s = .next u ∧ u.last = ⟨0, none⟩ ∧
      (∀ a, u.point a = { s.point a with latched := s.alarmActive a && (s.point a).latched }) ∧
      s.recorded u (if Alarm.all.any (fun a => !s.alarmActive a && (s.point a).latched) then 1 else 0) ∧ u.works = s.works ∧ u.alertOut = s.alertOut := by
  obtain ⟨u, hu, hlast, hpoint, hrec, hworks, halert⟩ :=
    run_opCmd_acknowledge hp ha fun c => writeAckAll_int (s.begin t) c _ 0
  refine ⟨u, hu, hlast, fun a => ?_, ?_, hworks, halert⟩
  · rw [hpoint]
    exact unlatched_if_ackable s a
  · rw [← ite_not]
    simp only [← ackable_eq_nil]
    exact hrec

end

/-- Settles O57: each of the two handlers acknowledges a list of points, the one point or all that are latched and not active (R464). -/
theorem acknowledgementsClearLatched : Obligations.AcknowledgementsClearLatched := by
  intro s t port hp recorded
  refine ⟨fun pt a run hpt hrun => ?_, fun ha => ?_⟩
  · obtain ⟨i, rfl, ha⟩ : ∃ i, run = s.run t (fun s => s.opCmd writeLatched port o1501_LATCHED pt (.int i)) ∧
        s.admits port o1501_LATCHED pt (.int i) = true := by
      rcases hrun with ⟨hexec, ha⟩ | ⟨value, w, hexec, hw, ha⟩
      · exact ⟨0, hexec, ha⟩
      · obtain ⟨i, rfl⟩ := wireVal_latched_int hw
        exact ⟨i, hexec.trans (exec_objectWrite_latched s hw), ha⟩
    refine ⟨fun hact => ?_, fun hinact => ?_⟩
    · exact ⟨_, run_latched_active hp hpt ha hact, rfl, rfl, ⟨fun _ _ _ _ => rfl, fun _ _ _ => rfl⟩, rfl, rfl⟩
    · exact run_latched_inactive hp hpt ha hinact
  · exact exec_ackAll_acknowledges hp ha

end Sys2Proof.Machine
end

section
/-! SUPPORT. Every command is one run, so that a step neither stops nor leaves an order over; then what the block as a whole keeps (log entries 1-3). -/

namespace Sys2Proof.Machine
open Sys2Proof

/-- Each command is one run at its instant: of a powered module, or, for an event on the supply, on a reset input or at the test access port, of the module in whatever state it is. -/
theorem exec_eq_run (c : Instr) (s : State) : ∃ t f, exec c s = s.run t f ∨ exec c s = s.runAny t f := by
  cases c with
  | aonPowerUp | aonLockout | nrstIn | tapInstruction => dsimp only [exec]; exact ⟨_, _, .inr rfl⟩
  | _ => dsimp only [exec]; exact ⟨_, _, .inl rfl⟩

/-- Settles O2: every command is a run, whose frame is that of `State.run_frame` or `State.runAny_frame`. That time is the greatest instant seen and that the frame store has
one canonical form are the model's choices (log entries 1 and 3). -/
theorem everyCommandGoesOn : Obligations.EveryCommandGoesOn := by
  intro c s
  obtain ⟨t, f, h | h⟩ := exec_eq_run c s
  · obtain ⟨u, hu, hpending, hnow, hform⟩ := s.run_frame t f
    exact ⟨u, h.trans hu, hpending, hnow ▸ Nat.le_max_left _ _, hform⟩
  · obtain ⟨u, hu, hpending, hnow, hform⟩ := s.runAny_frame t f
    exact ⟨u, h.trans hu, hpending, hnow ▸ Nat.le_max_left _ _, hform⟩

/-- Settles O3: a step is a command run to its end, which leaves no order over and keeps the form of the frame store, or it leaves the state as it was. The form is the model's choice
(log entry 3). -/
theorem soundStaysSound : Obligations.SoundStaysSound := by
  intro s u hsound hstep
  unfold step at hstep
  split at hstep
  · cases hstep
    exact hsound
  · next c rest _ =>
    obtain ⟨v, hv, -, -, horders, hmem⟩ := everyCommandGoesOn c { s with pending := rest }
    obtain rfl : v = u := Host.Outcome.next.inj (hv.symm.trans hstep)
    unfold State.sound at hsound ⊢
    rw [Bool.and_eq_true] at hsound
    rw [hmem hsound.1, horders]
    rfl

/-- Settles O1, by the two cases of `step` (log entry 1). -/
theorem stepTakesTheFront : Obligations.StepTakesTheFront := by
  refine ⟨fun _ _ _ => rfl, fun s h => ?_⟩
  unfold step
  rw [h]

/-- Settles O4: each of these fields of the reset state is empty as it is written. -/
theorem resetIsSound : Obligations.ResetIsSound :=
  ⟨rfl, rfl, rfl, rfl, rfl, rfl⟩

end Sys2Proof.Machine
end

section
/-! SUPPORT. What a command leaves when its write or its read is accepted, and when its handler refuses it: the handler's work with a few fields that every command touches, so that
any reading of the other fields is the work's own. -/

namespace Sys2Proof.Machine
open Sys2Proof

/-- What the end of a command sets beside its handler's work: the queue, the time, the objects that every accepted write may touch, the mark on a save under way, the link to the peer,
the frame store, what left the module and the answer. -/
structure CmdEnd where
  pending : List Instr
  now : Nat
  regs : Store (Nat × Nat) Int
  save : Option Save
  pair : Pair
  mem : List Host.Cell
  out : List Out
  last : OpResult

/-- The work of a handler at the end of its command. -/
def State.endOf (w : State) (e : CmdEnd) : State :=
  { w with pending := e.pending, now := e.now, regs := e.regs, ctl := { w.ctl with save := e.save }, pair := e.pair, mem := e.mem, orders := [], out := e.out, last := e.last }

/-- A command on `s` of a write of object `o` ended well with the work `w` of its handler. -/
structure CmdEnd.Accepted (e : CmdEnd) (s w : State) (o : Nat) : Prop where
  last : e.last = ⟨0, none⟩
  rd : ∀ o' r', o' ∉ writeSideObjects → (w.endOf e).rd o' r' = w.rd o' r'
  dirty : persistent o = false → ∀ r', (w.endOf e).rd o1200_RUNNING_DIRTY r' = w.rd o1200_RUNNING_DIRTY r'
  mem : e.mem = carryOut w.orders s.mem
  out : w.out <+: e.out
  save : persistent o = false → e.save = w.ctl.save
  pair : ownSide o = true → e.pair = w.pair

theorem afterWrite_eq_endOf (w : State) (o : Nat) : ∃ regs save, w.afterWrite o = { w with regs := regs, ctl := { w.ctl with save := save } } ∧
    (persistent o = false → save = w.ctl.save) := by
  unfold State.afterWrite
  split
  · next h =>
    dsimp only
    split
    · exact ⟨_, _, rfl, fun hp => absurd h (by simp [hp])⟩
    · exact ⟨_, w.ctl.save, rfl, fun _ => rfl⟩
  · exact ⟨w.regs, w.ctl.save, rfl, fun _ => rfl⟩

theorem mirrorWrite_eq_endOf (w : State) (c : Ctx) (o r : Nat) (d : ObjRow) (v : Val) : ∃ regs pair out, w.mirrorWrite c o r d v = { w with regs := regs, pair := pair, out := out } ∧
    w.out <+: out ∧ (ownSide o = true → pair = w.pair) := by
  unfold State.mirrorWrite
  dsimp only
  split
  · exact ⟨w.regs, w.pair, w.out, rfl, List.prefix_rfl, fun _ => rfl⟩
  next hn =>
    have hown : ownSide o = true → ∀ x : Pair, x = w.pair := fun h => absurd (.inr (.inr h)) hn
    split
    · exact ⟨w.regs, _, _, rfl, List.prefix_append _ _, fun h => hown h _⟩
    · exact ⟨_, _, _, rfl, List.prefix_append _ _, fun h => hown h _⟩

/-- What follows an accepted write, at the end of its command. -/
theorem finish_accepted (s w : State) (c : Ctx) (o r : Nat) (d : ObjRow) (v : Val) :
    ∃ e : CmdEnd, s.finish (((w.afterWrite o).mirrorWrite c o r d v).answer stOK) = w.endOf e ∧ e.Accepted s w o := by
  obtain ⟨regs, save, ha, hsave⟩ := afterWrite_eq_endOf w o
  obtain ⟨regs', pair, out, hm, hout, hown⟩ := mirrorWrite_eq_endOf (w.afterWrite o) c o r d v
  have hrd : ∀ o' r', ((w.endOf ⟨s.pending, s.now, regs', save, pair, carryOut w.orders s.mem, out, ⟨0, none⟩⟩).rd o' r') = ((w.afterWrite o).mirrorWrite c o r d v).rd o' r' := by
    intro o' r'
    rw [hm]
    rfl
  refine ⟨⟨s.pending, s.now, regs', save, pair, carryOut w.orders s.mem, out, ⟨0, none⟩⟩, ?_, rfl, fun o' r' ho => ?_, fun hp r' => ?_, rfl, ?_, hsave, fun h => (hown h).trans ((congrArg State.pair ha).trans rfl)⟩
  · rw [hm, ha]
    rfl
  · simp only [writeSideObjects, List.mem_cons, List.not_mem_nil, or_false, not_or] at ho
    rw [hrd, mirrorWrite_rd _ _ _ _ _ _ ho.2, afterWrite_rd _ _ ho.1]
  · rw [hrd, mirrorWrite_rd _ _ _ _ _ _ (by decide)]
    unfold State.afterWrite
    rw [hp]
    rfl
  · rw [ha] at hout
    exact hout

section
variable {s w : State} {t port o r : Nat} {v : Val} {h : Handler}

/-- A command that is no write of a session: its work, at the end of the command. -/
theorem run_work {f : State → State} (hp : s.powered = true) (hf : f (s.begin t) = w) : s.run t f = .next ((s.begin t).finish w) := by
  rw [s.run_powered t f hp, hf]

/-- An accepted command: its handler's work, but for what the end of every command touches. -/
theorem run_accepted (hp : s.powered = true) (ha : s.admits port o r v = true)
    (hk : ∀ c, s.ctxOf port = some c → c.port = port → h c (effRow c o r) v (s.begin t) = (stOK, w)) (hend : w.ctl.endAfter = s.ctl.endAfter) :
    ∃ e : CmdEnd, s.run t (fun s => s.opCmd h port o r v) = .next (w.endOf e) ∧ e.Accepted s w o := by
  have hnone : s.ctl.endAfter = [] := by
    obtain ⟨_, _, -, -, -, he, -⟩ := opWrite_admitted h ha
    exact he
  have hk' : ∀ c, s.ctxOf port = some c → h c (effRow c o r) v (s.begin t) = (stOK, w) := fun c hc => hk c hc (ctxOf_port hc)
  obtain ⟨c, d, hc, -, -, hcmd⟩ := opCmd_accepted (s := s.begin t) h ha (fun c hc => by rw [hk' c hc]) (fun c hc => by rw [hk' c hc, hend, hnone])
  rw [hk' c hc] at hcmd
  obtain ⟨e, he, hacc⟩ := finish_accepted (s.begin t) w c o r d v
  refine ⟨e, ?_, { hacc with }⟩
  rw [s.run_powered t _ hp, hcmd, he]

/-- A command that its handler refuses: what the handler left, the note of its refusal, and its code. -/
theorem run_refused {k : Nat} (hp : s.powered = true) (ha : s.admits port o r v = true)
    (hk : ∀ c, s.ctxOf port = some c → c.port = port → h c (effRow c o r) v (s.begin t) = (k, w)) (hne : k ≠ stOK) (hend : w.ctl.endAfter = s.ctl.endAfter) :
    s.run t (fun s => s.opCmd h port o r v) = .next ((s.begin t).finish ((w.noteRefusal o r k).answer k)) := by
  obtain ⟨c, d, hc, hport, -, hnone, hw⟩ := opWrite_admitted (s := s.begin t) h ha
  rw [hk c hc hport, if_neg hne] at hw
  rw [s.run_powered t _ hp]
  unfold State.opCmd
  rw [hw, flushEnds_none]
  rw [State.answer_ctl, noteRefusal_ctl, hend]
  exact hnone

/-- A command that its handler refuses without a change and with a code that no chapter notes: only the answer is new. -/
theorem run_refused_unchanged {k : Nat} (hp : s.powered = true) (ha : s.admits port o r v = true)
    (hk : ∀ c, s.ctxOf port = some c → c.port = port → h c (effRow c o r) v (s.begin t) = (k, s.begin t)) (hne : k ≠ stOK) (hlow : (s.begin t).noteRefusal o r k = s.begin t) :
    s.run t (fun s => s.opCmd h port o r v) = .next ((s.begin t).finish ((s.begin t).answer k)) := by
  rw [run_refused hp ha hk hne rfl, hlow]

/-- An admitted read at its instant that its object answers. -/
theorem run_answered {f : State → Nat × Val × State} (hp : s.powered = true) (hr : s.mayRead port o r = true) (hf : f (s.begin t) = (stOK, v, w)) :
    s.run t (fun s => s.opRead port o r f) = .next ((s.begin t).finish (w.answerVal v)) := by
  have hread := opRead_admitted f (show (s.begin t).mayRead port o r = true from hr)
  rw [hf, if_pos rfl] at hread
  rw [s.run_powered t _ hp, hread]

end

theorem keepsRegs_refl (s : State) (l : List (Nat × Nat)) : s.keepsRegs s l := ⟨fun _ _ _ _ => rfl, fun _ _ _ => rfl⟩

theorem State.keepsRegs.trans {s u w : State} {l : List (Nat × Nat)} (h : s.keepsRegs u l) (h' : u.keepsRegs w l) : s.keepsRegs w l :=
  ⟨fun o r hn hs => (h'.1 o r hn hs).trans (h.1 o r hn hs), fun o r hn => (h'.2 o r hn).trans (h.2 o r hn)⟩

/-- A write of a listed object. -/
theorem State.keepsRegs.wr {s u : State} {l : List (Nat × Nat)} (h : s.keepsRegs u l) {o r : Nat} (v : Int) (hm : (o, r) ∈ l) : s.keepsRegs (u.wr o r v) l :=
  h.trans ⟨fun _ _ hne _ => u.rd_wr_ne v fun e => hne (e ▸ hm), fun _ _ _ => rfl⟩

theorem State.rdOct_wrOct_ne (s : State) {o r o' r' : Nat} (b : Bytes) (h : (o', r') ≠ (o, r)) : (s.wrOct o r b).rdOct o' r' = s.rdOct o' r' := by
  unfold State.rdOct State.wrOct
  by_cases hb : b = octDefault o r
  · simp [hb, storeGet_del_ne h]
  · simp [hb, storeGet_put_ne pairLt h]

theorem State.keepsRegs.wrOct {s u : State} {l : List (Nat × Nat)} (h : s.keepsRegs u l) {o r : Nat} (b : Bytes) (hm : (o, r) ∈ l) : s.keepsRegs (u.wrOct o r b) l :=
  h.trans ⟨fun _ _ _ _ => rfl, fun _ _ hne => u.rdOct_wrOct_ne b fun e => hne (e ▸ hm)⟩

/-- The end of an accepted command touches no object but those of every accepted write. -/
theorem CmdEnd.Accepted.keepsRegs {e : CmdEnd} {s w x : State} {o : Nat} {l : List (Nat × Nat)} (h : e.Accepted s w o) (hw : x.keepsRegs w l) : x.keepsRegs (w.endOf e) l :=
  hw.trans ⟨fun o' r' _ hs => h.rd o' r' hs, fun _ _ _ => rfl⟩

/-- Without an order to the frame store, the works are the handler's. -/
theorem CmdEnd.Accepted.works {e : CmdEnd} {s w : State} {o : Nat} (h : e.Accepted s w o) (ho : w.orders = []) (hm : w.mem = s.mem) : (w.endOf e).works = w.works := by
  have hmem : e.mem = w.mem := by rw [h.mem, ho, hm]; rfl
  unfold State.works State.endOf
  rw [hmem]

theorem CmdEnd.Accepted.rdN {e : CmdEnd} {s w : State} {o o' : Nat} (r' : Nat) (h : e.Accepted s w o) (ho : o' ∉ writeSideObjects) : (w.endOf e).rdN o' r' = w.rdN o' r' :=
  congrArg Int.toNat (h.rd o' r' ho)

end Sys2Proof.Machine
end

section
/-! SUPPORT. Links of control ports and the test access port (R408, R488); the ring, the vault, the streams and the traces (R469-R472). -/

namespace Sys2Proof.Machine
open Sys2Proof

/-! Links and the test access port. -/

/-- Settles O60: a link writes one object, the test access port is a field of its own, and neither is anything else of the state. -/
theorem linksAndTheTapAreNoted : Obligations.LinksAndTheTapAreNoted := by
  refine fun s t => ⟨fun port up hp hport => ?_, fun code drives ha => ?_, fun code drives ha => ?_⟩
  · refine ⟨_, s.run_powered t _ hp, ?_⟩
    rw [if_pos hport]
    exact ⟨State.rd_wr_same _ _ _ _, keepsRegs_wr (s.begin t) _ _ _, rfl, rfl⟩
  all_goals
    have hload : ∀ trst, (s.begin t).tapLoad code drives trst = { s.begin t with tap := if trst then {} else ⟨some code, drives⟩ } := fun trst =>
      if_neg (by rw [State.begin_pwr, ha]; decide)
    refine ⟨_, rfl, ?_⟩
    dsimp only
    rw [hload]
    exact ⟨rfl, keepsRegs_refl s [], rfl, rfl⟩

/-! The ring (R469). -/

section
variable {s : State} {port : Nat}

/-- What a read of the ring leaves: RING_READ_SEQ past the last record read, where there is one. -/
def State.afterRing (s : State) (port : Nat) (last : Option LogRec) : State :=
  match last with
  | some r => s.wr o1502_RING_READ_SEQ port (if r.kind = 4 then r.seq else r.seq + 1 : Nat)
  | none => s

theorem afterRing_frame (s : State) (port : Nat) (r : Option LogRec) :
    (s.afterRing port r).alm = s.alm ∧ (s.afterRing port r).works = s.works ∧ (s.afterRing port r).orders = s.orders ∧
      s.keepsRegs (s.afterRing port r) [(o1502_RING_READ_SEQ, port)] := by
  cases r with
  | none => exact ⟨rfl, rfl, rfl, keepsRegs_refl _ _⟩
  | some r => exact ⟨rfl, rfl, rfl, keepsRegs_wr _ _ _ _⟩

/-- While the oldest record held is not beyond RING_READ_SEQ, RING_DATA takes up to 16 records from there and passes them. -/
theorem readRing_held (h : s.ringOldest ≤ s.rdN o1502_RING_READ_SEQ port) :
    s.readRing port =
      let l := (s.alm.ring.filter (fun r => decide (s.rdN o1502_RING_READ_SEQ port ≤ r.seq))).take 16
      (stOK, .bytes (l.map logBytes).flatten, s.afterRing port l.getLast?) := by
  simp only [State.readRing, if_neg (Nat.not_lt.mpr h)]
  rfl

/-- Where the oldest records have been overwritten, the bytes begin with their marker. -/
theorem readRing_overwritten {r : LogRec} (h : s.rdN o1502_RING_READ_SEQ port < s.ringOldest) (hr : s.alm.ring.head? = some r) :
    ∃ b x, s.readRing port = (stOK, .bytes (logBytes (lostMarker r.seq r.time (s.rdN o1502_RING_READ_SEQ port) (min (r.seq - s.rdN o1502_RING_READ_SEQ port) 4294967295)) ++ b),
      s.afterRing port x) := by
  have hold : s.ringOldest = r.seq := by simp [State.ringOldest, hr]
  simp only [State.readRing, if_pos h, hr]
  rw [hold]
  generalize List.take _ _ = l
  exact ⟨(l.map logBytes).flatten, (_ :: l).getLast?, rfl⟩

theorem exec_ringData_held {t : Nat} (hp : s.powered = true) (hr : s.mayRead port o1502_RING_DATA 0 = true) (h : s.ringOldest ≤ s.rdN o1502_RING_READ_SEQ port) :
    let l := (s.alm.ring.filter (fun r => decide (s.rdN o1502_RING_READ_SEQ port ≤ r.seq))).take 16
    ∃ u, exec (.ringData t port) s = .next u ∧ u.last = ⟨0, some (.bytes (l.map logBytes).flatten)⟩ ∧ u.alm = s.alm ∧
      (l = [] → u.rdN o1502_RING_READ_SEQ port = s.rdN o1502_RING_READ_SEQ port) ∧
      (∀ r, l.getLast? = some r → r.kind ≠ 4 → u.rdN o1502_RING_READ_SEQ port = r.seq + 1) ∧ s.keepsRegs u [(o1502_RING_READ_SEQ, port)] ∧ u.works = s.works := by
  intro l
  have hread : (s.begin t).readRing port = (stOK, .bytes (l.map logBytes).flatten, (s.begin t).afterRing port l.getLast?) := readRing_held (s := s.begin t) h
  obtain ⟨halm, hworks, horders, hregs⟩ := afterRing_frame (s.begin t) port l.getLast?
  refine ⟨_, run_answered hp hr hread, rfl, halm, fun hl => ?_, fun r hl hk => ?_, hregs, ?_⟩
  · rw [hl]
    rfl
  · rw [hl, State.finish_rdN, State.rdN_answerVal]
    show ((((s.begin t).wr _ _ _).rd _ _).toNat = _)
    rw [State.rd_wr_same, if_neg hk]
    rfl
  · exact (finish_works horders (mem_of_works hworks)).trans hworks

theorem exec_ringData_overwritten {t : Nat} (hp : s.powered = true) (hr : s.mayRead port o1502_RING_DATA 0 = true)
    (h : s.rdN o1502_RING_READ_SEQ port < s.ringOldest) (hne : s.alm.ring ≠ []) :
    ∃ u r b, exec (.ringData t port) s = .next u ∧ s.alm.ring.head? = some r ∧
      u.last = ⟨0, some (.bytes (logBytes (lostMarker r.seq r.time (s.rdN o1502_RING_READ_SEQ port) (min (r.seq - s.rdN o1502_RING_READ_SEQ port) 4294967295)) ++ b))⟩ ∧
      u.works = s.works := by
  obtain ⟨r, l, hring⟩ := List.exists_cons_of_ne_nil hne
  have hhead : s.alm.ring.head? = some r := by rw [hring]; rfl
  obtain ⟨b, x, hread⟩ := readRing_overwritten (s := s.begin t) h hhead
  obtain ⟨-, hworks, horders, -⟩ := afterRing_frame (s.begin t) port x
  exact ⟨_, r, b, run_answered hp hr hread, hhead, rfl, (finish_works horders (mem_of_works hworks)).trans hworks⟩

/-! The vault (R470). -/

theorem exec_vaultRearm_frozen {t : Nat} (hp : s.powered = true) (ha : s.admits port o1503_VAULT_CMD 0 (.int 0) = true)
    (h : s.rd o1503_VAULT_STATE 0 = VAULT_STATE.frozen) :
    ∃ u, exec (.vaultRearm t port) s = .next u ∧ u.last = ⟨0, none⟩ ∧ u.rd o1503_VAULT_STATE 0 = VAULT_STATE.recording ∧
      u.alm = s.alm ∧ s.keepsRegs u [(o1503_VAULT_STATE, 0)] ∧ u.works = s.works := by
  obtain ⟨e, he, hacc⟩ := run_accepted (t := t) (h := writeVaultCmd) hp ha (fun c _ _ => if_pos h) rfl
  exact ⟨_, he, hacc.last, (hacc.rd _ _ (by decide)).trans (State.rd_wr_same _ _ _ _), rfl, hacc.keepsRegs (keepsRegs_wr (s.begin t) _ _ _), hacc.works rfl rfl⟩

theorem exec_vaultRearm_busy {t : Nat} (hp : s.powered = true) (ha : s.admits port o1503_VAULT_CMD 0 (.int 0) = true)
    (h : s.rd o1503_VAULT_STATE 0 ≠ VAULT_STATE.frozen) :
    ∃ u, exec (.vaultRearm t port) s = .next u ∧ u.last = ⟨1, none⟩ ∧ s.keepsRegs u [] ∧ u.works = s.works :=
  ⟨_, run_refused_unchanged (t := t) (h := writeVaultCmd) hp ha (fun c _ _ => if_neg h) (by decide) (noteRefusal_low _ _ _ (by decide)), rfl, keepsRegs_refl s [], rfl⟩

/-! Streams (R472). -/

theorem stream_setStream_same (s : State) (p : Nat) (x : TelStream) : (s.setStream p x).stream p = x := by simp [State.stream, State.setStream]

theorem stream_setStream_ne (s : State) {p k : Nat} (x : TelStream) (h : k ≠ p) : (s.setStream p x).stream k = s.stream k := by
  simp [State.stream, State.setStream, storeGet_put_ne _ h]

/-- A stream in progress goes on; another begins at the next record. -/
def State.streamOn (s : State) (p : Nat) : State := if (s.stream p).on then s else s.setStream p { position := s.alm.nextSeq, on := true }

/-- A stream ends. -/
def State.streamOff (s : State) (p : Nat) : State := { s with alm := { s.alm with streams := storeDel p s.alm.streams } }

theorem writeStream_on (c : Ctx) (p : Nat) : writeStream c p (.int 1) s = (stOK, (s.wr o1505_STREAM_ENABLE p 1).streamOn p) := by
  show (if ((s.wr o1505_STREAM_ENABLE p 1).stream p).on then _ else _) = _
  unfold State.streamOn
  split <;> rfl

theorem streamOn_stream (p k : Nat) : (s.streamOn p).stream k =
    if k = p then (if (s.stream p).on then s.stream p else { position := s.alm.nextSeq, on := true }) else s.stream k := by
  unfold State.streamOn
  by_cases hk : k = p
  · subst hk
    rw [if_pos rfl]
    split
    · rfl
    · exact stream_setStream_same _ _ _
  · rw [if_neg hk]
    split
    · rfl
    · exact stream_setStream_ne _ _ hk

theorem streamOn_frame (s : State) (p : Nat) : (s.streamOn p).works = s.works ∧ (s.streamOn p).regs = s.regs ∧ (s.streamOn p).octs = s.octs ∧ (s.streamOn p).ctl = s.ctl ∧
    (s.streamOn p).orders = s.orders := by
  unfold State.streamOn
  split <;> exact ⟨rfl, rfl, rfl, rfl, rfl⟩

theorem rd_congr {s u : State} (h : u.regs = s.regs) (o r : Nat) : u.rd o r = s.rd o r := by
  unfold State.rd
  rw [h]

theorem rdOct_congr {s u : State} (h : u.octs = s.octs) (o r : Nat) : u.rdOct o r = s.rdOct o r := by
  unfold State.rdOct
  rw [h]

/-- States with the same objects keep the same objects. -/
theorem State.keepsRegs.congr {s u w : State} {l : List (Nat × Nat)} (h : s.keepsRegs u l) (hregs : w.regs = u.regs) (hocts : w.octs = u.octs) : s.keepsRegs w l :=
  h.trans ⟨fun o r _ _ => rd_congr hregs o r, fun o r _ => rdOct_congr hocts o r⟩

theorem exec_streamEnable_on {t row : Nat} (hp : s.powered = true) (ha : s.admits port o1505_STREAM_ENABLE row (.int 1) = true) :
    ∃ u, exec (.streamEnable t port row true) s = .next u ∧ u.last = ⟨0, none⟩ ∧ u.rd o1505_STREAM_ENABLE row = 1 ∧
      u.stream row = (if (s.stream row).on then s.stream row else { position := s.alm.nextSeq, on := true }) ∧ (∀ k, k ≠ row → u.stream k = s.stream k) ∧
      s.keepsRegs u [(o1505_STREAM_ENABLE, row)] ∧ u.works = s.works := by
  let w := (s.begin t).wr o1505_STREAM_ENABLE row 1
  obtain ⟨hworks, hregs, hocts, hctl, horders⟩ := streamOn_frame w row
  obtain ⟨e, he, hacc⟩ := run_accepted (t := t) (h := writeStream) hp ha (fun c _ _ => writeStream_on c row) (congrArg Ctl.endAfter hctl)
  refine ⟨_, he, hacc.last, ?_, ?_, fun k hk => ?_, ?_, ?_⟩
  · rw [hacc.rd _ _ (by decide), rd_congr hregs, State.rd_wr_same]
  · exact (streamOn_stream row row).trans (if_pos rfl)
  · exact (streamOn_stream row k).trans (if_neg hk)
  · exact hacc.keepsRegs ((keepsRegs_wr (s.begin t) _ _ _).congr hregs hocts)
  · exact (hacc.works horders (mem_of_works hworks)).trans hworks

theorem exec_streamEnable_off {t row : Nat} (hp : s.powered = true) (ha : s.admits port o1505_STREAM_ENABLE row (.int 0) = true) :
    ∃ u, exec (.streamEnable t port row false) s = .next u ∧ u.last = ⟨0, none⟩ ∧ u.rd o1505_STREAM_ENABLE row = 0 ∧
      (u.stream row).on = false ∧ (∀ k, k ≠ row → u.stream k = s.stream k) ∧ s.keepsRegs u [(o1505_STREAM_ENABLE, row)] ∧ u.works = s.works := by
  have hoff : ∀ c, writeStream c row (.int 0) (s.begin t) = (stOK, ((s.begin t).wr o1505_STREAM_ENABLE row 0).streamOff row) := fun c => rfl
  obtain ⟨e, he, hacc⟩ := run_accepted (t := t) (h := writeStream) hp ha (fun c _ _ => hoff c) rfl
  refine ⟨_, he, hacc.last, ?_, ?_, fun k hk => ?_, hacc.keepsRegs ((keepsRegs_wr (s.begin t) _ _ 0).congr rfl rfl), hacc.works rfl rfl⟩
  · exact (hacc.rd _ _ (by decide)).trans (State.rd_wr_same (s.begin t) o1505_STREAM_ENABLE row 0)
  · show ((storeGet row (storeDel row _)).getD ({} : TelStream)).on = false
    rw [storeGet_del_same]
    rfl
  · show ((storeGet k (storeDel row _)).getD ({} : TelStream)) = _
    rw [storeGet_del_ne hk]
    rfl

end

/-- Settles O59. That a sample and the records of a stream are numbered as RING_NEXT_SEQ says, and that RING_READ_SEQ follows the last record returned, are the model's choices (log
entry 133). -/
theorem recordsAreReadAndStreamed : Obligations.RecordsAreReadAndStreamed := by
  refine fun s t port hp => ⟨fun hr => ⟨exec_ringData_held hp hr, exec_ringData_overwritten hp hr⟩, fun ha => ⟨exec_vaultRearm_frozen hp ha, exec_vaultRearm_busy hp ha⟩,
    fun row => exec_streamEnable_on hp, fun row => exec_streamEnable_off hp, fun ch v x hch hon hpd hcount hval => ?_⟩
  have hsample : (s.begin t).traceSample ch = { x.bump o1504_TRACE_SAMPLES ch with alm := { x.alm with samples := x.alm.samples ++ [(ch, x.time96, v)] } } := by
    unfold State.traceSample
    rw [if_pos ⟨hon, hpd, hcount⟩]
    dsimp only
    rw [show (s.begin t).alm = s.alm from rfl, hval]
  have hmod : objModulus o1504_TRACE_SAMPLES = 2 ^ 64 := by decide
  refine ⟨_, run_work hp ((if_pos hch).trans hsample), ?_, rfl, fun o r hne => ?_⟩
  · exact (State.rd_wr_same _ _ _ _).trans (by rw [hmod]; rfl)
  · exact State.rd_wr_ne x _ hne

end Sys2Proof.Machine
end

section
/-! SUPPORT. Which instances stand after an alarm is raised or cleared (R463); then the clear timer and the window of events (R463, R465). -/

namespace Sys2Proof.Machine
open Sys2Proof

theorem stands_congr {s u : State} (h : u.alm.points = s.alm.points) (a : Alarm) (i : Nat) : u.stands a i ↔ s.stands a i := by
  unfold State.stands
  rw [point_congr h]

theorem noteChange_points (s : State) (a : Alarm) : (s.noteChange a).alm.points = s.alm.points := by
  unfold State.noteChange
  induction portList generalizing s with
  | nil => rfl
  | cons p l ih =>
    refine (ih _).trans ?_
    dsimp only
    split <;> rfl

theorem autoRelease_alm (s : State) (sev subsys : Nat) : (s.autoRelease sev subsys).alm = s.alm := by
  unfold State.autoRelease State.ownRelease
  split_ifs <;> rfl

theorem stands_setPoint (s : State) (a : Alarm) (x : AlarmPt) (b : Alarm) (j : Nat) :
    (s.setPoint a x).stands b j ↔ if b = a then ∃ v, (j, v) ∈ x.active else s.stands b j := by
  unfold State.stands
  split
  · next h => rw [h, State.point_setPoint]
  · next h =>
    unfold State.point State.setPoint
    rw [storeGet_put_ne _ h]

/-- An alarm (a point with a number) that is not active is added to its point, and no other point changes. -/
theorem raiseWith_points {s : State} {a : Alarm} {i : Nat} (sev subsys : Nat) (data : Bytes) (h : (s.point a).active.any (fun x => x.1 == i) = false) :
    ∃ q : AlarmPt, (s.raiseWith a i sev subsys data).alm.points = (s.setPoint a q).alm.points ∧ q.active = (s.point a).active ++ [(i, sev)] ∧ q.latched = true := by
  unfold State.raiseWith
  dsimp only
  rw [h, if_neg Bool.false_ne_true, autoRelease_alm, noteChange_points]
  split <;>
    simp only [logRec_points] <;>
    exact ⟨_, rfl, rfl, rfl⟩

/-- Raising an alarm lets it stand, and no other. -/
theorem stands_raiseWith (s : State) (a : Alarm) (i sev subsys : Nat) (data : Bytes) (b : Alarm) (j : Nat) :
    (s.raiseWith a i sev subsys data).stands b j ↔ s.stands b j ∨ b = a ∧ j = i := by
  cases h : (s.point a).active.any (fun x => x.1 == i) with
  | true =>
    obtain ⟨x, hx, hi⟩ := List.any_eq_true.mp h
    have hs : s.stands a i := ⟨x.2, (beq_iff_eq.mp hi) ▸ hx⟩
    rw [show s.raiseWith a i sev subsys data = s from if_pos h]
    exact ⟨.inl, fun h => h.elim id fun ⟨hb, hj⟩ => hb ▸ hj ▸ hs⟩
  | false =>
    obtain ⟨q, hq, hact, -⟩ := raiseWith_points sev subsys data h
    rw [stands_congr hq, stands_setPoint, hact]
    split
    · next hb =>
      subst hb
      simp [State.stands, exists_or]
    · next hb => simp [hb]

/-- A change of severity leaves every alarm where it stands. -/
theorem stands_reSeverity (s : State) (a : Alarm) (i sev : Nat) (b : Alarm) (j : Nat) : (s.reSeverity a i sev).stands b j ↔ s.stands b j := by
  have hset : ∀ q : AlarmPt, q.active = (s.point a).active.map (fun x => if x.1 = i then (i, sev) else x) → ((s.setPoint a q).stands b j ↔ s.stands b j) := fun q hq => by
    rw [stands_setPoint, hq]
    split
    · next hb =>
      subst hb
      simp only [List.mem_map, State.stands]
      constructor
      · rintro ⟨v, ⟨k, w⟩, hx, he⟩
        split at he
        · next hk => exact ⟨w, by rwa [← show i = j from congrArg Prod.fst he, ← show k = i from hk]⟩
        · exact ⟨v, he ▸ hx⟩
      · rintro ⟨v, hv⟩
        by_cases hj : j = i
        · exact ⟨sev, (j, v), hv, by rw [if_pos hj, hj]⟩
        · exact ⟨v, (j, v), hv, if_neg hj⟩
    · rfl
  unfold State.reSeverity
  dsimp only
  split_ifs
  · rw [stands_congr (noteChange_points _ _), stands_congr (logRec_points _ _ _ _ _ _ _ _)]
    exact hset _ rfl
  · exact hset _ rfl
  · rfl

/-- An alarm that is raised afresh latches its point. -/
theorem latched_raise {s : State} {a : Alarm} {i : Nat} (h : ¬ s.stands a i) : ((s.raise a i).point a).latched = true := by
  have hnone : (s.point a).active.any (fun x => x.1 == i) = false := List.any_eq_false.mpr fun x hx hi => h ⟨x.2, (beq_iff_eq.mp hi) ▸ hx⟩
  obtain ⟨q, hq, -, hlatched⟩ := raiseWith_points (s := s) (a := a) (i := i) a.severity a.subsys [] hnone
  unfold State.raise
  rw [point_congr hq, State.point_setPoint]
  exact hlatched

theorem stands_raise (s : State) (a : Alarm) (i : Nat) (b : Alarm) (j : Nat) : (s.raise a i).stands b j ↔ s.stands b j ∨ b = a ∧ j = i :=
  stands_raiseWith s a i _ _ _ b j

/-- A raised alarm stands. -/
theorem stands_raise_same (s : State) (a : Alarm) (i : Nat) : (s.raise a i).stands a i := (stands_raise s a i a i).mpr (.inr ⟨rfl, rfl⟩)

/-- An active alarm is taken off its point, and no other point changes. -/
theorem clear_points {s : State} {a : Alarm} {i : Nat} {x : Nat × Nat} (h : (s.point a).active.find? (fun x => x.1 == i) = some x) :
    ∃ q : AlarmPt, (s.clear a i).alm.points = (s.setPoint a q).alm.points ∧ q.active = (s.point a).active.filter (fun x => x.1 != i) ∧ q.latched = (s.point a).latched := by
  unfold State.clear
  simp only [h]
  rw [noteChange_points]
  split_ifs <;>
    simp only [logRec_points] <;>
    exact ⟨_, rfl, rfl, rfl⟩

/-- Clearing an alarm ends it, and no other. -/
theorem stands_clear (s : State) (a : Alarm) (i : Nat) (b : Alarm) (j : Nat) : (s.clear a i).stands b j ↔ s.stands b j ∧ ¬ (b = a ∧ j = i) := by
  cases h : (s.point a).active.find? (fun x => x.1 == i) with
  | none =>
    have hs : ¬ s.stands a i := fun ⟨v, hv⟩ => by simpa using List.find?_eq_none.mp h _ hv
    have hsame : s.clear a i = s := by simp [State.clear, h]
    rw [hsame]
    exact ⟨fun h => ⟨h, fun ⟨hb, hj⟩ => hs (hb ▸ hj ▸ h)⟩, And.left⟩
  | some x =>
    obtain ⟨q, hq, hact, -⟩ := clear_points h
    rw [stands_congr hq, stands_setPoint, hact]
    split
    · next hb =>
      subst hb
      simp [State.stands]
    · next hb => simp [hb]

/-- Clearing an alarm leaves its point latched. -/
theorem latched_clear (s : State) (a : Alarm) (i : Nat) : ((s.clear a i).point a).latched = (s.point a).latched := by
  cases h : (s.point a).active.find? (fun x => x.1 == i) with
  | none =>
    have hsame : s.clear a i = s := by simp [State.clear, h]
    rw [hsame]
  | some x =>
    obtain ⟨q, hq, -, hlatched⟩ := clear_points h
    rw [point_congr hq, State.point_setPoint]
    exact hlatched

theorem latched_pulse {s : State} {a : Alarm} {i : Nat} (h : ¬ s.stands a i) : ((s.pulse a i).point a).latched = true := (latched_clear _ _ _).trans (latched_raise h)

theorem not_stands_clear (s : State) (a : Alarm) (i : Nat) : ¬ (s.clear a i).stands a i := fun h => ((stands_clear s a i a i).mp h).2 ⟨rfl, rfl⟩

/-- An alarm follows its condition. -/
theorem stands_alarmWhile (s : State) (a : Alarm) (i : Nat) (c : Bool) : (s.alarmWhile a i c).stands a i ↔ c = true := by
  unfold State.alarmWhile
  cases c with
  | true => exact iff_of_true (stands_raise_same s a i) rfl
  | false => exact iff_of_false (not_stands_clear s a i) Bool.false_ne_true

theorem AlarmBlind.alarmWhile {α : Type} {f : State → α} (hf : AlarmBlind f) (s : State) (a : Alarm) (i : Nat) (c : Bool) : f (s.alarmWhile a i c) = f s := by
  unfold State.alarmWhile
  split
  · exact hf.raise _ _ _
  · exact hf.clear _ _ _

/-! The clear timer (R463). -/

/-- Several alarms are cleared. -/
theorem stands_foldl_clear (l : List QuietTimer) (s : State) (b : Alarm) (j : Nat) :
    (l.foldl (fun s q => s.clear q.alarm q.inst) s).stands b j ↔ s.stands b j ∧ ∀ q ∈ l, q.alarm = b → q.inst ≠ j := by
  induction l generalizing s with
  | nil => simp
  | cons q l ih =>
    rw [List.foldl_cons, ih, stands_clear, List.forall_mem_cons]
    constructor
    · exact fun ⟨⟨hs, hq⟩, hl⟩ => ⟨hs, fun hb hj => hq ⟨hb.symm, hj.symm⟩, hl⟩
    · exact fun ⟨hs, hq, hl⟩ => ⟨⟨hs, fun ⟨hb, hj⟩ => hq hb.symm hj.symm⟩, hl⟩

theorem AlarmBlind.foldl_clear {α : Type} {f : State → α} (hf : AlarmBlind f) (l : List QuietTimer) (s : State) :
    f (l.foldl (fun s q => s.clear q.alarm q.inst) s) = f s := by
  induction l generalizing s with
  | nil => rfl
  | cons q l ih => exact (ih _).trans (hf.clear _ _ _)

theorem AlarmBlind.quietClear {α : Type} {f : State → α} (hf : AlarmBlind f) (s : State) : f s.quietClear = f s :=
  (hf.alm _ _).trans (hf.foldl_clear _ _)

/-- The timer ends exactly the instances that have been quiet for 10 s. -/
theorem stands_quietClear (s : State) (b : Alarm) (j : Nat) :
    s.quietClear.stands b j ↔ s.stands b j ∧ ∀ q ∈ s.alm.quiet, q.since + 10000000000 ≤ s.now → q.alarm = b → q.inst ≠ j := by
  refine (stands_foldl_clear (s.alm.quiet.filter (fun q => decide (q.since + 10 * second ≤ s.now))) s b j).trans ?_
  simp only [List.mem_filter, decide_eq_true_eq, and_imp]
  rfl

/-! The window of events (R465). -/

/-- At its end a window of a session that receives the severity of the point becomes one event with the changes merged. -/
theorem windowEnd_sends {s : State} {port : Nat} {a : Alarm} {w : CoalWindow} {x : Session} (hw : storeGet (port, a.rank) s.alm.windows = some w) (hends : w.ends ≤ s.now)
    (hx : (s.port port).session = some x) (hsev : (s.point a).severity ≤ s.rdN o1506_EVENT_SEVERITY port + 1) (hnone : s.rd o1506_EVENT_SEVERITY port ≠ EVENT_SEVERITY.none) :
    s.windowEnd port a = (({ s with alm := { s.alm with windows := storeDel (port, a.rank) s.alm.windows } }).sendEvent port 2 (s.alarmPayload a w.changes)).addTo
      o1505_EVENTS_COALESCED port (w.changes - 1) := by
  unfold State.windowEnd
  rw [hw]
  dsimp only
  rw [if_neg (Nat.not_lt.mpr hends), if_neg]
  · rfl
  · rintro (h | h | h)
    · change (s.port port).session.isNone = true at h
      simp [hx] at h
    · exact absurd hsev (Nat.not_le.mpr h)
    · exact hnone h

/-- An EVENT to the open session of a port. -/
theorem sendEvent_open {s : State} {p : Nat} {x : Session} (kind : Nat) (payload : Bytes) (hx : (s.port p).session = some x) :
    s.sendEvent p kind payload = ((s.setPort p { s.port p with session := some { x with eventSeq := x.eventSeq + 1 } }).bump o1101_EVENTS_SENT p).emit
      (.sdp p x.addr x.udp (sessionMsg x 0x20 x.eventSeq 0 0 (leBytes 2 kind ++ leBytes 2 payload.length ++ payload))) := by
  unfold State.sendEvent
  rw [hx]

/-- Settles O58: the timer clears a list of instances, and a window that ends sends one EVENT. -/
theorem alarmsClearAndAreReported : Obligations.AlarmsClearAndAreReported := by
  refine fun s t port hp => ⟨⟨_, run_work hp rfl, fun q hq hdue => ?_, fun a i hall => ?_, ?_⟩, fun n a w x hn hw hends hx hsev hnone => ?_⟩
  · exact fun h => ((stands_quietClear (s.begin t) _ _).mp h).2 q hq hdue rfl rfl
  · refine (stands_quietClear (s.begin t) a i).trans ⟨And.left, fun h => ⟨h, fun q hq hdue ha hi => ?_⟩⟩
    exact absurd hdue (Nat.not_le.mpr (hall q hq ha hi))
  · exact (finish_works (alarmBlind_orders.quietClear _) (mem_of_works (alarmBlind_works.quietClear _))).trans (alarmBlind_works.quietClear _)
  · have hend := windowEnd_sends (s := s.begin t) hw hends hx hsev hnone
    rw [sendEvent_open (s := { s.begin t with alm := _ }) (x := x) _ _ hx] at hend
    have hmod : objModulus o1505_EVENTS_COALESCED = 2 ^ 64 := by decide
    have hexec : exec (.coalesceWindow t port n) s = s.run t (·.windowEnd port a) := by
      show execCoalesceWindow t port n s = _
      unfold execCoalesceWindow
      rw [hn]
    refine ⟨_, hexec.trans (run_work hp hend), storeGet_del_same _ _, rfl, ?_, rfl⟩
    refine (State.rd_wr_same _ _ _ _).trans ?_
    rw [hmod, State.rd_emit]
    exact congrArg (fun v => (v + _) % _) (State.rd_wr_obj _ _ (by decide))

end Sys2Proof.Machine
end

section
/-! SUPPORT. Tally units: claims, feeds, reset, close and run (R371-R374). -/

namespace Sys2Proof.Machine
open Sys2Proof

/-- The objects that choose the polynomial of a channel. -/
def polyObjects : List Nat := [o7100_POLY_SELECT, o7100_PROG_REFLECT, o7100_PROG_POLY, o7100_PROG_INIT, o7100_PROG_XOROUT]

theorem poly_congr {s u : State} (ch : Nat) (h : ∀ o ∈ polyObjects, u.rd o ch = s.rd o ch) : u.poly ch = s.poly ch := by
  simp only [polyObjects, List.mem_cons, List.not_mem_nil, or_false, forall_eq_or_imp, forall_eq] at h
  obtain ⟨hsel, hrefl, hpoly, hinit, hxor⟩ := h
  simp only [State.poly, State.rdN, hsel, hrefl, hpoly, hinit, hxor]

theorem rdN_wr_same (s : State) (o r n : Nat) : (s.wr o r (n : Nat)).rdN o r = n := by
  unfold State.rdN
  rw [State.rd_wr_same]
  rfl

theorem rdN_wr_obj (s : State) {o r o' r' : Nat} (v : Int) (h : o' ≠ o) : (s.wr o r v).rdN o' r' = s.rdN o' r' := congrArg Int.toNat (s.rd_wr_obj v h)

/-- A refusal with a code of the tally units is noted by no chapter. -/
theorem noteRefusal_tally (s : State) {o r k : Nat} (hk : 0x1711 ≤ k) : s.noteRefusal o r k = s := by
  unfold State.noteRefusal
  rw [if_neg (by omega), if_neg (by omega)]

section
variable {s : State} {ch : Nat} {c : Ctx}

/-! The handlers. -/

/-- A session that claims a free channel. -/
def State.claim (s : State) (c : Ctx) (ch : Nat) : State :=
  ({ s with itg := { s.itg with claims := storePut natLt ch c.port s.itg.claims } }.wr o7100_TALLY_USE ch TALLY_USE.claimed).wr o7100_TALLY_CLAIM ch 1

/-- A session that releases its channel. -/
def State.unclaim (s : State) (ch : Nat) : State :=
  ({ s with itg := { s.itg with claims := storeDel ch s.itg.claims } }.wr o7100_TALLY_USE ch TALLY_USE.free).wr o7100_TALLY_CLAIM ch 0

theorem writeTallyClaim_free (h : s.claimedBy c ch = false) (hf : s.rd o7100_TALLY_USE ch = TALLY_USE.free) :
    writeTallyClaim c ch (.int 1) s = (stOK, s.claim c ch) := by simp [writeTallyClaim, onInt, h, hf, State.claim]

theorem writeTallyClaim_taken (h : s.claimedBy c ch = false) (hf : s.rd o7100_TALLY_USE ch ≠ TALLY_USE.free) :
    writeTallyClaim c ch (.int 1) s = (0x1711, s) := by simp [writeTallyClaim, onInt, h, hf]

theorem writeTallyClaim_release (h : s.claimedBy c ch = true) : writeTallyClaim c ch (.int 0) s = (stOK, s.unclaim ch) := by
  simp [writeTallyClaim, onInt, h, State.unclaim]

theorem writeFeed_unclaimed (d : Bytes) (h : s.claimedBy c ch = false) : writeFeed c ch (.bytes d) s = (0x1711, s) := by simp [writeFeed, claimed, h]

theorem writeFeed_uneven {d : Bytes} (h : s.claimedBy c ch = true) (hr : s.tallyState ch ≠ TALLY_STATE.running) (hd : d.length % s.feedBytes ch ≠ 0) :
    writeFeed c ch (.bytes d) s = (0x1712, s) := by simp [writeFeed, claimed, onBytes, h, hr, hd]

theorem writeFeed_narrow {d : Bytes} (h : s.claimedBy c ch = true) (hr : s.tallyState ch ≠ TALLY_STATE.running) (hd : d.length % s.feedBytes ch = 0)
    (hw : s.rd o7100_POLY_SELECT ch = POLY_SELECT.st292 ∧ s.feedBytes ch ≠ 2) : writeFeed c ch (.bytes d) s = (0x1713, s) := by
  simp only [writeFeed, claimed, onBytes, h, if_true, if_neg hr, hd, ne_eq, not_true_eq_false, if_false]
  exact if_pos hw

theorem writeFeed_takes {d : Bytes} (h : s.claimedBy c ch = true) (hr : s.tallyState ch ≠ TALLY_STATE.running) (hd : d.length % s.feedBytes ch = 0)
    (hw : ¬ (s.rd o7100_POLY_SELECT ch = POLY_SELECT.st292 ∧ s.feedBytes ch ≠ 2)) : writeFeed c ch (.bytes d) s = (stOK, s.feed ch (s.feedBytes ch) d) := by
  simp only [writeFeed, claimed, onBytes, h, if_true, if_neg hr, hd, ne_eq, not_true_eq_false, if_false]
  exact if_neg hw

/-- A TALLY_CMD of the claiming session on a channel that does not run. -/
theorem writeTallyCmd_claimed (v : Int) (h : s.claimedBy c ch = true) (hr : s.tallyState ch ≠ TALLY_STATE.running) :
    writeTallyCmd c ch (.int v) s = if v = TALLY_CMD.reset then (stOK, s.tallyReset ch) else if v = TALLY_CMD.close then (stOK, s.tallyClose ch) else s.tallyRun c ch := by
  simp [writeTallyCmd, claimed, onInt, h, hr]

/-- A channel that begins to run over its range. -/
def State.startRun (s : State) (ch : Nat) : State :=
  { s with itg := { s.itg with runs := storePut natLt ch ⟨s.rdN o7100_SRC_ADDR ch, s.rdN o7100_SRC_LENGTH ch, s.feedBytes ch⟩ s.itg.runs } }.wr o7100_TALLY_STATE ch TALLY_STATE.running

theorem tallyRun_eq (hl : s.rdN o7100_SRC_LENGTH ch % s.feedBytes ch = 0) (hw : ¬ (s.rd o7100_POLY_SELECT ch = POLY_SELECT.st292 ∧ s.feedBytes ch ≠ 2)) :
    s.tallyRun c ch = if s.ownsRange c (s.rdN o7100_SRC_ADDR ch) (s.rdN o7100_SRC_LENGTH ch) = false then (0x1714, s) else (stOK, s.startRun ch) := by
  unfold State.tallyRun
  simp only [hl, if_neg hw, ne_eq, not_true_eq_false, if_false]
  rfl

/-! What they leave. -/

/-- The objects of a channel that a feed, a reset and a close touch. -/
def blockObjects (ch : Nat) : List (Nat × Nat) := [(o7100_RUNNING, ch), (o7100_BYTES_FED, ch), (o7100_TALLY_STATE, ch)]

theorem feed_frame (s : State) (ch n : Nat) (b : Bytes) : s.keepsRegs (s.feed ch n b) (blockObjects ch) :=
  (((keepsRegs_refl s _).wr _ (by simp [blockObjects])).wr _ (by simp [blockObjects])).wr _ (by simp [blockObjects])

theorem feed_leaves (s : State) (ch n : Nat) (b : Bytes) :
    (s.feed ch n b).rdN o7100_RUNNING ch = (s.poly ch).feedAll n b (s.rdN o7100_RUNNING ch) ∧
      (s.feed ch n b).rd o7100_BYTES_FED ch = (s.rd o7100_BYTES_FED ch + b.length) % 2 ^ 64 ∧ (s.feed ch n b).tallyState ch = TALLY_STATE.feeding := by
  have hmod : objModulus o7100_BYTES_FED = 2 ^ 64 := by decide
  refine ⟨?_, ?_, State.rd_wr_same _ _ _ _⟩
  · exact (rdN_wr_obj _ _ (by decide)).trans ((rdN_wr_obj _ _ (by decide)).trans (rdN_wr_same _ _ _ _))
  · refine (State.rd_wr_obj _ _ (by decide)).trans ((State.rd_wr_same _ _ _ _).trans ?_)
    rw [hmod, State.rd_wr_obj _ _ (by decide)]

theorem tallyReset_frame (s : State) (ch : Nat) : s.keepsRegs (s.tallyReset ch) (blockObjects ch) :=
  (((keepsRegs_refl s _).wr _ (by simp [blockObjects])).wr _ (by simp [blockObjects])).wr _ (by simp [blockObjects])

theorem tallyReset_leaves (s : State) (ch : Nat) :
    (s.tallyReset ch).rdN o7100_RUNNING ch = (s.poly ch).init ∧ (s.tallyReset ch).rd o7100_BYTES_FED ch = 0 ∧ (s.tallyReset ch).tallyState ch = TALLY_STATE.idle :=
  ⟨(rdN_wr_obj _ _ (by decide)).trans ((rdN_wr_obj _ _ (by decide)).trans (rdN_wr_same _ _ _ _)),
    (State.rd_wr_obj _ _ (by decide)).trans (State.rd_wr_same _ _ _ _), State.rd_wr_same _ _ _ _⟩

/-- A close leaves the register as a reset does. -/
theorem tallyClose_resets (s : State) (ch : Nat) :
    (s.tallyClose ch).rdN o7100_RUNNING ch = (s.poly ch).init ∧ (s.tallyClose ch).rd o7100_BYTES_FED ch = 0 ∧ (s.tallyClose ch).tallyState ch = TALLY_STATE.closed := by
  unfold State.tallyClose
  extract_lets p mode fold n reg reg' step
  let w := (s.wr o7100_RESULT ch (p.result reg')).wr o7100_FOLD_VALUE ch ((fold + step) % 2 ^ 64 : Nat)
  have hpoly : w.poly ch = s.poly ch := by
    refine poly_congr ch fun o ho => ?_
    have hne : o ≠ o7100_FOLD_VALUE ∧ o ≠ o7100_RESULT := ⟨fun e => absurd (e ▸ ho) (by decide), fun e => absurd (e ▸ ho) (by decide)⟩
    exact (State.rd_wr_obj _ _ hne.1).trans (State.rd_wr_obj _ _ hne.2)
  obtain ⟨hrun, hfed, -⟩ := tallyReset_leaves w ch
  exact ⟨(rdN_wr_obj _ _ (by decide)).trans (hrun.trans (congrArg Poly.init hpoly)), (State.rd_wr_obj _ _ (by decide)).trans hfed, State.rd_wr_same _ _ _ _⟩

theorem rd_tallyReset (s : State) {o : Nat} (ch r : Nat) (h : ∀ k ∈ blockObjects ch, o ≠ k.1) : (s.tallyReset ch).rd o r = s.rd o r := by
  simp only [blockObjects, List.mem_cons, List.not_mem_nil, or_false, forall_eq_or_imp, forall_eq] at h
  obtain ⟨hrun, hfed, hst⟩ := h
  exact (State.rd_wr_obj _ _ hst).trans ((State.rd_wr_obj _ _ hfed).trans (State.rd_wr_obj _ _ hrun))

/-- Without folding a close puts the register's result into RESULT. -/
theorem tallyClose_result (h : s.rd o7100_FOLD_MODE ch = FOLD_MODE.none) : (s.tallyClose ch).rdN o7100_RESULT ch = (s.poly ch).result (s.rdN o7100_RUNNING ch) := by
  unfold State.tallyClose
  extract_lets p mode fold n reg reg' step
  have hreg : reg' = s.rdN o7100_RUNNING ch := if_pos h
  rw [hreg, rdN_wr_obj _ _ (by decide)]
  unfold State.rdN
  rw [rd_tallyReset _ _ _ (by simp [blockObjects]), State.rd_wr_obj _ _ (by decide), State.rd_wr_same]
  rfl

/-- A close advances FOLD_VALUE by the step of its mode. -/
theorem tallyClose_fold (s : State) (ch : Nat) : (s.tallyClose ch).rdN o7100_FOLD_VALUE ch =
    (s.rdN o7100_FOLD_VALUE ch + (if s.rd o7100_FOLD_MODE ch = FOLD_MODE.address then s.rdN o7100_BYTES_FED ch
      else if s.rd o7100_FOLD_MODE ch = FOLD_MODE.sequence then s.rdN o7100_FOLD_STEP ch else 0)) % 2 ^ 64 := by
  unfold State.tallyClose
  extract_lets p mode fold n reg reg' step
  rw [rdN_wr_obj _ _ (by decide)]
  refine (congrArg Int.toNat (rd_tallyReset _ _ _ (by simp [blockObjects]))).trans ?_
  rw [State.rd_wr_same]
  rfl

/-! The commands. -/

variable {t port : Nat} (hp : s.powered = true)
include hp

theorem exec_tallyClaim_free (ha : s.admits port o7100_TALLY_CLAIM ch (.int 1) = true) (hc : s.claimedBy ⟨port, 31, none⟩ ch = false)
    (hf : s.rd o7100_TALLY_USE ch = TALLY_USE.free) :
    ∃ u, exec (.tallyClaim t port ch true) s = .next u ∧ u.last = ⟨0, none⟩ ∧ u.rd o7100_TALLY_USE ch = TALLY_USE.claimed ∧
      u.rd o7100_TALLY_CLAIM ch = 1 ∧ u.claimedBy ⟨port, 31, none⟩ ch = true ∧ s.keepsRegs u [(o7100_TALLY_USE, ch), (o7100_TALLY_CLAIM, ch)] := by
  obtain ⟨e, he, hacc⟩ := run_accepted (t := t) (w := (s.begin t).claim ⟨port, 31, none⟩ ch) (h := writeTallyClaim) hp ha
    (fun c _ hport => by subst hport; exact writeTallyClaim_free (s := s.begin t) (c := c) hc hf) rfl
  refine ⟨_, he, hacc.last, ?_, ?_, ?_, hacc.keepsRegs ?_⟩
  · exact (hacc.rd _ _ (by decide)).trans ((State.rd_wr_obj _ _ (by decide)).trans (State.rd_wr_same _ _ _ _))
  · exact (hacc.rd _ _ (by decide)).trans (State.rd_wr_same _ _ _ _)
  · exact beq_iff_eq.mpr (storeGet_put_same _ _ _ _)
  · exact ((keepsRegs_refl (s.begin t) _).congr (w := { s.begin t with itg := _ }) rfl rfl).wr _ (by simp) |>.wr _ (by simp)

theorem exec_tallyClaim_taken (ha : s.admits port o7100_TALLY_CLAIM ch (.int 1) = true) (hc : s.claimedBy ⟨port, 31, none⟩ ch = false)
    (hf : s.rd o7100_TALLY_USE ch ≠ TALLY_USE.free) :
    ∃ u, exec (.tallyClaim t port ch true) s = .next u ∧ u.last = ⟨0x1711, none⟩ ∧ s.keepsRegs u [] ∧ u.works = s.works :=
  ⟨_, run_refused_unchanged (t := t) (h := writeTallyClaim) hp ha (fun c _ hport => by subst hport; exact writeTallyClaim_taken (s := s.begin t) (c := c) hc hf) (by decide)
    (noteRefusal_tally _ (by decide)), rfl, keepsRegs_refl s [], rfl⟩

theorem exec_tallyClaim_release (ha : s.admits port o7100_TALLY_CLAIM ch (.int 0) = true) (hc : s.claimedBy ⟨port, 31, none⟩ ch = true) :
    ∃ u, exec (.tallyClaim t port ch false) s = .next u ∧ u.last = ⟨0, none⟩ ∧ u.rd o7100_TALLY_USE ch = TALLY_USE.free ∧ u.rd o7100_TALLY_CLAIM ch = 0 ∧
      u.claimedBy ⟨port, 31, none⟩ ch = false := by
  obtain ⟨e, he, hacc⟩ := run_accepted (t := t) (w := (s.begin t).unclaim ch) (h := writeTallyClaim) hp ha
    (fun c _ hport => by subst hport; exact writeTallyClaim_release (s := s.begin t) (c := c) hc) rfl
  refine ⟨_, he, hacc.last, ?_, ?_, ?_⟩
  · exact (hacc.rd _ _ (by decide)).trans ((State.rd_wr_obj _ _ (by decide)).trans (State.rd_wr_same _ _ _ _))
  · exact (hacc.rd _ _ (by decide)).trans (State.rd_wr_same _ _ _ _)
  · show (storeGet ch (storeDel ch s.itg.claims) == some port) = false
    rw [storeGet_del_same]
    rfl

/-- FEED_DATA that the channel takes. -/
theorem exec_feedData_takes {d : Bytes} (ha : s.admits port o7100_FEED_DATA ch (.bytes d) = true) (hc : s.claimedBy ⟨port, 31, none⟩ ch = true)
    (hr : s.tallyState ch ≠ TALLY_STATE.running) (hd : d.length % s.feedBytes ch = 0) (hw : ¬ (s.rd o7100_POLY_SELECT ch = POLY_SELECT.st292 ∧ s.feedBytes ch ≠ 2)) :
    ∃ u, exec (.feedData t port ch d) s = .next u ∧ u.last = ⟨0, none⟩ ∧ u.rdN o7100_RUNNING ch = (s.poly ch).feedAll (s.feedBytes ch) d (s.rdN o7100_RUNNING ch) ∧
      u.rd o7100_BYTES_FED ch = (s.rd o7100_BYTES_FED ch + d.length) % 2 ^ 64 ∧ u.tallyState ch = TALLY_STATE.feeding ∧
      s.keepsRegs u (blockObjects ch) ∧ u.works = s.works := by
  obtain ⟨e, he, hacc⟩ := run_accepted (t := t) (w := (s.begin t).feed ch (s.feedBytes ch) d) (h := writeFeed) hp ha
    (fun c _ hport => by subst hport; exact writeFeed_takes (s := s.begin t) (c := c) hc hr hd hw) rfl
  obtain ⟨hrun, hfed, hst⟩ := feed_leaves (s.begin t) ch (s.feedBytes ch) d
  exact ⟨_, he, hacc.last, (hacc.rdN _ (by decide)).trans hrun, (hacc.rd _ _ (by decide)).trans hfed, (hacc.rd _ _ (by decide)).trans hst,
    hacc.keepsRegs (feed_frame (s.begin t) _ _ _), hacc.works rfl rfl⟩

/-- FEED_DATA that the channel refuses. -/
theorem exec_feedData_refused {d : Bytes} {k : Nat} (ha : s.admits port o7100_FEED_DATA ch (.bytes d) = true) (hlow : 0x1711 ≤ k)
    (hk : ∀ c : Ctx, c.port = port → writeFeed c ch (.bytes d) (s.begin t) = (k, s.begin t)) :
    ∃ u, exec (.feedData t port ch d) s = .next u ∧ u.last = ⟨k, none⟩ ∧ s.keepsRegs u [] ∧ u.works = s.works :=
  ⟨_, run_refused_unchanged (t := t) (h := writeFeed) hp ha (fun c _ hport => hk c hport) (by unfold stOK; omega) (noteRefusal_tally _ hlow), rfl, keepsRegs_refl s [], rfl⟩

variable (hc : s.claimedBy ⟨port, 31, none⟩ ch = true) (hr : s.tallyState ch ≠ TALLY_STATE.running)
include hc hr

theorem exec_tallyReset (ha : s.admits port o7100_TALLY_CMD ch (.int TALLY_CMD.reset) = true) :
    ∃ u, exec (.tallyReset t port ch) s = .next u ∧ u.last = ⟨0, none⟩ ∧ u.rdN o7100_RUNNING ch = (s.poly ch).init ∧
      u.rd o7100_BYTES_FED ch = 0 ∧ u.tallyState ch = TALLY_STATE.idle ∧ s.keepsRegs u (blockObjects ch) ∧ u.works = s.works := by
  obtain ⟨e, he, hacc⟩ := run_accepted (t := t) (w := (s.begin t).tallyReset ch) (h := writeTallyCmd) hp ha
    (fun c _ hport => by subst hport; exact writeTallyCmd_claimed (s := s.begin t) (c := c) _ hc hr) rfl
  obtain ⟨hrun, hfed, hst⟩ := tallyReset_leaves (s.begin t) ch
  exact ⟨_, he, hacc.last, (hacc.rdN _ (by decide)).trans hrun, (hacc.rd _ _ (by decide)).trans hfed, (hacc.rd _ _ (by decide)).trans hst,
    hacc.keepsRegs (tallyReset_frame (s.begin t) _), hacc.works rfl rfl⟩

theorem exec_tallyClose (ha : s.admits port o7100_TALLY_CMD ch (.int TALLY_CMD.close) = true) :
    ∃ u, exec (.tallyClose t port ch) s = .next u ∧ u.last = ⟨0, none⟩ ∧ ∀ o ∉ writeSideObjects, ∀ r, u.rd o r = ((s.begin t).tallyClose ch).rd o r := by
  obtain ⟨e, he, hacc⟩ := run_accepted (t := t) (w := (s.begin t).tallyClose ch) (h := writeTallyCmd) hp ha
    (fun c _ hport => by subst hport; exact writeTallyCmd_claimed (s := s.begin t) (c := c) _ hc hr) rfl
  exact ⟨_, he, hacc.last, fun o ho r => hacc.rd o r ho⟩

theorem exec_tallyRun_owned {c : Ctx} (hctx : s.ctxOf port = some c) (ha : s.admits port o7100_TALLY_CMD ch (.int TALLY_CMD.run) = true)
    (hl : s.rdN o7100_SRC_LENGTH ch % s.feedBytes ch = 0) (hw : ¬ (s.rd o7100_POLY_SELECT ch = POLY_SELECT.st292 ∧ s.feedBytes ch ≠ 2))
    (ho : s.ownsRange c (s.rdN o7100_SRC_ADDR ch) (s.rdN o7100_SRC_LENGTH ch) = true) :
    ∃ u, exec (.tallyRun t port ch) s = .next u ∧ u.last = ⟨0, none⟩ ∧ u.tallyState ch = TALLY_STATE.running ∧
      storeGet ch u.itg.runs = some ⟨s.rdN o7100_SRC_ADDR ch, s.rdN o7100_SRC_LENGTH ch, s.feedBytes ch⟩ := by
  have hport := ctxOf_port hctx
  subst hport
  have hrun : (s.begin t).tallyRun c ch = (stOK, (s.begin t).startRun ch) := (tallyRun_eq (s := s.begin t) hl hw).trans (if_neg fun h => absurd (ho.symm.trans h) Bool.true_eq_false.mp)
  obtain ⟨e, he, hacc⟩ := run_accepted (t := t) (w := (s.begin t).startRun ch) (h := writeTallyCmd) hp ha
    (fun c' hc' _ => by
      obtain rfl : c = c' := Option.some.inj (hctx.symm.trans hc')
      exact (writeTallyCmd_claimed (s := s.begin t) (c := c) _ hc hr).trans hrun) rfl
  exact ⟨_, he, hacc.last, (hacc.rd _ _ (by decide)).trans (State.rd_wr_same _ _ _ _), storeGet_put_same _ _ _ _⟩

theorem exec_tallyRun_notOwned {c : Ctx} (hctx : s.ctxOf port = some c) (ha : s.admits port o7100_TALLY_CMD ch (.int TALLY_CMD.run) = true)
    (hl : s.rdN o7100_SRC_LENGTH ch % s.feedBytes ch = 0) (hw : ¬ (s.rd o7100_POLY_SELECT ch = POLY_SELECT.st292 ∧ s.feedBytes ch ≠ 2))
    (ho : s.ownsRange c (s.rdN o7100_SRC_ADDR ch) (s.rdN o7100_SRC_LENGTH ch) = false) :
    ∃ u, exec (.tallyRun t port ch) s = .next u ∧ u.last = ⟨0x1714, none⟩ ∧ s.keepsRegs u [] ∧ u.works = s.works := by
  have hport := ctxOf_port hctx
  subst hport
  refine ⟨_, run_refused_unchanged (t := t) (h := writeTallyCmd) hp ha (fun c' hc' _ => ?_) (by decide) (noteRefusal_tally _ (by decide)), rfl, keepsRegs_refl s [], rfl⟩
  obtain rfl : c = c' := Option.some.inj (hctx.symm.trans hc')
  exact (writeTallyCmd_claimed (s := s.begin t) (c := c) _ hc hr).trans ((tallyRun_eq (s := s.begin t) hl hw).trans (if_pos ho))

end

/-- The end of a 'run' with nothing newly stored feeds the bytes of its range. -/
theorem runDone_nil {s : State} {ch : Nat} {r : TallyRun} (h : storeGet ch s.itg.runs = some r) :
    s.runDone ch [] = ({ s with itg := { s.itg with runs := storeDel ch s.itg.runs } } : State).feed ch r.width (memRange s.memNow r.addr r.len) := by
  unfold State.runDone
  rw [h]
  rfl

/-- Settles O35. -/
theorem tallyChannelsCompute : Obligations.TallyChannelsCompute := by
  intro s t port ch hp
  refine ⟨fun ha hc => ⟨exec_tallyClaim_free hp ha hc, exec_tallyClaim_taken hp ha hc⟩, exec_tallyClaim_release hp, fun d ha => ⟨fun hc => ?_, fun hc hr => ⟨fun hd => ?_, ?_⟩⟩,
    fun hc hr => ⟨exec_tallyReset hp hc hr, fun ha => ?_, fun c hctx ha hl hw => ⟨exec_tallyRun_owned hp hc hr hctx ha hl hw, exec_tallyRun_notOwned hp hc hr hctx ha hl hw⟩⟩, fun r h => ?_⟩
  · exact exec_feedData_refused hp ha (by decide) fun c hport => by
      subst hport
      exact writeFeed_unclaimed (s := s.begin t) (c := c) d hc
  · exact exec_feedData_refused hp ha (by decide) fun c hport => by
      subst hport
      exact writeFeed_uneven (s := s.begin t) (c := c) hc hr hd
  · exact exec_feedData_takes hp ha hc hr
  · obtain ⟨u, hu, hlast, hrd⟩ := exec_tallyClose (t := t) hp hc hr ha
    have hrdN : ∀ o ∉ writeSideObjects, u.rdN o ch = ((s.begin t).tallyClose ch).rdN o ch := fun o ho => congrArg Int.toNat (hrd o ho ch)
    obtain ⟨hrun, hfed, hst⟩ := tallyClose_resets (s.begin t) ch
    have hfold := tallyClose_fold (s.begin t) ch
    refine ⟨u, hu, hlast, (hrdN _ (by decide)).trans hrun, (hrd _ (by decide) ch).trans hfed, (hrd _ (by decide) ch).trans hst, fun hm => ?_, fun hm => ?_, fun hm => ?_⟩
    · exact (hrdN _ (by decide)).trans (tallyClose_result (s := s.begin t) hm)
    · rw [State.rd_begin, if_neg (by rw [hm]; decide), if_pos hm] at hfold
      exact (hrdN _ (by decide)).trans hfold
    · rw [State.rd_begin, if_pos hm] at hfold
      exact (hrdN _ (by decide)).trans hfold
  · let w : State := { s.begin t with itg := { s.itg with runs := storeDel ch s.itg.runs } }
    obtain ⟨hrun, -, hst⟩ := feed_leaves w ch r.width (memRange s.mem r.addr r.len)
    exact ⟨_, run_work (t := t) (f := (·.runDone ch [])) hp (runDone_nil (s := s.begin t) h), hst, storeGet_del_same _ _, hrun, rfl⟩

/-! The check values of R373. -/

theorem itg_of_works {s u : State} (h : u.works = s.works) : u.itg = s.itg := congrArg (fun w => w.2.2.2.2.2.1) h

/-- Bytes fed one by one to a channel of the session that does not run: taken, but under 'st292', which takes halfwords alone; in either case the channel can be closed. -/
theorem exec_feedData_byteWise {s : State} {t port ch : Nat} {d : Bytes} (hp : s.powered = true) (ha : s.admits port o7100_FEED_DATA ch (.bytes d) = true)
    (hc : s.claimedBy ⟨port, 31, none⟩ ch = true) (hr : s.tallyState ch ≠ TALLY_STATE.running) (hw : s.rd o7100_FEED_WIDTH ch = FEED_WIDTH.byte) :
    ∃ u, exec (.feedData t port ch d) s = .next u ∧ u.works = s.works ∧ u.tallyState ch ≠ TALLY_STATE.running ∧ s.keepsRegs u (blockObjects ch) ∧
      (s.rd o7100_POLY_SELECT ch ≠ POLY_SELECT.st292 → u.rdN o7100_RUNNING ch = (s.poly ch).feedAll 1 d (s.rdN o7100_RUNNING ch)) := by
  have hbyte : s.feedBytes ch = 1 := by simp [State.feedBytes, hw]
  have heven : d.length % s.feedBytes ch = 0 := by rw [hbyte, Nat.mod_one]
  by_cases hsel : s.rd o7100_POLY_SELECT ch = POLY_SELECT.st292
  · obtain ⟨u, hu, -, hregs, hworks⟩ := exec_feedData_refused (t := t) (k := 0x1713) hp ha (by decide) fun c hport => by
      subst hport
      exact writeFeed_narrow (s := s.begin t) (c := c) hc hr heven ⟨hsel, fun h => absurd (hbyte.symm.trans h) (by decide)⟩
    refine ⟨u, hu, hworks, ?_, ⟨fun o r _ => hregs.1 o r (by simp), fun o r _ => hregs.2 o r (by simp)⟩, fun h => absurd hsel h⟩
    rw [State.tallyState, hregs.1 _ _ (by simp) (by decide)]
    exact hr
  · obtain ⟨u, hu, -, hrun, -, hst, hregs, hworks⟩ := exec_feedData_takes (t := t) hp ha hc hr heven (fun h => hsel h.1)
    exact ⟨u, hu, hworks, by rw [hst]; decide, hregs, fun _ => hbyte ▸ hrun⟩

/-- The result of a register into which bytes have gone one by one from its initial value (R373). -/
def Poly.check (p : Poly) (b : Bytes) : Nat := p.result (p.feedAll 1 b p.init)

theorem check_crc32 : Poly.check ⟨32, 0x04C11DB7, 0xFFFFFFFF, true, true, 0xFFFFFFFF⟩ (ascii "123456789") = 0xCBF43926 := by decide +kernel

theorem check_crc32c : Poly.check ⟨32, 0x1EDC6F41, 0xFFFFFFFF, true, true, 0xFFFFFFFF⟩ (ascii "123456789") = 0xE3069283 := by decide +kernel

theorem check_crc16 : Poly.check ⟨16, 0x1021, 0xFFFF, false, false, 0⟩ (ascii "123456789") = 0x29B1 := by decide +kernel

/-- Settles O36: the channel is fed, then closed, and RESULT is the check value of its polynomial. -/
theorem checkValuesComeOut : Obligations.CheckValuesComeOut := by
  intro s t port ch hp hc hst hinit hmode hwidth ha
  obtain ⟨u, hu, hworks, hidle, hregs, hrun⟩ := exec_feedData_byteWise (t := t) hp ha hc (by rw [hst]; decide) hwidth
  refine ⟨u, hu, fun hclose => ?_⟩
  have hup : u.powered = true := by
    unfold State.powered at hp ⊢
    rw [pwr_of_works hworks, hp]
  have huc : u.claimedBy ⟨port, 31, none⟩ ch = true := by
    unfold State.claimedBy at hc ⊢
    rw [itg_of_works hworks, hc]
  have hkept : ∀ o ∈ o7100_FOLD_MODE :: polyObjects, u.rd o ch = s.rd o ch := by
    have hother : ∀ o ∈ o7100_FOLD_MODE :: polyObjects, o ∉ [o7100_RUNNING, o7100_BYTES_FED, o7100_TALLY_STATE] ∧ o ∉ writeSideObjects := by decide
    exact fun o ho => hregs.1 o ch (fun hm => (hother o ho).1 (by simpa [blockObjects] using hm)) (hother o ho).2
  have hpoly : u.poly ch = s.poly ch := poly_congr ch fun o ho => hkept o (List.mem_cons_of_mem _ ho)
  have humode : u.rd o7100_FOLD_MODE ch = FOLD_MODE.none := (hkept _ List.mem_cons_self).trans hmode
  obtain ⟨v, hv, hlast, hrd⟩ := exec_tallyClose (t := t) hup huc hidle hclose
  have hresult : ∀ p, s.rd o7100_POLY_SELECT ch ≠ POLY_SELECT.st292 → s.poly ch = p → v.rdN o7100_RESULT ch = p.check (ascii "123456789") := by
    intro p hsel hp
    calc v.rdN o7100_RESULT ch = (u.poly ch).result (u.rdN o7100_RUNNING ch) :=
          (congrArg Int.toNat (hrd _ (by decide) ch)).trans (tallyClose_result (s := u.begin t) humode)
      _ = p.check (ascii "123456789") := by rw [hrun hsel, hinit, hpoly, hp]; rfl
  refine ⟨v, hv, hlast, fun h => ?_, fun h => ?_, fun h => ?_⟩
  · exact (hresult _ (by rw [h]; decide) (by simp [State.poly, h])).trans check_crc32
  · exact (hresult _ (by rw [h]; decide) (by simp [State.poly, h])).trans check_crc32c
  · exact (hresult _ (by rw [h]; decide) (by simp [State.poly, h])).trans check_crc16

end Sys2Proof.Machine
end

section
/-! SUPPORT. What the handling of a memory word leaves alone: a reading of the state that sees nothing of what a step of it touches reads the same after the step (R355-R369). -/

namespace Sys2Proof.Machine
open Sys2Proof

/-- A reading that sees neither alarms nor the objects of a list, nor what the integrity unit keeps of write-backs, spare rows in use, lines and records that wait for flash. -/
structure WordBlind (L : List Nat) {α : Type} (f : State → α) : Prop extends AlarmBlind f where
  obj : ∀ (s : State) (o r : Nat) (v : Int), o ∈ L → f (s.wr o r v) = f s
  backs : ∀ (s : State) (x : Store Nat (List WriteBack)), f { s with itg := { s.itg with backs := x } } = f s
  used : ∀ (s : State) (x y : Store Nat Nat), f { s with itg := { s.itg with bankUsed := x, memUsed := y } } = f s
  lines : ∀ (s : State) (x : List BadLine), f { s with itg := { s.itg with lines := x } } = f s
  postponed : ∀ (s : State) (x : List FlashWrite), f { s with pwr := { s.pwr with postponed := x } } = f s

/-- A reading that sees nothing of what a word in error leads to but the state of words and the rows that are retired. -/
structure ActBlind (L : List Nat) {α : Type} (f : State → α) : Prop extends WordBlind L f where
  granules : ∀ (s : State) (x : List BadGranule), f { s with itg := { s.itg with granules := x } } = f s
  enc : ∀ (s : State) (x : Enc), f { s with enc := x } = f s
  cmp : ∀ (s : State) (x : Cmp), f { s with cmp := x } = f s

/-- A reading that sees nothing at all of what a word in error leads to. -/
structure MemBlind (L : List Nat) {α : Type} (f : State → α) : Prop extends ActBlind L f where
  rows : ∀ (s : State) (x : Store Nat (List RowCopy)), f { s with itg := { s.itg with rows := x } } = f s
  words : ∀ (s : State) (x : Store Nat WordErr), f { s with itg := { s.itg with words := x } } = f s

/-- The objects of retirement and of the watch table (R364-R366). -/
def watchObjects : List Nat :=
  [o7004_WATCH_ADDR, o7004_WATCH_COUNT, o7004_WATCH_FIRST_S, o7002_WATCH_USED, o7002_WATCH_EVICTIONS, o7002_WATCH_UNTRACKED, o7002_RETIREMENTS, o7003_ROWS_RETIRED,
    o7002_REPAIRS_PENDING, o7005_WEAK_ADDR, o7002_WEAK_WORDS, o7002_WEAK_UNLISTED, o1400_POSTPONED_WRITES]

/-- The objects of the error record (7009h). -/
def errObjects : List Nat :=
  [o7009_ERR_ADDR, o7009_ERR_KIND, o7009_ERR_FOUND_BY, o7009_ERR_OWNER_CLASS, o7009_ERR_OWNER_ID, o7009_ERR_DOMAIN, o7009_ERR_FORMAT, o7009_ERR_LINE, o7009_ERR_FCNT]

/-- The counters of words read and written back, and the mark of a damaged surface. -/
def wordObjects : List Nat :=
  [o7000_WRITEBACKS_DROPPED, o7000_WRITEBACKS_CANCELLED, o7000_HBM_CORRECTED, o7000_SRAM_CORRECTED, o7003_UNIT_CORRECTED, o7000_HBM_UNCORRECTABLE, o7000_SRAM_UNCORRECTABLE,
    o7003_UNIT_UNCORRECTABLE, o7000_HBM_ADDRESS_ERRORS, o7000_SRAM_ADDRESS_ERRORS, o7000_POISON_READS, o6100_DAMAGED]

/-- All objects that the reading of a word may touch beside those of an alarm. -/
def memObjects : List Nat := watchObjects ++ errObjects ++ wordObjects

theorem watchObjects_subset : watchObjects ⊆ memObjects := by decide
theorem errObjects_subset : errObjects ⊆ memObjects := by decide

namespace AlarmBlind

variable {α : Type} {f : State → α} (hf : AlarmBlind f)
include hf

theorem raiseWith (s : State) (a : Alarm) (inst sev subsys : Nat) (data : Bytes) : f (s.raiseWith a inst sev subsys data) = f s := by
  unfold State.raiseWith
  dsimp only
  split
  · rfl
  · rw [hf.autoRelease, hf.noteChange]
    split <;> simp only [hf.logRec, hf.setPoint]

theorem raiseQuiet (s : State) (a : Alarm) (inst : Nat) : f (s.raiseQuiet a inst) = f s := (hf.alm _ _).trans (hf.raise _ _ _)

theorem foldl_clearWords (a : Alarm) (l : List (Nat × WordErr)) (s : State) : f (l.foldl (fun s e => s.clear a e.1) s) = f s := by
  induction l generalizing s with
  | nil => rfl
  | cons e l ih => exact (ih _).trans (hf.clear _ _ _)

end AlarmBlind

/-- Folding steps that a reading does not see. -/
theorem foldl_blind {α β : Type} {f : State → α} {g : State → β → State} (h : ∀ s x, f (g s x) = f s) (l : List β) (s : State) : f (l.foldl g s) = f s := by
  induction l generalizing s with
  | nil => rfl
  | cons x l ih => exact (ih _).trans (h _ _)

namespace WordBlind

variable {α : Type} {f : State → α} {L : List Nat} (hf : WordBlind L f)
include hf

theorem bump (s : State) {o : Nat} (r : Nat) (h : o ∈ L) : f (s.bump o r) = f s := hf.obj _ _ _ _ h

theorem setBacks (s : State) (u : Nat) (l : List WriteBack) : f (s.setBacks u l) = f s := hf.backs _ _

theorem queueBack (h : o7000_WRITEBACKS_DROPPED ∈ L) (s : State) (a : Nat) (p : Bool) : f (s.queueBack a p) = f s := by
  unfold State.queueBack
  dsimp only
  split_ifs
  · rfl
  · exact (hf.raiseQuiet _ _ _).trans (hf.bump _ _ h)
  · exact hf.setBacks _ _ _

theorem noteFlash (h : o1400_POSTPONED_WRITES ∈ L) (s : State) (w : FlashWrite) : f (s.noteFlash w) = f s := by
  unfold State.noteFlash
  split
  · exact (hf.obj _ _ _ _ h).trans (hf.postponed _ _)
  · rfl

theorem markWeak (h : watchObjects ⊆ L) (s : State) (a : Nat) : f (s.markWeak a) = f s := by
  unfold State.markWeak
  dsimp only
  split_ifs
  · rfl
  · exact (hf.raise _ _ _).trans ((hf.noteFlash (h (by decide)) _ _).trans ((hf.obj _ _ _ _ (h (by decide))).trans (hf.obj _ _ _ _ (h (by decide)))))
  · exact (hf.raise _ _ _).trans ((hf.noteFlash (h (by decide)) _ _).trans (hf.bump _ _ (h (by decide))))

theorem noteWatch (h : watchObjects ⊆ L) (s : State) : f s.noteWatch = f s := by
  unfold State.noteWatch
  dsimp only
  split
  · exact (hf.clear _ _ _).trans (hf.obj _ _ _ _ (h (by decide)))
  · exact hf.obj _ _ _ _ (h (by decide))

theorem setWatch (h : watchObjects ⊆ L) (s : State) (e a n first : Nat) : f (s.setWatch e a n first) = f s :=
  (hf.obj _ _ _ _ (h (by decide))).trans ((hf.obj _ _ _ _ (h (by decide))).trans (hf.obj _ _ _ _ (h (by decide))))

theorem freeWatch (h : watchObjects ⊆ L) (s : State) (e : Nat) : f (s.freeWatch e) = f s :=
  (hf.obj _ _ _ _ (h (by decide))).trans ((hf.obj _ _ _ _ (h (by decide))).trans (hf.obj _ _ _ _ (h (by decide))))

theorem freeEntry (h : watchObjects ⊆ L) (s : State) : f s.freeEntry.2 = f s := by
  unfold State.freeEntry
  generalize watchList = l -- 512 entries: no term of this proof should unfold them
  split
  · rfl
  · dsimp only
    split
    · exact foldl_blind (hf.freeWatch h) _ _
    · split
      · exact (hf.bump _ _ (h (by decide))).trans (hf.freeWatch h _ _)
      · rfl

theorem errRecord (h : errObjects ⊆ L) (s : State) (a : Nat) (kind by_ : Int) (item : Nat) : f (s.errRecord a kind by_ item) = f s := by
  have hwrites : ∀ (l : List (Nat × Int)) (s : State), (∀ e ∈ l, e.1 ∈ errObjects) → f (l.foldl (fun s e => s.wr e.1 0 e.2) s) = f s := by
    intro l
    induction l with
    | nil => exact fun _ _ => rfl
    | cons e l ih =>
      intro s hl
      rw [List.forall_mem_cons] at hl
      exact (ih _ hl.2).trans (hf.obj _ _ _ _ (h hl.1))
  unfold State.errRecord
  extract_lets o cls id buf vals
  refine hwrites vals s fun e he => ?_
  have hnames : vals.map (·.1) = errObjects := rfl
  exact hnames ▸ List.mem_map_of_mem he

/-- Of an event on a word only a retirement is seen. -/
theorem watchEvent_cases (h : watchObjects ⊆ L) (s : State) (a n : Nat) : f (s.watchEvent a n) = f s ∨ ∃ x b, f x = f s ∧ f (s.watchEvent a n) = f (x.retire b) := by
  unfold State.watchEvent
  dsimp only
  split
  · split
    · split
      · exact .inr ⟨_, _, hf.freeWatch h _ _, hf.noteWatch h _⟩
      · exact .inl (hf.obj _ _ _ _ (h (by decide)))
    · exact .inl (hf.setWatch h _ _ _ _ _)
  · have hfree := hf.freeEntry h s
    split
    · next heq =>
      rw [heq] at hfree
      exact .inl ((hf.noteWatch h _).trans ((hf.setWatch h _ _ _ _ _).trans hfree))
    · next heq =>
      rw [heq] at hfree
      exact .inl ((hf.noteWatch h _).trans ((hf.raise _ _ _).trans ((hf.bump _ _ (h (by decide))).trans hfree)))

/-- Of the read of a word only its flips and a retirement are seen. -/
theorem readWord_cases (h : memObjects ⊆ L) (s : State) (auditor : Bool) (w : WordTouch) :
    f (s.readWord auditor w).2 = f (s.flip w) ∨ ∃ x b, f x = f (s.flip w) ∧ f (s.readWord auditor w).2 = f (x.retire b) := by
  have hwatch : watchObjects ⊆ L := fun _ ho => h (watchObjects_subset ho)
  have herr : errObjects ⊆ L := fun _ ho => h (errObjects_subset ho)
  have hcount : ∀ (s : State) (a r : Nat) {hbm sram : Nat}, hbm ∈ memObjects → sram ∈ memObjects → f (s.bump (errCounter a hbm sram) r) = f s := by
    intro s a r hbm sram hh hs
    unfold errCounter
    split
    · exact hf.bump _ _ (h hs)
    · exact hf.bump _ _ (h hh)
  have hevent : ∀ {x y : State} (a n : Nat), f x = f (s.flip w) → f y = f (x.watchEvent a n) → f y = f (s.flip w) ∨ ∃ x b, f x = f (s.flip w) ∧ f y = f (x.retire b) := by
    intro x y a n hx hy
    rcases hf.watchEvent_cases hwatch x a n with hk | ⟨z, b, hz, hk⟩
    · exact .inl (hy.trans (hk.trans hx))
    · exact .inr ⟨z, b, hz.trans hx, hy.trans hk⟩
  unfold State.readWord
  extract_lets +onlyGivenNames x a v by_ pend
  have hx : f x = f (s.flip w) := rfl
  clear_value x v by_ pend
  split
  · exact .inl hx
  · extract_lets corrected
    have hcorrected : f corrected = f (s.flip w) := (hf.bump _ _ (h (by decide))).trans ((hcount _ _ _ (by decide) (by decide)).trans hx)
    clear_value corrected
    split
    · exact .inl hcorrected
    · have hq : f ((corrected.watchEvent a 1).queueBack a false) = f (corrected.watchEvent a 1) := hf.queueBack (h (by decide)) _ _ _
      dsimp only
      exact hevent a 1 hcorrected hq
  · extract_lets counted recorded raised
    have hrecorded : f recorded = f (s.flip w) := (hf.errRecord herr _ _ _ _ _).trans ((hf.bump _ _ (h (by decide))).trans ((hcount _ _ _ (by decide) (by decide)).trans hx))
    have hraised : f raised = f (s.flip w) := by
      refine Eq.trans ?_ hrecorded
      dsimp only [raised]
      split
      · split
        · rfl
        · exact hf.raiseWith _ _ _ _ _ _
      · exact hf.raiseWith _ _ _ _ _ _
    clear_value raised
    split
    · exact .inl hx
    · have hq : f (raised.queueBack a true) = f (s.flip w) := (hf.queueBack (h (by decide)) raised a true).trans hraised
      dsimp only
      exact hevent a 2 hq rfl
  · exact .inl ((hf.clear _ _ _).trans ((hf.raiseWith _ _ _ _ _ _).trans ((hf.errRecord herr _ _ _ _ _).trans ((hcount _ _ _ (by decide) (by decide)).trans hx))))
  · exact .inl ((hf.errRecord herr _ _ _ _ _).trans ((hf.bump _ _ (h (by decide))).trans hx))

section
variable (hrows : ∀ (s : State) (x : Store Nat (List RowCopy)), f { s with itg := { s.itg with rows := x } } = f s)
include hrows

theorem retire (h : watchObjects ⊆ L) (s : State) (a : Nat) : f (s.retire a) = f s := by
  have hbump : ∀ (s : State) (o r : Nat), o ∈ watchObjects → f (s.bump o r) = f s := fun s o r ho => hf.bump s r (h ho)
  unfold State.retire
  extract_lets m b used itg counted queued retired repaired
  have hqueued : f queued = f s := (hrows counted _).trans (hf.used s _ _)
  have hretired : f retired = f s := (hbump _ _ _ (by decide)).trans ((hbump _ _ _ (by decide)).trans hqueued)
  have hrepaired : f repaired = f s := by
    refine Eq.trans ?_ hretired
    dsimp only [repaired]
    split
    · exact hbump _ _ _ (by decide)
    · rfl
  split_ifs
  · rfl
  · exact hf.markWeak h _ _
  · exact (hf.pulse _ _ _).trans ((hf.noteFlash (h (by decide)) _ _).trans ((hf.foldl_clearWords _ _ _).trans ((hf.clear _ _ _).trans hrepaired)))

theorem watchEvent (h : watchObjects ⊆ L) (s : State) (a n : Nat) : f (s.watchEvent a n) = f s := by
  rcases hf.watchEvent_cases h s a n with hk | ⟨x, b, hx, hk⟩
  · exact hk
  · exact hk.trans ((hf.retire hrows h x b).trans hx)

/-- Of the read of a word only its flips are seen. -/
theorem readWord_flip (h : memObjects ⊆ L) (s : State) (auditor : Bool) (w : WordTouch) : f (s.readWord auditor w).2 = f (s.flip w) := by
  rcases hf.readWord_cases h s auditor w with hk | ⟨x, b, hx, hk⟩
  · exact hk
  · exact hk.trans ((hf.retire hrows (fun _ ho => h (watchObjects_subset ho)) x b).trans hx)

end

theorem wordWritten (hwords : ∀ (s : State) (x : Store Nat WordErr), f { s with itg := { s.itg with words := x } } = f s) (h : o7000_WRITEBACKS_CANCELLED ∈ L) (s : State) (a : Nat) : f (s.wordWritten a) = f s := by
  unfold State.wordWritten
  extract_lets w u x y
  have hx : f x = f s := by
    dsimp only [x]
    split
    · exact (hf.bump _ _ h).trans (hf.setBacks _ _ _)
    · rfl
  exact (hf.lines _ _).trans ((hf.clear _ _ _).trans ((hwords _ _).trans hx))

end WordBlind

namespace ActBlind

variable {α : Type} {f : State → α} {L : List Nat} (hf : ActBlind L f)
include hf

theorem poolDamaged (h : o6100_DAMAGED ∈ L) (s : State) (g item : Nat) : f (s.poolDamaged g item) = f s := by
  unfold State.poolDamaged
  split_ifs
  · unfold State.surfDamaged
    split
    · rfl
    · exact (hf.raise _ _ _).trans ((hf.obj _ _ _ _ h).trans (hf.cmp _ _))
  · dsimp only
    split
    · rfl
    · exact hf.cmp _ _
  · dsimp only
    split
    · exact hf.cmp _ _
    · rfl

/-- Of what a word that cannot be used leads to only its writing is seen. -/
theorem actOn (h : o6100_DAMAGED ∈ L) {w : WordTouch} (hw : ∀ s : State, f (s.wordWritten (wordBase w.addr)) = f s) (s : State) : f (s.actOn w) = f s := by
  unfold State.actOn
  extract_lets a
  split
  · rfl
  · split
    · unfold State.noteBadLine
      split
      · split
        · rfl
        · exact hf.lines _ _
      · rfl
    · split
      · exact hf.enc _ _
      · rfl
    · exact hf.poolDamaged h _ _ _
    · exact hw _
    · unfold State.noteGranule
      dsimp only
      split
      · exact hf.raise _ _ _
      · exact (hf.granules _ _).trans (hf.raise _ _ _)
    · unfold State.loseRecord
      split
      · exact (hf.toAlarmBlind.wr _ _ _ _ (by decide)).trans (hf.alm _ _)
      · rfl
    · rfl

end ActBlind

namespace MemBlind

variable {α : Type} {f : State → α} {L : List Nat} (hf : MemBlind L f)
include hf

theorem setWord (s : State) (a : Nat) (e : WordErr) : f (s.setWord a e) = f s := hf.words _ _

/-- The read of a word is unseen. -/
theorem readWord (h : memObjects ⊆ L) (s : State) (auditor : Bool) (w : WordTouch) : f (s.readWord auditor w).2 = f s :=
  (hf.readWord_flip hf.rows h s auditor w).trans (hf.setWord _ _ _)

/-- What a word that cannot be used leads to is unseen. -/
theorem actOn (h : memObjects ⊆ L) (s : State) (w : WordTouch) : f (s.actOn w) = f s :=
  hf.toActBlind.actOn (h (by decide)) (fun s => hf.wordWritten hf.words (h (by decide)) s _) s

theorem meet (h : memObjects ⊆ L) (s : State) (auditor : Bool) (w : WordTouch) : f (s.meet auditor w).2 = f s := by
  unfold State.meet
  dsimp only
  split
  · exact (hf.actOn h _ _).trans (hf.readWord h _ _ _)
  · exact hf.readWord h _ _ _

/-- The words that a reader meets are unseen. -/
theorem meetAll (h : memObjects ⊆ L) (s : State) (l : List WordTouch) : f (s.meetAll l).2 = f s := by
  unfold State.meetAll
  suffices hgen : ∀ p : List WordTouch × State, f (l.foldl (fun p w => (if (p.2.meet false w).1 then p.1 ++ [w] else p.1, (p.2.meet false w).2)) p).2 = f p.2 from hgen ([], s)
  induction l with
  | nil => exact fun _ => rfl
  | cons w l ih => exact fun p => (ih _).trans (hf.meet h _ _ _)

end MemBlind

/-- Every object apart from those of a list and those of an alarm. -/
theorem memBlind_rd {L : List Nat} {o : Nat} (r : Nat) (ho : o ∉ alarmSideObjects) (hL : o ∉ L) : MemBlind L (·.rd o r) :=
  { alarmBlind_rd r ho with
    obj := fun s _ _ v hm => s.rd_wr_obj v fun e => hL (e ▸ hm)
    backs := fun _ _ => rfl, used := fun _ _ _ => rfl, lines := fun _ _ => rfl, postponed := fun _ _ => rfl, words := fun _ _ => rfl, rows := fun _ _ => rfl
    granules := fun _ _ => rfl, enc := fun _ _ => rfl, cmp := fun _ _ => rfl }

end Sys2Proof.Machine
end

section
/-! SUPPORT. An item that misses its place (R58), and the time clock's commands (R93-R95, R99). -/

namespace Sys2Proof.Machine
open Sys2Proof

/-! Overdraft (R58). -/

/-- The fallbacks count in objects of their own chapters. -/
def fallbackObjects : List Nat := [o5002_MINT_OVERDRAFTS, o5012_XS_SLICES_COARSENED, o6003_LAYER_OVERDRAFTS]

theorem markMissed_rd (s : State) (r f line : Nat) (o r' : Nat) : (s.markMissed r f line).rd o r' = s.rd o r' := rfl

theorem scalerMissed_rd (s : State) (d r line o r' : Nat) : (s.scalerMissed d r line).rd o r' = s.rd o r' := by
  unfold State.scalerMissed
  dsimp only
  split_ifs
  · rfl
  · rfl
  · split
    · exact markMissed_rd _ _ _ _ _ _
    · rfl
  · rfl

theorem ctuMissed_rd {o : Nat} (ho : o ∉ fallbackObjects) (s : State) (ch rect ctu r : Nat) : (s.ctuMissed ch rect ctu).rd o r = s.rd o r := by
  unfold State.ctuMissed
  split
  · rfl
  · exact State.rd_wr_obj _ _ fun e => ho (by rw [e]; decide)

/-- The fallback of a missed item touches no other object. -/
theorem fallback_rd {o : Nat} (ho : o ∉ fallbackObjects) (s : State) (d : Nat) (m : Miss) (r : Nat) : (s.fallback d m).rd o r = s.rd o r := by
  have hne : ∀ k ∈ fallbackObjects, o ≠ k := fun k hk e => ho (e ▸ hk)
  unfold State.fallback
  split
  · rfl
  · exact markMissed_rd _ _ _ _ _ _
  · exact ctuMissed_rd ho _ _ _ _ _
  · exact State.rd_wr_obj _ _ (hne _ (by decide))
  · rfl
  · exact State.rd_wr_obj _ _ (hne _ (by decide))
  · exact scalerMissed_rd _ _ _ _ _ _
  · exact markMissed_rd _ _ _ _ _ _
  · rfl

theorem rd_bump_same (s : State) (o r : Nat) : (s.bump o r).rd o r = (s.rd o r + 1) % objModulus o := State.rd_wr_same _ _ _ _

theorem rd_bump_ne (s : State) {o r o' r' : Nat} (h : (o', r') ≠ (o, r)) : (s.bump o r).rd o' r' = s.rd o' r' := State.rd_wr_ne _ _ h

theorem rd_bump_obj (s : State) {o o' : Nat} (h : o' ≠ o) (r r' : Nat) : (s.bump o r).rd o' r' = s.rd o' r' := State.rd_wr_obj _ _ h

/-- What an overdraft leaves of an object is what its three counters, and that of frames with one, leave. -/
theorem overdraft_rd (s : State) (kind d sub : Nat) {o : Nat} (ho : o ≠ o2005_OVERDRAFT_FRAMES) (r : Nat) :
    (s.overdraft kind d sub).rd o r = (((s.bump o2006_OVERDRAFT_KIND_COUNT kind).bump o2005_OVERDRAFTS d).bump o1003_OVERDRAFTS sub).rd o r := by
  unfold State.overdraft
  dsimp only
  split
  · exact State.rd_wr_obj _ _ ho
  · rfl

/-- An overdraft counts once in each of the three places, and against no other kind. -/
theorem overdraft_counts (s : State) (kind d sub : Nat) :
    (s.overdraft kind d sub).rd o2006_OVERDRAFT_KIND_COUNT kind = (s.rd o2006_OVERDRAFT_KIND_COUNT kind + 1) % 2 ^ 64 ∧
    (s.overdraft kind d sub).rd o2005_OVERDRAFTS d = (s.rd o2005_OVERDRAFTS d + 1) % 2 ^ 64 ∧
    (s.overdraft kind d sub).rd o1003_OVERDRAFTS sub = (s.rd o1003_OVERDRAFTS sub + 1) % 2 ^ 64 ∧
    ∀ k, k ≠ kind → (s.overdraft kind d sub).rd o2006_OVERDRAFT_KIND_COUNT k = s.rd o2006_OVERDRAFT_KIND_COUNT k := by
  have hk : objModulus o2006_OVERDRAFT_KIND_COUNT = 2 ^ 64 := by decide
  have hd : objModulus o2005_OVERDRAFTS = 2 ^ 64 := by decide
  have hs : objModulus o1003_OVERDRAFTS = 2 ^ 64 := by decide
  refine ⟨?_, ?_, ?_, fun k hne => ?_⟩ <;> rw [overdraft_rd _ _ _ _ (by decide)]
  · simp (disch := decide) only [rd_bump_obj, rd_bump_same, hk]
  · simp (disch := decide) only [rd_bump_obj, rd_bump_same, hd]
  · simp (disch := decide) only [rd_bump_obj, rd_bump_same, hs]
  · simp (disch := decide) only [rd_bump_obj]
    exact rd_bump_ne s fun e => hne (congrArg Prod.snd e)

/-- Settles O9: the fallback touches none of the counters, and the overdraft counts once in each. -/
theorem missesAreCountedThreeTimes : Obligations.MissesAreCountedThreeTimes := by
  intro s d m hlo hhi
  have htake : s.takeMiss d m = (s.fallback d m).overdraft m.kind d (chargeOf m) := if_pos ⟨hlo, hhi⟩
  obtain ⟨hk, hd, hs, hne⟩ := overdraft_counts (s.fallback d m) m.kind d (chargeOf m)
  simp (disch := decide) only [fallback_rd] at hk hd hs hne
  rw [htake]
  exact ⟨hk, hd, hs, hne⟩

end Sys2Proof.Machine
end

section
/-! SUPPORT. Footprints: what a step of the machine may touch, said once per step as a list of marks, for every reading that sees none of them. -/

namespace Sys2Proof.Machine
open Sys2Proof

/-- A part of the state that a step may touch: an object of either kind, or one of the parts that no object holds. -/
inductive Mark where
  | obj (o : Nat) | oct (o : Nat) | alarm (a : Alarm) | clk | ctl | alm | led | cands | tds | cadence | ptp | pwr | lanes | med | aud | fab | tlr | eg | enc | cmp | ras | itg | sec | pair | mem | orders | out | free | last
deriving DecidableEq

/-! An alarm that is not of severity A leaves the pair as it is (R438). -/

/-- What the logs write beside the alarms. -/
def logObjects : List Nat := [o1503_VAULT_TRIGGER_SEQ, o1503_VAULT_STATE, o1502_RING_DISCARDED]

/-- A reading of the state that sees nothing of the alarms and logs. -/
structure LogBlind {α : Type} (f : State → α) : Prop where
  alm : ∀ (s : State) (x : Alm), f { s with alm := x } = f s
  wr : ∀ (s : State) (o r : Nat) (v : Int), o ∈ logObjects → f (s.wr o r v) = f s

namespace LogBlind

variable {α : Type} {f : State → α} (hf : LogBlind f)
include hf

theorem vaultTake (s : State) (r : LogRec) (trigger : Bool) : f (s.vaultTake r trigger) = f s := by
  have hstate : ∀ (s : State) (v : Int), f (s.wr o1503_VAULT_STATE 0 v) = f s := fun s v => hf.wr _ _ _ _ (by decide)
  have hopen : ∀ (s : State) (x : Alm) (v w : Int), f (({ s with alm := x }.wr o1503_VAULT_TRIGGER_SEQ 0 v).wr o1503_VAULT_STATE 0 w) = f s := fun s x v w =>
    (hstate _ _).trans ((hf.wr _ _ _ _ (by decide)).trans (hf.alm _ _))
  unfold State.vaultTake
  extract_lets
  split_ifs
  · rfl
  · exact hopen _ _ _ _
  · exact (hf.alm _ _).trans (hopen _ _ _ _)
  · exact hf.alm _ _
  · exact (hstate _ _).trans ((hf.alm _ _).trans (hf.alm _ _))
  · exact (hf.alm _ _).trans (hf.alm _ _)

theorem logRec (s : State) (kind point sev subsys inst : Nat) (data : Bytes) (trigger : Bool) : f (s.logRec kind point sev subsys inst data trigger) = f s := by
  have hstage : ∀ (s : State) (r : LogRec), f (s.stage r) = f s := fun s r => by
    unfold State.stage
    split
    · exact (hf.wr _ _ _ _ (by decide)).trans (hf.alm _ _)
    · exact hf.alm _ _
  unfold State.logRec
  exact (hstage _ _).trans ((hf.vaultTake _ _ _).trans (hf.alm _ _))

theorem noteChange (s : State) (a : Alarm) : f (s.noteChange a) = f s := by
  unfold State.noteChange
  refine foldl_blind (fun s p => ?_) _ s
  dsimp only
  split
  · rfl
  · exact hf.alm _ _

theorem setPoint (s : State) (a : Alarm) (p : AlarmPt) : f (s.setPoint a p) = f s := hf.alm _ _

theorem clear (s : State) (a : Alarm) (i : Nat) : f (s.clear a i) = f s := by
  unfold State.clear
  dsimp only
  split
  · rfl
  · rw [hf.noteChange]
    split_ifs <;> simp only [hf.logRec, hf.setPoint]

theorem raiseWith {sev : Nat} (hs : sev ≠ 1) (s : State) (a : Alarm) (i subsys : Nat) (data : Bytes) : f (s.raiseWith a i sev subsys data) = f s := by
  unfold State.raiseWith
  dsimp only
  split
  · rfl
  · refine (congrArg f (if_neg fun h => hs h.1)).trans ?_
    rw [hf.noteChange]
    split <;> simp only [hf.logRec, hf.setPoint]

theorem reSeverity (s : State) (a : Alarm) (i sev : Nat) : f (s.reSeverity a i sev) = f s := by
  unfold State.reSeverity
  dsimp only
  split_ifs
  · exact (hf.noteChange _ _).trans ((hf.logRec _ _ _ _ _ _ _ _).trans (hf.setPoint _ _ _))
  · exact hf.setPoint _ _ _
  · rfl

end LogBlind

/-- What is blind to alarms is blind to the logs. -/
theorem AlarmBlind.toLog {α : Type} {f : State → α} (hf : AlarmBlind f) : LogBlind f := ⟨hf.alm, fun s o r v ho => hf.wr s o r v (List.mem_append_left [o1601_LEASE_END, o1601_PAIR_STATE] ho)⟩

/-- One change of an alarm point. -/
inductive AlarmTouch (a : Alarm) : State → State → Prop
  | raise (s i sev subsys data) (h : sev = 1 → a.severity = 1) : AlarmTouch a s (s.raiseWith a i sev subsys data)
  | clear (s i) : AlarmTouch a s (s.clear a i)
  | quiet (s x) : AlarmTouch a s { s with alm := { s.alm with quiet := x } }
  | reSeverity (s i sev) : AlarmTouch a s (s.reSeverity a i sev)

theorem AlarmBlind.touch {α : Type} {f : State → α} (hf : AlarmBlind f) {a : Alarm} {s u : State} (h : AlarmTouch a s u) : f u = f s := by
  cases h with
  | raise => exact hf.raiseWith _ _ _ _ _ _
  | clear => exact hf.clear _ _ _
  | quiet => exact hf.alm _ _
  | reSeverity => exact hf.toLog.reSeverity _ _ _ _

theorem LogBlind.touch {α : Type} {f : State → α} (hf : LogBlind f) {a : Alarm} (ha : a.severity ≠ 1) {s u : State} (h : AlarmTouch a s u) : f u = f s := by
  cases h with
  | raise _ _ _ _ hs => exact hf.raiseWith (fun e => ha (hs e)) _ _ _ _ _
  | clear => exact hf.clear _ _ _
  | quiet => exact hf.alm _ _
  | reSeverity => exact hf.reSeverity _ _ _ _

/-- Another alarm point does not see it. -/
theorem stands_touch {a b : Alarm} (hab : b ≠ a) {s u : State} (h : AlarmTouch a s u) (i : Nat) : u.stands b i ↔ s.stands b i := by
  cases h with
  | raise => exact (stands_raiseWith _ _ _ _ _ _ _ _).trans (or_iff_left fun e => hab e.1)
  | clear => exact (stands_clear _ _ _ _ _).trans (and_iff_left fun e => hab e.1)
  | quiet => exact stands_congr rfl _ _
  | reSeverity => exact stands_reSeverity _ _ _ _ _ _

/-- One touch of a marked part. -/
inductive Touch : Mark → State → State → Prop
  | wr (s o r v) : Touch (.obj o) s (s.wr o r v)
  | wrOct (s o r b) : Touch (.oct o) s (s.wrOct o r b)
  | alarm {a s u} (h : AlarmTouch a s u) : Touch (.alarm a) s u
  | clk (s x) : Touch .clk s { s with clk := x }
  | ctl (s x) : Touch .ctl s { s with ctl := x }
  | alm (s x) : Touch .alm s { s with alm := x }
  | led (s x) : Touch .led s { s with led := x }
  | cands (s x) : Touch .cands s { s with cands := x }
  | tds (s x) : Touch .tds s { s with tds := x }
  | cadence (s x y) : Touch .cadence s { s with cadence := x, cadenceAt := y }
  | ptp (s x) : Touch .ptp s { s with ptp := x }
  | pwr (s x) : Touch .pwr s { s with pwr := x }
  | lanes (s x) : Touch .lanes s { s with lanes := x }
  | med (s x) : Touch .med s { s with med := x }
  | aud (s x) : Touch .aud s { s with aud := x }
  | fab (s x) : Touch .fab s { s with fab := x }
  | tlr (s x) : Touch .tlr s { s with tlr := x }
  | eg (s x) : Touch .eg s { s with eg := x }
  | enc (s x) : Touch .enc s { s with enc := x }
  | cmp (s x) : Touch .cmp s { s with cmp := x }
  | ras (s x) : Touch .ras s { s with ras := x }
  | itg (s x) : Touch .itg s { s with itg := x }
  | sec (s x) : Touch .sec s { s with sec := x }
  | pair (s x) : Touch .pair s { s with pair := x }
  | mem (s x) : Touch .mem s { s with mem := x }
  | orders (s x) : Touch .orders s { s with orders := x }
  | out (s x) : Touch .out s { s with out := x }
  | free (s x) : Touch .free s { s with free := x }
  | last (s x) : Touch .last s { s with last := x }

/-- Whether an alarm is marked. -/
def hasAlarm (M : List Mark) : Bool := M.any fun
  | .alarm _ => true
  | _ => false

/-- Whether an alarm of severity A is marked. -/
def hasSevere (M : List Mark) : Bool := M.any fun
  | .alarm a => a.severity == 1
  | _ => false

theorem calm_mem {M : List Mark} (hM : hasSevere M = false) {a : Alarm} (h : .alarm a ∈ M) : a.severity ≠ 1 := fun hs =>
  Bool.false_ne_true (hM.symm.trans (List.any_eq_true.mpr ⟨_, h, beq_iff_eq.mpr hs⟩))

theorem hasAlarm_mem {M : List Mark} {a : Alarm} (h : .alarm a ∈ M) : hasAlarm M = true := List.any_eq_true.mpr ⟨_, h, rfl⟩

/-- A reading of the state that sees none of the marked parts. -/
def Blind (M : List Mark) {α : Type} (f : State → α) : Prop := ∀ m ∈ M, ∀ s u, Touch m s u → f u = f s

/-! Readings. -/

section
variable {M : List Mark}

theorem blind_rd {o : Nat} (h : .obj o ∉ M) (r : Nat) (ha : hasAlarm M = false ∨ o ∉ alarmSideObjects := by decide) : Blind M (·.rd o r) := by
  intro m hm s u ht
  cases ht with
  | wr _ o' r' v => exact s.rd_wr_obj v fun e => h (e ▸ hm)
  | alarm ht => exact (alarmBlind_rd r (ha.resolve_left fun hn => Bool.false_ne_true (hn.symm.trans (hasAlarm_mem hm)))).touch ht
  | _ => rfl

/-- The pair's own objects, which an alarm of severity A alone may write. -/
theorem blind_rd_calm {o : Nat} (h : .obj o ∉ M) (r : Nat) (ho : o ∉ logObjects) (ha : hasSevere M = false := by decide) : Blind M (·.rd o r) := by
  intro m hm s u ht
  cases ht with
  | wr _ o' r' v => exact s.rd_wr_obj v fun e => h (e ▸ hm)
  | alarm ht => exact LogBlind.touch (f := (·.rd o r)) ⟨fun _ _ => rfl, fun s _ _ v hm => s.rd_wr_obj v fun e => ho (e ▸ hm)⟩ (calm_mem ha hm) ht
  | _ => rfl

theorem blind_rdOct {o : Nat} (h : .oct o ∉ M) (r : Nat) : Blind M (·.rdOct o r) := by
  intro m hm s u ht
  cases ht with
  | wrOct _ o' r' b => exact s.rdOct_wrOct_ne b fun e => h (by rw [show o = o' from congrArg Prod.fst e]; exact hm)
  | alarm ht => exact AlarmBlind.touch (f := (·.rdOct o r)) ⟨fun _ _ => rfl, fun _ _ => rfl, fun _ _ _ _ _ => rfl⟩ ht
  | _ => rfl

theorem blind_clk (h : .clk ∉ M) : Blind M State.clk := by
  intro m hm s u ht
  cases ht with
  | clk => exact absurd hm h
  | alarm ht => exact AlarmBlind.touch ⟨fun _ _ => rfl, fun _ _ => rfl, fun _ _ _ _ _ => rfl⟩ ht
  | _ => rfl

theorem blind_ctl (h : .ctl ∉ M) : Blind M State.ctl := by
  intro m hm s u ht
  cases ht with
  | ctl => exact absurd hm h
  | alarm ht => exact AlarmBlind.touch ⟨fun _ _ => rfl, fun _ _ => rfl, fun _ _ _ _ _ => rfl⟩ ht
  | _ => rfl

theorem blind_alm (h : .alm ∉ M) (ha : hasAlarm M = false := by decide) : Blind M State.alm := by
  intro m hm s u ht
  cases ht with
  | alm => exact absurd hm h
  | alarm => exact absurd (hasAlarm_mem hm) (by rw [ha]; exact Bool.false_ne_true)
  | _ => rfl

theorem blind_led (h : .led ∉ M) : Blind M State.led := by
  intro m hm s u ht
  cases ht with
  | led => exact absurd hm h
  | alarm ht => exact AlarmBlind.touch ⟨fun _ _ => rfl, fun _ _ => rfl, fun _ _ _ _ _ => rfl⟩ ht
  | _ => rfl

theorem blind_cands (h : .cands ∉ M) : Blind M State.cands := by
  intro m hm s u ht
  cases ht with
  | cands => exact absurd hm h
  | alarm ht => exact AlarmBlind.touch ⟨fun _ _ => rfl, fun _ _ => rfl, fun _ _ _ _ _ => rfl⟩ ht
  | _ => rfl

theorem blind_tds (h : .tds ∉ M) : Blind M State.tds := by
  intro m hm s u ht
  cases ht with
  | tds => exact absurd hm h
  | alarm ht => exact AlarmBlind.touch ⟨fun _ _ => rfl, fun _ _ => rfl, fun _ _ _ _ _ => rfl⟩ ht
  | _ => rfl

theorem blind_ptp (h : .ptp ∉ M) : Blind M State.ptp := by
  intro m hm s u ht
  cases ht with
  | ptp => exact absurd hm h
  | alarm ht => exact AlarmBlind.touch ⟨fun _ _ => rfl, fun _ _ => rfl, fun _ _ _ _ _ => rfl⟩ ht
  | _ => rfl

theorem blind_pwr (h : .pwr ∉ M) : Blind M State.pwr := by
  intro m hm s u ht
  cases ht with
  | pwr => exact absurd hm h
  | alarm ht => exact AlarmBlind.touch ⟨fun _ _ => rfl, fun _ _ => rfl, fun _ _ _ _ _ => rfl⟩ ht
  | _ => rfl

theorem blind_lanes (h : .lanes ∉ M) : Blind M State.lanes := by
  intro m hm s u ht
  cases ht with
  | lanes => exact absurd hm h
  | alarm ht => exact AlarmBlind.touch ⟨fun _ _ => rfl, fun _ _ => rfl, fun _ _ _ _ _ => rfl⟩ ht
  | _ => rfl

theorem blind_med (h : .med ∉ M) : Blind M State.med := by
  intro m hm s u ht
  cases ht with
  | med => exact absurd hm h
  | alarm ht => exact AlarmBlind.touch ⟨fun _ _ => rfl, fun _ _ => rfl, fun _ _ _ _ _ => rfl⟩ ht
  | _ => rfl

theorem blind_aud (h : .aud ∉ M) : Blind M State.aud := by
  intro m hm s u ht
  cases ht with
  | aud => exact absurd hm h
  | alarm ht => exact AlarmBlind.touch ⟨fun _ _ => rfl, fun _ _ => rfl, fun _ _ _ _ _ => rfl⟩ ht
  | _ => rfl

theorem blind_fab (h : .fab ∉ M) : Blind M State.fab := by
  intro m hm s u ht
  cases ht with
  | fab => exact absurd hm h
  | alarm ht => exact AlarmBlind.touch ⟨fun _ _ => rfl, fun _ _ => rfl, fun _ _ _ _ _ => rfl⟩ ht
  | _ => rfl

theorem blind_tlr (h : .tlr ∉ M) : Blind M State.tlr := by
  intro m hm s u ht
  cases ht with
  | tlr => exact absurd hm h
  | alarm ht => exact AlarmBlind.touch ⟨fun _ _ => rfl, fun _ _ => rfl, fun _ _ _ _ _ => rfl⟩ ht
  | _ => rfl

theorem blind_eg (h : .eg ∉ M) : Blind M State.eg := by
  intro m hm s u ht
  cases ht with
  | eg => exact absurd hm h
  | alarm ht => exact AlarmBlind.touch ⟨fun _ _ => rfl, fun _ _ => rfl, fun _ _ _ _ _ => rfl⟩ ht
  | _ => rfl

theorem blind_enc (h : .enc ∉ M) : Blind M State.enc := by
  intro m hm s u ht
  cases ht with
  | enc => exact absurd hm h
  | alarm ht => exact AlarmBlind.touch ⟨fun _ _ => rfl, fun _ _ => rfl, fun _ _ _ _ _ => rfl⟩ ht
  | _ => rfl

theorem blind_cmp (h : .cmp ∉ M) : Blind M State.cmp := by
  intro m hm s u ht
  cases ht with
  | cmp => exact absurd hm h
  | alarm ht => exact AlarmBlind.touch ⟨fun _ _ => rfl, fun _ _ => rfl, fun _ _ _ _ _ => rfl⟩ ht
  | _ => rfl

theorem blind_ras (h : .ras ∉ M) : Blind M State.ras := by
  intro m hm s u ht
  cases ht with
  | ras => exact absurd hm h
  | alarm ht => exact AlarmBlind.touch ⟨fun _ _ => rfl, fun _ _ => rfl, fun _ _ _ _ _ => rfl⟩ ht
  | _ => rfl

theorem blind_itg (h : .itg ∉ M) : Blind M State.itg := by
  intro m hm s u ht
  cases ht with
  | itg => exact absurd hm h
  | alarm ht => exact AlarmBlind.touch ⟨fun _ _ => rfl, fun _ _ => rfl, fun _ _ _ _ _ => rfl⟩ ht
  | _ => rfl

theorem blind_sec (h : .sec ∉ M) : Blind M State.sec := by
  intro m hm s u ht
  cases ht with
  | sec => exact absurd hm h
  | alarm ht => exact AlarmBlind.touch ⟨fun _ _ => rfl, fun _ _ => rfl, fun _ _ _ _ _ => rfl⟩ ht
  | _ => rfl

theorem blind_pair (h : .pair ∉ M) (ha : hasSevere M = false := by decide) : Blind M State.pair := by
  intro m hm s u ht
  cases ht with
  | pair => exact absurd hm h
  | alarm ht => exact LogBlind.touch ⟨fun _ _ => rfl, fun _ _ _ _ _ => rfl⟩ (calm_mem ha hm) ht
  | _ => rfl

theorem blind_mem (h : .mem ∉ M) : Blind M State.mem := by
  intro m hm s u ht
  cases ht with
  | mem => exact absurd hm h
  | alarm ht => exact AlarmBlind.touch ⟨fun _ _ => rfl, fun _ _ => rfl, fun _ _ _ _ _ => rfl⟩ ht
  | _ => rfl

theorem blind_orders (h : .orders ∉ M) : Blind M State.orders := by
  intro m hm s u ht
  cases ht with
  | orders => exact absurd hm h
  | alarm ht => exact AlarmBlind.touch ⟨fun _ _ => rfl, fun _ _ => rfl, fun _ _ _ _ _ => rfl⟩ ht
  | _ => rfl

theorem blind_out (h : .out ∉ M) : Blind M State.out := by
  intro m hm s u ht
  cases ht with
  | out => exact absurd hm h
  | alarm ht => exact AlarmBlind.touch ⟨fun _ _ => rfl, fun _ _ => rfl, fun _ _ _ _ _ => rfl⟩ ht
  | _ => rfl

theorem blind_free (h : .free ∉ M) : Blind M State.free := by
  intro m hm s u ht
  cases ht with
  | free => exact absurd hm h
  | alarm ht => exact AlarmBlind.touch ⟨fun _ _ => rfl, fun _ _ => rfl, fun _ _ _ _ _ => rfl⟩ ht
  | _ => rfl

/-- No step of a command touches the time. -/
theorem blind_now : Blind M State.now := by
  intro m _ s u ht
  cases ht with
  | alarm ht => exact AlarmBlind.touch ⟨fun _ _ => rfl, fun _ _ => rfl, fun _ _ _ _ _ => rfl⟩ ht
  | _ => rfl

/-- An alarm point sees neither other points nor the rest of the state. -/
theorem blind_stands {a : Alarm} (h : .alarm a ∉ M) (halm : .alm ∉ M) (i : Nat) : Blind M (·.stands a i) := by
  intro m hm s u ht
  cases ht with
  | @alarm b _ _ ht => exact propext (stands_touch (fun e : a = b => h (e ▸ hm)) ht i)
  | alm => exact absurd hm halm
  | _ => exact propext (stands_congr rfl a i)

theorem Blind.comp {α β : Type} {f : State → α} (hf : Blind M f) (g : α → β) : Blind M (fun s => g (f s)) := fun m hm s u ht => congrArg g (hf m hm s u ht)

theorem blind_lane (h : .lanes ∉ M) (k : Nat) : Blind M (·.lane k) := (blind_lanes h).comp fun l => (storeGet k l).getD {}

theorem blind_laneState (h : .obj o3100_LANE_STATE ∉ M) (k : Nat) : Blind M (·.laneState k) := blind_rd h k (.inr (by decide))

end

namespace Blind

variable {M : List Mark} {α : Type} {f : State → α} (hf : Blind M f)
include hf

theorem wr {o : Nat} (h : .obj o ∈ M) (s : State) (r : Nat) (v : Int) : f (s.wr o r v) = f s := hf _ h _ _ (.wr ..)
theorem bump {o : Nat} (h : .obj o ∈ M) (s : State) (r : Nat) : f (s.bump o r) = f s := hf _ h _ _ (.wr ..)
theorem addTo {o : Nat} (h : .obj o ∈ M) (s : State) (r n : Nat) : f (s.addTo o r n) = f s := hf _ h _ _ (.wr ..)
theorem wrOct {o : Nat} (h : .oct o ∈ M) (s : State) (r : Nat) (b : Bytes) : f (s.wrOct o r b) = f s := hf _ h _ _ (.wrOct ..)
theorem setTd (h : .tds ∈ M) (s : State) (d : Nat) (x : Td) : f (s.setTd d x) = f s := hf _ h _ _ (.tds ..)
theorem setEport (h : .eg ∈ M) (s : State) (l : Nat) (x : EgPort) : f (s.setEport l x) = f s := hf _ h _ _ (.eg ..)

variable {a : Alarm} (h : .alarm a ∈ M) (s : State) (i : Nat)
include h

theorem raiseWith {sev : Nat} (hs : sev = 1 → a.severity = 1) (subsys : Nat) (data : Bytes) : f (s.raiseWith a i sev subsys data) = f s :=
  hf _ h _ _ (.alarm (.raise _ _ _ _ _ hs))
theorem raise : f (s.raise a i) = f s := hf.raiseWith h _ _ (fun e => e) _ _
theorem clear : f (s.clear a i) = f s := hf _ h _ _ (.alarm (.clear ..))
theorem pulse : f (s.pulse a i) = f s := (hf.clear h _ _).trans (hf.raise h _ _)
theorem raiseQuiet : f (s.raiseQuiet a i) = f s := (hf _ h _ _ (.alarm (.quiet ..))).trans (hf.raise h _ _)

theorem alarmWhile (c : Bool) : f (s.alarmWhile a i c) = f s := by
  cases c with
  | true => exact hf.raise h s i
  | false => exact hf.clear h s i

end Blind

/-- What an alarm touches. -/
def alarmMarks : List Mark := [.alm, .pair] ++ alarmSideObjects.map .obj

theorem Blind.toAlarm {M : List Mark} {α : Type} {f : State → α} (hf : Blind M f) (h : alarmMarks ⊆ M) : AlarmBlind f where
  alm := fun s x => hf _ (h (by decide)) _ _ (.alm s x)
  pair := fun s x => hf _ (h (by decide)) _ _ (.pair s x)
  wr := fun s o r v ho => hf _ (h (List.mem_append_right _ (List.mem_map_of_mem ho))) _ _ (.wr s o r v)

/-! The ports of the egress (R179-R184). -/

/-- What the credit of a port, and the restart of its gate lists, touch. -/
def creditMarks : List Mark := [.eg, .obj o3801_CREDIT]
def gateMarks : List Mark := alarmMarks ++ creditMarks ++ [.obj o3810_CONFIG_CHANGE_S, .obj o3810_CONFIG_CHANGE_NS, .obj o3810_START_SHIFTED, .obj o3810_SHIFT_COUNT, .obj o3810_GATE_RESTARTS]

namespace Blind

variable {M : List Mark} {α : Type} {f : State → α} (hf : Blind M f)
include hf

theorem setCredit (h : creditMarks ⊆ M) (s : State) (l c : Nat) (v : Int) : f (s.setCredit l c v) = f s :=
  (hf.wr (h (by decide)) _ _ _).trans (hf.setEport (h (by decide)) _ _ _)

theorem accrue (h : creditMarks ⊆ M) (s : State) (l : Nat) : f (s.accrue l) = f s := by
  refine (hf.setEport (h (by decide)) _ _ _).trans (foldl_blind (fun s c => ?_) _ s)
  dsimp only
  split
  · exact hf.setCredit h _ _ _ _
  · rfl

theorem startList (h : gateMarks ⊆ M) (s : State) (l : Nat) (g : GateList) : f (s.startList l g).2 = f s := by
  have hw : ∀ (s : State) (a b c : Int), f (((s.wr o3810_CONFIG_CHANGE_S l a).wr o3810_CONFIG_CHANGE_NS l b).wr o3810_START_SHIFTED l c) = f s := fun s a b c =>
    (hf.wr (h (by decide)) _ _ _).trans ((hf.wr (h (by decide)) _ _ _).trans (hf.wr (h (by decide)) _ _ _))
  unfold State.startList
  dsimp only
  split
  · exact ((hf.toAlarm (List.Subset.trans (by decide) h)).raise _ _ _).trans ((hf.bump (h (by decide)) _ _).trans (hw _ _ _ _))
  · exact hw _ _ _ _

theorem gateRestart (h : gateMarks ⊆ M) (s : State) (l : Nat) : f (s.gateRestart l) = f s := by
  have hstart : ∀ (s : State) (g : GateList) (x : EgPort), f (((s.startList l g).2.setEport l x).bump o3810_GATE_RESTARTS l) = f s := fun s g x =>
    (hf.bump (h (by decide)) _ _).trans ((hf.setEport (h (by decide)) _ _ _).trans (hf.startList h _ _ _))
  have haccrue : f (s.accrue l) = f s := hf.accrue (List.Subset.trans (by decide) h) s l
  unfold State.gateRestart
  extract_lets x y
  have hy : f y = f s := by
    dsimp only [y]
    split
    · exact (hstart _ _ _).trans haccrue
    · exact haccrue
  split
  · exact (hstart _ _ _).trans hy
  · exact hy

theorem gateRestarts (h : gateMarks ⊆ M) (s : State) : f s.gateRestarts = f s := foldl_blind (fun s l => hf.gateRestart h s l) _ s

end Blind

/-- What the flush of a blocked port touches. -/
def flushMarks : List Mark := creditMarks ++ [.alarm .EG_TX_DISCARD, .obj o3802_QUEUE_FILL, .obj o3802_DEFICIT, .obj o3800_TX_DISCARDS]

namespace Blind

variable {M : List Mark} {α : Type} {f : State → α} (hf : Blind M f) (h : flushMarks ⊆ M)
include hf h

theorem setQueue (s : State) (l c q : Nat) (fs : List EgFrame) : f (s.setQueue l c q fs) = f s := (hf.wr (h (by decide)) _ _ _).trans (hf.setEport (h (by decide)) _ _ _)

theorem txDiscard (s : State) (l : Nat) : f (s.txDiscard l) = f s := by
  have hs : ∀ x : State, (if 0 < x.rdN o3800_PACED_ROWS l then 2 else 3) ≠ 1 := fun x => by split <;> decide
  exact (hf.clear (h (by decide)) _ _).trans ((hf.raiseWith (h (by decide)) _ _ (fun e => absurd e (hs _)) _ _).trans (hf.bump (h (by decide)) _ _))

theorem flushPort (s : State) (l : Nat) : f (s.flushPort l) = f s := by
  have hc : creditMarks ⊆ M := List.Subset.trans (by decide) h
  unfold State.flushPort
  split
  · refine (foldl_blind (fun s e => ?_) _ _).trans (hf.accrue hc s l)
    exact (hf.wr (h (by decide)) _ _ _).trans ((hf.setQueue h _ _ _ _ _).trans (foldl_blind (fun s x => (hf.txDiscard h _ _).trans (hf.setCredit hc _ _ _ _)) _ _))
  · rfl

end Blind

/-! The end of a command is its handler's work, to every reading but those that it sets. -/

theorem endOf_clk (w : State) (e : CmdEnd) : (w.endOf e).clk = w.clk := rfl
theorem finish_stands (s w : State) (a : Alarm) (i : Nat) : (s.finish w).stands a i ↔ w.stands a i := stands_congr rfl a i
theorem endOf_stands (w : State) (e : CmdEnd) (a : Alarm) (i : Nat) : (w.endOf e).stands a i ↔ w.stands a i := stands_congr rfl a i
theorem begin_stands (s : State) (t : Nat) (a : Alarm) (i : Nat) : (s.begin t).stands a i ↔ s.stands a i := stands_congr rfl a i

end Sys2Proof.Machine
end

section
/-! SUPPORT. The time clock's commands (R93-R95, R99) and its steps. -/

namespace Sys2Proof.Machine
open Sys2Proof

/-- What the loops, the alarms and the gates do at a step of the clock. -/
def clockStepMarks : List Mark := .tds :: gateMarks

theorem Blind.refStep {M : List Mark} {α : Type} {f : State → α} (hf : Blind M f) (h : clockStepMarks ⊆ M) (s : State) (d : Nat) (n : Int) : f (s.refStep d n) = f s := by
  unfold State.refStep
  extract_lets x big y
  have hy : f y = f s := hf.setTd (h (by decide)) _ _ _
  split
  · exact ((hf.toAlarm (List.Subset.trans (by decide) h)).pulse _ _ _).trans hy
  · exact hy

/-- The clock and its base as a step leaves them. -/
def State.clockMoved (s : State) (n : Int) : State :=
  { s with clk := (((s.clk : Int) + n * 4294967296) % (clkModulus : Int)).toNat, ptp := { s.ptp with clkFrom := s.ptp.clkFrom + n * 4294967296 } }

/-- The loops that follow the time clock take its step. -/
theorem Blind.refSteps {M : List Mark} {α : Type} {f : State → α} (hf : Blind M f) (h : clockStepMarks ⊆ M) (s : State) (l : List Nat) (n : Int) :
    f (l.foldl (fun s d => s.refStep d n) s) = f s := foldl_blind (fun s d => hf.refStep h s d n) l s

/-- A step by whole nanoseconds leaves the fraction. -/
theorem clockMoved_frac (s : State) (n : Int) : (s.clockMoved n).clk % 4294967296 = s.clk % 4294967296 := by
  have hmod : (clkModulus : Int) = 4294967296 * 281474976710656000000000 := by decide
  have hclk : ((s.clockMoved n).clk : Int) = (s.clk + n * 4294967296) % clkModulus := Int.toNat_of_nonneg (Int.emod_nonneg _ (by decide))
  rw [hmod] at hclk
  omega

/-- A reading that sees neither loops, alarms, gates nor the count of steps sees of a step the clock moved. -/
theorem Blind.clockStep {M : List Mark} {α : Type} {f : State → α} (hf : Blind M f) (h : .obj o2301_STEP_COUNT :: clockStepMarks ⊆ M) (s : State) (n : Int) :
    f (s.clockStep n) = f (s.clockMoved n) :=
  (hf.gateRestarts (List.Subset.trans (by decide) h) _).trans (((hf.toAlarm (List.Subset.trans (by decide) h)).pulse _ _ _).trans
    ((hf.bump (h (by decide)) _ _).trans (hf.refSteps (List.Subset.trans (by decide) h) _ _ n)))

/-- A step of the clock counts once. -/
theorem clockStep_stepCount (s : State) (n : Int) : (s.clockStep n).rd o2301_STEP_COUNT 0 = (s.rd o2301_STEP_COUNT 0 + 1) % 4294967296 := by
  have hf : Blind clockStepMarks (·.rd o2301_STEP_COUNT 0) := blind_rd (by decide) 0
  have hmod : objModulus o2301_STEP_COUNT = 4294967296 := by decide
  unfold State.clockStep
  refine (hf.gateRestarts (List.Subset.trans (by decide) (List.Subset.refl _)) _).trans (((hf.toAlarm (by decide)).pulse _ _ _).trans ?_)
  dsimp only
  rw [rd_bump_same, hmod]
  exact congrArg (fun k => (k + 1) % (4294967296 : Int)) (hf.refSteps (List.Subset.refl _) _ _ n)

/-- The time clock at the instant of a command (R93, R94). -/
theorem begin_clk (s : State) (t : Nat) : (s.begin t).clk = (s.clk + (max s.now t / 4 - s.now / 4) * s.rdN o2301_INCREMENT 0) % clkModulus := rfl

theorem timeSeconds_latches (s : State) (t port : Nat) (hp : s.powered = true) (hr : s.mayRead port o2300_TIME_SECONDS 0 = true) :
    ∃ u, exec (.timeSeconds t port) s = .next u ∧ u.last = ⟨0, some (.int (s.begin t).clkSec)⟩ ∧ u.rd o2300_TIME_NS 0 = (s.begin t).clkNs ∧
      u.rd o2300_TIME_FRAC 0 = (s.begin t).clkFrac ∧ u.clk = (s.begin t).clk := by
  refine ⟨_, run_answered (t := t) (f := State.readSeconds) hp hr rfl, rfl, ?_, ?_, rfl⟩
  · show (((s.begin t).wr o2300_TIME_NS 0 _).wr o2300_TIME_FRAC 0 _).rd o2300_TIME_NS 0 = _
    rw [State.rd_wr_obj _ _ (by decide), State.rd_wr_same]
  · exact State.rd_wr_same _ _ _ _

theorem increment_stores (s : State) (t port : Nat) (v : Int) (hp : s.powered = true) (ha : s.admits port o2301_INCREMENT 0 (.int v) = true) (ho : s.ptp.owner = SERVO_OWNER.host) :
    ∃ u, exec (.increment t port v) s = .next u ∧ u.last = ⟨0, none⟩ ∧ u.rd o2301_INCREMENT 0 = v ∧ u.clk = (s.begin t).clk ∧ s.keepsRegs u [(o2301_INCREMENT, 0)] ∧ u.works = s.works := by
  have hk : ∀ c, writeIncrement c (effRow c o2301_INCREMENT 0) (.int v) (s.begin t) = (stOK, (s.begin t).wr o2301_INCREMENT 0 v) := fun c =>
    if_neg (by rw [show (s.begin t).ptp.owner = _ from ho]; decide)
  obtain ⟨e, he, hacc⟩ := run_accepted (t := t) (h := writeIncrement) hp ha (fun c _ _ => hk c) rfl
  refine ⟨_, he, hacc.last, ?_, rfl, hacc.keepsRegs ((keepsRegs_refl s _).wr v (by decide)), hacc.works rfl rfl⟩
  rw [hacc.rd _ _ (by decide)]
  exact State.rd_wr_same _ _ _ _

theorem increment_refused (s : State) (t port : Nat) (v : Int) (hp : s.powered = true) (ha : s.admits port o2301_INCREMENT 0 (.int v) = true) (ho : s.ptp.owner = SERVO_OWNER.firmware) :
    ∃ u, exec (.increment t port v) s = .next u ∧ u.last = ⟨1, none⟩ ∧ s.keepsRegs u [] ∧ u.works = s.works :=
  ⟨_, run_refused_unchanged (t := t) (h := writeIncrement) hp ha (fun _ _ _ => if_pos ho) (by decide) (noteRefusal_low _ _ _ (by decide)), rfl, keepsRegs_refl _ _, rfl⟩

theorem timeAdjust_steps (s : State) (t port : Nat) (v : Int) (hp : s.powered = true) (ha : s.admits port o2301_TIME_ADJUST_NS 0 (.int v) = true) (ho : s.ptp.owner = SERVO_OWNER.host) :
    ∃ u, exec (.timeAdjustNs t port v) s = .next u ∧ u.last = ⟨0, none⟩ ∧ (u.clk : Int) = ((s.begin t).clk + v * 4294967296) % clkModulus ∧
      u.clkFrac = (s.begin t).clk % 4294967296 ∧ u.rd o2301_STEP_COUNT 0 = (s.rd o2301_STEP_COUNT 0 + 1) % 4294967296 := by
  have hk : ∀ c d, writeTimeAdjust c d (.int v) (s.begin t) = (stOK, (s.begin t).clockStep v) := fun c d => if_neg (by rw [show (s.begin t).ptp.owner = _ from ho]; decide)
  have hctl : ((s.begin t).clockStep v).ctl = s.ctl := (blind_ctl (by decide)).clockStep (List.Subset.refl _) (s.begin t) v
  have hclk : ((s.begin t).clockStep v).clk = ((s.begin t).clockMoved v).clk := (blind_clk (by decide)).clockStep (List.Subset.refl _) (s.begin t) v
  have hmoved : ((((s.begin t).clockMoved v).clk : Nat) : Int) = ((s.begin t).clk + v * 4294967296) % clkModulus :=
    Int.toNat_of_nonneg (Int.emod_nonneg _ (by decide))
  obtain ⟨e, he, hacc⟩ := run_accepted (t := t) (h := writeTimeAdjust) hp ha (fun c _ _ => hk c _) (by rw [hctl])
  have hu : (((s.begin t).clockStep v).endOf e).clk = ((s.begin t).clockMoved v).clk := (endOf_clk _ e).trans hclk
  refine ⟨_, he, hacc.last, by rw [hu, hmoved], ?_, ?_⟩
  · unfold State.clkFrac
    rw [hu, clockMoved_frac]
  · rw [hacc.rd _ _ (by decide)]
    exact clockStep_stepCount _ v

theorem timeAdjust_refused (s : State) (t port : Nat) (v : Int) (hp : s.powered = true) (ha : s.admits port o2301_TIME_ADJUST_NS 0 (.int v) = true) (ho : s.ptp.owner = SERVO_OWNER.firmware) :
    ∃ u, exec (.timeAdjustNs t port v) s = .next u ∧ u.last = ⟨1, none⟩ ∧ u.clk = (s.begin t).clk :=
  ⟨_, run_refused_unchanged (t := t) (h := writeTimeAdjust) hp ha (fun _ _ _ => if_pos ho) (by decide) (noteRefusal_low _ _ _ (by decide)), rfl, rfl⟩

/-- Settles O13. -/
theorem timeClockRunsAndSteps : Obligations.TimeClockRunsAndSteps := by
  intro s t port v hp
  exact ⟨timeSeconds_latches s t port hp, fun ha => ⟨increment_stores s t port v hp ha, increment_refused s t port v hp ha⟩,
    fun ha => ⟨timeAdjust_steps s t port v hp ha, timeAdjust_refused s t port v hp ha⟩⟩

end Sys2Proof.Machine
end

section
/-! SUPPORT. What the references touch when a candidate is lost (R63-R92), and what an SDI input touches when its state changes (R161, R162). -/

namespace Sys2Proof.Machine
open Sys2Proof

/-! References. -/

/-- What of a domain's loop the references and the bank's plan set: its rate, its ranks and REVERTIVE in use, and whether the peer's domain has left it. -/
def Td.plan (x : Td) : Nat × List Nat × Bool × Bool := (x.rate, x.ranks, x.revertive, x.twinLost)

/-- The alarms of a loop, and the objects that it writes: on the way from candidate to candidate, and once its state is known. -/
def loopAlarms : List Alarm := [.TD_HOLDOVER, .TD_FREE_RUN]
def settleObjects : List Nat := [o2100_PHASE_SOURCE, o2100_EPOCH_FCNT_OFFSET, o2100_TICK_PHASE_OFFSET_NS, o2100_FCNT]
def loopObjects : List Nat := settleObjects ++ [o2100_SELECTED_REF, o2100_REF_SWITCHES, o2100_DPLL_STATE, o2100_CONTROL_VALUE, o2100_REALIGN_STATE, o2100_REALIGN_RESULT,
  o2100_LAST_REALIGN_FCNT, o2100_HOLDOVER_VALUE, o2100_HOLDOVER_QUALITY, o2100_HOLDOVER_SECONDS]

/-- A reading that sees nothing of the loop of one domain but its plan. -/
structure LoopBlind (L : List Nat) (d : Nat) {α : Type} (f : State → α) : Prop where
  wr : ∀ (s : State) (o : Nat) (v : Int), o ∈ L → f (s.wr o d v) = f s
  td : ∀ (s : State) (x : Td), x.plan = (s.td d).plan → f (s.setTd d x) = f s
  alarm : ∀ (s u : State) (a : Alarm), a ∈ loopAlarms → AlarmTouch a s u → f u = f s

namespace LoopBlind

variable {L : List Nat} {d : Nat} {α : Type} {f : State → α} (hf : LoopBlind L d f)
include hf

theorem alarmWhile {a : Alarm} (h : a ∈ loopAlarms) (s : State) (i : Nat) (c : Bool) : f (s.alarmWhile a i c) = f s := by
  cases c with
  | true => exact hf.alarm _ _ a h (.raise _ _ _ _ _ fun e => e)
  | false => exact hf.alarm _ _ a h (.clear ..)

theorem tdAlarms (s : State) : f (s.tdAlarms d) = f s := (hf.alarmWhile (by decide) _ _ _).trans (hf.alarmWhile (by decide) _ _ _)

theorem takeBandwidth (s : State) : f (s.takeBandwidth d) = f s := hf.td _ _ (by rfl)

section
variable (h : settleObjects ⊆ L)
include h

theorem notePhaseSource (s : State) : f (s.notePhaseSource d) = f s := by
  unfold State.notePhaseSource
  extract_lets on x
  have hx : f x = f s := hf.wr _ _ _ (h (by decide))
  split
  · exact hx
  · exact (hf.wr _ _ _ (h (by decide))).trans hx

theorem autoAlign (s : State) : f (s.autoAlign d) = f s := by
  unfold State.autoAlign
  split
  · rfl
  · extract_lets src x y
    have hy : f y = f s := (hf.wr _ _ _ (h (by decide))).trans (hf.td _ _ (by rfl))
    split
    · exact (hf.wr _ _ _ (h (by decide))).trans hy
    · exact hy

/-- A loop settles in the state that it has reached. -/
theorem settle (s : State) : f ((((s.takeBandwidth d).notePhaseSource d).autoAlign d).tdAlarms d) = f s :=
  (hf.tdAlarms _).trans ((hf.autoAlign h _).trans ((hf.notePhaseSource h _).trans (hf.takeBandwidth _)))

end

section
variable (h : loopObjects ⊆ L)
include h

theorem stopSlew (s : State) : f (s.stopSlew d) = f s := by
  unfold State.stopSlew
  split
  · exact (hf.wr _ _ _ (h (by decide))).trans (hf.wr _ _ _ (h (by decide)))
  · rfl

theorem setControl (s : State) (v : Int) : f (s.setControl d v) = f s := (hf.wr _ _ _ (h (by decide))).trans (hf.td _ _ (by rfl))

theorem selectCand (s : State) (c : Nat) : f (s.selectCand d c) = f s := by
  unfold State.selectCand
  extract_lets old st x y src z
  have hx : f x = f s := (hf.wr _ _ _ (h (by decide))).trans (hf.stopSlew h _)
  have hy : f y = f s := by
    dsimp only [y]
    split
    · exact (hf.wr _ _ _ (h (by decide))).trans hx
    · exact hx
  have hz : f z = f s := by
    dsimp only [z]
    split
    · exact (hf.td _ _ (by rfl)).trans ((hf.wr _ _ _ (h (by decide))).trans hy)
    · exact (hf.td _ _ (by rfl)).trans ((hf.wr _ _ _ (h (by decide))).trans hy)
  exact (hf.settle (List.Subset.trans (by decide) h) _).trans hz

theorem loseRef (s : State) : f (s.loseRef d) = f s := by
  unfold State.loseRef
  extract_lets st x src y held src' z
  have hx : f x = f s := by
    dsimp only [x]
    split
    · exact (hf.wr _ _ _ (h (by decide))).trans (hf.stopSlew h _)
    · rfl
  have hy : f y = f s := by
    dsimp only [y]
    split
    · exact (hf.td _ _ (by rfl)).trans ((hf.wr _ _ _ (h (by decide))).trans ((hf.wr _ _ _ (h (by decide))).trans hx))
    · exact hx
  clear_value y held
  have hz : f z = f s := by
    dsimp only [z]
    split
    · exact (hf.td _ _ (by rfl)).trans ((hf.wr _ _ _ (h (by decide))).trans ((hf.wr _ _ _ (h (by decide))).trans ((hf.wr _ _ _ (h (by decide))).trans ((hf.wr _ _ _ (h (by decide))).trans hy))))
    · split
      · exact (hf.setControl h _ _).trans ((hf.wr _ _ _ (h (by decide))).trans hy)
      · exact hy
  exact (hf.tdAlarms _).trans ((hf.notePhaseSource (List.Subset.trans (by decide) h) _).trans hz)

theorem selectFor (s : State) : f (s.selectFor d) = f s := by
  unfold State.selectFor
  split
  · split
    · rfl
    · exact hf.selectCand h _ _
  · exact hf.loseRef h _

theorem discardComparisons (s : State) (a : Nat) : f (s.discardComparisons d a) = f s := by
  unfold State.discardComparisons
  extract_lets x
  split
  · exact hf.td _ _ (by rfl)
  · exact (hf.td _ _ (by rfl)).trans (hf.setControl h _ _)

end

end LoopBlind

/-- What the loops touch, all told. -/
def loopMarks : List Mark := .tds :: loopAlarms.map .alarm ++ loopObjects.map .obj

theorem Blind.toLoop {M : List Mark} {α : Type} {f : State → α} (hf : Blind M f) (h : loopMarks ⊆ M) (d : Nat) : LoopBlind loopObjects d f where
  wr := fun s o v ho => hf.wr (h (List.mem_append_right _ (List.mem_map_of_mem ho))) s d v
  td := fun s x _ => hf.setTd (h (by decide)) s d x
  alarm := fun s u a ha ht => hf _ (h (List.mem_cons_of_mem _ (List.mem_append_left _ (List.mem_map_of_mem ha)))) s u (.alarm ht)

/-- What the mode that the qualified candidates make touches, and what their states touch. -/
def modeMarks : List Mark := [.alarm .REF_ENSEMBLE_THIN, .obj o2201_QUALIFIED_COUNT, .obj o2201_ENSEMBLE_ACTIVE, .obj o2200_BASIS, .obj o2200_OFFSET_ENSEMBLE]
def candMarks : List Mark := modeMarks ++ [.alarm .REF_LOSS, .cands, .obj o2200_CAND_STATE, .obj o2200_DISQUAL_REASON, .obj o2200_DISQUAL_COUNT]

def refMarks : List Mark := loopMarks ++ candMarks

namespace Blind

variable {M : List Mark} {α : Type} {f : State → α} (hf : Blind M f)
include hf

theorem selectFor (h : loopMarks ⊆ M) (s : State) (d : Nat) : f (s.selectFor d) = f s := (hf.toLoop h d).selectFor (List.Subset.refl _) s

theorem lostSelections (h : loopMarks ⊆ M) (s : State) (c a : Nat) : f (s.lostSelections c a) = f s := by
  refine (foldl_blind (fun s d => hf.selectFor h s d) _ _).trans (foldl_blind (fun s d => ?_) _ s)
  split
  · exact (hf.toLoop h d).discardComparisons (List.Subset.refl _) s a
  · rfl

theorem setCand (h : .cands ∈ M) (s : State) (c : Nat) (x : Cand) : f (s.setCand c x) = f s := hf _ h _ _ (.cands ..)

theorem countQualified (h : .obj o2201_QUALIFIED_COUNT ∈ M) (s : State) : f s.countQualified = f s := hf.wr h _ _ _

theorem startWait (h : .cands ∈ M) (s : State) (c : Nat) : f (s.startWait c) = f s := hf.setCand h _ _ _

theorem raiseRefLoss (h : .alarm .REF_LOSS ∈ M) (s : State) (c : Nat) : f (s.raiseRefLoss c) = f s := by
  unfold State.raiseRefLoss
  refine hf.raiseWith h _ _ (fun e => ?_) _ _
  split at e <;> cases e

theorem modeNow (h : modeMarks ⊆ M) (s : State) : f s.modeNow = f s := by
  unfold State.modeNow
  extract_lets on x
  have hx : f x = f s := (hf.alarmWhile (h (by decide)) _ _ _).trans ((hf.countQualified (h (by decide)) _).trans (hf.wr (h (by decide)) _ _ _))
  split
  · exact hx
  · refine (foldl_blind (fun s c => ?_) _ _).trans hx
    split
    · rfl
    · exact (hf.wr (h (by decide)) _ _ _).trans (hf.wr (h (by decide)) _ _ _)

/-- The loss of a candidate is unseen by a reading that sees neither candidates nor loops. -/
theorem refLoss (h : refMarks ⊆ M) (s : State) (c : Nat) : f (s.refLoss c) = f s := by
  have hl : loopMarks ⊆ M := List.Subset.trans (by decide) h
  unfold State.refLoss
  extract_lets st src x y z
  have hx : f x = f s := hf.setCand (h (by decide)) _ _ _
  have hy : f y = f s := by
    dsimp only [y]
    split
    · exact hx
    · exact (hf.raiseRefLoss (h (by decide)) _ _).trans hx
  have hz : f z = f s := by
    dsimp only [z]
    split_ifs
    · exact (hf.wr (h (by decide)) _ _ _).trans hy
    · exact (hf.countQualified (h (by decide)) _).trans ((hf.wr (h (by decide)) _ _ _).trans ((hf.startWait (h (by decide)) _ _).trans ((hf.wr (h (by decide)) _ _ _).trans hy)))
    · exact (hf.startWait (h (by decide)) _ _).trans hy
    · exact hy
  exact (hf.lostSelections hl _ _ _).trans ((hf.modeNow (List.Subset.trans (by decide) h) _).trans hz)

theorem laneRefs (h : refMarks ⊆ M) (s : State) (l : Nat) : f (s.laneRefs l) = f s := by
  refine foldl_blind (fun s c => ?_) _ s
  split
  · exact hf.refLoss h _ _
  · rfl

end Blind

/-! SDI inputs. -/

/-- What an SDI input touches when its state changes. -/
def sdiMarks : List Mark := [.alarm .MT_INPUT_LOSS, .alarm .MT_FORMAT_MISMATCH, .med, .aud, .obj o3540_SDI_IN_STATE, .obj o4003_ALIGN_STATE]

namespace Blind

variable {M : List Mark} {α : Type} {f : State → α} (hf : Blind M f) (h : sdiMarks ⊆ M)
include hf h

theorem setSdi (s : State) (l : Nat) (x : SdiIn) : f (s.setSdi l x) = f s := hf _ (h (by decide)) _ _ (.med ..)

theorem setBuf (s : State) (ep : Nat) (x : Buf) : f (s.setBuf ep x) = f s := hf _ (h (by decide)) _ _ (.med ..)

theorem feedUp (s : State) (ep : Nat) : f (s.feedUp ep) = f s := by
  unfold State.feedUp
  dsimp only
  split
  · exact hf.setBuf h _ _ _
  · rfl

theorem feedDown (s : State) (ep : Nat) : f (s.feedDown ep) = f s := by
  unfold State.feedDown
  extract_lets x last y
  split
  · rfl
  · have hy : f y = f s := hf.setBuf h _ _ _
    split
    · exact (hf.wr (h (by decide)) _ _ _).trans hy
    · exact hy

theorem audioLost (s : State) (b n : Nat) : f (s.audioLost b n) = f s := foldl_blind (fun _ _ => hf _ (h (by decide)) _ _ (.aud ..)) _ s

theorem audioBack (s : State) (b n : Nat) : f (s.audioBack b n) = f s := foldl_blind (fun _ _ => hf _ (h (by decide)) _ _ (.aud ..)) _ s

theorem setSdiState (s : State) (l : Nat) (st : Int) : f (s.setSdiState l st) = f s := by
  unfold State.setSdiState
  extract_lets ep x
  have hx : f x = f s := (hf.alarmWhile (h (by decide)) _ _ _).trans ((hf.alarmWhile (h (by decide)) _ _ _).trans (hf.wr (h (by decide)) _ _ _))
  split_ifs
  · exact (hf.audioBack h _ _ _).trans ((hf.feedUp h _ _).trans hx)
  · exact (hf.setSdi h _ _ _).trans ((hf.audioLost h _ _ _).trans ((hf.feedDown h _ _).trans hx))
  · exact hx

theorem laneLeftUp (s : State) (l : Nat) : f (s.laneLeftUp l) = f s := by
  unfold State.laneLeftUp
  split
  · split
    · rfl
    · exact (hf.setSdi h _ _ _).trans (hf.setSdiState h _ _ _)
  · rfl

theorem laneEnteredUp (s : State) (l : Nat) : f (s.laneEnteredUp l) = f s := by
  unfold State.laneEnteredUp
  split
  · split
    · exact hf.wr (h (by decide)) _ _ _
    · rfl
  · rfl

end Blind

end Sys2Proof.Machine
end

section
/-! SUPPORT. Lanes: what their readings follow, and what becomes of a lane when its receive side takes a state (R112-R137). -/

namespace Sys2Proof.Machine
open Sys2Proof

theorem lane_setLane_ne (s : State) {k l : Nat} (h : k ≠ l) (x : Lane) : (s.setLane l x).lane k = s.lane k :=
  congrArg (·.getD {}) (storeGet_put_ne natLt h x s.lanes)

theorem stands_setLane (s : State) (l : Nat) (x : Lane) (a : Alarm) (i : Nat) : (s.setLane l x).stands a i ↔ s.stands a i := stands_congr rfl a i

/-- What the readings of a lane touch. -/
def noteLaneMarks : List Mark := [.obj o3100_TX_STATE, .obj o3100_RX_LATENCY_NS, .obj o3100_TX_LATENCY_NS, .obj o3100_TX_CLOCK_DOMAIN, .oct o3100_TX_TAPS_ACTIVE]

namespace Blind

variable {M : List Mark} {α : Type} {f : State → α} (hf : Blind M f)
include hf

theorem setLane (h : .lanes ∈ M) (s : State) (l : Nat) (x : Lane) : f (s.setLane l x) = f s := hf _ h _ _ (.lanes ..)

theorem noteTaps (h : .oct o3100_TX_TAPS_ACTIVE ∈ M) (s : State) (l : Nat) : f (s.noteTaps l) = f s := hf.wrOct h _ _ _

theorem noteLane (h : noteLaneMarks ⊆ M) (s : State) (l : Nat) : f (s.noteLane l) = f s :=
  (hf.noteTaps (h (by decide)) _ _).trans ((hf.wr (h (by decide)) _ _ _).trans ((hf.wr (h (by decide)) _ _ _).trans ((hf.wr (h (by decide)) _ _ _).trans (hf.wr (h (by decide)) _ _ _))))

end Blind

/-- The alarms of a lane are of severity B or C (R137). -/
theorem laneSeverity_ne (s : State) (l : Nat) : s.laneSeverity l ≠ 1 := by
  unfold State.laneSeverity
  split <;> decide

theorem Blind.noteLos {M : List Mark} {α : Type} {f : State → α} (hf : Blind M f) (h : .alarm .LANE_LOS ∈ M) (s : State) (l : Nat) : f (s.noteLos l) = f s := by
  unfold State.noteLos
  dsimp only
  split
  · exact hf.raiseWith h _ _ (fun e => absurd e (laneSeverity_ne s l)) _ _
  · exact hf.clear h _ _

theorem AlarmBlind.noteLos {α : Type} {f : State → α} (hf : AlarmBlind f) (s : State) (l : Nat) : f (s.noteLos l) = f s := by
  unfold State.noteLos
  dsimp only
  split
  · exact hf.raiseWith _ _ _ _ _ _
  · exact hf.clear _ _ _

/-- LANE_LOS stands only without signal. -/
theorem not_stands_noteLos {s : State} {l : Nat} (h : (s.lane l).signal = true) : ¬ (s.noteLos l).stands .LANE_LOS l := by
  unfold State.noteLos
  dsimp only
  rw [if_neg (by simp [h])]
  exact not_stands_clear s _ _

theorem stands_noteLos_ne (s : State) (l : Nat) {a : Alarm} (h : a ≠ .LANE_LOS) (i : Nat) : (s.noteLos l).stands a i ↔ s.stands a i := by
  unfold State.noteLos
  dsimp only
  split
  · exact (stands_raiseWith _ _ _ _ _ _ _ _).trans (or_iff_left fun e => h e.1)
  · exact (stands_clear _ _ _ _ _).trans (and_iff_left fun e => h e.1)

/-- TX_STATE reads what the lane's set-up gives. -/
theorem noteLane_txState (s : State) (l : Nat) : (s.noteLane l).rd o3100_TX_STATE l = s.txStateOf l := by
  unfold State.noteLane State.noteTaps
  dsimp only
  rw [State.rd_wrOct, State.rd_wr_obj _ _ (by decide), State.rd_wr_obj _ _ (by decide), State.rd_wr_obj _ _ (by decide), State.rd_wr_same]

/-- A lane whose output stage is out of its limits does not transmit. -/
theorem txStateOf_fault {s : State} {l : Nat} (h : (s.lane l).txFault = true) : s.txStateOf l ≠ TX_STATE.running := by
  unfold State.txStateOf
  dsimp only
  split_ifs with h1 h2 h3
  · decide
  · decide
  · decide
  · exact absurd (Or.inr h) h3
  · exact absurd (Or.inr h) h3
  · exact absurd (Or.inr h) h3
  · exact absurd (Or.inr h) h3
  · exact absurd (Or.inr h) h3

/-! Tests and faults (R113, R134, R137). -/

theorem prbsGained_eq {s : State} {l : Nat} (hr : s.prbsRuns l = true) (hl : s.isOn o3100_PRBS_LOCKED l = false) :
    s.prbsGained l = (s.wr o3100_PRBS_LOCKED l 1).setLane l { s.lane l with prbsFrom := s.now } := if_pos (by rw [hr, hl]; rfl)

theorem prbsLost_eq {s : State} {l : Nat} (bits errors : Nat) (hl : s.isOn o3100_PRBS_LOCKED l = true) :
    s.prbsLost l bits errors = ((s.wr o3100_PRBS_LOCKED l 0).addTo o3100_PRBS_BITS l bits).addTo o3100_PRBS_ERRORS l errors := if_pos hl

theorem txFault_points (s : State) (l : Nat) (on : Bool) (a : Alarm) (i : Nat) : (s.txFault l on).stands a i ↔ ((s.setLane l { s.lane l with txFault := on }).alarmWhile .LANE_TX_FAULT l on).stands a i :=
  stands_congr (congrArg Alm.points ((blind_alm (by decide)).noteLane (List.Subset.refl _) _ _)) a i

theorem stands_txFault (s : State) (l : Nat) : (s.txFault l true).stands .LANE_TX_FAULT l := (txFault_points _ _ _ _ _).mpr ((stands_alarmWhile _ _ _ _).mpr rfl)

theorem not_stands_txFault (s : State) (l : Nat) : ¬ (s.txFault l false).stands .LANE_TX_FAULT l := fun h =>
  Bool.false_ne_true ((stands_alarmWhile _ _ _ _).mp ((txFault_points _ _ _ _ _).mp h))

theorem txFault_lane (s : State) (l : Nat) (on : Bool) : (s.txFault l on).lane l = { s.lane l with txFault := on } :=
  ((blind_lane (by decide) l).noteLane (List.Subset.refl _) _ _).trans ((((blind_lane (by decide) l).toAlarm (List.Subset.refl _)).alarmWhile _ _ _ _).trans (State.lane_setLane _ _ _))

theorem txFault_txState (s : State) (l : Nat) : (s.txFault l true).rd o3100_TX_STATE l ≠ TX_STATE.running := by
  unfold State.txFault
  rw [noteLane_txState]
  refine txStateOf_fault ?_
  rw [((blind_lane (by decide) l).toAlarm (List.Subset.refl _)).alarmWhile]
  exact congrArg Lane.txFault (State.lane_setLane _ _ _)

theorem faultRx_eq {s : State} {l : Nat} (on : Bool) (h : ethMode (s.lane l).mode = true) : s.faultRx l on = s.setLane l { s.lane l with faultRx := on } := if_pos h

/-- Settles O20. -/
theorem laneTestsAndFaults : Obligations.LaneTestsAndFaults := by
  intro s t l bits errors on hp
  refine ⟨fun hr hl => ?_, fun hl => ?_, ?_, ?_, fun he => ?_⟩
  · have hkeeps : s.keepsRegs ((s.begin t).wr o3100_PRBS_LOCKED l 1) [(o3100_PRBS_LOCKED, l)] := (keepsRegs_refl (s.begin t) _).wr 1 (List.mem_singleton_self _)
    exact ⟨_, run_work (t := t) (f := (·.prbsGained l)) hp (prbsGained_eq (s := s.begin t) hr hl), (s.begin t).rd_wr_same o3100_PRBS_LOCKED l 1, hkeeps,
      ((s.begin t).wr o3100_PRBS_LOCKED l 1).lane_setLane _ _, fun k hk => lane_setLane_ne ((s.begin t).wr o3100_PRBS_LOCKED l 1) hk _⟩
  · have hb : objModulus o3100_PRBS_BITS = 2 ^ 64 := by decide
    have he : objModulus o3100_PRBS_ERRORS = 2 ^ 64 := by decide
    refine ⟨_, run_work (t := t) (f := (·.prbsLost l bits errors)) hp (prbsLost_eq (s := s.begin t) bits errors hl), ?_, ?_, ?_, rfl⟩
    · simp (disch := decide) only [State.finish_rd, State.addTo, State.rd_wr_obj, State.rd_wr_same]
    · simp (disch := decide) only [State.finish_rd, State.addTo, State.rd_wr_obj, State.rd_wr_same, hb, State.rd_begin]
    · simp (disch := decide) only [State.finish_rd, State.addTo, State.rd_wr_obj, State.rd_wr_same, he, State.rd_begin]
  · exact ⟨_, run_work (t := t) (f := (·.txFault l true)) hp rfl, (finish_stands _ _ _ _).mpr (stands_txFault (s.begin t) l), txFault_txState (s.begin t) l⟩
  · exact ⟨_, run_work (t := t) (f := (·.txFault l false)) hp rfl, fun h => not_stands_txFault (s.begin t) l ((finish_stands _ _ _ _).mp h), congrArg Lane.txFault (txFault_lane (s.begin t) l false)⟩
  · have hlane : ∀ k, (((s.begin t).faultRx l on).flushPort l).lane k = ((s.begin t).setLane l { s.lane l with faultRx := on }).lane k := fun k => by
      rw [(blind_lane (by decide) k).flushPort (List.Subset.refl _), faultRx_eq (s := s.begin t) on he]
      rfl
    exact ⟨_, run_work (t := t) (f := fun s => (s.faultRx l on).flushPort l) hp rfl, congrArg Lane.faultRx ((hlane l).trans ((s.begin t).lane_setLane l _)),
      fun k hk => (hlane k).trans (lane_setLane_ne (s.begin t) hk _)⟩

end Sys2Proof.Machine
end

section
/-! SUPPORT. What becomes of a lane when its receive side takes a state (R131, R132, R137). -/

namespace Sys2Proof.Machine
open Sys2Proof

/-- A lane leaves 'up'. -/
def State.laneLeave (s : State) (l : Nat) (byMode : Bool) : State := ((if byMode then s else s.bump o3100_LOCK_LOSSES l).laneLeftUp l).laneRefs l

/-- What the entry of a lane into a state counts and signals. -/
def State.laneArrive (s : State) (l : Nat) (old st : Int) : State :=
  let s := if old = LANE_STATE.up ∧ st = LANE_STATE.aligning then s.raiseWith .LANE_LOCK_LOSS l (s.laneSeverity l) Alarm.LANE_LOCK_LOSS.subsys [] else s
  let s := if st = LANE_STATE.up then (((s.bump o3100_LOCKS l).clear .LANE_LOCK_LOSS l).laneEnteredUp l) else s
  (s.wr o3100_HI_BER l (boolVal (st == LANE_STATE.hi_ber))).alarmWhile .LANE_HI_BER l (st == LANE_STATE.hi_ber)

/-- The state of a lane moves, but for the reset of its search. -/
def State.laneMoved (s : State) (l : Nat) (st : Int) (byMode : Bool) : State :=
  (if s.laneState l = LANE_STATE.up then (s.wr o3100_LANE_STATE l st).laneLeave l byMode else s.wr o3100_LANE_STATE l st).laneArrive l (s.laneState l) st

/-- The search for lock begins again. -/
def State.searchReset (s : State) (l : Nat) : State := s.setLane l { s.lane l with alignedAt := s.now, good := 0, window := [], lock := false, trs := [] }

theorem setLaneState_same {s : State} {l : Nat} {st : Int} (b : Bool) (h : s.laneState l = st) : s.setLaneState l st b = s.noteLos l := if_pos h

theorem setLaneState_ne {s : State} {l : Nat} {st : Int} (b : Bool) (h : s.laneState l ≠ st) :
    s.setLaneState l st b = (if st = LANE_STATE.aligning then (s.laneMoved l st b).searchReset l else s.laneMoved l st b).noteLos l := if_neg h

/-- What the exit from 'up', and the entry into a state, touch. -/
def leaveMarks : List Mark := refMarks ++ sdiMarks ++ [.obj o3100_LOCK_LOSSES]
def arriveMarks : List Mark := sdiMarks ++ [.alarm .LANE_LOCK_LOSS, .alarm .LANE_HI_BER, .obj o3100_LOCKS, .obj o3100_HI_BER]
def moveMarks : List Mark := .alarm .LANE_LOS :: leaveMarks ++ arriveMarks

namespace Blind

variable {M : List Mark} {α : Type} {f : State → α} (hf : Blind M f)
include hf

theorem laneLeave (h : leaveMarks ⊆ M) (s : State) (l : Nat) (b : Bool) : f (s.laneLeave l b) = f s := by
  refine (hf.laneRefs (List.Subset.trans (by decide) h) _ _).trans ((hf.laneLeftUp (List.Subset.trans (by decide) h) _ _).trans ?_)
  split
  · rfl
  · exact hf.bump (h (by decide)) _ _

theorem laneArrive (h : arriveMarks ⊆ M) (s : State) (l : Nat) (old st : Int) : f (s.laneArrive l old st) = f s := by
  unfold State.laneArrive
  extract_lets x y
  have hx : f x = f s := by
    dsimp only [x]
    split
    · exact hf.raiseWith (h (by decide)) _ _ (fun e => absurd e (laneSeverity_ne s l)) _ _
    · rfl
  have hy : f y = f s := by
    dsimp only [y]
    split
    · exact (hf.laneEnteredUp (List.Subset.trans (by decide) h) _ _).trans ((hf.clear (h (by decide)) _ _).trans ((hf.bump (h (by decide)) _ _).trans hx))
    · exact hx
  exact (hf.alarmWhile (h (by decide)) _ _ _).trans ((hf.wr (h (by decide)) _ _ _).trans hy)

variable (h : moveMarks ⊆ M)
include h

theorem moveLos (s : State) (l : Nat) : f (s.noteLos l) = f s := hf.noteLos (h (by decide)) s l

/-- A reading that sees none of this sees of the move the object alone. -/
theorem laneMoved (s : State) (l : Nat) (st : Int) (b : Bool) : f (s.laneMoved l st b) = f (s.wr o3100_LANE_STATE l st) := by
  refine (hf.laneArrive (List.Subset.trans (by decide) h) _ _ _ _).trans ?_
  split
  · exact hf.laneLeave (List.Subset.trans (by decide) h) _ _ _
  · rfl

/-- What a lane's state sets is unseen by a reading that sees neither this nor the lane. -/
theorem setLaneState (hl : .lanes ∈ M) (ho : .obj o3100_LANE_STATE ∈ M) (s : State) (l : Nat) (st : Int) (b : Bool) : f (s.setLaneState l st b) = f s := by
  have ha := hf.moveLos h
  by_cases hs : s.laneState l = st
  · rw [setLaneState_same b hs, ha]
  · rw [setLaneState_ne b hs, ha]
    have hm : f (s.laneMoved l st b) = f s := (hf.laneMoved h s l st b).trans (hf.wr ho _ _ _)
    split
    · exact (hf.setLane hl _ _ _).trans hm
    · exact hm

end Blind

theorem laneState_setLaneState (s : State) (l : Nat) (st : Int) (b : Bool) : (s.setLaneState l st b).laneState l = st := by
  have hf : Blind moveMarks (·.laneState l) := blind_laneState (by decide) l
  have ha := hf.moveLos (List.Subset.refl _)
  by_cases hs : s.laneState l = st
  · rw [setLaneState_same b hs, ha]
    exact hs
  · have hm : (s.laneMoved l st b).laneState l = st := (hf.laneMoved (List.Subset.refl _) s l st b).trans (s.rd_wr_same o3100_LANE_STATE l st)
    rw [setLaneState_ne b hs, ha]
    split
    · exact hm
    · exact hm

/-- But for the reset of its search a lane stays as it was. -/
theorem lane_setLaneState {st : Int} (hst : st ≠ LANE_STATE.aligning) (s : State) (l : Nat) (b : Bool) (k : Nat) : (s.setLaneState l st b).lane k = s.lane k := by
  have hf : Blind moveMarks (·.lane k) := blind_lane (by decide) k
  have ha := hf.moveLos (List.Subset.refl _)
  by_cases hs : s.laneState l = st
  · rw [setLaneState_same b hs, ha]
  · rw [setLaneState_ne b hs, ha, if_neg hst, hf.laneMoved (List.Subset.refl _)]
    rfl

/-- A lane that falls back to 'aligning' searches afresh. -/
theorem lane_setLaneState_aligning {s : State} {l : Nat} (hs : s.laneState l ≠ LANE_STATE.aligning) (b : Bool) :
    (s.setLaneState l LANE_STATE.aligning b).lane l = { s.lane l with alignedAt := s.now, good := 0, window := [], lock := false, trs := [] } := by
  have hf : Blind moveMarks (·.lane l) := blind_lane (by decide) l
  have hlane : (s.laneMoved l LANE_STATE.aligning b).lane l = s.lane l := hf.laneMoved (List.Subset.refl _) s l _ b
  have hnow : (s.laneMoved l LANE_STATE.aligning b).now = s.now := (blind_now (M := moveMarks)).laneMoved (List.Subset.refl _) s l _ b
  rw [setLaneState_ne b hs, hf.moveLos (List.Subset.refl _), if_pos rfl]
  unfold State.searchReset
  rw [State.lane_setLane, hlane, hnow]

/-- What a reading sees of a move beside the lane, whose own reset it does not see. -/
theorem Blind.setLaneState_moved {M : List Mark} {α : Type} {f : State → α} (hf : Blind M f) (h : [.lanes, .alarm .LANE_LOS] ⊆ M) {s : State} {l : Nat} {st : Int} (b : Bool) (hs : s.laneState l ≠ st) :
    f (s.setLaneState l st b) = f (s.laneMoved l st b) := by
  rw [setLaneState_ne b hs, hf.noteLos (h (by decide))]
  split
  · exact hf.setLane (h (by decide)) _ _ _
  · rfl

/-- A lane that leaves 'up' counts the loss of its lock. -/
theorem lockLosses_setLaneState {s : State} {l : Nat} {st : Int} (hs : s.laneState l = LANE_STATE.up) (hst : LANE_STATE.up ≠ st) :
    (s.setLaneState l st false).rd o3100_LOCK_LOSSES l = (s.rd o3100_LOCK_LOSSES l + 1) % 4294967296 := by
  have hmod : objModulus o3100_LOCK_LOSSES = 4294967296 := by decide
  have hf : Blind (.lanes :: .alarm .LANE_LOS :: refMarks ++ arriveMarks) (·.rd o3100_LOCK_LOSSES l) := blind_rd (by decide) l
  rw [hf.setLaneState_moved (by decide) false (hs ▸ hst)]
  unfold State.laneMoved
  rw [hf.laneArrive (by decide), if_pos hs]
  unfold State.laneLeave
  rw [hf.laneRefs (by decide), hf.laneLeftUp (by decide), if_neg Bool.false_ne_true, rd_bump_same, State.rd_wr_obj _ _ (by decide), hmod]

/-- A lane that enters 'up' counts its lock. -/
theorem locks_setLaneState {s : State} {l : Nat} (b : Bool) (hs : s.laneState l ≠ LANE_STATE.up) :
    (s.setLaneState l LANE_STATE.up b).rd o3100_LOCKS l = (s.rd o3100_LOCKS l + 1) % 4294967296 := by
  have hmod : objModulus o3100_LOCKS = 4294967296 := by decide
  have hf : Blind (.lanes :: .alarm .LANE_LOS :: .alarm .LANE_LOCK_LOSS :: .alarm .LANE_HI_BER :: sdiMarks) (·.rd o3100_LOCKS l) := blind_rd (by decide) l
  rw [hf.setLaneState_moved (by decide) b hs]
  unfold State.laneMoved State.laneArrive
  rw [if_neg hs]
  dsimp only
  rw [if_neg (show ¬ (s.laneState l = LANE_STATE.up ∧ LANE_STATE.up = LANE_STATE.aligning) from fun h => hs h.1), if_pos (Eq.refl LANE_STATE.up), hf.alarmWhile (by decide), State.rd_wr_obj _ _ (by decide), hf.laneEnteredUp (by decide), hf.clear (by decide), rd_bump_same, State.rd_wr_obj _ _ (by decide), hmod]

/-- HI_BER and its alarm say whether the lane is in 'hi-ber'. -/
theorem hiBer_setLaneState {s : State} {l : Nat} {st : Int} (b : Bool) (hs : s.laneState l ≠ st) :
    (s.setLaneState l st b).rd o3100_HI_BER l = boolVal (st == LANE_STATE.hi_ber) ∧ ((s.setLaneState l st b).stands .LANE_HI_BER l ↔ st = LANE_STATE.hi_ber) := by
  have hf : Blind [.lanes, .alarm .LANE_LOS, .alarm .LANE_HI_BER] (·.rd o3100_HI_BER l) := blind_rd (by decide) l
  constructor
  · rw [hf.setLaneState_moved (by decide) b hs]
    unfold State.laneMoved State.laneArrive
    dsimp only
    rw [hf.alarmWhile (by decide), State.rd_wr_same]
  · rw [setLaneState_ne b hs, stands_noteLos_ne _ _ (by decide)]
    have hmoved : (s.laneMoved l st b).stands .LANE_HI_BER l ↔ st = LANE_STATE.hi_ber := by
      unfold State.laneMoved State.laneArrive
      exact (stands_alarmWhile _ _ _ _).trans beq_iff_eq
    split
    · exact (stands_setLane _ _ _ _ _).trans hmoved
    · exact hmoved

end Sys2Proof.Machine
end

section
/-! SUPPORT. Signal, clock recovery and rate search of a lane (R113, R122-R125, R131). -/

namespace Sys2Proof.Machine
open Sys2Proof

/-! Acquisition. -/

/-- What acquisition clears of a lane. -/
def Lane.acquiring (x : Lane) : Lane := { x with cdr := false, codeword := false, errored := false, lock := false, retryAt := none, lowSince := none, warnSince := none }

/-- The equaliser starts from code 8 with taps 0, or holds what it has. -/
def State.equaliserStart (s : State) (l : Nat) (fresh : Bool) : State := if fresh then (s.wr o3100_CTLE_ACTIVE l 8).wrOct o3100_DFE_TAPS l (zeros 12) else s

theorem acquire_eq (s : State) (l : Nat) (fresh b : Bool) :
    s.acquire l fresh b = ((s.setLaneState l LANE_STATE.acquiring b).equaliserStart l fresh).setLane l (((s.setLaneState l LANE_STATE.acquiring b).equaliserStart l fresh).lane l).acquiring := rfl

theorem Blind.equaliserStart {M : List Mark} {α : Type} {f : State → α} (hf : Blind M f) (h : [.obj o3100_CTLE_ACTIVE, .oct o3100_DFE_TAPS] ⊆ M) (s : State) (l : Nat) (fresh : Bool) :
    f (s.equaliserStart l fresh) = f s := by
  unfold State.equaliserStart
  split
  · exact (hf.wrOct (h (by decide)) _ _ _).trans (hf.wr (h (by decide)) _ _ _)
  · rfl

theorem laneState_acquire (s : State) (l : Nat) (fresh b : Bool) : (s.acquire l fresh b).laneState l = LANE_STATE.acquiring :=
  ((blind_laneState (by decide) l).equaliserStart (List.Subset.refl _) _ l fresh).trans (laneState_setLaneState s l LANE_STATE.acquiring b)

theorem lane_acquire (s : State) (l : Nat) (fresh b : Bool) : (s.acquire l fresh b).lane l = (s.lane l).acquiring := by
  rw [acquire_eq, State.lane_setLane, (blind_lane (by decide) l).equaliserStart (List.Subset.refl _), lane_setLaneState (by decide)]

theorem ctle_acquire (s : State) (l : Nat) (fresh b : Bool) : (s.acquire l fresh b).rd o3100_CTLE_ACTIVE l = if fresh then 8 else s.rd o3100_CTLE_ACTIVE l := by
  rw [acquire_eq, State.rd_setLane]
  unfold State.equaliserStart
  split
  · rw [State.rd_wrOct, State.rd_wr_same]
  · exact (blind_rd (M := .lanes :: .obj o3100_LANE_STATE :: moveMarks) (by decide) l).setLaneState (by decide) (by decide) (by decide) s l _ b

theorem lockLosses_acquire {s : State} {l : Nat} (fresh : Bool) (hs : s.laneState l = LANE_STATE.up) :
    (s.acquire l fresh false).rd o3100_LOCK_LOSSES l = (s.rd o3100_LOCK_LOSSES l + 1) % 4294967296 :=
  ((blind_rd (by decide) l).equaliserStart (List.Subset.refl _) _ l fresh).trans (lockLosses_setLaneState hs (by decide))

/-- What acquisition touches. -/
def acquireMarks : List Mark := .lanes :: .obj o3100_LANE_STATE :: .obj o3100_CTLE_ACTIVE :: .oct o3100_DFE_TAPS :: moveMarks

theorem Blind.acquire {M : List Mark} {α : Type} {f : State → α} (hf : Blind M f) (h : acquireMarks ⊆ M) (s : State) (l : Nat) (fresh b : Bool) : f (s.acquire l fresh b) = f s :=
  (hf.setLane (h (by decide)) _ _ _).trans ((hf.equaliserStart (List.Subset.trans (by decide) h) _ _ _).trans
    (hf.setLaneState (List.Subset.trans (by decide) h) (h (by decide)) (h (by decide)) s l _ b))

/-! The clock (R124, R125). -/

theorem cdrLock_acquiring {s : State} {l : Nat} {ppb : Int} (div : Bool) (hs : s.laneState l = LANE_STATE.acquiring) (hx : (s.lane l).signal = true)
    (hr : absInt ppb ≤ trackRange (s.lane l).mode) :
    let w := (s.setLane l { s.lane l with cdr := true, corner := s.cdrDivisor l }).wr o3100_FREQ_OFFSET_PPB l ppb
    s.cdrLock l ppb div = (if (s.lane l).mode = LANE_MODE.sdi_auto then w.wr o3100_RATE_FOUND l (huntOrder.getD (s.lane l).hunt 7)
      else if sdiMode (s.lane l).mode then w.wr o3100_RATE_FOUND l (rateOfSdi (s.lane l).mode div) else w).noteLane l := if_pos ⟨hs, hx, hr⟩

theorem cdrLock_locked {s : State} {l : Nat} {ppb : Int} (div : Bool) (hs : s.laneState l ≠ LANE_STATE.acquiring) (hc : (s.lane l).cdr = true) (hx : (s.lane l).signal = true)
    (hr : absInt ppb ≤ trackRange (s.lane l).mode) :
    s.cdrLock l ppb div = (s.setLane l { s.lane l with corner := s.cdrDivisor l }).wr o3100_FREQ_OFFSET_PPB l ppb :=
  (if_neg fun h => hs h.1).trans (if_pos ⟨hc, hx, hr⟩)

theorem cdrLock_beyond {s : State} {l : Nat} {ppb : Int} (div : Bool) (hr : trackRange (s.lane l).mode < absInt ppb) : s.cdrLock l ppb div = s :=
  (if_neg fun h => absurd h.2.2 (by omega)).trans (if_neg fun h => absurd h.2.2 (by omega))

/-- A lock within the range holds the clock, with the corner of CDR_BW and the offset measured. -/
theorem cdrLock_locks {s : State} {l : Nat} {ppb : Int} (div : Bool) (hs : s.laneState l = LANE_STATE.acquiring) (hx : (s.lane l).signal = true)
    (hr : absInt ppb ≤ trackRange (s.lane l).mode) :
    ((s.cdrLock l ppb div).lane l).cdr = true ∧ ((s.cdrLock l ppb div).lane l).corner = s.cdrDivisor l ∧ (s.cdrLock l ppb div).rd o3100_FREQ_OFFSET_PPB l = ppb ∧
      ((s.lane l).mode = LANE_MODE.sdi_auto → (s.cdrLock l ppb div).rd o3100_RATE_FOUND l = huntOrder.getD (s.lane l).hunt 7) := by
  rw [cdrLock_acquiring div hs hx hr]
  have hlane : ∀ u : State, (u.noteLane l).lane l = u.lane l := fun u => (blind_lane (by decide) l).noteLane (List.Subset.refl _) u l
  refine ⟨?_, ?_, ?_, fun hm => ?_⟩
  · rw [hlane]
    split_ifs <;> exact congrArg Lane.cdr (s.lane_setLane l _)
  · rw [hlane]
    split_ifs <;> exact congrArg Lane.corner (s.lane_setLane l _)
  · rw [(blind_rd (by decide) l).noteLane (List.Subset.refl _)]
    split_ifs
    · exact (State.rd_wr_obj _ _ (by decide)).trans (State.rd_wr_same _ _ _ _)
    · exact (State.rd_wr_obj _ _ (by decide)).trans (State.rd_wr_same _ _ _ _)
    · exact State.rd_wr_same _ _ _ _
  · rw [if_pos hm, (blind_rd (by decide) l).noteLane (List.Subset.refl _)]
    exact State.rd_wr_same _ _ _ _

/-! Signal (R123, R131). -/

/-- The lane with signal. -/
def State.signalSet (s : State) (l : Nat) : State := s.setLane l { s.lane l with signal := true }

theorem signalOn_eq {s : State} {l : Nat} (hs : s.laneState l ≠ LANE_STATE.unpowered) : s.signalOn l = (s.signalSet l).noteLos l := if_neg hs

theorem lane_signalOn (s : State) (l : Nat) : ((s.signalSet l).noteLos l).lane l = { s.lane l with signal := true } :=
  (((blind_lane (by decide) l).toAlarm (List.Subset.refl _)).noteLos _ _).trans (s.lane_setLane l _)

theorem laneState_signalOn (s : State) (l : Nat) : ((s.signalSet l).noteLos l).laneState l = s.laneState l :=
  ((blind_laneState (by decide) l).toAlarm (List.Subset.refl _)).noteLos _ _

theorem not_stands_signalOn (s : State) (l : Nat) : ¬ ((s.signalSet l).noteLos l).stands .LANE_LOS l :=
  not_stands_noteLos (congrArg Lane.signal (s.lane_setLane l _))

theorem signalOff_up {s : State} {l : Nat} (hs : s.laneState l = LANE_STATE.up) : s.signalOff l = (s.setLane l { s.lane l with signal := false, cdr := false }).acquire l false false :=
  if_pos (.inr (.inr (.inl hs)))

theorem huntOrder_getD {n : Nat} (h : n < 8) : huntOrder.getD n 7 = huntOrder.getD n 0 := by
  have hall : ∀ n < 8, huntOrder.getD n 7 = huntOrder.getD n 0 := by decide
  exact hall n h

/-- Settles O17. The measurement again of a lock that holds, the taps' steps and the resumed hunt are the model's choices of log entries 47, 148 and 153. -/
theorem laneClocksAreRecovered : Obligations.LaneClocksAreRecovered := by
  intro s t l ppb div hp
  have hrange : trackRange (s.lane l).mode = if sdiMode (s.lane l).mode then 300000 else 200000 := rfl
  refine ⟨fun hs => ?_, fun hs => ?_, fun hs hx => ⟨fun hr => ?_, fun hr => ?_⟩, fun hs hc hx hr => ?_, fun hm hs hc => ?_, fun hm hs ht => ?_, fun ht hm hs => ?_⟩
  · exact ⟨_, run_work (t := t) (f := (·.signalOn l)) hp (signalOn_eq (s := s.begin t) hs), congrArg Lane.signal (lane_signalOn (s.begin t) l), laneState_signalOn (s.begin t) l,
      fun h => not_stands_signalOn (s.begin t) l ((finish_stands _ _ _ _).mp h)⟩
  · exact ⟨_, run_work (t := t) (f := (·.signalOff l)) hp (signalOff_up (s := s.begin t) hs), laneState_acquire _ l false false,
      congrArg Lane.signal ((lane_acquire _ l false false).trans (congrArg Lane.acquiring ((s.begin t).lane_setLane l _))), ctle_acquire _ l false false, lockLosses_acquire (s := (s.begin t).setLane l _) false hs⟩
  · obtain ⟨hcdr, hcorner, hppb, hfound⟩ := cdrLock_locks (s := s.begin t) div hs hx hr
    refine ⟨_, run_work (t := t) (f := (·.cdrLock l ppb div)) hp rfl, hcdr, hcorner, hppb, fun hm hh => (hfound hm).trans ?_⟩
    exact huntOrder_getD hh
  · exact ⟨_, run_work (t := t) (f := (·.cdrLock l ppb div)) hp (cdrLock_beyond (s := s.begin t) div hr), rfl, rfl⟩
  · exact ⟨_, run_work (t := t) (f := (·.cdrLock l ppb div)) hp (cdrLock_locked (s := s.begin t) div (hs ▸ by decide) hc hx hr), State.rd_wr_same _ o3100_FREQ_OFFSET_PPB l ppb,
      (keepsRegs_refl (s.begin t) _).wr ppb (List.mem_singleton_self _), (s.begin t).lane_setLane l _⟩
  · exact ⟨_, run_work (t := t) (f := (·.rateDwell l)) hp (if_pos ⟨hm, hs, hc⟩), congrArg Lane.hunt ((s.begin t).lane_setLane l _), hs⟩
  · have hhunt : (((s.begin t).acquire l true false).lane l).hunt = (s.lane l).hunt := by
      rw [lane_acquire]
      rfl
    have hnext : ((((s.begin t).acquire l true false).nextRate l).lane l).hunt = ((((s.begin t).acquire l true false).lane l).hunt + 1) % 8 := congrArg Lane.hunt (State.lane_setLane _ l _)
    exact ⟨_, run_work (t := t) (f := (·.autoTrsTimeout l)) hp (if_pos ⟨hm, hs, ht⟩), hnext.trans (by rw [hhunt]), laneState_acquire (s.begin t) l true false,
      ctle_acquire (s.begin t) l true false⟩
  · have hmod : objModulus o3100_ADAPT_RESETS = 4294967296 := by decide
    have hpam : pam4 (s.lane l).mode = true ∧ (s.lane l).mode ≠ LANE_MODE.ivard := by rw [hm]; decide
    refine ⟨_, run_work (t := t) (f := (·.trainingTimeout l)) hp (if_pos ⟨ht, hpam.1, hpam.2, hs⟩), ?_, ?_⟩
    · exact ((blind_rd (M := [.oct o3100_TX_TAPS_ACTIVE]) (by decide) l).noteTaps (by decide) _ l).trans ((rd_bump_obj _ (by decide) _ _).trans (State.rd_wr_same _ _ _ _))
    · refine ((blind_rd (M := [.oct o3100_TX_TAPS_ACTIVE]) (by decide) l).noteTaps (by decide) _ l).trans ((rd_bump_same _ _ _).trans ?_)
      rw [hmod, State.rd_wr_obj _ _ (by decide)]
      rfl

end Sys2Proof.Machine
end

section
/-! SUPPORT. How receivers adapt, are tried and are reset (R121-R123, R131). -/

namespace Sys2Proof.Machine
open Sys2Proof

/-! The best code (R122). -/

/-- A code is the best of those below `n`: none has a higher EYE_Q, and every lower code a lower one. -/
def BestBelow (qs : List Nat) (n c : Nat) : Prop := ∀ i < n, qs.getD i 0 ≤ qs.getD c 0 ∧ (i < c → qs.getD i 0 < qs.getD c 0)

theorem bestCode_best {qs : List Nat} : ∀ (l : List Nat) (n b : Nat), qs.drop n = l → b < n → BestBelow qs n b → ∀ m, BestBelow qs m (bestCode l n (b, qs.getD b 0))
  | [], n, b, hl, _, hbest, m, i, _ => by
    have hlen : qs.length ≤ n := List.drop_eq_nil_iff.mp hl
    unfold bestCode
    by_cases hi : i < n
    · exact hbest i hi
    · have hzero : qs.getD i 0 = 0 := List.getD_eq_default _ _ (by omega)
      exact ⟨by omega, fun hlt => by omega⟩
  | q :: l, n, b, hl, hbn, hbest, m, i, him => by
    have hlt : n < qs.length := by
      by_contra hge
      rw [List.drop_eq_nil_iff.mpr (by omega)] at hl
      exact absurd hl (by simp)
    have hq : qs.getD n 0 = q := by
      rw [List.getD_eq_getElem _ _ hlt]
      rw [List.drop_eq_getElem_cons hlt] at hl
      exact (List.cons.inj hl).1
    have hdrop : qs.drop (n + 1) = l := by
      rw [List.drop_eq_getElem_cons hlt] at hl
      exact (List.cons.inj hl).2
    unfold bestCode
    dsimp only
    by_cases hbq : qs.getD b 0 < q
    · rw [if_pos hbq, ← hq]
      refine bestCode_best l (n + 1) n hdrop (by omega) (fun j hj => ?_) m i him
      rcases Nat.lt_succ_iff_lt_or_eq.mp hj with hjn | hjn
      · have hle := (hbest j hjn).1
        exact ⟨by omega, fun _ => by omega⟩
      · subst hjn
        exact ⟨le_refl _, fun h => absurd h (lt_irrefl _)⟩
    · rw [if_neg hbq]
      refine bestCode_best l (n + 1) b hdrop (by omega) (fun j hj => ?_) m i him
      rcases Nat.lt_succ_iff_lt_or_eq.mp hj with hjn | hjn
      · exact hbest j hjn
      · subst hjn
        exact ⟨by omega, fun h => by omega⟩

/-- The code applied has the highest EYE_Q, the lower of equals. -/
theorem bestCode_highest (qs : List Nat) (i : Nat) :
    let c := bestCode (qs.drop 1) 1 (0, qs.headD 0)
    qs.getD i 0 ≤ qs.getD c 0 ∧ (i < c → qs.getD i 0 < qs.getD c 0) := by
  have hhead : qs.headD 0 = qs.getD 0 0 := by cases qs <;> rfl
  dsimp only
  rw [hhead]
  refine bestCode_best (qs := qs) _ 1 0 rfl Nat.one_pos (fun j hj => ?_) (i + 1) i (Nat.lt_succ_self i)
  obtain rfl : j = 0 := by omega
  exact ⟨le_refl _, fun h => absurd h (lt_irrefl _)⟩

/-! Adaptation (R122). -/

/-- What the end of adaptation writes. -/
def State.adapted (s : State) (l : Nat) (qs : List Nat) (q : Nat) (dfe : Bytes) : State :=
  ((s.wr o3100_CTLE_ACTIVE l (bestCode (qs.drop 1) 1 (0, qs.headD 0))).wrOct o3100_DFE_TAPS l ((dfe ++ zeros 12).take 12)).wr o3100_EYE_Q l q

theorem adaptDone_eq {s : State} {l : Nat} (qs : List Nat) (q : Nat) (dfe : Bytes) (hs : s.laneState l = LANE_STATE.acquiring) (hc : (s.lane l).cdr = true) (hr : (s.lane l).retryAt = none) :
    s.adaptDone l qs q dfe none = if s.rdN o3000_ADAPT_RESET_Q l ≤ q then (s.adapted l qs q dfe).setLaneState l LANE_STATE.aligning false
      else (s.adapted l qs q dfe).setLane l { s.lane l with retryAt := some (s.now + 10000000) } := by
  have hq : (s.adapted l qs q dfe).rdN o3000_ADAPT_RESET_Q l = s.rdN o3000_ADAPT_RESET_Q l := (rdN_wr_obj _ _ (by decide)).trans (rdN_wr_obj _ _ (by decide))
  unfold State.adaptDone
  dsimp only
  rw [if_neg (not_not.mpr ⟨hs, hc, by rw [hr]; rfl⟩), ite_self]
  exact if_congr (by rw [← hq]; rfl) rfl rfl

theorem adapted_laneState (s : State) (l : Nat) (qs : List Nat) (q : Nat) (dfe : Bytes) : (s.adapted l qs q dfe).laneState l = s.laneState l :=
  (State.rd_wr_obj _ _ (by decide)).trans (State.rd_wr_obj _ _ (by decide))

theorem adaptDone_ctle {s : State} {l : Nat} (qs : List Nat) (q : Nat) (dfe : Bytes) (hs : s.laneState l = LANE_STATE.acquiring) (hc : (s.lane l).cdr = true) (hr : (s.lane l).retryAt = none) :
    (s.adaptDone l qs q dfe none).rd o3100_CTLE_ACTIVE l = bestCode (qs.drop 1) 1 (0, qs.headD 0) := by
  have hw : (s.adapted l qs q dfe).rd o3100_CTLE_ACTIVE l = bestCode (qs.drop 1) 1 (0, qs.headD 0) := (State.rd_wr_obj _ _ (by decide)).trans (s.rd_wr_same o3100_CTLE_ACTIVE l _)
  rw [adaptDone_eq qs q dfe hs hc hr]
  split
  · exact ((blind_rd (M := .lanes :: .obj o3100_LANE_STATE :: moveMarks) (by decide) l).setLaneState (by decide) (by decide) (by decide) _ l _ _).trans hw
  · exact hw

theorem adaptDone_aligns {s : State} {l : Nat} (qs : List Nat) {q : Nat} (dfe : Bytes) (hs : s.laneState l = LANE_STATE.acquiring) (hc : (s.lane l).cdr = true) (hr : (s.lane l).retryAt = none)
    (hq : s.rdN o3000_ADAPT_RESET_Q l ≤ q) : (s.adaptDone l qs q dfe none).laneState l = LANE_STATE.aligning := by
  rw [adaptDone_eq qs q dfe hs hc hr, if_pos hq, laneState_setLaneState]

theorem adaptDone_waits {s : State} {l : Nat} (qs : List Nat) {q : Nat} (dfe : Bytes) (hs : s.laneState l = LANE_STATE.acquiring) (hc : (s.lane l).cdr = true) (hr : (s.lane l).retryAt = none)
    (hq : q < s.rdN o3000_ADAPT_RESET_Q l) :
    (s.adaptDone l qs q dfe none).laneState l = LANE_STATE.acquiring ∧ ((s.adaptDone l qs q dfe none).lane l).retryAt = some (s.now + 10000000) := by
  rw [adaptDone_eq qs q dfe hs hc hr, if_neg (not_le.mpr hq), State.lane_setLane]
  exact ⟨(adapted_laneState s l qs q dfe).trans hs, rfl⟩

theorem adaptRetry_eq {s : State} {l w : Nat} (hs : s.laneState l = LANE_STATE.acquiring) (hw : (s.lane l).retryAt = some w) (hdue : w ≤ s.now) : s.adaptRetry l = s.acquire l true false := by
  unfold State.adaptRetry
  rw [hw]
  exact if_pos ⟨hdue, hs⟩

/-! EYE_Q and the equaliser (R121, R123). -/

theorem lane_moveTaps (s : State) (l : Nat) : (s.moveTaps l).lane l = { s.lane l with dfeAt := s.now } := by
  unfold State.moveTaps
  dsimp only
  split
  · exact s.lane_setLane l _
  · exact s.lane_setLane l _

theorem moveTaps_rd (s : State) (l o r : Nat) : (s.moveTaps l).rd o r = s.rd o r := by
  unfold State.moveTaps
  dsimp only
  split
  · rfl
  · rfl

theorem moveTaps_now (s : State) (l : Nat) : (s.moveTaps l).now = s.now := by
  unfold State.moveTaps
  dsimp only
  split
  · rfl
  · rfl

/-- EYE_Q is the smaller opening in thousandths. -/
theorem eyeWindow_eyeQ (s : State) (l v h : Nat) : (s.eyeWindow l v h).rd o3100_EYE_Q l = (min 1000 (min v h / 1000) : Nat) := by
  have ha : AlarmBlind (·.rd o3100_EYE_Q l) := alarmBlind_rd l (by decide)
  unfold State.eyeWindow
  extract_lets q w x low warn y
  have hy : y.rd o3100_EYE_Q l = (min 1000 (min v h / 1000) : Nat) := State.rd_wr_same _ o3100_EYE_Q l _
  clear_value y warn
  split
  · split
    · exact (ha.raise _ _ _).trans hy
    · exact hy
  · split
    · exact (ha.clear _ _ _).trans hy
    · exact hy

/-- EYE_Q below EYE_WARN_Q for 1 s raises LANE_EYE_LOW. -/
theorem eyeWindow_stands {s : State} {l v h w : Nat} (hw : (s.lane l).warnSince = some w) (hdue : w + second ≤ s.now) (hq : min 1000 (min v h / 1000) < s.rdN o3000_EYE_WARN_Q l) :
    (s.eyeWindow l v h).stands .LANE_EYE_LOW l := by
  have hlim : (((s.moveTaps l).wr o3100_EYE_Q l (min 1000 (min v h / 1000) : Nat)).rdN o3000_EYE_WARN_Q l) = s.rdN o3000_EYE_WARN_Q l :=
    congrArg Int.toNat ((State.rd_wr_obj _ _ (by decide)).trans (moveTaps_rd s l _ _))
  have hlane : ((s.moveTaps l).wr o3100_EYE_Q l (min 1000 (min v h / 1000) : Nat)).lane l = { s.lane l with dfeAt := s.now } := lane_moveTaps s l
  unfold State.eyeWindow
  extract_lets q u x low warn y
  have hwarn : warn = some w := by
    dsimp only [warn, x, u, q]
    rw [if_pos (by rw [hlim]; exact hq), hlane, hw]
    rfl
  rw [hwarn]
  dsimp only
  rw [if_pos (show w + second ≤ y.now by rw [show y.now = s.now from moveTaps_now s l]; exact hdue)]
  exact stands_raise_same _ _ _

/-- The trial of the neighbours in a lane that is up. -/
theorem ctleTrial_eq {s : State} {l : Nat} (here up down : Nat) (ha : s.rd o3000_RX_ADAPT l = RX_ADAPT.continuous) (hs : s.laneState l = LANE_STATE.up) (hx : (s.lane l).signal = true) :
    s.ctleTrial l here up down =
      if here + 20 ≤ down ∧ 0 < s.rd o3100_CTLE_ACTIVE l ∧ (up ≤ down ∨ s.rd o3100_CTLE_ACTIVE l = 15) then s.wr o3100_CTLE_ACTIVE l (s.rd o3100_CTLE_ACTIVE l - 1)
      else if here + 20 ≤ up ∧ s.rd o3100_CTLE_ACTIVE l < 15 then s.wr o3100_CTLE_ACTIVE l (s.rd o3100_CTLE_ACTIVE l + 1) else s := if_pos ⟨ha, .inr (.inl hs), hx⟩

/-- The code moves by one, to a neighbour that is better by 20 points, and stays in range. -/
theorem ctleTrial_moves {s : State} {l : Nat} (here up down : Nat) (ha : s.rd o3000_RX_ADAPT l = RX_ADAPT.continuous) (hs : s.laneState l = LANE_STATE.up) (hx : (s.lane l).signal = true)
    (h0 : 0 ≤ s.rd o3100_CTLE_ACTIVE l) (h15 : s.rd o3100_CTLE_ACTIVE l ≤ 15) :
    let c := (s.ctleTrial l here up down).rd o3100_CTLE_ACTIVE l
    0 ≤ c ∧ c ≤ 15 ∧ (down < here + 20 → up < here + 20 → c = s.rd o3100_CTLE_ACTIVE l) ∧
      (here + 20 ≤ down → up < here + 20 → 0 < s.rd o3100_CTLE_ACTIVE l → c = s.rd o3100_CTLE_ACTIVE l - 1) ∧
      (here + 20 ≤ up → down < here + 20 → s.rd o3100_CTLE_ACTIVE l < 15 → c = s.rd o3100_CTLE_ACTIVE l + 1) := by
  rw [ctleTrial_eq here up down ha hs hx]
  split_ifs with hdown hup
  · rw [State.rd_wr_same]
    omega
  · rw [State.rd_wr_same]
    omega
  · dsimp only
    omega

/-! Resets (R123, R131). -/

theorem adaptReset_eq {s : State} {l w : Nat} (hs : s.laneState l = LANE_STATE.up) (hw : (s.lane l).lowSince = some w) (hdue : w + second ≤ s.now) :
    s.adaptReset l = ((s.acquire l true false).bump o3100_ADAPT_RESETS l).pulse .LANE_ADAPT_RESET l := by
  unfold State.adaptReset
  rw [hw]
  exact if_pos ⟨hdue, hs⟩

theorem adaptReset_resets {s : State} {l w : Nat} (hs : s.laneState l = LANE_STATE.up) (hw : (s.lane l).lowSince = some w) (hdue : w + second ≤ s.now) :
    (s.adaptReset l).laneState l = LANE_STATE.acquiring ∧ (s.adaptReset l).rd o3100_ADAPT_RESETS l = (s.rd o3100_ADAPT_RESETS l + 1) % 4294967296 ∧
      (s.adaptReset l).rd o3100_CTLE_ACTIVE l = 8 := by
  have hmod : objModulus o3100_ADAPT_RESETS = 4294967296 := by decide
  have hresets : (s.acquire l true false).rd o3100_ADAPT_RESETS l = s.rd o3100_ADAPT_RESETS l := (blind_rd (by decide) l).acquire (List.Subset.refl _) s l true false
  rw [adaptReset_eq hs hw hdue]
  refine ⟨?_, ?_, ?_⟩
  · exact ((blind_laneState (by decide) l).toAlarm (List.Subset.refl _)).pulse _ _ _ |>.trans ((rd_bump_obj _ (by decide) _ _).trans (laneState_acquire s l true false))
  · rw [(alarmBlind_rd l (by decide)).pulse, rd_bump_same, hmod, hresets]
  · rw [(alarmBlind_rd l (by decide)).pulse, rd_bump_obj _ (by decide), ctle_acquire, if_pos rfl]

/-- Settles O18. -/
theorem receiversAdapt : Obligations.ReceiversAdapt := by
  intro s t l q qs dfe hp
  refine ⟨fun hs hc hr => ?_, fun w hs hw hdue => ?_, fun v h hv hh => ?_, fun here up down ha hs hx h0 h15 => ?_, fun w hs hw hdue => ?_, fun hs hdue => ?_⟩
  · refine ⟨_, run_work (t := t) (f := (·.adaptDone l qs q dfe none)) hp rfl, fun c hcode i => ?_, adaptDone_aligns (s := s.begin t) qs dfe hs hc hr, adaptDone_waits (s := s.begin t) qs dfe hs hc hr⟩
    have hbest := adaptDone_ctle (s := s.begin t) qs q dfe hs hc hr
    obtain rfl : c = bestCode (qs.drop 1) 1 (0, qs.headD 0) := Int.ofNat.inj (hcode.symm.trans hbest)
    exact bestCode_highest qs i
  · refine ⟨_, run_work (t := t) (f := (·.adaptRetry l)) hp (adaptRetry_eq (s := s.begin t) hs hw hdue), laneState_acquire (s.begin t) l true false, ?_, ?_, ctle_acquire (s.begin t) l true false⟩
    · exact congrArg Lane.retryAt (lane_acquire (s.begin t) l true false)
    · exact congrArg Lane.cdr (lane_acquire (s.begin t) l true false)
  · have hq : min 1000 (min v h / 1000) = 1000 * min v h / 1000000 := by omega
    refine ⟨_, run_work (t := t) (f := (·.eyeWindow l v h)) hp rfl, ?_, fun w hw hdue hlow => (finish_stands _ _ _ _).mpr (eyeWindow_stands (s := s.begin t) hw hdue (hq ▸ hlow))⟩
    rw [← hq]
    exact eyeWindow_eyeQ (s.begin t) l v h
  · exact ⟨_, run_work (t := t) (f := (·.ctleTrial l here up down)) hp rfl, ctleTrial_moves (s := s.begin t) here up down ha hs hx h0 h15⟩
  · exact ⟨_, run_work (t := t) (f := (·.adaptReset l)) hp rfl, adaptReset_resets (s := s.begin t) hs hw hdue⟩
  · exact ⟨_, run_work (t := t) (f := (·.lockTimeout l)) hp (if_pos ⟨hs, hdue⟩), laneState_acquire (s.begin t) l true false, ctle_acquire (s.begin t) l true false⟩

end Sys2Proof.Machine
end

section
/-! SUPPORT. How block lock, codeword lock and TRS lock are gained and lost (R126-R131). -/

namespace Sys2Proof.Machine
open Sys2Proof

/-! Lock events. -/

theorem lockEvent_eq {s : State} {l : Nat} (st : Int) (h : (s.lane l).pendMode = false) : s.lockEvent l st = s.setLaneState l st false := if_neg (by rw [h]; decide)

theorem lockEvent_pending {s : State} {l : Nat} (st : Int) (h : (s.lane l).pendMode = true) : s.lockEvent l st = s := if_pos h

/-- Lock lost in a lane that is up takes it back to 'aligning'. -/
theorem lockLost_up {s : State} {l : Nat} (hs : s.laneState l = LANE_STATE.up) (h : (s.lane l).pendMode = false) : s.lockLost l = s.setLaneState l LANE_STATE.aligning false :=
  (if_pos (.inl hs)).trans (lockEvent_eq _ h)

/-- What a reading outside the lane's own parts sees of a lock event: nothing. -/
theorem Blind.setState {M : List Mark} {α : Type} {f : State → α} (hf : Blind M f) (h : .lanes :: .obj o3100_LANE_STATE :: moveMarks ⊆ M) (s : State) (l : Nat) (st : Int) (b : Bool) :
    f (s.setLaneState l st b) = f s := hf.setLaneState (List.Subset.trans (by decide) h) (h (by decide)) (h (by decide)) s l st b

/-! Block lock (R126). -/

/-- Whether a sync header is invalid. -/
def badHeader (hdr : Nat) : Bool := !(hdr == 1 || hdr == 2)

theorem badHeader_valid {hdr : Nat} (h : hdr = 1 ∨ hdr = 2) : badHeader hdr = false := by
  rcases h with rfl | rfl <;> rfl

theorem badHeader_invalid {hdr : Nat} (h1 : hdr ≠ 1) (h2 : hdr ≠ 2) : badHeader hdr = true := by
  simp [badHeader, h1, h2]

/-- The lane with its 64th valid header. -/
def Lane.found (x : Lane) : Lane := { x with lock := true, good := 0, window := [] }

/-- The lane holds its lock. -/
def State.holdLock (s : State) (l : Nat) : State := s.setLane l { s.lane l with lock := true }

section
variable {s : State} {l hdr : Nat} (hm : sdiMode (s.lane l).mode = false) (hfec : s.usesFec l = false)
include hm hfec

theorem blockRx_hunting (hs : s.laneState l = LANE_STATE.aligning) (hl : (s.lane l).lock = false) :
    let w := if badHeader hdr then s.bump o3100_INVALID_HEADERS l else s
    s.blockRx l hdr = if 64 ≤ (if badHeader hdr then 0 else (s.lane l).good + 1) then
        (let v := w.setLane l { s.lane l with lock := true, good := 0, window := [] }
         if v.laneState l = LANE_STATE.aligning then (v.lockEvent l LANE_STATE.up).setLane l { (v.lockEvent l LANE_STATE.up).lane l with lock := true } else v)
      else if badHeader hdr then w.setLane l { s.lane l with good := 0, boundary := ((s.lane l).boundary + 1) % 66 }
      else w.setLane l { s.lane l with good := if badHeader hdr then 0 else (s.lane l).good + 1 } := by
  have hlock : s.locking l = true := by unfold State.locking; rw [hs]; rfl
  unfold State.blockRx
  dsimp only
  rw [if_neg (by simp [hlock, hm, hfec]), if_neg (by simp [hl])]
  rfl

theorem blockRx_gains (hs : s.laneState l = LANE_STATE.aligning) (hl : (s.lane l).lock = false) (hdr12 : hdr = 1 ∨ hdr = 2) (hg : (s.lane l).good = 63) :
    s.blockRx l hdr = ((s.setLane l (s.lane l).found).lockEvent l LANE_STATE.up).holdLock l := by
  rw [blockRx_hunting hm hfec hs hl, badHeader_valid hdr12, hg]
  exact if_pos hs

theorem blockRx_counts (hs : s.laneState l = LANE_STATE.aligning) (hl : (s.lane l).lock = false) (hdr12 : hdr = 1 ∨ hdr = 2) (hg : (s.lane l).good < 63) :
    s.blockRx l hdr = s.setLane l { s.lane l with good := (s.lane l).good + 1 } := by
  rw [blockRx_hunting hm hfec hs hl, badHeader_valid hdr12]
  exact if_neg (by simp only [Bool.false_eq_true, if_false]; omega)

theorem blockRx_slips (hs : s.laneState l = LANE_STATE.aligning) (hl : (s.lane l).lock = false) (h1 : hdr ≠ 1) (h2 : hdr ≠ 2) :
    s.blockRx l hdr = (s.bump o3100_INVALID_HEADERS l).setLane l { s.lane l with good := 0, boundary := ((s.lane l).boundary + 1) % 66 } := by
  rw [blockRx_hunting hm hfec hs hl, badHeader_invalid h1 h2]
  rfl

theorem blockRx_locked (hs : s.laneState l = LANE_STATE.up) (hl : (s.lane l).lock = true) (h1 : hdr ≠ 1) (h2 : hdr ≠ 2) :
    s.blockRx l hdr = if 15 ≤ ((s.lane l).window.take 63).count true then (s.bump o3100_INVALID_HEADERS l).lockLost l
      else (s.bump o3100_INVALID_HEADERS l).setLane l { s.lane l with window := true :: (s.lane l).window.take 63 } := by
  have hlock : s.locking l = true := by unfold State.locking; rw [hs]; rfl
  have hbad : (!(hdr == 1 || hdr == 2)) = true := badHeader_invalid h1 h2
  unfold State.blockRx
  dsimp only
  rw [if_neg (by simp [hlock, hm, hfec]), if_pos hl, hbad, List.take_succ_cons, List.count_cons_self]
  exact if_congr (by omega) rfl rfl

end

/-! Codewords (R127). -/

theorem codewordRx_eq {s : State} {l : Nat} (c bad sync : Bool) (hfec : s.usesFec l = true) (hs : s.laneState l = LANE_STATE.up) (hc : (s.lane l).codeword = true) :
    let v := s.setLane l { s.lane l with codeword := sync, errored := bad }
    let w := if c then v.bump o3100_FEC_CORRECTED l else v
    let x := if bad then (w.bump o3100_FEC_UNCORRECTED l).raiseQuiet .LANE_FEC_UNCORR l else w
    s.codewordRx l c bad sync = if sync = false then x.lockLost l else x := by
  have hlock : s.locking l = true := by unfold State.locking; rw [hs]; rfl
  unfold State.codewordRx
  dsimp only
  rw [if_neg (by simp [hlock, hfec]), hc]
  exact if_congr (and_iff_right rfl) rfl rfl

theorem laneState_setLane (s : State) (l : Nat) (x : Lane) (k : Nat) : (s.setLane l x).laneState k = s.laneState k := rfl

section
variable {s : State} {l hdr : Nat} (hp : s.powered = true) (t : Nat)
include hp

theorem laneBlockRx_hunts (hm : sdiMode (s.lane l).mode = false) (hfec : s.usesFec l = false) (hs : s.laneState l = LANE_STATE.aligning) (hl : (s.lane l).lock = false) :
    (hdr = 1 ∨ hdr = 2 → (s.lane l).good = 63 → (s.lane l).pendMode = false → ∃ u, exec (.laneBlockRx t l hdr) s = .next u ∧ u.laneState l = LANE_STATE.up ∧ (u.lane l).lock = true ∧
      u.rd o3100_LOCKS l = (s.rd o3100_LOCKS l + 1) % 4294967296) ∧
    (hdr = 1 ∨ hdr = 2 → (s.lane l).good = 63 → (s.lane l).pendMode = true → ∃ u, exec (.laneBlockRx t l hdr) s = .next u ∧ u.laneState l = LANE_STATE.aligning) ∧
    (hdr = 1 ∨ hdr = 2 → (s.lane l).good < 63 → ∃ u, exec (.laneBlockRx t l hdr) s = .next u ∧ u.lane l = { s.lane l with good := (s.lane l).good + 1 } ∧
      u.laneState l = LANE_STATE.aligning) ∧
    (hdr ≠ 1 → hdr ≠ 2 → ∃ u, exec (.laneBlockRx t l hdr) s = .next u ∧ u.lane l = { s.lane l with good := 0, boundary := ((s.lane l).boundary + 1) % 66 } ∧
      u.laneState l = LANE_STATE.aligning ∧ u.rd o3100_INVALID_HEADERS l = (s.rd o3100_INVALID_HEADERS l + 1) % 2 ^ 64) := by
  have hgain := fun h12 hg => blockRx_gains (s := s.begin t) (hdr := hdr) hm hfec hs hl h12 hg
  have hfound : (((s.begin t).setLane l ((s.begin t).lane l).found).lane l).pendMode = (s.lane l).pendMode := by
    rw [State.lane_setLane]
    rfl
  refine ⟨fun h12 hg hpend => ?_, fun h12 hg hpend => ?_, fun h12 hg => ?_, fun h1 h2 => ?_⟩
  · have hwork := hgain h12 hg
    rw [lockEvent_eq _ (hfound.trans hpend)] at hwork
    exact ⟨_, run_work (t := t) (f := (·.blockRx l hdr)) hp hwork, laneState_setLaneState _ l _ false, congrArg Lane.lock (State.lane_setLane _ l _),
      locks_setLaneState (s := (s.begin t).setLane l ((s.begin t).lane l).found) false (hs.trans_ne (by decide))⟩
  · have hwork := hgain h12 hg
    rw [lockEvent_pending _ (hfound.trans hpend)] at hwork
    exact ⟨_, run_work (t := t) (f := (·.blockRx l hdr)) hp hwork, hs⟩
  · exact ⟨_, run_work (t := t) (f := (·.blockRx l hdr)) hp (blockRx_counts (s := s.begin t) hm hfec hs hl h12 hg), (s.begin t).lane_setLane l _, hs⟩
  · have hmod : objModulus o3100_INVALID_HEADERS = 2 ^ 64 := by decide
    refine ⟨_, run_work (t := t) (f := (·.blockRx l hdr)) hp (blockRx_slips (s := s.begin t) hm hfec hs hl h1 h2), State.lane_setLane _ l _, (rd_bump_obj (s.begin t) (by decide) l l).trans hs, ?_⟩
    exact (rd_bump_same (s.begin t) o3100_INVALID_HEADERS l).trans (by rw [hmod]; rfl)

theorem laneBlockRx_loses (hm : sdiMode (s.lane l).mode = false) (hfec : s.usesFec l = false) (hs : s.laneState l = LANE_STATE.up) (hl : (s.lane l).lock = true) (h1 : hdr ≠ 1) (h2 : hdr ≠ 2) :
    (15 ≤ ((s.lane l).window.take 63).count true → (s.lane l).pendMode = false → ∃ u, exec (.laneBlockRx t l hdr) s = .next u ∧ u.laneState l = LANE_STATE.aligning ∧
      (u.lane l).lock = false ∧ u.rd o3100_LOCK_LOSSES l = (s.rd o3100_LOCK_LOSSES l + 1) % 4294967296) ∧
    (((s.lane l).window.take 63).count true < 15 → ∃ u, exec (.laneBlockRx t l hdr) s = .next u ∧ u.laneState l = LANE_STATE.up ∧ (u.lane l).lock = true) := by
  have hwork := blockRx_locked (s := s.begin t) (hdr := hdr) hm hfec hs hl h1 h2
  have hstate : ((s.begin t).bump o3100_INVALID_HEADERS l).laneState l = LANE_STATE.up := (rd_bump_obj (s.begin t) (by decide) l l).trans hs
  refine ⟨fun hn hpend => ?_, fun hn => ?_⟩
  · have hlost := (hwork.trans (if_pos hn)).trans (lockLost_up hstate hpend)
    have hloss := lockLosses_setLaneState (st := LANE_STATE.aligning) hstate (by decide)
    rw [rd_bump_obj _ (by decide)] at hloss
    exact ⟨_, run_work (t := t) (f := (·.blockRx l hdr)) hp hlost, laneState_setLaneState _ l _ false,
      congrArg Lane.lock (lane_setLaneState_aligning (hstate.trans_ne (by decide)) false), hloss⟩
  · exact ⟨_, run_work (t := t) (f := (·.blockRx l hdr)) hp (hwork.trans (if_neg (not_le.mpr hn))), hstate, (congrArg Lane.lock (State.lane_setLane _ l _)).trans hl⟩

theorem fecCodewordRx_counts (hfec : s.usesFec l = true) (hs : s.laneState l = LANE_STATE.up) (hc : (s.lane l).codeword = true) :
    (∃ u, exec (.fecCodewordRx t l true false true) s = .next u ∧ u.laneState l = LANE_STATE.up ∧ u.rd o3100_FEC_CORRECTED l = (s.rd o3100_FEC_CORRECTED l + 1) % 2 ^ 64 ∧
      (u.lane l).errored = false) ∧
    (∃ u, exec (.fecCodewordRx t l false true true) s = .next u ∧ u.laneState l = LANE_STATE.up ∧ u.rd o3100_FEC_UNCORRECTED l = (s.rd o3100_FEC_UNCORRECTED l + 1) % 2 ^ 64 ∧
      (u.lane l).errored = true ∧ u.stands .LANE_FEC_UNCORR l) ∧
    ((s.lane l).pendMode = false → ∃ u, exec (.fecCodewordRx t l false true false) s = .next u ∧ u.laneState l = LANE_STATE.aligning ∧ (u.lane l).codeword = false ∧
      u.rd o3100_FEC_UNCORRECTED l = (s.rd o3100_FEC_UNCORRECTED l + 1) % 2 ^ 64) := by
  have hcmod : objModulus o3100_FEC_CORRECTED = 2 ^ 64 := by decide
  have hwork := fun c bad sync => codewordRx_eq (s := s.begin t) c bad sync hfec hs hc
  have hquiet : ∀ x : Lane, (((((s.begin t).setLane l x).bump o3100_FEC_UNCORRECTED l).raiseQuiet .LANE_FEC_UNCORR l).laneState l = LANE_STATE.up) ∧
      ((((s.begin t).setLane l x).bump o3100_FEC_UNCORRECTED l).raiseQuiet .LANE_FEC_UNCORR l).lane l = x ∧
      ((((s.begin t).setLane l x).bump o3100_FEC_UNCORRECTED l).raiseQuiet .LANE_FEC_UNCORR l).rd o3100_FEC_UNCORRECTED l = (s.rd o3100_FEC_UNCORRECTED l + 1) % 2 ^ 64 := fun x => by
    have hmod : objModulus o3100_FEC_UNCORRECTED = 2 ^ 64 := by decide
    refine ⟨?_, ?_, ?_⟩
    · exact ((alarmBlind_rd l (by decide)).raiseQuiet _ _ _).trans ((rd_bump_obj _ (by decide) _ _).trans hs)
    · exact (((blind_lane (by decide) l).toAlarm (List.Subset.refl _)).raiseQuiet _ _ _).trans (State.lane_setLane _ l x)
    · rw [(alarmBlind_rd l (by decide)).raiseQuiet, rd_bump_same, hmod]
      rfl
  refine ⟨?_, ?_, fun hpend => ?_⟩
  · refine ⟨_, run_work (t := t) (f := (·.codewordRx l true false true)) hp (hwork true false true), (rd_bump_obj _ (by decide) _ _).trans hs, ?_, congrArg Lane.errored (State.lane_setLane _ l _)⟩
    exact (rd_bump_same _ o3100_FEC_CORRECTED l).trans (by rw [hcmod]; rfl)
  · obtain ⟨hst, hlane, hcount⟩ := hquiet { s.lane l with codeword := true, errored := true }
    exact ⟨_, run_work (t := t) (f := (·.codewordRx l false true true)) hp (hwork false true true), hst, hcount, congrArg Lane.errored hlane,
      (finish_stands _ _ _ _).mpr ((stands_congr rfl _ _).mpr (stands_raise_same _ _ _))⟩
  · obtain ⟨hst, hlane, hcount⟩ := hquiet { s.lane l with codeword := false, errored := true }
    have hlost := (hwork false true false).trans (lockLost_up hst ((congrArg Lane.pendMode hlane).trans hpend))
    exact ⟨_, run_work (t := t) (f := (·.codewordRx l false true false)) hp hlost, laneState_setLaneState _ l _ false,
      (congrArg Lane.codeword (lane_setLaneState_aligning (hst.trans_ne (by decide)) false)).trans (congrArg Lane.codeword hlane),
      ((blind_rd (by decide) l).setState (List.Subset.refl _) _ l _ _).trans hcount⟩

theorem hiBer_moves (hpend : (s.lane l).pendMode = false) :
    (ethMode (s.lane l).mode = true → s.laneState l = LANE_STATE.up → ∃ u, exec (.hiBerEnter t l) s = .next u ∧ u.laneState l = LANE_STATE.hi_ber ∧
        u.rd o3100_HI_BER l = 1 ∧ u.stands .LANE_HI_BER l ∧ (u.lane l).lock = (s.lane l).lock) ∧
      (s.laneState l = LANE_STATE.hi_ber → ∃ u, exec (.hiBerClear t l) s = .next u ∧ u.laneState l = LANE_STATE.up ∧ u.rd o3100_HI_BER l = 0 ∧
        ¬ u.stands .LANE_HI_BER l ∧ (u.lane l).lock = (s.lane l).lock) := by
  refine ⟨fun he hs => ?_, fun hs => ?_⟩
  · have hwork : (s.begin t).hiBerEnter l = (s.begin t).setLaneState l LANE_STATE.hi_ber false := (if_pos ⟨hs, he⟩).trans (lockEvent_eq (s := s.begin t) _ hpend)
    obtain ⟨hrd, hstands⟩ := hiBer_setLaneState (s := s.begin t) (l := l) (st := LANE_STATE.hi_ber) false (hs.trans_ne (by decide))
    exact ⟨_, run_work (t := t) (f := (·.hiBerEnter l)) hp hwork, laneState_setLaneState (s.begin t) l _ false, hrd, (finish_stands _ _ _ _).mpr (hstands.mpr rfl),
      congrArg Lane.lock (lane_setLaneState (by decide) (s.begin t) l false l)⟩
  · have hwork : (s.begin t).hiBerClear l = (s.begin t).setLaneState l LANE_STATE.up false := (if_pos hs).trans (lockEvent_eq (s := s.begin t) _ hpend)
    obtain ⟨hrd, hstands⟩ := hiBer_setLaneState (s := s.begin t) (l := l) (st := LANE_STATE.up) false (hs.trans_ne (by decide))
    exact ⟨_, run_work (t := t) (f := (·.hiBerClear l)) hp hwork, laneState_setLaneState (s.begin t) l _ false, hrd, fun h => absurd (hstands.mp ((finish_stands _ _ _ _).mp h)) (by decide),
      congrArg Lane.lock (lane_setLaneState (by decide) (s.begin t) l false l)⟩

end

end Sys2Proof.Machine
end

section
/-! SUPPORT. TRS lock of the data streams of an SDI lane (R129, R130). -/

namespace Sys2Proof.Machine
open Sys2Proof

/-- What a line does to the search of each data stream of a lane. -/
def Lane.trsNext (x : Lane) (eavs : List (Option Nat)) : List (Bool × Trs) := (if eavs = [] then [none] else eavs).zipIdx.map (fun e => (x.trs.getD e.2 {}).line e.1)

/-- The lane with its searches after a line. -/
def State.trsSearched (s : State) (l : Nat) (eavs : List (Option Nat)) : State := s.setLane l { s.lane l with trs := ((s.lane l).trsNext eavs).map (·.2) }

/-- A lock that has moved is counted, and the input's writing ends. -/
def State.trsRelocked (s : State) (l : Nat) : State :=
  match s.sdiInputOf l with
  | some i => (s.bump o3100_TRS_RELOCKS l).setSdi i { s.sdi i with writing := false }
  | none => s.bump o3100_TRS_RELOCKS l

theorem trsLine_eq (s : State) (l : Nat) (eavs : List (Option Nat)) :
    s.trsLine l eavs =
      (let w := s.trsSearched l eavs
       if (s.lane l).trsLocked ∧ (w.lane l).trsLocked = false then w.lockLost l
       else
         let v := if ((s.lane l).trsNext eavs).any (·.1) then w.trsRelocked l else w
         if v.laneState l = LANE_STATE.aligning ∧ (v.lane l).trsLocked then v.lockEvent l LANE_STATE.up else v) := rfl

theorem lane_trsSearched (s : State) (l : Nat) (eavs : List (Option Nat)) : (s.trsSearched l eavs).lane l = { s.lane l with trs := ((s.lane l).trsNext eavs).map (·.2) } := s.lane_setLane l _

theorem trsLocked_searched (s : State) (l : Nat) (eavs : List (Option Nat)) :
    ((s.trsSearched l eavs).lane l).trsLocked = (((s.lane l).trsNext eavs).map (·.2) != [] && (((s.lane l).trsNext eavs).map (·.2)).all (·.place.isSome)) := by
  rw [lane_trsSearched]
  rfl

section
variable {s : State} {l : Nat} {eavs : List (Option Nat)} {next : List Trs}

/-- Every stream locked: the lane is up. -/
theorem trsLine_gains (hn : (s.lane l).trsNext eavs = next.map (false, ·)) (hall : (next != [] && next.all (·.place.isSome)) = true) (hx : (s.lane l).trsLocked = false)
    (hs : s.laneState l = LANE_STATE.aligning) (hp : (s.lane l).pendMode = false) :
    (s.trsLine l eavs).laneState l = LANE_STATE.up ∧ (s.trsLine l eavs).lane l = { s.lane l with trs := next } := by
  have hmap : ((s.lane l).trsNext eavs).map (·.2) = next := by rw [hn, List.map_map]; exact List.map_id _
  have hany : ((s.lane l).trsNext eavs).any (·.1) = false := by rw [hn]; simp
  have hlane := lane_trsSearched s l eavs
  have hlocked := trsLocked_searched s l eavs
  rw [hmap] at hlane hlocked
  have hwork : s.trsLine l eavs = (s.trsSearched l eavs).setLaneState l LANE_STATE.up false := by
    rw [trsLine_eq]
    dsimp only
    rw [if_neg (by rw [hx]; simp), hany, if_neg Bool.false_ne_true, if_pos ⟨hs, hlocked.trans hall⟩]
    exact lockEvent_eq _ (by rw [hlane]; exact hp)
  rw [hwork]
  exact ⟨laneState_setLaneState _ l _ _, (lane_setLaneState (by decide) _ l _ l).trans hlane⟩

/-- Not every stream locked, or the lane up already: its searches go on. -/
theorem trsLine_goesOn (hn : (s.lane l).trsNext eavs = next.map (false, ·))
    (h : (s.lane l).trsLocked = false ∧ (next != [] && next.all (·.place.isSome)) = false ∨ (next != [] && next.all (·.place.isSome)) = true ∧ s.laneState l = LANE_STATE.up) :
    (s.trsLine l eavs).laneState l = s.laneState l ∧ (s.trsLine l eavs).lane l = { s.lane l with trs := next } := by
  have hmap : ((s.lane l).trsNext eavs).map (·.2) = next := by rw [hn, List.map_map]; exact List.map_id _
  have hany : ((s.lane l).trsNext eavs).any (·.1) = false := by rw [hn]; simp
  have hlane := lane_trsSearched s l eavs
  have hlocked := trsLocked_searched s l eavs
  rw [hmap] at hlane hlocked
  have hwork : s.trsLine l eavs = s.trsSearched l eavs := by
    rw [trsLine_eq]
    dsimp only
    rcases h with ⟨hx, hall⟩ | ⟨hall, hs⟩
    · rw [if_neg (by rw [hx]; simp), hany, if_neg Bool.false_ne_true, if_neg (by rw [hlocked, hall]; simp)]
    · rw [if_neg (by rw [hlocked, hall]; simp), hany, if_neg Bool.false_ne_true, if_neg fun h => absurd (hs.symm.trans h.1) (by decide)]
  rw [hwork]
  exact ⟨rfl, hlane⟩

/-- A stream that loses its place takes the lane back. -/
theorem trsLine_loses (hn : (s.lane l).trsNext eavs = next.map (false, ·)) (hall : (next != [] && next.all (·.place.isSome)) = false) (hx : (s.lane l).trsLocked = true)
    (hs : s.laneState l = LANE_STATE.up) (hp : (s.lane l).pendMode = false) : (s.trsLine l eavs).laneState l = LANE_STATE.aligning ∧ ((s.trsLine l eavs).lane l).trsLocked = false := by
  have hmap : ((s.lane l).trsNext eavs).map (·.2) = next := by rw [hn, List.map_map]; exact List.map_id _
  have hlane := lane_trsSearched s l eavs
  have hlocked := trsLocked_searched s l eavs
  rw [hmap] at hlane hlocked
  have hwork : s.trsLine l eavs = (s.trsSearched l eavs).setLaneState l LANE_STATE.aligning false := by
    rw [trsLine_eq]
    dsimp only
    rw [if_pos ⟨hx, hlocked.trans hall⟩]
    exact lockLost_up hs (by rw [hlane]; exact hp)
  rw [hwork]
  refine ⟨laneState_setLaneState _ l _ _, ?_⟩
  rw [lane_setLaneState_aligning (s := s.trsSearched l eavs) (hs.trans_ne (by decide))]
  rfl

/-- A stream found at another place moves the lock there. -/
theorem trsLine_moves {x : Trs} (hn : (s.lane l).trsNext eavs = [(true, x)]) (hplace : x.place.isSome = true) (hs : s.laneState l = LANE_STATE.up) :
    (s.trsLine l eavs).laneState l = LANE_STATE.up ∧ (s.trsLine l eavs).lane l = { s.lane l with trs := [x] } ∧
      (s.trsLine l eavs).rd o3100_TRS_RELOCKS l = (s.rd o3100_TRS_RELOCKS l + 1) % 4294967296 := by
  have hmod : objModulus o3100_TRS_RELOCKS = 4294967296 := by decide
  have hlane := lane_trsSearched s l eavs
  have hlocked := trsLocked_searched s l eavs
  rw [hn] at hlane hlocked
  have hmoved : ∀ w : State, w.laneState l = LANE_STATE.up → (w.trsRelocked l).laneState l = LANE_STATE.up ∧ (w.trsRelocked l).lane l = w.lane l ∧
      (w.trsRelocked l).rd o3100_TRS_RELOCKS l = (w.rd o3100_TRS_RELOCKS l + 1) % 4294967296 := fun w hw => by
    have hb : (w.bump o3100_TRS_RELOCKS l).laneState l = LANE_STATE.up := (rd_bump_obj w (by decide) l l).trans hw
    have hc : (w.bump o3100_TRS_RELOCKS l).rd o3100_TRS_RELOCKS l = (w.rd o3100_TRS_RELOCKS l + 1) % 4294967296 := (rd_bump_same w _ l).trans (by rw [hmod])
    unfold State.trsRelocked
    split
    · exact ⟨hb, rfl, hc⟩
    · exact ⟨hb, rfl, hc⟩
  obtain ⟨hst, hl, hcount⟩ := hmoved (s.trsSearched l eavs) hs
  have hwork : s.trsLine l eavs = (s.trsSearched l eavs).trsRelocked l := by
    rw [trsLine_eq]
    dsimp only
    rw [if_neg (by rw [hlocked]; simp [hplace]), hn, if_pos (show ([(true, x)].any fun y => y.1) = true from rfl), if_neg fun h => absurd (hst.symm.trans h.1) (by decide)]
  rw [hwork]
  exact ⟨hst, hl.trans hlane, hcount⟩

end

/-! The line (R130). -/

/-- What the search for TRS lock touches. -/
def trsMarks : List Mark := .lanes :: .obj o3100_LANE_STATE :: .obj o3100_TRS_RELOCKS :: moveMarks

theorem Blind.lockEvent {M : List Mark} {α : Type} {f : State → α} (hf : Blind M f) (h : trsMarks ⊆ M) (s : State) (l : Nat) (st : Int) : f (s.lockEvent l st) = f s := by
  unfold State.lockEvent
  split
  · rfl
  · exact hf.setState (List.Subset.trans (by decide) h) s l st _

theorem Blind.lockLost {M : List Mark} {α : Type} {f : State → α} (hf : Blind M f) (h : trsMarks ⊆ M) (s : State) (l : Nat) : f (s.lockLost l) = f s := by
  unfold State.lockLost
  split
  · exact hf.lockEvent h _ _ _
  · exact hf.setLane (h (by decide)) _ _ _

theorem Blind.trsLine {M : List Mark} {α : Type} {f : State → α} (hf : Blind M f) (h : trsMarks ⊆ M) (s : State) (l : Nat) (eavs : List (Option Nat)) : f (s.trsLine l eavs) = f s := by
  have hsearch : f (s.trsSearched l eavs) = f s := hf.setLane (h (by decide)) _ _ _
  have hmove : ∀ w : State, f (w.trsRelocked l) = f w := fun w => by
    unfold State.trsRelocked
    split
    · exact (hf.setSdi (List.Subset.trans (by decide) h) _ _ _).trans (hf.bump (h (by decide)) _ _)
    · exact hf.bump (h (by decide)) _ _
  have hend : ∀ v : State, f v = f s → f (if v.laneState l = LANE_STATE.aligning ∧ (v.lane l).trsLocked then v.lockEvent l LANE_STATE.up else v) = f s := fun v hv => by
    split
    · exact (hf.lockEvent h _ _ _).trans hv
    · exact hv
  rw [trsLine_eq]
  dsimp only
  split
  · exact (hf.lockLost h _ _).trans hsearch
  · have hv : f (if ((s.lane l).trsNext eavs).any (·.1) then (s.trsSearched l eavs).trsRelocked l else s.trsSearched l eavs) = f s := by
      split
      · exact (hmove _).trans hsearch
      · exact hsearch
    exact hend _ hv

/-- A line whose CRC is wrong is counted. -/
def State.crcNoted (s : State) (l : Nat) (bad : Bool) : State := if bad then (s.bump o3100_SDI_CRC_LINES l).raiseQuiet .LANE_SDI_CRC l else s

section
variable {s : State} {l : Nat} {m : SdiLine} (hm : sdiMode (s.lane l).mode = true) (hk : s.locking l = true) (hin : s.rdN o3540_SDI_IN_LINKS l = 0)
include hm hk hin

/-- On a lane that is no first link of an input a line is search and CRC alone. -/
theorem sdiLineRx_eq : s.sdiLineRx l m = if ((s.trsLine l m.eavs).lane l).trsLocked = false then s.trsLine l m.eavs else (s.trsLine l m.eavs).crcNoted l m.crcBad := by
  have hlinks : ((s.trsLine l m.eavs).crcNoted l m.crcBad).rdN o3540_SDI_IN_LINKS l = 0 := by
    have hf : Blind trsMarks (·.rdN o3540_SDI_IN_LINKS l) := (blind_rd (by decide) l).comp Int.toNat
    have hcrc : ((s.trsLine l m.eavs).crcNoted l m.crcBad).rdN o3540_SDI_IN_LINKS l = (s.trsLine l m.eavs).rdN o3540_SDI_IN_LINKS l := by
      unfold State.crcNoted
      split
      · exact congrArg Int.toNat (((alarmBlind_rd l (by decide)).raiseQuiet _ _ _).trans (rd_bump_obj _ (by decide) _ _))
      · rfl
    exact hcrc.trans ((hf.trsLine (List.Subset.refl _) s l m.eavs).trans hin)
  unfold State.sdiLineRx
  rw [if_neg (by rw [hm, hk]; simp)]
  dsimp only
  refine if_congr Iff.rfl rfl ?_
  exact if_neg fun h => h.2.1 hlinks

theorem sdiLineRx_laneState : (s.sdiLineRx l m).laneState l = (s.trsLine l m.eavs).laneState l := by
  rw [sdiLineRx_eq hm hk hin]
  unfold State.crcNoted
  split_ifs
  · rfl
  · exact ((alarmBlind_rd l (by decide)).raiseQuiet _ _ _).trans (rd_bump_obj _ (by decide) _ _)
  · rfl

theorem sdiLineRx_lane : (s.sdiLineRx l m).lane l = (s.trsLine l m.eavs).lane l := by
  rw [sdiLineRx_eq hm hk hin]
  unfold State.crcNoted
  split_ifs
  · rfl
  · exact ((blind_lane (by decide) l).toAlarm (List.Subset.refl _)).raiseQuiet _ _ _
  · rfl

theorem sdiLineRx_relocks : (s.sdiLineRx l m).rd o3100_TRS_RELOCKS l = (s.trsLine l m.eavs).rd o3100_TRS_RELOCKS l := by
  rw [sdiLineRx_eq hm hk hin]
  unfold State.crcNoted
  split_ifs
  · rfl
  · exact ((alarmBlind_rd l (by decide)).raiseQuiet _ _ _).trans (rd_bump_obj _ (by decide) _ _)
  · rfl

/-- A wrong CRC of a locked line is counted once. -/
theorem sdiLineRx_crc (hlocked : ((s.trsLine l m.eavs).lane l).trsLocked = true) (hbad : m.crcBad = true) :
    (s.sdiLineRx l m).rd o3100_SDI_CRC_LINES l = (s.rd o3100_SDI_CRC_LINES l + 1) % 2 ^ 64 := by
  have hmod : objModulus o3100_SDI_CRC_LINES = 2 ^ 64 := by decide
  rw [sdiLineRx_eq hm hk hin, if_neg (by rw [hlocked]; simp), hbad]
  unfold State.crcNoted
  rw [if_pos rfl, (alarmBlind_rd l (by decide)).raiseQuiet, rd_bump_same, hmod, (blind_rd (by decide) l).trsLine (List.Subset.refl _)]

end

/-- What a line on an SDI lane leaves of its state and its searches. -/
theorem sdiLine_leaves {s : State} {l : Nat} (hp : s.powered = true) (t : Nat) (hm : sdiMode (s.lane l).mode = true) (hk : s.locking l = true) (hin : s.rdN o3540_SDI_IN_LINKS l = 0) (m : SdiLine) :
    ∃ u, exec (.sdiLineRx t l m) s = .next u ∧ u.laneState l = ((s.begin t).trsLine l m.eavs).laneState l ∧ u.lane l = ((s.begin t).trsLine l m.eavs).lane l ∧
      u.rd o3100_TRS_RELOCKS l = ((s.begin t).trsLine l m.eavs).rd o3100_TRS_RELOCKS l ∧
      ((((s.begin t).trsLine l m.eavs).lane l).trsLocked = true → m.crcBad = true → u.rd o3100_SDI_CRC_LINES l = (s.rd o3100_SDI_CRC_LINES l + 1) % 2 ^ 64) :=
  ⟨_, run_work (t := t) (f := (·.sdiLineRx l m)) hp rfl, sdiLineRx_laneState (s := s.begin t) hm hk hin, sdiLineRx_lane (s := s.begin t) hm hk hin,
    sdiLineRx_relocks (s := s.begin t) hm hk hin, sdiLineRx_crc (s := s.begin t) hm hk hin⟩

theorem State.begin_lane (s : State) (t l : Nat) : (s.begin t).lane l = s.lane l := rfl

/-! Searches of one stream (R129). -/

theorem Trs.line_third (p : Nat) : (⟨none, some (p, 2), 0⟩ : Trs).line (some p) = (false, ⟨some p, none, 0⟩) := by simp [Trs.line]

theorem Trs.line_held (p : Nat) (c : Option (Nat × Nat)) (n : Nat) : (⟨some p, c, n⟩ : Trs).line (some p) = (false, ⟨some p, none, 0⟩) := by simp [Trs.line]

theorem Trs.line_found {q n : Nat} (h : 2 ≤ n) : (⟨none, some (q, n), 0⟩ : Trs).line (some q) = (false, ⟨some q, none, 0⟩) := by simp [Trs.line, h]

theorem Trs.line_searching {q n : Nat} (h : n < 2) : (⟨none, some (q, n), 0⟩ : Trs).line (some q) = (false, ⟨none, some (q, n + 1), 0⟩) := by
  simp [Trs.line, show ¬ 2 ≤ n by omega]

theorem Trs.line_lost (p : Nat) (c : Option (Nat × Nat)) {n : Nat} (h : 3 ≤ n) : (⟨some p, c, n⟩ : Trs).line none = (false, ⟨none, none, 0⟩) := by simp [Trs.line, h]

theorem Trs.line_missing (p : Nat) (c : Option (Nat × Nat)) {n : Nat} (h : n < 3) : (⟨some p, c, n⟩ : Trs).line none = (false, ⟨some p, none, n + 1⟩) := by
  simp [Trs.line, show ¬ 3 ≤ n by omega]

theorem Trs.line_moved {p q n : Nat} (h : q ≠ p) : (⟨some p, some (q, 2), n⟩ : Trs).line (some q) = (true, ⟨some q, none, 0⟩) := by simp [Trs.line, h]

/-- Settles O19. -/
theorem lanesLockAndUnlock : Obligations.LanesLockAndUnlock := by
  refine ⟨fun s t l hdr hp => ⟨fun hm hfec => ⟨fun hs hl => laneBlockRx_hunts hp t hm hfec hs hl, fun hs hl h1 h2 => laneBlockRx_loses hp t hm hfec hs hl h1 h2⟩,
    fun hfec hs hc => fecCodewordRx_counts hp t hfec hs hc, fun hpend he hs => (hiBer_moves hp t hpend).1 he hs, fun hpend hs => (hiBer_moves hp t hpend).2 hs⟩,
    fun s t l p q n m hp hm hin hpend => ⟨fun hs => ?_, fun hs => ?_⟩⟩
  · have hk : s.locking l = true := by unfold State.locking; rw [hs]; rfl
    obtain ⟨u, hu, hst, hlane, -, -⟩ := sdiLine_leaves hp t hm hk hin m
    refine ⟨fun hx he => ?_, fun hx he => ⟨fun hn => ?_, fun hn => ?_⟩⟩
    · have hnext : (s.lane l).trsNext m.eavs = [⟨some p, none, 0⟩].map (false, ·) := by simp [Lane.trsNext, he, hx, Trs.line_third]
      obtain ⟨h1, h2⟩ := trsLine_gains (s := s.begin t) hnext rfl (by simp [State.begin_lane, Lane.trsLocked, hx]) hs hpend
      exact ⟨u, hu, hst.trans h1, congrArg Lane.trs (hlane.trans h2)⟩
    · have hnext : (s.lane l).trsNext m.eavs = [⟨some p, none, 0⟩, ⟨some q, none, 0⟩].map (false, ·) := by simp [Lane.trsNext, he, hx, Trs.line_held, Trs.line_found hn]
      obtain ⟨h1, h2⟩ := trsLine_gains (s := s.begin t) hnext rfl (by simp [State.begin_lane, Lane.trsLocked, hx]) hs hpend
      exact ⟨u, hu, hst.trans h1, congrArg Lane.trs (hlane.trans h2)⟩
    · have hnext : (s.lane l).trsNext m.eavs = [⟨some p, none, 0⟩, ⟨none, some (q, n + 1), 0⟩].map (false, ·) := by simp [Lane.trsNext, he, hx, Trs.line_held, Trs.line_searching hn]
      obtain ⟨h1, h2⟩ := trsLine_goesOn (s := s.begin t) hnext (.inl ⟨by simp [State.begin_lane, Lane.trsLocked, hx], rfl⟩)
      exact ⟨u, hu, hst.trans (h1.trans hs), congrArg Lane.trs (hlane.trans h2)⟩
  · have hk : s.locking l = true := by unfold State.locking; rw [hs]; rfl
    obtain ⟨u, hu, hst, hlane, hrelocks, hcrc⟩ := sdiLine_leaves hp t hm hk hin m
    refine ⟨fun c hx he => ⟨fun hn => ?_, fun hn => ?_⟩, fun hx hne he => ?_, fun hx he hbad => ?_⟩
    · have hnext : (s.lane l).trsNext m.eavs = [⟨none, none, 0⟩].map (false, ·) := by simp [Lane.trsNext, he, hx, Trs.line_lost p c hn]
      exact ⟨u, hu, hst.trans (trsLine_loses (s := s.begin t) hnext rfl (by simp [State.begin_lane, Lane.trsLocked, hx]) hs hpend).1⟩
    · have hnext : (s.lane l).trsNext m.eavs = [⟨some p, none, n + 1⟩].map (false, ·) := by simp [Lane.trsNext, he, hx, Trs.line_missing p c hn]
      obtain ⟨h1, h2⟩ := trsLine_goesOn (s := s.begin t) hnext (.inr ⟨rfl, hs⟩)
      exact ⟨u, hu, hst.trans (h1.trans hs), congrArg Lane.trs (hlane.trans h2)⟩
    · have hnext : (s.lane l).trsNext m.eavs = [(true, ⟨some q, none, 0⟩)] := by simp [Lane.trsNext, he, hx, Trs.line_moved hne]
      obtain ⟨h1, h2, h3⟩ := trsLine_moves (s := s.begin t) hnext rfl hs
      exact ⟨u, hu, hst.trans h1, congrArg Lane.trs (hlane.trans h2), hrelocks.trans h3⟩
    · have hnext : (s.lane l).trsNext m.eavs = [⟨some p, none, 0⟩].map (false, ·) := by simp [Lane.trsNext, he, hx, Trs.line_held]
      obtain ⟨h1, h2⟩ := trsLine_goesOn (s := s.begin t) hnext (.inr ⟨rfl, hs⟩)
      exact ⟨u, hu, hst.trans (h1.trans hs), congrArg Lane.trs (hlane.trans h2), hcrc (by rw [h2]; rfl) hbad⟩

end Sys2Proof.Machine
end

section
/-! SUPPORT. Writes that set up a lane (R116, R117, R119, R120, R133). -/

namespace Sys2Proof.Machine
open Sys2Proof

/-- What the holds of the power domains touch. -/
def holdMarks : List Mark := [.obj o1410_PD_HOLDS, .obj o1410_PD_STATE]

theorem Blind.refreshPd {M : List Mark} {α : Type} {f : State → α} (hf : Blind M f) (h : holdMarks ⊆ M) (s : State) (pd : Nat) : f (s.refreshPd pd) = f s := by
  unfold State.refreshPd
  extract_lets b x st
  have hx : f x = f s := hf.wr (h (by decide)) _ _ _
  split_ifs
  · exact hx
  · exact (hf.wr (h (by decide)) _ _ _).trans hx
  · exact (hf.wr (h (by decide)) _ _ _).trans hx
  · exact hx

theorem Blind.refreshPower {M : List Mark} {α : Type} {f : State → α} (hf : Blind M f) (h : holdMarks ⊆ M) (s : State) : f s.refreshPower = f s :=
  foldl_blind (fun s pd => hf.refreshPd h s pd) _ s

/-- An accepted command of an object that is not the session's own. -/
theorem run_accepted_row {s w : State} {t port o r : Nat} {v : Val} {h : Handler} (hrow : perSession o = false) (hp : s.powered = true) (ha : s.admits port o r v = true)
    (hk : ∀ c : Ctx, c.port = port → h c r v (s.begin t) = (stOK, w)) (hend : w.ctl.endAfter = s.ctl.endAfter) :
    ∃ e : CmdEnd, s.run t (fun s => s.opCmd h port o r v) = .next (w.endOf e) ∧ e.Accepted s w o :=
  run_accepted hp ha (fun c _ hc => (congrArg (h c · v (s.begin t)) (effRow_eq c r hrow)).trans (hk c hc)) hend

/-- A command of such an object that its handler refuses without a change. -/
theorem run_refused_row {s : State} {t port o r : Nat} {v : Val} {h : Handler} {k : Nat} (hrow : perSession o = false) (hp : s.powered = true) (ha : s.admits port o r v = true)
    (hk : ∀ c : Ctx, c.port = port → h c r v (s.begin t) = (k, s.begin t)) (hne : k ≠ stOK) (hlow : (s.begin t).noteRefusal o r k = s.begin t) :
    s.run t (fun s => s.opCmd h port o r v) = .next ((s.begin t).finish ((s.begin t).answer k)) :=
  run_refused_unchanged hp ha (fun c _ hc => (congrArg (h c · v (s.begin t)) (effRow_eq c r hrow)).trans (hk c hc)) hne hlow

/-! LANE_MODE (R116). -/

theorem endOf_lane (w : State) (e : CmdEnd) (l : Nat) : (w.endOf e).lane l = w.lane l := rfl

/-- The mode that a lane takes at the next cadence boundary. -/
def State.modeHeld (s : State) (l : Nat) (v : Int) : State := ((s.wr o3000_LANE_MODE l v).setLane l { s.lane l with pendMode := true }).refreshPower

theorem Blind.modeHeld {M : List Mark} {α : Type} {f : State → α} (hf : Blind M f) (h : .lanes :: holdMarks ⊆ M) (s : State) (l : Nat) (v : Int) :
    f (s.modeHeld l v) = f (s.wr o3000_LANE_MODE l v) :=
  (hf.refreshPower (List.Subset.trans (by decide) h) _).trans (hf.setLane (h (by decide)) _ _ _)

theorem lane_modeHeld (s : State) (l : Nat) (v : Int) : (s.modeHeld l v).lane l = { s.lane l with pendMode := true } :=
  ((blind_lane (by decide) l).refreshPower (List.Subset.refl _) _).trans ((s.wr o3000_LANE_MODE l v).lane_setLane l _)

theorem writeLaneMode_planned {s : State} {l : Nat} {v m : Int} (hb : s.bankPlansLane l [BANK_STATE.active, BANK_STATE.armed] = some m) (c : Ctx) :
    writeLaneMode c l (.int v) s = if m ≠ v then (0x0C01, s) else (stOK, s.setLane l { s.lane l with pendMode := true }) := by
  unfold writeLaneMode onInt
  dsimp only
  rw [hb]

theorem writeLaneMode_free {s : State} {l : Nat} {v : Int} (hb : s.bankPlansLane l [BANK_STATE.active, BANK_STATE.armed] = none) (c : Ctx) :
    writeLaneMode c l (.int v) s = if ethMode v = false ∧ (s.portOfLane l).isSome then (0x0C05, s) else (stOK, s.modeHeld l v) := by
  unfold writeLaneMode onInt
  dsimp only
  rw [hb]
  rfl

section
variable {s : State} {t port l : Nat} {v : Int} (hp : s.powered = true)
include hp

theorem laneMode_held (ha : s.admits port o3000_LANE_MODE l (.int v) = true) (hb : s.bankPlansLane l [BANK_STATE.active, BANK_STATE.armed] = none)
    (hv : ethMode v = true ∨ s.portOfLane l = none) :
    ∃ u, exec (.laneMode t port l v) s = .next u ∧ u.last = ⟨0, none⟩ ∧ u.rd o3000_LANE_MODE l = v ∧ (u.lane l).pendMode = true ∧ (u.lane l).mode = (s.lane l).mode := by
  have hfree : ¬ (ethMode v = false ∧ ((s.begin t).portOfLane l).isSome) := by
    rintro ⟨he, hl⟩
    rcases hv with hv | hv
    · exact Bool.false_ne_true (he.symm.trans hv)
    · exact Bool.false_ne_true ((congrArg Option.isSome hv).symm.trans hl)
  have hctl : ((s.begin t).modeHeld l v).ctl = s.ctl := (blind_ctl (M := .lanes :: holdMarks) (by decide)).modeHeld (List.Subset.refl _) (s.begin t) l v
  have hlane : ((s.begin t).modeHeld l v).lane l = { s.lane l with pendMode := true } := lane_modeHeld (s.begin t) l v
  obtain ⟨e, he, hacc⟩ := run_accepted_row (t := t) (h := writeLaneMode) (by decide) hp ha (fun c _ => (writeLaneMode_free (s := s.begin t) hb c).trans (if_neg hfree)) (by rw [hctl])
  rw [← endOf_lane _ e l] at hlane
  refine ⟨_, he, hacc.last, ?_, by rw [hlane], by rw [hlane]⟩
  rw [hacc.rd _ _ (by decide), (blind_rd (by decide) l).modeHeld (List.Subset.refl _)]
  exact (s.begin t).rd_wr_same o3000_LANE_MODE l v

theorem laneMode_planned (ha : s.admits port o3000_LANE_MODE l (.int v) = true) (hb : s.bankPlansLane l [BANK_STATE.active, BANK_STATE.armed] = some v) :
    ∃ u, exec (.laneMode t port l v) s = .next u ∧ u.last = ⟨0, none⟩ ∧ (u.lane l).pendMode = true := by
  obtain ⟨e, he, hacc⟩ := run_accepted_row (t := t) (h := writeLaneMode) (by decide) hp ha (fun c _ => (writeLaneMode_planned (s := s.begin t) hb c).trans (if_neg fun h => h rfl)) rfl
  exact ⟨_, he, hacc.last, congrArg Lane.pendMode ((s.begin t).lane_setLane l _)⟩

theorem laneMode_misplanned {m : Int} (ha : s.admits port o3000_LANE_MODE l (.int v) = true) (hb : s.bankPlansLane l [BANK_STATE.active, BANK_STATE.armed] = some m) (hne : m ≠ v) :
    ∃ u, exec (.laneMode t port l v) s = .next u ∧ u.last = ⟨0x0C01, none⟩ ∧ s.keepsRegs u [] ∧ u.works = s.works :=
  ⟨_, run_refused_row (t := t) (h := writeLaneMode) (by decide) hp ha (fun c _ => (writeLaneMode_planned (s := s.begin t) hb c).trans (if_pos hne)) (by decide) (noteRefusal_low _ _ _ (by decide)), rfl,
    keepsRegs_refl _ _, rfl⟩

theorem laneMode_ptp (ha : s.admits port o3000_LANE_MODE l (.int v) = true) (hb : s.bankPlansLane l [BANK_STATE.active, BANK_STATE.armed] = none) (hv : ethMode v = false)
    (hl : s.portOfLane l ≠ none) : ∃ u, exec (.laneMode t port l v) s = .next u ∧ u.last = ⟨0x0C05, none⟩ ∧ s.keepsRegs u [] ∧ u.works = s.works :=
  ⟨_, run_refused_row (t := t) (h := writeLaneMode) (by decide) hp ha (fun c _ => (writeLaneMode_free (s := s.begin t) hb c).trans (if_pos ⟨hv, Option.isSome_iff_ne_none.mpr hl⟩)) (by decide)
    (noteRefusal_low _ _ _ (by decide)), rfl, keepsRegs_refl _ _, rfl⟩

/-! DIRECTION (R117). -/

theorem direction_held (ha : s.admits port o3000_DIRECTION l (.int v) = true) :
    ∃ u, exec (.direction t port l v) s = .next u ∧ u.last = ⟨0, none⟩ ∧ u.rd o3000_DIRECTION l = v ∧ u.lane l = { s.lane l with pendDir := true } ∧
      s.keepsRegs u [(o3000_DIRECTION, l)] ∧ ∀ k, k ≠ l → u.lane k = s.lane k := by
  obtain ⟨e, he, hacc⟩ := run_accepted_row (t := t) (h := writeDirection) (w := ((s.begin t).wr o3000_DIRECTION l v).setLane l { s.lane l with pendDir := true }) (by decide) hp ha (fun _ _ => rfl) rfl
  have hkeeps : s.keepsRegs ((s.begin t).wr o3000_DIRECTION l v) [(o3000_DIRECTION, l)] := (keepsRegs_refl (s.begin t) _).wr v (List.mem_singleton_self _)
  refine ⟨_, he, hacc.last, ?_, State.lane_setLane _ l _, hacc.keepsRegs hkeeps, fun k hk => lane_setLane_ne ((s.begin t).wr o3000_DIRECTION l v) hk _⟩
  rw [hacc.rd _ _ (by decide)]
  exact (s.begin t).rd_wr_same o3000_DIRECTION l v

end

/-! TEST_MODE (R131, R133). -/

/-- A lane in a new test begins with cleared counters. -/
def State.testBegun (s : State) (l : Nat) (v : Int) : State := ((s.wr o3000_TEST_MODE l v).clearPrbs l).wr o3100_PRBS_LOCKED l 0

/-- The lane in its test. -/
def State.testRun (s : State) (l : Nat) : State := ((s.testBegun l TEST_MODE.loop_serial).setLaneState l LANE_STATE.test false).noteLane l

def testRunMarks : List Mark := .lanes :: .obj o3100_LANE_STATE :: moveMarks ++ noteLaneMarks

theorem Blind.testRun {M : List Mark} {α : Type} {f : State → α} (hf : Blind M f) (h : testRunMarks ⊆ M) (s : State) (l : Nat) : f (s.testRun l) = f (s.testBegun l TEST_MODE.loop_serial) :=
  (hf.noteLane (List.Subset.trans (by decide) h) _ _).trans (hf.setLaneState (List.Subset.trans (by decide) h) (h (by decide)) (h (by decide)) _ _ _ _)

theorem laneState_testRun (s : State) (l : Nat) : (s.testRun l).laneState l = LANE_STATE.test :=
  ((blind_laneState (by decide) l).noteLane (List.Subset.refl _) _ _).trans (laneState_setLaneState _ _ _ _)

theorem testBegun_rd (s : State) (l : Nat) (v : Int) : (s.testBegun l v).laneState l = s.laneState l ∧ (s.testBegun l v).rd o3000_TEST_MODE l = v ∧
    (s.testBegun l v).rd o3100_PRBS_BITS l = 0 ∧ (s.testBegun l v).rd o3100_PRBS_ERRORS l = 0 ∧ (s.testBegun l v).rd o3100_PRBS_LOCKED l = 0 := by
  unfold State.testBegun State.clearPrbs State.laneState
  simp (disch := decide) only [State.rd_wr_obj, State.rd_wr_same, State.rd_setLane, and_self]

theorem writeTestMode_loops {s : State} {l : Nat} (hb : s.bankPlansLane l [BANK_STATE.active, BANK_STATE.armed] = none) (hs : s.laneState l ≠ LANE_STATE.unpowered)
    (hn : s.rd o3000_TEST_MODE l = TEST_MODE.none) (c : Ctx) : writeTestMode c l (.int TEST_MODE.loop_serial) s = (stOK, s.testRun l) := by
  have hplan : (s.bankPlansLane l [BANK_STATE.active, BANK_STATE.armed]).isSome = false := congrArg Option.isSome hb
  have hstate : ¬ (s.testBegun l TEST_MODE.loop_serial).laneState l = LANE_STATE.unpowered := fun h => hs ((testBegun_rd s l _).1.symm.trans h)
  unfold writeTestMode onInt
  dsimp only
  rw [if_neg fun h => Bool.false_ne_true (hplan.symm.trans h.2), if_neg fun h => absurd h.1 (by decide), if_neg fun h => absurd h.1 (by decide), hn,
    if_neg (show ¬ TEST_MODE.none = TEST_MODE.loop_serial by decide)]
  exact congrArg (fun x => (stOK, State.noteLane x l)) ((if_neg hstate).trans (if_pos (by decide)))

theorem writeTestMode_planned {s : State} {l : Nat} (hb : s.bankPlansLane l [BANK_STATE.active, BANK_STATE.armed] ≠ none) (c : Ctx) :
    writeTestMode c l (.int TEST_MODE.loop_serial) s = (0x0C03, s) :=
  if_pos ⟨by decide, Option.isSome_iff_ne_none.mpr hb⟩

section
variable {s : State} {t port l : Nat} (hp : s.powered = true)
include hp

theorem testMode_loops (ha : s.admits port o3000_TEST_MODE l (.int TEST_MODE.loop_serial) = true) (hb : s.bankPlansLane l [BANK_STATE.active, BANK_STATE.armed] = none)
    (hs : s.laneState l ≠ LANE_STATE.unpowered) (hn : s.rd o3000_TEST_MODE l = TEST_MODE.none) :
    ∃ u, exec (.testMode t port l TEST_MODE.loop_serial) s = .next u ∧ u.last = ⟨0, none⟩ ∧ u.rd o3000_TEST_MODE l = TEST_MODE.loop_serial ∧ u.laneState l = LANE_STATE.test ∧
      u.rd o3100_PRBS_BITS l = 0 ∧ u.rd o3100_PRBS_ERRORS l = 0 ∧ u.rd o3100_PRBS_LOCKED l = 0 := by
  have hctl : ((s.begin t).testRun l).ctl = s.ctl := (blind_ctl (by decide)).testRun (List.Subset.refl _) (s.begin t) l
  obtain ⟨e, he, hacc⟩ := run_accepted_row (t := t) (h := writeTestMode) (by decide) hp ha (fun c _ => writeTestMode_loops (s := s.begin t) hb hs hn c) (by rw [hctl])
  obtain ⟨-, hmode, hbits, herrors, hlocked⟩ := testBegun_rd (s.begin t) l TEST_MODE.loop_serial
  have hsee : ∀ o, o ∉ writeSideObjects → Blind testRunMarks (·.rd o l) → ∀ x, ((s.begin t).testBegun l TEST_MODE.loop_serial).rd o l = x → (((s.begin t).testRun l).endOf e).rd o l = x :=
    fun o ho hf x hx => (hacc.rd o l ho).trans ((hf.testRun (List.Subset.refl _) _ _).trans hx)
  exact ⟨_, he, hacc.last, hsee _ (by decide) (blind_rd (by decide) l) _ hmode, (hacc.rd _ l (by decide)).trans (laneState_testRun (s.begin t) l), hsee _ (by decide) (blind_rd (by decide) l) _ hbits,
    hsee _ (by decide) (blind_rd (by decide) l) _ herrors, hsee _ (by decide) (blind_rd (by decide) l) _ hlocked⟩

theorem testMode_planned (ha : s.admits port o3000_TEST_MODE l (.int TEST_MODE.loop_serial) = true) (hb : s.bankPlansLane l [BANK_STATE.active, BANK_STATE.armed] ≠ none) :
    ∃ u, exec (.testMode t port l TEST_MODE.loop_serial) s = .next u ∧ u.last = ⟨0x0C03, none⟩ ∧ s.keepsRegs u [] ∧ u.works = s.works :=
  ⟨_, run_refused_row (t := t) (h := writeTestMode) (by decide) hp ha (fun c _ => writeTestMode_planned (s := s.begin t) hb c) (by decide) (noteRefusal_low _ _ _ (by decide)), rfl, keepsRegs_refl _ _, rfl⟩

end

/-! Manual taps (R119, R120). -/

/-- Manual taps in effect. -/
def State.tapsTaken (s : State) (l : Nat) : State :=
  ((s.setLane l { s.lane l with taps := some (s.manualTaps l) }).wr o3000_TX_FFE_SOURCE l TX_FFE_SOURCE.manual).noteTaps l

theorem writeFfeSource_manual (s : State) (l : Nat) (c : Ctx) : writeFfeSource c l (.int TX_FFE_SOURCE.manual) s =
    if 128 < ((s.manualTaps l).map Int.natAbs).sum ∨ s.rd o3000_TX_TAP_C0 l < 64 then (0x0C04, s) else (stOK, s.tapsTaken l) := by
  unfold writeFfeSource onInt
  dsimp only
  rw [List.sum_eq_foldl, if_pos (Eq.refl TX_FFE_SOURCE.manual)]
  exact if_congr (and_iff_right rfl) rfl rfl

/-- The taps in effect read as the manual ones. -/
theorem tapsTaken_active (s : State) (l : Nat) : (s.tapsTaken l).rdOct o3100_TX_TAPS_ACTIVE l = ((s.manualTaps l).map (fun x => leBytes 2 (ofSigned 16 x))).flatten := by
  unfold State.tapsTaken State.noteTaps
  dsimp only
  rw [State.rd_wr_same, if_neg (by decide), if_pos (by decide), State.rdOct_wrOct_same, show ∀ x : State, (x.wr o3000_TX_FFE_SOURCE l TX_FFE_SOURCE.manual).lane l = x.lane l from fun _ => rfl, State.lane_setLane]
  rfl

theorem tapsTaken_source (s : State) (l : Nat) : (s.tapsTaken l).rd o3000_TX_FFE_SOURCE l = TX_FFE_SOURCE.manual :=
  (s.setLane l { s.lane l with taps := some (s.manualTaps l) }).rd_wr_same o3000_TX_FFE_SOURCE l TX_FFE_SOURCE.manual

section
variable {s : State} {t port l : Nat} (hp : s.powered = true) (ha : s.admits port o3000_TX_FFE_SOURCE l (.int TX_FFE_SOURCE.manual) = true)
include hp ha

theorem txFfeSource_taken (hsum : ((s.manualTaps l).map Int.natAbs).sum ≤ 128) (h0 : 64 ≤ s.rd o3000_TX_TAP_C0 l) :
    ∃ u, exec (.txFfeSource t port l TX_FFE_SOURCE.manual) s = .next u ∧ u.last = ⟨0, none⟩ ∧ u.rd o3000_TX_FFE_SOURCE l = TX_FFE_SOURCE.manual ∧
      u.rdOct o3100_TX_TAPS_ACTIVE l = ((s.manualTaps l).map (fun x => leBytes 2 (ofSigned 16 x))).flatten := by
  have hlegal : ¬ (128 < (((s.begin t).manualTaps l).map Int.natAbs).sum ∨ (s.begin t).rd o3000_TX_TAP_C0 l < 64) := fun h => h.elim (Nat.not_lt_of_le hsum) (Int.not_lt.mpr h0)
  obtain ⟨e, he, hacc⟩ := run_accepted_row (t := t) (h := writeFfeSource) (by decide) hp ha (fun c _ => (writeFfeSource_manual (s.begin t) l c).trans (if_neg hlegal)) rfl
  exact ⟨_, he, hacc.last, (hacc.rd _ _ (by decide)).trans (tapsTaken_source (s.begin t) l), tapsTaken_active (s.begin t) l⟩

theorem txFfeSource_refused (h : 128 < ((s.manualTaps l).map Int.natAbs).sum ∨ s.rd o3000_TX_TAP_C0 l < 64) :
    ∃ u, exec (.txFfeSource t port l TX_FFE_SOURCE.manual) s = .next u ∧ u.last = ⟨0x0C04, none⟩ ∧ s.keepsRegs u [] ∧ u.works = s.works :=
  ⟨_, run_refused_row (t := t) (h := writeFfeSource) (by decide) hp ha (fun c _ => (writeFfeSource_manual (s.begin t) l c).trans (if_pos h)) (by decide) (noteRefusal_low _ _ _ (by decide)), rfl,
    keepsRegs_refl _ _, rfl⟩

end

/-- Settles O16. -/
theorem laneSetUpIsWritten : Obligations.LaneSetUpIsWritten := by
  intro s t port l v hp
  refine ⟨fun ha => ⟨laneMode_held hp ha, laneMode_planned hp ha, laneMode_ptp hp ha, fun m => laneMode_misplanned hp ha⟩, direction_held hp,
    fun ha => ⟨testMode_loops hp ha, testMode_planned hp ha⟩, fun ha => ⟨txFfeSource_taken hp ha, txFfeSource_refused hp ha⟩⟩

end Sys2Proof.Machine
end

section
/-! SUPPORT. Stored words (R358, R359, R362-R364, R367): what becomes of the state of a word, of the rows that a memory retires, and of the bytes. -/

namespace Sys2Proof.Machine
open Sys2Proof

/-! Addresses of words. -/

theorem wordBase_wordBase (a : Nat) : wordBase (wordBase a) = wordBase a := by
  unfold wordBase inSram sramBase
  simp only [decide_eq_true_eq]
  split_ifs <;> omega

theorem inSram_hbm {a : Nat} (h : a < hbmBytes) : inSram a = false := by
  unfold hbmBytes at h
  unfold inSram sramBase
  exact decide_eq_false (by omega)

theorem wordBase_hbm {a : Nat} (hlt : a < hbmBytes) (ha : a % 32 = 0) : wordBase a = a := by
  unfold wordBase
  rw [inSram_hbm hlt, if_neg Bool.false_ne_true, ha, Nat.sub_zero]

/-! What a write of a word leaves. -/

theorem wordErr_setWord (s : State) (a b : Nat) (e : WordErr) : (s.setWord a e).wordErr b = if wordBase b = wordBase a then e else s.wordErr b := by
  unfold State.setWord State.wordErr
  dsimp only
  split_ifs with he hb hb
  · rw [hb, storeGet_del_same, he]
    rfl
  · rw [storeGet_del_ne hb]
  · rw [hb, storeGet_put_same]
    rfl
  · rw [storeGet_put_ne natLt hb]

theorem alarmBlind_wordErr (b : Nat) : AlarmBlind (·.wordErr b) := ⟨fun _ _ => rfl, fun _ _ => rfl, fun _ _ _ _ _ => rfl⟩

theorem actBlind_wordErr (L : List Nat) (b : Nat) : ActBlind L (·.wordErr b) :=
  { alarmBlind_wordErr b with
    obj := fun _ _ _ _ _ => rfl, backs := fun _ _ => rfl, used := fun _ _ _ => rfl, lines := fun _ _ => rfl, postponed := fun _ _ => rfl
    granules := fun _ _ => rfl, enc := fun _ _ => rfl, cmp := fun _ _ => rfl }

theorem wordErr_wordWritten (s : State) (a b : Nat) : (s.wordWritten a).wordErr b = if wordBase b = wordBase a then {} else s.wordErr b := by
  have hf := actBlind_wordErr [o7000_WRITEBACKS_CANCELLED] b
  unfold State.wordWritten
  extract_lets w u x y
  have hx : x.wordErr b = s.wordErr b := by
    dsimp only [x]
    split
    · exact (hf.bump _ _ (List.mem_singleton_self _)).trans (hf.setBacks _ _ _)
    · rfl
  refine (hf.lines _ _).trans ((hf.clear _ _ _).trans ((wordErr_setWord _ _ _ _).trans ?_))
  rw [hx, wordBase_wordBase]

theorem wordErr_flip_ne (s : State) (w : WordTouch) {b : Nat} (h : wordBase b ≠ wordBase w.addr) : (s.flip w).wordErr b = s.wordErr b :=
  (wordErr_setWord _ _ _ _).trans (if_neg h)

/-- A reader changes no word but the one it meets. -/
theorem wordErr_meet_ne (s : State) (auditor : Bool) (w : WordTouch) {b : Nat} (h : wordBase b ≠ wordBase w.addr) : (s.meet auditor w).2.wordErr b = s.wordErr b := by
  have hf := actBlind_wordErr memObjects b
  have hread : (s.readWord auditor w).2.wordErr b = s.wordErr b := (hf.readWord_flip (fun _ _ => rfl) (List.Subset.refl _) s auditor w).trans (wordErr_flip_ne s w h)
  unfold State.meet
  dsimp only
  split
  · refine (hf.actOn (by decide) (fun s => ?_) _).trans hread
    exact (wordErr_wordWritten _ _ _).trans (if_neg fun e => h (e.trans (wordBase_wordBase _)))
  · exact hread

/-! Orders of bytes. -/

theorem Blind.orderBytes {M : List Mark} {α : Type} {f : State → α} (hf : Blind M f) (h : .orders ∈ M) (l : Bytes) : ∀ (s : State) (a : Nat), f (s.orderBytes a l) = f s := by
  induction l with
  | nil => exact fun _ _ => rfl
  | cons b l ih => exact fun s a => (ih _ _).trans (hf _ h _ _ (.orders ..))

theorem mem_orders_orderBytes {o : MemOrder} (l : Bytes) : ∀ {s : State} {a : Nat}, o ∈ (s.orderBytes a l).orders → o ∈ s.orders ∨ ∃ i b, i < l.length ∧ o = .write (a + i) b := by
  induction l with
  | nil => exact fun h => .inl h
  | cons b l ih =>
    intro s a h
    rcases ih h with h | ⟨i, c, hi, rfl⟩
    · rcases List.mem_append.mp h with h | h
      · exact .inl h
      · exact .inr ⟨0, b, Nat.succ_pos _, List.mem_singleton.mp h⟩
    · exact .inr ⟨i + 1, c, Nat.succ_lt_succ hi, by rw [Nat.add_right_comm, Nat.add_assoc]⟩

/-- Bytes ordered from an address on change no byte elsewhere. -/
theorem memRead_orderBytes {s : State} (ho : s.orders = []) (a : Nat) (l : Bytes) (m : List Host.Cell) {x : Nat} (hx : ¬ (a ≤ x ∧ x < a + l.length)) :
    memRead (carryOut (s.orderBytes a l).orders m) x = memRead m x := by
  have hnone : ∀ o, o ∈ s.orders → False := fun o h => List.not_mem_nil (ho ▸ h)
  refine memRead_carryOut (fun h => ?_) (fun b h => ?_)
  · rcases mem_orders_orderBytes l h with h | ⟨i, c, -, hc⟩
    · exact hnone _ h
    · exact MemOrder.noConfusion hc
  · rcases mem_orders_orderBytes l h with h | ⟨i, c, hi, hc⟩
    · exact hnone _ h
    · injection hc with hxi
      exact hx (by omega)

/-! Write-backs (R358, R367). -/

/-- What the clearing of an alarm may write. -/
def clearRows : List (Nat × Nat) := [(o1502_RING_DISCARDED, 0), (o1503_VAULT_STATE, 0)]

/-- A reading of the objects needs the two register files alone. -/
theorem keepsRegs_of_files {s u w : State} {l : List (Nat × Nat)} (h : s.keepsRegs u l) (hregs : w.regs = u.regs) (hocts : w.octs = u.octs) : s.keepsRegs w l :=
  ⟨fun o r hn hs => (congrArg (fun m => (storeGet (o, r) m).getD (objDefault o r)) hregs).trans (h.1 o r hn hs),
    fun o r hn => (congrArg (fun m => (storeGet (o, r) m).getD (octDefault o r)) hocts).trans (h.2 o r hn)⟩

theorem wr_regs_congr {s u : State} (h : s.regs = u.regs) (o r : Nat) (v : Int) : (s.wr o r v).regs = (u.wr o r v).regs := by
  unfold State.wr
  rw [h]

/-- A record that is no trigger can but fill the vault. -/
theorem vaultTake_files (s : State) (r : LogRec) :
    ((s.vaultTake r false).regs = s.regs ∨ (s.vaultTake r false).regs = (s.wr o1503_VAULT_STATE 0 VAULT_STATE.frozen).regs) ∧ (s.vaultTake r false).octs = s.octs := by
  unfold State.vaultTake
  extract_lets
  split_ifs with _ _ ht
  · exact ⟨.inl rfl, rfl⟩
  · exact ht.elim
  · exact ht.elim
  · exact ⟨.inl rfl, rfl⟩
  · refine ⟨.inr ?_, rfl⟩
    refine wr_regs_congr ?_ _ _ _
    rfl
  · exact ⟨.inl rfl, rfl⟩

theorem keepsRegs_logRec (s : State) (kind point sev subsys inst : Nat) (data : Bytes) : s.keepsRegs (s.logRec kind point sev subsys inst data false) clearRows := by
  have htake : ∀ (x : State) (r : LogRec), x.keepsRegs (x.vaultTake r false) clearRows := fun x r => by
    obtain ⟨hregs | hregs, hocts⟩ := vaultTake_files x r
    · exact keepsRegs_of_files (keepsRegs_refl x _) hregs hocts
    · exact keepsRegs_of_files ((keepsRegs_refl x clearRows).wr (o := o1503_VAULT_STATE) (r := 0) VAULT_STATE.frozen (by decide)) hregs hocts
  have hstage : ∀ (x : State) (r : LogRec), x.keepsRegs (x.stage r) clearRows := fun x r => by
    unfold State.stage
    split
    · unfold State.bump State.addTo
      exact State.keepsRegs.wr (State.keepsRegs.trans (keepsRegs_refl x _) (keepsRegs_refl _ _)) _ (by decide)
    · exact keepsRegs_refl x _
  unfold State.logRec
  extract_lets r src x
  have hx : s.keepsRegs x clearRows := keepsRegs_refl s _
  exact hx.trans ((htake _ _).trans (hstage _ _))

theorem keepsRegs_noteChange (s : State) (a : Alarm) (l : List (Nat × Nat)) : s.keepsRegs (s.noteChange a) l := by
  unfold State.noteChange
  induction portList generalizing s with
  | nil => exact keepsRegs_refl s l
  | cons p ps ih =>
    refine State.keepsRegs.trans ?_ (ih _)
    dsimp only
    split
    · exact keepsRegs_refl s l
    · exact keepsRegs_refl s l

/-- The clearing of an alarm writes no other object. -/
theorem keepsRegs_clear (s : State) (a : Alarm) (i : Nat) : s.keepsRegs (s.clear a i) clearRows := by
  have hone : ∀ p sev subsys, s.keepsRegs ((s.setPoint a p).logRec 2 (pointNo a) sev subsys i [] false) clearRows := fun _ _ _ => State.keepsRegs.trans (keepsRegs_refl s _) (keepsRegs_logRec _ _ _ _ _ _ _)
  unfold State.clear
  extract_lets +onlyGivenNames p
  split
  · exact keepsRegs_refl s _
  · extract_lets +onlyGivenNames act top x y
    refine State.keepsRegs.trans ?_ (keepsRegs_noteChange y a _)
    clear_value top
    dsimp only [y]
    split
    · exact (hone _ _ _).trans (keepsRegs_logRec x _ _ _ _ _ _)
    · exact hone _ _ _

theorem backsOf_setBacks (s : State) (u : Nat) (l : List WriteBack) : (s.setBacks u l).backsOf u = l := by
  unfold State.setBacks State.backsOf
  dsimp only
  split_ifs with h
  · rw [storeGet_del_same, h]
    rfl
  · rw [storeGet_put_same]
    rfl

/-- The oldest write-back of a controller leaves its list for its word. -/
theorem writeBack_eq {s : State} {u : Nat} {b : WriteBack} {l : List WriteBack} (h : s.backsOf u = b :: l) :
    s.writeBack u = if b.poison then (s.setBacks u l).writePoison b.addr else (s.setBacks u l).wordWritten b.addr := by
  unfold State.writeBack
  rw [h]

/-- Without a write-back of its own, the writing of a word is its state and its alarm, to whoever does not look at the lines of its list. -/
theorem wordWritten_free {α : Type} {f : State → α} (hlines : ∀ (s : State) (x : List BadLine), f { s with itg := { s.itg with lines := x } } = f s) {s : State} {a : Nat}
    (h : s.backPending a = false) : f (s.wordWritten a) = f ((s.setWord (wordBase a) {}).clear .MEM_POISON (wordBase a)) := by
  unfold State.wordWritten
  dsimp only
  rw [h, if_neg Bool.false_ne_true]
  exact hlines _ _

theorem wordWritten_backs {s : State} {a : Nat} (u : Nat) (h : s.backPending a = false) : (s.wordWritten a).backsOf u = s.backsOf u := by
  have hf : AlarmBlind (·.backsOf u) := ⟨fun _ _ => rfl, fun _ _ => rfl, fun _ _ _ _ _ => rfl⟩
  exact (wordWritten_free (f := (·.backsOf u)) (fun _ _ => rfl) h).trans (hf.clear _ _ _)

theorem wordWritten_orders {s : State} {a : Nat} (h : s.backPending a = false) : (s.wordWritten a).orders = s.orders := by
  have hf : AlarmBlind State.orders := ⟨fun _ _ => rfl, fun _ _ => rfl, fun _ _ _ _ _ => rfl⟩
  exact (wordWritten_free (f := State.orders) (fun _ _ => rfl) h).trans (hf.clear _ _ _)

theorem wordWritten_keepsRegs {s : State} {a : Nat} (h : s.backPending a = false) : s.keepsRegs (s.wordWritten a) clearRows :=
  keepsRegs_of_files (keepsRegs_clear (s.setWord (wordBase a) {}) .MEM_POISON (wordBase a)) (wordWritten_free (f := State.regs) (fun _ _ => rfl) h)
    (wordWritten_free (f := State.octs) (fun _ _ => rfl) h)

/-- The bytes of a word, errors and all. -/
def State.rawWord (s : State) (a : Nat) : Bytes :=
  xorBytes (memRange s.memNow a (if inSram a then 8 else 32)) (leBytes (if inSram a then 8 else 32) (s.wordErr a).data)

theorem rawWord_length (s : State) (a : Nat) : (s.rawWord a).length ≤ if inSram a then 8 else 32 := by
  unfold State.rawWord xorBytes memRange
  rw [List.length_zipWith, List.length_map, List.length_range]
  exact Nat.min_le_left _ _

theorem writePoison_eq (s : State) (a : Nat) : s.writePoison a = ((s.orderBytes a (s.rawWord a)).setWord a { poison := true }).bump o7000_POISON_WRITTEN 0 := rfl

theorem writePoison_wordErr (s : State) (a b : Nat) : (s.writePoison a).wordErr b = if wordBase b = wordBase a then { poison := true } else s.wordErr b := by
  rw [writePoison_eq]
  refine (wordErr_setWord _ _ _ _).trans (if_congr Iff.rfl rfl ?_)
  exact congrArg (fun i : Itg => (storeGet (wordBase b) i.words).getD {}) ((blind_itg (M := [.orders]) (by decide)).orderBytes (by decide) _ s a)

theorem writeBack_plain {s : State} {u : Nat} {b : WriteBack} {l : List WriteBack} (h : s.backsOf u = b :: l) (hb : b.poison = false) : s.writeBack u = (s.setBacks u l).wordWritten b.addr :=
  (writeBack_eq h).trans (by rw [hb]; rfl)

theorem writeBack_poison {s : State} {u : Nat} {b : WriteBack} {l : List WriteBack} (h : s.backsOf u = b :: l) (hb : b.poison = true) : s.writeBack u = (s.setBacks u l).writePoison b.addr :=
  (writeBack_eq h).trans (by rw [hb]; rfl)

section
variable {s : State} {t unit : Nat} {b : WriteBack} {l : List WriteBack} (hp : s.powered = true) (h : s.backsOf unit = b :: l)
include hp h

theorem writeback_whole (hb : b.poison = false) (hpend : (s.setBacks unit l).backPending b.addr = false) :
    ∃ u, exec (.writeback t unit) s = .next u ∧ u.backsOf unit = l ∧ u.wordErr b.addr = {} ∧ (∀ a, wordBase a ≠ wordBase b.addr → u.wordErr a = s.wordErr a) ∧
      s.keepsRegs u [(o1502_RING_DISCARDED, 0), (o1503_VAULT_STATE, 0)] ∧ u.mem = s.mem := by
  have hpend' : ((s.begin t).setBacks unit l).backPending b.addr = false := hpend
  refine ⟨_, run_work (t := t) (f := (·.writeBack unit)) hp (writeBack_plain (s := s.begin t) h hb), (wordWritten_backs unit hpend').trans (backsOf_setBacks (s.begin t) unit l),
    (wordErr_wordWritten _ _ _).trans (if_pos rfl), fun a ha => (wordErr_wordWritten _ _ _).trans (if_neg ha), wordWritten_keepsRegs hpend', ?_⟩
  show carryOut (((s.begin t).setBacks unit l).wordWritten b.addr).orders s.mem = s.mem
  rw [wordWritten_orders hpend']
  rfl

theorem writeback_poison (hb : b.poison = true) :
    ∃ u, exec (.writeback t unit) s = .next u ∧ u.backsOf unit = l ∧ u.wordErr b.addr = { poison := true } ∧
      (∀ a, wordBase a ≠ wordBase b.addr → u.wordErr a = s.wordErr a) ∧ u.rd o7000_POISON_WRITTEN 0 = (s.rd o7000_POISON_WRITTEN 0 + 1) % 2 ^ 64 ∧
      s.keepsRegs u [(o7000_POISON_WRITTEN, 0)] ∧
      ∀ x, ¬ (b.addr ≤ x ∧ x < b.addr + (if inSram b.addr then 8 else 32)) → memRead u.mem x = memRead s.mem x := by
  have hmod : objModulus o7000_POISON_WRITTEN = 2 ^ 64 := by decide
  have hitg : ∀ (x : State) (bs : Bytes), (x.orderBytes b.addr bs).itg = x.itg := fun x bs => (blind_itg (M := [.orders]) (by decide)).orderBytes (by decide) bs x _
  have hkeeps : ∀ (x : State) (bs : Bytes), x.keepsRegs (x.orderBytes b.addr bs) [(o7000_POISON_WRITTEN, 0)] := fun x bs =>
    ⟨fun o r _ _ => (blind_rd (M := [.orders]) (by simp) r (.inl rfl)).orderBytes (by decide) bs x _, fun o r _ => (blind_rdOct (M := [.orders]) (by simp) r).orderBytes (by decide) bs x _⟩
  refine ⟨_, run_work (t := t) (f := (·.writeBack unit)) hp (writeBack_poison (s := s.begin t) h hb), ?_, (writePoison_wordErr _ _ _).trans (if_pos rfl),
    fun a ha => (writePoison_wordErr _ _ _).trans (if_neg ha), ?_, ?_, fun x hx => ?_⟩
  · exact (congrArg (fun i : Itg => (storeGet unit i.backs).getD []) (hitg _ _)).trans (backsOf_setBacks (s.begin t) unit l)
  · refine (rd_bump_same _ _ _).trans ?_
    rw [hmod]
    exact congrArg (fun v => (v + 1) % 2 ^ 64) ((blind_rd (M := [.orders]) (by decide) 0).orderBytes (by decide) _ ((s.begin t).setBacks unit l) _)
  · exact (hkeeps ((s.begin t).setBacks unit l) _).trans ((keepsRegs_refl _ _).wr _ (List.mem_singleton_self _))
  · refine memRead_orderBytes (s := (s.begin t).setBacks unit l) rfl b.addr _ s.mem fun hin => hx ⟨hin.1, lt_of_lt_of_le hin.2 ?_⟩
    exact Nat.add_le_add_left (rawWord_length _ _) _

end

end Sys2Proof.Machine
end

section
/-! SUPPORT. The auditor, the vote of critical words and the copies of rows (R359, R362-R364). -/

namespace Sys2Proof.Machine
open Sys2Proof

/-! The HBM walker (R362). -/

/-- Before the last word of a lap the walker meets its word and goes on to the next. -/
theorem auditWord_hbm {s : State} (w : WordTouch) (hm : s.rd o7001_AUDITOR_MODE 0 ≠ AUDITOR_MODE.off) (hlt : s.rdN o7001_HBM_POSITION 0 + 32 < hbmBytes) :
    s.auditWord false w = (s.meet true { w with addr := s.rdN o7001_HBM_POSITION 0 }).2.wr o7001_HBM_POSITION 0 (s.rdN o7001_HBM_POSITION 0 + 32 : Nat) := by
  unfold State.auditWord
  rw [if_neg hm, if_neg Bool.false_ne_true]
  dsimp only
  rw [if_pos hlt, if_neg (by omega)]

/-- What a word that is read and corrected, and one that cannot be corrected, touch beside the counter of its memory. -/
def followUps : List Nat := o7003_UNIT_CORRECTED :: o7003_UNIT_UNCORRECTABLE :: o6100_DAMAGED :: o7000_WRITEBACKS_CANCELLED :: o7000_WRITEBACKS_DROPPED :: watchObjects

theorem meet_counts_corrected {s : State} {w : WordTouch} (auditor : Bool) (hs : inSram (wordBase w.addr) = false)
    (hv : verdict (inSram (wordBase w.addr)) w.misplaced ((s.flip w).wordErr (wordBase w.addr)) = .corrected) :
    (s.meet auditor w).2.rd o7000_HBM_CORRECTED 0 = (s.rd o7000_HBM_CORRECTED 0 + 1) % 2 ^ 64 := by
  have hmod : objModulus o7000_HBM_CORRECTED = 2 ^ 64 := by decide
  have hf : MemBlind followUps (·.rd o7000_HBM_CORRECTED 0) := memBlind_rd 0 (by decide) (by decide)
  have hcount : ∀ x : State, (((x.bump (errCounter (wordBase w.addr) o7000_HBM_CORRECTED o7000_SRAM_CORRECTED) 0).bump o7003_UNIT_CORRECTED (memOf (wordBase w.addr))).rd o7000_HBM_CORRECTED 0) =
      (x.rd o7000_HBM_CORRECTED 0 + 1) % 2 ^ 64 := fun x => by
    refine (hf.bump _ _ (by decide)).trans ?_
    unfold errCounter
    rw [hs, if_neg Bool.false_ne_true, rd_bump_same, hmod]
  unfold State.meet State.readWord
  dsimp only
  rw [hv]
  dsimp only
  rw [if_neg (by decide)]
  split
  · exact hcount _
  · exact (hf.queueBack (by decide) _ _ _).trans ((hf.watchEvent hf.rows (by decide) _ _ _).trans (hcount _))

theorem errRecord_rd (s : State) (a : Nat) (kind by_ : Int) (item : Nat) :
    (s.errRecord a kind by_ item).rd o7009_ERR_ADDR 0 = a ∧ (s.errRecord a kind by_ item).rd o7009_ERR_KIND 0 = kind ∧ (s.errRecord a kind by_ item).rd o7009_ERR_FOUND_BY 0 = by_ := by
  unfold State.errRecord
  dsimp only
  simp (disch := decide) only [List.foldl_cons, List.foldl_nil, State.rd_wr_obj, State.rd_wr_same, and_self]

/-- The word that cannot be corrected is counted and recorded, unless its poison write waits. -/
def State.badWordNoted (s : State) (w : WordTouch) (by_ : Int) : State :=
  ((s.bump (errCounter (wordBase w.addr) o7000_HBM_UNCORRECTABLE o7000_SRAM_UNCORRECTABLE) 0).bump o7003_UNIT_UNCORRECTABLE (memOf (wordBase w.addr))).errRecord (wordBase w.addr) ERR_KIND.uncorrectable by_ w.item

/-- What follows the record of such a word in its read is unseen. -/
theorem MemBlind.readWord_uncorrectable {L : List Nat} {α : Type} {f : State → α} (hf : MemBlind L f) (hL : followUps ⊆ L) {s : State} {w : WordTouch} (auditor : Bool)
    (hv : verdict (inSram (wordBase w.addr)) w.misplaced ((s.flip w).wordErr (wordBase w.addr)) = .uncorrectable) (hback : s.backPending w.addr = false) :
    (s.readWord auditor w).1 = .uncorrectable ∧ f (s.readWord auditor w).2 = f ((s.flip w).badWordNoted w (if auditor then ERR_FOUND_BY.auditor else ERR_FOUND_BY.reader)) := by
  have hnone : ¬ ((s.flip w).backsOf (Config.wordUnit (wordBase w.addr))).any (fun b => b.addr == wordBase w.addr && b.poison) = true := fun h => by
    obtain ⟨b, hb, hba⟩ := List.any_eq_true.mp h
    exact Bool.false_ne_true (hback.symm.trans (List.any_eq_true.mpr ⟨b, hb, (Bool.and_eq_true_iff.mp hba).1⟩))
  refine ⟨hv, ?_⟩
  unfold State.readWord
  dsimp only
  rw [hv]
  dsimp only
  rw [if_neg hnone]
  refine (hf.watchEvent hf.rows (List.Subset.trans (by decide) hL) _ _ _).trans ((hf.queueBack (hL (by decide)) _ _ _).trans ?_)
  split
  · split
    · rfl
    · exact hf.raiseWith _ _ _ _ _ _
  · exact hf.raiseWith _ _ _ _ _ _

theorem meet_bad {s : State} {auditor : Bool} {w : WordTouch} (h : (s.readWord auditor w).1.bad = true) : (s.meet auditor w).2 = (s.readWord auditor w).2.actOn w := if_pos h

/-- What follows the record of such a word is unseen. -/
theorem MemBlind.meet_uncorrectable {L : List Nat} {α : Type} {f : State → α} (hf : MemBlind L f) (hL : followUps ⊆ L) {s : State} {w : WordTouch} (auditor : Bool)
    (hv : verdict (inSram (wordBase w.addr)) w.misplaced ((s.flip w).wordErr (wordBase w.addr)) = .uncorrectable) (hback : s.backPending w.addr = false) :
    f (s.meet auditor w).2 = f ((s.flip w).badWordNoted w (if auditor then ERR_FOUND_BY.auditor else ERR_FOUND_BY.reader)) := by
  obtain ⟨hverdict, hread⟩ := hf.readWord_uncorrectable hL auditor hv hback
  rw [meet_bad (by rw [hverdict]; rfl), hf.toActBlind.actOn (hL (by decide)) fun x => hf.wordWritten hf.words (hL (by decide)) x _]
  exact hread

/-- The counter of the memory counts such a word. -/
theorem badWordNoted_counts (s : State) (w : WordTouch) (by_ : Int) (hs : inSram (wordBase w.addr) = false) :
    (s.badWordNoted w by_).rd o7000_HBM_UNCORRECTABLE 0 = (s.rd o7000_HBM_UNCORRECTABLE 0 + 1) % 2 ^ 64 := by
  have hmod : objModulus o7000_HBM_UNCORRECTABLE = 2 ^ 64 := by decide
  have hf : MemBlind (o7003_UNIT_UNCORRECTABLE :: errObjects) (·.rd o7000_HBM_UNCORRECTABLE 0) := memBlind_rd 0 (by decide) (by decide)
  refine (hf.errRecord (by decide) _ _ _ _ _).trans ((hf.bump _ _ (by decide)).trans ?_)
  unfold errCounter
  rw [hs, if_neg Bool.false_ne_true, rd_bump_same, hmod]

/-! Critical words (R359). -/

/-- What the identity, the mirror and the slots of the configuration read; and what the loss of a critical word touches. -/
def identityMarks : List Mark := alarmMarks ++ [.obj o1135_IDENTITY_REMAINING, .obj o1135_IDENTITY_STATE]
def journalMarks : List Mark := [.obj o1135_IDENTITY_NEXT, .obj o1135_JOURNAL_BLOCK_END] ++ identityMarks
def mirrorMarks : List Mark := [.alarm .PAIR_MIRROR_STALE, .obj o1601_MIRROR_STATE]
def cfgSlotMarks : List Mark := [.obj o1201_SLOT_STATE, .obj o1201_SLOT_GENERATION, .obj o1201_SLOT_LENGTH, .obj o1201_SLOT_CHECK, .obj o1201_SLOT_SIGNED, .obj o1201_SLOT_SAVED_TIME]
def lostMarks : List Mark := journalMarks ++ mirrorMarks ++ cfgSlotMarks ++ [.ctl, .free, .obj o1200_CONFIG_SLOT, .obj o1200_CONFIG_STATE, .obj o1200_CONFIG_RESULT]

namespace Blind

variable {M : List Mark} {α : Type} {f : State → α} (hf : Blind M f)
include hf

theorem noteIdentity (h : identityMarks ⊆ M) (s : State) : f s.noteIdentity = f s := by
  have ha : AlarmBlind f := hf.toAlarm (List.Subset.trans (by decide) h)
  exact (ha.alarmWhile _ _ _ _).trans ((ha.alarmWhile _ _ _ _).trans ((ha.alarmWhile _ _ _ _).trans ((hf.wr (h (by decide)) _ _ _).trans (hf.wr (h (by decide)) _ _ _))))

theorem readJournal (h : journalMarks ⊆ M) (s : State) : f s.readJournal = f s := by
  have hn : ∀ s : State, f s.noteIdentity = f s := hf.noteIdentity (List.Subset.trans (by decide) h)
  unfold State.readJournal
  split
  · exact (hn _).trans ((hf.wr (h (by decide)) _ _ _).trans (hf.wr (h (by decide)) _ _ _))
  · exact hn _

theorem noteMirror (h : mirrorMarks ⊆ M) (s : State) : f s.noteMirror = f s :=
  (hf.alarmWhile (h (by decide)) _ _ _).trans (hf.wr (h (by decide)) _ _ _)

theorem startRelease (h : alarmMarks ⊆ M) (s : State) : f s.startRelease = f s :=
  (hf _ (h (by decide)) _ _ (.pair ..)).trans ((hf.wr (h (by decide)) _ _ _).trans (hf.wr (h (by decide)) _ _ _))

theorem custodyLost (ha : alarmMarks ⊆ M) (h : mirrorMarks ⊆ M) (s : State) : f s.custodyLost = f s := by
  have hrel : ∀ s : State, f s.startRelease = f s := hf.startRelease ha
  unfold State.custodyLost State.ownRelease
  split_ifs
  · exact hrel s
  · rfl
  · exact (hf.noteMirror h _).trans (hf _ (ha (by decide)) _ _ (.pair ..))
  · rfl

theorem noteCfgSlot (h : cfgSlotMarks ⊆ M) (s : State) (k : Nat) : f (s.noteCfgSlot k) = f s := by
  have hwr : ∀ (s : State) (a b c : Int) (v w : Int) (x : Int), f ((((((s.wr o1201_SLOT_STATE k a).wr o1201_SLOT_GENERATION k b).wr o1201_SLOT_LENGTH k c).wr o1201_SLOT_CHECK k v).wr
      o1201_SLOT_SIGNED k w).wr o1201_SLOT_SAVED_TIME k x) = f s := fun s a b c v w x =>
    (hf.wr (h (by decide)) _ _ _).trans ((hf.wr (h (by decide)) _ _ _).trans ((hf.wr (h (by decide)) _ _ _).trans ((hf.wr (h (by decide)) _ _ _).trans
      ((hf.wr (h (by decide)) _ _ _).trans (hf.wr (h (by decide)) _ _ _)))))
  unfold State.noteCfgSlot
  split
  · exact hf.wr (h (by decide)) _ _ _
  · split
    · exact hwr _ _ _ _ _ _ _
    · exact hwr _ _ _ _ _ _ _

theorem breakSave (hfree : .free ∈ M) (hctl : .ctl ∈ M) (s : State) : f s.breakSave = f s := by
  have htake : f s.takeFree.2 = f s := hf _ hfree _ _ (.free ..)
  unfold State.breakSave
  split
  · dsimp only
    split
    · exact (hf _ hctl _ _ (.ctl ..)).trans htake
    · exact htake
  · rfl

theorem rebuildConfig (h : lostMarks ⊆ M) (s : State) : f s.rebuildConfig = f s := by
  have hslot : ∀ (s : State) (k : Nat), f (s.noteCfgSlot k) = f s := hf.noteCfgSlot (List.Subset.trans (by decide) h)
  have hx : ∀ v, f (((s.noteCfgSlot 0).noteCfgSlot 1).wr o1200_CONFIG_SLOT 0 v) = f s := fun v => (hf.wr (h (by decide)) _ _ _).trans ((hslot _ _).trans (hslot _ _))
  unfold State.rebuildConfig
  extract_lets a v b
  split
  · exact ((hf.toAlarm (List.Subset.trans (by decide) h)).raise _ _ _).trans ((hf.wr (h (by decide)) _ _ _).trans ((hf _ (h (by decide)) _ _ (.ctl ..)).trans
      ((hf.wr (h (by decide)) _ _ _).trans ((hf.breakSave (h (by decide)) (h (by decide)) _).trans (hx _)))))
  · exact hx _

theorem lostCritical (h : lostMarks ⊆ M) (k : Nat) (s : State) : f (lostCritical k s) = f s := by
  unfold Machine.lostCritical
  split_ifs
  · exact hf.readJournal (List.Subset.trans (by decide) h) s
  · rfl
  · exact hf.custodyLost (List.Subset.trans (by decide) h) (List.Subset.trans (by decide) h) s
  · exact hf.rebuildConfig h s
  · rfl

end Blind

/-- A critical word whose copies cannot be used is counted. -/
theorem readCritical_lost {s : State} (k : Nat) {copies : List (Option Nat)} (h : vote copies = .lost) :
    (s.readCritical lostCritical k copies).rd o7006_TMR_WORDS_LOST 0 = (s.rd o7006_TMR_WORDS_LOST 0 + 1) % 256 := by
  have hmod : objModulus o7006_TMR_WORDS_LOST = 256 := by decide
  have hf : Blind lostMarks (·.rd o7006_TMR_WORDS_LOST 0) := blind_rd (by decide) 0
  unfold State.readCritical
  rw [h]
  dsimp only
  rw [hf.lostCritical (List.Subset.refl _), (hf.toAlarm (by decide)).pulse, rd_bump_same, hmod]

section
variable {s : State} {t k : Nat} {w : WordTouch} {copies : List (Option Nat)} (hp : s.powered = true) (hoff : s.rd o7001_AUDITOR_MODE 0 = AUDITOR_MODE.off)
include hp hoff

/-- With the walkers off, the auditor's word is the critical one alone. -/
theorem auditorWord_critical : exec (.auditorWord t false w [(k, copies)]) s = .next ((s.begin t).finish ((s.begin t).readCritical lostCritical k copies)) := by
  have haudit : (s.begin t).auditWord false w = s.begin t := if_pos hoff
  exact run_work (t := t) (f := fun s => [(k, copies)].foldl (fun s e => s.readCritical lostCritical e.1 e.2) (s.auditWord false w)) hp
    (congrArg (·.readCritical lostCritical k copies) haudit)

theorem auditorWord_agree (h : vote copies = .agree) : ∃ u, exec (.auditorWord t false w [(k, copies)]) s = .next u ∧ s.keepsRegs u [] ∧ u.works = s.works := by
  have hkeep : (s.begin t).readCritical lostCritical k copies = s.begin t := by
    unfold State.readCritical
    rw [h]
  refine ⟨_, auditorWord_critical hp hoff, ?_⟩
  rw [hkeep]
  exact ⟨keepsRegs_refl _ _, rfl⟩

theorem auditorWord_rewritten (h : vote copies = .rewritten) :
    ∃ u, exec (.auditorWord t false w [(k, copies)]) s = .next u ∧ u.rd o7006_TMR_CORRECTIONS 0 = (s.rd o7006_TMR_CORRECTIONS 0 + 1) % 2 ^ 64 ∧
      s.keepsRegs u [(o7006_TMR_CORRECTIONS, 0)] ∧ u.works = s.works := by
  have hmod : objModulus o7006_TMR_CORRECTIONS = 2 ^ 64 := by decide
  have hbump : (s.begin t).readCritical lostCritical k copies = (s.begin t).bump o7006_TMR_CORRECTIONS 0 := by
    unfold State.readCritical
    rw [h]
  refine ⟨_, auditorWord_critical hp hoff, ?_⟩
  rw [hbump]
  refine ⟨(rd_bump_same (s.begin t) _ _).trans ?_, (keepsRegs_refl (s.begin t) _).wr _ (List.mem_singleton_self _), rfl⟩
  rw [hmod]
  rfl

end

end Sys2Proof.Machine
end

section
/-! SUPPORT. The copies of rows (R364), and what is kept of stored words. -/

namespace Sys2Proof.Machine
open Sys2Proof

/-! The rows that a memory retires only grow while words are read. -/

theorem rowsOf_setRows (s : State) (m k : Nat) (l : List RowCopy) : (s.setRows m l).rowsOf k = if k = m then l else s.rowsOf k := by
  unfold State.setRows State.rowsOf
  dsimp only
  split_ifs with hl hk hk
  · rw [hk, storeGet_del_same, hl]
    rfl
  · rw [storeGet_del_ne hk]
  · rw [hk, storeGet_put_same]
    rfl
  · rw [storeGet_put_ne natLt hk]

theorem actBlind_rows (L : List Nat) (m : Nat) : ActBlind L (·.rowsOf m) where
  alm := fun _ _ => rfl
  pair := fun _ _ => rfl
  wr := fun _ _ _ _ _ => rfl
  obj := fun _ _ _ _ _ => rfl
  backs := fun _ _ => rfl
  used := fun _ _ _ => rfl
  lines := fun _ _ => rfl
  postponed := fun _ _ => rfl
  granules := fun _ _ => rfl
  enc := fun _ _ => rfl
  cmp := fun _ _ => rfl

theorem rows_retire (s : State) (a m : Nat) : s.rowsOf m <+: (s.retire a).rowsOf m := by
  have hf := actBlind_rows watchObjects m
  have hbump : ∀ (s : State) (o r : Nat), (s.bump o r).rowsOf m = s.rowsOf m := fun _ _ _ => rfl
  unfold State.retire
  extract_lets k b used itg counted queued retired repaired
  have hcounted : counted.rowsOf m = s.rowsOf m := rfl
  have hqueued : s.rowsOf m <+: queued.rowsOf m := by
    rw [show queued = counted.setRows k (s.rowsOf k ++ [{ addr := a }]) from rfl, rowsOf_setRows]
    split_ifs with hm
    · exact hm ▸ List.prefix_append _ _
    · exact hcounted ▸ List.prefix_rfl
  have hrepaired : repaired.rowsOf m = queued.rowsOf m := by
    dsimp only [repaired]
    split
    · rfl
    · rfl
  split_ifs
  · exact List.prefix_rfl
  · rw [hf.markWeak (List.Subset.refl _)]
  · rw [hf.pulse, hf.noteFlash (by decide), hf.foldl_clearWords, hf.clear, hrepaired]
    exact hqueued

theorem rows_wordWritten (s : State) (a m : Nat) : (s.wordWritten a).rowsOf m = s.rowsOf m :=
  (actBlind_rows [o7000_WRITEBACKS_CANCELLED] m).wordWritten (fun _ _ => rfl) (List.mem_singleton_self _) s a

theorem rows_meet (s : State) (auditor : Bool) (w : WordTouch) (m : Nat) : s.rowsOf m <+: (s.meet auditor w).2.rowsOf m := by
  have hf := actBlind_rows memObjects m
  have hread : s.rowsOf m <+: (s.readWord auditor w).2.rowsOf m := by
    rcases hf.readWord_cases (List.Subset.refl _) s auditor w with hk | ⟨x, b, hx, hk⟩
    · exact hk ▸ List.prefix_rfl
    · have hx' : s.rowsOf m = x.rowsOf m := hx.symm
      rw [hk, hx']
      exact rows_retire x b m
  unfold State.meet
  dsimp only
  split
  · rw [hf.actOn (by decide) fun s => rows_wordWritten s _ m]
    exact hread
  · exact hread

theorem writePoison_rows (s : State) (a m : Nat) : (s.writePoison a).rowsOf m = s.rowsOf m := by
  have hitg : (s.orderBytes a (s.rawWord a)).itg = s.itg := (blind_itg (M := [.orders]) (by decide)).orderBytes (by decide) _ s a
  have hrows : (s.orderBytes a (s.rawWord a)).rowsOf m = s.rowsOf m := by
    unfold State.rowsOf
    rw [hitg]
  exact hrows

/-! The copy of a row. -/

/-- Whether a word holds no error, or is poison and nothing else. -/
def WordErr.whole (e : WordErr) : Prop := e = {} ∨ e.poison = true

theorem copyWord_ne (s : State) (w : WordTouch) {b : Nat} (h : wordBase b ≠ wordBase w.addr) : (s.copyWord w).wordErr b = s.wordErr b := by
  have hmeet := wordErr_meet_ne s false w h
  have hbase : wordBase b ≠ wordBase (wordBase w.addr) := fun e => h (e.trans (wordBase_wordBase _))
  unfold State.copyWord
  dsimp only
  split_ifs
  · exact hmeet
  · rw [writePoison_wordErr, if_neg hbase]
    exact hmeet
  · rw [wordErr_setWord, if_neg hbase]
    exact hmeet

theorem copyWord_whole (s : State) (w : WordTouch) {b : Nat} (h : wordBase b = wordBase w.addr) : ((s.copyWord w).wordErr b).whole := by
  have hbase : wordBase b = wordBase (wordBase w.addr) := h.trans (wordBase_wordBase _).symm
  unfold State.copyWord
  dsimp only
  split_ifs with hbad hpoison
  · refine .inr ?_
    unfold State.wordErr at hpoison ⊢
    rw [hbase]
    exact hpoison
  · rw [writePoison_wordErr, if_pos hbase]
    exact .inr rfl
  · rw [wordErr_setWord, if_pos hbase]
    exact .inl rfl

theorem copyWord_rows (s : State) (w : WordTouch) (m : Nat) : s.rowsOf m <+: (s.copyWord w).rowsOf m := by
  have hmeet := rows_meet s false w m
  unfold State.copyWord
  dsimp only
  split_ifs
  · exact hmeet
  · rw [writePoison_rows]
    exact hmeet
  · exact hmeet

/-- A word once whole stays so while words are copied, and so is every word that is copied. -/
theorem copyWords_whole {b : Nat} (l : List WordTouch) : ∀ {s : State}, (s.wordErr b).whole ∨ (∃ w ∈ l, wordBase b = wordBase w.addr) → ((l.foldl State.copyWord s).wordErr b).whole := by
  induction l with
  | nil => rintro s (h | ⟨w, hw, -⟩)
           · exact h
           · exact absurd hw List.not_mem_nil
  | cons x l ih =>
    intro s h
    by_cases hx : wordBase b = wordBase x.addr
    · exact ih (.inl (copyWord_whole s x hx))
    · refine ih ?_
      rcases h with h | ⟨w, hw, hb⟩
      · rw [copyWord_ne s x hx]
        exact .inl h
      · rcases List.mem_cons.mp hw with rfl | hw
        · exact absurd hb hx
        · exact .inr ⟨w, hw, hb⟩

theorem copyWords_rows (m : Nat) (l : List WordTouch) : ∀ s : State, s.rowsOf m <+: (l.foldl State.copyWord s).rowsOf m := by
  induction l with
  | nil => exact fun _ => List.prefix_rfl
  | cons x l ih => exact fun s => (copyWord_rows s x m).trans (ih _)

/-- A word that is not listed holds no error. -/
theorem mem_of_storeGet {κ α : Type} [DecidableEq κ] {k : κ} {v : α} {l : List (κ × α)} (h : storeGet k l = some v) : (k, v) ∈ l := by
  induction l with
  | nil => exact absurd h (by simp [storeGet])
  | cons e l ih =>
    obtain ⟨k', v'⟩ := e
    unfold storeGet at h
    split at h
    · next hk =>
      cases h
      exact hk ▸ List.mem_cons_self
    · exact List.mem_cons_of_mem _ (ih h)

/-- The words of a row that are copied because they are in error. -/
def State.rowErrors (s : State) (a : Nat) : List WordTouch := (s.itg.words.filter (fun e => sameRow e.1 a)).map (fun e => { addr := e.1 })

theorem rowErrors_covers (s : State) {a b : Nat} (hb : wordBase b = b) (hrow : sameRow b a = true) : (s.wordErr b).whole ∨ ∃ w ∈ s.rowErrors a, wordBase b = wordBase w.addr := by
  cases h : storeGet b s.itg.words with
  | none =>
    refine .inl (.inl ?_)
    unfold State.wordErr
    rw [hb, h]
    rfl
  | some e => exact .inr ⟨_, List.mem_map_of_mem (List.mem_filter.mpr ⟨mem_of_storeGet h, hrow⟩), rfl⟩

/-- The copies of a row, all told. -/
def State.rowCopied (s : State) (a : Nat) (touched : List WordTouch) : State := ((touched.foldl State.copyWord s).rowErrors a).foldl State.copyWord (touched.foldl State.copyWord s)

theorem rowDone_eq {s : State} {m : Nat} {r : RowCopy} {l : List RowCopy} (h : s.rowsOf m = r :: l) (hr : r.started = true) (touched : List WordTouch) :
    s.rowDone m touched = (s.rowCopied r.addr touched).setRows m (((s.rowCopied r.addr touched).rowsOf m).drop 1) := by
  unfold State.rowDone State.rowCopied State.rowErrors
  rw [h]
  dsimp only
  rw [if_neg (by rw [hr]; decide), List.foldl_map]

theorem rowDone_rows {s : State} {m : Nat} {r : RowCopy} {l : List RowCopy} (h : s.rowsOf m = r :: l) (hr : r.started = true) (touched : List WordTouch) : l <+: (s.rowDone m touched).rowsOf m := by
  have hgrown : r :: l <+: (s.rowCopied r.addr touched).rowsOf m := h ▸ (copyWords_rows m touched s).trans (copyWords_rows m _ _)
  rw [rowDone_eq h hr, rowsOf_setRows, if_pos rfl]
  exact hgrown.drop 1

theorem rowDone_whole {s : State} {m : Nat} {r : RowCopy} {l : List RowCopy} (h : s.rowsOf m = r :: l) (hr : r.started = true) (touched : List WordTouch) {b : Nat} (hb : wordBase b = b)
    (hrow : sameRow b r.addr = true) : ((s.rowDone m touched).wordErr b).whole := by
  rw [rowDone_eq h hr]
  exact copyWords_whole _ (rowErrors_covers _ hb hrow)

theorem rowStart_eq {s : State} {m : Nat} {r : RowCopy} {l : List RowCopy} (h : s.rowsOf m = r :: l) : s.rowStart m = s.setRows m ({ r with started := true } :: l) := by
  unfold State.rowStart
  rw [h]

/-- The walker's next word, said of the command (log entry 98, the model's choice of the position). -/
theorem auditorWord_hbm {s : State} {t : Nat} (w : WordTouch) (hp : s.powered = true) (hm : s.rd o7001_AUDITOR_MODE 0 ≠ AUDITOR_MODE.off) (ha : s.rdN o7001_HBM_POSITION 0 % 32 = 0)
    (hlt : s.rdN o7001_HBM_POSITION 0 + 32 < hbmBytes) :
    let found := (s.flip { w with addr := s.rdN o7001_HBM_POSITION 0 }).wordErr (s.rdN o7001_HBM_POSITION 0)
    ∃ u, exec (.auditorWord t false w []) s = .next u ∧ u.rdN o7001_HBM_POSITION 0 = s.rdN o7001_HBM_POSITION 0 + 32 ∧
      (verdict false w.misplaced found = .corrected → u.rd o7000_HBM_CORRECTED 0 = (s.rd o7000_HBM_CORRECTED 0 + 1) % 2 ^ 64) ∧
      (verdict false w.misplaced found = .uncorrectable → s.backPending (s.rdN o7001_HBM_POSITION 0) = false →
        u.rd o7000_HBM_UNCORRECTABLE 0 = (s.rd o7000_HBM_UNCORRECTABLE 0 + 1) % 2 ^ 64 ∧ u.rdN o7009_ERR_ADDR 0 = s.rdN o7001_HBM_POSITION 0 ∧
        u.rd o7009_ERR_KIND 0 = ERR_KIND.uncorrectable ∧ u.rd o7009_ERR_FOUND_BY 0 = ERR_FOUND_BY.auditor) := by
  intro found
  have hsram : inSram (s.rdN o7001_HBM_POSITION 0) = false := inSram_hbm (by omega)
  have hbase : wordBase (s.rdN o7001_HBM_POSITION 0) = s.rdN o7001_HBM_POSITION 0 := wordBase_hbm (by omega) ha
  let x : WordTouch := { w with addr := s.rdN o7001_HBM_POSITION 0 }
  have hsram' : inSram (wordBase x.addr) = false := by rw [hbase, hsram]
  have hverdict : verdict (inSram (wordBase x.addr)) x.misplaced (((s.begin t).flip x).wordErr (wordBase x.addr)) = verdict false w.misplaced found := by
    rw [hsram', hbase]
    rfl
  have hwork : (s.begin t).auditWord false w = ((s.begin t).meet true x).2.wr o7001_HBM_POSITION 0 (s.rdN o7001_HBM_POSITION 0 + 32 : Nat) := auditWord_hbm (s := s.begin t) w hm hlt
  refine ⟨_, run_work (t := t) (f := (·.auditWord false w)) hp hwork, ?_, fun hc => ?_, fun hu hback => ?_⟩
  · exact congrArg Int.toNat (((s.begin t).meet true x).2.rd_wr_same o7001_HBM_POSITION 0 (s.rdN o7001_HBM_POSITION 0 + 32 : Nat))
  · exact (((s.begin t).meet true x).2.rd_wr_obj (o := o7001_HBM_POSITION) (r := 0) (s.rdN o7001_HBM_POSITION 0 + 32 : Nat) (by decide)).trans (meet_counts_corrected true hsram' (hverdict.trans hc))
  · have hnoted : ∀ {L : List Nat} {o : Nat}, followUps ⊆ L → MemBlind L (·.rd o 0) → o ≠ o7001_HBM_POSITION →
        (((s.begin t).meet true x).2.wr o7001_HBM_POSITION 0 (s.rdN o7001_HBM_POSITION 0 + 32 : Nat)).rd o 0 = (((s.begin t).flip x).badWordNoted x ERR_FOUND_BY.auditor).rd o 0 :=
      fun hL hf ho => (State.rd_wr_obj _ _ ho).trans (hf.meet_uncorrectable hL true (hverdict.trans hu) hback)
    obtain ⟨haddr, hkind, hby⟩ := errRecord_rd ((((s.begin t).flip x).bump (errCounter (wordBase x.addr) o7000_HBM_UNCORRECTABLE o7000_SRAM_UNCORRECTABLE) 0).bump o7003_UNIT_UNCORRECTABLE
      (memOf (wordBase x.addr))) (wordBase x.addr) ERR_KIND.uncorrectable ERR_FOUND_BY.auditor x.item
    refine ⟨?_, ?_, ?_, ?_⟩
    · exact (hnoted (List.Subset.refl _) (memBlind_rd 0 (by decide) (by decide)) (by decide)).trans (badWordNoted_counts _ _ _ hsram')
    · have hat := (hnoted (List.Subset.refl _) (memBlind_rd 0 (by decide) (by decide)) (by decide)).trans haddr
      exact (congrArg Int.toNat hat).trans hbase
    · exact (hnoted (List.Subset.refl _) (memBlind_rd 0 (by decide) (by decide)) (by decide)).trans hkind
    · exact (hnoted (List.Subset.refl _) (memBlind_rd 0 (by decide) (by decide)) (by decide)).trans hby

/-- Settles O33. Where the statement goes beyond the manual it follows the model's choices of log entries 98 and 99. -/
theorem storedWordsAreKeptWhole : Obligations.StoredWordsAreKeptWhole := by
  intro s t hp
  refine ⟨fun unit b l h => ⟨writeback_whole hp h, writeback_poison hp h⟩, fun w hm ha hlt => auditorWord_hbm w hp hm ha hlt, fun w k copies hoff _ => ⟨auditorWord_agree hp hoff, auditorWord_rewritten hp hoff, fun hv => ?_⟩,
    fun m r l h => ⟨?_, fun hr touched => ?_⟩⟩
  · exact ⟨_, auditorWord_critical hp hoff, readCritical_lost k hv⟩
  · refine ⟨_, run_work (t := t) (f := (·.rowStart m)) hp (rowStart_eq (s := s.begin t) h), (rowsOf_setRows (s.begin t) m m _).trans (if_pos rfl),
      fun k hk => (rowsOf_setRows (s.begin t) m k _).trans (if_neg hk), keepsRegs_refl _ _, rfl⟩
  · exact ⟨_, run_work (t := t) (f := (·.rowDone m touched)) hp rfl, rowDone_rows (s := s.begin t) h hr touched, fun a ha hrow => rowDone_whole (s := s.begin t) h hr touched ha hrow⟩

end Sys2Proof.Machine
end

section
/-! SUPPORT. Injection, the auditor's mode and the reload of granules (R361, R363, R370). -/

namespace Sys2Proof.Machine
open Sys2Proof

/-! Injection (R361). -/

theorem memBlind_rdOct (L : List Nat) (o r : Nat) : MemBlind L (·.rdOct o r) where
  alm := fun _ _ => rfl
  pair := fun _ _ => rfl
  wr := fun _ _ _ _ _ => rfl
  obj := fun _ _ _ _ _ => rfl
  backs := fun _ _ => rfl
  used := fun _ _ _ => rfl
  lines := fun _ _ => rfl
  postponed := fun _ _ => rfl
  granules := fun _ _ => rfl
  enc := fun _ _ => rfl
  cmp := fun _ _ => rfl
  rows := fun _ _ => rfl
  words := fun _ _ => rfl

theorem memBlind_ctl (L : List Nat) : MemBlind L State.ctl where
  alm := fun _ _ => rfl
  pair := fun _ _ => rfl
  wr := fun _ _ _ _ _ => rfl
  obj := fun _ _ _ _ _ => rfl
  backs := fun _ _ => rfl
  used := fun _ _ _ => rfl
  lines := fun _ _ => rfl
  postponed := fun _ _ => rfl
  granules := fun _ _ => rfl
  enc := fun _ _ => rfl
  cmp := fun _ _ => rfl
  rows := fun _ _ => rfl
  words := fun _ _ => rfl

/-- The word is read, and its errors frozen when it cannot be corrected. -/
def State.frozenRead (s : State) (a : Nat) : State :=
  let x := s.readWord false { addr := a }
  if x.1.bad ∧ (x.2.wordErr a).poison = false then x.2.freezeWord a else x.2

/-- The word with the chosen errors. -/
def State.injected (s : State) (a : Nat) : State :=
  (((s.frozenRead a).wordWritten a).setWord a { data := leNat ((s.frozenRead a).rdOct o7008_INJECT_DATA_MASK 0), check := (s.frozenRead a).rdN o7008_INJECT_CHECK_MASK 0 }).wr o7008_INJECT_RESULT 0 0

theorem freezeWord_eq (s : State) (a : Nat) : s.freezeWord a = s.orderBytes a (s.rawWord a) := rfl

/-- A reading that sees nothing of a word sees nothing of its reading. -/
theorem frozenRead_blind {α : Type} {f : State → α} (hf : MemBlind memObjects f) (ho : Blind [.orders] f) (s : State) (a : Nat) : f (s.frozenRead a) = f s := by
  unfold State.frozenRead
  dsimp only
  split
  · rw [freezeWord_eq, ho.orderBytes (by decide)]
    exact hf.readWord (List.Subset.refl _) _ _ _
  · exact hf.readWord (List.Subset.refl _) _ _ _

theorem frozenRead_wordErr (s : State) {a b : Nat} (h : wordBase b ≠ wordBase a) : (s.frozenRead a).wordErr b = s.wordErr b := by
  have hread : (s.readWord false { addr := a }).2.wordErr b = s.wordErr b :=
    ((actBlind_wordErr memObjects b).readWord_flip (fun _ _ => rfl) (List.Subset.refl _) s false { addr := a }).trans (wordErr_flip_ne s _ h)
  unfold State.frozenRead
  dsimp only
  split
  · rw [freezeWord_eq]
    unfold State.wordErr at hread ⊢
    rw [(blind_itg (M := [.orders]) (by decide)).orderBytes (by decide)]
    exact hread
  · exact hread

theorem injected_ctl (s : State) (a : Nat) : (s.injected a).ctl = s.ctl := by
  have hwritten : ∀ x : State, (x.wordWritten a).ctl = x.ctl := fun x => (memBlind_ctl [o7000_WRITEBACKS_CANCELLED]).wordWritten (fun _ _ => rfl) (by decide) x a
  unfold State.injected
  rw [State.wr_ctl, show ∀ (x : State) (e : WordErr), (x.setWord a e).ctl = x.ctl from fun _ _ => rfl, hwritten]
  exact (frozenRead_blind (f := State.ctl) (memBlind_ctl _) (blind_ctl (by decide)) s a)

/-- The word then holds the errors of the masks, and no other word changes. -/
theorem injected_wordErr (s : State) (a b : Nat) :
    (s.injected a).wordErr b = if wordBase b = wordBase a then { data := leNat (s.rdOct o7008_INJECT_DATA_MASK 0), check := s.rdN o7008_INJECT_CHECK_MASK 0 } else s.wordErr b := by
  have hdata : (s.frozenRead a).rdOct o7008_INJECT_DATA_MASK 0 = s.rdOct o7008_INJECT_DATA_MASK 0 :=
    frozenRead_blind (f := (·.rdOct o7008_INJECT_DATA_MASK 0)) (memBlind_rdOct _ _ _) (blind_rdOct (by decide) 0) s a
  have hcheck : (s.frozenRead a).rd o7008_INJECT_CHECK_MASK 0 = s.rd o7008_INJECT_CHECK_MASK 0 :=
    frozenRead_blind (f := (·.rd o7008_INJECT_CHECK_MASK 0)) (memBlind_rd 0 (by decide) (by decide)) (blind_rd (by decide) 0) s a
  have hset : (s.injected a).wordErr b = if wordBase b = wordBase a then
      { data := leNat ((s.frozenRead a).rdOct o7008_INJECT_DATA_MASK 0), check := (s.frozenRead a).rdN o7008_INJECT_CHECK_MASK 0 } else ((s.frozenRead a).wordWritten a).wordErr b := wordErr_setWord _ _ _ _
  rw [hset, hdata]
  unfold State.rdN
  rw [hcheck]
  split_ifs with h
  · rfl
  · rw [wordErr_wordWritten, if_neg h, frozenRead_wordErr s h]

theorem writeInject_done {s : State} (h : s.activeBank = none ∨ s.activeClass (s.rdN o7008_INJECT_ADDR 0) = 0) (c : Ctx) (r : Nat) (v : Int) :
    writeInject c r (.int v) s = (stOK, s.injected (s.rdN o7008_INJECT_ADDR 0)) := by
  have hin : ¬ (s.activeBank.isSome ∧ s.activeClass (s.rdN o7008_INJECT_ADDR 0) ≠ 0) := fun hc => by
    rcases h with h | h
    · exact Bool.false_ne_true ((congrArg Option.isSome h).symm.trans hc.1)
    · exact hc.2 h
  unfold writeInject onInt
  dsimp only
  rw [if_neg hin]
  rfl

/-- A refusal that no result object notes. -/
theorem noteRefusal_high (s : State) (o r : Nat) {k : Nat} (h : 0x1606 ≤ k) : s.noteRefusal o r k = s := by
  unfold State.noteRefusal
  rw [if_neg (by omega), if_neg (by omega)]

theorem writeInject_refused {s : State} (h : s.activeBank ≠ none) (hc : s.activeClass (s.rdN o7008_INJECT_ADDR 0) ≠ 0) (c : Ctx) (r : Nat) (v : Int) :
    writeInject c r (.int v) s = (0x1701, s.wr o7008_INJECT_RESULT 0 0x1701) := if_pos ⟨Option.isSome_iff_ne_none.mpr h, hc⟩

section
variable {s : State} {t port : Nat} (hp : s.powered = true) (ha : s.admits port o7008_INJECT_CMD 0 (.int INJECT_CMD.inject) = true)
include hp ha

theorem injectCmd_done (h : s.activeBank = none ∨ s.activeClass (s.rdN o7008_INJECT_ADDR 0) = 0) (h32 : s.rdN o7008_INJECT_ADDR 0 % 32 = 0) (hlt : s.rdN o7008_INJECT_ADDR 0 < hbmBytes) :
    ∃ u, exec (.injectCmd t port) s = .next u ∧ u.last = ⟨0, none⟩ ∧ u.rd o7008_INJECT_RESULT 0 = 0 ∧
      u.wordErr (s.rdN o7008_INJECT_ADDR 0) = { data := leNat (s.rdOct o7008_INJECT_DATA_MASK 0), check := s.rdN o7008_INJECT_CHECK_MASK 0 } ∧
      (∀ b, wordBase b = b → b ≠ s.rdN o7008_INJECT_ADDR 0 → u.wordErr b = s.wordErr b) := by
  have hbase : wordBase (s.rdN o7008_INJECT_ADDR 0) = s.rdN o7008_INJECT_ADDR 0 := wordBase_hbm hlt h32
  have hwork : ∀ c : Ctx, c.port = port → writeInject c 0 (.int INJECT_CMD.inject) (s.begin t) = (stOK, (s.begin t).injected (s.rdN o7008_INJECT_ADDR 0)) := fun c _ =>
    writeInject_done (s := s.begin t) h c 0 _
  obtain ⟨e, he, hacc⟩ := run_accepted_row (t := t) (h := writeInject) (by decide) hp ha hwork (congrArg Ctl.endAfter (injected_ctl (s.begin t) _))
  have hword := injected_wordErr (s.begin t) (s.rdN o7008_INJECT_ADDR 0)
  refine ⟨_, he, hacc.last, ?_, (hword _).trans (if_pos rfl), fun b hb hne => (hword b).trans (if_neg fun e => hne (hb.symm.trans (e.trans hbase)))⟩
  exact (hacc.rd _ _ (by decide)).trans (State.rd_wr_same _ _ _ _)

theorem injectCmd_refused (h : s.activeBank ≠ none) (hc : s.activeClass (s.rdN o7008_INJECT_ADDR 0) ≠ 0) :
    ∃ u, exec (.injectCmd t port) s = .next u ∧ u.last = ⟨0x1701, none⟩ ∧ u.rd o7008_INJECT_RESULT 0 = 0x1701 ∧ s.keepsRegs u [(o7008_INJECT_RESULT, 0)] ∧ u.works = s.works := by
  have hwork : ∀ c : Ctx, c.port = port → writeInject c 0 (.int INJECT_CMD.inject) (s.begin t) = (0x1701, (s.begin t).wr o7008_INJECT_RESULT 0 0x1701) := fun c _ =>
    writeInject_refused (s := s.begin t) h hc c 0 _
  have hrun := run_refused (t := t) (h := writeInject) hp ha (fun c _ hcp => (congrArg (writeInject c · _ (s.begin t)) (effRow_eq c 0 (by decide))).trans (hwork c hcp)) (by decide) rfl
  rw [noteRefusal_high _ _ _ (by decide)] at hrun
  have hkeeps : s.keepsRegs ((s.begin t).wr o7008_INJECT_RESULT 0 0x1701) [(o7008_INJECT_RESULT, 0)] := (keepsRegs_refl (s.begin t) _).wr _ (List.mem_singleton_self _)
  exact ⟨_, hrun, rfl, (s.begin t).rd_wr_same o7008_INJECT_RESULT 0 0x1701, hkeeps, rfl⟩

end

/-! AUDITOR_MODE (R363). -/

/-- The mode with its alarm and the state that it gives. -/
def State.auditorSet (s : State) (mode : Int) : State := (s.wr o7001_AUDITOR_MODE 0 mode).alarmWhile .MEM_AUDITOR_OFF noInst (mode == AUDITOR_MODE.off)

theorem writeAuditorMode_eq (s : State) (mode : Int) (c : Ctx) (r : Nat) : writeAuditorMode c r (.int mode) s =
    (stOK, (s.auditorSet mode).wr o7001_AUDITOR_STATE 0 (if mode = AUDITOR_MODE.off then AUDITOR_STATE.off else if (s.auditorSet mode).pwr.slowed then AUDITOR_STATE.slowed else AUDITOR_STATE.running)) := rfl

theorem auditorMode_set {s : State} {t port : Nat} {mode : Int} (hp : s.powered = true) (ha : s.admits port o7001_AUDITOR_MODE 0 (.int mode) = true) :
    ∃ u, exec (.auditorMode t port mode) s = .next u ∧ u.last = ⟨0, none⟩ ∧ u.rd o7001_AUDITOR_MODE 0 = mode ∧ (u.stands .MEM_AUDITOR_OFF noInst ↔ mode = AUDITOR_MODE.off) ∧
      u.rd o7001_AUDITOR_STATE 0 = (if mode = AUDITOR_MODE.off then AUDITOR_STATE.off else if s.pwr.slowed then AUDITOR_STATE.slowed else AUDITOR_STATE.running) := by
  have hctl : ((s.begin t).auditorSet mode).ctl = s.ctl := ((blind_ctl (by decide)).toAlarm (List.Subset.refl _)).alarmWhile _ _ _ _
  have hpwr : ((s.begin t).auditorSet mode).pwr = s.pwr := ((blind_pwr (by decide)).toAlarm (List.Subset.refl _)).alarmWhile _ _ _ _
  have hmode : ((s.begin t).auditorSet mode).rd o7001_AUDITOR_MODE 0 = mode :=
    (((blind_rd (by decide) 0).toAlarm (List.Subset.refl _)).alarmWhile _ _ _ _).trans ((s.begin t).rd_wr_same o7001_AUDITOR_MODE 0 mode)
  have hstands : ((s.begin t).auditorSet mode).stands .MEM_AUDITOR_OFF noInst ↔ mode = AUDITOR_MODE.off := (stands_alarmWhile _ _ _ _).trans beq_iff_eq
  obtain ⟨e, he, hacc⟩ := run_accepted_row (t := t) (h := writeAuditorMode) (by decide) hp ha (fun c _ => writeAuditorMode_eq (s.begin t) mode c 0) (congrArg Ctl.endAfter hctl)
  refine ⟨_, he, hacc.last, ?_, ?_, ?_⟩
  · exact (hacc.rd _ _ (by decide)).trans ((State.rd_wr_obj _ _ (by decide)).trans hmode)
  · exact ((endOf_stands _ _ _ _).trans (stands_congr rfl _ _)).trans hstands
  · rw [hacc.rd _ _ (by decide), State.rd_wr_same, hpwr]

/-! Granules (R370). -/

theorem granules_wordWritten (s : State) (a : Nat) : (s.wordWritten a).itg.granules = s.itg.granules := by
  have hf : WordBlind [o7000_WRITEBACKS_CANCELLED] (·.itg.granules) :=
    { alm := fun _ _ => rfl, pair := fun _ _ => rfl, wr := fun _ _ _ _ _ => rfl, obj := fun _ _ _ _ _ => rfl, backs := fun _ _ => rfl, used := fun _ _ _ => rfl, lines := fun _ _ => rfl
      postponed := fun _ _ => rfl }
  exact hf.wordWritten (fun _ _ => rfl) (List.mem_singleton_self _) s a

/-- The listed words of a granule of a bank's image. -/
def State.granuleWords (s : State) (o g : Nat) : List (Nat × WordErr) := s.itg.words.filter (fun e => decide (o + 4096 * g ≤ e.1 ∧ e.1 < o + 4096 * (g + 1)))

theorem granules_foldl_wordWritten (l : List (Nat × WordErr)) : ∀ s : State, (l.foldl (fun s e => s.wordWritten e.1) s).itg.granules = s.itg.granules := by
  induction l with
  | nil => exact fun _ => rfl
  | cons e l ih => exact fun s => (ih _).trans (granules_wordWritten s e.1)

/-- A reload with the kept CRC-32C, but for the alarm of its bank. -/
def State.granuleWhole (s : State) (b g : Nat) (x : BadGranule) : State :=
  let y : State := { s with itg := { s.itg with granules := s.itg.granules.filter (fun y => y != x) } }
  match ((y.bank b).owners.find? (fun r => r.cls == 5 && r.id == b)).map (·.base) with
  | some o => (y.granuleWords o g).foldl (fun s e => s.wordWritten e.1) y
  | none => y

theorem granuleWhole_granules (s : State) (b g : Nat) (x : BadGranule) : (s.granuleWhole b g x).itg.granules = s.itg.granules.filter (fun y => y != x) := by
  unfold State.granuleWhole
  dsimp only
  split
  · exact granules_foldl_wordWritten _ _
  · rfl

section
variable {s : State} {b g : Nat} {data : Bytes} {x : BadGranule} (hx : s.itg.granules.find? (fun y => y.bank == b && y.granule == g && y.reloading) = some x)
include hx

theorem granuleReload_whole (hcrc : crc32c data = crc32c (slice (4096 * g) 4096 (s.bank b).raw)) :
    s.granuleReload b g data = if (s.granuleWhole b g x).itg.granules.any (fun y => y.bank == b) then s.granuleWhole b g x else (s.granuleWhole b g x).clear .MEM_LEDGER_POISON b := by
  unfold State.granuleReload
  rw [hx]
  exact if_pos hcrc

theorem granuleReload_failed (hcrc : crc32c data ≠ crc32c (slice (4096 * g) 4096 (s.bank b).raw)) :
    s.granuleReload b g data = { s with itg := { s.itg with granules := s.itg.granules.map (fun y => if y = x then { y with reloading := false } else y) } } := by
  unfold State.granuleReload
  rw [hx]
  exact if_neg hcrc

end

/-- Settles O34. -/
theorem diagnosisActsOnMemory : Obligations.DiagnosisActsOnMemory := by
  intro s t port hp
  refine ⟨fun ha h32 hlt => ⟨fun h => injectCmd_done hp ha h h32 hlt, injectCmd_refused hp ha⟩, fun mode ha => auditorMode_set hp ha, fun b g data x hx => ⟨fun hcrc => ?_, fun hcrc => ?_⟩⟩
  · have hclear : AlarmBlind (·.itg.granules) := ⟨fun _ _ => rfl, fun _ _ => rfl, fun _ _ _ _ _ => rfl⟩
    have hgranules : ∀ p : Prop, [Decidable p] → (if p then (s.begin t).granuleWhole b g x else ((s.begin t).granuleWhole b g x).clear .MEM_LEDGER_POISON b).itg.granules =
        s.itg.granules.filter (fun y => y != x) := fun p _ => by
      split
      · exact granuleWhole_granules (s.begin t) b g x
      · exact (hclear.clear _ _ _).trans (granuleWhole_granules (s.begin t) b g x)
    refine ⟨_, run_work (t := t) (f := (·.granuleReload b g data)) hp (granuleReload_whole (s := s.begin t) hx hcrc), hgranules _, fun honly => ?_⟩
    have hlast : ((s.begin t).granuleWhole b g x).itg.granules.any (fun y => y.bank == b) = false := by
      rw [granuleWhole_granules]
      refine List.any_eq_false.mpr fun y hy hb => ?_
      obtain ⟨hmem, hne⟩ := List.mem_filter.mp hy
      exact absurd (honly y hmem (beq_iff_eq.mp hb)) (by simpa using hne)
    rw [hlast, if_neg Bool.false_ne_true, finish_stands]
    exact not_stands_clear _ _ _
  · refine ⟨_, run_work (t := t) (f := (·.granuleReload b g data)) hp (granuleReload_failed (s := s.begin t) hx hcrc), ?_, rfl, keepsRegs_refl _ _, rfl⟩
    exact List.mem_map.mpr ⟨x, List.mem_of_find?_eq_some hx, if_pos rfl⟩

end Sys2Proof.Machine
end

section
/-! SUPPORT. Selection (R73, R74): what a domain chooses from, and that it has selected what it chooses once it has run. -/

namespace Sys2Proof.Machine
open Sys2Proof

/-! What a choice rests on. -/

theorem loopBlind_plan (L : List Nat) (d k : Nat) : LoopBlind L d (fun s => (s.td k).plan) where
  wr := fun _ _ _ _ => rfl
  td := fun s x hx => by
    by_cases hk : k = d
    · rw [hk]
      exact (congrArg Td.plan (s.td_setTd d x)).trans hx
    · exact congrArg (fun y : Option Td => (y.getD {}).plan) (storeGet_put_ne natLt hk x s.tds)
  alarm := fun s u a _ ht => AlarmBlind.touch (f := fun s => (s.td k).plan) ⟨fun _ _ => rfl, fun _ _ => rfl, fun _ _ _ _ _ => rfl⟩ ht

theorem loopBlind_row {L : List Nat} {d o r : Nat} (hr : r ≠ d ∨ o ∉ L) (ho : o ∉ alarmSideObjects) : LoopBlind L d (·.rd o r) where
  wr := fun s o' v hm => s.rd_wr_ne v fun e => hr.elim (fun h => h (congrArg Prod.snd e)) fun h => h ((show o = o' from congrArg Prod.fst e) ▸ hm)
  td := fun _ _ _ => rfl
  alarm := fun _ _ _ _ ht => (alarmBlind_rd r ho).touch ht

/-- Two states whose candidates and whose plans of a domain agree. -/
structure SameField (s u : State) (d : Nat) : Prop where
  plan : (u.td d).plan = (s.td d).plan
  cand : ∀ c, u.candState c = s.candState c
  rate : ∀ c, u.rd o2200_CAND_RATE c = s.rd o2200_CAND_RATE c

namespace SameField

variable {s u : State} {d : Nat} (h : SameField s u d)
include h

theorem rankOf (c : Nat) : u.rankOf d c = s.rankOf d c := congrArg (fun p : Nat × List Nat × Bool × Bool => p.2.1.getD c 0) h.plan

theorem revertive : (u.td d).revertive = (s.td d).revertive := congrArg (fun p : Nat × List Nat × Bool × Bool => p.2.2.1) h.plan

theorem eligible : u.eligible d = s.eligible d := by
  have hrate : (u.td d).rate = (s.td d).rate := congrArg Prod.fst h.plan
  have htwin : (u.td d).twinLost = (s.td d).twinLost := congrArg (fun p : Nat × List Nat × Bool × Bool => p.2.2.2) h.plan
  funext c
  unfold State.eligible State.qualified State.compatible State.rdN
  rw [h.cand, h.rankOf, hrate, h.rate, htwin]

theorem bestRank : u.bestRank d = s.bestRank d := by
  unfold State.bestRank
  rw [h.eligible]
  exact congrArg (fun l : List Nat => l.foldl min 9) (List.map_congr_left fun c _ => h.rankOf c)

/-- The same field and the same selection make the same choice. -/
theorem choice (hsel : u.selected d = s.selected d) : u.choice d = s.choice d := by
  unfold State.choice
  simp only [h.eligible, h.rankOf, h.bestRank, h.revertive, hsel]

end SameField

/-- The steps of a loop leave the field of every domain. -/
theorem SameField.of_blind {s u : State} {d : Nat} (h : ∀ {α : Type} {f : State → α}, LoopBlind loopObjects d f → f u = f s) (k : Nat) : SameField s u k where
  plan := h (loopBlind_plan _ _ _)
  cand := fun c => h (loopBlind_row (r := c) (.inr (by decide)) (by decide))
  rate := fun c => h (loopBlind_row (r := c) (.inr (by decide)) (by decide))

theorem selectFor_field (s : State) (d k : Nat) : SameField s (s.selectFor d) k := .of_blind (fun hf => hf.selectFor (List.Subset.refl _) s) k

/-- The selection of another domain is its own. -/
theorem selectFor_selected_ne (s : State) {d k : Nat} (h : k ≠ d) : (s.selectFor d).selected k = s.selected k :=
  congrArg Int.toNat ((loopBlind_row (L := loopObjects) (.inl h) (by decide)).selectFor (List.Subset.refl _) s)

theorem selectFor_choice_ne (s : State) {d k : Nat} (h : k ≠ d) : (s.selectFor d).choice k = s.choice k := (selectFor_field s d k).choice (selectFor_selected_ne s h)

/-! A domain that has run its selection has what it chooses. -/

/-- What a domain has selected is what it chooses, none when it chooses none. -/
def State.settled (s : State) (d : Nat) : Prop := (∀ c, s.choice d = some c → s.selected d = c) ∧ (s.choice d = none → 8 ≤ s.selected d)

theorem selected_selectCand (s : State) (d c : Nat) : (s.selectCand d c).selected d = c := by
  have hf : LoopBlind (settleObjects ++ [o2100_REF_SWITCHES, o2100_DPLL_STATE]) d (·.rd o2100_SELECTED_REF d) := loopBlind_row (.inr (by decide)) (by decide)
  unfold State.selectCand
  extract_lets old st x y src z
  have hx : x.rd o2100_SELECTED_REF d = c := State.rd_wr_same _ _ _ _
  have hy : y.rd o2100_SELECTED_REF d = c := by
    dsimp only [y]
    split
    · exact (hf.wr _ _ _ (by decide)).trans hx
    · exact hx
  clear_value x y
  have hz : z.rd o2100_SELECTED_REF d = c := by
    dsimp only [z]
    split
    · exact (hf.td _ _ (by rfl)).trans ((hf.wr _ _ _ (by decide)).trans hy)
    · exact (hf.td _ _ (by rfl)).trans ((hf.wr _ _ _ (by decide)).trans hy)
  exact congrArg Int.toNat ((hf.settle (by decide) z).trans hz)

theorem selected_loseRef (s : State) (d : Nat) : 8 ≤ (s.loseRef d).selected d := by
  have hf : LoopBlind (settleObjects ++ [o2100_DPLL_STATE, o2100_CONTROL_VALUE, o2100_REALIGN_STATE, o2100_REALIGN_RESULT, o2100_HOLDOVER_VALUE, o2100_HOLDOVER_QUALITY, o2100_HOLDOVER_SECONDS]) d
      (·.rd o2100_SELECTED_REF d) := loopBlind_row (.inr (by decide)) (by decide)
  unfold State.loseRef
  extract_lets st x src y held src' z
  have hx : 8 ≤ x.selected d := by
    dsimp only [x]
    split
    · rw [State.selected, State.rdN, State.rd_wr_same]
      decide
    · omega
  have hy : y.rd o2100_SELECTED_REF d = x.rd o2100_SELECTED_REF d := by
    dsimp only [y]
    split
    · exact (hf.td _ _ (by rfl)).trans ((hf.wr _ _ _ (by decide)).trans (hf.wr _ _ _ (by decide)))
    · rfl
  clear_value x y held
  have hz : z.rd o2100_SELECTED_REF d = y.rd o2100_SELECTED_REF d := by
    dsimp only [z]
    split
    · exact (hf.td _ _ (by rfl)).trans ((hf.wr _ _ _ (by decide)).trans ((hf.wr _ _ _ (by decide)).trans ((hf.wr _ _ _ (by decide)).trans (hf.wr _ _ _ (by decide)))))
    · split
      · exact (hf.wr _ _ _ (by decide)).trans ((hf.td _ _ (by rfl)).trans (hf.wr _ _ _ (by decide)))
      · rfl
  have hlast : ((z.notePhaseSource d).tdAlarms d).rd o2100_SELECTED_REF d = x.rd o2100_SELECTED_REF d :=
    (hf.tdAlarms _).trans ((hf.notePhaseSource (by decide) z).trans (hz.trans hy))
  unfold State.selected State.rdN at hx ⊢
  rw [hlast]
  exact hx

/-- The first of the best candidates, which a domain takes that keeps none. -/
def State.firstBest (s : State) (d : Nat) : Option Nat := candList.find? (fun c => s.eligible d c && s.rankOf d c == s.bestRank d)

theorem choice_eq (s : State) (d : Nat) : s.choice d =
    if s.selected d < 8 ∧ s.eligible d (s.selected d) then (if (s.td d).revertive = false ∨ s.rankOf d (s.selected d) = s.bestRank d then some (s.selected d) else s.firstBest d) else s.firstBest d := rfl

theorem firstBest_some {s : State} {d c : Nat} (h : s.firstBest d = some c) : c < 8 ∧ s.eligible d c = true ∧ s.rankOf d c = s.bestRank d := by
  have hin : ∀ k ∈ candList, k < 8 := by decide
  unfold State.firstBest at h
  have hbest := List.find?_some h
  obtain ⟨he, hr⟩ := Bool.and_eq_true_iff.mp hbest
  exact ⟨hin c (List.mem_of_find?_eq_some h), he, beq_iff_eq.mp hr⟩

/-- What is chosen is kept, or the first of the best. -/
theorem choice_some {s : State} {d c : Nat} (h : s.choice d = some c) : (s.selected d = c ∧ s.eligible d c = true) ∨ s.firstBest d = some c := by
  rw [choice_eq] at h
  split_ifs at h with hcur
  · obtain rfl := Option.some.inj h
    exact .inl ⟨rfl, hcur.2⟩
  · exact .inr h
  · exact .inr h

theorem choice_none {s : State} {d : Nat} (h : s.choice d = none) : s.firstBest d = none := by
  rw [choice_eq] at h
  split_ifs at h
  · exact h
  · exact h

theorem choice_eligible {s : State} {d c : Nat} (h : s.choice d = some c) : s.eligible d c = true := by
  rcases choice_some h with h | h
  · exact h.2
  · exact (firstBest_some h).2.1

theorem SameField.firstBest {s u : State} {d : Nat} (h : SameField s u d) : u.firstBest d = s.firstBest d := by
  unfold State.firstBest
  simp only [h.eligible, h.rankOf, h.bestRank]

theorem selectFor_settled (s : State) (d : Nat) : (s.selectFor d).settled d := by
  have hfield := selectFor_field s d d
  cases hc : s.choice d with
  | some c =>
    by_cases hsel : s.selected d = c
    · have hsame : s.selectFor d = s := by
        unfold State.selectFor
        rw [hc]
        exact if_pos hsel
      rw [hsame]
      exact ⟨fun k hk => hsel.trans (Option.some.inj (hc.symm.trans hk)), fun hn => absurd (hc.symm.trans hn) (Option.some_ne_none c)⟩
    · have htake : s.selectFor d = s.selectCand d c := by
        unfold State.selectFor
        rw [hc]
        exact if_neg hsel
      obtain ⟨hlt, he, hr⟩ := firstBest_some ((choice_some hc).resolve_left fun h => hsel h.1)
      have hnew : (s.selectFor d).selected d = c := htake ▸ selected_selectCand s d c
      have hchoice : (s.selectFor d).choice d = some c := by
        rw [choice_eq, hnew, hfield.eligible, hfield.rankOf, hfield.bestRank, if_pos ⟨hlt, he⟩, if_pos (.inr hr)]
      exact ⟨fun k hk => hnew.trans (Option.some.inj (hchoice.symm.trans hk)), fun hn => absurd (hchoice.symm.trans hn) (Option.some_ne_none c)⟩
  | none =>
    have hlose : s.selectFor d = s.loseRef d := by
      unfold State.selectFor
      rw [hc]
    have hnew : 8 ≤ (s.selectFor d).selected d := hlose ▸ selected_loseRef s d
    have hchoice : (s.selectFor d).choice d = none := by
      rw [choice_eq, if_neg fun h => Nat.not_lt_of_le hnew h.1, hfield.firstBest]
      exact choice_none hc
    exact ⟨fun k hk => absurd (hchoice.symm.trans hk).symm (Option.some_ne_none k), fun _ => hnew⟩

theorem settled_congr {s u : State} {d : Nat} (hchoice : u.choice d = s.choice d) (hsel : u.selected d = s.selected d) : u.settled d ↔ s.settled d := by
  unfold State.settled
  rw [hchoice, hsel]

/-- Once a domain has run its selection, and after, it has what it chooses. -/
theorem selectAll_settled {d : Nat} (l : List Nat) : ∀ {s : State}, s.settled d ∨ d ∈ l → (l.foldl State.selectFor s).settled d := by
  induction l with
  | nil => exact fun h => h.resolve_right List.not_mem_nil
  | cons k l ih =>
    intro s h
    by_cases hk : d = k
    · exact ih (.inl (hk ▸ selectFor_settled s k))
    · refine ih (h.imp (fun h => ?_) fun h => (List.mem_cons.mp h).resolve_left hk)
      exact (settled_congr (selectFor_choice_ne s hk) (selectFor_selected_ne s hk)).mpr h

/-- A settled domain keeps no candidate that is not qualified, and none that it may not take. -/
theorem settled_not_selected {s : State} {d c : Nat} (h : s.settled d) (hc : c < 8) (he : s.eligible d c = false) : s.selected d ≠ c := by
  intro hsel
  cases hchoice : s.choice d with
  | some k =>
    have hk : k = c := (h.1 k hchoice).symm.trans hsel
    exact Bool.false_ne_true (he.symm.trans (hk ▸ choice_eligible hchoice))
  | none => exact absurd (h.2 hchoice) (by rw [hsel]; omega)

theorem eligible_unqualified {s : State} {d c : Nat} (h : s.candState c ≠ CAND_STATE.qualified) : s.eligible d c = false := by
  unfold State.eligible State.qualified
  rw [beq_eq_false_iff_ne.mpr h]
  rfl

/-! The update of each second (R76). -/

theorem takeBandwidth_field (s : State) (d k : Nat) : SameField s (s.takeBandwidth d) k := .of_blind (fun hf => hf.takeBandwidth s) k

theorem takeBandwidths_settled {d : Nat} (l : List Nat) : ∀ {s : State}, s.settled d → (l.foldl State.takeBandwidth s).settled d := by
  induction l with
  | nil => exact fun h => h
  | cons k l ih => exact fun {s} h => ih ((settled_congr ((takeBandwidth_field s k d).choice rfl) rfl).mpr h)

/-- The count and the flag of the mode agree with the states of the candidates. -/
def State.counted (s : State) : Prop :=
  s.rd o2201_QUALIFIED_COUNT 0 = ((candList.filter s.qualified).length : Nat) ∧ s.rd o2201_ENSEMBLE_ACTIVE 0 = boolVal (decide (3 ≤ (candList.filter s.qualified).length))

theorem counted_congr {s u : State} (hstate : ∀ c, u.candState c = s.candState c) (hcount : u.rd o2201_QUALIFIED_COUNT 0 = s.rd o2201_QUALIFIED_COUNT 0)
    (hmode : u.rd o2201_ENSEMBLE_ACTIVE 0 = s.rd o2201_ENSEMBLE_ACTIVE 0) (h : s.counted) : u.counted := by
  have hq : u.qualified = s.qualified := funext fun c => congrArg (· == CAND_STATE.qualified) (hstate c)
  unfold State.counted
  rw [hq, hcount, hmode]
  exact h

/-- A step that touches neither the candidates' states nor the count and the mode keeps them in agreement. -/
theorem counted_of_blind {s u : State} (h : ∀ {α : Type} {f : State → α}, Blind (.alarm .REF_ENSEMBLE_THIN :: .obj o2200_BASIS :: .obj o2200_OFFSET_ENSEMBLE :: loopMarks) f → f u = f s) (hs : s.counted) : u.counted :=
  counted_congr (fun c => h (blind_rd (by decide) c)) (h (blind_rd (by decide) 0)) (h (blind_rd (by decide) 0)) hs

theorem modeNow_counted (s : State) : s.modeNow.counted := by
  have hstate : ∀ c, ((s.wr o2201_ENSEMBLE_ACTIVE 0 (boolVal (decide (3 ≤ (candList.filter s.qualified).length)))).countQualified).candState c = s.candState c := fun c =>
    (State.rd_wr_obj _ _ (by decide)).trans (State.rd_wr_obj _ _ (by decide))
  have hset : ((s.wr o2201_ENSEMBLE_ACTIVE 0 (boolVal (decide (3 ≤ (candList.filter s.qualified).length)))).countQualified).counted := by
    have hq : ((s.wr o2201_ENSEMBLE_ACTIVE 0 (boolVal (decide (3 ≤ (candList.filter s.qualified).length)))).countQualified).qualified = s.qualified :=
      funext fun c => congrArg (· == CAND_STATE.qualified) (hstate c)
    have hq' : (s.wr o2201_ENSEMBLE_ACTIVE 0 (boolVal (decide (3 ≤ (candList.filter s.qualified).length)))).qualified = s.qualified :=
      funext fun c => congrArg (· == CAND_STATE.qualified) (State.rd_wr_obj _ _ (by decide))
    unfold State.counted
    rw [hq]
    unfold State.countQualified
    rw [hq', State.rd_wr_same, State.rd_wr_obj _ _ (by decide), State.rd_wr_same]
    exact ⟨rfl, rfl⟩
  unfold State.modeNow
  extract_lets on x
  have hx : x.counted := counted_of_blind (fun hf => hf.alarmWhile (by decide) _ _ _) hset
  clear_value x
  split
  · exact hx
  · refine counted_of_blind (fun hf => foldl_blind (fun s c => ?_) _ x) hx
    split
    · rfl
    · exact (hf.wr (by decide) _ _ _).trans (hf.wr (by decide) _ _ _)

theorem ensembleMode_counted (s : State) : s.ensembleMode.counted := by
  refine counted_of_blind (fun hf => foldl_blind (fun s c => ?_) _ s.modeNow) (modeNow_counted s)
  split_ifs
  · exact (hf.wr (by decide) _ _ _).trans (hf.wr (by decide) _ _ _)
  · exact (hf.wr (by decide) _ _ _).trans (hf.wr (by decide) _ _ _)
  · exact (hf.wr (by decide) _ _ _).trans (hf.wr (by decide) _ _ _)

/-- The update's last steps, from the ensemble mode on. -/
theorem selection_update (s : State) : let u := tdList.foldl State.takeBandwidth (tdList.foldl State.selectFor s.ensembleMode)
    u.counted ∧ ∀ d < 4, u.settled d := by
  intro u
  constructor
  · exact counted_of_blind (fun hf => (foldl_blind (fun s d => hf.setTd (by decide) _ _ _) _ _).trans (foldl_blind (fun s d => hf.selectFor (by decide) s d) _ s.ensembleMode)) (ensembleMode_counted s)
  · intro d hd
    have hin : ∀ k < 4, k ∈ tdList := by decide
    exact takeBandwidths_settled _ (selectAll_settled _ (.inr (hin d hd)))

/-- The update's steps before the ensemble mode. -/
def State.refMeasured (s : State) (offsets : List (Nat × Int)) : State :=
  let x := (tdList.foldl State.loopSecond { s with ptp := { s.ptp with secFrom := s.now, clkFrom := s.clk } }).takeRanks.takeOffsets ((4, s.clockOffset) :: offsets)
  x.checkLimits.arbitration.waits (candList.filter x.withinLimits)

theorem refUpdate_eq (s : State) (offsets : List (Nat × Int)) : s.refUpdate offsets = tdList.foldl State.takeBandwidth (tdList.foldl State.selectFor (s.refMeasured offsets).ensembleMode) := rfl

theorem settled_finish (s w : State) (d : Nat) : (s.finish w).settled d ↔ w.settled d := settled_congr rfl rfl

theorem counted_finish (s w : State) : (s.finish w).counted ↔ w.counted := Iff.rfl

/-- Settles O10. -/
theorem referenceUpdateSelects : Obligations.ReferenceUpdateSelects := by
  intro s t offsets hp
  obtain ⟨hcounted, hsettled⟩ := selection_update ((s.begin t).refMeasured offsets)
  have hc := (counted_finish (s.begin t) _).mpr hcounted
  exact ⟨_, run_work (t := t) (f := (·.refUpdate offsets)) hp (refUpdate_eq (s.begin t) offsets), hc.1, hc.2, fun d hd => (settled_finish (s.begin t) _ d).mpr (hsettled d hd)⟩

end Sys2Proof.Machine
end

section
/-! SUPPORT. Candidates come and go (R63, R70, R72, R108). -/

namespace Sys2Proof.Machine
open Sys2Proof

/-! What a step that touches no field of a domain leaves of its selection. -/

theorem SameField.of_marks {M : List Mark} {s u : State} (htds : .tds ∉ M) (hstate : .obj o2200_CAND_STATE ∉ M) (hrate : .obj o2200_CAND_RATE ∉ M)
    (h : ∀ {α : Type} {f : State → α}, Blind M f → f u = f s) (d : Nat) : SameField s u d where
  plan := congrArg (fun m => ((storeGet d m).getD ({} : Td)).plan) (h (blind_tds htds))
  cand := fun c => h (blind_rd hstate c (.inr (by decide)))
  rate := fun c => h (blind_rd hrate c (.inr (by decide)))

theorem settled_of_marks {M : List Mark} {s u : State} (htds : .tds ∉ M) (hstate : .obj o2200_CAND_STATE ∉ M) (hrate : .obj o2200_CAND_RATE ∉ M) (hsel : .obj o2100_SELECTED_REF ∉ M)
    (h : ∀ {α : Type} {f : State → α}, Blind M f → f u = f s) {d : Nat} (hs : s.settled d) : u.settled d := by
  have hu : u.selected d = s.selected d := congrArg Int.toNat (h (blind_rd hsel d (.inr (by decide))))
  exact (settled_congr ((SameField.of_marks htds hstate hrate h d).choice hu) hu).mpr hs

/-- After a loss every domain has what it chooses. -/
theorem lostSelections_settled (s : State) (c from_ : Nat) {d : Nat} (hd : d < 4) : (s.lostSelections c from_).settled d := by
  have hin : ∀ k < 4, k ∈ tdList := by decide
  exact selectAll_settled _ (.inr (hin d hd))

/-- What a mode and the selections after a loss touch. -/
def reselectMarks : List Mark := modeMarks ++ loopMarks

theorem Blind.reselect {M : List Mark} {α : Type} {f : State → α} (hf : Blind M f) (h : reselectMarks ⊆ M) (s : State) (c from_ : Nat) : f (s.modeNow.lostSelections c from_) = f s :=
  (hf.lostSelections (List.Subset.trans (by decide) h) _ _ _).trans (hf.modeNow (List.Subset.trans (by decide) h) _)

theorem cand_setCand (s : State) (c : Nat) (x : Cand) : (s.setCand c x).cand c = x := by
  unfold State.setCand State.cand
  rw [storeGet_put_same]
  rfl

/-! Loss (R70, R72). -/

/-- A candidate without signal. -/
def State.silenced (s : State) (c : Nat) : State := s.setCand c { s.cand c with present := false, samples := [] }

/-- A qualified candidate is lost: it waits from the return of its signal on. -/
def State.qualifiedLost (s : State) (c : Nat) : State :=
  (((((s.silenced c).raiseRefLoss c).wr o2200_CAND_STATE c CAND_STATE.restoring).startWait c).wr o2200_DISQUAL_REASON c DISQUAL_REASON.loss).countQualified

theorem refLoss_qualified {s : State} {c : Nat} (h : s.candState c = CAND_STATE.qualified) : ∃ k, s.refLoss c = (s.qualifiedLost c).modeNow.lostSelections c k := by
  unfold State.refLoss
  rw [h]
  exact ⟨_, rfl⟩

/-- A candidate that was measured is lost: it is absent. -/
def State.measuringLost (s : State) (c : Nat) : State := ((s.silenced c).raiseRefLoss c).wr o2200_CAND_STATE c CAND_STATE.absent

theorem refLoss_measuring {s : State} {c : Nat} (h : s.candState c = CAND_STATE.measuring) :
    ∃ k, s.refLoss c = (s.measuringLost c).modeNow.lostSelections c k := by
  unfold State.refLoss
  rw [h]
  exact ⟨_, rfl⟩

theorem silenced_cand (s : State) (c : Nat) : (s.silenced c).cand c = { s.cand c with present := false, samples := [] } := cand_setCand _ _ _

theorem stands_raiseRefLoss (s : State) (c : Nat) : (s.raiseRefLoss c).stands .REF_LOSS c := (stands_raiseWith _ _ _ _ _ _ _ _).mpr (.inr ⟨rfl, rfl⟩)

theorem blind_cand {M : List Mark} (h : .cands ∉ M) (c : Nat) : Blind M (·.cand c) := (blind_cands h).comp fun l => (storeGet c l).getD {}

theorem qualifiedLost_cand (s : State) (c : Nat) : ((s.qualifiedLost c).cand c).waitFrom = none := by
  have hloss : ((s.silenced c).raiseRefLoss c).cand c = (s.silenced c).cand c := (blind_cand (M := [.alarm .REF_LOSS]) (by decide) c).raiseRefLoss (by decide) _ _
  have hpresent : (((s.silenced c).raiseRefLoss c).cand c).present = false := by rw [hloss, silenced_cand]
  have hwait : (s.qualifiedLost c).cand c = ((((s.silenced c).raiseRefLoss c).wr o2200_CAND_STATE c CAND_STATE.restoring).startWait c).cand c := rfl
  rw [hwait]
  unfold State.startWait
  rw [cand_setCand, show (((s.silenced c).raiseRefLoss c).wr o2200_CAND_STATE c CAND_STATE.restoring).cand c = ((s.silenced c).raiseRefLoss c).cand c from rfl, hpresent]
  rfl

theorem qualifiedLost_state (s : State) (c : Nat) : (s.qualifiedLost c).candState c = CAND_STATE.restoring :=
  (State.rd_wr_obj _ _ (by decide)).trans ((State.rd_wr_obj _ _ (by decide)).trans (((s.silenced c).raiseRefLoss c).rd_wr_same o2200_CAND_STATE c CAND_STATE.restoring))

theorem qualifiedLost_reason (s : State) (c : Nat) : (s.qualifiedLost c).rd o2200_DISQUAL_REASON c = DISQUAL_REASON.loss :=
  (State.rd_wr_obj _ _ (by decide)).trans (State.rd_wr_same _ _ _ _)

theorem qualifiedLost_wait (s : State) (c : Nat) : (s.qualifiedLost c).rd o2201_WTR_S 0 = s.rd o2201_WTR_S 0 := by
  have hf : Blind candMarks (·.rd o2201_WTR_S 0) := blind_rd (by decide) 0
  exact (hf.countQualified (by decide) _).trans ((hf.wr (by decide) _ _ _).trans ((hf.startWait (by decide) _ _).trans ((hf.wr (by decide) _ _ _).trans
    ((hf.raiseRefLoss (by decide) _ _).trans (hf.setCand (by decide) _ _ _)))))

theorem qualifiedLost_stands (s : State) (c : Nat) : (s.qualifiedLost c).stands .REF_LOSS c := (stands_congr rfl _ _).mpr (stands_raiseRefLoss (s.silenced c) c)

theorem qualifiedLost_now (s : State) (c : Nat) : (s.qualifiedLost c).now = s.now := (blind_now (M := candMarks)).raiseRefLoss (by decide) (s.silenced c) c

theorem measuringLost_state (s : State) (c : Nat) : (s.measuringLost c).candState c = CAND_STATE.absent := State.rd_wr_same _ _ _ _

theorem measuringLost_present (s : State) (c : Nat) : ((s.measuringLost c).cand c).present = false := by
  have hloss : (s.measuringLost c).cand c = (s.silenced c).cand c := (blind_cand (M := [.alarm .REF_LOSS]) (by decide) c).raiseRefLoss (by decide) (s.silenced c) c
  rw [hloss, silenced_cand]

theorem waitLeft_restoring {s : State} {c : Nat} (h : s.candState c = CAND_STATE.restoring) (hw : (s.cand c).waitFrom = none) : s.waitLeft c = s.rdN o2201_WTR_S 0 := by
  unfold State.waitLeft
  rw [if_neg (fun hne => hne h), hw]

theorem waitLeft_other {s : State} {c : Nat} (h : s.candState c ≠ CAND_STATE.restoring) : s.waitLeft c = 0 := if_pos h

/-! What the end of a command shows of a candidate. -/

theorem finish_waitLeft (s w : State) (c : Nat) (hnow : w.now = s.now) : (s.finish w).waitLeft c = w.waitLeft c := by
  unfold State.waitLeft
  rw [show (s.finish w).now = w.now from hnow.symm]
  rfl

theorem finish_selected (s w : State) (d : Nat) : (s.finish w).selected d = w.selected d := rfl

theorem finish_candState (s w : State) (c : Nat) : (s.finish w).candState c = w.candState c := rfl

theorem finish_cand (s w : State) (c : Nat) : (s.finish w).cand c = w.cand c := rfl

section
variable {s : State} {t c : Nat} (hp : s.powered = true) (hc : c < 8)
include hp hc

theorem refLossOfSignal_run {w : State} (hw : (s.begin t).refLoss c = w) : exec (.refLossOfSignal t c) s = .next ((s.begin t).finish w) :=
  run_work (t := t) (f := fun s => if c < 8 then s.refLoss c else s.twinLoss (c - 8)) hp ((if_pos hc).trans hw)

theorem refLossOfSignal_qualified (h : s.candState c = CAND_STATE.qualified) : ∃ u, exec (.refLossOfSignal t c) s = .next u ∧ u.candState c = CAND_STATE.restoring ∧
    u.waitLeft c = s.rdN o2201_WTR_S 0 ∧ u.rd o2200_DISQUAL_REASON c = DISQUAL_REASON.loss ∧ (∀ d < 4, u.selected d ≠ c) ∧ u.stands .REF_LOSS c := by
  obtain ⟨k, hk⟩ := refLoss_qualified (s := s.begin t) h
  have hstate := qualifiedLost_state (s.begin t) c
  have hcand := qualifiedLost_cand (s.begin t) c
  have hwtr : ((s.begin t).qualifiedLost c).rd o2201_WTR_S 0 = s.rd o2201_WTR_S 0 := qualifiedLost_wait (s.begin t) c
  have hreason := qualifiedLost_reason (s.begin t) c
  have hloss := qualifiedLost_stands (s.begin t) c
  have hnow := qualifiedLost_now (s.begin t) c
  generalize (s.begin t).qualifiedLost c = y at hk hstate hcand hwtr hreason hloss hnow
  have hsee : ∀ {α : Type} {f : State → α}, Blind reselectMarks f → f (y.modeNow.lostSelections c k) = f y := fun hf => hf.reselect (List.Subset.refl _) y c k
  rw [← hsee (blind_rd (by decide) c)] at hreason
  rw [← hsee (blind_rd (by decide) 0)] at hwtr
  rw [← hsee blind_now] at hnow
  replace hstate : (y.modeNow.lostSelections c k).candState c = CAND_STATE.restoring := (hsee (blind_rd (by decide) c)).trans hstate
  replace hcand : ((y.modeNow.lostSelections c k).cand c).waitFrom = none := (congrArg Cand.waitFrom (hsee (blind_cand (by decide) c))).trans hcand
  replace hloss : (y.modeNow.lostSelections c k).stands .REF_LOSS c := (iff_of_eq (hsee (blind_stands (by decide) (by decide) c))).mpr hloss
  refine ⟨_, refLossOfSignal_run hp hc hk, (finish_candState _ _ _).trans hstate, ?_, (State.finish_rd _ _ _ _).trans hreason, fun d hd => ?_, (finish_stands _ _ _ _).mpr hloss⟩
  · rw [finish_waitLeft _ _ _ hnow, waitLeft_restoring hstate hcand]
    exact congrArg Int.toNat hwtr
  · rw [finish_selected]
    refine settled_not_selected (lostSelections_settled y.modeNow c k hd) hc (eligible_unqualified fun hq => ?_)
    exact absurd (hstate.symm.trans hq) (by decide)

theorem refLossOfSignal_measuring (h : s.candState c = CAND_STATE.measuring) : ∃ u, exec (.refLossOfSignal t c) s = .next u ∧ u.candState c = CAND_STATE.absent ∧ (u.cand c).present = false := by
  obtain ⟨k, hk⟩ := refLoss_measuring (s := s.begin t) h
  have hstate := measuringLost_state (s.begin t) c
  have hpresent := measuringLost_present (s.begin t) c
  generalize (s.begin t).measuringLost c = y at hk hstate hpresent
  have hsee : ∀ {α : Type} {f : State → α}, Blind reselectMarks f → f (y.modeNow.lostSelections c k) = f y := fun hf => hf.reselect (List.Subset.refl _) y c k
  rw [← hsee (blind_cand (by decide) c)] at hpresent
  replace hstate : (y.modeNow.lostSelections c k).candState c = CAND_STATE.absent := (hsee (blind_rd (by decide) c)).trans hstate
  exact ⟨_, refLossOfSignal_run hp hc hk, (finish_candState _ _ _).trans hstate, (congrArg Cand.present (finish_cand _ _ _)).trans hpresent⟩

end

/-! Signal (R70, R91, R108). -/

/-- A candidate with a signal, its loss cleared. -/
def State.heard (s : State) (c : Nat) : State := (s.setCand c { s.cand c with present := true, samples := [] }).clear .REF_LOSS c

theorem heard_cand (s : State) (c : Nat) : (s.heard c).cand c = { s.cand c with present := true, samples := [] } :=
  ((blind_cand (M := [.alarm .REF_LOSS]) (by decide) c).clear (by decide) _ _).trans (cand_setCand _ _ _)

theorem heard_state (s : State) (c : Nat) : (s.heard c).candState c = s.candState c :=
  ((blind_rd (M := [.alarm .REF_LOSS, .cands]) (by decide) c).clear (by decide) _ _).trans ((blind_rd (M := [.alarm .REF_LOSS, .cands]) (by decide) c).setCand (by decide) _ _ _)

/-- LREC0, LREC1 and TWIN come with their rate. -/
def State.heardRate (s : State) (c rate : Nat) : State := if 5 ≤ c then (s.heard c).wr o2200_CAND_RATE c rate else s.heard c

theorem Blind.heardRate {M : List Mark} {α : Type} {f : State → α} (hf : Blind M f) (h : .obj o2200_CAND_RATE ∈ M) (s : State) (c rate : Nat) : f (s.heardRate c rate) = f (s.heard c) := by
  unfold State.heardRate
  split
  · exact hf.wr h _ _ _
  · rfl

theorem refPresent_absent {s : State} {c : Nat} (rate : Nat) (h : s.candState c = CAND_STATE.absent) : s.refPresent c rate = (s.heardRate c rate).wr o2200_CAND_STATE c CAND_STATE.measuring :=
  if_pos (((blind_rd (by decide) c).heardRate (M := [.obj o2200_CAND_RATE]) (by decide) s c rate).trans ((heard_state s c).trans h))

theorem refSignalPresent_absent {s : State} {t c : Nat} (rate : Nat) (hp : s.powered = true) (hc : c < 8) (h : s.candState c = CAND_STATE.absent)
    (h4 : c = 4 → s.rd o2301_CLOCK_STATE 0 = CLOCK_STATE.following) : ∃ u, exec (.refSignalPresent t c rate) s = .next u ∧ u.candState c = CAND_STATE.measuring ∧ (u.cand c).present = true ∧
      (u.cand c).samples = [] ∧ (5 ≤ c → u.rd o2200_CAND_RATE c = rate) ∧ ¬ u.stands .REF_LOSS c := by
  have hwork : (if 8 ≤ c then (s.begin t).setTd (c - 8) { (s.begin t).td (c - 8) with twinLost := false }
      else if c = 4 ∧ (s.begin t).rd o2301_CLOCK_STATE 0 ≠ CLOCK_STATE.following then s.begin t else (s.begin t).refPresent c rate) =
      ((s.begin t).heardRate c rate).wr o2200_CAND_STATE c CAND_STATE.measuring := by
    rw [if_neg (by omega), if_neg fun hne => hne.2 (h4 hne.1)]
    exact refPresent_absent (s := s.begin t) rate h
  have hcand : ((s.begin t).heardRate c rate).cand c = { s.cand c with present := true, samples := [] } :=
    ((blind_cand (by decide) c).heardRate (M := [.obj o2200_CAND_RATE]) (by decide) (s.begin t) c rate).trans (heard_cand (s.begin t) c)
  have hrate : 5 ≤ c → ((s.begin t).heardRate c rate).rd o2200_CAND_RATE c = rate := fun h5 => by
    unfold State.heardRate
    rw [if_pos h5, State.rd_wr_same]
  have hloss : ¬ ((s.begin t).heardRate c rate).stands .REF_LOSS c := fun hst =>
    not_stands_clear _ _ _ ((iff_of_eq ((blind_stands (by decide) (by decide) c).heardRate (M := [.obj o2200_CAND_RATE]) (by decide) (s.begin t) c rate)).mp hst)
  generalize (s.begin t).heardRate c rate = y at hwork hcand hrate hloss
  refine ⟨_, run_work (t := t) (f := fun s => if 8 ≤ c then s.setTd (c - 8) { s.td (c - 8) with twinLost := false }
    else if c = 4 ∧ s.rd o2301_CLOCK_STATE 0 ≠ CLOCK_STATE.following then s else s.refPresent c rate) hp hwork, y.rd_wr_same o2200_CAND_STATE c CAND_STATE.measuring, ?_, ?_, fun h5 => ?_, fun hst => ?_⟩
  · exact congrArg Cand.present hcand
  · exact congrArg Cand.samples hcand
  · exact (y.rd_wr_obj (o := o2200_CAND_STATE) (r := c) CAND_STATE.measuring (by decide)).trans (hrate h5)
  · exact hloss ((stands_congr (s := y) rfl _ _).mp hst)

/-! Enable (R70; that a candidate is measured at once is the model's choice of log entry 38). -/

/-- A disabled candidate, before the mode and the selections follow. -/
def State.candDisabled (s : State) (c : Nat) : State :=
  let x := s.wr o2200_CAND_ENABLE c 0
  ((if tdList.any (fun d => x.selected d == c) then x.raiseRefLoss c else x).wr o2200_CAND_STATE c CAND_STATE.disabled).wr o2200_DISQUAL_REASON c DISQUAL_REASON.disabled

/-- What follows: the mode, the alarms of the candidate, its samples, the selections, the powers. -/
def State.candRetired (s : State) (c : Nat) : State :=
  let x := ((s.modeNow.clear .REF_DISQUALIFIED c).clear .REF_SOFT_LIMIT c).clear .REF_LOSS c
  (x.setCand c { x.cand c with samples := [] }).lostSelections c (x.setCand c { x.cand c with samples := [] }).now

theorem writeCandEnable_off (s : State) (c : Nat) (x : Ctx) : writeCandEnable x c (.int 0) s = (stOK, ((s.candDisabled c).candRetired c).refreshPower) := rfl

def retireMarks : List Mark := [.alarm .REF_DISQUALIFIED, .alarm .REF_SOFT_LIMIT, .alarm .REF_LOSS, .cands] ++ reselectMarks

theorem Blind.candRetired {M : List Mark} {α : Type} {f : State → α} (hf : Blind M f) (h : retireMarks ⊆ M) (s : State) (c : Nat) : f (s.candRetired c) = f s := by
  unfold State.candRetired
  extract_lets x src
  have hx : f x = f s := (hf.clear (h (by decide)) _ _).trans ((hf.clear (h (by decide)) _ _).trans ((hf.clear (h (by decide)) _ _).trans (hf.modeNow (List.Subset.trans (by decide) h) _)))
  exact (hf.lostSelections (List.Subset.trans (by decide) h) _ _ _).trans ((hf.setCand (h (by decide)) _ _ _).trans hx)

theorem candDisabled_rd (s : State) (c : Nat) :
    (s.candDisabled c).candState c = CAND_STATE.disabled ∧ (s.candDisabled c).rd o2200_DISQUAL_REASON c = DISQUAL_REASON.disabled ∧ (s.candDisabled c).rd o2200_CAND_ENABLE c = 0 := by
  unfold State.candDisabled
  extract_lets x
  have hx : ∀ p : Prop, [Decidable p] → (if p then x.raiseRefLoss c else x).rd o2200_CAND_ENABLE c = 0 := fun p _ => by
    have hset : x.rd o2200_CAND_ENABLE c = 0 := s.rd_wr_same o2200_CAND_ENABLE c 0
    split
    · exact ((blind_rd (M := [.alarm .REF_LOSS]) (by decide) c).raiseRefLoss (by decide) x c).trans hset
    · exact hset
  clear_value x
  unfold State.candState
  exact ⟨by rw [State.rd_wr_obj _ _ (by decide), State.rd_wr_same], State.rd_wr_same _ _ _ _, by rw [State.rd_wr_obj _ _ (by decide), State.rd_wr_obj _ _ (by decide), hx]⟩

theorem Blind.candDisabled {M : List Mark} {α : Type} {f : State → α} (hf : Blind M f) (h : .obj o2200_CAND_ENABLE :: candMarks ⊆ M) (s : State) (c : Nat) : f (s.candDisabled c) = f s := by
  unfold State.candDisabled
  extract_lets x
  have hx : f x = f s := hf.wr (h (by decide)) _ _ _
  refine (hf.wr (h (by decide)) _ _ _).trans ((hf.wr (h (by decide)) _ _ _).trans ?_)
  split
  · exact (hf.raiseRefLoss (h (by decide)) _ _).trans hx
  · exact hx

theorem candRetired_settled (s : State) (c : Nat) {d : Nat} (hd : d < 4) : (s.candRetired c).settled d := by
  unfold State.candRetired
  extract_lets x src
  exact lostSelections_settled _ _ _ hd

/-- The whole of what a disabled candidate leads to. -/
def State.candOff (s : State) (c : Nat) : State := ((s.candDisabled c).candRetired c).refreshPower

theorem candOff_see {α : Type} {f : State → α} (hf : Blind (retireMarks ++ holdMarks) f) (s : State) (c : Nat) : f (s.candOff c) = f (s.candDisabled c) :=
  (hf.refreshPower (by decide) _).trans (hf.candRetired (by decide) _ _)

theorem candOff_ctl (s : State) (c : Nat) : (s.candOff c).ctl = s.ctl :=
  (candOff_see (blind_ctl (by decide)) s c).trans ((blind_ctl (by decide)).candDisabled (List.Subset.refl _) s c)

theorem candOff_settled (s : State) (c : Nat) {d : Nat} (hd : d < 4) : (s.candOff c).settled d :=
  settled_of_marks (M := holdMarks) (by decide) (by decide) (by decide) (by decide) (fun hf => hf.refreshPower (List.Subset.refl _) _) (candRetired_settled _ c hd)

theorem endOf_candState (w : State) (e : CmdEnd) {s : State} {o : Nat} (h : e.Accepted s w o) (c : Nat) : (w.endOf e).candState c = w.candState c := h.rd _ _ (by decide)

theorem endOf_selected (w : State) (e : CmdEnd) {s : State} {o : Nat} (h : e.Accepted s w o) (d : Nat) : (w.endOf e).selected d = w.selected d := congrArg Int.toNat (h.rd _ _ (by decide))

section
variable {s : State} {t port c : Nat} (hp : s.powered = true)
include hp

theorem candEnable_off (hc : c < 8) (ha : s.admits port o2200_CAND_ENABLE c (.int 0) = true) : ∃ u, exec (.candEnable t port c false) s = .next u ∧ u.last = ⟨0, none⟩ ∧
    u.candState c = CAND_STATE.disabled ∧ u.rd o2200_CAND_ENABLE c = 0 ∧ u.rd o2200_DISQUAL_REASON c = DISQUAL_REASON.disabled ∧ ∀ d < 4, u.selected d ≠ c := by
  obtain ⟨e, he, hacc⟩ := run_accepted_row (t := t) (h := writeCandEnable) (by decide) hp ha (fun x _ => writeCandEnable_off (s.begin t) c x) (congrArg Ctl.endAfter (candOff_ctl (s.begin t) c))
  obtain ⟨hstate, hreason, henable⟩ := candDisabled_rd (s.begin t) c
  have hsettled : ∀ d < 4, ((s.begin t).candOff c).settled d := fun d hd => candOff_settled (s.begin t) c hd
  replace hstate : ((s.begin t).candOff c).candState c = CAND_STATE.disabled := (candOff_see (blind_rd (by decide) c) _ c).trans hstate
  rw [← candOff_see (blind_rd (by decide) c) (s.begin t) c] at hreason henable
  change s.run t (fun s => s.opCmd writeCandEnable port o2200_CAND_ENABLE c (.int 0)) = .next (((s.begin t).candOff c).endOf e) at he
  replace hacc : e.Accepted s ((s.begin t).candOff c) o2200_CAND_ENABLE := hacc
  generalize (s.begin t).candOff c = y at he hacc hsettled hstate hreason henable
  refine ⟨_, he, hacc.last, (endOf_candState _ _ hacc c).trans hstate, (hacc.rd _ _ (by decide)).trans henable, (hacc.rd _ _ (by decide)).trans hreason, fun d hd => ?_⟩
  rw [endOf_selected _ _ hacc]
  exact settled_not_selected (hsettled d hd) hc (eligible_unqualified fun hq => absurd (hstate.symm.trans hq) (by decide))

theorem candEnable_on (ha : s.admits port o2200_CAND_ENABLE c (.int 1) = true) (h : s.candState c = CAND_STATE.disabled) : ∃ u, exec (.candEnable t port c true) s = .next u ∧ u.last = ⟨0, none⟩ ∧
    u.rd o2200_CAND_ENABLE c = 1 ∧ u.candState c = if (s.cand c).present then CAND_STATE.measuring else CAND_STATE.absent := by
  let st : Int := if (s.cand c).present then CAND_STATE.measuring else CAND_STATE.absent
  let y := (((s.begin t).wr o2200_CAND_ENABLE c 1).wr o2200_CAND_STATE c st).refreshPower
  have hstill : ((s.begin t).wr o2200_CAND_ENABLE c 1).candState c = CAND_STATE.disabled := ((s.begin t).rd_wr_obj 1 (by decide)).trans h
  have hwork : ∀ x : Ctx, x.port = port → writeCandEnable x c (.int 1) (s.begin t) = (stOK, y) := fun x _ => by
    unfold writeCandEnable onInt
    dsimp only
    rw [if_pos (Eq.refl (1 : Int)), if_neg fun hne => hne.2 hstill]
    rfl
  have hsee : ∀ {α : Type} {f : State → α}, Blind holdMarks f → f y = f (((s.begin t).wr o2200_CAND_ENABLE c 1).wr o2200_CAND_STATE c st) := fun hf => hf.refreshPower (List.Subset.refl _) _
  have hctl : y.ctl = s.ctl := hsee (blind_ctl (by decide))
  have hstate : y.candState c = st := (hsee (blind_rd (by decide) c)).trans (State.rd_wr_same _ _ _ _)
  have henable : y.rd o2200_CAND_ENABLE c = 1 := (hsee (blind_rd (by decide) c)).trans ((State.rd_wr_obj _ _ (by decide)).trans (State.rd_wr_same _ _ _ _))
  clear_value y
  obtain ⟨e, he, hacc⟩ := run_accepted_row (t := t) (h := writeCandEnable) (by decide) hp ha hwork (congrArg Ctl.endAfter hctl)
  exact ⟨_, he, hacc.last, (hacc.rd _ _ (by decide)).trans henable, (endOf_candState _ _ hacc c).trans hstate⟩

end

/-! TWIN in one domain (R63). -/

/-- TWIN is lost for one domain, before the selections follow. -/
def State.twinGone (s : State) (d : Nat) : State :=
  let x := s.setTd d { s.td d with twinLost := true }
  let y := if x.selected d = 7 then x.raiseRefLoss 7 else x
  if y.selected d = 7 then y.discardComparisons d y.now else y

theorem twinLoss_eq (s : State) (d : Nat) : s.twinLoss d = tdList.foldl State.selectFor (s.twinGone d) := rfl

/-- The plan of the domain says so then. -/
theorem twinGone_plan (s : State) (d : Nat) : ((s.twinGone d).td d).twinLost = true := by
  have hf := loopBlind_plan loopObjects d d
  have hr : Blind [.alarm .REF_LOSS] (fun s => (s.td d).plan) := (blind_tds (by decide)).comp fun m => ((storeGet d m).getD {}).plan
  unfold State.twinGone
  extract_lets src x y
  have hx : (x.td d).plan.2.2.2 = true := congrArg Td.twinLost (s.td_setTd d _)
  have hy : (y.td d).plan = (x.td d).plan := by
    dsimp only [y]
    split
    · exact hr.raiseRefLoss (by decide) _ _
    · rfl
  clear_value x y
  have hlast : ∀ p : Prop, [Decidable p] → ((if p then y.discardComparisons d y.now else y).td d).plan = (y.td d).plan := fun p _ => by
    split
    · exact hf.discardComparisons (List.Subset.refl _) _ _
    · rfl
  exact (congrArg (fun q : Nat × List Nat × Bool × Bool => q.2.2.2) ((hlast _).trans hy)).trans hx

theorem twinGone_state (s : State) (d c : Nat) : (s.twinGone d).candState c = s.candState c := by
  have hf : LoopBlind loopObjects d (·.rd o2200_CAND_STATE c) := loopBlind_row (.inr (by decide)) (by decide)
  unfold State.twinGone
  extract_lets src x y
  have hx : x.candState c = s.candState c := rfl
  have hy : y.candState c = x.candState c := by
    dsimp only [y]
    split
    · exact (blind_rd (M := [.alarm .REF_LOSS]) (by decide) c).raiseRefLoss (by decide) _ _
    · rfl
  clear_value x y
  split
  · exact (hf.discardComparisons (List.Subset.refl _) _ _).trans (hy.trans hx)
  · exact hy.trans hx

theorem selectAll_plan (l : List Nat) (s : State) (k : Nat) : ((l.foldl State.selectFor s).td k).plan = (s.td k).plan :=
  foldl_blind (f := fun s : State => (s.td k).plan) (fun s d => (loopBlind_plan loopObjects d k).selectFor (List.Subset.refl _) s) l s

theorem selectAll_state (l : List Nat) (s : State) (c : Nat) : (l.foldl State.selectFor s).candState c = s.candState c :=
  foldl_blind (f := (·.candState c)) (fun s d => (loopBlind_row (L := loopObjects) (d := d) (o := o2200_CAND_STATE) (r := c) (.inr (by decide)) (by decide)).selectFor (List.Subset.refl _) s) l s

theorem refLossOfSignal_twin {s : State} {t d c : Nat} (hp : s.powered = true) (hd : d < 4) :
    ∃ u, exec (.refLossOfSignal t (8 + d)) s = .next u ∧ (u.td d).twinLost = true ∧ u.selected d ≠ 7 ∧ u.candState c = s.candState c := by
  have hin : ∀ k < 4, k ∈ tdList := by decide
  have hwork : (if 8 + d < 8 then (s.begin t).refLoss (8 + d) else (s.begin t).twinLoss (8 + d - 8)) = tdList.foldl State.selectFor ((s.begin t).twinGone d) := by
    rw [if_neg (by omega), Nat.add_sub_cancel_left, twinLoss_eq]
  have hlost := twinGone_plan (s.begin t) d
  have hstate := twinGone_state (s.begin t) d c
  generalize (s.begin t).twinGone d = y at hwork hlost hstate
  have hplan := selectAll_plan tdList y d
  have hkept := selectAll_state tdList y c
  have hsettled : (tdList.foldl State.selectFor y).settled d := selectAll_settled _ (.inr (hin d hd))
  generalize tdList.foldl State.selectFor y = z at hwork hplan hkept hsettled
  have htwin : (z.td d).twinLost = true := (congrArg (fun q : Nat × List Nat × Bool × Bool => q.2.2.2) hplan).trans hlost
  have htaken : z.eligible d 7 = false := by
    unfold State.eligible
    rw [htwin]
    exact Bool.and_false _
  refine ⟨_, run_work (t := t) (f := fun s => if 8 + d < 8 then s.refLoss (8 + d) else s.twinLoss (8 + d - 8)) hp hwork, htwin, settled_not_selected (s := z) hsettled (by omega) htaken, hkept.trans hstate⟩

theorem refSignalPresent_twin {s : State} {t d c : Nat} (hp : s.powered = true) :
    ∃ u, exec (.refSignalPresent t (8 + d) 0) s = .next u ∧ (u.td d).twinLost = false ∧ u.candState c = s.candState c := by
  have hwork : (if 8 ≤ 8 + d then (s.begin t).setTd (8 + d - 8) { (s.begin t).td (8 + d - 8) with twinLost := false }
      else if 8 + d = 4 ∧ (s.begin t).rd o2301_CLOCK_STATE 0 ≠ CLOCK_STATE.following then s.begin t else (s.begin t).refPresent (8 + d) 0) =
      (s.begin t).setTd d { (s.begin t).td d with twinLost := false } := by
    rw [if_pos (by omega), Nat.add_sub_cancel_left]
  exact ⟨_, run_work (t := t) (f := fun s => if 8 ≤ 8 + d then s.setTd (8 + d - 8) { s.td (8 + d - 8) with twinLost := false }
    else if 8 + d = 4 ∧ s.rd o2301_CLOCK_STATE 0 ≠ CLOCK_STATE.following then s else s.refPresent (8 + d) 0) hp hwork, congrArg Td.twinLost ((s.begin t).td_setTd d _), rfl⟩

/-! WTR_CLEAR (R70). -/

theorem writeWtrClear_eq (s : State) (c r : Nat) (x : Ctx) :
    writeWtrClear x r (.int c) s = if s.candState c = CAND_STATE.restoring ∧ s.withinLimits c then (stOK, (s.qualify c).modeNow) else (stOK, s) := rfl

theorem qualify_state (s : State) (c : Nat) : (s.qualify c).candState c = CAND_STATE.qualified :=
  (State.rd_wr_obj _ _ (by decide)).trans (((blind_rd (M := [.alarm .REF_DISQUALIFIED]) (by decide) c).clear (by decide) _ _).trans (s.rd_wr_same o2200_CAND_STATE c CAND_STATE.qualified))

theorem qualify_ctl (s : State) (c : Nat) : (s.qualify c).ctl = s.ctl := (blind_ctl (M := [.alarm .REF_DISQUALIFIED]) (by decide)).clear (by decide) _ c

theorem not_stands_qualify (s : State) (c : Nat) : ¬ (s.qualify c).stands .REF_DISQUALIFIED c := not_stands_clear (s.wr o2200_CAND_STATE c CAND_STATE.qualified) .REF_DISQUALIFIED c

section
variable {s : State} {t port c : Nat} (hp : s.powered = true) (ha : s.admits port o2201_WTR_CLEAR 0 (.int c) = true)
include hp ha

theorem wtrClear_qualifies (h : s.candState c = CAND_STATE.restoring) (hw : s.withinLimits c = true) :
    ∃ u, exec (.wtrClear t port c) s = .next u ∧ u.last = ⟨0, none⟩ ∧ u.qualified c = true ∧ u.waitLeft c = 0 ∧ ¬ u.stands .REF_DISQUALIFIED c := by
  have hwork : ∀ x : Ctx, x.port = port → writeWtrClear x 0 (.int c) (s.begin t) = (stOK, ((s.begin t).qualify c).modeNow) := fun x _ => (writeWtrClear_eq (s.begin t) c 0 x).trans (if_pos ⟨h, hw⟩)
  have hsee : ∀ {α : Type} {f : State → α}, Blind modeMarks f → f ((s.begin t).qualify c).modeNow = f ((s.begin t).qualify c) := fun hf => hf.modeNow (List.Subset.refl _) _
  have hstate : (((s.begin t).qualify c).modeNow).candState c = CAND_STATE.qualified := (hsee (blind_rd (by decide) c)).trans (qualify_state (s.begin t) c)
  have hctl : (((s.begin t).qualify c).modeNow).ctl = s.ctl := (hsee (blind_ctl (by decide))).trans (qualify_ctl (s.begin t) c)
  have hclear : ¬ (((s.begin t).qualify c).modeNow).stands .REF_DISQUALIFIED c := fun hst => not_stands_qualify (s.begin t) c ((iff_of_eq (hsee (blind_stands (by decide) (by decide) c))).mp hst)
  generalize ((s.begin t).qualify c).modeNow = y at hwork hstate hctl hclear
  obtain ⟨e, he, hacc⟩ := run_accepted_row (t := t) (h := writeWtrClear) (by decide) hp ha hwork (congrArg Ctl.endAfter hctl)
  have hend := (endOf_candState _ _ hacc c).trans hstate
  refine ⟨_, he, hacc.last, beq_iff_eq.mpr hend, waitLeft_other (by rw [hend]; decide), fun hst => hclear ((endOf_stands _ _ _ _).mp hst)⟩

theorem wtrClear_none (h : s.candState c ≠ CAND_STATE.restoring) : ∃ u, exec (.wtrClear t port c) s = .next u ∧ u.last = ⟨0, none⟩ ∧ s.keepsRegs u [] ∧ u.works = s.works := by
  have hwork : ∀ x : Ctx, x.port = port → writeWtrClear x 0 (.int c) (s.begin t) = (stOK, s.begin t) := fun x _ => (writeWtrClear_eq (s.begin t) c 0 x).trans (if_neg fun hr => h hr.1)
  obtain ⟨e, he, hacc⟩ := run_accepted_row (t := t) (h := writeWtrClear) (by decide) hp ha hwork rfl
  exact ⟨_, he, hacc.last, hacc.keepsRegs (keepsRegs_refl (s.begin t) []), hacc.works rfl rfl⟩

end

/-- Settles O11. That a candidate which is enabled is measured at once is the model's choice (log entry 38). -/
theorem candidatesComeAndGo : Obligations.CandidatesComeAndGo :=
  ⟨fun _ _ _ _ hp hc => ⟨refLossOfSignal_qualified hp hc, refLossOfSignal_measuring hp hc, fun rate h h4 => refSignalPresent_absent rate hp hc h h4, candEnable_off hp hc, candEnable_on hp,
    fun _ hd => ⟨refLossOfSignal_twin hp hd, refSignalPresent_twin hp⟩⟩, fun _ _ _ _ hp ha => ⟨wtrClear_qualifies hp ha, wtrClear_none hp ha⟩⟩

end Sys2Proof.Machine
end

section
/-! SUPPORT. The clean-up loops (R77, R79, R82) and realignment on command (R88-R90). -/

namespace Sys2Proof.Machine
open Sys2Proof

/-! Arithmetic of the loop filter. -/

theorem clampPull_range (x : Int) : -12000000 ≤ clampPull x ∧ clampPull x ≤ 12000000 := by
  unfold clampPull pullIn
  omega

theorem clampPull_inside {x : Int} (hl : -12000000 ≤ x) (hh : x ≤ 12000000) : clampPull x = x := by
  unfold clampPull pullIn
  omega

/-- A value that moves towards another and stays in range moves by no more than its step. -/
theorem towards_within {x y step : Int} (hs : 0 ≤ step) (hl : -12000000 ≤ x) (hh : x ≤ 12000000) : ((clampPull (towards x y step) - x).natAbs : Int) ≤ step := by
  unfold clampPull pullIn towards
  split_ifs <;> omega

/-! A comparison (R77, R79, R82). -/

/-- A comparison ends: its control value and what it keeps. -/
def State.compared (s : State) (d : Nat) (v : Int) (x : Td) : State := (s.setControl d v).setTd d x

theorem compared_control (s : State) (d : Nat) (v : Int) (x : Td) : (s.compared d v x).rd o2100_CONTROL_VALUE d = v := State.rd_wr_same _ _ _ _

theorem compared_td (s : State) (d : Nat) (v : Int) (x : Td) : (s.compared d v x).td d = x := State.td_setTd _ _ _

/-- While the frequency slews, the control value goes towards the new reference's by no more than its step. -/
theorem phaseCompare_slewing {s : State} {d : Nat} (phase freq : Int) (hst : s.dpll d = DPLL_STATE.acquiring ∨ s.dpll d = DPLL_STATE.locked) (hsl : (s.td d).slewing = true) :
    ∃ y x, s.phaseCompare d phase freq =
      State.compared y d (clampPull (towards (s.rd o2100_CONTROL_VALUE d) freq (s.rd o2100_FREQ_SLEW_LIMIT d * 1000 * (s.now - (s.td d).comparedAt : Nat) / 1000000000))) x := by
  have hkeep : ((s.keepCompared d).td d).comparedAt = (s.td d).comparedAt := by
    unfold State.keepCompared
    rw [State.td_setTd]
  unfold State.phaseCompare
  extract_lets x ctl y z gained stepped w step v
  have hf : ∀ {α : Type} {f : State → α}, Blind [.alarm .REF_PHASE_STEP] f → f w = f y := fun hf => by
    dsimp only [w]
    split
    · exact hf.pulse (by decide) _ _
    · rfl
  have hstep : step = s.rd o2100_FREQ_SLEW_LIMIT d * 1000 * (s.now - (s.td d).comparedAt : Nat) / 1000000000 := by
    dsimp only [step, z]
    rw [hf blind_now, hf (blind_rd (by decide) d), hkeep]
    rfl
  rw [if_neg (not_not.mpr hst), if_pos hsl, ← hstep]
  exact ⟨w, _, rfl⟩

/-- The step from the last phase, none without one. -/
def phaseStep (last : Option Int) (phase : Int) : Int :=
  match last with
  | some p => phase - p
  | none => 0

/-- Whether a comparison finds a step of the reference (R79). -/
def State.steps (s : State) (d : Nat) (phase : Int) : Bool :=
  decide (s.rd o2100_PHASE_STEP_THRESHOLD_NS d < absInt (phaseStep (s.td d).lastPhase phase)) && s.dpll d == DPLL_STATE.locked

/-- Otherwise the loop filter sets it, but for a step of a locked loop, which is built out. -/
theorem phaseCompare_tracking {s : State} {d : Nat} (phase freq : Int) (hst : s.dpll d = DPLL_STATE.acquiring ∨ s.dpll d = DPLL_STATE.locked) (hsl : (s.td d).slewing = false) :
    ∃ y v x, s.phaseCompare d phase freq = State.compared y d (clampPull v) x ∧ x.lastPhase = some phase ∧ x.comparedAt = s.now ∧
      (s.steps d phase = true → y = (s.keepCompared d).pulse .REF_PHASE_STEP d ∧ v = s.rd o2100_CONTROL_VALUE d ∧ ∀ p, (s.td d).lastPhase = some p → x.buildOut = (s.td d).buildOut + (phase - p)) := by
  have hlast : ((s.keepCompared d).td d).lastPhase = (s.td d).lastPhase := by
    unfold State.keepCompared
    rw [State.td_setTd]
  have hbuild : ((s.keepCompared d).td d).buildOut = (s.td d).buildOut := by
    unfold State.keepCompared
    rw [State.td_setTd]
  unfold State.phaseCompare
  rw [if_neg (not_not.mpr hst), hsl, if_neg Bool.false_ne_true]
  extract_lets x y z big w
  have hz : z = phaseStep (s.td d).lastPhase phase := congrArg (phaseStep · phase) hlast
  clear_value z
  subst hz
  have hbig : big = s.steps d phase := rfl
  have hnow : w.now = s.now := by
    dsimp only [w]
    split
    · exact (blind_now (M := [.alarm .REF_PHASE_STEP])).pulse (by decide) _ _
    · rfl
  by_cases hstep : big = true
  · rw [if_pos hstep, if_pos hstep]
    refine ⟨w, _, _, rfl, rfl, hnow, fun _ => ⟨if_pos hstep, rfl, fun p hp => ?_⟩⟩
    dsimp only [y]
    rw [hp, hbuild]
    rfl
  · rw [if_neg hstep]
    exact ⟨(w.freeControl y.bw).2, _, _, rfl, rfl, hnow, fun h => absurd (hbig.trans h) hstep⟩

section
variable {s : State} {t d : Nat} {phase freq : Int} (hp : s.powered = true) (hst : s.dpll d = DPLL_STATE.acquiring ∨ s.dpll d = DPLL_STATE.locked)
include hp hst

theorem phaseComparison_slewing (hsl : (s.td d).slewing = true) (hlimit : 0 ≤ s.rd o2100_FREQ_SLEW_LIMIT d) (hl : -12000000 ≤ s.rd o2100_CONTROL_VALUE d)
    (hh : s.rd o2100_CONTROL_VALUE d ≤ 12000000) : ∃ u, exec (.phaseComparison t d phase freq) s = .next u ∧ -12000000 ≤ u.rd o2100_CONTROL_VALUE d ∧ u.rd o2100_CONTROL_VALUE d ≤ 12000000 ∧
      ((u.rd o2100_CONTROL_VALUE d - s.rd o2100_CONTROL_VALUE d).natAbs : Int) ≤ s.rd o2100_FREQ_SLEW_LIMIT d * 1000 * (max s.now t - (s.td d).comparedAt : Nat) / 1000000000 := by
  obtain ⟨y, x, hwork⟩ := phaseCompare_slewing (s := s.begin t) phase freq hst hsl
  have hstep : 0 ≤ s.rd o2100_FREQ_SLEW_LIMIT d * 1000 * (max s.now t - (s.td d).comparedAt : Nat) / 1000000000 :=
    Int.ediv_nonneg (Int.mul_nonneg (Int.mul_nonneg hlimit (by decide)) (Int.natCast_nonneg _)) (by decide)
  have hcontrol := compared_control y d (clampPull (towards (s.rd o2100_CONTROL_VALUE d) freq (s.rd o2100_FREQ_SLEW_LIMIT d * 1000 * (max s.now t - (s.td d).comparedAt : Nat) / 1000000000))) x
  refine ⟨_, run_work (t := t) (f := (·.phaseCompare d phase freq)) hp hwork, ?_⟩
  rw [State.finish_rd, show (s.begin t).now = max s.now t from rfl, show ((s.begin t).td d).comparedAt = (s.td d).comparedAt from rfl, State.rd_begin, State.rd_begin, hcontrol]
  exact ⟨(clampPull_range _).1, (clampPull_range _).2, towards_within hstep hl hh⟩

theorem phaseComparison_tracking (hsl : (s.td d).slewing = false) :
    ∃ u, exec (.phaseComparison t d phase freq) s = .next u ∧ -12000000 ≤ u.rd o2100_CONTROL_VALUE d ∧ u.rd o2100_CONTROL_VALUE d ≤ 12000000 ∧
      (u.td d).lastPhase = some phase ∧ (u.td d).comparedAt = max s.now t ∧
      ∀ p, (s.td d).lastPhase = some p → s.dpll d = DPLL_STATE.locked → ¬ s.stands .REF_PHASE_STEP d → s.rd o2100_PHASE_STEP_THRESHOLD_NS d < ((phase - p).natAbs : Nat) →
        (u.td d).buildOut = (s.td d).buildOut + (phase - p) ∧ (u.point .REF_PHASE_STEP).latched = true ∧
        (-12000000 ≤ s.rd o2100_CONTROL_VALUE d → s.rd o2100_CONTROL_VALUE d ≤ 12000000 → u.rd o2100_CONTROL_VALUE d = s.rd o2100_CONTROL_VALUE d) := by
  obtain ⟨y, v, x, hwork, hphase, hat, hbig⟩ := phaseCompare_tracking (s := s.begin t) phase freq hst hsl
  have hcontrol := compared_control y d (clampPull v) x
  have htd : ((s.begin t).finish (y.compared d (clampPull v) x)).td d = x := compared_td y d (clampPull v) x
  refine ⟨_, run_work (t := t) (f := (·.phaseCompare d phase freq)) hp hwork, ?_⟩
  rw [htd, State.finish_rd, hcontrol]
  refine ⟨(clampPull_range _).1, (clampPull_range _).2, hphase, hat, fun p hlast hlocked hns hthr => ?_⟩
  have hfound : (s.begin t).steps d phase = true := by
    show (decide (s.rd o2100_PHASE_STEP_THRESHOLD_NS d < absInt (phaseStep (s.td d).lastPhase phase)) && s.dpll d == DPLL_STATE.locked) = true
    rw [hlast, hlocked]
    exact Bool.and_eq_true_iff.mpr ⟨decide_eq_true hthr, beq_self_eq_true _⟩
  obtain ⟨rfl, rfl, hbuild⟩ := hbig hfound
  have hpoint : ((s.begin t).finish (State.compared (((s.begin t).keepCompared d).pulse .REF_PHASE_STEP d) d (clampPull ((s.begin t).rd o2100_CONTROL_VALUE d)) x)).point .REF_PHASE_STEP =
      (((s.begin t).keepCompared d).pulse .REF_PHASE_STEP d).point .REF_PHASE_STEP := point_congr rfl _
  refine ⟨hbuild p hlast, ?_, fun hl hh => clampPull_inside hl hh⟩
  rw [hpoint]
  exact latched_pulse fun h => hns ((stands_congr rfl _ _).mp h)

end

/-! Lock (R77). -/

theorem dpllLock_locks {s : State} {d g : Nat} (hst : s.dpll d = DPLL_STATE.acquiring) (hg : (s.td d).goodSince = some g) (ht : g + 2000000000 ≤ s.now) : (s.dpllLock d).dpll d = DPLL_STATE.locked := by
  have hf : LoopBlind settleObjects d (·.rd o2100_DPLL_STATE d) := loopBlind_row (.inr (by decide)) (by decide)
  have heq : s.dpllLock d = (((((s.wr o2100_DPLL_STATE d DPLL_STATE.locked).takeBandwidth d).notePhaseSource d).autoAlign d).tdAlarms d) := by
    unfold State.dpllLock
    rw [hg]
    exact if_pos ⟨hst, ht⟩
  rw [heq]
  exact (hf.settle (List.Subset.refl _) _).trans (State.rd_wr_same _ _ _ _)

theorem dpllLock_waits {s : State} {d g : Nat} (hg : (s.td d).goodSince = some g) (ht : s.now < g + 2000000000) : s.dpllLock d = s := by
  unfold State.dpllLock
  rw [hg]
  exact if_neg fun h => Nat.not_lt_of_le h.2 ht

/-! Realignment (R88-R90). -/

section
variable {s : State} {d : Nat} (c : Ctx)

theorem writeRealign_idle {v : Int} (hv : v ≠ REALIGN_CMD.stop) (hi : s.rd o2100_REALIGN_STATE d = REALIGN_STATE.idle) : writeRealign c d (.int v) s =
    if s.phaseSource d = false then (0x0B01, s.wr o2100_REALIGN_RESULT d 0x0B01)
    else if v = REALIGN_CMD.slew then (stOK, s.wr o2100_REALIGN_STATE d REALIGN_STATE.slewing)
    else (stOK, (s.wr o2100_REALIGN_STATE d REALIGN_STATE.jump_pending).setTd d { s.td d with jumpFrame := some (s.fcnt d + 1) }) := by
  unfold writeRealign onInt
  dsimp only
  rw [if_neg hv, hi, if_neg (fun h => h rfl)]
  rfl

theorem writeRealign_stop (hs : s.rd o2100_REALIGN_STATE d = REALIGN_STATE.slewing) :
    writeRealign c d (.int REALIGN_CMD.stop) s = (stOK, (s.wr o2100_REALIGN_STATE d REALIGN_STATE.idle).wr o2100_LAST_REALIGN_FCNT d (s.fcnt d)) := by
  unfold writeRealign onInt
  dsimp only
  rw [if_pos (Eq.refl REALIGN_CMD.stop), hs, if_neg (by decide)]
  unfold State.stopSlew
  rw [if_pos hs]

end

section
variable {s : State} {t port d : Nat} (hp : s.powered = true)
include hp

theorem realignSlew_starts (ha : s.admits port o2100_REALIGN_CMD d (.int REALIGN_CMD.slew) = true) (hi : s.rd o2100_REALIGN_STATE d = REALIGN_STATE.idle) (hph : s.phaseSource d = true) :
    ∃ u, exec (.realignSlew t port d) s = .next u ∧ u.last = ⟨0, none⟩ ∧ u.rd o2100_REALIGN_STATE d = REALIGN_STATE.slewing ∧ s.keepsRegs u [(o2100_REALIGN_STATE, d)] ∧ u.works = s.works := by
  have hno : ¬ (s.begin t).phaseSource d = false := fun h => Bool.false_ne_true (h.symm.trans hph)
  have hwork : ∀ c : Ctx, c.port = port → writeRealign c d (.int REALIGN_CMD.slew) (s.begin t) = (stOK, (s.begin t).wr o2100_REALIGN_STATE d REALIGN_STATE.slewing) := fun c _ =>
    (writeRealign_idle (s := s.begin t) c (by decide) hi).trans ((if_neg hno).trans (if_pos rfl))
  obtain ⟨e, he, hacc⟩ := run_accepted_row (t := t) (h := writeRealign) (by decide) hp ha hwork rfl
  have hkeeps : s.keepsRegs ((s.begin t).wr o2100_REALIGN_STATE d REALIGN_STATE.slewing) [(o2100_REALIGN_STATE, d)] := (keepsRegs_refl (s.begin t) _).wr _ (List.mem_singleton_self _)
  exact ⟨_, he, hacc.last, (hacc.rd _ _ (by decide)).trans ((s.begin t).rd_wr_same o2100_REALIGN_STATE d REALIGN_STATE.slewing), hacc.keepsRegs hkeeps, hacc.works rfl rfl⟩

theorem realignSlew_refused (ha : s.admits port o2100_REALIGN_CMD d (.int REALIGN_CMD.slew) = true) (hi : s.rd o2100_REALIGN_STATE d = REALIGN_STATE.idle) (hph : s.phaseSource d = false) :
    ∃ u, exec (.realignSlew t port d) s = .next u ∧ u.last = ⟨0x0B01, none⟩ ∧ u.rd o2100_REALIGN_RESULT d = 0x0B01 ∧ s.keepsRegs u [(o2100_REALIGN_RESULT, d)] ∧ u.works = s.works := by
  have hwork : ∀ c : Ctx, c.port = port → writeRealign c d (.int REALIGN_CMD.slew) (s.begin t) = (0x0B01, (s.begin t).wr o2100_REALIGN_RESULT d 0x0B01) := fun c _ =>
    (writeRealign_idle (s := s.begin t) c (by decide) hi).trans (if_pos hph)
  have hrun := run_refused (t := t) (h := writeRealign) hp ha (fun c _ hcp => (congrArg (writeRealign c · _ (s.begin t)) (effRow_eq c d (by decide))).trans (hwork c hcp)) (by decide) rfl
  rw [noteRefusal_low _ _ _ (by decide)] at hrun
  have hkeeps : s.keepsRegs ((s.begin t).wr o2100_REALIGN_RESULT d 0x0B01) [(o2100_REALIGN_RESULT, d)] := (keepsRegs_refl (s.begin t) _).wr _ (List.mem_singleton_self _)
  exact ⟨_, hrun, rfl, (s.begin t).rd_wr_same o2100_REALIGN_RESULT d 0x0B01, hkeeps, rfl⟩

theorem realignJump_starts (ha : s.admits port o2100_REALIGN_CMD d (.int REALIGN_CMD.jump) = true) (hi : s.rd o2100_REALIGN_STATE d = REALIGN_STATE.idle) (hph : s.phaseSource d = true) :
    ∃ u, exec (.realignJump t port d) s = .next u ∧ u.last = ⟨0, none⟩ ∧ u.rd o2100_REALIGN_STATE d = REALIGN_STATE.jump_pending ∧ (u.td d).jumpFrame = some (s.fcnt d + 1) ∧
      s.keepsRegs u [(o2100_REALIGN_STATE, d)] ∧ ∀ d', d' ≠ d → u.td d' = s.td d' := by
  have hno : ¬ (s.begin t).phaseSource d = false := fun h => Bool.false_ne_true (h.symm.trans hph)
  have hwork : ∀ c : Ctx, c.port = port → writeRealign c d (.int REALIGN_CMD.jump) (s.begin t) =
      (stOK, ((s.begin t).wr o2100_REALIGN_STATE d REALIGN_STATE.jump_pending).setTd d { s.td d with jumpFrame := some (s.fcnt d + 1) }) := fun c _ =>
    (writeRealign_idle (s := s.begin t) c (by decide) hi).trans ((if_neg hno).trans (if_neg (by decide)))
  obtain ⟨e, he, hacc⟩ := run_accepted_row (t := t) (h := writeRealign) (by decide) hp ha hwork rfl
  have hkeeps : s.keepsRegs ((s.begin t).wr o2100_REALIGN_STATE d REALIGN_STATE.jump_pending) [(o2100_REALIGN_STATE, d)] := (keepsRegs_refl (s.begin t) _).wr _ (List.mem_singleton_self _)
  refine ⟨_, he, hacc.last, ?_, ?_, hacc.keepsRegs hkeeps, fun d' hd => ?_⟩
  · exact (hacc.rd _ _ (by decide)).trans ((s.begin t).rd_wr_same o2100_REALIGN_STATE d REALIGN_STATE.jump_pending)
  · exact congrArg Td.jumpFrame (((s.begin t).wr o2100_REALIGN_STATE d REALIGN_STATE.jump_pending).td_setTd d _)
  · exact congrArg (·.getD {}) (storeGet_put_ne natLt hd _ s.tds)

theorem realignStop_ends (ha : s.admits port o2100_REALIGN_CMD d (.int REALIGN_CMD.stop) = true) (hs : s.rd o2100_REALIGN_STATE d = REALIGN_STATE.slewing) :
    ∃ u, exec (.realignStop t port d) s = .next u ∧ u.last = ⟨0, none⟩ ∧ u.rd o2100_REALIGN_STATE d = REALIGN_STATE.idle ∧ u.rd o2100_LAST_REALIGN_FCNT d = s.fcnt d ∧
      s.keepsRegs u [(o2100_REALIGN_STATE, d), (o2100_LAST_REALIGN_FCNT, d)] ∧ u.works = s.works := by
  have hwork : ∀ c : Ctx, c.port = port → writeRealign c d (.int REALIGN_CMD.stop) (s.begin t) =
      (stOK, ((s.begin t).wr o2100_REALIGN_STATE d REALIGN_STATE.idle).wr o2100_LAST_REALIGN_FCNT d (s.fcnt d)) := fun c _ => writeRealign_stop (s := s.begin t) c hs
  obtain ⟨e, he, hacc⟩ := run_accepted_row (t := t) (h := writeRealign) (by decide) hp ha hwork rfl
  have hkeeps : s.keepsRegs (((s.begin t).wr o2100_REALIGN_STATE d REALIGN_STATE.idle).wr o2100_LAST_REALIGN_FCNT d (s.fcnt d)) [(o2100_REALIGN_STATE, d), (o2100_LAST_REALIGN_FCNT, d)] :=
    State.keepsRegs.wr ((keepsRegs_refl (s.begin t) _).wr _ List.mem_cons_self) _ (List.mem_cons_of_mem _ List.mem_cons_self)
  refine ⟨_, he, hacc.last, ?_, ?_, hacc.keepsRegs hkeeps, hacc.works rfl rfl⟩
  · exact (hacc.rd _ _ (by decide)).trans ((State.rd_wr_obj _ _ (by decide)).trans ((s.begin t).rd_wr_same o2100_REALIGN_STATE d REALIGN_STATE.idle))
  · exact (hacc.rd _ _ (by decide)).trans (State.rd_wr_same _ _ _ _)

end

/-- Settles O12. -/
theorem loopsCompareLockAndRealign : Obligations.LoopsCompareLockAndRealign := by
  refine ⟨fun s t d phase freq hp hst => ⟨phaseComparison_slewing hp hst, phaseComparison_tracking hp hst⟩, fun s t d g hp hst hg => ⟨fun ht => ?_, fun ht => ?_⟩,
    fun s t port d hp => ⟨realignSlew_starts hp, realignJump_starts hp, realignSlew_refused hp, realignStop_ends hp⟩⟩
  · exact ⟨_, run_work (t := t) (f := (·.dpllLock d)) hp rfl, dpllLock_locks (s := s.begin t) hst hg ht⟩
  · exact ⟨_, run_work (t := t) (f := (·.dpllLock d)) hp (dpllLock_waits (s := s.begin t) hg ht), hst⟩

end Sys2Proof.Machine
end

section
/-! SUPPORT. Power domains: what follows them, their ramps, faults and retries (R131, R139, R448, R449). -/

namespace Sys2Proof.Machine
open Sys2Proof

/-- What the lanes, and the mints and XS engines, touch when they follow the power domains. -/
def lanePowerMarks : List Mark := acquireMarks ++ noteLaneMarks
def unitMarks : List Mark := [.alarm .ENC_MINT_FAULT, .obj o5002_MINT_STATE, .obj o5010_XS_ENGINE_STATE]
def unitPowerMarks : List Mark := lanePowerMarks ++ unitMarks

namespace Blind

variable {M : List Mark} {α : Type} {f : State → α} (hf : Blind M f)
include hf

theorem laneStart (h : acquireMarks ⊆ M) (s : State) (l : Nat) (b : Bool) : f (s.laneStart l b) = f s := by
  unfold State.laneStart
  dsimp only
  split
  · exact hf.setLaneState (List.Subset.trans (by decide) h) (h (by decide)) (h (by decide)) _ _ _ _
  · exact hf.acquire h _ _ _ _

theorem lanePower (h : lanePowerMarks ⊆ M) (s : State) (l : Nat) : f (s.lanePower l) = f s := by
  have hnote : ∀ s, f (State.noteLane s l) = f s := fun s => hf.noteLane (List.Subset.trans (by decide) h) s l
  unfold State.lanePower
  split_ifs
  · exact (hnote _).trans (hf.laneStart (List.Subset.trans (by decide) h) _ _ _)
  · rfl
  · rfl
  · exact hf.wr (h (by decide)) _ _ _
  · exact (hnote _).trans ((hf.setLane (h (by decide)) _ _ _).trans (hf.setLaneState (List.Subset.trans (by decide) h) (h (by decide)) (h (by decide)) _ _ _ _))

theorem sdiPower (h : sdiMarks ⊆ M) (s : State) : f s.sdiPower = f s := by
  refine foldl_blind (fun s l => ?_) _ s
  dsimp only
  split
  · exact (hf.setSdi h _ _ _).trans (hf.setSdiState h _ _ _)
  · rfl

theorem lanesPower (h : lanePowerMarks ⊆ M) (s : State) : f s.lanesPower = f s :=
  (hf.sdiPower (List.Subset.trans (by decide) h) _).trans (foldl_blind (fun s l => hf.lanePower h s l) _ s)

theorem noteUnits (h : unitMarks ⊆ M) (s : State) : f s.noteUnits = f s :=
  (foldl_blind (fun _ _ => hf.wr (h (by decide)) _ _ _) _ _).trans (foldl_blind (fun _ _ => (hf.alarmWhile (h (by decide)) _ _ _).trans (hf.wr (h (by decide)) _ _ _)) _ s)

theorem unitPower (h : unitPowerMarks ⊆ M) (s : State) : f s.lanesPower.noteUnits = f s :=
  (hf.noteUnits (List.Subset.trans (by decide) h) _).trans (hf.lanesPower (List.Subset.trans (by decide) h) _)

end Blind

/-- A refusal between those of the surfaces and those of custody, which no result object notes. -/
theorem noteRefusal_between (s : State) (o r : Nat) {k : Nat} (hlow : 0x1306 < k) (hhigh : k < 0x1601) : s.noteRefusal o r k = s := by
  unfold State.noteRefusal
  rw [if_neg (by omega), if_neg (by omega)]

theorem finish_pdState (s w : State) (pd : Nat) : (s.finish w).pdState pd = w.pdState pd := rfl

section
variable {s : State} {t pd : Nat} (hp : s.powered = true)
include hp

/-- The end of a ramp. -/
theorem domainRampDone_on (hpd : pd < 96) (h : s.pdState pd = PD_STATE.ramping) :
    ∃ u, exec (.domainRampDone t pd) s = .next u ∧ u.pdState pd = PD_STATE.on ∧ ¬ u.stands .PWR_DOMAIN_FAULT pd := by
  refine ⟨_, run_work (t := t) (f := (·.rampDone pd)) hp (if_pos ⟨hpd, h⟩), (finish_pdState _ _ _).trans ?_, fun hs => ?_⟩
  · exact ((blind_rd (by decide) pd).unitPower (List.Subset.refl _) _).trans (((blind_rd (M := [.alarm .PWR_DOMAIN_FAULT]) (by decide) pd).clear (by decide) _ _).trans ((s.begin t).rd_wr_same o1410_PD_STATE pd PD_STATE.on))
  · have hstands := (blind_stands (a := .PWR_DOMAIN_FAULT) (by decide) (by decide) pd).unitPower (List.Subset.refl _) (((s.begin t).wr o1410_PD_STATE pd PD_STATE.on).clear .PWR_DOMAIN_FAULT pd)
    exact not_stands_clear _ _ _ ((iff_of_eq hstands).mp ((finish_stands _ _ _ _).mp hs))

end

/-- The faults of a domain within the last 60 s, with that of this instant. -/
def State.faultsOf (s : State) (pd : Nat) : List Nat := s.now :: ((storeGet pd s.pwr.faults).getD []).filter (fun a => decide (s.now < a + 60 * second))

/-- A domain switched off by a fault. -/
def State.faulted (s : State) (pd : Nat) : State :=
  ({ s with pwr := { s.pwr with faults := storePut natLt pd (s.faultsOf pd) s.pwr.faults } }.wr o1410_PD_STATE pd (if 3 ≤ (s.faultsOf pd).length then PD_STATE.locked_off else PD_STATE.fault)).bump o1410_PD_FAULTS pd

/-- The fault with its alarm. -/
def State.faultRaised (s : State) (pd : Nat) : State := (s.faulted pd).raiseWith .PWR_DOMAIN_FAULT pd Alarm.PWR_DOMAIN_FAULT.severity (pdSubsys pd) []

theorem domainFault_eq {s : State} {pd : Nat} (hpd : pd < 96) (h : s.pdState pd = PD_STATE.on) (h1 : ¬ (76 ≤ pd ∧ pd < 82)) (h2 : ¬ (86 ≤ pd ∧ pd < 90)) :
    s.domainFault pd = (s.faultRaised pd).lanesPower.noteUnits :=
  (if_neg fun hn => hn.elim (Nat.not_le_of_lt hpd) fun hs => hs.2.1 h).trans ((if_neg h1).trans (if_neg h2))

theorem faulted_rd (s : State) (pd : Nat) : (s.faulted pd).rd o1410_PD_STATE pd = (if 3 ≤ (s.faultsOf pd).length then PD_STATE.locked_off else PD_STATE.fault) ∧
    (s.faulted pd).rd o1410_PD_FAULTS pd = (s.rd o1410_PD_FAULTS pd + 1) % 4294967296 := by
  have hmod : objModulus o1410_PD_FAULTS = 4294967296 := by decide
  constructor
  · exact (rd_bump_obj _ (by decide) _ _).trans (State.rd_wr_same _ _ _ _)
  · refine (rd_bump_same _ _ _).trans ?_
    rw [hmod, State.rd_wr_obj _ _ (by decide)]
    rfl

theorem length_faultsOf (s : State) (pd : Nat) : (3 ≤ (s.faultsOf pd).length) = (2 ≤ (((storeGet pd s.pwr.faults).getD []).filter (fun a => decide (s.now < a + 60000000000))).length) :=
  propext Nat.succ_le_succ_iff

theorem domainFault_off {s : State} {t pd : Nat} (hp : s.powered = true) (hpd : pd < 96) (h : s.pdState pd = PD_STATE.on) (h1 : ¬ (76 ≤ pd ∧ pd < 82)) (h2 : ¬ (86 ≤ pd ∧ pd < 90)) :
    ∃ u, exec (.domainFault t pd) s = .next u ∧ u.rd o1410_PD_FAULTS pd = (s.rd o1410_PD_FAULTS pd + 1) % 4294967296 ∧ u.stands .PWR_DOMAIN_FAULT pd ∧
      u.pdState pd = if 2 ≤ (((storeGet pd s.pwr.faults).getD []).filter (fun a => decide (max s.now t < a + 60000000000))).length then PD_STATE.locked_off else PD_STATE.fault := by
  obtain ⟨hstate, hcount⟩ := faulted_rd (s.begin t) pd
  have hsee : ∀ {o}, .obj o ∉ unitPowerMarks → o ∉ alarmSideObjects → (((s.begin t).faultRaised pd).lanesPower.noteUnits).rd o pd = ((s.begin t).faulted pd).rd o pd := fun ho ha =>
    ((blind_rd ho pd (.inr ha)).unitPower (List.Subset.refl _) _).trans ((blind_rd (M := [.alarm .PWR_DOMAIN_FAULT]) (by simp) pd (.inr ha)).raiseWith (by decide) _ _ (fun e => e) _ _)
  have hstands := (blind_stands (a := .PWR_DOMAIN_FAULT) (by decide) (by decide) pd).unitPower (List.Subset.refl _) ((s.begin t).faultRaised pd)
  have hwork : (s.begin t).domainFault pd = ((s.begin t).faultRaised pd).lanesPower.noteUnits := domainFault_eq hpd h h1 h2
  refine ⟨_, run_work (t := t) (f := (·.domainFault pd)) hp hwork, ?_, ?_, ?_⟩
  · exact (State.finish_rd _ _ _ _).trans ((hsee (by decide) (by decide)).trans hcount)
  · exact (finish_stands _ _ _ _).mpr ((iff_of_eq hstands).mpr ((stands_raiseWith _ _ _ _ _ _ _ _).mpr (.inr ⟨rfl, rfl⟩)))
  · refine (finish_pdState _ _ _).trans ((hsee (by decide) (by decide)).trans (hstate.trans ?_))
    simp only [length_faultsOf]
    rfl

section
variable {s : State} {t port pd : Nat} (hp : s.powered = true) (ha : s.admits port o1410_PD_CMD pd (.int 0) = true)
include hp ha

/-- 'retry' of a domain in 'fault'. -/
theorem pdRetry_ramps (h : s.pdState pd = PD_STATE.fault) : ∃ u, exec (.pdRetry t port pd) s = .next u ∧ u.last = ⟨0, none⟩ ∧ u.pdState pd = PD_STATE.ramping ∧
    s.keepsRegs u [(o1410_PD_STATE, pd)] ∧ u.works = s.works := by
  have hk : ∀ c : Ctx, writePdCmd c pd (.int 0) (s.begin t) = (stOK, (s.begin t).wr o1410_PD_STATE pd PD_STATE.ramping) := fun c =>
    (if_neg fun hl => absurd (h.symm.trans hl) (by decide)).trans (if_neg fun hn => hn h)
  obtain ⟨e, he, hacc⟩ := run_accepted_row (t := t) (h := writePdCmd) (by decide) hp ha (fun c _ => hk c) rfl
  have hkeeps : s.keepsRegs ((s.begin t).wr o1410_PD_STATE pd PD_STATE.ramping) [(o1410_PD_STATE, pd)] := (keepsRegs_refl (s.begin t) _).wr _ (List.mem_singleton_self _)
  exact ⟨_, he, hacc.last, (hacc.rd _ _ (by decide)).trans ((s.begin t).rd_wr_same o1410_PD_STATE pd PD_STATE.ramping), hacc.keepsRegs hkeeps, hacc.works rfl rfl⟩

theorem pdRetry_lockedOff (h : s.pdState pd = PD_STATE.locked_off) : ∃ u, exec (.pdRetry t port pd) s = .next u ∧ u.last = ⟨0x1412, none⟩ ∧ s.keepsRegs u [] ∧ u.works = s.works :=
  ⟨_, run_refused_row (t := t) (h := writePdCmd) (by decide) hp ha (fun _ _ => if_pos h) (by decide) (noteRefusal_between _ _ _ (by decide) (by decide)), rfl, keepsRegs_refl _ _, rfl⟩

theorem pdRetry_busy (h : s.pdState pd ≠ PD_STATE.fault) (hl : s.pdState pd ≠ PD_STATE.locked_off) :
    ∃ u, exec (.pdRetry t port pd) s = .next u ∧ u.last = ⟨1, none⟩ ∧ s.keepsRegs u [] ∧ u.works = s.works :=
  ⟨_, run_refused_row (t := t) (h := writePdCmd) (by decide) hp ha (fun _ _ => (if_neg hl).trans (if_pos h)) (by decide) (noteRefusal_low _ _ _ (by decide)), rfl, keepsRegs_refl _ _, rfl⟩

end

/-- Settles O52. -/
theorem domainsRampFaultAndRetry : Obligations.DomainsRampFaultAndRetry := fun _ _ _ _ hp hpd =>
  ⟨domainRampDone_on hp hpd, domainFault_off hp hpd, fun ha => ⟨pdRetry_ramps hp ha, pdRetry_lockedOff hp ha, pdRetry_busy hp ha⟩⟩

end Sys2Proof.Machine
end

section
/-! SUPPORT. Root slots, policy bits, verification keys and the anti-rollback counter (R412, R417-R420). -/

namespace Sys2Proof.Machine
open Sys2Proof

/-- A command that its handler refuses with a change of its own and with a code that no chapter notes. -/
theorem run_refused_to {s w : State} {t port o r : Nat} {v : Val} {h : Handler} {k : Nat} (hrow : perSession o = false) (hp : s.powered = true) (ha : s.admits port o r v = true)
    (hk : ∀ c : Ctx, c.port = port → h c r v (s.begin t) = (k, w)) (hne : k ≠ stOK) (hend : w.ctl.endAfter = s.ctl.endAfter) (hnote : w.noteRefusal o r k = w) :
    s.run t (fun s => s.opCmd h port o r v) = .next ((s.begin t).finish (w.answer k)) := by
  rw [run_refused hp ha (fun c _ hc => (congrArg (h c · v (s.begin t)) (effRow_eq c r hrow)).trans (hk c hc)) hne hend, hnote]

theorem refused_rd (s w : State) (k o r : Nat) : (s.finish (w.answer k)).rd o r = w.rd o r := rfl

/-- The result of a command in SEC_RESULT. -/
def State.secNoted (s : State) (k : Nat) : State := s.wr o1130_SEC_RESULT 0 k

theorem secNoted_result (s : State) (k : Nat) : (s.secNoted k).rd o1130_SEC_RESULT 0 = k := s.rd_wr_same _ _ _

theorem secNoted_rd (s : State) (k : Nat) {o : Nat} (r : Nat) (h : o ≠ o1130_SEC_RESULT) : (s.secNoted k).rd o r = s.rd o r := s.rd_wr_obj _ h

theorem secNoted_keepsRegs {s u : State} {l : List (Nat × Nat)} (h : s.keepsRegs u l) (k : Nat) (hl : (o1130_SEC_RESULT, 0) ∈ l) : s.keepsRegs (u.secNoted k) l := h.wr _ hl

/-! The buffer. -/

theorem emptyBuf_sec (s : State) : s.emptyBuf.sec = { s.sec with buf := [] } := rfl

theorem emptyBuf_rd (s : State) {o : Nat} (r : Nat) (h : o ≠ o1133_SEC_XFER_OFFSET) : s.emptyBuf.rd o r = s.rd o r := State.rd_wr_obj _ _ h

theorem emptyBuf_keepsRegs (s : State) {l : List (Nat × Nat)} (hl : (o1133_SEC_XFER_OFFSET, 0) ∈ l) : s.keepsRegs s.emptyBuf l :=
  (keepsRegs_of_files (w := { s with sec := { s.sec with buf := [] } }) (keepsRegs_refl s l) rfl rfl).wr 0 hl

/-! Root slots. -/

/-- A buffer that an active root's key has signed for a slot. -/
def State.rootSigned (s : State) (k : Nat) : Prop :=
  s.sec.buf.length = secBufLen ∧ (s.rootFor (slice 32 60 s.sec.buf)).isSome = true ∧ hssVerify (slice 32 60 s.sec.buf) (s.sec.buf.drop 92) (rootMsg k (slice 0 32 s.sec.buf)) = true

/-- A slot with the hash of the buffer. -/
def State.rootTaken (s : State) (k : Nat) : State := (s.emptyBuf.wr o1131_ROOT_STATE k ROOT_STATE.active).wrOct o1131_ROOT_HASH k (slice 0 32 s.sec.buf)

theorem rootProgram_signed {s : State} {k : Nat} (hb : s.rd o1131_ROOT_STATE k = ROOT_STATE.blank) (h : s.rootSigned k) : s.rootProgram k = (stOK, s.rootTaken k) := by
  obtain ⟨hlen, hroot, hver⟩ := h
  refine (if_neg fun hn => hn hb).trans (if_neg ?_)
  rintro (hn | hn | hn)
  · exact hn hlen
  · exact Bool.false_ne_true ((Option.isNone_eq_false_iff.mpr hroot).symm.trans hn)
  · exact Bool.false_ne_true (hn.symm.trans hver)

theorem rootProgram_unsigned {s : State} {k : Nat} (hb : s.rd o1131_ROOT_STATE k = ROOT_STATE.blank) (h : ¬ s.rootSigned k) : s.rootProgram k = (0x1808, s.emptyBuf) := by
  refine (if_neg fun hn => hn hb).trans (if_pos ?_)
  by_contra hn
  obtain ⟨hlen, hroot, hver⟩ := not_or.mp hn |>.imp not_not.mp not_or.mp
  exact h ⟨hlen, Option.isNone_eq_false_iff.mp (Bool.eq_false_of_not_eq_true hroot), Bool.eq_true_of_not_eq_false hver⟩

theorem rootTaken_keepsRegs (s : State) (k : Nat) : s.keepsRegs (s.rootTaken k) [(o1131_ROOT_STATE, k), (o1131_ROOT_HASH, k), (o1130_SEC_RESULT, 0), (o1133_SEC_XFER_OFFSET, 0)] :=
  ((emptyBuf_keepsRegs s (by simp)).wr _ (by simp)).wrOct _ (by simp)

theorem writeRootCmd_program {s : State} {k : Nat} {j : Nat} {w : State} (h : s.rootProgram k = (j, w)) (c : Ctx) : writeRootCmd c k (.int ROOT_CMD.program) s = (j, w.secNoted j) :=
  congrArg secResult ((if_pos rfl).trans h)

theorem writeRootCmd_revoke {s : State} {k : Nat} {j : Nat} {w : State} (h : s.rootRevoke k = (j, w)) (c : Ctx) : writeRootCmd c k (.int ROOT_CMD.revoke) s = (j, w.secNoted j) :=
  congrArg secResult ((if_neg (show ¬ ROOT_CMD.revoke = ROOT_CMD.program by decide)).trans h)

section
variable {s : State} {t port k : Nat} (hp : s.powered = true)
include hp

theorem rootProgram_takes (ha : s.admits port o1131_ROOT_CMD k (.int ROOT_CMD.program) = true) (hb : s.rd o1131_ROOT_STATE k = ROOT_STATE.blank) (h : s.rootSigned k) :
    ∃ u, exec (.rootProgram t port k) s = .next u ∧ u.sec = { s.sec with buf := [] } ∧
      s.keepsRegs u [(o1131_ROOT_STATE, k), (o1131_ROOT_HASH, k), (o1130_SEC_RESULT, 0), (o1133_SEC_XFER_OFFSET, 0)] ∧
      u.last = ⟨0, none⟩ ∧ u.rd o1131_ROOT_STATE k = ROOT_STATE.active ∧ u.rdOct o1131_ROOT_HASH k = slice 0 32 s.sec.buf ∧ u.rd o1130_SEC_RESULT 0 = 0 := by
  obtain ⟨e, he, hacc⟩ := run_accepted_row (t := t) (h := writeRootCmd) (by decide) hp ha (fun c _ => writeRootCmd_program (rootProgram_signed (s := s.begin t) hb h) c) rfl
  refine ⟨_, he, rfl, hacc.keepsRegs (secNoted_keepsRegs (rootTaken_keepsRegs (s.begin t) k) _ (by simp)), hacc.last, ?_, ?_, ?_⟩
  · exact (hacc.rd _ _ (by decide)).trans ((secNoted_rd _ _ _ (by decide)).trans ((s.begin t).emptyBuf.rd_wr_same o1131_ROOT_STATE k _))
  · exact State.rdOct_wrOct_same _ _ _ _
  · exact (hacc.rd _ _ (by decide)).trans (secNoted_result _ _)

theorem rootProgram_refused (ha : s.admits port o1131_ROOT_CMD k (.int ROOT_CMD.program) = true) (hb : s.rd o1131_ROOT_STATE k = ROOT_STATE.blank) (h : ¬ s.rootSigned k) :
    ∃ u, exec (.rootProgram t port k) s = .next u ∧ u.sec = { s.sec with buf := [] } ∧
      s.keepsRegs u [(o1131_ROOT_STATE, k), (o1131_ROOT_HASH, k), (o1130_SEC_RESULT, 0), (o1133_SEC_XFER_OFFSET, 0)] ∧
      u.last = ⟨0x1808, none⟩ ∧ u.rd o1131_ROOT_STATE k = ROOT_STATE.blank ∧ u.rd o1130_SEC_RESULT 0 = 0x1808 := by
  have hkeeps : s.keepsRegs ((s.begin t).emptyBuf.secNoted 0x1808) [(o1131_ROOT_STATE, k), (o1131_ROOT_HASH, k), (o1130_SEC_RESULT, 0), (o1133_SEC_XFER_OFFSET, 0)] :=
    secNoted_keepsRegs (emptyBuf_keepsRegs (s.begin t) (by simp)) _ (by simp)
  refine ⟨_, run_refused_to (t := t) (h := writeRootCmd) (by decide) hp ha (fun c _ => writeRootCmd_program (rootProgram_unsigned (s := s.begin t) hb h) c) (by decide) rfl
    (noteRefusal_high _ _ _ (by decide)), rfl, hkeeps, rfl, ?_, ?_⟩
  · exact (refused_rd _ _ _ _ _).trans ((secNoted_rd _ _ _ (by decide)).trans ((emptyBuf_rd (s.begin t) k (by decide)).trans hb))
  · exact (refused_rd _ _ _ _ _).trans (secNoted_result _ _)

section
variable (ha : s.admits port o1131_ROOT_CMD k (.int ROOT_CMD.revoke) = true) (hact : s.rd o1131_ROOT_STATE k = ROOT_STATE.active)
include ha hact

theorem rootRevoke_ends (hother : ∃ x ∈ rootList, x ≠ k ∧ s.rd o1131_ROOT_STATE x = ROOT_STATE.active) (hrun : s.runRoot ≠ k) :
    ∃ u, exec (.rootRevoke t port k) s = .next u ∧ u.last = ⟨0, none⟩ ∧ u.rd o1131_ROOT_STATE k = ROOT_STATE.revoked ∧
      s.keepsRegs u [(o1131_ROOT_STATE, k), (o1130_SEC_RESULT, 0), (o1133_SEC_XFER_OFFSET, 0)] := by
  obtain ⟨x, hx, hxk, hxa⟩ := hother
  have hrevoke : (s.begin t).rootRevoke k = (stOK, (s.begin t).emptyBuf.wr o1131_ROOT_STATE k ROOT_STATE.revoked) := by
    refine (if_neg fun hn => hn hact).trans (if_neg ?_)
    rintro (hall | ⟨-, hr⟩)
    · rcases Bool.or_eq_true_iff.mp (List.all_eq_true.mp hall x hx) with hn | hn
      · exact hxk (beq_iff_eq.mp hn)
      · exact bne_iff_ne.mp hn hxa
    · exact hrun hr
  have hkeeps := secNoted_keepsRegs ((emptyBuf_keepsRegs (s.begin t) (l := [(o1131_ROOT_STATE, k), (o1130_SEC_RESULT, 0), (o1133_SEC_XFER_OFFSET, 0)]) (by simp)).wr (o := o1131_ROOT_STATE)
    (r := k) ROOT_STATE.revoked (by simp)) stOK (by simp)
  obtain ⟨e, he, hacc⟩ := run_accepted_row (t := t) (h := writeRootCmd) (by decide) hp ha (fun c _ => writeRootCmd_revoke hrevoke c) rfl
  exact ⟨_, he, hacc.last, (hacc.rd _ _ (by decide)).trans ((secNoted_rd _ _ _ (by decide)).trans ((s.begin t).emptyBuf.rd_wr_same o1131_ROOT_STATE k _)), hacc.keepsRegs hkeeps⟩

theorem rootRevoke_refused (h : (∀ x ∈ rootList, x ≠ k → s.rd o1131_ROOT_STATE x ≠ ROOT_STATE.active) ∨ (s.fwRuns = true ∧ s.runRoot = k)) :
    ∃ u, exec (.rootRevoke t port k) s = .next u ∧ u.last = ⟨0x1807, none⟩ ∧ u.rd o1131_ROOT_STATE k = ROOT_STATE.active ∧ u.rd o1130_SEC_RESULT 0 = 0x1807 := by
  have hrevoke : (s.begin t).rootRevoke k = (0x1807, (s.begin t).emptyBuf) := by
    refine (if_neg fun hn => hn hact).trans (if_pos (h.imp_left fun hall => List.all_eq_true.mpr fun x hx => ?_))
    by_cases hxk : x = k
    · exact Bool.or_eq_true_iff.mpr (.inl (beq_iff_eq.mpr hxk))
    · exact Bool.or_eq_true_iff.mpr (.inr (bne_iff_ne.mpr (hall x hx hxk)))
  refine ⟨_, run_refused_to (t := t) (h := writeRootCmd) (by decide) hp ha (fun c _ => writeRootCmd_revoke hrevoke c) (by decide) rfl (noteRefusal_high _ _ _ (by decide)), rfl, ?_, ?_⟩
  · exact (refused_rd _ _ _ _ _).trans ((secNoted_rd _ _ _ (by decide)).trans ((emptyBuf_rd (s.begin t) k (by decide)).trans hact))
  · exact (refused_rd _ _ _ _ _).trans (secNoted_result _ _)

end

end

/-! Policy bits. -/

/-- Policy bits that are set, with the signature that they ask of ledgers. -/
def State.bitsSet (s : State) (bits : Nat) : State :=
  let s' := s.wr o1130_POLICY 0 (s.rdN o1130_POLICY 0 ||| bits : Nat)
  if (s.rdN o1130_POLICY 0 ||| bits).testBit 0 then s'.wr o2002_REQUIRE_SIGNATURE 0 1 else s'

/-- A policy bit that is new, over a key that is not valid. -/
def State.keyMissing (s : State) (bits : Nat) : Bool := [0, 1].any fun k => bits.testBit k && !(s.rdN o1130_POLICY 0).testBit k && s.rd o1134_VKEY_STATE k != VKEY_STATE.valid

theorem writePolicy_eq {s : State} {bits : Nat} (hb : bits < 4) (c : Ctx) (r : Nat) :
    writePolicy c r (.int bits) s = if s.keyMissing bits = true then (0x180B, s.secNoted 0x180B) else (stOK, (s.bitsSet bits).secNoted stOK) := by
  unfold writePolicy onInt
  dsimp only
  rw [show (bits : Int).toNat % 4 = bits from Nat.mod_eq_of_lt hb, apply_ite secResult]
  rfl

theorem bitsSet_policy (s : State) (bits : Nat) : (s.bitsSet bits).rdN o1130_POLICY 0 = s.rdN o1130_POLICY 0 ||| bits := by
  unfold State.bitsSet State.rdN
  dsimp only
  split
  · rw [State.rd_wr_obj _ _ (by decide), State.rd_wr_same]
    rfl
  · rw [State.rd_wr_same]
    rfl

theorem bitsSet_signature (s : State) {bits : Nat} (hb : bits.testBit 0 = true) : (s.bitsSet bits).rd o2002_REQUIRE_SIGNATURE 0 = 1 := by
  unfold State.bitsSet
  dsimp only
  rw [if_pos (by rw [Nat.testBit_or, hb, Bool.or_true]), State.rd_wr_same]

theorem bitsSet_ctl (s : State) (bits : Nat) : (s.bitsSet bits).ctl = s.ctl := by
  unfold State.bitsSet
  dsimp only
  split
  · rfl
  · rfl

section
variable {s : State} {t port bits : Nat} (hp : s.powered = true) (hb : bits < 4) (ha : s.admits port o1130_POLICY_SET 0 (.int bits) = true)
include hp hb ha

theorem policySet_sets (h : ∀ b ∈ [0, 1], bits.testBit b = true → s.rd o1134_VKEY_STATE b = VKEY_STATE.valid) :
    ∃ u, exec (.policySet t port bits) s = .next u ∧ u.last = ⟨0, none⟩ ∧ u.rdN o1130_POLICY 0 = s.rdN o1130_POLICY 0 ||| bits ∧
      (bits.testBit 0 = true → u.rd o2002_REQUIRE_SIGNATURE 0 = 1) := by
  have hkey : ¬ (s.begin t).keyMissing bits = true := by
    intro hm
    obtain ⟨b, hmem, hbit⟩ := List.any_eq_true.mp hm
    obtain ⟨hnew, hinv⟩ := Bool.and_eq_true_iff.mp hbit
    exact bne_iff_ne.mp hinv (h b hmem (Bool.and_eq_true_iff.mp hnew).1)
  obtain ⟨e, he, hacc⟩ := run_accepted_row (t := t) (h := writePolicy) (by decide) hp ha (fun c _ => (writePolicy_eq (s := s.begin t) hb c 0).trans (if_neg hkey)) (congrArg Ctl.endAfter (bitsSet_ctl (s.begin t) bits))
  refine ⟨_, he, hacc.last, ?_, fun hbit => ?_⟩
  · exact (hacc.rdN _ (by decide)).trans ((congrArg Int.toNat (secNoted_rd _ _ _ (by decide))).trans (bitsSet_policy (s.begin t) bits))
  · exact (hacc.rd _ _ (by decide)).trans ((secNoted_rd _ _ _ (by decide)).trans (bitsSet_signature (s.begin t) hbit))

theorem policySet_refused {b : Nat} (hmem : b ∈ [0, 1]) (hbit : bits.testBit b = true) (hnew : (s.rdN o1130_POLICY 0).testBit b = false) (hinv : s.rd o1134_VKEY_STATE b ≠ VKEY_STATE.valid) :
    ∃ u, exec (.policySet t port bits) s = .next u ∧ u.last = ⟨0x180B, none⟩ ∧ u.rdN o1130_POLICY 0 = s.rdN o1130_POLICY 0 := by
  have hkey : (s.begin t).keyMissing bits = true :=
    List.any_eq_true.mpr ⟨b, hmem, Bool.and_eq_true_iff.mpr ⟨Bool.and_eq_true_iff.mpr ⟨hbit, congrArg (!·) hnew⟩, bne_iff_ne.mpr hinv⟩⟩
  refine ⟨_, run_refused_to (t := t) (h := writePolicy) (by decide) hp ha (fun c _ => (writePolicy_eq (s := s.begin t) hb c 0).trans (if_pos hkey)) (by decide) rfl (noteRefusal_high _ _ _ (by decide)), rfl, ?_⟩
  exact congrArg Int.toNat ((refused_rd _ _ _ _ _).trans (secNoted_rd _ _ _ (by decide)))

end

/-! Verification keys. -/

/-- The policy of a purpose allows the buffer: it asks no signature, or the key that is replaced has signed. -/
def State.keyAllowed (s : State) (k : Nat) : Prop :=
  (s.rdN o1130_POLICY 0).testBit k = false ∨ ∃ old, s.vkey k = some old ∧ hssVerify old (s.sec.buf.drop 60) (vkeyMsg k (s.sec.buf.take 60)) = true

/-- Whether the key that is replaced has signed the buffer. -/
def State.keySigned (s : State) (k : Nat) : Bool :=
  match s.vkey k with
  | some old => hssVerify old (s.sec.buf.drop 60) (vkeyMsg k (s.sec.buf.take 60))
  | none => false

theorem keyAllowed_iff (s : State) (k : Nat) : s.keyAllowed k ↔ ¬ ((s.rdN o1130_POLICY 0).testBit k ∧ s.keySigned k = false) := by
  have hsigned : s.keySigned k = true ↔ ∃ old, s.vkey k = some old ∧ hssVerify old (s.sec.buf.drop 60) (vkeyMsg k (s.sec.buf.take 60)) = true := by
    unfold State.keySigned
    cases s.vkey k with
    | none => simp
    | some old => simp
  unfold State.keyAllowed
  rw [← hsigned, not_and_or, Bool.not_eq_true, Bool.not_eq_false]

theorem writeVkey_eq {s : State} {k : Nat} (hlen : 60 ≤ s.sec.buf.length) (c : Ctx) (v : Int) :
    writeVkey c k (.int v) s = if (s.rdN o1130_POLICY 0).testBit k ∧ s.keySigned k = false then (0x1808, s.emptyBuf.secNoted 0x1808)
      else (stOK, (s.emptyBuf.putVkey k (s.sec.buf.take 60)).secNoted stOK) := by
  have hkey : (s.sec.buf.take 60).length = 60 := List.length_take_of_le hlen
  exact (apply_ite secResult _ _ _).trans (if_congr (or_iff_right fun hn => hn hkey) rfl rfl)

theorem putVkey_state (s : State) (k : Nat) (key : Bytes) : (s.putVkey k key).rd o1134_VKEY_STATE k = VKEY_STATE.valid := State.rd_wr_same _ o1134_VKEY_STATE k VKEY_STATE.valid

theorem vkey_putVkey (s : State) (k : Nat) {key : Bytes} (h : key.length = 60) : (s.putVkey k key).vkey k = some key := by
  have hkey : (s.putVkey k key).vkey k = (if crc32c key = crc32c key ∧ key.length = hssPubLen then some key else if crc32c key = crc32c key ∧ key.length = hssPubLen then some key else none) := by
    unfold State.vkey State.putVkey
    dsimp only [State.wrOct_ctl, State.wr_ctl]
    rw [storeGet_put_same]
    rfl
  rw [hkey, if_pos ⟨rfl, h⟩]

section
variable {s : State} {t port k : Nat} (hp : s.powered = true) (ha : s.admits port o1134_VKEY_CMD k (.int 0) = true) (hlen : 60 ≤ s.sec.buf.length)
include hp ha hlen

theorem vkeyInstall_installs (h : s.keyAllowed k) : ∃ u, exec (.vkeyInstall t port k) s = .next u ∧ u.sec.buf = [] ∧ u.last = ⟨0, none⟩ ∧ u.vkey k = some (s.sec.buf.take 60) ∧
    u.rd o1134_VKEY_STATE k = VKEY_STATE.valid ∧ u.rdOct o1134_VKEY_HASH k = sha256 (s.sec.buf.take 60) ∧ u.rd o1130_SEC_RESULT 0 = 0 := by
  have hallowed := (keyAllowed_iff (s.begin t) k).mp h
  obtain ⟨e, he, hacc⟩ := run_accepted_row (t := t) (h := writeVkey) (by decide) hp ha (fun c _ => (writeVkey_eq (s := s.begin t) hlen c 0).trans (if_neg hallowed)) rfl
  refine ⟨_, he, rfl, hacc.last, vkey_putVkey (s.begin t).emptyBuf k (List.length_take_of_le hlen), ?_, State.rdOct_wrOct_same _ _ _ _, ?_⟩
  · exact (hacc.rd _ _ (by decide)).trans ((secNoted_rd _ _ _ (by decide)).trans (putVkey_state _ _ _))
  · exact (hacc.rd _ _ (by decide)).trans (secNoted_result _ _)

theorem vkeyInstall_refused (h : ¬ s.keyAllowed k) : ∃ u, exec (.vkeyInstall t port k) s = .next u ∧ u.sec.buf = [] ∧ u.last = ⟨0x1808, none⟩ ∧ u.vkey k = s.vkey k ∧
    u.rd o1130_SEC_RESULT 0 = 0x1808 := by
  have hallowed := not_not.mp ((not_congr (keyAllowed_iff (s.begin t) k)).mp h)
  exact ⟨_, run_refused_to (t := t) (h := writeVkey) (by decide) hp ha (fun c _ => (writeVkey_eq (s := s.begin t) hlen c 0).trans (if_pos hallowed)) (by decide) rfl (noteRefusal_high _ _ _ (by decide)), rfl, rfl, rfl,
    (refused_rd _ _ _ _ _).trans (secNoted_result _ _)⟩

end

/-! The anti-rollback counter. -/

/-- The counter at the running image's version, the other slot checked again. -/
def State.counterRaised (s : State) : State :=
  let s' := s.wr o1130_ROLLBACK_COUNTER 0 (s.rd o1130_SECURITY_VERSION 0)
  if s'.rd o1132_FW_SLOT_STATE (1 - s'.runSlot) = FW_SLOT_STATE.valid ∨ s'.rd o1132_FW_SLOT_STATE (1 - s'.runSlot) = FW_SLOT_STATE.invalid then
    s'.wr o1132_FW_SLOT_STATE (1 - s'.runSlot) FW_SLOT_STATE.checking else s'

theorem rollbackCommit_raises {s : State} (hf : s.fwRuns = true) (h : s.rd o1130_ROLLBACK_COUNTER 0 < s.rd o1130_SECURITY_VERSION 0) : s.rollbackCommit = s.counterRaised := by
  refine if_neg ?_
  rintro (hn | hn)
  · exact Bool.false_ne_true (hn.symm.trans hf)
  · exact absurd h (Int.not_lt.mpr hn)

theorem counterRaised_counter (s : State) : s.counterRaised.rd o1130_ROLLBACK_COUNTER 0 = s.rd o1130_SECURITY_VERSION 0 := by
  unfold State.counterRaised
  dsimp only
  split
  · rw [State.rd_wr_obj _ _ (by decide), State.rd_wr_same]
  · rw [State.rd_wr_same]

theorem counterRaised_slot {s : State} (h : s.rd o1132_FW_SLOT_STATE (1 - s.runSlot) = FW_SLOT_STATE.valid) : s.counterRaised.rd o1132_FW_SLOT_STATE (1 - s.runSlot) = FW_SLOT_STATE.checking := by
  have hrun : (s.wr o1130_ROLLBACK_COUNTER 0 (s.rd o1130_SECURITY_VERSION 0)).runSlot = s.runSlot := congrArg Int.toNat (State.rd_wr_obj _ _ (by decide))
  unfold State.counterRaised
  dsimp only
  rw [hrun, State.rd_wr_obj _ _ (by decide), h, if_pos (.inl rfl), State.rd_wr_same]

theorem counterRaised_ctl (s : State) : s.counterRaised.ctl = s.ctl := by
  unfold State.counterRaised
  dsimp only
  split
  · rfl
  · rfl

section
variable {s : State} {t port : Nat} (hp : s.powered = true) (ha : s.admits port o1130_ROLLBACK_CMD 0 (.int 0) = true)
include hp ha

theorem rollbackCommit_commits (hf : s.fwRuns = true) (h : s.rd o1130_ROLLBACK_COUNTER 0 < s.rd o1130_SECURITY_VERSION 0) : ∃ u, exec (.rollbackCommit t port) s = .next u ∧ u.last = ⟨0, none⟩ ∧
    u.rd o1130_ROLLBACK_COUNTER 0 = s.rd o1130_SECURITY_VERSION 0 ∧
    (s.rd o1132_FW_SLOT_STATE (1 - s.runSlot) = FW_SLOT_STATE.valid → u.rd o1132_FW_SLOT_STATE (1 - s.runSlot) = FW_SLOT_STATE.checking) := by
  have hk : ∀ c : Ctx, writeRollback c 0 (.int 0) (s.begin t) = (stOK, (s.begin t).counterRaised.secNoted stOK) := fun _ => by rw [← rollbackCommit_raises (s := s.begin t) hf h]; rfl
  obtain ⟨e, he, hacc⟩ := run_accepted_row (t := t) (h := writeRollback) (by decide) hp ha (fun c _ => hk c) (congrArg Ctl.endAfter (counterRaised_ctl (s.begin t)))
  refine ⟨_, he, hacc.last, ?_, fun hv => ?_⟩
  · exact (hacc.rd _ _ (by decide)).trans ((secNoted_rd _ _ _ (by decide)).trans (counterRaised_counter (s.begin t)))
  · exact (hacc.rd _ _ (by decide)).trans ((secNoted_rd _ _ _ (by decide)).trans (counterRaised_slot (s := s.begin t) hv))

theorem rollbackCommit_idle (h : s.rd o1130_SECURITY_VERSION 0 ≤ s.rd o1130_ROLLBACK_COUNTER 0) :
    ∃ u, exec (.rollbackCommit t port) s = .next u ∧ u.last = ⟨0, none⟩ ∧ s.keepsRegs u [(o1130_SEC_RESULT, 0)] ∧ u.works = s.works := by
  have hidle : (s.begin t).rollbackCommit = s.begin t := if_pos (.inr h)
  have hk : ∀ c : Ctx, writeRollback c 0 (.int 0) (s.begin t) = (stOK, (s.begin t).secNoted stOK) := fun _ => congrArg (fun x => (stOK, State.secNoted x stOK)) hidle
  obtain ⟨e, he, hacc⟩ := run_accepted_row (t := t) (h := writeRollback) (by decide) hp ha (fun c _ => hk c) rfl
  exact ⟨_, he, hacc.last, hacc.keepsRegs (secNoted_keepsRegs (keepsRegs_refl (s.begin t) _) _ (List.mem_singleton_self _)), hacc.works rfl rfl⟩

end

/-- Settles O46. -/
theorem rootsKeysAndPolicyAreSet : Obligations.RootsKeysAndPolicyAreSet := by
  intro s t port k hp
  refine ⟨fun ha hb => ?_, fun ha hact => ⟨rootRevoke_ends hp ha hact, rootRevoke_refused hp ha hact⟩,
    fun bits hb ha => ⟨policySet_sets hp hb ha, fun b => policySet_refused hp hb ha⟩, fun ha hlen => ?_, fun ha => ⟨rollbackCommit_commits hp ha, rollbackCommit_idle hp ha⟩⟩
  · by_cases hsigned : s.rootSigned k
    · obtain ⟨u, hu, hsec, hkeeps, hdone⟩ := rootProgram_takes (t := t) hp ha hb hsigned
      exact ⟨u, hu, hsec, hkeeps, fun _ => hdone, fun hn => absurd hsigned hn⟩
    · obtain ⟨u, hu, hsec, hkeeps, hdone⟩ := rootProgram_refused (t := t) hp ha hb hsigned
      exact ⟨u, hu, hsec, hkeeps, fun h => absurd h hsigned, fun _ => hdone⟩
  · by_cases hallowed : s.keyAllowed k
    · obtain ⟨u, hu, hbuf, hdone⟩ := vkeyInstall_installs (t := t) hp ha hlen hallowed
      exact ⟨u, hu, hbuf, fun _ => hdone, fun hn => absurd hallowed hn⟩
    · obtain ⟨u, hu, hbuf, hdone⟩ := vkeyInstall_refused (t := t) hp ha hlen hallowed
      exact ⟨u, hu, hbuf, fun h => absurd h hallowed, fun _ => hdone⟩

end Sys2Proof.Machine
end

section
/-! SUPPORT. Firmware slots (R413, R414, R416). -/

namespace Sys2Proof.Machine
open Sys2Proof

theorem writeFwCmd_checking {s : State} (h : s.fwChecking = true) (c : Ctx) (f : Nat) (v : Int) : writeFwCmd c f (.int v) s = (stBUSY, s) := if_pos h

section
variable {s : State} {f : Nat} (h : s.fwChecking = false) (c : Ctx)
include h

theorem writeFwCmd_open : writeFwCmd c f (.int FW_SLOT_CMD.open) s = if s.fwRuns ∧ f = s.runSlot then (0x180C, s) else (stOK, s.fwOpen f) :=
  (if_neg (by rw [h]; exact Bool.false_ne_true)).trans (if_pos rfl)

theorem writeFwCmd_close : writeFwCmd c f (.int FW_SLOT_CMD.close) s =
    if s.rd o1132_FW_SLOT_STATE f = FW_SLOT_STATE.loading then (stOK, (s.noteFlash (.fwClose f)).wr o1132_FW_SLOT_STATE f FW_SLOT_STATE.checking) else (stBUSY, s) :=
  (if_neg (by rw [h]; exact Bool.false_ne_true)).trans ((if_neg (show ¬ FW_SLOT_CMD.close = FW_SLOT_CMD.open by decide)).trans (if_pos rfl))

/-- The device in recovery restarts 1 s after an 'activate'. -/
def State.activated (s : State) : State := if s.rd o1401_DEVICE_STATE 0 = DEVICE_STATE.recovery then { s with pwr := { s.pwr with recoveryAt := some (s.now + 1000000000) } } else s

theorem writeFwCmd_activate : writeFwCmd c f (.int FW_SLOT_CMD.activate) s =
    if s.rd o1132_FW_SLOT_STATE f = FW_SLOT_STATE.valid then (stOK, if s.activated.pwr.dipFrom.isSome then s.activated.noteFlash (.fwActivate f) else s.activated.putBoot f)
    else (if s.rdN o1132_FW_SLOT_RESULT f < 2 then 0x1801 else s.rdN o1132_FW_SLOT_RESULT f, s) :=
  (if_neg (by rw [h]; exact Bool.false_ne_true)).trans ((if_neg (show ¬ FW_SLOT_CMD.activate = FW_SLOT_CMD.open by decide)).trans
    ((if_neg (show ¬ FW_SLOT_CMD.activate = FW_SLOT_CMD.close by decide)).trans rfl))

end

theorem activated_cases (s : State) : s.activated = s ∨ s.activated = { s with pwr := { s.pwr with recoveryAt := some (s.now + 1000000000) } } := by
  unfold State.activated
  split
  · exact .inr rfl
  · exact .inl rfl

theorem noteFlash_sec (s : State) (w : FlashWrite) : (s.noteFlash w).sec = s.sec := by
  unfold State.noteFlash
  split
  · rfl
  · rfl

theorem noteFlash_ctl (s : State) (w : FlashWrite) : (s.noteFlash w).ctl = s.ctl := by
  unfold State.noteFlash
  split
  · rfl
  · rfl

/-! A slot that is emptied. -/

theorem fwOpen_slot (s : State) (f g : Nat) : (s.fwOpen f).fwSlot g = (storeGet g (storeDel f s.sec.fw)).getD {} := rfl

theorem fwOpen_rd (s : State) (f : Nat) : (s.fwOpen f).rd o1132_FW_SLOT_STATE f = FW_SLOT_STATE.loading ∧ (s.fwOpen f).rd o1132_FW_SLOT_RESULT f = 0 ∧ (s.fwOpen f).rd o1132_FW_XFER_OFFSET f = 0 := by
  unfold State.fwOpen
  simp (disch := decide) only [State.rd_wr_obj, State.rd_wr_same, and_self]

theorem other_slot_ne {f : Nat} (hf : f < 2) : 1 - f ≠ f := by omega

section
variable {s : State} {t port f : Nat} (hp : s.powered = true) (hf : f < 2)
include hp

section
variable (hidle : s.fwChecking = false)
include hidle

section
variable (ha : s.admits port o1132_FW_SLOT_CMD f (.int FW_SLOT_CMD.open) = true)
include ha

include hf in
theorem fwSlotOpen_opens (hne : f ≠ s.runSlot) : ∃ u, exec (.fwSlotOpen t port f) s = .next u ∧ u.last = ⟨0, none⟩ ∧ u.rd o1132_FW_SLOT_STATE f = FW_SLOT_STATE.loading ∧
    (u.fwSlot f).image = [] ∧ u.rd o1132_FW_SLOT_RESULT f = 0 ∧ u.rd o1132_FW_XFER_OFFSET f = 0 ∧ u.fwSlot (1 - f) = s.fwSlot (1 - f) := by
  obtain ⟨hstate, hresult, hoffset⟩ := fwOpen_rd (s.begin t) f
  obtain ⟨e, he, hacc⟩ := run_accepted_row (t := t) (h := writeFwCmd) (by decide) hp ha (fun c _ => (writeFwCmd_open (s := s.begin t) hidle c).trans (if_neg fun hn => hne hn.2)) rfl
  refine ⟨_, he, hacc.last, (hacc.rd _ _ (by decide)).trans hstate, ?_, (hacc.rd _ _ (by decide)).trans hresult, (hacc.rd _ _ (by decide)).trans hoffset, ?_⟩
  · exact (congrArg (fun x => (Option.getD x {}).image) (storeGet_del_same f s.sec.fw)).trans rfl
  · exact congrArg (Option.getD · {}) (storeGet_del_ne (l := s.sec.fw) (other_slot_ne hf))

theorem fwSlotOpen_running (hruns : s.fwRuns = true) (heq : f = s.runSlot) : ∃ u, exec (.fwSlotOpen t port f) s = .next u ∧ u.last = ⟨0x180C, none⟩ ∧ s.keepsRegs u [] ∧ u.works = s.works :=
  ⟨_, run_refused_row (t := t) (h := writeFwCmd) (by decide) hp ha (fun c _ => (writeFwCmd_open (s := s.begin t) hidle c).trans (if_pos ⟨hruns, heq⟩)) (by decide) (noteRefusal_high _ _ _ (by decide)), rfl,
    keepsRegs_refl _ _, rfl⟩

end

section
variable (ha : s.admits port o1132_FW_SLOT_CMD f (.int FW_SLOT_CMD.close) = true)
include ha

theorem fwSlotClose_checks (hl : s.rd o1132_FW_SLOT_STATE f = FW_SLOT_STATE.loading) : ∃ u, exec (.fwSlotClose t port f) s = .next u ∧ u.last = ⟨0, none⟩ ∧
    u.rd o1132_FW_SLOT_STATE f = FW_SLOT_STATE.checking ∧ u.sec = s.sec := by
  obtain ⟨e, he, hacc⟩ := run_accepted_row (t := t) (h := writeFwCmd) (by decide) hp ha (fun c _ => (writeFwCmd_close (s := s.begin t) hidle c).trans (if_pos hl)) (congrArg Ctl.endAfter (noteFlash_ctl (s.begin t) _))
  exact ⟨_, he, hacc.last, (hacc.rd _ _ (by decide)).trans (State.rd_wr_same _ o1132_FW_SLOT_STATE f FW_SLOT_STATE.checking), noteFlash_sec (s.begin t) _⟩

theorem fwSlotClose_busy (hl : s.rd o1132_FW_SLOT_STATE f ≠ FW_SLOT_STATE.loading) : ∃ u, exec (.fwSlotClose t port f) s = .next u ∧ u.last = ⟨1, none⟩ ∧ s.keepsRegs u [] ∧ u.works = s.works :=
  ⟨_, run_refused_row (t := t) (h := writeFwCmd) (by decide) hp ha (fun c _ => (writeFwCmd_close (s := s.begin t) hidle c).trans (if_neg hl)) (by decide) (noteRefusal_low _ _ _ (by decide)), rfl,
    keepsRegs_refl _ _, rfl⟩

end

section
variable (ha : s.admits port o1132_FW_SLOT_CMD f (.int FW_SLOT_CMD.activate) = true)
include ha

theorem fwSlotActivate_names (hdip : s.pwr.dipFrom = none) (hv : s.rd o1132_FW_SLOT_STATE f = FW_SLOT_STATE.valid) : ∃ u, exec (.fwSlotActivate t port f) s = .next u ∧ u.last = ⟨0, none⟩ ∧
    u.sec = { s.sec with boot := [some f, some f] } ∧ s.keepsRegs u [] := by
  have hact : (s.begin t).activated.pwr.dipFrom = none ∧ (s.begin t).activated.sec = s.sec ∧ (s.begin t).activated.ctl = s.ctl ∧ (s.begin t).activated.regs = s.regs ∧ (s.begin t).activated.octs = s.octs := by
    rcases activated_cases (s.begin t) with h | h <;> rw [h] <;> exact ⟨hdip, rfl, rfl, rfl, rfl⟩
  have hk : ∀ c : Ctx, writeFwCmd c f (.int FW_SLOT_CMD.activate) (s.begin t) = (stOK, (s.begin t).activated.putBoot f) := fun c => by
    rw [writeFwCmd_activate (s := s.begin t) hidle c, if_pos (show (s.begin t).rd o1132_FW_SLOT_STATE f = FW_SLOT_STATE.valid from hv), hact.1]
    rfl
  generalize (s.begin t).activated = y at hk hact
  obtain ⟨-, hsec, hctl, hregs, hocts⟩ := hact
  obtain ⟨e, he, hacc⟩ := run_accepted_row (t := t) (h := writeFwCmd) (by decide) hp ha (fun c _ => hk c) (congrArg Ctl.endAfter hctl)
  exact ⟨_, he, hacc.last, congrArg (fun x => { x with boot := [some f, some f] }) hsec, hacc.keepsRegs (keepsRegs_of_files (keepsRegs_refl s []) hregs hocts)⟩

theorem fwSlotActivate_refused (hv : s.rd o1132_FW_SLOT_STATE f ≠ FW_SLOT_STATE.valid) (hk : 2 ≤ s.rdN o1132_FW_SLOT_RESULT f) : ∃ u, exec (.fwSlotActivate t port f) s = .next u ∧
    u.last = ⟨s.rdN o1132_FW_SLOT_RESULT f, none⟩ ∧ u.sec = s.sec := by
  have hwork : ∀ c : Ctx, writeFwCmd c f (.int FW_SLOT_CMD.activate) (s.begin t) = (s.rdN o1132_FW_SLOT_RESULT f, s.begin t) := fun c =>
    (writeFwCmd_activate (s := s.begin t) hidle c).trans ((if_neg hv).trans (congrArg (·, s.begin t) (if_neg (Nat.not_lt_of_le hk))))
  have hsec : ((s.begin t).noteRefusal o1132_FW_SLOT_CMD f (s.rdN o1132_FW_SLOT_RESULT f)).sec = s.sec := by
    unfold State.noteRefusal
    split
    · rfl
    · split
      · rfl
      · rfl
  exact ⟨_, run_refused (t := t) (h := writeFwCmd) hp ha (fun c _ _ => (congrArg (writeFwCmd c · (.int FW_SLOT_CMD.activate) (s.begin t)) (effRow_eq c f (by decide))).trans (hwork c))
    (fun h0 => absurd hk (by rw [h0]; decide)) rfl, rfl, hsec⟩

end

end

theorem fwSlotOpen_checking (hc : s.fwChecking = true) (ha : s.admits port o1132_FW_SLOT_CMD f (.int FW_SLOT_CMD.open) = true) :
    ∃ u, exec (.fwSlotOpen t port f) s = .next u ∧ u.last = ⟨1, none⟩ ∧ s.keepsRegs u [] ∧ u.works = s.works :=
  ⟨_, run_refused_row (t := t) (h := writeFwCmd) (by decide) hp ha (fun c _ => writeFwCmd_checking (s := s.begin t) hc c f _) (by decide) (noteRefusal_low _ _ _ (by decide)), rfl, keepsRegs_refl _ _, rfl⟩

/-! Data and check. -/

include hf in
theorem fwXferData_joins {d : Bytes} (ha : s.admits port o1132_FW_XFER_DATA f (.bytes d) = true) (hl : s.rd o1132_FW_SLOT_STATE f = FW_SLOT_STATE.loading)
    (hfit : s.rdN o1132_FW_XFER_OFFSET f + d.length ≤ fwMax) : ∃ u, exec (.fwXferData t port f d) s = .next u ∧ u.last = ⟨0, none⟩ ∧
      (u.fwSlot f).image = overwrite (s.rdN o1132_FW_XFER_OFFSET f) d (s.fwSlot f).image ∧ u.rdN o1132_FW_XFER_OFFSET f = s.rdN o1132_FW_XFER_OFFSET f + d.length ∧
      s.keepsRegs u [(o1132_FW_XFER_OFFSET, f)] ∧ u.fwSlot (1 - f) = s.fwSlot (1 - f) := by
  have hbound : ¬ fwMax + hssSigLen < s.rdN o1132_FW_XFER_OFFSET f + d.length := fun h => Nat.not_lt_of_le (Nat.le_trans hfit (Nat.le_add_right _ _)) h
  obtain ⟨e, he, hacc⟩ := run_accepted_row (t := t) (h := writeFwData) (w := ((s.begin t).setFw f { s.fwSlot f with image := overwrite (s.rdN o1132_FW_XFER_OFFSET f) d (s.fwSlot f).image }).wr
    o1132_FW_XFER_OFFSET f (s.rdN o1132_FW_XFER_OFFSET f + d.length : Nat)) (by decide) hp ha (fun _ _ => (if_neg fun hn => hn hl).trans (if_neg hbound)) rfl
  refine ⟨_, he, hacc.last, ?_, ?_, hacc.keepsRegs ((keepsRegs_of_files (keepsRegs_refl s _) rfl rfl).wr _ (List.mem_singleton_self _)), ?_⟩
  · exact congrArg (fun x => (Option.getD x {}).image) (storeGet_put_same natLt f _ s.sec.fw)
  · exact (hacc.rdN _ (by decide)).trans (congrArg Int.toNat (State.rd_wr_same _ o1132_FW_XFER_OFFSET f _))
  · exact congrArg (Option.getD · ({} : FwSlot)) (storeGet_put_ne natLt (other_slot_ne hf) _ _)

end

theorem noteSlot_rd (s : State) (f : Nat) : (s.noteSlot f).rd o1132_FW_SLOT_RESULT f = s.checkSlot f ∧
    (s.noteSlot f).rd o1132_FW_SLOT_STATE f = if s.checkSlot f = 1 then FW_SLOT_STATE.valid else FW_SLOT_STATE.invalid := by
  unfold State.noteSlot
  extract_lets k x s'
  have hread : s'.rd o1132_FW_SLOT_RESULT f = k ∧ s'.rd o1132_FW_SLOT_STATE f = if k = 1 then FW_SLOT_STATE.valid else FW_SLOT_STATE.invalid :=
    ⟨(State.rd_wr_obj _ _ (by decide)).trans (State.rd_wr_same _ _ _ _), State.rd_wr_same _ _ _ _⟩
  have hmore : ∀ a b : Int, ((s'.wr o1132_FW_SLOT_RELEASE f a).wr o1132_FW_SLOT_SECVER f b).rd o1132_FW_SLOT_RESULT f = k ∧
      ((s'.wr o1132_FW_SLOT_RELEASE f a).wr o1132_FW_SLOT_SECVER f b).rd o1132_FW_SLOT_STATE f = if k = 1 then FW_SLOT_STATE.valid else FW_SLOT_STATE.invalid := fun a b => by
    simpa (disch := decide) only [State.rd_wr_obj] using hread
  split
  · exact hmore _ _
  · split
    · exact hread
    · exact hmore _ _

theorem fwCheckDone_notes {s : State} {t f : Nat} (hp : s.powered = true) (hc : s.rd o1132_FW_SLOT_STATE f = FW_SLOT_STATE.checking) (hpost : FlashWrite.fwClose f ∉ s.pwr.postponed) :
    ∃ u, exec (.fwCheckDone t f) s = .next u ∧ u.rd o1132_FW_SLOT_RESULT f = s.checkSlot f ∧ (u.rd o1132_FW_SLOT_STATE f = FW_SLOT_STATE.valid ↔ s.checkSlot f = 1) ∧
      (u.rd o1132_FW_SLOT_STATE f = FW_SLOT_STATE.invalid ↔ s.checkSlot f ≠ 1) := by
  have hwork : (s.begin t).fwChecked f = (s.begin t).noteSlot f := if_pos ⟨hc, Bool.eq_false_iff.mpr fun h => hpost (List.contains_iff_mem.mp h)⟩
  obtain ⟨hresult, hstate⟩ := noteSlot_rd (s.begin t) f
  have hcheck : (s.begin t).checkSlot f = s.checkSlot f := rfl
  rw [hcheck] at hresult hstate
  have hstate' : ((s.begin t).finish ((s.begin t).noteSlot f)).rd o1132_FW_SLOT_STATE f = _ := (State.finish_rd _ _ _ _).trans hstate
  refine ⟨_, run_work (t := t) (f := (·.fwChecked f)) hp hwork, (State.finish_rd _ _ _ _).trans hresult, ?_, ?_⟩
  · rw [hstate']
    split
    · next h => exact iff_of_true rfl h
    · next h => exact iff_of_false (by decide) h
  · rw [hstate']
    split
    · next h => exact iff_of_false (by decide) (not_not.mpr h)
    · next h => exact iff_of_true rfl h

/-- Settles O48. The busy answers while a check runs, and a 'close' outside 'loading', are the model's choices of log entry 113. -/
theorem firmwareSlotsAreLoaded : Obligations.FirmwareSlotsAreLoaded := fun _ _ _ _ hp hf =>
  ⟨fun hidle => ⟨fun ha => ⟨fwSlotOpen_opens hp hf hidle ha, fwSlotOpen_running hp hidle ha⟩, fun ha => ⟨fwSlotClose_checks hp hidle ha, fwSlotClose_busy hp hidle ha⟩,
    fun ha hdip => ⟨fwSlotActivate_names hp hidle ha hdip, fwSlotActivate_refused hp hidle ha⟩⟩, fwSlotOpen_checking hp, fun _ => fwXferData_joins hp hf, fwCheckDone_notes hp⟩

end Sys2Proof.Machine
end

section
/-! SUPPORT. The identity key's indices and attestation (R421-R423). -/

namespace Sys2Proof.Machine
open Sys2Proof

/-! The identity. -/

theorem noteIdentity_sec (s : State) : s.noteIdentity.sec = s.sec := (blind_sec (by decide)).noteIdentity (List.Subset.refl _) s

theorem noteIdentity_remaining (s : State) : s.noteIdentity.rd o1135_IDENTITY_REMAINING 0 = (identityMax - s.nextIndex : Nat) := by
  have ha : AlarmBlind (·.rd o1135_IDENTITY_REMAINING 0) := alarmBlind_rd 0 (by decide)
  unfold State.noteIdentity
  dsimp only
  rw [ha.alarmWhile, ha.alarmWhile, ha.alarmWhile, State.rd_wr_obj _ _ (by decide), State.rd_wr_same]

theorem stands_noteIdentity (s : State) : s.noteIdentity.stands .SEC_JOURNAL_FAULT noInst ↔ s.sec.fault = true := by
  have hf : Blind [.alarm .SEC_IDENTITY_EXHAUSTED, .alarm .SEC_IDENTITY_LOW] (·.stands .SEC_JOURNAL_FAULT noInst) := blind_stands (by decide) (by decide) noInst
  unfold State.noteIdentity
  dsimp only
  rw [hf.alarmWhile (by decide), hf.alarmWhile (by decide), stands_alarmWhile]
  rfl

/-! An index taken. -/

/-- What the index of a request touches beside the reports under way. -/
def indexMarks : List Mark := .obj o1135_IDENTITY_NEXT :: identityMarks

theorem Blind.takeIndex {M : List Mark} {α : Type} {f : State → α} (hf : Blind M f) (h : .sec :: indexMarks ⊆ M) (s : State) (p : Nat) : f (s.takeIndex p) = f s :=
  (hf _ (h (by decide)) _ _ (.sec ..)).trans ((hf.noteIdentity (List.Subset.trans (by decide) h) _).trans (hf.wr (h (by decide)) _ _ _))

theorem takeIndex_next (s : State) (p : Nat) : (s.takeIndex p).nextIndex = s.nextIndex + 1 :=
  congrArg Int.toNat (((blind_rd (o := o1135_IDENTITY_NEXT) (by decide) 0).noteIdentity (List.Subset.refl _) (s.wr o1135_IDENTITY_NEXT 0 (s.nextIndex + 1 : Nat))).trans (State.rd_wr_same _ _ _ _))

theorem takeIndex_sec (s : State) (p : Nat) : (s.takeIndex p).sec = { s.sec with signing := storePut natLt p (s.report p s.nextIndex) s.sec.signing } := by
  have hsec : (s.wr o1135_IDENTITY_NEXT 0 (s.nextIndex + 1 : Nat)).noteIdentity.sec = s.sec := noteIdentity_sec _
  unfold State.takeIndex
  dsimp only
  rw [hsec]

theorem takeIndex_remaining (s : State) (p : Nat) : (s.takeIndex p).rd o1135_IDENTITY_REMAINING 0 = (identityMax - (s.nextIndex + 1) : Nat) := by
  have hnext : (s.wr o1135_IDENTITY_NEXT 0 (s.nextIndex + 1 : Nat)).nextIndex = s.nextIndex + 1 := congrArg Int.toNat (State.rd_wr_same _ _ _ _)
  exact (noteIdentity_remaining (s.wr o1135_IDENTITY_NEXT 0 (s.nextIndex + 1 : Nat))).trans (by rw [hnext])

theorem stands_takeIndex (s : State) (p : Nat) : (s.takeIndex p).stands .SEC_JOURNAL_FAULT noInst ↔ s.sec.fault = true := stands_noteIdentity (s.wr o1135_IDENTITY_NEXT 0 (s.nextIndex + 1 : Nat))

theorem foldl_takeIndex_next (l : List Nat) : ∀ s : State, (l.foldl State.takeIndex s).nextIndex = s.nextIndex + l.length := by
  induction l with
  | nil => exact fun s => rfl
  | cons p l ih => exact fun s => (ih _).trans (by rw [takeIndex_next, List.length_cons, Nat.add_assoc, Nat.add_comm 1])

/-- The journal's part of the block, which an index leaves. -/
def Sec.journalPart (x : Sec) : Bool × List Nat × Bool × Option Nat := (x.writing, x.waiting, x.fault, x.journal)

theorem foldl_takeIndex_journal (l : List Nat) (s : State) : (l.foldl State.takeIndex s).sec.journalPart = s.sec.journalPart :=
  foldl_blind (f := fun s => s.sec.journalPart) (fun s p => (congrArg Sec.journalPart (takeIndex_sec s p)).trans rfl) l s

theorem foldl_takeIndex_fault (l : List Nat) : ∀ {s : State}, s.sec.fault = false → ¬ s.stands .SEC_JOURNAL_FAULT noInst → ¬ (l.foldl State.takeIndex s).stands .SEC_JOURNAL_FAULT noInst := by
  induction l with
  | nil => exact fun _ h => h
  | cons p l ih => exact fun {s} hf _ => ih ((congrArg Sec.fault (takeIndex_sec s p)).trans hf) fun h => Bool.false_ne_true (hf.symm.trans ((stands_takeIndex s p).mp h))

/-! Requests refused. -/

theorem attRefused_rd (s : State) (p k : Nat) : (s.attRefused p k).rd o1136_ATT_STATE p = ATT_STATE.refused ∧ (s.attRefused p k).rd o1136_ATT_RESULT p = k ∧ (s.attRefused p k).rd o1136_ATT_LENGTH p = 0 := by
  unfold State.attRefused
  simp (disch := decide) only [State.rd_wr_obj, State.rd_wr_same, and_self]

theorem attRefused_keepsRegs (s : State) (p k : Nat) : s.keepsRegs (s.attRefused p k) [(o1136_ATT_STATE, p), (o1136_ATT_RESULT, p), (o1136_ATT_LENGTH, p)] :=
  (((keepsRegs_of_files (w := { s with sec := { s.sec with att := storeDel p s.sec.att } }) (keepsRegs_refl s _) rfl rfl).wr _ (by simp)).wr _ (by simp)).wr _ (by simp)

/-- A request refused stays refused when others are. -/
theorem foldl_attRefused_rd {p k : Nat} (l : List Nat) : ∀ {s : State}, p ∈ l ∨ s.rd o1136_ATT_STATE p = ATT_STATE.refused ∧ s.rd o1136_ATT_RESULT p = k →
    (l.foldl (fun s p => s.attRefused p k) s).rd o1136_ATT_STATE p = ATT_STATE.refused ∧ (l.foldl (fun s p => s.attRefused p k) s).rd o1136_ATT_RESULT p = k := by
  induction l with
  | nil => exact fun h => h.resolve_left List.not_mem_nil
  | cons q l ih =>
    intro s h
    by_cases hpq : p = q
    · obtain ⟨hstate, hresult, -⟩ := attRefused_rd s p k
      exact ih (.inr (hpq ▸ ⟨hstate, hresult⟩))
    · refine ih (h.imp (fun hm => (List.mem_cons.mp hm).resolve_left hpq) fun hs => ?_)
      obtain ⟨hkeeps, -⟩ := attRefused_keepsRegs s q k
      exact ⟨(hkeeps _ _ (by simp [hpq]) (by decide)).trans hs.1, (hkeeps _ _ (by simp [hpq]) (by decide)).trans hs.2⟩

/-- The part of the block that a refusal leaves. -/
theorem foldl_attRefused_journal (l : List Nat) (k : Nat) (s : State) : (l.foldl (fun s p => s.attRefused p k) s).sec.journalPart = s.sec.journalPart :=
  foldl_blind (f := fun s => s.sec.journalPart) (g := fun s p => s.attRefused p k) (fun _ _ => rfl) l s

theorem foldl_attRefused_next (l : List Nat) (k : Nat) (s : State) : (l.foldl (fun s p => s.attRefused p k) s).nextIndex = s.nextIndex :=
  foldl_blind (f := State.nextIndex) (fun s p => congrArg Int.toNat ((attRefused_keepsRegs s p k).1 _ _ (by simp) (by decide))) l s

theorem stands_foldl_attRefused (l : List Nat) (k : Nat) (s : State) (a : Alarm) (i : Nat) : (l.foldl (fun s p => s.attRefused p k) s).stands a i ↔ s.stands a i :=
  stands_congr (foldl_blind (f := fun s => s.alm.points) (g := fun s p => s.attRefused p k) (fun _ _ => rfl) l s) a i

/-! ATT_CMD. -/

/-- A request that a session has made. -/
def State.requested (s : State) (p : Nat) : State :=
  ((({ s with sec := { s.sec with att := storeDel p s.sec.att } }.wr o1136_ATT_STATE p ATT_STATE.signing).wr o1136_ATT_RESULT p 0).wr o1136_ATT_LENGTH p 0)

/-- The request waits for the journal. -/
def State.requestWaits (s : State) (p : Nat) : State := { s.requested p with sec := { (s.requested p).sec with writing := true, waiting := s.sec.waiting ++ [p] } }

theorem requested_rd (s : State) (p : Nat) : (s.requested p).rd o1136_ATT_STATE p = ATT_STATE.signing ∧ (s.requested p).nextIndex = s.nextIndex := by
  unfold State.requested State.nextIndex State.rdN
  simp (disch := decide) only [State.rd_wr_obj, State.rd_wr_same, true_and]
  rfl

section
variable {s : State} {p : Nat} (c : Ctx) (hs : s.rd o1136_ATT_STATE p ≠ ATT_STATE.signing)
include hs

theorem writeAttCmd_exhausted (hn : identityMax ≤ s.nextIndex) : writeAttCmd c p (.int 0) s = (0x1809, s.attRefused p 0x1809) := (if_neg hs).trans (if_pos hn)

theorem writeAttCmd_takes (hn : s.nextIndex < identityMax) (hb : s.nextIndex ≠ s.rdN o1135_JOURNAL_BLOCK_END 0) : writeAttCmd c p (.int 0) s = (stOK, (s.requested p).takeIndex p) :=
  (if_neg hs).trans ((if_neg (Nat.not_le_of_lt hn)).trans (if_pos hb))

theorem writeAttCmd_waits (hn : s.nextIndex < identityMax) (hb : s.nextIndex = s.rdN o1135_JOURNAL_BLOCK_END 0) (hd : s.pwr.dipFrom = none) :
    writeAttCmd c p (.int 0) s = (stOK, s.requestWaits p) :=
  (if_neg hs).trans ((if_neg (Nat.not_le_of_lt hn)).trans ((if_neg fun h => h hb).trans (if_neg fun h => Bool.false_ne_true ((congrArg Option.isSome hd).symm.trans h))))

end

/-- A report with its signature, ready to be read. -/
def State.signed (s : State) (p : Nat) (r sig : Bytes) : State :=
  ((({ s with free := s.free + 1, sec := { s.sec with signing := storeDel p s.sec.signing, att := storePut natLt p (r ++ sig) s.sec.att } }.wr o1136_ATT_STATE p ATT_STATE.ready).wr
    o1136_ATT_LENGTH p 2028).wr o1136_ATT_RESULT p 0)

section
variable {s : State} {t port : Nat} (hp : s.powered = true)
include hp

section
variable (ha : s.admits port o1136_ATT_CMD 0 (.int 0) = true)
include ha

omit hp ha in
/-- The row of the session's own copy. -/
theorem attRow {x : Nat × State} (h : ∀ c : Ctx, writeAttCmd c port (.int 0) (s.begin t) = x) (c : Ctx) (hc : c.port = port) : writeAttCmd c (effRow c o1136_ATT_CMD 0) (.int 0) (s.begin t) = x := by
  have hrow : effRow c o1136_ATT_CMD 0 = port := (if_pos (by decide)).trans hc
  rw [hrow, h c]

theorem attSign_busy (hs : s.rd o1136_ATT_STATE port = ATT_STATE.signing) : ∃ u, exec (.attSign t port) s = .next u ∧ u.last = ⟨1, none⟩ ∧ s.keepsRegs u [] ∧ u.works = s.works :=
  ⟨_, run_refused_unchanged (t := t) (h := writeAttCmd) hp ha (fun c _ => attRow (fun _ => if_pos hs) c) (by decide) (noteRefusal_low _ _ _ (by decide)), rfl, keepsRegs_refl _ _, rfl⟩

variable (hs : s.rd o1136_ATT_STATE port ≠ ATT_STATE.signing)
include hs

theorem attSign_exhausted (hn : identityMax ≤ s.nextIndex) : ∃ u, exec (.attSign t port) s = .next u ∧ u.last = ⟨0x1809, none⟩ ∧ u.rd o1136_ATT_STATE port = ATT_STATE.refused ∧
    u.rd o1136_ATT_RESULT port = 0x1809 ∧ u.rd o1136_ATT_LENGTH port = 0 ∧ storeGet port u.sec.att = none ∧
    s.keepsRegs u [(o1136_ATT_STATE, port), (o1136_ATT_RESULT, port), (o1136_ATT_LENGTH, port)] ∧ u.mem = s.mem := by
  have hrun : exec (.attSign t port) s = .next ((s.begin t).finish (((s.begin t).attRefused port 0x1809).answer 0x1809)) := by
    have hr := run_refused (t := t) (h := writeAttCmd) hp ha (fun c _ => attRow (fun c => writeAttCmd_exhausted (s := s.begin t) c hs hn) c) (by decide) rfl
    rwa [noteRefusal_high _ _ _ (by decide)] at hr
  obtain ⟨hstate, hresult, hlength⟩ := attRefused_rd (s.begin t) port 0x1809
  exact ⟨_, hrun, rfl, (refused_rd _ _ _ _ _).trans hstate, (refused_rd _ _ _ _ _).trans hresult, (refused_rd _ _ _ _ _).trans hlength, storeGet_del_same port s.sec.att,
    attRefused_keepsRegs (s.begin t) port 0x1809, rfl⟩

theorem attSign_takes (hn : s.nextIndex < identityMax) (hb : s.nextIndex ≠ s.rdN o1135_JOURNAL_BLOCK_END 0) : ∃ u, exec (.attSign t port) s = .next u ∧ u.last = ⟨0, none⟩ ∧
    u.rd o1136_ATT_STATE port = ATT_STATE.signing ∧ u.nextIndex = s.nextIndex + 1 ∧ u.rd o1135_IDENTITY_REMAINING 0 = (identityMax - (s.nextIndex + 1) : Nat) ∧
    (storeGet port u.sec.signing).isSome = true := by
  obtain ⟨hstate, hnext⟩ := requested_rd (s.begin t) port
  have hctl : (((s.begin t).requested port).takeIndex port).ctl = s.ctl := (blind_ctl (by decide)).takeIndex (List.Subset.refl _) ((s.begin t).requested port) port
  have hsign : (((s.begin t).requested port).takeIndex port).rd o1136_ATT_STATE port = ATT_STATE.signing := ((blind_rd (by decide) port).takeIndex (List.Subset.refl _) _ _).trans hstate
  have htaken : (((s.begin t).requested port).takeIndex port).nextIndex = s.nextIndex + 1 := (takeIndex_next _ _).trans (congrArg (· + 1) hnext)
  have hleft : (((s.begin t).requested port).takeIndex port).rd o1135_IDENTITY_REMAINING 0 = (identityMax - (s.nextIndex + 1) : Nat) := (takeIndex_remaining _ _).trans (by rw [hnext]; rfl)
  have hreport : (storeGet port (((s.begin t).requested port).takeIndex port).sec.signing).isSome = true := by
    rw [takeIndex_sec]
    exact congrArg Option.isSome (storeGet_put_same natLt port _ _)
  have hk : ∀ c : Ctx, writeAttCmd c port (.int 0) (s.begin t) = (stOK, ((s.begin t).requested port).takeIndex port) := fun c => writeAttCmd_takes (s := s.begin t) c hs hn hb
  generalize ((s.begin t).requested port).takeIndex port = w at hk hctl hsign htaken hleft hreport
  obtain ⟨e, he, hacc⟩ := run_accepted (t := t) (h := writeAttCmd) hp ha (fun c _ => attRow hk c) (by rw [hctl])
  exact ⟨_, he, hacc.last, (hacc.rd _ _ (by decide)).trans hsign, (hacc.rdN _ (by decide)).trans htaken, (hacc.rd _ _ (by decide)).trans hleft, hreport⟩

theorem attSign_waits (hn : s.nextIndex < identityMax) (hb : s.nextIndex = s.rdN o1135_JOURNAL_BLOCK_END 0) (hd : s.pwr.dipFrom = none) : ∃ u, exec (.attSign t port) s = .next u ∧
    u.last = ⟨0, none⟩ ∧ u.rd o1136_ATT_STATE port = ATT_STATE.signing ∧ u.nextIndex = s.nextIndex ∧ u.sec.writing = true ∧ u.sec.waiting = s.sec.waiting ++ [port] := by
  obtain ⟨hstate, hnext⟩ := requested_rd (s.begin t) port
  obtain ⟨e, he, hacc⟩ := run_accepted (t := t) (h := writeAttCmd) hp ha (fun c _ => attRow (fun c => writeAttCmd_waits (s := s.begin t) c hs hn hb hd) c) rfl
  exact ⟨_, he, hacc.last, (hacc.rd _ _ (by decide)).trans hstate, (hacc.rdN _ (by decide)).trans hnext, rfl, rfl⟩

end

/-! The journal. -/

/-- The journal's record is written: the block goes on. -/
def State.blockTaken (s : State) : State :=
  { s with sec := { s.sec with writing := false, waiting := [], fault := false, journal := some (s.rdN o1135_JOURNAL_BLOCK_END 0) } }.wr o1135_JOURNAL_BLOCK_END 0 (s.rdN o1135_JOURNAL_BLOCK_END 0 + 64 : Nat)

/-- The journal's record has failed. -/
def State.blockLost (s : State) : State := { s with sec := { s.sec with writing := false, waiting := [], fault := true } }

omit hp in
theorem nextIndex_noteIdentity (s : State) : s.noteIdentity.nextIndex = s.nextIndex := congrArg Int.toNat ((blind_rd (by decide) 0).noteIdentity (List.Subset.refl _) s)

theorem journalWrite_gives (hw : s.sec.writing = true) : ∃ u, exec (.journalWriteComplete t true) s = .next u ∧ u.sec.writing = false ∧ u.sec.waiting = [] ∧
    u.sec.journal = some (s.rdN o1135_JOURNAL_BLOCK_END 0) ∧ u.rdN o1135_JOURNAL_BLOCK_END 0 = s.rdN o1135_JOURNAL_BLOCK_END 0 + 64 ∧ u.nextIndex = s.nextIndex + s.sec.waiting.length ∧
    ¬ u.stands .SEC_JOURNAL_FAULT noInst := by
  have hwork : (s.begin t).journalDone true = s.sec.waiting.foldl State.takeIndex (s.begin t).blockTaken.noteIdentity := (if_neg fun h => Bool.false_ne_true (h.symm.trans hw)).trans (if_pos rfl)
  have hsec : (s.begin t).blockTaken.noteIdentity.sec.journalPart = (false, [], false, some (s.rdN o1135_JOURNAL_BLOCK_END 0)) := congrArg Sec.journalPart (noteIdentity_sec (s.begin t).blockTaken)
  have hpart := (foldl_takeIndex_journal s.sec.waiting _).trans hsec
  have hfault := foldl_takeIndex_fault s.sec.waiting (congrArg (fun x => x.2.2.1) hsec) fun h => Bool.false_ne_true ((stands_noteIdentity (s.begin t).blockTaken).mp h)
  have hnext := (foldl_takeIndex_next s.sec.waiting (s.begin t).blockTaken.noteIdentity).trans (congrArg (· + s.sec.waiting.length)
    ((nextIndex_noteIdentity (s.begin t).blockTaken).trans (congrArg Int.toNat (State.rd_wr_obj _ _ (by decide)))))
  have hend : (s.sec.waiting.foldl State.takeIndex (s.begin t).blockTaken.noteIdentity).rdN o1135_JOURNAL_BLOCK_END 0 = s.rdN o1135_JOURNAL_BLOCK_END 0 + 64 :=
    congrArg Int.toNat ((foldl_blind (f := (·.rd o1135_JOURNAL_BLOCK_END 0)) (fun s p => (blind_rd (by decide) 0).takeIndex (List.Subset.refl _) s p) _ _).trans
      (((blind_rd (by decide) 0).noteIdentity (List.Subset.refl _) _).trans (State.rd_wr_same _ o1135_JOURNAL_BLOCK_END 0 _)))
  generalize s.sec.waiting.foldl State.takeIndex (s.begin t).blockTaken.noteIdentity = w at hwork hpart hfault hnext hend
  obtain ⟨hwriting, hrest⟩ := Prod.ext_iff.mp hpart
  obtain ⟨hwaiting, hrest⟩ := Prod.ext_iff.mp hrest
  exact ⟨_, run_work (t := t) (f := (·.journalDone true)) hp hwork, hwriting, hwaiting, congrArg Prod.snd hrest, hend, hnext, fun h => hfault ((finish_stands _ _ _ _).mp h)⟩

theorem journalWrite_fails (hw : s.sec.writing = true) : ∃ u, exec (.journalWriteComplete t false) s = .next u ∧ u.sec.writing = false ∧ u.sec.waiting = [] ∧
    u.stands .SEC_JOURNAL_FAULT noInst ∧ u.nextIndex = s.nextIndex ∧ ∀ p ∈ s.sec.waiting, u.rd o1136_ATT_STATE p = ATT_STATE.refused ∧ u.rd o1136_ATT_RESULT p = 0x180A := by
  have hwork : (s.begin t).journalDone false = s.sec.waiting.foldl (fun s p => s.attRefused p 0x180A) (s.begin t).blockLost.noteIdentity :=
    (if_neg fun h => Bool.false_ne_true (h.symm.trans hw)).trans (if_neg Bool.false_ne_true)
  have hpart := (foldl_attRefused_journal s.sec.waiting 0x180A _).trans (congrArg Sec.journalPart (noteIdentity_sec (s.begin t).blockLost))
  have hstands := (stands_foldl_attRefused s.sec.waiting 0x180A _ _ _).mpr ((stands_noteIdentity (s.begin t).blockLost).mpr rfl)
  have hnext := (foldl_attRefused_next s.sec.waiting 0x180A _).trans (nextIndex_noteIdentity (s.begin t).blockLost)
  have hrd : ∀ p ∈ s.sec.waiting, _ := fun p hmem => foldl_attRefused_rd (p := p) (k := 0x180A) s.sec.waiting (s := (s.begin t).blockLost.noteIdentity) (.inl hmem)
  generalize s.sec.waiting.foldl (fun s p => s.attRefused p 0x180A) (s.begin t).blockLost.noteIdentity = w at hwork hpart hstands hnext hrd
  obtain ⟨hwriting, hrest⟩ := Prod.ext_iff.mp hpart
  exact ⟨_, run_work (t := t) (f := (·.journalDone false)) hp hwork, hwriting, congrArg Prod.fst hrest, (finish_stands _ _ _ _).mpr hstands, hnext, hrd⟩

omit hp in
theorem attDone_eq {r : Bytes} (hr : storeGet port s.sec.signing = some r) : s.attDone port = s.signed port r ((List.range 1772).map (Config.freeByte s.free)) := by
  unfold State.attDone
  rw [hr]
  rfl

omit hp in
theorem signed_rd (r sig : Bytes) : (s.signed port r sig).rd o1136_ATT_STATE port = ATT_STATE.ready ∧ (s.signed port r sig).rd o1136_ATT_LENGTH port = 2028 ∧ (s.signed port r sig).rd o1136_ATT_RESULT port = 0 := by
  unfold State.signed
  simp (disch := decide) only [State.rd_wr_obj, State.rd_wr_same, and_self]

theorem attSignComplete_ready {r : Bytes} (hr : storeGet port s.sec.signing = some r) : ∃ u sig, exec (.attSignComplete t port) s = .next u ∧ sig.length = 1772 ∧
    storeGet port u.sec.att = some (r ++ sig) ∧ storeGet port u.sec.signing = none ∧ u.rd o1136_ATT_STATE port = ATT_STATE.ready ∧ u.rd o1136_ATT_LENGTH port = 2028 ∧ u.rd o1136_ATT_RESULT port = 0 := by
  obtain ⟨hstate, hlength, hresult⟩ := signed_rd (s := s.begin t) (port := port) r ((List.range 1772).map (Config.freeByte (s.begin t).free))
  exact ⟨_, _, run_work (t := t) (f := (·.attDone port)) hp (attDone_eq (s := s.begin t) hr), (List.length_map _).trans List.length_range, storeGet_put_same natLt port _ s.sec.att,
    storeGet_del_same port s.sec.signing, (State.finish_rd _ _ _ _).trans hstate, (State.finish_rd _ _ _ _).trans hlength, (State.finish_rd _ _ _ _).trans hresult⟩

end

/-- Settles O47. The journal's block of 64 indices, written ahead, is the model's choice of log entry 115. -/
theorem attestationTakesIndices : Obligations.AttestationTakesIndices := fun _ _ _ hp =>
  ⟨fun ha => ⟨attSign_busy hp ha, fun hs => ⟨attSign_exhausted hp ha hs, attSign_takes hp ha hs, attSign_waits hp ha hs⟩⟩, fun hw => ⟨journalWrite_gives hp hw, journalWrite_fails hp hw⟩,
    fun _ => attSignComplete_ready hp⟩

end Sys2Proof.Machine
end

section
/-! SUPPORT. The end of a session: what it leaves and what it touches (R392, R393, R400). -/

namespace Sys2Proof.Machine
open Sys2Proof

/-! A table without some of its keys. -/

theorem storeGet_filter {κ α : Type} [DecidableEq κ] (p : κ → Bool) (k : κ) (l : Store κ α) : storeGet k (l.filter fun e => p e.1) = if p k then storeGet k l else none := by
  induction l with
  | nil => exact (ite_self _).symm
  | cons e l ih =>
    obtain ⟨k', v⟩ := e
    by_cases hk : k' = k
    · subst hk
      cases hp : p k' with
      | true => rw [List.filter_cons_of_pos (by exact hp)]; simp [storeGet]
      | false => rw [List.filter_cons_of_neg (by simp [hp]), ih, hp]; rfl
    · have hskip : storeGet k ((k', v) :: l) = storeGet k l := if_neg hk
      rw [hskip, ← ih]
      cases hp : p k' with
      | true => rw [List.filter_cons_of_pos (by exact hp)]; exact if_neg hk
      | false => rw [List.filter_cons_of_neg (by simp [hp])]

theorem rd_dropPerSession (s : State) (port o r : Nat) : (s.dropPerSession port).rd o r = if perSession o && r == port then objDefault o r else s.rd o r := by
  have hget : storeGet (o, r) (s.dropPerSession port).regs = if !(perSession o && r == port) then storeGet (o, r) s.regs else none :=
    storeGet_filter (fun k : Nat × Nat => !(perSession k.1 && k.2 == port)) (o, r) s.regs
  unfold State.rd
  rw [hget]
  cases perSession o && r == port with
  | true => rfl
  | false => rfl

theorem rd_dropPerSession_row (s : State) (port : Nat) {o : Nat} (r : Nat) (h : perSession o = false) : (s.dropPerSession port).rd o r = s.rd o r := by
  rw [rd_dropPerSession, h]
  rfl

/-! What the end of a session leaves of its port. -/

/-- A port without its session. -/
def Port.ended (p : Port) : Port := { p with session := none, challenges := [] }

/-- The objects of a port that say that it has no session. -/
def State.portClosed (s : State) (port : Nat) (reason : Int) : State :=
  (((((((s.setSession port SESSION_STATE.closed).wr o1101_SESSION_ID port 0).wr o1101_SESSION_KEY_SLOT port 255).wr o1101_SESSION_ROLES port 0).wr o1101_LAST_END_REASON port reason).wrOct
    o1101_SESSION_PEER_ADDR port (zeros 16)).wr o1101_SESSION_PEER_PORT port 0)

/-- The session's own objects, claims and stream go. -/
def State.sessionDropped (s : State) (port : Nat) : State := (((s.dropPerSession port).dropClaims port).wr o1505_STREAM_ENABLE port 0)

/-- Everything that the end of a session clears beside its port. -/
def State.sessionCleared (s : State) (port : Nat) (reason : Int) : State :=
  let s := (s.portClosed port reason).sessionDropped port
  { s with alm := { s.alm with windows := s.alm.windows.filter (fun w => w.1.1 != port), streams := storeDel port s.alm.streams } }

/-- A session whose EVENT, if any, has gone out. -/
def State.sessionClosed (s : State) (port : Nat) (reason : Int) : State := (s.setPort port (s.port port).ended).sessionCleared port reason

/-- Whether a session ends without an EVENT. -/
def quietEnd (reason : Int) : Prop := reason = LAST_END_REASON.logout ∨ reason = LAST_END_REASON.idle ∨ reason = LAST_END_REASON.restart

theorem endSession_none {s : State} {port : Nat} (reason : Int) (h : (s.port port).session = none) : s.endSession port reason = s := by
  unfold State.endSession
  rw [h]

theorem endSession_some {s : State} {port : Nat} {x : Session} (reason : Int) (h : (s.port port).session = some x) : s.endSession port reason =
    (if reason = LAST_END_REASON.logout ∨ reason = LAST_END_REASON.idle ∨ reason = LAST_END_REASON.restart then s
      else s.sendEvent port 3 [BitVec.ofNat 8 reason.toNat, 0#8, 0#8, 0#8]).sessionClosed port reason := by
  unfold State.endSession
  rw [h]
  rfl

theorem endSession_quiet {s : State} {port : Nat} {x : Session} {reason : Int} (h : (s.port port).session = some x) (hq : quietEnd reason) :
    s.endSession port reason = s.sessionClosed port reason := (endSession_some reason h).trans (congrArg (State.sessionClosed · port reason) (if_pos hq))

theorem endSession_event {s : State} {port : Nat} {x : Session} {reason : Int} (h : (s.port port).session = some x) (hq : ¬ quietEnd reason) :
    s.endSession port reason = (s.sendEvent port 3 [BitVec.ofNat 8 reason.toNat, 0#8, 0#8, 0#8]).sessionClosed port reason :=
  (endSession_some reason h).trans (congrArg (State.sessionClosed · port reason) (if_neg hq))

/-- What the clearing touches, but for the per-session objects. -/
def clearedMarks : List Mark := [.itg, .alm, .oct o1101_SESSION_PEER_ADDR] ++ [o1101_SESSION_STATE, o1101_SESSION_ID, o1101_SESSION_KEY_SLOT, o1101_SESSION_ROLES, o1101_LAST_END_REASON,
  o1101_SESSION_PEER_PORT, o7100_TALLY_CLAIM, o7100_TALLY_USE, o1505_STREAM_ENABLE].map .obj

section
variable {M : List Mark} {α : Type} {f : State → α} (hf : Blind M f)
include hf

theorem Blind.dropClaims (h : [.itg, .obj o7100_TALLY_CLAIM, .obj o7100_TALLY_USE] ⊆ M) (s : State) (port : Nat) : f (s.dropClaims port) = f s :=
  (foldl_blind (fun _ _ => (hf.wr (h (by decide)) _ _ _).trans (hf.wr (h (by decide)) _ _ _)) _ _).trans (hf _ (h (by decide)) _ _ (.itg ..))

theorem Blind.portClosed (h : clearedMarks ⊆ M) (s : State) (port : Nat) (reason : Int) : f (s.portClosed port reason) = f s := by
  have hw : ∀ (s : State) (o : Nat) (v : Int), .obj o ∈ M → f (s.wr o port v) = f s := fun s o v ho => hf.wr ho s port v
  exact (hw _ _ _ (h (by decide))).trans ((hf.wrOct (h (by decide)) _ _ _).trans ((hw _ _ _ (h (by decide))).trans ((hw _ _ _ (h (by decide))).trans ((hw _ _ _ (h (by decide))).trans
    ((hw _ _ _ (h (by decide))).trans (hw _ _ _ (h (by decide))))))))

theorem Blind.sessionDropped (h : clearedMarks ⊆ M) (hdrop : ∀ (s : State) (p : Nat), f (s.dropPerSession p) = f s) (s : State) (port : Nat) : f (s.sessionDropped port) = f s :=
  (hf.wr (h (by decide)) _ _ _).trans ((hf.dropClaims (List.Subset.trans (by decide) h) _ _).trans (hdrop _ _))

theorem Blind.sessionCleared (h : clearedMarks ⊆ M) (hdrop : ∀ (s : State) (p : Nat), f (s.dropPerSession p) = f s) (s : State) (port : Nat) (reason : Int) : f (s.sessionCleared port reason) = f s :=
  (hf _ (h (by decide)) _ _ (.alm ..)).trans ((hf.sessionDropped h hdrop _ _).trans (hf.portClosed h _ _ _))

end

theorem dropClaims_rd (s : State) (port : Nat) {o : Nat} (r : Nat) (hc : o ≠ o7100_TALLY_CLAIM) (hu : o ≠ o7100_TALLY_USE) : (s.dropClaims port).rd o r = s.rd o r :=
  (blind_rd (M := [.itg, .obj o7100_TALLY_CLAIM, .obj o7100_TALLY_USE]) (by simp [hc, hu]) r (.inl rfl)).dropClaims (List.Subset.refl _) s port

theorem portClosed_rd (s : State) (port : Nat) (reason : Int) : (s.portClosed port reason).rd o1101_SESSION_STATE port = SESSION_STATE.closed ∧
    (s.portClosed port reason).rd o1101_LAST_END_REASON port = reason := by
  unfold State.portClosed State.setSession
  simp (disch := decide) only [State.rd_wr_obj, State.rd_wrOct, State.rd_wr_same, and_self]

theorem sessionDropped_rd (s : State) (port : Nat) {o : Nat} (r : Nat) (hc : o ≠ o7100_TALLY_CLAIM) (hu : o ≠ o7100_TALLY_USE) (hs : o ≠ o1505_STREAM_ENABLE) :
    (s.sessionDropped port).rd o r = if perSession o && r == port then objDefault o r else s.rd o r :=
  (State.rd_wr_obj _ _ hs).trans ((dropClaims_rd _ _ _ hc hu).trans (rd_dropPerSession _ _ _ _))

theorem sessionDropped_rd_row (s : State) (port : Nat) {o : Nat} (r : Nat) (hc : o ≠ o7100_TALLY_CLAIM) (hu : o ≠ o7100_TALLY_USE) (hs : o ≠ o1505_STREAM_ENABLE) (h : perSession o = false) :
    (s.sessionDropped port).rd o r = s.rd o r :=
  (sessionDropped_rd _ _ _ hc hu hs).trans (by rw [h]; rfl)

theorem sessionCleared_rd (s : State) (port : Nat) (reason : Int) : (s.sessionCleared port reason).rd o1101_SESSION_STATE port = SESSION_STATE.closed ∧
    (s.sessionCleared port reason).rd o1101_LAST_END_REASON port = reason := by
  obtain ⟨hstate, hreason⟩ := portClosed_rd s port reason
  exact ⟨(sessionDropped_rd_row _ _ _ (by decide) (by decide) (by decide) (by decide)).trans hstate, (sessionDropped_rd_row _ _ _ (by decide) (by decide) (by decide) (by decide)).trans hreason⟩

theorem sessionCleared_ctl (s : State) (port : Nat) (reason : Int) : (s.sessionCleared port reason).ctl = s.ctl := (blind_ctl (by decide)).sessionCleared (List.Subset.refl _) (fun _ _ => rfl) s port reason

/-- The per-session objects of the port are at their defaults. -/
theorem sessionCleared_perSession (s : State) (port : Nat) (reason : Int) {o : Nat} (h : perSession o = true) : (s.sessionCleared port reason).rd o port = objDefault o port := by
  have hclaim : o ≠ o7100_TALLY_CLAIM := fun e => absurd h (by rw [e]; decide)
  have huse : o ≠ o7100_TALLY_USE := fun e => absurd h (by rw [e]; decide)
  have hstream : o ≠ o1505_STREAM_ENABLE := fun e => absurd h (by rw [e]; decide)
  exact (sessionDropped_rd (s.portClosed port reason) port port hclaim huse hstream).trans (if_pos (by rw [h, beq_self_eq_true]; rfl))

/-! Ports. -/

theorem port_setPort_ne (s : State) {p q : Nat} (h : q ≠ p) (x : Port) : (s.setPort p x).port q = s.port q := congrArg (Option.getD · ({} : Port)) (storeGet_put_ne natLt h x s.ctl.ports)

theorem port_congr {s u : State} (h : u.ctl = s.ctl) (p : Nat) : u.port p = s.port p := by
  unfold State.port
  rw [h]

theorem sendEvent_port_ne (s : State) {p q : Nat} (h : q ≠ p) (kind : Nat) (payload : Bytes) : (s.sendEvent p kind payload).port q = s.port q := by
  cases hx : (s.port p).session with
  | none =>
    unfold State.sendEvent
    rw [hx]
  | some x =>
    rw [sendEvent_open kind payload hx]
    exact port_setPort_ne s h _

theorem sessionClosed_port (s : State) (port : Nat) (reason : Int) : (s.sessionClosed port reason).port port = (s.port port).ended :=
  (port_congr (sessionCleared_ctl _ _ _) _).trans (s.port_setPort port _)

theorem sessionClosed_port_ne (s : State) {port q : Nat} (h : q ≠ port) (reason : Int) : (s.sessionClosed port reason).port q = s.port q :=
  (port_congr (sessionCleared_ctl _ _ _) _).trans (port_setPort_ne s h _)

theorem sessionClosed_rd (s : State) (port : Nat) (reason : Int) : (s.sessionClosed port reason).rd o1101_SESSION_STATE port = SESSION_STATE.closed ∧
    (s.sessionClosed port reason).rd o1101_LAST_END_REASON port = reason := sessionCleared_rd _ _ _

theorem sessionClosed_perSession (s : State) (port : Nat) (reason : Int) {o : Nat} (h : perSession o = true) : (s.sessionClosed port reason).rd o port = objDefault o port := sessionCleared_perSession _ _ _ h

/-- After the end of a session its port has none. -/
theorem endSession_session (s : State) (port : Nat) (reason : Int) : ((s.endSession port reason).port port).session = none := by
  cases hx : (s.port port).session with
  | none => rw [endSession_none reason hx, hx]
  | some x =>
    by_cases hq : quietEnd reason
    · rw [endSession_quiet hx hq, sessionClosed_port]
      rfl
    · rw [endSession_event hx hq, sessionClosed_port]
      rfl

theorem endSession_port_ne (s : State) {port q : Nat} (h : q ≠ port) (reason : Int) : (s.endSession port reason).port q = s.port q := by
  cases hx : (s.port port).session with
  | none => rw [endSession_none reason hx]
  | some x =>
    by_cases hq : quietEnd reason
    · rw [endSession_quiet hx hq, sessionClosed_port_ne _ h]
    · rw [endSession_event hx hq, sessionClosed_port_ne _ h, sendEvent_port_ne _ h]

/-- What an open session's end leaves in the objects of its port. -/
theorem endSession_rd {s : State} {port : Nat} {x : Session} (reason : Int) (h : (s.port port).session = some x) :
    (s.endSession port reason).rd o1101_SESSION_STATE port = SESSION_STATE.closed ∧ (s.endSession port reason).rd o1101_LAST_END_REASON port = reason := by
  by_cases hq : quietEnd reason
  · rw [endSession_quiet h hq]
    exact sessionClosed_rd _ _ _
  · rw [endSession_event h hq]
    exact sessionClosed_rd _ _ _

theorem endSession_perSession {s : State} {port : Nat} {x : Session} (reason : Int) (h : (s.port port).session = some x) {o : Nat} (ho : perSession o = true) :
    (s.endSession port reason).rd o port = objDefault o port := by
  by_cases hq : quietEnd reason
  · rw [endSession_quiet h hq]
    exact sessionClosed_perSession _ _ _ ho
  · rw [endSession_event h hq]
    exact sessionClosed_perSession _ _ _ ho

theorem endSession_quiet_out {s : State} {port : Nat} {reason : Int} (hq : quietEnd reason) : (s.endSession port reason).out = s.out := by
  cases hx : (s.port port).session with
  | none => rw [endSession_none reason hx]
  | some x =>
    rw [endSession_quiet hx hq]
    exact (blind_out (by decide)).sessionCleared (List.Subset.refl _) (fun _ _ => rfl) _ _ _

/-- What the end of a session touches beside the control ports, with its EVENT. -/
def endMarks : List Mark := .obj o1101_EVENTS_SENT :: .out :: clearedMarks

/-- A reading that sees neither the ports nor what the end of a session touches. -/
theorem Blind.endSession {M : List Mark} {α : Type} {f : State → α} (hf : Blind M f) (h : endMarks ⊆ M) (hport : ∀ (s : State) (p : Nat) (x : Port), f (s.setPort p x) = f s)
    (hdrop : ∀ (s : State) (p : Nat), f (s.dropPerSession p) = f s) (s : State) (port : Nat) (reason : Int) : f (s.endSession port reason) = f s := by
  have hclosed : ∀ s : State, f (s.sessionClosed port reason) = f s := fun s => (hf.sessionCleared (List.Subset.trans (by decide) h) hdrop _ _ _).trans (hport _ _ _)
  cases hx : (s.port port).session with
  | none => rw [endSession_none reason hx]
  | some x =>
    by_cases hq : quietEnd reason
    · rw [endSession_quiet hx hq, hclosed]
    · rw [endSession_event hx hq, hclosed, sendEvent_open _ _ hx]
      exact (hf _ (h (by decide)) _ _ (.out ..)).trans ((hf.bump (h (by decide)) _ _).trans (hport _ _ _))

theorem blind_last {M : List Mark} (h : .last ∉ M) : Blind M State.last := by
  intro m hm s u ht
  cases ht with
  | last => exact absurd hm h
  | alarm ht => exact AlarmBlind.touch ⟨fun _ _ => rfl, fun _ _ => rfl, fun _ _ _ _ _ => rfl⟩ ht
  | _ => rfl

theorem endSession_last (s : State) (port : Nat) (reason : Int) : (s.endSession port reason).last = s.last :=
  (blind_last (by decide)).endSession (List.Subset.refl _) (fun _ _ _ => rfl) (fun _ _ => rfl) s port reason

/-- Objects of no session that the end of a session leaves. -/
theorem endSession_rd_other (s : State) (port : Nat) (reason : Int) {o : Nat} (r : Nat) (h : .obj o ∉ endMarks) (hp : perSession o = false) : (s.endSession port reason).rd o r = s.rd o r :=
  (blind_rd h r (.inl rfl)).endSession (List.Subset.refl _) (fun _ _ _ => rfl) (fun _ _ => rd_dropPerSession_row _ _ _ hp) s port reason

end Sys2Proof.Machine
end

section
/-! SUPPORT. The timers of control ports (R378, R388, R392). -/

namespace Sys2Proof.Machine
open Sys2Proof

theorem finish_port (s w : State) (p : Nat) : (s.finish w).port p = w.port p := rfl

section
variable {s : State} {t port : Nat} (hp : s.powered = true)
include hp

theorem challengeExpiry_closes (hs : s.rd o1101_SESSION_STATE port = SESSION_STATE.challenged) (hold : ∀ c ∈ (s.port port).challenges, c.issued + 10000000000 ≤ max s.now t) :
    ∃ u, exec (.challengeExpiry t port) s = .next u ∧ (u.port port).challenges = [] ∧ u.rd o1101_SESSION_STATE port = SESSION_STATE.closed := by
  have hnone : (s.port port).challenges.filter (Challenge.valid (s.begin t).now) = [] :=
    List.filter_eq_nil_iff.mpr fun c hc hv => absurd (of_decide_eq_true hv) (Nat.not_lt_of_le (hold c hc))
  have hwork : (s.begin t).expireChallenges port = ((s.begin t).setPort port { s.port port with challenges := [] }).setSession port SESSION_STATE.closed := by
    unfold State.expireChallenges
    dsimp only
    rw [show (s.begin t).port port = s.port port from rfl, hnone, if_pos ⟨hs, rfl⟩]
  exact ⟨_, run_work (t := t) (f := (·.expireChallenges port)) hp hwork, congrArg Port.challenges ((s.begin t).port_setPort port _), State.rd_wr_same _ o1101_SESSION_STATE port SESSION_STATE.closed⟩

theorem sessionIdle_ends {x : Session} (hx : (s.port port).session = some x) (hidle : x.lastAuth + s.rdN o1101_SESSION_IDLE_S port * 1000000000 ≤ max s.now t) :
    ∃ u, exec (.sessionIdleTimeout t port) s = .next u ∧ (u.port port).session = none ∧ u.rd o1101_SESSION_STATE port = SESSION_STATE.closed ∧
      u.rd o1101_LAST_END_REASON port = LAST_END_REASON.idle ∧ u.out = s.out := by
  have hwork : (s.begin t).idleCheck port = (s.begin t).endSession port LAST_END_REASON.idle := by
    unfold State.idleCheck
    rw [show ((s.begin t).port port).session = some x from hx]
    exact if_pos hidle
  obtain ⟨hstate, hreason⟩ := endSession_rd (s := s.begin t) LAST_END_REASON.idle hx
  have hsession := endSession_session (s.begin t) port LAST_END_REASON.idle
  have hout : ((s.begin t).endSession port LAST_END_REASON.idle).out = s.out := endSession_quiet_out (.inr (.inl rfl))
  generalize (s.begin t).endSession port LAST_END_REASON.idle = w at hwork hstate hreason hsession hout
  exact ⟨_, run_work (t := t) (f := (·.idleCheck port)) hp hwork, hsession, hstate, hreason, hout⟩

theorem lockout_ends {w : Nat} (hw : (s.port port).lockedUntil = some w) (hdue : w ≤ max s.now t) :
    ∃ u, exec (.lockoutExpiry t port) s = .next u ∧ u.rd o1101_SESSION_STATE port = SESSION_STATE.closed ∧ ¬ u.stands .CTL_LOGIN_LOCKOUT port := by
  have hwork : (s.begin t).unlock port = (((s.begin t).setPort port { s.port port with lockedUntil := none }).setSession port SESSION_STATE.closed).clear .CTL_LOGIN_LOCKOUT port := by
    unfold State.unlock
    rw [show ((s.begin t).port port).lockedUntil = some w from hw]
    exact if_pos hdue
  refine ⟨_, run_work (t := t) (f := (·.unlock port)) hp hwork, ?_, fun h => not_stands_clear _ _ _ ((finish_stands _ _ _ _).mp h)⟩
  exact (State.finish_rd _ _ _ _).trans (((alarmBlind_rd port (by decide)).clear _ _ _).trans (State.rd_wr_same _ o1101_SESSION_STATE port SESSION_STATE.closed))

/-- The written address in force, after the end of the session. -/
def State.addrTaken (s : State) (port : Nat) : State :=
  (s.endSession port LAST_END_REASON.address_change).setPort port
    { (s.endSession port LAST_END_REASON.address_change).port port with addrEffectAt := none, addrInForce := some (s.addrWritten port) }

theorem addressChange_takes {w : Nat} (hw : (s.port port).addrEffectAt = some w) (hdue : w ≤ max s.now t) :
    ∃ u, exec (.addressChangeEffect t port) s = .next u ∧ (u.port port).addrInForce = some (s.addrWritten port) ∧ (u.port port).addrEffectAt = none ∧
      (u.port port).session = none ∧ ((s.port port).session ≠ none → u.rd o1101_LAST_END_REASON port = LAST_END_REASON.address_change) := by
  have hwork : (s.begin t).addrEffect port = (s.begin t).addrTaken port := by
    unfold State.addrEffect
    rw [show ((s.begin t).port port).addrEffectAt = some w from hw]
    exact if_pos hdue
  have hport : ((s.begin t).addrTaken port).port port =
      { ((s.begin t).endSession port LAST_END_REASON.address_change).port port with addrEffectAt := none, addrInForce := some (s.addrWritten port) } := State.port_setPort _ _ _
  have hsession := endSession_session (s.begin t) port LAST_END_REASON.address_change
  have hreason : (s.port port).session ≠ none → ((s.begin t).addrTaken port).rd o1101_LAST_END_REASON port = LAST_END_REASON.address_change := fun hn => by
    obtain ⟨x, hx⟩ := Option.ne_none_iff_exists'.mp hn
    exact (State.rd_setPort _ _ _ _ _).trans (endSession_rd (s := s.begin t) LAST_END_REASON.address_change hx).2
  generalize (s.begin t).addrTaken port = y at hwork hport hreason
  rw [← finish_port (s.begin t) y port] at hport
  exact ⟨_, run_work (t := t) (f := (·.addrEffect port)) hp hwork, by rw [hport], by rw [hport], by rw [hport]; exact hsession, hreason⟩

end

/-- Settles O42. -/
theorem portTimersRunOut : Obligations.PortTimersRunOut := fun _ _ _ hp =>
  ⟨challengeExpiry_closes hp, fun _ => sessionIdle_ends hp, fun _ => lockout_ends hp, fun _ => addressChange_takes hp⟩

end Sys2Proof.Machine
end

section
/-! SUPPORT. Requests of a session, and commands that ask for a session's end (R391, R392, R397). -/

namespace Sys2Proof.Machine
open Sys2Proof

/-! A message next in sequence. -/

/-- The session at its request. -/
def Session.atRequest (x : Session) (now : Nat) : Session := { x with lastAuth := now, lastSeq := x.lastSeq + 1 }

/-- The state in which a request next in sequence is carried out. -/
def State.requestBegun (s : State) (port : Nat) (x : Session) : State :=
  (s.putSession port { x with lastAuth := s.now }).putSession port { x.atRequest s.now with kept := none }

theorem withSession_next {s : State} {port addr udp : Nat} {d : Bytes} {x : Session} (h : s.nextInSession port addr udp d x = true) (f : Session → State → State) :
    s.withSession port addr udp d f = f (x.atRequest s.now) (s.requestBegun port x) := by
  unfold State.nextInSession at h
  simp only [Bool.and_eq_true, beq_iff_eq] at h
  obtain ⟨⟨⟨⟨htalk, hver⟩, hlen⟩, hauth⟩, hseq⟩ := h
  unfold State.withSession
  rw [if_neg (by rw [htalk, hver, hlen]; decide), hauth]
  dsimp only
  rw [hseq, if_pos rfl]
  rfl

theorem requestBegun_port (s : State) (port : Nat) (x : Session) : ((s.requestBegun port x).port port).session = some { x.atRequest s.now with kept := none } :=
  congrArg Port.session (State.port_setPort _ _ _)

theorem logout_ends {s : State} {t port addr udp : Nat} {d : Bytes} {x : Session} (hp : s.powered = true) (h : (s.begin t).nextInSession port addr udp d x = true) (ht : fieldNat 1 1 d = 5) :
    ∃ u, exec (.logout t port addr udp d) s = .next u ∧ (u.port port).session = none ∧ u.rd o1101_SESSION_STATE port = SESSION_STATE.closed ∧
      u.rd o1101_LAST_END_REASON port = LAST_END_REASON.logout ∧ u.out = s.out ++ [.sdp port addr udp (sessionMsg x 0x11 (x.lastSeq + 1) 0 0 [])] := by
  have hrun : exec (.logout t port addr udp d) s = .next ((s.begin t).finish ((((s.begin t).requestBegun port x).emit (.sdp port addr udp (sessionMsg x 0x11 (x.lastSeq + 1) 0 0 []))).endSession port
      LAST_END_REASON.logout)) := by
    refine run_work (t := t) (f := fun s => if fieldNat 1 1 d ≠ 5 then s else s.withSession port addr udp d
      (fun x s => (s.emit (.sdp port addr udp (sessionMsg x 0x11 x.lastSeq 0 0 []))).endSession port LAST_END_REASON.logout)) hp ?_
    rw [if_neg fun hn => hn ht, withSession_next h]
    rfl
  have hx : ((((s.begin t).requestBegun port x).emit (.sdp port addr udp (sessionMsg x 0x11 (x.lastSeq + 1) 0 0 []))).port port).session = some { x.atRequest (s.begin t).now with kept := none } :=
    requestBegun_port (s.begin t) port x
  have hout : (((s.begin t).requestBegun port x).emit (.sdp port addr udp (sessionMsg x 0x11 (x.lastSeq + 1) 0 0 []))).out = s.out ++ [.sdp port addr udp (sessionMsg x 0x11 (x.lastSeq + 1) 0 0 [])] := rfl
  generalize ((s.begin t).requestBegun port x).emit (.sdp port addr udp (sessionMsg x 0x11 (x.lastSeq + 1) 0 0 [])) = y at hrun hx hout
  obtain ⟨hstate, hreason⟩ := endSession_rd LAST_END_REASON.logout hx
  exact ⟨_, hrun, endSession_session y port _, hstate, hreason, (endSession_quiet_out (.inl rfl)).trans hout⟩

/-! A command that asks for ends. -/

/-- The work of a handler with what follows every accepted write of object `o`, before the ends that it asked for. -/
structure Carried (o : Nat) (w y : State) : Prop where
  last : y.last = ⟨0, none⟩
  rd : ∀ o' r, o' ∉ writeSideObjects → y.rd o' r = w.rd o' r
  dirty : persistent o = false → ∀ r, y.rd o1200_RUNNING_DIRTY r = w.rd o1200_RUNNING_DIRTY r
  ctl : y.ctl = { w.ctl with save := y.ctl.save }
  out : w.out <+: y.out

theorem carried_accepted (w : State) (c : Ctx) (o r : Nat) (d : ObjRow) (v : Val) : Carried o w (((w.afterWrite o).mirrorWrite c o r d v).answer stOK) := by
  obtain ⟨regs, save, hafter, -⟩ := afterWrite_eq_endOf w o
  obtain ⟨regs', pair, out, hm, hout, -⟩ := mirrorWrite_eq_endOf (w.afterWrite o) c o r d v
  have hctl : ((w.afterWrite o).mirrorWrite c o r d v).ctl = { w.ctl with save := ((w.afterWrite o).mirrorWrite c o r d v).ctl.save } := by rw [hm, hafter]
  have hpre : w.out <+: ((w.afterWrite o).mirrorWrite c o r d v).out := by
    rw [hm]
    rw [hafter] at hout
    exact hout
  have hdirty : persistent o = false → ∀ r', ((w.afterWrite o).mirrorWrite c o r d v).rd o1200_RUNNING_DIRTY r' = w.rd o1200_RUNNING_DIRTY r' := fun hper r' => by
    rw [mirrorWrite_rd _ _ _ _ _ _ (by decide)]
    unfold State.afterWrite
    rw [hper]
    rfl
  refine ⟨rfl, fun o' r' ho => ?_, hdirty, hctl, hpre⟩
  simp only [writeSideObjects, List.mem_cons, List.not_mem_nil, or_false, not_or] at ho
  exact (mirrorWrite_rd _ _ _ _ _ _ ho.2).trans (afterWrite_rd _ _ ho.1)

/-- An accepted command, whatever ends of sessions its handler asked for. -/
theorem run_flushing {s w : State} {t port o r : Nat} {v : Val} {h : Handler} (hrow : perSession o = false) (hp : s.powered = true) (ha : s.admits port o r v = true)
    (hk : ∀ c : Ctx, s.ctxOf port = some c → c.port = port → h c r v (s.begin t) = (stOK, w)) :
    ∃ y, s.run t (fun s => s.opCmd h port o r v) = .next ((s.begin t).finish (y.flushEnds port)) ∧ Carried o w y := by
  obtain ⟨c, d, hc, hport, -, -, hw⟩ := opWrite_admitted (s := s.begin t) h ha
  rw [effRow_eq c r hrow, hk c hc hport, if_pos rfl] at hw
  refine ⟨_, ?_, carried_accepted w c o r d v⟩
  rw [s.run_powered t _ hp]
  unfold State.opCmd
  rw [hw]

/-- The ends asked for. -/
def State.endAll (s : State) (l : List (Nat × Int)) : State := l.foldl (fun s e => s.endSession e.1 e.2) s

theorem flushEnds_all {y : State} {port : Nat} (h : ∀ e ∈ y.ctl.endAfter, e.1 = port) : y.flushEnds port = { y with ctl := { y.ctl with endAfter := [] } }.endAll y.ctl.endAfter := by
  have hmine : y.ctl.endAfter.filter (fun e => e.1 == port) = y.ctl.endAfter := List.filter_eq_self.mpr fun e he => beq_iff_eq.mpr (h e he)
  have hrest : y.ctl.endAfter.filter (fun e => e.1 != port) = [] := List.filter_eq_nil_iff.mpr fun e he hn => bne_iff_ne.mp hn (h e he)
  unfold State.flushEnds
  rw [hmine, hrest]
  rfl

/-- The work of a handler noted, with no end left to ask for. -/
structure Noted (w y : State) : Prop where
  last : y.last = ⟨0, none⟩
  rd : ∀ o r, o ∉ writeSideObjects → y.rd o r = w.rd o r
  ports : y.ctl.ports = w.ctl.ports
  keys : y.ctl.keys = w.ctl.keys

theorem Noted.port {w y : State} (h : Noted w y) (p : Nat) : y.port p = w.port p := by
  unfold State.port
  rw [h.ports]

/-- An accepted command with the ends that its handler asked for on its own port. -/
theorem run_ending {s w : State} {t port o r : Nat} {v : Val} {h : Handler} (hrow : perSession o = false) (hp : s.powered = true) (ha : s.admits port o r v = true)
    (hk : ∀ c : Ctx, s.ctxOf port = some c → c.port = port → h c r v (s.begin t) = (stOK, w)) (hend : ∀ e ∈ w.ctl.endAfter, e.1 = port) :
    ∃ y, s.run t (fun s => s.opCmd h port o r v) = .next ((s.begin t).finish (y.endAll w.ctl.endAfter)) ∧ Noted w y := by
  obtain ⟨y, hy, hc⟩ := run_flushing (t := t) hrow hp ha hk
  have hends : y.ctl.endAfter = w.ctl.endAfter := (congrArg Ctl.endAfter hc.ctl).trans rfl
  rw [flushEnds_all (by rw [hends]; exact hend), hends] at hy
  exact ⟨_, hy, hc.last, hc.rd, (congrArg Ctl.ports hc.ctl).trans rfl, (congrArg Ctl.keys hc.ctl).trans rfl⟩

/-! SESSION_END_CMD. -/

theorem endSession_out {s : State} {port : Nat} {x : Session} {reason : Int} (h : (s.port port).session = some x) (hq : ¬ quietEnd reason) :
    (s.endSession port reason).out = s.out ++ [.sdp port x.addr x.udp (sessionMsg x 0x20 x.eventSeq 0 0 (leBytes 2 3 ++ leBytes 2 4 ++ [BitVec.ofNat 8 reason.toNat, 0#8, 0#8, 0#8]))] := by
  rw [endSession_event h hq, sendEvent_open _ _ h]
  exact (blind_out (by decide)).sessionCleared (List.Subset.refl _) (fun _ _ => rfl) _ _ _

theorem not_quiet_forced : ¬ quietEnd LAST_END_REASON.forced := by
  unfold quietEnd
  decide

/-- What becomes of a session that is forced to end. -/
theorem forced_end {s : State} {target : Nat} {x : Session} (h : (s.port target).session = some x) :
    let u := s.endSession target LAST_END_REASON.forced
    (u.port target).session = none ∧ u.rd o1101_LAST_END_REASON target = LAST_END_REASON.forced ∧
      .sdp target x.addr x.udp (sessionMsg x 0x20 x.eventSeq 0 0 (leBytes 2 3 ++ leBytes 2 4 ++ [BitVec.ofNat 8 LAST_END_REASON.forced.toNat, 0#8, 0#8, 0#8])) ∈ u.out ∧
      ∀ o, perSession o = true → u.rd o target = objDefault o target := by
  refine ⟨endSession_session s target _, (endSession_rd _ h).2, ?_, fun o ho => endSession_perSession _ h ho⟩
  rw [endSession_out h not_quiet_forced]
  exact List.mem_append_right _ (List.mem_singleton_self _)

theorem sessionEnd_forces {s : State} {t port target : Nat} {x : Session} (hp : s.powered = true) (ha : s.admits port o1101_SESSION_END_CMD target (.int 0) = true)
    (hx : (s.port target).session = some x) :
    ∃ u, exec (.sessionEndCmd t port target) s = .next u ∧ u.last = ⟨0, none⟩ ∧ (u.port target).session = none ∧ u.rd o1101_LAST_END_REASON target = LAST_END_REASON.forced ∧
      .sdp target x.addr x.udp (sessionMsg x 0x20 x.eventSeq 0 0 (leBytes 2 3 ++ leBytes 2 4 ++ [BitVec.ofNat 8 LAST_END_REASON.forced.toNat, 0#8, 0#8, 0#8])) ∈ u.out ∧
      ∀ o, perSession o = true → u.rd o target = objDefault o target := by
  have hnone : s.ctl.endAfter = [] := by
    obtain ⟨_, _, -, -, -, he, -⟩ := opWrite_admitted writeSessionEnd ha
    exact he
  by_cases heq : port = target
  · subst heq
    have hk : ∀ c : Ctx, s.ctxOf port = some c → c.port = port → writeSessionEnd c port (.int 0) (s.begin t) =
        (stOK, { s.begin t with ctl := { s.ctl with endAfter := s.ctl.endAfter ++ [(port, LAST_END_REASON.forced)] } }) := fun c _ hc => congrArg (stOK, ·) (if_pos hc)
    rw [hnone, List.nil_append] at hk
    obtain ⟨y, hy, hnoted⟩ := run_ending (t := t) (h := writeSessionEnd) (by decide) hp ha hk fun e he => by rw [List.mem_singleton.mp he]
    have hlast : (y.endSession port LAST_END_REASON.forced).last = ⟨0, none⟩ := (endSession_last _ _ _).trans hnoted.last
    obtain ⟨hsession, hreason, hevent, hper⟩ := forced_end (s := y) ((congrArg Port.session (hnoted.port port)).trans hx)
    exact ⟨_, hy, hlast, hsession, hreason, hevent, hper⟩
  · have hk : ∀ c : Ctx, c.port = port → writeSessionEnd c target (.int 0) (s.begin t) = (stOK, (s.begin t).endSession target LAST_END_REASON.forced) := fun c hc =>
      congrArg (stOK, ·) (if_neg (by rw [hc]; exact heq))
    have hends : ((s.begin t).endSession target LAST_END_REASON.forced).ctl.endAfter = s.ctl.endAfter := by
      rw [endSession_event (s := s.begin t) hx not_quiet_forced]
      refine (congrArg Ctl.endAfter (sessionCleared_ctl _ _ _)).trans ?_
      rw [sendEvent_open (s := s.begin t) _ _ hx]
      rfl
    obtain ⟨hsession, hreason, hevent, hper⟩ := forced_end (s := s.begin t) hx
    generalize (s.begin t).endSession target LAST_END_REASON.forced = w at hk hends hsession hreason hevent hper
    obtain ⟨e, he, hacc⟩ := run_accepted_row (t := t) (h := writeSessionEnd) (by decide) hp ha hk hends
    exact ⟨_, he, hacc.last, hsession, (hacc.rd _ _ (by decide)).trans hreason, hacc.out.subset hevent, fun o ho => (hacc.rd _ _ fun hm => by
      rcases List.mem_pair.mp hm with h | h
      · exact absurd ho (by rw [h]; decide)
      · exact absurd ho (by rw [h]; decide)).trans (hper o ho)⟩

/-- Settles O38. The empty RESPONSE to a LOGOUT is the model's choice of log entry 109. -/
theorem sessionsEnd : Obligations.SessionsEnd := ⟨fun _ _ _ _ _ _ _ => logout_ends, fun _ _ _ _ _ => sessionEnd_forces⟩

end Sys2Proof.Machine
end

section
/-! SUPPORT. Changes of a key slot, with the sessions that they end, and the partition map (R395, R397, R401). -/

namespace Sys2Proof.Machine
open Sys2Proof

/-! What the end of a session leaves. -/

theorem endSession_keys (s : State) (port : Nat) (reason : Int) : (s.endSession port reason).ctl.keys = s.ctl.keys :=
  ((blind_ctl (M := endMarks) (by decide)).comp Ctl.keys).endSession (List.Subset.refl _) (fun _ _ _ => rfl) (fun _ _ => rfl) s port reason

theorem endSession_endAfter (s : State) (port : Nat) (reason : Int) : (s.endSession port reason).ctl.endAfter = s.ctl.endAfter :=
  ((blind_ctl (M := endMarks) (by decide)).comp Ctl.endAfter).endSession (List.Subset.refl _) (fun _ _ _ => rfl) (fun _ _ => rfl) s port reason

theorem endAll_blind {α : Type} {f : State → α} (h : ∀ s p r, f (State.endSession s p r) = f s) (s : State) (l : List (Nat × Int)) : f (s.endAll l) = f s :=
  foldl_blind (g := fun s e => State.endSession s e.1 e.2) (fun s e => h s e.1 e.2) l s

theorem endAll_port_ne {port q : Nat} (hq : q ≠ port) (l : List (Nat × Int)) : ∀ {s : State}, (∀ e ∈ l, e.1 = port) → (s.endAll l).port q = s.port q := by
  induction l with
  | nil => exact fun _ => rfl
  | cons e l ih =>
    intro s h
    obtain ⟨he, hl⟩ := List.forall_mem_cons.mp h
    exact (ih hl).trans (endSession_port_ne s (by rw [he]; exact hq) e.2)

theorem endAll_none {port : Nat} (l : List (Nat × Int)) : ∀ {s : State}, (∀ e ∈ l, e.1 = port) → (s.port port).session = none ∨ l ≠ [] → ((s.endAll l).port port).session = none := by
  induction l with
  | nil => exact fun _ h => h.resolve_right fun hn => hn rfl
  | cons e l ih =>
    intro s h _
    obtain ⟨he, hl⟩ := List.forall_mem_cons.mp h
    exact ih hl (.inl (he ▸ endSession_session s e.1 e.2))

/-! The sessions of a slot. -/

/-- What a change of a slot does to a port. -/
def State.slotEnd (s : State) (c : Ctx) (k p : Nat) : State :=
  match (s.port p).session with
  | some x => if x.slot = k then s.requestEnd c p LAST_END_REASON.key_change else s
  | none => s

/-- No session of the slot is left on a port, unless it is the port of the change, whose session ends after its response. -/
def State.slotLeft (s : State) (c : Ctx) (k q : Nat) : Prop := ∀ x, (s.port q).session = some x → x.slot = k → q = c.port ∧ s.ctl.endAfter ≠ []

theorem slotEnd_cases (s : State) (c : Ctx) (k p : Nat) : (s.slotEnd c k p = s ∧ ∀ x, (s.port p).session = some x → x.slot ≠ k) ∨
    (p = c.port ∧ s.slotEnd c k p = { s with ctl := { s.ctl with endAfter := s.ctl.endAfter ++ [(p, LAST_END_REASON.key_change)] } }) ∨
    (p ≠ c.port ∧ s.slotEnd c k p = s.endSession p LAST_END_REASON.key_change) := by
  unfold State.slotEnd
  cases hx : (s.port p).session with
  | none => exact .inl ⟨rfl, fun _ h => absurd h (Option.some_ne_none _).symm⟩
  | some x =>
    by_cases hk : x.slot = k
    · have hreq : (if x.slot = k then s.requestEnd c p LAST_END_REASON.key_change else s) = s.requestEnd c p LAST_END_REASON.key_change := if_pos hk
      by_cases hp : p = c.port
      · exact .inr (.inl ⟨hp, hreq.trans (if_pos hp.symm)⟩)
      · exact .inr (.inr ⟨hp, hreq.trans (if_neg fun h => hp h.symm)⟩)
    · exact .inl ⟨if_neg hk, fun y hy => Option.some.inj hy ▸ hk⟩

theorem slotEnd_left (s : State) (c : Ctx) (k p q : Nat) (h : q = p ∨ s.slotLeft c k q) : (s.slotEnd c k p).slotLeft c k q := by
  rcases slotEnd_cases s c k p with ⟨hs, hx⟩ | ⟨hp, hs⟩ | ⟨hp, hs⟩
  · rw [hs]
    rcases h with rfl | h
    · exact fun x hsome hslot => absurd hslot (hx x hsome)
    · exact h
  · rw [hs]
    have hne : s.ctl.endAfter ++ [(p, LAST_END_REASON.key_change)] ≠ [] := by simp
    rcases h with rfl | h
    · exact fun _ _ _ => ⟨hp, hne⟩
    · exact fun x hsome hslot => ⟨(h x hsome hslot).1, hne⟩
  · rw [hs]
    by_cases hq : q = p
    · intro x hsome
      rw [hq, endSession_session] at hsome
      exact absurd hsome (Option.some_ne_none _).symm
    · intro x hsome hslot
      rw [endSession_port_ne s hq] at hsome
      rw [endSession_endAfter]
      exact h.resolve_left hq x hsome hslot

theorem slotEnd_ends (s : State) (c : Ctx) (k p : Nat) (h : ∀ e ∈ s.ctl.endAfter, e.1 = c.port) : ∀ e ∈ (s.slotEnd c k p).ctl.endAfter, e.1 = c.port := by
  rcases slotEnd_cases s c k p with ⟨hs, -⟩ | ⟨hp, hs⟩ | ⟨-, hs⟩
  · rw [hs]
    exact h
  · rw [hs]
    exact fun e he => (List.mem_append.mp he).elim (h e) fun hm => (congrArg Prod.fst (List.mem_singleton.mp hm)).trans hp
  · rw [hs, endSession_endAfter]
    exact h

/-- A reading that sees no end of a session. -/
theorem slotEnd_blind {α : Type} {f : State → α} (h : ∀ s p r, f (State.endSession s p r) = f s) (hctl : ∀ (s : State) (l : List (Nat × Int)), f { s with ctl := { s.ctl with endAfter := l } } = f s)
    (s : State) (c : Ctx) (k p : Nat) : f (s.slotEnd c k p) = f s := by
  rcases slotEnd_cases s c k p with ⟨hs, -⟩ | ⟨-, hs⟩ | ⟨-, hs⟩
  · rw [hs]
  · rw [hs]
    exact hctl _ _
  · rw [hs]
    exact h _ _ _

theorem foldl_slotEnd_left (c : Ctx) (k q : Nat) (l : List Nat) : ∀ {s : State}, q ∈ l ∨ s.slotLeft c k q → (l.foldl (fun s p => s.slotEnd c k p) s).slotLeft c k q := by
  induction l with
  | nil => exact fun h => h.resolve_left List.not_mem_nil
  | cons p l ih =>
    intro s h
    refine ih ?_
    rcases h with h | h
    · rcases List.mem_cons.mp h with h | h
      · exact .inr (slotEnd_left s c k p q (.inl h))
      · exact .inl h
    · exact .inr (slotEnd_left s c k p q (.inr h))

theorem foldl_slotEnd_ends (c : Ctx) (k : Nat) (l : List Nat) : ∀ {s : State}, (∀ e ∈ s.ctl.endAfter, e.1 = c.port) → ∀ e ∈ (l.foldl (fun s p => s.slotEnd c k p) s).ctl.endAfter, e.1 = c.port := by
  induction l with
  | nil => exact fun h => h
  | cons p l ih => exact fun h => ih (slotEnd_ends _ c k p h)

/-! The change. -/

/-- The write counted. -/
def State.writesCounted (s : State) (k : Nat) : State := if k = 0 then (s.bump o1100_KEY_WRITES k).wr o1100_KEY_FACTORY 0 0 else s.bump o1100_KEY_WRITES k

theorem slotChanged_eq (s : State) (c : Ctx) (k : Nat) : s.slotChanged c k = portList.foldl (fun s p => s.slotEnd c k p) (s.writesCounted k).keyAlarms := rfl

theorem AlarmBlind.keyAlarms {α : Type} {f : State → α} (hf : AlarmBlind f) (s : State) : f s.keyAlarms = f s :=
  (hf.alarmWhile _ _ _ _).trans (foldl_blind (fun _ _ => hf.alarmWhile _ _ _ _) _ s)

theorem writesCounted_ctl (s : State) (k : Nat) : (s.writesCounted k).ctl = s.ctl := by
  unfold State.writesCounted
  split
  · rfl
  · rfl

theorem writesCounted_writes (s : State) (k : Nat) : (s.writesCounted k).rd o1100_KEY_WRITES k = (s.rd o1100_KEY_WRITES k + 1) % 4294967296 := by
  have hmod : objModulus o1100_KEY_WRITES = 4294967296 := by decide
  unfold State.writesCounted
  split
  · exact (State.rd_wr_obj _ _ (by decide)).trans ((rd_bump_same _ _ _).trans (by rw [hmod]))
  · exact (rd_bump_same _ _ _).trans (by rw [hmod])

theorem writesCounted_rd (s : State) (k : Nat) {o : Nat} (r : Nat) (hw : o ≠ o1100_KEY_WRITES) (hf : o ≠ o1100_KEY_FACTORY) : (s.writesCounted k).rd o r = s.rd o r := by
  unfold State.writesCounted
  split
  · exact (State.rd_wr_obj _ _ hf).trans (rd_bump_obj _ hw _ _)
  · exact rd_bump_obj _ hw _ _

/-- What a reading of the key store sees of the change of a slot. -/
theorem slotChanged_rd (s : State) (c : Ctx) (k : Nat) {o : Nat} (r : Nat) (ho : .obj o ∉ endMarks) (hp : perSession o = false) (ha : o ∉ alarmSideObjects) :
    (s.slotChanged c k).rd o r = (s.writesCounted k).rd o r :=
  (foldl_blind (f := (·.rd o r)) (fun s p => slotEnd_blind (f := (·.rd o r)) (fun _ _ _ => endSession_rd_other _ _ _ r ho hp) (fun _ _ => rfl) s c k p) _ _).trans ((alarmBlind_rd r ha).keyAlarms _)

theorem slotChanged_keys (s : State) (c : Ctx) (k : Nat) : (s.slotChanged c k).ctl.keys = s.ctl.keys :=
  (foldl_blind (f := (·.ctl.keys)) (fun s p => slotEnd_blind (f := (·.ctl.keys)) endSession_keys (fun _ _ => rfl) s c k p) _ _).trans
    ((AlarmBlind.keyAlarms (f := (·.ctl.keys)) ⟨fun _ _ => rfl, fun _ _ => rfl, fun _ _ _ _ _ => rfl⟩ _).trans (congrArg Ctl.keys (writesCounted_ctl s k)))

theorem slotChanged_left (s : State) (c : Ctx) (k : Nat) {q : Nat} (hq : q ∈ portList) : (s.slotChanged c k).slotLeft c k q := foldl_slotEnd_left c k q portList (.inl hq)

theorem slotChanged_ends {s : State} (c : Ctx) (k : Nat) (h : s.ctl.endAfter = []) : ∀ e ∈ (s.slotChanged c k).ctl.endAfter, e.1 = c.port := by
  have hnone : (s.writesCounted k).keyAlarms.ctl.endAfter = [] :=
    (AlarmBlind.keyAlarms (f := (·.ctl.endAfter)) ⟨fun _ _ => rfl, fun _ _ => rfl, fun _ _ _ _ _ => rfl⟩ _).trans ((congrArg Ctl.endAfter (writesCounted_ctl s k)).trans h)
  exact foldl_slotEnd_ends c k portList (s := (s.writesCounted k).keyAlarms) fun e he => by
    rw [hnone] at he
    exact absurd he List.not_mem_nil

/-- What an accepted change of a slot has done. -/
def State.slotDone (s u : State) (slot : Nat) : Prop :=
  u.last = ⟨0, none⟩ ∧ u.rd o1100_KEY_WRITES slot = (s.rd o1100_KEY_WRITES slot + 1) % 4294967296 ∧ ∀ p ∈ portList, ∀ x, (u.port p).session = some x → x.slot ≠ slot

/-- A command that changes a slot: `y` is the store with the change. -/
theorem run_slotChanged {s y : State} {t port o slot : Nat} {v : Val} {h : Handler} (hrow : perSession o = false) (hp : s.powered = true) (ha : s.admits port o slot v = true)
    (hk : ∀ c : Ctx, s.ctxOf port = some c → c.port = port → h c slot v (s.begin t) = (stOK, y.slotChanged c slot)) (hend : y.ctl.endAfter = s.ctl.endAfter)
    (hwrites : y.rd o1100_KEY_WRITES slot = s.rd o1100_KEY_WRITES slot) :
    ∃ u, s.run t (fun s => s.opCmd h port o slot v) = .next u ∧ s.slotDone u slot ∧ u.ctl.keys = y.ctl.keys ∧
      ∀ o' ∈ [o1100_KEY_STATE, o1100_KEY_ROLES, o1100_KEY_PORTS], u.rd o' slot = y.rd o' slot := by
  obtain ⟨c, _, hc, hport, -, hnone, -⟩ := opWrite_admitted h ha
  have hends : ∀ e ∈ (y.slotChanged c slot).ctl.endAfter, e.1 = port := hport ▸ slotChanged_ends c slot (hend.trans hnone)
  obtain ⟨z, hz, hnoted⟩ := run_ending (t := t) hrow hp ha (fun c' hc' hp' => by rw [Option.some.inj (hc'.symm.trans hc)]; exact hk c hc hport) hends
  have hleft : ∀ p ∈ portList, (y.slotChanged c slot).slotLeft c slot p := fun p => slotChanged_left y c slot
  have hkeys : (y.slotChanged c slot).ctl.keys = y.ctl.keys := slotChanged_keys y c slot
  have hrd : ∀ o', .obj o' ∉ endMarks → perSession o' = false → o' ∉ alarmSideObjects → (y.slotChanged c slot).rd o' slot = (y.writesCounted slot).rd o' slot := fun o' => slotChanged_rd y c slot slot
  generalize y.slotChanged c slot = w at hends hz hnoted hleft hkeys hrd
  have hread : ∀ o', .obj o' ∉ endMarks → perSession o' = false → o' ∉ alarmSideObjects → o' ∉ writeSideObjects → (z.endAll w.ctl.endAfter).rd o' slot = (y.writesCounted slot).rd o' slot :=
    fun o' ho hper hside hwrite => (endAll_blind (f := (·.rd o' slot)) (fun s p r => endSession_rd_other s p r slot ho hper) z _).trans ((hnoted.rd o' slot hwrite).trans (hrd o' ho hper hside))
  have hlast : (z.endAll w.ctl.endAfter).last = ⟨0, none⟩ := (endAll_blind (f := State.last) endSession_last z _).trans hnoted.last
  have hstore : (z.endAll w.ctl.endAfter).ctl.keys = y.ctl.keys := (endAll_blind (f := (·.ctl.keys)) endSession_keys z _).trans (hnoted.keys.trans hkeys)
  have hports : ∀ p ∈ portList, ∀ x, ((z.endAll w.ctl.endAfter).port p).session = some x → x.slot ≠ slot := fun p hpm x hx hslot => by
    by_cases hpp : p = port
    · have hsome : w.ctl.endAfter = [] := by
        by_contra hne
        rw [hpp, endAll_none _ hends (.inr hne)] at hx
        exact absurd hx (Option.some_ne_none _).symm
      rw [hsome] at hx
      exact (hleft p hpm x ((congrArg Port.session (hnoted.port p)).symm.trans hx) hslot).2 hsome
    · rw [endAll_port_ne hpp _ hends, hnoted.port] at hx
      exact hpp ((hleft p hpm x hx hslot).1.trans hport)
  generalize z.endAll w.ctl.endAfter = u at hz hread hlast hstore hports
  refine ⟨_, hz, ⟨hlast, ?_, hports⟩, hstore, fun o' ho' => ?_⟩
  · exact (State.finish_rd _ _ _ _).trans ((hread _ (by decide) (by decide) (by decide) (by decide)).trans ((writesCounted_writes y slot).trans (by rw [hwrites])))
  · have hsees : ∀ o' ∈ [o1100_KEY_STATE, o1100_KEY_ROLES, o1100_KEY_PORTS], .obj o' ∉ endMarks ∧ perSession o' = false ∧ o' ∉ alarmSideObjects ∧ o' ∉ writeSideObjects ∧ o' ≠ o1100_KEY_WRITES ∧
        o' ≠ o1100_KEY_FACTORY := by decide
    obtain ⟨hend', hper, hside, hwrite, hw, hf⟩ := hsees o' ho'
    exact (State.finish_rd _ _ _ _).trans ((hread o' hend' hper hside hwrite).trans (writesCounted_rd y slot slot hw hf))

/-! The writes of the key store. -/

theorem expertRemains_of {s u : State} {j : Nat} (hj : j < 8) (hv : s.rd o1100_KEY_STATE j = KEY_STATE.valid) (hr : hasRole (s.rdN o1100_KEY_ROLES j) roleEXPERT = true)
    (hstate : u.rd o1100_KEY_STATE j = s.rd o1100_KEY_STATE j) (hroles : u.rd o1100_KEY_ROLES j = s.rd o1100_KEY_ROLES j) : u.expertRemains = true := by
  have hmem : ∀ j < 8, j ∈ keyList := by decide
  have hrole : hasRole (u.rdN o1100_KEY_ROLES j) roleEXPERT = true := (congrArg (fun n => hasRole (Int.toNat n) roleEXPERT) hroles).trans hr
  exact List.any_eq_true.mpr ⟨j, hmem j hj, Bool.and_eq_true_iff.mpr ⟨beq_iff_eq.mpr (hstate.trans hv), hrole⟩⟩

section
variable {s : State} {t port slot j : Nat} (hp : s.powered = true) (hj : j < 8) (hne : j ≠ slot) (hv : s.rd o1100_KEY_STATE j = KEY_STATE.valid)
  (hr : hasRole (s.rdN o1100_KEY_ROLES j) roleEXPERT = true)
include hp hj hne hv hr

theorem keyWrapped_stores {w : Bytes} {x : Session} (hx : (s.port port).session = some x) (ha : s.admits port o1100_KEY_WRAPPED slot (.bytes w) = true)
    (hcheck : (hmacSha256 (xorBytes (w.take 32) (keyWrap x.key slot (s.rdN o1100_KEY_WRITES slot))) (ascii "SQDP-KEYCHECK")).take 8 = w.drop 32) :
    ∃ u, exec (.keyWrapped t port slot w) s = .next u ∧ s.slotDone u slot ∧ u.rd o1100_KEY_STATE slot = KEY_STATE.valid ∧
      (u.keySlot slot).a.key = xorBytes (w.take 32) (keyWrap x.key slot (s.rdN o1100_KEY_WRITES slot)) := by
  have hks : ∀ c : Ctx, c.port = port → (s.begin t).ksOf c = x.key := fun c hc => by
    unfold State.ksOf
    rw [hc, show ((s.begin t).port port).session = some x from hx]
  have hexpert : (((s.begin t).putKey slot (xorBytes (w.take 32) (keyWrap x.key slot (s.rdN o1100_KEY_WRITES slot)))).wr o1100_KEY_STATE slot KEY_STATE.valid).expertRemains = true :=
    expertRemains_of hj hv hr (State.rd_wr_ne _ _ fun h => hne (congrArg Prod.snd h)) (State.rd_wr_obj _ _ (by decide))
  have hk : ∀ c : Ctx, s.ctxOf port = some c → c.port = port → writeKeyWrapped c slot (.bytes w) (s.begin t) =
      (stOK, (((s.begin t).putKey slot (xorBytes (w.take 32) (keyWrap x.key slot (s.rdN o1100_KEY_WRITES slot)))).wr o1100_KEY_STATE slot KEY_STATE.valid).slotChanged c slot) := fun c _ hc => by
    unfold writeKeyWrapped onBytes
    dsimp only
    rw [hks c hc]
    exact (if_neg fun h => h hcheck).trans (if_neg fun h => Bool.false_ne_true (h.symm.trans hexpert))
  obtain ⟨u, hu, hdone, hkeys, hrd⟩ := run_slotChanged (by decide) hp ha hk rfl (State.rd_wr_obj _ _ (by decide))
  refine ⟨u, hu, hdone, (hrd _ (by decide)).trans (State.rd_wr_same _ _ _ _), ?_⟩
  unfold State.keySlot
  rw [hkeys]
  exact congrArg (fun k => (Option.getD k ({} : KeySlot)).a.key) (storeGet_put_same natLt slot _ s.ctl.keys)

theorem keyErase_empties (ha : s.admits port o1100_KEY_ERASE slot (.int 0) = true) : ∃ u, exec (.keyErase t port slot) s = .next u ∧ s.slotDone u slot ∧ u.rd o1100_KEY_STATE slot = KEY_STATE.empty := by
  have hexpert : ({ s.begin t with ctl := { s.ctl with keys := storeDel slot s.ctl.keys } }.wr o1100_KEY_STATE slot KEY_STATE.empty).expertRemains = true :=
    expertRemains_of hj hv hr (State.rd_wr_ne _ _ fun h => hne (congrArg Prod.snd h)) (State.rd_wr_obj _ _ (by decide))
  obtain ⟨u, hu, hdone, -, hrd⟩ := run_slotChanged (t := t) (h := writeKeyErase) (by decide) hp ha (fun c _ _ => if_neg fun h => Bool.false_ne_true (h.symm.trans hexpert)) rfl
    (State.rd_wr_obj _ _ (by decide))
  exact ⟨u, hu, hdone, (hrd _ (by decide)).trans (State.rd_wr_same _ o1100_KEY_STATE slot KEY_STATE.empty)⟩

omit hne in
theorem keyPorts_held {v : Nat} (ha : s.admits port o1100_KEY_PORTS slot (.int v) = true) : ∃ u, exec (.keyRolesWrite t port slot true v) s = .next u ∧ s.slotDone u slot ∧ u.rd o1100_KEY_PORTS slot = v := by
  have hexpert : ((s.begin t).wr o1100_KEY_PORTS slot v).expertRemains = true := expertRemains_of hj hv hr (State.rd_wr_obj _ _ (by decide)) (State.rd_wr_obj _ _ (by decide))
  obtain ⟨u, hu, hdone, -, hrd⟩ := run_slotChanged (t := t) (h := writeKeyPorts) (by decide) hp ha (fun c _ _ => if_neg fun h => Bool.false_ne_true (h.symm.trans hexpert)) rfl
    (State.rd_wr_obj _ _ (by decide))
  exact ⟨u, hu, hdone, (hrd _ (by decide)).trans (State.rd_wr_same _ o1100_KEY_PORTS slot v)⟩

theorem keyRoles_held {v : Nat} {c : Ctx} (hc : s.ctxOf port = some c) (hroles : ∀ i < 5, v.testBit i = true → hasRole c.roles i = true)
    (ha : s.admits port o1100_KEY_ROLES slot (.int v) = true) : ∃ u, exec (.keyRolesWrite t port slot false v) s = .next u ∧ s.slotDone u slot ∧ u.rd o1100_KEY_ROLES slot = v := by
  have hexpert : ((s.begin t).wr o1100_KEY_ROLES slot v).expertRemains = true :=
    expertRemains_of hj hv hr (State.rd_wr_obj _ _ (by decide)) (State.rd_wr_ne _ _ fun h => hne (congrArg Prod.snd h))
  have hgiven : ∀ c', s.ctxOf port = some c' → ¬ (List.range 5).any (fun i => (v : Int).toNat.testBit i && !hasRole c'.roles i) = true := fun c' hc' h => by
    obtain ⟨i, hi, hbit⟩ := List.any_eq_true.mp h
    obtain ⟨hset, hlacks⟩ := Bool.and_eq_true_iff.mp hbit
    rw [Option.some.inj (hc'.symm.trans hc), hroles i (List.mem_range.mp hi) hset] at hlacks
    exact Bool.false_ne_true hlacks
  obtain ⟨u, hu, hdone, -, hrd⟩ := run_slotChanged (t := t) (h := writeKeyRoles) (by decide) hp ha
    (fun c' hc' _ => (if_neg (hgiven c' hc')).trans (if_neg fun h => Bool.false_ne_true (h.symm.trans hexpert))) rfl (State.rd_wr_obj _ _ (by decide))
  exact ⟨u, hu, hdone, (hrd _ (by decide)).trans (State.rd_wr_same _ o1100_KEY_ROLES slot v)⟩

end

/-! Partitions. -/

/-- A staged row as in force. -/
def State.rowDiscarded (s : State) (r : Nat) : State :=
  (((s.wr o1211_PART_CLASS r (s.rd o1212_PART_IN_FORCE_CLASS r)).wr o1211_PART_FIRST r (s.rd o1212_PART_IN_FORCE_FIRST r)).wr o1211_PART_LAST r (s.rd o1212_PART_IN_FORCE_LAST r)).wr o1211_PART_OWNER r
    (s.rd o1212_PART_IN_FORCE_OWNER r)

/-- The objects of a staged row, and those in force. -/
def stagedObjects : List Nat := [o1211_PART_CLASS, o1211_PART_FIRST, o1211_PART_LAST, o1211_PART_OWNER]

/-- A staged row reads as the row in force. -/
def State.asInForce (s : State) (r : Nat) : Prop :=
  s.rd o1211_PART_CLASS r = s.rd o1212_PART_IN_FORCE_CLASS r ∧ s.rd o1211_PART_FIRST r = s.rd o1212_PART_IN_FORCE_FIRST r ∧ s.rd o1211_PART_LAST r = s.rd o1212_PART_IN_FORCE_LAST r ∧
    s.rd o1211_PART_OWNER r = s.rd o1212_PART_IN_FORCE_OWNER r

theorem rowDiscarded_rd (s : State) (r : Nat) {o q : Nat} (h : o ∉ stagedObjects ∨ q ≠ r) : (s.rowDiscarded r).rd o q = s.rd o q := by
  have hne : ∀ o' ∈ stagedObjects, (o, q) ≠ (o', r) := fun o' ho' he => by
    obtain ⟨rfl, rfl⟩ := Prod.mk.inj he
    exact h.elim (fun hn => hn ho') fun hn => hn rfl
  unfold State.rowDiscarded
  rw [State.rd_wr_ne _ _ (hne _ (by decide)), State.rd_wr_ne _ _ (hne _ (by decide)), State.rd_wr_ne _ _ (hne _ (by decide)), State.rd_wr_ne _ _ (hne _ (by decide))]

theorem rowDiscarded_asInForce (s : State) (r q : Nat) (h : q = r ∨ s.asInForce q) : (s.rowDiscarded r).asInForce q := by
  by_cases hq : q = r
  · subst hq
    unfold State.asInForce State.rowDiscarded
    simp (disch := decide) only [State.rd_wr_obj, State.rd_wr_same, and_self]
  · obtain ⟨hclass, hfirst, hlast, howner⟩ := h.resolve_left hq
    unfold State.asInForce
    simp only [rowDiscarded_rd s r (.inr hq)]
    exact ⟨hclass, hfirst, hlast, howner⟩

theorem foldl_rowDiscarded_asInForce (q : Nat) (l : List Nat) : ∀ {s : State}, q ∈ l ∨ s.asInForce q → (l.foldl State.rowDiscarded s).asInForce q := by
  induction l with
  | nil => exact fun h => h.resolve_left List.not_mem_nil
  | cons r l ih =>
    intro s h
    refine ih ?_
    rcases h with h | h
    · rcases List.mem_cons.mp h with h | h
      · exact .inr (rowDiscarded_asInForce s r q (.inl h))
      · exact .inl h
    · exact .inr (rowDiscarded_asInForce s r q (.inr h))

theorem partitionDiscard_inForce (s : State) {o : Nat} (r : Nat) (h : o ∉ stagedObjects) : s.partitionDiscard.rd o r = s.rd o r :=
  foldl_blind (f := (·.rd o r)) (g := State.rowDiscarded) (fun s q => rowDiscarded_rd s q (.inl h)) mapRows s

theorem partitionDiscard_ctl (s : State) : s.partitionDiscard.ctl = s.ctl := foldl_blind (f := State.ctl) (g := State.rowDiscarded) (fun _ _ => rfl) mapRows s

theorem partitionDiscard_asInForce (s : State) {r : Nat} (h : r ∈ mapRows) : s.partitionDiscard.asInForce r := foldl_rowDiscarded_asInForce r mapRows (.inl h)

theorem writePartitionCmd_apply (s : State) (c : Ctx) (r : Nat) : writePartitionCmd c r (.int PARTITION_CMD.apply) s = s.partitionApply := by
  unfold writePartitionCmd onInt
  dsimp only
  rw [if_pos rfl]

theorem writePartitionCmd_discard (s : State) (c : Ctx) (r : Nat) : writePartitionCmd c r (.int PARTITION_CMD.discard) s = (stOK, s.partitionDiscard.wr o1210_PARTITION_RESULT 0 0) := by
  unfold writePartitionCmd onInt
  dsimp only
  rw [if_neg (by decide)]

/-- A row of a map put in force. -/
def State.rowForced (s : State) (x : Nat × Int × Int × Int × Int) : State :=
  (((s.wr o1212_PART_IN_FORCE_CLASS x.1 x.2.1).wr o1212_PART_IN_FORCE_FIRST x.1 x.2.2.1).wr o1212_PART_IN_FORCE_LAST x.1 x.2.2.2.1).wr o1212_PART_IN_FORCE_OWNER x.1 x.2.2.2.2

theorem putMap_eq (s : State) (m : List (Int × Int × Int × Int)) (owner : Nat) : s.putMap m owner = (mapRows.zip m).foldl State.rowForced { s with ctl := { s.ctl with deviceOwner := owner } } := rfl

/-- The map in force is a matter of the registers and the control block alone. -/
theorem foldl_rowForced_files (l : List (Nat × Int × Int × Int × Int)) : ∀ {s u : State}, s.regs = u.regs → s.ctl = u.ctl →
    (l.foldl State.rowForced s).regs = (l.foldl State.rowForced u).regs ∧ (l.foldl State.rowForced s).ctl = (l.foldl State.rowForced u).ctl := by
  induction l with
  | nil => exact fun hr hc => ⟨hr, hc⟩
  | cons x l ih => exact fun hr hc => ih (wr_regs_congr (wr_regs_congr (wr_regs_congr (wr_regs_congr hr _ _ _) _ _ _) _ _ _) _ _ _) hc

theorem afvWhole_files (x s : State) (r base count : Nat) : x.afvWhole r base count = ({ s with regs := x.regs, ctl := x.ctl } : State).afvWhole r base count := rfl

theorem begin_afvHolds (s : State) (t : Nat) (m : List (Int × Int × Int × Int)) (owner : Nat) : (s.begin t).afvHolds m owner = s.afvHolds m owner := by
  obtain ⟨hregs, hctl⟩ := foldl_rowForced_files (mapRows.zip m) (s := { s.begin t with ctl := { s.ctl with deviceOwner := owner } }) (u := { s with ctl := { s.ctl with deviceOwner := owner } }) rfl rfl
  have hwhole : ∀ r base count, ((s.begin t).putMap m owner).afvWhole r base count = (s.putMap m owner).afvWhole r base count := fun r base count => by
    rw [putMap_eq, putMap_eq, afvWhole_files _ s, afvWhole_files (List.foldl _ _ _) s]
    exact congrArg₂ (fun a b => ({ s with regs := a, ctl := b } : State).afvWhole r base count) hregs hctl
  unfold State.afvHolds
  dsimp only
  simp only [hwhole]
  rfl

theorem begin_stagedMap (s : State) (t : Nat) : (s.begin t).stagedMap = s.stagedMap := rfl

/-- A map taken for the end of the control cycle. -/
def State.mapTaken (s : State) : State :=
  { ((s.wr o1210_PARTITION_RESULT 0 0).wr o1210_PARTITION_ERROR_ROW 0 255) with ctl := { s.ctl with applyMap := some (s.stagedMap, s.rdN o1210_DEVICE_OWNER 0) } }

theorem partitionApply_taken {s : State} (hm : mapFault s.stagedMap = none) (hafv : s.afvHolds s.stagedMap (s.rdN o1210_DEVICE_OWNER 0) = true) : s.partitionApply = (stOK, s.mapTaken) := by
  unfold State.partitionApply
  dsimp only
  rw [hm]
  exact if_neg fun h => Bool.false_ne_true (h.symm.trans hafv)

theorem partitionApply_fault {s : State} {i : Nat} (hm : mapFault s.stagedMap = some i) :
    s.partitionApply = (0x0901, (s.wr o1210_PARTITION_RESULT 0 0x0901).wr o1210_PARTITION_ERROR_ROW 0 i) := by
  unfold State.partitionApply
  dsimp only
  rw [hm]

theorem mapTaken_result (s : State) : s.mapTaken.rd o1210_PARTITION_RESULT 0 = 0 := by
  show ((s.wr o1210_PARTITION_RESULT 0 0).wr o1210_PARTITION_ERROR_ROW 0 255).rd o1210_PARTITION_RESULT 0 = 0
  rw [State.rd_wr_obj _ _ (by decide), State.rd_wr_same]

section
variable {s : State} {t port : Nat} (hp : s.powered = true)
include hp

section
variable (ha : s.admits port o1210_PARTITION_CMD 0 (.int PARTITION_CMD.apply) = true)
include ha

theorem partitionApply_takes (hm : mapFault s.stagedMap = none) (hafv : s.afvHolds s.stagedMap (s.rdN o1210_DEVICE_OWNER 0) = true) :
    ∃ u, exec (.partitionApply t port) s = .next u ∧ u.last = ⟨0, none⟩ ∧ u.rd o1210_PARTITION_RESULT 0 = 0 ∧ u.ctl.applyMap = some (s.stagedMap, s.rdN o1210_DEVICE_OWNER 0) := by
  obtain ⟨e, he, hacc⟩ := run_accepted_row (t := t) (h := writePartitionCmd) (by decide) hp ha (fun c _ => (writePartitionCmd_apply (s.begin t) c 0).trans (partitionApply_taken (s := s.begin t) hm ((begin_afvHolds s t _ _).trans hafv))) rfl
  exact ⟨_, he, hacc.last, (hacc.rd _ _ (by decide)).trans (mapTaken_result (s.begin t)), rfl⟩

theorem partitionApply_faulty {i : Nat} (hm : mapFault s.stagedMap = some i) :
    ∃ u, exec (.partitionApply t port) s = .next u ∧ u.last = ⟨0x0901, none⟩ ∧ u.rd o1210_PARTITION_RESULT 0 = 0x0901 ∧ u.rd o1210_PARTITION_ERROR_ROW 0 = i ∧ u.ctl.applyMap = s.ctl.applyMap := by
  refine ⟨_, run_refused_to (t := t) (h := writePartitionCmd) (by decide) hp ha (fun c _ => (writePartitionCmd_apply (s.begin t) c 0).trans (partitionApply_fault hm)) (by decide) rfl (noteRefusal_low _ _ _ (by decide)), rfl, ?_, ?_, rfl⟩
  · exact (refused_rd _ _ _ _ _).trans ((State.rd_wr_obj _ _ (by decide)).trans ((s.begin t).rd_wr_same o1210_PARTITION_RESULT 0 0x0901))
  · exact (refused_rd _ _ _ _ _).trans (State.rd_wr_same _ o1210_PARTITION_ERROR_ROW 0 i)

end

theorem partitionDiscard_copies (ha : s.admits port o1210_PARTITION_CMD 0 (.int PARTITION_CMD.discard) = true) :
    ∃ u, exec (.partitionDiscard t port) s = .next u ∧ u.last = ⟨0, none⟩ ∧ ∀ r < 64, u.rd o1211_PART_CLASS r = s.rd o1212_PART_IN_FORCE_CLASS r ∧
      u.rd o1211_PART_FIRST r = s.rd o1212_PART_IN_FORCE_FIRST r ∧ u.rd o1211_PART_LAST r = s.rd o1212_PART_IN_FORCE_LAST r ∧ u.rd o1211_PART_OWNER r = s.rd o1212_PART_IN_FORCE_OWNER r := by
  obtain ⟨e, he, hacc⟩ := run_accepted_row (t := t) (h := writePartitionCmd) (by decide) hp ha (fun c _ => writePartitionCmd_discard (s.begin t) c 0)
    (congrArg Ctl.endAfter ((State.wr_ctl _ _ _ _).trans (partitionDiscard_ctl (s.begin t))))
  refine ⟨_, he, hacc.last, fun r hr => ?_⟩
  obtain ⟨hclass, hfirst, hlast, howner⟩ : (s.begin t).partitionDiscard.asInForce r := partitionDiscard_asInForce (s.begin t) (List.mem_range.mpr hr)
  have hread : ∀ o o', o ∉ writeSideObjects → o ≠ o1210_PARTITION_RESULT → o' ∉ stagedObjects → (s.begin t).partitionDiscard.rd o r = (s.begin t).partitionDiscard.rd o' r →
      ((((s.begin t).partitionDiscard).wr o1210_PARTITION_RESULT 0 0).endOf e).rd o r = s.rd o' r := fun o o' hw hres hst h =>
    (hacc.rd o r hw).trans ((State.rd_wr_obj _ _ hres).trans (h.trans (partitionDiscard_inForce (s.begin t) r hst)))
  exact ⟨hread _ _ (by decide) (by decide) (by decide) hclass, hread _ _ (by decide) (by decide) (by decide) hfirst, hread _ _ (by decide) (by decide) (by decide) hlast,
    hread _ _ (by decide) (by decide) (by decide) howner⟩

end

/-- Settles O43. -/
theorem keysAndPartitionsAreSet : Obligations.KeysAndPartitionsAreSet :=
  ⟨fun _ _ _ _ _ hp _ hj hne hv hr => ⟨fun _ _ => keyWrapped_stores hp hj hne hv hr, keyErase_empties hp hj hne hv hr, fun _ => keyPorts_held hp hj hv hr,
    fun _ _ => keyRoles_held hp hj hne hv hr⟩,
   fun _ _ _ hp => ⟨fun ha => ⟨partitionApply_takes hp ha, fun _ => partitionApply_faulty hp ha⟩, partitionDiscard_copies hp⟩⟩

end Sys2Proof.Machine
end

section
/-! SUPPORT. The configuration store: save, revert, factory, import and the transfer of an image (R404-R406). -/

namespace Sys2Proof.Machine
open Sys2Proof

/-! A slot written. -/

/-- A slot's bytes, before its objects follow them. -/
def State.slotPut (s : State) (k : Nat) (b : Bytes) : State := { s with ctl := { s.ctl with cfgSlots := storePut natLt k b s.ctl.cfgSlots } }

theorem putCfgSlot_see {α : Type} {f : State → α} (hf : Blind cfgSlotMarks f) (s : State) (k : Nat) (b : Bytes) : f (s.putCfgSlot k b) = f (s.slotPut k b) :=
  hf.noteCfgSlot (List.Subset.refl _) (s.slotPut k b) k

theorem putCfgSlot_ctl (s : State) (k : Nat) (b : Bytes) : (s.putCfgSlot k b).ctl = (s.slotPut k b).ctl := putCfgSlot_see (blind_ctl (by decide)) s k b

theorem putCfgSlot_rd (s : State) (k : Nat) (b : Bytes) {o : Nat} (r : Nat) (h : .obj o ∉ cfgSlotMarks) : (s.putCfgSlot k b).rd o r = s.rd o r := putCfgSlot_see (blind_rd h r (.inl rfl)) s k b

theorem cfgSlot_congr {s u : State} (h : u.ctl = s.ctl) (k : Nat) : u.cfgSlot k = s.cfgSlot k := by
  unfold State.cfgSlot
  rw [h]

theorem slotPut_same (s : State) (k : Nat) (b : Bytes) : (s.slotPut k b).cfgSlot k = some b := storeGet_put_same natLt k b s.ctl.cfgSlots

theorem slotPut_ne (s : State) {k j : Nat} (h : j ≠ k) (b : Bytes) : (s.slotPut k b).cfgSlot j = s.cfgSlot j := storeGet_put_ne natLt h b s.ctl.cfgSlots

/-! The end of a save or an import (R405, R406). -/

/-- The save is over. -/
def State.saveOver (s : State) : State := { s.wr o1200_CONFIG_STATE 0 CONFIG_STATE.idle with ctl := { s.ctl with save := none } }

/-- A save that has failed. -/
def State.saveFailed (s : State) (k : Nat) : State := ((s.saveOver.putCfgSlot k []).cfgResult 0x0905).raise .CFG_SAVE_FAILED noInst

/-- The image of a save in its slot, named and counted. -/
def State.saveNamed (s : State) (v : Save) : State :=
  ((s.saveOver.putCfgSlot v.target (cfgImage v.generation (s.rdN o1000_FW_RELEASE_NUM 0) v.time v.records)).wr o1200_CONFIG_SLOT 0 (v.target + 1 : Nat)).bump o1200_SAVES 0

/-- A save that has succeeded. -/
def State.saveKept (s : State) (v : Save) : State :=
  let s := ((s.saveNamed v).clear .CFG_SAVE_FAILED noInst).clear .CFG_RECORDS_SKIPPED noInst
  if v.dirtyAfter then s else (s.setFactory false).wr o1200_RUNNING_DIRTY 0 0

theorem saveOver_rd (s : State) {o : Nat} (r : Nat) (h : o ≠ o1200_CONFIG_STATE) : s.saveOver.rd o r = s.rd o r := by
  show (s.wr o1200_CONFIG_STATE 0 CONFIG_STATE.idle).rd o r = s.rd o r
  exact s.rd_wr_obj _ h

section
variable {s : State} {v : Save} (hv : s.ctl.save = some v) (hs : s.rd o1200_CONFIG_STATE 0 = CONFIG_STATE.saving)
include hv hs

theorem saveDone_kept (hi : v.imported = none) : s.saveDone false true = s.saveKept v := by
  have hrel : s.saveOver.rdN o1000_FW_RELEASE_NUM 0 = s.rdN o1000_FW_RELEASE_NUM 0 := congrArg Int.toNat (saveOver_rd s 0 (by decide))
  unfold State.saveDone
  rw [hv]
  dsimp only
  rw [if_neg (by rw [hs, hi]; decide), if_neg (by decide), hi]
  dsimp only
  unfold State.saveKept State.saveNamed
  rw [← hrel]
  rfl

theorem saveDone_failed (hi : v.imported = none) : s.saveDone false false = s.saveFailed v.target := by
  unfold State.saveDone
  rw [hv]
  dsimp only
  rw [if_neg (by rw [hs, hi]; decide), if_pos rfl]
  rfl

theorem saveDone_imported {b : Bytes} (hi : v.imported = some b) : s.saveDone true true = s.saveOver.putCfgSlot v.target b := by
  unfold State.saveDone
  rw [hv]
  dsimp only
  rw [if_neg (by rw [hs, hi]; simp), if_neg (by decide), hi]
  rfl

end

/-- What the end of a save touches after its image is named. -/
def keptMarks : List Mark := [.alarm .CFG_SAVE_FAILED, .alarm .CFG_RECORDS_SKIPPED, .alarm .CFG_FACTORY_DEFAULTS, .obj o1200_FACTORY_FLAG, .obj o1200_RUNNING_DIRTY]

theorem Blind.setFactory {M : List Mark} {α : Type} {f : State → α} (hf : Blind M f) (h : [.alarm .CFG_FACTORY_DEFAULTS, .obj o1200_FACTORY_FLAG] ⊆ M) (s : State) (on : Bool) : f (s.setFactory on) = f s :=
  (hf.alarmWhile (h (by decide)) _ _ _).trans (hf.wr (h (by decide)) _ _ _)

theorem saveKept_see {α : Type} {f : State → α} (hf : Blind keptMarks f) (s : State) (v : Save) : f (s.saveKept v) = f (s.saveNamed v) := by
  have hclear : f (((s.saveNamed v).clear .CFG_SAVE_FAILED noInst).clear .CFG_RECORDS_SKIPPED noInst) = f (s.saveNamed v) := (hf.clear (by decide) _ _).trans (hf.clear (by decide) _ _)
  unfold State.saveKept
  dsimp only
  split
  · exact hclear
  · exact (hf.wr (by decide) _ _ _).trans ((hf.setFactory (by decide) _ _).trans hclear)

theorem saveKept_dirty (s : State) {v : Save} (h : v.dirtyAfter = false) : (s.saveKept v).rd o1200_RUNNING_DIRTY 0 = 0 := by
  unfold State.saveKept
  dsimp only
  rw [if_neg (by rw [h]; exact Bool.false_ne_true)]
  exact State.rd_wr_same _ _ _ _

theorem saveNamed_rd (s : State) (v : Save) : (s.saveNamed v).rd o1200_CONFIG_STATE 0 = CONFIG_STATE.idle ∧ (s.saveNamed v).rd o1200_CONFIG_SLOT 0 = (v.target + 1 : Nat) ∧
    (s.saveNamed v).rd o1200_SAVES 0 = (s.rd o1200_SAVES 0 + 1) % objModulus o1200_SAVES := by
  refine ⟨?_, (rd_bump_obj _ (by decide) _ _).trans (State.rd_wr_same _ _ _ _), ?_⟩
  · exact (rd_bump_obj _ (by decide) _ _).trans ((State.rd_wr_obj _ _ (by decide)).trans ((putCfgSlot_rd _ _ _ _ (by decide)).trans (s.rd_wr_same o1200_CONFIG_STATE 0 CONFIG_STATE.idle)))
  · refine (rd_bump_same _ _ _).trans ?_
    rw [State.rd_wr_obj _ _ (by decide), putCfgSlot_rd _ _ _ _ (by decide), saveOver_rd _ _ (by decide)]

theorem saveNamed_ctl (s : State) (v : Save) : (s.saveNamed v).ctl = (s.saveOver.slotPut v.target (cfgImage v.generation (s.rdN o1000_FW_RELEASE_NUM 0) v.time v.records)).ctl := putCfgSlot_ctl _ _ _

theorem saveFailed_see {α : Type} {f : State → α} (hf : Blind [.alarm .CFG_SAVE_FAILED] f) (s : State) (k : Nat) : f (s.saveFailed k) = f ((s.saveOver.putCfgSlot k []).cfgResult 0x0905) :=
  hf.raise (List.mem_singleton_self _) _ _

theorem saveFailed_rd (s : State) (k : Nat) : (s.saveFailed k).rd o1200_CONFIG_STATE 0 = CONFIG_STATE.idle ∧ (s.saveFailed k).rd o1200_CONFIG_RESULT 0 = 0x0905 ∧
    (s.saveFailed k).rd o1200_CONFIG_SLOT 0 = s.rd o1200_CONFIG_SLOT 0 := by
  refine ⟨?_, ?_, ?_⟩
  · exact (saveFailed_see (blind_rd (by decide) 0) s k).trans ((State.rd_wr_obj _ _ (by decide)).trans ((putCfgSlot_rd _ _ _ _ (by decide)).trans (s.rd_wr_same o1200_CONFIG_STATE 0 CONFIG_STATE.idle)))
  · exact (saveFailed_see (blind_rd (by decide) 0) s k).trans (State.rd_wr_same _ o1200_CONFIG_RESULT 0 _)
  · exact (saveFailed_see (blind_rd (by decide) 0) s k).trans ((State.rd_wr_obj _ _ (by decide)).trans ((putCfgSlot_rd _ _ _ _ (by decide)).trans (saveOver_rd _ _ (by decide))))

theorem saveFailed_ctl (s : State) (k : Nat) : (s.saveFailed k).ctl = (s.saveOver.slotPut k []).ctl := (saveFailed_see (blind_ctl (by decide)) s k).trans (putCfgSlot_ctl _ _ _)

theorem finish_cfgSlot (s w : State) (k : Nat) : (s.finish w).cfgSlot k = w.cfgSlot k := rfl

section
variable {s : State} {t port : Nat} (hp : s.powered = true)
include hp

theorem configSave_starts (ha : s.admits port o1200_CONFIG_CMD 0 (.int CONFIG_CMD.save) = true) (hi : s.rd o1200_CONFIG_STATE 0 = CONFIG_STATE.idle) (hpol : s.policyConfig = false)
    (hd : s.pwr.dipFrom = none) : ∃ u, exec (.configSave t port) s = .next u ∧ u.last = ⟨0, none⟩ ∧ u.rd o1200_CONFIG_STATE 0 = CONFIG_STATE.saving ∧ u.rd o1200_CONFIG_RESULT 0 = 0 ∧
      u.ctl.snapshotDue = true := by
  have hnodip : ¬ (s.begin t).pwr.dipFrom.isSome = true := fun h => Bool.false_ne_true ((congrArg Option.isSome hd).symm.trans h)
  have hstart : (s.begin t).startSave .save = ((s.begin t).cfgResult 0).wr o1200_CONFIG_STATE 0 CONFIG_STATE.saving := by
    unfold State.startSave
    rw [if_neg hnodip]
    exact if_neg hnodip
  have hk : ∀ c : Ctx, writeConfigCmd c 0 (.int CONFIG_CMD.save) (s.begin t) =
      (stOK, { ((s.begin t).cfgResult 0).wr o1200_CONFIG_STATE 0 CONFIG_STATE.saving with ctl := { s.ctl with snapshotDue := true } }) := fun c => by
    unfold writeConfigCmd onInt
    dsimp only
    rw [if_neg fun h => h.1 rfl, if_neg fun h => h hi, if_pos rfl, if_neg (by rw [show (s.begin t).policyConfig = false from hpol]; exact Bool.false_ne_true), hstart]
    rfl
  obtain ⟨e, he, hacc⟩ := run_accepted_row (t := t) (h := writeConfigCmd) (by decide) hp ha (fun c _ => hk c) rfl
  refine ⟨_, he, hacc.last, (hacc.rd _ _ (by decide)).trans (State.rd_wr_same _ o1200_CONFIG_STATE 0 CONFIG_STATE.saving), (hacc.rd _ _ (by decide)).trans ?_, rfl⟩
  show (((s.begin t).cfgResult 0).wr o1200_CONFIG_STATE 0 CONFIG_STATE.saving).rd o1200_CONFIG_RESULT 0 = 0
  exact (State.rd_wr_obj _ _ (by decide)).trans ((s.begin t).rd_wr_same o1200_CONFIG_RESULT 0 _)

theorem configSaveComplete_keeps {v : Save} (hv : s.ctl.save = some v) (hi : v.imported = none) (hs : s.rd o1200_CONFIG_STATE 0 = CONFIG_STATE.saving) :
    ∃ u, exec (.configSaveComplete t true) s = .next u ∧ u.rd o1200_CONFIG_STATE 0 = CONFIG_STATE.idle ∧
      u.cfgSlot v.target = some (cfgImage v.generation (s.rdN o1000_FW_RELEASE_NUM 0) v.time v.records) ∧ u.rd o1200_CONFIG_SLOT 0 = (v.target + 1 : Nat) ∧
      u.rd o1200_SAVES 0 = (s.rd o1200_SAVES 0 + 1) % objModulus o1200_SAVES ∧ u.ctl.save = none ∧ (v.dirtyAfter = false → u.rd o1200_RUNNING_DIRTY 0 = 0) := by
  have hwork : (s.begin t).saveDone false true = (s.begin t).saveKept v := saveDone_kept (s := s.begin t) hv hs hi
  obtain ⟨hstate, hslot, hsaves⟩ := saveNamed_rd (s.begin t) v
  have hctl := (saveKept_see (blind_ctl (by decide)) (s.begin t) v).trans (saveNamed_ctl (s.begin t) v)
  have hsee : ∀ {o x}, .obj o ∉ keptMarks → o ∉ alarmSideObjects → ((s.begin t).saveNamed v).rd o 0 = x → ((s.begin t).saveKept v).rd o 0 = x := fun ho ha hx =>
    (saveKept_see (blind_rd ho 0 (.inr ha)) _ _).trans hx
  have hstate' := hsee (by decide) (by decide) hstate
  have hslot' := hsee (by decide) (by decide) hslot
  have hsaves' := hsee (by decide) (by decide) hsaves
  have hdirty := fun h => saveKept_dirty (s.begin t) (v := v) h
  generalize (s.begin t).saveKept v = w at hwork hctl hstate' hslot' hsaves' hdirty
  have himage : w.cfgSlot v.target = some (cfgImage v.generation (s.rdN o1000_FW_RELEASE_NUM 0) v.time v.records) := (cfgSlot_congr hctl _).trans (slotPut_same _ _ _)
  exact ⟨_, run_work (t := t) (f := (·.saveDone false true)) hp hwork, hstate', himage, hslot', hsaves', congrArg Ctl.save hctl, hdirty⟩

theorem configSaveComplete_fails {v : Save} (hv : s.ctl.save = some v) (hi : v.imported = none) (hs : s.rd o1200_CONFIG_STATE 0 = CONFIG_STATE.saving) :
    ∃ u, exec (.configSaveComplete t false) s = .next u ∧ u.rd o1200_CONFIG_STATE 0 = CONFIG_STATE.idle ∧ u.rd o1200_CONFIG_RESULT 0 = 0x0905 ∧ u.ctl.save = none ∧
      u.rd o1200_CONFIG_SLOT 0 = s.rd o1200_CONFIG_SLOT 0 ∧ ∀ k, k ≠ v.target → u.cfgSlot k = s.cfgSlot k := by
  have hwork : (s.begin t).saveDone false false = (s.begin t).saveFailed v.target := saveDone_failed (s := s.begin t) hv hs hi
  obtain ⟨hstate, hresult, hslot⟩ := saveFailed_rd (s.begin t) v.target
  have hctl := saveFailed_ctl (s.begin t) v.target
  generalize (s.begin t).saveFailed v.target = w at hwork hstate hresult hslot hctl
  exact ⟨_, run_work (t := t) (f := (·.saveDone false false)) hp hwork, hstate, hresult, congrArg Ctl.save hctl, hslot,
    fun k hk => (finish_cfgSlot _ _ _).trans ((cfgSlot_congr hctl k).trans (slotPut_ne (s.begin t).saveOver hk []))⟩

end

/-- Settles O44. -/
theorem configurationIsSaved : Obligations.ConfigurationIsSaved := fun _ _ _ hp => ⟨configSave_starts hp, fun _ hv hi hs => ⟨configSaveComplete_keeps hp hv hi hs, configSaveComplete_fails hp hv hi hs⟩⟩

end Sys2Proof.Machine
end

section
/-! SUPPORT. Configurations that are replaced, and the transfer of an image (R404, R406). -/

namespace Sys2Proof.Machine
open Sys2Proof

/-- A reading that sees no end of a session does not see those that follow a response. -/
theorem flushEnds_blind {α : Type} {f : State → α} (h : ∀ s p r, f (State.endSession s p r) = f s) (hctl : ∀ (s : State) (l : List (Nat × Int)), f { s with ctl := { s.ctl with endAfter := l } } = f s)
    (s : State) (port : Nat) : f (s.flushEnds port) = f s :=
  (foldl_blind (g := fun s (e : Nat × Int) => State.endSession s e.1 e.2) (fun s e => h s e.1 e.2) _ _).trans (hctl s _)

theorem flushEnds_rd (s : State) (port : Nat) {o : Nat} (r : Nat) (h : .obj o ∉ endMarks) (hp : perSession o = false) : (s.flushEnds port).rd o r = s.rd o r :=
  flushEnds_blind (f := (·.rd o r)) (fun s p x => endSession_rd_other s p x r h hp) (fun _ _ => rfl) s port

theorem flushEnds_last (s : State) (port : Nat) : (s.flushEnds port).last = s.last := flushEnds_blind (f := State.last) endSession_last (fun _ _ => rfl) s port

theorem flushEnds_owner (s : State) (port : Nat) : (s.flushEnds port).ctl.deviceOwner = s.ctl.deviceOwner :=
  flushEnds_blind (f := (·.ctl.deviceOwner)) (((blind_ctl (M := endMarks) (by decide)).comp Ctl.deviceOwner).endSession (List.Subset.refl _) (fun _ _ _ => rfl) fun _ _ => rfl) (fun _ _ => rfl) s port

/-! Revert and factory. -/

/-- The records of a slot in force, named. -/
def State.slotNamed (s : State) (k : Nat) : State := (((s.wr o1200_CONFIG_SLOT 0 (k + 1 : Nat)).wr o1200_RUNNING_DIRTY 0 0).setFactory false).cfgResult 0

/-- Factory defaults in force, once their records are loaded. -/
def State.factoryNamed (s : State) : State := (((s.putMap (mapRows.map fun _ => (0, 0, 0, 0)) 0).setFactory true).wr o1200_RUNNING_DIRTY 0 1).cfgResult 0

theorem setFactory_flag (s : State) (on : Bool) : (s.setFactory on).rd o1200_FACTORY_FLAG 0 = boolVal on := ((alarmBlind_rd 0 (by decide)).alarmWhile _ _ _ _).trans (State.rd_wr_same _ _ _ _)

theorem slotNamed_rd (s : State) (k : Nat) : (s.slotNamed k).rd o1200_CONFIG_SLOT 0 = (k + 1 : Nat) ∧ (s.slotNamed k).rd o1200_RUNNING_DIRTY 0 = 0 ∧ (s.slotNamed k).rd o1200_FACTORY_FLAG 0 = 0 ∧
    (s.slotNamed k).rd o1200_CONFIG_RESULT 0 = 0 := by
  have hfactory : ∀ (s : State) {o : Nat}, o ≠ o1200_FACTORY_FLAG → o ∉ alarmSideObjects → (s.setFactory false).rd o 0 = s.rd o 0 := fun s o ho ha =>
    (blind_rd (M := [.alarm .CFG_FACTORY_DEFAULTS, .obj o1200_FACTORY_FLAG]) (by simpa using ho) 0 (.inr ha)).setFactory (List.Subset.refl _) s false
  have hresult : ∀ (s : State) {o : Nat}, o ≠ o1200_CONFIG_RESULT → (s.cfgResult 0).rd o 0 = s.rd o 0 := fun s _ ho => s.rd_wr_obj _ ho
  refine ⟨?_, ?_, (hresult _ (by decide)).trans (setFactory_flag _ _), State.rd_wr_same _ _ _ _⟩
  · exact (hresult _ (by decide)).trans ((hfactory _ (by decide) (by decide)).trans ((State.rd_wr_obj _ _ (by decide)).trans (State.rd_wr_same _ _ _ _)))
  · exact (hresult _ (by decide)).trans ((hfactory _ (by decide) (by decide)).trans (State.rd_wr_same _ _ _ _))

theorem putMap_ctl (s : State) (m : List (Int × Int × Int × Int)) (owner : Nat) : (s.putMap m owner).ctl = { s.ctl with deviceOwner := owner } :=
  foldl_blind (f := State.ctl) (g := State.rowForced) (fun _ _ => rfl) (mapRows.zip m) { s with ctl := { s.ctl with deviceOwner := owner } }

theorem factoryNamed_rd (s : State) : s.factoryNamed.rd o1200_FACTORY_FLAG 0 = 1 ∧ s.factoryNamed.rd o1200_CONFIG_RESULT 0 = 0 ∧ s.factoryNamed.ctl.deviceOwner = 0 := by
  refine ⟨?_, State.rd_wr_same _ _ _ _, ?_⟩
  · exact (State.rd_wr_obj _ _ (by decide)).trans ((State.rd_wr_obj _ _ (by decide)).trans (setFactory_flag _ _))
  · have hsee : ((s.putMap (mapRows.map fun _ => (0, 0, 0, 0)) 0).setFactory true).ctl = (s.putMap (mapRows.map fun _ => (0, 0, 0, 0)) 0).ctl := (blind_ctl (by decide)).setFactory (List.Subset.refl _) _ true
    exact congrArg Ctl.deviceOwner (hsee.trans (putMap_ctl s _ 0))

theorem loadConfig_chosen {s : State} {k : Nat} (h : s.chooseSlot = some k) : s.loadConfig.cfgResult 0 = (s.loadRecords (cfgRecords ((s.cfgSlot k).getD []))).slotNamed k := by
  unfold State.loadConfig
  rw [h]
  rfl

/-! CONFIG_CMD. -/

section
variable {s : State} {c : Ctx} (hw : s.deviceWriter c = true) (hi : s.rd o1200_CONFIG_STATE 0 = CONFIG_STATE.idle) (r : Nat)
include hw hi

theorem writeConfigCmd_allowed {v : Int} : writeConfigCmd c r (.int v) s =
    if v = CONFIG_CMD.save then (if s.policyConfig then (0x0903, s.cfgResult 0x0903) else (stOK, { s.startSave .save with ctl := { s.ctl with snapshotDue := true } }))
    else if v = CONFIG_CMD.revert then (stOK, s.loadConfig.cfgResult 0)
    else if v = CONFIG_CMD.factory then (stOK, (s.factoryDefaults.wr o1200_RUNNING_DIRTY 0 1).cfgResult 0)
    else if s.cfgValid s.ctl.cfgBuffer then (stOK, { s.startSave .importCfg with ctl :=
      { s.ctl with save := some { target := s.saveTarget, generation := cfgGeneration s.ctl.cfgBuffer, records := [], imported := some s.ctl.cfgBuffer } } })
    else (0x0904, s.cfgResult 0x0904) :=
  (if_neg fun h => Bool.false_ne_true (h.2.symm.trans hw)).trans (if_neg fun h => h hi)

theorem writeConfigCmd_revert {k : Nat} (h : s.chooseSlot = some k) :
    writeConfigCmd c r (.int CONFIG_CMD.revert) s = (stOK, (s.loadRecords (cfgRecords ((s.cfgSlot k).getD []))).slotNamed k) := by
  rw [writeConfigCmd_allowed hw hi, if_neg (by decide), if_pos rfl, loadConfig_chosen h]

theorem writeConfigCmd_factory : writeConfigCmd c r (.int CONFIG_CMD.factory) s = (stOK, (s.loadRecords []).factoryNamed) := by
  rw [writeConfigCmd_allowed hw hi, if_neg (by decide), if_neg (by decide), if_pos rfl]
  rfl

end

/-- An import on its way. -/
def State.importBegun (s : State) : State := { ((s.cfgResult 0).wr o1200_CONFIG_STATE 0 CONFIG_STATE.saving) with ctl :=
  { s.ctl with save := some { target := s.saveTarget, generation := cfgGeneration s.ctl.cfgBuffer, records := [], imported := some s.ctl.cfgBuffer } } }

theorem importBegun_state (s : State) : s.importBegun.rd o1200_CONFIG_STATE 0 = CONFIG_STATE.saving := (s.cfgResult 0).rd_wr_same o1200_CONFIG_STATE 0 CONFIG_STATE.saving

theorem startSave_now {s : State} (w : FlashWrite) (h : s.pwr.dipFrom = none) : s.startSave w = (s.cfgResult 0).wr o1200_CONFIG_STATE 0 CONFIG_STATE.saving := by
  have hnodip : ¬ s.pwr.dipFrom.isSome = true := fun hn => Bool.false_ne_true ((congrArg Option.isSome h).symm.trans hn)
  unfold State.startSave
  rw [if_neg hnodip]
  exact if_neg hnodip

theorem writeConfigCmd_import {s : State} {c : Ctx} (hw : s.deviceWriter c = true) (hi : s.rd o1200_CONFIG_STATE 0 = CONFIG_STATE.idle) (r : Nat) (hv : s.cfgValid s.ctl.cfgBuffer = true)
    (hd : s.pwr.dipFrom = none) : writeConfigCmd c r (.int CONFIG_CMD.import) s = (stOK, s.importBegun) := by
  rw [writeConfigCmd_allowed hw hi, if_neg (by decide), if_neg (by decide), if_neg (by decide), if_pos hv, startSave_now _ hd]
  rfl

section
variable {s : State} {t port : Nat} {c : Ctx} (hp : s.powered = true)
include hp

section
variable (hc : s.ctxOf port = some c) (hw : s.deviceWriter c = true) (hi : s.rd o1200_CONFIG_STATE 0 = CONFIG_STATE.idle)
include hc hw hi

theorem configRevert_loads {k : Nat} (ha : s.admits port o1200_CONFIG_CMD 0 (.int CONFIG_CMD.revert) = true) (hk : s.chooseSlot = some k) :
    ∃ u, exec (.configRevert t port) s = .next u ∧ u.last = ⟨0, none⟩ ∧ u.rd o1200_CONFIG_SLOT 0 = (k + 1 : Nat) ∧ u.rd o1200_RUNNING_DIRTY 0 = 0 ∧ u.rd o1200_FACTORY_FLAG 0 = 0 ∧
      u.rd o1200_CONFIG_RESULT 0 = 0 := by
  have hwork : ∀ c', s.ctxOf port = some c' → c'.port = port → writeConfigCmd c' 0 (.int CONFIG_CMD.revert) (s.begin t) =
      (stOK, ((s.begin t).loadRecords (cfgRecords ((s.cfgSlot k).getD []))).slotNamed k) := fun c' hc' _ => by
    rw [Option.some.inj (hc'.symm.trans hc)]
    exact writeConfigCmd_revert (s := s.begin t) hw hi 0 hk
  obtain ⟨hslot, hdirty, hfactory, hresult⟩ := slotNamed_rd ((s.begin t).loadRecords (cfgRecords ((s.cfgSlot k).getD []))) k
  generalize ((s.begin t).loadRecords (cfgRecords ((s.cfgSlot k).getD []))).slotNamed k = w at hwork hslot hdirty hfactory hresult
  obtain ⟨y, hy, hcarried⟩ := run_flushing (t := t) (h := writeConfigCmd) (by decide) hp ha hwork
  have hsee : ∀ {o x}, .obj o ∉ endMarks → perSession o = false → y.rd o 0 = x → (y.flushEnds port).rd o 0 = x := fun ho hper hx => (flushEnds_rd y port 0 ho hper).trans hx
  exact ⟨_, hy, (flushEnds_last y port).trans hcarried.last, hsee (by decide) (by decide) ((hcarried.rd _ _ (by decide)).trans hslot),
    hsee (by decide) (by decide) ((hcarried.dirty (by decide) 0).trans hdirty), hsee (by decide) (by decide) ((hcarried.rd _ _ (by decide)).trans hfactory),
    hsee (by decide) (by decide) ((hcarried.rd _ _ (by decide)).trans hresult)⟩

theorem configFactory_resets (ha : s.admits port o1200_CONFIG_CMD 0 (.int CONFIG_CMD.factory) = true) : ∃ u, exec (.configFactory t port) s = .next u ∧ u.last = ⟨0, none⟩ ∧
    u.rd o1200_FACTORY_FLAG 0 = 1 ∧ u.ctl.deviceOwner = 0 ∧ u.rd o1200_CONFIG_RESULT 0 = 0 := by
  have hwork : ∀ c', s.ctxOf port = some c' → c'.port = port → writeConfigCmd c' 0 (.int CONFIG_CMD.factory) (s.begin t) = (stOK, ((s.begin t).loadRecords []).factoryNamed) := fun c' hc' _ => by
    rw [Option.some.inj (hc'.symm.trans hc)]
    exact writeConfigCmd_factory (s := s.begin t) hw hi 0
  obtain ⟨hfactory, hresult, howner⟩ := factoryNamed_rd ((s.begin t).loadRecords [])
  generalize ((s.begin t).loadRecords []).factoryNamed = w at hwork hfactory hresult howner
  obtain ⟨y, hy, hcarried⟩ := run_flushing (t := t) (h := writeConfigCmd) (by decide) hp ha hwork
  have hyowner : y.ctl.deviceOwner = 0 := (congrArg Ctl.deviceOwner hcarried.ctl).trans howner
  exact ⟨_, hy, (flushEnds_last y port).trans hcarried.last, (flushEnds_rd y port 0 (by decide) (by decide)).trans ((hcarried.rd _ _ (by decide)).trans hfactory),
    (flushEnds_owner y port).trans hyowner, (flushEnds_rd y port 0 (by decide) (by decide)).trans ((hcarried.rd _ _ (by decide)).trans hresult)⟩

theorem configImport_starts (ha : s.admits port o1200_CONFIG_CMD 0 (.int CONFIG_CMD.import) = true) (hv : s.cfgValid s.ctl.cfgBuffer = true) (hd : s.pwr.dipFrom = none) :
    ∃ u v, exec (.configImport t port) s = .next u ∧ u.last = ⟨0, none⟩ ∧ u.rd o1200_CONFIG_STATE 0 = CONFIG_STATE.saving ∧ u.ctl.save = some v ∧ v.imported = some s.ctl.cfgBuffer ∧
      v.target = s.saveTarget := by
  have hwork : ∀ c', s.ctxOf port = some c' → c'.port = port → writeConfigCmd c' (effRow c' o1200_CONFIG_CMD 0) (.int CONFIG_CMD.import) (s.begin t) = (stOK, (s.begin t).importBegun) := fun c' hc' _ => by
    rw [Option.some.inj (hc'.symm.trans hc)]
    exact writeConfigCmd_import (s := s.begin t) hw hi _ hv hd
  obtain ⟨e, he, hacc⟩ := run_accepted (t := t) (h := writeConfigCmd) hp ha hwork rfl
  exact ⟨_, _, he, hacc.last, (hacc.rd _ _ (by decide)).trans (importBegun_state (s.begin t)), hacc.save (by decide), rfl, rfl⟩

end

theorem configImportComplete_keeps {v : Save} {b : Bytes} (hv : s.ctl.save = some v) (hb : v.imported = some b) (hs : s.rd o1200_CONFIG_STATE 0 = CONFIG_STATE.saving) :
    ∃ u, exec (.configImportComplete t true) s = .next u ∧ u.rd o1200_CONFIG_STATE 0 = CONFIG_STATE.idle ∧ u.cfgSlot v.target = some b ∧
      u.rd o1200_CONFIG_SLOT 0 = s.rd o1200_CONFIG_SLOT 0 ∧ u.ctl.save = none := by
  have hwork : (s.begin t).saveDone true true = (s.begin t).saveOver.putCfgSlot v.target b := saveDone_imported (s := s.begin t) hv hs hb
  have hctl := putCfgSlot_ctl (s.begin t).saveOver v.target b
  have hstate : ((s.begin t).saveOver.putCfgSlot v.target b).rd o1200_CONFIG_STATE 0 = CONFIG_STATE.idle := (putCfgSlot_rd _ _ _ _ (by decide)).trans ((s.begin t).rd_wr_same o1200_CONFIG_STATE 0 CONFIG_STATE.idle)
  have hslot : ((s.begin t).saveOver.putCfgSlot v.target b).rd o1200_CONFIG_SLOT 0 = s.rd o1200_CONFIG_SLOT 0 := (putCfgSlot_rd _ _ _ _ (by decide)).trans (saveOver_rd _ _ (by decide))
  generalize (s.begin t).saveOver.putCfgSlot v.target b = w at hwork hctl hstate hslot
  exact ⟨_, run_work (t := t) (f := (·.saveDone true true)) hp hwork, hstate, (finish_cfgSlot _ _ _).trans ((cfgSlot_congr hctl _).trans (slotPut_same (s.begin t).saveOver v.target b)), hslot,
    congrArg Ctl.save hctl⟩

/-! The transfer of an image. -/

theorem cfgXferOpen_empties (ha : s.admits port o1202_CFG_XFER_CMD 0 (.int CFG_XFER_CMD.open) = true) : ∃ u, exec (.cfgXferOpen t port) s = .next u ∧ u.last = ⟨0, none⟩ ∧
    u.ctl.cfgOpen = true ∧ u.ctl.cfgBuffer = [] ∧ u.rd o1202_CFG_XFER_OFFSET 0 = 0 := by
  obtain ⟨e, he, hacc⟩ := run_accepted_row (t := t) (h := writeCfgXferCmd) (by decide) hp ha (fun _ _ => rfl) rfl
  exact ⟨_, he, hacc.last, rfl, rfl, (hacc.rd _ _ (by decide)).trans ((s.begin t).rd_wr_same o1202_CFG_XFER_OFFSET 0 0)⟩

theorem cfgXferDiscard_empties (ha : s.admits port o1202_CFG_XFER_CMD 0 (.int CFG_XFER_CMD.discard) = true) : ∃ u, exec (.cfgXferDiscard t port) s = .next u ∧ u.last = ⟨0, none⟩ ∧
    u.ctl.cfgOpen = false ∧ u.ctl.cfgBuffer = [] ∧ u.rd o1202_CFG_XFER_OFFSET 0 = 0 := by
  obtain ⟨e, he, hacc⟩ := run_accepted_row (t := t) (h := writeCfgXferCmd) (by decide) hp ha (fun _ _ => rfl) rfl
  exact ⟨_, he, hacc.last, rfl, rfl, (hacc.rd _ _ (by decide)).trans ((s.begin t).rd_wr_same o1202_CFG_XFER_OFFSET 0 0)⟩

section
variable {data : Bytes} (ha : s.admits port o1202_CFG_XFER_DATA 0 (.bytes data) = true) (ho : s.ctl.cfgOpen = true)
include ha ho

theorem cfgXferData_joins (hfit : s.rdN o1202_CFG_XFER_OFFSET 0 + data.length ≤ 8388608) : ∃ u, exec (.cfgXferData t port data) s = .next u ∧ u.last = ⟨0, none⟩ ∧
    u.ctl.cfgBuffer = overwrite (s.rdN o1202_CFG_XFER_OFFSET 0) data s.ctl.cfgBuffer ∧ u.rdN o1202_CFG_XFER_OFFSET 0 = s.rdN o1202_CFG_XFER_OFFSET 0 + data.length := by
  obtain ⟨e, he, hacc⟩ := run_accepted_row (t := t) (h := writeCfgXferData) (by decide) hp ha
    (fun _ _ => (if_neg fun h => Bool.false_ne_true (h.symm.trans ho)).trans (if_neg (Nat.not_lt_of_le hfit))) rfl
  exact ⟨_, he, hacc.last, rfl, (hacc.rdN _ (by decide)).trans (congrArg Int.toNat ((s.begin t).rd_wr_same o1202_CFG_XFER_OFFSET 0 _))⟩

theorem cfgXferData_beyond (hbeyond : 8388608 < s.rdN o1202_CFG_XFER_OFFSET 0 + data.length) : ∃ u, exec (.cfgXferData t port data) s = .next u ∧ u.last = ⟨stRANGE, none⟩ ∧ u.ctl = s.ctl :=
  ⟨_, run_refused_row (t := t) (h := writeCfgXferData) (by decide) hp ha (fun _ _ => (if_neg fun h => Bool.false_ne_true (h.symm.trans ho)).trans (if_pos hbeyond)) (by decide)
    (noteRefusal_low _ _ _ (by decide)), rfl, rfl⟩

end

end

/-- Settles O45. Who may replace a configuration, the empty start of a transfer and the RANGE beyond its end are the model's choices of log entries 105, 106 and 144. -/
theorem configurationsAreReplaced : Obligations.ConfigurationsAreReplaced :=
  ⟨fun _ _ _ _ hp hc hw hi => ⟨fun _ => configRevert_loads hp hc hw hi, configFactory_resets hp hc hw hi, configImport_starts hp hc hw hi, fun _ _ _ hp' => configImportComplete_keeps hp'⟩,
   fun _ _ _ hp => ⟨cfgXferOpen_empties hp, cfgXferDiscard_empties hp, fun _ ha ho => ⟨cfgXferData_joins hp ha ho, cfgXferData_beyond hp ha ho⟩⟩⟩

end Sys2Proof.Machine
end

section
/-! SUPPORT. The path latency query (R23, R221, R276). -/

namespace Sys2Proof.Machine
open Sys2Proof

variable {s : State} {t port : Nat}

/-- Without a session no read passes its checks but of the objects that need none (R387). -/
theorem checkRead_none {o : Nat} (r : Nat) (ho : openRead o = false) : s.checkRead none o r ≠ stOK := by
  have hopen : (if openRead o = true then stOK else stNO_SESSION) = stNO_SESSION := if_neg (by simp [ho])
  unfold State.checkRead
  split
  · decide
  · dsimp only
    rw [hopen]
    split
    · decide
    split <;> decide

/-- A query at its instant: the checks of a READ and its answer. -/
def State.readQuery (s : State) (port o : Nat) : State :=
  let (k, v, s') := s.tryRead (s.ctxOf port) o 0
  if k = stOK then s'.answerVal v else s'.answer k

/-- An admitted query reads its half of the answer as the performer on its port. -/
theorem pathLatencyQuery_answered {o : Nat} {v : Int} (hp : s.powered = true) (hr : s.mayRead port o 0 = true)
    (ho : (if o = o1005_PATH_STATUS then o1005_PATH_STATUS else o1005_PATH_LATENCY_NS) = o) (hopen : openRead o = false)
    (hv : ∀ c : Ctx, c.port = port → (s.begin t).readComputed c o (effRow c o 0) = asInt (s.begin t) v) :
    ∃ u, exec (.pathLatencyQuery t port o) s = .next u ∧ u.last = ⟨0, some (.int v)⟩ := by
  have hk : (s.begin t).checkRead ((s.begin t).ctxOf port) o 0 = stOK := beq_iff_eq.mp hr
  have hread : (s.begin t).tryRead ((s.begin t).ctxOf port) o 0 = asInt (s.begin t) v := by
    cases hc : (s.begin t).ctxOf port with
    | none => exact absurd (hc ▸ hk) (checkRead_none 0 hopen)
    | some c =>
      unfold State.tryRead
      exact (if_neg (not_not.mpr (hc ▸ hk))).trans (hv c (ctxOf_port hc))
  have hanswer : (s.begin t).readQuery port o = (s.begin t).answerVal (.int v) := by
    unfold State.readQuery
    rw [hread]
    rfl
  have hexec : exec (.pathLatencyQuery t port o) s = s.run t (fun s => s.readQuery port (if o = o1005_PATH_STATUS then o1005_PATH_STATUS else o1005_PATH_LATENCY_NS)) := rfl
  exact ⟨_, (hexec.trans (s.run_powered t _ hp)).trans (by rw [ho, hanswer]), rfl⟩

/-- A path that is queried, its status and its latency as both reads give them. -/
theorem pathLatencyQuery_reads {a : Int} {b : Nat} (hp : s.powered = true) (hs : s.mayRead port o1005_PATH_STATUS 0 = true) (hl : s.mayRead port o1005_PATH_LATENCY_NS 0 = true)
    (hq : s.pathQuery (s.rdN o1005_QUERY_SOURCE port) (s.rdN o1005_QUERY_DEST port) = (a, b)) :
    (∃ u, exec (.pathLatencyQuery t port o1005_PATH_STATUS) s = .next u ∧ u.last = ⟨0, some (.int a)⟩) ∧
    ∃ u, exec (.pathLatencyQuery t port o1005_PATH_LATENCY_NS) s = .next u ∧ u.last = ⟨0, some (.int b)⟩ := by
  have hq' : (s.begin t).pathQuery ((s.begin t).rdN o1005_QUERY_SOURCE port) ((s.begin t).rdN o1005_QUERY_DEST port) = (a, b) := hq
  refine ⟨pathLatencyQuery_answered hp hs rfl (by decide) fun c hc => ?_, pathLatencyQuery_answered hp hl rfl (by decide) fun c hc => ?_⟩
  · subst hc
    exact congrArg (fun q => asInt (s.begin t) q.1) hq'
  · subst hc
    exact congrArg (fun q => asInt (s.begin t) (q.2 : Int)) hq'

/-- Where a destination or a source that is no generator's is not planned, there is no path. -/
theorem pathQuery_unplanned {src dst : Nat} (h : planEp s.activePlan (streamInput dst) = none ∨ isGenerator src = false ∧ planEp s.activePlan src = none) :
    s.pathQuery src dst = (PATH_STATUS.no_path, 0) := by
  unfold State.pathQuery
  dsimp only
  cases hd : planEp s.activePlan (streamInput dst) with
  | none => rfl
  | some e =>
    obtain hnone | ⟨hgen, hsrc⟩ := h
    · exact absurd (hd.symm.trans hnone) (by simp)
    · simp [hgen, hsrc]

/-- The latency of a source without alignment, in its unit (R221). -/
theorem latencySource_plain {f : PlanEndpoint} (hin : f.ep / 4096 = 0) (ha : f.align = 0) : s.latencySource f = s.latencyIn f * (3 * max 1 (fmtLines f.fmt)) := by
  simp [State.latencySource, hin, ha]

/-- A whole number of ns, kept in thirds over lines, is rounded to itself. -/
theorem roundDiv_mul (n : Nat) {b : Nat} (hb : 0 < b) : roundDiv (n * b) b = n := by
  unfold roundDiv
  rw [if_neg hb.ne', show 2 * (n * b) + b = b + n * (2 * b) by ring, Nat.add_mul_div_right _ _ (by omega), Nat.div_eq_of_lt (by omega)]
  omega

/-- A direct path from a source without alignment to an output: the input's latency and the output's (R221). -/
theorem pathQuery_direct {src dst : Nat} {e f : PlanEndpoint} (hdst : dst / 4096 = 8) (he : planEp s.activePlan dst = some e) (hsrc : src / 4096 = 0) (hf : planEp s.activePlan src = some f)
    (hfep : f.ep = src) (ha : f.align = 0) (hpath : routePath s.activePlan dst src = .ok ROUTE_PATH.direct)
    (hflow : (s.flowFeed src).any (fun f => s.rd o3600_FLOW_KIND f == FLOW_KIND.st2022_6 && s.rd o3600_AUDIO_PLACEMENT f == AUDIO_PLACEMENT.arrival) = false) :
    s.pathQuery src dst = (PATH_STATUS.valid, s.latencyIn f + s.latencyOut s.activePlan e) := by
  have hinner : streamInput dst = dst := if_pos (by omega)
  have hgen : isGenerator src = false := by simp [isGenerator, hsrc]
  have hafter : s.latencyAfter s.activePlan dst e = some { ns := s.latencyOut s.activePlan e } := by simp [State.latencyAfter, hdst]
  have hcross : s.latencyCross ROUTE_PATH.direct e f = {} := by simp [State.latencyCross]
  have hbase := latencySource_plain (s := s) (hfep ▸ hsrc) ha
  have hround : roundDiv ((s.latencySource f + (0 + s.latencyOut s.activePlan e) * (3 * max 1 (fmtLines f.fmt)) + (0 + 0) * max 1 (fmtLines f.fmt)) * 1 + 0 * max 1 (fmtLines f.fmt))
      (3 * max 1 (fmtLines f.fmt) * 1) = s.latencyIn f + s.latencyOut s.activePlan e := by
    rw [hbase, ← roundDiv_mul (s.latencyIn f + s.latencyOut s.activePlan e) (b := 3 * max 1 (fmtLines f.fmt)) (by omega)]
    congr 1 <;> ring
  unfold State.pathQuery
  simp only [hinner, he, hgen, hf, hflow, hpath, hafter, hcross, hdst, Bool.false_eq_true, if_false]
  simpa using hround

/-- Settles O41: the answer is the evaluation at the instant of the read; the constants of the lanes and engines are those of log entry 30 (the model's choice). -/
theorem pathLatencyIsEvaluated : Obligations.PathLatencyIsEvaluated := by
  intro s t port hp hs hl src dst
  refine ⟨fun h => pathLatencyQuery_reads hp hs hl (pathQuery_unplanned h), fun e f hdst he _ hsrc hf hfep ha hpath hflow => ?_⟩
  exact pathLatencyQuery_reads hp hs hl (pathQuery_direct hdst he hsrc hf hfep ha hpath hflow)

end Sys2Proof.Machine
end

section
/-! SUPPORT. HELLO and LOGIN (R388, R389). -/

namespace Sys2Proof.Machine
open Sys2Proof

/-! A message that needs no session. -/

/-- The state in which a message without a session is handled: it counts in its second, nothing else has changed. -/
theorem admitPlain_admitted {s : State} {port : Nat} (h : (s.admitPlain port).1 = true) :
    ∃ sec n, (s.admitPlain port).2 = s.setPort port { s.port port with second := sec, inSecond := n } := by
  unfold State.admitPlain at h ⊢
  dsimp only at h ⊢
  generalize (if (s.port port).second = s.now / second then (s.port port).inSecond else 0) = n at h ⊢
  by_cases hn : n < 100
  · exact ⟨_, _, by rw [if_pos hn]⟩
  · rw [if_neg hn] at h
    exact absurd h Bool.false_ne_true

theorem withoutSession_heard {s : State} {port type : Nat} {d : Bytes} (h : s.hears port type d = true) (addr udp : Nat) (f : State → State) :
    s.withoutSession port addr udp d f = f (s.admitPlain port).2 ∧ fieldNat 1 1 d = type := by
  unfold State.hears at h
  simp only [Bool.and_eq_true, beq_iff_eq] at h
  obtain ⟨⟨⟨⟨⟨htalk, hid⟩, hadmit⟩, hver⟩, hlen⟩, htype⟩ := h
  refine ⟨?_, htype⟩
  unfold State.withoutSession
  rw [if_pos hid]
  unfold State.withPlain
  rw [if_neg (by rw [htalk]; decide), show s.admitPlain port = (true, (s.admitPlain port).2) from Prod.ext hadmit rfl]
  dsimp only
  rw [if_neg (not_not.mpr hver), if_neg (by rw [hlen]; decide)]

/-! HELLO. -/

theorem mem_keepLast_append {α : Type} {n : Nat} (hn : 0 < n) (l : List α) (a : α) : a ∈ keepLast n (l ++ [a]) := by
  have hle : (l ++ [a]).length - n ≤ l.length := by rw [List.length_append, List.length_singleton]; omega
  unfold keepLast
  rw [List.drop_append_of_le_length hle]
  exact List.mem_append_right _ (List.mem_singleton.mpr rfl)

theorem length_keepLast_le {α : Type} (n : Nat) (l : List α) : (keepLast n l).length ≤ n := by
  unfold keepLast
  rw [List.length_drop]
  omega

/-- A challenge is kept beside the last three. -/
def State.keepChallenge (s : State) (port : Nat) (c : Challenge) : State :=
  let y := s.setPort port { s.port port with challenges := keepLast 4 ((s.port port).challenges ++ [c]) }
  if y.rd o1101_SESSION_STATE port = SESSION_STATE.closed then y.setSession port SESSION_STATE.challenged else y

theorem keepChallenge_challenges (s : State) (port : Nat) (c : Challenge) : ((s.keepChallenge port c).port port).challenges = keepLast 4 ((s.port port).challenges ++ [c]) := by
  have hport := State.port_setPort s port { s.port port with challenges := keepLast 4 ((s.port port).challenges ++ [c]) }
  unfold State.keepChallenge
  dsimp only
  split
  · exact congrArg Port.challenges hport
  · exact congrArg Port.challenges hport

theorem keepChallenge_out (s : State) (port : Nat) (c : Challenge) : (s.keepChallenge port c).out = s.out := (apply_ite State.out _ _ _).trans (ite_self _)

theorem keepChallenge_now (s : State) (port : Nat) (c : Challenge) : (s.keepChallenge port c).now = s.now := (apply_ite State.now _ _ _).trans (ite_self _)

/-- A HELLO on a port that is not locked out is challenged with 32 free bytes. -/
theorem hello_eq {s : State} {port : Nat} (addr udp : Nat) (h : s.rd o1101_SESSION_STATE port ≠ SESSION_STATE.locked_out) :
    s.hello port addr udp = ((s.takeFreeBytes 32).2.keepChallenge port ⟨(s.takeFreeBytes 32).1, addr, udp, s.now⟩).sendPlain port addr udp 2 0 (s.takeFreeBytes 32).1 := by
  unfold State.hello
  exact if_neg h

/-- The challenge of a HELLO: new, bound to its sender, kept with at most three others, and sent. -/
theorem hello_challenges {s : State} {port addr udp : Nat} (h : s.rd o1101_SESSION_STATE port ≠ SESSION_STATE.locked_out) :
    ∃ c, c ∈ ((s.hello port addr udp).port port).challenges ∧ c.addr = addr ∧ c.udp = udp ∧ c.issued = s.now ∧ c.nonce.length = 32 ∧
      ((s.hello port addr udp).port port).challenges.length ≤ 4 ∧ (s.hello port addr udp).out = s.out ++ [.sdp port addr udp (msgHeader 2 0 0 0 32 0 0 ++ c.nonce)] ∧
      (s.hello port addr udp).now = s.now := by
  have hlen : (s.takeFreeBytes 32).1.length = 32 := by simp [State.takeFreeBytes]
  rw [hello_eq addr udp h]
  have hkept := keepChallenge_challenges (s.takeFreeBytes 32).2 port ⟨(s.takeFreeBytes 32).1, addr, udp, s.now⟩
  have hout := keepChallenge_out (s.takeFreeBytes 32).2 port ⟨(s.takeFreeBytes 32).1, addr, udp, s.now⟩
  have hnow := keepChallenge_now (s.takeFreeBytes 32).2 port ⟨(s.takeFreeBytes 32).1, addr, udp, s.now⟩
  generalize (s.takeFreeBytes 32).2.keepChallenge port ⟨(s.takeFreeBytes 32).1, addr, udp, s.now⟩ = y at hkept hout hnow ⊢
  have hsent : ((y.sendPlain port addr udp 2 0 (s.takeFreeBytes 32).1).port port).challenges = _ := hkept
  rw [hsent]
  refine ⟨_, mem_keepLast_append (by decide) _ _, rfl, rfl, rfl, hlen, length_keepLast_le _ _, ?_, hnow⟩
  unfold State.sendPlain
  rw [hlen]
  exact congrArg (· ++ _) hout

theorem hello_challenged {s : State} {t port addr udp : Nat} {d : Bytes} (hp : s.powered = true) (h : (s.begin t).hears port 1 d = true)
    (hlock : (s.begin t).rd o1101_SESSION_STATE port ≠ SESSION_STATE.locked_out) :
    ∃ u c, exec (.hello t port addr udp d) s = .next u ∧ c ∈ (u.port port).challenges ∧ c.addr = addr ∧ c.udp = udp ∧ c.issued = u.now ∧ c.nonce.length = 32 ∧
      (u.port port).challenges.length ≤ 4 ∧ u.out = s.out ++ [.sdp port addr udp (msgHeader 2 0 0 0 32 0 0 ++ c.nonce)] := by
  obtain ⟨hheard, htype⟩ := withoutSession_heard h addr udp fun s => if fieldNat 1 1 d = 1 then s.hello port addr udp else s
  rw [if_pos htype] at hheard
  obtain ⟨sec, n, hadmit⟩ := admitPlain_admitted (show ((s.begin t).admitPlain port).1 = true by unfold State.hears at h; simp only [Bool.and_eq_true] at h; tauto)
  rw [hadmit] at hheard
  obtain ⟨c, hc, haddr, hudp, hissued, hnonce, hlen, hout, hnow⟩ := hello_challenges (s := (s.begin t).setPort port { (s.begin t).port port with second := sec, inSecond := n })
    (addr := addr) (udp := udp) hlock
  have hrun := run_work (t := t) (f := fun s => s.withoutSession port addr udp d fun s => if fieldNat 1 1 d = 1 then s.hello port addr udp else s) hp hheard
  generalize State.hello _ _ _ _ = y at hrun hc hlen hout hnow
  exact ⟨_, c, hrun, hc, haddr, hudp, hissued, hnonce, hlen, hout⟩

/-! LOGIN. -/

theorem sessionId_ne (free last : Nat) : sessionId free last ≠ 0 ∧ sessionId free last ≠ last := by
  have hlt : free % 4294967295 < 4294967295 := Nat.mod_lt _ (by decide)
  unfold sessionId
  dsimp only
  split
  · omega
  · omega

/-- The session that an accepted LOGIN opens. -/
structure Opened (s u : State) (port addr udp k : Nat) (x : Session) : Prop where
  session : (u.port port).session = some x
  slot : x.slot = k
  addr : x.addr = addr
  udp : x.udp = udp
  roles : x.roles = s.rdN o1100_KEY_ROLES k
  fresh : x.id ≠ 0 ∧ x.id ≠ (s.port port).lastId
  begins : x.lastSeq = 0 ∧ x.eventSeq = 1
  state : u.rd o1101_SESSION_STATE port = SESSION_STATE.open

theorem openSession_opens (s : State) (port addr udp k : Nat) (nd nh : Bytes) : ∃ x, Opened s (s.openSession port addr udp k nd nh) port addr udp k x := by
  have hid := sessionId_ne s.takeFree.1 (s.port port).lastId
  refine ⟨_, congrArg Port.session (State.port_setPort _ _ _), rfl, rfl, rfl, rfl, hid, ⟨rfl, rfl⟩, ?_⟩
  unfold State.openSession State.setSession
  dsimp only
  refine (rd_bump_obj _ (by decide) _ _).trans ?_
  rw [State.rd_wrOct]
  simp (disch := decide) only [State.rd_wr_obj, State.rd_wr_same]

/-- A challenge is consumed. -/
def State.spendChallenge (s : State) (port : Nat) (c : Challenge) : State := s.setPort port { s.port port with challenges := (s.port port).challenges.erase c }

/-- A LOGIN that proves its key on a port without a session opens one (R388, R389). -/
theorem login_opens {s : State} {port addr udp : Nat} {body : Bytes} {c : Challenge} (hlock : s.rd o1101_SESSION_STATE port ≠ SESSION_STATE.locked_out)
    (hnone : (s.port port).session = none) (hc : c ∈ (s.port port).challenges) (haddr : c.addr = addr) (hudp : c.udp = udp) (hvalid : c.valid s.now = true)
    (hproof : loginProof (s.keyBytes (fieldNat 0 1 body)) c.nonce (slice 4 32 body) port addr udp = slice 36 32 body) (huse : s.slotUsable (fieldNat 0 1 body) port = true) :
    ∃ x, Opened s (s.login port addr udp body) port addr udp (fieldNat 0 1 body) x := by
  have hfound : (((s.port port).challenges.filter fun c => c.addr == addr && c.udp == udp && c.valid s.now).find?
      fun c => loginProof (s.keyBytes (fieldNat 0 1 body)) c.nonce (slice 4 32 body) port addr udp == slice 36 32 body).isSome = true :=
    List.find?_isSome.mpr ⟨c, List.mem_filter.mpr ⟨hc, by simp [haddr, hudp, hvalid]⟩, beq_iff_eq.mpr hproof⟩
  obtain ⟨c', hc'⟩ := Option.isSome_iff_exists.mp hfound
  obtain ⟨x, hx⟩ := openSession_opens (s.spendChallenge port c') port addr udp (fieldNat 0 1 body) c'.nonce (slice 4 32 body)
  have hspent : (s.spendChallenge port c').port port = { s.port port with challenges := (s.port port).challenges.erase c' } := State.port_setPort _ _ _
  have huse' : (s.spendChallenge port c').slotUsable (fieldNat 0 1 body) port = true := huse
  have hopens : s.login port addr udp body = (s.spendChallenge port c').openSession port addr udp (fieldNat 0 1 body) c'.nonce (slice 4 32 body) := by
    unfold State.login
    rw [if_neg hlock]
    dsimp only
    rw [hc']
    exact (if_neg (by simp [hnone])).trans ((if_neg fun hn => Bool.false_ne_true (hn.symm.trans huse')).trans rfl)
  rw [hopens]
  exact ⟨x, { hx with roles := hx.roles, fresh := ⟨hx.fresh.1, fun h => hx.fresh.2 (h.trans (congrArg Port.lastId hspent).symm)⟩ }⟩

theorem login_opened {s : State} {t port addr udp : Nat} {d : Bytes} {c : Challenge} (hp : s.powered = true) (h : (s.begin t).hears port 3 d = true) (hlen : fieldNat 12 2 d = 68)
    (hlock : (s.begin t).rd o1101_SESSION_STATE port ≠ SESSION_STATE.locked_out) (hnone : (s.port port).session = none) (hc : c ∈ (s.port port).challenges) (haddr : c.addr = addr)
    (hudp : c.udp = udp) (hvalid : c.valid (max s.now t) = true)
    (hproof : loginProof (s.keyBytes (fieldNat 0 1 (msgBody d))) c.nonce (slice 4 32 (msgBody d)) port addr udp = slice 36 32 (msgBody d))
    (huse : s.slotUsable (fieldNat 0 1 (msgBody d)) port = true) :
    ∃ u x, exec (.login t port addr udp d) s = .next u ∧ Opened s u port addr udp (fieldNat 0 1 (msgBody d)) x := by
  obtain ⟨hheard, htype⟩ := withoutSession_heard h addr udp fun s => if fieldNat 1 1 d ≠ 3 then s else if fieldNat 12 2 d ≠ 68 then s.sendError port addr udp 9 else s.login port addr udp (msgBody d)
  rw [if_neg (not_not.mpr htype), if_neg (not_not.mpr hlen)] at hheard
  obtain ⟨sec, n, hadmit⟩ := admitPlain_admitted (show ((s.begin t).admitPlain port).1 = true by unfold State.hears at h; simp only [Bool.and_eq_true] at h; tauto)
  rw [hadmit] at hheard
  have hport := State.port_setPort (s.begin t) port { (s.begin t).port port with second := sec, inSecond := n }
  obtain ⟨x, hx⟩ := login_opens (s := (s.begin t).setPort port { (s.begin t).port port with second := sec, inSecond := n }) hlock (by rw [hport]; exact hnone) (by rw [hport]; exact hc) haddr hudp
    hvalid hproof huse
  have hrun := run_work (t := t) (f := fun s => s.withoutSession port addr udp d fun s =>
    if fieldNat 1 1 d ≠ 3 then s else if fieldNat 12 2 d ≠ 68 then s.sendError port addr udp 9 else s.login port addr udp (msgBody d)) hp hheard
  have hlast := congrArg Port.lastId hport
  generalize State.login _ _ _ _ _ = y at hrun hx
  exact ⟨_, x, hrun, { hx with session := hx.session, roles := hx.roles, fresh := ⟨hx.fresh.1, fun h => hx.fresh.2 (h.trans hlast.symm)⟩, state := hx.state }⟩

/-- Settles O37. That the sender's challenge with the right proof is the one taken, and the order of the refusals before it, are the model's choices of log entry 9. -/
theorem helloAndLoginOpenTheSession : Obligations.HelloAndLoginOpenTheSession := by
  refine ⟨fun s t port addr udp d hp h hlock => hello_challenged hp h hlock, fun s t port addr udp d c hp h hlen hlock hnone hc haddr hudp hvalid hproof huse => ?_⟩
  obtain ⟨u, x, hu, hx⟩ := login_opened hp h hlen hlock hnone hc haddr hudp hvalid hproof huse
  exact ⟨u, x, hu, hx.session, hx.slot, hx.addr, hx.udp, hx.slot.symm ▸ hx.roles, hx.fresh.1, hx.fresh.2, hx.begins.1, hx.begins.2, hx.state⟩

end Sys2Proof.Machine
end

section
/-! SUPPORT. The writes of objects that just hold a value, the order of the checks, descriptions, and a request with one write (R381-R387, R390, R391). -/

namespace Sys2Proof.Machine
open Sys2Proof

/-! What the checks of R387 let through. -/

theorem checkWrite_access {s : State} {c : Option Ctx} {o r : Nat} {v : Option Val} {d : ObjRow} (hd : findObj o = some d) (h : s.checkWrite c o r v = stOK) : d.access ≠ .ro := by
  intro hro
  unfold State.checkWrite at h
  rw [hd] at h
  dsimp only at h
  rw [if_pos hro] at h
  split at h <;> exact absurd h (by decide)

/-- The objects that follow every accepted write are read-only: no admitted write is of one of them. -/
theorem admits_notSide {s : State} {port o r : Nat} {v : Val} (h : s.admits port o r v = true) : o ∉ writeSideObjects := by
  have hk : s.checkWrite (s.ctxOf port) o r (some v) = stOK := by
    unfold State.admits at h
    simp only [Bool.and_eq_true, beq_iff_eq] at h
    exact h.1.1.1.1
  intro ho
  simp only [writeSideObjects, List.mem_cons, List.not_mem_nil, or_false] at ho
  obtain rfl | rfl := ho
  · exact checkWrite_access (o := o1200_RUNNING_DIRTY) (d := (findObj o1200_RUNNING_DIRTY).get (by decide)) (by decide) hk (by decide)
  · exact checkWrite_access (o := o1601_MIRROR_SEQ_SENT) (d := (findObj o1601_MIRROR_SEQ_SENT).get (by decide)) (by decide) hk (by decide)

/-! Object writes. -/

section
variable {s : State} {t port index at_ obj row : Nat} {value : Bytes}

/-- A write of an object by its code, at its instant. -/
def State.objectWrite (s : State) (port o r : Nat) (v : Option Val) : State :=
  let (k, u) := s.tryWrite (handlerOf o) (s.ctxOf port) o r v
  (u.answer k).flushEnds port

theorem exec_objectWrite (hc : laneCode index at_ = (obj, row)) : exec (.objectWrite t port index at_ value) s = s.run t fun s => s.objectWrite port obj row (wireVal obj value) := by
  have hexec : exec (.objectWrite t port index at_ value) s = s.run t fun s => s.objectWrite port (laneCode index at_).1 (laneCode index at_).2 (wireVal (laneCode index at_).1 value) := rfl
  rw [hexec, hc]

/-- An admitted write of a number or of bytes that are just held. -/
theorem objectWrite_holds {w : Val} (hp : s.powered = true) (hc : laneCode index at_ = (obj, row)) (hw : wireVal obj value = some w) (ha : s.admits port obj row w = true)
    (hstore : handlerOf obj = storeVal obj) :
    let r := if perSession obj then port else row
    ∃ u, exec (.objectWrite t port index at_ value) s = .next u ∧ u.last = ⟨0, none⟩ ∧ (∀ v, w = .int v → u.rd obj r = v) ∧
      (∀ b, w = .bytes b → u.rdOct obj r = b) ∧ s.keepsRegs u [(obj, r)] ∧ u.works = s.works ∧ u.alm = s.alm := by
  intro r
  have hside := admits_notSide ha
  have hrow : ∀ c : Ctx, c.port = port → effRow c obj row = r := fun c hport => by subst hport; rfl
  rw [exec_objectWrite hc, hw]
  cases w with
  | int v =>
    obtain ⟨e, hu, he⟩ := run_accepted (t := t) (h := handlerOf obj) (w := (s.begin t).wr obj r v) hp ha (fun c _ hport => by rw [hrow c hport, hstore]; rfl) rfl
    refine ⟨_, hu, he.last, ?_, ?_, he.keepsRegs ((keepsRegs_refl s _).wr (u := s.begin t) v (List.mem_singleton.mpr rfl)), he.works rfl rfl, rfl⟩
    · rintro v' ⟨rfl⟩
      exact (he.rd _ _ hside).trans (State.rd_wr_same _ _ _ _)
    · intro b hb
      cases hb
  | bytes b =>
    obtain ⟨e, hu, he⟩ := run_accepted (t := t) (h := handlerOf obj) (w := (s.begin t).wrOct obj r b) hp ha (fun c _ hport => by rw [hrow c hport, hstore]; rfl) rfl
    refine ⟨_, hu, he.last, ?_, ?_, he.keepsRegs ((keepsRegs_refl s _).wrOct (u := s.begin t) b (List.mem_singleton.mpr rfl)), he.works rfl rfl, rfl⟩
    · intro v hv
      cases hv
    · rintro b' ⟨rfl⟩
      exact State.rdOct_wrOct_same (s.begin t) obj r b

/-- Any admitted write of an RWC object without an operation of its own returns it to its default. -/
theorem objectWrite_clears {w : Val} (hp : s.powered = true) (hc : laneCode index at_ = (obj, row)) (hw : wireVal obj value = some w) (ha : s.admits port obj row w = true)
    (hclear : handlerOf obj = clearRwc obj) :
    let r := if perSession obj then port else row
    ∃ u, exec (.objectWrite t port index at_ value) s = .next u ∧ u.last = ⟨0, none⟩ ∧ u.rd obj r = objDefault obj r ∧ s.keepsRegs u [(obj, r)] ∧ u.works = s.works ∧ u.alm = s.alm := by
  intro r
  have hrow : ∀ c : Ctx, c.port = port → effRow c obj row = r := fun c hport => by subst hport; rfl
  rw [exec_objectWrite hc, hw]
  obtain ⟨e, hu, he⟩ := run_accepted (t := t) (h := handlerOf obj) (w := (s.begin t).wr obj r (objDefault obj r)) hp ha (fun c _ hport => by rw [hrow c hport, hclear]; rfl) rfl
  exact ⟨_, hu, he.last, (he.rd _ _ (admits_notSide ha)).trans (State.rd_wr_same _ _ _ _), he.keepsRegs ((keepsRegs_refl s _).wr (u := s.begin t) _ (List.mem_singleton.mpr rfl)),
    he.works rfl rfl, rfl⟩

/-! The order of the checks. -/

/-- A code of R387's checks is noted by its chapter's own object at most. -/
theorem noteRefusal_frame (s : State) (o r k : Nat) : s.keepsRegs (s.noteRefusal o r k) [(o6100_SURF_RESULT, r), (o1600_CUSTODY_RESULT, 0)] ∧
    (s.noteRefusal o r k).works = s.works ∧ (s.noteRefusal o r k).alm = s.alm ∧ (s.noteRefusal o r k).out = s.out ∧ (s.noteRefusal o r k).orders = s.orders := by
  unfold State.noteRefusal
  split
  · exact ⟨(keepsRegs_refl s _).wr _ (by simp), rfl, rfl, rfl, rfl⟩
  split
  · exact ⟨(keepsRegs_refl s _).wr _ (by simp), rfl, rfl, rfl, rfl⟩
  · exact ⟨keepsRegs_refl s _, rfl, rfl, rfl, rfl⟩

/-- The first checks in their order: an object that is not there, one that is read-only, a port without a session. -/
theorem checkWrite_first {s : State} {port obj row : Nat} {v : Option Val} : (findObj obj = none → s.checkWrite (s.ctxOf port) obj row v = stNO_OBJECT) ∧
    (∀ d, findObj obj = some d → rowExists obj row = true → d.access = .ro → s.checkWrite (s.ctxOf port) obj row v = stACCESS) ∧
    (∀ d, findObj obj = some d → rowExists obj row = true → d.access ≠ .ro → (s.port port).session = none → s.checkWrite (s.ctxOf port) obj row v = stNO_SESSION) := by
  refine ⟨fun hnone => ?_, fun d hd hrow hro => ?_, fun d hd hrow hro hsession => ?_⟩
  · unfold State.checkWrite
    rw [hnone]
  · unfold State.checkWrite
    rw [hd, hrow]
    dsimp only
    rw [if_neg (by decide), if_pos hro]
  · have hctx : s.ctxOf port = none := by unfold State.ctxOf; rw [hsession]
    unfold State.checkWrite
    rw [hd, hrow, hctx]
    dsimp only
    rw [if_neg (by decide), if_neg hro]

theorem objectWrite_checked (hp : s.powered = true) (hend : s.ctl.endAfter = []) (hc : laneCode index at_ = (obj, row)) (hk : s.checkWrite (s.ctxOf port) obj row (wireVal obj value) ≠ stOK) :
    ∃ u, exec (.objectWrite t port index at_ value) s = .next u ∧ u.last = ⟨s.checkWrite (s.ctxOf port) obj row (wireVal obj value), none⟩ ∧
      s.keepsRegs u [(o6100_SURF_RESULT, row), (o1600_CUSTODY_RESULT, 0)] ∧ u.works = s.works ∧ u.alm = s.alm ∧ u.out = s.out ∧ u.ctl = s.ctl := by
  have htry : (s.begin t).tryWrite (handlerOf obj) ((s.begin t).ctxOf port) obj row (wireVal obj value) =
      (s.checkWrite (s.ctxOf port) obj row (wireVal obj value), (s.begin t).noteRefusal obj row (s.checkWrite (s.ctxOf port) obj row (wireVal obj value))) := if_pos hk
  generalize s.checkWrite (s.ctxOf port) obj row (wireVal obj value) = k at htry
  obtain ⟨hregs, hworks, halm, hout, horders⟩ := noteRefusal_frame (s.begin t) obj row k
  have hctl := noteRefusal_ctl (s.begin t) obj row k
  have hwork : (s.begin t).objectWrite port obj row (wireVal obj value) = ((s.begin t).noteRefusal obj row k).answer k := by
    unfold State.objectWrite
    rw [htry]
    exact flushEnds_none _ _ ((congrArg Ctl.endAfter hctl).trans hend)
  generalize (s.begin t).noteRefusal obj row k = y at hwork hregs hworks halm hout horders hctl
  rw [exec_objectWrite hc]
  exact ⟨_, run_work hp hwork, rfl, hregs, (finish_works (u := y.answer k) horders (mem_of_works hworks)).trans hworks, halm, hout, hctl⟩

/-! DESCRIBE. -/

/-- A description at its instant. -/
def State.describeAt (s : State) (port o r : Nat) : State :=
  if s.talks port = false then s
  else
    let (k, b) := s.describeOp o r
    if k = stOK then s.answerVal (.bytes b) else s.answer k

theorem describe_answers {d : ObjRow} (hp : s.powered = true) (htalk : s.talks port = true) (hc : laneCode index at_ = (obj, row)) (hd : findObj obj = some d) (hrow : rowExists obj row = true)
    (hserved : s.served obj false = true) :
    ∃ u, exec (.describe t port index at_) s = .next u ∧ u.last = ⟨0, some (.bytes (descriptor s obj d))⟩ ∧ u.works = s.works ∧ u.regs = s.regs ∧ u.octs = s.octs ∧
      u.ctl = s.ctl ∧ u.alm = s.alm ∧ u.pair = s.pair ∧ u.out = s.out := by
  have hexec : exec (.describe t port index at_) s = s.run t fun s => s.describeAt port (laneCode index at_).1 (laneCode index at_).2 := rfl
  have hdescribe : (s.begin t).describe obj row = (stOK, descriptor s obj d) := by
    unfold State.describe
    rw [hd]
    exact if_pos hrow
  have hop : (s.begin t).describeOp obj row = (stOK, descriptor s obj d) := by
    unfold State.describeOp
    rw [hdescribe]
    exact if_neg fun h => Bool.false_ne_true (h.2.symm.trans hserved)
  have hwork : (s.begin t).describeAt port obj row = (s.begin t).answerVal (.bytes (descriptor s obj d)) := by
    unfold State.describeAt
    rw [hop]
    exact if_neg fun h => Bool.false_ne_true (h.symm.trans htalk)
  rw [hexec, hc]
  exact ⟨_, run_work hp hwork, rfl, rfl, rfl, rfl, rfl, rfl, rfl, rfl⟩

end

/-- Settles O40. -/
theorem objectsAreDescribedAndWritten : Obligations.ObjectsAreDescribedAndWritten := by
  refine ⟨fun s t port index at_ obj row d hp ht hc hd hr hs => describe_answers hp ht hc hd hr hs, fun s t port index at_ obj row value w hp hc hw ha =>
    ⟨objectWrite_holds hp hc hw ha, objectWrite_clears hp hc hw ha⟩, fun s t port index at_ obj row value hp he hc hk => ?_⟩
  obtain ⟨u, hu, hlast, hregs, hworks, halm, hout, hctl⟩ := objectWrite_checked (t := t) hp he hc hk
  obtain ⟨hnone, hro, hsession⟩ := checkWrite_first (s := s) (port := port) (obj := obj) (row := row) (v := wireVal obj value)
  have hstatus := congrArg OpResult.status hlast
  exact ⟨u, hu, hlast, hregs, hworks, halm, hout, hctl, fun h => hstatus.trans (hnone h), fun d hd hr h => hstatus.trans (hro d hd hr h), fun d hd hr h hs => hstatus.trans (hsession d hd hr h hs)⟩

/-! A request with one write. -/

/-- An admitted write in a message: its handler's work, with what follows every accepted write. -/
theorem tryWrite_admitted {s w : State} {port o r : Nat} {v : Val} {h : Handler} (ha : s.admits port o r v = true)
    (hk : ∀ c : Ctx, c.port = port → h c (effRow c o r) v s = (stOK, w)) : ∃ u, s.tryWrite h (s.ctxOf port) o r (some v) = (stOK, u) ∧ Carried o w (u.answer stOK) := by
  simp only [State.admits, Bool.and_eq_true, beq_iff_eq, Bool.not_eq_true'] at ha
  obtain ⟨⟨⟨⟨hcheck, hserved⟩, hdip⟩, hstandby⟩, -⟩ := ha
  obtain ⟨d, c, hd, hc⟩ := checkWrite_ok hcheck
  have hport := ctxOf_port hc
  have hfree : ¬ (s.isStandby = true ∧ c.port < 5 ∧ ownSide o = false) := fun ⟨h1, h2, h3⟩ => by simp [h1, hport ▸ h2, h3] at hstandby
  refine ⟨(w.afterWrite o).mirrorWrite c o r d v, ?_, carried_accepted w c o r d v⟩
  unfold State.tryWrite
  rw [hcheck, hc, hd]
  dsimp only
  rw [if_neg (by decide), if_neg (by simp [hserved, hdip]), if_neg hfree, hk c hport, if_pos rfl]

/-- A message of one write that is done leaves the write's state and one result without a value. -/
theorem runOps_write {s u : State} {c : Option Ctx} {stop : Bool} {obj row o r room : Nat} {value : Bytes} (hrow : opRow obj row = some (o, r)) (hroom : 4 ≤ room)
    (hw : s.tryWrite (handlerOf o) c o r (wireVal o value) = (stOK, u)) : State.runOps s c stop [] [⟨2, obj, row, value⟩] room false s = ([.done stOK []], u) := by
  have hsize : s.resultSize c ⟨2, obj, row, value⟩ = 4 := by
    unfold State.resultSize
    rw [hrow]
    rfl
  have hop : State.doOp s s c [] [] ⟨2, obj, row, value⟩ = (.done stOK [], u) := by
    unfold State.doOp
    rw [hrow]
    dsimp only
    rw [if_neg (by decide), if_pos rfl, hw]
  unfold State.runOps
  rw [hsize, hop, if_neg (by simpa using hroom)]
  rfl

/-- The session keeps the response to its last request (R391). -/
def State.keepResponse (s : State) (port id seq : Nat) (m : Bytes) : State :=
  match (s.port port).session with
  | some x => if x.id = id ∧ x.lastSeq = seq then s.putSession port { x with kept := some m } else s
  | none => s

theorem keepResponse_frame (s : State) (port id seq : Nat) (m : Bytes) : (s.keepResponse port id seq m).ctl.endAfter = s.ctl.endAfter ∧ (s.keepResponse port id seq m).regs = s.regs := by
  unfold State.keepResponse
  split
  · split
    · exact ⟨rfl, rfl⟩
    · exact ⟨rfl, rfl⟩
  · exact ⟨rfl, rfl⟩

/-- A response of one write that is done: it goes to its session with status 0 and one result without a value. -/
theorem sendResponse_done {s : State} {x : Session} {port addr udp seq : Nat} (hid : x.id ≠ 0) (hend : s.ctl.endAfter = []) :
    (s.sendResponse ⟨port, x.id, x.roles, x.key, addr, udp, seq, [.done stOK []]⟩).out.getLast? = some (.sdp port addr udp (sessionMsg x 0x11 seq 0 1 (zeros 4))) ∧
    ∀ o r, (s.sendResponse ⟨port, x.id, x.roles, x.key, addr, udp, seq, [.done stOK []]⟩).rd o r = s.rd o r := by
  have hsent : s.sendResponse ⟨port, x.id, x.roles, x.key, addr, udp, seq, [.done stOK []]⟩ =
      ((s.keepResponse port x.id seq (sessionMsg x 0x11 seq 0 1 (zeros 4))).emit (.sdp port addr udp (sessionMsg x 0x11 seq 0 1 (zeros 4)))).flushEnds port := by
    unfold State.sendResponse
    dsimp only
    rw [if_neg hid, if_neg hid]
    rfl
  obtain ⟨hends, hregs⟩ := keepResponse_frame s port x.id seq (sessionMsg x 0x11 seq 0 1 (zeros 4))
  have hnone : ((s.keepResponse port x.id seq (sessionMsg x 0x11 seq 0 1 (zeros 4))).emit (.sdp port addr udp (sessionMsg x 0x11 seq 0 1 (zeros 4)))).ctl.endAfter = [] := hends.trans hend
  rw [hsent, flushEnds_none _ _ hnone]
  refine ⟨?_, fun o r => ?_⟩
  · exact List.getLast?_concat
  · unfold State.rd
    exact congrArg (fun regs => (storeGet (o, r) regs).getD _) hregs

/-! The session's request. -/

/-- Beginning a request changes nothing that a write's checks look at. -/
theorem requestBegun_admits {s : State} {port o r : Nat} {v : Val} {x : Session} (hx : (s.port port).session = some x) :
    (s.requestBegun port x).admits port o r v = s.admits port o r v ∧ (s.requestBegun port x).ctxOf port = s.ctxOf port := by
  have hctx : (s.requestBegun port x).ctxOf port = s.ctxOf port := by
    unfold State.ctxOf
    rw [requestBegun_port, hx]
    rfl
  refine ⟨?_, hctx⟩
  unfold State.admits
  rw [hctx]
  rfl

theorem authentic_session {s : State} {port addr udp : Nat} {d : Bytes} {x : Session} (h : s.authentic port addr udp d = some x) : (s.port port).session = some x ∧ x.id = fieldNat 4 4 d := by
  unfold State.authentic at h
  split at h
  · cases h
  · next y hy =>
    split at h
    · next hid =>
      cases h
      exact ⟨hy, hid.1⟩
    · cases h

theorem datagramMax_ge (addr : Nat) : 1452 ≤ datagramMax addr := by
  unfold datagramMax
  split <;> decide

/-- The request of one write at its instant. -/
theorem runMessage_write {s : State} {port addr udp obj row o r : Nat} {d value : Bytes} {v : Int} {x : Session} (hx : (s.port port).session = some x) (hid : x.id ≠ 0)
    (hrow : opRow obj row = some (o, r)) (hwire : wireVal o value = some (.int v)) (hstore : handlerOf o = storeVal o) (hper : perSession o = false) (ha : s.admits port o r (.int v) = true) :
    ((s.requestBegun port x).runMessage port addr udp d (some (x.atRequest s.now)) [⟨2, obj, row, value⟩]).rd o r = v ∧
    ((s.requestBegun port x).runMessage port addr udp d (some (x.atRequest s.now)) [⟨2, obj, row, value⟩]).out.getLast? =
      some (.sdp port addr udp (sessionMsg x 0x11 (fieldNat 8 4 d) 0 1 (zeros 4))) := by
  have hadmits := (requestBegun_admits (o := o) (r := r) (v := .int v) hx).1.trans ha
  have hend : (s.requestBegun port x).ctl.endAfter = [] := by
    unfold State.admits at ha
    simp only [Bool.and_eq_true, List.isEmpty_iff] at ha
    exact ha.2
  generalize s.requestBegun port x = y at hadmits hend ⊢
  obtain ⟨u, hu, hc⟩ := tryWrite_admitted (h := handlerOf o) (w := y.wr o r v) hadmits fun c _ => by rw [hstore, effRow_eq c r hper]; rfl
  rw [← hwire] at hu
  have hroom : 4 ≤ datagramMax addr - headerLen - (if (some (x.atRequest s.now)).isSome = true then 16 else 0) := by
    have hmax := datagramMax_ge addr
    rw [Option.isSome_some, if_pos (Eq.refl true)]
    unfold headerLen
    omega
  have hops := runOps_write (stop := (fieldNat 2 2 d).testBit 0) hrow hroom hu
  have hrun : y.runMessage port addr udp d (some (x.atRequest s.now)) [⟨2, obj, row, value⟩] = u.sendResponse ⟨port, x.id, x.roles, x.key, addr, udp, fieldNat 8 4 d, [.done stOK []]⟩ := by
    unfold State.runMessage
    dsimp only [Option.bind_some]
    rw [hops]
    rfl
  have hends : u.ctl.endAfter = [] := (congrArg Ctl.endAfter hc.ctl).trans hend
  obtain ⟨hout, hrd⟩ := sendResponse_done (port := port) (addr := addr) (udp := udp) (seq := fieldNat 8 4 d) hid hends
  rw [hrun]
  exact ⟨(hrd o r).trans ((hc.rd o r (admits_notSide hadmits)).trans (State.rd_wr_same _ _ _ _)), hout⟩

/-- Settles O39. -/
theorem requestWritesAndResponds : Obligations.RequestWritesAndResponds := by
  intro s t port addr udp obj row r d value v x hp hnext hid htype hops hrow hwire hstore hper ha
  have hparts := hnext
  unfold State.nextInSession at hparts
  simp only [Bool.and_eq_true, beq_iff_eq] at hparts
  obtain ⟨⟨-, hauth⟩, hseq⟩ := hparts
  obtain ⟨hx, hxid⟩ := authentic_session hauth
  have hwork : (s.begin t).request port addr udp d = ((s.begin t).requestBegun port x).runMessage port addr udp d (some (x.atRequest (s.begin t).now)) [⟨2, obj, row, value⟩] := by
    unfold State.request
    rw [if_neg hid, if_neg (not_not.mpr htype), hops]
    exact withSession_next hnext _
  obtain ⟨hrd, hout⟩ := runMessage_write (s := s.begin t) (addr := addr) (udp := udp) (d := d) hx (by rw [hxid]; exact hid) hrow hwire hstore hper ha
  rw [hseq] at hout
  rw [← hwork] at hrd hout
  exact ⟨_, run_work (t := t) (f := fun s => s.request port addr udp d) hp rfl, hrd, hout⟩

end Sys2Proof.Machine
end

section
/-! SUPPORT. Writes to an encoder (R263, R279, R284, R295). -/

namespace Sys2Proof.Machine
open Sys2Proof

variable {s : State} {t port ch o : Nat} {v : Int}

/-- A mint channel that has noted an override. -/
def State.overridden (s : State) (ch : Nat) (v : Int) : State := (s.wr o5001_INPUT_OVERRIDE ch v).setMint ch { s.mint ch with overrideNew := true }

theorem inputOverride_waits (hp : s.powered = true) (ha : s.admits port o5001_INPUT_OVERRIDE ch (.int v) = true) :
    ∃ u, exec (.inputOverride t port ch v) s = .next u ∧ u.last = ⟨0, none⟩ ∧ u.rd o5001_INPUT_OVERRIDE ch = v ∧ u.mint ch = { s.mint ch with overrideNew := true } ∧
      (u.stands .ENC_OVERRIDE ch ↔ v ≠ INPUT_OVERRIDE.none) := by
  have hctl := alarmBlind_ctl.alarmWhile ((s.begin t).overridden ch v) .ENC_OVERRIDE ch (v != INPUT_OVERRIDE.none)
  have hrd := (alarmBlind_rd ch (o := o5001_INPUT_OVERRIDE) (by decide)).alarmWhile ((s.begin t).overridden ch v) .ENC_OVERRIDE ch (v != INPUT_OVERRIDE.none)
  have hmint := AlarmBlind.alarmWhile (f := (State.mint · ch)) ⟨fun _ _ => rfl, fun _ _ => rfl, fun _ _ _ _ _ => rfl⟩ ((s.begin t).overridden ch v) .ENC_OVERRIDE ch (v != INPUT_OVERRIDE.none)
  have hstands := stands_alarmWhile ((s.begin t).overridden ch v) .ENC_OVERRIDE ch (v != INPUT_OVERRIDE.none)
  obtain ⟨e, hu, he⟩ := run_accepted_row (t := t) (h := writeOverride) (w := ((s.begin t).overridden ch v).alarmWhile .ENC_OVERRIDE ch (v != INPUT_OVERRIDE.none)) (by decide) hp ha (fun _ _ => rfl)
    (congrArg Ctl.endAfter hctl)
  generalize ((s.begin t).overridden ch v).alarmWhile .ENC_OVERRIDE ch (v != INPUT_OVERRIDE.none) = y at hu he hrd hmint hstands
  refine ⟨_, hu, he.last, ?_, hmint.trans (State.mint_setMint _ _ _), (endOf_stands y e _ _).trans (hstands.trans bne_iff_ne)⟩
  exact (he.rd _ _ (by decide)).trans (hrd.trans (State.rd_wr_same _ _ _ _))

theorem rapRequest_waits (hp : s.powered = true) (ha : s.admits port o5100_RAP_REQUEST ch (.int RAP_REQUEST.idr) = true) :
    ∃ u, exec (.rapRequest t port ch) s = .next u ∧ u.last = ⟨0, none⟩ ∧ u.mint ch = { s.mint ch with rapNew := true } ∧ s.keepsRegs u [] := by
  obtain ⟨e, hu, he⟩ := run_accepted_row (t := t) (h := writeRap) (w := (s.begin t).setMint ch { s.mint ch with rapNew := true }) (by decide) hp ha (fun _ _ => rfl) rfl
  exact ⟨_, hu, he.last, State.mint_setMint _ _ _, he.keepsRegs (keepsRegs_refl s _)⟩

/-- The limits that a write of a rate parameter would leave (R279). -/
def State.minQp (s : State) (o ch : Nat) (v : Int) : Int := if o = o5100_MIN_QP then v else s.rd o5100_MIN_QP ch
def State.maxQp (s : State) (o ch : Nat) (v : Int) : Int := if o = o5100_MAX_QP then v else s.rd o5100_MAX_QP ch

/-- A QP that HEVC does not take (R295). -/
abbrev State.wideQp (s : State) (o ch : Nat) (v : Int) : Prop := o ≠ o5100_RC_TARGET_FILL ∧ s.rd o5000_ENC_CODEC ch = ENC_CODEC.hevc ∧ 51 < v

theorem writeRc_eq (c : Ctx) : writeRc o c ch (.int v) s = if s.wideQp o ch v then (stRANGE, s) else if s.maxQp o ch v < s.minQp o ch v then (0x1102, s) else (stOK, s.wr o ch v) := rfl

theorem rcParameter_objects (ho : o ∈ [o5100_BASE_QP, o5100_MIN_QP, o5100_MAX_QP, o5100_RC_TARGET_FILL]) : rcObj o = o ∧ perSession o = false ∧ o ∉ writeSideObjects := by
  simp only [List.mem_cons, List.not_mem_nil, or_false] at ho
  obtain rfl | rfl | rfl | rfl := ho
  all_goals decide

theorem exec_rcParameterWrite (ho : o ∈ [o5100_BASE_QP, o5100_MIN_QP, o5100_MAX_QP, o5100_RC_TARGET_FILL]) :
    exec (.rcParameterWrite t port o ch v) s = s.run t fun s => s.opCmd (writeRc o) port o ch (.int v) := by
  have hexec : exec (.rcParameterWrite t port o ch v) s = s.run t fun s => s.opCmd (writeRc (rcObj o)) port (rcObj o) ch (.int v) := rfl
  rw [hexec, (rcParameter_objects ho).1]

theorem rcParameter_held (hp : s.powered = true) (ho : o ∈ [o5100_BASE_QP, o5100_MIN_QP, o5100_MAX_QP, o5100_RC_TARGET_FILL]) (ha : s.admits port o ch (.int v) = true)
    (hw : ¬ s.wideQp o ch v) (hle : s.minQp o ch v ≤ s.maxQp o ch v) :
    ∃ u, exec (.rcParameterWrite t port o ch v) s = .next u ∧ u.last = ⟨0, none⟩ ∧ u.rd o ch = v ∧ s.keepsRegs u [(o, ch)] ∧ u.works = s.works := by
  obtain ⟨-, hrow, hside⟩ := rcParameter_objects ho
  obtain ⟨e, hu, he⟩ := run_accepted_row (t := t) (h := writeRc o) (w := (s.begin t).wr o ch v) hrow hp ha
    (fun c _ => (writeRc_eq (s := s.begin t) c).trans ((if_neg hw).trans (if_neg (not_lt.mpr hle)))) rfl
  exact ⟨_, (exec_rcParameterWrite ho).trans hu, he.last, (he.rd _ _ hside).trans (State.rd_wr_same _ _ _ _),
    he.keepsRegs ((keepsRegs_refl s _).wr (u := s.begin t) v (List.mem_singleton.mpr rfl)), he.works rfl rfl⟩

/-- A write of a rate parameter that its handler refuses changes nothing. -/
theorem rcParameter_refused {k : Nat} (hp : s.powered = true) (ho : o ∈ [o5100_BASE_QP, o5100_MIN_QP, o5100_MAX_QP, o5100_RC_TARGET_FILL]) (ha : s.admits port o ch (.int v) = true)
    (hne : k ≠ stOK) (hlow : k < 0x1301) (hk : ∀ c, writeRc o c ch (.int v) (s.begin t) = (k, s.begin t)) :
    ∃ u, exec (.rcParameterWrite t port o ch v) s = .next u ∧ u.last = ⟨k, none⟩ ∧ s.keepsRegs u [] ∧ u.works = s.works :=
  ⟨_, (exec_rcParameterWrite ho).trans (run_refused_row (rcParameter_objects ho).2.1 hp ha (fun c _ => hk c) hne (noteRefusal_low _ _ _ hlow)), rfl, keepsRegs_refl _ _, rfl⟩

/-- Settles O28. That an HEVC QP above 51 is a RANGE error is the model's reading of log entry 81. -/
theorem encoderWritesWaitForAPicture : Obligations.EncoderWritesWaitForAPicture := by
  intro s t port ch v hp
  refine ⟨inputOverride_waits hp, rapRequest_waits hp, fun o ho ha => ⟨fun hw hle => rcParameter_held hp ho ha hw hle, fun hw hlt => ?_, fun hw => ?_⟩⟩
  · exact rcParameter_refused hp ho ha (by decide) (by decide) fun c => (writeRc_eq (s := s.begin t) c).trans ((if_neg hw).trans (if_pos hlt))
  · exact rcParameter_refused hp ho ha (by decide) (by decide) fun c => (writeRc_eq (s := s.begin t) c).trans (if_pos hw)

end Sys2Proof.Machine
end

section
/-! SUPPORT. The floor guard and the bit guard of a rectangle (R258, R259, R277, R278). -/

namespace Sys2Proof.Machine
open Sys2Proof

/-! One CTU, in its parts. -/

/-- The rectangle as a CTU finds it: a row has begun, a missed fetch has taken its clocks. -/
def CodeEnv.reached (e : CodeEnv) (left : Nat) (c : Ctu) (x : CodeAcc) : CodeAcc :=
  let i := e.ctus - left
  let x := if i ≠ 0 ∧ i % e.cols = 0 then e.startRow i x else x
  if e.missed.contains i then { x with overdrawn := true, spent := x.spent + c.missClocks } else x

/-- The tier of the row, one further while it is overdrawn. -/
def CodeEnv.rowTier (e : CodeEnv) (x : CodeAcc) : Nat := if x.overdrawn then min (x.rowTier + 1) e.last else x.rowTier

/-- The floor guard (R259). -/
def CodeEnv.guarded (e : CodeEnv) (left : Nat) (x : CodeAcc) : Bool := decide (e.frame < x.spent + e.ceiling (e.rowTier x) + (left - 1) * e.ceiling e.last)

def CodeEnv.tierUsed (e : CodeEnv) (left : Nat) (x : CodeAcc) : Nat := if e.guarded left x then e.last else e.rowTier x

/-- The bits that the rectangle may have used after a CTU (R278). -/
def CodeEnv.room (e : CodeEnv) (left : Nat) : Nat := 8 * e.share - keptBits left

/-- The bit guard codes the CTU at the floor. -/
def CodeEnv.floored (e : CodeEnv) (left : Nat) (c : Ctu) (x : CodeAcc) : Bool := decide (e.room left < x.bits + c.least) || c.poisoned

def CodeEnv.clocksOf (e : CodeEnv) (left : Nat) (c : Ctu) (x : CodeAcc) : Nat :=
  if e.floored left c x then min (e.ceiling e.last) c.floorClocks else min (e.ceiling (e.tierUsed left x)) (c.clocks.getD (e.tierUsed left x) (c.clocks.getLastD 0))

def CodeEnv.bitsOf (e : CodeEnv) (left : Nat) (c : Ctu) (x : CodeAcc) : Nat :=
  if e.floored left c x then min 64 c.floorBits else if x.bits + c.bits ≤ e.room left then c.bits else c.least

variable {e : CodeEnv}

theorem code_spent (left : Nat) (c : Ctu) (x : CodeAcc) : (e.code left c x).spent = (e.reached left c x).spent + e.clocksOf left c (e.reached left c x) := rfl

theorem code_bits (left : Nat) (c : Ctu) (x : CodeAcc) : (e.code left c x).bits = (e.reached left c x).bits + e.bitsOf left c (e.reached left c x) := rfl

theorem code_perTier (left : Nat) (c : Ctu) (x : CodeAcc) : (e.code left c x).perTier = bumpAt (e.tierUsed left (e.reached left c x)) (e.reached left c x).perTier := rfl

theorem code_rowTier (left : Nat) (c : Ctu) (x : CodeAcc) : (e.code left c x).rowTier = (e.reached left c x).rowTier := rfl

theorem reached_bits (left : Nat) (c : Ctu) (x : CodeAcc) : (e.reached left c x).bits = x.bits := by
  unfold CodeEnv.reached
  dsimp only
  split_ifs <;> rfl

theorem reached_perTier (left : Nat) (c : Ctu) (x : CodeAcc) : (e.reached left c x).perTier = x.perTier := by
  unfold CodeEnv.reached
  dsimp only
  split_ifs <;> rfl

theorem reached_spent (hm : e.missed = []) (left : Nat) (c : Ctu) (x : CodeAcc) : (e.reached left c x).spent = x.spent := by
  unfold CodeEnv.reached
  dsimp only
  rw [hm, if_neg (by simp)]
  split <;> rfl

/-- The row tier stays on the ladder. -/
theorem nextTier_le {tier : Nat} (h : tier ≤ e.last) (before behind : Int) : e.nextTier tier before behind ≤ e.last := by
  unfold CodeEnv.nextTier
  split_ifs
  · exact min_le_right _ _
  · omega
  · exact h

theorem reached_rowTier (left : Nat) (c : Ctu) {x : CodeAcc} (h : x.rowTier ≤ e.last) : (e.reached left c x).rowTier ≤ e.last := by
  unfold CodeEnv.reached
  dsimp only
  split_ifs
  · exact nextTier_le h _ _
  · exact h
  · exact nextTier_le h _ _
  · exact h

theorem tierUsed_le (left : Nat) {x : CodeAcc} (h : x.rowTier ≤ e.last) : e.tierUsed left x ≤ e.last := by
  unfold CodeEnv.tierUsed CodeEnv.rowTier
  split_ifs
  · exact le_rfl
  · exact min_le_right _ _
  · exact h

/-! Clocks. -/

/-- What a CTU may spend leaves every CTU after it the last ceiling. -/
theorem clocksOf_le {n : Nat} (c : Ctu) {x : CodeAcc} (h : x.spent + (n + 1) * e.ceiling e.last ≤ e.frame) : x.spent + e.clocksOf (n + 1) c x + n * e.ceiling e.last ≤ e.frame := by
  rw [Nat.add_mul, Nat.one_mul] at h
  unfold CodeEnv.clocksOf
  split
  · have := min_le_left (e.ceiling e.last) c.floorClocks
    omega
  · have hmin := min_le_left (e.ceiling (e.tierUsed (n + 1) x)) (c.clocks.getD (e.tierUsed (n + 1) x) (c.clocks.getLastD 0))
    have htier : x.spent + e.ceiling (e.tierUsed (n + 1) x) + n * e.ceiling e.last ≤ e.frame := by
      unfold CodeEnv.tierUsed CodeEnv.guarded
      rw [Nat.add_sub_cancel]
      split
      · omega
      · next hg => exact not_lt.mp (of_decide_eq_false (Bool.not_eq_true _ ▸ hg))
    omega

theorem run_spent_le (hm : e.missed = []) : ∀ (n : Nat) (cs : List Ctu) (x : CodeAcc), x.spent + n * e.ceiling e.last ≤ e.frame → (e.run n cs x).spent ≤ e.frame
  | 0, _, x, h => by simpa [CodeEnv.run] using h
  | n + 1, cs, x, h => by
    unfold CodeEnv.run
    refine run_spent_le hm n _ _ ?_
    rw [code_spent]
    exact clocksOf_le _ (by rw [reached_spent hm]; exact h)

/-! Bits. -/

/-- What a CTU may take leaves every CTU after it its 64 bits. -/
theorem bitsOf_le {n : Nat} (c : Ctu) {x : CodeAcc} (h : x.bits + 64 * (n + 1) ≤ 8 * e.share) : x.bits + e.bitsOf (n + 1) c x + 64 * n ≤ 8 * e.share := by
  have hroom : e.room (n + 1) = 8 * e.share - 64 * n := by
    unfold CodeEnv.room keptBits
    omega
  unfold CodeEnv.bitsOf
  split
  · have := min_le_left 64 c.floorBits
    omega
  next hf =>
    have hleast : x.bits + c.least ≤ e.room (n + 1) := by
      unfold CodeEnv.floored at hf
      simp only [Bool.or_eq_true, decide_eq_true_eq, not_or, not_lt] at hf
      exact hf.1
    split <;> omega

theorem run_bits_le : ∀ (n : Nat) (cs : List Ctu) (x : CodeAcc), x.bits + 64 * n ≤ 8 * e.share → (e.run n cs x).bits ≤ 8 * e.share
  | 0, _, x, h => by simpa [CodeEnv.run] using h
  | n + 1, cs, x, h => by
    unfold CodeEnv.run
    refine run_bits_le n _ _ ?_
    rw [code_bits]
    exact bitsOf_le _ (by rw [reached_bits]; exact h)

/-! Tiers. -/

theorem sum_bumpAt : ∀ (i : Nat) (l : List Nat), i < l.length → (bumpAt i l).sum = l.sum + 1
  | 0, a :: l, _ => by simp [bumpAt]; omega
  | i + 1, a :: l, h => by
    have ih := sum_bumpAt i l (by simpa using h)
    simp only [bumpAt, List.modify_succ_cons, List.sum_cons] at ih ⊢
    omega

theorem run_perTier_sum (hlast : e.last < 8) : ∀ (n : Nat) (cs : List Ctu) (x : CodeAcc), x.rowTier ≤ e.last → x.perTier.length = 8 → (e.run n cs x).perTier.sum = x.perTier.sum + n
  | 0, _, _, _, _ => rfl
  | n + 1, cs, x, hrow, hlen => by
    have hreached := reached_rowTier (e := e) (n + 1) (cs.headD {}) hrow
    have hused := tierUsed_le (n + 1) hreached
    have hpush : (e.code (n + 1) (cs.headD {}) x).perTier = bumpAt (e.tierUsed (n + 1) (e.reached (n + 1) (cs.headD {}) x)) x.perTier := by rw [code_perTier, reached_perTier]
    unfold CodeEnv.run
    rw [run_perTier_sum hlast n cs.tail (e.code (n + 1) (cs.headD {}) x) hreached (by rw [hpush, bumpAt, List.length_modify]; exact hlen), hpush, sum_bumpAt _ _ (by omega)]
    omega

/-- Settles O26, by induction on the CTUs that are left. That a CTU at the floor counts at the tier in force is the model's choice of log entry 72. -/
theorem guardsKeepTheBudgets : Obligations.GuardsKeepTheBudgets := by
  intro e cs
  refine ⟨fun hm h => run_spent_le hm e.ctus cs _ (by simpa using h), fun h => run_bits_le e.ctus cs _ (by simpa using h), fun h => ?_⟩
  have hlast : e.last < 8 := by
    unfold CodeEnv.last
    omega
  exact (run_perTier_sum hlast e.ctus cs { qp := e.qp } (Nat.zero_le _) rfl).trans (Nat.zero_add _)

end Sys2Proof.Machine
end

section
/-! SUPPORT. The pair: its states, its paths and custody (R427, R433-R439). -/

namespace Sys2Proof.Machine
open Sys2Proof

/-! What each step of the pair touches. -/

def standbyMarks : List Mark := [.aud, .pair, .obj o1601_CUSTODY_HELD, .obj o1601_PAIR_STATE]
def pathMarks : List Mark := refMarks ++ [.obj o1601_IVARD_PATH, .obj o1601_HB_PATH]
def gapMarks : List Mark := [.aud, .pair, .obj o1601_PAIR_STATE]
def noteMarks : List Mark := .alarm .PAIR_ISOLATED :: mirrorMarks

namespace Blind

variable {M : List Mark} {α : Type} {f : State → α} (hf : Blind M f)
include hf

theorem setPairState (hp : .pair ∈ M) (ho : .obj o1601_PAIR_STATE ∈ M) (s : State) (v : Int) : f (s.setPairState v) = f s := (hf _ hp _ _ (.pair ..)).trans (hf.wr ho _ _ _)

theorem gapSound (h : .aud ∈ M) (s : State) : f s.gapSound = f s := hf _ h _ _ (.aud ..)

theorem toStandby (h : standbyMarks ⊆ M) (s : State) (sync : Bool) : f (s.toStandby sync) = f s := by
  have hx : ∀ s : State, f ((s.setCustody false).setPairState PAIR_STATE.standby) = f s := fun s => (hf.setPairState (h (by decide)) (h (by decide)) _ _).trans (hf.wr (h (by decide)) _ _ _)
  unfold State.toStandby
  refine (hf _ (h (by decide)) _ _ (.pair ..)).trans ((hx _).trans ?_)
  split
  · exact hf.gapSound (h (by decide)) s
  · rfl

theorem enterGap (h : gapMarks ⊆ M) (s : State) : f s.enterGap = f s := by
  unfold State.enterGap
  split
  · exact (hf _ (h (by decide)) _ _ (.aud ..)).trans (hf.setPairState (h (by decide)) (h (by decide)) _ _)
  · rfl

theorem noteIsolated (h : .alarm .PAIR_ISOLATED ∈ M) (s : State) : f s.noteIsolated = f s := hf.alarmWhile h _ _ _

/-- What a change in the pair ends with. -/
theorem notePair (h : noteMarks ⊆ M) (s : State) : f s.noteMirror.noteIsolated = f s := (hf.noteIsolated (h (by decide)) _).trans (hf.noteMirror (List.Subset.trans (by decide) h) s)

theorem setPath (h : pathMarks ⊆ M) (s : State) (k : Nat) (up : Bool) : f (s.setPath k up) = f s := by
  unfold State.setPath
  extract_lets x
  have hx : f x = f s := by
    dsimp only [x]
    split
    · exact hf.refLoss (List.Subset.trans (by decide) h) s 7
    · rfl
  split
  · exact (hf.wr (h (by decide)) _ _ _).trans hx
  · exact (hf.wr (h (by decide)) _ _ _).trans hx

theorem streamsRestart (h : .enc ∈ M) (s : State) : f s.streamsRestart = f s := foldl_blind (fun _ _ => hf _ h _ _ (.enc ..)) _ s

end Blind

/-- A path that is up. -/
theorem setPath_up (s : State) (k : Nat) : s.setPath k true = if k = 0 then s.wr o1601_IVARD_PATH 0 IVARD_PATH.up else s.wr o1601_HB_PATH 0 HB_PATH.up := by
  unfold State.setPath
  rw [if_neg (show ¬ (k = 0 ∧ true = false ∧ (s.cand 7).present = true) from fun h => Bool.noConfusion h.2.1)]
  rfl

theorem pathUp_setPath_up (s : State) (k : Nat) : (s.setPath k true).pathUp k = true := by
  rw [setPath_up]
  unfold State.pathUp
  split
  · rw [State.rd_wr_same]
    decide
  · rw [State.rd_wr_same]
    decide

theorem Blind.setPath_up {M : List Mark} {α : Type} {f : State → α} (hf : Blind M f) (hi : .obj o1601_IVARD_PATH ∈ M) (hh : .obj o1601_HB_PATH ∈ M) (s : State) (k : Nat) :
    f (s.setPath k true) = f s := by
  rw [Machine.setPath_up]
  split
  · exact hf.wr hi _ _ _
  · exact hf.wr hh _ _ _

/-- A path that falls silent is not up. -/
theorem pathUp_setPath_silent (s : State) (k : Nat) : (s.setPath k false).pathUp k = false := by
  have hread : ∀ (x : State) (o : Nat) (v w : Int), v ≠ w → ((x.wr o 0 v).rd o 0 == w) = false := fun x o v w hne => by
    rw [State.rd_wr_same]
    exact beq_eq_false_iff_ne.mpr hne
  have hnone : ∀ c : Bool, (if c = true then IVARD_PATH.silent else IVARD_PATH.none) ≠ IVARD_PATH.up := fun c => by cases c <;> decide
  unfold State.setPath State.pathUp
  dsimp only
  split
  · exact hread _ _ _ _ (hnone _)
  · exact hread _ _ _ _ (by decide)

/-- The paths as a reading. -/
theorem blind_pathUp {M : List Mark} (hi : .obj o1601_IVARD_PATH ∉ M) (hh : .obj o1601_HB_PATH ∉ M) (k : Nat) : Blind M (·.pathUp k) := by
  have hivard := blind_rd hi 0 (.inr (by decide))
  have hhb := blind_rd hh 0 (.inr (by decide))
  intro m hm s u ht
  exact congrArg₂ (fun a b : Int => if k = 0 then a == IVARD_PATH.up else b == HB_PATH.up) (hivard m hm s u ht) (hhb m hm s u ht)

/-! An alarm of any severity leaves a module that is not active in its pair state. -/

theorem LogBlind.raiseWith_idle {α : Type} {f : State → α} (hf : LogBlind f) {s : State} (h : s.pairState ≠ PAIR_STATE.active) (a : Alarm) (i sev subsys : Nat) (data : Bytes) :
    f (s.raiseWith a i sev subsys data) = f s := by
  have hidle : ∀ (x : State), x.pairState = s.pairState → f (x.autoRelease sev subsys) = f x := fun x hx => by
    unfold State.autoRelease State.ownRelease
    rw [if_neg (show ¬ x.rd o1601_PAIR_STATE 0 = PAIR_STATE.active from fun e => h (hx.symm.trans e)), ite_self]
  have hpair : LogBlind State.pairState := ⟨fun _ _ => rfl, fun s o r v ho => s.rd_wr_obj v (by rintro rfl; exact absurd ho (by decide))⟩
  unfold State.raiseWith
  dsimp only
  split
  · rfl
  · rw [hidle]
    · rw [hf.noteChange]
      split <;> simp only [hf.logRec, hf.setPoint]
    · rw [hpair.noteChange]
      split <;> simp only [hpair.logRec, hpair.setPoint]

theorem LogBlind.pulse_idle {α : Type} {f : State → α} (hf : LogBlind f) {s : State} (h : s.pairState ≠ PAIR_STATE.active) (a : Alarm) (i : Nat) : f (s.pulse a i) = f s :=
  (hf.clear _ _ _).trans (hf.raiseWith_idle h _ _ _ _ _)

theorem logBlind_pathUp (k : Nat) : LogBlind (·.pathUp k) :=
  ⟨fun _ _ => rfl, fun s _ r v ho => (blind_pathUp (M := logObjects.map .obj) (by decide) (by decide) k).wr (List.mem_map_of_mem ho) s r v⟩

theorem logBlind_rd {o : Nat} (h : o ∉ logObjects) (r : Nat) : LogBlind (·.rd o r) := ⟨fun _ _ => rfl, fun s _ _ v ho => s.rd_wr_obj v fun e => h (e ▸ ho)⟩

/-! To 'standby'. -/

theorem toStandby_pairState (s : State) (sync : Bool) : (s.toStandby sync).pairState = PAIR_STATE.standby := by
  unfold State.toStandby
  dsimp only
  generalize (if s.pairState = PAIR_STATE.gap then s.gapSound else s) = x
  exact (x.setCustody false).rd_wr_same o1601_PAIR_STATE 0 PAIR_STATE.standby

theorem toStandby_custody (s : State) (sync : Bool) : (s.toStandby sync).rd o1601_CUSTODY_HELD 0 = 0 := by
  unfold State.toStandby
  dsimp only
  generalize (if s.pairState = PAIR_STATE.gap then s.gapSound else s) = x
  exact ((x.setCustody false).rd_wr_obj (o := o1601_PAIR_STATE) PAIR_STATE.standby (by decide)).trans (x.rd_wr_same o1601_CUSTODY_HELD 0 0)

/-- What a module knows of its peer stays on the way to 'standby'. -/
theorem toStandby_peer (s : State) (sync : Bool) : (s.toStandby sync).pair.peerEpoch = s.pair.peerEpoch ∧ (s.toStandby sync).pair.lowFrom = s.pair.lowFrom := by
  unfold State.toStandby
  split <;> exact ⟨rfl, rfl⟩

end Sys2Proof.Machine
end

section
/-! SUPPORT. Heartbeats, paths and the Ivard link (R430-R434). -/

namespace Sys2Proof.Machine
open Sys2Proof

/-! What a valid heartbeat says of the peer. -/

/-- What a heartbeat writes beside the alarms that it clears. -/
def tellMarks : List Mark := [.pair, .obj o1601_PEER_STATE, .obj o1601_PEER_LEASE_END]
def heardMarks : List Mark := [.obj o1603_HB_RECEIVED, .obj o1601_IVARD_PATH, .obj o1601_HB_PATH] ++ tellMarks

theorem LogBlind.tellPeer {α : Type} {f : State → α} (hlog : LogBlind f) (hf : Blind tellMarks f) (s : State) (k : Nat) (b : Heartbeat) :
    f (s.notePeer k b) = f ((s.bump o1603_HB_RECEIVED k).setPath k true) :=
  (hf _ (by decide) _ _ (.pair ..)).trans ((hf.wr (by decide) _ _ _).trans ((hf.wr (by decide) _ _ _).trans ((hlog.clear _ _ _).trans (hlog.clear _ _ _))))

theorem notePeer_rd (s : State) (k : Nat) (b : Heartbeat) {o : Nat} (r : Nat) (h : .obj o ∉ heardMarks) (hlog : o ∉ logObjects) : (s.notePeer k b).rd o r = s.rd o r := by
  have hpath := (blind_rd (M := heardMarks) h r (.inl rfl)).setPath_up (by decide) (by decide) (s.bump o1603_HB_RECEIVED k) k
  have hbump := (blind_rd (M := heardMarks) h r (.inl rfl)).bump (o := o1603_HB_RECEIVED) (by decide) s k
  exact ((logBlind_rd hlog r).tellPeer (blind_rd (fun hm => h (List.mem_append_right _ hm)) r (.inl rfl)) s k b).trans (hpath.trans hbump)

theorem notePeer_pathUp (s : State) (k : Nat) (b : Heartbeat) : (s.notePeer k b).pathUp k = true :=
  ((logBlind_pathUp k).tellPeer (blind_pathUp (by decide) (by decide) k) s k b).trans (pathUp_setPath_up _ k)

theorem notePeer_received (s : State) (k : Nat) (b : Heartbeat) : (s.notePeer k b).rd o1603_HB_RECEIVED k = (s.rd o1603_HB_RECEIVED k + 1) % 2 ^ 64 := by
  have hmod : objModulus o1603_HB_RECEIVED = 2 ^ 64 := by decide
  have hpath := (blind_rd (M := [.obj o1601_IVARD_PATH, .obj o1601_HB_PATH]) (o := o1603_HB_RECEIVED) (by decide) k).setPath_up (by decide) (by decide) (s.bump o1603_HB_RECEIVED k) k
  rw [(logBlind_rd (o := o1603_HB_RECEIVED) (by decide) k).tellPeer (blind_rd (by decide) k) s k b, hpath, rd_bump_same, hmod]

/-! A heartbeat that takes the module to 'standby' (R434). -/

/-- The module steps back for its peer: from the gap, or as the active one with the lower epoch. -/
def State.stepsBack (s : State) (b : Heartbeat) : Prop := s.pairState = PAIR_STATE.gap ∨ s.pairState = PAIR_STATE.active ∧ b.state = 4 ∧ s.rdN o1601_EPOCH 0 < b.epoch

theorem hearPeer_standby {s : State} {b : Heartbeat} (h : s.stepsBack b) :
    ∃ sync, ∀ (α : Type) (f : State → α), LogBlind f → f (s.hearPeer b) = f (s.toStandby sync) := by
  unfold State.hearPeer
  dsimp only
  obtain hgap | ⟨hactive, hstate, hepoch⟩ := h
  · rw [if_pos hgap]
    exact ⟨_, fun _ _ _ => rfl⟩
  · have hidle : (s.toStandby true).pairState ≠ PAIR_STATE.active := by
      rw [toStandby_pairState]
      decide
    rw [if_neg (by rw [hactive]; decide), if_neg fun h => absurd (hactive.symm.trans h.1) (by decide), if_pos ⟨hactive, hstate, .inl hepoch⟩]
    exact ⟨true, fun _ f hf => hf.pulse_idle hidle _ _⟩

/-- A heartbeat of the peer that makes the module step back: 'standby', with what the heartbeat says of its sender. -/
theorem rxHeartbeat_standby {s : State} {k : Nat} {d : Bytes} (hlen : d.length = 32) (hid : (readHeartbeat d).pairId ≠ s.rdN o1600_PAIR_ID 0) (h : s.stepsBack (readHeartbeat d)) :
    ∃ sync, ∀ (α : Type) (f : State → α), LogBlind f → Blind noteMarks f → f (s.rxHeartbeat k d true) = f ((s.notePeer k (readHeartbeat d)).toStandby sync) := by
  have hpaired : s.paired = true := bne_iff_ne.mpr (by obtain h | ⟨h, -⟩ := h <;> rw [h] <;> decide)
  have hstate : (s.notePeer k (readHeartbeat d)).pairState = s.pairState := notePeer_rd s k _ 0 (by decide) (by decide)
  have hepoch : (s.notePeer k (readHeartbeat d)).rdN o1601_EPOCH 0 = s.rdN o1601_EPOCH 0 :=
    congrArg Int.toNat (notePeer_rd s k _ 0 (by decide) (by decide))
  have hback : (s.notePeer k (readHeartbeat d)).stepsBack (readHeartbeat d) := by
    unfold State.stepsBack
    rw [hstate, hepoch]
    exact h
  obtain ⟨sync, hsync⟩ := hearPeer_standby hback
  have hidle : ¬ (((s.notePeer k (readHeartbeat d)).hearPeer (readHeartbeat d)).pairState = PAIR_STATE.active ∧ (readHeartbeat d).state = 2 ∧ s.rd o1601_PEER_STATE 0 ≠ PEER_STATE.standby) := fun hn => by
    have hs := (hsync _ State.pairState (logBlind_rd (by decide) 0)).trans (toStandby_pairState _ _)
    exact absurd (hs.symm.trans hn.1) (by decide)
  refine ⟨sync, fun α f hlog hnote => ?_⟩
  unfold State.rxHeartbeat
  dsimp only
  rw [if_neg (by simp [hlen]), if_neg (by simp [hpaired]), if_neg hid, if_neg hidle]
  exact (hnote.notePair (List.Subset.refl _) _).trans (hsync _ f hlog)

/-- A release of custody keeps when the peer was heard. -/
theorem raise_heard (s : State) (a : Alarm) (i : Nat) : (s.raise a i).pair.heard = s.pair.heard := by
  have hlog : LogBlind (fun s : State => s.pair.heard) := ⟨fun _ _ => rfl, fun _ _ _ _ _ => rfl⟩
  have hrelease : ∀ (x : State) (sev sub : Nat), (x.autoRelease sev sub).pair.heard = x.pair.heard := fun x sev sub => by
    unfold State.autoRelease State.ownRelease
    split_ifs <;> rfl
  unfold State.raise State.raiseWith
  dsimp only
  split
  · rfl
  · rw [hrelease, hlog.noteChange]
    split <;> simp only [hlog.logRec, hlog.setPoint]

section
variable {s : State} {t k : Nat} {d : Bytes} (hp : s.powered = true)
include hp

theorem heartbeat_broken (hk : k < 2) : ∃ u, exec (.heartbeatRx t k d false) s = .next u ∧ u.rd o1603_HB_ERRORS k = (s.rd o1603_HB_ERRORS k + 1) % 2 ^ 64 ∧
    s.keepsRegs u [(o1603_HB_ERRORS, k)] ∧ u.works = s.works ∧ u.pair = s.pair := by
  have hmod : objModulus o1603_HB_ERRORS = 2 ^ 64 := by decide
  have hmin : min k 1 = k := by omega
  refine ⟨_, run_work (t := t) (f := (·.rxHeartbeat (min k 1) d false)) (w := (s.begin t).bump o1603_HB_ERRORS k) hp (by rw [hmin]; rfl), ?_, ?_, rfl, rfl⟩
  · exact (rd_bump_same (s.begin t) o1603_HB_ERRORS k).trans (by rw [hmod]; rfl)
  · exact (keepsRegs_refl s _).wr (u := s.begin t) _ (List.mem_singleton.mpr rfl)

theorem heartbeat_ownId (hk : k < 2) (hpaired : s.paired = true) (hlen : d.length = 32) (hid : (readHeartbeat d).pairId = s.rdN o1600_PAIR_ID 0) :
    ∃ u, exec (.heartbeatRx t k d true) s = .next u ∧ u.stands .PAIR_ID_CONFLICT k ∧ u.pair.heard = s.pair.heard := by
  have hmin : min k 1 = k := by omega
  have hrx : (s.begin t).rxHeartbeat (min k 1) d true = (s.begin t).raise .PAIR_ID_CONFLICT k := by
    rw [hmin]
    unfold State.rxHeartbeat
    exact (if_neg (by simp [hlen])).trans ((if_neg (by rw [show (s.begin t).paired = true from hpaired]; decide)).trans (if_pos hid))
  refine ⟨_, run_work (t := t) (f := (·.rxHeartbeat (min k 1) d true)) hp hrx, (finish_stands _ _ _ _).mpr (stands_raise_same _ _ _), raise_heard _ _ _⟩

theorem heartbeat_standby (hk : k < 2) (hlen : d.length = 32) (hid : (readHeartbeat d).pairId ≠ s.rdN o1600_PAIR_ID 0) (hback : s.stepsBack (readHeartbeat d)) :
    ∃ u, exec (.heartbeatRx t k d true) s = .next u ∧ u.pairState = PAIR_STATE.standby ∧ u.pathUp k = true ∧ u.rd o1601_CUSTODY_HELD 0 = 0 ∧
      u.rd o1603_HB_RECEIVED k = (s.rd o1603_HB_RECEIVED k + 1) % 2 ^ 64 ∧ u.pair.peerEpoch = (readHeartbeat d).epoch := by
  have hmin : min k 1 = k := by omega
  obtain ⟨sync, hf⟩ := rxHeartbeat_standby (s := s.begin t) (k := k) hlen hid hback
  have hstate := hf _ State.pairState (logBlind_rd (by decide) 0) (blind_rd_calm (by decide) 0 (by decide))
  have hpath := hf _ (·.pathUp k) (logBlind_pathUp k) (blind_pathUp (by decide) (by decide) k)
  have hheld := hf _ (·.rd o1601_CUSTODY_HELD 0) (logBlind_rd (by decide) 0) (blind_rd (by decide) 0)
  have hrec := hf _ (·.rd o1603_HB_RECEIVED k) (logBlind_rd (by decide) k) (blind_rd (by decide) k)
  have hepoch := hf _ (·.pair.peerEpoch) ⟨fun _ _ => rfl, fun _ _ _ _ _ => rfl⟩ ((blind_pair (M := noteMarks) (by decide)).comp Pair.peerEpoch)
  have hn := (blind_rd (M := standbyMarks) (o := o1603_HB_RECEIVED) (by decide) k).toStandby (List.Subset.refl _) ((s.begin t).notePeer k (readHeartbeat d)) sync
  have hu := (blind_pathUp (M := standbyMarks) (by decide) (by decide) k).toStandby (List.Subset.refl _) ((s.begin t).notePeer k (readHeartbeat d)) sync
  have hrun := run_work (t := t) (f := (·.rxHeartbeat (min k 1) d true)) (w := (s.begin t).rxHeartbeat k d true) hp (by rw [hmin])
  generalize (s.begin t).rxHeartbeat k d true = y at hrun hstate hpath hheld hrec hepoch
  exact ⟨_, hrun, hstate.trans (toStandby_pairState _ _), (hpath.trans hu).trans (notePeer_pathUp _ _ _), hheld.trans (toStandby_custody _ _),
    (hrec.trans hn).trans (notePeer_received _ _ _), hepoch.trans (toStandby_peer _ _).1⟩

/-! A path that falls silent (R433, R434). -/

/-- A path as it falls silent. -/
def State.pathFallen (s : State) (k : Nat) : State :=
  let y := ((s.setPath k false).bump o1603_PATH_LOSSES k).raise .PAIR_PATH_LOSS k
  { y with pair := { y.pair with silentFrom := y.pair.silentFrom.set k y.now } }

omit hp in
theorem pathSilent_eq (hpaired : s.paired = true) (hup : s.pathUp k = true) (hheard : s.pair.heard.getD k 0 + 125000 * s.rdN o1600_HB_TIMEOUT_CYCLES 0 ≤ s.now) :
    s.pathSilent k = (s.pathFallen k).enterGap.noteMirror.noteIsolated := by
  unfold State.pathSilent
  exact if_neg fun h => by
    obtain h | h | h := h
    · exact absurd (hpaired.symm.trans h) (by decide)
    · exact absurd (hup.symm.trans h) (by decide)
    · omega

/-- What the fall of a path touches beside its own reading. -/
def fallMarks : List Mark := .alarm .PAIR_PATH_LOSS :: .pair :: .obj o1603_PATH_LOSSES :: pathMarks

omit hp in
theorem Blind.pathFallen {α : Type} {f : State → α} (hf : Blind fallMarks f) (s : State) (k : Nat) : f (s.pathFallen k) = f s :=
  (hf _ (by decide) _ _ (.pair ..)).trans ((hf.raise (by decide) _ _).trans ((hf.bump (by decide) _ _).trans (hf.setPath (by decide) _ _ _)))

omit hp in
theorem pathFallen_up (s : State) (k : Nat) : (s.pathFallen k).pathUp k = false := by
  have hf := blind_pathUp (M := [.alarm .PAIR_PATH_LOSS, .obj o1603_PATH_LOSSES]) (by decide) (by decide) k
  exact ((hf.raise (by decide) _ _).trans (hf.bump (by decide) _ _)).trans (pathUp_setPath_silent s k)

omit hp in
theorem pathFallen_losses (s : State) (k : Nat) : (s.pathFallen k).rd o1603_PATH_LOSSES k = (s.rd o1603_PATH_LOSSES k + 1) % 4294967296 := by
  have hmod : objModulus o1603_PATH_LOSSES = 4294967296 := by decide
  have hpath := (blind_rd (M := pathMarks) (o := o1603_PATH_LOSSES) (by decide) k).setPath (List.Subset.refl _) s k false
  have hraise := (alarmBlind_rd (o := o1603_PATH_LOSSES) k (by decide)).raise ((s.setPath k false).bump o1603_PATH_LOSSES k) .PAIR_PATH_LOSS k
  refine hraise.trans ?_
  rw [rd_bump_same, hmod, hpath]

omit hp in
theorem pathFallen_stands (s : State) (k : Nat) : (s.pathFallen k).stands .PAIR_PATH_LOSS k := (stands_congr rfl _ _).mpr (stands_raise_same ((s.setPath k false).bump o1603_PATH_LOSSES k) .PAIR_PATH_LOSS k)

omit hp in
theorem enterGap_pairState (s : State) : s.enterGap.pairState = if s.bothSilent = true ∧ s.pairState = PAIR_STATE.standby then PAIR_STATE.gap else s.pairState := by
  unfold State.enterGap
  split
  · exact s.rd_wr_same o1601_PAIR_STATE 0 PAIR_STATE.gap
  · rfl

omit hp in
theorem bothSilent_of_down (hk : k < 2) (h : s.pathUp k = false) : s.bothSilent = !s.pathUp (1 - k) := by
  unfold State.bothSilent
  obtain rfl | rfl : k = 0 ∨ k = 1 := by omega
  · rw [h]
    rfl
  · rw [h, Bool.not_false, Bool.and_true]

omit hp in
/-- The other path stays as it is. -/
theorem pathFallen_other (hk : k < 2) (s : State) : (s.pathFallen k).pathUp (1 - k) = s.pathUp (1 - k) := by
  have hf := blind_pathUp (M := [.alarm .PAIR_PATH_LOSS, .obj o1603_PATH_LOSSES]) (by decide) (by decide) (1 - k)
  refine ((hf.raise (by decide) _ _).trans (hf.bump (by decide) _ _)).trans ?_
  unfold State.setPath
  obtain rfl | rfl : k = 0 ∨ k = 1 := by omega
  · have href : ∀ c : Prop, [Decidable c] → (if c then s.refLoss 7 else s).rd o1601_HB_PATH 0 = s.rd o1601_HB_PATH 0 := fun c _ => by
      split
      · exact (blind_rd (M := refMarks) (o := o1601_HB_PATH) (by decide) 0).refLoss (List.Subset.refl _) s 7
      · rfl
    exact congrArg (· == HB_PATH.up) ((State.rd_wr_obj _ _ (by decide)).trans (href _))
  · exact congrArg (· == IVARD_PATH.up) (s.rd_wr_obj (o := o1601_HB_PATH) HB_PATH.silent (by decide))

theorem path_falls (hk : k < 2) (hpaired : s.paired = true) (hup : s.pathUp k = true) (hheard : s.pair.heard.getD k 0 + 125000 * s.rdN o1600_HB_TIMEOUT_CYCLES 0 ≤ max s.now t) :
    ∃ u, exec (.hbPathSilent t k) s = .next u ∧ u.pathUp k = false ∧ u.rd o1603_PATH_LOSSES k = (s.rd o1603_PATH_LOSSES k + 1) % 4294967296 ∧ u.stands .PAIR_PATH_LOSS k ∧
      u.pairState = (if s.pathUp (1 - k) = false ∧ s.pairState = PAIR_STATE.standby then PAIR_STATE.gap else s.pairState) := by
  have hmin : min k 1 = k := by omega
  have hrun := run_work (t := t) (f := (·.pathSilent (min k 1))) (w := ((s.begin t).pathFallen k).enterGap.noteMirror.noteIsolated) hp (by rw [hmin]; exact pathSilent_eq (s := s.begin t) hpaired hup hheard)
  have hstands : (s.begin t).pathFallen k |>.enterGap.noteMirror.noteIsolated.stands .PAIR_PATH_LOSS k := by
    have hf := blind_stands (M := gapMarks ++ noteMarks) (a := .PAIR_PATH_LOSS) (by decide) (by decide) k
    exact (iff_of_eq ((hf.notePair (by decide) _).trans (hf.enterGap (by decide) _))).mpr (pathFallen_stands _ k)
  have hfall : ∀ {o : Nat}, Mark.obj o ∉ gapMarks ++ noteMarks → o ∉ alarmSideObjects → ((s.begin t).pathFallen k).enterGap.noteMirror.noteIsolated.rd o k = ((s.begin t).pathFallen k).rd o k := fun ho ha =>
    ((blind_rd ho k (.inr ha)).notePair (by decide) _).trans ((blind_rd ho k (.inr ha)).enterGap (by decide) _)
  have hlosses := (hfall (o := o1603_PATH_LOSSES) (by decide) (by decide)).trans (pathFallen_losses _ k)
  have hdown : ((s.begin t).pathFallen k).enterGap.noteMirror.noteIsolated.pathUp k = false := by
    have hf := blind_pathUp (M := gapMarks ++ noteMarks) (by decide) (by decide) k
    exact ((hf.notePair (by decide) _).trans (hf.enterGap (by decide) _)).trans (pathFallen_up _ k)
  have hstate : ((s.begin t).pathFallen k).enterGap.noteMirror.noteIsolated.pairState = if s.pathUp (1 - k) = false ∧ s.pairState = PAIR_STATE.standby then PAIR_STATE.gap else s.pairState := by
    have hnote := (blind_rd_calm (M := noteMarks) (o := o1601_PAIR_STATE) (by decide) 0 (by decide)).notePair (List.Subset.refl _) ((s.begin t).pathFallen k).enterGap
    have hkeep : ((s.begin t).pathFallen k).pairState = s.pairState := (blind_rd_calm (by decide) 0 (by decide)).pathFallen (s.begin t) k
    refine hnote.trans ((enterGap_pairState _).trans ?_)
    rw [hkeep, bothSilent_of_down hk (pathFallen_up _ k), pathFallen_other hk]
    exact if_congr (and_congr_left' (iff_of_eq (Bool.not_eq_true' _))) rfl rfl
  generalize ((s.begin t).pathFallen k).enterGap.noteMirror.noteIsolated = y at hrun hstands hlosses hdown hstate
  exact ⟨_, hrun, hdown, hlosses, (finish_stands _ _ _ _).mpr hstands, hstate⟩

/-! PEER_CUSTODY_IN (R434). -/

theorem peerCustody_high (hlisten : s.pairState = PAIR_STATE.listening) :
    ∃ u, exec (.peerCustodyIn t true) s = .next u ∧ u.pairState = PAIR_STATE.standby ∧ u.rd o1601_PEER_CUSTODY 0 = 1 := by
  have hwork : (s.begin t).peerCustody true = (((s.begin t).wr o1601_PEER_CUSTODY 0 1).toStandby true).noteMirror.noteIsolated := by
    have hl : ((s.begin t).wr o1601_PEER_CUSTODY 0 (boolVal true)).pairState = PAIR_STATE.listening := (State.rd_wr_obj _ _ (by decide)).trans hlisten
    unfold State.peerCustody
    dsimp only
    rw [if_pos (Eq.refl true), if_pos ⟨rfl, hl⟩]
    rfl
  have hrun := run_work (t := t) (f := (·.peerCustody true)) hp hwork
  have hstate := (blind_rd_calm (M := noteMarks) (o := o1601_PAIR_STATE) (by decide) 0 (by decide)).notePair (List.Subset.refl _) (((s.begin t).wr o1601_PEER_CUSTODY 0 1).toStandby true)
  have hpeer := (blind_rd (M := noteMarks) (o := o1601_PEER_CUSTODY) (by decide) 0).notePair (List.Subset.refl _) (((s.begin t).wr o1601_PEER_CUSTODY 0 1).toStandby true)
  have hkept := (blind_rd (M := standbyMarks) (o := o1601_PEER_CUSTODY) (by decide) 0).toStandby (List.Subset.refl _) ((s.begin t).wr o1601_PEER_CUSTODY 0 1) true
  generalize (((s.begin t).wr o1601_PEER_CUSTODY 0 1).toStandby true).noteMirror.noteIsolated = y at hrun hstate hpeer
  exact ⟨_, hrun, hstate.trans (toStandby_pairState _ _), hpeer.trans (hkept.trans (State.rd_wr_same _ _ _ _))⟩

/-- PEER_CUSTODY_IN low, from now. -/
def State.peerLow (s : State) : State := { s.wr o1601_PEER_CUSTODY 0 0 with pair := { s.pair with lowFrom := s.now } }

theorem peerCustody_low : ∃ u, exec (.peerCustodyIn t false) s = .next u ∧ u.pairState = s.pairState ∧ u.rd o1601_PEER_CUSTODY 0 = 0 ∧ u.pair.lowFrom = max s.now t := by
  have hwork : (s.begin t).peerCustody false = (s.begin t).peerLow.noteMirror.noteIsolated := rfl
  have hrun := run_work (t := t) (f := (·.peerCustody false)) hp hwork
  have hstate := (blind_rd_calm (M := noteMarks) (o := o1601_PAIR_STATE) (by decide) 0 (by decide)).notePair (List.Subset.refl _) (s.begin t).peerLow
  have hpeer := (blind_rd (M := noteMarks) (o := o1601_PEER_CUSTODY) (by decide) 0).notePair (List.Subset.refl _) (s.begin t).peerLow
  have hlow := ((blind_pair (M := noteMarks) (by decide)).comp Pair.lowFrom).notePair (List.Subset.refl _) (s.begin t).peerLow
  generalize (s.begin t).peerLow.noteMirror.noteIsolated = y at hrun hstate hpeer hlow
  exact ⟨_, hrun, hstate.trans ((s.begin t).rd_wr_obj (o := o1601_PEER_CUSTODY) 0 (by decide)), hpeer.trans ((s.begin t).rd_wr_same o1601_PEER_CUSTODY 0 0), hlow⟩

/-! The Ivard link (R430, R431). -/

theorem ivard_stray : ∃ u, exec (.ivardFrameRx t .stray) s = .next u ∧ u.rd o1603_HB_ERRORS 0 = (s.rd o1603_HB_ERRORS 0 + 1) % 2 ^ 64 ∧ s.keepsRegs u [(o1603_HB_ERRORS, 0)] ∧
    u.works = s.works ∧ u.pair = s.pair := by
  have hmod : objModulus o1603_HB_ERRORS = 2 ^ 64 := by decide
  refine ⟨_, run_work (t := t) (f := fun s => s.rxIvard applyMirror .stray) (w := (s.begin t).bump o1603_HB_ERRORS 0) hp rfl, ?_, ?_, rfl, rfl⟩
  · exact (rd_bump_same (s.begin t) o1603_HB_ERRORS 0).trans (by rw [hmod]; rfl)
  · exact (keepsRegs_refl s _).wr (u := s.begin t) _ (List.mem_singleton.mpr rfl)

omit hp in
theorem ivard_setIvard (s : State) (k : Nat) (x : IvardChan) : (s.setIvard k x).ivard k = x := by simp [State.ivard, State.setIvard]

omit hp in
/-- Frames that an ACK does not acknowledge wait on. -/
theorem acked_of_length (ack : Nat) (l : List (Nat × List MirrorEntry)) (h : ¬ (acked ack l).length < l.length) : acked ack l = l := by
  unfold acked at h ⊢
  split at h
  next hany =>
    exfalso
    obtain ⟨e, he, hack⟩ := List.any_eq_true.mp hany
    have hdrop := (List.dropWhile_suffix (l := l) fun e => e.1 != ack).length_le
    have hne : l.dropWhile (fun e => e.1 != ack) ≠ [] := fun hnil => by
      have := List.dropWhile_eq_nil_iff.mp hnil e he
      simp only [bne_iff_ne, ne_eq] at this
      exact this (beq_iff_eq.mp hack)
    have hpos := List.length_pos_iff.mpr hne
    rw [List.length_drop] at h
    omega
  next hany => exact if_neg hany

omit hp in
theorem takeAck_ivard (s : State) (k ack : Nat) : ((s.takeAck k ack).ivard k).unacked = acked ack (s.ivard k).unacked ∧ ((s.takeAck k ack).ivard k).lastRx = (s.ivard k).lastRx := by
  unfold State.takeAck
  dsimp only
  split
  · rw [ivard_setIvard]
    exact ⟨rfl, rfl⟩
  next h => exact ⟨(acked_of_length ack _ h).symm, rfl⟩

omit hp in
theorem takeAck_frame (s : State) (k ack : Nat) : ∃ x, s.takeAck k ack = { s with pair := x } := by
  unfold State.takeAck
  dsimp only
  split
  · exact ⟨_, rfl⟩
  · exact ⟨s.pair, rfl⟩

/-- A frame of channel 1 or 2, in order and whole (R430). -/
structure InOrder (s : State) (k seq : Nat) (start data fin : Bytes) : Prop where
  channel : k = 1 ∨ k = 2
  starts : start.length = 7
  ends : fin.length = 7
  number : fieldNat 0 1 start = k
  next : fieldNat 1 3 start = (seq + 1) % 16777216
  length : data.length = 8 * fieldNat 4 2 start
  pos : 0 < data.length
  fits : fieldNat 4 2 start ≤ 1024
  crc : crc32c (start ++ data) = fieldNat 0 4 fin
  last : (s.ivard k).lastRx = some seq

/-- A channel that has taken a frame with its ACK. -/
def State.frameTaken (s : State) (k seq ack : Nat) : State := (s.takeAck k ack).setIvard k { (s.takeAck k ack).ivard k with lastRx := some seq }

omit hp in
theorem frameTaken_ivard (s : State) (k seq ack : Nat) : ((s.frameTaken k seq ack).ivard k).lastRx = some seq ∧ ((s.frameTaken k seq ack).ivard k).unacked = acked ack (s.ivard k).unacked := by
  unfold State.frameTaken
  rw [ivard_setIvard]
  exact ⟨rfl, (takeAck_ivard s k ack).1⟩

omit hp in
theorem frameTaken_frame (s : State) (k seq ack : Nat) : ∃ x, s.frameTaken k seq ack = { s with pair := x } := by
  obtain ⟨x, hx⟩ := takeAck_frame s k ack
  unfold State.frameTaken
  rw [hx]
  exact ⟨_, rfl⟩

omit hp in
/-- Such a frame on an active module: taken, and acknowledged. -/
theorem rxIvard_inOrder {seq : Nat} {start fin : Bytes} (items : List IvardItem) (hactive : s.pairState = PAIR_STATE.active) (h : InOrder s k seq start d fin) :
    ∃ e, s.rxIvard applyMirror (.frame start d fin items) = (s.frameTaken k ((seq + 1) % 16777216) (fieldNat 4 3 fin)).emit e := by
  have hpaired : s.paired = true := bne_iff_ne.mpr (by rw [hactive]; decide)
  have hlen := h.length
  have hpos := h.pos
  have hnext := h.next
  have hlast := (takeAck_ivard s k (fieldNat 4 3 fin)).2.trans h.last
  obtain ⟨x, hx⟩ := frameTaken_frame s k ((seq + 1) % 16777216) (fieldNat 4 3 fin)
  have hstandby : (s.frameTaken k ((seq + 1) % 16777216) (fieldNat 4 3 fin)).isStandby = false := by
    rw [hx]
    unfold State.isStandby
    rw [show State.rd { s with pair := x } o1601_PAIR_STATE 0 = PAIR_STATE.active from hactive]
    exact Bool.and_false _
  have hwhole : ¬ (start.length ≠ 7 ∨ fin.length ≠ 7 ∨ d.length ≠ 8 * fieldNat 4 2 start ∨ 1024 < fieldNat 4 2 start ∨ crc32c (start ++ d) ≠ fieldNat 0 4 fin) := by
    simp [h.starts, h.ends, hlen, h.crc, not_lt.mpr h.fits]
  have hchannel : fieldNat 0 1 start ≠ 0 ∧ ¬ (s.paired = false ∨ 2 < fieldNat 0 1 start) := by
    obtain hk | hk := h.channel <;> simp [h.number, hk, hpaired]
  have horder : ¬ (fieldNat 4 2 start = 0 ∨ ((seq + 1) % 16777216 == (seq + 1) % 16777216) = false) := by
    rw [beq_self_eq_true]
    rintro (hzero | hfalse)
    · omega
    · exact Bool.noConfusion hfalse
  unfold State.rxIvard
  dsimp only
  rw [if_neg hwhole, if_neg hchannel.1, if_neg hchannel.2]
  simp only [h.number, hlast, hnext]
  rw [if_neg horder]
  unfold State.frameTaken at hstandby ⊢
  rw [if_neg (by rw [hstandby]; decide)]
  exact ⟨_, rfl⟩

theorem ivard_acknowledged {seq : Nat} {start fin : Bytes} (items : List IvardItem) (hactive : s.pairState = PAIR_STATE.active) (h : InOrder s k seq start d fin) :
    ∃ u, exec (.ivardFrameRx t (.frame start d fin items)) s = .next u ∧ (u.ivard k).lastRx = some ((seq + 1) % 16777216) ∧
      (u.ivard k).unacked = acked (fieldNat 4 3 fin) (s.ivard k).unacked ∧ s.keepsRegs u [] ∧ u.works = s.works := by
  obtain ⟨e, he⟩ := rxIvard_inOrder (s := s.begin t) items hactive { h with last := h.last }
  obtain ⟨hlast, hunacked⟩ := frameTaken_ivard (s.begin t) k ((seq + 1) % 16777216) (fieldNat 4 3 fin)
  obtain ⟨x, hx⟩ := frameTaken_frame (s.begin t) k ((seq + 1) % 16777216) (fieldNat 4 3 fin)
  have hrun := run_work (t := t) (f := fun s => s.rxIvard applyMirror (.frame start d fin items)) hp he
  rw [hx] at hrun hlast hunacked
  exact ⟨_, hrun, hlast, hunacked, keepsRegs_refl s _, rfl⟩

omit hp in
theorem foldl_emit {α : Type} (g : α → Out) (l : List α) (s : State) : l.foldl (fun s e => s.emit (g e)) s = { s with out := s.out ++ l.map g } := by
  induction l generalizing s with
  | nil => simp
  | cons a l ih =>
    rw [List.foldl_cons, ih]
    simp [State.emit]

theorem ivard_resent (hwait : (s.ivard k).unacked ≠ []) (hdue : (s.ivard k).movedAt + 50000 ≤ max s.now t) :
    ∃ u, exec (.ivardResendTimeout t k) s = .next u ∧ u.out = s.out ++ (s.ivard k).unacked.map (fun e => .ivard k e.1 ((s.ivard k).lastRx.getD 0) e.2) ∧
      (u.ivard k).unacked = (s.ivard k).unacked ∧ s.keepsRegs u [] ∧ u.works = s.works := by
  have hwork : (s.begin t).ivardResend k = { (s.begin t).setIvard k { s.ivard k with movedAt := max s.now t } with
      out := s.out ++ (s.ivard k).unacked.map (fun e => .ivard k e.1 ((s.ivard k).lastRx.getD 0) e.2) } := by
    unfold State.ivardResend
    refine (if_neg ?_).trans (foldl_emit _ _ _)
    rintro (hnil | hearly)
    · exact hwait hnil
    · exact absurd hearly (not_lt.mpr hdue)
  have hkept := congrArg IvardChan.unacked (ivard_setIvard (s.begin t) k { s.ivard k with movedAt := max s.now t })
  exact ⟨_, run_work (t := t) (f := (·.ivardResend k)) hp hwork, rfl, hkept, keepsRegs_refl s _, rfl⟩

omit hp in
/-- A tick of the peer is placed against one of the nearest ticks of the module's own (R431). -/
theorem rxTick_eq (s : State) (d fcnt peerTx : Nat) : ∃ (n off : Int) (skew : Bool), (n = (s.fcnt d : Int) ∨ n = s.fcnt d + 1 ∨ n = s.fcnt d - 1) ∧
    s.rxTick d fcnt peerTx = ((s.wr o1602_PEER_TICK_OFFSET_NS d off).wr o1602_FCNT_OFFSET d ((fcnt : Int) - n)).alarmWhile .PAIR_TICK_SKEW d skew := by
  unfold State.rxTick
  dsimp only
  split_ifs
  · exact ⟨_, _, _, .inr (.inl rfl), rfl⟩
  · exact ⟨_, _, _, .inr (.inr rfl), rfl⟩
  · exact ⟨_, _, _, .inl rfl, rfl⟩

theorem ivard_tick (fcnt peerTx : Nat) (hpaired : s.paired = true) (hk : k < 4) :
    ∃ u n, exec (.ivardTickRx t k fcnt peerTx) s = .next u ∧ (n = (s.fcnt k : Int) ∨ n = s.fcnt k + 1 ∨ n = s.fcnt k - 1) ∧ u.rd o1602_FCNT_OFFSET k = (fcnt : Int) - n ∧
      (∀ d, d ≠ k → u.rd o1602_FCNT_OFFSET d = s.rd o1602_FCNT_OFFSET d) ∧ u.works = s.works := by
  obtain ⟨n, off, skew, hn, hrx⟩ := rxTick_eq (s.begin t) k fcnt peerTx
  have hwork : (if ((s.begin t).paired && decide (k < 4)) = true then (s.begin t).rxTick k fcnt peerTx else s.begin t) = (s.begin t).rxTick k fcnt peerTx :=
    if_pos (by rw [show (s.begin t).paired = true from hpaired, decide_eq_true hk]; rfl)
  have hrun := run_work (t := t) (f := fun s => if (s.paired && decide (k < 4)) = true then s.rxTick k fcnt peerTx else s) hp (hwork.trans hrx)
  have hrd : ∀ d, _ := fun d => (alarmBlind_rd (o := o1602_FCNT_OFFSET) d (by decide)).alarmWhile (((s.begin t).wr o1602_PEER_TICK_OFFSET_NS k off).wr o1602_FCNT_OFFSET k ((fcnt : Int) - n))
    .PAIR_TICK_SKEW k skew
  have hworks := alarmBlind_works.alarmWhile (((s.begin t).wr o1602_PEER_TICK_OFFSET_NS k off).wr o1602_FCNT_OFFSET k ((fcnt : Int) - n)) .PAIR_TICK_SKEW k skew
  have horders := alarmBlind_orders.alarmWhile (((s.begin t).wr o1602_PEER_TICK_OFFSET_NS k off).wr o1602_FCNT_OFFSET k ((fcnt : Int) - n)) .PAIR_TICK_SKEW k skew
  generalize State.alarmWhile _ _ _ _ = y at hrun hrd hworks horders
  refine ⟨_, n, hrun, hn, (hrd k).trans (State.rd_wr_same _ _ _ _), fun d hd => (hrd d).trans ?_, (finish_works (u := y) horders (mem_of_works hworks)).trans hworks⟩
  exact (State.rd_wr_ne _ _ fun e => hd (congrArg Prod.snd e)).trans (State.rd_wr_obj _ _ (by decide))

theorem link_rtt {rtt : Nat} (hpaired : s.paired = true) (hup : s.pathUp 0 = true) (hr : rtt < 4294967296) :
    ∃ u, exec (.linkRttMeasure t rtt) s = .next u ∧ u.rd o1601_LINK_RTT_NS 0 = rtt ∧ s.keepsRegs u [(o1601_LINK_RTT_NS, 0)] ∧ u.works = s.works := by
  have hwork : (if ((s.begin t).paired && (s.begin t).pathUp 0) = true then (s.begin t).wr o1601_LINK_RTT_NS 0 (rtt % 4294967296 : Nat) else s.begin t) =
      (s.begin t).wr o1601_LINK_RTT_NS 0 rtt := by
    rw [show (s.begin t).paired = true from hpaired, show (s.begin t).pathUp 0 = true from hup, Nat.mod_eq_of_lt hr]
    rfl
  refine ⟨_, run_work (t := t) (f := fun s => if (s.paired && s.pathUp 0) = true then s.wr o1601_LINK_RTT_NS 0 (rtt % 4294967296 : Nat) else s) hp hwork, (s.begin t).rd_wr_same _ _ _, ?_, rfl⟩
  exact (keepsRegs_refl s _).wr (u := s.begin t) _ (List.mem_singleton.mpr rfl)

end

/-- Settles O49. That a CRC is counted in whatever pair state, and which tick is the nearest, are the model's choices of log entries 117 and 122. -/
theorem peersAndTheirFramesAreHeard : Obligations.PeersAndTheirFramesAreHeard := by
  refine ⟨fun s t k d hp hk => ⟨heartbeat_broken hp hk, heartbeat_ownId hp hk, heartbeat_standby hp hk, path_falls hp hk, peerCustody_high hp, peerCustody_low hp⟩,
    fun s t k hp => ⟨ivard_stray hp, ?_, ivard_resent hp, ivard_tick hp, fun rtt => link_rtt hp⟩⟩
  intro start data fin items seq hchannel hstart hfin hnumber hnext hlen hpos hfits hcrc hactive hlast
  exact ivard_acknowledged hp items hactive ⟨hchannel, hstart, hfin, hnumber, hnext, hlen, hpos, hfits, hcrc, hlast⟩

end Sys2Proof.Machine
end

section
/-! SUPPORT. What a change of plan leaves alone (R50, R53): the objects of the supply, of the device and of the pair, the banks and their swap, and the parts of the control system. -/

namespace Sys2Proof.Machine
open Sys2Proof

/-- Marks that a change of plan never touches. -/
def offPlan : Mark → Bool
  | .obj o => [0x1400, 0x1401, 0x1600, 0x1601].contains (o / 256) || (tdList.map lastChangeover).contains o
  | .clk | .ctl | .led | .ptp | .pwr | .sec | .pair | .mem | .orders | .out | .free | .last => true
  | _ => false

/-- A reading of the state that sees none of what a change of plan may touch. -/
def PlanBlind {α : Type} (f : State → α) : Prop := ∀ m, offPlan m = false → ∀ s u, Touch m s u → f u = f s

theorem planBlind_rd {o : Nat} (r : Nat) (h : offPlan (.obj o) = true) (ho : o ∉ alarmSideObjects) : PlanBlind (·.rd o r) := fun m hm =>
  blind_rd (M := [m]) (fun e => Bool.false_ne_true (hm.symm.trans (List.mem_singleton.mp e ▸ h))) r (.inr ho) m (List.mem_singleton_self m)

theorem planBlind_led : PlanBlind State.led := fun m hm => blind_led (M := [m]) (fun e => Bool.false_ne_true (hm.symm.trans (List.mem_singleton.mp e ▸ rfl))) m (List.mem_singleton_self m)
theorem planBlind_pwr : PlanBlind State.pwr := fun m hm => blind_pwr (M := [m]) (fun e => Bool.false_ne_true (hm.symm.trans (List.mem_singleton.mp e ▸ rfl))) m (List.mem_singleton_self m)
theorem planBlind_ctl : PlanBlind State.ctl := fun m hm => blind_ctl (M := [m]) (fun e => Bool.false_ne_true (hm.symm.trans (List.mem_singleton.mp e ▸ rfl))) m (List.mem_singleton_self m)
theorem planBlind_now : PlanBlind State.now := fun m _ => blind_now (M := [m]) m (List.mem_singleton_self m)

/-- A module that does not hold custody stays what it is beside every alarm, of whatever severity. -/
def State.pairClass (s : State) : Int := if s.pairState = PAIR_STATE.active then PAIR_STATE.releasing else s.pairState

theorem pairState_of_class {s : State} {v : Int} (h : s.pairClass = v) (hv : v ≠ PAIR_STATE.releasing) : s.pairState = v := by
  unfold State.pairClass at h
  split at h
  · exact absurd h.symm hv
  · exact h

theorem pairClass_of_state {s : State} {v : Int} (h : s.pairState = v) (hv : v ≠ PAIR_STATE.active) : s.pairClass = v := by
  unfold State.pairClass
  rw [h, if_neg hv]

theorem autoRelease_pairClass (s : State) (sev subsys : Nat) : (s.autoRelease sev subsys).pairClass = s.pairClass := by
  unfold State.autoRelease State.ownRelease
  split_ifs with _ h
  · have hstart : s.startRelease.pairState = PAIR_STATE.releasing := State.rd_wr_same (s.wr o1601_LEASE_END 0 _) o1601_PAIR_STATE 0 PAIR_STATE.releasing
    unfold State.pairClass
    rw [hstart, if_pos (show s.pairState = PAIR_STATE.active from h)]
    rfl
  · rfl
  · rfl

theorem logBlind_pairClass : LogBlind State.pairClass where
  alm := fun _ _ => rfl
  wr := fun s o r v ho => by
    have hpair : (s.wr o r v).pairState = s.pairState := s.rd_wr_obj v fun e => by
      subst e
      exact absurd ho (by decide)
    unfold State.pairClass
    rw [hpair]

theorem pairClass_touch {a : Alarm} {s u : State} (h : AlarmTouch a s u) : u.pairClass = s.pairClass := by
  cases h with
  | raise i sev subsys data =>
    unfold State.raiseWith
    dsimp only
    split
    · rfl
    · rw [autoRelease_pairClass, logBlind_pairClass.noteChange]
      split <;> simp only [logBlind_pairClass.logRec, logBlind_pairClass.setPoint]
  | clear => exact logBlind_pairClass.clear _ _ _
  | quiet => rfl
  | reSeverity => exact logBlind_pairClass.reSeverity _ _ _ _

theorem blind_pairClass {M : List Mark} (h : .obj o1601_PAIR_STATE ∉ M) : Blind M State.pairClass := by
  intro m hm s u ht
  cases ht with
  | wr _ o r v =>
    have hpair : (s.wr o r v).pairState = s.pairState := s.rd_wr_obj v fun e => h (e ▸ hm)
    unfold State.pairClass
    rw [hpair]
  | alarm ht => exact pairClass_touch ht
  | _ => rfl

theorem planBlind_pairClass : PlanBlind State.pairClass := fun m hm =>
  blind_pairClass (M := [m]) (fun e => by rw [← List.mem_singleton.mp e] at hm; exact absurd hm (by decide)) m (List.mem_singleton_self m)

theorem foldl_blind_mem {α β : Type} {f : State → α} {g : State → β → State} {l : List β} (h : ∀ x ∈ l, ∀ s, f (g s x) = f s) (s : State) : f (l.foldl g s) = f s := by
  induction l generalizing s with
  | nil => rfl
  | cons x l ih => exact (ih (fun y hy => h y (.tail _ hy)) _).trans (h x (.head _) _)

namespace PlanBlind

variable {α : Type} {f : State → α} (hf : PlanBlind f)
include hf

theorem blind (M : List Mark) (h : M.all (fun m => !offPlan m) = true) : Blind M f := fun m hm => hf m (by simpa using List.all_eq_true.mp h m hm)

theorem wr {o : Nat} (h : offPlan (.obj o) = false) (s : State) (r : Nat) (v : Int) : f (s.wr o r v) = f s := hf _ h _ _ (.wr ..)
theorem bump {o : Nat} (h : offPlan (.obj o) = false) (s : State) (r : Nat) : f (s.bump o r) = f s := hf _ h _ _ (.wr ..)
theorem wrOct (s : State) (o r : Nat) (b : Bytes) : f (s.wrOct o r b) = f s := hf (.oct o) rfl _ _ (.wrOct ..)
theorem raise (s : State) (a : Alarm) (i : Nat) : f (s.raise a i) = f s := (hf.blind [.alarm a] rfl).raise (.head _) s i
theorem clear (s : State) (a : Alarm) (i : Nat) : f (s.clear a i) = f s := (hf.blind [.alarm a] rfl).clear (.head _) s i
theorem alarmWhile (s : State) (a : Alarm) (i : Nat) (c : Bool) : f (s.alarmWhile a i c) = f s := (hf.blind [.alarm a] rfl).alarmWhile (.head _) s i c
theorem reSeverity (s : State) (a : Alarm) (i sev : Nat) : f (s.reSeverity a i sev) = f s := hf (.alarm a) rfl _ _ (.alarm (.reSeverity ..))

/-- A list of objects takes a list of values. -/
theorem wrs {β : Type} (l : List (Nat × β)) (r : Nat) (v : β → Int) (s : State) (h : (l.map (·.1)).all (fun o => !offPlan (.obj o)) = true) :
    f (l.foldl (fun s e => s.wr e.1 r (v e.2)) s) = f s :=
  foldl_blind_mem (fun e he s => hf.wr (by simpa using List.all_eq_true.mp h e.1 (List.mem_map_of_mem he)) s r _) s

/-- A list of objects returns to their defaults, or to other values of each. -/
theorem wrAll (l : List Nat) (r : Nat) (v : Nat → Int) (s : State) (h : l.all (fun o => !offPlan (.obj o)) = true) : f (l.foldl (fun s o => s.wr o r (v o)) s) = f s :=
  foldl_blind_mem (fun o ho s => hf.wr (by simpa using List.all_eq_true.mp h o ho) s r _) s

/-! Media transport (R148, R163, R167). -/

theorem setSdi (s : State) (l : Nat) (x : SdiIn) : f (s.setSdi l x) = f s := (hf.blind sdiMarks rfl).setSdi (List.Subset.refl _) s l x
theorem setSdiState (s : State) (l : Nat) (st : Int) : f (s.setSdiState l st) = f s := (hf.blind sdiMarks rfl).setSdiState (List.Subset.refl _) s l st
theorem setBuf (s : State) (ep : Nat) (x : Buf) : f (s.setBuf ep x) = f s := (hf.blind sdiMarks rfl).setBuf (List.Subset.refl _) s ep x
theorem setFlow (s : State) (k : Nat) (x : Flow) : f (s.setFlow k x) = f s := hf .med rfl _ _ (.med ..)

theorem sdiPlan (s : State) : f s.sdiPlan = f s := by
  unfold State.sdiPlan
  dsimp only
  refine (foldl_blind (fun s l => (hf.blind sdiMarks rfl).laneEnteredUp (List.Subset.refl _) s l) _ _).trans ?_
  refine (foldl_blind (fun s l => ?_) _ _).trans (foldl_blind (fun s l => ?_) _ s)
  · split <;> exact (hf.wr (by decide) _ _ _).trans (hf.wr (by decide) _ _ _)
  · split
    · have hset : ∀ x : Nat × Nat × Bytes, f (((s.wr o3540_SDI_IN_ENDPOINT l x.1).wr o3540_SDI_IN_LINKS l x.2.1).wrOct o3540_LINK_LANES l x.2.2) = f s := fun x =>
        (hf.wrOct _ _ _ _).trans ((hf.wr (by decide) _ _ _).trans (hf.wr (by decide) _ _ _))
      split
      · exact hset (_, _, _)
      · exact (hf.setSdiState _ _ _).trans ((hf.setSdi _ _ _).trans (hset (_, _, _)))
    · split
      · rfl
      · exact (hf.setSdi _ _ _).trans ((hf.wrOct _ _ _ _).trans ((hf.wr (by decide) _ _ _).trans ((hf.wr (by decide) _ _ _).trans ((hf.setSdiState _ _ _).trans (hf.setSdiState _ _ _)))))

theorem noteOutRow (s : State) (k : Nat) : f (s.noteOutRow k) = f s := by
  have hset : ∀ (s : State) (a b c d e g : Int), f ((((((s.wr o3700_TX_KIND k a).wr o3700_TX_ENDPOINT k b).wr o3700_TX_LANE_P k c).wr o3700_TX_LANE_S k d).wr o3700_SENDER_TYPE k e).wr
      o3700_PACKET_LAYOUT k g) = f s := fun s a b c d e g =>
    (hf.wr (by decide) _ _ _).trans ((hf.wr (by decide) _ _ _).trans ((hf.wr (by decide) _ _ _).trans ((hf.wr (by decide) _ _ _).trans ((hf.wr (by decide) _ _ _).trans (hf.wr (by decide) _ _ _)))))
  unfold State.noteOutRow
  refine (hf.wr (by decide) _ _ _).trans ?_
  split <;> exact hset ..

theorem enqueue (s : State) (l c q : Nat) (x : EgFrame) : f (s.enqueue l c q x) = f s := by
  have hflush : Blind flushMarks f := hf.blind _ rfl
  unfold State.enqueue
  dsimp only
  split_ifs
  · rfl
  · exact ((hf.blind [.alarm .EG_QUEUE_DROP] rfl).raiseQuiet (.head _) _ _).trans (hf.bump (by decide) _ _)
  · exact (hflush.flushPort (List.Subset.refl _) _ _).trans ((hflush.setQueue (List.Subset.refl _) _ _ _ _ _).trans ((hf.blind creditMarks rfl).accrue (List.Subset.refl _) _ _))

theorem leaveRow (s : State) (k : Nat) : f (s.leaveRow k) = f s := foldl_blind (fun s a => (hf.bump (by decide) _ _).trans (hf.enqueue s _ _ _ _)) _ s

theorem flowFeeds (s : State) (k : Nat) (up : Bool) : f (s.flowFeeds k up) = f s := by
  have hsdi : Blind sdiMarks f := hf.blind _ rfl
  have hset : ∀ b n x, f ((if up then s.audioBack b n else s.audioLost b n).setFlow k x) = f s := fun b n x => by
    refine (hf.setFlow _ _ _).trans ?_
    split
    · exact hsdi.audioBack (List.Subset.refl _) _ _ _
    · exact hsdi.audioLost (List.Subset.refl _) _ _ _
  have hfeed : ∀ y, f (if State.flowVideo y k then if up then y.feedUp (y.rdN o3600_ENDPOINT k) else y.feedDown (y.rdN o3600_ENDPOINT k) else y) = f y := fun y => by
    split_ifs
    · exact hsdi.feedUp (List.Subset.refl _) _ _
    · exact hsdi.feedDown (List.Subset.refl _) _ _
    · rfl
  unfold State.flowFeeds
  dsimp only
  exact (hfeed _).trans (hset _ _ _)

theorem setFlowState (s : State) (k : Nat) (st : Int) : f (s.setFlowState k st) = f s := by
  unfold State.setFlowState
  extract_lets x
  have hx : f x = f s := (hf.alarmWhile _ _ _ _).trans ((hf.alarmWhile _ _ _ _).trans (hf.wr (by decide) _ _ _))
  split_ifs
  · exact (hf.flowFeeds _ _ _).trans hx
  · exact (hf.flowFeeds _ _ _).trans hx
  · exact hx

theorem resetLegs (s : State) (k : Nat) : f (s.resetLegs k) = f s := by
  refine foldl_blind (fun s a => (hf.clear _ _ _).trans (hf.wr ?_ _ _ _)) _ s
  cases a <;> decide

theorem flowInactive (s : State) (k : Nat) (st : Int) : f (s.flowInactive k st) = f s := by
  unfold State.flowInactive
  refine (hf.setFlow _ _ _).trans ((hf.wr (by decide) _ _ _).trans ((hf.resetLegs _ _).trans ((hf.setFlowState _ _ _).trans ?_)))
  split
  · exact hf.leaveRow _ _
  · rfl

theorem noteFlows (s : State) : f s.noteFlows = f s :=
  (foldl_blind (fun _ _ => hf.wr (by decide) _ _ _) _ _).trans ((hf.alarmWhile _ _ _ _).trans ((hf.wr (by decide) _ _ _).trans (hf.wr (by decide) _ _ _)))

theorem flowPlan (s : State) : f s.flowPlan = f s := by
  refine (hf.noteFlows _).trans (foldl_blind (fun s k => ?_) _ s)
  dsimp only
  split_ifs
  · exact hf.setFlowState _ _ _
  · rfl
  · exact hf.flowInactive _ _ _
  · rfl

theorem mediaChangeover (s : State) : f s.mediaChangeover = f s := (hf.flowPlan _).trans ((foldl_blind (fun s k => hf.noteOutRow s k) _ _).trans (hf.sdiPlan s))

/-! Egress (R173-R180). -/

theorem noteEgRow (s : State) (k : Nat) : f (s.noteEgRow k) = f s := by
  have hset : ∀ a b c d e g : Int, f ((((((s.wr o3820_PACED k a).wr o3820_TRO_NS k b).wr o3820_TDRAIN_PS k c).wr o3820_PACKETS_PER_FRAME k d).wr o3820_EG_CLASS k e).wr o3820_EG_QUEUE k g) = f s :=
    fun a b c d e g => (hf.wr (by decide) _ _ _).trans ((hf.wr (by decide) _ _ _).trans ((hf.wr (by decide) _ _ _).trans ((hf.wr (by decide) _ _ _).trans ((hf.wr (by decide) _ _ _).trans (hf.wr (by decide) _ _ _)))))
  unfold State.noteEgRow
  split <;> exact hset ..

theorem noteFirmwareClasses (s : State) : f s.noteFirmwareClasses = f s := by
  refine foldl_blind (fun s l => ?_) _ s
  unfold State.noteFirmwareClass
  dsimp only
  split <;> exact (hf.wr (by decide) _ _ _).trans ((hf.wr (by decide) _ _ _).trans (hf.wr (by decide) _ _ _))

theorem notePorts (s : State) : f s.notePorts = f s := by
  have hrow : ∀ (s : State) (r : PlanOutRow), f ([r.laneP, r.laneS].foldl (fun s l => if l = noLane then s else (s.bump o3800_PACED_ROWS l).wr o3801_CLASS_MODE (classRow l 7) CLASS_MODE.paced) s) = f s :=
    fun s r => foldl_blind (fun s l => by
      split
      · rfl
      · exact (hf.wr (by decide) _ _ _).trans (hf.bump (by decide) _ _)) _ s
  have hplan : ∀ (s : State) (p : Plan), f (p.queues.foldl (fun s q => (s.wr o3802_QUEUE_LIMIT (queueRow q.lane q.cls q.queue) q.limit).wr o3802_QUEUE_SOURCE (queueRow q.lane q.cls q.queue) q.source)
      (p.classes.foldl (fun s c => ((s.wr o3801_CLASS_MODE (classRow c.lane c.cls) (if c.cls = 6 then CLASS_MODE.firmware else CLASS_MODE.shaped)).wr
        o3801_CLASS_RATE_KBPS (classRow c.lane c.cls) c.rate).wr o3801_BURST_CEILING (classRow c.lane c.cls) c.ceiling) s)) = f s := fun s p =>
    (foldl_blind (fun _ _ => (hf.wr (by decide) _ _ _).trans (hf.wr (by decide) _ _ _)) _ _).trans (foldl_blind (fun _ _ => (hf.wr (by decide) _ _ _).trans ((hf.wr (by decide) _ _ _).trans (hf.wr (by decide) _ _ _))) _ s)
  unfold State.notePorts
  extract_lets
  refine (foldl_blind hrow _ _).trans ((foldl_blind hplan _ _).trans ((hf.noteFirmwareClasses _).trans ?_))
  refine (foldl_blind (fun _ _ => hf.wr (by decide) _ _ _) _ _).trans ((foldl_blind (fun _ _ => (hf.wr (by decide) _ _ _).trans (hf.wr (by decide) _ _ _)) _ _).trans ?_)
  exact (foldl_blind (fun _ _ => (hf.wr (by decide) _ _ _).trans ((hf.wr (by decide) _ _ _).trans (hf.wr (by decide) _ _ _))) _ _).trans
    (foldl_blind (fun s l => (hf.blind creditMarks rfl).accrue (List.Subset.refl _) s l) _ s)

theorem egressChangeover (s : State) : f s.egressChangeover = f s := (hf.notePorts _).trans (foldl_blind (fun s k => hf.noteEgRow s k) _ s)

/-! The fabric (R50, R53, R206, R214). -/

theorem setDest (s : State) (r : Nat) (x : Dest) : f (s.setDest r x) = f s := hf .fab rfl _ _ (.fab ..)

theorem changeSlot (s : State) (dark : Bool) (old : Option PlanEndpoint) (e : PlanEndpoint) : f (s.changeSlot dark old e) = f s := by
  have hset : f ((s.wr o4003_ALIGN_MODE e.ep e.align).wr o4003_ALIGN_DEPTH e.ep e.depth) = f s := (hf.wr (by decide) _ _ _).trans (hf.wr (by decide) _ _ _)
  unfold State.changeSlot
  extract_lets x kept
  split
  · exact hset
  · exact (hf.wr (by decide) _ _ _).trans ((hf.setBuf _ _ _).trans hset)

theorem dropSlot (s : State) (ep : Nat) : f (s.dropSlot ep) = f s :=
  (hf.clear _ _ _).trans ((hf.wr (by decide) _ _ _).trans ((hf.wr (by decide) _ _ _).trans ((hf.wr (by decide) _ _ _).trans (hf .med rfl _ _ (.med ..)))))

theorem changeDest (s : State) (was p : Plan) (dark fresh moved : Bool) (old : Option PlanEndpoint) (e : PlanEndpoint) : f (s.changeDest was p dark fresh moved old e) = f s := by
  unfold State.changeDest
  split
  · rfl
  · next r _ =>
    extract_lets s1 cur permits fed x
    have hs1 : f s1 = f s := (hf.wr (by decide) _ _ _).trans ((hf.wr (by decide) _ _ _).trans (hf.wr (by decide) _ _ _))
    split
    extract_lets path sync s2 s3 s4
    have hs2 : f s2 = f s := (hf.setDest _ _ _).trans hs1
    have hs3 : f s3 = f s := by
      dsimp only [s3]
      split
      · exact hs2
      · exact (hf.wr (by decide) _ _ _).trans ((hf.wr (by decide) _ _ _).trans hs2)
    have hs4 : f s4 = f s := (hf.wr (by decide) _ _ _).trans hs3
    split
    · exact (hf.wr (by decide) _ _ _).trans hs4
    · exact hs4

theorem dropDest (s : State) (ep : Nat) : f (s.dropDest ep) = f s := by
  unfold State.dropDest
  split
  · rfl
  · extract_lets had fab s1 s2 s3
    have hs1 : f s1 = f s := hf .fab rfl _ _ (.fab ..)
    have hs2 : f s2 = f s := (hf.wr (by decide) _ _ _).trans ((hf.wr (by decide) _ _ _).trans ((hf.wr (by decide) _ _ _).trans ((hf.wr (by decide) _ _ _).trans ((hf.wr (by decide) _ _ _).trans hs1))))
    have hs3 : f s3 = f s := (hf.wr (by decide) _ _ _).trans ((hf.wr (by decide) _ _ _).trans hs2)
    split
    · exact (hf.wr (by decide) _ _ _).trans hs3
    · exact hs3

theorem audioPlan (s : State) : f s.audioPlan = f s := by
  unfold State.audioPlan
  extract_lets
  refine (foldl_blind (fun s a => foldl_blind (fun s i => ?_) _ s) _ _).trans
    ((foldl_blind (fun _ _ => (hf.wr (by decide) _ _ _).trans (hf.wr (by decide) _ _ _)) _ _).trans (foldl_blind (fun _ _ => hf.wr (by decide) _ _ _) _ s))
  split
  · exact hf.wr (by decide) _ _ _
  · exact (hf.wr (by decide) _ _ _).trans (hf.wr (by decide) _ _ _)

theorem salvoProgress (s : State) : f s.salvoProgress = f s := by
  refine foldl_blind (fun s k => ?_) _ s
  split
  · exact hf.wr (by decide) _ _ _
  · rfl

theorem fabricChangeover (s : State) (d : Nat) (old : Plan) (dark fresh moved : Bool) : f (s.fabricChangeover d old dark fresh moved) = f s := by
  unfold State.fabricChangeover
  dsimp only
  refine (hf.salvoProgress _).trans ((hf.wr (by decide) _ _ _).trans ((hf.wr (by decide) _ _ _).trans ((hf.audioPlan _).trans ?_)))
  refine (foldl_blind (fun _ _ => hf.dropDest _ _) _ _).trans ((foldl_blind (fun _ _ => hf.changeDest _ _ _ _ _ _ _ _) _ _).trans ?_)
  exact (foldl_blind (fun _ _ => hf.dropSlot _ _) _ _).trans (foldl_blind (fun _ _ => hf.changeSlot _ _ _ _) _ s)

/-! The encoders (R245, R264, R273). -/

theorem setMint (s : State) (ch : Nat) (x : MintChan) : f (s.setMint ch x) = f s := hf .enc rfl _ _ (.enc ..)

theorem dropMint (s : State) (ch : Nat) : f (s.dropMint ch) = f s := by
  unfold State.dropMint
  extract_lets s1 s2
  refine (hf .enc rfl _ _ (.enc (s2.wr o5000_ENC_STATE ch ENC_STATE.not_planned) _)).trans ((hf.wr (by decide) _ _ _).trans ((foldl_blind (fun s t => ?_) _ _).trans (hf.wrAll _ _ _ s (by decide))))
  exact foldl_blind_mem (fun k hk s => hf.wr (by
    have hall : ∀ k ∈ List.range 7, offPlan (.obj (o5004_LAD_SEARCH_H + k)) = false := by decide
    exact hall k hk) _ _ _) s

theorem noteMint (s : State) (p : PlanMint) (ld : Ladder) : f (s.noteMint p ld) = f s := by
  unfold State.noteMint
  extract_lets ch
  split
  refine (foldl_blind (fun s t => ?_) _ _).trans (hf.wrs _ _ _ s (by simp only [List.map_cons, List.map_append, List.map_nil]; decide))
  exact (hf.wr (by decide) _ _ _).trans ((hf.wr (by decide) _ _ _).trans ((hf.wr (by decide) _ _ _).trans ((hf.wr (by decide) _ _ _).trans ((hf.wr (by decide) _ _ _).trans ((hf.wr (by decide) _ _ _).trans (hf.wr (by decide) _ _ _))))))

theorem changeMint (s : State) (dark kept : Bool) (old : Option PlanMint) (p : PlanMint) (ld : Ladder) : f (s.changeMint dark kept old p ld) = f s := by
  unfold State.changeMint
  dsimp only
  split
  · exact (hf.wr (by decide) _ _ _).trans ((hf.setMint _ _ _).trans (hf.noteMint _ _ _))
  · exact (hf.setMint _ _ _).trans (hf.noteMint _ _ _)

theorem noteUnits (s : State) : f s.noteUnits = f s := (hf.blind unitMarks rfl).noteUnits (List.Subset.refl _) s

theorem noteMints (s : State) : f s.noteMints = f s := by
  unfold State.noteMints
  dsimp only
  refine (hf.noteUnits _).trans ((foldl_blind (fun _ _ => hf.wr (by decide) _ _ _) _ _).trans (foldl_blind (fun s m => ?_) _ s))
  exact (hf.wr (by decide) _ _ _).trans ((hf.wr (by decide) _ _ _).trans ((hf.wr (by decide) _ _ _).trans (hf.wr (by decide) _ _ _)))

theorem noteXsPlan (s : State) (p : PlanXs) (fresh : Bool) : f (s.noteXsPlan p fresh) = f s := by
  unfold State.noteXsPlan
  extract_lets vals s1 s2
  have hs1 : f s1 = f s := hf.wrs _ _ _ s (by simp only [vals, List.map_cons, List.map_nil]; decide)
  have hs2 : f s2 = f s := by
    dsimp only [s2]
    split
    · exact (hf.wrOct _ _ _ _).trans ((hf.wrOct _ _ _ _).trans ((hf.wr (by decide) _ _ _).trans hs1))
    · exact hs1
  split
  · exact (hf.wr (by decide) _ _ _).trans hs2
  · exact hs2

theorem dropXs (s : State) (c : Nat) : f (s.dropXs c) = f s := (hf.clear _ _ _).trans ((hf.wrOct _ _ _ _).trans ((hf.wrOct _ _ _ _).trans (hf.wrAll _ _ _ s (by decide))))

theorem encoderChangeover (s : State) (d : Nat) (old : Plan) (dark moved : Bool) : f (s.encoderChangeover d old dark moved) = f s := by
  unfold State.encoderChangeover
  dsimp only
  refine (hf.noteMints _).trans ((foldl_blind (fun _ _ => hf.noteXsPlan _ _ _) _ _).trans ((foldl_blind (fun _ _ => hf.dropXs _ _) _ _).trans ?_))
  refine (foldl_blind (fun s m => ?_) _ _).trans (foldl_blind (fun _ _ => hf.dropMint _ _) _ s)
  split
  · exact hf.changeMint _ _ _ _ _ _
  · rfl

/-! The compositors (R51, R307, R321, R324). -/

theorem setComp (s : State) (c : Nat) (x : Comp) : f (s.setComp c x) = f s := hf .cmp rfl _ _ (.cmp ..)

theorem noteComp (s : State) (p : PlanComp) : f (s.noteComp p) = f s := by
  unfold State.noteComp
  extract_lets c vals s1 s2
  have hs1 : f s1 = f s := hf.wrs vals _ (fun v => v) s (by simp only [vals, List.map_cons, List.map_nil]; decide)
  have hs2 : f s2 = f s := by
    dsimp only [s2]
    split
    · exact (hf.wr (by decide) _ _ _).trans hs1
    · exact hs1
  exact (foldl_blind (fun _ _ => (hf.wr (by decide) _ _ _).trans ((hf.wr (by decide) _ _ _).trans (hf.wr (by decide) _ _ _))) _ _).trans hs2

theorem dropComp (s : State) (c : Nat) : f (s.dropComp c) = f s := by
  unfold State.dropComp
  extract_lets gang s1 s2 s3
  have hs1 : f s1 = f s := hf.wrAll _ _ _ s (by decide)
  have hs2 : f s2 = f s := by
    dsimp only [s2]
    split
    · exact (hf.wr (by decide) _ _ _).trans hs1
    · exact hs1
  have hs3 : f s3 = f s := (foldl_blind (fun s l => hf.wrAll _ _ _ s (by decide)) _ _).trans hs2
  refine (hf .cmp rfl _ _ (.cmp ..)).trans ((hf.clear _ _ _).trans ((hf.wr (by decide) _ _ _).trans ?_))
  split
  · exact hs3
  · exact (hf.wr (by decide) _ _ _).trans hs3

theorem noteLayers (s : State) (c : Nat) : f (s.noteLayers c) = f s := foldl_blind (fun _ _ => (hf.wr (by decide) _ _ _).trans (hf.wr (by decide) _ _ _)) _ s

theorem changeComp (s : State) (plan : Plan) (dark : Bool) (old : Option PlanComp) (p : PlanComp) : f (s.changeComp plan dark old p) = f s := by
  unfold State.changeComp
  dsimp only
  split_ifs
  · rfl
  · exact hf.noteComp _ _
  · exact (hf.noteLayers _ _).trans ((hf.setComp _ _ _).trans ((hf.noteComp _ _).trans (hf.dropComp _ _)))

theorem notePool (s : State) (g : Nat) : f (s.notePool g) = f s := (hf.wr (by decide) _ _ _).trans (hf.wr (by decide) _ _ _)

theorem setSurfState (s : State) (h : Nat) (st : Int) : f (s.setSurfState h st) = f s := by
  unfold State.setSurfState
  dsimp only
  split
  · exact (hf.notePool _ _).trans ((hf.wr (by decide) _ _ _).trans ((hf.wr (by decide) _ _ _).trans ((hf .cmp rfl _ _ (.cmp ..)).trans (hf.wr (by decide) _ _ _))))
  · exact hf.wr (by decide) _ _ _

theorem changePool (s : State) (g n : Nat) : f (s.changePool g n) = f s := by
  unfold State.changePool
  split
  · rfl
  · exact (hf.notePool _ _).trans ((foldl_blind (fun _ _ => hf.setSurfState _ _ _) _ _).trans (hf.wr (by decide) _ _ _))

theorem noteSurfs (s : State) : f s.noteSurfs = f s := by
  refine foldl_blind (fun s e => ?_) _ s
  dsimp only
  split_ifs
  · exact (hf.wr (by decide) _ _ _).trans (hf.wr (by decide) _ _ _)
  · exact (hf.wr (by decide) _ _ _).trans (hf.wr (by decide) _ _ _)
  · exact hf.wr (by decide) _ _ _

theorem compChangeover (s : State) (d : Nat) (old : Plan) (dark : Bool) : f (s.compChangeover d old dark) = f s := by
  unfold State.compChangeover
  dsimp only
  refine (hf.noteSurfs _).trans ((foldl_blind (fun _ _ => hf.changePool _ _ _) _ _).trans ?_)
  exact (foldl_blind (fun _ _ => hf.changeComp _ _ _ _ _) _ _).trans (foldl_blind (fun _ _ => hf.dropComp _ _) _ s)

/-! Raster, heads and monitors (R324, R344, R349). -/

theorem noteScalers (s : State) : f s.noteScalers = f s := by
  unfold State.noteScalers
  dsimp only
  refine (foldl_blind (fun s p => foldl_blind (fun s e => foldl_blind (fun s i => ?_) _ s) _ s) _ _).trans
    (foldl_blind (fun _ _ => (hf.wr (by decide) _ _ _).trans ((hf.wr (by decide) _ _ _).trans (hf.wr (by decide) _ _ _))) _ s)
  split <;> exact (hf.wr (by decide) _ _ _).trans ((hf.wr (by decide) _ _ _).trans (hf.wr (by decide) _ _ _))

theorem changeHead (s : State) (old : Option PlanHead) (p : PlanHead) : f (s.changeHead old p) = f s := by
  unfold State.changeHead
  extract_lets vals s1 s2 s3 s4
  have hs3 : f s3 = f s :=
    (foldl_blind (fun _ _ => (hf.wr (by decide) _ _ _).trans (hf.wr (by decide) _ _ _)) _ _).trans ((foldl_blind (fun _ _ => (hf.wr (by decide) _ _ _).trans (hf.wr (by decide) _ _ _)) _ _).trans (hf.wrs vals _ (fun v => v) s (by simp only [vals, List.map_cons, List.map_nil]; decide)))
  split
  · exact hs3
  · exact (hf .ras rfl _ _ (.ras ..)).trans ((foldl_blind (fun _ _ => hf.wr (by decide) _ _ _) _ _).trans hs3)

theorem dropHead (s : State) (p : PlanHead) : f (s.dropHead p) = f s := by
  unfold State.dropHead
  refine (hf .ras rfl _ _ (.ras ..)).trans ((foldl_blind (fun _ _ => (hf.wr (by decide) _ _ _).trans (hf.wr (by decide) _ _ _)) _ _).trans ?_)
  exact hf.wrAll _ _ _ s (by decide)

theorem setMon (s : State) (r : Nat) (x : Option Mon) : f (s.setMon r x) = f s := by
  cases x with
  | some => exact hf .ras rfl _ _ (.ras ..)
  | none => exact hf .ras rfl _ _ (.ras ..)

theorem monState (s : State) (r : Nat) (st : Int) : f (s.monState r st) = f s := by
  unfold State.monState
  extract_lets s1 s2
  have hs2 : f s2 = f s := by
    dsimp only [s2]
    split
    · exact hf.wr (by decide) _ _ _
    · exact (hf.clear _ _ _).trans ((hf.wr (by decide) _ _ _).trans (hf.wr (by decide) _ _ _))
  split
  · exact hs2
  · exact (hf.clear _ _ _).trans ((hf.wr (by decide) _ _ _).trans hs2)

theorem monStart (s : State) (r : Nat) : f (s.monStart r) = f s := by
  unfold State.monStart
  dsimp only
  split <;> exact (hf.setMon _ _ _).trans (hf.monState _ _ _)

theorem rasterChangeover (s : State) (d : Nat) (old : Plan) (moved : Bool) : f (s.rasterChangeover d old moved) = f s := by
  unfold State.rasterChangeover
  dsimp only
  refine (foldl_blind (fun s e => ?_) _ _).trans ((foldl_blind (fun s e => ?_) _ _).trans ?_)
  · split
    · split
      · rfl
      · exact hf.monStart _ _
    · rfl
  · split
    · exact hf.monStart _ _
    · rfl
  · refine (foldl_blind (fun _ _ => hf.changeHead _ _ _) _ _).trans ((hf.noteScalers _).trans ((foldl_blind (fun _ _ => hf.dropHead _ _) _ _).trans ?_))
    exact (foldl_blind (fun _ _ => (hf.wr (by decide) _ _ _).trans (hf.wr (by decide) _ _ _)) _ _).trans (foldl_blind (fun _ _ => (hf.wr (by decide) _ _ _).trans (hf.wr (by decide) _ _ _)) _ s)

/-! Tally units and granules (R371, R377), lanes (R117, R137). -/

theorem noteTally (s : State) : f s.noteTally = f s := by
  refine foldl_blind (fun s ch => ?_) _ s
  dsimp only
  have hitg : ∀ x : Itg, f { s with itg := x } = f s := fun x => hf .itg rfl _ _ (.itg ..)
  split_ifs
  · exact (hf.wr (by decide) _ _ _).trans (hitg _)
  · exact (hf.wr (by decide) _ _ _).trans ((hf.wrAll _ _ _ _ (by decide)).trans (hitg _))
  · exact hf.wr (by decide) _ _ _
  · rfl

theorem dropGranules (s : State) : f s.dropGranules = f s := by
  refine foldl_blind (fun s b => ?_) _ s
  have hitg : ∀ x : Itg, f { s with itg := x } = f s := fun x => hf .itg rfl _ _ (.itg ..)
  split
  · rfl
  · exact (hf.clear _ _ _).trans (hitg _)

theorem lanesPower (s : State) : f s.lanesPower = f s := (hf.blind lanePowerMarks rfl).lanesPower (List.Subset.refl _) s
theorem refreshPower (s : State) : f s.refreshPower = f s := (hf.blind holdMarks rfl).refreshPower (List.Subset.refl _) s

theorem noteLanes (s : State) : f s.noteLanes = f s :=
  foldl_blind (fun s l => (hf.reSeverity _ _ _ _).trans ((hf.reSeverity _ _ _ _).trans ((hf.blind noteLaneMarks rfl).noteLane (List.Subset.refl _) s l))) _ s

/-- The plan of a domain changes in every subsystem. -/
theorem planChanged (s : State) (d : Nat) (old : Plan) (dark fresh moved : Bool) : f (s.planChanged d old dark fresh moved) = f s := by
  unfold State.planChanged
  dsimp only
  refine (hf.noteUnits _).trans ((hf.noteLanes _).trans ((hf.lanesPower _).trans ((hf.dropGranules _).trans ((hf.noteTally _).trans ?_))))
  refine (hf.rasterChangeover _ _ _ _).trans ((hf.compChangeover _ _ _ _).trans ((hf.encoderChangeover _ _ _ _ _).trans ?_))
  exact (hf.fabricChangeover _ _ _ _ _ _).trans ((hf.egressChangeover _).trans (hf.mediaChangeover s))

end PlanBlind

end Sys2Proof.Machine
end

section
/-! SUPPORT. The banks discarded, and the safe state entered (R450, R451, R457). -/

namespace Sys2Proof.Machine
open Sys2Proof

/-! The end of every bank (R450). -/

namespace PlanBlind

variable {α : Type} {f : State → α} (hf : PlanBlind f)
include hf

theorem setTd (s : State) (d : Nat) (x : Td) : f (s.setTd d x) = f s := hf .tds rfl _ _ (.tds ..)

theorem noteRate (s : State) (d : Nat) : f (s.noteRate d) = f s := by
  unfold State.noteRate
  extract_lets r s1
  have hs1 : f s1 = f s := (hf.wr (by decide) _ _ _).trans ((hf.wr (by decide) _ _ _).trans ((hf.wr (by decide) _ _ _).trans (hf.wr (by decide) _ _ _)))
  split
  · exact hs1
  · exact (hf.setTd _ _ _).trans hs1

theorem noteActive (s : State) : f s.noteActive = f s := (hf.wr (by decide) _ _ _).trans (hf.wr (by decide) _ _ _)

theorem notePhaseSource (s : State) (d : Nat) : f (s.notePhaseSource d) = f s := by
  unfold State.notePhaseSource
  extract_lets on s1
  have hs1 : f s1 = f s := hf.wr (by decide) _ _ _
  split
  · exact hs1
  · exact (hf.wr (by decide) _ _ _).trans hs1

theorem tdAlarms (s : State) (d : Nat) : f (s.tdAlarms d) = f s := (hf.alarmWhile _ _ _ _).trans (hf.alarmWhile _ _ _ _)

theorem dropPower (s : State) : f s.dropPower = f s := by
  refine foldl_blind (fun s pd => ?_) _ s
  dsimp only
  split
  · exact hf.wr (by decide) _ _ _
  · rfl

theorem setBankState (s : State) (b : Nat) (v : Int) : f (s.setBankState b v) = f s := hf.wr (by decide) _ _ _

section
variable (hled : ∀ (s : State) (x : Led), f { s with led := x } = f s)
include hled

theorem endDomain (s : State) (d : Nat) : f (s.endDomain d) = f s := by
  unfold State.endDomain
  extract_lets old led s1
  have hs1 : f s1 = f s := hled s _
  exact (hf.planChanged _ _ _ _ _ _).trans ((hf.tdAlarms _ _).trans ((hf.notePhaseSource _ _).trans ((hf.noteActive _).trans ((hf.noteRate _ _).trans hs1))))

theorem emptyBank (s : State) (b : Nat) (st : Int) (x : Bank) : f (s.emptyBank b st x) = f s := by
  unfold State.emptyBank
  extract_lets s1
  have hs1 : f s1 = f s :=
    (hf.wr (by decide) _ _ _).trans ((hf.wr (by decide) _ _ _).trans ((hf.wr (by decide) _ _ _).trans ((hf.wr (by decide) _ _ _).trans ((hf.wr (by decide) _ _ _).trans ((hf.wr (by decide) _ _ _).trans ((hf.setBankState _ _ _).trans (hled s _)))))))
  split
  · exact (hled _ _).trans hs1
  · exact hs1

theorem discardBanks (s : State) : f s.discardBanks = f s := by
  unfold State.discardBanks
  extract_lets led s1 s2 s3 s4
  have hs1 : f s1 = f s := (hf.wr (by decide) _ _ _).trans (hled s _)
  have hs2 : f s2 = f s := (foldl_blind (fun _ _ => hf.setTd _ _ _) _ _).trans hs1
  have hs3 : f s3 = f s := (foldl_blind (fun _ _ => hf.endDomain hled _ _) _ _).trans hs2
  have hs4 : f s4 = f s := (hf.emptyBank hled _ _ _ _).trans ((hf.emptyBank hled _ _ _ _).trans hs3)
  exact (hf.refreshPower _).trans ((hf.dropGranules _).trans ((hf.noteTally _).trans ((hf.noteActive _).trans hs4)))

end

end PlanBlind

/-! The safe state (R450, R451, R457). -/

/-- The device as it enters the safe state, before its banks are discarded. -/
def State.safeBegun (s : State) (reason : Int) : State :=
  { (((s.wr o1401_DEVICE_STATE 0 DEVICE_STATE.safe).wr o1401_SAFE_REASON 0 reason).setCustody false) with
    pwr := { s.pwr with safeOut := true, starting := false, leaving := false, armedFirst := false, testHold := [] } }

theorem PlanBlind.doSafe {α : Type} {f : State → α} (hf : PlanBlind f) (hled : ∀ (s : State) (x : Led), f { s with led := x } = f s) (s : State) (reason : Int) :
    f (s.doSafe reason) = f (s.safeBegun reason) := by
  have hbanks : f (if reason = SAFE_REASON.ledger then s.safeBegun reason else (s.safeBegun reason).discardBanks) = f (s.safeBegun reason) := by
    split
    · rfl
    · exact hf.discardBanks hled _
  unfold State.doSafe
  refine (hf.noteUnits _).trans ((hf.noteLanes _).trans ((hf.lanesPower _).trans ((hf.dropPower _).trans ((hf.refreshPower _).trans ?_))))
  exact ((hf.blind [.alarm .SYS_SAFE_STATE] rfl).raiseWith (.head _) _ _ (fun e => e) _ _).trans hbanks

theorem doSafe_rd (s : State) (reason : Int) {o : Nat} (h : offPlan (.obj o) = true) (ho : o ∉ alarmSideObjects) : (s.doSafe reason).rd o 0 = (s.safeBegun reason).rd o 0 :=
  (planBlind_rd 0 h ho).doSafe (fun _ _ => rfl) s reason

theorem doSafe_pwr (s : State) (reason : Int) : (s.doSafe reason).pwr = (s.safeBegun reason).pwr := planBlind_pwr.doSafe (fun _ _ => rfl) s reason

theorem doSafe_safeOut (s : State) (reason : Int) : (s.doSafe reason).pwr.safeOut = true := (congrArg Pwr.safeOut (doSafe_pwr s reason)).trans rfl

theorem doSafe_ctl (s : State) (reason : Int) : (s.doSafe reason).ctl = s.ctl := planBlind_ctl.doSafe (fun _ _ => rfl) s reason

theorem safeBegun_rd (s : State) (reason : Int) (o r : Nat) :
    (s.safeBegun reason).rd o r = ((((s.wr o1401_DEVICE_STATE 0 DEVICE_STATE.safe).wr o1401_SAFE_REASON 0 reason).wr o1601_CUSTODY_HELD 0 0)).rd o r := rfl

theorem doSafe_device (s : State) (reason : Int) : (s.doSafe reason).rd o1401_DEVICE_STATE 0 = DEVICE_STATE.safe := by
  simp (disch := decide) only [doSafe_rd, safeBegun_rd, State.rd_wr_obj, State.rd_wr_same]

theorem doSafe_reason (s : State) (reason : Int) : (s.doSafe reason).rd o1401_SAFE_REASON 0 = reason := by
  simp (disch := decide) only [doSafe_rd, safeBegun_rd, State.rd_wr_obj, State.rd_wr_same]

theorem doSafe_custody (s : State) (reason : Int) : (s.doSafe reason).rd o1601_CUSTODY_HELD 0 = 0 := by
  simp (disch := decide) only [doSafe_rd, safeBegun_rd, State.rd_wr_same]

/-- A device that is safe: its reason, and its outputs (R444, R457). -/
structure Safe (u : State) (reason : Int) : Prop where
  device : u.rd o1401_DEVICE_STATE 0 = DEVICE_STATE.safe
  reason : u.rd o1401_SAFE_REASON 0 = reason
  custody : u.rd o1601_CUSTODY_HELD 0 = 0
  safeOut : u.pwr.safeOut = true

theorem doSafe_entered (s : State) (reason : Int) : Safe (s.doSafe reason) reason where
  device := doSafe_device s reason
  reason := doSafe_reason s reason
  custody := doSafe_custody s reason
  safeOut := doSafe_safeOut s reason

/-- A command that enters the safe state. -/
theorem run_safe {s x : State} {t : Nat} {reason : Int} {f : State → State} (hp : s.powered = true) (hf : f (s.begin t) = x.doSafe reason) :
    ∃ y, s.run t f = .next ((s.begin t).finish y) ∧ Safe y reason := ⟨_, run_work hp hf, doSafe_entered x reason⟩

theorem doSafe_standby {s : State} (reason : Int) (h : s.pairState = PAIR_STATE.standby) : (s.doSafe reason).pairState = PAIR_STATE.standby := by
  refine pairState_of_class ((planBlind_pairClass.doSafe (fun _ _ => rfl) s reason).trans (pairClass_of_state ?_ (by decide))) (by decide)
  refine (safeBegun_rd s reason o1601_PAIR_STATE 0).trans (Eq.trans ?_ h)
  simp (disch := decide) only [State.pairState, State.rd_wr_obj]

/-- A device that runs and holds no custody to hand over enters the safe state (R451). -/
theorem enterSafe_eq {s : State} {reason : Int} {atOnce : Bool} (hdev : s.rd o1401_DEVICE_STATE 0 = DEVICE_STATE.starting ∨ s.rd o1401_DEVICE_STATE 0 = DEVICE_STATE.running)
    (hpair : atOnce = true ∨ s.pairState = PAIR_STATE.unpaired) : s.enterSafe reason atOnce = s.doSafe reason := by
  unfold State.enterSafe
  dsimp only
  rw [if_neg (fun h => hdev.elim h.1 h.2), if_neg]
  rintro ⟨hnow, hstate⟩
  have hun : s.pairState = PAIR_STATE.unpaired := hpair.resolve_left fun h => Bool.false_ne_true (hnow.symm.trans h)
  rw [hun] at hstate
  exact absurd hstate (by decide)

/-- One that is safe already keeps its first reason (R458). -/
theorem enterSafe_safe {s : State} (reason : Int) (atOnce : Bool) (hdev : s.rd o1401_DEVICE_STATE 0 = DEVICE_STATE.safe) : s.enterSafe reason atOnce = s :=
  if_pos (by rw [hdev]; decide)

/-! Outputs of a device that is safe (R444). -/

theorem pinsLive_of {s : State} (hp : s.powered = true) (hdev : s.rd o1401_DEVICE_STATE 0 ≠ DEVICE_STATE.starting) : s.pinsLive = true := by
  unfold State.pinsLive
  rw [hp, bne_iff_ne.mpr hdev]
  rfl

theorem custodyPin_of {s : State} (h : s.rd o1601_CUSTODY_HELD 0 = 0) : s.custodyPin = false := by
  unfold State.custodyPin State.isOn
  rw [h]
  exact Bool.and_false _

theorem safePin_of {s : State} (h : s.pwr.safeOut = true) : s.safePin = true := by
  unfold State.safePin
  rw [h]
  exact Bool.or_true _

end Sys2Proof.Machine
end

section
/-! SUPPORT. Custody that is claimed, lapses, is released and handed over (R434, R436-R438). -/

namespace Sys2Proof.Machine
open Sys2Proof

/-! Custody taken. -/

/-- A module holds custody: active, with the epoch and the lease that a claim from `s` gives. -/
structure Holds (s u : State) : Prop where
  state : u.pairState = PAIR_STATE.active
  held : u.rd o1601_CUSTODY_HELD 0 = 1
  epoch : u.rd o1601_EPOCH 0 = ((s.pair.peerEpoch + 1) % 4294967296 : Nat)
  lease : u.rd o1601_LEASE_END 0 = ((s.fcnt 0 + s.rdN o1600_LEASE_FRAMES 0) % 281474976710656 : Nat)

/-- What holds of the objects of custody holds wherever they read the same. -/
theorem Holds.of_rd {s u w : State} (h : Holds s u) (hrd : ∀ o ∈ [o1601_PAIR_STATE, o1601_CUSTODY_HELD, o1601_EPOCH, o1601_LEASE_END], w.rd o 0 = u.rd o 0) : Holds s w where
  state := (hrd _ (by decide)).trans h.state
  held := (hrd _ (by decide)).trans h.held
  epoch := (hrd _ (by decide)).trans h.epoch
  lease := (hrd _ (by decide)).trans h.lease

/-- The epoch and the lease of a claim. -/
def State.claimed (s : State) : State :=
  (s.wr o1601_EPOCH 0 ((s.pair.peerEpoch + 1) % 4294967296 : Nat)).wr o1601_LEASE_END 0 ((s.fcnt 0 + s.rdN o1600_LEASE_FRAMES 0) % 281474976710656 : Nat)

theorem takeCustody_rd (s : State) (o r : Nat) : s.takeCustody.rd o r = (((s.claimed.wr o1601_CUSTODY_HELD 0 1).wr o1601_PAIR_STATE 0 PAIR_STATE.active).rd o r) :=
  (blind_rd (M := [.enc]) (by simp) r (.inl rfl)).streamsRestart (by decide) ((s.claimed.gapSound.setCustody true).setPairState PAIR_STATE.active)

theorem takeCustody_holds (s : State) : Holds s s.takeCustody where
  state := (takeCustody_rd s _ _).trans (State.rd_wr_same _ _ _ _)
  held := (takeCustody_rd s _ _).trans ((State.rd_wr_obj _ _ (by decide)).trans (State.rd_wr_same _ _ _ _))
  epoch := (takeCustody_rd s _ _).trans (by
    unfold State.claimed
    simp (disch := decide) only [State.rd_wr_obj, State.rd_wr_same])
  lease := (takeCustody_rd s _ _).trans (by
    unfold State.claimed
    simp (disch := decide) only [State.rd_wr_obj, State.rd_wr_same])

/-- What a claim notes once custody is taken. -/
def overMarks : List Mark := [.alarm .PAIR_TAKEOVER, .obj o1601_LAST_TAKEOVER_FCNT, .obj o1601_LAST_GAP_FRAMES] ++ mirrorMarks

theorem Blind.takeOver {α : Type} {f : State → α} (hf : Blind overMarks f) (s : State) : f s.takeOver = f (s.takeCustody.bump o1601_TAKEOVERS 0) := by
  have hnote : ∀ x : State, f (x.raiseQuiet .PAIR_TAKEOVER noInst).noteMirror = f x := fun x => (hf.noteMirror (by decide) _).trans (hf.raiseQuiet (by decide) _ _)
  unfold State.takeOver
  dsimp only
  refine (hnote _).trans ?_
  split
  · exact (hf.wr (by decide) _ _ _).trans (hf.wr (by decide) _ _ _)
  · exact hf.wr (by decide) _ _ _

theorem takeOver_holds (s : State) : Holds s s.takeOver := by
  refine (takeCustody_holds s).of_rd fun o ho => ?_
  have hlog : o ∉ logObjects ∧ Mark.obj o ∉ overMarks ∧ o ≠ o1601_TAKEOVERS := by
    simp only [List.mem_cons, List.not_mem_nil, or_false] at ho
    obtain rfl | rfl | rfl | rfl := ho
    all_goals decide
  exact ((blind_rd_calm hlog.2.1 0 hlog.1).takeOver s).trans (rd_bump_obj _ hlog.2.2 _ _)

theorem takeOver_counted (s : State) : s.takeOver.rd o1601_TAKEOVERS 0 = (s.rd o1601_TAKEOVERS 0 + 1) % 4294967296 := by
  have hmod : objModulus o1601_TAKEOVERS = 4294967296 := by decide
  rw [(blind_rd (M := overMarks) (o := o1601_TAKEOVERS) (by decide) 0).takeOver s, rd_bump_same, hmod, takeCustody_rd]
  unfold State.claimed
  simp (disch := decide) only [State.rd_wr_obj]

/-- A module that has stepped back. -/
structure Yields (u : State) : Prop where
  state : u.pairState = PAIR_STATE.standby
  held : u.rd o1601_CUSTODY_HELD 0 = 0

theorem toStandby_yields (s : State) : Yields (s.toStandby true).noteMirror where
  state := ((blind_rd_calm (M := mirrorMarks) (o := o1601_PAIR_STATE) (by decide) 0 (by decide)).noteMirror (List.Subset.refl _) _).trans (toStandby_pairState s true)
  held := ((blind_rd (M := mirrorMarks) (o := o1601_CUSTODY_HELD) (by decide) 0).noteMirror (List.Subset.refl _) _).trans (toStandby_custody s true)

/-- What a module that has stepped back does at the handover tick after it keeps it so, on its way into the safe state too (R451). -/
theorem handover_yielded {s : State} (h : Yields s.handoverTick) : Yields s.handover' := by
  unfold State.handover'
  dsimp only
  split
  · rw [if_pos h.state]
    exact ⟨doSafe_standby _ h.state, doSafe_custody _ _⟩
  · exact h

/-- A module that is no standby after the handover tick does not enter the safe state at it. -/
theorem handover_kept {s : State} (h : s.handoverTick.pairState ≠ PAIR_STATE.standby) : s.handover' = s.handoverTick := by
  unfold State.handover'
  dsimp only
  split
  · exact if_neg h
  · rfl

/-! A release, and the end of a pair. -/

/-- A release names a handover tick yet to come, and ends the lease just before it (R438). -/
theorem startRelease_spec (s : State) : ∃ h, s.fcnt 0 < h ∧ s.startRelease.pair.handover = some h ∧
    ∀ o r, s.startRelease.rd o r = ((s.wr o1601_LEASE_END 0 (h - 1 : Nat)).wr o1601_PAIR_STATE 0 PAIR_STATE.releasing).rd o r :=
  ⟨_, Nat.lt_add_of_pos_right (Nat.lt_of_lt_of_le Nat.one_pos (Nat.le_max_left ..)), rfl, fun _ _ => rfl⟩

/-- A refusal of the pair's commands leaves its code. -/
theorem run_refused_custody {s : State} {t port o : Nat} {v : Val} {h : Handler} {k : Nat} (hp : s.powered = true) (ha : s.admits port o 0 v = true) (hrow : perSession o = false)
    (hk : ∀ c : Ctx, c.port = port → h c 0 v (s.begin t) = (k, s.begin t)) (hlow : 0x1601 ≤ k) (hhigh : k ≤ 0x1605) :
    s.run t (fun s => s.opCmd h port o 0 v) = .next ((s.begin t).finish (((s.begin t).wr o1600_CUSTODY_RESULT 0 k).answer k)) ∧
      s.keepsRegs ((s.begin t).finish (((s.begin t).wr o1600_CUSTODY_RESULT 0 k).answer k)) [(o1600_CUSTODY_RESULT, 0)] := by
  have hnote : (s.begin t).noteRefusal o 0 k = (s.begin t).wr o1600_CUSTODY_RESULT 0 k := by
    unfold State.noteRefusal
    rw [if_neg (by omega), if_pos ⟨hlow, hhigh⟩]
  refine ⟨?_, ?_⟩
  · rw [run_refused hp ha (fun c _ hc => (congrArg (h c · v (s.begin t)) (effRow_eq c 0 hrow)).trans (hk c hc)) (by unfold stOK; omega) rfl, hnote]
  · exact (((keepsRegs_refl s [(o1600_CUSTODY_RESULT, 0)]).congr rfl rfl : s.keepsRegs (s.begin t) _).wr k (.head _)).congr rfl rfl

/-- PAIR_ENABLE set: a module that is not paired begins to listen at the next tick. -/
def State.enableSet (s : State) : State := { s.wr o1600_PAIR_ENABLE 0 1 with pair := { s.pair with enableDue := !s.paired } }

theorem enableSet_rd (s : State) (o r : Nat) : s.enableSet.rd o r = (s.wr o1600_PAIR_ENABLE 0 1).rd o r := rfl

/-- What the end of a pair notes once it is unpaired. -/
def unpairMarks : List Mark := [.alarm .PAIR_PATH_LOSS, .alarm .PAIR_ID_CONFLICT] ++ noteMarks

/-- The module unpaired, with its paths ended. -/
def State.unpaired (s : State) : State :=
  let s := ((s.gapSound.setPairState PAIR_STATE.unpaired).setPath 1 false).wr o1601_IVARD_PATH 0 IVARD_PATH.none
  { s with pair := { ({} : Pair) with entered := s.now, lowFrom := s.pair.lowFrom } }

theorem Blind.unpair {α : Type} {f : State → α} (hf : Blind unpairMarks f) (s : State) : f s.unpair = f (s.unpaired.setCustody s.unpaired.mediaRuns) := by
  have hclear : ∀ (x : State), f ((((x.clear .PAIR_PATH_LOSS 0).clear .PAIR_PATH_LOSS 1).clear .PAIR_ID_CONFLICT 0).clear .PAIR_ID_CONFLICT 1) = f x := fun x =>
    (hf.clear (by decide) _ _).trans ((hf.clear (by decide) _ _).trans ((hf.clear (by decide) _ _).trans (hf.clear (by decide) _ _)))
  unfold State.unpair
  extract_lets s1 s2 pair s3 s4
  exact (hclear _).trans (hf.notePair (by decide) _)

theorem unpaired_rd (s : State) {o : Nat} (h : o ∉ [o1601_HB_PATH, o1601_IVARD_PATH]) : s.unpaired.rd o 0 = (s.wr o1601_PAIR_STATE 0 PAIR_STATE.unpaired).rd o 0 := by
  obtain ⟨hhb, hivard⟩ : o ≠ o1601_HB_PATH ∧ o ≠ o1601_IVARD_PATH := by simpa using h
  have hpath : ((s.gapSound.setPairState PAIR_STATE.unpaired).setPath 1 false).rd o 0 = (s.gapSound.setPairState PAIR_STATE.unpaired).rd o 0 := State.rd_wr_obj _ _ hhb
  exact (State.rd_wr_obj ((s.gapSound.setPairState PAIR_STATE.unpaired).setPath 1 false) IVARD_PATH.none hivard).trans hpath

theorem unpair_ctl (s : State) : s.unpair.ctl = s.ctl := (blind_ctl (M := unpairMarks) (by decide)).unpair s

theorem unpair_pairState (s : State) : s.unpair.pairState = PAIR_STATE.unpaired :=
  pairState_of_class (((blind_pairClass (by decide)).unpair s).trans (pairClass_of_state
    ((State.rd_wr_obj s.unpaired _ (by decide)).trans ((unpaired_rd s (by decide)).trans (State.rd_wr_same ..))) (by decide))) (by decide)

theorem unpair_custody (s : State) : s.unpair.rd o1601_CUSTODY_HELD 0 = boolVal s.mediaRuns := by
  have hmedia : s.unpaired.mediaRuns = s.mediaRuns := congrArg (· == DEVICE_STATE.running) ((unpaired_rd s (o := o1401_DEVICE_STATE) (by decide)).trans (State.rd_wr_obj _ _ (by decide)))
  exact ((blind_rd (M := unpairMarks) (o := o1601_CUSTODY_HELD) (by decide) 0).unpair s).trans ((State.rd_wr_same ..).trans (congrArg boolVal hmedia))

section
variable {s : State} {t port : Nat} (hp : s.powered = true)
include hp

/-! Claims (R437). -/

theorem takeover_claimed (h : (s.begin t).gapClaim = true) :
    ∃ u, exec (.custodyTakeover t) s = .next u ∧ Holds s u ∧ u.rd o1601_TAKEOVERS 0 = (s.rd o1601_TAKEOVERS 0 + 1) % 4294967296 := by
  have hrun := run_work (t := t) (f := fun s => if s.gapClaim = true then s.takeOver else s) hp (if_pos h)
  have hholds := takeOver_holds (s.begin t)
  have hcount := takeOver_counted (s.begin t)
  generalize (s.begin t).takeOver = y at hrun hholds hcount
  exact ⟨_, hrun, { hholds with state := hholds.state }, hcount⟩

theorem takeover_unclaimed (h : (s.begin t).gapClaim = false) : ∃ u, exec (.custodyTakeover t) s = .next u ∧ u.regs = s.regs ∧ u.pair = s.pair ∧ u.works = s.works :=
  ⟨_, run_work (t := t) (f := fun s => if s.gapClaim = true then s.takeOver else s) hp (if_neg fun hn => Bool.false_ne_true (h.symm.trans hn)), rfl, rfl, rfl⟩

theorem listening_claimed (h : (s.begin t).listenClaim = true) :
    ∃ u, exec (.listenWaitEnd t) s = .next u ∧ Holds s u ∧ u.rd o1601_TAKEOVERS 0 = (s.rd o1601_TAKEOVERS 0 + 1) % 4294967296 := by
  have hrun := run_work (t := t) (f := fun s => if s.listenClaim = true then s.takeOver else s) hp (if_pos h)
  have hholds := takeOver_holds (s.begin t)
  have hcount := takeOver_counted (s.begin t)
  generalize (s.begin t).takeOver = y at hrun hholds hcount
  exact ⟨_, hrun, { hholds with state := hholds.state }, hcount⟩

/-! The lease and the handover tick (R436, R438). -/

section
variable (htick : max s.now t = (s.td 0).tickAt)
include htick

theorem lease_lapses (hstate : s.pairState = PAIR_STATE.active ∨ s.pairState = PAIR_STATE.releasing) (hlease : s.rdN o1601_LEASE_END 0 < s.fcnt 0) :
    ∃ u, exec (.leaseLapse t) s = .next u ∧ Yields u := by
  have hwork : (s.begin t).leaseLapse = ((s.begin t).toStandby true).noteMirror := by
    unfold State.leaseLapse
    exact if_pos ⟨beq_iff_eq.mpr htick, hstate, hlease⟩
  have hrun := run_work (t := t) (f := State.leaseLapse) hp hwork
  have hy := toStandby_yields (s.begin t)
  generalize ((s.begin t).toStandby true).noteMirror = y at hrun hy
  exact ⟨_, hrun, hy.state, hy.held⟩

theorem handover_yields {h : Nat} (hstate : s.pairState = PAIR_STATE.releasing) (hover : s.pair.handover = some h) (hle : h ≤ s.fcnt 0) :
    ∃ u, exec (.handoverTick t) s = .next u ∧ Yields u := by
  have hwork : (s.begin t).handoverTick = ((s.begin t).toStandby true).noteMirror := by
    unfold State.handoverTick
    rw [if_neg (by rw [show (s.begin t).atTick = true from beq_iff_eq.mpr htick]; decide), if_pos (show (s.begin t).pairState = PAIR_STATE.releasing from hstate),
      show (s.begin t).pair.handover = some h from hover]
    exact if_pos hle
  have hy := handover_yielded (hwork ▸ toStandby_yields (s.begin t))
  have hrun := run_work (t := t) (f := State.handover') hp rfl
  generalize (s.begin t).handover' = y at hrun hy
  exact ⟨_, hrun, hy.state, hy.held⟩

theorem handover_taken {h : Nat} (hstate : s.pairState = PAIR_STATE.standby) (hmedia : s.mediaRuns = true) (hover : s.pair.peerHandover = some h) (hle : h ≤ s.fcnt 0) :
    ∃ u, exec (.handoverTick t) s = .next u ∧ Holds s u := by
  have hwork : (s.begin t).handoverTick = (s.begin t).takeCustody.noteMirror := by
    unfold State.handoverTick
    rw [if_neg (by rw [show (s.begin t).atTick = true from beq_iff_eq.mpr htick]; decide),
      if_neg (by rw [show (s.begin t).pairState = PAIR_STATE.standby from hstate]; decide), if_pos (show (s.begin t).pairState = PAIR_STATE.standby from hstate),
      show (s.begin t).pair.peerHandover = some h from hover]
    exact if_pos ⟨hle, hmedia⟩
  have hy : Holds (s.begin t) (s.begin t).takeCustody.noteMirror := by
    refine (takeCustody_holds _).of_rd fun o ho => ?_
    have hlog : o ∉ logObjects ∧ Mark.obj o ∉ mirrorMarks := by
      simp only [List.mem_cons, List.not_mem_nil, or_false] at ho
      obtain rfl | rfl | rfl | rfl := ho
      all_goals decide
    exact (blind_rd_calm hlog.2 0 hlog.1).noteMirror (List.Subset.refl _) _
  have hsame := handover_kept (s := s.begin t) (by rw [hwork, hy.state]; decide)
  have hrun := run_work (t := t) (f := State.handover') hp (hsame.trans hwork)
  generalize (s.begin t).takeCustody.noteMirror = y at hrun hy
  exact ⟨_, hrun, { hy with state := hy.state }⟩

end

/-! CUSTODY_CMD (R438). -/

section
variable {v : Int} (ha : s.admits port o1600_CUSTODY_CMD 0 (.int v) = true)
include ha

theorem custody_released (hstate : s.pairState = PAIR_STATE.active) (hready : v = CUSTODY_CMD.release → s.peerReady = true) :
    ∃ u h, s.run t (fun s => s.opCmd writeCustodyCmd port o1600_CUSTODY_CMD 0 (.int v)) = .next u ∧ u.last = ⟨0, none⟩ ∧ u.pairState = PAIR_STATE.releasing ∧ u.pair.handover = some h ∧
      s.fcnt 0 < h ∧ u.rd o1601_LEASE_END 0 = (h - 1 : Nat) ∧ u.rd o1601_CUSTODY_HELD 0 = s.rd o1601_CUSTODY_HELD 0 ∧ u.works = s.works := by
  obtain ⟨h, hlt, hover, hrd⟩ := startRelease_spec (s.begin t)
  have hk : ∀ c : Ctx, c.port = port → writeCustodyCmd c 0 (.int v) (s.begin t) = (stOK, (s.begin t).startRelease.wr o1600_CUSTODY_RESULT 0 0) := fun c _ =>
    (if_neg fun hn => hn hstate).trans (if_neg fun ⟨hv, hn⟩ => Bool.false_ne_true (hn.symm.trans (hready hv)))
  obtain ⟨e, hrun, hend⟩ := run_accepted_row (by decide) hp ha hk rfl
  refine ⟨_, h, hrun, hend.last, ?_, (congrArg Pair.handover (hend.pair (by decide))).trans hover, hlt, ?_, ?_, hend.works rfl rfl⟩
  · refine (hend.rd _ _ (by decide)).trans ((State.rd_wr_obj _ _ (by decide)).trans ((hrd _ _).trans (State.rd_wr_same ..)))
  · refine (hend.rd _ _ (by decide)).trans ((State.rd_wr_obj _ _ (by decide)).trans ((hrd _ _).trans ((State.rd_wr_obj _ _ (by decide)).trans (State.rd_wr_same ..))))
  · refine (hend.rd _ _ (by decide)).trans ((State.rd_wr_obj _ _ (by decide)).trans ((hrd _ _).trans ((State.rd_wr_obj _ _ (by decide)).trans (State.rd_wr_obj _ _ (by decide)))))

/-- A refusal of CUSTODY_CMD leaves its code, and nothing else. -/
theorem custody_refused {k : Nat} (hk : ∀ c : Ctx, writeCustodyCmd c 0 (.int v) (s.begin t) = (k, s.begin t)) (hlow : 0x1601 ≤ k) (hhigh : k ≤ 0x1605) :
    ∃ u, s.run t (fun s => s.opCmd writeCustodyCmd port o1600_CUSTODY_CMD 0 (.int v)) = .next u ∧ u.last = ⟨k, none⟩ ∧ u.rd o1600_CUSTODY_RESULT 0 = k ∧ u.pairState = s.pairState ∧
      u.works = s.works := by
  obtain ⟨hrun, -⟩ := run_refused_custody hp ha (by decide) (fun c _ => hk c) hlow hhigh
  exact ⟨_, hrun, rfl, (refused_rd _ _ k _ _).trans (State.rd_wr_same ..), (refused_rd _ _ k _ _).trans (State.rd_wr_obj _ _ (by decide)), rfl⟩

end

/-! PAIR_ENABLE (R434). -/

theorem pair_enabled (ha : s.admits port o1600_PAIR_ENABLE 0 (.int 1) = true) : ∃ u, exec (.pairEnable t port true) s = .next u ∧ u.last = ⟨0, none⟩ ∧ u.rd o1600_PAIR_ENABLE 0 = 1 ∧
    u.pairState = s.pairState ∧ u.pair.enableDue = !s.paired ∧ s.keepsRegs u [(o1600_PAIR_ENABLE, 0)] ∧ u.works = s.works := by
  obtain ⟨e, hrun, hend⟩ := run_accepted_row (t := t) (h := writePairEnable) (w := (s.begin t).enableSet) (by decide) hp ha (fun _ _ => rfl) rfl
  refine ⟨_, hrun, hend.last, (hend.rd _ _ (by decide)).trans (enableSet_rd _ _ _ |>.trans (State.rd_wr_same ..)), (hend.rd _ _ (by decide)).trans ((enableSet_rd _ _ _).trans (State.rd_wr_obj _ _ (by decide))),
    congrArg Pair.enableDue (hend.pair (by decide)), hend.keepsRegs ?_, hend.works rfl rfl⟩
  exact ((keepsRegs_refl s _).congr rfl rfl : s.keepsRegs (s.begin t) _).wr 1 (.head _) |>.congr rfl rfl

section
variable (ha : s.admits port o1600_PAIR_ENABLE 0 (.int 0) = true)
include ha

theorem pair_kept (hpeer : s.isOn o1601_PEER_CUSTODY 0 = true) (hstate : s.pairState ≠ PAIR_STATE.active) : ∃ u, exec (.pairEnable t port false) s = .next u ∧ u.last = ⟨0x1603, none⟩ ∧
    u.rd o1600_CUSTODY_RESULT 0 = 0x1603 ∧ s.keepsRegs u [(o1600_CUSTODY_RESULT, 0)] ∧ u.pair = s.pair ∧ u.works = s.works := by
  obtain ⟨hrun, hkeeps⟩ := run_refused_custody (t := t) (k := 0x1603) (h := writePairEnable) hp ha (by decide) (fun _ _ => if_pos ⟨hpeer, hstate⟩) (by decide) (by decide)
  exact ⟨_, hrun, rfl, (refused_rd _ _ 0x1603 _ _).trans (State.rd_wr_same ..), hkeeps, rfl, rfl⟩

theorem pair_ended (hpaired : s.paired = true) (h : s.pairState = PAIR_STATE.active ∨ s.isOn o1601_PEER_CUSTODY 0 = false) : ∃ u, exec (.pairEnable t port false) s = .next u ∧
    u.last = ⟨0, none⟩ ∧ u.pairState = PAIR_STATE.unpaired ∧ u.rd o1601_CUSTODY_HELD 0 = boolVal s.mediaRuns := by
  have hk : ∀ c : Ctx, c.port = port → writePairEnable c 0 (.int 0) (s.begin t) = (stOK, ((s.begin t).wr o1600_PAIR_ENABLE 0 0).unpair) := fun c _ =>
    (if_neg fun ⟨hpeer, hstate⟩ => h.elim hstate fun hn => Bool.false_ne_true (hn.symm.trans hpeer)).trans (congrArg (Prod.mk stOK) (if_pos hpaired))
  have hend' : ((s.begin t).wr o1600_PAIR_ENABLE 0 0).unpair.ctl.endAfter = s.ctl.endAfter := congrArg Ctl.endAfter (unpair_ctl _)
  obtain ⟨e, hrun, hend⟩ := run_accepted_row (t := t) (by decide) hp ha hk hend'
  refine ⟨_, hrun, hend.last, (hend.rd _ _ (by decide)).trans (unpair_pairState _), (hend.rd _ _ (by decide)).trans ((unpair_custody _).trans ?_)⟩
  exact congrArg (fun v : Int => boolVal (v == DEVICE_STATE.running)) (State.rd_wr_obj (s.begin t) _ (by decide))

end

end

/-- Settles O50, by what a claim, a step to 'standby' and a release write; where the claims and the peer unheard stand in the conditions is the model's choice (log rows 120 and 121). -/
theorem custodyPasses : Obligations.CustodyPasses := by
  unfold Obligations.CustodyPasses
  intro s t port hp
  have hholds : ∀ u, Holds s u → _ := fun u h => And.intro h.state (And.intro h.held (And.intro h.epoch h.lease))
  refine ⟨fun h => ?_, takeover_unclaimed hp, fun h => ?_, fun htick => ⟨fun hstate hlease => ?_, fun h hstate hover hle => ?_, fun h hstate hmedia hover hle => ?_⟩, fun v ha hv => ?_, pair_enabled hp,
    fun ha => ⟨pair_kept hp ha, pair_ended hp ha⟩⟩
  · obtain ⟨u, hrun, hu, hcount⟩ := takeover_claimed hp h
    exact ⟨u, hrun, hholds u hu, hcount⟩
  · obtain ⟨u, hrun, hu, hcount⟩ := listening_claimed hp h
    exact ⟨u, hrun, hholds u hu, hcount⟩
  · obtain ⟨u, hrun, hu⟩ := lease_lapses hp htick hstate hlease
    exact ⟨u, hrun, hu.state, hu.held⟩
  · obtain ⟨u, hrun, hu⟩ := handover_yields hp htick hstate hover hle
    exact ⟨u, hrun, hu.state, hu.held⟩
  · obtain ⟨u, hrun, hu⟩ := handover_taken hp htick hstate hmedia hover hle
    exact ⟨u, hrun, hholds u hu⟩
  · have hrun : (if v = CUSTODY_CMD.release then exec (.custodyRelease t port) s else exec (.custodyForceRelease t port) s) =
        s.run t (fun s => s.opCmd writeCustodyCmd port o1600_CUSTODY_CMD 0 (.int v)) := by
      obtain rfl | rfl := hv
      · rfl
      · rfl
    dsimp only
    rw [hrun]
    refine ⟨fun hstate hready => custody_released hp ha hstate fun hrel => hready.resolve_left fun hforce => ?_, fun hstate hrel hpeer => ?_, fun hstate => ?_⟩
    · exact absurd (hrel.symm.trans hforce) (by decide)
    · obtain ⟨u, hu, hlast, hresult, hpair, hworks⟩ := custody_refused (t := t) (k := 0x1601) hp ha (fun _ => (if_neg fun hn => hn hstate).trans (if_pos ⟨hrel, hpeer⟩)) (by decide) (by decide)
      exact ⟨u, hu, hlast, hresult, hpair.trans hstate, hworks⟩
    · exact custody_refused (k := 0x1602) hp ha (fun _ => if_pos hstate) (by decide) (by decide)

end Sys2Proof.Machine
end

section
/-! SUPPORT. The supply: its readings, a dip and its end, and the orderly stop (R443-R447, R457). -/

namespace Sys2Proof.Machine
open Sys2Proof

/-! What each step of the supervisor touches. -/

def vinMarks : List Mark := [.obj o1400_VIN_MV, .obj o1400_VIN_MIN_MV, .obj o1400_VIN_MAX_MV]
def slowMarks : List Mark := [.obj o1504_TRACE_EFFECTIVE, .obj o7001_AUDITOR_STATE]
def dipMarks : List Mark := .alarm .PWR_RIDE_THROUGH :: slowMarks
def flashMarks : List Mark := [.itg, .obj o7003_ROWS_RETIRED, .obj o7002_RETIREMENTS, .obj o7002_REPAIRS_PENDING, .obj o7002_WEAK_WORDS, .obj o7005_WEAK_ADDR, .obj o7002_WEAK_UNLISTED]

/-- The rates of a ride-through set or left. -/
def State.slowedSet (s : State) (dip : Bool) : State := { s with pwr := { s.pwr with slowed := dip } }

/-- Nothing is postponed any more. -/
def State.flashEmptied (s : State) : State := { s with pwr := { s.pwr with postponed := [] } }

namespace Blind

variable {M : List Mark} {α : Type} {f : State → α} (hf : Blind M f)
include hf

theorem noteVin (h : vinMarks ⊆ M) (s : State) (mv : Nat) : f (s.noteVin mv) = f s := by
  unfold State.noteVin
  extract_lets s1 lo s2
  have hs1 : f s1 = f s := hf.wr (h (by decide)) _ _ _
  have hs2 : f s2 = f s := by
    dsimp only [s2]
    split
    · exact (hf.wr (h (by decide)) _ _ _).trans hs1
    · exact hs1
  split
  · exact (hf.wr (h (by decide)) _ _ _).trans hs2
  · exact hs2

theorem setSlowed (h : slowMarks ⊆ M) (s : State) (dip : Bool) : f (s.setSlowed dip) = f (s.slowedSet dip) := by
  unfold State.setSlowed
  extract_lets pwr s1 s2
  have hs2 : f s2 = f s1 := foldl_blind (fun _ _ => hf.wr (h (by decide)) _ _ _) _ _
  split
  · exact hs2
  · exact (hf.wr (h (by decide)) _ _ _).trans hs2

/-- The rates are set, or left as they are. -/
theorem noteDip (h : dipMarks ⊆ M) (s : State) : ∃ b, f s.noteDip = f (s.slowedSet b) := by
  have halarm : ∀ (x : State) (c : Bool), f (x.alarmWhile .PWR_RIDE_THROUGH noInst c) = f x := fun x c => hf.alarmWhile (h (by decide)) x _ c
  have hslow : slowMarks ⊆ M := List.Subset.trans (by decide) h
  unfold State.noteDip
  dsimp only
  split_ifs
  · exact ⟨true, (halarm _ _).trans (hf.setSlowed hslow s true)⟩
  · exact ⟨s.pwr.slowed, halarm _ _⟩
  · exact ⟨false, (halarm _ _).trans (hf.setSlowed hslow s false)⟩

theorem noteDip_pwr (h : .pwr :: dipMarks ⊆ M) (s : State) : f s.noteDip = f s := by
  obtain ⟨b, hb⟩ := hf.noteDip (List.Subset.trans (by decide) h) s
  exact hb.trans (hf _ (h (by decide)) _ _ (.pwr ..))

end Blind

/-- The postponed records are discarded, one after the other, and none is left (R447). -/
theorem dropFlash_eq (s : State) : ∃ x : State, s.dropFlash = x.flashEmptied.wr o1400_POSTPONED_WRITES 0 0 ∧ ∀ {α : Type} {f : State → α}, Blind flashMarks f → f x = f s := by
  unfold State.dropFlash
  refine ⟨_, rfl, fun hf => foldl_blind (fun s w => ?_) _ s⟩
  dsimp only
  split
  · next a =>
    refine (hf .itg (by decide) _ _ (.itg ..)).trans ?_
    split
    · exact (hf.wr (by decide) _ _ _).trans ((hf.wr (by decide) _ _ _).trans (hf.wr (by decide) _ _ _))
    · exact (hf.wr (by decide) _ _ _).trans (hf.wr (by decide) _ _ _)
  · split
    · exact (hf.wr (by decide) _ _ _).trans (hf.wr (by decide) _ _ _)
    · exact hf.wr (by decide) _ _ _
  · rfl

theorem dropFlash_pwr (s : State) : s.dropFlash.pwr = { s.pwr with postponed := [] } := by
  obtain ⟨x, hx, hblind⟩ := dropFlash_eq s
  rw [hx]
  exact congrArg (fun p : Pwr => { p with postponed := [] }) (hblind (blind_pwr (by decide)))

theorem Blind.dropFlash {M : List Mark} {α : Type} {f : State → α} (hf : Blind M f) (h : .pwr :: .obj o1400_POSTPONED_WRITES :: flashMarks ⊆ M) (s : State) : f s.dropFlash = f s := by
  obtain ⟨x, hx, hblind⟩ := dropFlash_eq s
  rw [hx]
  exact (hf.wr (h (by decide)) _ _ _).trans ((hf _ (h (by decide)) _ _ (.pwr ..)).trans (hblind fun m hm => hf m (h (.tail _ (.tail _ hm)))))

theorem noteVin_vin (s : State) (mv : Nat) : (s.noteVin mv).rd o1400_VIN_MV 0 = mv := by
  have hblind : Blind [.obj o1400_VIN_MIN_MV, .obj o1400_VIN_MAX_MV] (·.rd o1400_VIN_MV 0) := blind_rd (by decide) 0
  have hset : ∀ s : State, (if s.rdN o1400_VIN_MAX_MV 0 < mv then s.wr o1400_VIN_MAX_MV 0 mv else s).rd o1400_VIN_MV 0 = s.rd o1400_VIN_MV 0 := fun s => by
    split
    · exact hblind.wr (by decide) s 0 mv
    · rfl
  unfold State.noteVin
  refine (hset _).trans ?_
  split
  · exact (hblind.wr (by decide) _ 0 mv).trans (State.rd_wr_same ..)
  · exact State.rd_wr_same ..

/-- The outputs follow the power, the state of the device and the wait for the start level. -/
theorem pinsLive_congr {s u : State} (haon : u.pwr.aon = s.pwr.aon) (hlow : u.pwr.nrstLow = s.pwr.nrstLow) (hstart : u.pwr.starting = s.pwr.starting)
    (hdev : u.rd o1401_DEVICE_STATE 0 = s.rd o1401_DEVICE_STATE 0) : u.pinsLive = s.pinsLive := by
  unfold State.pinsLive State.powered
  rw [haon, hlow, hstart, hdev]

theorem warnPin_of {s : State} (h : s.pwr.warnOut = false) : s.warnPin = false := by
  unfold State.warnPin
  rw [h]
  exact Bool.and_false _

/-! The dip (R445, R446). -/

/-- VIN below the warning level: PWR_WARN_OUT is asserted and the ride-through begins. -/
def State.dipBegun (s : State) (mv : Nat) : State :=
  { s with pwr := { s.pwr with warnOut := true, dipFrom := some s.now, dipMin := mv } }.wr o1400_SUPPLY_STATE 0 SUPPLY_STATE.ride_through

/-- What a dip notes. -/
def dipNoted : List Mark := .pwr :: .obj o1400_SUPPLY_STATE :: vinMarks ++ dipMarks

theorem Blind.vinWarning {M : List Mark} {α : Type} {f : State → α} (hf : Blind M f) (h : dipNoted ⊆ M) (s : State) (mv : Nat) : f (s.vinWarning mv) = f s := by
  have hvin : ∀ s : State, f (s.noteVin mv) = f s := fun s => hf.noteVin (List.Subset.trans (by decide) h) s mv
  unfold State.vinWarning
  dsimp only
  split
  · exact hvin s
  · exact (hf.noteDip_pwr (List.Subset.trans (by decide) h) _).trans ((hf.wr (h (by decide)) _ _ _).trans ((hf _ (h (by decide)) _ _ (.pwr ..)).trans (hvin s)))

theorem vinWarning_begins {s : State} (mv : Nat) (hstate : s.rd o1400_SUPPLY_STATE 0 = SUPPLY_STATE.normal) :
    (s.vinWarning mv).rd o1400_SUPPLY_STATE 0 = SUPPLY_STATE.ride_through ∧ (s.vinWarning mv).warnPin = s.pinsLive ∧ (s.vinWarning mv).pwr.dipFrom = some s.now := by
  have hsupply : (s.noteVin mv).rd o1400_SUPPLY_STATE 0 = SUPPLY_STATE.normal := ((blind_rd (M := vinMarks) (by decide) 0).noteVin (List.Subset.refl _) s mv).trans hstate
  have hpwr : (s.noteVin mv).pwr = s.pwr := (blind_pwr (M := vinMarks) (by decide)).noteVin (List.Subset.refl _) s mv
  have hnow : (s.noteVin mv).now = s.now := (blind_now (M := vinMarks)).noteVin (List.Subset.refl _) s mv
  have hwork : s.vinWarning mv = ((s.noteVin mv).dipBegun mv).noteDip := if_neg fun hn => hn hsupply
  have hdev : (s.vinWarning mv).rd o1401_DEVICE_STATE 0 = s.rd o1401_DEVICE_STATE 0 := (blind_rd (M := dipNoted) (by decide) 0).vinWarning (List.Subset.refl _) s mv
  obtain ⟨b, hb⟩ := (blind_pwr (M := dipMarks) (by decide)).noteDip (List.Subset.refl _) ((s.noteVin mv).dipBegun mv)
  rw [← hwork] at hb
  have hp : (s.vinWarning mv).pwr = { s.pwr with warnOut := true, dipFrom := some s.now, dipMin := mv, slowed := b } := hb.trans (by
    show ({ (s.noteVin mv).pwr with warnOut := true, dipFrom := some (s.noteVin mv).now, dipMin := mv, slowed := b } : Pwr) = _
    rw [hpwr, hnow])
  refine ⟨?_, ?_, congrArg Pwr.dipFrom hp⟩
  · rw [hwork]
    exact ((blind_rd (M := .pwr :: dipMarks) (o := o1400_SUPPLY_STATE) (by decide) 0).noteDip_pwr (List.Subset.refl _) _).trans (State.rd_wr_same ..)
  · have haon := congrArg Pwr.aon hp
    have hlow := congrArg Pwr.nrstLow hp
    have hstart := congrArg Pwr.starting hp
    have hlive : (s.vinWarning mv).pinsLive = s.pinsLive := pinsLive_congr haon hlow hstart hdev
    unfold State.warnPin
    rw [hlive, show (s.vinWarning mv).pwr.warnOut = true from congrArg Pwr.warnOut hp, Bool.and_true]

/-- The dip has ended: what it leaves in the supply's objects, before the postponed writes run. -/
def State.dipEnded (s : State) (low ms : Nat) : State :=
  let s := { s with pwr := { s.pwr with warnOut := false, dipFrom := none, postponed := [] } }
  ((((s.wr o1400_POSTPONED_WRITES 0 0).wr o1400_SUPPLY_STATE 0 SUPPLY_STATE.normal).bump o1400_DIPS 0).wr o1400_LAST_DIP_MIN_MV 0 low).wr o1400_LAST_DIP_MS 0 ms

/-- What a postponed write touches. -/
def runMarks : List Mark := [.sec, .obj o1200_CONFIG_STATE]

theorem Blind.runFlash {M : List Mark} {α : Type} {f : State → α} (hf : Blind M f) (h : runMarks ⊆ M) (s : State) (w : FlashWrite) : f (s.runFlash w) = f s := by
  cases w with
  | save => exact hf.wr (h (by decide)) _ _ _
  | importCfg => exact hf.wr (h (by decide)) _ _ _
  | fwActivate => exact hf _ (h (by decide)) _ _ (.sec ..)
  | _ => rfl

end Sys2Proof.Machine
end

section
/-! SUPPORT. The end of a dip, the high supply and the orderly stop (R446, R447, R457, R461). -/

namespace Sys2Proof.Machine
open Sys2Proof

/-! The end of a dip. -/

/-- The postponed writes run, the rates come back and the dip is recorded. -/
def State.dipNoted (s : State) (l : List FlashWrite) (data : Bytes) : State := (l.foldl State.runFlash s).noteDip.logEvent evPwrDip 12 noInst data

/-- What follows the end of a dip touches, beside the rates. -/
def afterDipMarks : List Mark := runMarks ++ dipMarks

theorem dipNoted_pwr (s : State) (l : List FlashWrite) (data : Bytes) : ∃ b, (s.dipNoted l data).pwr = { s.pwr with slowed := b } := by
  obtain ⟨b, hb⟩ := (blind_pwr (M := dipMarks) (by decide)).noteDip (List.Subset.refl _) (l.foldl State.runFlash s)
  have hrun : (l.foldl State.runFlash s).pwr = s.pwr := foldl_blind (fun s w => (blind_pwr (M := runMarks) (by decide)).runFlash (List.Subset.refl _) s w) l s
  have hlog : LogBlind State.pwr := ⟨fun _ _ => rfl, fun _ _ _ _ _ => rfl⟩
  refine ⟨b, (hlog.logRec _ _ _ _ _ _ _ _).trans (hb.trans ?_)⟩
  exact congrArg (fun p : Pwr => { p with slowed := b }) hrun

theorem dipNoted_rd (s : State) (l : List FlashWrite) (data : Bytes) {o : Nat} (h : .obj o ∉ .pwr :: afterDipMarks) (ho : o ∉ alarmSideObjects) (hlog : o ∉ logObjects) (r : Nat) :
    (s.dipNoted l data).rd o r = s.rd o r := by
  have hblind : Blind (.pwr :: afterDipMarks) (·.rd o r) := blind_rd h r (.inr ho)
  refine ((logBlind_rd hlog r).logRec _ _ _ _ _ _ _ _).trans ((hblind.noteDip_pwr (List.Subset.trans (by decide) (List.Subset.refl _)) _).trans ?_)
  exact foldl_blind (f := fun s => State.rd s o r) (fun s w => hblind.runFlash (by decide) s w) l s

theorem vinClear_eq {s : State} {f : Nat} (mv low : Nat) (hdip : s.pwr.dipFrom = some f) :
    ∃ data, s.vinClear mv low = ((s.noteVin mv).dipEnded (min low s.pwr.dipMin) ((s.now - f) / 1000000 % 4294967296)).dipNoted s.pwr.postponed data := by
  have hpwr : (s.noteVin mv).pwr = s.pwr := (blind_pwr (M := vinMarks) (by decide)).noteVin (List.Subset.refl _) s mv
  have hnow : (s.noteVin mv).now = s.now := (blind_now (M := vinMarks)).noteVin (List.Subset.refl _) s mv
  refine ⟨leBytes 4 (min low s.pwr.dipMin) ++ leBytes 4 ((s.now - f) / 1000000 % 4294967296), ?_⟩
  rw [← hpwr, ← hnow]
  unfold State.vinClear
  dsimp only
  rw [show (s.noteVin mv).pwr.dipFrom = some f from (congrArg Pwr.dipFrom hpwr).trans hdip]
  rfl

/-- What the end of a dip leaves. -/
structure DipEnded (s u : State) (f low : Nat) : Prop where
  supply : u.rd o1400_SUPPLY_STATE 0 = SUPPLY_STATE.normal
  warnOut : u.pwr.warnOut = false
  dipFrom : u.pwr.dipFrom = none
  postponed : u.pwr.postponed = []
  writes : u.rd o1400_POSTPONED_WRITES 0 = 0
  dips : u.rd o1400_DIPS 0 = (s.rd o1400_DIPS 0 + 1) % 4294967296
  lowest : u.rd o1400_LAST_DIP_MIN_MV 0 = (min low s.pwr.dipMin : Nat)
  lasted : u.rd o1400_LAST_DIP_MS 0 = ((s.now - f) / 1000000 % 4294967296 : Nat)

theorem vinClear_ends {s : State} {f : Nat} (mv low : Nat) (hdip : s.pwr.dipFrom = some f) : DipEnded s (s.vinClear mv low) f low := by
  obtain ⟨data, hwork⟩ := vinClear_eq mv low hdip
  have hmod : objModulus o1400_DIPS = 4294967296 := by decide
  have hdips : (s.noteVin mv).rd o1400_DIPS 0 = s.rd o1400_DIPS 0 := (blind_rd (M := vinMarks) (by decide) 0).noteVin (List.Subset.refl _) s mv
  obtain ⟨b, hp⟩ := dipNoted_pwr ((s.noteVin mv).dipEnded (min low s.pwr.dipMin) ((s.now - f) / 1000000 % 4294967296)) s.pwr.postponed data
  rw [hwork]
  have hwarn := congrArg Pwr.warnOut hp
  have hfrom := congrArg Pwr.dipFrom hp
  have hpost := congrArg Pwr.postponed hp
  constructor
  · rw [dipNoted_rd _ _ _ (by decide) (by decide) (by decide)]
    unfold State.dipEnded
    simp (disch := decide) only [State.rd_wr_obj, State.rd_wr_same, rd_bump_obj]
  · exact hwarn
  · exact hfrom
  · exact hpost
  · rw [dipNoted_rd _ _ _ (by decide) (by decide) (by decide)]
    unfold State.dipEnded
    simp (disch := decide) only [State.rd_wr_obj, State.rd_wr_same, rd_bump_obj]
  · rw [dipNoted_rd _ _ _ (by decide) (by decide) (by decide), ← hdips]
    unfold State.dipEnded
    simp (disch := decide) only [State.rd_wr_obj, rd_bump_same, hmod]
    rfl
  · rw [dipNoted_rd _ _ _ (by decide) (by decide) (by decide)]
    unfold State.dipEnded
    simp (disch := decide) only [State.rd_wr_obj, State.rd_wr_same]
  · rw [dipNoted_rd _ _ _ (by decide) (by decide) (by decide)]
    exact State.rd_wr_same ..

/-! The orderly stop (R447). -/

/-- What the stop touches once its state is set. -/
def stopMarks : List Mark := [.alarm .SYS_SAFE_STATE, .pwr, .ctl, .obj o1400_POSTPONED_WRITES, .obj o1200_CONFIG_STATE] ++ vinMarks ++ flashMarks ++ dipMarks

/-- What a stop leaves. -/
structure Stopping (u : State) (reason : Int) : Prop where
  device : u.rd o1401_DEVICE_STATE 0 = DEVICE_STATE.stopping
  supply : u.rd o1400_SUPPLY_STATE 0 = SUPPLY_STATE.stopping
  alarm : u.stands .PWR_VIN_STOP noInst
  custody : u.rd o1601_CUSTODY_HELD 0 = 0
  safeOut : u.pwr.safeOut = true
  postponed : u.pwr.postponed = []
  reason : u.pwr.stopReason = reason

/-- The stop begun: the alarm is raised, custody is given up and the postponed writes are discarded. -/
def State.stopBegun (s : State) : State := (((s.raise .PWR_VIN_STOP noInst).setCustody false).clear .SYS_SAFE_STATE noInst).dropFlash

/-- The outputs and the reason of the stop. -/
def State.stopOut (s : State) (reason : Int) : State := { s with pwr := { s.pwr with safeOut := true, dipFrom := none, starting := false, leaving := false, stopReason := reason } }

/-- A save that waits for the end of a dip is given up. -/
def State.saveDropped (s : State) : State :=
  if s.rd o1200_CONFIG_STATE 0 = CONFIG_STATE.postponed then { s.wr o1200_CONFIG_STATE 0 CONFIG_STATE.idle with ctl := { s.ctl with save := none } } else s

theorem Blind.saveDropped {α : Type} {f : State → α} (hf : Blind [.ctl, .obj o1200_CONFIG_STATE] f) (s : State) : f s.saveDropped = f s := by
  unfold State.saveDropped
  split
  · exact (hf .ctl (.head _) _ _ (.ctl (s.wr o1200_CONFIG_STATE 0 CONFIG_STATE.idle) _)).trans (hf.wr (by decide) _ _ _)
  · rfl

theorem orderlyStop_stops {s : State} (mv : Nat) (reason : Int)
    (hdev : s.rd o1401_DEVICE_STATE 0 = DEVICE_STATE.starting ∨ s.rd o1401_DEVICE_STATE 0 = DEVICE_STATE.running ∨ s.rd o1401_DEVICE_STATE 0 = DEVICE_STATE.safe) :
    Stopping (s.orderlyStop mv reason) reason := by
  have hvin : (s.noteVin mv).rd o1401_DEVICE_STATE 0 = s.rd o1401_DEVICE_STATE 0 := (blind_rd (M := vinMarks) (by decide) 0).noteVin (List.Subset.refl _) s mv
  have hwork : s.orderlyStop mv reason =
      (((((s.noteVin mv).stopBegun.stopOut reason).saveDropped.wr o1400_SUPPLY_STATE 0 SUPPLY_STATE.stopping).wr o1401_DEVICE_STATE 0 DEVICE_STATE.stopping).setSlowed false).noteDip := by
    refine if_neg fun ⟨h1, h2, h3⟩ => ?_
    rw [hvin] at h1 h2 h3
    exact hdev.elim h1 fun h => h.elim h2 h3
  rw [hwork]
  generalize s.noteVin mv = x
  set y := (x.stopBegun.stopOut reason).saveDropped with hy
  have hlast : ∀ {α : Type} {f : State → α}, Blind (.pwr :: dipMarks) f → ∀ z : State, f (z.setSlowed false).noteDip = f z := fun hf z =>
    (hf.noteDip_pwr (List.Subset.refl _) _).trans ((hf.setSlowed (by decide) z false).trans (hf _ (.head _) _ _ (.pwr ..)))
  have hpwr : ∃ b, ((((y.wr o1400_SUPPLY_STATE 0 SUPPLY_STATE.stopping).wr o1401_DEVICE_STATE 0 DEVICE_STATE.stopping).setSlowed false).noteDip).pwr =
      { (x.stopBegun.stopOut reason).pwr with slowed := b } := by
    obtain ⟨b, hb⟩ := (blind_pwr (M := dipMarks) (by decide)).noteDip (List.Subset.refl _)
      (((y.wr o1400_SUPPLY_STATE 0 SUPPLY_STATE.stopping).wr o1401_DEVICE_STATE 0 DEVICE_STATE.stopping).setSlowed false)
    have hslow := (blind_pwr (M := slowMarks) (by decide)).setSlowed (List.Subset.refl _) ((y.wr o1400_SUPPLY_STATE 0 SUPPLY_STATE.stopping).wr o1401_DEVICE_STATE 0 DEVICE_STATE.stopping) false
    have hsave : y.pwr = (x.stopBegun.stopOut reason).pwr := (blind_pwr (by decide)).saveDropped _
    have hset := congrArg (fun p : Pwr => { p with slowed := b }) (hslow.trans (congrArg (fun p : Pwr => { p with slowed := false }) hsave))
    exact ⟨b, hb.trans hset⟩
  have hold : ∀ {α : Type} {f : State → α}, Blind (.obj o1400_SUPPLY_STATE :: .obj o1401_DEVICE_STATE :: stopMarks) f →
      f ((((y.wr o1400_SUPPLY_STATE 0 SUPPLY_STATE.stopping).wr o1401_DEVICE_STATE 0 DEVICE_STATE.stopping).setSlowed false).noteDip) =
        f ((x.raise .PWR_VIN_STOP noInst).setCustody false) := fun hf => by
    have hsub : ∀ L : List Mark, L ⊆ .obj o1400_SUPPLY_STATE :: .obj o1401_DEVICE_STATE :: stopMarks → Blind L _ := fun L hL m hm => hf m (hL hm)
    refine (hlast (hsub _ (by decide)) _).trans ((hf.wr (by decide) _ _ _).trans ((hf.wr (by decide) _ _ _).trans ?_))
    refine ((hsub _ (by decide)).saveDropped _).trans ((hf _ (by decide) _ _ (.pwr ..)).trans ?_)
    exact (hf.dropFlash (by decide) _).trans (hf.clear (by decide) _ _)
  obtain ⟨b, hp⟩ := hpwr
  have hflash : x.stopBegun.pwr.postponed = [] := congrArg Pwr.postponed (dropFlash_pwr _)
  have hsafe := congrArg Pwr.safeOut hp
  have hpost := congrArg Pwr.postponed hp
  have hreason := congrArg Pwr.stopReason hp
  constructor
  · exact (hlast (blind_rd (by decide) 0) _).trans (State.rd_wr_same ..)
  · exact (hlast (blind_rd (by decide) 0) _).trans ((State.rd_wr_obj _ _ (by decide)).trans (State.rd_wr_same ..))
  · exact (hold (blind_stands (by decide) (by decide) noInst)).mpr (stands_raise_same x _ _)
  · exact (hold (blind_rd (by decide) 0)).trans (State.rd_wr_same ..)
  · exact hsafe
  · exact hpost.trans hflash
  · exact hreason

/-- The stop complete: every domain that is not locked off is off. -/
def State.domainsOff (s : State) : State := pdList.foldl (fun s pd => if s.pdState pd = PD_STATE.locked_off then s else s.wr o1410_PD_STATE pd PD_STATE.off) s

theorem Blind.domainsOff {α : Type} {f : State → α} (hf : Blind [.obj o1410_PD_STATE] f) (s : State) : f s.domainsOff = f s :=
  foldl_blind (fun s pd => by
    split
    · rfl
    · exact hf.wr (.head _) _ _ _) _ s

theorem stopDone_safe {s : State} (hdev : s.rd o1401_DEVICE_STATE 0 = DEVICE_STATE.stopping) : s.stopDone = s.domainsOff.doSafe s.pwr.stopReason := by
  have hpwr : s.domainsOff.pwr = s.pwr := (blind_pwr (by decide)).domainsOff s
  rw [← hpwr]
  unfold State.stopDone State.domainsOff
  split
  · next hn => exact absurd hdev hn
  · rfl

section
variable {s : State} {t mv : Nat} (hp : s.powered = true)
include hp

theorem vinWarning_dips (hstate : s.rd o1400_SUPPLY_STATE 0 = SUPPLY_STATE.normal) : ∃ u, exec (.vinWarning t mv) s = .next u ∧ u.rd o1400_SUPPLY_STATE 0 = SUPPLY_STATE.ride_through ∧
    u.warnPin = s.pinsLive ∧ u.pwr.dipFrom = some (max s.now t) ∧ ∀ {α : Type} {f : State → α}, Blind dipNoted f → (∀ w, f ((s.begin t).finish w) = f w) → f u = f (s.begin t) := by
  have hrun := run_work (t := t) (f := fun s => s.vinWarning mv) hp rfl
  have hdip := vinWarning_begins (s := s.begin t) mv hstate
  have hblind : ∀ {α : Type} {f : State → α}, Blind dipNoted f → f ((s.begin t).vinWarning mv) = f (s.begin t) := fun hf => hf.vinWarning (List.Subset.refl _) _ mv
  generalize (s.begin t).vinWarning mv = y at hrun hdip hblind
  obtain ⟨hsupply, hpin, hfrom⟩ := hdip
  exact ⟨_, hrun, hsupply, hpin, hfrom, fun hf hfin => (hfin _).trans (hblind hf)⟩

theorem vinClear_ended {f : Nat} (low : Nat) (hdip : s.pwr.dipFrom = some f) : ∃ u, exec (.vinClear t mv low) s = .next u ∧ DipEnded (s.begin t) u f low := by
  have hrun := run_work (t := t) (f := fun s => s.vinClear mv low) hp rfl
  have hend := vinClear_ends (s := s.begin t) mv low hdip
  generalize (s.begin t).vinClear mv low = y at hrun hend
  exact ⟨_, hrun, { hend with supply := hend.supply }⟩

theorem vinHigh_raised (h : 60000 < mv) : ∃ u, exec (.vinHigh t mv) s = .next u ∧ u.stands .PWR_VIN_HIGH noInst ∧ u.rdN o1400_VIN_MV 0 = mv := by
  refine ⟨_, run_work (t := t) (f := fun s => s.vinHigh mv) hp (if_pos h), (finish_stands ..).mpr (stands_raise_same ..), congrArg Int.toNat (Eq.trans ?_ (noteVin_vin (s.begin t) mv))⟩
  exact (blind_rd (M := [.alarm .PWR_VIN_HIGH]) (by decide) 0).raise (.head _) _ _

theorem vinHigh_cleared (h : mv < 59500) : ∃ u, exec (.vinHigh t mv) s = .next u ∧ ¬ u.stands .PWR_VIN_HIGH noInst ∧ u.rdN o1400_VIN_MV 0 = mv := by
  have hwork : (s.begin t).vinHigh mv = ((s.begin t).noteVin mv).clear .PWR_VIN_HIGH noInst := (if_neg (by omega)).trans (if_pos h)
  refine ⟨_, run_work (t := t) (f := fun s => s.vinHigh mv) hp hwork, fun hs => not_stands_clear _ _ _ ((finish_stands ..).mp hs), congrArg Int.toNat (Eq.trans ?_ (noteVin_vin (s.begin t) mv))⟩
  exact (blind_rd (M := [.alarm .PWR_VIN_HIGH]) (by decide) 0).clear (.head _) _ _

theorem stop_runs {r : Int} {f : State → State} (hf : f (s.begin t) = (s.begin t).orderlyStop mv r)
    (hdev : s.rd o1401_DEVICE_STATE 0 = DEVICE_STATE.starting ∨ s.rd o1401_DEVICE_STATE 0 = DEVICE_STATE.running ∨ s.rd o1401_DEVICE_STATE 0 = DEVICE_STATE.safe) :
    ∃ u, s.run t f = .next u ∧ Stopping u r := by
  have hrun := run_work (t := t) (f := f) hp hf
  have hstop := orderlyStop_stops (s := s.begin t) mv r hdev
  generalize (s.begin t).orderlyStop mv r = y at hrun hstop
  exact ⟨_, hrun, { hstop with device := hstop.device, alarm := (finish_stands ..).mpr hstop.alarm }⟩

theorem stop_completes (hdev : s.rd o1401_DEVICE_STATE 0 = DEVICE_STATE.stopping) : ∃ u, exec (.orderlyStopComplete t) s = .next u ∧ u.rd o1401_DEVICE_STATE 0 = DEVICE_STATE.safe ∧
    u.rd o1401_SAFE_REASON 0 = s.pwr.stopReason ∧ u.safePin = true ∧ u.custodyPin = false := by
  obtain ⟨y, hrun, hsafe⟩ := run_safe (t := t) (f := fun s => s.stopDone) hp (stopDone_safe (s := s.begin t) hdev)
  exact ⟨_, hrun, hsafe.device, hsafe.reason, safePin_of hsafe.safeOut, custodyPin_of hsafe.custody⟩

end

/-- Settles O51, by what a dip, its end and an orderly stop write. That a device that is safe stops too, with the new reason, is the model's choice (log row 125). -/
theorem dipsAndStopsAreRidden : Obligations.DipsAndStopsAreRidden := by
  unfold Obligations.DipsAndStopsAreRidden
  refine ⟨fun s t mv low hp => ⟨fun hstate => ?_, fun f hdip => ?_, vinHigh_raised hp, vinHigh_cleared hp⟩, fun s t mv hp => ⟨fun hdev => ⟨?_, ?_⟩, stop_completes hp⟩⟩
  · obtain ⟨u, hrun, hsupply, hpin, hfrom, hsame⟩ := vinWarning_dips (t := t) (mv := mv) hp hstate
    exact ⟨u, hrun, hsupply, hpin, hfrom, hsame (blind_led (by decide)) fun _ => rfl, hsame (blind_tds (by decide)) fun _ => rfl, hsame (blind_lanes (by decide)) fun _ => rfl,
      hsame (blind_med (by decide)) fun _ => rfl, hsame (blind_aud (by decide)) fun _ => rfl, hsame (blind_fab (by decide)) fun _ => rfl, hsame (blind_tlr (by decide)) fun _ => rfl,
      hsame (blind_eg (by decide)) fun _ => rfl, hsame (blind_enc (by decide)) fun _ => rfl, hsame (blind_cmp (by decide)) fun _ => rfl, hsame (blind_ras (by decide)) fun _ => rfl⟩
  · obtain ⟨u, hrun, hend⟩ := vinClear_ended (t := t) (mv := mv) hp low hdip
    exact ⟨u, hrun, hend.supply, warnPin_of hend.warnOut, hend.dipFrom, hend.postponed, hend.writes, hend.dips, hend.lowest, hend.lasted⟩
  · obtain ⟨u, hrun, hstop⟩ := stop_runs (t := t) (mv := mv) (f := fun s => s.orderlyStop mv SAFE_REASON.vin_stop) hp rfl hdev
    exact ⟨u, hrun, hstop.device, hstop.supply, hstop.alarm, custodyPin_of hstop.custody, safePin_of hstop.safeOut, hstop.postponed, hstop.reason⟩
  · obtain ⟨u, hrun, hstop⟩ := stop_runs (t := t) (mv := mv) (f := fun s => s.orderlyStop mv SAFE_REASON.vin_high) hp rfl hdev
    exact ⟨u, hrun, hstop.device, hstop.supply, hstop.alarm, custodyPin_of hstop.custody, safePin_of hstop.safeOut, hstop.postponed, hstop.reason⟩

end Sys2Proof.Machine
end

section
/-! SUPPORT. What a reset leaves, restarts and the commands of the safe state (R392, R443, R455-R458, R489, R490). -/

namespace Sys2Proof.Machine
open Sys2Proof

/-! What a reset leaves (R392, R456). -/

/-- What a loss of the volatile state leaves: no session, no order but that the frame store is empty, no task, no queue and no flow, and every object that nothing keeps at its default. -/
structure Cold (s u : State) (aon restart : Bool) : Prop where
  ports : u.ctl.ports = []
  endAfter : u.ctl.endAfter = []
  orders : u.orders = [.clear]
  tasks : u.tlr.tasks = []
  eg : u.eg = {}
  med : u.med = {}
  clk : u.clk = if restart then s.clk else 0
  power : u.pwr.aon = s.pwr.aon
  nrstLow : u.pwr.nrstLow = s.pwr.nrstLow
  now : u.now = s.now
  rd : ∀ o r, o ≠ o1101_LAST_END_REASON → (nonVolatile o || (aon && supervised o) || (restart && selectorKept o)) = false → u.rd o r = objDefault o r

theorem cold_spec (s : State) (aon restart : Bool) : Cold s (s.cold aon restart) aon restart := by
  have hpwr : s.breakSave.dropFlash.pwr = { s.pwr with postponed := [] } := (dropFlash_pwr _).trans (congrArg (fun p : Pwr => { p with postponed := [] }) ((blind_pwr (M := [.ctl, .free]) (by decide)).breakSave (by decide) (by decide) s))
  have haon := congrArg Pwr.aon hpwr
  have hlow := congrArg Pwr.nrstLow hpwr
  have hdrop : ∀ {α : Type} {f : State → α}, Blind (.pwr :: .obj o1400_POSTPONED_WRITES :: flashMarks ++ [.ctl, .free]) f → f s.breakSave.dropFlash = f s := fun hf =>
    (hf.dropFlash (by decide) _).trans (hf.breakSave (by decide) (by decide) s)
  have hclk := hdrop (blind_clk (by decide))
  have hnow := hdrop blind_now
  unfold State.cold
  extract_lets keep open_ s1 base s'
  have hfold : ∀ {α : Type} {f : State → α}, Blind [.obj o1101_LAST_END_REASON] f → f (open_.foldl (fun s p => s.wr o1101_LAST_END_REASON p LAST_END_REASON.restart) s') = f s' := fun hf =>
    foldl_blind (fun _ _ => hf.wr (.head _) _ _ _) _ _
  constructor
  · exact congrArg Ctl.ports (hfold (blind_ctl (by decide)))
  · exact congrArg Ctl.endAfter (hfold (blind_ctl (by decide)))
  · exact hfold (blind_orders (by decide))
  · exact congrArg Tlr.tasks (hfold (blind_tlr (by decide)))
  · exact hfold (blind_eg (by decide))
  · exact hfold (blind_med (by decide))
  · exact (hfold (blind_clk (by decide))).trans (by rw [← hclk])
  · exact (congrArg Pwr.aon (hfold (blind_pwr (by decide)))).trans haon
  · exact (congrArg Pwr.nrstLow (hfold (blind_pwr (by decide)))).trans hlow
  · exact (hfold blind_now).trans hnow
  · intro o r hne hkeep
    refine (hfold (blind_rd (fun h => hne (Mark.obj.inj (List.mem_singleton.mp h))) r (.inl rfl))).trans ?_
    show (storeGet (o, r) (s1.regs.filter fun e => keep e.1.1)).getD (objDefault o r) = objDefault o r
    rw [storeGet_filter (fun k : Nat × Nat => keep k.1), if_neg (by rw [show keep o = false from hkeep]; exact Bool.false_ne_true)]
    rfl

/-- Without ports there is no session. -/
theorem session_none {s : State} (h : s.ctl.ports = []) (p : Nat) : (s.port p).session = none := by
  unfold State.port
  rw [h]
  rfl

/-- Stage 0 begun: the device starts, with the instant of its start. -/
structure Begun (s u : State) : Prop where
  device : u.rd o1401_DEVICE_STATE 0 = DEVICE_STATE.starting
  stage : u.rd o1401_START_STAGE 0 = START_STAGE.aon
  starting : u.pwr.starting = true
  since : u.pwr.stage0At = s.now

theorem beginStart_begun (s : State) : Begun s s.beginStart where
  device := (rd_bump_obj _ (by decide) _ _).trans ((State.rd_wr_obj _ _ (by decide)).trans (State.rd_wr_same ..))
  stage := (rd_bump_obj _ (by decide) _ _).trans (State.rd_wr_same ..)
  starting := rfl
  since := rfl

/-- A restart: a loss of the volatile state but for the always-on domain, and stage 0 begun. -/
theorem restart_spec (s : State) (cause : Int) : Begun s (s.restart cause) ∧ (s.restart cause).rd o1401_RESET_CAUSE 0 = cause ∧ (s.restart cause).ctl = (s.cold true true).ctl ∧
    (s.restart cause).orders = [.clear] := by
  have hcold := cold_spec s true true
  unfold State.restart
  generalize s.cold true true = x at hcold
  have hbegun := beginStart_begun (x.wr o1401_RESET_CAUSE 0 cause)
  refine ⟨⟨hbegun.device, hbegun.stage, hbegun.starting, hbegun.since.trans hcold.now⟩, ?_, rfl, hcold.orders⟩
  exact (rd_bump_obj _ (by decide) _ _).trans ((State.rd_wr_obj _ _ (by decide)).trans ((State.rd_wr_obj _ _ (by decide)).trans (State.rd_wr_same ..)))

end Sys2Proof.Machine
end

section
/-! SUPPORT. SAFE_CMD, resets and restarts, the watchdog and the case temperature (R455-R459, R489, R490). -/

namespace Sys2Proof.Machine
open Sys2Proof

theorem endAfter_of_admits {s : State} {port o r : Nat} {v : Val} (ha : s.admits port o r v = true) : s.ctl.endAfter = [] := by
  obtain ⟨-, -, -, -, -, hend, -⟩ := opWrite_admitted (fun _ _ _ s => (stOK, s)) ha
  exact hend

/-- A load that begins touches the bank that it fills alone. -/
theorem PlanBlind.beginLoad {α : Type} {f : State → α} (hf : PlanBlind f) (hled : ∀ (s : State) (x : Led), f { s with led := x } = f s) (s : State) (flash : Option Nat) :
    f (s.beginLoad flash).2 = f s := by
  unfold State.beginLoad
  split
  · rfl
  · split
    · rfl
    · exact hf.emptyBank hled _ _ _ _

/-! SAFE_CMD (R458). -/

/-- The stages of 'leave' begun: 5 to 7, before the image is read. -/
def State.leaveBegun (s : State) : State :=
  { s.wr o1401_START_STAGE 0 START_STAGE.ledger with pwr := { s.pwr with leaving := true, starting := true, stageAt := s.now, armedFirst := false } }

theorem writeSafeCmd_eq (c : Ctx) (r : Nat) (v : Int) (s : State) : writeSafeCmd c r (.int v) s =
    if v = SAFE_CMD.enter then
      if s.rd o1401_DEVICE_STATE 0 = DEVICE_STATE.stopping ∨ s.rd o1401_DEVICE_STATE 0 = DEVICE_STATE.recovery then (stBUSY, s) else (stOK, s.enterSafe SAFE_REASON.command false)
    else if v = SAFE_CMD.leave then
      if s.rd o1401_DEVICE_STATE 0 ≠ DEVICE_STATE.safe ∨ (s.rd o1401_SAFE_REASON 0 ≠ SAFE_REASON.command ∧ s.rd o1401_SAFE_REASON 0 ≠ SAFE_REASON.ledger) then (0x1413, s)
      else (stOK, (s.leaveBegun.beginLoad (some (s.leaveBegun.rdN o2002_FLASH_IMAGE 0))).2)
    else if s.rd o1401_DEVICE_STATE 0 ≠ DEVICE_STATE.safe then (stBUSY, s)
    else if s.rd o1401_SAFE_REASON 0 = SAFE_REASON.thermal ∧ 10 * s.rd o1400_TEMP_WARN_C 0 ≤ s.pwr.caseTemp then (stBUSY, s)
    else (stOK, s.restart RESET_CAUSE.command) := rfl

theorem writeSafeCmd_enter {s : State} (c : Ctx) (r : Nat) (h : ¬ (s.rd o1401_DEVICE_STATE 0 = DEVICE_STATE.stopping ∨ s.rd o1401_DEVICE_STATE 0 = DEVICE_STATE.recovery)) :
    writeSafeCmd c r (.int SAFE_CMD.enter) s = (stOK, s.enterSafe SAFE_REASON.command false) := by rw [writeSafeCmd_eq, if_pos rfl, if_neg h]

theorem writeSafeCmd_leave (c : Ctx) (r : Nat) (s : State) : writeSafeCmd c r (.int SAFE_CMD.leave) s =
    if s.rd o1401_DEVICE_STATE 0 ≠ DEVICE_STATE.safe ∨ (s.rd o1401_SAFE_REASON 0 ≠ SAFE_REASON.command ∧ s.rd o1401_SAFE_REASON 0 ≠ SAFE_REASON.ledger) then (0x1413, s)
    else (stOK, (s.leaveBegun.beginLoad (some (s.leaveBegun.rdN o2002_FLASH_IMAGE 0))).2) := by
  rw [writeSafeCmd_eq, if_neg (by decide), if_pos rfl]

theorem writeSafeCmd_restart {s : State} (c : Ctx) (r : Nat) (hdev : s.rd o1401_DEVICE_STATE 0 = DEVICE_STATE.safe)
    (hcool : ¬ (s.rd o1401_SAFE_REASON 0 = SAFE_REASON.thermal ∧ 10 * s.rd o1400_TEMP_WARN_C 0 ≤ s.pwr.caseTemp)) :
    writeSafeCmd c r (.int SAFE_CMD.restart) s = (stOK, s.restart RESET_CAUSE.command) := by
  rw [writeSafeCmd_eq, if_neg (by decide), if_neg (by decide), if_neg (not_not.mpr hdev), if_neg hcool]

section
variable {s : State} {t port : Nat} (hp : s.powered = true)
include hp

theorem safe_entered (ha : s.admits port o1401_SAFE_CMD 0 (.int SAFE_CMD.enter) = true) (hdev : s.rd o1401_DEVICE_STATE 0 = DEVICE_STATE.running) (hpair : s.pairState = PAIR_STATE.unpaired) :
    ∃ u, exec (.safeEnter t port) s = .next u ∧ u.last = ⟨0, none⟩ ∧ u.rd o1401_DEVICE_STATE 0 = DEVICE_STATE.safe ∧ u.rd o1401_SAFE_REASON 0 = SAFE_REASON.command ∧
      u.safePin = true ∧ u.custodyPin = false := by
  have hcond : ¬ (s.rd o1401_DEVICE_STATE 0 = DEVICE_STATE.stopping ∨ s.rd o1401_DEVICE_STATE 0 = DEVICE_STATE.recovery) := by
    rw [hdev]
    decide
  obtain ⟨y, hwork, hsafe, hctl⟩ : ∃ y, (s.begin t).enterSafe SAFE_REASON.command false = y ∧ Safe y SAFE_REASON.command ∧ y.ctl = (s.begin t).ctl :=
    ⟨_, enterSafe_eq (s := s.begin t) (.inr hdev) (.inr hpair), doSafe_entered _ _, doSafe_ctl _ _⟩
  have hk : ∀ c : Ctx, c.port = port → writeSafeCmd c 0 (.int SAFE_CMD.enter) (s.begin t) = (stOK, y) := fun c _ =>
    (writeSafeCmd_enter (s := s.begin t) c 0 hcond).trans (congrArg (Prod.mk stOK) hwork)
  obtain ⟨e, hrun, hend⟩ := run_accepted_row (t := t) (by decide) hp ha hk (congrArg Ctl.endAfter hctl)
  exact ⟨_, hrun, hend.last, (hend.rd _ _ (by decide)).trans hsafe.device, (hend.rd _ _ (by decide)).trans hsafe.reason, safePin_of (s := y.endOf e) hsafe.safeOut,
    custodyPin_of ((hend.rd _ _ (by decide)).trans hsafe.custody)⟩

theorem safe_left (ha : s.admits port o1401_SAFE_CMD 0 (.int SAFE_CMD.leave) = true) (hdev : s.rd o1401_DEVICE_STATE 0 = DEVICE_STATE.safe)
    (hreason : s.rd o1401_SAFE_REASON 0 = SAFE_REASON.command ∨ s.rd o1401_SAFE_REASON 0 = SAFE_REASON.ledger) :
    ∃ u, exec (.safeLeave t port) s = .next u ∧ u.last = ⟨0, none⟩ ∧ u.rd o1401_START_STAGE 0 = START_STAGE.ledger ∧ u.pwr.leaving = true ∧ u.pwr.starting = true ∧
      u.rd o1401_DEVICE_STATE 0 = DEVICE_STATE.safe := by
  obtain ⟨y, hy⟩ : ∃ y, y = ((s.begin t).leaveBegun.beginLoad (some ((s.begin t).leaveBegun.rdN o2002_FLASH_IMAGE 0))).2 := ⟨_, rfl⟩
  have hk : ∀ c : Ctx, c.port = port → writeSafeCmd c 0 (.int SAFE_CMD.leave) (s.begin t) = (stOK, y) := fun c _ => by
    rw [hy]
    refine (writeSafeCmd_leave c 0 _).trans (if_neg ?_)
    rintro (hn | ⟨hcmd, hledger⟩)
    · exact hn hdev
    · exact hreason.elim hcmd hledger
  have hblind : ∀ {α : Type} {f : State → α}, PlanBlind f → (∀ (s : State) (x : Led), f { s with led := x } = f s) → f y = f (s.begin t).leaveBegun := fun hf hled => by
    rw [hy]
    exact hf.beginLoad hled _ _
  have hpwr := hblind planBlind_pwr fun _ _ => rfl
  have hleaving := congrArg Pwr.leaving hpwr
  have hstarting := congrArg Pwr.starting hpwr
  obtain ⟨e, hrun, hend⟩ := run_accepted_row (t := t) (by decide) hp ha hk (congrArg Ctl.endAfter (hblind planBlind_ctl fun _ _ => rfl))
  refine ⟨_, hrun, hend.last, (hend.rd _ _ (by decide)).trans ((hblind (planBlind_rd 0 (by decide) (by decide)) fun _ _ => rfl).trans ?_), hleaving, hstarting,
    (hend.rd _ _ (by decide)).trans ((hblind (planBlind_rd 0 (by decide) (by decide)) fun _ _ => rfl).trans ?_)⟩
  · exact State.rd_wr_same (s.begin t) o1401_START_STAGE 0 START_STAGE.ledger
  · exact (State.rd_wr_obj (s.begin t) (o := o1401_START_STAGE) START_STAGE.ledger (by decide)).trans hdev

theorem safe_kept (ha : s.admits port o1401_SAFE_CMD 0 (.int SAFE_CMD.leave) = true) (hcmd : s.rd o1401_SAFE_REASON 0 ≠ SAFE_REASON.command)
    (hledger : s.rd o1401_SAFE_REASON 0 ≠ SAFE_REASON.ledger) :
    ∃ u, exec (.safeLeave t port) s = .next u ∧ u.last = ⟨0x1413, none⟩ ∧ s.keepsRegs u [] ∧ u.works = s.works := by
  have hk : ∀ c : Ctx, c.port = port → writeSafeCmd c 0 (.int SAFE_CMD.leave) (s.begin t) = (0x1413, s.begin t) := fun c _ =>
    (writeSafeCmd_leave c 0 _).trans (if_pos (.inr ⟨hcmd, hledger⟩))
  exact ⟨_, run_refused_row (t := t) (by decide) hp ha hk (by decide) (noteRefusal_between _ _ _ (by decide) (by decide)), rfl, (keepsRegs_refl s []).congr rfl rfl, rfl⟩

theorem safe_restarted (ha : s.admits port o1401_SAFE_CMD 0 (.int SAFE_CMD.restart) = true) (hdev : s.rd o1401_DEVICE_STATE 0 = DEVICE_STATE.safe)
    (hcool : s.pwr.caseTemp < 10 * s.rd o1400_TEMP_WARN_C 0) :
    ∃ u, exec (.safeRestart t port) s = .next u ∧ u.last = ⟨0, none⟩ ∧ u.rd o1401_DEVICE_STATE 0 = DEVICE_STATE.starting ∧ u.rd o1401_START_STAGE 0 = START_STAGE.aon ∧
      u.rd o1401_RESET_CAUSE 0 = RESET_CAUSE.command ∧ u.pwr.starting = true ∧ (∀ p, (u.port p).session = none) ∧ u.mem = [] := by
  have hk : ∀ c : Ctx, c.port = port → writeSafeCmd c 0 (.int SAFE_CMD.restart) (s.begin t) = (stOK, (s.begin t).restart RESET_CAUSE.command) := fun c _ =>
    writeSafeCmd_restart (s := s.begin t) c 0 hdev fun ⟨_, hwarm⟩ => absurd hwarm (not_le.mpr hcool)
  obtain ⟨hbegun, hcause, hctl, horders⟩ := restart_spec (s.begin t) RESET_CAUSE.command
  have hcold := cold_spec (s.begin t) true true
  have hports : ((s.begin t).restart RESET_CAUSE.command).ctl.ports = [] := (congrArg Ctl.ports hctl).trans hcold.ports
  have hafter : ((s.begin t).restart RESET_CAUSE.command).ctl.endAfter = s.ctl.endAfter := (congrArg Ctl.endAfter hctl).trans (hcold.endAfter.trans (endAfter_of_admits ha).symm)
  generalize (s.begin t).restart RESET_CAUSE.command = y at hk hbegun hcause horders hports hafter
  obtain ⟨e, hrun, hend⟩ := run_accepted_row (t := t) (by decide) hp ha hk hafter
  refine ⟨_, hrun, hend.last, (hend.rd _ _ (by decide)).trans hbegun.device, (hend.rd _ _ (by decide)).trans hbegun.stage, (hend.rd _ _ (by decide)).trans hcause, hbegun.starting,
    session_none (s := y.endOf e) hports, hend.mem.trans ?_⟩
  rw [horders]
  rfl

end

/-- Settles O53, by what the safe state, its end and a restart write. That the frame store is empty after a restart from 'safe' is the model's choice (log row 124). -/
theorem safeCommandsAct : Obligations.SafeCommandsAct := by
  unfold Obligations.SafeCommandsAct
  exact fun s t port hp => ⟨safe_entered hp, fun ha hdev => ⟨safe_left hp ha hdev, safe_kept hp ha⟩, safe_restarted hp⟩

/-! Resets of the supply and of NRST_IN (R456, R489, R490). -/

/-- What every reset leaves. -/
def State.fresh (u : State) : Prop := (∀ p, (u.port p).session = none) ∧ u.mem = [] ∧ u.tlr.tasks = [] ∧ u.eg = {} ∧ u.med = {}

theorem Cold.fresh {s u w v : State} {aon restart : Bool} (h : Cold s u aon restart) (hctl : w.ctl = u.ctl) (horders : w.orders = u.orders) (htlr : w.tlr = u.tlr) (heg : w.eg = u.eg) (hmed : w.med = u.med) :
    (v.finish w).fresh := by
  refine ⟨session_none (s := v.finish w) ((congrArg Ctl.ports hctl).trans h.ports), ?_, (congrArg Tlr.tasks htlr).trans h.tasks, heg.trans h.eg, hmed.trans h.med⟩
  show carryOut w.orders v.mem = []
  rw [horders, h.orders]
  rfl

theorem device_default : objDefault o1401_DEVICE_STATE 0 = DEVICE_STATE.starting := by decide

theorem aon_up {s : State} {t mv : Nat} (h : s.pwr.aon = false) : ∃ u, exec (.aonPowerUp t mv) s = .next u ∧ u.fresh ∧ u.pwr.aon = true ∧ u.clk = 0 ∧
    u.rd o1401_RESET_CAUSE 0 = RESET_CAUSE.power_on ∧ u.rd o1401_DEVICE_STATE 0 = DEVICE_STATE.starting ∧ u.rdN o1400_VIN_MV 0 = mv := by
  have hcold := cold_spec { s.begin t with pwr := { (s.begin t).pwr with aon := true } } false false
  have hpower : ({ s.begin t with pwr := { (s.begin t).pwr with aon := true } } : State).pwr.aon = true := rfl
  have hwork : (s.begin t).powerUp mv = ((({ s.begin t with pwr := { (s.begin t).pwr with aon := true } } : State).cold false false).wr o1401_RESET_CAUSE 0 RESET_CAUSE.power_on).noteVin mv :=
    if_neg (by rw [show (s.begin t).pwr.aon = false from h]; exact Bool.false_ne_true)
  have hrun : exec (.aonPowerUp t mv) s = .next ((s.begin t).finish ((s.begin t).powerUp mv)) := rfl
  rw [hwork] at hrun
  generalize ({ s.begin t with pwr := { (s.begin t).pwr with aon := true } } : State) = x at hcold hrun hpower
  generalize x.cold false false = y at hcold hrun
  have hvin : ∀ {α : Type} {f : State → α}, Blind vinMarks f → f ((y.wr o1401_RESET_CAUSE 0 RESET_CAUSE.power_on).noteVin mv) = f (y.wr o1401_RESET_CAUSE 0 RESET_CAUSE.power_on) :=
    fun hf => hf.noteVin (List.Subset.refl _) _ mv
  refine ⟨_, hrun, hcold.fresh (hvin (blind_ctl (by decide))) (hvin (blind_orders (by decide))) (hvin (blind_tlr (by decide))) (hvin (blind_eg (by decide))) (hvin (blind_med (by decide))), ?_, ?_, ?_,
    ?_, congrArg Int.toNat (noteVin_vin _ mv)⟩
  · exact (congrArg Pwr.aon (hvin (blind_pwr (by decide)))).trans (hcold.power.trans hpower)
  · exact (hvin (blind_clk (by decide))).trans hcold.clk
  · exact (hvin (blind_rd (o := o1401_RESET_CAUSE) (by decide) 0)).trans (State.rd_wr_same ..)
  · exact (hvin (blind_rd (o := o1401_DEVICE_STATE) (by decide) 0)).trans ((State.rd_wr_obj _ _ (by decide)).trans ((hcold.rd _ _ (by decide) rfl).trans device_default))

/-- The module without power. -/
def State.unpoweredCold (s : State) : State := { s.cold false false with pwr := { (s.cold false false).pwr with aon := false } }

theorem aon_down (s : State) (t : Nat) : ∃ u, exec (.aonLockout t) s = .next u ∧ u.fresh ∧ u.powered = false := by
  have hcold := cold_spec (s.begin t) false false
  have hrun : exec (.aonLockout t) s = .next ((s.begin t).finish (s.begin t).unpoweredCold) := rfl
  exact ⟨_, hrun, hcold.fresh rfl rfl rfl rfl rfl, rfl⟩

theorem nrst_low {s : State} {t : Nat} (hp : s.powered = true) : ∃ u, exec (.nrstIn t true) s = .next u ∧ u.fresh ∧ u.powered = false ∧ u.pwr.aon = true ∧
    u.rd o1401_DEVICE_STATE 0 = DEVICE_STATE.starting := by
  obtain ⟨haon, hlow⟩ : s.pwr.aon = true ∧ s.pwr.nrstLow = false := by
    unfold State.powered at hp
    simpa using hp
  have hcold := cold_spec { s.begin t with pwr := { (s.begin t).pwr with nrstLow := true } } true false
  have hin : ({ s.begin t with pwr := { (s.begin t).pwr with nrstLow := true } } : State).pwr.nrstLow = true := rfl
  have hup : ({ s.begin t with pwr := { (s.begin t).pwr with nrstLow := true } } : State).pwr.aon = true := haon
  have hwork : (s.begin t).nrst true = ({ s.begin t with pwr := { (s.begin t).pwr with nrstLow := true } } : State).cold true false := by
    unfold State.nrst
    rw [if_neg (by rw [show (s.begin t).pwr.aon = true from haon]; decide), if_pos rfl, if_neg (by rw [show (s.begin t).pwr.nrstLow = false from hlow]; decide)]
  have hrun : exec (.nrstIn t true) s = .next ((s.begin t).finish ((s.begin t).nrst true)) := rfl
  rw [hwork] at hrun
  generalize ({ s.begin t with pwr := { (s.begin t).pwr with nrstLow := true } } : State) = x at hcold hrun hin hup
  generalize x.cold true false = y at hcold hrun
  refine ⟨_, hrun, hcold.fresh rfl rfl rfl rfl rfl, ?_, hcold.power.trans hup, (hcold.rd _ _ (by decide) rfl).trans device_default⟩
  show (y.pwr.aon && !y.pwr.nrstLow) = false
  rw [hcold.nrstLow, hin]
  exact Bool.and_false _

theorem nrst_high {s : State} {t : Nat} (haon : s.pwr.aon = true) (hlow : s.pwr.nrstLow = true) : ∃ u, exec (.nrstIn t false) s = .next u ∧ u.powered = true ∧
    u.rd o1401_RESET_CAUSE 0 = RESET_CAUSE.nrst := by
  have hwork : (s.begin t).nrst false = ({ s.begin t with pwr := { (s.begin t).pwr with nrstLow := false } } : State).wr o1401_RESET_CAUSE 0 RESET_CAUSE.nrst := by
    unfold State.nrst
    rw [if_neg (by rw [show (s.begin t).pwr.aon = true from haon]; decide), if_neg Bool.false_ne_true, if_pos (show (s.begin t).pwr.nrstLow = true from hlow)]
  have hrun : exec (.nrstIn t false) s = .next ((s.begin t).finish ((s.begin t).nrst false)) := rfl
  rw [hwork] at hrun
  refine ⟨_, hrun, ?_, State.rd_wr_same { s.begin t with pwr := { (s.begin t).pwr with nrstLow := false } } o1401_RESET_CAUSE 0 RESET_CAUSE.nrst⟩
  show (s.pwr.aon && !false) = true
  rw [haon]
  rfl

/-! The start level (R444, R490), the watchdog (R456) and recovery (R455). -/

/-- VIN noted, and the alarm of the stop cleared. -/
def State.vinBack (s : State) (mv : Nat) : State := (s.noteVin mv).clear .PWR_VIN_STOP noInst

/-- What is left of a dip ends. -/
def State.dipOver (s : State) : State :=
  if s.rd o1401_DEVICE_STATE 0 ≠ DEVICE_STATE.stopping ∧ s.rd o1400_SUPPLY_STATE 0 = SUPPLY_STATE.stopping then
    { s.wr o1400_SUPPLY_STATE 0 SUPPLY_STATE.normal with pwr := { s.pwr with warnOut := false } }
  else s

theorem dipOver_starting (s : State) : s.dipOver.pwr.starting = s.pwr.starting := by
  unfold State.dipOver
  split <;> rfl

theorem Blind.vinBack {α : Type} {f : State → α} (hf : Blind (.alarm .PWR_VIN_STOP :: vinMarks) f) (s : State) (mv : Nat) : f (s.vinBack mv) = f s :=
  (hf.clear (.head _) _ _).trans (hf.noteVin (by decide) _ _)

theorem vinStart_begins {s : State} (mv : Nat) (hdev : s.rd o1401_DEVICE_STATE 0 = DEVICE_STATE.starting) (hstart : s.pwr.starting = false) : s.vinStart mv = (s.vinBack mv).dipOver.beginStart := by
  have hback : (s.vinBack mv).rd o1401_DEVICE_STATE 0 = DEVICE_STATE.starting := ((blind_rd (by decide) 0).vinBack s mv).trans hdev
  have hpwr : (s.vinBack mv).dipOver.pwr.starting = false := (dipOver_starting _).trans ((congrArg Pwr.starting ((blind_pwr (by decide)).vinBack s mv)).trans hstart)
  exact if_pos ⟨hback, hpwr⟩

theorem dipOver_now (s : State) : s.dipOver.now = s.now := by
  unfold State.dipOver
  split <;> rfl

theorem dipOver_stands (s : State) (a : Alarm) (i : Nat) : s.dipOver.stands a i ↔ s.stands a i := by
  unfold State.dipOver
  split
  · exact stands_congr rfl a i
  · rfl

theorem beginStart_stands (s : State) (a : Alarm) (i : Nat) : s.beginStart.stands a i ↔ s.stands a i := stands_congr rfl a i

theorem start_begun {s : State} {t mv : Nat} (hp : s.powered = true) (hdev : s.rd o1401_DEVICE_STATE 0 = DEVICE_STATE.starting) (hstart : s.pwr.starting = false) :
    ∃ u, exec (.vinStart t mv) s = .next u ∧ u.pwr.starting = true ∧ u.pwr.stage0At = max s.now t ∧ u.rd o1401_START_STAGE 0 = START_STAGE.aon ∧ ¬ u.stands .PWR_VIN_STOP noInst := by
  have hrun := run_work (t := t) (f := fun s => s.vinStart mv) hp (vinStart_begins (s := s.begin t) mv hdev hstart)
  have hbegun := beginStart_begun ((s.begin t).vinBack mv).dipOver
  have hnow : ((s.begin t).vinBack mv).dipOver.now = max s.now t := (dipOver_now _).trans (blind_now.vinBack _ mv)
  have halarm : ¬ (((s.begin t).vinBack mv).dipOver.beginStart).stands .PWR_VIN_STOP noInst := fun h =>
    not_stands_clear ((s.begin t).noteVin mv) .PWR_VIN_STOP noInst ((dipOver_stands ((s.begin t).vinBack mv) _ _).mp ((beginStart_stands _ _ _).mp h))
  generalize ((s.begin t).vinBack mv).dipOver = x at hrun hbegun hnow halarm
  exact ⟨_, hrun, hbegun.starting, hbegun.since.trans hnow, hbegun.stage, halarm⟩

/-- Every session ends with a restart of the firmware. -/
def State.sessionsRestarted (s : State) : State := portList.foldl (fun s p => if (s.port p).session.isSome then s.endSession p LAST_END_REASON.restart else s) s

theorem sessionsRestarted_none (s : State) {p : Nat} (hmem : p ∈ portList) : (s.sessionsRestarted.port p).session = none := by
  have hstep : ∀ (s : State) (q : Nat), (s.port p).session = none ∨ q = p → ((if (s.port q).session.isSome then s.endSession q LAST_END_REASON.restart else s).port p).session = none := fun s q h => by
    by_cases hq : q = p
    · subst hq
      split
      · exact endSession_session _ _ _
      · next hn => exact Option.not_isSome_iff_eq_none.mp hn
    · have hnone := h.resolve_right hq
      split
      · rw [endSession_port_ne _ (Ne.symm hq), hnone]
      · exact hnone
  have hfold : ∀ (l : List Nat) (s : State), (s.port p).session = none ∨ p ∈ l →
      ((l.foldl (fun s q => if (s.port q).session.isSome then s.endSession q LAST_END_REASON.restart else s) s).port p).session = none := fun l => by
    induction l with
    | nil => exact fun s h => h.resolve_right (List.not_mem_nil)
    | cons q l ih =>
      intro s h
      by_cases hq : (s.port p).session = none ∨ q = p
      · exact ih _ (.inl (hstep s q hq))
      · obtain ⟨hsome, hne⟩ := not_or.mp hq
        exact ih _ (.inr ((List.mem_cons.mp (h.resolve_left hsome)).resolve_left (Ne.symm hne)))
  exact hfold _ s (.inr hmem)

theorem sessionsRestarted_rd (s : State) {o : Nat} (r : Nat) (h : .obj o ∉ endMarks) (hp : perSession o = false) : s.sessionsRestarted.rd o r = s.rd o r :=
  foldl_blind (f := fun s => State.rd s o r) (fun s p => by
    split
    · exact endSession_rd_other s p _ r h hp
    · rfl) _ s

/-- The watchdog has reset the core pairs. -/
def State.watchdogReset (s : State) : State := (s.sessionsRestarted.setCustody false).wr o1401_RESET_CAUSE 0 RESET_CAUSE.watchdog

theorem watchdogReset_session (s : State) {p : Nat} (hmem : p ∈ portList) : (s.watchdogReset.port p).session = none := by
  have hnone := sessionsRestarted_none s hmem
  unfold State.watchdogReset
  generalize s.sessionsRestarted = x at hnone
  exact (congrArg Port.session (port_congr rfl p)).trans hnone

theorem watchdogReset_cause (s : State) : s.watchdogReset.rd o1401_RESET_CAUSE 0 = RESET_CAUSE.watchdog := State.rd_wr_same ..

theorem watchdog_safe {s : State} (hdev : s.rd o1401_DEVICE_STATE 0 = DEVICE_STATE.running) : s.watchdog = s.watchdogReset.doSafe SAFE_REASON.watchdog := by
  have hrun : s.watchdogReset.rd o1401_DEVICE_STATE 0 = DEVICE_STATE.running :=
    (State.rd_wr_obj (s.sessionsRestarted.setCustody false) _ (by decide)).trans ((State.rd_wr_obj _ _ (by decide)).trans ((sessionsRestarted_rd s 0 (by decide) (by decide)).trans hdev))
  have hcond : ¬ (s.rd o1401_DEVICE_STATE 0 = DEVICE_STATE.recovery ∨ s.rd o1401_DEVICE_STATE 0 = DEVICE_STATE.stopping ∨
      (s.rd o1401_DEVICE_STATE 0 = DEVICE_STATE.starting ∧ s.rd o1401_START_STAGE 0 < START_STAGE.firmware)) := by
    rw [hdev]
    rintro (h | h | ⟨h, -⟩) <;> exact absurd h (by decide)
  exact (if_neg hcond).trans (enterSafe_eq (.inr hrun) (.inl rfl))

theorem watchdog_fires {s : State} {t : Nat} (hp : s.powered = true) (hdev : s.rd o1401_DEVICE_STATE 0 = DEVICE_STATE.running) : ∃ u, exec (.watchdogTimeout t) s = .next u ∧
    u.rd o1401_DEVICE_STATE 0 = DEVICE_STATE.safe ∧ u.rd o1401_SAFE_REASON 0 = SAFE_REASON.watchdog ∧ u.rd o1401_RESET_CAUSE 0 = RESET_CAUSE.watchdog ∧ u.safePin = true ∧ u.custodyPin = false ∧
    ∀ p ∈ portList, (u.port p).session = none := by
  have hnone : ∀ p ∈ portList, ((s.begin t).watchdogReset.port p).session = none := fun p hmem => watchdogReset_session _ hmem
  have hwatch := watchdogReset_cause (s.begin t)
  obtain ⟨y, hrun, hsafe, hctl, hcause⟩ : ∃ y, s.run t (fun s => s.watchdog) = .next ((s.begin t).finish y) ∧ Safe y SAFE_REASON.watchdog ∧ y.ctl = (s.begin t).watchdogReset.ctl ∧
      y.rd o1401_RESET_CAUSE 0 = (s.begin t).watchdogReset.rd o1401_RESET_CAUSE 0 :=
    ⟨_, run_work hp (watchdog_safe (s := s.begin t) hdev), doSafe_entered _ _, doSafe_ctl _ _, by simp (disch := decide) only [doSafe_rd, safeBegun_rd, State.rd_wr_obj]⟩
  generalize (s.begin t).watchdogReset = x at hnone hwatch hctl hcause
  exact ⟨_, hrun, hsafe.device, hsafe.reason, hcause.trans hwatch, safePin_of (s := (s.begin t).finish y) hsafe.safeOut, custodyPin_of hsafe.custody, fun p hmem =>
    (congrArg Port.session (port_congr (s := x) (u := (s.begin t).finish y) hctl p)).trans (hnone p hmem)⟩

theorem recovery_restarts {s : State} {t w : Nat} (hp : s.powered = true) (hdev : s.rd o1401_DEVICE_STATE 0 = DEVICE_STATE.recovery) (hat : s.pwr.recoveryAt = some w) (hle : w ≤ max s.now t) :
    ∃ u, exec (.recoveryRestart t) s = .next u ∧ u.rd o1401_DEVICE_STATE 0 = DEVICE_STATE.starting ∧ u.rd o1401_START_STAGE 0 = START_STAGE.aon ∧ u.pwr.starting = true := by
  have hwork : (s.begin t).recoveryRestart = (s.begin t).restart RESET_CAUSE.command := by
    unfold State.recoveryRestart
    rw [show (s.begin t).pwr.recoveryAt = some w from hat]
    exact if_pos ⟨hdev, hle⟩
  have hrun := run_work (t := t) (f := fun s => s.recoveryRestart) hp hwork
  obtain ⟨hbegun, -⟩ := restart_spec (s.begin t) RESET_CAUSE.command
  generalize (s.begin t).restart RESET_CAUSE.command = y at hrun hbegun
  exact ⟨_, hrun, hbegun.device, hbegun.stage, hbegun.starting⟩

/-- Settles O54, by what a loss of the volatile state leaves. What a reset keeps, and that the frame store is empty after it, are the model's choices (log rows 127, 124 and 3). -/
theorem resetsAndRestartsStartAfresh : Obligations.ResetsAndRestartsStartAfresh := by
  unfold Obligations.ResetsAndRestartsStartAfresh
  exact ⟨fun s t mv => ⟨aon_up, aon_down s t, nrst_low, nrst_high, fun hp hdev hstart _ => start_begun hp hdev hstart⟩, fun s t w hp => ⟨watchdog_fires hp, recovery_restarts hp⟩⟩

end Sys2Proof.Machine
end

section
/-! SUPPORT. The case temperature (R459), and the stages of start-up (R65, R452, R458, R478). -/

namespace Sys2Proof.Machine
open Sys2Proof

/-! The case temperature (R459). -/

/-- The reading of the case noted with its highest value. -/
def State.caseNoted (s : State) (dc : Int) : State :=
  let s := { s.wr o1400_CASE_TEMP_DC 0 dc with pwr := { s.pwr with caseTemp := dc } }
  if s.rd o1400_CASE_TEMP_MAX_DC 0 < dc then s.wr o1400_CASE_TEMP_MAX_DC 0 dc else s

theorem caseNoted_rd (s : State) (dc : Int) {o : Nat} (h : o ≠ o1400_CASE_TEMP_MAX_DC) (r : Nat) : (s.caseNoted dc).rd o r = (s.wr o1400_CASE_TEMP_DC 0 dc).rd o r := by
  unfold State.caseNoted
  dsimp only
  split
  · exact State.rd_wr_obj { s.wr o1400_CASE_TEMP_DC 0 dc with pwr := { s.pwr with caseTemp := dc } } _ h
  · rfl

theorem caseNoted_temp (s : State) (dc : Int) : (s.caseNoted dc).rd o1400_CASE_TEMP_DC 0 = dc := (caseNoted_rd s dc (by decide) 0).trans (State.rd_wr_same ..)

theorem caseNoted_other (s : State) (dc : Int) {o : Nat} (h : o ≠ o1400_CASE_TEMP_MAX_DC) (h' : o ≠ o1400_CASE_TEMP_DC) (r : Nat) : (s.caseNoted dc).rd o r = s.rd o r :=
  (caseNoted_rd s dc h r).trans (State.rd_wr_obj _ _ h')

/-- PWR_TEMP_HIGH at a reading, with its 3 degrees below the warning level. -/
def State.highNoted (s : State) (dc : Int) : State :=
  if 10 * s.rd o1400_TEMP_WARN_C 0 ≤ dc then s.raise .PWR_TEMP_HIGH noInst else if dc ≤ 10 * s.rd o1400_TEMP_WARN_C 0 - 30 then s.clear .PWR_TEMP_HIGH noInst else s

theorem Blind.highNoted {α : Type} {f : State → α} (hf : Blind [.alarm .PWR_TEMP_HIGH] f) (s : State) (dc : Int) : f (s.highNoted dc) = f s := by
  unfold State.highNoted
  split_ifs
  · exact hf.raise (.head _) _ _
  · exact hf.clear (.head _) _ _
  · rfl

theorem caseTemp_eq (s : State) (dc : Int) : s.caseTemp dc =
    if 950 ≤ dc then (((s.caseNoted dc).highNoted dc).raise .PWR_TEMP_STOP noInst).enterSafe SAFE_REASON.thermal false
    else if dc < 10 * (s.caseNoted dc).rd o1400_TEMP_WARN_C 0 then ((s.caseNoted dc).highNoted dc).clear .PWR_TEMP_STOP noInst else (s.caseNoted dc).highNoted dc := rfl

/-- A cause of the safe state leaves the other objects of the supply, whatever the device does (R451). -/
theorem enterSafe_rd (s : State) (reason : Int) (atOnce : Bool) {o : Nat} (h : offPlan (.obj o) = true) (ho : o ∉ alarmSideObjects) (hdev : o ≠ o1401_DEVICE_STATE) (hreason : o ≠ o1401_SAFE_REASON)
    (hcustody : o ≠ o1601_CUSTODY_HELD) : (s.enterSafe reason atOnce).rd o 0 = s.rd o 0 := by
  have hlease : o ≠ o1601_LEASE_END := fun e => ho (by rw [e]; decide)
  have hpair : o ≠ o1601_PAIR_STATE := fun e => ho (by rw [e]; decide)
  have hrelease : s.ownRelease.rd o 0 = s.rd o 0 := by
    unfold State.ownRelease
    split
    · obtain ⟨h, -, -, hrd⟩ := startRelease_spec s
      rw [hrd, State.rd_wr_obj _ _ hpair, State.rd_wr_obj _ _ hlease]
    · rfl
  have hsafe : (s.doSafe reason).rd o 0 = s.rd o 0 := by
    rw [doSafe_rd s reason h ho, safeBegun_rd, State.rd_wr_obj _ _ hcustody, State.rd_wr_obj _ _ hreason, State.rd_wr_obj _ _ hdev]
  unfold State.enterSafe
  dsimp only
  split_ifs
  · rfl
  · exact hrelease
  · exact hsafe

/-- The reading noted, its warning, and the alarm of the stop. -/
def State.tooHot (s : State) (dc : Int) : State := ((s.caseNoted dc).highNoted dc).raise .PWR_TEMP_STOP noInst

theorem tooHot_rd (s : State) (dc : Int) {o : Nat} (h : o ∉ alarmSideObjects) : (s.tooHot dc).rd o 0 = (s.caseNoted dc).rd o 0 :=
  ((blind_rd (M := [.alarm .PWR_TEMP_STOP]) (by simp) 0 (.inr h)).raise (.head _) _ _).trans ((blind_rd (by simp) 0 (.inr h)).highNoted _ dc)

theorem tooHot_unpaired {s : State} (dc : Int) (h : s.pairState = PAIR_STATE.unpaired) : (s.tooHot dc).pairState = PAIR_STATE.unpaired := by
  have hnoted : (s.caseNoted dc).pairState = PAIR_STATE.unpaired := (caseNoted_other s dc (by decide) (by decide) 0).trans h
  refine pairState_of_class (Eq.trans ?_ (pairClass_of_state hnoted (by decide))) (by decide)
  exact ((blind_pairClass (M := [.alarm .PWR_TEMP_STOP]) (by decide)).raise (.head _) _ _).trans ((blind_pairClass (by decide)).highNoted _ dc)

theorem caseTemp_hot {s : State} {dc : Int} (h : 950 ≤ dc) : s.caseTemp dc = (s.tooHot dc).enterSafe SAFE_REASON.thermal false := (caseTemp_eq s dc).trans (if_pos h)

section
variable {s : State} {t : Nat} (hp : s.powered = true)
include hp

/-- A reading below 95 degrees. -/
theorem temp_sampled {dc : Int} (h : dc < 950) : ∃ u, exec (.caseTempSample t dc) s = .next u ∧ u.rd o1400_CASE_TEMP_DC 0 = dc ∧
    (10 * s.rd o1400_TEMP_WARN_C 0 ≤ dc → u.stands .PWR_TEMP_HIGH noInst) ∧
    (dc ≤ 10 * s.rd o1400_TEMP_WARN_C 0 - 30 → ¬ u.stands .PWR_TEMP_HIGH noInst ∧ ¬ u.stands .PWR_TEMP_STOP noInst) := by
  have hrun := run_work (t := t) (f := fun s => s.caseTemp dc) hp ((caseTemp_eq (s.begin t) dc).trans (if_neg (by omega)))
  have hwarn : ((s.begin t).caseNoted dc).rd o1400_TEMP_WARN_C 0 = s.rd o1400_TEMP_WARN_C 0 := caseNoted_other (s.begin t) dc (by decide) (by decide) 0
  have htemp := caseNoted_temp (s.begin t) dc
  rw [hwarn] at hrun
  generalize (s.begin t).caseNoted dc = x at hrun hwarn htemp
  have hclear : ∀ {α : Type} {f : State → α}, Blind [.alarm .PWR_TEMP_STOP] f →
      f (if dc < 10 * s.rd o1400_TEMP_WARN_C 0 then (x.highNoted dc).clear .PWR_TEMP_STOP noInst else x.highNoted dc) = f (x.highNoted dc) := fun hf => by
    split
    · exact hf.clear (.head _) _ _
    · rfl
  refine ⟨_, hrun, (hclear (blind_rd (o := o1400_CASE_TEMP_DC) (by decide) 0)).trans (((blind_rd (by decide) 0).highNoted x dc).trans htemp), fun hhigh => ?_, fun hlow => ⟨fun hs => ?_, fun hs => ?_⟩⟩
  · refine (finish_stands ..).mpr ((hclear (blind_stands (by decide) (by decide) noInst)).mpr ?_)
    unfold State.highNoted
    rw [hwarn, if_pos hhigh]
    exact stands_raise_same _ _ _
  · have hhigh := (hclear (blind_stands (a := .PWR_TEMP_HIGH) (by decide) (by decide) noInst)).mp ((finish_stands ..).mp hs)
    unfold State.highNoted at hhigh
    rw [hwarn, if_neg (by omega), if_pos hlow] at hhigh
    exact not_stands_clear _ _ _ hhigh
  · have hstop := (finish_stands ..).mp hs
    rw [if_pos (by omega)] at hstop
    exact not_stands_clear _ _ _ hstop

/-- A reading of 95 degrees and more. -/
theorem temp_stops {dc : Int} (h : 950 ≤ dc) : ∃ u, exec (.caseTempSample t dc) s = .next u ∧ u.rd o1400_CASE_TEMP_DC 0 = dc ∧
    (s.rd o1401_DEVICE_STATE 0 = DEVICE_STATE.running → s.pairState = PAIR_STATE.unpaired → u.rd o1401_DEVICE_STATE 0 = DEVICE_STATE.safe ∧ u.rd o1401_SAFE_REASON 0 = SAFE_REASON.thermal) ∧
    (s.rd o1401_DEVICE_STATE 0 = DEVICE_STATE.safe → u.stands .PWR_TEMP_STOP noInst ∧ u.rd o1401_SAFE_REASON 0 = s.rd o1401_SAFE_REASON 0) := by
  have hrun := run_work (t := t) (f := fun s => s.caseTemp dc) hp (caseTemp_hot (s := s.begin t) h)
  have hread : ∀ {o : Nat}, o ∉ alarmSideObjects → o ≠ o1400_CASE_TEMP_MAX_DC → o ≠ o1400_CASE_TEMP_DC → ((s.begin t).tooHot dc).rd o 0 = s.rd o 0 := fun ho hmax htemp =>
    (tooHot_rd (s.begin t) dc ho).trans (caseNoted_other (s.begin t) dc hmax htemp 0)
  have htemp : ((s.begin t).tooHot dc).rd o1400_CASE_TEMP_DC 0 = dc := (tooHot_rd (s.begin t) dc (by decide)).trans (caseNoted_temp _ _)
  have hdevice := hread (o := o1401_DEVICE_STATE) (by decide) (by decide) (by decide)
  have hreason := hread (o := o1401_SAFE_REASON) (by decide) (by decide) (by decide)
  have hpair := tooHot_unpaired (s := s.begin t) dc
  have hstop : ((s.begin t).tooHot dc).stands .PWR_TEMP_STOP noInst := stands_raise_same _ _ _
  generalize (s.begin t).tooHot dc = x at hrun htemp hdevice hreason hpair hstop
  refine ⟨_, hrun, (enterSafe_rd x _ _ (by decide) (by decide) (by decide) (by decide) (by decide)).trans htemp, fun hdev hun => ?_, fun hdev => ?_⟩
  · have hsafe : Safe (x.enterSafe SAFE_REASON.thermal false) SAFE_REASON.thermal := by
      rw [enterSafe_eq (.inr (hdevice.trans hdev)) (.inr (hpair hun))]
      exact doSafe_entered _ _
    exact ⟨hsafe.device, hsafe.reason⟩
  · have hsame := enterSafe_safe SAFE_REASON.thermal false (hdevice.trans hdev)
    generalize x.enterSafe SAFE_REASON.thermal false = y at hsame
    subst hsame
    exact ⟨(finish_stands ..).mpr hstop, hreason⟩

end

/-- Settles O56, by the two alarms of the case and the safe state that the second enters. -/
theorem caseTemperatureIsWatched : Obligations.CaseTemperatureIsWatched := by
  unfold Obligations.CaseTemperatureIsWatched
  intro s t dc hp
  rcases lt_or_ge dc 950 with h | h
  · obtain ⟨u, hrun, htemp, hhigh, hlow⟩ := temp_sampled (t := t) hp h
    exact ⟨u, hrun, htemp, fun _ => hhigh, fun _ => hlow, fun hn => absurd hn (not_le.mpr h), fun hn => absurd hn (not_le.mpr h)⟩
  · obtain ⟨u, hrun, htemp, hsafe, hkept⟩ := temp_stops (t := t) hp h
    exact ⟨u, hrun, htemp, fun hn => absurd hn (not_lt.mpr h), fun hn => absurd hn (not_lt.mpr h), fun _ => hsafe, fun _ => hkept⟩

end Sys2Proof.Machine
end

section
/-! SUPPORT. Swaps armed (R45-R49). -/

namespace Sys2Proof.Machine
open Sys2Proof

/-- The swap that an arm notes. -/
def State.swapOf (s : State) (b f : Nat) : Swap :=
  let doms := s.swapDomains (some b) s.activeBank
  { kind := s.swapKind b, incoming := b, outgoing := s.activeBank, anchorTd := s.rdN o2003_ANCHOR_TD 0, anchorFcnt := f, domains := doms,
    waits := doms.map (fun d => (d, s.swapWaits (some b) s.activeBank doms d)), done := [] }

/-- A bank armed with a swap. -/
def State.armed (s : State) (b : Nat) (w : Swap) : State :=
  ({ (s.setBankState b BANK_STATE.armed).wr o2000_SWAP_STATE 0 SWAP_STATE.armed with led := { s.led with swap := some w } }).refreshPower

theorem swapArm_accepts {s : State} {b f : Nat} (hswap : s.led.swap = none) (hb : s.armTarget = some b)
    (hdark : s.swapKind b = LAST_SWAP_KIND.dark → s.isOn o2003_ALLOW_DARK 0 = true) (hmodes : s.laneModesMatch (s.bank b).plan = true)
    (hpower : ∀ d ∈ (s.bank b).plan.power, s.pdState d ≠ PD_STATE.locked_off) (hanchor : s.anchorFcnt (some b) s.activeBank = some f) (hwaits : acyclic 4 (s.swapOf b f).waits = true) :
    s.swapArm = (stOK, s.armed b (s.swapOf b f)) := by
  unfold State.swapArm
  rw [if_neg (by rw [hswap]; exact Bool.false_ne_true), hb]
  dsimp only
  rw [if_neg fun ⟨hk, hn⟩ => Bool.false_ne_true (hn.symm.trans (hdark hk)), if_neg fun hn => Bool.false_ne_true (hn.symm.trans hmodes),
    if_neg fun hn => by obtain ⟨d, hd, hoff⟩ := List.any_eq_true.mp hn; exact hpower d hd (of_decide_eq_true hoff), hanchor]
  exact if_neg fun hn => Bool.false_ne_true (hn.symm.trans hwaits)

/-- An arm is refused, or accepted in one way. -/
theorem swapArm_cases (s : State) : (∃ k, k ≠ 0 ∧ s.swapArm = s.swapRefused k) ∨ ∃ b w, s.swapArm = (stOK, s.armed b w) := by
  unfold State.swapArm
  split
  · exact .inl ⟨stBUSY, by decide, rfl⟩
  · split
    · exact .inl ⟨stBUSY, by decide, rfl⟩
    · dsimp only
      split
      · exact .inl ⟨0x0A04, by decide, rfl⟩
      · split
        · exact .inl ⟨0x0C02, by decide, rfl⟩
        · split
          · exact .inl ⟨0x1411, by decide, rfl⟩
          · split
            · exact .inl ⟨0x0A03, by decide, rfl⟩
            · split
              · exact .inl ⟨0x0A06, by decide, rfl⟩
              · exact .inr ⟨_, _, rfl⟩

theorem swapArm_armed {s : State} (h : s.swapArm.1 = 0) : ∃ b w, s.swapArm = (stOK, s.armed b w) :=
  (swapArm_cases s).resolve_left fun ⟨_, hk, he⟩ => hk ((congrArg Prod.fst he).symm.trans h)

section
variable (s : State) (b : Nat) (w : Swap)

theorem armed_led : (s.armed b w).led = { s.led with swap := some w } := planBlind_led.refreshPower _

theorem armed_rd {o : Nat} (h : .obj o ∉ holdMarks) (ho : o ∉ alarmSideObjects) (r : Nat) :
    (s.armed b w).rd o r = ((s.setBankState b BANK_STATE.armed).wr o2000_SWAP_STATE 0 SWAP_STATE.armed).rd o r :=
  (blind_rd h r (.inr ho)).refreshPower (List.Subset.refl _) _

theorem armed_state : (s.armed b w).rd o2000_SWAP_STATE 0 = SWAP_STATE.armed := (armed_rd s b w (by decide) (by decide) 0).trans (State.rd_wr_same _ _ _ _)

end

end Sys2Proof.Machine
end

section
/-! SUPPORT. The stages of start-up (R65, R452, R458, R478). -/

namespace Sys2Proof.Machine
open Sys2Proof

theorem beginStage_rd (s : State) (stage : Int) (o r : Nat) : (s.beginStage stage).rd o r = (s.wr o1401_START_STAGE 0 stage).rd o r := rfl

theorem beginStage_stage (s : State) (stage : Int) : (s.beginStage stage).rd o1401_START_STAGE 0 = stage := (beginStage_rd ..).trans (State.rd_wr_same _ _ _ _)

theorem noteTest_result (s : State) (i : Nat) (result : Int) (ms detail : Nat) : (s.noteTest i result ms detail).rd o1402_TEST_RESULT i = result := by
  unfold State.noteTest
  simp (disch := decide) only [State.rd_wr_obj, State.rd_wr_same]

theorem noteTest_rd (s : State) (i : Nat) (result : Int) (ms detail : Nat) {o : Nat} (h1 : o ≠ o1402_TEST_RESULT) (h2 : o ≠ o1402_TEST_MS) (h3 : o ≠ o1402_TEST_DETAIL) (r : Nat) :
    (s.noteTest i result ms detail).rd o r = s.rd o r := (State.rd_wr_obj _ _ h3).trans ((State.rd_wr_obj _ _ h2).trans (State.rd_wr_obj _ _ h1))

section
variable {s : State} {t : Nat} (hp : s.powered = true)
include hp

/-- OSC_IN fails. -/
theorem osc_lost : ∃ u, exec (.oscInLoss t) s = .next u ∧ u.pwr.oscIn = false ∧ u.stands .OSC_IN_LOSS noInst :=
  ⟨_, run_work (t := t) (f := fun s => { s.raise .OSC_IN_LOSS noInst with pwr := { s.pwr with oscIn := false } }) hp rfl, rfl,
    (finish_stands ..).mpr ((stands_congr (u := (s.begin t).raise .OSC_IN_LOSS noInst) rfl _ _).mpr (stands_raise_same _ _ _))⟩

end

/-- OSC_IN present, its alarm cleared. -/
def State.oscHeard (s : State) : State := { s.clear .OSC_IN_LOSS noInst with pwr := { s.pwr with oscIn := true } }

/-- Stage 0 resumed: the device starts, and is safe for no reason. -/
def State.oscResumed (s : State) : State := ((s.oscHeard.wr o1401_DEVICE_STATE 0 DEVICE_STATE.starting).wr o1401_SAFE_REASON 0 SAFE_REASON.none).clear .SYS_SAFE_STATE noInst

theorem oscHeard_rd (s : State) {o : Nat} (h : o ∉ alarmSideObjects) (r : Nat) : s.oscHeard.rd o r = s.rd o r :=
  (blind_rd (M := [.alarm .OSC_IN_LOSS]) (by simp) r (.inr h)).clear (.head _) _ _

theorem oscResumed_rd (s : State) {o : Nat} (h : o ∉ alarmSideObjects) (r : Nat) :
    s.oscResumed.rd o r = ((s.oscHeard.wr o1401_DEVICE_STATE 0 DEVICE_STATE.starting).wr o1401_SAFE_REASON 0 SAFE_REASON.none).rd o r :=
  (blind_rd (M := [.alarm .SYS_SAFE_STATE]) (by simp) r (.inr h)).clear (.head _) _ _

theorem oscResumed_clear (s : State) : ¬ s.oscResumed.stands .OSC_IN_LOSS noInst := fun hs =>
  not_stands_clear s _ _ ((stands_congr (u := s.oscHeard) rfl _ _).mp ((stands_clear _ .SYS_SAFE_STATE noInst _ _).mp hs).1)

theorem oscResumed_osc (s : State) : s.oscResumed.pwr.oscIn = true :=
  (congrArg Pwr.oscIn ((blind_pwr (M := [.alarm .SYS_SAFE_STATE]) (by decide)).clear (.head _) _ _)).trans rfl

theorem oscRestored_eq {s : State} (hdev : s.rd o1401_DEVICE_STATE 0 = DEVICE_STATE.safe) (hreason : s.rd o1401_SAFE_REASON 0 = SAFE_REASON.osc_in) :
    s.oscRestored = { s.oscResumed with pwr := { s.oscResumed.pwr with starting := true, stageAt := s.oscResumed.now } } :=
  if_pos ⟨(oscHeard_rd s (by decide) 0).trans hdev, (oscHeard_rd s (by decide) 0).trans hreason⟩

section
variable {s : State} {t : Nat} (hp : s.powered = true)
include hp

theorem osc_restored (hdev : s.rd o1401_DEVICE_STATE 0 = DEVICE_STATE.safe) (hreason : s.rd o1401_SAFE_REASON 0 = SAFE_REASON.osc_in) :
    ∃ u, exec (.oscInRestored t) s = .next u ∧ u.pwr.oscIn = true ∧
      u.rd o1401_DEVICE_STATE 0 = DEVICE_STATE.starting ∧ u.rd o1401_SAFE_REASON 0 = SAFE_REASON.none ∧ u.pwr.starting = true ∧ ¬ u.stands .OSC_IN_LOSS noInst := by
  refine ⟨_, run_work (t := t) (f := (·.oscRestored)) hp (oscRestored_eq hdev hreason), oscResumed_osc (s.begin t), ?_, ?_, rfl, fun hs => ?_⟩
  · exact (oscResumed_rd (s.begin t) (by decide) 0).trans ((State.rd_wr_obj _ _ (by decide)).trans (State.rd_wr_same ..))
  · exact (oscResumed_rd (s.begin t) (by decide) 0).trans (State.rd_wr_same ..)
  · exact oscResumed_clear (s.begin t) ((stands_congr (s := (s.begin t).oscResumed) rfl _ _).mp hs)

end

/-! Stages. -/

theorem followPower_rd (s : State) {o : Nat} (h : offPlan (.obj o) = true) (ho : o ∉ alarmSideObjects) : s.followPower.rd o 0 = s.rd o 0 :=
  ((planBlind_rd 0 h ho).noteUnits _).trans (((planBlind_rd 0 h ho).lanesPower _).trans ((planBlind_rd 0 h ho).refreshPower _))

theorem beginMedia_stage (s : State) : s.beginMedia.rd o1401_START_STAGE 0 = START_STAGE.media := (followPower_rd _ (by decide) (by decide)).trans (beginStage_stage ..)

/-- Stage 0 with its rows of the report. -/
def State.aonTested (s : State) : State := (s.noteTest 0 TEST_RESULT.pass s.stageMs 0).noteTest 1 (testOf s.pwr.oscIn) s.stageMs 0

theorem endAon_eq {s : State} (hr : s.pwr.rsvd = false) :
    s.endAon true = if s.pwr.oscIn then s.aonTested.beginStage START_STAGE.boot else (s.aonTested.raise .OSC_IN_LOSS noInst).failStart SAFE_REASON.osc_in :=
  if_neg fun h => h.elim (fun h => Bool.false_ne_true (hr.symm.trans h)) (fun h => Bool.false_ne_true h.symm)

theorem aonTested_result (s : State) : s.aonTested.rd o1402_TEST_RESULT 1 = testOf s.pwr.oscIn := noteTest_result _ 1 _ _ _

theorem aonTested_rd (s : State) {o : Nat} (h1 : o ≠ o1402_TEST_RESULT) (h2 : o ≠ o1402_TEST_MS) (h3 : o ≠ o1402_TEST_DETAIL) (r : Nat) : s.aonTested.rd o r = s.rd o r :=
  (noteTest_rd _ 1 _ _ _ h1 h2 h3 r).trans (noteTest_rd s 0 _ _ _ h1 h2 h3 r)

theorem stageComplete_aon {s : State} (r : StageReport) (hs : s.pwr.starting = true) (hst : s.rd o1401_START_STAGE 0 = START_STAGE.aon) : s.stageComplete r = s.endAon r.rsvdFree :=
  (if_neg fun hn => Bool.false_ne_true (hn.symm.trans hs)).trans (if_pos hst)

theorem stageComplete_reference {s : State} (r : StageReport) (hs : s.pwr.starting = true) (hst : s.rd o1401_START_STAGE 0 = START_STAGE.reference) :
    s.stageComplete r = if s.startDomains.all (fun d => s.dpll d == DPLL_STATE.locked) then s.beginMedia else s := by
  have hne : ∀ {v : Int}, v ≠ START_STAGE.reference → s.rd o1401_START_STAGE 0 ≠ v := fun hv h => hv (h.symm.trans hst)
  unfold State.stageComplete
  dsimp only
  rw [if_neg fun hn => Bool.false_ne_true (hn.symm.trans hs), if_neg (hne (by decide)), if_neg (hne (by decide)), if_neg (hne (by decide)), if_neg (hne (by decide)), if_neg (hne (by decide)),
    if_neg (hne (by decide)), if_pos hst]

/-- A run that begins stage 7. -/
theorem run_media {s x : State} {t : Nat} {f : State → State} (hp : s.powered = true) (hf : f (s.begin t) = x.beginMedia) :
    ∃ u, s.run t f = .next u ∧ u.rd o1401_START_STAGE 0 = START_STAGE.media := by
  have hstage := beginMedia_stage x
  generalize x.beginMedia = y at hf hstage
  exact ⟨_, run_work hp hf, hstage⟩

section
variable {s : State} {t : Nat} {r : StageReport} (hp : s.powered = true) (hs : s.pwr.starting = true)
include hp hs

theorem aon_stays (hst : s.rd o1401_START_STAGE 0 = START_STAGE.aon) (h : s.pwr.rsvd = true ∨ r.rsvdFree = false) :
    ∃ u, exec (.startupStageComplete t r) s = .next u ∧ u.pwr.rsvd = true ∧ u.pwr.starting = true ∧ s.keepsRegs u [] :=
  ⟨_, run_work (t := t) (f := (·.stageComplete r)) hp ((stageComplete_aon (s := s.begin t) r hs hst).trans (if_pos h)), rfl, hs, keepsRegs_refl _ _⟩

theorem aon_ends (hst : s.rd o1401_START_STAGE 0 = START_STAGE.aon) (hr : s.pwr.rsvd = false) (hfree : r.rsvdFree = true) (hosc : s.pwr.oscIn = true) :
    ∃ u, exec (.startupStageComplete t r) s = .next u ∧ u.rd o1401_START_STAGE 0 = START_STAGE.boot ∧ u.rd o1402_TEST_RESULT 1 = TEST_RESULT.pass := by
  have hresult : (s.begin t).aonTested.rd o1402_TEST_RESULT 1 = TEST_RESULT.pass := (aonTested_result (s.begin t)).trans (congrArg testOf hosc)
  have hend : (s.begin t).endAon r.rsvdFree = (s.begin t).aonTested.beginStage START_STAGE.boot := by
    rw [hfree]
    exact (endAon_eq (s := s.begin t) hr).trans (if_pos hosc)
  generalize (s.begin t).aonTested = x at hresult hend
  exact ⟨_, run_work (t := t) (f := (·.stageComplete r)) hp ((stageComplete_aon (s := s.begin t) r hs hst).trans hend), (State.finish_rd _ _ _ _).trans (beginStage_stage x _),
    (State.finish_rd _ _ _ _).trans ((beginStage_rd x _ _ _).trans ((State.rd_wr_obj _ _ (by decide)).trans hresult))⟩

theorem aon_fails (hst : s.rd o1401_START_STAGE 0 = START_STAGE.aon) (hr : s.pwr.rsvd = false) (hfree : r.rsvdFree = true) (hosc : s.pwr.oscIn = false)
    (hdev : s.rd o1401_DEVICE_STATE 0 = DEVICE_STATE.starting) :
    ∃ u, exec (.startupStageComplete t r) s = .next u ∧ u.rd o1401_DEVICE_STATE 0 = DEVICE_STATE.safe ∧ u.rd o1401_SAFE_REASON 0 = SAFE_REASON.osc_in := by
  have hstarting : ((s.begin t).aonTested.raise .OSC_IN_LOSS noInst).rd o1401_DEVICE_STATE 0 = DEVICE_STATE.starting :=
    ((blind_rd (M := [.alarm .OSC_IN_LOSS]) (by decide) 0).raise (.head _) _ _).trans ((aonTested_rd _ (by decide) (by decide) (by decide) 0).trans hdev)
  have hend : (s.begin t).endAon r.rsvdFree = ((s.begin t).aonTested.raise .OSC_IN_LOSS noInst).doSafe SAFE_REASON.osc_in := by
    rw [hfree]
    exact (endAon_eq (s := s.begin t) hr).trans ((if_neg fun hn => Bool.false_ne_true (hosc.symm.trans hn)).trans (if_pos hstarting))
  obtain ⟨y, hrun, hsafe⟩ := run_safe (t := t) (f := (·.stageComplete r)) hp ((stageComplete_aon (s := s.begin t) r hs hst).trans hend)
  exact ⟨_, hrun, hsafe.device, hsafe.reason⟩

theorem reference_ends (hst : s.rd o1401_START_STAGE 0 = START_STAGE.reference) (h : ∀ d ∈ s.startDomains, s.dpll d = DPLL_STATE.locked) :
    ∃ u, exec (.startupStageComplete t r) s = .next u ∧ u.rd o1401_START_STAGE 0 = START_STAGE.media :=
  run_media (f := (·.stageComplete r)) hp ((stageComplete_reference (s := s.begin t) r hs hst).trans (if_pos (List.all_eq_true.mpr fun d hd => decide_eq_true (h d hd))))

theorem reference_stays (hst : s.rd o1401_START_STAGE 0 = START_STAGE.reference) (h : ∃ d ∈ s.startDomains, s.dpll d ≠ DPLL_STATE.locked) :
    ∃ u, exec (.startupStageComplete t r) s = .next u ∧ u.rd o1401_START_STAGE 0 = START_STAGE.reference := by
  obtain ⟨d, hd, hne⟩ := h
  exact ⟨_, run_work (t := t) (f := (·.stageComplete r)) hp
    ((stageComplete_reference (s := s.begin t) r hs hst).trans (if_neg fun hn => hne (of_decide_eq_true (List.all_eq_true.mp hn d hd)))), hst⟩

theorem reference_over (hst : s.rd o1401_START_STAGE 0 = START_STAGE.reference) (h : s.pwr.stageAt + s.rdN o1401_START_REF_WAIT_S 0 * 1000000000 ≤ max s.now t) :
    ∃ u, exec (.startRefWaitExpiry t) s = .next u ∧ u.rd o1401_START_STAGE 0 = START_STAGE.media :=
  run_media (f := (·.refWaitOver)) hp (if_pos ⟨hs, hst, h⟩)

theorem first_armed (hst : s.rd o1401_START_STAGE 0 = START_STAGE.media) (h : s.pwr.stageAt + s.rdN o1401_START_LANE_WAIT_MS 0 * 1000000 ≤ max s.now t) (hfirst : s.pwr.armedFirst = false)
    (harm : (((s.begin t).wr o2003_ANCHOR_FCNT 0 0).swapArm).1 = 0) :
    ∃ u, exec (.startLaneWaitExpiry t) s = .next u ∧ u.pwr.armedFirst = true ∧ u.rd o2000_SWAP_STATE 0 = SWAP_STATE.armed ∧ u.led.swap.isSome = true := by
  obtain ⟨b, w, harmed⟩ := swapArm_armed harm
  have hled := armed_led ((s.begin t).wr o2003_ANCHOR_FCNT 0 0) b w
  have hstate := armed_state ((s.begin t).wr o2003_ANCHOR_FCNT 0 0) b w
  generalize ((s.begin t).wr o2003_ANCHOR_FCNT 0 0).armed b w = y at harmed hled hstate
  have hwork : (s.begin t).laneWaitOver = { y with pwr := { y.pwr with armedFirst := true } } := by
    refine (if_pos ⟨hs, hst, h⟩).trans ((if_neg fun hn => Bool.false_ne_true (hfirst.symm.trans hn)).trans ?_)
    rw [harmed]
    rfl
  exact ⟨_, run_work (t := t) (f := (·.laneWaitOver)) hp hwork, rfl, hstate, (congrArg (fun l : Led => l.swap.isSome) hled).trans rfl⟩

end

/-- Settles O55, by what each stage's end writes. -/
theorem startupStagesFollow : Obligations.StartupStagesFollow := by
  unfold Obligations.StartupStagesFollow
  exact fun s t r hp => ⟨osc_lost hp, osc_restored hp, fun hs => ⟨aon_stays hp hs, aon_ends hp hs, aon_fails hp hs,
    fun hst => ⟨reference_ends hp hs hst, reference_stays hp hs hst, reference_over hp hs hst⟩, first_armed hp hs⟩⟩

end Sys2Proof.Machine
end

section
/-! SUPPORT. Takes and head commits (R211, R218, R344), and the start of media (R452). -/

namespace Sys2Proof.Machine
open Sys2Proof

/-! A take that is accepted. -/

def audTakeMarks : List Mark := [.aud, .obj o4101_AUD_PENDING]
def routeTakeMarks : List Mark := [.fab, .obj o4002_PENDING_SOURCE, .obj o4002_SUPERSEDED]
def takeMarks : List Mark := audTakeMarks ++ routeTakeMarks

namespace Blind

variable {M : List Mark} {α : Type} {f : State → α} (hf : Blind M f)
include hf

theorem setChan (h : audTakeMarks ⊆ M) (s : State) (ch : Nat) (x : AudChan) : f (s.setChan ch x) = f s :=
  (hf.wr (h (by decide)) _ _ _).trans (hf .aud (h (by decide)) s _ (.aud ..))

theorem acceptBlock (h : audTakeMarks ⊆ M) (s : State) (dst src count fade since : Nat) (salvo : Option (Nat × Nat)) : f (s.acceptBlock dst src count fade since salvo) = f s :=
  foldl_blind (fun s _ => hf.setChan h s _ _) _ s

theorem acceptRoute (h : routeTakeMarks ⊆ M) (s : State) (dst src takenAt : Nat) (path : Int) (salvo : Option (Nat × Nat)) : f (s.acceptRoute dst src takenAt path salvo) = f s := by
  unfold State.acceptRoute
  split
  · rfl
  · refine (hf.wr (h (by decide)) _ _ _).trans ((hf .fab (h (by decide)) _ _ (.fab ..)).trans ?_)
    split
    · exact hf.bump (h (by decide)) _ _
    · rfl

theorem acceptItem (h : takeMarks ⊆ M) (s : State) (takenAt since : Nat) (salvo : Option (Nat × Nat)) (i : SalvoItem) : f (s.acceptItem takenAt since salvo i) = f s := by
  cases i with
  | reserved => rfl
  | audio => exact hf.acceptBlock (List.Subset.trans (by decide) h) _ _ _ _ _ _ _
  | video dst src =>
    show f (match s.checkRoute dst src (s.routeFrame dst ((s.endpointDomain dst).getD 0)) with
      | .ok path => s.acceptRoute dst src takenAt path salvo
      | .error _ => s) = f s
    split
    · exact hf.acceptRoute (List.Subset.trans (by decide) h) _ _ _ _ _ _
    · rfl

end Blind

/-! Head commits. -/

def latchHeadMarks : List Mark := [.ras, .obj o6220_HEAD_APPLIED_FCNT]
def headCommitMarks : List Mark := [.obj o6220_HEAD_RESULT, .obj o6220_HEAD_ERROR_TILE, .obj o6221_TILE_REFRESH] ++ latchHeadMarks

namespace Blind

variable {M : List Mark} {α : Type} {f : State → α} (hf : Blind M f)
include hf

theorem latchHeads (h : latchHeadMarks ⊆ M) (s : State) : f s.latchHeads = f s := by
  refine foldl_blind (fun s p => ?_) _ s
  unfold State.latchHead
  extract_lets x fc due
  have hset : ∀ y, f (s.setHead p.v y) = f s := fun y => hf .ras (h (by decide)) s _ (.ras ..)
  split
  split
  · exact hset _
  · exact (hf.wr (h (by decide)) _ _ _).trans (hset _)

theorem headCommit (h : headCommitMarks ⊆ M) (s : State) (c : Ctx) (v : Nat) : f (writeHeadCommit c v (.int 0) s).2 = f s := by
  have hlatch : f s.latchHeads = f s := hf.latchHeads (List.Subset.trans (by decide) h) s
  show f (match s.latchHeads.checkHead v with
    | (k, t, go) => match go with
      | some y => (stOK, (((s.latchHeads.setHead v { s.latchHeads.head v with pend := (s.latchHeads.head v).pend ++ [y] }).wr o6220_HEAD_RESULT v 0).wr o6220_HEAD_ERROR_TILE v 255))
      | none => (k, ((if k = 0x1403 then s.latchHeads.wr o6221_TILE_REFRESH (tileRow v t) (((s.latchHeads.head v).tiles.getD t {}).refresh) else s.latchHeads).wr o6220_HEAD_RESULT v k).wr
          o6220_HEAD_ERROR_TILE v t)).2 = f s
  generalize s.latchHeads = x at hlatch
  rcases x.checkHead v with ⟨k, t, _ | y⟩
  · refine (hf.wr (h (by decide)) _ _ _).trans ((hf.wr (h (by decide)) _ _ _).trans (Eq.trans ?_ hlatch))
    split
    · exact hf.wr (h (by decide)) _ _ _
    · rfl
  · exact (hf.wr (h (by decide)) _ _ _).trans ((hf.wr (h (by decide)) _ _ _).trans ((hf .ras (h (by decide)) x _ (.ras ..)).trans hlatch))

end Blind

/-! The start of media. -/

/-- What the start of media touches beside the plan: the device, the pair and start-up. -/
def startMarks : List Mark := [.pwr, .pair, .obj o1401_START_MS, .obj o1401_DEVICE_STATE, .obj o1401_SAFE_REASON, .obj o1601_CUSTODY_HELD, .obj o1601_PAIR_STATE, .obj o1601_HB_PATH, .obj o1601_IVARD_PATH, .aud] ++
  unpairMarks

namespace Blind

variable {M : List Mark} {α : Type} {f : State → α} (hf : Blind startMarks f)
include hf

theorem unpaired (s : State) : f s.unpaired = f s := by
  have hsound : f s.gapSound = f s := hf .aud (by decide) s _ (.aud ..)
  have hstate : f (s.gapSound.setPairState PAIR_STATE.unpaired) = f s := (hf .pair (by decide) (s.gapSound.wr o1601_PAIR_STATE 0 PAIR_STATE.unpaired) _ (.pair ..)).trans ((hf.wr (by decide) _ _ _).trans hsound)
  have hpath : f ((s.gapSound.setPairState PAIR_STATE.unpaired).setPath 1 false) = f s := (hf.wr (by decide) (s.gapSound.setPairState PAIR_STATE.unpaired) 0 HB_PATH.silent).trans hstate
  unfold State.unpaired
  extract_lets s1 pair
  exact (hf .pair (by decide) s1 _ (.pair ..)).trans ((hf.wr (by decide) _ _ _).trans hpath)

theorem startPair (s : State) : f s.startPair = f s := by
  have hunpair : f s.unpair = f s :=
    (Blind.unpair (fun m hm => hf m (List.mem_append_right _ hm)) s).trans ((hf.wr (by decide) _ _ _).trans (hf.unpaired s))
  unfold State.startPair
  split
  · exact (hf .pair (by decide) (s.unpair.setCustody false) _ (.pair ..)).trans ((hf.wr (by decide) _ _ _).trans hunpair)
  · exact hf.wr (by decide) _ _ _

end Blind

namespace PlanBlind

variable {α : Type} {f : State → α} (hf : PlanBlind f)
include hf

theorem applyRoutes (s : State) : f s.applyRoutes = f s := by
  unfold State.applyRoutes
  refine foldl_blind (fun s i => ?_) _ s
  split
  · exact (hf.blind takeMarks rfl).acceptItem (List.Subset.refl _) s _ _ _ i
  · exact (hf.raise _ _ _).trans (hf.bump (by decide) _ _)

theorem commitHeads (s : State) : f s.commitHeads = f s := by
  unfold State.commitHeads
  refine foldl_blind (fun s h => ?_) _ s
  exact (hf.blind headCommitMarks rfl).headCommit (List.Subset.refl _) s ctxDevice h.v

theorem startMedia (hstart : Blind startMarks f) (s : State) : f s.startMedia = f s := by
  unfold State.startMedia
  extract_lets ms s1 s2 pwr s3
  have hs1 : f s1 = f s := by
    show f (if s.rd o1401_DEVICE_STATE 0 = DEVICE_STATE.starting then (s.wr o1401_START_MS 0 (min ms 4294967295 : Nat)).alarmWhile .SYS_START_SLOW noInst (decide (20000 < ms)) else s) = f s
    split
    · exact (hf.alarmWhile _ _ _ _).trans (hstart.wr (by decide) _ _ _)
    · rfl
  have hs2 : f s2 = f s := (hstart.wr (by decide) _ _ _).trans ((hstart.wr (by decide) _ _ _).trans hs1)
  have hs3 : f s3 = f s := (hstart .pwr (by decide) s2 _ (.pwr ..)).trans hs2
  exact (hf.noteLanes _).trans ((hstart.startPair _).trans ((hf.commitHeads _).trans ((hf.applyRoutes _).trans ((hf.refreshPower _).trans ((hf.clear _ _ _).trans hs3)))))

end PlanBlind

end Sys2Proof.Machine
end

section
/-! SUPPORT. Swaps disarmed, and changeover ticks (R42, R47, R49). -/

namespace Sys2Proof.Machine
open Sys2Proof

/-! Disarming. -/

/-- A swap taken back. -/
def State.disarmed (s : State) (w : Swap) : State :=
  ({ (s.setBankState w.incoming BANK_STATE.ready).wr o2000_SWAP_STATE 0 SWAP_STATE.idle with led := { s.led with swap := none, lastReady := some w.incoming } }).refreshPower.dropPower

theorem Blind.dropPower {M : List Mark} {α : Type} {f : State → α} (hf : Blind M f) (h : .obj o1410_PD_STATE ∈ M) (s : State) : f s.dropPower = f s := by
  refine foldl_blind (fun s pd => ?_) _ s
  dsimp only
  split
  · exact hf.wr h _ _ _
  · rfl

theorem disarmed_led (s : State) (w : Swap) : (s.disarmed w).led = { s.led with swap := none, lastReady := some w.incoming } :=
  (planBlind_led.dropPower _).trans (planBlind_led.refreshPower _)

theorem disarmed_rd (s : State) (w : Swap) {o : Nat} (h : .obj o ∉ holdMarks) (ho : o ∉ alarmSideObjects) (r : Nat) :
    (s.disarmed w).rd o r = ((s.setBankState w.incoming BANK_STATE.ready).wr o2000_SWAP_STATE 0 SWAP_STATE.idle).rd o r :=
  ((blind_rd h r (.inr ho)).dropPower (by decide) _).trans ((blind_rd h r (.inr ho)).refreshPower (List.Subset.refl _) _)

/-- Whether a changeover tick of the swap has come. -/
def State.swapBegun (s : State) (w : Swap) : Prop := w.done ≠ [] ∨ ∃ d, d < 4 ∧ (s.td d).changeDue = true

theorem swapBegun_iff (s : State) (w : Swap) : s.swapBegun w ↔ w.done ≠ [] ∨ tdList.any (fun d => (s.td d).changeDue) = true := by
  have hlist : ∀ d, d ∈ tdList ↔ d < 4 := fun d => ⟨fun h => by simp [tdList] at h; omega, fun h => by simp [tdList]; omega⟩
  unfold State.swapBegun
  simp only [List.any_eq_true, hlist]

theorem swapDisarm_eq {s : State} {w : Swap} (hw : s.led.swap = some w) (h : ¬ s.swapBegun w) : s.swapDisarm = (stOK, s.disarmed w) := by
  unfold State.swapDisarm
  rw [hw]
  exact if_neg fun hn => h ((swapBegun_iff s w).mpr hn)

theorem swapDisarm_late {s : State} {w : Swap} (hw : s.led.swap = some w) (h : s.swapBegun w) : s.swapDisarm = s.swapRefused 0x0A05 := by
  unfold State.swapDisarm
  rw [hw]
  exact if_pos ((swapBegun_iff s w).mp h)

theorem writeSwapCmd_eq (c : Ctx) (s : State) (v : Int) : writeSwapCmd c 0 (.int v) s = if v = SWAP_CMD.arm then s.swapArm else s.swapDisarm := rfl
theorem writeSwapCmd_arm (c : Ctx) (s : State) : writeSwapCmd c 0 (.int SWAP_CMD.arm) s = s.swapArm := (writeSwapCmd_eq c s _).trans (if_pos rfl)
theorem writeSwapCmd_disarm (c : Ctx) (s : State) : writeSwapCmd c 0 (.int SWAP_CMD.disarm) s = s.swapDisarm := (writeSwapCmd_eq c s _).trans (if_neg (by decide))

section
variable {s : State} {t port : Nat} (hp : s.powered = true)
include hp

/-- A refused swap command. -/
theorem run_swapRefused {v : Int} {k : Nat} (ha : s.admits port o2003_SWAP_CMD 0 (.int v) = true) (hk : ∀ c, writeSwapCmd c 0 (.int v) (s.begin t) = (s.begin t).swapRefused k)
    (hne : k ≠ stOK) (hlow : ∀ x : State, x.noteRefusal o2003_SWAP_CMD 0 k = x) :
    ∃ u, s.run t (fun s => s.opCmd writeSwapCmd port o2003_SWAP_CMD 0 (.int v)) = .next u ∧ u.last = ⟨k, none⟩ ∧ u.rd o2000_SWAP_ERROR 0 = k ∧ u.led = s.led :=
  ⟨_, run_refused_to (t := t) (by decide) hp ha (fun c _ => hk c) hne rfl (hlow _), rfl, (s.begin t).rd_wr_same o2000_SWAP_ERROR 0 k, rfl⟩

/-- An arm that no refusal meets. -/
theorem swap_armed {b f : Nat} (ha : s.admits port o2003_SWAP_CMD 0 (.int SWAP_CMD.arm) = true) (hswap : s.led.swap = none) (hb : s.armTarget = some b)
    (hdark : s.swapKind b = LAST_SWAP_KIND.dark → s.isOn o2003_ALLOW_DARK 0 = true) (hmodes : s.laneModesMatch (s.bank b).plan = true)
    (hpower : ∀ d ∈ (s.bank b).plan.power, s.pdState d ≠ PD_STATE.locked_off) (hanchor : (s.begin t).anchorFcnt (some b) s.activeBank = some f) (hwaits : acyclic 4 (s.swapOf b f).waits = true) :
    ∃ u w, exec (.swapArm t port) s = .next u ∧ u.last = ⟨0, none⟩ ∧ u.bankState b = BANK_STATE.armed ∧ u.rd o2000_SWAP_STATE 0 = SWAP_STATE.armed ∧ u.led.swap = some w ∧
      w.incoming = b ∧ w.kind = s.swapKind b ∧ w.anchorTd = s.rdN o2003_ANCHOR_TD 0 ∧ w.anchorFcnt = f ∧ w.done = [] ∧ u.led.serving = s.led.serving := by
  have hk : ∀ c : Ctx, c.port = port → writeSwapCmd c 0 (.int SWAP_CMD.arm) (s.begin t) = (stOK, (s.begin t).armed b (s.swapOf b f)) := fun c _ =>
    (writeSwapCmd_arm c _).trans (swapArm_accepts (s := s.begin t) hswap hb hdark hmodes hpower hanchor hwaits)
  have hbank : ((s.begin t).armed b (s.swapOf b f)).rd o2001_BANK_STATE b = BANK_STATE.armed :=
    (armed_rd (s.begin t) b _ (by decide) (by decide) b).trans ((State.rd_wr_obj _ _ (by decide)).trans (State.rd_wr_same ..))
  have hstate := armed_state (s.begin t) b (s.swapOf b f)
  have hled := armed_led (s.begin t) b (s.swapOf b f)
  have hctl : ((s.begin t).armed b (s.swapOf b f)).ctl = s.ctl := planBlind_ctl.refreshPower _
  generalize (s.begin t).armed b (s.swapOf b f) = y at hk hbank hstate hled hctl
  obtain ⟨e, hrun, hend⟩ := run_accepted_row (t := t) (by decide) hp ha hk (congrArg Ctl.endAfter hctl)
  exact ⟨_, s.swapOf b f, hrun, hend.last, (hend.rd _ _ (by decide)).trans hbank, (hend.rd _ _ (by decide)).trans hstate, (congrArg Led.swap hled).trans rfl, rfl, rfl, rfl, rfl, rfl,
    (congrArg Led.serving hled).trans rfl⟩

/-- A disarm before the first changeover tick. -/
theorem swap_disarmed {w : Swap} (ha : s.admits port o2003_SWAP_CMD 0 (.int SWAP_CMD.disarm) = true) (hw : s.led.swap = some w) (h : ¬ s.swapBegun w) :
    ∃ u, exec (.swapDisarm t port) s = .next u ∧ u.last = ⟨0, none⟩ ∧ u.bankState w.incoming = BANK_STATE.ready ∧ u.rd o2000_SWAP_STATE 0 = SWAP_STATE.idle ∧ u.led.swap = none ∧
      u.led.lastReady = some w.incoming ∧ u.led.serving = s.led.serving := by
  have hk : ∀ c : Ctx, c.port = port → writeSwapCmd c 0 (.int SWAP_CMD.disarm) (s.begin t) = (stOK, (s.begin t).disarmed w) := fun c _ =>
    (writeSwapCmd_disarm c _).trans (swapDisarm_eq (s := s.begin t) hw h)
  have hbank : ((s.begin t).disarmed w).rd o2001_BANK_STATE w.incoming = BANK_STATE.ready :=
    (disarmed_rd (s.begin t) w (by decide) (by decide) _).trans ((State.rd_wr_obj _ _ (by decide)).trans (State.rd_wr_same ..))
  have hstate : ((s.begin t).disarmed w).rd o2000_SWAP_STATE 0 = SWAP_STATE.idle := (disarmed_rd (s.begin t) w (by decide) (by decide) _).trans (State.rd_wr_same ..)
  have hled := disarmed_led (s.begin t) w
  have hctl : ((s.begin t).disarmed w).ctl = s.ctl := (planBlind_ctl.dropPower _).trans (planBlind_ctl.refreshPower _)
  generalize (s.begin t).disarmed w = y at hk hbank hstate hled hctl
  obtain ⟨e, hrun, hend⟩ := run_accepted_row (t := t) (by decide) hp ha hk (congrArg Ctl.endAfter hctl)
  exact ⟨_, hrun, hend.last, (hend.rd _ _ (by decide)).trans hbank, (hend.rd _ _ (by decide)).trans hstate, (congrArg Led.swap hled).trans rfl, (congrArg Led.lastReady hled).trans rfl,
    (congrArg Led.serving hled).trans rfl⟩

end

/-! Changeover ticks. -/

/-- The banks in force once a domain has changed over. -/
def State.servingAfter (s : State) (w : Swap) (d : Nat) : Store Nat Nat :=
  if s.bankRate (some w.incoming) d ≠ 0 then storePut natLt d w.incoming s.led.serving else storeDel d s.led.serving

/-- The swap over: the outgoing bank is ready again. -/
def State.swapClosed (s : State) : Option Nat → State
  | some o => { s.setBankState o BANK_STATE.ready with led := { s.led with lastReady := some o, swap := none } }
  | none => { s with led := { s.led with swap := none } }

theorem swapClosed_serving (s : State) (o : Option Nat) : (s.swapClosed o).led.serving = s.led.serving := by
  cases o <;> rfl

/-- Domains that a swap has still to change over. -/
def Swap.left (w : Swap) : List Nat := w.domains.filter (fun d => w.done.all (fun e => e.1 != d))

theorem swapProgress_over (s : State) {w : Swap} (h : w.left = []) :
    s.swapProgress w = (((((s.swapClosed w.outgoing).wr o2000_SWAP_STATE 0 SWAP_STATE.idle).bump o2000_SWAP_COUNT 0).wr o2000_LAST_SWAP_KIND 0 w.kind).refreshPower) := by
  refine (if_pos h).trans ?_
  cases w.outgoing <;> rfl

theorem swapProgress_on (s : State) {w : Swap} (h : w.left ≠ []) : ∃ v, s.swapProgress w = ({ s with led := { s.led with swap := some w } } : State).wr o2000_SWAP_STATE 0 v := ⟨_, if_neg h⟩

theorem swapProgress_serving (s : State) (w : Swap) : (s.swapProgress w).led.serving = s.led.serving := by
  by_cases h : w.left = []
  · rw [swapProgress_over s h]
    exact (congrArg Led.serving (planBlind_led.refreshPower _)).trans (swapClosed_serving s w.outgoing)
  · obtain ⟨v, hv⟩ := swapProgress_on s h
    rw [hv]
    rfl

/-- Objects that the progress of a swap writes. -/
def progressMarks : List Mark := [.led, .obj o2000_SWAP_STATE, .obj o2000_SWAP_COUNT, .obj o2000_LAST_SWAP_KIND, .obj o2001_BANK_STATE] ++ holdMarks

theorem Blind.swapClosed {α : Type} {f : State → α} (hf : Blind progressMarks f) (s : State) (o : Option Nat) : f (s.swapClosed o) = f s := by
  cases o with
  | none => exact hf .led (by decide) s _ (.led ..)
  | some o => exact (hf .led (by decide) (s.setBankState o BANK_STATE.ready) _ (.led ..)).trans (hf.wr (by decide) _ _ _)

theorem Blind.swapProgress {α : Type} {f : State → α} (hf : Blind progressMarks f) (s : State) (w : Swap) : f (s.swapProgress w) = f s := by
  by_cases h : w.left = []
  · rw [swapProgress_over s h]
    exact (hf.refreshPower (List.subset_append_right _ _) _).trans ((hf.wr (by decide) _ _ _).trans ((hf.bump (by decide) _ _).trans ((hf.wr (by decide) _ _ _).trans (hf.swapClosed s _))))
  · obtain ⟨v, hv⟩ := swapProgress_on s h
    rw [hv]
    exact (hf.wr (by decide) _ _ _).trans (hf .led (by decide) s _ (.led ..))

/-- The bank that a domain leaves, if any, retires. -/
def State.retired (s : State) : Option Nat → State
  | some o => s.setBankState o BANK_STATE.retiring
  | none => s

/-- The banks' states once the first domain has changed over (R42). -/
def State.swapOpened (s : State) (w : Swap) : State :=
  if w.done.isEmpty then { (s.setBankState w.incoming BANK_STATE.active).retired w.outgoing with led := { s.led with lastActive := some w.incoming } } else s

/-- The domain served by the incoming bank, or by none. -/
def State.taken (s : State) (w : Swap) (d : Nat) : State := { s.swapOpened w with led := { (s.swapOpened w).led with serving := (s.swapOpened w).servingAfter w d } }

/-- The domain's frame and rate noted. -/
def State.takenNoted (s : State) (w : Swap) (d : Nat) : State := ((((s.taken w d).wr (lastChangeover d) 0 ((s.taken w d).fcnt d)).noteRate d).noteActive)

theorem retired_rd (s : State) (b : Option Nat) {o : Nat} (h : o ≠ o2001_BANK_STATE) (r : Nat) : (s.retired b).rd o r = s.rd o r := by
  cases b with
  | none => rfl
  | some b => exact State.rd_wr_obj _ _ h

theorem taken_serving (s : State) (w : Swap) (d : Nat) : (s.taken w d).led.serving = s.servingAfter w d := by
  show (s.swapOpened w).servingAfter w d = s.servingAfter w d
  unfold State.swapOpened
  split <;> rfl

theorem taken_rd (s : State) (w : Swap) (d : Nat) {o : Nat} (h : o ≠ o2001_BANK_STATE) (r : Nat) : (s.taken w d).rd o r = s.rd o r := by
  show (s.swapOpened w).rd o r = s.rd o r
  unfold State.swapOpened
  split
  · exact (retired_rd _ _ h r).trans (State.rd_wr_obj _ _ h)
  · rfl

theorem swapOpened_eq (s : State) (w : Swap) : (if w.done.isEmpty then
      let x := s.setBankState w.incoming BANK_STATE.active
      let x := match w.outgoing with
        | some o => x.setBankState o BANK_STATE.retiring
        | none => x
      { x with led := { x.led with lastActive := some w.incoming } }
    else s) = s.swapOpened w := by
  unfold State.swapOpened
  cases w.outgoing <;> rfl

theorem changeoverBank_eq {s : State} {w : Swap} (d : Nat) (hw : s.led.swap = some w) :
    s.changeoverBank d = ((s.takenNoted w d).swapProgress { w with done := w.done ++ [(d, (s.takenNoted w d).now)] }).refreshPower := by
  unfold State.takenNoted State.taken
  rw [← swapOpened_eq]
  unfold State.changeoverBank
  rw [hw]
  rfl

/-- LAST_CHANGEOVER_FCNT of a domain is none of the objects that a plan, the device or a swap's progress writes. -/
theorem lastChangeover_apart {d : Nat} (hd : d < 4) :
    offPlan (.obj (lastChangeover d)) = true ∧ lastChangeover d ∉ alarmSideObjects ∧ .obj (lastChangeover d) ∉ startMarks ∧ .obj (lastChangeover d) ∉ progressMarks ∧ lastChangeover d ≠ o2001_BANK_STATE := by
  revert d
  decide

theorem planBlind_lastChangeover {d : Nat} (hd : d < 4) : PlanBlind (·.rd (lastChangeover d) 0) :=
  planBlind_rd 0 (lastChangeover_apart hd).1 (lastChangeover_apart hd).2.1

theorem changeoverBank_serving {s : State} {w : Swap} (d : Nat) (hw : s.led.swap = some w) : (s.changeoverBank d).led.serving = s.servingAfter w d := by
  rw [changeoverBank_eq d hw]
  refine (congrArg Led.serving (planBlind_led.refreshPower _)).trans ((swapProgress_serving _ _).trans ?_)
  exact (congrArg Led.serving ((planBlind_led.noteActive _).trans (planBlind_led.noteRate _ d))).trans (taken_serving s w d)

theorem changeoverBank_frame {s : State} {w : Swap} {d : Nat} (hd : d < 4) (hw : s.led.swap = some w) : (s.changeoverBank d).rd (lastChangeover d) 0 = s.fcnt d := by
  obtain ⟨-, halarm, -, hprogress, -⟩ := lastChangeover_apart hd
  have hf := planBlind_lastChangeover hd
  rw [changeoverBank_eq d hw]
  refine (hf.refreshPower _).trans (((blind_rd hprogress 0 (.inr halarm)).swapProgress _ _).trans ((hf.noteActive _).trans ((hf.noteRate _ d).trans ((State.rd_wr_same _ _ _ _).trans ?_))))
  exact congrArg (fun v : Int => ((v.toNat : Nat) : Int)) (taken_rd s w d (by decide) d)

/-- Mutes that begin with a dark swap. -/
def State.muted (s : State) (dark : Bool) (l : List Mute) : State := if dark then { s with aud := { s.aud with mutes := s.aud.mutes ++ l } } else s

/-- The start of media, when this tick starts them. -/
def State.mediaStarted (s : State) : State := if s.startsMedia then s.startMedia else s

theorem changeover_eq {s : State} {w : Swap} (d : Nat) (hw : s.led.swap = some w) : ∃ old dark fresh moved l,
    s.changeover d = ((((((s.setTd d { s.td d with changeDue := false }).changeoverBank d).notePhaseSource d).tdAlarms d).planChanged d old dark fresh moved).muted dark l).mediaStarted := by
  unfold State.changeover
  rw [hw]
  dsimp only
  generalize (s.setTd d { s.td d with changeDue := false }).changeoverBank d = x
  generalize (x.notePhaseSource d).tdAlarms d = y
  generalize (s.bankRate (s.serving d) d != 0 && s.bankRate (s.serving d) d != y.bankRate (y.serving d) d) = moved
  refine ⟨s.planOf d, w.kind == LAST_SWAP_KIND.dark, !s.inUse d, moved, ?_⟩
  generalize y.planChanged d (s.planOf d) (w.kind == LAST_SWAP_KIND.dark) (!s.inUse d) moved = z
  exact ⟨mutesOf (z.audioDests (z.planOf d) (if moved then none else some (s.planOf d)) d) z.now (z.tickIn d 1), rfl⟩

theorem PlanBlind.changeover {α : Type} {f : State → α} (hf : PlanBlind f) (hstart : Blind startMarks f) {s : State} {w : Swap} (d : Nat) (hw : s.led.swap = some w) :
    f (s.changeover d) = f ((s.setTd d { s.td d with changeDue := false }).changeoverBank d) := by
  have hmute : ∀ (x : State) (dark : Bool) (l : List Mute), f (x.muted dark l) = f x := fun x dark l => by
    cases dark with
    | true => exact hf .aud rfl x _ (.aud ..)
    | false => rfl
  have hmedia : ∀ x : State, f x.mediaStarted = f x := fun x => by
    unfold State.mediaStarted
    split
    · exact hf.startMedia hstart x
    · rfl
  obtain ⟨old, dark, fresh, moved, l, he⟩ := changeover_eq d hw
  rw [he]
  exact (hmedia _).trans ((hmute _ dark l).trans ((hf.planChanged _ d old dark fresh moved).trans ((hf.tdAlarms _ d).trans (hf.notePhaseSource _ d))))

theorem servingAfter_same (s : State) (w : Swap) (d : Nat) : storeGet d (s.servingAfter w d) = if s.bankRate (some w.incoming) d = 0 then none else some w.incoming := by
  unfold State.servingAfter
  by_cases h : s.bankRate (some w.incoming) d = 0
  · rw [if_neg (not_not.mpr h), if_pos h, storeGet_del_same]
  · rw [if_pos h, if_neg h, storeGet_put_same]

theorem servingAfter_other (s : State) (w : Swap) {d d' : Nat} (h : d' ≠ d) : storeGet d' (s.servingAfter w d) = s.serving d' := by
  unfold State.servingAfter
  split
  · exact storeGet_put_ne natLt h _ _
  · exact storeGet_del_ne h _

theorem domain_changed {s : State} {t d : Nat} {w : Swap} (hp : s.powered = true) (hd : d < 4) (hw : s.led.swap = some w) (hdue : (s.td d).changeDue = true) :
    ∃ u, exec (.domainChangeover t d) s = .next u ∧ u.serving d = (if s.bankRate (some w.incoming) d = 0 then none else some w.incoming) ∧ (∀ d', d' ≠ d → u.serving d' = s.serving d') ∧
      u.rd (o2000_LAST_CHANGEOVER_FCNT_TD0 + d) 0 = s.fcnt d := by
  obtain ⟨-, halarm, hstart, -, -⟩ := lastChangeover_apart hd
  have hled : ((s.begin t).changeover d).led.serving = s.servingAfter w d :=
    (congrArg Led.serving (planBlind_led.changeover (blind_led (by decide)) d (s := s.begin t) hw)).trans
      (changeoverBank_serving (s := (s.begin t).setTd d { (s.begin t).td d with changeDue := false }) d hw)
  have hframe : ((s.begin t).changeover d).rd (lastChangeover d) 0 = s.fcnt d :=
    ((planBlind_lastChangeover hd).changeover (blind_rd hstart 0 (.inr halarm)) d (s := s.begin t) hw).trans
      (changeoverBank_frame (s := (s.begin t).setTd d { (s.begin t).td d with changeDue := false }) hd hw)
  have hrun : exec (.domainChangeover t d) s = .next ((s.begin t).finish ((s.begin t).changeover d)) :=
    run_work (t := t) (f := fun s => if decide (d < 4) && (s.td d).changeDue then s.changeover d else s) hp (if_pos (Bool.and_eq_true_iff.mpr ⟨decide_eq_true hd, hdue⟩))
  generalize (s.begin t).changeover d = y at hled hframe hrun
  refine ⟨_, hrun, ?_, fun d' hne => ?_, hframe⟩
  · exact (congrArg (storeGet d) hled).trans (servingAfter_same s w d)
  · exact (congrArg (storeGet d') hled).trans (servingAfter_other s w hne)

/-- Settles O8: an arm and a disarm write the bank, the swap and nothing of what serves; a changeover's plan leaves the banks in force, and the frame of the changeover. -/
theorem swapsLeadToChangeovers : Obligations.SwapsLeadToChangeovers := by
  unfold Obligations.SwapsLeadToChangeovers
  refine ⟨fun s t port b f hp => ⟨fun ha hswap hb hdark hmodes hpower hanchor hwaits => swap_armed hp ha hswap hb hdark hmodes hpower hanchor hwaits, fun ha hswap hb => ?_, fun w ha hw => ⟨fun hdone hdue => ?_, fun h => ?_⟩⟩,
    fun s t d w hp hd hw hdue => domain_changed hp hd hw hdue⟩
  · refine run_swapRefused hp ha (fun c => (writeSwapCmd_arm c _).trans ?_) (by decide) fun x => noteRefusal_low x _ _ (by decide)
    unfold State.swapArm
    rw [if_neg (by rw [show (s.begin t).led.swap = none from hswap]; exact Bool.false_ne_true), show (s.begin t).armTarget = none from hb]
  · exact swap_disarmed hp ha hw fun hn => hn.elim (fun h => h hdone) fun ⟨d, hd, hnot⟩ => Bool.false_ne_true ((hdue d hd).symm.trans hnot)
  · exact run_swapRefused hp ha (fun c => (writeSwapCmd_disarm c _).trans (swapDisarm_late (s := s.begin t) hw h)) (by decide) fun x => noteRefusal_low x _ _ (by decide)

end Sys2Proof.Machine
end

section
/-! SUPPORT. Loads and the checks of their images (R32, R36, R39, R42, R43). -/

namespace Sys2Proof.Machine
open Sys2Proof

theorem emptyBank_imageId (s : State) (b : Nat) (st : Int) (x : Bank) : (s.emptyBank b st x).rd o2001_IMAGE_ID b = 0 := by
  unfold State.emptyBank
  extract_lets s1
  have hs1 : s1.rd o2001_IMAGE_ID b = 0 := by
    show (((((((s.setBank b x).setBankState b st).wr o2001_IMAGE_ID b 0).wr o2001_IMAGE_LENGTH b 0).wr o2001_CHECK_RESULT b 0).wr o2001_WORST_MARGIN b 0).wr o2001_SIGNED b 0 |>.wr o2001_DOMAINS_USED b 0).rd o2001_IMAGE_ID b = 0
    simp (disch := decide) only [State.rd_wr_obj, State.rd_wr_same]
  split
  · exact hs1
  · exact hs1

theorem emptyBank_state (s : State) (b : Nat) (st : Int) (x : Bank) : (s.emptyBank b st x).bankState b = st := (emptyBank_bankState s b st x b).trans (if_pos rfl)

theorem loadingBank_state {s : State} {b : Nat} (h : s.loadingBank = some b) : s.bankState b = BANK_STATE.loading := by
  simpa using List.find?_some h

theorem writeLoadCmd_flash {s : State} {b : Nat} (ht : s.loadTarget = some b) (hr : s.loadRuns = false) (c : Ctx) (r : Nat) :
    writeLoadCmd c r (.int LOAD_CMD.from_flash) s = (stOK, s.emptyBank b BANK_STATE.loading { fromFlash := some (s.rdN o2002_FLASH_IMAGE 0) }) := by
  simp [writeLoadCmd, onInt, State.beginLoad, ht, hr, show LOAD_CMD.from_flash ≠ LOAD_CMD.open from by decide]

theorem writeLoadCmd_close {s : State} {b : Nat} (hb : s.loadingBank = some b) (hf : (s.bank b).fromFlash = none) (c : Ctx) (r : Nat) :
    writeLoadCmd c r (.int LOAD_CMD.close) s = (stOK, s.startCheck b) := by
  simp [writeLoadCmd, onInt, hb, hf, show LOAD_CMD.close ≠ LOAD_CMD.open from by decide, show LOAD_CMD.close ≠ LOAD_CMD.from_flash from by decide]

theorem writeLoadCmd_discard {s : State} {b : Nat} (hb : s.loadingBank = some b) (c : Ctx) (r : Nat) :
    writeLoadCmd c r (.int LOAD_CMD.discard) s = (stOK, s.emptyBank b BANK_STATE.empty {}) := by
  simp [writeLoadCmd, onInt, hb, loadingBank_state hb, show LOAD_CMD.discard ≠ LOAD_CMD.open from by decide,
    show LOAD_CMD.discard ≠ LOAD_CMD.close from by decide]

/-- A check that starts keeps what was received. -/
theorem startCheck_spec (s : State) (b : Nat) : (s.startCheck b).bankState b = BANK_STATE.checking ∧ ((s.startCheck b).bank b).raw = (s.bank b).raw :=
  ⟨State.rd_wr_same _ _ _ _, (congrArg Bank.raw ((bank_eq_of_led (State.wr_led _ _ _ _) b).trans (s.bank_setBank b _))).trans rfl⟩

section
variable {s : State} {t port b : Nat} (hp : s.powered = true)
include hp

theorem load_opened (ht : s.loadTarget = some b) (hr : s.loadRuns = false) (ha : s.admits port o2002_LOAD_CMD 0 (.int LOAD_CMD.open) = true) :
    ∃ u, exec (.loadOpen t port) s = .next u ∧ u.last = ⟨0, none⟩ ∧ u.bankState b = BANK_STATE.loading ∧ u.bank b = {} ∧ u.rd o2002_XFER_OFFSET 0 = 0 := by
  obtain ⟨u, hu, hlast, hled, hrd⟩ := run_opCmd_accepted (h := writeLoadCmd) (t := t) hp ha
    (fun c => writeLoadCmd_open ((s.begin_loadTarget t).trans ht) ((s.begin_loadRuns t).trans hr) c _) (emptyBank_ctl _ _ _ _)
  refine ⟨u, hu, hlast, (hrd _ _ (by decide)).trans ((State.rd_wr_obj _ _ (by decide)).trans (emptyBank_state (s.begin t) b _ _)), ?_, (hrd _ _ (by decide)).trans (State.rd_wr_same ..)⟩
  rw [bank_eq_of_led (hled.trans (State.wr_led _ _ _ _)), emptyBank_bank_same]

theorem load_read (ht : s.loadTarget = some b) (hr : s.loadRuns = false) (ha : s.admits port o2002_LOAD_CMD 0 (.int LOAD_CMD.from_flash) = true) :
    ∃ u, exec (.loadFromFlash t port) s = .next u ∧ u.last = ⟨0, none⟩ ∧ u.bankState b = BANK_STATE.loading ∧ u.bank b = { fromFlash := some (s.rdN o2002_FLASH_IMAGE 0) } := by
  obtain ⟨u, hu, hlast, hled, hrd⟩ := run_opCmd_accepted (h := writeLoadCmd) (t := t) hp ha
    (fun c => writeLoadCmd_flash ((s.begin_loadTarget t).trans ht) ((s.begin_loadRuns t).trans hr) c _) (emptyBank_ctl _ _ _ _)
  refine ⟨u, hu, hlast, (hrd _ _ (by decide)).trans (emptyBank_state (s.begin t) b _ _), ?_⟩
  rw [bank_eq_of_led hled, emptyBank_bank_same]
  rfl

theorem load_closed (hb : s.loadingBank = some b) (ha : s.admits port o2002_LOAD_CMD 0 (.int LOAD_CMD.close) = true) (hf : (s.bank b).fromFlash = none) :
    ∃ u, exec (.loadClose t port) s = .next u ∧ u.last = ⟨0, none⟩ ∧ u.bankState b = BANK_STATE.checking ∧ (u.bank b).raw = (s.bank b).raw := by
  obtain ⟨u, hu, hlast, hled, hrd⟩ := run_opCmd_accepted (h := writeLoadCmd) (t := t) hp ha (fun c => writeLoadCmd_close (s := s.begin t) hb hf c _) rfl
  obtain ⟨hstate, hraw⟩ := startCheck_spec (s.begin t) b
  exact ⟨u, hu, hlast, (hrd _ _ (by decide)).trans hstate, (congrArg Bank.raw (bank_eq_of_led hled b)).trans hraw⟩

theorem load_discarded (hb : s.loadingBank = some b) (ha : s.admits port o2002_LOAD_CMD 0 (.int LOAD_CMD.discard) = true) :
    ∃ u, exec (.loadDiscard t port) s = .next u ∧ u.last = ⟨0, none⟩ ∧ u.bankState b = BANK_STATE.empty ∧ u.bank b = {} ∧ u.rd o2001_IMAGE_ID b = 0 := by
  obtain ⟨u, hu, hlast, hled, hrd⟩ := run_opCmd_accepted (h := writeLoadCmd) (t := t) hp ha (fun c => writeLoadCmd_discard (s := s.begin t) hb c _) (emptyBank_ctl _ _ _ _)
  refine ⟨u, hu, hlast, (hrd _ _ (by decide)).trans (emptyBank_state (s.begin t) b _ _), ?_, (hrd _ _ (by decide)).trans (emptyBank_imageId (s.begin t) b _ _)⟩
  rw [bank_eq_of_led hled, emptyBank_bank_same]

theorem flash_read (image : Bytes) {k : Nat} (hb : s.loadingBank = some b) (hf : (s.bank b).fromFlash = some k) :
    ∃ u, exec (.flashReadComplete t image) s = .next u ∧ u.bankState b = BANK_STATE.checking ∧ (u.bank b).raw = image := by
  have hwork : (s.begin t).flashRead image = ((s.begin t).setBank b { s.bank b with raw := image }).startCheck b := by
    unfold State.flashRead
    rw [show (s.begin t).loadingBank = some b from hb]
    exact if_pos (Option.isSome_iff_exists.mpr ⟨k, hf⟩)
  obtain ⟨hstate, hraw⟩ := startCheck_spec ((s.begin t).setBank b { s.bank b with raw := image }) b
  exact ⟨_, run_work (t := t) (f := fun s => s.flashRead image) hp hwork, hstate, hraw.trans (congrArg Bank.raw ((s.begin t).bank_setBank b _))⟩

end

/-! The end of a check. -/

/-- The result that the check of a bank's image gives. -/
def State.checkCode (s : State) (fits : Plan → List Ladder → Bool) (plan : Plan) (b : Nat) : Nat :=
  checkImage (s.bank b).raw (s.rdN o1000_FW_RELEASE_NUM 0) (s.isOn o2002_REQUIRE_SIGNATURE 0 || s.policyLedger) (s.bank b).vkey (fits plan (ladders (s.bank b).raw)) plan

section
variable {s : State} {b : Nat} (fits : Plan → List Ladder → Bool) (plan : Plan) (hb : bankList.find? (fun x => s.bankState x == BANK_STATE.checking) = some b)
include hb

theorem ledgerCheck_passes (h : s.checkCode fits plan b = 1) :
    (s.ledgerCheck fits plan).bankState b = BANK_STATE.ready ∧ ((s.ledgerCheck fits plan).bank b).plan = plan ∧ ((s.ledgerCheck fits plan).bank b).descs = domDescs (s.bank b).raw ∧
      (s.ledgerCheck fits plan).led.lastReady = some b := by
  have hbank : ∃ w : State, ∃ x : Bank, x.plan = plan ∧ x.descs = domDescs (s.bank b).raw ∧ ∃ v1 v2 v3 : Int,
      s.ledgerCheck fits plan =
        { ((((w.setBank b x).setBankState b BANK_STATE.ready).wr o2001_WORST_MARGIN b v1).wr o2001_SIGNED b v2).wr o2001_DOMAINS_USED b v3 with
          led := { ((((w.setBank b x).setBankState b BANK_STATE.ready).wr o2001_WORST_MARGIN b v1).wr o2001_SIGNED b v2).led with lastReady := some b } } := by
    unfold State.ledgerCheck
    rw [hb]
    exact ⟨_, _, rfl, rfl, _, _, _, if_pos h⟩
  obtain ⟨w, x, hplan, hdescs, v1, v2, v3, he⟩ := hbank
  rw [he]
  refine ⟨?_, ?_, ?_, rfl⟩
  · refine (rd_withLed _ _ _ _).trans ?_
    simp (disch := decide) only [State.setBankState, State.rd_wr_obj, State.rd_wr_same]
  · exact (congrArg Bank.plan (w.bank_setBank b x)).trans hplan
  · exact (congrArg Bank.descs (w.bank_setBank b x)).trans hdescs

theorem ledgerCheck_fails (h : s.checkCode fits plan b ≠ 1) :
    (s.ledgerCheck fits plan).bankState b = BANK_STATE.rejected ∧ (s.ledgerCheck fits plan).led = s.led := by
  have he : ∃ v1 v2 v3 : Int, s.ledgerCheck fits plan = (((s.wr o2001_CHECK_RESULT b v1).wr o2001_IMAGE_ID b v2).wr o2001_IMAGE_LENGTH b v3).setBankState b BANK_STATE.rejected := by
    unfold State.ledgerCheck
    rw [hb]
    exact ⟨_, _, _, if_neg h⟩
  obtain ⟨v1, v2, v3, he⟩ := he
  rw [he]
  exact ⟨State.rd_wr_same _ _ _ _, rfl⟩

end

/-- An unsigned image of its full length whose header is right fails with 0201h when its check word is wrong. -/
theorem checkImage_word {raw : Bytes} {fw len : Nat} {must : Bool} {vkey : Option Bytes} {fits : Bool} {p : Plan} (hraw : raw.length = len) (hlen : hdrLength raw = len) (hmin : 4096 ≤ len)
    (hmax : len ≤ 50331648) (hsig : hdrSigLen raw = 0) (hmagic : slice 0 4 raw = ascii "SQLG") (hver : fieldNat 4 2 raw = 3)
    (hhdr : fieldNat 6 2 raw = 256) (hchip : slice 24 4 raw = ascii "B1" ++ [0#8, 0#8]) (hfw : hdrMinFw raw ≤ fw) (hword : fieldNat (len - 4) 4 raw ≠ checkWord raw len) :
    checkImage raw fw must vkey fits p = 0x0201 := by
  unfold checkImage
  dsimp only
  rw [if_neg, if_neg, if_neg, if_neg, if_pos]
  · rwa [hlen]
  · exact Nat.not_lt.mpr hfw
  · exact not_not.mpr hchip
  · simp [hmagic, hver, hhdr]
  · rw [hlen, hsig, hraw, show imageMin = 4096 from rfl, show imageMax = 50331648 from rfl]
    omega

theorem check_ended {s : State} {t b : Nat} {plan : Plan} (hp : s.powered = true) (hb : bankList.find? (fun x => s.bankState x == BANK_STATE.checking) = some b) :
    ∃ u, exec (.ledgerCheck t plan) s = .next u ∧ u.rd o2001_CHECK_RESULT b = s.checkCode planFits plan b ∧
      (s.checkCode planFits plan b = 1 ∧ u.bankState b = BANK_STATE.ready ∧ (u.bank b).plan = plan ∧ (u.bank b).descs = domDescs (s.bank b).raw ∧ u.led.lastReady = some b ∨
        s.checkCode planFits plan b ≠ 1 ∧ u.bankState b = BANK_STATE.rejected ∧ u.bank b = s.bank b) := by
  have hresult := ledgerCheck_result (s := s.begin t) planFits plan hb
  refine ⟨_, run_work (t := t) (f := (·.ledgerCheck planFits plan)) hp rfl, hresult, ?_⟩
  by_cases h : s.checkCode planFits plan b = 1
  · exact .inl ⟨h, ledgerCheck_passes (s := s.begin t) planFits plan hb h⟩
  · obtain ⟨hstate, hled⟩ := ledgerCheck_fails (s := s.begin t) planFits plan hb h
    exact .inr ⟨h, hstate, bank_eq_of_led (s := s) hled b⟩

/-- Settles O6. That the image's plan arrives as an operand of the check is the model's choice (log row 10). -/
theorem loadsAreChecked : Obligations.LoadsAreChecked := by
  unfold Obligations.LoadsAreChecked
  refine ⟨fun s t port b hp => ⟨fun v ht hr ha => ⟨fun hv => load_opened hp ht hr (hv ▸ ha), fun hv => load_read hp ht hr (hv ▸ ha)⟩, fun hb ha hf => load_closed hp hb ha hf,
    fun hb ha => load_discarded hp hb ha, fun image k hb hf => flash_read hp image hb hf⟩, fun s t b plan hp hb => ?_⟩
  obtain ⟨u, hrun, hresult, hends⟩ := check_ended (t := t) (plan := plan) hp hb
  have hone : s.checkCode planFits plan b = 1 ↔ u.rd o2001_CHECK_RESULT b = 1 := by rw [hresult]; exact Nat.cast_eq_one.symm
  refine ⟨u, hrun, ?_, fun hshort => ?_, fun len hraw hlen hmin hmax _ hsig hmagic hver hhdr hchip hfw hword => ?_⟩
  · rwa [ne_eq, ← hone]
  · exact hresult.trans (congrArg Nat.cast (checkImage_misplaced (.inr (.inl hshort))))
  · exact hresult.trans (congrArg Nat.cast (checkImage_word hraw hlen hmin hmax hsig hmagic hver hhdr hchip hfw hword))

end Sys2Proof.Machine
end

section
/-! SUPPORT. The bytes of a coded picture, and its tools (R251, R277, R278). -/

namespace Sys2Proof.Machine
open Sys2Proof

theorem sumNat_eq_sum (l : List Nat) : sumNat l = l.sum := List.sum_eq_foldl.symm

/-! Shares. -/

/-- Shares rounded down fit what is shared. -/
theorem sum_shares_le (a total : Nat) (l : List Nat) : (l.map (fun n => a * n / total)).sum ≤ a * l.sum / total := by
  induction l with
  | nil => exact Nat.zero_le _
  | cons n l ih =>
    rw [List.map_cons, List.sum_cons, List.sum_cons, Nat.mul_add]
    exact (Nat.add_le_add_left ih _).trans (Nat.div_add_div_le_add_div)

/-- The shares of a picture's rectangles leave the bytes of its other NAL units. -/
theorem sum_shareBytes_le (p : PlanMint) : ((rectCtus p.fmt p.codec).map (shareBytes p)).sum ≤ auMaxBytes p - nonVclBytes := by
  have hshare : shareBytes p = fun n => if sumNat (rectCtus p.fmt p.codec) = 0 then 0 else (auMaxBytes p - nonVclBytes) * n / sumNat (rectCtus p.fmt p.codec) := rfl
  rw [hshare]
  by_cases h : sumNat (rectCtus p.fmt p.codec) = 0
  · simp [h]
  · simp only [if_neg h]
    refine (sum_shares_le _ _ _).trans ?_
    rw [← sumNat_eq_sum]
    exact (Nat.mul_div_cancel _ (Nat.pos_of_ne_zero h)).le

/-- A rectangle whose CTUs have 8 bytes each fits its share. -/
theorem rect_bytes_le {e : CodeEnv} (cs : List Ctu) (h : 8 * e.ctus ≤ e.share) : ceilDiv (e.rect cs).bits 8 ≤ e.share := by
  have hbits : (e.rect cs).bits ≤ 8 * e.share := run_bits_le e.ctus cs { qp := e.qp } (by
    show 0 + 64 * e.ctus ≤ 8 * e.share
    omega)
  show (if 8 = 0 then 0 else ((e.rect cs).bits + 8 - 1) / 8) ≤ e.share
  rw [if_neg (by decide)]
  omega

/-- A picture is coded rectangle by rectangle, each with its share. -/
theorem codePicture_rects (s : State) (ch : Nat) (p : PlanMint) (ld : Ladder) (pic : MintPic) (au : AuContent) : ∃ env : Nat × Nat → CodeEnv,
    (s.codePicture ch p ld pic au).2 = (rectCtus p.fmt p.codec).zipIdx.map (fun e => (env e).rect (au.rects.getD e.2 [])) ∧ ∀ e, (env e).ctus = e.1 ∧ (env e).share = shareBytes p e.1 := by
  unfold State.codePicture
  exact ⟨_, rfl, fun _ => ⟨rfl, rfl⟩⟩

/-- The rectangles of a picture fit their shares, whatever the content. -/
theorem codePicture_bytes (s : State) (ch : Nat) (p : PlanMint) (ld : Ladder) (pic : MintPic) (au : AuContent) (hshare : ∀ n ∈ rectCtus p.fmt p.codec, 8 * n ≤ shareBytes p n) :
    sumRects (fun r => ceilDiv r.bits 8) (s.codePicture ch p ld pic au).2 ≤ auMaxBytes p - nonVclBytes := by
  obtain ⟨env, hrects, henv⟩ := codePicture_rects s ch p ld pic au
  have hle : ∀ e ∈ (rectCtus p.fmt p.codec).zipIdx, ceilDiv ((env e).rect (au.rects.getD e.2 [])).bits 8 ≤ shareBytes p e.1 := fun e he => by
    obtain ⟨hctus, hbytes⟩ := henv e
    rw [← hbytes]
    exact rect_bytes_le _ (by rw [hctus, hbytes]; exact hshare e.1 (List.fst_mem_of_mem_zipIdx he))
  have hfst : (rectCtus p.fmt p.codec).zipIdx.map (fun e => shareBytes p e.1) = (rectCtus p.fmt p.codec).map (shareBytes p) := by
    rw [← List.zipIdx_map_fst 0 (rectCtus p.fmt p.codec), List.map_map, List.zipIdx_map_fst]
    rfl
  rw [hrects, sumRects, sumNat_eq_sum, List.map_map]
  exact (List.sum_le_sum hle).trans ((congrArg List.sum hfst).le.trans (sum_shareBytes_le p))

/-! Tools. -/

/-- A list of tools that the mints emit. -/
def emitted (l : List Tool) : Prop := ∀ x ∈ neverEmitted, x ∉ l

theorem emitted_of_all {l : List Tool} (h : l.all (fun x => !neverEmitted.contains x) = true) : emitted l := fun x hx hl =>
  absurd (List.all_eq_true.mp h x hl) (by simpa using hx)

theorem emitted_append {l m : List Tool} (hl : emitted l) (hm : emitted m) : emitted (l ++ m) := fun x hx h => (List.mem_append.mp h).elim (hl x hx) (hm x hx)

theorem emitted_ite {c : Prop} [Decidable c] {l m : List Tool} (hl : emitted l) (hm : emitted m) : emitted (if c then l else m) := by
  split
  · exact hl
  · exact hm

theorem emitted_nil : emitted [] := emitted_of_all rfl

theorem emitted_toolBit (x : LadderTier) (i : Nat) {l : List Tool} (hl : emitted l) : emitted (toolBit x i l) := emitted_ite hl emitted_nil

theorem emitted_tierTools (p : PlanMint) (intra : Bool) (x : LadderTier) : emitted (tierTools p intra x) := by
  have hsplit : emitted (if 0 < x.maxDepth then [Tool.partitions] else []) := emitted_ite (emitted_of_all rfl) emitted_nil
  have hmodes : emitted (if x.intraSet = 0 then [Tool.allIntra] else []) := emitted_ite (emitted_of_all rfl) emitted_nil
  have hfine : emitted (if x.intraSet = 0 then [Tool.mrl, .cclm] else []) := emitted_ite (emitted_of_all rfl) emitted_nil
  unfold tierTools
  extract_lets split modes fine inter
  have hinter : emitted inter := by
    refine emitted_ite emitted_nil (emitted_append (emitted_append (emitted_append (emitted_append (emitted_append (emitted_append (emitted_of_all rfl) ?_) ?_) ?_) ?_) ?_) ?_)
    iterate 5 exact emitted_toolBit x _ (emitted_of_all rfl)
    exact emitted_ite (emitted_toolBit x _ (emitted_of_all rfl)) emitted_nil
  exact emitted_ite (emitted_append hsplit hmodes) (emitted_append (emitted_append (emitted_append (emitted_append hsplit hmodes) hfine) (emitted_toolBit x _ (emitted_of_all rfl))) hinter)

theorem emitted_planTools (p : PlanMint) (intra : Bool) : emitted (planTools p intra) :=
  emitted_ite (emitted_append (emitted_append (emitted_of_all rfl) (emitted_ite (emitted_of_all rfl) emitted_nil)) (emitted_ite (emitted_of_all rfl) emitted_nil))
    (emitted_append (emitted_of_all rfl) (emitted_ite emitted_nil (emitted_of_all rfl)))

/-- No picture uses a tool that the mints never emit (R251). -/
theorem emitted_pictureTools (p : PlanMint) (ld : Ladder) (intra : Bool) (tiers : List Nat) : emitted (pictureTools p ld intra tiers) := by
  intro x hx h
  rcases List.mem_append.mp (List.mem_eraseDups.mp h) with h | h
  · exact emitted_planTools p intra x hx h
  · obtain ⟨l, hl, h⟩ := List.mem_flatten.mp h
    obtain ⟨t, -, rfl⟩ := List.mem_map.mp hl
    cases htier : ld.tiers[t]? with
    | none => simp [htier] at h
    | some y =>
      rw [htier] at h
      exact emitted_tierTools p intra y x hx h

end Sys2Proof.Machine
end

section
/-! SUPPORT. The hand-over of an access unit (R262, R264, R274, R289). -/

namespace Sys2Proof.Machine
open Sys2Proof

/-! What a coded picture leaves, in its parts. -/

/-- CTUs per tier of a picture. -/
def tierCtus (l : List CodeAcc) : List Nat := (List.range 8).map (fun t => sumRects (fun r => r.perTier.getD t 0) l)

/-- CTUs per tier in the objects of its channel. -/
def State.tiersNoted (s : State) (ch : Nat) (l : List CodeAcc) : State := (List.range 8).foldl (fun s t => s.wr (o5003_TIER0_CTUS + t) ch ((tierCtus l).getD t 0)) s

/-- The effort of a picture in the objects of its channel, and the picture counted (5003h). -/
def State.pictureCounted (s : State) (ch : Nat) (p : PlanMint) (l : List CodeAcc) : State :=
  (((s.tiersNoted ch l).wr o5003_FLOOR_GUARD_CTUS ch (sumRects (·.floor) l)).wr o5003_MAX_TIER ch (((List.range 8).filter (fun t => (tierCtus l).getD t 0 != 0)).getLastD 0)).addTo o5003_PICTURES_CODED ch
    (if fmtInterlaced p.fmt then 2 else 1)

/-- What befell the picture. -/
def State.pictureJudged (s : State) (ch : Nat) (pic : MintPic) (l : List CodeAcc) : State :=
  let s := if 0 < ((List.range 8).filter (fun t => (tierCtus l).getD t 0 != 0)).getLastD 0 then s.bump o5003_PICTURES_COARSENED ch else s
  let s := if 0 < sumRects (·.floor) l then (s.bump o5003_FLOOR_GUARD_PICTURES ch).raiseQuiet .ENC_EFFORT_FLOOR ch else s
  if pic.override ≠ INPUT_OVERRIDE.none then s.bump o5003_OVERRIDE_PICTURES ch else s

/-- The bytes of the picture in the objects of its channel (5101h). -/
def State.pictureSized (s : State) (ch bytes : Nat) : State := (s.wr o5101_LAST_AU_BYTES ch bytes).wr o5101_PEAK_AU_BYTES ch (max (s.rdN o5101_PEAK_AU_BYTES ch) bytes)

/-- Its QP, its guarded CTUs and its kind. -/
def State.pictureRated (s : State) (ch : Nat) (pic : MintPic) (l : List CodeAcc) : State :=
  let s := (s.wr o5101_LAST_QP_X100 ch (((l.map (·.qpSum)).foldl (· + ·) 0) * 100 / sumNat (tierCtus l))).wr o5101_BIT_GUARD_CTUS ch (sumRects (·.guard) l)
  let s := if 0 < sumRects (·.guard) l then (s.bump o5101_BIT_GUARD_PICTURES ch).raiseQuiet .ENC_BIT_GUARD ch else s
  if pic.rap then s.bump o5101_RAP_COUNT ch else s

/-- What the channel keeps of it. -/
def MintChan.coded (x : MintChan) (pic : MintPic) (qp : Int) (l : List CodeAcc) (bytes : Nat) : MintChan :=
  { x with lastQp := storePut natLt (if pic.rap then 1 else 0) (qp, bytes) x.lastQp, lastClocks := l.map (·.spent), missed := [], any := true }

theorem notePicture_eq (s : State) (ch : Nat) (p : PlanMint) (pic : MintPic) (qp : Int) (l : List CodeAcc) (bytes : Nat) :
    s.notePicture ch p pic qp l bytes =
      (PlanMint_mints p).foldl State.noteClocks
        (((((s.pictureCounted ch p l).pictureJudged ch pic l).pictureSized ch bytes).pictureRated ch pic l).setMint ch
          (((((s.pictureCounted ch p l).pictureJudged ch pic l).pictureSized ch bytes).pictureRated ch pic l).mint ch |>.coded pic qp l bytes)) := rfl

def judgeMarks : List Mark := [.obj o5003_PICTURES_COARSENED, .obj o5003_FLOOR_GUARD_PICTURES, .alarm .ENC_EFFORT_FLOOR, .obj o5003_OVERRIDE_PICTURES]
def rateMarks : List Mark := [.obj o5101_LAST_QP_X100, .obj o5101_BIT_GUARD_CTUS, .obj o5101_BIT_GUARD_PICTURES, .alarm .ENC_BIT_GUARD, .obj o5101_RAP_COUNT]
def clockMarks : List Mark := [.obj o5002_LAST_FRAME_CLOCKS]

namespace Blind

variable {M : List Mark} {α : Type} {f : State → α} (hf : Blind M f)
include hf

theorem pictureJudged (h : judgeMarks ⊆ M) (s : State) (ch : Nat) (pic : MintPic) (l : List CodeAcc) : f (s.pictureJudged ch pic l) = f s := by
  unfold State.pictureJudged
  extract_lets s1 s2
  have hs1 : f s1 = f s := (apply_ite f _ _ _).trans (ite_eq_right_iff.mpr fun _ => hf.bump (h (by decide)) _ _)
  have hs2 : f s2 = f s := (apply_ite f _ _ _).trans ((ite_eq_right_iff.mpr fun _ => (hf.raiseQuiet (h (by decide)) _ _).trans (hf.bump (h (by decide)) _ _)).trans hs1)
  exact (apply_ite f _ _ _).trans ((ite_eq_right_iff.mpr fun _ => hf.bump (h (by decide)) _ _).trans hs2)

theorem pictureRated (h : rateMarks ⊆ M) (s : State) (ch : Nat) (pic : MintPic) (l : List CodeAcc) : f (s.pictureRated ch pic l) = f s := by
  unfold State.pictureRated
  extract_lets s1 s2
  have hs1 : f s1 = f s := (hf.wr (h (by decide)) _ _ _).trans (hf.wr (h (by decide)) _ _ _)
  have hs2 : f s2 = f s := (apply_ite f _ _ _).trans ((ite_eq_right_iff.mpr fun _ => (hf.raiseQuiet (h (by decide)) _ _).trans (hf.bump (h (by decide)) _ _)).trans hs1)
  exact (apply_ite f _ _ _).trans ((ite_eq_right_iff.mpr fun _ => hf.bump (h (by decide)) _ _).trans hs2)

theorem noteClocks (h : clockMarks ⊆ M) (l : List Nat) (s : State) : f (l.foldl State.noteClocks s) = f s := foldl_blind (fun _ _ => hf.wr (h (by decide)) _ _ _) _ s

end Blind

/-- The counting of a picture. -/
theorem pictureCounted_rd (s : State) (ch : Nat) (p : PlanMint) (l : List CodeAcc) :
    (s.pictureCounted ch p l).rd o5003_PICTURES_CODED ch = (s.rd o5003_PICTURES_CODED ch + (if fmtInterlaced p.fmt then 2 else 1)) % objModulus o5003_PICTURES_CODED := by
  have htiers : (s.tiersNoted ch l).rd o5003_PICTURES_CODED ch = s.rd o5003_PICTURES_CODED ch :=
    foldl_blind_mem (f := (·.rd o5003_PICTURES_CODED ch)) (fun t ht s => s.rd_wr_obj _ fun e => by
      rw [List.mem_range] at ht
      simp only [o5003_TIER0_CTUS, o5003_PICTURES_CODED] at e
      omega) s
  unfold State.pictureCounted State.addTo
  rw [State.rd_wr_same, State.rd_wr_obj _ _ (by decide), State.rd_wr_obj _ _ (by decide), htiers]
  split <;> rfl

theorem tiersNoted_enc (s : State) (ch : Nat) (l : List CodeAcc) : (s.tiersNoted ch l).enc = s.enc := by
  unfold State.tiersNoted
  exact foldl_blind (fun s t => s.wr_enc _ _ _) (List.range 8) s

theorem pictureCounted_enc (s : State) (ch : Nat) (p : PlanMint) (l : List CodeAcc) : (s.pictureCounted ch p l).enc = s.enc := by
  unfold State.pictureCounted State.addTo
  rw [State.wr_enc, State.wr_enc, State.wr_enc, tiersNoted_enc]

/-- What a coded picture leaves of its channel. -/
theorem notePicture_spec (s : State) (ch : Nat) (p : PlanMint) (pic : MintPic) (qp : Int) (l : List CodeAcc) (bytes : Nat) :
    (s.notePicture ch p pic qp l bytes).rd o5003_PICTURES_CODED ch = (s.rd o5003_PICTURES_CODED ch + (if fmtInterlaced p.fmt then 2 else 1)) % objModulus o5003_PICTURES_CODED ∧
      (s.notePicture ch p pic qp l bytes).rd o5101_LAST_AU_BYTES ch = bytes ∧ (s.notePicture ch p pic qp l bytes).mint ch = (s.mint ch).coded pic qp l bytes := by
  rw [notePicture_eq]
  have hmint : ((((s.pictureCounted ch p l).pictureJudged ch pic l).pictureSized ch bytes).pictureRated ch pic l).mint ch = s.mint ch := by
    have henc : ((((s.pictureCounted ch p l).pictureJudged ch pic l).pictureSized ch bytes).pictureRated ch pic l).enc = s.enc :=
      ((blind_enc (M := rateMarks) (by decide)).pictureRated (List.Subset.refl _) _ ch pic l).trans
        (((blind_enc (M := judgeMarks) (by decide)).pictureJudged (List.Subset.refl _) _ ch pic l).trans (pictureCounted_enc s ch p l))
    exact congrArg (fun e : Enc => (storeGet ch e.chans).getD {}) henc
  refine ⟨?_, ?_, ?_⟩
  · refine ((blind_rd (M := clockMarks) (by decide) ch).noteClocks (List.Subset.refl _) _ _).trans
      (((blind_rd (M := rateMarks) (by decide) ch).pictureRated (List.Subset.refl _) _ ch pic l).trans ((State.rd_wr_obj _ _ (by decide)).trans ((State.rd_wr_obj _ _ (by decide)).trans ?_)))
    exact ((blind_rd (M := judgeMarks) (by decide) ch).pictureJudged (List.Subset.refl _) _ ch pic l).trans (pictureCounted_rd s ch p l)
  · refine ((blind_rd (M := clockMarks) (by decide) ch).noteClocks (List.Subset.refl _) _ _).trans
      (((blind_rd (M := rateMarks) (by decide) ch).pictureRated (List.Subset.refl _) _ ch pic l).trans ((State.rd_wr_obj _ _ (by decide)).trans (State.rd_wr_same ..)))
  · refine (congrArg (fun e : Enc => (storeGet ch e.chans).getD {}) ((blind_enc (M := clockMarks) (by decide)).noteClocks (List.Subset.refl _) _ _)).trans ((State.mint_setMint _ _ _).trans ?_)
    rw [hmint]

end Sys2Proof.Machine
end

section
/-! SUPPORT. The hand-over of an access unit, from its picture to its slot (R262, R264, R274, R275, R289). -/

namespace Sys2Proof.Machine
open Sys2Proof

/-- The ancillary data dropped, and the tables of the slot. -/
def State.ancNoted (s : State) (ch dropped lost : Nat) : State :=
  if 0 < lost then (s.addTo o5101_ANC_DROPPED ch dropped).raiseQuiet .ENC_ANC_OVERFLOW ch else s.addTo o5101_ANC_DROPPED ch dropped

/-- A channel that starts runs with its first access unit. -/
def State.encRuns (s : State) (ch : Nat) : State := if s.rd o5000_ENC_STATE ch = ENC_STATE.starting then s.wr o5000_ENC_STATE ch ENC_STATE.running else s

/-- The discontinuity that the next stream packets mark. -/
def State.discontMarked (s : State) (ch : Nat) : State := if (s.mint ch).discont then (s.setMint ch { s.mint ch with discont := false }).emit (.discontinuity ch) else s

/-- The slot of an access unit joins its channel. -/
def State.slotAdded (s : State) (ch : Nat) (slot : TsSlot) (old : List TsSlot) (p : PlanMint) (used : List Nat) : State :=
  s.setMint ch { s.mint ch with slots := ({ slot with counters := (s.mint ch).counters, tables := s.programMap ch p } :: old).take 3
                                counters := ((s.mint ch).counters.zip used).map (fun e => (e.1 + e.2) % 16) }

/-- The bytes of an access unit. -/
def State.auBytes (s : State) (ch : Nat) (pic : MintPic) (au : AuContent) : Nat :=
  min nonVclBytes au.nonVcl + sumRects (fun r => ceilDiv r.bits 8) (s.codePicture ch pic.plan pic.ladder pic au).2

/-- What an access unit is made of. -/
def State.auSyntaxOf (s : State) (ch : Nat) (pic : MintPic) (au : AuContent) : AuSyntax :=
  auSyntax pic.plan pic.ladder pic.rap pic.place (usedTiers (s.codePicture ch pic.plan pic.ladder pic au).2) (captionBytes pic.anc) (pic.anc.any isTimecode)

/-- The picture taken and coded. -/
def State.auCoded (s : State) (ch : Nat) (pic : MintPic) (rest : List MintPic) (dues : List (Nat × Nat)) (ahead : Bool) (au : AuContent) : State :=
  (s.setMint ch { s.mint ch with pics := rest, dues := dues, ahead := ahead }).notePicture ch pic.plan pic (s.codePicture ch pic.plan pic.ladder pic au).1
    (s.codePicture ch pic.plan pic.ladder pic au).2 (s.auBytes ch pic au)

/-- What follows the coding: ancillary data, tables and slot, then the access unit itself. -/
def State.handedOver (s : State) (ch dropped lost : Nat) (p : PlanMint) (slot : TsSlot) (old : List TsSlot) (used : List Nat) (out : Out) : State :=
  ((((((s.ancNoted ch dropped lost).notePmt ch p).slotAdded ch slot old p used).encRuns ch).discontMarked ch)).emit out

theorem handover_eq {s : State} {ch due pcr : Nat} {dues : List (Nat × Nat)} {p : PlanMint} {ld : Ladder} {pic : MintPic} {rest : List MintPic} {ahead : Bool} (au : AuContent)
    (hplan : s.mintPlan ch = some (p, ld)) (hdues : (s.mint ch).dues = (due, pcr) :: dues) (htake : takePic (p.mode == 2) (s.mint ch).ahead (s.mint ch).pics = some (pic, rest, ahead))
    (hdue : due ≤ s.now) : ∃ dropped lost pk used,
    s.handover ch au = (s.auCoded ch pic rest dues ahead au).handedOver ch dropped lost pic.plan
      (newSlot pic.plan (due + 126000) (s.auBytes ch pic au) pic.samples pk (slotClock pic.plan pcr pic.pcr pic.lead (isEntry pic.rap pic.place))) (s.mint ch).slots used
      (.au ch pic.fcnt (s.auBytes ch pic au) pic.rap pic.override (s.auSyntaxOf ch pic au)) := by
  unfold State.handover
  rw [hplan]
  dsimp only
  rw [hdues, htake]
  dsimp only
  rw [if_neg (Nat.not_lt.mpr hdue)]
  exact ⟨_, _, _, _, rfl⟩

/-! What the steps after the coding leave. -/

/-- What a channel keeps of an access unit beside its tables and its discontinuity. -/
def State.mintView (s : State) (ch : Nat) : List TsSlot × List (Nat × Nat) × List MintPic × Bool := ((s.mint ch).slots, (s.mint ch).dues, (s.mint ch).pics, (s.mint ch).any)

theorem ancNoted_mint (s : State) (ch dropped lost : Nat) : (s.ancNoted ch dropped lost).mint ch = s.mint ch := by
  have henc : (s.ancNoted ch dropped lost).enc = s.enc :=
    (apply_ite State.enc _ _ _).trans (ite_eq_right_iff.mpr fun _ => (blind_enc (M := [.alarm .ENC_ANC_OVERFLOW]) (by decide)).raiseQuiet (.head _) (s.addTo o5101_ANC_DROPPED ch dropped) _)
  unfold State.mint
  rw [henc]

theorem notePmt_mintView (s : State) (ch : Nat) (p : PlanMint) : (s.notePmt ch p).mintView ch = s.mintView ch := by
  have hset : ∀ c, (s.setMint ch { s.mint ch with pmt := c }).mintView ch = s.mintView ch := fun c => by
    unfold State.mintView
    rw [State.mint_setMint]
  unfold State.notePmt
  dsimp only
  split
  · split
    · exact hset _
    · exact hset _
  · exact hset _

theorem encRuns_mint (s : State) (ch : Nat) : (s.encRuns ch).mint ch = s.mint ch := by
  unfold State.encRuns
  split <;> rfl

theorem discontMarked_mintView (s : State) (ch : Nat) : (s.discontMarked ch).mintView ch = s.mintView ch := by
  unfold State.discontMarked
  split
  · show (s.setMint ch { s.mint ch with discont := false }).mintView ch = s.mintView ch
    unfold State.mintView
    rw [State.mint_setMint]
  · rfl

def handoverMarks : List Mark := [.obj o5101_ANC_DROPPED, .alarm .ENC_ANC_OVERFLOW, .enc, .obj o5101_PMT_VERSION, .obj o5000_ENC_STATE, .out]

namespace Blind

variable {α : Type} {f : State → α} (hf : Blind handoverMarks f)
include hf

theorem ancNoted (s : State) (ch dropped lost : Nat) : f (s.ancNoted ch dropped lost) = f s :=
  (apply_ite f _ _ _).trans ((ite_eq_right_iff.mpr fun _ => hf.raiseQuiet (by decide) _ _).trans (hf.addTo (by decide) s ch dropped))

theorem setMint (s : State) (ch : Nat) (x : MintChan) : f (s.setMint ch x) = f s := hf .enc (by decide) s _ (.enc ..)

theorem notePmt (s : State) (ch : Nat) (p : PlanMint) : f (s.notePmt ch p) = f s := by
  unfold State.notePmt
  dsimp only
  split
  · split
    · exact hf.setMint s ch _
    · exact (hf.wr (by decide) _ _ _).trans (hf.setMint s ch _)
  · exact hf.setMint s ch _

theorem encRuns (s : State) (ch : Nat) : f (s.encRuns ch) = f s := (apply_ite f _ _ _).trans (ite_eq_right_iff.mpr fun _ => hf.wr (by decide) _ _ _)

theorem discontMarked (s : State) (ch : Nat) : f (s.discontMarked ch) = f s := by
  unfold State.discontMarked
  split
  · exact (hf .out (by decide) (s.setMint ch { s.mint ch with discont := false }) _ (.out ..)).trans (hf.setMint s ch _)
  · rfl

end Blind

section
variable (s : State) (ch dropped lost : Nat) (p : PlanMint) (slot : TsSlot) (old : List TsSlot) (used : List Nat) (out : Out)

theorem handedOver_rd {o : Nat} (h : .obj o ∉ handoverMarks) (ho : o ∉ alarmSideObjects) : (s.handedOver ch dropped lost p slot old used out).rd o ch = s.rd o ch := by
  have hf : Blind handoverMarks (·.rd o ch) := blind_rd h ch (.inr ho)
  exact (hf.discontMarked _ ch).trans ((hf.encRuns _ ch).trans ((hf.setMint _ ch _).trans ((hf.notePmt _ ch p).trans (hf.ancNoted s ch dropped lost))))

theorem handedOver_mint : ∃ x, (s.handedOver ch dropped lost p slot old used out).mintView ch = (({ slot with counters := x, tables := ((s.ancNoted ch dropped lost).notePmt ch p).programMap ch p } :: old).take 3,
    (s.mint ch).dues, (s.mint ch).pics, (s.mint ch).any) := by
  have hbefore : ((s.ancNoted ch dropped lost).notePmt ch p).mintView ch = s.mintView ch := (notePmt_mintView _ ch p).trans (by unfold State.mintView; rw [ancNoted_mint])
  unfold State.handedOver
  generalize ((s.ancNoted ch dropped lost).notePmt ch p) = y at hbefore
  obtain ⟨-, hdues, hpics, hany⟩ : (y.mint ch).slots = (s.mint ch).slots ∧ (y.mint ch).dues = (s.mint ch).dues ∧ (y.mint ch).pics = (s.mint ch).pics ∧ (y.mint ch).any = (s.mint ch).any := by
    simpa [State.mintView] using hbefore
  refine ⟨(y.mint ch).counters, (discontMarked_mintView _ ch).trans ?_⟩
  unfold State.mintView State.slotAdded
  rw [encRuns_mint, State.mint_setMint]
  simp only [hdues, hpics, hany]

end

/-- What the hand-over of an access unit leaves of its channel. -/
theorem handover_spec {s : State} {ch due pcr : Nat} {dues : List (Nat × Nat)} {p : PlanMint} {ld : Ladder} {pic : MintPic} {rest : List MintPic} {ahead : Bool} (au : AuContent)
    (hplan : s.mintPlan ch = some (p, ld)) (hdues : (s.mint ch).dues = (due, pcr) :: dues) (htake : takePic (p.mode == 2) (s.mint ch).ahead (s.mint ch).pics = some (pic, rest, ahead))
    (hdue : due ≤ s.now) :
    .au ch pic.fcnt (s.auBytes ch pic au) pic.rap pic.override (s.auSyntaxOf ch pic au) ∈ (s.handover ch au).out ∧
      ((s.handover ch au).mint ch).slots.head?.map (·.clock) = some (slotClock pic.plan pcr pic.pcr pic.lead (isEntry pic.rap pic.place)) ∧
      (s.handover ch au).rd o5101_LAST_AU_BYTES ch = s.auBytes ch pic au ∧
      (s.handover ch au).rd o5003_PICTURES_CODED ch = (s.rd o5003_PICTURES_CODED ch + (if fmtInterlaced pic.plan.fmt then 2 else 1)) % objModulus o5003_PICTURES_CODED ∧
      ((s.handover ch au).mint ch).dues = dues ∧ ((s.handover ch au).mint ch).pics = rest ∧ ((s.handover ch au).mint ch).any = true := by
  obtain ⟨dropped, lost, pk, used, he⟩ := handover_eq au hplan hdues htake hdue
  rw [he]
  obtain ⟨hcoded, hbytes, hmint⟩ := notePicture_spec (s.setMint ch { s.mint ch with pics := rest, dues := dues, ahead := ahead }) ch pic.plan pic (s.codePicture ch pic.plan pic.ladder pic au).1
    (s.codePicture ch pic.plan pic.ladder pic au).2 (s.auBytes ch pic au)
  rw [State.mint_setMint] at hmint
  change (s.auCoded ch pic rest dues ahead au).rd o5003_PICTURES_CODED ch = _ at hcoded
  change (s.auCoded ch pic rest dues ahead au).rd o5101_LAST_AU_BYTES ch = _ at hbytes
  change (s.auCoded ch pic rest dues ahead au).mint ch = _ at hmint
  generalize s.auCoded ch pic rest dues ahead au = x at hcoded hbytes hmint
  generalize hout : Out.au ch pic.fcnt (s.auBytes ch pic au) pic.rap pic.override (s.auSyntaxOf ch pic au) = out
  obtain ⟨counters, hview⟩ := handedOver_mint x ch dropped lost pic.plan
    (newSlot pic.plan (due + 126000) (s.auBytes ch pic au) pic.samples pk (slotClock pic.plan pcr pic.pcr pic.lead (isEntry pic.rap pic.place))) (s.mint ch).slots used out
  unfold State.mintView at hview
  rw [hmint] at hview
  obtain ⟨hslots, hrest⟩ := Prod.mk.inj hview
  obtain ⟨hd, hrest⟩ := Prod.mk.inj hrest
  obtain ⟨hp, ha⟩ := Prod.mk.inj hrest
  refine ⟨List.mem_append_right _ (List.mem_singleton_self _), ?_, (handedOver_rd x ch _ _ _ _ _ _ _ (by decide) (by decide)).trans hbytes,
    (handedOver_rd x ch _ _ _ _ _ _ _ (by decide) (by decide)).trans hcoded, hd, hp, ha⟩
  rw [hslots]
  rfl

/-- Settles O27: shares rounded down fit what the non-VCL units leave, each rectangle fits its share by its bit guard, and the slot's clocks are those of its picture. The wrap of the
clocks is the model's reading of ISO/IEC 13818-1 (log row 163); the layout of a picture is the one planned when its frame was read (log row 74). -/
theorem accessUnitsFitTheirSlots : Obligations.AccessUnitsFitTheirSlots := by
  unfold Obligations.AccessUnitsFitTheirSlots
  intro s t ch due pcr dues au p ld pic rest ahead hp hplan hdues htake hdue hmax hshare
  obtain ⟨hout, hclock, hbytes, hcoded, hd, hpics, hany⟩ := handover_spec (s := s.begin t) au hplan hdues htake hdue
  have hfits : (s.begin t).auBytes ch pic au ≤ auMaxBytes pic.plan := by
    have hrects := codePicture_bytes (s.begin t) ch pic.plan pic.ladder pic au hshare
    have hother := min_le_left nonVclBytes au.nonVcl
    unfold State.auBytes
    rw [show nonVclBytes = 2048 from rfl] at *
    omega
  have hrun : exec (.accessUnitHandover t ch au []) s = .next ((s.begin t).finish ((s.begin t).handover ch au)) := run_work (t := t) (f := fun s => s.handover ch au) hp rfl
  generalize (s.begin t).handover ch au = y at hout hclock hbytes hcoded hd hpics hany hrun
  refine ⟨_, _, _, slotClock pic.plan pcr pic.pcr pic.lead (isEntry pic.rap pic.place), hrun, hout, emitted_pictureTools _ _ _ _, hclock, rfl, rfl, fun hmode => if_neg hmode, fun hrap => ?_, hfits, hbytes, hcoded,
    hd, hpics, hany⟩
  show isEntry pic.rap pic.place = true
  rw [hrap]
  rfl

end Sys2Proof.Machine
end

section
/-! SUPPORT. A cadence cycle at which an unused domain takes the frame numbers of PTP0 (R63, R72, R83, R116). -/

namespace Sys2Proof.Machine
open Sys2Proof

/-- A module in which lane 0 is 'up', carries LREC0, and has a write of its mode waiting for the boundary; domain 0, which no bank serves, is locked to LREC0, and PTP0 is the next best
candidate. -/
def lrecWaits : State :=
  { State.reset.put [(o3100_LANE_STATE, 0, LANE_STATE.up), (o2200_SOURCE_LANE, 5, 0), (o2200_CAND_STATE, 4, CAND_STATE.qualified), (o2200_CAND_STATE, 5, CAND_STATE.qualified),
      (o2100_SELECTED_REF, 0, 5), (o2100_DPLL_STATE, 0, DPLL_STATE.locked)] with
    lanes := [(0, { pendMode := true })], cands := [(4, { present := true }), (5, { present := true })], tds := [(0, { rate := 8, ranks := [0, 0, 0, 0, 2, 1, 0, 0] })], clk := 2 ^ 70 }

/-- FCNT of a domain after a command. -/
def fcntAfter (i : Instr) (s : State) (d : Nat) : Option Nat :=
  match exec i s with
  | .next u => some (u.fcnt d)
  | _ => none

/-- The write of the mode takes lane 0 out of 'up', LREC0 is lost, domain 0 selects PTP0 and aligns to its epoch. -/
theorem lrecWaits_realigns : fcntAfter (.audioCadenceCycle 5 [] []) lrecWaits 0 = some 13743 := by
  decide +kernel

/-- Refutes O5: a cadence cycle may change FCNT. At the boundary a write of LANE_MODE that waits takes a lane out of 'up'; the reference on that lane is lost, and a domain that no bank
serves may then select PTP0 and take its frame number from the epoch. The other clauses of the cadence cycle rest on log row 35. -/
theorem not_ticksCountFramesAndCycles : ¬ Obligations.TicksCountFramesAndCycles := by
  unfold Obligations.TicksCountFramesAndCycles
  intro ⟨_, _, _, h⟩
  obtain ⟨u, hrun, -, -, hsame⟩ := (h lrecWaits 5 0 [] [] {} rfl rfl).2.2 (by decide)
  have hafter := lrecWaits_realigns
  unfold fcntAfter at hafter
  rw [hrun] at hafter
  have hbefore : lrecWaits.fcnt 0 = 0 := by decide
  exact absurd ((hsame 0).trans hbefore) (by rw [Option.some.inj hafter]; decide)

end Sys2Proof.Machine
end

section
/-! SUPPORT. Head commits, and the limits of monitors and of the sealed layer (R328, R344, R350). -/

namespace Sys2Proof.Machine
open Sys2Proof

/-! The codes of a head commit. -/

theorem checkTile_code (plan : Plan) (h : PlanHead) (p : PlanTile) (x : TileCfg) : checkTile plan h p x = 0 ∨ (0x1401 ≤ checkTile plan h p x ∧ checkTile plan h p x ≤ 0x1405) := by
  unfold checkTile
  extract_lets w ht
  split
  split_ifs <;> simp

/-- A head commit that fails has a code of R344. -/
theorem checkHead_code {s : State} {v k i : Nat} (h : s.checkHead v = (k, i, none)) : 0x1401 ≤ k ∧ k ≤ 0x1405 := by
  have hplan : ∀ {i : Nat}, ((0x1404, 255, none) : Nat × Nat × Option (Nat × List TileCfg × Nat)) = (k, i, none) → 0x1401 ≤ k ∧ k ≤ 0x1405 := fun he => by
    rw [← (Prod.mk.inj he).1]
    decide
  unfold State.checkHead at h
  split at h
  · exact hplan h
  · extract_lets f plan at h
    split at h
    · exact hplan h
    · split at h
      next hd _ t k' hfind =>
        obtain ⟨rfl, -⟩ := Prod.mk.inj h
        have hne : k' ≠ 0 := by simpa using List.find?_some hfind
        obtain ⟨p, -, he⟩ := List.mem_map.mp (List.mem_of_find?_eq_some hfind)
        obtain ⟨-, rfl⟩ := Prod.mk.inj he
        exact (checkTile_code _ _ _ _).resolve_left hne
      · simp at h

theorem noteRefusal_head {s : State} {r k : Nat} (h : k < 0x1601) : s.noteRefusal o6220_HEAD_COMMIT r k = s := by
  unfold State.noteRefusal
  rw [if_neg (fun hn => absurd hn.1 (by decide)), if_neg (by omega)]

section
variable {s : State} {t port r : Nat} (hp : s.powered = true) (hlatch : (s.begin t).latchHeads = s.begin t) (ha : s.admits port o6220_HEAD_COMMIT r (.int HEAD_COMMIT.commit) = true)
include hp hlatch ha

theorem head_commits {y : Nat × List TileCfg × Nat} (hy : (s.begin t).checkHead r = (0, 255, some y)) :
    ∃ u, exec (.headCommit t port r) s = .next u ∧ u.last = ⟨0, none⟩ ∧ (u.head r).pend = (s.head r).pend ++ [y] ∧ (u.head r).tiles = (s.head r).tiles ∧ u.rd o6220_HEAD_RESULT r = 0 := by
  have hk : ∀ c : Ctx, c.port = port → writeHeadCommit c r (.int HEAD_COMMIT.commit) (s.begin t) =
      (stOK, (((s.begin t).setHead r { s.head r with pend := (s.head r).pend ++ [y] }).wr o6220_HEAD_RESULT r 0).wr o6220_HEAD_ERROR_TILE r 255) := fun c _ => by
    unfold writeHeadCommit onInt
    dsimp only
    rw [hlatch, hy]
    rfl
  obtain ⟨e, hrun, hend⟩ := run_accepted_row (t := t) (by decide) hp ha hk rfl
  have hhead := State.head_setHead (s.begin t) r { s.head r with pend := (s.head r).pend ++ [y] }
  refine ⟨_, hrun, hend.last, (congrArg Head.pend hhead).trans rfl, (congrArg Head.tiles hhead).trans rfl, (hend.rd _ _ (by decide)).trans ((State.rd_wr_obj _ _ (by decide)).trans (State.rd_wr_same ..))⟩

theorem head_refused {k i : Nat} (hne : k ≠ 0) (hy : (s.begin t).checkHead r = (k, i, none)) :
    ∃ u, exec (.headCommit t port r) s = .next u ∧ u.last = ⟨k, none⟩ ∧ u.rd o6220_HEAD_RESULT r = k ∧ u.rd o6220_HEAD_ERROR_TILE r = i ∧ u.works = s.works := by
  have hcode := checkHead_code hy
  obtain ⟨x, hctl, hworks, hmem, horders, hk⟩ : ∃ x : State, x.ctl = s.ctl ∧ x.works = s.works ∧ x.mem = s.mem ∧ x.orders = [] ∧ ∀ c : Ctx, c.port = port →
      writeHeadCommit c r (.int HEAD_COMMIT.commit) (s.begin t) = (k, (x.wr o6220_HEAD_RESULT r k).wr o6220_HEAD_ERROR_TILE r i) := by
    refine ⟨if k = 0x1403 then (s.begin t).wr o6221_TILE_REFRESH (tileRow r i) ((((s.begin t).head r).tiles.getD i {}).refresh) else s.begin t, ?_, ?_, ?_, ?_, fun c _ => ?_⟩
    · split <;> rfl
    · split <;> rfl
    · split <;> rfl
    · split <;> rfl
    · unfold writeHeadCommit onInt
      dsimp only
      rw [hlatch, hy]
  have hrun := run_refused_to (t := t) (by decide) hp ha hk hne (congrArg Ctl.endAfter hctl) (noteRefusal_head (by omega))
  refine ⟨_, hrun, rfl, (refused_rd ..).trans ((State.rd_wr_obj _ _ (by decide)).trans (State.rd_wr_same ..)), (refused_rd ..).trans (State.rd_wr_same ..), ?_⟩
  exact (finish_works (u := ((x.wr o6220_HEAD_RESULT r k).wr o6220_HEAD_ERROR_TILE r i).answer k) horders hmem).trans hworks

end

/-! The limits of monitors (R350). -/

theorem monSeverity_calm (r : Nat) : monSeverity r ≠ 1 := by
  unfold monSeverity
  split <;> decide

section
variable {s : State} {t r : Nat} (hp : s.powered = true)
include hp

/-- A limit that is not reached leaves objects and alarms. -/
theorem run_unreached {f : State → State} (hf : f (s.begin t) = s.begin t) : ∃ u, s.run t f = .next u ∧ u.regs = s.regs ∧ u.alm = s.alm := ⟨_, run_work hp hf, rfl, rfl⟩

/-- A limit that is reached raises its alarm and is counted. -/
theorem run_reached {f : State → State} {a : Alarm} {o subsys : Nat} {data : Bytes} (hf : f (s.begin t) = ((s.begin t).raiseWith a r (monSeverity r) subsys data).bump o r)
    (ho : o ∉ alarmSideObjects) : ∃ u, s.run t f = .next u ∧ u.stands a r ∧ u.rd o r = (s.rd o r + 1) % objModulus o := by
  refine ⟨_, run_work hp hf, (finish_stands ..).mpr ((stands_congr (s := (s.begin t).raiseWith a r (monSeverity r) subsys data) rfl a r).mpr ((stands_raiseWith _ _ _ _ _ _ _ _).mpr (.inr ⟨rfl, rfl⟩))), ?_⟩
  refine (State.finish_rd _ _ _ _).trans ((rd_bump_same _ _ _).trans ?_)
  rw [(blind_rd (M := [.alarm a]) (by simp) r (.inr ho)).raiseWith (.head _) (s.begin t) r (fun e => absurd e (monSeverity_calm r)) subsys data]
  rfl

theorem freeze_limit : let reached := runReached (s.td (s.destDomain r)).rate (s.rdN o6210_FREEZE_RUN_FRAMES r) (s.rdN o6211_FREEZE_LIMIT_MS 0)
    (s.rd o6210_MON_STATE r = MON_STATE.frozen → reached = true → s.instActive .MON_FREEZE r = false → ∃ u, exec (.monFreezeLimit t r) s = .next u ∧ u.stands .MON_FREEZE r ∧
      u.rd o6210_FREEZE_EVENTS r = (s.rd o6210_FREEZE_EVENTS r + 1) % objModulus o6210_FREEZE_EVENTS) ∧
    (reached = false ∨ s.instActive .MON_FREEZE r = true → ∃ u, exec (.monFreezeLimit t r) s = .next u ∧ u.regs = s.regs ∧ u.alm = s.alm) := by
  refine ⟨fun hst hr hi => run_reached (f := (·.monFreeze r)) hp (if_pos ⟨hst, hr, hi⟩) (by decide), fun h => run_unreached (f := (·.monFreeze r)) hp (if_neg fun ⟨_, hr, hi⟩ => ?_)⟩
  exact h.elim (fun hn => Bool.false_ne_true (hn.symm.trans hr)) (fun hn => Bool.false_ne_true (hi.symm.trans hn))

theorem black_limit : let reached := runReached (s.td (s.destDomain r)).rate (s.rdN o6210_BLACK_RUN_FRAMES r) (s.rdN o6211_BLACK_LIMIT_MS 0)
    (s.rd o6210_MON_STATE r = MON_STATE.black → reached = true → s.instActive .MON_BLACK r = false → ∃ u, exec (.monBlackLimit t r) s = .next u ∧ u.stands .MON_BLACK r ∧
      u.rd o6210_BLACK_EVENTS r = (s.rd o6210_BLACK_EVENTS r + 1) % objModulus o6210_BLACK_EVENTS) ∧
    (reached = false ∨ s.instActive .MON_BLACK r = true → ∃ u, exec (.monBlackLimit t r) s = .next u ∧ u.regs = s.regs ∧ u.alm = s.alm) := by
  refine ⟨fun hst hr hi => run_reached (f := (·.monBlack r)) hp (if_pos ⟨hst, hr, hi⟩) (by decide), fun h => run_unreached (f := (·.monBlack r)) hp (if_neg fun ⟨_, hr, hi⟩ => ?_)⟩
  exact h.elim (fun hn => Bool.false_ne_true (hn.symm.trans hr)) (fun hn => Bool.false_ne_true (hi.symm.trans hn))

/-! The limits of the sealed layer (R328). -/

/-- A limit of the seal that is reached raises its alarm. -/
theorem run_sealed {f : State → State} {a : Alarm} (hf : f (s.begin t) = (s.begin t).raise a r) : ∃ u, s.run t f = .next u ∧ u.stands a r :=
  ⟨_, run_work hp hf, (finish_stands ..).mpr (stands_raise_same _ _ _)⟩

variable (hcomps : (s.begin t).compsPlanned.filter (s.begin t).latchDue = [])
include hcomps

theorem seal_limits (hseal : s.rdN o6000_SEALED_LAYER r ≠ 255) :
    (s.rd o6004_SEAL_LIMIT r ≤ (s.comp r).excused → ∃ u, exec (.sealExcusedLimit t r) s = .next u ∧ u.stands .COMP_SEAL_MISMATCH r) ∧
      ((s.comp r).excused < s.rd o6004_SEAL_LIMIT r → ∃ u, exec (.sealExcusedLimit t r) s = .next u ∧ u.regs = s.regs ∧ u.alm = s.alm) ∧
      (s.rd o6004_SEAL_LIMIT r ≤ s.rd o6003_CONSECUTIVE_NOT_READY (layerRow r (s.rdN o6000_SEALED_LAYER r)) → ∃ u, exec (.sealNotReadyLimit t r) s = .next u ∧ u.stands .COMP_SEAL_NOT_READY r) ∧
      (s.rd o6003_CONSECUTIVE_NOT_READY (layerRow r (s.rdN o6000_SEALED_LAYER r)) < s.rd o6004_SEAL_LIMIT r → ∃ u, exec (.sealNotReadyLimit t r) s = .next u ∧ u.regs = s.regs ∧ u.alm = s.alm) := by
  have hlatch : (s.begin t).latchComps = s.begin t := if_pos hcomps
  refine ⟨fun h => run_sealed (f := fun s => s.latchComps.sealExcused r) hp ?_, fun h => run_unreached (f := fun s => s.latchComps.sealExcused r) hp ?_,
    fun h => run_sealed (f := fun s => s.latchComps.sealNotReady r) hp ?_, fun h => run_unreached (f := fun s => s.latchComps.sealNotReady r) hp ?_⟩
  · rw [hlatch]
    exact if_pos ⟨hseal, h⟩
  · rw [hlatch]
    exact if_neg fun ⟨_, hn⟩ => absurd hn (not_le.mpr h)
  · rw [hlatch]
    exact if_pos ⟨hseal, h⟩
  · rw [hlatch]
    exact if_neg fun ⟨_, hn⟩ => absurd hn (not_le.mpr h)

end

/-- Settles O32, by the conditions of each limit. -/
theorem limitsRaiseTheirAlarms : Obligations.LimitsRaiseTheirAlarms := by
  unfold Obligations.LimitsRaiseTheirAlarms
  exact fun s t port r hp hheads hcomps => ⟨fun ha => ⟨fun y hy => head_commits hp hheads ha hy, fun k i hne hy => head_refused hp hheads ha hne hy⟩, freeze_limit hp, black_limit hp, seal_limits hp hcomps⟩

end Sys2Proof.Machine
end

section
/-! SUPPORT. Surfaces are created, loaded, checked and retired (R306-R312; the model's own choices are log entries 83, 84 and 86). -/

namespace Sys2Proof.Machine
open Sys2Proof

/-- An admitted write names a row that exists (R387). -/
theorem admits_rowExists {s : State} {port o r : Nat} {v : Val} (ha : s.admits port o r v = true) : rowExists o r = true := by
  have hk : s.checkWrite (s.ctxOf port) o r (some v) = stOK := by
    simp only [State.admits, Bool.and_eq_true, beq_iff_eq] at ha
    exact ha.1.1.1.1
  by_contra hn
  unfold State.checkWrite at hk
  split at hk
  · cases hk
  · rw [if_pos (Bool.eq_false_of_not_eq_true hn)] at hk
    cases hk

/-- The surface that stands for 'none' in a layer is no row of the surface table. -/
theorem surface_row {s : State} {port h : Nat} {v : Val} (ha : s.admits port o6100_SURF_CMD h v = true) : h ≠ 65535 := by
  rintro rfl
  exact absurd (admits_rowExists ha) (by decide)

theorem surf_setSurf (s : State) (h : Nat) (x : Surf) : (s.setSurf h x).surf h = x := congrArg (fun y : Option Surf => y.getD {}) (storeGet_put_same natLt h x s.cmp.surfs)

theorem endOf_surf (w : State) (e : CmdEnd) (h : Nat) : (w.endOf e).surf h = w.surf h := rfl

theorem endOf_comp (w : State) (e : CmdEnd) (c : Nat) : (w.endOf e).comp c = w.comp c := rfl

/-- What the book-keeping of a pool touches. -/
def poolMarks : List Mark := [.obj o6101_POOL_FREE, .obj o6101_SURFACES_ALLOCATED]

theorem Blind.notePool {M : List Mark} {α : Type} {f : State → α} (hf : Blind M f) (h : poolMarks ⊆ M) (s : State) (g : Nat) : f (s.notePool g) = f s :=
  (hf.wr (h (by decide)) _ _ _).trans (hf.wr (h (by decide)) _ _ _)

theorem notePool_rd (s : State) (g : Nat) {o : Nat} (r : Nat) (h : .obj o ∉ poolMarks) : (s.notePool g).rd o r = s.rd o r :=
  (blind_rd h r (.inl (by decide))).notePool (List.Subset.refl _) s g

theorem notePool_surf (s : State) (g h : Nat) : (s.notePool g).surf h = s.surf h := rfl

/-! SURF_CMD: the answer of the operation, and SURF_RESULT 0 when it is accepted. -/

/-- What SURF_CMD makes of the answer of its operation. -/
def surfNoted (h : Nat) (x : Nat × State) : Nat × State := (x.1, if x.1 = stOK then x.2.wr o6100_SURF_RESULT h 0 else x.2)

/-- An object that neither the end of a command nor SURF_RESULT is. -/
theorem surfCmd_rd {s w : State} {h : Nat} {e : CmdEnd} (hend : e.Accepted s (w.wr o6100_SURF_RESULT h 0) o6100_SURF_CMD) {o : Nat} (r : Nat) (ho : o ∉ writeSideObjects)
    (hne : o ≠ o6100_SURF_RESULT) : ((w.wr o6100_SURF_RESULT h 0).endOf e).rd o r = w.rd o r := (hend.rd _ _ ho).trans (w.rd_wr_obj _ hne)

theorem setSurfState_free (s : State) (h : Nat) : (s.setSurfState h SURF_STATE.free).rd o6100_SURF_STATE h = SURF_STATE.free :=
  (notePool_rd _ _ _ (by decide)).trans ((State.rd_wr_obj _ _ (by decide)).trans ((State.rd_wr_obj _ _ (by decide)).trans (s.rd_wr_same o6100_SURF_STATE h SURF_STATE.free)))

section
variable {s w : State} {t port h : Nat} (hp : s.powered = true) (hlatch : (s.begin t).compsPlanned.filter (s.begin t).latchDue = [])
include hp hlatch

/-- An accepted command of a surface. -/
theorem surfCmd_accepted {v : Int} (op : State → Nat × State) (ha : s.admits port o6100_SURF_CMD h (.int v) = true)
    (hv : ∀ c : Ctx, writeSurfCmd c h (.int v) (s.begin t) = surfNoted h (op (s.begin t).latchComps)) (hop : op (s.begin t) = (stOK, w)) (hend : w.ctl = s.ctl) :
    ∃ e : CmdEnd, s.run t (fun s => s.opCmd writeSurfCmd port o6100_SURF_CMD h (.int v)) = .next ((w.wr o6100_SURF_RESULT h 0).endOf e) ∧
      e.Accepted s (w.wr o6100_SURF_RESULT h 0) o6100_SURF_CMD := by
  have hl : (s.begin t).latchComps = s.begin t := if_pos hlatch
  refine run_accepted_row (by decide) hp ha (fun c _ => ?_) (congrArg Ctl.endAfter hend)
  rw [hv, hl, hop]
  rfl

/-! 'create' (R306). -/

section
variable (ha : s.admits port o6100_SURF_CMD h (.int SURF_CMD.create) = true) (hst : s.rd o6100_SURF_STATE h = SURF_STATE.free) (hshape : s.surfShapeOk h = true)
include ha hst hshape

theorem surface_created (hpool : s.rdN o6101_POOL_BYTES (h / 2048) ≠ 0) (hn : s.surfBytes h ≤ s.rdN o6101_POOL_FREE (h / 2048)) :
    ∃ u, exec (.surfCreate t port h) s = .next u ∧ u.last = ⟨0, none⟩ ∧ u.rd o6100_SURF_STATE h = SURF_STATE.loading ∧
      u.surf h = { held := s.surfBytes h } ∧ u.rd o6100_SURF_XFER_OFFSET h = 0 ∧ u.rd o6100_SURF_RESULT h = 0 := by
  have hop : (s.begin t).surfCreate h = (stOK, (((((s.begin t).setSurf h { held := s.surfBytes h }).wr o6100_SURF_STATE h SURF_STATE.loading).wr o6100_DAMAGED h 0).wr
      o6100_SURF_XFER_OFFSET h 0).notePool (h / 2048)) :=
    (if_neg (not_not.mpr hst)).trans ((if_neg (by rw [show (s.begin t).surfShapeOk h = true from hshape]; decide)).trans (if_neg (not_or.mpr ⟨hpool, not_lt.mpr hn⟩)))
  obtain ⟨e, hrun, hend⟩ := surfCmd_accepted hp hlatch (·.surfCreate h) ha (fun _ => rfl) hop rfl
  refine ⟨_, hrun, hend.last, ?_, surf_setSurf .., ?_, (hend.rd _ _ (by decide)).trans (State.rd_wr_same ..)⟩
  · refine (surfCmd_rd hend _ (by decide) (by decide)).trans ((notePool_rd _ _ _ (by decide)).trans ?_)
    simp (disch := decide) only [State.rd_wr_obj, State.rd_wr_same]
  · exact (surfCmd_rd hend _ (by decide) (by decide)).trans ((notePool_rd _ _ _ (by decide)).trans (State.rd_wr_same ..))

theorem surface_tooLarge (hn : s.rdN o6101_POOL_FREE (h / 2048) < s.surfBytes h) :
    ∃ u, exec (.surfCreate t port h) s = .next u ∧ u.last = ⟨0x1301, none⟩ ∧ u.rd o6100_SURF_RESULT h = 0x1301 ∧ s.keepsRegs u [(o6100_SURF_RESULT, h)] ∧ u.works = s.works := by
  have hop : (s.begin t).surfCreate h = (0x1301, s.begin t) :=
    (if_neg (not_not.mpr hst)).trans ((if_neg (by rw [show (s.begin t).surfShapeOk h = true from hshape]; decide)).trans (if_pos (.inr hn)))
  refine run_opCmd_surfaceRefused hp ha (by decide) (by decide) (by decide) (by decide) fun c => ?_
  have hl : (s.begin t).latchComps = s.begin t := if_pos hlatch
  rw [show writeSurfCmd c h (.int SURF_CMD.create) (s.begin t) = surfNoted h ((s.begin t).latchComps.surfCreate h) from rfl, hl, hop]
  rfl

end

/-! 'open', 'close' and 'retire' (R307-R310). -/

theorem surface_closed (ha : s.admits port o6100_SURF_CMD h (.int SURF_CMD.close) = true) (hst : s.rd o6100_SURF_STATE h = SURF_STATE.loading) (hfree : (s.surf h).freeing = false) :
    ∃ u, exec (.surfClose t port h) s = .next u ∧ u.last = ⟨0, none⟩ ∧ u.rd o6100_SURF_STATE h = SURF_STATE.checking ∧ u.works = s.works := by
  have hop : (s.begin t).surfClose h = (stOK, (s.begin t).wr o6100_SURF_STATE h SURF_STATE.checking) :=
    if_neg (not_or.mpr ⟨not_not.mpr hst, fun hn => Bool.false_ne_true (hfree.symm.trans hn)⟩)
  obtain ⟨e, hrun, hend⟩ := surfCmd_accepted hp hlatch (·.surfClose h) ha (fun _ => rfl) hop rfl
  exact ⟨_, hrun, hend.last, (surfCmd_rd hend _ (by decide) (by decide)).trans (State.rd_wr_same ..), hend.works rfl rfl⟩

theorem surface_opened (ha : s.admits port o6100_SURF_CMD h (.int SURF_CMD.open) = true)
    (hst : s.rd o6100_SURF_STATE h = SURF_STATE.ready ∨ s.rd o6100_SURF_STATE h = SURF_STATE.rejected) (hfree : (s.surf h).freeing = false) :
    ∃ u, exec (.surfOpen t port h) s = .next u ∧ u.last = ⟨0, none⟩ ∧ u.rd o6100_SURF_STATE h = SURF_STATE.loading ∧ (u.surf h).bytes = [] ∧ u.rd o6100_SURF_XFER_OFFSET h = 0 := by
  have hshown : ¬ (s.rd o6100_SURF_STATE h = SURF_STATE.in_use ∨ s.rd o6100_SURF_STATE h = SURF_STATE.escrow) := by
    rcases hst with hst | hst <;> rw [hst] <;> decide
  have hbusy : ¬ ((s.rd o6100_SURF_STATE h ≠ SURF_STATE.ready ∧ s.rd o6100_SURF_STATE h ≠ SURF_STATE.rejected) ∨ (s.surf h).freeing = true) := by
    rintro (⟨hr, hj⟩ | hn)
    · exact hst.elim hr hj
    · exact Bool.false_ne_true (hfree.symm.trans hn)
  have hop : (s.begin t).surfOpen h = (stOK, ((((s.begin t).setSurf h { s.surf h with bytes := [], units := [], held := s.surfBytes h }).wr o6100_SURF_STATE h SURF_STATE.loading).wr
      o6100_SURF_XFER_OFFSET h 0).notePool (h / 2048)) := (if_neg hshown).trans (if_neg hbusy)
  obtain ⟨e, hrun, hend⟩ := surfCmd_accepted hp hlatch (·.surfOpen h) ha (fun _ => rfl) hop rfl
  refine ⟨_, hrun, hend.last, ?_, congrArg Surf.bytes (surf_setSurf (s.begin t) h _), ?_⟩
  · refine (surfCmd_rd hend _ (by decide) (by decide)).trans ((notePool_rd _ _ _ (by decide)).trans ?_)
    simp (disch := decide) only [State.rd_wr_obj, State.rd_wr_same]
  · exact (surfCmd_rd hend _ (by decide) (by decide)).trans ((notePool_rd _ _ _ (by decide)).trans (State.rd_wr_same ..))

section
variable (ha : s.admits port o6100_SURF_CMD h (.int SURF_CMD.retire) = true)
include ha

theorem surface_retiring (hst : s.rd o6100_SURF_STATE h = SURF_STATE.ready ∨ s.rd o6100_SURF_STATE h = SURF_STATE.loading) :
    ∃ u, exec (.surfRetire t port h) s = .next u ∧ u.last = ⟨0, none⟩ ∧ u.rd o6100_SURF_STATE h = s.rd o6100_SURF_STATE h ∧ u.surf h = { s.surf h with freeing := true } := by
  have hne : s.rd o6100_SURF_STATE h ≠ SURF_STATE.rejected := by
    rcases hst with hst | hst <;> rw [hst] <;> decide
  have hop : (s.begin t).surfRetire h = (stOK, (s.begin t).setSurf h { s.surf h with freeing := true }) := (if_neg hne).trans (if_pos hst.symm)
  obtain ⟨e, hrun, hend⟩ := surfCmd_accepted hp hlatch (·.surfRetire h) ha (fun _ => rfl) hop rfl
  exact ⟨_, hrun, hend.last, surfCmd_rd hend _ (by decide) (by decide), surf_setSurf ..⟩

theorem surface_retired (hst : s.rd o6100_SURF_STATE h = SURF_STATE.rejected) :
    ∃ u, exec (.surfRetire t port h) s = .next u ∧ u.last = ⟨0, none⟩ ∧ u.rd o6100_SURF_STATE h = SURF_STATE.free := by
  have hop : (s.begin t).surfRetire h = (stOK, (s.begin t).setSurfState h SURF_STATE.free) := if_pos hst
  obtain ⟨e, hrun, hend⟩ := surfCmd_accepted hp hlatch (·.surfRetire h) ha (fun _ => rfl) hop rfl
  exact ⟨_, hrun, hend.last, (surfCmd_rd hend _ (by decide) (by decide)).trans (setSurfState_free ..)⟩

end

end

end Sys2Proof.Machine
end

section
/-! SUPPORT. The pixels of a surface, its check, and a forced retirement (R308, R309, R311). -/

namespace Sys2Proof.Machine
open Sys2Proof

/-! Bytes that join a surface. -/

theorem foldl_put_other {α : Type} (f : α × Nat → Nat) (k : Nat) (l : List (α × Nat)) (hk : ∀ e ∈ l, f e ≠ k) (m : Store Nat α) :
    storeGet k (l.foldl (fun m e => storePut natLt (f e) e.1 m) m) = storeGet k m := by
  induction l generalizing m with
  | nil => rfl
  | cons e l ih =>
    exact (ih (fun e' he' => hk e' (.tail _ he')) _).trans (storeGet_put_ne natLt (hk e (.head _)).symm e.1 m)

theorem storeGet_putBytes (o : Nat) (b : Bytes) (m : Store Nat Byte) {i : Nat} (hi : i < b.length) : storeGet (o + i) (putBytes o b m) = b[i]? := by
  unfold putBytes
  have hlen : i < b.zipIdx.length := by rwa [List.length_zipIdx]
  have hget : b.zipIdx[i] = (b[i], i) := by simp
  have hsplit : b.zipIdx = b.zipIdx.take i ++ (b[i], i) :: b.zipIdx.drop (i + 1) := by
    rw [← hget, List.cons_getElem_drop_succ, List.take_append_drop]
  rw [hsplit, List.foldl_append, List.foldl_cons, foldl_put_other (fun e => o + e.2), storeGet_put_same, List.getElem?_eq_getElem hi]
  intro e he
  obtain ⟨j, hj, rfl⟩ := List.mem_iff_getElem.mp he
  simp
  omega

theorem loading_notShown {s : State} {h : Nat} (hst : s.rd o6100_SURF_STATE h = SURF_STATE.loading) :
    ¬ (s.rd o6100_SURF_STATE h = SURF_STATE.in_use ∨ s.rd o6100_SURF_STATE h = SURF_STATE.escrow) := by
  rw [hst]
  decide

section
variable {s : State} {t port h : Nat} (hp : s.powered = true)
include hp

section
variable {data : Bytes} (ha : s.admits port o6100_SURF_XFER_DATA h (.bytes data) = true) (hst : s.rd o6100_SURF_STATE h = SURF_STATE.loading)
include ha hst

theorem surface_filled (hn : s.rdN o6100_SURF_XFER_OFFSET h + data.length ≤ s.surfBytes h) :
    ∃ u, exec (.surfXferData t port h data) s = .next u ∧ u.last = ⟨0, none⟩ ∧ u.rdN o6100_SURF_XFER_OFFSET h = s.rdN o6100_SURF_XFER_OFFSET h + data.length ∧
      ∀ i < data.length, storeGet (s.rdN o6100_SURF_XFER_OFFSET h + i) (u.surf h).bytes = data[i]? := by
  obtain ⟨e, hrun, hend⟩ := run_accepted_row (t := t) (h := writeSurfData) (by decide) hp ha
    (fun c _ => (if_neg (loading_notShown hst)).trans ((if_neg (not_not.mpr hst)).trans (if_neg (not_lt.mpr hn)))) rfl
  refine ⟨_, hrun, hend.last, ?_, fun i hi => ?_⟩
  · exact congrArg Int.toNat ((hend.rd _ _ (by decide)).trans ((State.rd_wr_obj _ _ (by decide)).trans (State.rd_wr_same ..)))
  · exact (congrArg (fun x : Surf => storeGet _ x.bytes) (surf_setSurf (s.begin t) h _)).trans (storeGet_putBytes _ _ _ hi)

theorem surface_full (hn : s.surfBytes h < s.rdN o6100_SURF_XFER_OFFSET h + data.length) :
    ∃ u, exec (.surfXferData t port h data) s = .next u ∧ u.last = ⟨stRANGE, none⟩ ∧ u.works = s.works :=
  ⟨_, run_refused_row (h := writeSurfData) (by decide) hp ha
    (fun c _ => (if_neg (loading_notShown hst)).trans ((if_neg (not_not.mpr hst)).trans (if_pos hn))) (by decide) (noteRefusal_low _ _ _ (by decide)), rfl, rfl⟩

end

variable (hlatch : (s.begin t).compsPlanned.filter (s.begin t).latchDue = [])
include hlatch

/-! The check (R308). -/

theorem surface_checked (units : List Nat) (hst : s.rd o6100_SURF_STATE h = SURF_STATE.checking) :
    ((s.surf h).bytes.length = s.surfBytes h → crc32c ((s.surf h).bytes.map (·.2)) = s.rdN o6100_SURF_CRC32C h → ∃ u, exec (.surfCheckDone t h units) s = .next u ∧
        u.rd o6100_SURF_STATE h = SURF_STATE.ready ∧ u.rd o6100_DAMAGED h = 0) ∧
      ((s.surf h).bytes.length ≠ s.surfBytes h ∨ crc32c ((s.surf h).bytes.map (·.2)) ≠ s.rdN o6100_SURF_CRC32C h → ∃ u, exec (.surfCheckDone t h units) s = .next u ∧
        u.rd o6100_SURF_STATE h = SURF_STATE.rejected ∧ u.rd o6100_SURF_RESULT h = 0x1304 ∧ u.works = s.works) := by
  have hl : (s.begin t).latchComps = s.begin t := if_pos hlatch
  have hwork : ∀ {w : State}, (s.begin t).surfChecked h units = w → exec (.surfCheckDone t h units) s = .next ((s.begin t).finish w) := fun hw =>
    run_work (f := fun s => s.latchComps.surfChecked h units) hp (by rw [hl, hw])
  constructor
  · intro hlen hcrc
    have hok : (decide ((s.surf h).bytes.length = s.surfBytes h) && crc32c ((s.surf h).bytes.map (·.2)) == s.rdN o6100_SURF_CRC32C h) = true := by simp [hlen, hcrc]
    refine ⟨_, hwork ((if_neg (not_not.mpr hst)).trans (if_pos hok)), ?_, ?_⟩
    · refine (State.finish_rd _ _ _ _).trans ((notePool_rd _ _ _ (by decide)).trans
        (((blind_rd (M := [.alarm .SURF_DAMAGED]) (by simp) h (.inr (by decide))).clear (.head _) _ _).trans ?_))
      simp (disch := decide) only [State.rd_wr_obj, State.rd_wr_same]
    · exact (State.finish_rd _ _ _ _).trans ((notePool_rd _ _ _ (by decide)).trans
        (((blind_rd (M := [.alarm .SURF_DAMAGED]) (by simp) h (.inr (by decide))).clear (.head _) _ _).trans (State.rd_wr_same ..)))
  · intro hbad
    have hok : ¬ (decide ((s.surf h).bytes.length = s.surfBytes h) && crc32c ((s.surf h).bytes.map (·.2)) == s.rdN o6100_SURF_CRC32C h) = true := by
      rw [Bool.and_eq_true, decide_eq_true_eq, beq_iff_eq]
      exact fun ⟨hlen, hcrc⟩ => hbad.elim (· hlen) (· hcrc)
    refine ⟨_, hwork ((if_neg (not_not.mpr hst)).trans (if_neg hok)), ?_, ?_, rfl⟩
    · exact (State.finish_rd _ _ _ _).trans ((State.rd_wr_obj _ _ (by decide)).trans (State.rd_wr_same ..))
    · exact (State.finish_rd _ _ _ _).trans (State.rd_wr_same ..)

end

/-! A forced retirement (R311). -/

/-- A compositor none of whose layers shows a surface. -/
def State.shuns (s : State) (h c : Nat) : Prop := ∀ (l : Nat) (y : LayerCfg), (s.comp c).layers[l]? = some y → y.surface ≠ h

/-- What is taken from a layer that shows a surface. -/
def LayerCfg.without (h : Nat) (y : LayerCfg) : LayerCfg := if y.surface = h then { y with surface := 65535 } else y

theorem without_surface {h : Nat} (hh : h ≠ 65535) (y : LayerCfg) : (y.without h).surface ≠ h := by
  unfold LayerCfg.without
  split
  · exact fun e => hh e.symm
  · assumption

/-- What the blanking of layers writes beside the layers. -/
def blankMarks : List Mark := [.obj o6003_IN_FORCE_SURFACE, .obj o6003_IN_FORCE_ENABLE, .obj o6003_FORCED_BLANK, .alarm .COMP_FORCED_BLANK]

theorem Blind.noteLayers {M : List Mark} {α : Type} {f : State → α} (hf : Blind M f) (h : [.obj o6003_IN_FORCE_SURFACE, .obj o6003_IN_FORCE_ENABLE] ⊆ M) (s : State) (c : Nat) :
    f (s.noteLayers c) = f s :=
  foldl_blind (fun _ _ => (hf.wr (h (by decide)) _ _ _).trans (hf.wr (h (by decide)) _ _ _)) _ s

/-- Blanking takes a surface from the layers of one compositor; the rest of it is written beside. -/
theorem blankComp_eq (s : State) (h c : Nat) : ∃ x : Comp, x.layers = (s.comp c).layers.map (·.without h) ∧
    ∀ {M : List Mark} {α : Type} {f : State → α}, Blind M f → blankMarks ⊆ M → f (s.blankComp h c) = f (s.setComp c x) := by
  refine ⟨{ s.comp c with layers := (s.comp c).layers.map (·.without h), pend := (s.comp c).pend.map fun y => { y with vals := y.vals.map fun v => (v.1, v.2.without h) } }, rfl,
    fun hf hm => ?_⟩
  unfold State.blankComp
  extract_lets x off hit w
  refine (foldl_blind (fun s l => (hf.raise (hm (by decide)) _ _).trans (hf.wr (hm (by decide)) _ _ _)) hit _).trans ?_
  exact hf.noteLayers (List.Subset.trans (by decide) hm) _ _

theorem comp_setComp (s : State) (c : Nat) (x : Comp) : (s.setComp c x).comp c = x := congrArg (fun y : Option Comp => y.getD {}) (storeGet_put_same natLt c x s.cmp.comps)

theorem comp_setComp_ne (s : State) {c c' : Nat} (h : c' ≠ c) (x : Comp) : (s.setComp c x).comp c' = s.comp c' :=
  congrArg (fun y : Option Comp => y.getD {}) (storeGet_put_ne natLt h x s.cmp.comps)

theorem blind_comp {M : List Mark} (h : .cmp ∉ M) (c : Nat) : Blind M (·.comp c) := (blind_cmp h).comp fun x => (storeGet c x.comps).getD {}

theorem blankComp_shuns (s : State) {h : Nat} (hh : h ≠ 65535) (c : Nat) : (s.blankComp h c).shuns h c := by
  obtain ⟨x, hx, hblank⟩ := blankComp_eq s h c
  have hlayers : ((s.blankComp h c).comp c).layers = (s.comp c).layers.map (·.without h) := by
    rw [hblank (blind_comp (by decide) c) (List.Subset.refl _), comp_setComp, hx]
  intro l y hy
  rw [hlayers, List.getElem?_map] at hy
  obtain ⟨z, -, rfl⟩ := Option.map_eq_some_iff.mp hy
  exact without_surface hh z

theorem blankComp_keeps {s : State} {h c' : Nat} (hh : h ≠ 65535) (hs : s.shuns h c') (c : Nat) : (s.blankComp h c).shuns h c' := by
  by_cases hc : c' = c
  · exact hc ▸ blankComp_shuns s hh c'
  · obtain ⟨x, -, hblank⟩ := blankComp_eq s h c
    have hcomp : (s.blankComp h c).comp c' = s.comp c' := (hblank (blind_comp (by decide) c') (List.Subset.refl _)).trans (comp_setComp_ne _ hc _)
    intro l y hy
    exact hs l y (hcomp ▸ hy)

/-- The compositors of a list without a surface. -/
def State.blankAll (s : State) (h : Nat) (cs : List Nat) : State := cs.foldl (fun s c => s.blankComp h c) s

theorem blankAll_shuns {h : Nat} (hh : h ≠ 65535) (cs : List Nat) (s : State) : (∀ c, s.shuns h c → (s.blankAll h cs).shuns h c) ∧ ∀ c ∈ cs, (s.blankAll h cs).shuns h c := by
  induction cs generalizing s with
  | nil => exact ⟨fun _ hc => hc, fun _ hc => absurd hc List.not_mem_nil⟩
  | cons c cs ih =>
    obtain ⟨hkeep, hall⟩ := ih (s.blankComp h c)
    refine ⟨fun c' hc' => hkeep c' (blankComp_keeps hh hc' c), fun c' hc' => ?_⟩
    rcases List.mem_cons.mp hc' with rfl | hc'
    · exact hkeep c' (blankComp_shuns s hh c')
    · exact hall c' hc'

theorem blankAll_ctl (s : State) (h : Nat) (cs : List Nat) : (s.blankAll h cs).ctl = s.ctl :=
  foldl_blind (fun s c => by
    obtain ⟨x, -, hblank⟩ := blankComp_eq s h c
    exact hblank (blind_ctl (by decide)) (List.Subset.refl _)) cs s

section
variable {s : State} {t port h : Nat} (hp : s.powered = true) (hlatch : (s.begin t).compsPlanned.filter (s.begin t).latchDue = [])
include hp hlatch

theorem surface_forced {x : Ctx} (hx : s.ctxOf port = some x) (hrole : reaches x.roles true = true) (ha : s.admits port o6100_SURF_CMD h (.int SURF_CMD.force_retire) = true)
    (hst : s.rd o6100_SURF_STATE h ≠ SURF_STATE.free) :
    ∃ u, exec (.surfForceRetire t port h) s = .next u ∧ u.last = ⟨0, none⟩ ∧ (u.surf h).freeing = true ∧ u.rd o6100_REFERENCES h = 0 ∧
      ∀ c ∈ s.cmp.comps.map (·.1), ∀ (l : Nat) (y : LayerCfg), (u.comp c).layers[l]? = some y → y.surface ≠ h := by
  have hl : (s.begin t).latchComps = s.begin t := if_pos hlatch
  obtain ⟨w, hw⟩ : ∃ w, w = (s.begin t).blankAll h (s.cmp.comps.map (·.1)) := ⟨_, rfl⟩
  have hctl : w.ctl = s.ctl := hw ▸ blankAll_ctl (s.begin t) h _
  have hop : (s.begin t).surfForce x h = (stOK, (w.setSurf h { w.surf h with freeing := true }).wr o6100_REFERENCES h 0) := by
    rw [hw]
    exact (if_neg (by rw [hrole]; decide)).trans (if_neg hst)
  have hk : ∀ c, s.ctxOf port = some c → c.port = port → writeSurfCmd c (effRow c o6100_SURF_CMD h) (.int SURF_CMD.force_retire) (s.begin t) =
      (stOK, ((w.setSurf h { w.surf h with freeing := true }).wr o6100_REFERENCES h 0).wr o6100_SURF_RESULT h 0) := fun c hc _ => by
    obtain rfl := Option.some.inj (hc.symm.trans hx)
    rw [effRow_eq _ _ (by decide), show writeSurfCmd c h (.int SURF_CMD.force_retire) (s.begin t) = surfNoted h ((s.begin t).latchComps.surfForce c h) from rfl, hl, hop]
    rfl
  obtain ⟨e, hrun, hend⟩ := run_accepted (t := t) hp ha hk (congrArg Ctl.endAfter hctl)
  refine ⟨_, hrun, hend.last, congrArg Surf.freeing (surf_setSurf w h _), (surfCmd_rd hend _ (by decide) (by decide)).trans (State.rd_wr_same ..), fun c hc => ?_⟩
  exact (hw ▸ (blankAll_shuns (surface_row ha) _ (s.begin t)).2 c hc : w.shuns h c)

end

/-- Settles O30: each command by its guards. Which states take a command, that the byte count at 'close' is that of the distinct offsets, and that a surface given up stays until the end of
the cycle are the model's choices (log entries 83, 84 and 86). -/
theorem surfacesLoadAndRetire : Obligations.SurfacesLoadAndRetire := by
  unfold Obligations.SurfacesLoadAndRetire
  intro s t port h hp hlatch
  refine ⟨fun ha hst hshape hpool => ⟨surface_created hp hlatch ha hst hshape hpool, surface_tooLarge hp hlatch ha hst hshape⟩,
    fun data ha hst => ⟨surface_filled hp ha hst, surface_full hp ha hst⟩, surface_closed hp hlatch, fun units hst => surface_checked hp hlatch units hst,
    surface_opened hp hlatch, fun ha => ⟨surface_retiring hp hlatch ha, surface_retired hp hlatch ha⟩, fun x hx hrole ha hst => surface_forced hp hlatch hx hrole ha hst⟩

end Sys2Proof.Machine
end

section
/-! SUPPORT. The check of a commit: its codes, and what it reads (R314, R316-R318). -/

namespace Sys2Proof.Machine
open Sys2Proof

/-! The codes of a commit that fails. -/

theorem checkLayer_code (s : State) (plan : Plan) (p : PlanComp) (sealRole : Bool) (c l : Nat) (cfg : List LayerCfg) : s.checkLayer plan p sealRole c l cfg < 0x1301 := by
  unfold State.checkLayer
  split
  · extract_lets
    split_ifs <;> decide
  · decide

/-- The ways in which the check of a commit ends. -/
inductive CommitPlan.Outcome (seq : Nat) : CommitPlan → Prop
  | refused (k l : Nat) (hne : k ≠ 0) (hlow : k < 0x1301) : Outcome seq { code := k, layer := l }
  | passes (k : Commit) (supersedes : Bool) (hseq : k.seq = seq) : Outcome seq { commit := some k, supersedes := supersedes }

theorem checkCommit_outcome (s : State) (sealRole : Bool) (c mask : Nat) : (s.checkCommit sealRole c mask).Outcome ((s.rdN o6000_COMMIT_SEQ c + 1) % 4294967296) := by
  obtain ⟨q, hq⟩ : ∃ q, q = s.checkCommit sealRole c mask := ⟨_, rfl⟩
  rw [← hq]
  unfold State.checkCommit at hq
  split at hq
  · exact hq ▸ .refused _ _ (by decide) (by decide)
  · dsimp only at hq
    split at hq
    · exact hq ▸ .refused _ _ (by decide) (by decide)
    · split at hq
      · exact hq ▸ .refused _ _ (by decide) (by decide)
      · split at hq
        next l k hfind =>
          obtain ⟨l', -, he⟩ := List.mem_map.mp (List.mem_of_find?_eq_some hfind)
          obtain ⟨-, rfl⟩ := Prod.mk.inj he
          refine hq ▸ .refused _ _ (by simpa using List.find?_some hfind) ?_
          split
          · decide
          · exact checkLayer_code ..
        next =>
          split at hq
          · exact hq ▸ .refused _ _ (by decide) (by decide)
          · exact hq ▸ .passes _ _ rfl

/-- A commit that fails has a code below those of surfaces. -/
theorem checkCommit_code {s : State} {sealRole : Bool} {c mask : Nat} (h : (s.checkCommit sealRole c mask).commit = none) :
    (s.checkCommit sealRole c mask).code ≠ 0 ∧ (s.checkCommit sealRole c mask).code < 0x1301 := by
  have ho := checkCommit_outcome s sealRole c mask
  generalize s.checkCommit sealRole c mask = q at ho h
  cases ho with
  | refused k l hne hlow => exact ⟨hne, hlow⟩
  | passes => cases h

theorem checkCommit_seq {s : State} {sealRole : Bool} {c mask : Nat} {k : Commit} (h : (s.checkCommit sealRole c mask).commit = some k) :
    k.seq = (s.rdN o6000_COMMIT_SEQ c + 1) % 4294967296 := by
  have ho := checkCommit_outcome s sealRole c mask
  generalize s.checkCommit sealRole c mask = q at ho h
  cases ho with
  | refused => cases h
  | passes k' _ hseq => exact Option.some.inj h ▸ hseq

/-! What the check reads. -/

/-- What commits write beside the compositors. -/
def commitMarks : List Mark := [.cmp, .obj o6000_COMMIT_SEQ, .obj o6000_STAGED_MASK, .obj o6000_COMMIT_STATE, .obj o6000_PLATE_STATE, .obj o6000_PLATE_BASE_TOP, .obj o6000_COMMIT_RESULT,
  .obj o6000_COMMIT_ERROR_LAYER, .obj o6100_REFERENCES, .obj o6100_SURF_STATE, .alarm .COMP_PLATE_IN_FORCE]

/-- Two states that agree in all that the check of a commit of a compositor reads. -/
structure State.SameBooks (s u : State) (c : Nat) : Prop where
  led : u.led = s.led
  tds : u.tds = s.tds
  now : u.now = s.now
  surf : ∀ h, u.surf h = s.surf h
  comp : u.comp c = s.comp c
  rd : ∀ o r, .obj o ∉ commitMarks → o ∉ alarmSideObjects → u.rd o r = s.rd o r
  usable : ∀ h, u.surfUsable c h = s.surfUsable c h

namespace State.SameBooks

variable {s u : State} {c : Nat} (h : s.SameBooks u c)
include h

theorem rdN (o r : Nat) (hm : .obj o ∉ commitMarks) (ha : o ∉ alarmSideObjects) : u.rdN o r = s.rdN o r := congrArg Int.toNat (h.rd o r hm ha)

theorem td (d : Nat) : u.td d = s.td d := congrArg (fun x : Store Nat Td => (storeGet d x).getD {}) h.tds

theorem bank (b : Nat) : u.bank b = s.bank b := congrArg (fun x : Led => (storeGet b x.banks).getD {}) h.led

theorem serving (d : Nat) : u.serving d = s.serving d := congrArg (fun x : Led => storeGet d x.serving) h.led

theorem planOf (d : Nat) : u.planOf d = s.planOf d := by
  unfold State.planOf
  rw [h.serving]
  split
  · rw [h.bank]
  · rfl

theorem compPlan : u.compPlan c = s.compPlan c := by
  unfold State.compPlan
  simp only [h.planOf]

theorem fcnt (d : Nat) : u.fcnt d = s.fcnt d := h.rdN _ _ (by decide) (by decide)

theorem tickIn (d k : Nat) : u.tickIn d k = s.tickIn d k := by
  unfold State.tickIn
  rw [h.td]

theorem commitFrame (d fc : Nat) : u.commitFrame d fc = s.commitFrame d fc := by
  unfold State.commitFrame
  rw [h.now, h.td, h.fcnt]

theorem changeoverAt (w : Swap) (n d : Nat) : u.changeoverAt w n d = s.changeoverAt w n d := by
  have hto : ∀ d x, u.framesTo d x = s.framesTo d x := fun d x => by
    unfold State.framesTo
    rw [h.td]
  have hanchor : u.anchorAt w = s.anchorAt w := by
    unfold State.anchorAt
    split
    · rfl
    · rw [h.tickIn, h.fcnt]
  induction n generalizing d with
  | zero => rfl
  | succ n ih =>
    unfold State.changeoverAt
    simp only [ih, hto, hanchor, h.tickIn, h.now]

theorem bankRate (b : Option Nat) (d : Nat) : u.bankRate b d = s.bankRate b d := by
  unfold State.bankRate State.descOf
  simp only [h.bank]

theorem bankAt (d at_ : Nat) : u.bankAt d at_ = s.bankAt d at_ := by
  unfold State.bankAt
  simp only [h.led, h.serving, h.changeoverAt, h.bankRate]

theorem staged (r : Nat) : u.staged r = s.staged r := by
  unfold State.staged State.isOn
  simp (disch := decide) only [h.rdN, h.rd]

theorem surfW (k : Nat) : u.surfW k = s.surfW k := h.rdN _ _ (by decide) (by decide)

theorem surfH (k : Nat) : u.surfH k = s.surfH k := h.rdN _ _ (by decide) (by decide)

theorem surfFmt (k : Nat) : u.surfFmt k = s.surfFmt k := h.rd _ _ (by decide) (by decide)

theorem checkLayer (plan : Plan) (p : PlanComp) (sealRole : Bool) (l : Nat) (cfg : List LayerCfg) : u.checkLayer plan p sealRole c l cfg = s.checkLayer plan p sealRole c l cfg := by
  have hsize : ∀ x, u.layerSize plan p c l x = s.layerSize plan p c l x := fun x => by
    unfold State.layerSize
    simp only [h.surfW, h.surfH]
  have hsealed : ∀ k, u.isOn o6100_SURF_SEALED k = s.isOn o6100_SURF_SEALED k := fun k => congrArg (· == 1) (h.rd _ k (by decide) (by decide))
  unfold State.checkLayer
  simp only [hsize, hsealed, h.surfFmt, h.usable]

theorem bandsFit (p : PlanComp) (cfg : List LayerCfg) (plate : Option Nat) : u.bandsFit p cfg plate = s.bandsFit p cfg plate := by
  have htcs : ∀ k, u.isOn o6100_SURF_TCS k = s.isOn o6100_SURF_TCS k := fun k => congrArg (· == 1) (h.rd _ k (by decide) (by decide))
  have hfetch : ∀ x rows, u.fetchBytes x rows = s.fetchBytes x rows := fun x rows => by
    unfold State.fetchBytes
    simp only [htcs, h.surfW, h.surfFmt, h.surf]
  unfold State.bandsFit State.bandNeed
  simp only [hfetch]

theorem plateFor (p : PlanComp) (x : Comp) (cfg : List LayerCfg) (bg : Nat) : u.plateFor p x cfg bg = s.plateFor p x cfg bg := by
  unfold State.plateFor
  simp only [h.bandsFit]

/-- The check passes in both or in neither. -/
theorem passes (sealRole : Bool) (mask : Nat) : (u.checkCommit sealRole c mask).commit.isSome = (s.checkCommit sealRole c mask).commit.isSome := by
  have hbg : u.rdN o6000_BACKGROUND c = s.rdN o6000_BACKGROUND c := h.rdN _ _ (by decide) (by decide)
  unfold State.checkCommit
  simp only [h.compPlan, h.commitFrame, h.fcnt, h.td, h.tickIn, h.bankAt, h.bank, h.comp, h.staged, h.checkLayer, h.plateFor, hbg]
  split
  · rfl
  · split
    · rfl
    · split
      · rfl
      · split
        · rfl
        · split
          · rfl
          · rfl

end State.SameBooks

end Sys2Proof.Machine
end

section
/-! SUPPORT. Commits are accepted, discarded and taken in groups; plates are built (R314, R316-R322). -/

namespace Sys2Proof.Machine
open Sys2Proof

/-! What follows a change of the commits that wait. -/

def surfNoteMarks : List Mark := [.obj o6100_REFERENCES, .obj o6100_SURF_STATE]

theorem Blind.noteSurfs {M : List Mark} {α : Type} {f : State → α} (hf : Blind M f) (h : surfNoteMarks ⊆ M) (s : State) : f s.noteSurfs = f s := by
  refine foldl_blind (fun s e => ?_) _ s
  have href : ∀ n : Int, f (s.wr o6100_REFERENCES e.1 n) = f s := fun n => hf.wr (h (by decide)) _ _ _
  dsimp only
  split_ifs
  · exact (hf.wr (h (by decide)) _ _ _).trans (href _)
  · exact (hf.wr (h (by decide)) _ _ _).trans (href _)
  · exact href _

theorem blind_surf {M : List Mark} (h : .cmp ∉ M) (k : Nat) : Blind M (·.surf k) := (blind_cmp h).comp fun x => (storeGet k x.surfs).getD {}

theorem surfUsable_congr {s u : State} {h : Nat} (hst : u.rd o6100_SURF_STATE h = s.rd o6100_SURF_STATE h) (hsurf : u.surf h = s.surf h)
    (hdam : u.rd o6100_DAMAGED h = s.rd o6100_DAMAGED h) (c : Nat) : u.surfUsable c h = s.surfUsable c h := by
  unfold State.surfUsable State.isOn
  rw [hst, hsurf, hdam]

/-- Whether a surface can be named does not turn on whether it is 'ready' or 'in use'. -/
theorem surfUsable_shown {s : State} {k : Nat} {v : Int} (hs : s.rd o6100_SURF_STATE k = SURF_STATE.ready ∨ s.rd o6100_SURF_STATE k = SURF_STATE.in_use)
    (hv : v = SURF_STATE.ready ∨ v = SURF_STATE.in_use) (c h : Nat) : (s.wr o6100_SURF_STATE k v).surfUsable c h = s.surfUsable c h := by
  by_cases hk : h = k
  · subst hk
    have hold : (s.rd o6100_SURF_STATE h == SURF_STATE.ready || s.rd o6100_SURF_STATE h == SURF_STATE.in_use) = true := by simpa using hs
    have hnew : (v == SURF_STATE.ready || v == SURF_STATE.in_use) = true := by simpa using hv
    unfold State.surfUsable State.isOn
    simp (disch := decide) only [State.rd_wr_same, State.rd_wr_obj, hold, hnew]
    rfl
  · exact surfUsable_congr (s.rd_wr_ne v fun e => hk (Prod.mk.inj e).2) rfl (State.rd_wr_obj _ _ (by decide)) c

theorem noteSurfs_usable (s : State) (c h : Nat) : s.noteSurfs.surfUsable c h = s.surfUsable c h := by
  refine foldl_blind (f := (·.surfUsable c h)) (fun s e => ?_) _ s
  have href : ∀ n : Int, (s.wr o6100_REFERENCES e.1 n).surfUsable c h = s.surfUsable c h := fun n =>
    surfUsable_congr (State.rd_wr_obj _ _ (by decide)) rfl (State.rd_wr_obj _ _ (by decide)) c
  dsimp only
  split_ifs with hready huse
  · exact (surfUsable_shown (.inl hready.1) (.inr rfl) c h).trans (href _)
  · exact (surfUsable_shown (.inr huse.1) (.inl rfl) c h).trans (href _)
  · exact href _

def plateNoteMarks : List Mark := [.obj o6000_PLATE_STATE, .obj o6000_PLATE_BASE_TOP, .alarm .COMP_PLATE_IN_FORCE]

theorem Blind.notePlate {M : List Mark} {α : Type} {f : State → α} (hf : Blind M f) (h : plateNoteMarks ⊆ M) (s : State) (c : Nat) : f (s.notePlate c) = f s :=
  (hf.alarmWhile (h (by decide)) _ _ _).trans ((hf.wr (h (by decide)) _ _ _).trans (hf.wr (h (by decide)) _ _ _))

/-! An accepted commit. -/

/-- A commit that waits, with its number and without its layers in STAGED_MASK. -/
def State.booked (s : State) (c mask : Nat) (k : Commit) (supersedes : Bool) : State :=
  let x := { s.comp c with pend := (if supersedes then (s.comp c).pend.filter (fun y => !y.flat) else (s.comp c).pend) ++ [k] }
  let w := { s.setComp c x with cmp := { (s.setComp c x).cmp with order := k.order } }
  (w.wr o6000_COMMIT_SEQ c k.seq).wr o6000_STAGED_MASK c (s.rdN o6000_STAGED_MASK c &&& (511 - mask % 512) : Nat)

/-- What an accepted commit tells beside. -/
def commitTellMarks : List Mark := .obj o6000_COMMIT_STATE :: .obj o6000_COMMIT_RESULT :: .obj o6000_COMMIT_ERROR_LAYER :: (plateNoteMarks ++ surfNoteMarks)

/-- COMMIT_STATE after a commit is accepted; `flat`: whether one that waits has no plate yet. -/
def State.commitStanding (s : State) (c : Nat) (k : Commit) (supersedes flat : Bool) : State :=
  if s.rd o6000_COMMIT_STATE c = COMMIT_STATE.idle then s.wr o6000_COMMIT_STATE c (if k.flat then COMMIT_STATE.flattening else COMMIT_STATE.pending)
  else if supersedes ∧ k.flat = false ∧ flat = false then s.wr o6000_COMMIT_STATE c COMMIT_STATE.pending else s

theorem Blind.commitStanding {M : List Mark} {α : Type} {f : State → α} (hf : Blind M f) (h : .obj o6000_COMMIT_STATE ∈ M) (s : State) (c : Nat) (k : Commit) (supersedes flat : Bool) :
    f (s.commitStanding c k supersedes flat) = f s := by
  unfold State.commitStanding
  split_ifs
  · exact hf.wr h _ _ _
  · exact hf.wr h _ _ _
  · exact hf.wr h _ _ _
  · rfl

/-- A commit that is accepted, with its tidings but without those of the surfaces. -/
theorem acceptCommit_eq (s : State) (c mask : Nat) (k : Commit) (supersedes : Bool) : ∃ w : State, s.acceptCommit c mask k supersedes = w.noteSurfs ∧
    ∀ {M : List Mark} {α : Type} {f : State → α}, Blind M f → .obj o6000_COMMIT_STATE :: plateNoteMarks ⊆ M → f w = f (s.booked c mask k supersedes) :=
  ⟨((s.booked c mask k supersedes).commitStanding c k supersedes
      (((if supersedes then (s.comp c).pend.filter (fun y => !y.flat) else (s.comp c).pend) ++ [k]).any Commit.flat)).notePlate c, rfl,
    fun hf hm => (hf.notePlate (List.Subset.trans (by decide) hm) _ _).trans (hf.commitStanding (hm (by decide)) _ _ _ _ _)⟩

section
variable {s : State} {x : Ctx} {c mask : Nat} {k : Commit} (hk : (s.checkCommit (hasRole x.roles roleSEAL) c mask).commit = some k)
include hk

theorem commit_accepted : ∃ supersedes, s.commit x c mask = (stOK, ((s.acceptCommit c mask k supersedes).wr o6000_COMMIT_RESULT c 0).wr o6000_COMMIT_ERROR_LAYER c 255) := by
  unfold State.commit
  dsimp only
  rw [hk]
  exact ⟨_, rfl⟩

/-- What a commit that is accepted leaves. -/
theorem commit_booked : ∃ supersedes, (s.commit x c mask).1 = stOK ∧
    (∀ {M : List Mark} {α : Type} {f : State → α}, Blind M f → commitTellMarks ⊆ M → f (s.commit x c mask).2 = f (s.booked c mask k supersedes)) ∧
    (s.commit x c mask).2.rd o6000_COMMIT_RESULT c = 0 ∧ ∀ i h, (s.commit x c mask).2.surfUsable i h = s.surfUsable i h := by
  obtain ⟨supersedes, hcommit⟩ := commit_accepted hk
  obtain ⟨w, hw, hblind⟩ := acceptCommit_eq s c mask k supersedes
  rw [hcommit, hw]
  refine ⟨supersedes, rfl, fun hf hm => ?_, (State.rd_wr_obj _ _ (by decide)).trans (State.rd_wr_same ..), fun i h => ?_⟩
  · exact (hf.wr (hm (by decide)) _ _ _).trans ((hf.wr (hm (by decide)) _ _ _).trans ((hf.noteSurfs (List.Subset.trans (by decide) hm) _).trans (hblind hf (List.Subset.trans (by decide) hm))))
  · refine (surfUsable_congr ((State.rd_wr_obj _ _ (by decide)).trans (State.rd_wr_obj _ _ (by decide))) rfl ((State.rd_wr_obj _ _ (by decide)).trans (State.rd_wr_obj _ _ (by decide))) i).trans ?_
    refine (noteSurfs_usable w i h).trans (surfUsable_congr ?_ ?_ ?_ i)
    · refine (hblind (blind_rd (M := .obj o6000_COMMIT_STATE :: plateNoteMarks) (by decide) h (.inr (by decide))) (List.Subset.refl _)).trans ?_
      exact (State.rd_wr_obj _ _ (by decide)).trans (State.rd_wr_obj _ _ (by decide))
    · exact hblind (blind_surf (by decide) h) (List.Subset.refl _)
    · refine (hblind (blind_rd (M := .obj o6000_COMMIT_STATE :: plateNoteMarks) (by decide) h (.inr (by decide))) (List.Subset.refl _)).trans ?_
      exact (State.rd_wr_obj _ _ (by decide)).trans (State.rd_wr_obj _ _ (by decide))

end

theorem booked_comp (s : State) (c mask : Nat) (k : Commit) (supersedes : Bool) : ∃ l, (s.booked c mask k supersedes).comp c = { s.comp c with pend := l ++ [k] } :=
  ⟨_, comp_setComp s c _⟩

theorem booked_comp_ne (s : State) {c i : Nat} (h : i ≠ c) (mask : Nat) (k : Commit) (supersedes : Bool) : (s.booked c mask k supersedes).comp i = s.comp i := comp_setComp_ne s h _

/-- Another compositor sees nothing of a commit but the surfaces that are now in use. -/
theorem commit_sameBooks {s : State} {x : Ctx} {c mask i : Nat} {k : Commit} (hk : (s.checkCommit (hasRole x.roles roleSEAL) c mask).commit = some k) (hi : i ≠ c) :
    s.SameBooks (s.commit x c mask).2 i := by
  obtain ⟨supersedes, -, hblind, -, husable⟩ := commit_booked hk
  refine ⟨?_, ?_, ?_, fun h => ?_, ?_, fun o r ho ha => ?_, husable i⟩
  · exact hblind (blind_led (by decide)) (List.Subset.refl _)
  · exact hblind (blind_tds (by decide)) (List.Subset.refl _)
  · exact hblind blind_now (List.Subset.refl _)
  · exact hblind (blind_surf (by decide) h) (List.Subset.refl _)
  · exact (hblind (blind_comp (by decide) i) (List.Subset.refl _)).trans (booked_comp_ne s hi mask k supersedes)
  · have hsub : commitTellMarks ⊆ commitMarks := by decide
    refine (hblind (blind_rd (fun hm => ho (hsub hm)) r (.inr ha)) (List.Subset.refl _)).trans ?_
    exact (State.rd_wr_obj _ _ fun e : o = o6000_STAGED_MASK => ho (by rw [e]; decide)).trans (State.rd_wr_obj _ _ fun e : o = o6000_COMMIT_SEQ => ho (by rw [e]; decide))

/-- Another compositor's number and mask stay. -/
theorem commit_rd_row {s : State} {x : Ctx} {c mask i : Nat} {k : Commit} (hk : (s.checkCommit (hasRole x.roles roleSEAL) c mask).commit = some k) (hi : i ≠ c)
    {o : Nat} (ho : o = o6000_COMMIT_SEQ ∨ o = o6000_STAGED_MASK) : (s.commit x c mask).2.rd o i = s.rd o i := by
  obtain ⟨supersedes, -, hblind, -, -⟩ := commit_booked hk
  have hmark : .obj o ∉ commitTellMarks ∧ o ∉ alarmSideObjects := by
    rcases ho with rfl | rfl <;> decide
  refine (hblind (blind_rd hmark.1 i (.inr hmark.2)) (List.Subset.refl _)).trans ?_
  exact (State.rd_wr_ne _ _ fun e => hi (Prod.mk.inj e).2).trans (State.rd_wr_ne _ _ fun e => hi (Prod.mk.inj e).2)

/-- What a commit that is accepted leaves of its own compositor. -/
theorem commit_own {s : State} {x : Ctx} {c mask : Nat} {k : Commit} (hk : (s.checkCommit (hasRole x.roles roleSEAL) c mask).commit = some k) :
    (s.commit x c mask).2.rd o6000_COMMIT_SEQ c = k.seq ∧ k ∈ ((s.commit x c mask).2.comp c).pend ∧ ((s.commit x c mask).2.comp c).layers = (s.comp c).layers ∧
      (s.commit x c mask).2.rd o6000_STAGED_MASK c = (s.rdN o6000_STAGED_MASK c &&& (511 - mask % 512) : Nat) := by
  obtain ⟨supersedes, -, hblind, -, -⟩ := commit_booked hk
  obtain ⟨l, hl⟩ := booked_comp s c mask k supersedes
  have hcomp := (hblind (blind_comp (by decide) c) (List.Subset.refl _)).trans hl
  rw [hcomp]
  refine ⟨?_, List.mem_append_right _ (List.mem_singleton_self k), rfl, ?_⟩
  · refine (hblind (blind_rd (by decide) c (.inr (by decide))) (List.Subset.refl _)).trans ?_
    exact (State.rd_wr_obj _ _ (by decide)).trans (State.rd_wr_same ..)
  · exact (hblind (blind_rd (by decide) c (.inr (by decide))) (List.Subset.refl _)).trans (State.rd_wr_same ..)

/-! Group commits (R322). -/

/-- Commits of some compositors, each with all that it has staged. -/
def State.commitAll (s : State) (x : Ctx) (cs : List Nat) : State := cs.foldl (fun s c => (s.commit x c (s.rdN o6000_STAGED_MASK c)).2) s

/-- The commit of a compositor passes its check with all that it has staged. -/
def State.commits (s : State) (x : Ctx) (c : Nat) : Prop := (s.checkCommit (hasRole x.roles roleSEAL) c (s.rdN o6000_STAGED_MASK c)).commit.isSome = true

/-- A commit with the next number waits. -/
def State.committed (s u : State) (i : Nat) : Prop :=
  ∃ k ∈ (u.comp i).pend, k.seq = (s.rdN o6000_COMMIT_SEQ i + 1) % 4294967296 ∧ u.rd o6000_COMMIT_SEQ i = k.seq

theorem commitAll_spec {x : Ctx} {cs : List Nat} (hnodup : cs.Nodup) {s : State} (hpass : ∀ c ∈ cs, s.commits x c) :
    (∀ i ∈ cs, s.committed (s.commitAll x cs) i) ∧
      (∀ i ∉ cs, (s.commitAll x cs).comp i = s.comp i ∧ (s.commitAll x cs).rd o6000_COMMIT_SEQ i = s.rd o6000_COMMIT_SEQ i) ∧ (s.commitAll x cs).ctl = s.ctl := by
  induction cs generalizing s with
  | nil => exact ⟨fun _ hi => absurd hi List.not_mem_nil, fun _ _ => ⟨rfl, rfl⟩, rfl⟩
  | cons c cs ih =>
    obtain ⟨hc, hcs⟩ := List.nodup_cons.mp hnodup
    obtain ⟨k, hk⟩ := Option.isSome_iff_exists.mp (hpass c (.head _))
    obtain ⟨u, hu⟩ : ∃ u, u = (s.commit x c (s.rdN o6000_STAGED_MASK c)).2 := ⟨_, rfl⟩
    have hother : ∀ {i o}, i ≠ c → o = o6000_COMMIT_SEQ ∨ o = o6000_STAGED_MASK → u.rd o i = s.rd o i := fun hi ho => hu ▸ commit_rd_row hk hi ho
    have hpass' : ∀ i ∈ cs, u.commits x i := fun i hi => by
      have hic : i ≠ c := fun e => hc (e ▸ hi)
      unfold State.commits
      rw [show u.rdN o6000_STAGED_MASK i = s.rdN o6000_STAGED_MASK i from congrArg Int.toNat (hother hic (.inr rfl)), hu, (commit_sameBooks hk hic).passes]
      exact hpass i (.tail _ hi)
    obtain ⟨hin, hout, hctl⟩ := ih hcs hpass'
    have hall : s.commitAll x (c :: cs) = u.commitAll x cs := hu ▸ rfl
    rw [hall]
    refine ⟨fun i hi => ?_, fun i hi => ?_, hctl.trans ?_⟩
    · rcases List.mem_cons.mp hi with rfl | hi
      · obtain ⟨hcomp, hseq⟩ := hout i hc
        obtain ⟨hnext, hmem, -, -⟩ := commit_own hk
        exact ⟨k, hcomp ▸ hu ▸ hmem, checkCommit_seq hk, hseq.trans (hu ▸ hnext)⟩
      · obtain ⟨k', hmem, hseq, hrd⟩ := hin i hi
        have hic : i ≠ c := fun e => hc (e ▸ hi)
        exact ⟨k', hmem, hseq.trans (by rw [show u.rdN o6000_COMMIT_SEQ i = s.rdN o6000_COMMIT_SEQ i from congrArg Int.toNat (hother hic (.inl rfl))]), hrd⟩
    · obtain ⟨hic, hi⟩ := not_or.mp (fun h => hi (List.mem_cons.mpr h))
      obtain ⟨hcomp, hseq⟩ := hout i hi
      exact ⟨hcomp.trans (hu ▸ (commit_sameBooks hk hic).comp), hseq.trans (hother hic (.inl rfl))⟩
    · obtain ⟨_, -, hblind, -, -⟩ := commit_booked hk
      exact hu ▸ hblind (blind_ctl (by decide)) (List.Subset.refl _)

/-- A group commit without a fault: each of its compositors passes. -/
theorem groupFault_none {s : State} {x : Ctx} {cs : List Nat} (h : s.groupFault x cs = none) : ∀ c ∈ cs, s.commits x c := by
  intro c hc
  have hnone := List.findSome?_eq_none_iff.mp h c hc
  dsimp only at hnone
  split_ifs at hnone with howns hcommit
  exact Option.isSome_iff_ne_none.mpr fun hn => hcommit (Option.isNone_iff_eq_none.mpr hn)

/-- The code of a group commit that fails is its first failing compositor's. -/
theorem groupFault_code {s : State} {x : Ctx} {cs : List Nat} {k i : Nat} (h : s.groupFault x cs = some (k, i)) : k ≠ 0 ∧ k < 0x1301 := by
  obtain ⟨c, -, hc⟩ := List.exists_of_findSome?_eq_some h
  dsimp only at hc
  split_ifs at hc with howns hcommit
  · obtain ⟨rfl, -⟩ := Prod.mk.inj (Option.some.inj hc)
    decide
  · obtain ⟨rfl, -⟩ := Prod.mk.inj (Option.some.inj hc)
    exact checkCommit_code (Option.isNone_iff_eq_none.mp hcommit)

end Sys2Proof.Machine
end

section
/-! SUPPORT. The commands of commits and plates (R314, R316-R322). -/

namespace Sys2Proof.Machine
open Sys2Proof

/-! Plates (R314). -/

/-- The plate of one commit of a compositor takes a new standing; the rest tells of it. -/
theorem setPlate_comp (s : State) (c seq : Nat) (n : PlateNeed) :
    ((s.setPlate c seq n).comp c).pend = (s.comp c).pend.map (fun z => if z.seq = seq then { z with plate := n } else z) :=
  (congrArg Comp.pend ((blind_comp (M := plateNoteMarks) (by decide) c).notePlate (List.Subset.refl _) _ c)).trans (congrArg Comp.pend (comp_setComp s c _))

section
variable {s : State} {g c : Nat} {y : Commit} (h : s.groupCommits g = [(c, y)])
include h

theorem plateStart_one (hy : y.plate = .queued) : s.plateStart g = s.setPlate c y.seq .building := by
  unfold State.plateStart
  rw [h]
  simp [hy]

theorem plateDone_one (hy : y.plate = .building) : s.plateDone g = s.setPlate c y.seq .built := by
  unfold State.plateDone
  rw [h]
  simp [hy]

end

/-- The compositors of a mask. -/
def maskComps (mask : Nat) : List Nat := (List.range 32).filter (fun i => mask.testBit i)

theorem maskComps_nodup (mask : Nat) : (maskComps mask).Nodup := List.Nodup.filter _ List.nodup_range

section
variable {s : State} {t port c : Nat} (hp : s.powered = true) (hlatch : (s.begin t).compsPlanned.filter (s.begin t).latchDue = [])
include hp hlatch

/-- The builder's steps meet the plates as the last command left them. -/
theorem plate_steps {g : Nat} {y : Commit} (h : s.groupCommits g = [(c, y)]) :
    (y.plate = .queued → ∃ u, exec (.plateBuildStart t g) s = .next u ∧ (u.comp c).pend = (s.comp c).pend.map (fun z => if z.seq = y.seq then { z with plate := .building } else z)) ∧
      (y.plate = .building → ∃ u, exec (.plateBuildComplete t g) s = .next u ∧
        (u.comp c).pend = (s.comp c).pend.map (fun z => if z.seq = y.seq then { z with plate := .built } else z)) := by
  have hl : (s.begin t).latchComps = s.begin t := if_pos hlatch
  have hgroup : (s.begin t).groupCommits g = [(c, y)] := h
  refine ⟨fun hy => ⟨_, run_work (f := fun s => s.latchComps.plateStart g) hp ((congrArg (·.plateStart g) hl).trans (plateStart_one hgroup hy)), ?_⟩,
    fun hy => ⟨_, run_work (f := fun s => s.latchComps.plateDone g) hp ((congrArg (·.plateDone g) hl).trans (plateDone_one hgroup hy)), ?_⟩⟩
  · exact setPlate_comp (s.begin t) c y.seq .building
  · exact setPlate_comp (s.begin t) c y.seq .built

/-! COMMIT_DISCARD (R320, R321). -/

section
variable (ha : s.admits port o6000_COMMIT_DISCARD c (.int 0) = true)
include ha

/-- A compositor without the commits that have not applied and do not flatten. -/
def State.discarded (s : State) (c : Nat) : State := s.setComp c { s.comp c with pend := (s.comp c).pend.filter Commit.flat }

theorem discard_taken (hst : s.rd o6000_COMP_STATE c ≠ COMP_STATE.gang_second) : ∃ u, exec (.commitDiscard t port c) s = .next u ∧ u.last = ⟨0, none⟩ ∧
    (u.comp c).pend = (s.comp c).pend.filter Commit.flat ∧ (u.comp c).layers = (s.comp c).layers := by
  have hl : (s.begin t).latchComps = s.begin t := if_pos hlatch
  obtain ⟨w, hw⟩ : ∃ w, w = (((s.begin t).discarded c).noteCommitState c).noteSurfs := ⟨_, rfl⟩
  have hblind : ∀ {α : Type} {f : State → α}, Blind (.obj o6000_COMMIT_STATE :: surfNoteMarks) f → f w = f ((s.begin t).discarded c) := fun hf =>
    hw ▸ (hf.noteSurfs (by decide) _).trans (hf.wr (.head _) _ _ _)
  have hcomp : w.comp c = { s.comp c with pend := (s.comp c).pend.filter Commit.flat } := (hblind (blind_comp (by decide) c)).trans (comp_setComp (s.begin t) c _)
  obtain ⟨e, hrun, hend⟩ := run_accepted_row (t := t) (h := writeCommitDiscard) (by decide) hp ha (fun _ _ => by
    unfold writeCommitDiscard onInt
    dsimp only
    rw [hl, hw]
    exact if_neg hst) (congrArg Ctl.endAfter (hblind (blind_ctl (by decide))))
  exact ⟨_, hrun, hend.last, congrArg Comp.pend hcomp, (congrArg Comp.layers hcomp).trans rfl⟩

theorem discard_gang (hst : s.rd o6000_COMP_STATE c = COMP_STATE.gang_second) : ∃ u, exec (.commitDiscard t port c) s = .next u ∧ u.last = ⟨0x1208, none⟩ ∧
    s.keepsRegs u [] ∧ u.works = s.works := by
  have hl : (s.begin t).latchComps = s.begin t := if_pos hlatch
  refine ⟨_, run_refused_row (h := writeCommitDiscard) (by decide) hp ha (fun _ _ => ?_) (by decide) (noteRefusal_low _ _ _ (by decide)), rfl, keepsRegs_refl s [], rfl⟩
  unfold writeCommitDiscard onInt
  dsimp only
  rw [hl]
  exact if_pos hst

end

/-! COMMIT (R316-R318). -/

section
variable {x : Ctx} (hx : s.ctxOf port = some x)
include hx

section
variable {mask : Nat} (hmask : mask < 512) (ha : s.admits port o6000_COMMIT c (.int mask) = true)
include hmask ha

omit hp ha in
theorem writeCommit_eq : ∀ y, s.ctxOf port = some y → y.port = port → writeCommit y (effRow y o6000_COMMIT c) (.int mask) (s.begin t) = (s.begin t).commit x c mask := by
  intro y hy _
  have hl : (s.begin t).latchComps = s.begin t := if_pos hlatch
  obtain rfl := Option.some.inj (hy.symm.trans hx)
  rw [effRow_eq _ _ (by decide)]
  unfold writeCommit onInt
  dsimp only
  rw [hl, show (mask : Int).toNat % 512 = mask from Nat.mod_eq_of_lt hmask]

theorem commit_taken {k : Commit} (hk : ((s.begin t).checkCommit (hasRole x.roles roleSEAL) c mask).commit = some k) :
    ∃ u, exec (.commit t port c mask) s = .next u ∧ u.last = ⟨0, none⟩ ∧ u.rd o6000_COMMIT_RESULT c = 0 ∧ u.rd o6000_COMMIT_SEQ c = k.seq ∧
      k.seq = (s.rdN o6000_COMMIT_SEQ c + 1) % 4294967296 ∧ k ∈ (u.comp c).pend ∧ (u.comp c).layers = (s.comp c).layers ∧
      u.rd o6000_STAGED_MASK c = (s.rdN o6000_STAGED_MASK c &&& (511 - mask) : Nat) := by
  obtain ⟨_, hok, hblind, hresult, -⟩ := commit_booked hk
  obtain ⟨hseq, hmem, hlayers, hstaged⟩ := commit_own hk
  obtain ⟨w, hw⟩ : ∃ w, w = ((s.begin t).commit x c mask).2 := ⟨_, rfl⟩
  have hctl : w.ctl = s.ctl := hw ▸ hblind (blind_ctl (by decide)) (List.Subset.refl _)
  have hnext := checkCommit_seq hk
  rw [State.begin_rdN] at hnext
  rw [State.begin_rdN, Nat.mod_eq_of_lt hmask] at hstaged
  rw [← hw] at hresult hseq hmem hlayers hstaged
  obtain ⟨e, hrun, hend⟩ := run_accepted (t := t) hp ha (fun y hy hport => (writeCommit_eq hlatch hx hmask y hy hport).trans (Prod.ext hok hw.symm)) (congrArg Ctl.endAfter hctl)
  refine ⟨_, hrun, hend.last, (hend.rd _ _ (by decide)).trans hresult, (hend.rd _ _ (by decide)).trans hseq, hnext, hmem, hlayers,
    (hend.rd _ _ (by decide)).trans hstaged⟩

theorem commit_refused (hk : ((s.begin t).checkCommit (hasRole x.roles roleSEAL) c mask).commit = none) : let q := (s.begin t).checkCommit (hasRole x.roles roleSEAL) c mask
    ∃ u, exec (.commit t port c mask) s = .next u ∧ u.last = ⟨q.code, none⟩ ∧ u.rd o6000_COMMIT_RESULT c = q.code ∧
      u.rd o6000_COMMIT_ERROR_LAYER c = q.layer ∧ s.keepsRegs u [(o6000_COMMIT_RESULT, c), (o6000_COMMIT_ERROR_LAYER, c)] ∧ u.works = s.works := by
  obtain ⟨hne, hlow⟩ := checkCommit_code hk
  have hcommit : (s.begin t).commit x c mask = (((s.begin t).checkCommit (hasRole x.roles roleSEAL) c mask).code,
      ((s.begin t).wr o6000_COMMIT_RESULT c ((s.begin t).checkCommit (hasRole x.roles roleSEAL) c mask).code).wr o6000_COMMIT_ERROR_LAYER c
        ((s.begin t).checkCommit (hasRole x.roles roleSEAL) c mask).layer) := by
    unfold State.commit
    dsimp only
    rw [hk]
  generalize (s.begin t).checkCommit (hasRole x.roles roleSEAL) c mask = q at hne hlow hcommit
  have hrun := run_refused (t := t) hp ha (fun y hy hport => (writeCommit_eq hlatch hx hmask y hy hport).trans hcommit) hne rfl
  rw [noteRefusal_low _ _ _ hlow] at hrun
  refine ⟨_, hrun, rfl, (refused_rd ..).trans ((State.rd_wr_obj _ _ (by decide)).trans (State.rd_wr_same ..)), (refused_rd ..).trans (State.rd_wr_same ..), ?_, rfl⟩
  exact ((keepsRegs_refl (s.begin t) _).wr _ (.head _)).wr _ (.tail _ (.head _))

end

/-! GROUP_COMMIT (R322). -/

section
variable {mask : Nat} (ha : s.admits port o6001_GROUP_COMMIT 0 (.int mask) = true)
include ha

omit hp hlatch hx ha in
/-- The handler over the state that its own check has seen. -/
theorem writeGroupCommit_eq {w : State} (hl : w.latchComps = w) (r : Nat) : writeGroupCommit x r (.int mask) w =
    match w.groupFault x (maskComps mask) with
    | some (k, c) => (k, (w.wr o6001_GROUP_RESULT 0 k).wr o6001_GROUP_ERROR_COMP 0 c)
    | none => (stOK, ((w.commitAll x (maskComps mask)).wr o6001_GROUP_RESULT 0 0).wr o6001_GROUP_ERROR_COMP 0 255) := by
  unfold writeGroupCommit onInt
  dsimp only
  rw [hl]
  rfl

theorem group_refused {k i : Nat} (hk : (s.begin t).groupFault x (maskComps mask) = some (k, i)) :
    ∃ u, exec (.groupCommit t port mask) s = .next u ∧ u.last = ⟨k, none⟩ ∧ u.rd o6001_GROUP_RESULT 0 = k ∧
      u.rd o6001_GROUP_ERROR_COMP 0 = i ∧ s.keepsRegs u [(o6001_GROUP_RESULT, 0), (o6001_GROUP_ERROR_COMP, 0)] ∧ u.works = s.works := by
  obtain ⟨hne, hlow⟩ := groupFault_code hk
  have hrun := run_refused (t := t) (h := writeGroupCommit) (w := ((s.begin t).wr o6001_GROUP_RESULT 0 k).wr o6001_GROUP_ERROR_COMP 0 i) hp ha (fun y hy _ => by
    obtain rfl := Option.some.inj (hy.symm.trans hx)
    rw [writeGroupCommit_eq (if_pos hlatch), hk]) hne rfl
  rw [noteRefusal_low _ _ _ hlow] at hrun
  refine ⟨_, hrun, rfl, (refused_rd ..).trans ((State.rd_wr_obj _ _ (by decide)).trans (State.rd_wr_same ..)), (refused_rd ..).trans (State.rd_wr_same ..), ?_, rfl⟩
  exact ((keepsRegs_refl (s.begin t) _).wr _ (.head _)).wr _ (.tail _ (.head _))

theorem group_taken (hk : (s.begin t).groupFault x (maskComps mask) = none) :
    ∃ u, exec (.groupCommit t port mask) s = .next u ∧ u.last = ⟨0, none⟩ ∧ u.rd o6001_GROUP_RESULT 0 = 0 ∧ u.rd o6001_GROUP_ERROR_COMP 0 = 255 ∧
      ∀ i ∈ maskComps mask, s.committed u i := by
  obtain ⟨hall, -, hctl⟩ := commitAll_spec (maskComps_nodup mask) (groupFault_none hk)
  obtain ⟨w, hw⟩ : ∃ w, w = (s.begin t).commitAll x (maskComps mask) := ⟨_, rfl⟩
  rw [← hw] at hall hctl
  obtain ⟨e, hrun, hend⟩ := run_accepted (t := t) (h := writeGroupCommit) (w := (w.wr o6001_GROUP_RESULT 0 0).wr o6001_GROUP_ERROR_COMP 0 255) hp ha (fun y hy _ => by
    obtain rfl := Option.some.inj (hy.symm.trans hx)
    rw [writeGroupCommit_eq (if_pos hlatch), hk, hw]) (congrArg Ctl.endAfter hctl)
  refine ⟨_, hrun, hend.last, (hend.rd _ _ (by decide)).trans ((State.rd_wr_obj _ _ (by decide)).trans (State.rd_wr_same ..)), (hend.rd _ _ (by decide)).trans (State.rd_wr_same ..),
    fun i hi => ?_⟩
  obtain ⟨k, hmem, hseq, hrd⟩ := hall i hi
  exact ⟨k, hmem, hseq, (hend.rd _ _ (by decide)).trans ((State.rd_wr_obj _ _ (by decide)).trans ((State.rd_wr_obj _ _ (by decide)).trans hrd))⟩

end

end

end

/-- Settles O29: what the check of a compositor reads is not touched by the commits of others, so that a group commit without a fault is taken whole. -/
theorem commitsAreCheckedAndQueued : Obligations.CommitsAreCheckedAndQueued := by
  unfold Obligations.CommitsAreCheckedAndQueued
  intro s t port c x hp hx hlatch
  refine ⟨fun mask hmask ha => ⟨fun k hk => commit_taken hp hlatch hx hmask ha hk, commit_refused hp hlatch hx hmask ha⟩,
    fun ha => ⟨discard_taken hp hlatch ha, discard_gang hp hlatch ha⟩,
    fun mask ha => ⟨fun k i hk => group_refused hp hlatch hx ha hk, group_taken hp hlatch hx ha⟩, fun g y h => plate_steps hp hlatch h⟩

end Sys2Proof.Machine
end

section
/-! SUPPORT. A route taken after the tick of a changeover has passed and before its command has come (R47, R54, R199, R218). -/

namespace Sys2Proof.Machine
open Sys2Proof

/-- A module at instant 0 with a session of every role on port 4, whose swap to bank 0 has passed its anchor and waits for the first tick of domain 0. The incoming plan holds output 2;
no bank serves the domain yet. The session's route joins output 2 to generator 0. -/
def awaitsChangeover : State :=
  let d : State := State.reset.put [(o4000_ROUTE_DEST, 4, 0x8002), (o4000_ROUTE_SRC, 4, 0x3000)]
  { d with
    ctl := { d.ctl with ports := [(4, { session := some { id := 7, slot := 0, roles := 31, addr := 9, udp := 10, key := [1#8], lastAuth := 0 } })] }
    led := { d.led with
      banks := [(0, { plan := { endpoints := [{ ep := 0x8002, dom := 0, fmt := 0x28 }] }, descs := [{ rate := 8, inUse := 1 }] })]
      swap := some { kind := 1, incoming := 0, outgoing := none, anchorTd := 0, anchorFcnt := 0, domains := [0], waits := [], done := [], anchored := some 0 } }
    tds := [(0, { rate := 8 })] }

/-- What a command answers. -/
def statusAfter (i : Instr) (s : State) : Option OpResult :=
  match exec i s with
  | .next u => some u.last
  | _ => none

/-- 1 s later the tick at which the route's frame begins has passed, the changeover has not come, and at the next tick to come it is still ahead of that frame. -/
theorem awaitsChangeover_refuses : statusAfter (.routeTake 1000000000 4) awaitsChangeover = some ⟨0x0F01, none⟩ := by
  decide +kernel

/-- The session of `awaitsChangeover`. -/
def routeTaker : Ctx := ⟨4, 31, none⟩

theorem awaitsChangeover_admits : awaitsChangeover.ctxOf 4 = some routeTaker ∧ awaitsChangeover.admits 4 o4000_ROUTE_CMD 0 (.int 0) = true ∧ awaitsChangeover.owns routeTaker (destOwn 0x8002) = true := by
  decide +kernel

theorem awaitsChangeover_route : awaitsChangeover.rdN o4000_ROUTE_DEST 4 = 0x8002 ∧ awaitsChangeover.rdN o4000_ROUTE_SRC 4 = 0x3000 := by
  decide +kernel

/-- Seen from the last command, the changeover comes at the tick at which the route's frame begins. -/
theorem awaitsChangeover_path :
    (awaitsChangeover.checkRoute 0x8002 0x3000 ((awaitsChangeover.begin 1000000000).routeFrame 0x8002 ((awaitsChangeover.endpointDomain 0x8002).getD 0))).toOption = some ROUTE_PATH.direct := by
  decide +kernel

/-- Refutes O24: the clause of ROUTE_TAKE checks the route as the state of the last command sees it, the command as the instant of the take does. Where the tick of a changeover passes
between the two and the changeover has not come, the first finds a path in the incoming bank and the second finds no bank. -/
theorem not_routesAndSalvosAreTaken : ¬ Obligations.RoutesAndSalvosAreTaken := by
  unfold Obligations.RoutesAndSalvosAreTaken
  intro ⟨hroute, _⟩
  obtain ⟨hctx, hadmits, howns⟩ := awaitsChangeover_admits
  obtain ⟨hdst, hsrc⟩ := awaitsChangeover_route
  have htake := (hroute awaitsChangeover 1000000000 4 2 routeTaker rfl).1 hctx hadmits
  dsimp only at htake
  rw [hdst, hsrc] at htake
  have hpath := awaitsChangeover_path
  obtain ⟨p, hp⟩ : ∃ p, awaitsChangeover.checkRoute 0x8002 0x3000 ((awaitsChangeover.begin 1000000000).routeFrame 0x8002 ((awaitsChangeover.endpointDomain 0x8002).getD 0)) = .ok p := by
    revert hpath
    cases awaitsChangeover.checkRoute 0x8002 0x3000 _ with
    | error => intro h; cases h
    | ok p => exact fun _ => ⟨p, rfl⟩
  obtain ⟨u, q, hrun, hlast, -⟩ := (htake rfl rfl rfl howns).1 p hp
  have hrefused := awaitsChangeover_refuses
  unfold statusAfter at hrefused
  rw [hrun] at hrefused
  exact absurd (hlast.symm.trans (Option.some.inj hrefused)) (by decide)

end Sys2Proof.Machine
end

section
/-! SUPPORT. What the start of a ledger cycle touches before the tellers hold their round (R19, R58, R104, R307, R319, R320). -/

namespace Sys2Proof.Machine
open Sys2Proof

/-- What the reading of words in memory touches. -/
def memMarks : List Mark := [.alm, .pair, .itg, .pwr, .enc, .cmp] ++ (alarmSideObjects ++ memObjects).map .obj

/-- What the latch instants of compositors touch. -/
def latchCompMarks : List Mark := [.cmp, .obj o6000_COMMITS_SUPERSEDED, .obj o6000_APPLIED_SEQ, .obj o6000_APPLIED_FCNT, .obj o6003_NOT_READY_FRAMES, .obj o6003_CONSECUTIVE_NOT_READY,
  .obj o6003_IN_FORCE_SURFACE, .obj o6003_IN_FORCE_ENABLE, .obj o6000_COMMIT_STATE, .alarm .COMP_SEAL_NOT_READY, .alarm .COMP_LAYER_NOT_READY] ++ plateNoteMarks ++ surfNoteMarks

/-- What the end of a ledger cycle frees. -/
def freeSurfMarks : List Mark := [.cmp, .obj o6100_SURF_STATE, .obj o6100_REFERENCES, .obj o6100_STORED_BYTES] ++ poolMarks

/-- What the stamps that firmware drains touch. -/
def drainMarks : List Mark := [.ptp, .obj o2310_PTQ_FILL, .obj o2310_PTQ_OVERFLOW, .obj o2310_PTQ_DISCARDS, .alarm .PTQ_OVERFLOW]

/-- What a missed item touches. -/
def missMarks : List Mark := [.med, .fab, .cmp, .ras, .enc, .out, .led, .obj o5002_MINT_OVERDRAFTS, .obj o5012_XS_SLICES_COARSENED, .obj o6003_LAYER_OVERDRAFTS,
  .obj o2006_OVERDRAFT_KIND_COUNT, .obj o2005_OVERDRAFTS, .obj o1003_OVERDRAFTS, .obj o2005_OVERDRAFT_FRAMES]

namespace Blind

variable {M : List Mark} {α : Type} {f : State → α} (hf : Blind M f)
include hf

theorem memBlind (h : memMarks ⊆ M) : MemBlind memObjects f where
  alm s x := hf _ (h (by decide)) _ _ (.alm ..)
  pair s x := hf _ (h (by decide)) _ _ (.pair ..)
  wr s _ r v ho := hf.wr (h (List.mem_append_right _ (List.mem_map_of_mem (List.mem_append_left _ ho)))) s r v
  obj s _ r v ho := hf.wr (h (List.mem_append_right _ (List.mem_map_of_mem (List.mem_append_right _ ho)))) s r v
  backs s x := hf _ (h (by decide)) _ _ (.itg ..)
  used s x y := hf _ (h (by decide)) _ _ (.itg ..)
  lines s x := hf _ (h (by decide)) _ _ (.itg ..)
  postponed s x := hf _ (h (by decide)) _ _ (.pwr ..)
  granules s x := hf _ (h (by decide)) _ _ (.itg ..)
  enc s x := hf _ (h (by decide)) _ _ (.enc ..)
  cmp s x := hf _ (h (by decide)) _ _ (.cmp ..)
  rows s x := hf _ (h (by decide)) _ _ (.itg ..)
  words s x := hf _ (h (by decide)) _ _ (.itg ..)

theorem meetAll (h : memMarks ⊆ M) (s : State) (l : List WordTouch) : f (s.meetAll l).2 = f s := (hf.memBlind h).meetAll (List.Subset.refl _) s l

theorem setComp (h : .cmp ∈ M) (s : State) (c : Nat) (x : Comp) : f (s.setComp c x) = f s := hf _ h _ _ (.cmp ..)

theorem readyLayer (h : latchCompMarks ⊆ M) (s : State) (p : PlanComp) (named : List Nat) (l : Nat) : f (s.readyLayer p named l) = f s := by
  unfold State.readyLayer
  extract_lets r isSealed every w x
  have hw : f w = f s := hf.wr (h (by decide)) _ _ _
  have hx : f x = f s := (hf.raiseQuiet (h (by decide)) _ _).trans ((hf.bump (h (by decide)) _ _).trans (hf.bump (h (by decide)) _ _))
  split_ifs
  · rfl
  · exact (hf.clear (h (by decide)) _ _).trans hw
  · exact hw
  · exact (hf.raise (h (by decide)) _ _).trans hx
  · exact hx

theorem latchComp (h : latchCompMarks ⊆ M) (s : State) (p : PlanComp) : f (s.latchComp p) = f s := by
  unfold State.latchComp
  extract_lets c x k goes due rest cfg bg named replaced plate w a b y
  have ha : f a = f s := (hf.addTo (h (by decide)) _ _ _).trans (hf.setComp (h (by decide)) _ _ _)
  have hb : f b = f s := by
    refine Eq.trans ?_ ha
    dsimp only [b]
    split
    · exact (hf.wr (h (by decide)) _ _ _).trans (hf.wr (h (by decide)) _ _ _)
    · rfl
  have hy : f y = f s := (foldl_blind (fun s l => hf.readyLayer h s p named l) _ b).trans hb
  exact (hf.wr (h (by decide)) _ _ _).trans ((hf.notePlate (List.Subset.trans (by decide) h) _ _).trans ((hf.noteLayers (List.Subset.trans (by decide) h) _ _).trans hy))

theorem latchComps (h : latchCompMarks ⊆ M) (s : State) : f s.latchComps = f s := by
  unfold State.latchComps
  extract_lets due
  split
  · rfl
  · exact (hf.noteSurfs (List.Subset.trans (by decide) h) _).trans (foldl_blind (fun s p => hf.latchComp h s p) due s)

theorem setSurfState (h : freeSurfMarks ⊆ M) (s : State) (k : Nat) (v : Int) : f (s.setSurfState k v) = f s := by
  have hstate : f (s.wr o6100_SURF_STATE k v) = f s := hf.wr (h (by decide)) _ _ _
  unfold State.setSurfState
  dsimp only
  split
  · refine (hf.notePool (List.Subset.trans (by decide) h) _ _).trans ((hf.wr (h (by decide)) _ _ _).trans ((hf.wr (h (by decide)) _ _ _).trans ?_))
    exact (hf _ (h (by decide)) _ _ (.cmp _ _)).trans hstate
  · exact hstate

theorem freeSurfs (h : freeSurfMarks ⊆ M) (s : State) (d : Nat) : f (s.freeSurfs d) = f s := foldl_blind (fun s _ => hf.setSurfState h s _ _) _ s

theorem setSpill (h : .ptp ∈ M) (s : State) (q : Nat) (e : Option (Nat × PtqEntry)) : f (s.setSpill q e) = f s := hf _ h _ _ (.ptp ..)

theorem setPtq (h : drainMarks ⊆ M) (s : State) (q : Nat) (l : List PtqEntry) : f (s.setPtq q l) = f s := (hf.wr (h (by decide)) _ _ _).trans (hf _ (h (by decide)) _ _ (.ptp ..))

theorem settleSpill (h : drainMarks ⊆ M) (s : State) (q : Nat) : f (s.settleSpill q) = f s := by
  unfold State.settleSpill State.discardStamp
  split
  · split
    · exact (hf.pulse (h (by decide)) _ _).trans ((hf.bump (h (by decide)) _ _).trans ((hf.wr (h (by decide)) _ _ _).trans (hf.setSpill (h (by decide)) _ _ _)))
    · rfl
  · rfl

theorem drainPtq (h : drainMarks ⊆ M) (s : State) : f s.drainPtq = f s :=
  (hf.setPtq h _ _ _).trans ((hf.setPtq h _ _ _).trans ((hf.setSpill (h (by decide)) _ _ _).trans ((hf.setSpill (h (by decide)) _ _ _).trans
    (foldl_blind (fun s q => hf.settleSpill h s q) _ s))))

theorem markStale (h : missMarks ⊆ M) (s : State) (ep k : Nat) (lines : List Nat) : f (s.markStale ep k lines) = f s := hf _ (h (by decide)) _ _ (.med ..)

theorem markMissed (h : missMarks ⊆ M) (s : State) (r k line : Nat) : f (s.markMissed r k line) = f s := hf _ (h (by decide)) _ _ (.fab ..)

theorem scalerMissed (h : missMarks ⊆ M) (s : State) (d r line : Nat) : f (s.scalerMissed d r line) = f s := by
  unfold State.scalerMissed
  dsimp only
  split_ifs
  · exact hf.setComp (h (by decide)) _ _ _
  · exact hf _ (h (by decide)) _ _ (.ras ..)
  · split
    · exact hf.markMissed h _ _ _ _
    · rfl
  · rfl

theorem ctuMissed (h : missMarks ⊆ M) (s : State) (ch rect ctu : Nat) : f (s.ctuMissed ch rect ctu) = f s := by
  unfold State.ctuMissed
  split
  · rfl
  · exact (hf.bump (h (by decide)) _ _).trans (hf _ (h (by decide)) _ _ (.enc ..))

theorem fallback (h : missMarks ⊆ M) (s : State) (d : Nat) (m : Miss) : f (s.fallback d m) = f s := by
  unfold State.fallback
  split
  · exact hf.markStale h _ _ _ _
  · exact hf.markMissed h _ _ _ _
  · exact hf.ctuMissed h _ _ _ _
  · exact (hf _ (h (by decide)) _ _ (.out ..)).trans (hf.bump (h (by decide)) _ _)
  · exact hf.markStale h _ _ _ _
  · exact (hf.setComp (h (by decide)) _ _ _).trans (hf.bump (h (by decide)) _ _)
  · exact hf.scalerMissed h _ _ _ _
  · exact hf.markMissed h _ _ _ _
  · rfl

theorem takeMiss (h : missMarks ⊆ M) (s : State) (d : Nat) (m : Miss) : f (s.takeMiss d m) = f s := by
  unfold State.takeMiss
  split
  · unfold State.overdraft
    extract_lets l w a
    have hw : f w = f s := (hf.bump (h (by decide)) _ _).trans ((hf.bump (h (by decide)) _ _).trans ((hf.bump (h (by decide)) _ _).trans (hf.fallback h _ _ _)))
    refine (hf _ (h (by decide)) _ _ (.led ..)).trans ?_
    dsimp only [a]
    split
    · exact (hf.bump (h (by decide)) _ _).trans hw
    · exact hw
  · rfl

end Blind

/-- What the start of a ledger cycle does before the tellers' round. -/
def State.beforeRound (s : State) (d : Nat) (misses : List Miss) (touched : List WordTouch) : State :=
  let x := s.td d
  let w := s.setTd d { x with cycle := if s.now = x.tickAt then 0 else min (x.cycle + 1) (frameCycles x.rate - 1) }
  let w := ((w.latchComps.latchHeads.freeSurfs d).dropPower.lanesPower.noteUnits).drainPtq
  misses.foldl (fun s m => s.takeMiss d m) (w.meetAll touched).2

theorem ledgerCycle_eq (s : State) (d : Nat) (misses : List Miss) (touched : List WordTouch) : s.ledgerCycle d misses touched = (s.beforeRound d misses touched).tellerRound (some d) := rfl

/-- What it touches. -/
def beforeRoundMarks : List Mark := .tds :: .obj o1410_PD_STATE :: (latchCompMarks ++ latchHeadMarks ++ freeSurfMarks ++ lanePowerMarks ++ unitMarks ++ drainMarks ++ memMarks ++ missMarks)

theorem Blind.beforeRound {M : List Mark} {α : Type} {f : State → α} (hf : Blind M f) (h : beforeRoundMarks ⊆ M) (s : State) (d : Nat) (misses : List Miss) (touched : List WordTouch) :
    f (s.beforeRound d misses touched) = f s := by
  have hsub : ∀ {l : List Mark}, l ⊆ beforeRoundMarks → l ⊆ M := fun hl => List.Subset.trans hl h
  refine (foldl_blind (fun s m => hf.takeMiss (hsub (by decide)) s d m) misses _).trans ?_
  refine (hf.meetAll (hsub (by decide)) _ _).trans ((hf.drainPtq (hsub (by decide)) _).trans ((hf.noteUnits (hsub (by decide)) _).trans ((hf.lanesPower (hsub (by decide)) _).trans ?_)))
  refine (hf.dropPower (h (.tail _ (.head _))) _).trans ((hf.freeSurfs (hsub (by decide)) _ _).trans ((hf.latchHeads (hsub (by decide)) _).trans ?_))
  exact (hf.latchComps (hsub (by decide)) _).trans (hf.setTd (h (.head _)) _ _ _)

end Sys2Proof.Machine
end

section
/-! SUPPORT. The task table: counts, ends, cancels and rounds (R225-R241). -/

namespace Sys2Proof.Machine
open Sys2Proof

/-! What the steps of the table touch. -/

/-- The counts of the table. -/
def noteTaskMarks : List Mark := [.obj o4200_TASKS_IN_USE, .obj o4200_TASKS_WAITING, .obj o4200_TASKS_READY, .obj o4200_TASKS_DISPATCHED, .obj o4203_READY_DEPTH, .obj o4203_WORKERS_BLOCKED,
  .alarm .TLR_TABLE_FULL]

/-- What marks a task as late. -/
def lateMarks : List Mark := [.obj o4202_LATENESS_NS, .obj o4202_LATE_FRAMES, .obj o4200_EXPIRED, .alarm .TLR_LATE]

namespace Blind

variable {M : List Mark} {α : Type} {f : State → α} (hf : Blind M f)
include hf

theorem noteTasks (h : noteTaskMarks ⊆ M) (s : State) : f s.noteTasks = f s := by
  unfold State.noteTasks
  extract_lets w r d n x y
  have hx : f x = f s := (hf.wr (h (by decide)) _ _ _).trans ((hf.wr (h (by decide)) _ _ _).trans ((hf.wr (h (by decide)) _ _ _).trans (hf.wr (h (by decide)) _ _ _)))
  have hy : f y = f s := (foldl_blind (fun s c => (hf.wr (h (by decide)) _ _ _).trans (hf.wr (h (by decide)) _ _ _)) _ x).trans hx
  split
  · exact (hf.clear (h (by decide)) _ _).trans hy
  · exact hy

theorem setTask (h : .tlr ∈ M) (s : State) (r : Nat) (x : Task) : f (s.setTask r x) = f s := hf _ h _ _ (.tlr ..)

theorem noteLateness (h : lateMarks ⊆ M) (s : State) (r : Nat) (x : Task) : f (s.noteLateness r x) = f s := by
  unfold State.noteLateness
  split
  · exact hf.wr (h (by decide)) _ _ _
  · exact hf.wr (h (by decide)) _ _ _

end Blind

/-! The end of a task (R231, R241). -/

theorem tasks_setTask (s : State) (r : Nat) (x : Task) : storeGet r (s.setTask r x).tlr.tasks = some x := storeGet_put_same ..

theorem tasks_setTask_ne (s : State) {r k : Nat} (h : k ≠ r) (x : Task) : storeGet k (s.setTask r x).tlr.tasks = storeGet k s.tlr.tasks := storeGet_put_ne natLt h x _

theorem endTask_some {s : State} {r : Nat} {x : Task} (hx : storeGet r s.tlr.tasks = some x) (st reason : Int) : ∃ w : State, s.endTask r st reason = w.noteTasks ∧
    w.rd o4202_TASK_STATE r = st ∧ w.rd o4202_END_REASON r = reason ∧ (∀ o, o ≠ o4202_TASK_STATE → o ≠ o4202_END_REASON → ∀ k, w.rd o k = s.rd o k) ∧
    (∀ o k, k ≠ r → w.rd o k = s.rd o k) ∧ (∀ k, (storeGet k s.tlr.tasks).isSome = true → (storeGet k w.tlr.tasks).isSome = true) := by
  refine ⟨((({ s with tlr := { s.tlr with finals := s.tlr.finals + 1 } }).setTask r { x with ended := s.tlr.finals + 1 }).wr o4202_TASK_STATE r st).wr o4202_END_REASON r reason, ?_,
    (State.rd_wr_obj _ _ (by decide)).trans (State.rd_wr_same ..), State.rd_wr_same .., fun o hs he k => (State.rd_wr_obj _ _ he).trans (State.rd_wr_obj _ _ hs),
    fun o k hk => (State.rd_wr_ne _ _ fun e => hk (Prod.mk.inj e).2).trans (State.rd_wr_ne _ _ fun e => hk (Prod.mk.inj e).2), fun k hk => ?_⟩
  · unfold State.endTask
    rw [hx]
  · by_cases hkr : k = r
    · rw [hkr]
      exact congrArg Option.isSome (tasks_setTask _ r _)
    · exact (congrArg Option.isSome (tasks_setTask_ne _ hkr _)).trans hk

theorem noteTasks_rd (s : State) {o : Nat} (hm : .obj o ∉ noteTaskMarks) (ha : o ∉ alarmSideObjects) (r : Nat) : s.noteTasks.rd o r = s.rd o r :=
  (blind_rd hm r (.inr ha)).noteTasks (List.Subset.refl _) s

theorem noteTasks_tlr (s : State) : s.noteTasks.tlr = s.tlr := (blind_tlr (M := noteTaskMarks) (by decide)).noteTasks (List.Subset.refl _) s

/-- The two objects of a row that a cancel decides. -/
def endObjects : List Nat := [o4202_TASK_STATE, o4202_END_REASON]

theorem endObjects_unmarked {o : Nat} (h : o ∈ endObjects) : .obj o ∉ noteTaskMarks ∧ .obj o ∉ lateMarks ∧ o ∉ alarmSideObjects ∧ o ≠ o4200_CANCELLED_BEFORE_DISPATCH := by
  simp only [endObjects, List.mem_cons, List.not_mem_nil, or_false] at h
  rcases h with rfl | rfl <;> decide

/-- The end of one task leaves every other row. -/
theorem endTask_row (s : State) {r k : Nat} (hk : k ≠ r) (st reason : Int) {o : Nat} (ho : o ∈ endObjects) : (s.endTask r st reason).rd o k = s.rd o k := by
  obtain ⟨hnote, -, hside, -⟩ := endObjects_unmarked ho
  cases hx : storeGet r s.tlr.tasks with
  | none =>
    unfold State.endTask
    rw [hx]
  | some x =>
    obtain ⟨w, hw, -, -, -, hrow, -⟩ := endTask_some hx st reason
    rw [hw, noteTasks_rd _ hnote hside, hrow o k hk]

/-- A task's end is told in its row. -/
theorem endTask_own {s : State} {r : Nat} (hx : (storeGet r s.tlr.tasks).isSome = true) (st reason : Int) :
    (s.endTask r st reason).rd o4202_TASK_STATE r = st ∧ (s.endTask r st reason).rd o4202_END_REASON r = reason := by
  obtain ⟨x, hx⟩ := Option.isSome_iff_exists.mp hx
  obtain ⟨w, hw, hst, hreason, -⟩ := endTask_some hx st reason
  rw [hw, noteTasks_rd _ (by decide) (by decide), noteTasks_rd _ (by decide) (by decide)]
  exact ⟨hst, hreason⟩

/-- No end of a task takes a row away. -/
theorem endTask_isSome {s : State} {k : Nat} (hk : (storeGet k s.tlr.tasks).isSome = true) (r : Nat) (st reason : Int) : (storeGet k (s.endTask r st reason).tlr.tasks).isSome = true := by
  cases hx : storeGet r s.tlr.tasks with
  | none =>
    unfold State.endTask
    rw [hx]
    exact hk
  | some x =>
    obtain ⟨w, hw, -, -, -, -, htasks⟩ := endTask_some hx st reason
    rw [hw, noteTasks_tlr]
    exact htasks k hk

/-! The first step of a round (R233, R240). -/

/-- A row whose task has ended by a cancel. -/
def State.cancelledRow (s : State) (r : Nat) : Prop := s.taskState r = TASK_STATE.cancelled ∧ s.rd o4202_END_REASON r = END_REASON.cancelled_before_dispatch

theorem cancelledRow_congr {s u : State} {r : Nat} (h : ∀ o ∈ endObjects, u.rd o r = s.rd o r) (hs : s.cancelledRow r) : u.cancelledRow r :=
  ⟨(h _ (by decide)).trans hs.1, (h _ (by decide)).trans hs.2⟩

/-- One cancel takes effect. -/
def State.cancelRow (s : State) (e : Nat × Task) : State := (s.bump o4200_CANCELLED_BEFORE_DISPATCH 0).endTask e.1 TASK_STATE.cancelled END_REASON.cancelled_before_dispatch

theorem cancelRow_keeps {s : State} {r : Nat} (hr : (storeGet r s.tlr.tasks).isSome = true) (e : Nat × Task) (h : s.cancelledRow r ∨ e.1 = r) : (s.cancelRow e).cancelledRow r := by
  by_cases he : e.1 = r
  · obtain ⟨hst, hreason⟩ := endTask_own (s := s.bump o4200_CANCELLED_BEFORE_DISPATCH 0) (r := e.1) (he ▸ hr) TASK_STATE.cancelled END_REASON.cancelled_before_dispatch
    exact he ▸ ⟨hst, hreason⟩
  · exact cancelledRow_congr (fun o ho => (endTask_row _ (Ne.symm he) _ _ ho).trans (rd_bump_obj s (endObjects_unmarked ho).2.2.2 0 r)) (h.resolve_right he)

theorem foldl_cancelRow {r : Nat} (l : List (Nat × Task)) (s : State) (hr : (storeGet r s.tlr.tasks).isSome = true) (h : s.cancelledRow r ∨ r ∈ l.map (·.1)) :
    (l.foldl State.cancelRow s).cancelledRow r := by
  induction l generalizing s with
  | nil => exact h.resolve_right List.not_mem_nil
  | cons e l ih =>
    refine ih (s.cancelRow e) (endTask_isSome (s := s.bump o4200_CANCELLED_BEFORE_DISPATCH 0) hr e.1 _ _) ?_
    rcases h with h | h
    · exact .inl (cancelRow_keeps hr e (.inl h))
    · rcases List.mem_cons.mp h with h | h
      · exact .inl (cancelRow_keeps hr e (.inr h.symm))
      · exact .inr h

theorem mem_byCancel (e : Nat × Task) (l : List (Nat × Task)) (y : Nat × Task) : y ∈ byCancel e l ↔ y = e ∨ y ∈ l := by
  induction l with
  | nil => simp [byCancel]
  | cons z l ih =>
    unfold byCancel
    split
    · exact List.mem_cons
    · simp only [List.mem_cons, ih]
      tauto

theorem mem_foldr_byCancel (l : List (Nat × Task)) (y : Nat × Task) : y ∈ l.foldr byCancel [] ↔ y ∈ l := by
  induction l with
  | nil => rfl
  | cons z l ih => rw [List.foldr_cons, mem_byCancel, ih, List.mem_cons]

theorem storeGet_isSome_of_mem {α : Type} {l : Store Nat α} {r : Nat} {x : α} (h : (r, x) ∈ l) : (storeGet r l).isSome = true := by
  induction l with
  | nil => exact absurd h List.not_mem_nil
  | cons e l ih =>
    obtain ⟨k, y⟩ := e
    unfold storeGet
    split
    · rfl
    next hne =>
      rcases List.mem_cons.mp h with h | h
      · exact absurd (Prod.mk.inj h).1.symm hne
      · exact ih h

theorem applyCancels_cancels {s : State} {r : Nat} {x : Task} (hm : (r, x) ∈ s.tlr.tasks) (hreq : s.isOn o4202_CANCEL_REQUESTED r = true)
    (hst : s.taskState r = TASK_STATE.waiting ∨ s.taskState r = TASK_STATE.ready) : s.applyCancels.cancelledRow r := by
  refine foldl_cancelRow _ s (storeGet_isSome_of_mem hm) (.inr (List.mem_map.mpr ⟨(r, x), (mem_foldr_byCancel _ _).mpr (List.mem_filter.mpr ⟨hm, ?_⟩), rfl⟩))
  simp only [hreq, Bool.true_and, Bool.or_eq_true, beq_iff_eq]
  exact hst

/-! The other steps of a round leave a row that has ended (R233, R238). -/

section
variable {s : State} {r k : Nat} (hk : k ≠ r) {o : Nat} (ho : o ∈ endObjects)
include hk ho

theorem taskLate_row (x : Task) : (s.taskLate r x).rd o k = s.rd o k := by
  obtain ⟨-, hlate, hside, -⟩ := endObjects_unmarked ho
  have hf : Blind lateMarks (·.rd o k) := blind_rd hlate k (.inr hside)
  unfold State.taskLate
  split
  · exact (endTask_row _ hk _ _ ho).trans ((hf.raiseQuiet (by decide) _ _).trans ((hf.bump (by decide) _ _).trans (hf.noteLateness (List.Subset.refl _) _ _ _)))
  · rfl

theorem overtake_row (d : Option Nat) (x : Task) : (s.overtake d r x).rd o k = s.rd o k := by
  unfold State.overtake
  split
  · exact taskLate_row hk ho x
  · rfl

theorem moveTask_row (d : Option Nat) (x : Task) : (s.moveTask d r x).rd o k = s.rd o k := by
  unfold State.moveTask
  extract_lets w y ontime v
  have hv : v.rd o k = s.rd o k := State.rd_wr_ne _ _ fun e => hk (Prod.mk.inj e).2
  split_ifs
  · exact hv
  · exact (taskLate_row hk ho y).trans hv
  · rfl

end

theorem tasksIn_ne {s : State} {r : Nat} {st : Int} (h : s.taskState r ≠ st) {e : Nat × Task} (he : e ∈ s.tasksIn st) : r ≠ e.1 := fun hr =>
  h (by rw [hr]; exact beq_iff_eq.mp (List.mem_filter.mp he).2)

/-- A round of either kind carries out the cancels that it finds (R240). -/
theorem tellerRound_cancels {s : State} {r : Nat} {x : Task} (hm : (r, x) ∈ s.tlr.tasks) (hreq : s.isOn o4202_CANCEL_REQUESTED r = true)
    (hst : s.taskState r = TASK_STATE.waiting ∨ s.taskState r = TASK_STATE.ready) (d : Option Nat) : (s.tellerRound d).cancelledRow r := by
  have hcancelled := applyCancels_cancels hm hreq hst
  obtain ⟨a, ha⟩ : ∃ a, a = s.applyCancels := ⟨_, rfl⟩
  obtain ⟨b, hb⟩ : ∃ b, b = (a.tasksIn TASK_STATE.ready).foldl (fun s e => s.overtake d e.1 e.2) a := ⟨_, rfl⟩
  have hround : s.tellerRound d = ((b.tasksIn TASK_STATE.waiting).foldl (fun s e => s.moveTask d e.1 e.2) b).noteTasks := by rw [hb, ha]; rfl
  rw [← ha] at hcancelled
  have hbrow : b.cancelledRow r := cancelledRow_congr (fun o ho => by
    rw [hb]
    exact foldl_blind_mem (f := (·.rd o r)) (fun e he s => overtake_row (tasksIn_ne (by rw [hcancelled.1]; decide) he) ho d e.2) a) hcancelled
  refine cancelledRow_congr (fun o ho => ?_) hbrow
  rw [hround, noteTasks_rd _ (endObjects_unmarked ho).1 (endObjects_unmarked ho).2.2.1]
  exact foldl_blind_mem (f := (·.rd o r)) (fun e he s => moveTask_row (tasksIn_ne (by rw [hbrow.1]; decide) he) ho d e.2) b

end Sys2Proof.Machine
end

section
/-! SUPPORT. Tasks are created, cancelled, dispatched and completed (R225-R241, R394). -/

namespace Sys2Proof.Machine
open Sys2Proof

/-! Creation (R230, R231). -/

theorem takeRow_some {s : State} {r : Nat} (h : s.freeRow = some r) (x : Task) : ∃ w : State, s.takeRow x = (stOK, r, w.noteTasks) ∧ w.taskState r = TASK_STATE.waiting ∧
    w.rd o4202_TASK_HANDLE r = s.nextHandle r ∧ storeGet r w.tlr.tasks = some { x with order := s.tlr.created + 1, fresh := true } ∧ w.ctl = s.ctl := by
  unfold State.takeRow
  rw [h]
  refine ⟨_, rfl, ?_, ?_, ?_, ?_⟩
  · unfold State.taskState
    simp (disch := decide) only [List.foldl_cons, List.foldl_nil, State.rd_wr_obj, State.rd_wr_same]
  · simp (disch := decide) only [List.foldl_cons, List.foldl_nil, State.rd_wr_obj, State.rd_wr_same]
  · simp only [List.foldl_cons, List.foldl_nil, State.wr_tlr]
    exact tasks_setTask _ r _
  · simp only [List.foldl_cons, List.foldl_nil, State.wr_ctl]
    rfl

theorem taskCreate_taken {s : State} {c : Ctx} (hvalue : valueFits (s.taskWritten c).kind (s.taskWritten c).value = true) (hkey : s.keyFits (s.taskWritten c) = true)
    (htarget : (s.taskWritten c).kind = TASK_KIND_READ.write → targetFits (s.taskWritten c).target (s.taskWritten c).value = true)
    (hheld : s.tasksHeld c.port (s.taskWritten c).session < s.rdN o4200_SESSION_TASK_LIMIT 0) {k r : Nat} {w : State} (hrow : s.takeRow (s.taskWritten c) = (k, r, w)) :
    s.taskCreate c = if k ≠ stOK then (k, w) else (stOK, w.wr o4201_CMD_HANDLE c.port (w.rd o4202_TASK_HANDLE r)) := by
  unfold State.taskCreate
  dsimp only
  rw [if_neg (by rw [hvalue]; decide), if_neg (by rw [hkey]; decide), if_neg (fun ⟨hk, hn⟩ => Bool.false_ne_true (hn.symm.trans (htarget hk))),
    if_neg (fun ⟨_, hn⟩ => absurd hheld (not_lt.mpr hn)), hrow]

section
variable {s : State} {t port : Nat} {c : Ctx} (hp : s.powered = true)
include hp

section
variable (hc : s.ctxOf port = some c) (ha : s.admits port o4201_TASK_CMD 0 (.int TASK_CMD.create) = true)
  (hvalue : valueFits (s.taskWritten c).kind (s.taskWritten c).value = true) (hkey : s.keyFits (s.taskWritten c) = true)
  (htarget : (s.taskWritten c).kind = TASK_KIND_READ.write → targetFits (s.taskWritten c).target (s.taskWritten c).value = true)
  (hheld : s.tasksHeld port (s.taskWritten c).session < s.rdN o4200_SESSION_TASK_LIMIT 0)
include hc ha hvalue hkey htarget hheld

theorem task_created {r : Nat} (hr : s.freeRow = some r) : ∃ u y, exec (.taskCreate t port) s = .next u ∧ u.last = ⟨0, none⟩ ∧ u.taskState r = TASK_STATE.waiting ∧
    u.rd o4202_TASK_HANDLE r = s.nextHandle r ∧ u.rd o4201_CMD_HANDLE port = s.nextHandle r ∧ storeGet r u.tlr.tasks = some y ∧
    y = { s.taskWritten c with order := s.tlr.created + 1, fresh := true } := by
  have hport : c.port = port := ctxOf_port hc
  obtain ⟨w, hrow, hst, hhandle, htask, hctl⟩ := takeRow_some (s := s.begin t) hr (s.taskWritten c)
  obtain ⟨n, hn⟩ : ∃ n, n = w.noteTasks := ⟨_, rfl⟩
  have hnst : n.taskState r = TASK_STATE.waiting := hn ▸ (noteTasks_rd w (by decide) (by decide) r).trans hst
  have hnhandle : n.rd o4202_TASK_HANDLE r = (s.nextHandle r : Nat) := hn ▸ (noteTasks_rd w (by decide) (by decide) r).trans hhandle
  have hntask : storeGet r n.tlr.tasks = some { s.taskWritten c with order := s.tlr.created + 1, fresh := true } := by rw [hn, noteTasks_tlr]; exact htask
  have hnctl : n.ctl = s.ctl := (hn ▸ (blind_ctl (M := noteTaskMarks) (by decide)).noteTasks (List.Subset.refl _) w).trans hctl
  rw [← hn] at hrow
  have hcreate := taskCreate_taken (s := s.begin t) (c := c) hvalue hkey htarget (hport ▸ hheld) hrow
  rw [if_neg (not_not.mpr rfl), hnhandle, hport] at hcreate
  obtain ⟨e, hrun, hend⟩ := run_accepted (t := t) (h := writeTaskCmd) (w := (n.wr o4201_CMD_HANDLE port (s.nextHandle r : Nat)).wr o4201_CMD_RESULT port 0) hp ha (fun y hy _ => by
    obtain rfl := Option.some.inj (hy.symm.trans hc)
    rw [show writeTaskCmd y (effRow y o4201_TASK_CMD 0) (.int TASK_CMD.create) (s.begin t) = (((s.begin t).taskCreate y).1, ((s.begin t).taskCreate y).2.wr o4201_CMD_RESULT y.port
      ((s.begin t).taskCreate y).1) from rfl, hcreate, hport]
    rfl) (congrArg Ctl.endAfter hnctl)
  refine ⟨_, _, hrun, hend.last, (hend.rd _ _ (by decide)).trans ?_, (hend.rd _ _ (by decide)).trans ?_, (hend.rd _ _ (by decide)).trans ?_, hntask, rfl⟩
  · exact (State.rd_wr_obj _ _ (by decide)).trans ((State.rd_wr_obj _ _ (by decide)).trans hnst)
  · exact (State.rd_wr_obj _ _ (by decide)).trans ((State.rd_wr_obj _ _ (by decide)).trans hnhandle)
  · exact (State.rd_wr_obj _ _ (by decide)).trans (State.rd_wr_same ..)

theorem task_busy (hr : s.freeRow = none) : ∃ u, exec (.taskCreate t port) s = .next u ∧ u.last = ⟨1, none⟩ ∧ u.tlr = s.tlr ∧ u.rd o4201_CMD_RESULT port = 1 := by
  have hport : c.port = port := ctxOf_port hc
  obtain ⟨w, hw⟩ : ∃ w, w = ((s.begin t).bump o4200_BUSY_REFUSALS 0).raise .TLR_TABLE_FULL noInst := ⟨_, rfl⟩
  have hrow : (s.begin t).takeRow (s.taskWritten c) = (stBUSY, 0, w) := by
    unfold State.takeRow
    rw [show (s.begin t).freeRow = none from hr, hw]
  have hblind : ∀ {α : Type} {f : State → α}, Blind [.obj o4200_BUSY_REFUSALS, .alarm .TLR_TABLE_FULL] f → f w = f (s.begin t) := fun hf =>
    hw ▸ (hf.raise (by decide) _ _).trans (hf.bump (by decide) _ _)
  have hcreate := taskCreate_taken (s := s.begin t) (c := c) hvalue hkey htarget (hport ▸ hheld) hrow
  rw [if_pos (by decide)] at hcreate
  have hrun := run_refused (t := t) (h := writeTaskCmd) (k := stBUSY) (w := w.wr o4201_CMD_RESULT port stBUSY) hp ha (fun y hy _ => by
    obtain rfl := Option.some.inj (hy.symm.trans hc)
    rw [show writeTaskCmd y (effRow y o4201_TASK_CMD 0) (.int TASK_CMD.create) (s.begin t) = (((s.begin t).taskCreate y).1, ((s.begin t).taskCreate y).2.wr o4201_CMD_RESULT y.port
      ((s.begin t).taskCreate y).1) from rfl, hcreate, hport]) (by decide) (congrArg Ctl.endAfter (hblind (blind_ctl (by decide))))
  rw [noteRefusal_low _ _ _ (by decide)] at hrun
  exact ⟨_, hrun, rfl, hblind (blind_tlr (by decide)), (refused_rd ..).trans (State.rd_wr_same ..)⟩

end

/-! Cancel (R237, R240). -/

theorem task_cancelled {x : Task} (hc : s.ctxOf port = some c) (ha : s.admits port o4201_TASK_CMD 0 (.int TASK_CMD.cancel) = true) {r : Nat} (hr : r = s.rdN o4201_CMD_HANDLE port % 4096)
    (hx : storeGet r s.tlr.tasks = some x) (hhandle : s.rdN o4202_TASK_HANDLE r = s.rdN o4201_CMD_HANDLE port) (hpart : c.part = none ∨ x.part = c.part)
    (hkind : x.kind ≠ TASK_KIND_READ.salvo_anchor) (hst : s.taskState r = TASK_STATE.waiting ∨ s.taskState r = TASK_STATE.ready) :
    ∃ u, exec (.taskCancel t port) s = .next u ∧ u.last = ⟨0, none⟩ ∧ u.rd o4202_CANCEL_REQUESTED r = 1 ∧ u.taskState r = s.taskState r ∧
      s.keepsRegs u [(o4202_CANCEL_REQUESTED, r), (o4201_CMD_RESULT, port)] ∧ storeGet r u.tlr.tasks = some { x with cancelled := s.tlr.cancels } ∧
      ∀ k, k ≠ r → storeGet k u.tlr.tasks = storeGet k s.tlr.tasks := by
  have hport : c.port = port := ctxOf_port hc
  obtain ⟨w, hw⟩ : ∃ w : State, w = { (s.begin t).setTask r { x with cancelled := s.tlr.cancels } with
      tlr := { ((s.begin t).setTask r { x with cancelled := s.tlr.cancels }).tlr with cancels := s.tlr.cancels + 1 } } := ⟨_, rfl⟩
  have hrd : ∀ o k, w.rd o k = s.rd o k := fun o k => hw ▸ rfl
  have hoct : ∀ o k, w.rdOct o k = s.rdOct o k := fun o k => hw ▸ rfl
  have hctl : w.ctl = s.ctl := hw ▸ rfl
  have hown : storeGet r w.tlr.tasks = some { x with cancelled := s.tlr.cancels } := hw ▸ tasks_setTask (s.begin t) r _
  have hothers : ∀ k, k ≠ r → storeGet k w.tlr.tasks = storeGet k s.tlr.tasks := fun k hk => hw ▸ tasks_setTask_ne (s.begin t) hk _
  have hcancel : (s.begin t).taskCancel c = (stOK, w.wr o4202_CANCEL_REQUESTED r 1) := by
    have hx' : storeGet ((s.begin t).rdN o4201_CMD_HANDLE c.port % 4096) (s.begin t).tlr.tasks = some x := by rw [hport]; exact hr ▸ hx
    have hr' : (s.begin t).rdN o4201_CMD_HANDLE c.port % 4096 = r := by rw [hport]; exact hr.symm
    unfold State.taskCancel
    dsimp only
    rw [hx', hr']
    dsimp only
    rw [if_neg (not_not.mpr (by rw [hport]; exact hhandle)), if_neg (fun ⟨hn, hne⟩ => hpart.elim hn hne), if_neg hkind, if_neg (fun ⟨hw, hr⟩ => hst.elim hw hr), hw]
    rfl
  obtain ⟨e, hrun, hend⟩ := run_accepted (t := t) (h := writeTaskCmd) (w := (w.wr o4202_CANCEL_REQUESTED r 1).wr o4201_CMD_RESULT port 0) hp ha (fun y hy _ => by
    obtain rfl := Option.some.inj (hy.symm.trans hc)
    rw [show writeTaskCmd y (effRow y o4201_TASK_CMD 0) (.int TASK_CMD.cancel) (s.begin t) = (((s.begin t).taskCancel y).1, ((s.begin t).taskCancel y).2.wr o4201_CMD_RESULT y.port
      ((s.begin t).taskCancel y).1) from rfl, hcancel, hport]
    rfl) (congrArg Ctl.endAfter hctl)
  refine ⟨_, hrun, hend.last, (hend.rd _ _ (by decide)).trans ((State.rd_wr_obj _ _ (by decide)).trans (State.rd_wr_same ..)),
    (hend.rd _ _ (by decide)).trans ((State.rd_wr_obj _ _ (by decide)).trans ((State.rd_wr_obj _ _ (by decide)).trans (hrd _ _))), ?_, hown, hothers⟩
  have hkeeps : s.keepsRegs w [(o4202_CANCEL_REQUESTED, r), (o4201_CMD_RESULT, port)] := ⟨fun o k _ _ => hrd o k, fun o k _ => hoct o k⟩
  exact hend.keepsRegs ((hkeeps.wr _ (.head _)).wr _ (.tail _ (.head _)))

/-! Rounds (R233, R240). -/

/-- A command whose work leaves a row cancelled. -/
theorem run_cancelled {f : State → State} {w : State} {r : Nat} (hf : f (s.begin t) = w) (h : w.cancelledRow r) :
    ∃ u, s.run t f = .next u ∧ u.taskState r = TASK_STATE.cancelled ∧ u.rd o4202_END_REASON r = END_REASON.cancelled_before_dispatch :=
  ⟨_, run_work hp hf, (State.finish_rd ..).trans h.1, (State.finish_rd ..).trans h.2⟩

section
variable {r : Nat} {x : Task} (hm : (r, x) ∈ s.tlr.tasks) (hreq : s.isOn o4202_CANCEL_REQUESTED r = true)
  (hst : s.taskState r = TASK_STATE.waiting ∨ s.taskState r = TASK_STATE.ready)
include hm hreq hst

theorem grid_cancels : ∃ u, exec (.timeGridInstant t) s = .next u ∧ u.taskState r = TASK_STATE.cancelled ∧ u.rd o4202_END_REASON r = END_REASON.cancelled_before_dispatch :=
  run_cancelled (f := fun s => s.tellerRound none) hp rfl (tellerRound_cancels (s := s.begin t) hm hreq hst none)

theorem cycle_cancels (d : Nat) (misses : List Miss) (touched : List WordTouch) (hd : d < 4) :
    ∃ u, exec (.ledgerCycleStart t d misses touched) s = .next u ∧ u.taskState r = TASK_STATE.cancelled ∧ u.rd o4202_END_REASON r = END_REASON.cancelled_before_dispatch := by
  obtain ⟨w, hw⟩ : ∃ w, w = (s.begin t).beforeRound d misses touched := ⟨_, rfl⟩
  have hrd : ∀ {o}, .obj o ∉ beforeRoundMarks → o ∉ alarmSideObjects → w.rd o r = s.rd o r := fun hm hs => by
    rw [hw]
    exact (blind_rd hm r (.inr hs)).beforeRound (List.Subset.refl _) (s.begin t) d misses touched
  have htlr : w.tlr = s.tlr := by
    rw [hw]
    exact (blind_tlr (by decide)).beforeRound (List.Subset.refl _) (s.begin t) d misses touched
  have hstate : w.taskState r = s.taskState r := hrd (by decide) (by decide)
  have hasked : w.isOn o4202_CANCEL_REQUESTED r = true := (congrArg (· == 1) (hrd (by decide) (by decide))).trans hreq
  have hround := tellerRound_cancels (s := w) (x := x) (htlr ▸ hm) hasked (hstate ▸ hst) (some d)
  have hcycle : (s.begin t).ledgerCycle d misses touched = w.tellerRound (some d) := by rw [ledgerCycle_eq, hw]
  exact run_cancelled (f := fun s => if d < 4 then s.ledgerCycle d misses touched else s) hp ((if_pos hd).trans hcycle) hround

end

/-! Completion (R226, R235). -/

theorem task_completed {r : Nat} {x : Task} (hx : storeGet r s.tlr.tasks = some x) (hst : s.taskState r = TASK_STATE.dispatched) (hdue : x.dispatchedAt + x.service ≤ max s.now t) :
    ∃ u, exec (.taskComplete t r) s = .next u ∧ u.taskState r = (if x.result = 0 then TASK_STATE.done else TASK_STATE.failed) ∧ u.rd o4202_OUTCOME r = x.result ∧
      u.rd o4202_END_REASON r = (if x.result = 0 then END_REASON.completed else END_REASON.refused_by_worker) := by
  have hwork : (s.begin t).taskComplete r = ((s.begin t).wr o4202_OUTCOME r x.result).endTask r (if x.result = 0 then TASK_STATE.done else TASK_STATE.failed)
      (if x.result = 0 then END_REASON.completed else END_REASON.refused_by_worker) := by
    unfold State.taskComplete
    rw [show storeGet r (s.begin t).tlr.tasks = some x from hx]
    dsimp only
    rw [if_pos ⟨hst, hdue⟩]
    split_ifs <;> rfl
  obtain ⟨w, hw, hstate, hreason, hrd, -⟩ := endTask_some (s := (s.begin t).wr o4202_OUTCOME r x.result) (r := r) hx (if x.result = 0 then TASK_STATE.done else TASK_STATE.failed)
    (if x.result = 0 then END_REASON.completed else END_REASON.refused_by_worker)
  refine ⟨_, run_work (f := (·.taskComplete r)) hp (hwork.trans hw), ?_, ?_, ?_⟩
  · exact (State.finish_rd ..).trans ((noteTasks_rd w (by decide) (by decide) r).trans hstate)
  · exact (State.finish_rd ..).trans ((noteTasks_rd w (by decide) (by decide) r).trans ((hrd _ (by decide) (by decide) r).trans (State.rd_wr_same ..)))
  · exact (State.finish_rd ..).trans ((noteTasks_rd w (by decide) (by decide) r).trans hreason)

end

end Sys2Proof.Machine
end

section
/-! SUPPORT. A task of class 'notify' is dispatched (R226, R235, R394). -/

namespace Sys2Proof.Machine
open Sys2Proof

/-! The head of a ready list (R234). -/

/-- A fold that takes each element or keeps what it has ends with one of them. -/
theorem foldl_choice_mem {α : Type} {g : Option α → α → Option α} (hg : ∀ o e, g o e = some e ∨ g o e = o) (l : List α) (o : Option α) {y : α} (h : l.foldl g o = some y) :
    o = some y ∨ y ∈ l := by
  induction l generalizing o with
  | nil => exact .inl h
  | cons e l ih =>
    rcases ih _ h with hm | hm
    · rcases hg o e with he | he
      · exact .inr (Option.some.inj (he.symm.trans hm) ▸ .head _)
      · exact .inl (he.symm.trans hm)
    · exact .inr (.tail _ hm)

theorem readyHead_mem {s : State} {cls r : Nat} {x : Task} (h : s.readyHead cls = some (r, x)) : x.cls = cls := by
  have hm := (foldl_choice_mem (fun o e => by
    cases o with
    | none => exact .inl rfl
    | some b =>
      dsimp only
      split
      · exact .inl rfl
      · exact .inr rfl) _ none h).resolve_left (by simp)
  exact beq_iff_eq.mp (List.mem_filter.mp hm).2

/-- The class 'notify' is that of notifications alone (R226). -/
theorem cls_notify {x : Task} (h : x.cls = 4) : x.kind = TASK_KIND_READ.notify := by
  unfold Task.cls at h
  split at h
  · dsimp only at h
    split_ifs at h <;> omega
  · split at h
    · assumption
    · omega

theorem taskAct_notify {x : Task} (h : x.kind = TASK_KIND_READ.notify) (s : State) (handle : Nat) : s.taskAct handle x = s.notify handle x := by
  unfold State.taskAct
  rw [if_neg (by rw [h]; decide), if_neg (by rw [h]; decide), if_neg (by rw [h]; decide), if_neg (by rw [h]; decide)]

/-! What a dispatch writes (R235, R238). -/

def dispatchLateMarks : List Mark := .obj o4202_LATE :: .obj o4200_LATE_DISPATCHES :: lateMarks

/-- A late task is marked as it goes to its worker. -/
def State.dispatchLate (s : State) (r : Nat) (x : Task) : State := if x.late then (((s.wr o4202_LATE r 1).noteLateness r x).bump o4200_LATE_DISPATCHES 0).raiseQuiet .TLR_LATE noInst else s

theorem Blind.dispatchLate {M : List Mark} {α : Type} {f : State → α} (hf : Blind M f) (h : dispatchLateMarks ⊆ M) (s : State) (r : Nat) (x : Task) : f (s.dispatchLate r x) = f s := by
  unfold State.dispatchLate
  split
  · exact (hf.raiseQuiet (h (by decide)) _ _).trans ((hf.bump (h (by decide)) _ _).trans ((hf.noteLateness (List.Subset.trans (by decide) h) _ _ _).trans (hf.wr (h (by decide)) _ _ _)))
  · rfl

/-- The row of a task that goes to a worker, and the counts of dispatches. -/
def State.toWorker (s : State) (r : Nat) (x : Task) : State :=
  (((((s.setTask r { x with dispatchedAt := s.now }).wr o4202_TASK_STATE r TASK_STATE.dispatched).wr o4202_DISPATCH_S r s.clkSec).wr o4202_DISPATCH_NS r s.clkNs).bump o4200_DISPATCHES 0).bump
    o4203_CLASS_DISPATCHES x.cls

theorem dispatched_eq (s : State) (r : Nat) (x : Task) : s.dispatched r x = ((s.toWorker r x).dispatchLate r x).noteTasks := rfl

def dispatchSideMarks : List Mark := dispatchLateMarks ++ noteTaskMarks

theorem Blind.dispatched {M : List Mark} {α : Type} {f : State → α} (hf : Blind M f) (h : dispatchSideMarks ⊆ M) (s : State) (r : Nat) (x : Task) : f (s.dispatched r x) = f (s.toWorker r x) :=
  (hf.noteTasks (List.Subset.trans (by decide) h) _).trans (hf.dispatchLate (List.Subset.trans (by decide) h) _ _ _)

section
variable (s : State) (r : Nat) (x : Task)

theorem dispatched_ctl : (s.dispatched r x).ctl = s.ctl := (blind_ctl (by decide)).dispatched (List.Subset.refl _) s r x

theorem dispatched_clk : (s.dispatched r x).clk = s.clk := (blind_clk (by decide)).dispatched (List.Subset.refl _) s r x

theorem dispatched_state : (s.dispatched r x).taskState r = TASK_STATE.dispatched := by
  refine ((blind_rd (by decide) r (.inr (by decide))).dispatched (List.Subset.refl _) s r x).trans ?_
  unfold State.toWorker
  simp (disch := decide) only [rd_bump_obj, State.rd_wr_obj, State.rd_wr_same]

theorem dispatched_count : (s.dispatched r x).rd o4200_DISPATCHES 0 = (s.rd o4200_DISPATCHES 0 + 1) % objModulus o4200_DISPATCHES := by
  refine ((blind_rd (by decide) 0 (.inr (by decide))).dispatched (List.Subset.refl _) s r x).trans ?_
  unfold State.toWorker
  simp (disch := decide) only [rd_bump_obj, rd_bump_same, State.rd_wr_obj]
  rfl

theorem dispatched_handle : (s.dispatched r x).rd o4202_TASK_HANDLE r = s.rd o4202_TASK_HANDLE r := by
  refine ((blind_rd (by decide) r (.inr (by decide))).dispatched (List.Subset.refl _) s r x).trans ?_
  unfold State.toWorker
  simp (disch := decide) only [rd_bump_obj, State.rd_wr_obj]
  rfl

theorem dispatched_isStandby : (s.dispatched r x).isStandby = s.isStandby := by
  have hdev : (s.dispatched r x).rd o1401_DEVICE_STATE 0 = s.rd o1401_DEVICE_STATE 0 := by
    refine ((blind_rd (by decide) 0 (.inr (by decide))).dispatched (List.Subset.refl _) s r x).trans ?_
    unfold State.toWorker
    simp (disch := decide) only [rd_bump_obj, State.rd_wr_obj]
    rfl
  have hpair : (s.dispatched r x).rd o1601_PAIR_STATE 0 = s.rd o1601_PAIR_STATE 0 := by
    refine ((blind_rd_calm (by decide) 0 (by decide) (by decide)).dispatched (List.Subset.refl _) s r x).trans ?_
    unfold State.toWorker
    simp (disch := decide) only [rd_bump_obj, State.rd_wr_obj]
    rfl
  unfold State.isStandby
  rw [hdev, hpair]

end

/-! The EVENT (R394). -/

theorem length_leBytes (n v : Nat) : (leBytes n v).length = n := by
  induction n generalizing v with
  | zero => rfl
  | succ n ih => exact congrArg (· + 1) (ih _)

theorem length_fieldBytes (n : Nat) (b : Bytes) : (fieldBytes n b).length = n := by simp [fieldBytes, zeros]

/-- What a notification carries. -/
def notifyBody (handle : Nat) (x : Task) (at_ : Nat) : Bytes := leBytes 4 handle ++ leBytes 1 x.value.length ++ zeros 3 ++ fieldBytes 8 x.value ++ leBytes 12 at_

theorem length_notifyBody (handle : Nat) (x : Task) (at_ : Nat) : (notifyBody handle x at_).length = 28 := by
  simp [notifyBody, length_leBytes, length_fieldBytes, zeros]

/-- A notification to an open session. -/
theorem notify_open {s : State} {x : Task} {y : Session} (hy : (s.port x.port).session = some y) (hstand : s.isStandby = false) (handle : Nat) :
    ∃ w, s.notify handle x = (stOK, w) ∧ (∀ o r, o ≠ o1101_EVENTS_SENT → w.rd o r = s.rd o r) ∧
      .sdp x.port y.addr y.udp (sessionMsg y 0x20 y.eventSeq 0 0 (leBytes 2 1 ++ leBytes 2 28 ++ notifyBody handle x s.time96)) ∈ w.out := by
  refine ⟨s.sendEvent x.port 1 (notifyBody handle x s.time96), if_neg ?_, ?_, ?_⟩
  · rw [hy, hstand]
    exact fun h => h.elim Bool.false_ne_true Bool.false_ne_true
  · intro o r ho
    rw [sendEvent_open _ _ hy]
    exact rd_bump_obj _ ho _ _
  · rw [sendEvent_open _ _ hy, length_notifyBody]
    exact List.mem_append_right _ (List.mem_singleton_self _)

theorem task_dispatched {s : State} {t : Nat} (hp : s.powered = true) {r : Nat} {x : Task} {y : Session} (hfree : s.workerFree 4 = true) (hhead : s.readyHead 4 = some (r, x))
    (hy : (s.port x.port).session = some y) (hstand : s.isStandby = false) :
    ∃ u, exec (.taskDispatch t 4) s = .next u ∧ u.taskState r = TASK_STATE.dispatched ∧ u.rd o4200_DISPATCHES 0 = (s.rd o4200_DISPATCHES 0 + 1) % objModulus o4200_DISPATCHES ∧
      .sdp x.port y.addr y.udp (sessionMsg y 0x20 y.eventSeq 0 0 (leBytes 2 1 ++ leBytes 2 28 ++ notifyBody (s.rdN o4202_TASK_HANDLE r) x (s.begin t).time96)) ∈ u.out := by
  obtain ⟨d, hd⟩ : ∃ d, d = (s.begin t).dispatched r x := ⟨_, rfl⟩
  have hdport : (d.port x.port).session = some y := by rw [hd, port_congr (dispatched_ctl _ _ _)]; exact hy
  have hdstand : d.isStandby = false := by rw [hd, dispatched_isStandby]; exact hstand
  have hdtime : d.time96 = (s.begin t).time96 := by
    unfold State.time96 State.clkSec State.clkNs State.clkFrac
    rw [hd, dispatched_clk]
  have hdhandle : d.rdN o4202_TASK_HANDLE r = s.rdN o4202_TASK_HANDLE r := congrArg Int.toNat (hd ▸ dispatched_handle (s.begin t) r x)
  have hdstate : d.taskState r = TASK_STATE.dispatched := hd ▸ dispatched_state _ _ _
  have hdcount : d.rd o4200_DISPATCHES 0 = (s.rd o4200_DISPATCHES 0 + 1) % objModulus o4200_DISPATCHES := hd ▸ dispatched_count (s.begin t) r x
  obtain ⟨w, hw, hrd, hout⟩ := notify_open hdport hdstand (s.rdN o4202_TASK_HANDLE r)
  obtain ⟨v, hv, hvrd, hvout⟩ : ∃ v, (s.begin t).dispatchClass 4 = v ∧ (∀ o k, v.rd o k = w.rd o k) ∧ v.out = w.out := by
    refine ⟨_, rfl, ?_⟩
    unfold State.dispatchClass
    rw [if_neg (by rw [show (s.begin t).workerFree 4 = true from hfree]; decide), show (s.begin t).readyHead 4 = some (r, x) from hhead]
    dsimp only
    rw [← hd, hdhandle, taskAct_notify (cls_notify (readyHead_mem hhead)), hw]
    dsimp only
    split
    · exact ⟨fun _ _ => rfl, rfl⟩
    · exact ⟨fun _ _ => rfl, rfl⟩
  refine ⟨_, run_work (f := fun s => if 4 < 5 then s.dispatchClass 4 else s) hp hv, ?_, ?_, ?_⟩
  · exact (State.finish_rd ..).trans ((hvrd _ _).trans ((hrd _ _ (by decide)).trans hdstate))
  · exact (State.finish_rd ..).trans ((hvrd _ _).trans ((hrd _ _ (by decide)).trans hdcount))
  · rw [hdtime, ← hvout] at hout
    exact hout

/-- Settles O25: creation and cancel by their checks, the rounds by the first of their steps, a dispatch by the kind that its class stands for. -/
theorem tasksLiveAndEnd : Obligations.TasksLiveAndEnd := by
  unfold Obligations.TasksLiveAndEnd
  intro s t port c hp
  refine ⟨fun hc ha hvalue hkey htarget hheld => ⟨fun r hr => task_created hp hc ha hvalue hkey htarget hheld hr, task_busy hp hc ha hvalue hkey htarget hheld⟩,
    fun x hc ha hx hhandle hpart hkind hst => task_cancelled hp hc ha rfl hx hhandle hpart hkind hst,
    fun r x hm hreq hst => ⟨grid_cancels hp hm hreq hst, cycle_cancels hp hm hreq hst⟩,
    fun r x y hfree hhead hy hstand => task_dispatched hp hfree hhead hy hstand, fun r x hx hst hdue => task_completed hp hx hst hdue⟩

end Sys2Proof.Machine
end

section
/-! SUPPORT. The ports of the egress traffic manager: their queues and their credit (R172, R178-R180). -/

namespace Sys2Proof.Machine
open Sys2Proof

theorem eport_setEport (s : State) (l : Nat) (x : EgPort) : (s.setEport l x).eport l = x := congrArg (fun y : Option EgPort => y.getD {}) (storeGet_put_same natLt l x s.eg.ports)

theorem eport_setEport_ne (s : State) {l k : Nat} (h : k ≠ l) (x : EgPort) : (s.setEport l x).eport k = s.eport k :=
  congrArg (fun y : Option EgPort => y.getD {}) (storeGet_put_ne natLt h x s.eg.ports)

theorem blind_eport {M : List Mark} (h : .eg ∉ M) (l : Nat) : Blind M (·.eport l) := (blind_eg h).comp fun x => (storeGet l x.ports).getD {}

theorem blind_queue {M : List Mark} (h : .eg ∉ M) (l c q : Nat) : Blind M (·.queue l c q) := (blind_eport h l).comp fun x => (storeGet (c, q) x.queues).getD []

theorem queue_congr {s u : State} {l : Nat} (h : (u.eport l).queues = (s.eport l).queues) (c q : Nat) : u.queue l c q = s.queue l c q := by
  unfold State.queue
  rw [h]

/-! Credit (R180). -/

/-- What the growth of credit leaves: of its own port all but the credit, of any other everything; credit that is not negative stays so. -/
structure State.Credited (s u : State) (l : Nat) : Prop where
  own : ∃ credit, u.eport l = { s.eport l with credit := credit }
  other : ∀ k, k ≠ l → u.eport k = s.eport k
  nonneg : 0 ≤ s.creditOf l 6 → 0 ≤ u.creditOf l 6

theorem State.Credited.refl (s : State) (l : Nat) : s.Credited s l := ⟨⟨(s.eport l).credit, rfl⟩, fun _ _ => rfl, id⟩

theorem State.Credited.trans {s u w : State} {l : Nat} (h : s.Credited u l) (h' : u.Credited w l) : s.Credited w l := by
  obtain ⟨a, ha⟩ := h.own
  obtain ⟨b, hb⟩ := h'.own
  exact ⟨⟨b, by rw [hb, ha]⟩, fun k hk => (h'.other k hk).trans (h.other k hk), fun hs => h'.nonneg (h.nonneg hs)⟩

theorem setCredit_credited (s : State) (l c : Nat) {v : Int} (hv : c = 6 → 0 ≤ s.creditOf l 6 → 0 ≤ v) : s.Credited (s.setCredit l c v) l := by
  have hown : (s.setCredit l c v).eport l = { s.eport l with credit := storePut natLt c v (s.eport l).credit } := eport_setEport s l _
  refine ⟨⟨_, hown⟩, fun k hk => eport_setEport_ne s hk _, fun hs => ?_⟩
  unfold State.creditOf at hs ⊢
  rw [hown]
  dsimp only
  by_cases hc : c = 6
  · rw [← hc, storeGet_put_same]
    exact hv hc hs
  · rw [storeGet_put_ne natLt (Ne.symm hc)]
    exact hs

/-- One class of the growth of credit. -/
def State.grow (l dt gates : Nat) (s : State) (c : Nat) : State :=
  if s.classRate l c ≠ 0 ∧ gates.testBit c then s.setCredit l c (min ((s.classCeiling l c * creditUnit : Nat) : Int) (s.creditOf l c + (dt * s.classRate l c : Nat))) else s

theorem grow_credited (l dt gates : Nat) (s : State) (c : Nat) : s.Credited (State.grow l dt gates s c) l := by
  unfold State.grow
  split
  · exact setCredit_credited s l c fun hc hs => le_min (Int.natCast_nonneg _) (Int.add_nonneg (hc ▸ hs) (Int.natCast_nonneg _))
  · exact .refl s l

theorem foldl_grow_credited (l dt gates : Nat) (cs : List Nat) (s : State) : s.Credited (cs.foldl (State.grow l dt gates) s) l := by
  induction cs generalizing s with
  | nil => exact .refl s l
  | cons c cs ih => exact (grow_credited l dt gates s c).trans (ih _)

theorem accrue_eq (s : State) (l : Nat) : s.accrue l =
    let w := shapedClasses.foldl (State.grow l (s.now - (s.eport l).creditAt) (s.eport l).gates) s
    w.setEport l { w.eport l with creditAt := w.now } := rfl

/-- What the growth of credit leaves of its port. -/
theorem accrue_own (s : State) (l : Nat) : ∃ credit at_, (s.accrue l).eport l = { s.eport l with credit := credit, creditAt := at_ } := by
  rw [accrue_eq]
  extract_lets w
  obtain ⟨credit, hw⟩ := (foldl_grow_credited l (s.now - (s.eport l).creditAt) (s.eport l).gates shapedClasses s).own
  exact ⟨credit, w.now, (eport_setEport w l _).trans (congrArg (fun x : EgPort => { x with creditAt := w.now }) hw)⟩

theorem accrue_other (s : State) {l k : Nat} (h : k ≠ l) : (s.accrue l).eport k = s.eport k := by
  rw [accrue_eq]
  exact (eport_setEport_ne _ h _).trans ((foldl_grow_credited _ _ _ _ s).other k h)

theorem accrue_nonneg {s : State} {l : Nat} (h : 0 ≤ s.creditOf l 6) : 0 ≤ (s.accrue l).creditOf l 6 := by
  rw [accrue_eq]
  extract_lets w
  have hw : 0 ≤ w.creditOf l 6 := (foldl_grow_credited _ _ _ _ s).nonneg h
  unfold State.creditOf at hw ⊢
  rw [eport_setEport]
  exact hw

theorem accrue_queue (s : State) (l k c q : Nat) : (s.accrue l).queue k c q = s.queue k c q := by
  by_cases h : k = l
  · obtain ⟨credit, at_, hown⟩ := accrue_own s l
    rw [h]
    exact queue_congr (by rw [hown]) c q
  · exact queue_congr (by rw [accrue_other s h]) c q

/-! Queues (R178, R179). -/

theorem eport_setQueue (s : State) (l c q : Nat) (fs : List EgFrame) : (s.setQueue l c q fs).eport l =
    { s.eport l with queues := if fs = [] then storeDel (c, q) (s.eport l).queues else storePut pairLt (c, q) fs (s.eport l).queues } := eport_setEport s l _

theorem eport_setQueue_ne (s : State) {l k : Nat} (h : k ≠ l) (c q : Nat) (fs : List EgFrame) : (s.setQueue l c q fs).eport k = s.eport k := eport_setEport_ne s h _

theorem queue_setQueue (s : State) (l c q : Nat) (fs : List EgFrame) : (s.setQueue l c q fs).queue l c q = fs := by
  unfold State.queue
  rw [eport_setQueue]
  dsimp only
  split
  · next h => rw [storeGet_del_same, h]; rfl
  · rw [storeGet_put_same]; rfl

theorem queue_setQueue_ne (s : State) (l : Nat) {c q c' q' : Nat} (h : (c', q') ≠ (c, q)) (fs : List EgFrame) : (s.setQueue l c q fs).queue l c' q' = s.queue l c' q' := by
  unfold State.queue
  rw [eport_setQueue]
  dsimp only
  split
  · rw [storeGet_del_ne h]
  · rw [storeGet_put_ne pairLt h]

theorem queue_setQueue_port (s : State) {l k : Nat} (h : k ≠ l) (c q : Nat) (fs : List EgFrame) (c' q' : Nat) : (s.setQueue l c q fs).queue k c' q' = s.queue k c' q' :=
  queue_congr (by rw [eport_setQueue_ne s h]) c' q'

end Sys2Proof.Machine
end

section
/-! SUPPORT. Frames join the queues of a port (R158, R167, R168, R179; that the second lane's packets come with the first's is log entry 157). -/

namespace Sys2Proof.Machine
open Sys2Proof

/-- Whether a port sends turns on its lane, on its power domain and on two objects of the lane. -/
theorem blind_portState {M : List Mark} (hlanes : .lanes ∉ M) (hpd : .obj o1410_PD_STATE ∉ M) (htx : .obj o3100_TX_STATE ∉ M) (htest : .obj o3000_TEST_MODE ∉ M) (l : Nat) :
    Blind M (·.portState l) := by
  intro m hm s u ht
  have hlane : u.lane l = s.lane l := blind_lane hlanes l m hm s u ht
  have hon : u.rd o1410_PD_STATE (64 + l / 48) = s.rd o1410_PD_STATE (64 + l / 48) := blind_rd hpd _ (.inr (by decide)) m hm s u ht
  have hstate : u.rd o3100_TX_STATE l = s.rd o3100_TX_STATE l := blind_rd htx l (.inr (by decide)) m hm s u ht
  have hmode : u.rd o3000_TEST_MODE l = s.rd o3000_TEST_MODE l := blind_rd htest l (.inr (by decide)) m hm s u ht
  dsimp only
  unfold State.portState State.pdOn State.pdState
  rw [hlane, hon, hstate, hmode]

/-- What a frame that joins a queue touches. -/
def joinMarks : List Mark := creditMarks ++ [.obj o3802_QUEUE_FILL]

/-- A port with one more frame in a queue. -/
def State.joined (s : State) (l c q : Nat) (f : EgFrame) : State := (s.accrue l).setQueue l c q (s.queue l c q ++ [f])

theorem Blind.joined {M : List Mark} {α : Type} {g : State → α} (hg : Blind M g) (h : joinMarks ⊆ M) (s : State) (l c q : Nat) (f : EgFrame) : g (s.joined l c q f) = g s :=
  (hg.wr (h (by decide)) _ _ _).trans ((hg.setEport (h (by decide)) _ _ _).trans (hg.accrue (List.Subset.trans (by decide) h) s l))

section
variable (s : State) (l c q : Nat) (f : EgFrame)

theorem joined_queue : (s.joined l c q f).queue l c q = s.queue l c q ++ [f] := queue_setQueue _ l c q _

theorem joined_queue_ne {c' q' : Nat} (h : (c', q') ≠ (c, q)) : (s.joined l c q f).queue l c' q' = s.queue l c' q' := (queue_setQueue_ne _ l h _).trans (accrue_queue s l l c' q')

theorem joined_queue_port {k : Nat} (h : k ≠ l) (c' q' : Nat) : (s.joined l c q f).queue k c' q' = s.queue k c' q' := (queue_setQueue_port _ h c q _ c' q').trans (accrue_queue s l k c' q')

theorem joined_portState (k : Nat) : (s.joined l c q f).portState k = s.portState k :=
  (blind_portState (M := joinMarks) (by decide) (by decide) (by decide) (by decide) k).joined (List.Subset.refl _) s l c q f

theorem joined_rd {o : Nat} (hm : .obj o ∉ joinMarks) (r : Nat) : (s.joined l c q f).rd o r = s.rd o r := (blind_rd hm r (.inl (by decide))).joined (List.Subset.refl _) s l c q f

theorem joined_fill {row : Nat} (h : row ≠ queueRow l c q) : (s.joined l c q f).rd o3802_QUEUE_FILL row = s.rd o3802_QUEUE_FILL row :=
  (State.rd_wr_ne _ _ fun e => h (Prod.mk.inj e).2).trans ((blind_rd (M := creditMarks) (by decide) row (.inl (by decide))).accrue (List.Subset.refl _) s l)

end

theorem flushPort_running {s : State} {l : Nat} (h : s.portState l = EG_PORT_STATE.running) : s.flushPort l = s :=
  if_neg (by unfold State.portBlocked; rw [h]; decide)

/-- The conditions of R179 and R428 under which a queue takes frames. -/
structure State.Takes (s : State) (l c q : Nat) : Prop where
  cls : c < 7
  queue : q < 256
  running : s.portState l = EG_PORT_STATE.running
  source : s.rdN o3802_QUEUE_SOURCE (queueRow l c q) = 65535 ∨ (s.isOn o3700_TX_ENABLE (s.rdN o3802_QUEUE_SOURCE (queueRow l c q)) = true ∧ s.isOn o1601_CUSTODY_HELD 0 = true)

theorem takes_open {s : State} {l c q : Nat} (h : s.Takes l c q) : ¬ (7 ≤ c ∨ 256 ≤ q ∨ s.portState l = EG_PORT_STATE.off ∨
    (s.rdN o3802_QUEUE_SOURCE (queueRow l c q) ≠ 65535 ∧ s.isOn o3700_TX_ENABLE (s.rdN o3802_QUEUE_SOURCE (queueRow l c q)) = false) ∨ s.mute l c q = true) := by
  rintro (hc | hq | hoff | ⟨hsrc, hen⟩ | hmute)
  · exact absurd h.cls (not_lt.mpr hc)
  · exact absurd h.queue (not_lt.mpr hq)
  · exact absurd (h.running.symm.trans hoff) (by decide)
  · exact Bool.false_ne_true (hen.symm.trans (h.source.resolve_left hsrc).1)
  · unfold State.mute at hmute
    rw [Bool.and_eq_true, bne_iff_ne, Bool.not_eq_true'] at hmute
    exact Bool.false_ne_true (hmute.2.symm.trans (h.source.resolve_left hmute.1).2)

/-- A frame that fits joins its queue. -/
theorem enqueue_fits {s : State} {l c q : Nat} (h : s.Takes l c q) {f : EgFrame}
    (hfit : s.rdN o3802_QUEUE_FILL (queueRow l c q) + f.len ≤ s.rdN o3802_QUEUE_LIMIT (queueRow l c q) ∨ (c = 6 ∧ s.rdN o3802_QUEUE_LIMIT (queueRow l c q) = 0)) :
    s.enqueue l c q f = s.joined l c q f := by
  refine (if_neg (takes_open h)).trans ((if_neg ?_).trans (flushPort_running ((joined_portState s l c q f l).trans h.running)))
  rintro ⟨hn, hlt⟩
  exact hfit.elim (fun hle => absurd hlt (not_lt.mpr hle)) hn

/-- One that does not is dropped. -/
theorem enqueue_full {s : State} {l c q : Nat} (h : s.Takes l c q) {f : EgFrame} (hn : ¬ (c = 6 ∧ s.rdN o3802_QUEUE_LIMIT (queueRow l c q) = 0))
    (hlt : s.rdN o3802_QUEUE_LIMIT (queueRow l c q) < s.rdN o3802_QUEUE_FILL (queueRow l c q) + f.len) :
    s.enqueue l c q f = (s.bump o3802_QUEUE_DROPS (queueRow l c q)).raiseQuiet .EG_QUEUE_DROP l := (if_neg (takes_open h)).trans (if_pos ⟨hn, hlt⟩)

theorem stands_raiseQuiet_same (s : State) (a : Alarm) (i : Nat) : (s.raiseQuiet a i).stands a i := (stands_congr rfl a i).mpr (stands_raise_same s a i)

/-! EGRESS_ENQUEUE on a queue without a row. -/

section
variable {s : State} {t l c q : Nat} (hp : s.powered = true) (hrun : s.portState l = EG_PORT_STATE.running) (hc : c < 7) (hq : q < 256)
include hp hrun hc hq

section
variable (len payload seq stamp : Nat) (marker : Bool) (hsrc : s.rdN o3802_QUEUE_SOURCE (queueRow l c q) = 65535) (hrow : s.outRow 65535 = none)
include hsrc hrow

omit hp hrun hc hq in
theorem arrives_plain (f : EgFrame) : (s.begin t).arrives l c q f = (s.begin t).enqueue l c q f := by
  unfold State.arrives
  rw [show (s.begin t).outRow ((s.begin t).rdN o3802_QUEUE_SOURCE (queueRow l c q)) = none from (congrArg s.outRow hsrc).trans hrow]

theorem frame_joins (hfit : s.rdN o3802_QUEUE_FILL (queueRow l c q) + len ≤ s.rdN o3802_QUEUE_LIMIT (queueRow l c q) ∨ (c = 6 ∧ s.rdN o3802_QUEUE_LIMIT (queueRow l c q) = 0)) :
    ∃ u, exec (.egressEnqueue t l c q len ⟨payload, marker⟩ seq stamp) s = .next u ∧
      u.queue l c q = s.queue l c q ++ [{ len := len, payload := payload, seq := seq, stamp := stamp, marker := marker }] ∧ ∀ c' q', (c', q') ≠ (c, q) → u.queue l c' q' = s.queue l c' q' := by
  obtain ⟨f, hf⟩ : ∃ f : EgFrame, f = { len := len, payload := payload, seq := seq, stamp := stamp, marker := marker } := ⟨_, rfl⟩
  have hwork : (s.begin t).arrives l c q f = (s.begin t).joined l c q f := (arrives_plain hsrc hrow f).trans (enqueue_fits (s := s.begin t) ⟨hc, hq, hrun, .inl hsrc⟩ (hf ▸ hfit))
  refine ⟨_, run_work (f := fun s => s.arrives l c q { len := len, payload := payload, seq := seq, stamp := stamp, marker := marker }) hp (hf ▸ hwork), ?_, fun c' q' hne => ?_⟩
  · exact joined_queue (s.begin t) l c q _
  · exact joined_queue_ne (s.begin t) l c q _ hne

theorem frame_drops (hlt : s.rdN o3802_QUEUE_LIMIT (queueRow l c q) < s.rdN o3802_QUEUE_FILL (queueRow l c q) + len) (hn : ¬ (c = 6 ∧ s.rdN o3802_QUEUE_LIMIT (queueRow l c q) = 0)) :
    ∃ u, exec (.egressEnqueue t l c q len ⟨payload, marker⟩ seq stamp) s = .next u ∧ u.eg = s.eg ∧
      u.rd o3802_QUEUE_DROPS (queueRow l c q) = (s.rd o3802_QUEUE_DROPS (queueRow l c q) + 1) % objModulus o3802_QUEUE_DROPS ∧ u.stands .EG_QUEUE_DROP l := by
  have hwork : (s.begin t).arrives l c q { len := len, payload := payload, seq := seq, stamp := stamp, marker := marker } =
      ((s.begin t).bump o3802_QUEUE_DROPS (queueRow l c q)).raiseQuiet .EG_QUEUE_DROP l :=
    (arrives_plain hsrc hrow _).trans (enqueue_full (s := s.begin t) ⟨hc, hq, hrun, .inl hsrc⟩ hn hlt)
  refine ⟨_, run_work (f := fun s => s.arrives l c q { len := len, payload := payload, seq := seq, stamp := stamp, marker := marker }) hp hwork, ?_, ?_,
    (finish_stands ..).mpr (stands_raiseQuiet_same ..)⟩
  · exact (blind_eg (M := [.alarm .EG_QUEUE_DROP]) (by decide)).raiseQuiet (.head _) _ _
  · exact (State.finish_rd ..).trans (((blind_rd (M := [.alarm .EG_QUEUE_DROP]) (by decide) _ (.inr (by decide))).raiseQuiet (.head _) _ _).trans (rd_bump_same ..))

end

end

/-! The packets of a shaped output row (R158, R167, R168). -/

theorem outRow_row {s : State} {f : Nat} {r : PlanOutRow} (h : s.outRow f = some r) : r.row = f := by
  obtain ⟨d, -, hd⟩ := List.exists_of_findSome?_eq_some h
  have hrow := List.find?_some hd
  rw [Bool.and_eq_true] at hrow
  exact beq_iff_eq.mp hrow.1

/-- A state whose row has taken its next sequence number. -/
def State.seqTaken (s : State) (r : PlanOutRow) : State := (s.nextTxSeq r).2

/-- A frame of a row, with its number and its stamp. -/
def EgFrame.ofRow (f : EgFrame) (s : State) (r : PlanOutRow) : EgFrame := { f with media := some (r.row, (storeGet r.row s.med.txSeq).getD 0, s.pacedStamp r) }

/-- What a frame of a row leaves: it joins its queue, and a like frame that of the second lane. -/
theorem arrives_row {s : State} {l c q : Nat} {r : PlanOutRow} (hr : s.outRow (s.rdN o3802_QUEUE_SOURCE (queueRow l c q)) = some r) (hen : s.isOn o3700_TX_ENABLE r.row = true)
    (hcust : s.isOn o1601_CUSTODY_HELD 0 = true) (hl : r.laneP = l) (f : EgFrame) :
    s.arrives l c q f =
      let w := (s.seqTaken r).enqueue l c q (f.ofRow s r)
      if r.laneS = noLane then w else w.enqueue r.laneS c q { f.ofRow s r with len := f.len + w.pacedLength r true - w.pacedLength r false } := by
  have hmute : s.mute l c q = false := by
    unfold State.mute
    rw [hcust, Bool.not_true, Bool.and_false]
  unfold State.arrives
  rw [hr]
  dsimp only
  rw [if_neg ?_]
  · rfl
  · rw [hen, hmute, hl]
    exact fun h => h.elim Bool.noConfusion fun h => h.elim Bool.noConfusion fun h => h rfl

theorem joined_pacedLength (s : State) (l c q : Nat) (f : EgFrame) (r : PlanOutRow) (second : Bool) : (s.joined l c q f).pacedLength r second = s.pacedLength r second := by
  have hoct : ∀ o k, (s.joined l c q f).rdOct o k = s.rdOct o k := fun o k => (blind_rdOct (M := joinMarks) (by simp [joinMarks, creditMarks]) k).joined (List.Subset.refl _) s l c q f
  have hvlan : ∀ k, (s.joined l c q f).rd o3500_VLAN_ID k = s.rd o3500_VLAN_ID k := fun k => joined_rd s l c q f (by decide) k
  unfold State.pacedLength
  simp only [hoct, hvlan]

theorem queueRow_ne {l k c q : Nat} (h : k ≠ l) : queueRow k c q ≠ queueRow l c q := by
  unfold queueRow
  omega

section
variable {s : State} {t l c q : Nat} (hp : s.powered = true) (hrun : s.portState l = EG_PORT_STATE.running) (hc : c < 7) (hq : q < 256)
  {r : PlanOutRow} (hr : s.outRow (s.rdN o3802_QUEUE_SOURCE (queueRow l c q)) = some r) (hen : s.isOn o3700_TX_ENABLE r.row = true)
  (hcust : s.isOn o1601_CUSTODY_HELD 0 = true) (hl : r.laneP = l) (len payload seq stamp : Nat) (marker : Bool)
  (hfit : s.rdN o3802_QUEUE_FILL (queueRow l c q) + len ≤ s.rdN o3802_QUEUE_LIMIT (queueRow l c q))
include hp hrun hc hq hr hen hcust hl hfit

omit hp hl hfit in
theorem row_takes : ((s.begin t).seqTaken r).Takes l c q := ⟨hc, hq, hrun, .inr ⟨outRow_row hr ▸ hen, hcust⟩⟩

theorem packet_joins (hs : r.laneS = 65535) :
    ∃ u, exec (.egressEnqueue t l c q len ⟨payload, marker⟩ seq stamp) s = .next u ∧ u.queue l c q = s.queue l c q ++
      [{ len := len, payload := payload, seq := seq, stamp := stamp, marker := marker, media := some (r.row, (storeGet r.row s.med.txSeq).getD 0, (s.begin t).pacedStamp r) }] := by
  have hwork : (s.begin t).arrives l c q { len := len, payload := payload, seq := seq, stamp := stamp, marker := marker } =
      ((s.begin t).seqTaken r).joined l c q (EgFrame.ofRow { len := len, payload := payload, seq := seq, stamp := stamp, marker := marker } (s.begin t) r) :=
    (arrives_row (s := s.begin t) hr hen hcust hl _).trans ((if_pos hs).trans (enqueue_fits (row_takes hrun hc hq hr hen hcust) (.inl hfit)))
  exact ⟨_, run_work (f := fun s => s.arrives l c q { len := len, payload := payload, seq := seq, stamp := stamp, marker := marker }) hp hwork, joined_queue _ l c q _⟩

theorem packet_joins_twice {k : Nat} (hs : r.laneS = k) (hk : k ≠ 65535) (hkl : k ≠ l) (hkrun : s.portState k = EG_PORT_STATE.running)
    (hksrc : s.rdN o3802_QUEUE_SOURCE (queueRow k c q) = s.rdN o3802_QUEUE_SOURCE (queueRow l c q))
    (hkfit : s.rdN o3802_QUEUE_FILL (queueRow k c q) + (len + s.pacedLength r true - s.pacedLength r false) ≤ s.rdN o3802_QUEUE_LIMIT (queueRow k c q)) :
    ∃ u e f, exec (.egressEnqueue t l c q len ⟨payload, marker⟩ seq stamp) s = .next u ∧ e ∈ u.queue l c q ∧ f ∈ u.queue k c q ∧
      e.media = some (r.row, (storeGet r.row s.med.txSeq).getD 0, (s.begin t).pacedStamp r) ∧ f.media = e.media ∧ f.payload = payload := by
  obtain ⟨e, he⟩ : ∃ e : EgFrame, e = EgFrame.ofRow { len := len, payload := payload, seq := seq, stamp := stamp, marker := marker } (s.begin t) r := ⟨_, rfl⟩
  obtain ⟨w, hw⟩ : ∃ w, w = ((s.begin t).seqTaken r).joined l c q e := ⟨_, rfl⟩
  have hjoin : ((s.begin t).seqTaken r).enqueue l c q e = w := by
    rw [hw]
    exact enqueue_fits (row_takes hrun hc hq hr hen hcust) (.inl (he ▸ hfit))
  have hwrd : ∀ {o}, .obj o ∉ joinMarks → ∀ i, w.rd o i = s.rd o i := fun hm i => hw ▸ joined_rd _ l c q e hm i
  have hwlen : ∀ second, w.pacedLength r second = s.pacedLength r second := fun second => hw ▸ joined_pacedLength _ l c q e r second
  have hwsrc : w.rdN o3802_QUEUE_SOURCE (queueRow k c q) = s.rdN o3802_QUEUE_SOURCE (queueRow l c q) := (congrArg Int.toNat (hwrd (by decide) _)).trans hksrc
  have hwfill : w.rdN o3802_QUEUE_FILL (queueRow k c q) = s.rdN o3802_QUEUE_FILL (queueRow k c q) := congrArg Int.toNat (hw ▸ joined_fill ((s.begin t).seqTaken r) l c q e (queueRow_ne hkl))
  have hwlimit : w.rdN o3802_QUEUE_LIMIT (queueRow k c q) = s.rdN o3802_QUEUE_LIMIT (queueRow k c q) := congrArg Int.toNat (hwrd (by decide) _)
  have htakes : w.Takes k c q := by
    refine ⟨hc, hq, (hw ▸ joined_portState ((s.begin t).seqTaken r) l c q e k).trans hkrun, .inr ⟨?_, (congrArg (· == 1) (hwrd (by decide) 0)).trans hcust⟩⟩
    rw [hwsrc, ← outRow_row hr]
    exact (congrArg (· == 1) (hwrd (by decide) r.row)).trans hen
  have hwork : (s.begin t).arrives l c q { len := len, payload := payload, seq := seq, stamp := stamp, marker := marker } =
      w.joined k c q { e with len := len + s.pacedLength r true - s.pacedLength r false } := by
    rw [arrives_row (s := s.begin t) hr hen hcust hl, ← he]
    dsimp only
    rw [hjoin, if_neg (by rw [hs]; exact hk), hwlen, hwlen, hs]
    exact enqueue_fits htakes (.inl (by rw [hwfill, hwlimit]; exact hkfit))
  have hown : (w.joined k c q { e with len := len + s.pacedLength r true - s.pacedLength r false }).queue l c q = s.queue l c q ++ [e] :=
    (joined_queue_port w k c q _ (Ne.symm hkl) c q).trans (hw ▸ joined_queue ((s.begin t).seqTaken r) l c q e)
  have hother := joined_queue w k c q { e with len := len + s.pacedLength r true - s.pacedLength r false }
  generalize w.joined k c q { e with len := len + s.pacedLength r true - s.pacedLength r false } = v at hwork hown hother
  refine ⟨_, e, { e with len := len + s.pacedLength r true - s.pacedLength r false }, run_work (f := fun s => s.arrives l c q { len := len, payload := payload, seq := seq, stamp := stamp, marker := marker }) hp hwork, ?_, ?_, he ▸ rfl, rfl, he ▸ rfl⟩
  · exact hown.symm ▸ List.mem_append_right _ (List.mem_singleton_self e)
  · exact hother.symm ▸ List.mem_append_right _ (List.mem_singleton_self _)

end

end Sys2Proof.Machine
end

section
/-! SUPPORT. An idle transmitter sends the one frame that waits (R174, R178, R180, R185). -/

namespace Sys2Proof.Machine
open Sys2Proof

/-! Stamps and what leaves. -/

namespace Blind

variable {M : List Mark} {α : Type} {f : State → α} (hf : Blind M f)
include hf

theorem pushStamp (h : drainMarks ⊆ M) (s : State) (q : Nat) (e : PtqEntry) : f (s.pushStamp q e).2 = f s := by
  have hs : f (s.settleSpill q) = f s := hf.settleSpill h s q
  unfold State.pushStamp
  generalize s.settleSpill q = w at hs
  dsimp only
  split_ifs
  · exact (hf.setPtq h _ _ _).trans hs
  · exact (hf.pulse (h (by decide)) _ _).trans ((hf.bump (h (by decide)) _ _).trans ((hf.wr (h (by decide)) _ _ _).trans hs))
  · exact (hf.setSpill (h (by decide)) w q (some (advances w.now, e))).trans hs

theorem emit (h : .out ∈ M) (s : State) (o : Out) : f (s.emit o) = f s := hf _ h _ _ (.out ..)

theorem txStamped (h : .out :: drainMarks ⊆ M) (s : State) (l seq kind : Nat) : f (s.txStamped l seq kind) = f s := by
  unfold State.txStamped
  split_ifs
  · exact hf.emit (h (.head _)) _ _
  · exact hf.pushStamp (List.Subset.trans (by decide) h) _ _ _
  · rfl

theorem carried (h : .out :: drainMarks ⊆ M) (s : State) (l : Nat) (x : EgFrame) : f (s.carried l x) = f s := by
  unfold State.carried
  extract_lets w v
  have hw : f w = f s := by
    dsimp only [w]
    split
    · exact (hf _ (h (by decide)) _ _ (.ptp ..)).trans (hf.pushStamp (List.Subset.trans (by decide) h) _ _ _)
    · rfl
  have hv : f v = f s := by
    refine Eq.trans ?_ hw
    dsimp only [v]
    split
    · exact hf.emit (h (.head _)) _ _
    · rfl
  exact (foldl_blind (fun s o => hf.emit (h (.head _)) s o) _ v).trans hv

end Blind

theorem foldl_emit_out (l : List Out) (s : State) : (l.foldl State.emit s).out = s.out ++ l := by
  induction l generalizing s with
  | nil => exact (List.append_nil _).symm
  | cons o l ih => exact (ih _).trans ((List.append_assoc ..).trans rfl)

/-- A frame that reaches the wire takes nothing back of what has left. -/
theorem carried_out (s : State) (l : Nat) (x : EgFrame) : s.out <+: (s.carried l x).out := by
  unfold State.carried
  extract_lets w v
  have hw : w.out = s.out := by
    dsimp only [w]
    split
    · exact (blind_out (M := drainMarks) (by decide)).pushStamp (List.Subset.refl _) _ _ _
    · rfl
  have hv : w.out <+: v.out := by
    dsimp only [v]
    split
    · exact List.prefix_append _ _
    · exact List.prefix_rfl
  rw [foldl_emit_out, ← hw]
  exact hv.trans (List.prefix_append _ _)

/-! The head frame of a queue leaves (R174, R178, R180). -/

/-- What the counters of an output row touch. -/
def rowCountMarks : List Mark := [.obj o3720_TX_PACKETS, .obj o3720_TX_BYTES, .obj o3720_TX_FRAMES]

/-- The row of a frame that leaves is counted. -/
def State.rowCounted (s : State) (l : Nat) (x : EgFrame) : State :=
  match x.media with
  | some (src, _, _) => if s.countsLeg src l then (if x.marker then (s.countTx src x.payload).bump o3720_TX_FRAMES src else s.countTx src x.payload) else s
  | none => s

theorem Blind.rowCounted {M : List Mark} {α : Type} {f : State → α} (hf : Blind M f) (h : rowCountMarks ⊆ M) (s : State) (l : Nat) (x : EgFrame) : f (s.rowCounted l x) = f s := by
  have hcount : ∀ (s : State) (row n : Nat), f (s.countTx row n) = f s := fun s row n => (hf.addTo (h (by decide)) _ _ _).trans (hf.bump (h (by decide)) _ _)
  unfold State.rowCounted
  split
  · split_ifs
    · exact (hf.bump (h (by decide)) _ _).trans (hcount _ _ _)
    · exact hcount _ _ _
    · rfl
  · rfl

/-- The head frame of a queue on the wire: the queue without it, its credit taken, the wire busy. -/
def State.onWire (s : State) (l c q : Nat) (f : EgFrame) (rest : List EgFrame) : State :=
  let w := ((s.wr o3802_DEFICIT (queueRow l c q) (if rest = [] then 0 else s.rd o3802_DEFICIT (queueRow l c q) - f.len)).setQueue l c q rest).charge l c f.len
  w.setEport l { w.eport l with wire := w.now * 100 + w.wireOn l f.len }

/-- What a frame on the wire touches. -/
def wireMarks : List Mark := creditMarks ++ [.obj o3802_DEFICIT, .obj o3802_QUEUE_FILL]

theorem Blind.onWire {M : List Mark} {α : Type} {g : State → α} (hg : Blind M g) (h : wireMarks ⊆ M) (s : State) (l c q : Nat) (f : EgFrame) (rest : List EgFrame) :
    g (s.onWire l c q f rest) = g s := by
  refine (hg.setEport (h (by decide)) _ _ _).trans ((hg.setCredit (List.Subset.trans (by decide) h) _ _ _ _).trans ?_)
  exact (hg.wr (h (by decide)) _ _ _).trans ((hg.setEport (h (by decide)) _ _ _).trans (hg.wr (h (by decide)) _ _ _))

theorem onWire_rd (s : State) (l c q : Nat) (f : EgFrame) (rest : List EgFrame) {o : Nat} (hm : .obj o ∉ wireMarks) (r : Nat) : (s.onWire l c q f rest).rd o r = s.rd o r :=
  (blind_rd hm r (.inl (by decide))).onWire (List.Subset.refl _) s l c q f rest

theorem sendHead_eq {s : State} {l c q : Nat} {f : EgFrame} {rest : List EgFrame} (h : s.queue l c q = f :: rest) (hup : s.rd o3100_LANE_STATE l = LANE_STATE.up) : ∃ w : State,
    s.sendHead l c q = ((w.txStamped l f.seq f.stamp).emit (.frame l c q f.len)).carried l f ∧
      ∀ {M : List Mark} {α : Type} {g : State → α}, Blind M g → .obj o3801_CLASS_BYTES :: rowCountMarks ⊆ M → g w = g ((s.onWire l c q f rest).bump o3801_CLASS_FRAMES (classRow l c)) := by
  obtain ⟨w, hw⟩ : ∃ w, w = (((s.onWire l c q f rest).bump o3801_CLASS_FRAMES (classRow l c)).addTo o3801_CLASS_BYTES (classRow l c) (wireBytes f.len)).rowCounted l f := ⟨_, rfl⟩
  have hblind : ∀ {M : List Mark} {α : Type} {g : State → α}, Blind M g → .obj o3801_CLASS_BYTES :: rowCountMarks ⊆ M → g w = g ((s.onWire l c q f rest).bump o3801_CLASS_FRAMES (classRow l c)) :=
    fun hg hm => hw ▸ (hg.rowCounted (List.Subset.trans (by decide) hm) _ _ _).trans (hg.addTo (hm (.head _)) _ _ _)
  have hstate : w.laneState l = LANE_STATE.up := by
    refine (hblind (blind_laneState (M := .obj o3801_CLASS_BYTES :: rowCountMarks) (by decide) l) (List.Subset.refl _)).trans (Eq.trans ?_ hup)
    exact (rd_bump_obj _ (by decide) _ _).trans (onWire_rd s l c q f rest (by decide) l)
  refine ⟨w, ?_, hblind⟩
  unfold State.sendHead
  rw [h]
  refine Eq.trans (b := w.toWire l fun s => ((s.txStamped l f.seq f.stamp).emit (.frame l c q f.len)).carried l f) (by rw [hw]; rfl) ?_
  exact if_pos hstate

/-- What the credit a frame takes leaves of its port. -/
theorem charge_eport (s : State) (l c n : Nat) : ∃ credit, (s.charge l c n).eport l = { s.eport l with credit := credit } :=
  ⟨_, eport_setEport s l _⟩

theorem onWire_eport (s : State) (l c q : Nat) (f : EgFrame) (rest : List EgFrame) : ∃ credit, (s.onWire l c q f rest).eport l =
    { s.eport l with
      queues := if rest = [] then storeDel (c, q) (s.eport l).queues else storePut pairLt (c, q) rest (s.eport l).queues
      credit := credit
      wire := s.now * 100 + s.wireOn l f.len } := by
  unfold State.onWire
  obtain ⟨v, hv⟩ : ∃ v, v = s.wr o3802_DEFICIT (queueRow l c q) (if rest = [] then 0 else s.rd o3802_DEFICIT (queueRow l c q) - f.len) := ⟨_, rfl⟩
  have hset := (eport_setQueue v l c q rest).trans (congrArg (fun x : EgPort => { x with queues := if rest = [] then storeDel (c, q) x.queues else storePut pairLt (c, q) rest x.queues })
    (show v.eport l = s.eport l by rw [hv]; rfl))
  obtain ⟨w, hw⟩ : ∃ w, w = (v.setQueue l c q rest).charge l c f.len := ⟨_, rfl⟩
  obtain ⟨credit, hcredit⟩ := charge_eport (v.setQueue l c q rest) l c f.len
  have hown := (congrArg (·.eport l) hw).trans (hcredit.trans (congrArg (fun x : EgPort => { x with credit := credit }) hset))
  have hwire : w.now * 100 + w.wireOn l f.len = s.now * 100 + s.wireOn l f.len := by rw [hw, hv]; rfl
  rw [← hv, ← hw]
  refine ⟨credit, (eport_setEport w l _).trans ?_⟩
  rw [hwire]
  exact congrArg (fun x : EgPort => { x with wire := s.now * 100 + s.wireOn l f.len }) hown

/-- What a frame that leaves a queue leaves. -/
theorem sendHead_spec {s : State} {l c q : Nat} {f : EgFrame} (h : s.queue l c q = [f]) (hup : s.rd o3100_LANE_STATE l = LANE_STATE.up) :
    .frame l c q f.len ∈ (s.sendHead l c q).out ∧ (s.sendHead l c q).queue l c q = [] ∧
      (s.sendHead l c q).rd o3801_CLASS_FRAMES (classRow l c) = (s.rd o3801_CLASS_FRAMES (classRow l c) + 1) % objModulus o3801_CLASS_FRAMES ∧
      ((s.sendHead l c q).eport l).wire = s.now * 100 + s.wireOn l f.len := by
  obtain ⟨w, hw, hblind⟩ := sendHead_eq h hup
  have hsend : ∀ {α : Type} {g : State → α}, Blind (.out :: drainMarks) g → g (s.sendHead l c q) = g w := fun hg =>
    (congrArg _ hw).trans ((hg.carried (List.Subset.refl _) _ _ _).trans ((hg.emit (.head _) _ _).trans (hg.txStamped (List.Subset.refl _) _ _ _ _)))
  have heport : (s.sendHead l c q).eport l = (s.onWire l c q f []).eport l := (hsend (blind_eport (by decide) l)).trans (hblind (blind_eport (by decide) l) (List.Subset.refl _))
  obtain ⟨credit, hown⟩ := onWire_eport s l c q f []
  refine ⟨?_, ?_, ?_, ?_⟩
  · rw [hw]
    exact (carried_out _ l f).subset (List.mem_append_right _ (List.mem_singleton_self _))
  · unfold State.queue
    rw [heport, hown]
    exact congrArg (fun y : Option (List EgFrame) => y.getD []) (storeGet_del_same ..)
  · refine (hsend (blind_rd (by decide) _ (.inr (by decide)))).trans ((hblind (blind_rd (by decide) _ (.inl (by decide))) (List.Subset.refl _)).trans ((rd_bump_same ..).trans ?_))
    rw [onWire_rd s l c q f [] (by decide)]
  · rw [heport, hown]

end Sys2Proof.Machine
end

section
/-! SUPPORT. The transmitter with one frame of TC6 (R174, R178, R180, R182). -/

namespace Sys2Proof.Machine
open Sys2Proof

/-! The gates in effect (R182). -/

/-- What the gates in effect touch. -/
def refreshMarks : List Mark := creditMarks ++ [.obj o3810_CURRENT_ENTRY]

theorem refreshGates_open {s : State} {l : Nat} (h : (s.eport l).running = none) :
    s.refreshGates l = ((s.accrue l).setEport l { (s.accrue l).eport l with gates := 127 }).wr o3810_CURRENT_ENTRY l 0 := by
  have hrun : ((s.accrue l).eport l).running = none := by
    obtain ⟨credit, at_, hown⟩ := accrue_own s l
    rw [hown]
    exact h
  unfold State.refreshGates
  dsimp only
  rw [hrun]

theorem refreshGates_list {s : State} {l : Nat} {r : GateList} (h : (s.eport l).running = some r) (hstart : r.start ≤ s.clkNanos) :
    s.refreshGates l = ((s.accrue l).setEport l { (s.accrue l).eport l with gates := r.at_ s.clkNanos % 128 }).wr o3810_CURRENT_ENTRY l (r.entry s.clkNanos) := by
  have hrun : ((s.accrue l).eport l).running = some r := by
    obtain ⟨credit, at_, hown⟩ := accrue_own s l
    rw [hown]
    exact h
  have hclk : (s.accrue l).clkNanos = s.clkNanos := (blind_clk (M := creditMarks) (by decide)).comp (fun x => x / 4294967296) |>.accrue (List.Subset.refl _) s l
  unfold State.refreshGates
  dsimp only
  rw [hrun]
  dsimp only
  rw [hclk, if_neg (not_lt.mpr hstart)]

/-- A port with the gates that are in effect from now on. -/
theorem accrue_gates (s : State) (l gates : Nat) : ∃ credit at_, ((s.accrue l).setEport l { (s.accrue l).eport l with gates := gates }).eport l =
    { s.eport l with gates := gates, credit := credit, creditAt := at_ } := by
  obtain ⟨credit, at_, hown⟩ := accrue_own s l
  exact ⟨credit, at_, (eport_setEport _ l _).trans (congrArg (fun x : EgPort => { x with gates := gates }) hown)⟩

theorem Blind.refreshGates {M : List Mark} {α : Type} {g : State → α} (hg : Blind M g) (h : refreshMarks ⊆ M) (s : State) (l : Nat) : g (s.refreshGates l) = g s := by
  have haccrue : g (s.accrue l) = g s := hg.accrue (List.Subset.trans (by decide) h) s l
  have hset : ∀ (x : EgPort) (v : Int), g (((s.accrue l).setEport l x).wr o3810_CURRENT_ENTRY l v) = g s := fun x v =>
    (hg.wr (h (by decide)) _ _ _).trans ((hg.setEport (h (by decide)) _ _ _).trans haccrue)
  unfold State.refreshGates
  dsimp only
  split
  · exact hset _ _
  · split_ifs
    · exact haccrue
    · exact hset _ _

/-! A port with one frame, in TC6. -/

/-- A port without gate lists, whose one frame waits in TC6 with credit. -/
structure State.OneFrame (s : State) (l q : Nat) (f : EgFrame) : Prop where
  running : (s.eport l).running = none
  pending : (s.eport l).pending = none
  queues : (s.eport l).queues = [((6, q), [f])]
  visit : storeGet 6 (s.eport l).visit = none
  credit : 0 ≤ s.creditOf l 6

section
variable {s : State} {l q : Nat} {f : EgFrame} (h : s.OneFrame l q f)
include h

theorem State.OneFrame.waiting : s.queue l 6 q = [f] := by
  unfold State.queue
  rw [h.queues]
  exact congrArg (fun x : Option (List EgFrame) => x.getD []) (if_pos rfl)

theorem State.OneFrame.waitingQueues : s.waitingQueues l 6 = [q] := by
  unfold State.waitingQueues
  rw [h.queues]
  rfl

theorem oneFrame_refreshGates : (s.refreshGates l).OneFrame l q f ∧ ((s.refreshGates l).eport l).gates = 127 ∧ ((s.refreshGates l).eport l).wire = (s.eport l).wire := by
  obtain ⟨credit, at_, hown⟩ := accrue_gates s l 127
  have hcredit : (s.refreshGates l).creditOf l 6 = (s.accrue l).creditOf l 6 := by
    rw [refreshGates_open h.running]
    exact (congrArg (fun x : EgPort => (storeGet 6 x.credit).getD 0) (eport_setEport (s.accrue l) l { (s.accrue l).eport l with gates := 127 }) :)
  have hport : (s.refreshGates l).eport l = { s.eport l with gates := 127, credit := credit, creditAt := at_ } := by
    rw [refreshGates_open h.running]
    exact hown
  refine ⟨⟨?_, ?_, ?_, ?_, hcredit ▸ accrue_nonneg h.credit⟩, ?_, ?_⟩
  · rw [hport]; exact h.running
  · rw [hport]; exact h.pending
  · rw [hport]; exact h.queues
  · rw [hport]; exact h.visit
  · rw [hport]
  · rw [hport]

/-- The one frame of a port without a row and without a gate list stays where it is. -/
theorem oneFrame_trimPort (hsrc : s.rdN o3802_QUEUE_SOURCE (queueRow l 6 q) = 65535) : s.trimPort l = s.setQueue l 6 q [f] := by
  have hmute : s.mute l 6 q = false := by
    unfold State.mute
    rw [hsrc]
    rfl
  have hlong : s.tooLong l 6 f.len = false := by
    unfold State.tooLong
    rw [h.running]
  unfold State.trimPort
  rw [h.queues]
  refine (if_neg ?_).trans (if_neg ?_)
  · rw [hmute]; exact Bool.noConfusion
  · rw [hlong]; exact fun hx => Bool.noConfusion hx.2

theorem oneFrame_setQueue : (s.setQueue l 6 q [f]).eport l = s.eport l := by
  refine (eport_setQueue s l 6 q [f]).trans ?_
  have hq : (if [f] = [] then storeDel (6, q) (s.eport l).queues else storePut pairLt (6, q) [f] (s.eport l).queues) = (s.eport l).queues := by
    rw [if_neg (List.cons_ne_nil _ _), h.queues]
    unfold storePut
    rw [show storeDel (6, q) [((6, q), [f])] = [] from List.filter_cons_of_neg (by simp)]
    rfl
  exact congrArg (fun x => { s.eport l with queues := x }) hq

/-- The guard of R185 lets a frame go while every gate is open and no paced release comes. -/
theorem oneFrame_guardOk (hgates : (s.eport l).gates = 127) (hpaced : s.pacedOn l = []) (len : Nat) : s.guardOk l 6 len = true := by
  have hopen : s.gateOpenFor l 6 = none := by
    unfold State.gateOpenFor
    dsimp only
    rw [h.running, h.pending, hgates]
    rfl
  have hnext : s.nextPaced l = none := by
    unfold State.nextPaced
    rw [hpaced]
    rfl
  unfold State.guardOk
  rw [hopen, hnext]
  rfl

end

end Sys2Proof.Machine
end

section
/-! SUPPORT. An idle transmitter sends the one frame of TC6 (R174, R178, R180). -/

namespace Sys2Proof.Machine
open Sys2Proof

theorem blind_pacedOn {M : List Mark} (hled : .led ∉ M) (htx : .obj o3700_TX_ENABLE ∉ M) (l : Nat) : Blind M (·.pacedOn l) := by
  intro m hm s u ht
  have hbooks : u.led = s.led := blind_led hled m hm s u ht
  have hen : ∀ r, u.isOn o3700_TX_ENABLE r = s.isOn o3700_TX_ENABLE r := fun r => congrArg (· == 1) (blind_rd htx r (.inr (by decide)) m hm s u ht)
  have hplan : ∀ d, u.planOf d = s.planOf d := fun d => by
    unfold State.planOf State.serving State.bank
    rw [hbooks]
  dsimp only
  unfold State.pacedOn
  simp only [hplan, hen]

/-- The head frame of the round robin after its quantum has been added. -/
def State.offered (s : State) (l q : Nat) : State :=
  let w := s.addTo o3802_DEFICIT (queueRow l 6 q) (s.rdN o3802_QUANTUM (queueRow l 6 q))
  w.setEport l { w.eport l with visit := storePut natLt 6 (q, true) (w.eport l).visit }

section
variable {s : State} {l q : Nat} {f : EgFrame} (h : s.OneFrame l q f) (hgates : (s.eport l).gates = 127) (hpaced : s.pacedOn l = [])
  (hdeficit : s.rd o3802_DEFICIT (queueRow l 6 q) = 0) (hlen : f.len ≤ s.rdN o3802_QUANTUM (queueRow l 6 q)) (hquantum : s.rdN o3802_QUANTUM (queueRow l 6 q) < 65536)
include h hgates hpaced hdeficit hlen hquantum

/-- The quantum of one visit is enough for the frame. -/
theorem oneFrame_drr (n : Nat) : State.drr l 6 (n + 1) [] s = (some q, s.offered l q) := by
  obtain ⟨w, hw⟩ : ∃ w, w = s.addTo o3802_DEFICIT (queueRow l 6 q) (s.rdN o3802_QUANTUM (queueRow l 6 q)) := ⟨_, rfl⟩
  have hport : w.eport l = s.eport l := hw ▸ rfl
  have hdef : w.rdN o3802_DEFICIT (queueRow l 6 q) = s.rdN o3802_QUANTUM (queueRow l 6 q) := by
    have hval : w.rd o3802_DEFICIT (queueRow l 6 q) = (0 + (s.rdN o3802_QUANTUM (queueRow l 6 q) : Int)) % objModulus o3802_DEFICIT := by
      rw [hw]
      exact (State.rd_wr_same ..).trans (by rw [hdeficit])
    rw [show objModulus o3802_DEFICIT = 4294967296 by decide, zero_add] at hval
    unfold State.rdN at *
    omega
  have hguard : w.guardOk l 6 f.len = true :=
    oneFrame_guardOk (s := w) ⟨hport ▸ h.running, hport ▸ h.pending, hport ▸ h.queues, hport ▸ h.visit, by unfold State.creditOf; rw [hport]; exact h.credit⟩ (hport ▸ hgates)
      ((congrArg (·.pacedOn l) hw).trans (((blind_pacedOn (M := [.obj o3802_DEFICIT]) (by decide) (by decide) l).addTo (.head _) s _ _).trans hpaced)) f.len
  unfold State.drr
  dsimp only
  rw [h.waitingQueues, h.visit]
  dsimp only [Option.getD, List.headD]
  rw [h.waiting]
  dsimp only
  refine (if_neg (by simp)).trans ((if_pos (hw ▸ hdef ▸ hlen :)).trans (if_pos (hw ▸ hguard :)))

end

/-! TX_SELECT. -/

/-- What the offer of the one frame touches. -/
def offerMarks : List Mark := refreshMarks ++ [.obj o3802_QUEUE_FILL, .obj o3802_DEFICIT]

/-- The state whose queue's head frame is sent. -/
def State.ready (s : State) (l q : Nat) (f : EgFrame) : State := (s.refreshGates l).setQueue l 6 q [f]

theorem Blind.ready {M : List Mark} {α : Type} {g : State → α} (hg : Blind M g) (h : offerMarks ⊆ M) (s : State) (l q : Nat) (f : EgFrame) : g (s.ready l q f) = g s :=
  (hg.wr (h (by decide)) _ _ _).trans ((hg.setEport (h (by decide)) _ _ _).trans (hg.refreshGates (List.Subset.trans (by decide) h) s l))

theorem Blind.offered {M : List Mark} {α : Type} {g : State → α} (hg : Blind M g) (h : offerMarks ⊆ M) (s : State) (l q : Nat) : g (s.offered l q) = g s :=
  (hg.setEport (h (by decide)) _ _ _).trans (hg.addTo (h (by decide)) _ _ _)

theorem ready_rd {o : Nat} (hm : .obj o ∉ refreshMarks ++ [.obj o3802_QUEUE_FILL]) (s : State) (l q : Nat) (f : EgFrame) (r : Nat) : (s.ready l q f).rd o r = s.rd o r := by
  have hb := blind_rd (M := refreshMarks ++ [.obj o3802_QUEUE_FILL]) hm r (.inl (by decide))
  exact (hb.wr (by decide) _ _ _).trans ((hb.setEport (by decide) _ _ _).trans (hb.refreshGates (by decide) s l))

theorem oneFrame_congr {s u : State} {l q : Nat} {f : EgFrame} (h : s.OneFrame l q f) (hport : u.eport l = s.eport l) : u.OneFrame l q f :=
  ⟨hport ▸ h.running, hport ▸ h.pending, hport ▸ h.queues, hport ▸ h.visit, by unfold State.creditOf; rw [hport]; exact h.credit⟩

theorem oneFrame_txSelect {s : State} {l q : Nat} {f : EgFrame} (hrun : s.portState l = EG_PORT_STATE.running) (h : s.OneFrame l q f) (hwire : (s.eport l).wire ≤ s.now * 100)
    (hpaced : s.pacedOn l = []) (hsrc : s.rdN o3802_QUEUE_SOURCE (queueRow l 6 q) = 65535)
    (hdeficit : s.rd o3802_DEFICIT (queueRow l 6 q) = 0) (hlen : f.len ≤ s.rdN o3802_QUANTUM (queueRow l 6 q)) (hquantum : s.rdN o3802_QUANTUM (queueRow l 6 q) < 65536) :
    s.txSelect l = ((s.ready l q f).offered l q).sendHead l 6 q ∧ (s.ready l q f).OneFrame l q f := by
  obtain ⟨hone, hgates, hsame⟩ := oneFrame_refreshGates h
  have hsrc' : (s.refreshGates l).rdN o3802_QUEUE_SOURCE (queueRow l 6 q) = 65535 :=
    (congrArg Int.toNat ((blind_rd (M := refreshMarks) (by decide) _ (.inl (by decide))).refreshGates (List.Subset.refl _) s l)).trans hsrc
  have htrim : (s.refreshGates l).trimPort l = s.ready l q f := oneFrame_trimPort hone hsrc'
  have hport : (s.ready l q f).eport l = (s.refreshGates l).eport l := oneFrame_setQueue hone
  have hready : (s.ready l q f).OneFrame l q f := oneFrame_congr hone hport
  have hgates' : ((s.ready l q f).eport l).gates = 127 := hport ▸ hgates
  have hquant : (s.ready l q f).rdN o3802_QUANTUM (queueRow l 6 q) = s.rdN o3802_QUANTUM (queueRow l 6 q) := congrArg Int.toNat (ready_rd (by decide) s l q f _)
  have hidle : ¬ (s.ready l q f).now * 100 < ((s.ready l q f).eport l).wire := by
    rw [blind_now.ready (List.Subset.refl offerMarks) s l q f, hport, hsame]
    exact not_lt.mpr hwire
  have hdrr := oneFrame_drr hready hgates' ((blind_pacedOn (by decide) (by decide) l).ready (List.Subset.refl _) s l q f |>.trans hpaced)
    ((ready_rd (by decide) s l q f _).trans hdeficit) (hquant ▸ hlen) (hquant ▸ hquantum) 149
  refine ⟨?_, hready⟩
  unfold State.txSelect
  rw [if_neg (by rw [hrun]; decide), if_neg (by unfold State.portBlocked; rw [hrun]; decide), htrim]
  dsimp only
  rw [if_neg hidle]
  unfold State.choose
  rw [if_pos ⟨by rw [hgates']; rfl, hready.credit, by rw [hready.waitingQueues]; exact List.cons_ne_nil _ _⟩, hready.waitingQueues]
  rw [show drrVisits [q].length = 149 + 1 from rfl, hdrr]

theorem tx_selects {s : State} {t l q : Nat} {f : EgFrame} (hp : s.powered = true) (hrun : s.portState l = EG_PORT_STATE.running) (h : s.OneFrame l q f)
    (hwire : (s.eport l).wire ≤ max s.now t * 100) (hpaced : s.pacedOn l = []) (hsrc : s.rdN o3802_QUEUE_SOURCE (queueRow l 6 q) = 65535)
    (hdeficit : s.rd o3802_DEFICIT (queueRow l 6 q) = 0) (hlen : f.len ≤ s.rdN o3802_QUANTUM (queueRow l 6 q)) (hquantum : s.rdN o3802_QUANTUM (queueRow l 6 q) < 65536)
    (hup : s.rd o3100_LANE_STATE l = LANE_STATE.up) : ∃ u, exec (.txSelect t l) s = .next u ∧ .frame l 6 q f.len ∈ u.out ∧ u.queue l 6 q = [] ∧
      u.rd o3801_CLASS_FRAMES (classRow l 6) = (s.rd o3801_CLASS_FRAMES (classRow l 6) + 1) % objModulus o3801_CLASS_FRAMES ∧
      (u.eport l).wire = max s.now t * 100 + s.wireOn l f.len := by
  obtain ⟨hwork, hready⟩ := oneFrame_txSelect (s := s.begin t) hrun ⟨h.running, h.pending, h.queues, h.visit, h.credit⟩ hwire hpaced hsrc hdeficit hlen hquantum
  obtain ⟨v, hv⟩ : ∃ v, v = ((s.begin t).ready l q f).offered l q := ⟨_, rfl⟩
  have hqueue : v.queue l 6 q = [f] := by
    rw [hv]
    refine (queue_congr ?_ 6 q).trans hready.waiting
    exact (congrArg EgPort.queues (eport_setEport (((s.begin t).ready l q f).addTo o3802_DEFICIT (queueRow l 6 q) ((s.begin t).ready l q f |>.rdN o3802_QUANTUM (queueRow l 6 q))) l _) :)
  have hblind : ∀ {α : Type} {g : State → α}, Blind offerMarks g → g v = g (s.begin t) := fun hg =>
    (congrArg _ hv).trans ((hg.offered (List.Subset.refl _) _ _ _).trans (hg.ready (List.Subset.refl _) _ _ _ _))
  obtain ⟨hout, hempty, hcount, hbusy⟩ := sendHead_spec hqueue ((hblind (blind_rd (by decide) l (.inl (by decide)))).trans hup)
  rw [← hv] at hwork
  refine ⟨_, run_work (f := fun s => s.txSelect l) hp hwork, hout, hempty, ?_, ?_⟩
  · exact (State.finish_rd ..).trans (hcount.trans (by rw [hblind (blind_rd (by decide) _ (.inl (by decide)))]; rfl))
  · refine hbusy.trans ?_
    rw [hblind blind_now, show v.wireOn l f.len = s.wireOn l f.len from hblind ((blind_lane (by decide) l).comp fun x => wireTime (macRate x.mode) f.len)]
    rfl

end Sys2Proof.Machine
end

section
/-! SUPPORT. Paced packets leave at their instants, and TX_ENABLE (R158, R167, R174-R177). -/

namespace Sys2Proof.Machine
open Sys2Proof

/-- What the leg of a paced packet touches. -/
def legMarks : List Mark := .out :: drainMarks ++ creditMarks ++ [.obj o3801_CLASS_FRAMES, .obj o3801_CLASS_BYTES]

/-! What a leg reads. -/

theorem blind_cadenceAt {M : List Mark} (h : .cadence ∉ M) : Blind M State.cadenceAt := by
  intro m hm s u ht
  cases ht with
  | cadence => exact absurd hm h
  | alarm ht => exact AlarmBlind.touch ⟨fun _ _ => rfl, fun _ _ => rfl, fun _ _ _ _ _ => rfl⟩ ht
  | _ => rfl

theorem blind_outRow {M : List Mark} (h : .led ∉ M) (row : Nat) : Blind M (·.outRow row) := by
  intro m hm s u ht
  have hbooks : u.led = s.led := blind_led h m hm s u ht
  dsimp only
  unfold State.outRow State.planOf State.serving State.bank
  rw [hbooks]

theorem blind_txHead (row l : Nat) : Blind legMarks (·.txHead row l) := by
  intro m hm s u ht
  have hrow : u.outRow row = s.outRow row := blind_outRow (by decide) row m hm s u ht
  have hrd : ∀ {o}, .obj o ∉ legMarks → o ∉ alarmSideObjects → ∀ r, u.rdN o r = s.rdN o r := fun ho ha r => congrArg Int.toNat (blind_rd ho r (.inr ha) m hm s u ht)
  have hoct : ∀ o r, u.rdOct o r = s.rdOct o r := fun o r => blind_rdOct (M := legMarks) (by simp [legMarks, drainMarks, creditMarks]) r m hm s u ht
  have hdst : ∀ b : Bool, u.rdN (if b then o3700_TX_SRC_PORT_S else o3700_TX_SRC_PORT_P) row = s.rdN (if b then o3700_TX_SRC_PORT_S else o3700_TX_SRC_PORT_P) row := fun b => by
    cases b
    · exact hrd (by decide) (by decide) row
    · exact hrd (by decide) (by decide) row
  have hport : ∀ b : Bool, u.rdN (if b then o3700_TX_DEST_PORT_S else o3700_TX_DEST_PORT_P) row = s.rdN (if b then o3700_TX_DEST_PORT_S else o3700_TX_DEST_PORT_P) row := fun b => by
    cases b
    · exact hrd (by decide) (by decide) row
    · exact hrd (by decide) (by decide) row
  dsimp only
  unfold State.txHead
  simp only [hrow, hoct, hdst, hport]
  rw [hrd (o := o3700_TX_PAYLOAD_TYPE) (by decide) (by decide), hrd (o := o3700_SSRC) (by decide) (by decide), hrd (o := o3700_DSCP) (by decide) (by decide),
    hrd (o := o3700_TTL) (by decide) (by decide)]

theorem blind_pacedStamp (r : PlanOutRow) : Blind legMarks (·.pacedStamp r) := by
  intro m hm s u ht
  have hadj : u.rd o3700_RTP_TS_ADJUST r.row = s.rd o3700_RTP_TS_ADJUST r.row := blind_rd (by decide) _ (.inr (by decide)) m hm s u ht
  have hrate : u.rd o4101_AUD_DEST_RATE r.ep = s.rd o4101_AUD_DEST_RATE r.ep := blind_rd (by decide) _ (.inr (by decide)) m hm s u ht
  have hclk : u.clk = s.clk := blind_clk (by decide) m hm s u ht
  have hnow : u.now = s.now := blind_now m hm s u ht
  have hcad : u.cadenceAt = s.cadenceAt := blind_cadenceAt (by decide) m hm s u ht
  have htds : u.tds = s.tds := blind_tds (by decide) m hm s u ht
  dsimp only
  unfold State.pacedStamp State.rtpStamp State.dstRate96 State.clkNanos State.td
  rw [hadj, hrate, hclk, hnow, hcad, htds]

/-! One leg. -/

/-- The wire of a port taken by a paced packet, which is counted in its class. -/
def State.pacedWire (s : State) (l len : Nat) : State :=
  let s := (s.accrue l).setEport l { (s.accrue l).eport l with wire := s.now * 100 + s.wireOn l len }
  (s.bump o3801_CLASS_FRAMES (classRow l 7)).addTo o3801_CLASS_BYTES (classRow l 7) (wireBytes len)

section
variable {M : List Mark} {α : Type} {g : State → α} (hg : Blind M g) (h : legMarks ⊆ M) (s : State)
include hg h

theorem Blind.pacedWire (l len : Nat) : g (s.pacedWire l len) = g s :=
  (hg.addTo (h (by decide)) _ _ _).trans ((hg.bump (h (by decide)) _ _).trans ((hg.setEport (h (by decide)) _ _ _).trans (hg.accrue (List.Subset.trans (by decide) h) _ _)))

theorem Blind.pacedSent (l seq stamp : Nat) (o : Out) : g ((s.txStamped l seq stamp).emit o) = g s :=
  (hg.emit (h (.head _)) _ _).trans (hg.txStamped (List.Subset.trans (by decide) h) _ _ _ _)

end

theorem pacedLeg_sends {s : State} {r : PlanOutRow} (hl : r.laneP ≠ noLane) (hopen : s.portBlocked r.laneP = false) (hup : s.rd o3100_LANE_STATE r.laneP = LANE_STATE.up)
    (null : Bool) (seq stamp : Nat) : s.pacedLeg r false null seq stamp =
      ((s.pacedWire r.laneP (s.pacedLength r false)).txStamped r.laneP seq stamp).emit (.paced r.laneP r.row seq (s.pacedStamp r) null (s.txHead r.row r.laneP)) := by
  obtain ⟨w, hw⟩ : ∃ w, w = s.pacedWire r.laneP (s.pacedLength r false) := ⟨_, rfl⟩
  have hblind : ∀ {α : Type} {g : State → α}, Blind legMarks g → g (w.txStamped r.laneP seq stamp) = g s := fun hg =>
    (hg.txStamped (by decide) _ _ _ _).trans (hw ▸ hg.pacedWire (List.Subset.refl _) _ _ _)
  have hstate : w.laneState r.laneP = LANE_STATE.up := hw ▸ ((blind_laneState (by decide) r.laneP).pacedWire (List.Subset.refl legMarks) s r.laneP _).trans hup
  have hsend : w.toWire r.laneP (fun s => (s.txStamped r.laneP seq stamp).emit (.paced r.laneP r.row seq (s.pacedStamp r) null (s.txHead r.row r.laneP))) =
      (w.txStamped r.laneP seq stamp).emit (.paced r.laneP r.row seq (s.pacedStamp r) null (s.txHead r.row r.laneP)) := by
    refine (if_pos hstate).trans ?_
    dsimp only
    rw [show w.pacedStamp r = s.pacedStamp r from hw ▸ (blind_pacedStamp r).pacedWire (List.Subset.refl _) _ _ _,
      show w.txHead r.row r.laneP = s.txHead r.row r.laneP from hw ▸ (blind_txHead r.row r.laneP).pacedWire (List.Subset.refl _) _ _ _]
  rw [← hw, ← hsend, hw]
  exact (if_neg hl).trans (if_neg (by rw [show s.portBlocked (if false = true then r.laneS else r.laneP) = false from hopen]; exact Bool.false_ne_true))

/-! PACED_RELEASE. -/

section
variable {s : State} {r : PlanOutRow} (hl : r.laneP ≠ noLane) (hs : r.laneS = noLane) (hopen : s.portBlocked r.laneP = false) (hup : s.rd o3100_LANE_STATE r.laneP = LANE_STATE.up)
include hl hs hopen hup

theorem sendPaced_spec (stamp : Nat) (last : Bool) :
    .paced r.laneP r.row ((storeGet r.row s.med.txSeq).getD 0) (s.pacedStamp r) false (s.txHead r.row r.laneP) ∈ (s.sendPaced r false stamp last).out ∧
      storeGet r.row (s.sendPaced r false stamp last).med.txSeq = some (((storeGet r.row s.med.txSeq).getD 0 + 1) % seqModulus r.kind) ∧
      (s.sendPaced r false stamp last).rd o3720_TX_PACKETS r.row = (s.rd o3720_TX_PACKETS r.row + 1) % objModulus o3720_TX_PACKETS := by
  obtain ⟨seq, hseq⟩ : ∃ seq, seq = (storeGet r.row s.med.txSeq).getD 0 := ⟨_, rfl⟩
  obtain ⟨v, hv⟩ : ∃ v, v = s.seqTaken r := ⟨_, rfl⟩
  obtain ⟨w, hw⟩ : ∃ w, w = v.pacedLeg r false false seq stamp := ⟨_, rfl⟩
  have hleg : w = ((v.pacedWire r.laneP (v.pacedLength r false)).txStamped r.laneP seq stamp).emit (.paced r.laneP r.row seq (s.pacedStamp r) false (s.txHead r.row r.laneP)) :=
    hw.trans ((pacedLeg_sends (s := v) hl (hv ▸ hopen) (hv ▸ hup) false seq stamp).trans (by rw [hv]; rfl))
  have hblind : ∀ {M : List Mark} {α : Type} {g : State → α}, Blind M g → legMarks ⊆ M → g w = g v := fun hg hm => by
    rw [hleg]
    exact (hg.pacedSent hm _ _ _ _ _).trans (hg.pacedWire hm _ _ _)
  have hsends : w.rowSends r = true := by
    have hblock : w.portBlocked r.laneP = false :=
      (hblind ((blind_portState (M := legMarks) (by decide) (by decide) (by decide) (by decide) r.laneP).comp (· != EG_PORT_STATE.running)) (List.Subset.refl _)).trans (hv ▸ hopen)
    unfold State.rowSends
    rw [hblock]
    rfl
  have heq : s.sendPaced r false stamp last =
      if last then (w.countTx r.row (r.layout % 32768)).bump o3720_TX_FRAMES r.row else w.countTx r.row (r.layout % 32768) := by
    have hsecond : w.pacedLeg r true false seq stamp = w := if_pos hs
    unfold State.sendPaced
    rw [show s.nextTxSeq r = (seq, v) by rw [hseq, hv]; rfl]
    dsimp only
    rw [← hw, hsecond, hsends]
    cases last <;> rfl
  have hend : ∀ {M : List Mark} {α : Type} {g : State → α}, Blind M g → [.obj o3720_TX_FRAMES, .obj o3720_TX_BYTES] ⊆ M → g (s.sendPaced r false stamp last) = g (w.bump o3720_TX_PACKETS r.row) :=
    fun hg hm => by
      rw [heq]
      cases last with
      | false => exact hg.addTo (hm (by decide)) _ _ _
      | true => exact (hg.bump (hm (by decide)) _ _).trans (hg.addTo (hm (by decide)) _ _ _)
  refine ⟨?_, ?_, ?_⟩
  · rw [hend (blind_out (by decide)) (List.Subset.refl _), ← hseq]
    exact hleg ▸ List.mem_append_right _ (List.mem_singleton_self _)
  · rw [hend (blind_med (by decide)) (List.Subset.refl _)]
    refine (congrArg (fun x : Med => storeGet r.row x.txSeq) (hblind (blind_med (by decide)) (List.Subset.refl _))).trans ?_
    rw [hv]
    exact storeGet_put_same ..
  · rw [hend (blind_rd (by decide) r.row (.inl (by decide))) (List.Subset.refl _)]
    refine (rd_bump_same ..).trans ?_
    rw [hblind (blind_rd (M := legMarks) (by decide) r.row (.inr (by decide))) (List.Subset.refl _), hv]
    rfl

end

theorem packet_released {s : State} {t row k : Nat} {r : PlanOutRow} (hp : s.powered = true) (hr : s.outRow row = some r) (hpaced : r.paced = true) (hkind : r.kind ≠ 6)
    (hen : s.isOn o3700_TX_ENABLE row = true) (hcust : s.isOn o1601_CUSTODY_HELD 0 = true) (hdue : (s.td r.dom).tickAt + s.pacedOffset r k ≤ max s.now t) (hl : r.laneP ≠ 65535)
    (hs : r.laneS = 65535) (hopen : s.portBlocked r.laneP = false) (hup : s.rd o3100_LANE_STATE r.laneP = LANE_STATE.up) (ready : Bool) (stamp : Nat) :
    ∃ u, exec (.pacedRelease t row k ready stamp []) s = .next u ∧
      .paced r.laneP row ((storeGet row s.med.txSeq).getD 0) ((s.begin t).pacedStamp r) false (s.txHead row r.laneP) ∈ u.out ∧
      storeGet row u.med.txSeq = some (((storeGet row s.med.txSeq).getD 0 + 1) % seqModulus r.kind) ∧
      u.rd o3720_TX_PACKETS row = (s.rd o3720_TX_PACKETS row + 1) % objModulus o3720_TX_PACKETS := by
  have hrow := outRow_row hr
  have hdue' : (s.begin t).packetDue r k = true := Bool.or_eq_true _ _ |>.mpr (.inl (decide_eq_true hdue))
  have hwork : (s.begin t).pacedRelease row k ready false stamp = (s.begin t).sendPaced r false stamp (k + 1 == r.packets) := by
    unfold State.pacedRelease
    rw [show (s.begin t).outRow row = some r from hr]
    dsimp only
    rw [if_neg ?_, if_neg hkind, hdue']
    · rfl
    · rw [hpaced, show (s.begin t).isOn o3700_TX_ENABLE row = true from hen, show (s.begin t).isOn o1601_CUSTODY_HELD 0 = true from hcust]
      exact fun h => h.elim Bool.noConfusion fun h => h.elim Bool.noConfusion Bool.noConfusion
  obtain ⟨hout, hseq, hcount⟩ := sendPaced_spec (s := s.begin t) hl hs hopen hup stamp (k + 1 == r.packets)
  rw [hrow] at hout hseq hcount
  exact ⟨_, run_work (f := fun s => let (bad, s) := s.meetAll []; s.pacedRelease row k ready (bad.any fun w => s.classOf w.addr == 7) stamp) hp hwork, hout, hseq, (State.finish_rd ..).trans hcount⟩

/-! TX_ENABLE. -/

theorem txEnable_set {s : State} {t port row : Nat} {on : Bool} (hp : s.powered = true) (ha : s.admits port o3700_TX_ENABLE row (.int (boolVal on)) = true) :
    ∃ u, exec (.txEnable t port row on) s = .next u ∧ u.last = ⟨0, none⟩ ∧ u.rd o3700_TX_ENABLE row = boolVal on ∧
      u.rd o3700_TX_STATE row = (if (s.outRow row).isNone then TX_STATE_3700.not_planned else if on then TX_STATE_3700.sending else TX_STATE_3700.off) ∧
      s.keepsRegs u [(o3700_TX_ENABLE, row), (o3700_TX_STATE, row)] ∧ u.works = s.works := by
  obtain ⟨w, hw⟩ : ∃ w, w = ((s.begin t).wr o3700_TX_ENABLE row (boolVal on)).noteTx row := ⟨_, rfl⟩
  have hkeeps : s.keepsRegs w [(o3700_TX_ENABLE, row), (o3700_TX_STATE, row)] :=
    hw ▸ ((keepsRegs_refl (s.begin t) _).wr _ (List.mem_cons_self ..)).wr _ (List.mem_cons_of_mem _ (List.mem_singleton_self _))
  have hon : ((s.begin t).wr o3700_TX_ENABLE row (boolVal on)).isOn o3700_TX_ENABLE row = on := by
    unfold State.isOn
    rw [State.rd_wr_same]
    cases on <;> rfl
  have hstate : w.rd o3700_TX_STATE row = if (s.outRow row).isNone then TX_STATE_3700.not_planned else if on then TX_STATE_3700.sending else TX_STATE_3700.off := by
    rw [hw]
    refine (State.rd_wr_same ..).trans ?_
    rw [hon]
    rfl
  have henable : w.rd o3700_TX_ENABLE row = boolVal on := by
    rw [hw]
    exact (State.rd_wr_obj _ _ (by decide)).trans (State.rd_wr_same ..)
  obtain ⟨e, he, hacc⟩ := run_accepted_row (t := t) (h := writeTxEnable) (w := w) (by decide) hp ha (fun _ _ => by rw [hw]; rfl) (by rw [hw]; rfl)
  exact ⟨_, he, hacc.last, (hacc.rd _ _ (by decide)).trans henable, (hacc.rd _ _ (by decide)).trans hstate, hacc.keepsRegs hkeeps,
    (hacc.works (by rw [hw]; rfl) (by rw [hw]; rfl)).trans (by rw [hw]; rfl)⟩

end Sys2Proof.Machine
end

section
/-! SUPPORT. The commands and the instants of the time gates (R181-R184). -/

namespace Sys2Proof.Machine
open Sys2Proof

/-! A list accepted (R183). -/

/-- A change time is a whole number of cycles from the base, and two ledger cycles away. -/
theorem changeTime_lead {base cycle now : Nat} (hc : 0 < cycle) : (changeTime base cycle now).1 = base + (changeTime base cycle now).2 * cycle ∧ now + 250000 ≤ (changeTime base cycle now).1 := by
  refine ⟨rfl, ?_⟩
  unfold changeTime gateLead
  dsimp only
  split
  · next h => exact (h.resolve_right hc.ne').trans (Nat.le_add_right _ _)
  · next h =>
    have hbase : base < now + 250000 := not_le.mp fun hle => h (.inl hle)
    have hceil : now + 250000 - base ≤ (now + 250000 - base + cycle - 1) / cycle * cycle := by
      have hdiv := Nat.div_add_mod (now + 250000 - base + cycle - 1) cycle
      have hmod := Nat.mod_lt (now + 250000 - base + cycle - 1) hc
      rw [Nat.mul_comm cycle] at hdiv
      omega
    omega

/-- What the acceptance of a list touches. -/
def listMarks : List Mark := [.alarm .EG_GATE_SHIFTED, .obj o3810_CONFIG_CHANGE_S, .obj o3810_CONFIG_CHANGE_NS, .obj o3810_START_SHIFTED, .obj o3810_SHIFT_COUNT]

theorem Blind.listStarted {M : List Mark} {α : Type} {f : State → α} (hf : Blind M f) (h : listMarks ⊆ M) (s : State) (l : Nat) (g : GateList) : f (s.startList l g).2 = f s := by
  have hw : ∀ (s : State) (a b c : Int), f (((s.wr o3810_CONFIG_CHANGE_S l a).wr o3810_CONFIG_CHANGE_NS l b).wr o3810_START_SHIFTED l c) = f s := fun s a b c =>
    (hf.wr (h (by decide)) _ _ _).trans ((hf.wr (h (by decide)) _ _ _).trans (hf.wr (h (by decide)) _ _ _))
  unfold State.startList
  dsimp only
  split
  · exact (hf.raise (h (by decide)) _ _).trans ((hf.bump (h (by decide)) _ _).trans (hw _ _ _ _))
  · exact hw _ _ _ _

theorem legal_cycle {g : GateList} (h : g.legal = true) : 0 < g.cycle := by
  unfold GateList.legal at h
  simp only [Bool.and_eq_true, decide_eq_true_eq] at h
  omega

/-! CONFIG_CHANGE (R183). -/

/-- A port whose list waits for its change time. -/
def State.listWaits (s : State) (l : Nat) : State :=
  let w := (s.startList l (s.adminList l)).2
  (w.setEport l { w.eport l with pending := some (s.startList l (s.adminList l)).1 }).wr o3810_CONFIG_PENDING l 1

theorem writeConfigChange_apply (c : Ctx) (l : Nat) (s : State) : writeConfigChange c l (.int CONFIG_CHANGE.apply) s =
    if (s.adminList l).legal = false then (0x0E01, s)
    else if ethMode (s.rd o3000_LANE_MODE l) = false then (0x0E02, s)
    else if s.isOn o3810_GATE_ENABLED l = false then (0x0E03, s)
    else (stOK, s.listWaits l) := by
  unfold writeConfigChange onInt
  dsimp only
  rw [if_pos rfl]
  rfl

theorem writeConfigChange_cancel (c : Ctx) (l : Nat) (s : State) : writeConfigChange c l (.int CONFIG_CHANGE.cancel) s =
    (stOK, (s.setEport l { s.eport l with pending := none }).wr o3810_CONFIG_PENDING l 0) := by
  unfold writeConfigChange onInt
  exact if_neg (by decide)

/-- A port with a list that waits, given the list and the state that its acceptance left. -/
def State.listHeld (x : GateList × State) (l : Nat) : State := (x.2.setEport l { x.2.eport l with pending := some x.1 }).wr o3810_CONFIG_PENDING l 1

theorem listHeld_eport (x : GateList × State) (l : Nat) : (State.listHeld x l).eport l = { x.2.eport l with pending := some x.1 } := eport_setEport x.2 l _

theorem listWaits_eq (s : State) (l : Nat) : s.listWaits l = State.listHeld (s.startList l (s.adminList l)) l := rfl

theorem listWaits_eport (s : State) (l : Nat) : (s.listWaits l).eport l = { s.eport l with pending := some (s.startList l (s.adminList l)).1 } := by
  rw [listWaits_eq, listHeld_eport]
  exact congrArg (fun y : EgPort => { y with pending := some (s.startList l (s.adminList l)).1 })
    ((blind_eport (M := listMarks) (by decide) l).listStarted (List.Subset.refl _) s l (s.adminList l))

theorem listHeld_ctl (x : GateList × State) (l : Nat) : (State.listHeld x l).ctl = x.2.ctl := rfl

theorem startList_fst (s : State) (l : Nat) (g : GateList) : (s.startList l g).1 = { g with start := (changeTime g.base g.cycle s.clkNanos).1 } := rfl

theorem listWaits_ctl (s : State) (l : Nat) : (s.listWaits l).ctl = s.ctl := (congrArg State.ctl (listWaits_eq s l)).trans <| (listHeld_ctl _ l).trans <| (blind_ctl (M := listMarks) (by decide)).listStarted (List.Subset.refl _) s l (s.adminList l)

theorem listWaits_pending (s : State) (l : Nat) : (s.listWaits l).rd o3810_CONFIG_PENDING l = 1 := State.rd_wr_same ..

theorem adminList_begin (s : State) (t l : Nat) : (s.begin t).adminList l = s.adminList l := by
  unfold State.adminList
  simp only [State.begin_rdN]

section
variable {s : State} {t port l : Nat} (hp : s.powered = true)
include hp

omit hp in
theorem apply_accepts (hlegal : (s.adminList l).legal = true) (heth : ethMode (s.rd o3000_LANE_MODE l) = true) (hon : s.isOn o3810_GATE_ENABLED l = true) (c : Ctx) :
    writeConfigChange c l (.int CONFIG_CHANGE.apply) (s.begin t) = (stOK, (s.begin t).listWaits l) := by
  refine (writeConfigChange_apply c l (s.begin t)).trans ((if_neg ?_).trans ((if_neg ?_).trans (if_neg ?_)))
  · exact fun h => Bool.false_ne_true (h.symm.trans ((congrArg GateList.legal (adminList_begin s t l)).trans hlegal))
  · exact fun h => Bool.false_ne_true (h.symm.trans heth)
  · exact fun h => Bool.false_ne_true (h.symm.trans hon)

omit hp in
/-- The list that waits at its port, with its change time. -/
theorem apply_list (hlegal : (s.adminList l).legal = true) : ∃ p n, ((s.begin t).listWaits l).eport l = { s.eport l with pending := some p } ∧ p.entries = (s.adminList l).entries ∧
    p.cycle = (s.adminList l).cycle ∧ p.start = (s.adminList l).base + n * p.cycle ∧ (s.begin t).clkNanos + 250000 ≤ p.start := by
  obtain ⟨hstart, hlead⟩ := changeTime_lead (base := (s.adminList l).base) (now := (s.begin t).clkNanos) (legal_cycle hlegal)
  have hport := listWaits_eport (s.begin t) l
  rw [adminList_begin, startList_fst] at hport
  exact ⟨_, _, hport, rfl, rfl, hstart, hlead⟩

/-- A CONFIG_CHANGE that its handler takes. -/
theorem configChange_accepted {v : Int} {w : State} (ha : s.admits port o3810_CONFIG_CHANGE l (.int v) = true) (hwrite : ∀ c, writeConfigChange c l (.int v) (s.begin t) = (stOK, w))
    (hctl : w.ctl = s.ctl) : ∃ u, s.run t (fun s => s.opCmd writeConfigChange port o3810_CONFIG_CHANGE l (.int v)) = .next u ∧ u.last = ⟨0, none⟩ ∧ u.eport l = w.eport l ∧
      u.rd o3810_CONFIG_PENDING l = w.rd o3810_CONFIG_PENDING l := by
  obtain ⟨e, he, hacc⟩ := run_accepted_row (t := t) (h := writeConfigChange) (w := w) (by decide) hp ha (fun c _ => hwrite c) (congrArg Ctl.endAfter hctl)
  exact ⟨_, he, hacc.last, rfl, hacc.rd _ _ (by decide)⟩

theorem gateApply_waits (ha : s.admits port o3810_CONFIG_CHANGE l (.int CONFIG_CHANGE.apply) = true) (hlegal : (s.adminList l).legal = true) (heth : ethMode (s.rd o3000_LANE_MODE l) = true)
    (hon : s.isOn o3810_GATE_ENABLED l = true) :
    ∃ u p n, exec (.gateApply t port l) s = .next u ∧ u.last = ⟨0, none⟩ ∧ (u.eport l).pending = some p ∧ (u.eport l).running = (s.eport l).running ∧
      u.rd o3810_CONFIG_PENDING l = 1 ∧ p.entries = (s.adminList l).entries ∧ p.cycle = (s.adminList l).cycle ∧ p.start = (s.adminList l).base + n * p.cycle ∧
      (s.begin t).clkNanos + 250000 ≤ p.start := by
  obtain ⟨p, n, hport, hrest⟩ := apply_list (t := t) hlegal
  obtain ⟨u, he, hlast, hu, hpend⟩ := configChange_accepted (t := t) hp ha (apply_accepts hlegal heth hon) (listWaits_ctl (s.begin t) l)
  rw [hport] at hu
  exact ⟨u, p, n, he, hlast, (congrArg EgPort.pending hu :), (congrArg EgPort.running hu :), hpend.trans (listWaits_pending ..), hrest⟩

theorem gateApply_illegal (ha : s.admits port o3810_CONFIG_CHANGE l (.int CONFIG_CHANGE.apply) = true) (hlegal : (s.adminList l).legal = false) :
    ∃ u, exec (.gateApply t port l) s = .next u ∧ u.last = ⟨0x0E01, none⟩ ∧ s.keepsRegs u [] ∧ u.works = s.works :=
  ⟨_, run_refused_row (t := t) (h := writeConfigChange) (by decide) hp ha (fun c _ => (writeConfigChange_apply c l (s.begin t)).trans (if_pos ((congrArg GateList.legal (adminList_begin s t l)).trans hlegal))) (by decide) (noteRefusal_low _ _ _ (by decide)), rfl, keepsRegs_refl _ _, rfl⟩

theorem gateCancel_drops (ha : s.admits port o3810_CONFIG_CHANGE l (.int CONFIG_CHANGE.cancel) = true) : ∃ u, exec (.gateCancel t port l) s = .next u ∧ u.last = ⟨0, none⟩ ∧
    u.eport l = { s.eport l with pending := none } ∧ s.keepsRegs u [(o3810_CONFIG_PENDING, l)] ∧ u.rd o3810_CONFIG_PENDING l = 0 := by
  obtain ⟨w, hw⟩ : ∃ w, w = ((s.begin t).setEport l { s.eport l with pending := none }).wr o3810_CONFIG_PENDING l 0 := ⟨_, rfl⟩
  have hkeeps : s.keepsRegs w [(o3810_CONFIG_PENDING, l)] := by
    rw [hw]
    exact State.keepsRegs.wr (u := (s.begin t).setEport l { s.eport l with pending := none }) (keepsRegs_refl (s.begin t) _) _ (List.mem_singleton_self _)
  have hport : w.eport l = { s.eport l with pending := none } := by rw [hw]; exact eport_setEport (s.begin t) l _
  obtain ⟨e, he, hacc⟩ := run_accepted_row (t := t) (h := writeConfigChange) (w := w) (by decide) hp ha (fun c _ => (writeConfigChange_cancel c l (s.begin t)).trans (by rw [hw]; rfl)) (by rw [hw]; rfl)
  refine ⟨_, he, hacc.last, hport, hacc.keepsRegs hkeeps, ?_⟩
  rw [hacc.rd _ _ (by decide), hw]
  exact State.rd_wr_same ..

/-! GATE_ENABLED (R182). -/

theorem gateEnabled_set {on : Bool} (ha : s.admits port o3810_GATE_ENABLED l (.int (boolVal on)) = true) : ∃ u, exec (.gateEnabled t port l on) s = .next u ∧ u.last = ⟨0, none⟩ ∧
    u.rd o3810_GATE_ENABLED l = boolVal on ∧ u.eport l = { s.eport l with disableDue := !on } ∧ s.keepsRegs u [(o3810_GATE_ENABLED, l)] := by
  obtain ⟨w, hw⟩ : ∃ w, w = ((s.begin t).wr o3810_GATE_ENABLED l (boolVal on)).setEport l { s.eport l with disableDue := !on } := ⟨_, rfl⟩
  have hkeeps : s.keepsRegs w [(o3810_GATE_ENABLED, l)] := by
    rw [hw]
    exact (keepsRegs_refl (s.begin t) _).wr (boolVal on) (List.mem_singleton_self _)
  have hport : w.eport l = { s.eport l with disableDue := !on } := by rw [hw]; exact eport_setEport _ l _
  have hdue : (boolVal on == 0) = !on := by cases on <;> rfl
  obtain ⟨e, he, hacc⟩ := run_accepted_row (t := t) (h := writeGateEnabled) (w := w) (by decide) hp ha (fun _ _ => by rw [hw, ← hdue]; rfl) (by rw [hw]; rfl)
  refine ⟨_, he, hacc.last, ?_, hport, hacc.keepsRegs hkeeps⟩
  rw [hacc.rd _ _ (by decide), hw]
  exact State.rd_wr_same ..

end

/-! The change time of a list, and its entries (R182, R183). -/

/-- What the readings of the running list touch. -/
def operMarks : List Mark := [.obj o3812_OPER_GATE_STATES, .obj o3812_OPER_INTERVAL_NS, .obj o3810_OPER_CYCLE_NS, .obj o3810_OPER_LENGTH]

theorem Blind.noteOper {M : List Mark} {α : Type} {f : State → α} (hf : Blind M f) (h : operMarks ⊆ M) (s : State) (l : Nat) : f (s.noteOper l) = f s := by
  have hentry : ∀ (s : State) (r : Nat) (a b : Int), f ((s.wr o3812_OPER_GATE_STATES r a).wr o3812_OPER_INTERVAL_NS r b) = f s := fun s r a b =>
    (hf.wr (h (by decide)) _ _ _).trans (hf.wr (h (by decide)) _ _ _)
  have hhead : ∀ (s : State) (a b : Int), f ((s.wr o3810_OPER_CYCLE_NS l a).wr o3810_OPER_LENGTH l b) = f s := fun s a b =>
    (hf.wr (h (by decide)) _ _ _).trans (hf.wr (h (by decide)) _ _ _)
  have hreset : f ((List.range (s.rdN o3810_OPER_LENGTH l)).foldl (fun s e => (s.wr o3812_OPER_GATE_STATES (l * 256 + e) 255).wr o3812_OPER_INTERVAL_NS (l * 256 + e) 0) s) = f s :=
    foldl_blind (fun s e => hentry s _ _ _) _ s
  unfold State.noteOper
  dsimp only
  split
  · exact (hhead _ _ _).trans hreset
  · exact (foldl_blind (fun s e => hentry s _ _ _) _ _).trans ((hhead _ _ _).trans hreset)

/-- A port whose pending list runs from now on, with the readings of the list. -/
def State.listRuns (s : State) (l : Nat) (p : GateList) : State :=
  let w := s.accrue l
  ((w.setEport l { w.eport l with running := some p, pending := none }).wr o3810_CONFIG_PENDING l 0).noteOper l

theorem listRuns_eport (s : State) (l : Nat) (p : GateList) : ((s.listRuns l p).eport l).running = some p ∧ ((s.listRuns l p).eport l).pending = none := by
  have hport : (s.listRuns l p).eport l = { (s.accrue l).eport l with running := some p, pending := none } :=
    ((blind_eport (M := operMarks) (by decide) l).noteOper (List.Subset.refl _) _ l).trans (eport_setEport (s.accrue l) l _)
  rw [hport]
  exact ⟨rfl, rfl⟩

theorem refreshGates_lists (s : State) (l : Nat) : ((s.refreshGates l).eport l).running = (s.eport l).running ∧ ((s.refreshGates l).eport l).pending = (s.eport l).pending := by
  obtain ⟨credit, at_, hown⟩ := accrue_own s l
  have hset : ∀ (gates : Nat) (v : Int), ((((s.accrue l).setEport l { (s.accrue l).eport l with gates := gates }).wr o3810_CURRENT_ENTRY l v).eport l) =
      { s.eport l with gates := gates, credit := credit, creditAt := at_ } := fun gates v =>
    (eport_setEport (s.accrue l) l _).trans (congrArg (fun x : EgPort => { x with gates := gates }) hown)
  unfold State.refreshGates
  dsimp only
  split
  · rw [hset]
    exact ⟨rfl, rfl⟩
  · split
    · rw [hown]
      exact ⟨rfl, rfl⟩
    · rw [hset]
      exact ⟨rfl, rfl⟩

theorem refreshGates_at {s : State} {l : Nat} {r : GateList} (h : (s.eport l).running = some r) (hstart : r.start ≤ s.clkNanos) :
    ((s.refreshGates l).eport l).gates = r.at_ s.clkNanos % 128 ∧ (s.refreshGates l).rd o3810_CURRENT_ENTRY l = r.entry s.clkNanos := by
  rw [refreshGates_list h hstart]
  exact ⟨congrArg EgPort.gates (eport_setEport (s.accrue l) l _), State.rd_wr_same ..⟩

section
variable {s : State} {t l : Nat} (hp : s.powered = true)
include hp

theorem gate_changes {p : GateList} (h : (s.eport l).pending = some p) (hstart : p.start ≤ (s.begin t).clkNanos) : ∃ u, exec (.gateChangeTime t l) s = .next u ∧
    (u.eport l).running = some p ∧ (u.eport l).pending = none ∧ u.rd o3810_CONFIG_PENDING l = 0 ∧ (u.eport l).gates = p.at_ (s.begin t).clkNanos % 128 := by
  obtain ⟨v, hv⟩ : ∃ v, v = (s.begin t).listRuns l p := ⟨_, rfl⟩
  obtain ⟨w, hw⟩ : ∃ w, w = if v.isOn o3810_START_SHIFTED l then v else v.clear .EG_GATE_SHIFTED l := ⟨_, rfl⟩
  have hwork : (s.begin t).gateChange l = w.refreshGates l := by
    unfold State.gateChange
    dsimp only
    rw [show ((s.begin t).eport l).pending = some p from h]
    dsimp only
    rw [if_pos hstart, hw, hv]
    rfl
  have hsame : ∀ {α : Type} {g : State → α}, Blind [.alarm .EG_GATE_SHIFTED] g → g w = g v := fun hg => by
    rw [hw]
    split
    · rfl
    · exact hg.clear (.head _) _ _
  obtain ⟨hrun, hpend⟩ := hv ▸ listRuns_eport (s.begin t) l p
  have hport : w.eport l = v.eport l := hsame (blind_eport (by decide) l)
  have hclk : w.clkNanos = (s.begin t).clkNanos := by
    have hb : ∀ {M : List Mark}, .clk ∉ M → Blind M State.clkNanos := fun hm => (blind_clk hm).comp (· / 4294967296)
    refine (hsame (hb (by decide))).trans ?_
    rw [hv]
    exact ((hb (M := operMarks) (by decide)).noteOper (List.Subset.refl _) _ l).trans ((hb (M := creditMarks) (by decide)).accrue (List.Subset.refl _) (s.begin t) l)
  have hzero : v.rd o3810_CONFIG_PENDING l = 0 := by
    rw [hv]
    exact ((blind_rd (M := operMarks) (by decide) l (.inl (by decide))).noteOper (List.Subset.refl _) _ l).trans (State.rd_wr_same ..)
  obtain ⟨hgates, -⟩ := refreshGates_at (hport ▸ hrun) (hclk ▸ hstart)
  obtain ⟨hrun', hpend'⟩ := refreshGates_lists w l
  refine ⟨_, run_work (f := fun s => s.gateChange l) hp hwork, hrun'.trans (hport ▸ hrun), hpend'.trans (hport ▸ hpend), ?_, hgates.trans (by rw [hclk])⟩
  refine (State.finish_rd ..).trans (((blind_rd (M := refreshMarks) (by decide) l (.inl (by decide))).refreshGates (List.Subset.refl _) w l).trans ?_)
  exact (hsame (blind_rd (by decide) l (.inr (by decide)))).trans hzero

theorem gate_entry {r : GateList} (h : (s.eport l).running = some r) (hstart : r.start ≤ (s.begin t).clkNanos) : ∃ u, exec (.gateEntryChange t l) s = .next u ∧
    (u.eport l).gates = r.at_ (s.begin t).clkNanos % 128 ∧ u.rd o3810_CURRENT_ENTRY l = r.entry (s.begin t).clkNanos ∧ (u.eport l).running = some r := by
  obtain ⟨hgates, hentry⟩ := refreshGates_at (s := s.begin t) h hstart
  exact ⟨_, run_work (f := fun s => s.refreshGates l) hp rfl, hgates, (State.finish_rd ..).trans hentry, (refreshGates_lists (s.begin t) l).1.trans h⟩

theorem gate_open (h : (s.eport l).running = none) : ∃ u, exec (.gateEntryChange t l) s = .next u ∧ (u.eport l).gates = 127 := by
  refine ⟨_, run_work (f := fun s => s.refreshGates l) hp rfl, ?_⟩
  have hopen := refreshGates_open (s := s.begin t) h
  refine (congrArg (fun x => (x.eport l).gates) hopen).trans ?_
  exact congrArg EgPort.gates (eport_setEport ((s.begin t).accrue l) l _)

end

/-- Settles O23. That the second lane's copy of a shaped row's packet joins its queue at once is the model's choice (log entry 157), as is that a queue of TC6 for which no limit is
planned takes every frame (log entry 57). -/
theorem framesQueueAtTheirGates : Obligations.FramesQueueAtTheirGates := by
  refine ⟨fun s t port l hp => ⟨fun hrun => ⟨fun c q len payload seq stamp marker hc hq => ⟨fun hsrc hrow => ⟨fun hfit => ?_, fun hlt hn => ?_⟩, fun r hr hen hcust hl hfit => ⟨fun hs => ?_,
    fun k hs hk hkl hkrun hksrc hkfit => ?_⟩⟩, fun q f hwire hrunning hpending hqueues hvisit hdeficit hlen hquantum hcredit hpaced hsrc hup => ?_⟩,
    fun row k ready stamp r hr hpaced hkind hen hcust hdue hl hs hopen hup => packet_released hp hr hpaced hkind hen hcust hdue hl hs hopen hup ready stamp, fun row on ha => txEnable_set hp ha⟩,
    fun s t port l hp => ⟨fun ha => ⟨fun hlegal heth hon => gateApply_waits hp ha hlegal heth hon, fun hlegal => gateApply_illegal hp ha hlegal⟩, fun ha => gateCancel_drops hp ha,
      fun on ha => gateEnabled_set hp ha, fun p h hstart => gate_changes hp h hstart, fun r h hstart => gate_entry hp h hstart, fun h => gate_open hp h⟩⟩
  · exact frame_joins hp hrun hc hq len payload seq stamp marker hsrc hrow hfit
  · exact frame_drops hp hrun hc hq len payload seq stamp marker hsrc hrow hlt hn
  · exact packet_joins hp hrun hc hq hr hen hcust hl len payload seq stamp marker hfit hs
  · exact packet_joins_twice hp hrun hc hq hr hen hcust hl len payload seq stamp marker hfit hs hk hkl hkrun hksrc hkfit
  · exact tx_selects hp hrun ⟨hrunning, hpending, hqueues, hvisit, hcredit⟩ hwire hpaced hsrc hdeficit hlen hquantum hup

end Sys2Proof.Machine
end

section
/-! SUPPORT. A table of flow rows that is not in rising order (R160). -/

namespace Sys2Proof.Machine
open Sys2Proof

/-- Two sources of the group FF02::1. -/
def firstSource : Bytes := [0x20#8] ++ zeros 14 ++ [1#8]
def secondSource : Bytes := [0x20#8] ++ zeros 14 ++ [2#8]
def sharedGroup : Bytes := [0xFF#8, 2#8] ++ zeros 13 ++ [1#8]

/-- A module at instant 0 whose lane 3 runs. Rows 1 and 2 are active and take one group there from two sources; row 1 has joined at instant 0. Its table of rows names row 2 before
row 1. -/
def rowsOutOfOrder : State :=
  let d : State := State.reset.put [(o3000_LANE_MODE, 3, LANE_MODE.m25gbase_r), (o3100_LANE_STATE, 3, LANE_STATE.up), (o3100_TX_STATE, 3, TX_STATE.running), (o1410_PD_STATE, 64, PD_STATE.on),
    (o3600_LANE_P, 1, 3), (o3600_LANE_P, 2, 3)]
  let d := (((d.wrOct o3600_DEST_ADDR_P 1 sharedGroup).wrOct o3600_SRC_ADDR_P 1 firstSource).wrOct o3600_DEST_ADDR_P 2 sharedGroup).wrOct o3600_SRC_ADDR_P 2 secondSource
  { d with
    lanes := [(3, { mode := LANE_MODE.m25gbase_r })]
    med := { d.med with flows := [(2, { active := true }), (1, { active := true, joinAt := some 0 })] } }

/-- What the frames of a queue carry after a command. -/
def carriedAfter (i : Instr) (s : State) (l c q : Nat) : List (List Out) :=
  match exec i s with
  | .next u => (u.queue l c q).map (·.carries)
  | _ => []

/-- Row 1 is written back in its place, so that the report names its source first. -/
theorem rowsOutOfOrder_reports : carriedAfter (.joinRepeat 1000000000 1) rowsOutOfOrder 3 6 1 = [[.join 3 sharedGroup [firstSource, secondSource]]] := by
  decide +kernel

theorem rowsOutOfOrder_joined : (rowsOutOfOrder.flow 1).joinAt = some 0 ∧ false ∈ rowsOutOfOrder.legs 1 ∧ rowsOutOfOrder.legLane 1 false = 3 ∧ rowsOutOfOrder.legDest 1 false = sharedGroup ∧
    isGroup sharedGroup = true ∧ rowsOutOfOrder.portState 3 = EG_PORT_STATE.running ∧ rowsOutOfOrder.rdN o3802_QUEUE_SOURCE (queueRow 3 6 1) = 65535 ∧
    rowsOutOfOrder.rdN o3802_QUEUE_LIMIT (queueRow 3 6 1) = 0 ∧ (rowsOutOfOrder.groupLegs 3 sharedGroup).eraseDups = [secondSource, firstSource] := by
  decide +kernel

/-- Refutes O21: the clause of the repeated report names the sources of the group in the order of the table of rows before the command, the command in that of the table after row 1 has
been written back. The two differ where the table is not in rising order, which the statement does not ask. That the report joins its queue of TC6 whatever waits there rests on log entry 57; the clause of the black after a hold, which is not at issue here, on
log entry 61. -/
theorem not_flowRowsComeAndGo : ¬ Obligations.FlowRowsComeAndGo := by
  unfold Obligations.FlowRowsComeAndGo
  intro h
  obtain ⟨hjoin, hleg, hlane, hdest, hgroup, hport, hsrc, hlimit, hlegs⟩ := rowsOutOfOrder_joined
  obtain ⟨-, -, hrepeat, -⟩ := h rowsOutOfOrder 1000000000 4 1 rfl
  obtain ⟨u, hrun, -, hreports⟩ := hrepeat 0 hjoin (by decide)
  have hsent := hreports false hleg
  rw [hlane, hdest, hlegs] at hsent
  obtain ⟨e, he, hcarries⟩ := hsent hgroup hport hsrc hlimit
  have hafter := rowsOutOfOrder_reports
  unfold carriedAfter at hafter
  rw [hrun] at hafter
  have hmem : e.carries ∈ (u.queue 3 6 1).map (·.carries) := List.mem_map_of_mem he
  dsimp only at hafter
  rw [hafter, hcarries] at hmem
  exact absurd hmem (by decide)

end Sys2Proof.Machine
end

section
/-! SUPPORT. What a packet of a flow touches, and what it leaves of the merge's book of positions (R145, R148, R155, R156, R159). -/

namespace Sys2Proof.Machine
open Sys2Proof

/-! States of a row (R148). -/

/-- What a row that is 'locking' touches; what a row in any state touches. -/
def lockMarks : List Mark := [.obj o3600_FLOW_STATE, .alarm .MT_INPUT_LOSS, .alarm .MT_FORMAT_MISMATCH]
def feedMarks : List Mark := .obj o3600_FLOW_STATE :: sdiMarks

namespace Blind

variable {M : List Mark} {α : Type} {g : State → α} (hg : Blind M g)
include hg

theorem setFlow (h : .med ∈ M) (s : State) (k : Nat) (x : Flow) : g (s.setFlow k x) = g s := hg _ h _ _ (.med ..)

theorem locking (h : lockMarks ⊆ M) (s : State) (k : Nat) : g (s.setFlowState k FLOW_STATE.locking) = g s := by
  unfold State.setFlowState
  rw [if_neg (by decide), if_neg fun hx => absurd hx.2 (by decide)]
  exact (hg.alarmWhile (h (by decide)) _ _ _).trans ((hg.alarmWhile (h (by decide)) _ _ _).trans (hg.wr (h (by decide)) _ _ _))

theorem flowFeeds (h : feedMarks ⊆ M) (s : State) (k : Nat) (up : Bool) : g (s.flowFeeds k up) = g s := by
  have hsdi : sdiMarks ⊆ M := List.Subset.trans (List.subset_cons_self _ _) h
  have hset : ∀ b n x, g ((if up then s.audioBack b n else s.audioLost b n).setFlow k x) = g s := fun b n x => by
    refine (hg.setFlow (h (by decide)) _ _ _).trans ?_
    split
    · exact hg.audioBack hsdi _ _ _
    · exact hg.audioLost hsdi _ _ _
  have hfeed : ∀ y, g (if State.flowVideo y k then if up then y.feedUp (y.rdN o3600_ENDPOINT k) else y.feedDown (y.rdN o3600_ENDPOINT k) else y) = g y := fun y => by
    split_ifs
    · exact hg.feedUp hsdi _ _
    · exact hg.feedDown hsdi _ _
    · rfl
  unfold State.flowFeeds
  dsimp only
  exact (hfeed _).trans (hset _ _ _)

theorem setFlowState (h : feedMarks ⊆ M) (s : State) (k : Nat) (st : Int) : g (s.setFlowState k st) = g s := by
  unfold State.setFlowState
  extract_lets x
  have hx : g x = g s := (hg.alarmWhile (h (by decide)) _ _ _).trans ((hg.alarmWhile (h (by decide)) _ _ _).trans (hg.wr (h (by decide)) _ _ _))
  split_ifs
  · exact (hg.flowFeeds h _ _ _).trans hx
  · exact (hg.flowFeeds h _ _ _).trans hx
  · exact hx

end Blind

/-! The rows beside their objects. -/

theorem flow_setFlow (s : State) (k : Nat) (x : Flow) : (s.setFlow k x).flow k = x := congrArg (fun y : Option Flow => y.getD {}) (storeGet_put_same natLt k x s.med.flows)

theorem blind_flow {M : List Mark} (h : .med ∉ M) (k : Nat) : Blind M (·.flow k) := (blind_med h).comp fun x => (storeGet k x.flows).getD {}

/-- What the merge keeps of a row: the newest position, the deadlines, what has come (R155). -/
def Flow.book (x : Flow) : Option Nat × List Span × Store Nat Got := (x.newest, x.spans, x.got)

theorem flowFeeds_book (s : State) (k : Nat) (up : Bool) : ((s.flowFeeds k up).flow k).book = (s.flow k).book := by
  have hfeed : ∀ y : State, (if y.flowVideo k then if up then y.feedUp (y.rdN o3600_ENDPOINT k) else y.feedDown (y.rdN o3600_ENDPOINT k) else y).flow k = y.flow k := fun y => by
    split_ifs
    · unfold State.feedUp
      dsimp only
      split <;> rfl
    · unfold State.feedDown
      dsimp only
      split_ifs <;> rfl
    · rfl
  unfold State.flowFeeds
  dsimp only
  rw [hfeed, flow_setFlow]
  split <;> rfl

theorem setFlowState_book (s : State) (k : Nat) (st : Int) : ((s.setFlowState k st).flow k).book = (s.flow k).book := by
  have hx : ∀ a b c, (((s.wr o3600_FLOW_STATE k st).inputAlarms a b c).flow k) = s.flow k := fun a b c => by
    have hb := blind_flow (M := lockMarks) (by decide) k
    exact (hb.alarmWhile (by decide) _ _ _).trans ((hb.alarmWhile (by decide) _ _ _).trans (hb.wr (by decide) _ _ _))
  unfold State.setFlowState
  dsimp only
  split_ifs
  · rw [flowFeeds_book, hx]
  · rw [flowFeeds_book, hx]
  · rw [hx]

/-! A matched packet on its leg (R156). -/

/-- What a matched packet touches. -/
def legPacketMarks : List Mark := [.med, .obj o3600_LEG_STATE_P, .obj o3600_LEG_STATE_S, .alarm .MT_LEG_LOSS] ++ lockMarks

/-- A row that hears a packet on a leg. -/
def Flow.heard (x : Flow) (second : Bool) (now : Nat) : Flow :=
  if second then { x with s := { x.s with lastAt := now }, lastAt := now } else { x with p := { x.p with lastAt := now }, lastAt := now }

/-- A row that begins to lock again. -/
def Flow.afresh (x : Flow) : Flow := { x with run := 0, lastQ := none, outside := 0 }

theorem heard_book (x : Flow) (second : Bool) (now : Nat) : (x.heard second now).book = x.book := by
  unfold Flow.heard
  split <;> rfl

/-- A leg that receives. -/
def State.legHeard (s : State) (k : Nat) (second : Bool) : State :=
  ((s.setFlow k ((s.flow k).heard second s.now)).wr (legObj second) k LEG_STATE_P.receiving).clear .MT_LEG_LOSS (legInst k second)

/-- A row that is 'locking' from here on. -/
def State.relocks (s : State) (k : Nat) : State := (s.setFlow k (s.flow k).afresh).setFlowState k FLOW_STATE.locking

theorem legPacket_eq (s : State) (k : Nat) (second : Bool) : s.legPacket k second =
    if (s.legHeard k second).flowState k = FLOW_STATE.joining ∨ (s.legHeard k second).flowState k = FLOW_STATE.lost then (s.legHeard k second).relocks k else s.legHeard k second := rfl

theorem Blind.relocks {M : List Mark} {α : Type} {g : State → α} (hg : Blind M g) (h : .med :: lockMarks ⊆ M) (s : State) (k : Nat) : g (s.relocks k) = g s :=
  (hg.locking (List.Subset.trans (by decide) h) _ _).trans (hg.setFlow (h (by decide)) _ _ _)

theorem relocks_book (s : State) (k : Nat) : ((s.relocks k).flow k).book = (s.flow k).book :=
  (setFlowState_book _ k _).trans ((congrArg Flow.book (flow_setFlow s k _)).trans rfl)

/-- The state of a leg is seen by what touches neither leg. -/
theorem blind_leg {M : List Mark} (hp : .obj o3600_LEG_STATE_P ∉ M) (hs : .obj o3600_LEG_STATE_S ∉ M) (k : Nat) (second : Bool) : Blind M (·.rd (legObj second) k) := by
  cases second
  · exact blind_rd hp k (.inr (by decide))
  · exact blind_rd hs k (.inr (by decide))

theorem legObj_mem (second : Bool) : .obj (legObj second) ∈ legPacketMarks := by
  cases second <;> decide

theorem Blind.legPacket {M : List Mark} {α : Type} {g : State → α} (hg : Blind M g) (h : legPacketMarks ⊆ M) (s : State) (k : Nat) (second : Bool) : g (s.legPacket k second) = g s := by
  have hheard : g (s.legHeard k second) = g s :=
    (hg.clear (h (by decide)) _ _).trans ((hg.wr (h (legObj_mem second)) _ _ _).trans (hg.setFlow (h (by decide)) s k _))
  rw [legPacket_eq]
  split
  · exact (hg.relocks (List.Subset.trans (by decide) h) _ _).trans hheard
  · exact hheard

theorem legPacket_leg (s : State) (k : Nat) (second : Bool) : (s.legPacket k second).rd (legObj second) k = LEG_STATE_P.receiving := by
  have hheard : (s.legHeard k second).rd (legObj second) k = LEG_STATE_P.receiving :=
    ((blind_leg (M := [.alarm .MT_LEG_LOSS]) (by decide) (by decide) k second).clear (.head _) _ _).trans (State.rd_wr_same ..)
  rw [legPacket_eq]
  split
  · exact ((blind_leg (M := .med :: lockMarks) (by decide) (by decide) k second).relocks (List.Subset.refl _) _ _).trans hheard
  · exact hheard

theorem legPacket_book (s : State) (k : Nat) (second : Bool) : ((s.legPacket k second).flow k).book = (s.flow k).book := by
  have hflow : (s.legHeard k second).flow k = (s.flow k).heard second s.now :=
    ((blind_flow (M := [.alarm .MT_LEG_LOSS]) (by decide) k).clear (.head _) ((s.setFlow k ((s.flow k).heard second s.now)).wr (legObj second) k LEG_STATE_P.receiving) _).trans (flow_setFlow s k _)
  have hheard : ((s.legHeard k second).flow k).book = (s.flow k).book := (congrArg Flow.book hflow).trans (heard_book ..)
  rw [legPacket_eq]
  split
  · exact (relocks_book _ k).trans hheard
  · exact hheard

/-! The SSRC of an accepted packet (R159). -/

/-- What the SSRC of a packet touches. -/
def ssrcMarks : List Mark := [.med, .obj o3620_LAST_SSRC, .obj o3620_SSRC_CHANGES, .alarm .MT_SSRC_CHANGE] ++ lockMarks

/-- A row whose leg has a packet of an SSRC. -/
def Flow.saw (x : Flow) (second : Bool) (ssrc : Nat) : Flow :=
  if second then { x with s := { x.s with ssrc := some ssrc } } else { x with p := { x.p with ssrc := some ssrc } }

theorem saw_book (x : Flow) (second : Bool) (ssrc : Nat) : (x.saw second ssrc).book = x.book := by
  unfold Flow.saw
  split <;> rfl

/-- The SSRC that a leg saw last. -/
def Flow.ssrcOf (x : Flow) (second : Bool) : Option Nat := if second then x.s.ssrc else x.p.ssrc

/-- The SSRC held, before a change is counted; and with the change counted. -/
def State.ssrcSeen (s : State) (k : Nat) (second : Bool) (ssrc : Nat) : State := (s.setFlow k ((s.flow k).saw second ssrc)).wr o3620_LAST_SSRC k ssrc
def State.ssrcChanged (s : State) (k : Nat) : State := (s.bump o3620_SSRC_CHANGES k).pulse .MT_SSRC_CHANGE k

theorem noteSsrc_eq (s : State) (k : Nat) (second : Bool) (ssrc : Nat) : s.noteSsrc k second ssrc =
    let w := s.ssrcSeen k second ssrc
    if ((s.flow k).ssrcOf second).all (· == ssrc) then w
    else if (w.ssrcChanged k).flowState k = FLOW_STATE.present ∨ (w.ssrcChanged k).flowState k = FLOW_STATE.format_mismatch then (w.ssrcChanged k).relocks k
    else w.ssrcChanged k := rfl

/-- What a change of the SSRC touches. -/
def ssrcChangeMarks : List Mark := [.obj o3620_SSRC_CHANGES, .alarm .MT_SSRC_CHANGE]

theorem Blind.ssrcChanged {M : List Mark} {α : Type} {g : State → α} (hg : Blind M g) (h : ssrcChangeMarks ⊆ M) (s : State) (k : Nat) : g (s.ssrcChanged k) = g s :=
  (hg.pulse (h (by decide)) _ _).trans (hg.bump (h (by decide)) _ _)

theorem noteSsrc_touches {M : List Mark} {α : Type} {g : State → α} (hg : Blind M g) (h : .med :: lockMarks ++ ssrcChangeMarks ⊆ M) (s : State) (k : Nat) (second : Bool) (ssrc : Nat) :
    g (s.noteSsrc k second ssrc) = g (s.ssrcSeen k second ssrc) := by
  have hchanged : g ((s.ssrcSeen k second ssrc).ssrcChanged k) = g (s.ssrcSeen k second ssrc) := hg.ssrcChanged (List.Subset.trans (by decide) h) _ _
  rw [noteSsrc_eq]
  dsimp only
  split
  · rfl
  · split
    · exact (hg.relocks (List.Subset.trans (by decide) h) _ _).trans hchanged
    · exact hchanged

theorem Blind.noteSsrc {M : List Mark} {α : Type} {g : State → α} (hg : Blind M g) (h : ssrcMarks ⊆ M) (s : State) (k : Nat) (second : Bool) (ssrc : Nat) :
    g (s.noteSsrc k second ssrc) = g s :=
  (noteSsrc_touches hg (List.Subset.trans (by decide) h) s k second ssrc).trans ((hg.wr (h (by decide)) _ _ _).trans (hg.setFlow (h (by decide)) _ _ _))

theorem noteSsrc_last (s : State) (k : Nat) (second : Bool) (ssrc : Nat) : (s.noteSsrc k second ssrc).rd o3620_LAST_SSRC k = ssrc :=
  (noteSsrc_touches (blind_rd (by decide) k (.inr (by decide))) (List.Subset.refl _) s k second ssrc).trans (State.rd_wr_same ..)

theorem noteSsrc_book (s : State) (k : Nat) (second : Bool) (ssrc : Nat) : ((s.noteSsrc k second ssrc).flow k).book = (s.flow k).book := by
  have hseen : ((s.ssrcSeen k second ssrc).flow k).book = (s.flow k).book := (congrArg Flow.book (flow_setFlow s k _)).trans (saw_book ..)
  have hchanged : (((s.ssrcSeen k second ssrc).ssrcChanged k).flow k).book = (s.flow k).book :=
    (congrArg Flow.book ((blind_flow (M := ssrcChangeMarks) (by decide) k).ssrcChanged (List.Subset.refl _) _ k)).trans hseen
  rw [noteSsrc_eq]
  dsimp only
  split
  · exact hseen
  · split
    · exact (relocks_book _ k).trans hchanged
    · exact hchanged

end Sys2Proof.Machine
end

section
/-! SUPPORT. The merge of a packet, and an audio packet that it writes (R149, R153-R156). -/

namespace Sys2Proof.Machine
open Sys2Proof

/-! The merge (R155). -/

/-- What the merge makes of a position that its book knows, at an instant. -/
def Flow.verdict (x : Flow) (q now : Nat) : Merge :=
  let g := x.gotAt q
  let far : Bool := match x.newest with
    | some n => decide (q + mergeDepth < n)
    | none => false
  let inTime : Bool := match x.deadline q with
    | some d => decide (now ≤ d)
    | none => false
  if far ∨ inTime = false then .late (g.p.isNone && g.s.isNone) else if g.written then .duplicate else .write

/-- The row's book with the arrival of a copy of a position. -/
def Flow.merged (x : Flow) (second : Bool) (q now : Nat) : Flow :=
  let g := x.gotAt q
  let g' := g.note second now
  { x with
    got := storePut natLt q { g' with written := g.written || x.verdict q now == .write } x.got
    skews := match (if second then g.s.isNone else g.p.isNone), g'.skew with
      | true, some d => (now, d) :: x.skews
      | _, _ => x.skews }

theorem merge_eq_of_span {s : State} {k q : Nat} (second : Bool) (h : ∀ d, (s.flow k).span q d = s.flow k) :
    s.merge k second q = ((s.flow k).verdict q s.now, (s.setFlow k ((s.flow k).merged second q s.now)).noteSkew k) := by
  unfold State.merge
  rw [h]
  rfl

theorem span_within {x : Flow} {n q : Nat} (h : x.newest = some n) (hq : q ≤ n) (d : Nat) : x.span q d = x := by
  unfold Flow.span
  rw [h]
  exact if_neg (not_lt.mpr hq)

section
variable {x : Flow} {n q d now : Nat} (h : x.newest = some n) (hn : n ≤ q + mergeDepth) (hd : x.deadline q = some d)
include h hn hd

theorem verdict_inTime (hnow : now ≤ d) : x.verdict q now = if (x.gotAt q).written then .duplicate else .write := by
  unfold Flow.verdict
  rw [h, hd]
  exact if_neg (by simp [hn, hnow])

omit hn in
theorem verdict_late (hnow : d < now) : ∃ first, x.verdict q now = .late first := by
  unfold Flow.verdict
  rw [h, hd]
  exact ⟨_, if_pos (.inr (decide_eq_false (not_le.mpr hnow)))⟩

end

theorem merged_written (x : Flow) (second : Bool) (q now : Nat) : ((x.merged second q now).gotAt q).written = ((x.gotAt q).written || x.verdict q now == .write) := by
  unfold Flow.gotAt Flow.merged
  dsimp only
  rw [storeGet_put_same]
  rfl

/-- What the skew of a row touches. -/
def skewMarks : List Mark := [.med, .obj o3620_SKEW_NS]

theorem Blind.merge {M : List Mark} {α : Type} {g : State → α} (hg : Blind M g) (h : skewMarks ⊆ M) (s : State) (k : Nat) (x : Flow) : g ((s.setFlow k x).noteSkew k) = g s :=
  (hg.wr (h (by decide)) _ _ _).trans ((hg.setFlow (h (by decide)) _ _ _).trans (hg.setFlow (h (by decide)) _ _ _))

theorem noteSkew_book (s : State) (k : Nat) : ((s.noteSkew k).flow k).book = (s.flow k).book := (congrArg Flow.book (flow_setFlow s k _)).trans rfl

/-! The stamp of a frame's first packet (R157). -/

/-- What the stamps of a frame touch. -/
def stampMarks : List Mark := [.med, .obj o3620_TS_OFFSET_NS_P, .obj o3620_TS_OFFSET_NS_S]

theorem Blind.noteTs {M : List Mark} {α : Type} {g : State → α} (hg : Blind M g) (h : stampMarks ⊆ M) (s : State) (k : Nat) (x : FlowFrame) : g (s.noteTs k x) = g s := by
  have hp : ∀ (s : State) (v : Int), g (s.wr o3620_TS_OFFSET_NS_P k v) = g s := fun s v => hg.wr (h (by decide)) s k v
  have hs : ∀ (s : State) (v : Int), g (s.wr o3620_TS_OFFSET_NS_S k v) = g s := fun s v => hg.wr (h (by decide)) s k v
  unfold State.noteTs
  split
  · cases x.firstP with
    | none =>
      cases x.firstS with
      | none => rfl
      | some b => exact hs _ _
    | some a =>
      cases x.firstS with
      | none => exact hp _ _
      | some b => exact (hs _ _).trans (hp _ _)
  · rfl

theorem Blind.noteFirst {M : List Mark} {α : Type} {g : State → α} (hg : Blind M g) (h : stampMarks ⊆ M) (s : State) (k : Nat) (second : Bool) (ts : Nat) :
    g (s.noteFirst k second ts) = g s := by
  unfold State.noteFirst
  split
  · exact (hg.noteTs h _ _ _).trans (hg.setFlow (h (by decide)) _ _ _)
  · rfl

/-! An audio packet within its row's format (R149, R153). -/

/-- An accepted audio packet with its samples, before the row's state follows. -/
def State.audioTaken (s : State) (k q : Nat) (p : RtpPacket) : State :=
  let x := s.flow k
  let is96 := s.is96k (s.flowAudio k).1
  let s := (s.addTo o3620_BYTES_WRITTEN k p.bytes).noteStatus k p
  let x := { x with run := if x.lastQ.any (fun k => k + 1 == q) then x.run + 1 else 1, lastQ := some q, outside := 0 }
  let x := if s.rd o3600_AUDIO_PLACEMENT k = AUDIO_PLACEMENT.timestamp then
      let at_ := s.extendTs (s.flowKind k) is96 p.ts
      { x with ticks := (p.samples.foldl (fun b v => (b.1 + 1, storePut natLt b.1 v b.2)) (at_, x.ticks)).2 }
    else
      let held := x.held ++ (if is96 then pairUp p.samples else p.samples)
      { x with held := if x.playing then held else newest (s.rdN o3600_PLAYOUT_CYCLES k * blockSize) held }
  s.setFlow k x

theorem audioPacket_within {s : State} {k : Nat} {p : RtpPacket} (h : s.audioOk k p = true) (q : Nat) :
    s.audioPacket k q p = s.audioTaken k q p ∨ s.audioPacket k q p = (s.audioTaken k q p).setFlowState k FLOW_STATE.present := by
  have hok : ¬ s.audioOk k p = false := by rw [h]; exact Bool.noConfusion
  have heq : ∃ c : Prop, ∃ _ : Decidable c, s.audioPacket k q p = if c then (s.audioTaken k q p).setFlowState k FLOW_STATE.present else s.audioTaken k q p := ⟨_, _, if_neg hok⟩
  obtain ⟨c, _, heq⟩ := heq
  rw [heq]
  split
  · exact .inr rfl
  · exact .inl rfl

/-- What an audio packet's channel status touches. -/
theorem Blind.noteStatus {M : List Mark} {α : Type} {g : State → α} (hg : Blind M g) (h : .obj o4102_SRC_NONPCM ∈ M) (s : State) (k : Nat) (p : RtpPacket) : g (s.noteStatus k p) = g s :=
  foldl_blind (fun s _ => hg.wr h s _ _) _ s

/-- What an audio packet touches beside BYTES_WRITTEN. -/
def audioMarks : List Mark := .obj o4102_SRC_NONPCM :: feedMarks

theorem audioPacket_touches {M : List Mark} {α : Type} {g : State → α} (hg : Blind M g) (h : audioMarks ⊆ M) {s : State} {k : Nat} {p : RtpPacket} (hok : s.audioOk k p = true) (q : Nat) :
    g (s.audioPacket k q p) = g (s.addTo o3620_BYTES_WRITTEN k p.bytes) := by
  have htaken : g (s.audioTaken k q p) = g (s.addTo o3620_BYTES_WRITTEN k p.bytes) := (hg.setFlow (h (by decide)) _ _ _).trans (hg.noteStatus (h (by decide)) _ _ _)
  rcases audioPacket_within hok q with he | he
  · rw [he, htaken]
  · rw [he, hg.setFlowState (List.Subset.trans (List.subset_cons_self _ _) h), htaken]

theorem audioPacket_book {s : State} {k : Nat} {p : RtpPacket} (hok : s.audioOk k p = true) (q : Nat) : ((s.audioPacket k q p).flow k).book = (s.flow k).book := by
  have htaken : ((s.audioTaken k q p).flow k).book = (s.flow k).book := by
    refine (congrArg Flow.book (flow_setFlow _ k _)).trans ?_
    split <;> rfl
  rcases audioPacket_within hok q with he | he
  · rw [he, htaken]
  · rw [he, setFlowState_book, htaken]

end Sys2Proof.Machine
end

section
/-! SUPPORT. A packet of a flow from its leg to what the merge makes of it (R145, R155, R156, R159). -/

namespace Sys2Proof.Machine
open Sys2Proof

/-! The book decides. -/

theorem gotAt_congr {x y : Flow} (h : x.book = y.book) (q : Nat) : x.gotAt q = y.gotAt q := congrArg (fun b : Option Nat × List Span × Store Nat Got => (storeGet q b.2.2).getD {}) h

theorem deadline_congr {x y : Flow} (h : x.book = y.book) (q : Nat) : x.deadline q = y.deadline q := by
  unfold Flow.deadline
  rw [show x.spans = y.spans from congrArg (fun b : Option Nat × List Span × Store Nat Got => b.2.1) h]

theorem newest_congr {x y : Flow} (h : x.book = y.book) : x.newest = y.newest := congrArg Prod.fst h

/-! The stages of a packet. -/

/-- The counter of a leg's packets. -/
def packetObj (second : Bool) : Nat := if second then o3620_PACKETS_S else o3620_PACKETS_P

/-- A packet counted on its leg; its SSRC noted; its copy in the book, its frame stamped. -/
def State.matched (s : State) (k : Nat) (second : Bool) : State := (s.bump (packetObj second) k).legPacket k second
def State.known (s : State) (k : Nat) (second : Bool) (p : RtpPacket) : State := (s.matched k second).noteSsrc k second p.ssrc
def State.copied (s : State) (k : Nat) (second : Bool) (q : Nat) : State := (s.setFlow k ((s.flow k).merged second q s.now)).noteSkew k
def State.stamped (s : State) (k : Nat) (second : Bool) (p : RtpPacket) : State := if audioKind (s.flowKind k) then s else s.noteFirst k second p.ts

/-- A packet of a position in the book of its row. -/
def State.arrived (s : State) (k : Nat) (second : Bool) (p : RtpPacket) (q : Nat) : State := ((s.known k second p).copied k second q).stamped k second p

/-- What comes of a packet. -/
def State.concluded (s : State) (k q : Nat) (second : Bool) (p : RtpPacket) : Merge → State
  | .duplicate => s.bump o3620_DUPLICATES k
  | .late first => if first then (s.bump o3620_LATE_DISCARDS k).raiseQuiet .MT_SKEW_EXCEEDED k else s.bump o3620_LATE_DISCARDS k
  | .write => if audioKind (s.flowKind k) then s.audioPacket k q p else (if s.flowKind k = FLOW_KIND.st2022_6 then s.embedded k p else s).framePacket k second q p

/-- What a packet's SSRC, its copy and its stamp touch. -/
def entryMarks : List Mark := skewMarks ++ stampMarks
def tailMarks : List Mark := ssrcMarks ++ entryMarks

section
variable {M : List Mark} {α : Type} {g : State → α} (hg : Blind M g)
include hg

theorem Blind.entered (h : entryMarks ⊆ M) (s : State) (k : Nat) (second : Bool) (p : RtpPacket) (q : Nat) : g ((s.copied k second q).stamped k second p) = g s := by
  have hcopied : g (s.copied k second q) = g s := hg.merge (List.Subset.trans (by decide) h) _ _ _
  unfold State.stamped
  split
  · exact hcopied
  · exact (hg.noteFirst (List.Subset.trans (by decide) h) _ _ _ _).trans hcopied

theorem Blind.arrived (h : tailMarks ⊆ M) (s : State) (k : Nat) (second : Bool) (p : RtpPacket) (q : Nat) : g (s.arrived k second p q) = g (s.matched k second) :=
  (hg.entered (List.Subset.trans (List.subset_append_right _ _) h) _ _ _ _ _).trans (hg.noteSsrc (List.Subset.trans (List.subset_append_left _ _) h) _ _ _ _)

end

/-! What the stages leave. -/

section
variable (s : State) (k : Nat) (second : Bool) (p : RtpPacket) (q : Nat)

theorem matched_book : ((s.matched k second).flow k).book = (s.flow k).book := legPacket_book _ k second

theorem known_book : ((s.known k second p).flow k).book = (s.flow k).book := (noteSsrc_book ..).trans (matched_book ..)

theorem blind_packets {M : List Mark} (hp : .obj o3620_PACKETS_P ∉ M) (hs : .obj o3620_PACKETS_S ∉ M) : Blind M (·.rd (packetObj second) k) := by
  cases second
  · exact blind_rd hp k (.inr (by decide))
  · exact blind_rd hs k (.inr (by decide))

theorem matched_packets : (s.matched k second).rd (packetObj second) k = (s.rd (packetObj second) k + 1) % objModulus (packetObj second) :=
  ((blind_packets (M := legPacketMarks) k second (by decide) (by decide)).legPacket (List.Subset.refl _) _ k second).trans (rd_bump_same ..)

theorem packetObj_ne {o : Nat} (hp : o ≠ o3620_PACKETS_P) (hs : o ≠ o3620_PACKETS_S) : o ≠ packetObj second := by
  cases second
  · exact hp
  · exact hs

/-- What a matched packet and its SSRC leave. -/
theorem matched_rd {o : Nat} (hm : .obj o ∉ legPacketMarks) (ha : o ∉ alarmSideObjects) (hp : o ≠ o3620_PACKETS_P) (hs : o ≠ o3620_PACKETS_S) (r : Nat) :
    (s.matched k second).rd o r = s.rd o r :=
  ((blind_rd hm r (.inr ha)).legPacket (List.Subset.refl _) _ k second).trans (rd_bump_obj _ (packetObj_ne second hp hs) _ _)

theorem known_rd {o : Nat} (hm : .obj o ∉ legPacketMarks ++ ssrcMarks) (ha : o ∉ alarmSideObjects) (hp : o ≠ o3620_PACKETS_P) (hs : o ≠ o3620_PACKETS_S) (r : Nat) :
    (s.known k second p).rd o r = s.rd o r :=
  ((blind_rd (M := ssrcMarks) (fun h => hm (List.mem_append_right _ h)) r (.inr ha)).noteSsrc (List.Subset.refl _) _ k second _).trans
    (matched_rd s k second (fun h => hm (List.mem_append_left _ h)) ha hp hs r)

theorem arrived_rd {o : Nat} (hm : .obj o ∉ legPacketMarks ++ tailMarks) (ha : o ∉ alarmSideObjects) (hp : o ≠ o3620_PACKETS_P) (hs : o ≠ o3620_PACKETS_S) (r : Nat) :
    (s.arrived k second p q).rd o r = s.rd o r :=
  ((blind_rd (M := tailMarks) (fun h => hm (List.mem_append_right _ h)) r (.inr ha)).arrived (List.Subset.refl _) s k second p q).trans
    (matched_rd s k second (fun h => hm (List.mem_append_left _ h)) ha hp hs r)

theorem arrived_packets : (s.arrived k second p q).rd (packetObj second) k = (s.rd (packetObj second) k + 1) % objModulus (packetObj second) :=
  ((blind_packets (M := tailMarks) k second (by decide) (by decide)).arrived (List.Subset.refl _) s k second p q).trans (matched_packets ..)

theorem arrived_leg : (s.arrived k second p q).rd (legObj second) k = LEG_STATE_P.receiving :=
  ((blind_leg (M := tailMarks) (by decide) (by decide) k second).arrived (List.Subset.refl _) s k second p q).trans (legPacket_leg ..)

theorem arrived_ssrc : (s.arrived k second p q).rd o3620_LAST_SSRC k = p.ssrc :=
  ((blind_rd (M := entryMarks) (by decide) k (.inl (by decide))).entered (List.Subset.refl _) (s.known k second p) k second p q).trans (noteSsrc_last ..)

end

/-! A packet as a whole. -/

theorem flowPacket_wrongType {s : State} {k : Nat} {p : RtpPacket} (h : p.pt ≠ s.rdN o3600_PAYLOAD_TYPE k) (second : Bool) :
    s.flowPacket k second p = (s.matched k second).bump o3620_PT_DISCARDS k := by
  have hpt : (s.matched k second).rdN o3600_PAYLOAD_TYPE k = s.rdN o3600_PAYLOAD_TYPE k :=
    congrArg Int.toNat (matched_rd s k second (by decide) (by decide) (by decide) (by decide) k)
  exact if_pos (hpt ▸ h)

theorem flowPacket_stages {s : State} {k : Nat} {p : RtpPacket} (h : p.pt = s.rdN o3600_PAYLOAD_TYPE k) (second : Bool) :
    s.flowPacket k second p =
      let w := s.known k second p
      let q := extendSeq (seqModulus (w.flowKind k)) (w.flow k).newest p.seq
      ((w.merge k second q).2.stamped k second p).concluded k q second p (w.merge k second q).1 := by
  have hpt : (s.matched k second).rdN o3600_PAYLOAD_TYPE k = s.rdN o3600_PAYLOAD_TYPE k :=
    congrArg Int.toNat (matched_rd s k second (by decide) (by decide) (by decide) (by decide) k)
  exact (if_neg (not_not.mpr (hpt ▸ h))).trans rfl

/-- A packet of the payload type at a position that the book has passed. -/
theorem flowPacket_arrived {s : State} {k n : Nat} {p : RtpPacket} (h : p.pt = s.rdN o3600_PAYLOAD_TYPE k) (second : Bool) (hn : (s.flow k).newest = some n)
    (hq : extendSeq (seqModulus (s.flowKind k)) (s.flow k).newest p.seq ≤ n) :
    let q := extendSeq (seqModulus (s.flowKind k)) (s.flow k).newest p.seq
    s.flowPacket k second p = (s.arrived k second p q).concluded k q second p (((s.known k second p).flow k).verdict q (s.known k second p).now) := by
  have hkind : (s.known k second p).flowKind k = s.flowKind k := known_rd s k second p (by decide) (by decide) (by decide) (by decide) k
  have hnewest : ((s.known k second p).flow k).newest = (s.flow k).newest := newest_congr (known_book ..)
  rw [flowPacket_stages h]
  dsimp only
  rw [hkind, hnewest, merge_eq_of_span second (span_within (hnewest.trans hn) hq)]
  rfl

end Sys2Proof.Machine
end

section
/-! SUPPORT. The merge takes each packet once, and its deadlines leave gaps (R127, R140, R145, R155). -/

namespace Sys2Proof.Machine
open Sys2Proof

/-- An audio packet's format turns on four objects. -/
theorem audioOk_congr {s u : State} {k : Nat} (hkind : u.flowKind k = s.flowKind k) (hchannels : u.rd o3600_FLOW_AUDIO_CHANNELS k = s.rd o3600_FLOW_AUDIO_CHANNELS k)
    (hbase : u.rd o3600_FLOW_AUDIO_BASE_CH k = s.rd o3600_FLOW_AUDIO_BASE_CH k) (hrate : ∀ r, u.rd o4102_SRC_RATE r = s.rd o4102_SRC_RATE r) (p : RtpPacket) :
    u.audioOk k p = s.audioOk k p := by
  unfold State.audioOk State.flowAudio State.is96k State.rdN
  simp only [hkind, hchannels, hbase, hrate]

/-- An audio packet has no frame to stamp. -/
theorem arrived_audio {s : State} {k : Nat} (second : Bool) (p : RtpPacket) (q : Nat) (h : audioKind (s.flowKind k) = true) :
    s.arrived k second p q = (s.known k second p).copied k second q := by
  have hkind : ((s.known k second p).copied k second q).flowKind k = s.flowKind k :=
    ((blind_rd (M := skewMarks) (by decide) k (.inl (by decide))).merge (List.Subset.refl _) _ k _).trans (known_rd s k second p (by decide) (by decide) (by decide) (by decide) k)
  exact if_pos (hkind ▸ h)

theorem copied_book (s : State) (k : Nat) (second : Bool) (q : Nat) : ((s.copied k second q).flow k).book = ((s.flow k).merged second q s.now).book :=
  (noteSkew_book _ k).trans (congrArg Flow.book (flow_setFlow s k _))

section
variable {s : State} {k : Nat} {p : RtpPacket} (second : Bool)

theorem known_now (k : Nat) (p : RtpPacket) : (s.known k second p).now = s.now :=
  ((blind_now (M := ssrcMarks)).noteSsrc (List.Subset.refl _) _ _ _ _).trans ((blind_now (M := legPacketMarks)).legPacket (List.Subset.refl _) _ _ _)

theorem wrongType_spec (h : p.pt ≠ s.rdN o3600_PAYLOAD_TYPE k) :
    (s.flowPacket k second p).rd (packetObj second) k = (s.rd (packetObj second) k + 1) % objModulus (packetObj second) ∧
      (s.flowPacket k second p).rd o3620_PT_DISCARDS k = (s.rd o3620_PT_DISCARDS k + 1) % objModulus o3620_PT_DISCARDS ∧
      (s.flowPacket k second p).rd (legObj second) k = LEG_STATE_P.receiving ∧ (s.flowPacket k second p).rd o3620_BYTES_WRITTEN k = s.rd o3620_BYTES_WRITTEN k ∧
      (s.flowPacket k second p).rd o3620_LAST_SSRC k = s.rd o3620_LAST_SSRC k := by
  have hsame := fun {o : Nat} hm ha hp hs => matched_rd s k second (o := o) hm ha hp hs k
  rw [flowPacket_wrongType h]
  refine ⟨?_, ?_, ?_, ?_, ?_⟩
  · exact ((blind_packets (M := [.obj o3620_PT_DISCARDS]) k second (by decide) (by decide)).bump (.head _) _ _).trans (matched_packets ..)
  · exact (rd_bump_same ..).trans (by rw [hsame (by decide) (by decide) (by decide) (by decide)])
  · exact ((blind_leg (M := [.obj o3620_PT_DISCARDS]) (by decide) (by decide) k second).bump (.head _) _ _).trans (legPacket_leg ..)
  · exact (rd_bump_obj _ (by decide) _ _).trans (hsame (by decide) (by decide) (by decide) (by decide))
  · exact (rd_bump_obj _ (by decide) _ _).trans (hsame (by decide) (by decide) (by decide) (by decide))

variable {n d q : Nat} (h : p.pt = s.rdN o3600_PAYLOAD_TYPE k) (hn : (s.flow k).newest = some n)
  (hq : q = extendSeq (seqModulus (s.flowKind k)) (s.flow k).newest p.seq) (hle : q ≤ n) (hnear : n ≤ q + mergeDepth) (hd : (s.flow k).deadline q = some d)
include h hn hq hle hnear hd

/-- In time, the packet is written or a duplicate as its position has not or has been written. -/
theorem flowPacket_inTime (hnow : s.now ≤ d) : s.flowPacket k second p =
    (s.arrived k second p q).concluded k q second p (if ((s.flow k).gotAt q).written then .duplicate else .write) := by
  have hbook : ((s.known k second p).flow k).book = (s.flow k).book := known_book ..
  rw [flowPacket_arrived h second hn (hq ▸ hle), ← hq, verdict_inTime ((newest_congr hbook).trans hn) hnear ((deadline_congr hbook q).trans hd) ((known_now second k p).trans_le hnow),
    gotAt_congr hbook]

omit hnear in
theorem flowPacket_late (hnow : d < s.now) : ∃ first, s.flowPacket k second p = (s.arrived k second p q).concluded k q second p (.late first) := by
  have hbook : ((s.known k second p).flow k).book = (s.flow k).book := known_book ..
  obtain ⟨first, hv⟩ := verdict_late ((newest_congr hbook).trans hn) ((deadline_congr hbook q).trans hd) (hnow.trans_eq (known_now second k p).symm)
  refine ⟨first, ?_⟩
  rw [flowPacket_arrived h second hn (hq ▸ hle), ← hq, hv]

theorem duplicate_spec (hnow : s.now ≤ d) (hw : ((s.flow k).gotAt q).written = true) :
    (s.flowPacket k second p).rd (packetObj second) k = (s.rd (packetObj second) k + 1) % objModulus (packetObj second) ∧
      (s.flowPacket k second p).rd o3620_DUPLICATES k = (s.rd o3620_DUPLICATES k + 1) % objModulus o3620_DUPLICATES ∧
      (s.flowPacket k second p).rd o3620_BYTES_WRITTEN k = s.rd o3620_BYTES_WRITTEN k ∧ (s.flowPacket k second p).rd (legObj second) k = LEG_STATE_P.receiving := by
  have hsame := fun {o : Nat} hm ha hp hs => arrived_rd s k second p q (o := o) hm ha hp hs k
  have heq : s.flowPacket k second p = (s.arrived k second p q).bump o3620_DUPLICATES k := by
    rw [flowPacket_inTime second h hn hq hle hnear hd hnow, if_pos hw]
    rfl
  rw [heq]
  refine ⟨?_, ?_, ?_, ?_⟩
  · exact ((blind_packets (M := [.obj o3620_DUPLICATES]) k second (by decide) (by decide)).bump (.head _) _ _).trans (arrived_packets ..)
  · exact (rd_bump_same ..).trans (by rw [hsame (by decide) (by decide) (by decide) (by decide)])
  · exact (rd_bump_obj _ (by decide) _ _).trans (hsame (by decide) (by decide) (by decide) (by decide))
  · exact ((blind_leg (M := [.obj o3620_DUPLICATES]) (by decide) (by decide) k second).bump (.head _) _ _).trans (arrived_leg ..)

omit hnear in
theorem late_spec (hnow : d < s.now) : (s.flowPacket k second p).rd o3620_LATE_DISCARDS k = (s.rd o3620_LATE_DISCARDS k + 1) % objModulus o3620_LATE_DISCARDS ∧
    (s.flowPacket k second p).rd o3620_BYTES_WRITTEN k = s.rd o3620_BYTES_WRITTEN k := by
  have hsame := fun {o : Nat} hm ha hp hs => arrived_rd s k second p q (o := o) hm ha hp hs k
  obtain ⟨first, heq⟩ := flowPacket_late second h hn hq hle hd hnow
  have hrd : ∀ {o}, o ∉ alarmSideObjects → (s.flowPacket k second p).rd o k = ((s.arrived k second p q).bump o3620_LATE_DISCARDS k).rd o k := fun ha => by
    rw [heq]
    cases first with
    | false => rfl
    | true => exact (blind_rd (M := [.alarm .MT_SKEW_EXCEEDED]) (List.not_mem_cons_of_ne_of_not_mem Mark.noConfusion (List.not_mem_nil)) k (.inr ha)).raiseQuiet (.head _) _ _
  refine ⟨(hrd (by decide)).trans ((rd_bump_same ..).trans (by rw [hsame (by decide) (by decide) (by decide) (by decide)])), ?_⟩
  exact (hrd (by decide)).trans ((rd_bump_obj _ (by decide) _ _).trans (hsame (by decide) (by decide) (by decide) (by decide)))

/-- An audio packet within format joins its row: its position is written. -/
theorem written_spec (hnow : s.now ≤ d) (hw : ((s.flow k).gotAt q).written = false) (haudio : audioKind (s.flowKind k) = true) (hok : s.audioOk k p = true) :
    (s.flowPacket k second p).rd o3620_BYTES_WRITTEN k = (s.rd o3620_BYTES_WRITTEN k + p.bytes) % objModulus o3620_BYTES_WRITTEN ∧
      (((s.flowPacket k second p).flow k).gotAt q).written = true ∧ (s.flowPacket k second p).rd o3620_LAST_SSRC k = p.ssrc := by
  have hsame := fun {o : Nat} hm ha hp hs r => arrived_rd s k second p q (o := o) hm ha hp hs r
  have hkind : (s.arrived k second p q).flowKind k = s.flowKind k := hsame (by decide) (by decide) (by decide) (by decide) k
  have heq : s.flowPacket k second p = (s.arrived k second p q).audioPacket k q p := by
    rw [flowPacket_inTime second h hn hq hle hnear hd hnow, hw]
    exact if_pos (hkind ▸ haudio)
  have hok' : (s.arrived k second p q).audioOk k p = true :=
    (audioOk_congr hkind (hsame (by decide) (by decide) (by decide) (by decide) k) (hsame (by decide) (by decide) (by decide) (by decide) k)
      (fun r => hsame (by decide) (by decide) (by decide) (by decide) r) p).trans hok
  have hbook : ((s.arrived k second p q).flow k).book = (((s.known k second p).flow k).merged second q (s.known k second p).now).book := by
    rw [arrived_audio second p q haudio, copied_book]
  rw [heq]
  refine ⟨?_, ?_, ?_⟩
  · rw [audioPacket_touches (blind_rd (M := audioMarks) (by decide) k (.inr (by decide))) (List.Subset.refl _) hok']
    exact (State.rd_wr_same ..).trans (by rw [hsame (by decide) (by decide) (by decide) (by decide)])
  · rw [gotAt_congr ((audioPacket_book hok' q).trans hbook), merged_written, verdict_inTime ((newest_congr (known_book ..)).trans hn) hnear ((deadline_congr (known_book ..) q).trans hd)
      ((known_now second k p).trans_le hnow), gotAt_congr (known_book ..), hw]
    rfl
  · rw [audioPacket_touches (blind_rd (M := audioMarks) (by decide) k (.inr (by decide))) (List.Subset.refl _) hok']
    exact (State.rd_wr_obj _ _ (by decide)).trans (arrived_ssrc ..)

end

/-! A received frame (R127, R140). -/

/-- Which leg a packet matches turns on the legs' lanes, ports and addresses and on the rows. -/
theorem matchLeg_bump (s : State) (l lane : Nat) (dst src : Bytes) (udp : Nat) :
    (s.bump o3510_RX_FRAMES l).matchLeg lane dst src udp (s.bump o3510_RX_FRAMES l).activeRows = s.matchLeg lane dst src udp s.activeRows := by
  have hlane : ∀ r b, (s.bump o3510_RX_FRAMES l).legLane r b = s.legLane r b := fun r b => by
    cases b
    · exact congrArg Int.toNat (rd_bump_obj s (by decide) _ _)
    · exact congrArg Int.toNat (rd_bump_obj s (by decide) _ _)
  have hport : ∀ r b, (s.bump o3510_RX_FRAMES l).legPort r b = s.legPort r b := fun r b => by
    cases b
    · exact congrArg Int.toNat (rd_bump_obj s (by decide) _ _)
    · exact congrArg Int.toNat (rd_bump_obj s (by decide) _ _)
  have hlegs : ∀ r, (s.bump o3510_RX_FRAMES l).legs r = s.legs r := fun r => by
    unfold State.legs
    simp only [hlane]
  unfold State.matchLeg
  simp only [hlegs, hlane, hport]
  rfl

/-- A frame that fails the first step. -/
theorem ethFrame_bad {s : State} {lane : Nat} {fr : EthFrame} (h : fr.fcsOk = false ∨ (s.lane lane).errored = true) :
    s.ethFrame lane fr = (s.bump o3510_RX_FRAMES lane).bump o3510_RX_IP_ERRORS lane := if_pos (h.elim .inl fun h => .inr (.inl h))

/-- A packet of an active row gets to its row. -/
theorem ethFrame_packet {s : State} {lane udp r : Nat} {fr : EthFrame} {dst src : Bytes} {p : RtpPacket} {second : Bool} (hfcs : fr.fcsOk = true) (herr : (s.lane lane).errored = false)
    (hptp : isPtpUdp udp = true → s.portOfLane lane = none) (htag : fr.tag = none) (hvlan : s.rdN o3500_VLAN_ID lane = 0) (hlen : fr.len ≤ s.rdN o3500_MTU lane + 18)
    (hmac : isGroupMac fr.mac = true) (hpay : fr.payload = .rtp dst src udp p) (hmatch : s.matchLeg lane dst src udp s.activeRows = some (r, second)) :
    s.ethFrame lane fr = (s.bump o3510_RX_FRAMES lane).flowPacket r second p := by
  have hfree : (s.bump o3510_RX_FRAMES lane).portOfLane lane = s.portOfLane lane :=
    congrArg (fun x : Nat → Bool => ptpPorts.find? x) (funext fun k => congrArg (fun v : Int => v.toNat == lane) (rd_bump_obj s (by decide) _ k))
  have hnoPtp : ¬ (isPtpUdp udp && ((s.bump o3510_RX_FRAMES lane).portOfLane lane).isSome) = true := by
    rw [hfree, Bool.and_eq_true]
    exact fun ⟨hu, hs⟩ => Bool.false_ne_true ((congrArg Option.isSome (hptp hu)).symm.trans hs)
  unfold State.ethFrame
  dsimp only
  rw [htag, if_neg ?_, if_neg ?_, if_neg ?_, hpay]
  · dsimp only
    rw [if_neg hnoPtp]
    unfold State.classify
    rw [matchLeg_bump, hmatch]
  · rintro (⟨h, -⟩ | ⟨-, h⟩)
    · exact h hvlan
    · exact Bool.noConfusion h
  · exact fun ⟨_, _, h⟩ => Bool.false_ne_true (h.symm.trans hmac)
  · rintro (h | h | h)
    · exact Bool.false_ne_true (h.symm.trans hfcs)
    · exact Bool.false_ne_true (herr.symm.trans h)
    · exact absurd h (not_lt.mpr hlen)

end Sys2Proof.Machine
end

section
/-! SUPPORT. A position without a packet at its deadline is a gap of the merge (R155). -/

namespace Sys2Proof.Machine
open Sys2Proof

/-- The positions of a row that are judged at an instant. -/
def Flow.judgedAt (x : Flow) (now : Nat) : List Nat :=
  ((x.spans.filter fun a => decide (a.deadline ≤ now)).map fun a => (List.range (a.hi + 1 - max a.lo x.judged)).map (· + max a.lo x.judged)).flatten

/-- The position up to which a row has been judged at an instant. -/
def Flow.judgedTo (x : Flow) (now : Nat) : Nat := max x.judged (((x.spans.filter fun a => decide (a.deadline ≤ now)).map fun a => a.hi + 1).foldl max 0)

/-- The gaps counted of a merge and of its legs. -/
def State.gapsCounted (s : State) (k gaps onP onS : Nat) : State := ((s.addTo o3620_MERGED_GAPS k gaps).addTo o3620_LEG_GAPS_P k onP).addTo o3620_LEG_GAPS_S k onS

/-- A row with other deadlines. -/
def State.withSpans (s : State) (k : Nat) (l : List Span) : State := s.setFlow k { s.flow k with spans := l }

theorem mergeDeadline_eq (s : State) (k : Nat) : ∃ onP onS l, s.mergeDeadline k =
    let gaps := (((s.flow k).judgedAt s.now).filter fun q => !((s.flow k).gotAt q).written).length
    let w := ((s.setFlow k { s.flow k with judged := (s.flow k).judgedTo s.now }).gapsCounted k gaps onP onS).withSpans k l
    if 0 < gaps then w.raiseQuiet .MT_MERGED_GAP k else w := ⟨_, _, _, rfl⟩

/-- What the deadline of a row leaves. -/
theorem mergeDeadline_spec (s : State) (k : Nat) :
    (s.mergeDeadline k).rd o3620_MERGED_GAPS k =
        (s.rd o3620_MERGED_GAPS k + (((s.flow k).judgedAt s.now).filter fun q => !((s.flow k).gotAt q).written).length) % objModulus o3620_MERGED_GAPS ∧
      ((s.mergeDeadline k).flow k).judged = (s.flow k).judgedTo s.now := by
  obtain ⟨onP, onS, l, heq⟩ := mergeDeadline_eq s k
  generalize (((s.flow k).judgedAt s.now).filter fun q => !((s.flow k).gotAt q).written).length = gaps at heq ⊢
  obtain ⟨v, hv⟩ : ∃ v, v = (s.setFlow k { s.flow k with judged := (s.flow k).judgedTo s.now }).gapsCounted k gaps onP onS := ⟨_, rfl⟩
  have hmerged : v.rd o3620_MERGED_GAPS k = (s.rd o3620_MERGED_GAPS k + gaps) % objModulus o3620_MERGED_GAPS := by
    rw [hv]
    exact (State.rd_wr_obj _ _ (by decide)).trans ((State.rd_wr_obj _ _ (by decide)).trans (State.rd_wr_same ..))
  have hjudged : (v.flow k).judged = (s.flow k).judgedTo s.now := by
    rw [hv]
    exact (congrArg Flow.judged (flow_setFlow s k { s.flow k with judged := (s.flow k).judgedTo s.now }) :)
  have hraise : ∀ {α : Type} {g : State → α}, Blind [.alarm .MT_MERGED_GAP] g → g (s.mergeDeadline k) = g (v.withSpans k l) := fun hg => by
    rw [heq, hv]
    dsimp only
    split
    · exact hg.raiseQuiet (.head _) _ _
    · rfl
  refine ⟨(hraise (blind_rd (by decide) k (.inr (by decide)))).trans hmerged, ?_⟩
  rw [hraise (blind_flow (by decide) k)]
  exact (congrArg Flow.judged (flow_setFlow v k _)).trans hjudged

section
variable {x : Flow} {a d now : Nat} (h : x.spans = [⟨a, a, d⟩]) (hd : d ≤ now) (hj : x.judged ≤ a)
include h hd hj

theorem judgedAt_one : x.judgedAt now = [a] := by
  unfold Flow.judgedAt
  rw [h, List.filter_cons_of_pos (by simpa using hd)]
  simp [hj]

theorem judgedTo_one : x.judgedTo now = a + 1 := by
  unfold Flow.judgedTo
  rw [h, List.filter_cons_of_pos (by simpa using hd)]
  simp only [List.filter_nil, List.map_cons, List.map_nil, List.foldl_cons, List.foldl_nil]
  omega

end

/-- A row whose one position is due. -/
theorem position_judged {s : State} {t k a d : Nat} (hp : s.powered = true) (h : (s.flow k).spans = [⟨a, a, d⟩]) (hd : d ≤ max s.now t) (hj : (s.flow k).judged ≤ a) :
    ∃ u, exec (.mergeDeadline t k) s = .next u ∧ u.rd o3620_MERGED_GAPS k =
      (s.rd o3620_MERGED_GAPS k + (if ((s.flow k).gotAt a).written then 0 else 1 : Nat)) % objModulus o3620_MERGED_GAPS ∧ (u.flow k).judged = a + 1 := by
  obtain ⟨hgaps, hjudged⟩ := mergeDeadline_spec (s.begin t) k
  have hcount : ([a].filter fun q => !((s.flow k).gotAt q).written).length = if ((s.flow k).gotAt a).written then 0 else 1 := by
    cases hw : ((s.flow k).gotAt a).written <;> simp [hw]
  rw [show (s.begin t).flow k = s.flow k from rfl, judgedAt_one (now := (s.begin t).now) h hd hj] at hgaps
  refine ⟨_, run_work (f := fun s => s.mergeDeadline k) hp rfl, (State.finish_rd ..).trans (hgaps.trans ?_), hjudged.trans (judgedTo_one h hd hj)⟩
  rw [hcount]
  rfl

/-! The frames that a lane receives. -/

section
variable {s : State} {t lane : Nat} {fr : EthFrame} (hp : s.powered = true) (hrx : s.laneReceives lane = true)
include hp hrx

theorem ethFrameRx_run {w : State} (h : (s.begin t).ethFrame lane fr = w) : exec (.ethFrameRx t lane fr) s = .next ((s.begin t).finish w) :=
  run_work (f := fun s => if s.laneReceives lane then s.ethFrame lane fr else s) hp ((if_pos hrx).trans h)

theorem badFrame_counted (h : fr.fcsOk = false ∨ (s.lane lane).errored = true) : ∃ u, exec (.ethFrameRx t lane fr) s = .next u ∧
    u.rd o3510_RX_FRAMES lane = (s.rd o3510_RX_FRAMES lane + 1) % objModulus o3510_RX_FRAMES ∧
    u.rd o3510_RX_IP_ERRORS lane = (s.rd o3510_RX_IP_ERRORS lane + 1) % objModulus o3510_RX_IP_ERRORS ∧
    s.keepsRegs u [(o3510_RX_FRAMES, lane), (o3510_RX_IP_ERRORS, lane)] ∧ u.works = s.works := by
  have hkeeps : s.keepsRegs (((s.begin t).bump o3510_RX_FRAMES lane).bump o3510_RX_IP_ERRORS lane) [(o3510_RX_FRAMES, lane), (o3510_RX_IP_ERRORS, lane)] :=
    ((keepsRegs_refl (s.begin t) _).wr _ (List.mem_cons_self ..)).wr _ (List.mem_cons_of_mem _ (List.mem_singleton_self _))
  refine ⟨_, ethFrameRx_run hp hrx (ethFrame_bad (s := s.begin t) h), ?_, ?_, hkeeps, rfl⟩
  · exact (State.finish_rd ..).trans ((rd_bump_obj _ (by decide) _ _).trans (rd_bump_same ..))
  · exact (State.finish_rd ..).trans ((rd_bump_same ..).trans (by rw [rd_bump_obj _ (by decide)]; rfl))

end

/-! A packet of an active row, from the frame that carries it. -/

/-- The state in which a received packet gets to its row. -/
def State.rxCounted (s : State) (t lane : Nat) : State := (s.begin t).bump o3510_RX_FRAMES lane

theorem rxCounted_rd (s : State) (t lane : Nat) {o : Nat} (h : o ≠ o3510_RX_FRAMES) (r : Nat) : (s.rxCounted t lane).rd o r = s.rd o r := rd_bump_obj (s.begin t) h lane r

theorem rxCounted_packets (s : State) (t lane r : Nat) (second : Bool) : (s.rxCounted t lane).rd (packetObj second) r = s.rd (packetObj second) r := by
  cases second
  · exact rxCounted_rd s t lane (by decide) r
  · exact rxCounted_rd s t lane (by decide) r

theorem rxCounted_audioOk (s : State) (t lane r : Nat) (p : RtpPacket) : (s.rxCounted t lane).audioOk r p = s.audioOk r p :=
  audioOk_congr (rxCounted_rd s t lane (by decide) r) (rxCounted_rd s t lane (by decide) r) (rxCounted_rd s t lane (by decide) r) (fun k => rxCounted_rd s t lane (by decide) k) p

section
variable {s : State} {t lane r : Nat} {p : RtpPacket} (second : Bool)

theorem rx_wrongType (h : p.pt ≠ s.rdN o3600_PAYLOAD_TYPE r) :
    ((s.rxCounted t lane).flowPacket r second p).rd (packetObj second) r = (s.rd (packetObj second) r + 1) % objModulus (packetObj second) ∧
      ((s.rxCounted t lane).flowPacket r second p).rd o3620_PT_DISCARDS r = (s.rd o3620_PT_DISCARDS r + 1) % objModulus o3620_PT_DISCARDS ∧
      ((s.rxCounted t lane).flowPacket r second p).rd (legObj second) r = LEG_STATE_P.receiving ∧
      ((s.rxCounted t lane).flowPacket r second p).rd o3620_BYTES_WRITTEN r = s.rd o3620_BYTES_WRITTEN r ∧
      ((s.rxCounted t lane).flowPacket r second p).rd o3620_LAST_SSRC r = s.rd o3620_LAST_SSRC r := by
  have hpt : p.pt ≠ (s.rxCounted t lane).rdN o3600_PAYLOAD_TYPE r := fun e => h (e.trans (congrArg Int.toNat (rxCounted_rd s t lane (by decide) r)))
  obtain ⟨hpackets, hdiscards, hleg, hbytes, hssrc⟩ := wrongType_spec second hpt
  rw [rxCounted_packets] at hpackets
  rw [rxCounted_rd s t lane (by decide)] at hdiscards hbytes hssrc
  exact ⟨hpackets, hdiscards, hleg, hbytes, hssrc⟩

variable {n d q : Nat} (h : p.pt = s.rdN o3600_PAYLOAD_TYPE r) (hn : (s.flow r).newest = some n) (hq : q = extendSeq (seqModulus (s.flowKind r)) (s.flow r).newest p.seq) (hle : q ≤ n)
  (hnear : n ≤ q + mergeDepth) (hd : (s.flow r).deadline q = some d)
include h hn hq hle hnear hd

theorem rx_written (hnow : max s.now t ≤ d) (hw : ((s.flow r).gotAt q).written = false) (haudio : audioKind (s.flowKind r) = true) (hok : s.audioOk r p = true) :
    ((s.rxCounted t lane).flowPacket r second p).rd o3620_BYTES_WRITTEN r = (s.rd o3620_BYTES_WRITTEN r + p.bytes) % objModulus o3620_BYTES_WRITTEN ∧
      ((((s.rxCounted t lane).flowPacket r second p).flow r).gotAt q).written = true ∧ ((s.rxCounted t lane).flowPacket r second p).rd o3620_LAST_SSRC r = p.ssrc := by
  have hkind : (s.rxCounted t lane).flowKind r = s.flowKind r := rxCounted_rd s t lane (by decide) r
  obtain ⟨hbytes, hgot, hssrc⟩ := written_spec (s := s.rxCounted t lane) second (h.trans (congrArg Int.toNat (rxCounted_rd s t lane (by decide) r)).symm) hn (by rw [hkind]; exact hq) hle hnear hd hnow hw
    (hkind ▸ haudio) ((rxCounted_audioOk ..).trans hok)
  rw [rxCounted_rd s t lane (by decide)] at hbytes
  exact ⟨hbytes, hgot, hssrc⟩

theorem rx_duplicate (hnow : max s.now t ≤ d) (hw : ((s.flow r).gotAt q).written = true) :
    ((s.rxCounted t lane).flowPacket r second p).rd (packetObj second) r = (s.rd (packetObj second) r + 1) % objModulus (packetObj second) ∧
      ((s.rxCounted t lane).flowPacket r second p).rd o3620_DUPLICATES r = (s.rd o3620_DUPLICATES r + 1) % objModulus o3620_DUPLICATES ∧
      ((s.rxCounted t lane).flowPacket r second p).rd o3620_BYTES_WRITTEN r = s.rd o3620_BYTES_WRITTEN r ∧
      ((s.rxCounted t lane).flowPacket r second p).rd (legObj second) r = LEG_STATE_P.receiving := by
  have hkind : (s.rxCounted t lane).flowKind r = s.flowKind r := rxCounted_rd s t lane (by decide) r
  obtain ⟨hpackets, hdup, hbytes, hleg⟩ := duplicate_spec (s := s.rxCounted t lane) second (h.trans (congrArg Int.toNat (rxCounted_rd s t lane (by decide) r)).symm) hn (by rw [hkind]; exact hq) hle hnear hd
    hnow hw
  rw [rxCounted_packets] at hpackets
  rw [rxCounted_rd s t lane (by decide)] at hdup hbytes
  exact ⟨hpackets, hdup, hbytes, hleg⟩

omit hnear in
theorem rx_late (hnow : d < max s.now t) : ((s.rxCounted t lane).flowPacket r second p).rd o3620_LATE_DISCARDS r = (s.rd o3620_LATE_DISCARDS r + 1) % objModulus o3620_LATE_DISCARDS ∧
    ((s.rxCounted t lane).flowPacket r second p).rd o3620_BYTES_WRITTEN r = s.rd o3620_BYTES_WRITTEN r := by
  have hkind : (s.rxCounted t lane).flowKind r = s.flowKind r := rxCounted_rd s t lane (by decide) r
  obtain ⟨hlate, hbytes⟩ := late_spec (s := s.rxCounted t lane) second (h.trans (congrArg Int.toNat (rxCounted_rd s t lane (by decide) r)).symm) hn (by rw [hkind]; exact hq) hle hd hnow
  rw [rxCounted_rd s t lane (by decide)] at hlate hbytes
  exact ⟨hlate, hbytes⟩

end

/-- Settles O22. That a packet of another payload type keeps its leg 'receiving' and is not looked at for its SSRC is the model's reading (log entry 174), as is that a frame in an errored
codeword fails the first step (log entry 155). -/
theorem packetsAreMergedOnce : Obligations.PacketsAreMergedOnce := by
  unfold Obligations.PacketsAreMergedOnce
  intro s t lane fr hp more
  refine ⟨fun hrx => ⟨fun hbad => badFrame_counted hp hrx hbad, fun dst src udp p r second hfcs herr hptp htag hvlan hlen hmac hpay hmatch => ?_⟩, fun k a d h hd hj => ⟨fun hw => ?_, fun hw => ?_⟩⟩
  · have hrun := ethFrameRx_run (t := t) hp hrx (ethFrame_packet (s := s.begin t) hfcs herr hptp htag hvlan hlen hmac hpay hmatch)
    refine ⟨fun hpt => ⟨_, hrun, rx_wrongType second hpt⟩, fun hpt n d hn hle hnear hd => ⟨fun hnow hw haudio hok => ?_, fun hnow hw => ?_, fun hnow => ?_⟩⟩
    · exact ⟨_, hrun, rx_written second hpt hn rfl hle hnear hd hnow hw haudio hok⟩
    · exact ⟨_, hrun, rx_duplicate second hpt hn rfl hle hnear hd hnow hw⟩
    · exact ⟨_, hrun, rx_late second hpt hn rfl hle hd hnow⟩
  · obtain ⟨u, hrun, hgaps, hjudged⟩ := position_judged (t := t) hp h hd hj
    rw [hw] at hgaps
    exact ⟨u, hrun, hgaps, hjudged⟩
  · obtain ⟨u, hrun, hgaps, -⟩ := position_judged (t := t) hp h hd hj
    rw [hw] at hgaps
    exact ⟨u, hrun, hgaps.trans (congrArg (· % objModulus o3620_MERGED_GAPS) (add_zero _))⟩

end Sys2Proof.Machine
end
